-- ==== Sys2Proof/Word.lean ====
section
/-!
DEFINITION. The word types of the ZK7440 model: bytes, 32-bit words, sparse tables.
-/
namespace Sys2Proof

/-- One byte. -/
abbrev Byte := BitVec 8

/-- A byte string, byte 0 first. -/
abbrev Bytes := List Byte

/-- A BAR0 doubleword and a Tsuow register are 32 bits (R58, R459). -/
abbrev Word := BitVec 32

/-- A sparse table: (key, value) pairs, keys strictly rising.  A key that is not listed reads as the table's default. -/
abbrev Tab (α : Type) := List (Nat × α)

/-- A dictionary object: index × 256 + subindex (R35). -/
abbrev ObjId := Nat

/-- Nanoseconds of the model's own clock. -/
abbrev Time := Nat

end Sys2Proof
end

