-- ==== Sys2Proof/Syntax.lean ====
section
/-!
DEFINITION. The commands of the ZK7440 model, one constructor per row of the table of operations and events,
with the operands each row takes from outside: the bytes of a packet or datagram, the words a host read returned,
the value written, the unit, pair, circuit or entry the event names, and whether the hardware of the unit failed.
-/
namespace Sys2Proof

/-- Who makes a dictionary access: the PCIe window, an open OAP session (its slot and the request's REQ_ID),
or the supervisor firmware (R39). -/
inductive Caller where
  | window
  | session (slot reqId : Nat)
  | supervisor
deriving DecidableEq, Repr

/-- What the gauge measures (R627, R628, R633): the slack in 0.01 % at each point (MHz, mV, slack), the entropy dividers at
which the oscillator jitter meets the claim, and the predicted years in units of 0.1 year. -/
structure GaugeData where
  slack : List (Nat × Nat × Int)
  dividers : List Nat
  years : Nat
deriving DecidableEq, Repr

/-- What the hardware and the world outside answer while the dictionary server applies an access: whether flash takes a
programmed chunk, whether the memories pass BIST, the PHY frames not completed, the levels of the GPIO pins, and what the gauge
measures (R575, R606, R628, R672). -/
structure ApplyEnv where
  flashOk : Bool
  bistPass : Bool
  mdioErrs : Nat
  gpio : Nat
  gauge : GaugeData
deriving DecidableEq, Repr

/-- What a write that has no row of its own addresses: a BAR0 doubleword, or a dictionary object (R8). -/
inductive WriteTarget where
  | bar0 (offset : Nat) (v : Word)
  | object (by_ : Caller) (index sub : Nat) (data : Bytes) (env : ApplyEnv)
deriving DecidableEq, Repr

/-- An Ethernet frame that arrives at the management port (R63): its octets from the destination address to the FCS, whether the FCS is
good, and its length/type field (0x86DD IPv6, 0x8100 a VLAN tag, 0x8808 a pause frame). -/
structure MacFrame where
  length : Nat
  fcsOk : Bool
  type_ : Nat
deriving DecidableEq, Repr

/-- A debug instruction of the TAP (R577, R579): its opcode, the address and the bytes shifted into its data register. -/
structure DebugOp where
  code : Nat
  addr : Nat
  data : Bytes
deriving DecidableEq, Repr

/-- A datagram as the management port receives it: its frame, what the layers of R64 found, its IPv6 addresses, its UDP ports, and its
payload. -/
structure Datagram where
  frame : MacFrame
  extHeader : Bool
  checksumOk : Bool
  srcAddr : Nat
  dstAddr : Nat
  srcPort : Nat
  dstPort : Nat
  payload : Bytes
deriving DecidableEq, Repr

/-- The kinds of host-memory access a pair makes (R174). -/
inductive HostAccess where
  | poll
  | input (entry : Nat)
  | output (entry : Nat)
  | completion (entry : Nat)
  | record
  | stage
deriving DecidableEq, Repr

/-- A unit that a level-2 tamper response or a fence can name (R527, R636). -/
inductive UnitRef where
  | slice (n : Nat)
  | requester (n : Nat)
  | digest (n : Nat)
  | pipe (n : Nat)
  | ring (pair : Nat)
  | cell (n : Nat)
  | none_
deriving DecidableEq, Repr

/-- What cast-on finds outside the digital state (R595): how many start-up tests of the entropy source fail, whether the last
record of the archive journal is cut short and at which record a tag fails, the regulator's LINEAR16 exponent (none: another
VOUT_MODE), the units that fail their known-answer tests, the patch types that fail to load, whether the copies of steps B and
C read back, the length of the last copy, the records as trial firmware of another settings format converts them (none: it
cannot read the old format), what the gauge measures, the PHY frames not completed, and whether the flash's SFDP tables offer
8D-8D-8D mode (R668). -/
structure CastEnv where
  rngFails : Nat
  torn : Bool
  bad : Option Nat
  exponent : Option Int
  katFails : List UnitRef
  badPatches : List Nat
  copyB : Bool
  copyC : Bool
  copyMs : Nat
  conv : Option (List (Nat × Nat))
  gauge : GaugeData
  mdioErrs : Nat
  octal : Bool
deriving DecidableEq, Repr

/-- A request that a requester raises at a bench port in one cycle: a burst of `beats` 64-byte beats from a fabric
address, for an in-flight entry (0xFFFF_FFFF: none), or without one for a ring pair or a circuit (0xFFFF: none) (R203, R204). -/
structure BenchReq where
  requester : Nat
  beats : Nat
  addr : Nat
  write : Bool
  entry : Nat
  pair : Nat
  circuit : Nat
deriving DecidableEq, Repr

/-- A break that comes between two elements of a string, gather or scatter: after how many elements, and whether it is
BUDGET or an interrupt (R471, R484). -/
structure ElemBreak where
  after : Nat
  budget : Bool
deriving DecidableEq, Repr

/-- The commands. -/
inductive Instr where
  /-- REGISTER_WRITE (R8): A write to a BAR0 register or dictionary object that has no row of its own sets the value under its access code and checks. -/
  | registerWrite (t : WriteTarget)
  /-- DWIN_READ (R60): DWIN_CMD with OP READ queues a read of the addressed object with the window's roles. -/
  | dwinRead
  /-- DWIN_WRITE (R58): DWIN_CMD with OP WRITE queues a write of DWIN_DATA to the addressed object with the window's roles. -/
  | dwinWrite (len : Nat)
  /-- DWIN_READ_BLOCK (R79): DWIN_CMD with OP READ_BLOCK returns one segment of a block read from DWIN_OFFSET. -/
  | dwinReadBlock
  /-- DWIN_WRITE_BLOCK (R81): DWIN_CMD with OP WRITE_BLOCK delivers one segment of a block write to the window's open block. -/
  | dwinWriteBlock (len : Nat)
  /-- DWIN_WRITE_BLOCK_LAST (R83): DWIN_CMD with OP WRITE_BLOCK_LAST delivers the last segment and writes the object if the lengths agree. -/
  | dwinWriteBlockLast (len : Nat)
  /-- DWIN_NTF_POP (R61): A write to DWIN_NTF_POP removes the oldest queued notification of the window. -/
  | dwinNtfPop (v : Word)
  /-- DICT_ACCESS_APPLY (R9): The dictionary server takes the next queued access in order of arrival, checks it under R673 and applies a plain read or write. -/
  | dictAccessApply (env : ApplyEnv)
  /-- QUORUM_EXPIRY (R556): Five minutes after the first approval the pending critical act and its approvals are discarded. -/
  | quorumExpiry
  /-- DICT_STORE (R53): A write of 1 to DICT_STORE starts writing the live stored settings into the area not in use. -/
  | dictStore (c : Caller) (data : Bytes)
  /-- STORE_WRITE_DONE (R53): The settings area has been erased, programmed and read back, or has failed or passed 10 s, and DICT_STORE_STATE reads DONE or FAILED. -/
  | storeWriteDone (ok : Bool)
  /-- DICT_STORE_STATE_READ (R54): The first read of DICT_STORE_STATE after a failed store ends STORE_FAIL and consumes the one-time report. -/
  | dictStoreStateRead (c : Caller)
  /-- DICT_RESTORE_DEFAULTS (R56): Once the quorum is met, every stored setting takes its ROM default without writing flash. -/
  | dictRestoreDefaults (c : Caller) (data : Bytes)
  /-- DICT_DESCRIBE (R47): A write of an index and subindex makes DICT_DESCRIPTION of the caller return that object's descriptor. -/
  | dictDescribe (c : Caller) (data : Bytes)
  /-- DICT_OAP_LOCK (R57): A write of 1 locks DICT_OAP_PORT until reset. -/
  | dictOapLock (c : Caller) (data : Bytes)
  /-- OAP_ENABLE_WRITE (R65): A write of 0 to DICT_OAP_ENABLE closes every session and discards OAP datagrams. -/
  | oapEnableWrite (c : Caller) (data : Bytes)
  /-- PRINCIPAL_ENROL_WRITE (R553): A write of a DICT_PRN_ enrolment object changes the principal's enrolment and closes its sessions. -/
  | principalEnrolWrite (c : Caller) (p sub : Nat) (data : Bytes)
  /-- OAP_READ (R68): An arriving READ datagram is checked and authenticated and its read is queued for the dictionary server. -/
  | oapRead (d : Datagram)
  /-- OAP_WRITE (R77): An arriving WRITE datagram is checked and its write queued, or its stored response resent for a repeated REQ_ID. -/
  | oapWrite (d : Datagram)
  /-- OAP_READ_BLOCK (R79): An arriving READ_BLOCK datagram requests one segment of a block read. -/
  | oapReadBlock (d : Datagram)
  /-- OAP_WRITE_BLOCK (R81): An arriving WRITE_BLOCK datagram delivers one segment, and with LAST writes the object. -/
  | oapWriteBlock (d : Datagram)
  /-- SESSION_G1 (R71): An arriving SESSION_G1 fragment joins a management-mode G1 and starts the responder steps when complete. -/
  | sessionG1 (d : Datagram)
  /-- SESSION_G3 (R72): An arriving SESSION_G3 completes the set-up if the principal's keys and signatures verify, opening the session. -/
  | sessionG3 (d : Datagram)
  /-- CLOSE (R75): An arriving CLOSE closes the session and destroys its keys. -/
  | close (d : Datagram)
  /-- OAP_SETUP_TIMEOUT (R73): A set-up not completed within 2 s of its first SESSION_G1 is discarded. -/
  | oapSetupTimeout (slot : Nat)
  /-- OAP_IDLE_TIMEOUT (R75): A session with no accepted message for DICT_OAP_IDLE_TIMEOUT closes. -/
  | oapIdleTimeout (slot : Nat)
  /-- OAP_MAX_LIFE (R75): A session reaching DICT_OAP_MAX_LIFE closes regardless of activity. -/
  | oapMaxLife (slot : Nat)
  /-- NOTIFY (R84): The device sends NOTIFY with the latest value of a changed subscribed object, at most once per 100 ms per object and session. -/
  | notify (slot : Nat) (obj : ObjId) (gpio : Nat)
  /-- ICMPV6_ECHO (R64): An ICMPv6 echo request on the management port is answered. -/
  | icmpv6Echo (d : Datagram)
  /-- NEIGHBOUR_DISCOVERY (R64): A neighbour discovery message on the management port is handled. -/
  | neighbourDiscovery (d : Datagram)
  /-- MG_PHY_CONFIG_WRITE (R672): A write of a management PHY object leads to the PLCA settings being written to the PHY over MDIO within 10 ms. -/
  | mgPhyConfigWrite (c : Caller) (sub : Nat) (data : Bytes) (errs : Nat)
  /-- TENANT_CREATE (R116): A write of 1 makes an ABSENT tenant ACTIVE with zero counters and a disabled ring pair. -/
  | tenantCreate (c : Caller) (t : Nat) (data : Bytes)
  /-- TENANT_DELETE (R119): A write of 1 sets the tenant DELETING and runs the deletion steps to ABSENT. -/
  | tenantDelete (c : Caller) (t : Nat) (data : Bytes)
  /-- TENANT_FENCE_SET (R113): A write of 1 to TENANT_FENCE fences the tenant with cause OPERATOR. -/
  | tenantFenceSet (c : Caller) (t : Nat)
  /-- TENANT_UNFENCE (R114): A write of 0 to TENANT_FENCE unfences the tenant and clears its refusals. -/
  | tenantUnfence (c : Caller) (t : Nat)
  /-- TENANT_QUOTA_WRITE (R118): A write of a tenant quota caps further admission or allocation without withdrawing holdings. -/
  | tenantQuotaWrite (c : Caller) (t sub : Nat) (data : Bytes)
  /-- ISO_RULE_COMMIT (R99): A write of a class code applies the whole shadow of that class's region rules as one change. -/
  | isoRuleCommit (c : Caller) (data : Bytes)
  /-- RULE_CHANGE_APPLY (R96): A waiting retag or rule change is applied once every access that began before it has ended. -/
  | ruleChangeApply
  /-- ISO_TAG_QUERY (R122): A write of a fabric address makes ISO_TAG_RESULT report its granule's tag. -/
  | isoTagQuery (c : Caller) (data : Bytes)
  /-- RING_ENABLE_SET (R130): A write of 1 to RING_ENABLE resets the indexes and lap values and starts polling the pair. -/
  | ringEnableSet (c : Caller) (pair : Nat)
  /-- RING_DISABLE (R131): A write of 0 to RING_ENABLE stops polling, discards held entries and drains the pair. -/
  | ringDisable (c : Caller) (pair : Nat)
  /-- RING_GCTRL_RUN (R173): A write of RING_GCTRL.RUN stops or lets polling of every pair. -/
  | ringGctrlRun (v : Word)
  /-- RING_POLL (R141): A pair's poll interval expires and the ring manager reads its next submission entries into the prefetch buffer. -/
  | ringPoll (pair : Nat) (entries : List Bytes)
  /-- ADMISSION (R155): At a pair's turn, its head job is checked and admitted when entries, pages and quota room are free. -/
  | admission (pair : Nat)
  /-- STARVE_LIMIT_EXPIRY (R162): A head job waiting longer than RING_STARVE_LIMIT for pool pages has released pages held for it. -/
  | starveLimitExpiry (pair : Nat)
  /-- INBOUND_DMA_COMPLETE (R179): Inbound DMA finishes copying a job's input and the job joins its slice class's queue. -/
  | inboundDmaComplete (entry : Nat) (data : Bytes)
  /-- DISPATCH (R179): The dispatcher gives the job at the head of a class queue an idle slice, waking one if needed. -/
  | dispatch (cls : Nat)
  /-- JOB_COMPLETE (R167): A job ends and outbound DMA writes its output and then its completion record. -/
  | jobComplete (entry : Nat)
  /-- COAL_DELAY_EXPIRY (R171): RING_COAL_DELAY passes after the first unsignalled record and the vector is raised. -/
  | coalDelayExpiry (pair : Nat)
  /-- HOST_MEMORY_ERROR (R174): A host-memory access of a pair ends in error and puts the pair in FAULT. -/
  | hostMemoryError (pair : Nat) (a : HostAccess)
  /-- RING_FETCH_TIMEOUT (R643): A host-memory read not complete at ERR_RING_FETCH is treated as a host-memory error. -/
  | ringFetchTimeout (pair : Nat) (a : HostAccess)
  /-- PCIE_LINK_RESET (R175): A function-level reset, PERST_N or link-down disables every pair, stops host jobs and resets ring and window registers. -/
  | pcieLinkReset
  /-- JOB_NOP (R170): Command NOP 0x0FF1 completes OK in its pair's order. -/
  | jobNop (pair : Nat)
  /-- ABORT (R214): Command ABORT 0x0FF0 ends its target job as the target's state requires. -/
  | abort (pair : Nat)
  /-- ABORT_SCRUB (R215): An ended job's pages are overwritten with DRBG output and zero, tagged 0xFFFF and freed before its record. -/
  | abortScrub (entry : Nat)
  /-- SCRUB_TAKEOVER (R216): The first slice to become idle takes over a pending or interrupted page scrub. -/
  | scrubTakeover (slice : Nat)
  /-- STAGE (R606): Command STAGE 0x0FF2 on a management ring programmes one update chunk into staging. -/
  | stage (pair : Nat) (data : Bytes) (ok : Bool)
  /-- SEGMENT_YIELD (R196): A segmented job reaches YIELD, advances its progress count, and is parked or continues. -/
  | segmentYield (entry : Nat)
  /-- JOB_RESUME (R200): A parked job given a slice unseals its resume pages and continues, or ends on a bad tag. -/
  | jobResume (entry : Nat) (tagOk : Bool)
  /-- SLICE_REINIT_COMPLETE (R192): A re-initialised slice finishes its initialisation and returns to the pool. -/
  | sliceReinitComplete (slice : Nat)
  /-- BENCH_REQUEST (R205): A requester's burst request at a bench is granted, preempts or receives BACKOFF. -/
  | benchRequest (bench cycle : Nat) (reqs : List BenchReq)
  /-- BENCH_WDOG_BITE (R213): A burst holding its port reaches ARB_WDOG; the port is released and the requester fenced. -/
  | benchWdogBite (bench : Nat)
  /-- ARB_MODE_APPLY (R210): A bench's new ARB_MODE takes effect at its first cycle with no burst in progress or pending. -/
  | arbModeApply (bench : Nat)
  /-- SLICE_WDOG_BITE (R641): A job exceeds its slice watchdog allowance and ends TIMEOUT. -/
  | sliceWdogBite (entry : Nat)
  /-- UNIT_WDOG_BITE (R642): A digest or key-manager job with input ready completes no block for 1 ms and ends TIMEOUT. -/
  | unitWdogBite (unit : Nat)
  /-- ML_KEM_KEYGEN (R242): Command 0x0101 generates an ML-KEM key pair, writing ek and placing d ‖ z in a new slot. -/
  | mlKemKeygen (entry : Nat) (fault : Bool)
  /-- ML_KEM_ENCAPS (R244): Command 0x0102 checks ek and encapsulates, writing c and placing or writing K. -/
  | mlKemEncaps (entry : Nat) (fault : Bool)
  /-- ML_KEM_DECAPS (R245): Command 0x0103 decapsulates c, delivering K or the implicit-rejection key. -/
  | mlKemDecaps (entry : Nat) (fault : Bool)
  /-- ML_KEM_CHECK (R246): Command 0x0107 runs the ek check only. -/
  | mlKemCheck (entry : Nat)
  /-- ML_DSA_KEYGEN (R247): Command 0x0201 generates an ML-DSA key, writing pk and placing ξ in a new slot. -/
  | mlDsaKeygen (entry : Nat) (fault : Bool)
  /-- ML_DSA_SIGN (R250): Command 0x0204 signs the message representative and releases the verified signature. -/
  | mlDsaSign (entry : Nat) (fault : Bool)
  /-- ML_DSA_VERIFY (R253): Command 0x0205 verifies an ML-DSA signature and ends OK or VERIFY_FAIL. -/
  | mlDsaVerify (entry : Nat) (fault : Bool)
  /-- SLH_DSA_KEYGEN (R268): Command 0x0301 generates an SLH-DSA key into a new slot and writes pk. -/
  | slhDsaKeygen (entry : Nat) (fault : Bool)
  /-- SLH_DSA_SIGN (R271): Command 0x0304 signs with SLH-DSA and releases the verified signature. -/
  | slhDsaSign (entry : Nat) (fault : Bool)
  /-- SLH_DSA_VERIFY (R271): Command 0x0305 verifies an SLH-DSA signature. -/
  | slhDsaVerify (entry : Nat) (fault : Bool)
  /-- STATEFUL_KEYGEN (R284): Command 0x0401 generates a stateful hash-signature key with its BBRAM record and node cache. -/
  | statefulKeygen (entry : Nat) (fault : Bool)
  /-- STATEFUL_SIGN (R281): Command 0x0404 reserves and commits the next index and signs with it. -/
  | statefulSign (entry : Nat) (fault : Bool)
  /-- STATEFUL_VERIFY (R288): Command 0x0405 verifies an LMS, HSS, XMSS or XMSS^MT signature. -/
  | statefulVerify (entry : Nat) (fault : Bool)
  /-- STATEFUL_REBUILD (R286): After DEVICE_READY or a restore, internal rebuild jobs recompute each stateful key's node cache. -/
  | statefulRebuild (entry : Nat) (rootMatches : Bool)
  /-- CODE_KEM_KEYGEN (R295): Command 0x0501 generates a Classic McEliece or HQC key pair. -/
  | codeKemKeygen (entry : Nat) (fault : Bool)
  /-- CODE_KEM_ENCAPS (R294): Command 0x0502 encapsulates to a code-KEM public key. -/
  | codeKemEncaps (entry : Nat) (fault : Bool)
  /-- CODE_KEM_DECAPS (R297): Command 0x0503 decapsulates with implicit rejection. -/
  | codeKemDecaps (entry : Nat) (fault : Bool)
  /-- ECC_KEYGEN (R309): Command 0x0601 generates a curve key pair into a new slot. -/
  | eccKeygen (entry : Nat) (fault : Bool)
  /-- ECC_SIGN (R313): Command 0x0604 makes an ECDSA or EdDSA signature and verifies it before release. -/
  | eccSign (entry : Nat) (fault : Bool)
  /-- ECC_VERIFY (R305): Command 0x0605 verifies an ECDSA or EdDSA signature. -/
  | eccVerify (entry : Nat) (fault : Bool)
  /-- ECC_AGREE (R307): Command 0x0606 computes an ECDH, X25519 or X448 shared secret. -/
  | eccAgree (entry : Nat) (fault : Bool)
  /-- ECC_CHECK (R303): Command 0x0607 validates a Weierstrass or Edwards public key. -/
  | eccCheck (entry : Nat)
  /-- RSA_KEYGEN (R325): Command 0x0701 generates an RSA key pair in segments. -/
  | rsaKeygen (entry : Nat) (fault : Bool)
  /-- RSA_SIGN (R322): Command 0x0704 signs with an RSA private key. -/
  | rsaSign (entry : Nat) (fault : Bool)
  /-- RSA_VERIFY (R322): Command 0x0705 verifies an RSA signature. -/
  | rsaVerify (entry : Nat) (fault : Bool)
  /-- RSA_ENCRYPT (R322): Command 0x0708 encrypts with an RSA public key. -/
  | rsaEncrypt (entry : Nat) (fault : Bool)
  /-- RSA_DECRYPT (R324): Command 0x0709 decrypts with an RSA private key. -/
  | rsaDecrypt (entry : Nat) (fault : Bool)
  /-- OPEN (R372): Command 0x0810 opens a digest context and reports its number. -/
  | openCtx (entry : Nat)
  /-- ABSORB (R376): Command 0x0811 absorbs data into a digest context. -/
  | absorb (entry : Nat)
  /-- FINISH_FINAL (R373): FINISH 0x0812 with OP FINAL ends the message and delivers the result to host, slot or register. -/
  | finishFinal (entry : Nat)
  /-- FINISH_READ (R375): FINISH 0x0812 with OP READ delivers from a finished context, or ends EARLY_READ. -/
  | finishRead (entry : Nat)
  /-- ONESHOT (R371): Command 0x0813 hashes a whole message and returns the result. -/
  | oneshot (entry : Nat)
  /-- DERIVE (R384): Command 0x0814 derives a key by HKDF, KMAC-KDF or counter mode. -/
  | deriveKey (entry : Nat)
  /-- EXTEND (R387): Command 0x0815 extends a measurement register. -/
  | extend (entry : Nat)
  /-- SAVE_CTX (R379): Command 0x0816 writes a context blob and makes the number SAVED. -/
  | saveCtx (entry : Nat)
  /-- LOAD_CTX (R382): Command 0x0817 restores a SAVED context from its blob. -/
  | loadCtx (entry : Nat)
  /-- DIGEST_QUANTUM_END (R369): A digest unit finishes DIG_QUANTUM blocks of a job and turns to the next ready job. -/
  | digestQuantumEnd (unit : Nat)
  /-- IMPORT_WRAPPED (R346): Command 0x0920 opens a wrapped blob into a new slot. -/
  | importWrapped (entry : Nat)
  /-- EXPORT_WRAPPED (R347): Command 0x0921 writes a slot as a wrapped blob. -/
  | exportWrapped (entry : Nat)
  /-- DELETE (R348): Command 0x0922 with ACTION 0 erases and frees a slot or LKS entry. -/
  | delete (entry : Nat)
  /-- PERSIST (R348): Command 0x0922 with ACTION 1 sets PERSIST and commits an archive record. -/
  | persist (entry : Nat)
  /-- UNPERSIST (R348): Command 0x0922 with ACTION 2 clears PERSIST and commits an archive record. -/
  | unpersist (entry : Nat)
  /-- IMPORT_PUBLIC (R349): Command 0x0923 validates a public key into a PUBLIC slot or LKS entry. -/
  | importPublic (entry : Nat)
  /-- ATTEST (R350): Command 0x0924 signs a statement about a slot with the attestation keys. -/
  | attest (entry : Nat) (fault : Bool)
  /-- GENERATE (R525): Command 0x0A30 writes random bytes from instance 41. -/
  | generate (entry : Nat)
  /-- SERVICE_CALL (R497): Command 0x0C00 + e starts entry e of a service cell in user mode. -/
  | serviceCall (entry : Nat)
  /-- KEY_EXPIRY (R334): A slot's EXPIRY passes and it becomes RETIRED or EMPTY. -/
  | keyExpiry (handle : Nat)
  /-- MASK_REFRESH (R338): After 10 ms or the 2^20-th access a slot's mask is refreshed under a new seed. -/
  | maskRefresh (handle : Nat)
  /-- ERASE_OVERWRITE_DONE (R340): The erasure overwrite ends and new keys are drawn with every entry EMPTY. -/
  | eraseOverwriteDone
  /-- ARCHIVE_COMMIT_DONE (R358): An appended archive record is written and read back and its effect counts. -/
  | archiveCommitDone
  /-- ARCHIVE_COMPACT (R359): The archive is compacted when 75 % full, when KREG_ARCH_COMPACT_MAX elapses, or on KREG_ARCH_COMPACT. -/
  | archiveCompact (w : Option (Caller × Bytes))
  /-- KREG_ARCH_INIT (R360): A write of 1 draws a new KEK and starts an empty archive. -/
  | kregArchInit (c : Caller) (data : Bytes)
  /-- ARCHIVE_RESTORE (R360): The key archive is restored at C5 or after a level-4 release, and ends RESTORED, DAMAGED, HELD or UNUSABLE. -/
  | archiveRestore (torn : Bool) (bad : Option Nat)
  /-- KREG_FILL_START (R352): A write of 1 allocates a LOADING slot and starts an officer-card key fill. -/
  | kregFillStart (c : Caller) (data : Bytes)
  /-- FILL_TIMEOUT (R353): Five minutes after the start an incomplete fill ends FAILED. -/
  | fillTimeout
  /-- PKE_LAT_LOCK (R261): A write of 1 locks PKE_LAT_SHARES_MIN and PKE_SS_CLEAR. -/
  | pkeLatLock (c : Caller) (data : Bytes)
  /-- DIG_MEAS_OWNER_WRITE (R388): A write sets the owner of a measurement register while it reads zero. -/
  | digMeasOwnerWrite (c : Caller) (reg : Nat) (data : Bytes)
  /-- SP_ENABLE_SET (R393): A write of 1 to SP_ENABLE starts port training. -/
  | spEnableSet (by_ : Caller) (port : Nat)
  /-- SP_DISABLE (R394): A write of 0 to SP_ENABLE takes the port out of UP. -/
  | spDisable (by_ : Caller) (port : Nat)
  /-- PORT_UP (R393): A port completes training and alignment and becomes UP. -/
  | portUp (port : Nat)
  /-- PORT_ALIGN_LOSS (R394): A lane loses lock or alignment; packets in process are discarded. -/
  | portAlignLoss (port : Nat) (unlocked : BitVec 8)
  /-- SP_C_BIND (R408): A tenant number written to an unbound SP_C_TENANT binds the circuit. -/
  | spCBind (by_ : Caller) (circuit tenant : Nat)
  /-- SP_C_UNBIND (R409): A write of 0xFFFF to SP_C_TENANT unbinds the circuit and erases its keys. -/
  | spCUnbind (by_ : Caller) (circuit : Nat)
  /-- SP_C_CONFIG_WRITE (R410): A changing write of a circuit transform object erases every key of the circuit. -/
  | spCConfigWrite (by_ : Caller) (circuit sub : Nat) (data : Bytes)
  /-- SP_C_ZEROISE (R411): A write of 1 erases every key of the circuit. -/
  | spCZeroise (by_ : Caller) (circuit : Nat) (data : Bytes)
  /-- PROTECT (R415): A PROTECT packet is checked, sequenced and encrypted under the TX current key. -/
  | protect (port channel : Nat) (packet : Bytes)
  /-- VALIDATE (R416): A VALIDATE packet is checked, sequenced and authenticated and decrypted under an RX key. -/
  | validate (port channel : Nat) (packet : Bytes)
  /-- GRAFT_IN (R440): A GRAFT_IN packet carries one graft fragment into its circuit's assembly. -/
  | graftIn (port channel : Nat) (packet : Bytes)
  /-- PIPELINE_DONE (R400): A cipher pipeline finishes a packet and its output or STATUS leaves in sequence-point order. -/
  | pipelineDone (circuit id : Nat) (mismatch : Bool)
  /-- RX_HOLD_EXPIRY (R426): A retired key's hold ends and its slot is erased. -/
  | rxHoldExpiry (circuit : Nat)
  /-- LINK_KEY_UNUSABLE (R428): A circuit key reaches its hard lifetime and the circuit switches or becomes BLOCKED. -/
  | linkKeyUnusable (circuit : Nat)
  /-- FLOW_CONTROL_WORD (R404): A received calendar entry sets XOFF or XON of a class from the framer. -/
  | flowControlWord (port cls : Nat) (xoff : Bool)
  /-- FC_STALL_EXPIRY (R407): A class held at XOFF beyond SP_FC_STALL has its waiting packets discarded. -/
  | fcStallExpiry (port cls : Nat)
  /-- GRAFT_PERIOD_EXPIRY (R448): GR_C_PERIOD elapses since the last TX switch or binding and triggers an exchange. -/
  | graftPeriodExpiry (circuit : Nat)
  /-- GR_C_REKEY (R448): A write of 1 triggers an exchange on the circuit. -/
  | grCRekey (by_ : Caller) (circuit : Nat) (data : Bytes)
  /-- GRAFT_TRIGGER_START (R447): A trigger in a quiet state draws XID and N_I and starts the initiator steps. -/
  | graftTriggerStart (circuit : Nat)
  /-- GRAFT_G1_RECEIVED (R447): A complete G1 is accepted and the responder steps run, or a collision is resolved. -/
  | graftG1Received (circuit : Nat)
  /-- GRAFT_G2_RECEIVED (R444): A complete G2 is verified and the initiator runs DECAPS and AGREE. -/
  | graftG2Received (circuit : Nat)
  /-- GRAFT_G3_RECEIVED (R445): A complete G3 is verified and confirmed and the responder installs and arms its keys. -/
  | graftG3Received (circuit : Nat)
  /-- GRAFT_STEPS_DONE (R447): The internal jobs of an exchange stage end and the driver builds and sends the next message or installs keys. -/
  | graftStepsDone (circuit : Nat)
  /-- GRAFT_OUT_FRAGMENT (R439): A graft message fragment is emitted as a GRAFT_OUT packet. -/
  | graftOutFragment (circuit : Nat)
  /-- GRAFT_RETRY_TIMEOUT (R447): The initiator's retry timer expires and G1 is resent or the exchange fails. -/
  | graftRetryTimeout (circuit : Nat)
  /-- GRAFT_RESPONDER_TIMEOUT (R447): The responder's timer expires without G3 and it fails, starting as initiator if allowed. -/
  | graftResponderTimeout (circuit : Nat)
  /-- GRAFT_ARM_DELAY_EXPIRY (R447): GR_C_ARM_DELAY expires in CONFIRMING and the next TX key is armed. -/
  | graftArmDelayExpiry (circuit : Nat)
  /-- GRAFT_SWITCH_DELAY_EXPIRY (R447): GR_C_SWITCH_DELAY expires in ARMED and the TX switch is commanded. -/
  | graftSwitchDelayExpiry (circuit : Nat)
  /-- GRAFT_RETRY_PAUSE_EXPIRY (R449): GR_RETRY_PAUSE ends after a failure and held or persisting triggers start a new exchange. -/
  | graftRetryPauseExpiry (circuit : Nat)
  /-- FRAGMENT_ASSEMBLY_TIMEOUT (R441): A partial message is discarded GR_C_RETRY_TIMEOUT after its first fragment. -/
  | fragmentAssemblyTimeout (circuit : Nat)
  /-- GRAFT_BUFFER_FREED (R443): Buffer pages are freed and a trigger waiting for them starts its exchange. -/
  | graftBufferFreed (circuit : Nat)
  /-- ADD (R469): OP 0x01 FN 0 adds two registers and sets flags. -/
  | add (rd rs1 rs2 : BitVec 4)
  /-- SUB (R469): OP 0x01 FN 1 subtracts and sets flags. -/
  | sub (rd rs1 rs2 : BitVec 4)
  /-- AND (R469): OP 0x01 FN 2 bitwise AND. -/
  | and (rd rs1 rs2 : BitVec 4)
  /-- OR (R469): OP 0x01 FN 3 bitwise OR. -/
  | or (rd rs1 rs2 : BitVec 4)
  /-- XOR (R469): OP 0x01 FN 4 bitwise XOR. -/
  | xor (rd rs1 rs2 : BitVec 4)
  /-- SHL (R469): OP 0x01 FN 5 shift left. -/
  | shl (rd rs1 rs2 : BitVec 4)
  /-- SHR (R469): OP 0x01 FN 6 logical shift right. -/
  | shr (rd rs1 rs2 : BitVec 4)
  /-- SAR (R469): OP 0x01 FN 7 arithmetic shift right. -/
  | sar (rd rs1 rs2 : BitVec 4)
  /-- MUL (R469): OP 0x01 FN 8 low 32 bits of a product. -/
  | mul (rd rs1 rs2 : BitVec 4)
  /-- MULHU (R469): OP 0x01 FN 9 high unsigned product. -/
  | mulhu (rd rs1 rs2 : BitVec 4)
  /-- MULHS (R469): OP 0x01 FN 10 high signed product. -/
  | mulhs (rd rs1 rs2 : BitVec 4)
  /-- CMP (R469): OP 0x01 FN 11 sets flags from RS1 − RS2. -/
  | cmp (rs1 rs2 : BitVec 4)
  /-- ADDC (R469): OP 0x01 FN 12 add with carry. -/
  | addc (rd rs1 rs2 : BitVec 4)
  /-- SUBC (R469): OP 0x01 FN 13 subtract with borrow. -/
  | subc (rd rs1 rs2 : BitVec 4)
  /-- ADDI (R469): OP 0x02 adds a signed immediate. -/
  | addi (rd rs1 : BitVec 4) (imm : BitVec 18)
  /-- ORI (R469): OP 0x03 ORs a zero-extended immediate. -/
  | ori (rd rs1 : BitVec 4) (imm : BitVec 18)
  /-- XORI (R469): OP 0x04 XORs a zero-extended immediate. -/
  | xori (rd rs1 : BitVec 4) (imm : BitVec 18)
  /-- ANDI (R469): OP 0x05 ANDs a zero-extended immediate. -/
  | andi (rd rs1 : BitVec 4) (imm : BitVec 18)
  /-- LHI (R469): OP 0x06 loads an immediate shifted left by 14. -/
  | lhi (rd : BitVec 4) (imm : BitVec 18)
  /-- CMPI (R469): OP 0x07 sets flags from RS1 − IMM18. -/
  | cmpi (rs1 : BitVec 4) (imm : BitVec 18)
  /-- LD (R466): OP 0x08 loads a word from D-space. -/
  | ld (rd rs1 : BitVec 4) (imm : BitVec 18)
  /-- LDH (R469): OP 0x09 loads a halfword from D-space. -/
  | ldh (rd rs1 : BitVec 4) (imm : BitVec 18)
  /-- LDB (R469): OP 0x0A loads a byte from D-space. -/
  | ldb (rd rs1 : BitVec 4) (imm : BitVec 18)
  /-- ST (R469): OP 0x0B stores a word to D-space. -/
  | st (rd rs1 : BitVec 4) (imm : BitVec 18)
  /-- STH (R469): OP 0x0C stores a halfword. -/
  | sth (rd rs1 : BitVec 4) (imm : BitVec 18)
  /-- STB (R469): OP 0x0D stores a byte. -/
  | stb (rd rs1 : BitVec 4) (imm : BitVec 18)
  /-- LDI (R462): OP 0x0E loads a word from I-space. -/
  | ldi (rd rs1 : BitVec 4) (imm : BitVec 18)
  /-- BR (R469): OP 0x10 branches if its condition holds. -/
  | br (cond : BitVec 4) (off : BitVec 22)
  /-- JMP (R469): OP 0x11 jumps by an offset. -/
  | jmp (off : BitVec 26)
  /-- CALL (R469): OP 0x12 jumps and writes the return address to g14. -/
  | call (off : BitVec 26)
  /-- JR (R469): OP 0x13 FN 0 jumps to a register. -/
  | jr (rs1 : BitVec 4)
  /-- CALLR (R469): OP 0x13 FN 1 calls through a register. -/
  | callr (rs1 : BitVec 4)
  /-- BRPT (R473): OP 0x14 starts a block repeat of the following body. -/
  | brpt (rs1 : BitVec 4) (imm : BitVec 18)
  /-- BLOCK_REPEAT_END (R473): Completing the instruction at le decrements lc and loops back or ends the level. -/
  | blockRepeatEnd
  /-- BREND (R474): OP 0x15 ends the innermost repeat level. -/
  | brend
  /-- IN (R464): OP 0x18 reads an I/O port. -/
  | inPort (rd rs1 : BitVec 4) (imm : BitVec 18)
  /-- OUT (R464): OP 0x19 writes an I/O port. -/
  | outPort (rd rs1 : BitVec 4) (imm : BitVec 18)
  /-- MOVS (R470): String FN 0 copies elements. -/
  | movs (rpt : Bool) (sz : BitVec 2) (dir : Bool) (halt : BitVec 4) (brk : Option ElemBreak)
  /-- CMPS (R470): String FN 1 compares elements. -/
  | cmps (rpt : Bool) (sz : BitVec 2) (dir : Bool) (halt : BitVec 4) (brk : Option ElemBreak)
  /-- SCAS (R470): String FN 2 compares elements with g8. -/
  | scas (rpt : Bool) (sz : BitVec 2) (dir : Bool) (halt : BitVec 4) (brk : Option ElemBreak)
  /-- FILLS (R470): String FN 3 fills elements with g8. -/
  | fills (rpt : Bool) (sz : BitVec 2) (dir : Bool) (halt : BitVec 4) (brk : Option ElemBreak)
  /-- INS (R470): String FN 4 reads a port into memory. -/
  | ins (rpt : Bool) (sz : BitVec 2) (dir : Bool) (halt : BitVec 4) (brk : Option ElemBreak)
  /-- OUTS (R470): String FN 5 writes memory to a port. -/
  | outs (rpt : Bool) (sz : BitVec 2) (dir : Bool) (halt : BitVec 4) (brk : Option ElemBreak)
  /-- MFC (R461): OP 0x1C reads a control register. -/
  | mfc (rd : BitVec 4) (imm : BitVec 18)
  /-- MTC (R461): OP 0x1D writes a control register. -/
  | mtc (rs1 : BitVec 4) (imm : BitVec 18)
  /-- FEAT (R476): OP 0x1E reads a feature register. -/
  | feat (rd : BitVec 4) (imm : BitVec 18)
  /-- NOP (R469): OP 0x1F FN 0 does nothing. -/
  | nop
  /-- ERET (R487): OP 0x1F FN 2 returns from an exception. -/
  | eret
  /-- WFI (R469): OP 0x1F FN 3 waits for an interrupt in supervisor mode. -/
  | wfi
  /-- FENCE (R469): OP 0x1F FN 4 is the supervisor memory fence. -/
  | fence
  /-- SVC_EXIT (R499): SVC 0 ends the service call with a status and output. -/
  | svcExit
  /-- SVC_SUBMIT (R500): SVC 1 starts a sub-job from a descriptor in cell data. -/
  | svcSubmit
  /-- SVC_WAIT (R499): SVC 2 blocks until the sub-job ends. -/
  | svcWait
  /-- SVC_YIELD (R499): SVC 3 ends the cell's current quantum. -/
  | svcYield
  /-- SUBJOB_COMPLETE (R500): A service sub-job ends and a WAITing cell resumes with its status. -/
  | subjobComplete (cell : Nat)
  /-- VLD (R482): VM FN 0 loads a 64-byte vector. -/
  | vld (vd : BitVec 3) (rs : BitVec 4) (k : BitVec 3) (ew : BitVec 2) (z : Bool)
  /-- VST (R482): VM FN 1 stores a 64-byte vector. -/
  | vst (vs : BitVec 3) (rs : BitVec 4) (k : BitVec 3) (ew : BitVec 2)
  /-- VGATH (R483): VM FN 2 gathers elements by index. -/
  | vgath (vd : BitVec 3) (rs : BitVec 4) (vi k : BitVec 3) (ew : BitVec 2) (z : Bool) (brk : Option ElemBreak)
  /-- VSCAT (R483): VM FN 3 scatters elements by index. -/
  | vscat (vs : BitVec 3) (rs : BitVec 4) (vi k : BitVec 3) (ew : BitVec 2) (brk : Option ElemBreak)
  /-- VADD (R479): Vector add. -/
  | vadd (vd va vb k : BitVec 3) (ew : BitVec 2) (z : Bool)
  /-- VSUB (R479): Vector subtract. -/
  | vsub (vd va vb k : BitVec 3) (ew : BitVec 2) (z : Bool)
  /-- VMUL (R479): Vector multiply, low half. -/
  | vmul (vd va vb k : BitVec 3) (ew : BitVec 2) (z sgn : Bool)
  /-- VMULH (R479): Vector multiply, high half. -/
  | vmulh (vd va vb k : BitVec 3) (ew : BitVec 2) (z sgn : Bool)
  /-- VWMUL_LO (R479): Widening multiply of the lower source half. -/
  | vwmulLo (vd va vb k : BitVec 3) (ew : BitVec 2) (z sgn : Bool)
  /-- VWMUL_HI (R479): Widening multiply of the upper source half. -/
  | vwmulHi (vd va vb k : BitVec 3) (ew : BitVec 2) (z sgn : Bool)
  /-- VDOT4B (R479): Four-byte dot product into 32 bits. -/
  | vdot4b (vd va vb k : BitVec 3) (ew : BitVec 2) (z sgn : Bool)
  /-- VDOT2H (R479): Two-halfword dot product into 32 bits. -/
  | vdot2h (vd va vb k : BitVec 3) (ew : BitVec 2) (z sgn : Bool)
  /-- VDOT2HQ_LO (R479): Halfword dot product into 64 bits, lower sources. -/
  | vdot2hqLo (vd va vb k : BitVec 3) (ew : BitVec 2) (z sgn : Bool)
  /-- VDOT2HQ_HI (R479): Halfword dot product into 64 bits, upper sources. -/
  | vdot2hqHi (vd va vb k : BitVec 3) (ew : BitVec 2) (z sgn : Bool)
  /-- VMONT (R480): Vector Montgomery product modulo VQ. -/
  | vmont (vd va vb k : BitVec 3) (ew : BitVec 2) (z : Bool)
  /-- VAND (R479): Vector bitwise AND. -/
  | vand (vd va vb k : BitVec 3) (ew : BitVec 2) (z : Bool)
  /-- VOR (R479): Vector bitwise OR. -/
  | vor (vd va vb k : BitVec 3) (ew : BitVec 2) (z : Bool)
  /-- VXOR (R479): Vector bitwise XOR. -/
  | vxor (vd va vb k : BitVec 3) (ew : BitVec 2) (z : Bool)
  /-- VANDN (R479): Vector bitwise AND-NOT. -/
  | vandn (vd va vb k : BitVec 3) (ew : BitVec 2) (z : Bool)
  /-- VSHL (R479): Vector shift left. -/
  | vshl (vd va vb k : BitVec 3) (ew : BitVec 2) (z : Bool)
  /-- VSHR (R479): Vector logical shift right. -/
  | vshr (vd va vb k : BitVec 3) (ew : BitVec 2) (z : Bool)
  /-- VSAR (R479): Vector arithmetic shift right. -/
  | vsar (vd va vb k : BitVec 3) (ew : BitVec 2) (z : Bool)
  /-- VCMP_EQ (R469): Vector compare equal into a mask. -/
  | vcmpEq (kd va vb k : BitVec 3) (ew : BitVec 2) (z sgn : Bool)
  /-- VCMP_NE (R469): Vector compare not equal into a mask. -/
  | vcmpNe (kd va vb k : BitVec 3) (ew : BitVec 2) (z sgn : Bool)
  /-- VCMP_LT (R469): Vector compare less than into a mask. -/
  | vcmpLt (kd va vb k : BitVec 3) (ew : BitVec 2) (z sgn : Bool)
  /-- VCMP_LE (R469): Vector compare less or equal into a mask. -/
  | vcmpLe (kd va vb k : BitVec 3) (ew : BitVec 2) (z sgn : Bool)
  /-- VBCAST (R469): Broadcasts a general register to all elements. -/
  | vbcast (vd ra k : BitVec 3) (ew : BitVec 2) (z : Bool)
  /-- VEXTR (R469): Extracts one element into a general register. -/
  | vextr (rd va ix : BitVec 3) (ew : BitVec 2)
  /-- KMOV (R469): Loads a mask register from a register pair. -/
  | kmov (kd ra : BitVec 3)
  /-- KREAD (R469): Reads a mask register. -/
  | kread (rd ka : BitVec 3)
  /-- KAND (R469): Mask AND. -/
  | kand (kd ka kb : BitVec 3)
  /-- KOR (R469): Mask OR. -/
  | kor (kd ka kb : BitVec 3)
  /-- KXOR (R469): Mask XOR. -/
  | kxor (kd ka kb : BitVec 3)
  /-- KNOT (R469): Mask NOT. -/
  | knot (kd ka : BitVec 3)
  /-- INTERRUPT (R488): A supervisor interrupt is taken between instructions or elements. -/
  | interrupt
  /-- BUDGET (R502): A call's BUDGET reaches zero and the call ends TIMEOUT. -/
  | budget
  /-- SVC_QUANTUM_EXPIRY (R501): A cell's SVC_QUANTUM ends and the next ready cell runs. -/
  | svcQuantumExpiry
  /-- LOCKSTEP_MISMATCH (R490): The core pair disagrees, stops and takes the warm restart. -/
  | lockstepMismatch
  /-- MEMORY_ECC_ERROR (R491): A memory ECC error is corrected and counted, or is uncorrectable and gives S19 an event. -/
  | memoryEccError (memory : Nat) (uncorrectable : Bool) (reader : UnitRef)
  /-- WARM_RESTART_COMPLETE (R490): The warm-restart entry has checked the image and resumed the supervisor firmware. -/
  | warmRestartComplete
  /-- TSUOW_WDOG_BITE (R644): The supervisor fails to restart the Tsuow watchdog and the core pair takes a warm restart. -/
  | tsuowWdogBite
  /-- SVC_CELL_LOAD (R495): A write of 1 checks and verifies the staged image and loads it into the cell. -/
  | svcCellLoad (by_ : Caller) (cell : Nat) (data : Bytes)
  /-- SVC_CELL_RESET (R504): A write of 1 re-initialises the cell's data and sets it READY. -/
  | svcCellReset (by_ : Caller) (cell : Nat) (data : Bytes)
  /-- RNG_TEST_FAIL (R518): A health test fails while READY and the source enters FAILED. -/
  | rngTestFail (code group osc value : Nat)
  /-- RNG_STARTUP_DONE (R515): A start-up test passes and the 44 instances are instantiated; RNG_STATE READY. -/
  | rngStartupDone
  /-- RNG_RETEST (R520): 100 ms after FAILED the source runs a retest. -/
  | rngRetest
  /-- DRBG_RESEED (R512): A pending reseed request is served from the seed buffer. -/
  | drbgReseed
  /-- RNG_READ (R526): A read of RNG_READ returns 64 new bytes from instance 41. -/
  | rngRead (c : Caller)
  /-- ERR_RNG_REINIT (R520): A write of 1 re-runs the entropy start-up with three attempts. -/
  | errRngReinit (c : Caller) (data : Bytes)
  /-- TAMPER_EVENT (R531): A tamper source gives an event, counted in its window and confirming an alarm at N events. -/
  | tamperEvent (source : Nat) (u : UnitRef) (value : Nat) (fast : Bool)
  /-- SUPPLY_SAMPLE (R527): A supply ADC sample is taken and compared with the source windows. -/
  | supplySample (core sram io18 vbat : Nat) (temps : List Int)
  /-- MESH_SAMPLE (R534): A mesh pair's sensed bit is compared with its driven LFSR bit. -/
  | meshSample (pair : Nat) (sensed : Bool)
  /-- ZERO_N_PRESS (R532): ZERO_N held low for 3 s gives S16 one event. -/
  | zeroNPress
  /-- INPUT_STUCK (R533): An input active for 10 s is flagged STUCK and gives no further events. -/
  | inputStuck (source : Nat)
  /-- INPUT_CHATTER (R533): An input chattering for over 2 s is flagged CHATTER and its response applied once. -/
  | inputChatter (source : Nat)
  /-- HOLD_EXPIRY (R535): The 100 µs of a level-1 HOLD ends and slices start work again. -/
  | holdExpiry
  /-- ALARM_PIN_PULSE_END (R558): ALARM_N is released 1 ms after a lower-level alarm's pulse. -/
  | alarmPinPulseEnd
  /-- POWER_LOSS_DETECT (R620): A supply falls below its loss threshold within the window and held events are discarded. -/
  | powerLossDetect (core sram io18 vbat : Nat)
  /-- PDN_WINDOW_EXPIRY (R620): PWR_PDN_WINDOW ends without power loss and held supply events are counted. -/
  | pdnWindowExpiry
  /-- TAMPER_CFG_WRITE (R530): A write of TMP_SRC_CFG changes a source's configuration, as a critical act if less sensitive. -/
  | tamperCfgWrite (c : Caller) (src : Nat) (data : Bytes)
  /-- TMP_LOCK (R530): A write of 1 locks every source configuration until reset. -/
  | tmpLock (c : Caller) (data : Bytes)
  /-- TMP_RELEASE (R539): A write of the held level releases the held tamper response. -/
  | tmpRelease (c : Caller) (data : Bytes)
  /-- TMP_AON_CLEAR (R559): A write of 1 clears the AON latch and TMP_AON_LOST. -/
  | tmpAonClear (c : Caller) (data : Bytes)
  /-- TMP_QUORUM_CANCEL (R556): A write of 1 discards the pending critical act. -/
  | tmpQuorumCancel (c : Caller) (data : Bytes)
  /-- OFFICER_ENROL_WRITE (R553): A write of TMP_OFF_KEY_ID enrols or removes an officer. -/
  | officerEnrolWrite (c : Caller) (officer : Nat) (data : Bytes)
  /-- CARD_INSERT (R551): CD_PRES_N goes low and the card is activated for LOGIN. -/
  | cardInsert
  /-- CARD_REMOVE (R552): CD_PRES_N goes high; contacts deactivate and the session and any card operation end. -/
  | cardRemove
  /-- CARD_IDLE_TIMEOUT (R552): TMP_CARD_IDLE passes without a card operation and the session closes. -/
  | cardIdleTimeout
  /-- CARD_ATR (R548): The card's ATR arrives and T=1 communication is set up or the card is failed. -/
  | cardAtr (valid t1lrc : Bool)
  /-- CARD_SELECT (R549): The card answers SELECT of the officer application. -/
  | cardSelect (sw : Nat)
  /-- CARD_GET_KEYS (R551): The card returns its public keys and LOGIN proceeds. -/
  | cardGetKeys (sw : Nat) (data : Bytes)
  /-- CARD_SIGN (R550): The card returns signatures over a LOGIN, APPROVE or FILL statement. -/
  | cardSign (sw : Nat) (data : Bytes) (env : ApplyEnv)
  /-- CARD_GET_COMPONENT (R550): The card returns an encrypted key component that is decrypted into the fill slot. -/
  | cardGetComponent (sw : Nat) (data : Bytes)
  /-- LC_NONCE_NEW (R567): A write of 1 draws a new life-cycle nonce. -/
  | lcNonceNew (c : Caller) (data : Bytes)
  /-- NONCE_EXPIRY (R567): A nonce is discarded 30 minutes after it was drawn. -/
  | nonceExpiry
  /-- LC_APPLY (R569): A write of the request hash checks the life-cycle request and applies the transition at quorum. -/
  | lcApply (c : Caller) (data : Bytes)
  /-- LC_BIST (R575): A write of 1 runs memory BIST and resets. -/
  | lcBist (c : Caller) (data : Bytes) (pass : Bool)
  /-- LC_DBG_CHALLENGE_NEW (R580): A write of a scope creates a debug challenge. -/
  | lcDbgChallengeNew (c : Caller) (data : Bytes)
  /-- LC_DBG_OPEN (R582): A write of the token hash checks the token and opens debug at quorum. -/
  | lcDbgOpen (c : Caller) (data : Bytes)
  /-- EXTEST (R578): TAP instruction EXTEST drives the boundary register. -/
  | extest (scan : Bytes)
  /-- EXTEST_EXIT (R578): Leaving EXTEST resets the device as on RESET_N. -/
  | extestExit (bootSel : Nat)
  /-- IDCODE (R577): TAP instruction IDCODE selects the 32-bit identification register. -/
  | idcode (bootSel : Nat)
  /-- SAMPLE_PRELOAD (R577): TAP instruction SAMPLE/PRELOAD selects the boundary register. -/
  | samplePreload (bootSel : Nat) (scan : Bytes)
  /-- BYPASS (R577): TAP instruction BYPASS selects the 1-bit register. -/
  | bypass (bootSel : Nat)
  /-- DEBUG_INSTRUCTION (R579): A debug instruction acts under a reopening or selects BYPASS and counts the attempt. -/
  | debugInstruction (op : DebugOp) (bootSel : Nat)
  /-- POWER_ON_RESET (R617): Supplies and SYSCLK come up and power-on reset is released. -/
  | powerOnReset (bootSel : Nat)
  /-- RESET_N (R659): RESET_N low for 0.8 µs or more resets the device. -/
  | resetN (low : Bool) (bootSel : Nat)
  /-- PERST_N_RESET (R647): PERST_N low for 1 ms with ERR_PERST_RESET set resets the device. -/
  | perstNReset (bootSel : Nat)
  /-- CAST_ON (R595): After any reset the device runs phases C0–C6 to DEVICE_READY. -/
  | castOn (env : CastEnv)
  /-- ERR_RESET (R648): A write of 0xA5 schedules a device reset 1 ms later. -/
  | errReset (c : Caller) (data : Bytes)
  /-- SELF_RESET (R648): The device resets itself after its scheduled delay or cause. -/
  | selfReset (bootSel : Nat)
  /-- UPD_STAGE_BEGIN (R602): A write of 1 erases staging and sets RECEIVING. -/
  | updStageBegin (c : Caller) (data : Bytes)
  /-- UPD_STAGE_CHUNK (R605): A block write of one chunk is checked and programmed into staging. -/
  | updStageChunk (c : Caller) (total : Nat) (data : Bytes) (ok : Bool)
  /-- UPD_VERIFY (R607): A write of the bundle length verifies the staged bundle. -/
  | updVerify (c : Caller) (data : Bytes)
  /-- UPD_ACTIVATE_AT (R608): A write of a time sets the verified bundle PENDING activation. -/
  | updActivateAt (c : Caller) (data : Bytes)
  /-- UPD_CANCEL (R608): A write of 1 returns PENDING to VERIFIED. -/
  | updCancel (c : Caller) (data : Bytes)
  /-- ACTIVATION_DUE (R608): The RTC reaches the recorded activation time and the device resets to activate. -/
  | activationDue (bootSel : Nat)
  /-- UPD_CONFIRM (R614): A write of 1 confirms the trial and burns security versions. -/
  | updConfirm (c : Caller) (data : Bytes)
  /-- TRIAL_EXPIRY (R615): The trial window expires unconfirmed and the device resets to fall back. -/
  | trialExpiry (bootSel : Nat)
  /-- GAUGE_REPLAN_DUE (R628): Operating hours reach a multiple of 24 and the gauge re-plans. -/
  | gaugeReplanDue (m : GaugeData)
  /-- PWR_REPLAN (R628): A write of 1 makes the gauge plan now. -/
  | pwrReplan (c : Caller) (m : GaugeData) (data : Bytes)
  /-- VOUT_STEP (R629): The next 5 mV VOUT_COMMAND step is written at least 200 µs after the last. -/
  | voutStep
  /-- PMBUS_WRITE_RESULT (R631): A regulator write is checked 1 ms later and retried or abandoned on failure. -/
  | pmbusWriteResult (ack pec : Bool) (readMv : Nat)
  /-- PM_ALERT (R631): PM_ALERT_N low makes the device read STATUS_WORD. -/
  | pmAlert (status : Nat)
  /-- SLICE_POWER_GATE (R624): A slice idle for PWR_SLICE_IDLE is power-gated. -/
  | slicePowerGate (n : Nat)
  /-- ENGINE_CLOCK_GATE (R624): The engine clock root gates after PWR_PLL_IDLE with no engine work. -/
  | engineClockGate
  /-- PLL_STOP (R624): The engine PLL stops when its conditions hold. -/
  | pllStop
  /-- TSUOW_RETENTION (R624): The Tsuow core enters retention after 1 ms without supervisor work. -/
  | tsuowRetention
  /-- PWR_RTC_WRITE (R635): A write of PWR_RTC sets the RTC and records the change. -/
  | pwrRtcWrite (c : Caller) (data : Bytes)
  /-- ERR_SLICE_REINIT (R639): A write of a slice number re-initialises and tests the slice. -/
  | errSliceReinit (c : Caller) (data : Bytes)
  /-- ERR_REQ_REINIT (R639): A write of a requester number re-initialises and tests the bench requester. -/
  | errReqReinit (c : Caller) (data : Bytes)
  /-- ERR_DIG_REINIT (R639): A write of a unit number re-initialises and tests the digest unit. -/
  | errDigReinit (c : Caller) (data : Bytes)
  /-- ERR_PIPE_REINIT (R639): A write of a pipeline number re-initialises and tests the cipher pipeline. -/
  | errPipeReinit (c : Caller) (data : Bytes)
  /-- REINIT_COMPLETE (R639): A re-initialisation's known-answer test ends and the fence is lifted or kept. -/
  | reinitComplete (pass : Bool)
  /-- STUCK_CLEAR (R533): STUCK clears when the input has been inactive for at least 100 ms, and its next qualifying activity acts again. -/
  | stuckClear (source : Nat)
  /-- CHATTER_CLEAR (R533): CHATTER clears after 1 s without a change of the input, which then gives events again. -/
  | chatterClear (source : Nat)
  /-- AON_DOMAIN_STOP (R545): On the backup cell alone, VBAT falls below 2.0 V, the AON domain stops, and BBRAM and the RTC are no longer assured. -/
  | aonDomainStop
  /-- START_UP_TEST_FAILURE (R517): A health test fails during a start-up test or retest; held seeds are discarded and the test restarts, or after three failures the source is DEAD. -/
  | startUpTestFailure
  /-- UPD_VERIFY_END (R607): Verification of the staged bundle ends and UPD_STATE leaves VERIFYING for VERIFIED or BAD, with the activation record written on a pass. -/
  | updVerifyEnd
  /-- ILLEGAL (R469): The core executes an undefined or reserved encoding, including the all-zero word, and raises ILLEGAL. -/
  | illegal (w : Word)
  /-- ARRIVING_PACKET_DROP (R398): A stream packet with a CRC or EOP error, under 8 bytes, of OP 0x03 or 0x05, or of a reserved OP arrives and is dropped, silently or with STATUS BAD_HEADER. -/
  | arrivingPacketDrop (port channel : Nat) (packet : Bytes) (error : Bool)
  /-- PIPELINE_REINIT_DONE (R402): A cipher pipeline re-initialised after a mismatch finishes within 1 µs and takes packets again. -/
  | pipelineReinitDone (pipeline : Nat)
  /-- DIGEST_UNIT_REINIT_DONE (R642): A digest unit re-initialised after a unit watchdog bite finishes within 0.5 ms and serves jobs again. -/
  | digestUnitReinitDone (unit : Nat)
deriving DecidableEq, Repr

end Sys2Proof
end

