-- ==== Sys2Proof/Config.lean ====
section
/-!
DEFINITION. What an implementation fixes and what the spec leaves open.
Every constant here is opaque: it has no body, so no proof can use a value of it.
-/
namespace Sys2Proof

/-- The operations of outside standards the device performs (R15): the model takes each as an uninterpreted function of
its arguments. -/
inductive Prim where
  | hash (pset : Nat)
  | hmac (pset : Nat)
  | kmac (bits : Nat)
  | cshake (bits : Nat)
  | xof (bits : Nat)
  | chain (pset : Nat)
  | mlkemKeygen (pset : Nat)
  | mlkemEncapsC (pset : Nat)
  | mlkemEncapsK (pset : Nat)
  | mlkemDecaps (pset : Nat)
  | mldsaKeygen (pset : Nat)
  | mldsaSign (pset : Nat)
  | mldsaVerify (pset : Nat)
  | slhKeygen (pset : Nat)
  | slhSign (pset : Nat)
  | slhVerify (pset : Nat)
  | htsKeygen (pset : Nat)
  | htsSign (pset : Nat)
  | htsVerify (pset : Nat)
  | mceKeygenPub (pset : Nat)
  | mceKeygenPriv (pset : Nat)
  | mceEncapsC (pset : Nat)
  | mceEncapsK (pset : Nat)
  | mceDecaps (pset : Nat)
  | hqcKeygen (pset : Nat)
  | hqcEncapsC (pset : Nat)
  | hqcEncapsK (pset : Nat)
  | hqcDecaps (pset : Nat)
  | kemReject (cls pset : Nat)
  | eccPub (pset : Nat)
  | eccPriv (pset : Nat)
  | eccSign (pset : Nat)
  | eccVerify (pset : Nat)
  | eccAgree (pset : Nat)
  | rsaKeygen (pset : Nat)
  | rsaPad (form : Nat)
  | rsaUnpad (form : Nat)
  | pubOf (alg pset : Nat)
  | gcmStream
  | gcmTag
  | unitConst
deriving DecidableEq, Repr

/-- Byte `i` of the result of a standard's operation. -/
opaque Config.prim : Prim → List Bytes → Nat → Byte

/-- A yes or no that a standard's operation answers (a signature verifies, a ciphertext matches). -/
opaque Config.primBool : Prim → List Bytes → Bool

/-- A count that a standard's operation answers (rejection iterations, candidates tried). -/
opaque Config.primNat : Prim → List Bytes → Nat

/-- Byte `i` of generate call `call` of DRBG instance `inst` since the entropy start-up number `start`. -/
opaque Config.drbg : (start inst call i : Nat) → Byte

/-- The rank of number `n` under a key that the device has drawn: by it the key places its units and directory entries (R339), and orders
its handles (R331) and context numbers (R364).  Numbers of one rank stand in their own order, so that ranks always give a permutation. -/
opaque Config.rank : (key : List Byte) → (kind n : Nat) → Nat

/-- Byte `i` of the mask that the Keccak-based expander gives for a word of a slot under K_mask (R337). -/
opaque Config.maskByte : (key : List Byte) → (handle seed word i : Nat) → Byte

/-- NEEDS_PATCH of a dispatch entry (R186), which the ROM holds and the spec does not list. -/
opaque Config.needsPatch : (cls entry : Nat) → Bool

/-- Byte `i` of block `block` of the key register's mask expander, as it was last seeded (R338). -/
opaque Config.keyExpander : (seed : List Byte) → (block i : Nat) → Byte

/-- Byte `i` of block `block` of slice `slice`'s mask expander. -/
opaque Config.expander : (slice block i : Nat) → Byte

/-- A value the spec leaves open: free value number `n`. -/
opaque Config.freeNat : Nat → Nat

/-- Byte `i` of free value number `n`. -/
opaque Config.freeByte : (n i : Nat) → Byte

/-- The microcode ROM of each slice class, whose content the spec does not list (R184). -/
opaque Config.microRom : (cls addr : Nat) → Word

/-- The dispatch tables' ROM values (R186), whose TARGET fields the spec does not list. -/
opaque Config.dispatchTarget : (cls entry : Nat) → BitVec 17

/-- A dispatch entry's PATCHED and TARGET under a loaded patch set (R187), whose layout the spec does not state: bit 17 and
bits 16:0. -/
opaque Config.patchEntry : (cls entry : Nat) → List Byte → BitVec 18

/-- The microword at an address of patch RAM under a loaded patch set (R184, R187), whose layout the spec does not state. -/
opaque Config.patchWord : (cls addr : Nat) → List Byte → Word

/-- The public flag after a datapath microword without SEC, and the loop counter after a datapath microword (R183): the datapath's
operations are not listed. -/
opaque Config.microFlag : (cls word : Nat) → Bool → Bool
opaque Config.microLoop : (cls word : Nat) → Nat → Nat

/-- Boot ROM constants the spec does not give a value for: version, anchor key hashes (R43, R586, R616). -/
opaque Config.romByte : (which i : Nat) → Byte

/-- The scope bit of R580 under which a debug instruction falls: defined only for Dwesy's tools (R577, R579). -/
opaque Config.debugScope : (code : Nat) → Nat

/-- Which action a debug instruction's opcode has (R577): defined only for Dwesy's tools. -/
opaque Config.debugCode : (code : Nat) → Nat

/-- The mesh LFSR's next state (R534): its feedback is not stated. -/
opaque Config.meshNext : BitVec 31 → BitVec 31

/-- The bit that a state of the mesh LFSR drives (R534). -/
opaque Config.meshBit : BitVec 31 → Bool

/-- The supervisor firmware's own code, whose content the spec does not list: byte `i` of Tsuow instruction space. -/
opaque Config.firmware : Nat → Byte

/-- Entry `entry` of class `cls` of the region rules that the supervisor firmware programmes at cast-on (R102), whose content the
spec does not list. -/
opaque Config.supervisorRule : (cls entry : Nat) → BitVec 64

/-- Threshold `i` of RNG_THRESHOLDS as a TYPE 0x0A component gives it (R590, R598): the component's layout is not stated. -/
opaque Config.rngThreshold : (body : List Byte) → (i : Nat) → BitVec 16

/-- The granule of the context store at which the record of a kind and a number stands (R93), whose place the spec does not list. -/
opaque Config.ctxPlace : (kind idx : Nat) → Nat

/-- The kind and the number of the record that a granule of the context store holds, if any (R93). -/
opaque Config.ctxHolder : (granule : Nat) → Option (Nat × Nat)

namespace Machine

/-- `n` bytes of a standard's operation. -/
def primOut (f : Prim) (args : List Bytes) (n : Nat) : Bytes := (List.range n).map (Config.prim f args)

/-- The first `n` bytes of a free value. -/
def freeBytes (k n : Nat) : Bytes := (List.range n).map (Config.freeByte k)

end Machine

end Sys2Proof
end

