-- ==== Sys2Proof/Machine/Bits.lean ====
section
/-!
DEFINITION. Bit fields, byte order and byte strings.
Multi-byte fields of the device's own structures are little-endian (R5).
-/
namespace Sys2Proof.Machine

/-- `n` bytes of `v`, least significant first (R5). -/
def leBytes : Nat → Nat → Bytes
  | 0, _ => []
  | n + 1, v => BitVec.ofNat 8 v :: leBytes n (v / 256)

/-- The number a little-endian byte string spells (R5). -/
def leNat : Bytes → Nat
  | [] => 0
  | b :: r => b.toNat + 256 * leNat r

/-- `n` bytes of `v`, most significant first. -/
def beBytes (n v : Nat) : Bytes := (leBytes n v).reverse

/-- The number a big-endian byte string spells. -/
def beNat (b : Bytes) : Nat := leNat b.reverse

/-- Bits `hi..lo` of a number. -/
def bits (v hi lo : Nat) : Nat := (v / 2 ^ lo) % 2 ^ (hi + 1 - lo)

/-- Bit `i` of a number. -/
def bit (v i : Nat) : Bool := v.testBit i

/-- `n` bytes of zero. -/
def zeros (n : Nat) : Bytes := List.replicate n 0

/-- Exactly `n` bytes: `b` cut or padded with zeros at its end. -/
def fitBytes (n : Nat) (b : Bytes) : Bytes := b.take n ++ zeros (n - b.length)

/-- `len` bytes of `b` from offset `off`; bytes past its end read as zero. -/
def slice (b : Bytes) (off len : Nat) : Bytes := fitBytes len (b.drop off)

/-- The little-endian field of `len` bytes at offset `off` (R5). -/
def field (b : Bytes) (off len : Nat) : Nat := leNat (slice b off len)

/-- One byte at offset `off`, as a number. -/
def byteAt (b : Bytes) (off : Nat) : Nat := field b off 1

/-- Bytewise exclusive or, as long as the shorter string. -/
def xorBytes (a b : Bytes) : Bytes := List.zipWith (· ^^^ ·) a b

/-- Every byte zero. -/
def allZero (b : Bytes) : Bool := b.all (fun x => x == 0)

/-- The bytes of an ASCII name. -/
def ascii (s : String) : Bytes := s.toList.map (fun c => BitVec.ofNat 8 c.toNat)

/-- Smallest number of `d`-sized parts that hold `n`. -/
def ceilDiv (n d : Nat) : Nat := (n + d - 1) / d

/-- A Boolean as 0 or 1. -/
def b2n (b : Bool) : Nat := if b then 1 else 0

/-- Set (`v`) or clear bit `i` of a number. -/
def putBit (n i : Nat) (v : Bool) : Nat :=
  if v then (if n.testBit i then n else n + 2 ^ i) else (if n.testBit i then n - 2 ^ i else n)

/-- Remove every element equal to `x`. -/
def dropAll {α : Type} [DecidableEq α] (x : α) (l : List α) : List α := l.filter (fun y => decide (y ≠ x))

/-- Replace element `i` of a list (unchanged where the list is shorter). -/
def listSet {α : Type} : List α → Nat → α → List α
  | [], _, _ => []
  | _ :: r, 0, v => v :: r
  | a :: r, i + 1, v => a :: listSet r i v

/-- `f 0, f 1, …, f (n-1)`. -/
def tabulate {α : Type} (n : Nat) (f : Nat → α) : List α := (List.range n).map f

/-- The least of a list of keyed candidates by `key`, the first such where several are equal. -/
def leastBy {α : Type} (key : α → Nat) : List α → Option α
  | [] => none
  | a :: r => match leastBy key r with
    | none => some a
    | some b => if key a ≤ key b then some a else some b

/-- The number after `last` in the order of `key`, among `l`; where none comes after it, the order's first. -/
def nextBy (key : Nat → Nat) (last : Option Nat) (l : List Nat) : Option Nat :=
  match leastBy key (l.filter (fun n => match last with
    | some m => decide (key m < key n)
    | none => true)) with
  | some n => some n
  | none => leastBy key l

end Sys2Proof.Machine
end

