-- ==== Sys2Proof/Machine/ObjTable.lean ====
section
/-!
DEFINITION. The object dictionary: every object of the spec's tables, with its type, access code, roles, default and range.
-/
namespace Sys2Proof.Machine

/-- The encodings of object values (R37). -/
inductive ObjType where
  | bool | u8 | u16 | u32 | u64 | i32 | bytes | string | time64 | handle16 | colour16 | array
deriving DecidableEq, Repr

/-- The access codes (R8). -/
inductive Access where
  | ro | rw | wo | rwl | cmd
deriving DecidableEq, Repr

/-- A role listed for writing only in a state (R674): none; OPERATOR in PROVISION; OPERATOR in PROVISION while fewer
than TMP_QUORUM_K officers are enrolled (R553). -/
inductive RoleQual where
  | none_ | provision | enrol
deriving DecidableEq, Repr

/-- One row of the spec's object tables.  `lo..hi` are its indexes and `slo..shi` its subindexes; `n` is the length of
BYTES and STRING and the element code of ARRAY; `rd` and `wr` are the role masks of R39 (bit 4: SUPERVISOR) listed for
reading and for writing; `zero` says that 0 is accepted beside `min..max`; `vals`, when not empty, are the only values
accepted; `mask`, when not 0, keeps the bits that are not reserved (R12). -/
structure ObjDesc where
  lo : Nat
  hi : Nat
  slo : Nat
  shi : Nat
  name : String
  ty : ObjType
  n : Nat
  acc : Access
  rd : Nat
  wr : Nat
  q : RoleQual
  dflt : Nat
  stored : Bool
  min : Nat
  max : Nat
  zero : Bool
  vals : List Nat
  mask : Nat
deriving DecidableEq, Repr

/-- Objects of the area at index 0x0100 (R43, R672). -/
def area01a : List ObjDesc := [
  ⟨0x100, 0x100, 1, 1, "ID_VENDOR", .string, 32, .ro, 9, 9, .none_, 0x726f746375646e6f63696d6553207973657744, false, 0, 0, false, [], 0⟩,
  ⟨0x100, 0x100, 2, 2, "ID_PART", .string, 16, .ro, 9, 9, .none_, 0x303434374b5a, false, 0, 0, false, [], 0⟩,
  ⟨0x100, 0x100, 3, 3, "ID_ORDERING", .u8, 0, .ro, 9, 9, .none_, 0, false, 0, 255, false, [], 0⟩,
  ⟨0x100, 0x100, 4, 4, "ID_STEPPING", .string, 4, .ro, 9, 9, .none_, 0x3042, false, 0, 0, false, [], 0⟩,
  ⟨0x100, 0x100, 5, 5, "ID_UNIT_ID", .bytes, 16, .ro, 9, 9, .none_, 0, false, 0, 0, false, [], 0⟩,
  ⟨0x100, 0x100, 6, 6, "ID_IDCODE", .u32, 0, .ro, 9, 9, .none_, 0x2744099b, false, 0, 0xffffffff, false, [], 0⟩,
  ⟨0x100, 0x100, 7, 7, "ID_ROM_VERSION", .u32, 0, .ro, 9, 9, .none_, 0, false, 0, 0xffffffff, false, [], 0⟩,
  ⟨0x101, 0x101, 0, 0, "ID_FEAT", .array, 4, .ro, 9, 9, .none_, 8, false, 0, 0, false, [], 0⟩,
  ⟨0x101, 0x101, 1, 8, "ID_FEAT", .u32, 0, .ro, 9, 9, .none_, 0, false, 0, 0xffffffff, false, [], 0⟩,
  ⟨0x110, 0x110, 1, 1, "ID_MG_MAC", .bytes, 6, .rw, 1, 4, .none_, 0, true, 0, 0, false, [], 0⟩,
  ⟨0x110, 0x110, 2, 2, "ID_MG_PHY_ADDR", .u8, 0, .rw, 1, 6, .none_, 0, true, 0, 31, false, [], 0⟩,
  ⟨0x110, 0x110, 3, 3, "ID_MG_PLCA_EN", .bool, 0, .rw, 1, 6, .none_, 1, true, 0, 1, false, [], 0⟩,
  ⟨0x110, 0x110, 4, 4, "ID_MG_PLCA_NODE", .u8, 0, .rw, 1, 6, .none_, 255, true, 0, 255, false, [], 0⟩,
  ⟨0x110, 0x110, 5, 5, "ID_MG_PLCA_COUNT", .u8, 0, .rw, 1, 6, .none_, 8, true, 1, 255, false, [], 0⟩,
  ⟨0x110, 0x110, 6, 6, "ID_MG_PLCA_MMD", .u8, 0, .rw, 1, 6, .none_, 31, true, 1, 31, false, [], 0⟩,
  ⟨0x110, 0x110, 7, 7, "ID_MG_PLCA_REG", .u16, 0, .rw, 1, 6, .none_, 0xca01, true, 0, 0xffff, false, [], 0⟩,
  ⟨0x110, 0x110, 8, 8, "ID_MG_MDIO_ERRS", .u32, 0, .ro, 1, 1, .none_, 0, false, 0, 0xffffffff, false, [], 0⟩,
  ⟨0x120, 0x120, 1, 1, "ID_GPIO_DIR", .u8, 0, .rw, 1, 2, .none_, 0, true, 0, 255, false, [], 0⟩,
  ⟨0x120, 0x120, 2, 2, "ID_GPIO_OUT", .u8, 0, .rw, 1, 2, .none_, 0, true, 0, 255, false, [], 0⟩,
  ⟨0x120, 0x120, 3, 3, "ID_GPIO_IN", .u8, 0, .ro, 1, 1, .none_, 0, false, 0, 255, false, [], 0⟩]

/-- Objects of the area at index 0x0200 (R57).  DESIGN CHOICE: DICT_PRN_ROLES takes 0 to 15 and DICT_PRN_TENANT 0 to 4,095; the spec gives
neither object a range. -/
def area02a : List ObjDesc := [
  ⟨0x200, 0x200, 0, 0, "DICT_VERSION", .u32, 0, .ro, 1, 1, .none_, 0x10000, false, 0, 0xffffffff, false, [], 0⟩,
  ⟨0x201, 0x201, 1, 1, "DICT_STORE", .u8, 0, .cmd, 6, 6, .none_, 0, false, 1, 1, false, [], 0⟩,
  ⟨0x201, 0x201, 2, 2, "DICT_STORE_STATE", .u8, 0, .ro, 1, 1, .none_, 0, false, 0, 255, false, [], 0⟩,
  ⟨0x201, 0x201, 3, 3, "DICT_RESTORE_DEFAULTS", .u8, 0, .cmd, 4, 4, .none_, 0, false, 1, 1, false, [], 0⟩,
  ⟨0x202, 0x202, 1, 1, "DICT_CFG_STATE", .u8, 0, .ro, 1, 1, .none_, 0, false, 0, 255, false, [], 0⟩,
  ⟨0x202, 0x202, 2, 2, "DICT_CFG_SEQ", .u32, 0, .ro, 1, 1, .none_, 0, false, 0, 0xffffffff, false, [], 0⟩,
  ⟨0x202, 0x202, 3, 3, "DICT_CFG_SKIPPED", .u32, 0, .ro, 1, 1, .none_, 0, false, 0, 0xffffffff, false, [], 0⟩,
  ⟨0x203, 0x203, 1, 1, "DICT_DESCRIBE", .u32, 0, .cmd, 1, 1, .none_, 0, false, 0, 0xffffffff, false, [], 0xffffff⟩,
  ⟨0x203, 0x203, 2, 2, "DICT_DESCRIPTION", .bytes, 64, .ro, 1, 1, .none_, 0, false, 0, 0, false, [], 0⟩,
  ⟨0x210, 0x210, 1, 1, "DICT_OAP_ENABLE", .bool, 0, .rw, 6, 6, .none_, 1, true, 0, 1, false, [], 0⟩,
  ⟨0x210, 0x210, 2, 2, "DICT_OAP_PORT", .u16, 0, .rwl, 4, 4, .none_, 0xc634, true, 0, 0xffff, false, [], 0⟩,
  ⟨0x210, 0x210, 3, 3, "DICT_OAP_IDLE_TIMEOUT", .u32, 0, .rw, 6, 6, .none_, 300, true, 10, 0x15180, false, [], 0⟩,
  ⟨0x210, 0x210, 4, 4, "DICT_OAP_MAX_LIFE", .u32, 0, .rw, 4, 4, .none_, 0x7080, true, 60, 0x93a80, false, [], 0⟩,
  ⟨0x210, 0x210, 5, 5, "DICT_OAP_SESSIONS", .u8, 0, .ro, 1, 1, .none_, 0, false, 0, 255, false, [], 0⟩,
  ⟨0x210, 0x210, 6, 6, "DICT_OAP_LOCK", .u8, 0, .cmd, 4, 4, .none_, 0, false, 1, 1, false, [], 0⟩,
  ⟨0x211, 0x211, 1, 1, "DICT_OAP_LEN_ERR", .u32, 0, .ro, 1, 1, .none_, 0, false, 0, 0xffffffff, false, [], 0⟩,
  ⟨0x211, 0x211, 2, 2, "DICT_OAP_AUTH_ERR", .u32, 0, .ro, 1, 1, .none_, 0, false, 0, 0xffffffff, false, [], 0⟩,
  ⟨0x211, 0x211, 3, 3, "DICT_OAP_REPLAY", .u32, 0, .ro, 1, 1, .none_, 0, false, 0, 0xffffffff, false, [], 0⟩,
  ⟨0x211, 0x211, 4, 4, "DICT_OAP_DROPPED", .u32, 0, .ro, 1, 1, .none_, 0, false, 0, 0xffffffff, false, [], 0⟩,
  ⟨0x211, 0x211, 5, 5, "DICT_ACCESS_REFUSED", .u32, 0, .ro, 6, 6, .none_, 0, false, 0, 0xffffffff, false, [], 0⟩,
  ⟨0x220, 0x23f, 1, 1, "DICT_PRN_ROLES", .u8, 0, .rw, 4, 4, .enrol, 0, true, 0, 15, false, [], 0⟩,
  ⟨0x220, 0x23f, 2, 2, "DICT_PRN_TENANT", .u16, 0, .rw, 4, 4, .enrol, 0, true, 0, 0xfff, false, [], 0⟩,
  ⟨0x220, 0x23f, 3, 3, "DICT_PRN_KEY_ID", .bytes, 32, .rw, 4, 4, .enrol, 0, true, 0, 0, false, [], 0⟩,
  ⟨0x220, 0x23f, 4, 4, "DICT_PRN_SUITE", .u8, 0, .rw, 4, 4, .none_, 1, true, 0, 255, false, [1, 2, 4], 0⟩,
  ⟨0x240, 0x248, 0, 0, "DICT_NTF_SET", .array, 4, .ro, 1, 1, .none_, 0, false, 0, 0, false, [], 0xffffff⟩,
  ⟨0x240, 0x248, 1, 16, "DICT_NTF_SET", .u32, 0, .rw, 1, 1, .none_, 0, false, 0, 0xffffffff, false, [], 0xffffff⟩]

/-- Objects of the area at index 0x0300 (R586). -/
def area03a : List ObjDesc := [
  ⟨0x300, 0x300, 1, 1, "LC_STATE", .u8, 0, .ro, 1, 1, .none_, 0, false, 0, 255, false, [], 0⟩,
  ⟨0x300, 0x300, 2, 2, "LC_ROOT", .u8, 0, .ro, 1, 1, .none_, 0, false, 0, 255, false, [], 0⟩,
  ⟨0x300, 0x300, 3, 3, "LC_NONCE", .bytes, 32, .ro, 6, 6, .none_, 0, false, 0, 0, false, [], 0⟩,
  ⟨0x300, 0x300, 4, 4, "LC_NONCE_NEW", .u8, 0, .cmd, 6, 6, .none_, 0, false, 1, 1, false, [], 0⟩,
  ⟨0x300, 0x300, 5, 5, "LC_REQUEST", .bytes, 4787, .wo, 6, 6, .none_, 0, false, 0, 0, false, [], 0⟩,
  ⟨0x300, 0x300, 6, 6, "LC_APPLY", .bytes, 32, .cmd, 6, 6, .none_, 0, false, 0, 0, false, [], 0⟩,
  ⟨0x300, 0x300, 7, 7, "LC_REQ_STATE", .u8, 0, .ro, 1, 1, .none_, 0, false, 0, 255, false, [], 0⟩,
  ⟨0x300, 0x300, 8, 8, "LC_OWNER_PK_DSA", .bytes, 2592, .rwl, 1, 0, .provision, 0, true, 0, 0, false, [], 0⟩,
  ⟨0x300, 0x300, 9, 9, "LC_OWNER_PK_EC", .bytes, 97, .rwl, 1, 0, .provision, 0, true, 0, 0, false, [], 0⟩,
  ⟨0x300, 0x300, 10, 10, "LC_ANCHOR_ID", .bytes, 32, .ro, 1, 1, .none_, 0, false, 0, 0, false, [], 0⟩,
  ⟨0x300, 0x300, 11, 11, "LC_DDAS_ID", .bytes, 32, .ro, 1, 1, .none_, 0, false, 0, 0, false, [], 0⟩,
  ⟨0x300, 0x300, 12, 12, "LC_BIST", .u8, 0, .cmd, 2, 2, .none_, 0, false, 1, 1, false, [], 0⟩,
  ⟨0x300, 0x300, 13, 13, "LC_BIST_RESULT", .u8, 0, .ro, 1, 1, .none_, 0, false, 0, 255, false, [], 0⟩,
  ⟨0x301, 0x301, 1, 1, "LC_DBG_CHALLENGE_NEW", .u8, 0, .cmd, 6, 6, .none_, 0, false, 0, 255, false, [], 0⟩,
  ⟨0x301, 0x301, 2, 2, "LC_DBG_CHALLENGE", .bytes, 64, .ro, 6, 6, .none_, 0, false, 0, 0, false, [], 0⟩,
  ⟨0x301, 0x301, 3, 3, "LC_DBG_TOKEN", .bytes, 4787, .wo, 6, 6, .none_, 0, false, 0, 0, false, [], 0⟩,
  ⟨0x301, 0x301, 4, 4, "LC_DBG_OPEN", .bytes, 32, .cmd, 4, 4, .none_, 0, false, 0, 0, false, [], 0⟩,
  ⟨0x301, 0x301, 5, 5, "LC_DBG_STATE", .u8, 0, .ro, 1, 1, .none_, 0, false, 0, 255, false, [], 0⟩,
  ⟨0x301, 0x301, 6, 6, "LC_DBG_SCOPE", .u8, 0, .ro, 1, 1, .none_, 0, false, 0, 255, false, [], 0⟩,
  ⟨0x301, 0x301, 7, 7, "LC_DBG_WINDOW", .u32, 0, .rw, 1, 4, .none_, 0xe10, true, 60, 0x15180, false, [], 0⟩,
  ⟨0x301, 0x301, 8, 8, "LC_DBG_ATTEMPTS", .u32, 0, .ro, 1, 1, .none_, 0, false, 0, 0xffffffff, false, [], 0⟩,
  ⟨0x301, 0x301, 9, 9, "LC_DBG_LAST", .time64, 0, .ro, 1, 1, .none_, 0, false, 0, 0xffffffffffffffff, false, [], 0⟩]

/-- Objects of the area at index 0x0400 (R634, R635). -/
def area04a : List ObjDesc := [
  ⟨0x400, 0x400, 1, 1, "PWR_VCORE_TARGET", .u16, 0, .ro, 1, 1, .none_, 850, false, 0, 0xffff, false, [], 0⟩,
  ⟨0x400, 0x400, 2, 2, "PWR_VCORE_READ", .u16, 0, .ro, 1, 1, .none_, 0, false, 0, 0xffff, false, [], 0⟩,
  ⟨0x400, 0x400, 3, 3, "PWR_ENGINE_MHZ", .u16, 0, .ro, 1, 1, .none_, 0x4b0, false, 0, 0xffff, false, [], 0⟩,
  ⟨0x400, 0x400, 4, 4, "PWR_MARGIN", .u16, 0, .ro, 1, 1, .none_, 0, false, 0, 0xffff, false, [], 0⟩,
  ⟨0x400, 0x400, 5, 5, "PWR_YEARS", .u16, 0, .ro, 1, 1, .none_, 999, false, 0, 0xffff, false, [], 0⟩,
  ⟨0x400, 0x400, 6, 6, "PWR_GAUGE_STATE", .u8, 0, .ro, 1, 1, .none_, 0, false, 0, 255, false, [], 0⟩,
  ⟨0x400, 0x400, 7, 7, "PWR_REPLAN", .u8, 0, .cmd, 2, 2, .none_, 0, false, 1, 1, false, [], 0⟩,
  ⟨0x400, 0x400, 8, 8, "PWR_LAST_REPLAN", .time64, 0, .ro, 1, 1, .none_, 0, false, 0, 0xffffffffffffffff, false, [], 0⟩,
  ⟨0x400, 0x400, 9, 9, "PWR_OP_HOURS", .u32, 0, .ro, 1, 1, .none_, 0, false, 0, 0xffffffff, false, [], 0⟩,
  ⟨0x400, 0x400, 10, 10, "PWR_GUARD", .u16, 0, .rwl, 1, 4, .none_, 600, true, 400, 0x5dc, false, [], 0⟩,
  ⟨0x400, 0x400, 11, 11, "PWR_CLOCK_FLOOR", .u16, 0, .rw, 2, 2, .none_, 0x3e8, true, 900, 0x4b0, false, [], 0⟩,
  ⟨0x400, 0x400, 12, 12, "PWR_RNG_LOW", .bool, 0, .ro, 1, 1, .none_, 0, false, 0, 1, false, [], 0⟩,
  ⟨0x401, 0x401, 1, 1, "PWR_PLL_IDLE", .u32, 0, .rw, 2, 2, .none_, 0x3e8, true, 10, 0xf4240, false, [], 0⟩,
  ⟨0x401, 0x401, 2, 2, "PWR_SLICE_IDLE", .u16, 0, .rw, 2, 2, .none_, 10, true, 1, 0x2710, false, [], 0⟩,
  ⟨0x401, 0x401, 3, 3, "PWR_SLICE_GATE", .bool, 0, .rw, 2, 2, .none_, 1, true, 0, 1, false, [], 0⟩,
  ⟨0x401, 0x401, 4, 4, "PWR_PDN_WINDOW", .u16, 0, .rw, 1, 4, .none_, 0x7d0, true, 500, 0x1388, false, [], 0⟩,
  ⟨0x402, 0x402, 1, 1, "PWR_PMBUS_ADDR", .u8, 0, .rwl, 1, 4, .none_, 64, true, 0, 127, false, [], 0⟩,
  ⟨0x402, 0x402, 2, 2, "PWR_PMBUS_ERRS", .u32, 0, .ro, 1, 1, .none_, 0, false, 0, 0xffffffff, false, [], 0⟩,
  ⟨0x402, 0x402, 3, 3, "PWR_PMBUS_STATUS", .u16, 0, .ro, 1, 1, .none_, 0, false, 0, 0xffff, false, [], 0⟩,
  ⟨0x402, 0x402, 4, 4, "PWR_POWER_LOSSES", .u32, 0, .ro, 1, 1, .none_, 0, false, 0, 0xffffffff, false, [], 0⟩,
  ⟨0x403, 0x403, 0, 0, "PWR_TEMPS", .array, 6, .ro, 1, 1, .none_, 8, false, 0, 0, false, [], 0⟩,
  ⟨0x403, 0x403, 1, 8, "PWR_TEMPS", .i32, 0, .ro, 1, 1, .none_, 0, false, 0, 0xffffffff, false, [], 0⟩,
  ⟨0x404, 0x404, 1, 1, "PWR_RTC", .time64, 0, .rw, 1, 2, .none_, 0, false, 0, 0xffffffffffffffff, false, [], 0⟩,
  ⟨0x404, 0x404, 2, 2, "PWR_RTC_VALID", .bool, 0, .ro, 1, 1, .none_, 0, false, 0, 1, false, [], 0⟩,
  ⟨0x404, 0x404, 3, 3, "PWR_RTC_SETS", .u32, 0, .ro, 1, 1, .none_, 0, false, 0, 0xffffffff, false, [], 0⟩,
  ⟨0x404, 0x404, 4, 4, "PWR_RTC_LAST_SET", .bytes, 16, .ro, 6, 6, .none_, 0, false, 0, 0, false, [], 0⟩]

/-- Objects of the area at index 0x0500 (R526). -/
def area05a : List ObjDesc := [
  ⟨0x500, 0x500, 1, 1, "RNG_STATE", .u8, 0, .ro, 1, 1, .none_, 0, false, 0, 255, false, [], 0⟩,
  ⟨0x500, 0x500, 2, 2, "RNG_DIVIDER", .u8, 0, .ro, 1, 1, .none_, 4, false, 0, 255, false, [], 0⟩,
  ⟨0x500, 0x500, 3, 3, "RNG_READ", .bytes, 64, .ro, 6, 6, .none_, 0, false, 0, 0, false, [], 0⟩,
  ⟨0x500, 0x500, 4, 4, "RNG_FAILS", .u32, 0, .ro, 1, 1, .none_, 0, false, 0, 0xffffffff, false, [], 0⟩,
  ⟨0x500, 0x500, 5, 5, "RNG_RETESTS", .u32, 0, .ro, 1, 1, .none_, 0, false, 0, 0xffffffff, false, [], 0⟩,
  ⟨0x500, 0x500, 6, 6, "RNG_LAST_FAIL", .bytes, 16, .ro, 6, 6, .none_, 0, false, 0, 0, false, [], 0⟩,
  ⟨0x500, 0x500, 7, 7, "RNG_RESEEDS", .u64, 0, .ro, 1, 1, .none_, 0, false, 0, 0xffffffffffffffff, false, [], 0⟩,
  ⟨0x500, 0x500, 8, 8, "RNG_STRETCH_MAX", .u32, 0, .ro, 1, 1, .none_, 0x1000, false, 0, 0xffffffff, false, [], 0⟩,
  ⟨0x500, 0x500, 9, 9, "RNG_STALLS", .u64, 0, .ro, 1, 1, .none_, 0, false, 0, 0xffffffffffffffff, false, [], 0⟩,
  ⟨0x500, 0x500, 10, 10, "RNG_STARTUP_US", .u32, 0, .ro, 1, 1, .none_, 0, false, 0, 0xffffffff, false, [], 0⟩,
  ⟨0x501, 0x501, 0, 0, "RNG_THRESHOLDS", .array, 3, .ro, 1, 1, .none_, 6, false, 0, 0, false, [], 0⟩,
  ⟨0x501, 0x501, 1, 1, "RNG_THRESHOLDS", .u16, 0, .ro, 1, 1, .none_, 250, false, 0, 0xffff, false, [], 0⟩,
  ⟨0x501, 0x501, 2, 2, "RNG_THRESHOLDS", .u16, 0, .ro, 1, 1, .none_, 900, false, 0, 0xffff, false, [], 0⟩,
  ⟨0x501, 0x501, 3, 3, "RNG_THRESHOLDS", .u16, 0, .ro, 1, 1, .none_, 50, false, 0, 0xffff, false, [], 0⟩,
  ⟨0x501, 0x501, 4, 4, "RNG_THRESHOLDS", .u16, 0, .ro, 1, 1, .none_, 100, false, 0, 0xffff, false, [], 0⟩,
  ⟨0x501, 0x501, 5, 5, "RNG_THRESHOLDS", .u16, 0, .ro, 1, 1, .none_, 81, false, 0, 0xffff, false, [], 0⟩,
  ⟨0x501, 0x501, 6, 6, "RNG_THRESHOLDS", .u16, 0, .ro, 1, 1, .none_, 918, false, 0, 0xffff, false, [], 0⟩]

/-- Objects of the area at index 0x0600 (R559). -/
def area06a : List ObjDesc := [
  ⟨0x600, 0x600, 1, 1, "TMP_HELD", .u8, 0, .ro, 1, 1, .none_, 0, false, 0, 255, false, [], 0⟩,
  ⟨0x600, 0x600, 2, 2, "TMP_RELEASE", .u8, 0, .cmd, 4, 4, .none_, 0, false, 0, 255, false, [], 0⟩,
  ⟨0x600, 0x600, 3, 3, "TMP_RELEASE_STATE", .u8, 0, .ro, 1, 1, .none_, 0, false, 0, 255, false, [], 0⟩,
  ⟨0x600, 0x600, 4, 4, "TMP_EVIDENCE", .u16, 0, .ro, 1, 1, .none_, 0, false, 0, 0xffff, false, [], 0⟩,
  ⟨0x600, 0x600, 5, 5, "TMP_EVIDENCE_PENDING", .u8, 0, .ro, 1, 1, .none_, 0, false, 0, 255, false, [], 0⟩,
  ⟨0x600, 0x600, 6, 6, "TMP_LOCK", .u8, 0, .cmd, 4, 4, .none_, 0, false, 1, 1, false, [], 0⟩,
  ⟨0x600, 0x600, 7, 7, "TMP_ALARM_PIN_LEVEL", .u8, 0, .rw, 1, 4, .none_, 3, true, 1, 5, false, [], 0⟩,
  ⟨0x600, 0x600, 8, 8, "TMP_ENC_POLARITY", .u8, 0, .rwl, 1, 4, .none_, 15, true, 0, 255, false, [], 15⟩,
  ⟨0x601, 0x601, 1, 1, "TMP_LOG_NEWEST", .u32, 0, .ro, 1, 1, .none_, 0, false, 0, 0xffffffff, false, [], 0⟩,
  ⟨0x601, 0x601, 2, 2, "TMP_LOG_SEL", .u32, 0, .rw, 6, 6, .none_, 0, false, 0, 0xffffffff, false, [], 0⟩,
  ⟨0x601, 0x601, 3, 3, "TMP_LOG_ENTRY", .bytes, 16, .ro, 6, 6, .none_, 0, false, 0, 0, false, [], 0⟩,
  ⟨0x601, 0x601, 4, 4, "TMP_LOG_OVERWRITTEN", .u32, 0, .ro, 1, 1, .none_, 0, false, 0, 0xffffffff, false, [], 0⟩,
  ⟨0x602, 0x602, 0, 0, "TMP_AON_LATCH", .array, 7, .ro, 1, 1, .none_, 16, false, 0, 0, false, [], 0⟩,
  ⟨0x602, 0x602, 1, 16, "TMP_AON_LATCH", .bytes, 12, .ro, 6, 6, .none_, 0, false, 0, 0, false, [], 0⟩,
  ⟨0x603, 0x603, 1, 1, "TMP_AON_LOST", .u8, 0, .ro, 1, 1, .none_, 0, false, 0, 255, false, [], 0⟩,
  ⟨0x603, 0x603, 2, 2, "TMP_AON_CLEAR", .u8, 0, .cmd, 4, 4, .none_, 0, false, 1, 1, false, [], 0⟩,
  ⟨0x610, 0x610, 1, 1, "TMP_SRC_CFG", .u64, 0, .rwl, 1, 4, .none_, 0x8402000a00000200, true, 0, 0xffffffffffffffff, false, [], 0x87ffffff0000ff00⟩,
  ⟨0x611, 0x611, 1, 1, "TMP_SRC_CFG", .u64, 0, .rwl, 1, 4, .none_, 0x8301000100000200, true, 0, 0xffffffffffffffff, false, [], 0x87ffffff0000ff00⟩,
  ⟨0x612, 0x612, 1, 1, "TMP_SRC_CFG", .u64, 0, .rwl, 1, 4, .none_, 0x8402000a00000200, true, 0, 0xffffffffffffffff, false, [], 0x87ffffff0000ff00⟩,
  ⟨0x613, 0x613, 1, 1, "TMP_SRC_CFG", .u64, 0, .rwl, 1, 4, .none_, 0x8301000100000200, true, 0, 0xffffffffffffffff, false, [], 0x87ffffff0000ff00⟩,
  ⟨0x614, 0x614, 1, 1, "TMP_SRC_CFG", .u64, 0, .rwl, 1, 4, .none_, 0x8402000a00000200, true, 0, 0xffffffffffffffff, false, [], 0x87ffffff0000ff00⟩,
  ⟨0x615, 0x615, 1, 1, "TMP_SRC_CFG", .u64, 0, .rwl, 1, 4, .none_, 0x8301000100000200, true, 0, 0xffffffffffffffff, false, [], 0x87ffffff0000ff00⟩,
  ⟨0x616, 0x616, 1, 1, "TMP_SRC_CFG", .u64, 0, .rwl, 1, 4, .none_, 0x8001000100000200, true, 0, 0xffffffffffffffff, false, [], 0x87ffffff0000ff00⟩,
  ⟨0x617, 0x617, 1, 1, "TMP_SRC_CFG", .u64, 0, .rwl, 1, 4, .none_, 0x8401000100000200, true, 0, 0xffffffffffffffff, false, [], 0x87ffffff0000ff00⟩,
  ⟨0x618, 0x618, 1, 1, "TMP_SRC_CFG", .u64, 0, .rwl, 1, 4, .none_, 0x830203e800000200, true, 0, 0xffffffffffffffff, false, [], 0x87ffffff0000ff00⟩,
  ⟨0x619, 0x619, 1, 1, "TMP_SRC_CFG", .u64, 0, .rwl, 1, 4, .none_, 0x8401000100000000, true, 0, 0xffffffffffffffff, false, [], 0x87ffffff0000ff00⟩,
  ⟨0x61a, 0x61a, 1, 1, "TMP_SRC_CFG", .u64, 0, .rwl, 1, 4, .none_, 0x8401000100001400, true, 0, 0xffffffffffffffff, false, [], 0x87ffffff0000ff00⟩,
  ⟨0x61b, 0x61b, 1, 1, "TMP_SRC_CFG", .u64, 0, .rwl, 1, 4, .none_, 0x8401000100001400, true, 0, 0xffffffffffffffff, false, [], 0x87ffffff0000ff00⟩,
  ⟨0x61c, 0x61c, 1, 1, "TMP_SRC_CFG", .u64, 0, .rwl, 1, 4, .none_, 0x8401000100001400, true, 0, 0xffffffffffffffff, false, [], 0x87ffffff0000ff00⟩,
  ⟨0x61d, 0x61d, 1, 1, "TMP_SRC_CFG", .u64, 0, .rwl, 1, 4, .none_, 0x8401000100001400, true, 0, 0xffffffffffffffff, false, [], 0x87ffffff0000ff00⟩]

/-- Objects of the area at index 0x0600 (R559). -/
def area06b : List ObjDesc := [
  ⟨0x61e, 0x61e, 1, 1, "TMP_SRC_CFG", .u64, 0, .rwl, 1, 4, .none_, 0x8502000a00000100, true, 0, 0xffffffffffffffff, false, [], 0x87ffffff0000ff00⟩,
  ⟨0x61f, 0x61f, 1, 1, "TMP_SRC_CFG", .u64, 0, .rwl, 1, 4, .none_, 0x8502000a00000100, true, 0, 0xffffffffffffffff, false, [], 0x87ffffff0000ff00⟩,
  ⟨0x620, 0x620, 1, 1, "TMP_SRC_CFG", .u64, 0, .rwl, 1, 4, .none_, 0x8501000100000000, true, 0, 0xffffffffffffffff, false, [], 0x87ffffff0000ff00⟩,
  ⟨0x621, 0x621, 1, 1, "TMP_SRC_CFG", .u64, 0, .rwl, 1, 4, .none_, 0x820303e800000000, true, 0, 0xffffffffffffffff, false, [], 0x87ffffff0000ff00⟩,
  ⟨0x622, 0x622, 1, 1, "TMP_SRC_CFG", .u64, 0, .rwl, 1, 4, .none_, 0x8303ea6000000000, true, 0, 0xffffffffffffffff, false, [], 0x87ffffff0000ff00⟩,
  ⟨0x623, 0x623, 1, 1, "TMP_SRC_CFG", .u64, 0, .rwl, 1, 4, .none_, 0x8201000100000000, true, 0, 0xffffffffffffffff, false, [], 0x87ffffff0000ff00⟩,
  ⟨0x624, 0x624, 1, 1, "TMP_SRC_CFG", .u64, 0, .rwl, 1, 4, .none_, 0x8001000100000000, true, 0, 0xffffffffffffffff, false, [], 0x87ffffff0000ff00⟩,
  ⟨0x625, 0x625, 1, 1, "TMP_SRC_CFG", .u64, 0, .rwl, 1, 4, .none_, 0x8001000100000000, true, 0, 0xffffffffffffffff, false, [], 0x87ffffff0000ff00⟩,
  ⟨0x626, 0x626, 1, 1, "TMP_SRC_CFG", .u64, 0, .rwl, 1, 4, .none_, 0x8501000100000100, true, 0, 0xffffffffffffffff, false, [], 0x87ffffff0000ff00⟩,
  ⟨0x627, 0x627, 1, 1, "TMP_SRC_CFG", .u64, 0, .rwl, 1, 4, .none_, 0x8301000100000000, true, 0, 0xffffffffffffffff, false, [], 0x87ffffff0000ff00⟩,
  ⟨0x610, 0x627, 2, 2, "TMP_SRC_EVENTS", .u32, 0, .ro, 1, 1, .none_, 0, false, 0, 0xffffffff, false, [], 0⟩,
  ⟨0x610, 0x627, 3, 3, "TMP_SRC_ALARMS", .u32, 0, .ro, 1, 1, .none_, 0, false, 0, 0xffffffff, false, [], 0⟩,
  ⟨0x610, 0x627, 4, 4, "TMP_SRC_LAST", .time64, 0, .ro, 1, 1, .none_, 0, false, 0, 0xffffffffffffffff, false, [], 0⟩,
  ⟨0x610, 0x627, 5, 5, "TMP_SRC_FLAGS", .u8, 0, .ro, 1, 1, .none_, 0, false, 0, 255, false, [], 0⟩,
  ⟨0x630, 0x630, 1, 1, "TMP_QUORUM_K", .u8, 0, .rwl, 1, 0, .provision, 2, true, 1, 16, false, [], 0⟩,
  ⟨0x630, 0x630, 2, 2, "TMP_OFFICERS", .u8, 0, .ro, 1, 1, .none_, 0, false, 0, 255, false, [], 0⟩,
  ⟨0x630, 0x630, 3, 3, "TMP_QUORUM_STATE", .u8, 0, .ro, 1, 1, .none_, 0, false, 0, 255, false, [], 0⟩,
  ⟨0x630, 0x630, 4, 4, "TMP_QUORUM_ACT", .bytes, 8, .ro, 1, 1, .none_, 0, false, 0, 0, false, [], 0⟩,
  ⟨0x630, 0x630, 5, 5, "TMP_QUORUM_CANCEL", .u8, 0, .cmd, 4, 4, .none_, 0, false, 1, 1, false, [], 0⟩,
  ⟨0x630, 0x630, 6, 6, "TMP_CARD_STATE", .u8, 0, .ro, 1, 1, .none_, 0, false, 0, 255, false, [], 0⟩,
  ⟨0x630, 0x630, 7, 7, "TMP_CARD_IDLE", .u16, 0, .rw, 1, 4, .none_, 600, true, 30, 0xe10, false, [], 0⟩,
  ⟨0x630, 0x630, 8, 8, "TMP_CARD_OFFICER", .u8, 0, .ro, 1, 1, .none_, 255, false, 0, 255, false, [], 0⟩,
  ⟨0x640, 0x64f, 1, 1, "TMP_OFF_KEY_ID", .bytes, 32, .rw, 1, 4, .enrol, 0, true, 0, 0, false, [], 0⟩,
  ⟨0x640, 0x64f, 2, 2, "TMP_OFF_LABEL", .string, 32, .rw, 1, 4, .enrol, 0, true, 0, 0, false, [], 0⟩,
  ⟨0x640, 0x64f, 3, 3, "TMP_OFF_LAST", .time64, 0, .ro, 1, 1, .none_, 0, false, 0, 0xffffffffffffffff, false, [], 0⟩]

/-- Objects of the area at index 0x0700 (R616). -/
def area07a : List ObjDesc := [
  ⟨0x700, 0x700, 1, 1, "UPD_CASTON_PHASE", .u8, 0, .ro, 1, 1, .none_, 0, false, 0, 255, false, [], 0⟩,
  ⟨0x700, 0x700, 2, 2, "UPD_CASTON_US", .u32, 0, .ro, 1, 1, .none_, 0, false, 0, 0xffffffff, false, [], 0⟩,
  ⟨0x700, 0x700, 3, 3, "UPD_BOOT_AREA", .u8, 0, .ro, 1, 1, .none_, 0, false, 0, 255, false, [], 0⟩,
  ⟨0x700, 0x700, 4, 4, "UPD_BOOT_COUNT", .u64, 0, .ro, 1, 1, .none_, 0, false, 0, 0xffffffffffffffff, false, [], 0⟩,
  ⟨0x700, 0x700, 5, 5, "UPD_RUNNING_VERSION", .u32, 0, .ro, 1, 1, .none_, 0, false, 0, 0xffffffff, false, [], 0⟩,
  ⟨0x700, 0x700, 6, 6, "UPD_SETTINGS_FORMAT", .u16, 0, .ro, 1, 1, .none_, 0, false, 0, 0xffff, false, [], 0⟩,
  ⟨0x700, 0x700, 7, 7, "UPD_ANCHOR_ID", .bytes, 32, .ro, 1, 1, .none_, 0, false, 0, 0, false, [], 0⟩,
  ⟨0x700, 0x700, 8, 8, "UPD_FALLBACK_OK", .bool, 0, .ro, 1, 1, .none_, 0, false, 0, 1, false, [], 0⟩,
  ⟨0x701, 0x701, 1, 1, "UPD_STATE", .u8, 0, .ro, 1, 1, .none_, 0, false, 0, 255, false, [], 0⟩,
  ⟨0x701, 0x701, 2, 2, "UPD_STAGE_BEGIN", .u8, 0, .cmd, 6, 6, .none_, 0, false, 1, 1, false, [], 0⟩,
  ⟨0x701, 0x701, 3, 3, "UPD_STAGE_CHUNK", .bytes, 65536, .wo, 6, 6, .none_, 0, false, 0, 0, false, [], 0⟩,
  ⟨0x701, 0x701, 4, 4, "UPD_STAGED", .u32, 0, .ro, 1, 1, .none_, 0, false, 0, 0xffffffff, false, [], 0⟩,
  ⟨0x701, 0x701, 5, 5, "UPD_VERIFY", .u32, 0, .cmd, 6, 6, .none_, 0, false, 0, 0xffffffff, false, [], 0⟩,
  ⟨0x701, 0x701, 6, 6, "UPD_ACTIVATE_AT", .time64, 0, .cmd, 6, 6, .none_, 0, false, 0, 0xffffffffffffffff, false, [], 0⟩,
  ⟨0x701, 0x701, 7, 7, "UPD_PENDING_AT", .time64, 0, .ro, 1, 1, .none_, 0, false, 0, 0xffffffffffffffff, false, [], 0⟩,
  ⟨0x701, 0x701, 8, 8, "UPD_CANCEL", .u8, 0, .cmd, 6, 6, .none_, 0, false, 1, 1, false, [], 0⟩,
  ⟨0x701, 0x701, 9, 9, "UPD_CONFIRM", .u8, 0, .cmd, 6, 6, .none_, 0, false, 1, 1, false, [], 0⟩,
  ⟨0x701, 0x701, 10, 10, "UPD_TRIAL_WINDOW", .u32, 0, .rw, 6, 6, .none_, 900, true, 60, 0x15180, false, [], 0⟩,
  ⟨0x701, 0x701, 11, 11, "UPD_TRIAL_LEFT", .u32, 0, .ro, 1, 1, .none_, 0, false, 0, 0xffffffff, false, [], 0⟩,
  ⟨0x701, 0x701, 12, 12, "UPD_LAST_ERR", .bytes, 8, .ro, 1, 1, .none_, 0, false, 0, 0, false, [], 0⟩,
  ⟨0x701, 0x701, 13, 13, "UPD_STAGED_VERSION", .u32, 0, .ro, 1, 1, .none_, 0, false, 0, 0xffffffff, false, [], 0⟩,
  ⟨0x701, 0x701, 14, 14, "UPD_COPY_MS", .u32, 0, .ro, 1, 1, .none_, 0, false, 0, 0xffffffff, false, [], 0⟩,
  ⟨0x702, 0x702, 0, 0, "UPD_SECVER", .array, 2, .ro, 1, 1, .none_, 10, false, 0, 0, false, [], 0⟩,
  ⟨0x702, 0x702, 1, 10, "UPD_SECVER", .u8, 0, .ro, 1, 1, .none_, 0, false, 0, 255, false, [], 0⟩,
  ⟨0x703, 0x703, 0, 0, "UPD_COMP_STATE", .array, 2, .ro, 1, 1, .none_, 10, false, 0, 0, false, [], 0⟩,
  ⟨0x703, 0x703, 1, 10, "UPD_COMP_STATE", .u8, 0, .ro, 1, 1, .none_, 0, false, 0, 255, false, [], 0⟩]

/-- Objects of the area at index 0x0800 (R122). -/
def area08a : List ObjDesc := [
  ⟨0x800, 0x800, 1, 1, "ISO_REFUSALS_TOTAL", .u64, 0, .ro, 1, 1, .none_, 0, false, 0, 0xffffffffffffffff, false, [], 0⟩,
  ⟨0x800, 0x800, 2, 2, "ISO_LOG_NEWEST", .u32, 0, .ro, 1, 1, .none_, 0, false, 0, 0xffffffff, false, [], 0⟩,
  ⟨0x800, 0x800, 3, 3, "ISO_LOG_SEL", .u32, 0, .rw, 6, 6, .none_, 0, false, 0, 0xffffffff, false, [], 0⟩,
  ⟨0x800, 0x800, 4, 4, "ISO_LOG_ENTRY", .bytes, 32, .ro, 6, 6, .none_, 0, false, 0, 0, false, [], 0⟩,
  ⟨0x800, 0x800, 5, 5, "ISO_LOG_OVERWRITTEN", .u32, 0, .ro, 1, 1, .none_, 0, false, 0, 0xffffffff, false, [], 0⟩,
  ⟨0x801, 0x801, 1, 1, "ISO_FENCE_THRESHOLD", .u16, 0, .rw, 6, 6, .none_, 16, true, 0, 0xffff, false, [], 0⟩,
  ⟨0x801, 0x801, 2, 2, "ISO_FENCE_WINDOW", .u32, 0, .rw, 6, 6, .none_, 0x3e8, true, 1, 0xfde8, false, [], 0⟩,
  ⟨0x802, 0x802, 0, 0, "ISO_CLASS_REFUSALS", .array, 4, .ro, 1, 1, .none_, 9, false, 0, 0, false, [], 0⟩,
  ⟨0x802, 0x802, 1, 9, "ISO_CLASS_REFUSALS", .u32, 0, .ro, 1, 1, .none_, 0, false, 0, 0xffffffff, false, [], 0⟩,
  ⟨0x810, 0x818, 1, 48, "ISO_RULE", .u64, 0, .rwl, 1, 16, .none_, 0, true, 0, 0xffffffffffffffff, false, [], 0xf8ffffff00ffffff⟩,
  ⟨0x810, 0x818, 49, 64, "ISO_RULE", .u64, 0, .rwl, 1, 20, .none_, 0, true, 0, 0xffffffffffffffff, false, [], 0xf8ffffff00ffffff⟩,
  ⟨0x819, 0x819, 1, 1, "ISO_RULE_COMMIT", .u8, 0, .cmd, 4, 4, .none_, 0, false, 0, 8, false, [], 0⟩,
  ⟨0x819, 0x819, 2, 2, "ISO_RULE_COMMIT_STATE", .u8, 0, .ro, 1, 1, .none_, 0, false, 0, 255, false, [], 0⟩,
  ⟨0x819, 0x819, 3, 3, "ISO_RULE_REFUSED", .u64, 0, .ro, 1, 1, .none_, 0, false, 0, 0xffffffffffffffff, false, [], 0⟩,
  ⟨0x819, 0x819, 4, 4, "ISO_RULE_OVERLAP", .u64, 0, .ro, 1, 1, .none_, 0, false, 0, 0xffffffffffffffff, false, [], 0⟩,
  ⟨0x81a, 0x81a, 1, 1, "ISO_TAG_QUERY", .u32, 0, .cmd, 6, 6, .none_, 0, false, 0, 0xffffffff, false, [], 0⟩,
  ⟨0x81a, 0x81a, 2, 2, "ISO_TAG_RESULT", .colour16, 0, .ro, 6, 6, .none_, 0, false, 0, 0xffff, false, [], 0⟩]

/-- Objects of the area at index 0x0900 (R129, R164). -/
def area09a : List ObjDesc := [
  ⟨0x900, 0x900, 1, 1, "RING_ENTRIES_FREE", .u16, 0, .ro, 1, 1, .none_, 0x2000, false, 0, 0xffff, false, [], 0⟩,
  ⟨0x900, 0x900, 2, 2, "RING_PAGES_FREE", .u16, 0, .ro, 1, 1, .none_, 0x2000, false, 0, 0xffff, false, [], 0⟩,
  ⟨0x900, 0x900, 3, 3, "RING_POLL_MAX", .u32, 0, .rw, 2, 2, .none_, 0x1f40, true, 500, 0x7d00, false, [], 0⟩,
  ⟨0x900, 0x900, 4, 4, "RING_STARVE_LIMIT", .u32, 0, .rw, 2, 2, .none_, 0x3e8, true, 10, 0xfde8, false, [], 0⟩,
  ⟨0x900, 0x900, 5, 5, "RING_BUF_FREE", .u16, 0, .ro, 1, 1, .none_, 0, false, 0, 0xffff, false, [], 0⟩,
  ⟨0x900, 0x900, 6, 6, "RING_STALLED_NOW", .u16, 0, .ro, 1, 1, .none_, 0, false, 0, 0xffff, false, [], 0⟩,
  ⟨0x900, 0x900, 7, 7, "RING_GRAFT_INFLIGHT", .u16, 0, .ro, 1, 1, .none_, 0, false, 0, 0xffff, false, [], 0⟩,
  ⟨0x900, 0x900, 8, 8, "RING_POLL_LATE_TOTAL", .u64, 0, .ro, 1, 1, .none_, 0, false, 0, 0xffffffffffffffff, false, [], 0⟩,
  ⟨0x910, 0x91f, 64, 64, "RING_ENABLE", .bool, 0, .rw, 2, 2, .none_, 0, false, 0, 1, false, [], 0⟩,
  ⟨0x910, 0x91f, 65, 65, "RING_SUB_BASE", .u64, 0, .rw, 2, 2, .none_, 0, true, 0, 0xffffffffffffffff, false, [], 0⟩,
  ⟨0x910, 0x91f, 66, 66, "RING_CPL_BASE", .u64, 0, .rw, 2, 2, .none_, 0, true, 0, 0xffffffffffffffff, false, [], 0⟩,
  ⟨0x910, 0x91f, 67, 67, "RING_SIZE", .u16, 0, .rw, 2, 2, .none_, 256, true, 0, 0xffff, false, [16, 32, 64, 128, 256, 512, 1024, 2048, 4096], 0⟩,
  ⟨0x910, 0x91f, 68, 68, "RING_FORMAT", .u8, 0, .rw, 2, 2, .none_, 0, true, 0, 1, false, [], 0⟩,
  ⟨0x910, 0x91f, 69, 69, "RING_POLL_ACTIVE", .u32, 0, .rw, 2, 2, .none_, 8, true, 1, 0x1fbd0, false, [], 0⟩,
  ⟨0x910, 0x91f, 70, 70, "RING_POLL_IDLE", .u32, 0, .rw, 2, 2, .none_, 0x7d0, true, 1, 0x1fbd0, false, [], 0⟩,
  ⟨0x910, 0x91f, 71, 71, "RING_PREFETCH", .u8, 0, .rw, 2, 2, .none_, 8, true, 1, 32, false, [], 0⟩,
  ⟨0x910, 0x91f, 72, 72, "RING_WEIGHT", .u8, 0, .rw, 2, 2, .none_, 16, true, 1, 255, false, [], 0⟩,
  ⟨0x910, 0x91f, 73, 73, "RING_BURST", .u8, 0, .rw, 2, 2, .none_, 8, true, 1, 64, false, [], 0⟩,
  ⟨0x910, 0x91f, 74, 74, "RING_PRIO_FLOOR", .u8, 0, .rw, 2, 2, .none_, 2, true, 0, 3, false, [], 0⟩,
  ⟨0x910, 0x91f, 75, 75, "RING_VECTOR", .u16, 0, .rw, 2, 2, .none_, 0, true, 0, 0x7ff, false, [], 0⟩,
  ⟨0x910, 0x91f, 76, 76, "RING_IRQ_EN", .bool, 0, .rw, 2, 2, .none_, 0, true, 0, 1, false, [], 0⟩,
  ⟨0x910, 0x91f, 77, 77, "RING_COAL_COUNT", .u8, 0, .rw, 2, 2, .none_, 1, true, 1, 255, false, [], 0⟩,
  ⟨0x910, 0x91f, 78, 78, "RING_COAL_DELAY", .u16, 0, .rw, 2, 2, .none_, 0, true, 0, 0xffff, false, [], 0⟩,
  ⟨0x910, 0x91f, 79, 79, "RING_CPL_ORDERED", .bool, 0, .rw, 2, 2, .none_, 0, true, 0, 1, false, [], 0⟩,
  ⟨0x910, 0x91f, 80, 80, "RING_STATE", .u8, 0, .ro, 1, 1, .none_, 0, false, 0, 255, false, [], 0⟩,
  ⟨0x910, 0x91f, 81, 81, "RING_NEXT", .u16, 0, .ro, 1, 1, .none_, 0, false, 0, 0xffff, false, [], 0⟩,
  ⟨0x910, 0x91f, 82, 82, "RING_CPL_NEXT", .u16, 0, .ro, 1, 1, .none_, 0, false, 0, 0xffff, false, [], 0⟩,
  ⟨0x910, 0x91f, 83, 83, "RING_HELD", .u8, 0, .ro, 1, 1, .none_, 0, false, 0, 255, false, [], 0⟩,
  ⟨0x910, 0x91f, 84, 84, "RING_JOBS", .u64, 0, .ro, 1, 1, .none_, 0, false, 0, 0xffffffffffffffff, false, [], 0⟩,
  ⟨0x910, 0x91f, 85, 85, "RING_STALLS", .u32, 0, .ro, 1, 1, .none_, 0, false, 0, 0xffffffff, false, [], 0⟩]

/-- Objects of the area at index 0x0900 (R129). -/
def area09b : List ObjDesc := [
  ⟨0x910, 0x91f, 86, 86, "RING_STALL_US", .u64, 0, .ro, 1, 1, .none_, 0, false, 0, 0xffffffffffffffff, false, [], 0⟩,
  ⟨0x910, 0x91f, 87, 87, "RING_DISCARDS", .u64, 0, .ro, 1, 1, .none_, 0, false, 0, 0xffffffffffffffff, false, [], 0⟩,
  ⟨0x910, 0x91f, 88, 88, "RING_BAD_DESC", .u32, 0, .ro, 1, 1, .none_, 0, false, 0, 0xffffffff, false, [], 0⟩,
  ⟨0x910, 0x91f, 89, 89, "RING_POLL_LATE", .u32, 0, .ro, 1, 1, .none_, 0, false, 0, 0xffffffff, false, [], 0⟩,
  ⟨0x910, 0x91f, 90, 90, "RING_PRIO_CLAMPED", .u32, 0, .ro, 1, 1, .none_, 0, false, 0, 0xffffffff, false, [], 0⟩]

/-- Objects of the area at index 0x0A00 (R225, R261). -/
def area0Aa : List ObjDesc := [
  ⟨0xa00, 0xa00, 0, 0, "PKE_SLICE_STATE", .array, 2, .ro, 1, 1, .none_, 36, false, 0, 0, false, [], 0⟩,
  ⟨0xa00, 0xa00, 1, 36, "PKE_SLICE_STATE", .u8, 0, .ro, 1, 1, .none_, 0, false, 0, 255, false, [], 0⟩,
  ⟨0xa01, 0xa01, 0, 0, "PKE_SLICE_JOBS", .array, 5, .ro, 1, 1, .none_, 36, false, 0, 0, false, [], 0⟩,
  ⟨0xa01, 0xa01, 1, 36, "PKE_SLICE_JOBS", .u64, 0, .ro, 1, 1, .none_, 0, false, 0, 0xffffffffffffffff, false, [], 0⟩,
  ⟨0xa02, 0xa02, 1, 4, "PKE_PATCH_STATE", .u8, 0, .ro, 1, 1, .none_, 0, false, 0, 255, false, [], 0⟩,
  ⟨0xa02, 0xa02, 5, 8, "PKE_PATCH_VERSION", .u32, 0, .ro, 1, 1, .none_, 0, false, 0, 0xffffffff, false, [], 0⟩,
  ⟨0xa03, 0xa03, 1, 1, "PKE_SEG_QUANTUM", .u8, 0, .rw, 2, 2, .none_, 20, true, 1, 255, false, [], 0⟩,
  ⟨0xa03, 0xa03, 2, 2, "PKE_PARKS", .u64, 0, .ro, 1, 1, .none_, 0, false, 0, 0xffffffffffffffff, false, [], 0⟩,
  ⟨0xa03, 0xa03, 3, 3, "PKE_PARK_AUTH_ERR", .u32, 0, .ro, 1, 1, .none_, 0, false, 0, 0xffffffff, false, [], 0⟩,
  ⟨0xa04, 0xa04, 1, 1, "PKE_FAULTS", .u32, 0, .ro, 1, 1, .none_, 0, false, 0, 0xffffffff, false, [], 0⟩,
  ⟨0xa04, 0xa04, 2, 2, "PKE_ABORTS", .u32, 0, .ro, 1, 1, .none_, 0, false, 0, 0xffffffff, false, [], 0⟩,
  ⟨0xa05, 0xa05, 1, 1, "PKE_DISPATCH_SEL", .u16, 0, .rw, 6, 6, .none_, 0, false, 0, 0xffff, false, [], 0x3ff⟩,
  ⟨0xa05, 0xa05, 2, 2, "PKE_DISPATCH_ENTRY", .u32, 0, .ro, 6, 6, .none_, 0, false, 0, 0xffffffff, false, [], 0⟩,
  ⟨0xa10, 0xa10, 0, 0, "ARB_MODE", .array, 2, .ro, 1, 1, .none_, 16, false, 0, 0, false, [], 0⟩,
  ⟨0xa10, 0xa10, 1, 16, "ARB_MODE", .u8, 0, .rw, 2, 2, .none_, 0, true, 0, 1, false, [], 0⟩,
  ⟨0xa11, 0xa11, 0, 0, "ARB_WDOG", .array, 3, .ro, 1, 1, .none_, 16, false, 0, 0, false, [], 0⟩,
  ⟨0xa11, 0xa11, 1, 16, "ARB_WDOG", .u16, 0, .rw, 2, 2, .none_, 0x1000, true, 256, 0xffff, false, [], 0⟩,
  ⟨0xa12, 0xa12, 0, 0, "ARB_WDOG_BITES", .array, 4, .ro, 1, 1, .none_, 16, false, 0, 0, false, [], 0⟩,
  ⟨0xa12, 0xa12, 1, 16, "ARB_WDOG_BITES", .u32, 0, .ro, 1, 1, .none_, 0, false, 0, 0xffffffff, false, [], 0⟩,
  ⟨0xa13, 0xa13, 0, 0, "ARB_PREEMPTS", .array, 5, .ro, 1, 1, .none_, 16, false, 0, 0, false, [], 0⟩,
  ⟨0xa13, 0xa13, 1, 16, "ARB_PREEMPTS", .u64, 0, .ro, 1, 1, .none_, 0, false, 0, 0xffffffffffffffff, false, [], 0⟩,
  ⟨0xa14, 0xa14, 0, 0, "ARB_BACKOFFS", .array, 5, .ro, 1, 1, .none_, 16, false, 0, 0, false, [], 0⟩,
  ⟨0xa14, 0xa14, 1, 16, "ARB_BACKOFFS", .u64, 0, .ro, 1, 1, .none_, 0, false, 0, 0xffffffffffffffff, false, [], 0⟩,
  ⟨0xa15, 0xa15, 1, 1, "ARB_CLASS_TSUOW", .u8, 0, .rw, 2, 2, .none_, 2, true, 0, 3, false, [], 0⟩,
  ⟨0xa15, 0xa15, 2, 2, "ARB_CLASS_DIGEST", .u8, 0, .rw, 2, 2, .none_, 2, true, 0, 3, false, [], 0⟩,
  ⟨0xa15, 0xa15, 3, 3, "ARB_CLASS_STREAM", .u8, 0, .rw, 2, 2, .none_, 1, true, 0, 3, false, [], 0⟩,
  ⟨0xa16, 0xa16, 1, 1, "ARB_WDOG_LAST", .bytes, 16, .ro, 6, 6, .none_, 0, false, 0, 0, false, [], 0⟩,
  ⟨0xa20, 0xa20, 1, 1, "PKE_LAT_SHARES_MIN", .u8, 0, .rwl, 1, 4, .none_, 2, true, 2, 3, false, [], 0⟩,
  ⟨0xa20, 0xa20, 2, 2, "PKE_SS_CLEAR", .bool, 0, .rwl, 1, 4, .none_, 0, true, 0, 1, false, [], 0⟩,
  ⟨0xa20, 0xa20, 3, 3, "PKE_LAT_LOCK", .u8, 0, .cmd, 4, 4, .none_, 0, false, 1, 1, false, [], 0⟩]

/-- Objects of the area at index 0x0A00 (R261, R300, R328). -/
def area0Ab : List ObjDesc := [
  ⟨0xa21, 0xa21, 1, 1, "PKE_KEM_REJECTS", .u64, 0, .ro, 6, 6, .none_, 0, false, 0, 0xffffffffffffffff, false, [], 0⟩,
  ⟨0xa21, 0xa21, 2, 2, "PKE_SIGN_ITER_CAP", .u32, 0, .ro, 1, 1, .none_, 0, false, 0, 0xffffffff, false, [], 0⟩,
  ⟨0xa21, 0xa21, 3, 3, "PKE_SIGN_ITER_MAX", .u16, 0, .ro, 1, 1, .none_, 0, false, 0, 0xffff, false, [], 0⟩,
  ⟨0xa30, 0xa30, 1, 1, "PKE_HTS_KEYS", .u16, 0, .ro, 1, 1, .none_, 0, false, 0, 0xffff, false, [], 0⟩,
  ⟨0xa30, 0xa30, 2, 2, "PKE_HTS_SEL", .handle16, 0, .rw, 6, 6, .none_, 0, false, 0, 0xffff, false, [], 0⟩,
  ⟨0xa30, 0xa30, 3, 3, "PKE_HTS_NEXT", .u64, 0, .ro, 6, 6, .none_, 0, false, 0, 0xffffffffffffffff, false, [], 0⟩,
  ⟨0xa30, 0xa30, 4, 4, "PKE_HTS_CAP", .u64, 0, .ro, 6, 6, .none_, 0, false, 0, 0xffffffffffffffff, false, [], 0⟩,
  ⟨0xa30, 0xa30, 5, 5, "PKE_HTS_STATE", .u8, 0, .ro, 6, 6, .none_, 0, false, 0, 255, false, [], 0⟩,
  ⟨0xa30, 0xa30, 6, 6, "PKE_HTS_WARN", .u8, 0, .rw, 2, 2, .none_, 90, true, 1, 100, false, [], 0⟩,
  ⟨0xa30, 0xa30, 7, 7, "PKE_HTS_WARN_LAST", .handle16, 0, .ro, 6, 6, .none_, 0, false, 0, 0xffff, false, [], 0⟩,
  ⟨0xa30, 0xa30, 8, 8, "PKE_HTS_WARNED", .u32, 0, .ro, 6, 6, .none_, 0, false, 0, 0xffffffff, false, [], 0⟩,
  ⟨0xa30, 0xa30, 9, 9, "PKE_HTS_SKIPPED", .u64, 0, .ro, 1, 1, .none_, 0, false, 0, 0xffffffffffffffff, false, [], 0⟩,
  ⟨0xa31, 0xa31, 1, 1, "PKE_CODE_REJECTS", .u64, 0, .ro, 6, 6, .none_, 0, false, 0, 0xffffffffffffffff, false, [], 0⟩,
  ⟨0xa31, 0xa31, 2, 2, "PKE_MCE_ATTEMPTS_MAX", .u16, 0, .ro, 1, 1, .none_, 0, false, 0, 0xffff, false, [], 0⟩,
  ⟨0xa40, 0xa40, 1, 1, "PKE_XZERO_OFF", .bytes, 512, .rw, 6, 6, .none_, 0, true, 0, 0, false, [], 0⟩,
  ⟨0xa40, 0xa40, 2, 2, "PKE_XZERO_OFF_MGMT", .bool, 0, .rw, 6, 6, .none_, 0, true, 0, 1, false, [], 0⟩,
  ⟨0xa40, 0xa40, 3, 3, "PKE_XZERO_HITS", .u64, 0, .ro, 6, 6, .none_, 0, false, 0, 0xffffffffffffffff, false, [], 0⟩,
  ⟨0xa41, 0xa41, 1, 1, "PKE_RSA_T_MAX", .u32, 0, .ro, 1, 1, .none_, 0, false, 0, 0xffffffff, false, [], 0⟩,
  ⟨0xa41, 0xa41, 2, 2, "PKE_OAEP_FAILS", .u64, 0, .ro, 6, 6, .none_, 0, false, 0, 0xffffffffffffffff, false, [], 0⟩]

/-- Objects of the area at index 0x0B00 (R390). -/
def area0Ba : List ObjDesc := [
  ⟨0xb00, 0xb00, 1, 1, "DIG_CTX_LIVE", .u16, 0, .ro, 1, 1, .none_, 0, false, 0, 0xffff, false, [], 0⟩,
  ⟨0xb00, 0xb00, 2, 2, "DIG_CTX_SAVED", .u16, 0, .ro, 1, 1, .none_, 0, false, 0, 0xffff, false, [], 0⟩,
  ⟨0xb00, 0xb00, 3, 3, "DIG_QUANTUM", .u16, 0, .rw, 2, 2, .none_, 16, true, 1, 256, false, [], 0⟩,
  ⟨0xb00, 0xb00, 4, 4, "DIG_EPOCH", .u32, 0, .ro, 1, 1, .none_, 0, false, 0, 0xffffffff, false, [], 0⟩,
  ⟨0xb00, 0xb00, 5, 5, "DIG_LEN_MISMATCH", .u32, 0, .ro, 1, 1, .none_, 0, false, 0, 0xffffffff, false, [], 0⟩,
  ⟨0xb00, 0xb00, 6, 6, "DIG_EARLY_READS", .u32, 0, .ro, 1, 1, .none_, 0, false, 0, 0xffffffff, false, [], 0⟩,
  ⟨0xb00, 0xb00, 7, 7, "DIG_LOAD_FAILS", .u32, 0, .ro, 6, 6, .none_, 0, false, 0, 0xffffffff, false, [], 0⟩,
  ⟨0xb01, 0xb01, 0, 0, "DIG_UNIT_JOBS", .array, 3, .ro, 1, 1, .none_, 4, false, 0, 0, false, [], 0⟩,
  ⟨0xb01, 0xb01, 1, 4, "DIG_UNIT_JOBS", .u16, 0, .ro, 1, 1, .none_, 0, false, 0, 0xffff, false, [], 0⟩,
  ⟨0xb10, 0xb10, 0, 0, "DIG_MEAS", .array, 7, .ro, 1, 1, .none_, 32, false, 0, 0, false, [], 0⟩,
  ⟨0xb10, 0xb10, 1, 32, "DIG_MEAS", .bytes, 48, .ro, 1, 1, .none_, 0, false, 0, 0, false, [], 0⟩,
  ⟨0xb11, 0xb11, 0, 0, "DIG_MEAS_OWNER", .array, 11, .ro, 1, 1, .none_, 32, false, 0, 0, false, [], 0⟩,
  ⟨0xb11, 0xb11, 1, 8, "DIG_MEAS_OWNER", .colour16, 0, .rw, 1, 0, .none_, 0, false, 0, 0xffff, false, [], 0⟩,
  ⟨0xb11, 0xb11, 9, 16, "DIG_MEAS_OWNER", .colour16, 0, .rw, 1, 0, .none_, 2, false, 0, 0xffff, false, [], 0⟩,
  ⟨0xb11, 0xb11, 17, 32, "DIG_MEAS_OWNER", .colour16, 0, .rw, 1, 4, .none_, 0xffff, false, 0, 0xffff, false, [], 0⟩]

/-- Objects of the area at index 0x0C00 (R361). -/
def area0Ca : List ObjDesc := [
  ⟨0xc00, 0xc00, 1, 1, "KREG_UNITS_FREE", .u32, 0, .ro, 1, 1, .none_, 0xa000, false, 0, 0xffffffff, false, [], 0⟩,
  ⟨0xc00, 0xc00, 2, 2, "KREG_HANDLES_FREE", .u32, 0, .ro, 1, 1, .none_, 0xffff, false, 0, 0xffffffff, false, [], 0⟩,
  ⟨0xc00, 0xc00, 3, 3, "KREG_REFRESHES", .u64, 0, .ro, 1, 1, .none_, 0, false, 0, 0xffffffffffffffff, false, [], 0⟩,
  ⟨0xc00, 0xc00, 4, 4, "KREG_RELOCATIONS", .u32, 0, .ro, 1, 1, .none_, 0, false, 0, 0xffffffff, false, [], 0⟩,
  ⟨0xc01, 0xc01, 1, 1, "KREG_RETIRE_GRACE", .u32, 0, .rw, 6, 6, .none_, 0, true, 0, 0x93a80, false, [], 0⟩,
  ⟨0xc02, 0xc02, 1, 1, "KREG_SEL", .handle16, 0, .rw, 6, 6, .none_, 0, false, 0, 0xffff, false, [], 0⟩,
  ⟨0xc02, 0xc02, 2, 2, "KREG_INFO", .bytes, 18, .ro, 6, 6, .none_, 0, false, 0, 0, false, [], 0⟩,
  ⟨0xc03, 0xc03, 1, 1, "KREG_ATTEST_PK_DSA", .bytes, 2592, .ro, 1, 1, .none_, 0, false, 0, 0, false, [], 0⟩,
  ⟨0xc03, 0xc03, 2, 2, "KREG_ATTEST_PK_EC", .bytes, 97, .ro, 1, 1, .none_, 0, false, 0, 0, false, [], 0⟩,
  ⟨0xc10, 0xc10, 1, 1, "KREG_FILL_TARGET", .bytes, 8, .rw, 4, 4, .none_, 0, false, 0, 0, false, [], 0xffff01ffffffffff⟩,
  ⟨0xc10, 0xc10, 2, 2, "KREG_FILL_START", .u8, 0, .cmd, 4, 4, .none_, 0, false, 1, 1, false, [], 0⟩,
  ⟨0xc10, 0xc10, 3, 3, "KREG_FILL_STATE", .u8, 0, .ro, 1, 1, .none_, 0, false, 0, 255, false, [], 0⟩,
  ⟨0xc10, 0xc10, 4, 4, "KREG_FILL_HANDLE", .handle16, 0, .ro, 6, 6, .none_, 0, false, 0, 0xffff, false, [], 0⟩,
  ⟨0xc10, 0xc10, 5, 5, "KREG_FILL_KCV", .bytes, 4, .ro, 6, 6, .none_, 0, false, 0, 0, false, [], 0⟩,
  ⟨0xc20, 0xc20, 1, 1, "KREG_ARCH_STATE", .u8, 0, .ro, 1, 1, .none_, 0, false, 0, 255, false, [], 0⟩,
  ⟨0xc20, 0xc20, 2, 2, "KREG_ARCH_RECORDS", .u32, 0, .ro, 1, 1, .none_, 0, false, 0, 0xffffffff, false, [], 0⟩,
  ⟨0xc20, 0xc20, 3, 3, "KREG_ARCH_USED", .u32, 0, .ro, 1, 1, .none_, 0, false, 0, 0xffffffff, false, [], 0⟩,
  ⟨0xc20, 0xc20, 4, 4, "KREG_ARCH_COMPACT", .u8, 0, .cmd, 2, 2, .none_, 0, false, 1, 1, false, [], 0⟩,
  ⟨0xc20, 0xc20, 5, 5, "KREG_ARCH_COMPACT_MAX", .u32, 0, .rw, 2, 2, .none_, 0x15180, true, 0xe10, 0x93a80, false, [], 0⟩,
  ⟨0xc20, 0xc20, 6, 6, "KREG_ARCH_INIT", .u8, 0, .cmd, 4, 4, .none_, 0, false, 1, 1, false, [], 0⟩,
  ⟨0xc20, 0xc20, 7, 7, "KREG_ARCH_TORN", .u32, 0, .ro, 1, 1, .none_, 0, false, 0, 0xffffffff, false, [], 0⟩,
  ⟨0xc30, 0xc30, 1, 1, "LKS_EXTENTS_FREE", .u16, 0, .ro, 1, 1, .none_, 0x1000, false, 0, 0xffff, false, [], 0⟩,
  ⟨0xc30, 0xc30, 2, 2, "LKS_HANDLES_FREE", .u16, 0, .ro, 1, 1, .none_, 0x1000, false, 0, 0xffff, false, [], 0⟩,
  ⟨0xc30, 0xc30, 3, 3, "LKS_SEL", .u16, 0, .rw, 6, 6, .none_, 0, false, 0, 0xfff, false, [], 0⟩,
  ⟨0xc30, 0xc30, 4, 4, "LKS_INFO", .bytes, 16, .ro, 6, 6, .none_, 0, false, 0, 0, false, [], 0⟩]

/-- Objects of the area at index 0x0D00 (R430). -/
def area0Da : List ObjDesc := [
  ⟨0xd00, 0xd01, 1, 1, "SP_ENABLE", .bool, 0, .rw, 1, 2, .none_, 0, true, 0, 1, false, [], 0⟩,
  ⟨0xd00, 0xd01, 2, 2, "SP_LANES", .u8, 0, .rw, 1, 2, .none_, 8, true, 0, 255, false, [4, 8], 0⟩,
  ⟨0xd00, 0xd01, 3, 3, "SP_LANE_RATE", .u8, 0, .rw, 1, 2, .none_, 2, true, 0, 2, false, [], 0⟩,
  ⟨0xd00, 0xd01, 4, 4, "SP_POLARITY", .u16, 0, .rw, 1, 2, .none_, 0, true, 0, 0xffff, false, [], 0⟩,
  ⟨0xd00, 0xd01, 5, 5, "SP_STATE", .u8, 0, .ro, 1, 1, .none_, 0, false, 0, 255, false, [], 0⟩,
  ⟨0xd00, 0xd01, 6, 6, "SP_LANE_STATUS", .u16, 0, .ro, 1, 1, .none_, 0, false, 0, 0xffff, false, [], 0⟩,
  ⟨0xd00, 0xd01, 7, 7, "SP_GRAFT_CLASS", .u8, 0, .rw, 1, 2, .none_, 63, true, 0, 63, false, [], 0⟩,
  ⟨0xd00, 0xd01, 8, 8, "SP_FC_XOFF", .u32, 0, .rw, 1, 2, .none_, 0x2000, true, 0x400, 0x8000, false, [], 0⟩,
  ⟨0xd00, 0xd01, 9, 9, "SP_FC_XON", .u32, 0, .rw, 1, 2, .none_, 0x1000, true, 512, 0x7e00, false, [], 0⟩,
  ⟨0xd00, 0xd01, 10, 10, "SP_FC_STALL", .u32, 0, .rw, 1, 2, .none_, 0x2710, true, 100, 0xf4240, false, [], 0⟩,
  ⟨0xd00, 0xd01, 11, 11, "SP_FC_XOFF_IN", .u64, 0, .ro, 1, 1, .none_, 0, false, 0, 0xffffffffffffffff, false, [], 0⟩,
  ⟨0xd00, 0xd01, 12, 12, "SP_FC_XOFF_OUT", .u64, 0, .ro, 1, 1, .none_, 0, false, 0, 0xffffffffffffffff, false, [], 0⟩,
  ⟨0xd10, 0xd11, 1, 1, "SP_RX_PKTS", .u64, 0, .ro, 1, 1, .none_, 0, false, 0, 0xffffffffffffffff, false, [], 0⟩,
  ⟨0xd10, 0xd11, 2, 2, "SP_TX_PKTS", .u64, 0, .ro, 1, 1, .none_, 0, false, 0, 0xffffffffffffffff, false, [], 0⟩,
  ⟨0xd10, 0xd11, 3, 3, "SP_RX_ERR", .u64, 0, .ro, 1, 1, .none_, 0, false, 0, 0xffffffffffffffff, false, [], 0⟩,
  ⟨0xd10, 0xd11, 4, 4, "SP_RUNT", .u64, 0, .ro, 1, 1, .none_, 0, false, 0, 0xffffffffffffffff, false, [], 0⟩,
  ⟨0xd10, 0xd11, 5, 5, "SP_BAD_HDR", .u64, 0, .ro, 1, 1, .none_, 0, false, 0, 0xffffffffffffffff, false, [], 0⟩,
  ⟨0xd10, 0xd11, 6, 6, "SP_BAD_CIRCUIT", .u64, 0, .ro, 1, 1, .none_, 0, false, 0, 0xffffffffffffffff, false, [], 0⟩,
  ⟨0xd10, 0xd11, 7, 7, "SP_STATUS_TX", .u64, 0, .ro, 1, 1, .none_, 0, false, 0, 0xffffffffffffffff, false, [], 0⟩,
  ⟨0xd10, 0xd11, 8, 8, "SP_RX_OVERRUN", .u64, 0, .ro, 1, 1, .none_, 0, false, 0, 0xffffffffffffffff, false, [], 0⟩,
  ⟨0xd10, 0xd11, 9, 9, "SP_FC_STALL_DROPS", .u64, 0, .ro, 1, 1, .none_, 0, false, 0, 0xffffffffffffffff, false, [], 0⟩,
  ⟨0xd10, 0xd11, 10, 10, "SP_ALIGN_LOSS", .u32, 0, .ro, 1, 1, .none_, 0, false, 0, 0xffffffff, false, [], 0⟩,
  ⟨0xd10, 0xd11, 11, 11, "SP_DIAG_CRC_ERR", .u64, 0, .ro, 1, 1, .none_, 0, false, 0, 0xffffffffffffffff, false, [], 0⟩,
  ⟨0xd10, 0xd11, 12, 12, "SP_FAULTS", .u32, 0, .ro, 1, 1, .none_, 0, false, 0, 0xffffffff, false, [], 0⟩]

/-- Objects of the area at index 0x0E00 (R455). -/
def area0Ea : List ObjDesc := [
  ⟨0xe00, 0xe00, 1, 1, "GR_ENABLE", .bool, 0, .rw, 6, 6, .none_, 1, true, 0, 1, false, [], 0⟩,
  ⟨0xe00, 0xe00, 2, 2, "GR_FRAG_SIZE", .u16, 0, .rw, 2, 2, .none_, 0x5dc, true, 256, 0x5dc, false, [], 0⟩,
  ⟨0xe00, 0xe00, 3, 3, "GR_BUF_PAGES", .u16, 0, .rw, 2, 2, .none_, 512, true, 64, 0x800, false, [], 0⟩,
  ⟨0xe00, 0xe00, 4, 4, "GR_BUF_USED", .u16, 0, .ro, 1, 1, .none_, 0, false, 0, 0xffff, false, [], 0⟩,
  ⟨0xe00, 0xe00, 5, 5, "GR_RETRY_PAUSE", .u32, 0, .rw, 2, 2, .none_, 0x1388, true, 500, 0x927c0, false, [], 0⟩,
  ⟨0xe00, 0xe00, 6, 6, "GR_ACTIVE", .u16, 0, .ro, 1, 1, .none_, 0, false, 0, 0xffff, false, [], 0⟩,
  ⟨0xe00, 0xe00, 7, 7, "GR_EXCHANGES", .u64, 0, .ro, 1, 1, .none_, 0, false, 0, 0xffffffffffffffff, false, [], 0⟩,
  ⟨0xe00, 0xe00, 8, 8, "GR_FAILURES", .u64, 0, .ro, 1, 1, .none_, 0, false, 0, 0xffffffffffffffff, false, [], 0⟩,
  ⟨0xe00, 0xe00, 9, 9, "GR_NOBUF_DROPS", .u64, 0, .ro, 1, 1, .none_, 0, false, 0, 0xffffffffffffffff, false, [], 0⟩,
  ⟨0xe00, 0xe00, 10, 10, "GR_COLLISIONS", .u32, 0, .ro, 1, 1, .none_, 0, false, 0, 0xffffffff, false, [], 0⟩,
  ⟨0xe10, 0xe10, 1, 1, "GR_MG_SIG_DSA87", .handle16, 0, .rw, 1, 4, .none_, 0, true, 0, 0xffff, false, [], 0⟩,
  ⟨0xe10, 0xe10, 2, 2, "GR_MG_SIG_DSA65", .handle16, 0, .rw, 1, 4, .none_, 0, true, 0, 0xffff, false, [], 0⟩,
  ⟨0xe10, 0xe10, 3, 3, "GR_MG_SIG_ED25519", .handle16, 0, .rw, 1, 4, .none_, 0, true, 0, 0xffff, false, [], 0⟩,
  ⟨0xe10, 0xe10, 4, 4, "GR_MG_SIG_P384", .handle16, 0, .rw, 1, 4, .none_, 0, true, 0, 0xffff, false, [], 0⟩]

/-- Objects of the area at index 0x0F00 (R650). -/
def area0Fa : List ObjDesc := [
  ⟨0xf00, 0xf00, 1, 1, "ERR_RESET", .u8, 0, .cmd, 6, 6, .none_, 0, false, 165, 165, false, [], 0⟩,
  ⟨0xf00, 0xf00, 2, 2, "ERR_RESET_CAUSE", .u8, 0, .ro, 1, 1, .none_, 0, false, 0, 255, false, [], 0⟩,
  ⟨0xf00, 0xf00, 3, 3, "ERR_RESETS", .u32, 0, .ro, 1, 1, .none_, 0, false, 0, 0xffffffff, false, [], 0⟩,
  ⟨0xf00, 0xf00, 4, 4, "ERR_PERST_RESET", .bool, 0, .rw, 6, 6, .none_, 0, true, 0, 1, false, [], 0⟩,
  ⟨0xf01, 0xf01, 1, 1, "ERR_FENCE_MAP", .bytes, 8, .ro, 1, 1, .none_, 0, false, 0, 0, false, [], 0⟩,
  ⟨0xf01, 0xf01, 2, 2, "ERR_FENCE_LAST", .bytes, 16, .ro, 6, 6, .none_, 0, false, 0, 0, false, [], 0⟩,
  ⟨0xf01, 0xf01, 3, 3, "ERR_FENCES", .u32, 0, .ro, 1, 1, .none_, 0, false, 0, 0xffffffff, false, [], 0⟩,
  ⟨0xf01, 0xf01, 4, 4, "ERR_REINIT_RESULT", .u8, 0, .ro, 1, 1, .none_, 0, false, 0, 255, false, [], 0⟩,
  ⟨0xf02, 0xf02, 1, 1, "ERR_SLICE_REINIT", .u8, 0, .cmd, 2, 2, .none_, 0, false, 0, 35, false, [], 0⟩,
  ⟨0xf02, 0xf02, 2, 2, "ERR_REQ_REINIT", .u8, 0, .cmd, 2, 2, .none_, 0, false, 36, 40, false, [], 0⟩,
  ⟨0xf02, 0xf02, 3, 3, "ERR_DIG_REINIT", .u8, 0, .cmd, 2, 2, .none_, 0, false, 0, 3, false, [], 0⟩,
  ⟨0xf02, 0xf02, 4, 4, "ERR_PIPE_REINIT", .u8, 0, .cmd, 2, 2, .none_, 0, false, 0, 7, false, [], 0⟩,
  ⟨0xf02, 0xf02, 5, 5, "ERR_RNG_REINIT", .u8, 0, .cmd, 6, 6, .none_, 0, false, 1, 1, false, [], 0⟩,
  ⟨0xf03, 0xf03, 1, 1, "ERR_RING_FETCH", .u16, 0, .rw, 2, 2, .none_, 50, true, 10, 0x2710, false, [], 0⟩,
  ⟨0xf03, 0xf03, 2, 2, "ERR_TSUOW_WDOG", .u16, 0, .rw, 1, 4, .none_, 100, true, 10, 0x3e8, false, [], 0⟩,
  ⟨0xf03, 0xf03, 3, 3, "ERR_TSUOW_RESTARTS", .u32, 0, .ro, 1, 1, .none_, 0, false, 0, 0xffffffff, false, [], 0⟩,
  ⟨0xf04, 0xf04, 0, 0, "ERR_WDOG_BITES", .array, 4, .ro, 1, 1, .none_, 4, false, 0, 0, false, [], 0⟩,
  ⟨0xf04, 0xf04, 1, 4, "ERR_WDOG_BITES", .u32, 0, .ro, 1, 1, .none_, 0, false, 0, 0xffffffff, false, [], 0⟩,
  ⟨0xf05, 0xf05, 0, 0, "ERR_ECC_CORR", .array, 4, .ro, 1, 1, .none_, 5, false, 0, 0, false, [], 0⟩,
  ⟨0xf05, 0xf05, 1, 5, "ERR_ECC_CORR", .u32, 0, .ro, 1, 1, .none_, 0, false, 0, 0xffffffff, false, [], 0⟩,
  ⟨0xf06, 0xf06, 0, 0, "ERR_ECC_UNCORR", .array, 4, .ro, 1, 1, .none_, 5, false, 0, 0, false, [], 0⟩,
  ⟨0xf06, 0xf06, 1, 5, "ERR_ECC_UNCORR", .u32, 0, .ro, 1, 1, .none_, 0, false, 0, 0xffffffff, false, [], 0⟩,
  ⟨0xf07, 0xf07, 1, 1, "ERR_FLASH_WRITE", .u32, 0, .ro, 1, 1, .none_, 0, false, 0, 0xffffffff, false, [], 0⟩,
  ⟨0xf07, 0xf07, 2, 2, "ERR_PMBUS", .u32, 0, .ro, 1, 1, .none_, 0, false, 0, 0xffffffff, false, [], 0⟩]

/-- Objects of the area at index 0x2000 (R115, R129). -/
def area20a : List ObjDesc := [
  ⟨0x2000, 0x2fff, 1, 1, "TENANT_STATE", .u8, 0, .ro, 9, 9, .none_, 0, false, 0, 255, false, [], 0⟩,
  ⟨0x2000, 0x2fff, 2, 2, "TENANT_CREATE", .u8, 0, .cmd, 2, 2, .none_, 0, false, 1, 1, false, [], 0⟩,
  ⟨0x2000, 0x2fff, 3, 3, "TENANT_DELETE", .u8, 0, .cmd, 2, 2, .none_, 0, false, 1, 1, false, [], 0⟩,
  ⟨0x2000, 0x2fff, 4, 4, "TENANT_FENCE", .u8, 0, .rw, 2, 2, .none_, 0, false, 0, 1, false, [], 0⟩,
  ⟨0x2000, 0x2fff, 5, 5, "TENANT_FENCE_CAUSE", .u8, 0, .ro, 6, 6, .none_, 0, false, 0, 255, false, [], 0⟩,
  ⟨0x2000, 0x2fff, 6, 6, "TENANT_COLOUR", .colour16, 0, .ro, 9, 9, .none_, 0, false, 0, 0xffff, false, [], 0⟩,
  ⟨0x2000, 0x2fff, 7, 7, "TENANT_LABEL", .string, 32, .rw, 10, 10, .none_, 0, true, 0, 0, false, [], 0⟩,
  ⟨0x2000, 0x2fff, 16, 16, "TENANT_QUOTA_ENTRIES", .u16, 0, .rw, 2, 2, .none_, 0, true, 1, 0x1fc0, true, [], 0⟩,
  ⟨0x2000, 0x2fff, 17, 17, "TENANT_QUOTA_PAGES", .u16, 0, .rw, 2, 2, .none_, 0, true, 64, 0x1fc0, true, [], 0⟩,
  ⟨0x2000, 0x2fff, 18, 18, "TENANT_INFLIGHT", .u16, 0, .ro, 9, 9, .none_, 0, false, 0, 0xffff, false, [], 0⟩,
  ⟨0x2000, 0x2fff, 19, 19, "TENANT_PAGES", .u16, 0, .ro, 9, 9, .none_, 0, false, 0, 0xffff, false, [], 0⟩,
  ⟨0x2000, 0x2fff, 20, 20, "TENANT_QUOTA_KREG", .u32, 0, .rw, 2, 2, .none_, 0, true, 1, 0x10000, true, [], 0⟩,
  ⟨0x2000, 0x2fff, 21, 21, "TENANT_QUOTA_LKS", .u16, 0, .rw, 2, 2, .none_, 0, true, 1, 0x1000, true, [], 0⟩,
  ⟨0x2000, 0x2fff, 22, 22, "TENANT_QUOTA_CTX", .u16, 0, .rw, 2, 2, .none_, 0, true, 1, 256, true, [], 0⟩,
  ⟨0x2000, 0x2fff, 32, 32, "TENANT_CIRCUITS", .u16, 0, .ro, 9, 9, .none_, 0, false, 0, 0xffff, false, [], 0⟩,
  ⟨0x2000, 0x2fff, 48, 48, "TENANT_REFUSALS", .u32, 0, .ro, 6, 6, .none_, 0, false, 0, 0xffffffff, false, [], 0⟩,
  ⟨0x2000, 0x2fff, 49, 49, "TENANT_REFUSE_LIMIT", .u16, 0, .rw, 6, 6, .none_, 0, true, 0, 0xffff, false, [], 0⟩,
  ⟨0x2000, 0x2fff, 64, 64, "RING_ENABLE", .bool, 0, .rw, 2, 2, .none_, 0, false, 0, 1, false, [], 0⟩,
  ⟨0x2000, 0x2fff, 65, 65, "RING_SUB_BASE", .u64, 0, .rw, 2, 2, .none_, 0, true, 0, 0xffffffffffffffff, false, [], 0⟩,
  ⟨0x2000, 0x2fff, 66, 66, "RING_CPL_BASE", .u64, 0, .rw, 2, 2, .none_, 0, true, 0, 0xffffffffffffffff, false, [], 0⟩,
  ⟨0x2000, 0x2fff, 67, 67, "RING_SIZE", .u16, 0, .rw, 2, 2, .none_, 256, true, 0, 0xffff, false, [16, 32, 64, 128, 256, 512, 1024, 2048, 4096], 0⟩,
  ⟨0x2000, 0x2fff, 68, 68, "RING_FORMAT", .u8, 0, .rw, 2, 2, .none_, 0, true, 0, 1, false, [], 0⟩,
  ⟨0x2000, 0x2fff, 69, 69, "RING_POLL_ACTIVE", .u32, 0, .rw, 2, 2, .none_, 8, true, 1, 0x1fbd0, false, [], 0⟩,
  ⟨0x2000, 0x2fff, 70, 70, "RING_POLL_IDLE", .u32, 0, .rw, 2, 2, .none_, 0x7d0, true, 1, 0x1fbd0, false, [], 0⟩,
  ⟨0x2000, 0x2fff, 71, 71, "RING_PREFETCH", .u8, 0, .rw, 2, 2, .none_, 8, true, 1, 32, false, [], 0⟩,
  ⟨0x2000, 0x2fff, 72, 72, "RING_WEIGHT", .u8, 0, .rw, 2, 2, .none_, 16, true, 1, 255, false, [], 0⟩,
  ⟨0x2000, 0x2fff, 73, 73, "RING_BURST", .u8, 0, .rw, 2, 2, .none_, 8, true, 1, 64, false, [], 0⟩,
  ⟨0x2000, 0x2fff, 74, 74, "RING_PRIO_FLOOR", .u8, 0, .rw, 2, 2, .none_, 2, true, 0, 3, false, [], 0⟩,
  ⟨0x2000, 0x2fff, 75, 75, "RING_VECTOR", .u16, 0, .rw, 2, 2, .none_, 0, true, 0, 0x7ff, false, [], 0⟩,
  ⟨0x2000, 0x2fff, 76, 76, "RING_IRQ_EN", .bool, 0, .rw, 2, 2, .none_, 0, true, 0, 1, false, [], 0⟩]

/-- Objects of the area at index 0x2000 (R129). -/
def area20b : List ObjDesc := [
  ⟨0x2000, 0x2fff, 77, 77, "RING_COAL_COUNT", .u8, 0, .rw, 2, 2, .none_, 1, true, 1, 255, false, [], 0⟩,
  ⟨0x2000, 0x2fff, 78, 78, "RING_COAL_DELAY", .u16, 0, .rw, 2, 2, .none_, 0, true, 0, 0xffff, false, [], 0⟩,
  ⟨0x2000, 0x2fff, 79, 79, "RING_CPL_ORDERED", .bool, 0, .rw, 2, 2, .none_, 0, true, 0, 1, false, [], 0⟩,
  ⟨0x2000, 0x2fff, 80, 80, "RING_STATE", .u8, 0, .ro, 9, 9, .none_, 0, false, 0, 255, false, [], 0⟩,
  ⟨0x2000, 0x2fff, 81, 81, "RING_NEXT", .u16, 0, .ro, 9, 9, .none_, 0, false, 0, 0xffff, false, [], 0⟩,
  ⟨0x2000, 0x2fff, 82, 82, "RING_CPL_NEXT", .u16, 0, .ro, 9, 9, .none_, 0, false, 0, 0xffff, false, [], 0⟩,
  ⟨0x2000, 0x2fff, 83, 83, "RING_HELD", .u8, 0, .ro, 1, 1, .none_, 0, false, 0, 255, false, [], 0⟩,
  ⟨0x2000, 0x2fff, 84, 84, "RING_JOBS", .u64, 0, .ro, 9, 9, .none_, 0, false, 0, 0xffffffffffffffff, false, [], 0⟩,
  ⟨0x2000, 0x2fff, 85, 85, "RING_STALLS", .u32, 0, .ro, 9, 9, .none_, 0, false, 0, 0xffffffff, false, [], 0⟩,
  ⟨0x2000, 0x2fff, 86, 86, "RING_STALL_US", .u64, 0, .ro, 9, 9, .none_, 0, false, 0, 0xffffffffffffffff, false, [], 0⟩,
  ⟨0x2000, 0x2fff, 87, 87, "RING_DISCARDS", .u64, 0, .ro, 1, 1, .none_, 0, false, 0, 0xffffffffffffffff, false, [], 0⟩,
  ⟨0x2000, 0x2fff, 88, 88, "RING_BAD_DESC", .u32, 0, .ro, 9, 9, .none_, 0, false, 0, 0xffffffff, false, [], 0⟩,
  ⟨0x2000, 0x2fff, 89, 89, "RING_POLL_LATE", .u32, 0, .ro, 1, 1, .none_, 0, false, 0, 0xffffffff, false, [], 0⟩,
  ⟨0x2000, 0x2fff, 90, 90, "RING_PRIO_CLAMPED", .u32, 0, .ro, 1, 1, .none_, 0, false, 0, 0xffffffff, false, [], 0⟩]

/-- Objects of the area at index 0x3000 (R411, R456). -/
def area30a : List ObjDesc := [
  ⟨0x3000, 0x4fff, 1, 1, "SP_C_TENANT", .u16, 0, .rw, 9, 2, .none_, 0xffff, true, 0, 0xffff, false, [], 0⟩,
  ⟨0x3000, 0x4fff, 2, 2, "SP_C_ENABLE", .bool, 0, .rw, 9, 2, .none_, 0, true, 0, 1, false, [], 0⟩,
  ⟨0x3000, 0x4fff, 3, 3, "SP_C_TRANSFORM", .u8, 0, .rw, 9, 2, .none_, 0, true, 0, 1, false, [], 0⟩,
  ⟨0x3000, 0x4fff, 4, 4, "SP_C_SUITE", .u8, 0, .rw, 9, 2, .none_, 3, true, 0, 3, false, [], 0⟩,
  ⟨0x3000, 0x4fff, 5, 5, "SP_C_CONF_OFFSET", .u8, 0, .rw, 9, 2, .none_, 0, true, 0, 255, false, [0, 30, 50], 0⟩,
  ⟨0x3000, 0x4fff, 6, 6, "SP_C_REPLAY_WIN", .u32, 0, .rw, 9, 2, .none_, 64, true, 0, 0x40000000, false, [], 0⟩,
  ⟨0x3000, 0x4fff, 7, 7, "SP_C_BLOCK_LEN", .u16, 0, .rw, 9, 2, .none_, 0x400, true, 64, 0x4000, false, [], 0⟩,
  ⟨0x3000, 0x4fff, 8, 8, "SP_C_SCI_TX", .bytes, 8, .rw, 9, 2, .none_, 0, true, 0, 0, false, [], 0⟩,
  ⟨0x3000, 0x4fff, 9, 9, "SP_C_SCI_RX", .bytes, 8, .rw, 9, 2, .none_, 0, true, 0, 0, false, [], 0⟩,
  ⟨0x3000, 0x4fff, 10, 10, "SP_C_SCI_INCL", .bool, 0, .rw, 9, 2, .none_, 1, true, 0, 1, false, [], 0⟩,
  ⟨0x3000, 0x4fff, 11, 11, "SP_C_SSCI_TX", .u32, 0, .rw, 9, 2, .none_, 0, true, 0, 0xffffffff, false, [], 0⟩,
  ⟨0x3000, 0x4fff, 12, 12, "SP_C_SSCI_RX", .u32, 0, .rw, 9, 2, .none_, 0, true, 0, 0xffffffff, false, [], 0⟩,
  ⟨0x3000, 0x4fff, 13, 13, "SP_C_CHANNEL_ID", .u32, 0, .rw, 9, 2, .none_, 0, true, 0, 0xffffffff, false, [], 0⟩,
  ⟨0x3000, 0x4fff, 14, 14, "SP_C_HOLD", .u32, 0, .rw, 9, 2, .none_, 0x7d0, true, 100, 0x927c0, false, [], 0⟩,
  ⟨0x3000, 0x4fff, 16, 16, "SP_C_STATE", .u8, 0, .ro, 9, 9, .none_, 0, false, 0, 255, false, [], 0⟩,
  ⟨0x3000, 0x4fff, 17, 17, "SP_C_AN", .u8, 0, .ro, 9, 9, .none_, 0, false, 0, 255, false, [], 0⟩,
  ⟨0x3000, 0x4fff, 18, 18, "SP_C_KEYS", .u8, 0, .ro, 9, 9, .none_, 0, false, 0, 255, false, [], 0⟩,
  ⟨0x3000, 0x4fff, 19, 19, "SP_C_TX_PN", .u64, 0, .ro, 9, 9, .none_, 0, false, 0, 0xffffffffffffffff, false, [], 0⟩,
  ⟨0x3000, 0x4fff, 20, 20, "SP_C_RX_LOWEST", .u64, 0, .ro, 9, 9, .none_, 0, false, 0, 0xffffffffffffffff, false, [], 0⟩,
  ⟨0x3000, 0x4fff, 21, 21, "SP_C_SWITCHES", .u32, 0, .ro, 9, 9, .none_, 0, false, 0, 0xffffffff, false, [], 0⟩,
  ⟨0x3000, 0x4fff, 22, 22, "SP_C_PROMOTIONS", .u32, 0, .ro, 9, 9, .none_, 0, false, 0, 0xffffffff, false, [], 0⟩,
  ⟨0x3000, 0x4fff, 23, 23, "SP_C_ZEROISE", .u8, 0, .cmd, 10, 10, .none_, 0, false, 1, 1, false, [], 0⟩,
  ⟨0x3000, 0x4fff, 64, 64, "GR_C_STATE", .u8, 0, .ro, 9, 9, .none_, 0, false, 0, 255, false, [], 0⟩,
  ⟨0x3000, 0x4fff, 65, 65, "GR_C_ROLE", .u8, 0, .rw, 9, 2, .none_, 0, true, 0, 2, false, [], 0⟩,
  ⟨0x3000, 0x4fff, 66, 66, "GR_C_SUITE", .u8, 0, .rw, 9, 2, .none_, 1, true, 1, 4, false, [], 0⟩,
  ⟨0x3000, 0x4fff, 67, 67, "GR_C_LINK_ID", .u32, 0, .rw, 9, 2, .none_, 0, true, 0, 0xffffffff, false, [], 0⟩,
  ⟨0x3000, 0x4fff, 68, 68, "GR_C_SIG_PQ", .handle16, 0, .rw, 9, 2, .none_, 0, true, 0, 0xffff, false, [], 0⟩,
  ⟨0x3000, 0x4fff, 69, 69, "GR_C_SIG_CL", .handle16, 0, .rw, 9, 2, .none_, 0, true, 0, 0xffff, false, [], 0⟩,
  ⟨0x3000, 0x4fff, 70, 70, "GR_C_PEER_PQ", .handle16, 0, .rw, 9, 2, .none_, 0, true, 0, 0xffff, false, [], 0⟩,
  ⟨0x3000, 0x4fff, 71, 71, "GR_C_PEER_CL", .handle16, 0, .rw, 9, 2, .none_, 0, true, 0, 0xffff, false, [], 0⟩]

/-- Objects of the area at index 0x3000 (R412, R456). -/
def area30b : List ObjDesc := [
  ⟨0x3000, 0x4fff, 72, 72, "GR_C_MCE_OWN", .handle16, 0, .rw, 9, 2, .none_, 0, true, 0, 0xffff, false, [], 0⟩,
  ⟨0x3000, 0x4fff, 73, 73, "GR_C_MCE_PEER", .handle16, 0, .rw, 9, 2, .none_, 0, true, 0, 0xffff, false, [], 0xfff⟩,
  ⟨0x3000, 0x4fff, 74, 74, "GR_C_PERIOD", .u32, 0, .rw, 9, 2, .none_, 0xea60, true, 50, 0x5265c00, false, [], 0⟩,
  ⟨0x3000, 0x4fff, 75, 75, "GR_C_MAX_FRAMES", .u64, 0, .rw, 9, 2, .none_, 0, true, 0, 0xffffffffffffffff, false, [], 0⟩,
  ⟨0x3000, 0x4fff, 76, 76, "GR_C_MAX_OCTETS", .u64, 0, .rw, 9, 2, .none_, 0, true, 0, 0xffffffffffffffff, false, [], 0⟩,
  ⟨0x3000, 0x4fff, 77, 77, "GR_C_HARD_LIFE", .u32, 0, .rw, 9, 2, .none_, 0x15180, true, 60, 0x278d00, false, [], 0⟩,
  ⟨0x3000, 0x4fff, 78, 78, "GR_C_RETRY_TIMEOUT", .u16, 0, .rw, 9, 2, .none_, 500, true, 50, 0x2710, false, [], 0⟩,
  ⟨0x3000, 0x4fff, 79, 79, "GR_C_RETRIES", .u8, 0, .rw, 9, 2, .none_, 3, true, 0, 15, false, [], 0⟩,
  ⟨0x3000, 0x4fff, 80, 80, "GR_C_ARM_DELAY", .u16, 0, .rw, 9, 2, .none_, 0x3e8, true, 10, 0xea60, false, [], 0⟩,
  ⟨0x3000, 0x4fff, 81, 81, "GR_C_SWITCH_DELAY", .u16, 0, .rw, 9, 2, .none_, 0, true, 0, 0x2710, false, [], 0⟩,
  ⟨0x3000, 0x4fff, 82, 82, "GR_C_REKEY", .u8, 0, .cmd, 10, 10, .none_, 0, false, 1, 1, false, [], 0⟩,
  ⟨0x3000, 0x4fff, 88, 88, "GR_C_EXCHANGES", .u32, 0, .ro, 9, 9, .none_, 0, false, 0, 0xffffffff, false, [], 0⟩,
  ⟨0x3000, 0x4fff, 89, 89, "GR_C_FAILS", .u32, 0, .ro, 9, 9, .none_, 0, false, 0, 0xffffffff, false, [], 0⟩,
  ⟨0x3000, 0x4fff, 90, 90, "GR_C_LAST_FAIL", .u8, 0, .ro, 9, 9, .none_, 0, false, 0, 255, false, [], 0⟩,
  ⟨0x3000, 0x4fff, 91, 91, "GR_C_LAST_DONE", .time64, 0, .ro, 9, 9, .none_, 0, false, 0, 0xffffffffffffffff, false, [], 0⟩,
  ⟨0x3000, 0x4fff, 92, 92, "GR_C_RESENDS", .u32, 0, .ro, 9, 9, .none_, 0, false, 0, 0xffffffff, false, [], 0⟩,
  ⟨0x3000, 0x4fff, 93, 93, "GR_C_BAD_MSG", .u32, 0, .ro, 9, 9, .none_, 0, false, 0, 0xffffffff, false, [], 0⟩,
  ⟨0x3000, 0x4fff, 94, 94, "GR_C_FRAG_DROPS", .u32, 0, .ro, 9, 9, .none_, 0, false, 0, 0xffffffff, false, [], 0⟩,
  ⟨0x3000, 0x4fff, 95, 95, "GR_C_PENDING", .bool, 0, .ro, 9, 9, .none_, 0, false, 0, 1, false, [], 0⟩,
  ⟨0x3000, 0x4fff, 32, 32, "SP_C_PROT_PKTS", .u64, 0, .ro, 9, 9, .none_, 0, false, 0, 0xffffffffffffffff, false, [], 0⟩,
  ⟨0x3000, 0x4fff, 33, 33, "SP_C_PROT_OCTETS", .u64, 0, .ro, 9, 9, .none_, 0, false, 0, 0xffffffffffffffff, false, [], 0⟩,
  ⟨0x3000, 0x4fff, 34, 34, "SP_C_VAL_PKTS", .u64, 0, .ro, 9, 9, .none_, 0, false, 0, 0xffffffffffffffff, false, [], 0⟩,
  ⟨0x3000, 0x4fff, 35, 35, "SP_C_VAL_OCTETS", .u64, 0, .ro, 9, 9, .none_, 0, false, 0, 0xffffffffffffffff, false, [], 0⟩,
  ⟨0x3000, 0x4fff, 36, 36, "SP_C_DROP_LEN", .u64, 0, .ro, 9, 9, .none_, 0, false, 0, 0xffffffffffffffff, false, [], 0⟩,
  ⟨0x3000, 0x4fff, 37, 37, "SP_C_DROP_UNBOUND", .u64, 0, .ro, 9, 9, .none_, 0, false, 0, 0xffffffffffffffff, false, [], 0⟩,
  ⟨0x3000, 0x4fff, 38, 38, "SP_C_DROP_QUIESCED", .u64, 0, .ro, 9, 9, .none_, 0, false, 0, 0xffffffffffffffff, false, [], 0⟩,
  ⟨0x3000, 0x4fff, 39, 39, "SP_C_DROP_SIZE", .u64, 0, .ro, 9, 9, .none_, 0, false, 0, 0xffffffffffffffff, false, [], 0⟩,
  ⟨0x3000, 0x4fff, 40, 40, "SP_C_DROP_NOKEY", .u64, 0, .ro, 9, 9, .none_, 0, false, 0, 0xffffffffffffffff, false, [], 0⟩,
  ⟨0x3000, 0x4fff, 41, 41, "SP_C_DROP_BLOCKED", .u64, 0, .ro, 9, 9, .none_, 0, false, 0, 0xffffffffffffffff, false, [], 0⟩,
  ⟨0x3000, 0x4fff, 42, 42, "SP_C_DROP_UNTAGGED", .u64, 0, .ro, 9, 9, .none_, 0, false, 0, 0xffffffffffffffff, false, [], 0⟩]

/-- Objects of the area at index 0x3000 (R412). -/
def area30c : List ObjDesc := [
  ⟨0x3000, 0x4fff, 43, 43, "SP_C_DROP_NOSA", .u64, 0, .ro, 9, 9, .none_, 0, false, 0, 0xffffffffffffffff, false, [], 0⟩,
  ⟨0x3000, 0x4fff, 44, 44, "SP_C_DROP_LATE", .u64, 0, .ro, 9, 9, .none_, 0, false, 0, 0xffffffffffffffff, false, [], 0⟩,
  ⟨0x3000, 0x4fff, 45, 45, "SP_C_DROP_AUTH", .u64, 0, .ro, 9, 9, .none_, 0, false, 0, 0xffffffffffffffff, false, [], 0⟩,
  ⟨0x3000, 0x4fff, 46, 46, "SP_C_DROP_OVERFLOW", .u64, 0, .ro, 9, 9, .none_, 0, false, 0, 0xffffffffffffffff, false, [], 0⟩,
  ⟨0x3000, 0x4fff, 47, 47, "SP_C_DROP_FAULT", .u64, 0, .ro, 9, 9, .none_, 0, false, 0, 0xffffffffffffffff, false, [], 0⟩]

/-- Objects of the area at index 0x5000 (R504). -/
def area50a : List ObjDesc := [
  ⟨0x5000, 0x503f, 1, 1, "SVC_CELL_TENANT", .u16, 0, .rw, 9, 2, .none_, 0xffff, true, 0, 0xffff, false, [], 0⟩,
  ⟨0x5000, 0x503f, 2, 2, "SVC_CELL_STATE", .u8, 0, .ro, 9, 9, .none_, 0, false, 0, 255, false, [], 0⟩,
  ⟨0x5000, 0x503f, 3, 3, "SVC_CELL_IMAGE", .bytes, 65536, .wo, 10, 10, .none_, 0, false, 0, 0, false, [], 0⟩,
  ⟨0x5000, 0x503f, 4, 4, "SVC_CELL_VKEY", .handle16, 0, .rw, 10, 10, .none_, 0, true, 0, 0xffff, false, [], 0⟩,
  ⟨0x5000, 0x503f, 5, 5, "SVC_CELL_LOAD", .u8, 0, .cmd, 10, 10, .none_, 0, false, 1, 1, false, [], 0⟩,
  ⟨0x5000, 0x503f, 6, 6, "SVC_CELL_LOAD_STATE", .u8, 0, .ro, 9, 9, .none_, 0, false, 0, 255, false, [], 0⟩,
  ⟨0x5000, 0x503f, 7, 7, "SVC_CELL_BUDGET", .u32, 0, .rw, 9, 2, .none_, 0x3e8, true, 10, 0xf4240, false, [], 0⟩,
  ⟨0x5000, 0x503f, 8, 8, "SVC_CELL_PROG_VERSION", .u32, 0, .ro, 9, 9, .none_, 0, false, 0, 0xffffffff, false, [], 0⟩,
  ⟨0x5000, 0x503f, 9, 9, "SVC_CELL_CALLS", .u64, 0, .ro, 9, 9, .none_, 0, false, 0, 0xffffffffffffffff, false, [], 0⟩,
  ⟨0x5000, 0x503f, 10, 10, "SVC_CELL_TIMEOUTS", .u32, 0, .ro, 9, 9, .none_, 0, false, 0, 0xffffffff, false, [], 0⟩,
  ⟨0x5000, 0x503f, 11, 11, "SVC_CELL_EXCS", .u32, 0, .ro, 9, 9, .none_, 0, false, 0, 0xffffffff, false, [], 0⟩,
  ⟨0x5000, 0x503f, 12, 12, "SVC_CELL_LAST_EXC", .bytes, 16, .ro, 9, 9, .none_, 0, false, 0, 0, false, [], 0⟩,
  ⟨0x5000, 0x503f, 13, 13, "SVC_CELL_RESET", .u8, 0, .cmd, 10, 10, .none_, 0, false, 1, 1, false, [], 0⟩,
  ⟨0x5000, 0x503f, 14, 14, "SVC_CELL_DATA_BASE", .u32, 0, .ro, 6, 6, .none_, 0, false, 0, 0xffffffff, false, [], 0⟩,
  ⟨0x5f00, 0x5f00, 1, 1, "SVC_QUANTUM", .u32, 0, .rw, 2, 2, .none_, 100, true, 10, 0x2710, false, [], 0⟩,
  ⟨0x5f00, 0x5f00, 2, 2, "SVC_CODE_FREE", .u32, 0, .ro, 1, 1, .none_, 0x100000, false, 0, 0xffffffff, false, [], 0⟩,
  ⟨0x5f00, 0x5f00, 3, 3, "SVC_DATA_FREE", .u32, 0, .ro, 1, 1, .none_, 0x180000, false, 0, 0xffffffff, false, [], 0⟩]

/-- The rows of the area that an index lies in (R42); no row for an index outside every area. -/
def areaOf (index : Nat) : List ObjDesc :=
  if index / 256 = 0x1 then area01a
  else if index / 256 = 0x2 then area02a
  else if index / 256 = 0x3 then area03a
  else if index / 256 = 0x4 then area04a
  else if index / 256 = 0x5 then area05a
  else if index / 256 = 0x6 then area06a ++ area06b
  else if index / 256 = 0x7 then area07a
  else if index / 256 = 0x8 then area08a
  else if index / 256 = 0x9 then area09a ++ area09b
  else if index / 256 = 0xA then area0Aa ++ area0Ab
  else if index / 256 = 0xB then area0Ba
  else if index / 256 = 0xC then area0Ca
  else if index / 256 = 0xD then area0Da
  else if index / 256 = 0xE then area0Ea
  else if index / 256 = 0xF then area0Fa
  else if 0x2000 ≤ index ∧ index < 0x3000 then area20a ++ area20b
  else if 0x3000 ≤ index ∧ index < 0x5000 then area30a ++ area30b ++ area30c
  else if 0x5000 ≤ index ∧ index < 0x6000 then area50a
  else []

/-- The row that defines an object, if any (R14, R42). -/
def findObj (id : ObjId) : Option ObjDesc :=
  (areaOf (id / 256)).find? (fun o => decide (o.lo ≤ id / 256 ∧ id / 256 ≤ o.hi ∧ o.slo ≤ id % 256 ∧ id % 256 ≤ o.shi))

/-- Every row of the dictionary. -/
def objTable : List ObjDesc :=
  area01a ++
  area02a ++
  area03a ++
  area04a ++
  area05a ++
  area06a ++ area06b ++
  area07a ++
  area08a ++
  area09a ++ area09b ++
  area0Aa ++ area0Ab ++
  area0Ba ++
  area0Ca ++
  area0Da ++
  area0Ea ++
  area0Fa ++
  area20a ++ area20b ++
  area30a ++ area30b ++ area30c ++
  area50a

/-! The objects by name: index × 256 + subindex of the first object of each row. -/

abbrev Obj.ARB_BACKOFFS : ObjId := 0x0A1401
abbrev Obj.ARB_CLASS_DIGEST : ObjId := 0x0A1502
abbrev Obj.ARB_CLASS_STREAM : ObjId := 0x0A1503
abbrev Obj.ARB_CLASS_TSUOW : ObjId := 0x0A1501
abbrev Obj.ARB_MODE : ObjId := 0x0A1001
abbrev Obj.ARB_PREEMPTS : ObjId := 0x0A1301
abbrev Obj.ARB_WDOG : ObjId := 0x0A1101
abbrev Obj.ARB_WDOG_BITES : ObjId := 0x0A1201
abbrev Obj.ARB_WDOG_LAST : ObjId := 0x0A1601
abbrev Obj.DICT_ACCESS_REFUSED : ObjId := 0x021105
abbrev Obj.DICT_CFG_SEQ : ObjId := 0x020202
abbrev Obj.DICT_CFG_SKIPPED : ObjId := 0x020203
abbrev Obj.DICT_CFG_STATE : ObjId := 0x020201
abbrev Obj.DICT_DESCRIBE : ObjId := 0x020301
abbrev Obj.DICT_DESCRIPTION : ObjId := 0x020302
abbrev Obj.DICT_NTF_SET : ObjId := 0x024001
abbrev Obj.DICT_OAP_AUTH_ERR : ObjId := 0x021102
abbrev Obj.DICT_OAP_DROPPED : ObjId := 0x021104
abbrev Obj.DICT_OAP_ENABLE : ObjId := 0x021001
abbrev Obj.DICT_OAP_IDLE_TIMEOUT : ObjId := 0x021003
abbrev Obj.DICT_OAP_LEN_ERR : ObjId := 0x021101
abbrev Obj.DICT_OAP_LOCK : ObjId := 0x021006
abbrev Obj.DICT_OAP_MAX_LIFE : ObjId := 0x021004
abbrev Obj.DICT_OAP_PORT : ObjId := 0x021002
abbrev Obj.DICT_OAP_REPLAY : ObjId := 0x021103
abbrev Obj.DICT_OAP_SESSIONS : ObjId := 0x021005
abbrev Obj.DICT_PRN_KEY_ID : ObjId := 0x022003
abbrev Obj.DICT_PRN_ROLES : ObjId := 0x022001
abbrev Obj.DICT_PRN_SUITE : ObjId := 0x022004
abbrev Obj.DICT_PRN_TENANT : ObjId := 0x022002
abbrev Obj.DICT_RESTORE_DEFAULTS : ObjId := 0x020103
abbrev Obj.DICT_STORE : ObjId := 0x020101
abbrev Obj.DICT_STORE_STATE : ObjId := 0x020102
abbrev Obj.DICT_VERSION : ObjId := 0x020000
abbrev Obj.DIG_CTX_LIVE : ObjId := 0x0B0001
abbrev Obj.DIG_CTX_SAVED : ObjId := 0x0B0002
abbrev Obj.DIG_EARLY_READS : ObjId := 0x0B0006
abbrev Obj.DIG_EPOCH : ObjId := 0x0B0004
abbrev Obj.DIG_LEN_MISMATCH : ObjId := 0x0B0005
abbrev Obj.DIG_LOAD_FAILS : ObjId := 0x0B0007
abbrev Obj.DIG_MEAS : ObjId := 0x0B1001
abbrev Obj.DIG_MEAS_OWNER : ObjId := 0x0B1101
abbrev Obj.DIG_QUANTUM : ObjId := 0x0B0003
abbrev Obj.DIG_UNIT_JOBS : ObjId := 0x0B0101
abbrev Obj.ERR_DIG_REINIT : ObjId := 0x0F0203
abbrev Obj.ERR_ECC_CORR : ObjId := 0x0F0501
abbrev Obj.ERR_ECC_UNCORR : ObjId := 0x0F0601
abbrev Obj.ERR_FENCES : ObjId := 0x0F0103
abbrev Obj.ERR_FENCE_LAST : ObjId := 0x0F0102
abbrev Obj.ERR_FENCE_MAP : ObjId := 0x0F0101
abbrev Obj.ERR_FLASH_WRITE : ObjId := 0x0F0701
abbrev Obj.ERR_PERST_RESET : ObjId := 0x0F0004
abbrev Obj.ERR_PIPE_REINIT : ObjId := 0x0F0204
abbrev Obj.ERR_PMBUS : ObjId := 0x0F0702
abbrev Obj.ERR_REINIT_RESULT : ObjId := 0x0F0104
abbrev Obj.ERR_REQ_REINIT : ObjId := 0x0F0202
abbrev Obj.ERR_RESET : ObjId := 0x0F0001
abbrev Obj.ERR_RESETS : ObjId := 0x0F0003
abbrev Obj.ERR_RESET_CAUSE : ObjId := 0x0F0002
abbrev Obj.ERR_RING_FETCH : ObjId := 0x0F0301
abbrev Obj.ERR_RNG_REINIT : ObjId := 0x0F0205
abbrev Obj.ERR_SLICE_REINIT : ObjId := 0x0F0201
abbrev Obj.ERR_TSUOW_RESTARTS : ObjId := 0x0F0303
abbrev Obj.ERR_TSUOW_WDOG : ObjId := 0x0F0302
abbrev Obj.ERR_WDOG_BITES : ObjId := 0x0F0401
abbrev Obj.GR_ACTIVE : ObjId := 0x0E0006
abbrev Obj.GR_BUF_PAGES : ObjId := 0x0E0003
abbrev Obj.GR_BUF_USED : ObjId := 0x0E0004
abbrev Obj.GR_COLLISIONS : ObjId := 0x0E000A
abbrev Obj.GR_C_ARM_DELAY : ObjId := 0x300050
abbrev Obj.GR_C_BAD_MSG : ObjId := 0x30005D
abbrev Obj.GR_C_EXCHANGES : ObjId := 0x300058
abbrev Obj.GR_C_FAILS : ObjId := 0x300059
abbrev Obj.GR_C_FRAG_DROPS : ObjId := 0x30005E
abbrev Obj.GR_C_HARD_LIFE : ObjId := 0x30004D
abbrev Obj.GR_C_LAST_DONE : ObjId := 0x30005B
abbrev Obj.GR_C_LAST_FAIL : ObjId := 0x30005A
abbrev Obj.GR_C_LINK_ID : ObjId := 0x300043
abbrev Obj.GR_C_MAX_FRAMES : ObjId := 0x30004B
abbrev Obj.GR_C_MAX_OCTETS : ObjId := 0x30004C
abbrev Obj.GR_C_MCE_OWN : ObjId := 0x300048
abbrev Obj.GR_C_MCE_PEER : ObjId := 0x300049
abbrev Obj.GR_C_PEER_CL : ObjId := 0x300047
abbrev Obj.GR_C_PEER_PQ : ObjId := 0x300046
abbrev Obj.GR_C_PENDING : ObjId := 0x30005F
abbrev Obj.GR_C_PERIOD : ObjId := 0x30004A
abbrev Obj.GR_C_REKEY : ObjId := 0x300052
abbrev Obj.GR_C_RESENDS : ObjId := 0x30005C
abbrev Obj.GR_C_RETRIES : ObjId := 0x30004F
abbrev Obj.GR_C_RETRY_TIMEOUT : ObjId := 0x30004E
abbrev Obj.GR_C_ROLE : ObjId := 0x300041
abbrev Obj.GR_C_SIG_CL : ObjId := 0x300045
abbrev Obj.GR_C_SIG_PQ : ObjId := 0x300044
abbrev Obj.GR_C_STATE : ObjId := 0x300040
abbrev Obj.GR_C_SUITE : ObjId := 0x300042
abbrev Obj.GR_C_SWITCH_DELAY : ObjId := 0x300051
abbrev Obj.GR_ENABLE : ObjId := 0x0E0001
abbrev Obj.GR_EXCHANGES : ObjId := 0x0E0007
abbrev Obj.GR_FAILURES : ObjId := 0x0E0008
abbrev Obj.GR_FRAG_SIZE : ObjId := 0x0E0002
abbrev Obj.GR_MG_SIG_DSA65 : ObjId := 0x0E1002
abbrev Obj.GR_MG_SIG_DSA87 : ObjId := 0x0E1001
abbrev Obj.GR_MG_SIG_ED25519 : ObjId := 0x0E1003
abbrev Obj.GR_MG_SIG_P384 : ObjId := 0x0E1004
abbrev Obj.GR_NOBUF_DROPS : ObjId := 0x0E0009
abbrev Obj.GR_RETRY_PAUSE : ObjId := 0x0E0005
abbrev Obj.ID_FEAT : ObjId := 0x010101
abbrev Obj.ID_GPIO_DIR : ObjId := 0x012001
abbrev Obj.ID_GPIO_IN : ObjId := 0x012003
abbrev Obj.ID_GPIO_OUT : ObjId := 0x012002
abbrev Obj.ID_IDCODE : ObjId := 0x010006
abbrev Obj.ID_MG_MAC : ObjId := 0x011001
abbrev Obj.ID_MG_MDIO_ERRS : ObjId := 0x011008
abbrev Obj.ID_MG_PHY_ADDR : ObjId := 0x011002
abbrev Obj.ID_MG_PLCA_COUNT : ObjId := 0x011005
abbrev Obj.ID_MG_PLCA_EN : ObjId := 0x011003
abbrev Obj.ID_MG_PLCA_MMD : ObjId := 0x011006
abbrev Obj.ID_MG_PLCA_NODE : ObjId := 0x011004
abbrev Obj.ID_MG_PLCA_REG : ObjId := 0x011007
abbrev Obj.ID_ORDERING : ObjId := 0x010003
abbrev Obj.ID_PART : ObjId := 0x010002
abbrev Obj.ID_ROM_VERSION : ObjId := 0x010007
abbrev Obj.ID_STEPPING : ObjId := 0x010004
abbrev Obj.ID_UNIT_ID : ObjId := 0x010005
abbrev Obj.ID_VENDOR : ObjId := 0x010001
abbrev Obj.ISO_CLASS_REFUSALS : ObjId := 0x080201
abbrev Obj.ISO_FENCE_THRESHOLD : ObjId := 0x080101
abbrev Obj.ISO_FENCE_WINDOW : ObjId := 0x080102
abbrev Obj.ISO_LOG_ENTRY : ObjId := 0x080004
abbrev Obj.ISO_LOG_NEWEST : ObjId := 0x080002
abbrev Obj.ISO_LOG_OVERWRITTEN : ObjId := 0x080005
abbrev Obj.ISO_LOG_SEL : ObjId := 0x080003
abbrev Obj.ISO_REFUSALS_TOTAL : ObjId := 0x080001
abbrev Obj.ISO_RULE : ObjId := 0x081001
abbrev Obj.ISO_RULE_COMMIT : ObjId := 0x081901
abbrev Obj.ISO_RULE_COMMIT_STATE : ObjId := 0x081902
abbrev Obj.ISO_RULE_OVERLAP : ObjId := 0x081904
abbrev Obj.ISO_RULE_REFUSED : ObjId := 0x081903
abbrev Obj.ISO_TAG_QUERY : ObjId := 0x081A01
abbrev Obj.ISO_TAG_RESULT : ObjId := 0x081A02
abbrev Obj.KREG_ARCH_COMPACT : ObjId := 0x0C2004
abbrev Obj.KREG_ARCH_COMPACT_MAX : ObjId := 0x0C2005
abbrev Obj.KREG_ARCH_INIT : ObjId := 0x0C2006
abbrev Obj.KREG_ARCH_RECORDS : ObjId := 0x0C2002
abbrev Obj.KREG_ARCH_STATE : ObjId := 0x0C2001
abbrev Obj.KREG_ARCH_TORN : ObjId := 0x0C2007
abbrev Obj.KREG_ARCH_USED : ObjId := 0x0C2003
abbrev Obj.KREG_ATTEST_PK_DSA : ObjId := 0x0C0301
abbrev Obj.KREG_ATTEST_PK_EC : ObjId := 0x0C0302
abbrev Obj.KREG_FILL_HANDLE : ObjId := 0x0C1004
abbrev Obj.KREG_FILL_KCV : ObjId := 0x0C1005
abbrev Obj.KREG_FILL_START : ObjId := 0x0C1002
abbrev Obj.KREG_FILL_STATE : ObjId := 0x0C1003
abbrev Obj.KREG_FILL_TARGET : ObjId := 0x0C1001
abbrev Obj.KREG_HANDLES_FREE : ObjId := 0x0C0002
abbrev Obj.KREG_INFO : ObjId := 0x0C0202
abbrev Obj.KREG_REFRESHES : ObjId := 0x0C0003
abbrev Obj.KREG_RELOCATIONS : ObjId := 0x0C0004
abbrev Obj.KREG_RETIRE_GRACE : ObjId := 0x0C0101
abbrev Obj.KREG_SEL : ObjId := 0x0C0201
abbrev Obj.KREG_UNITS_FREE : ObjId := 0x0C0001
abbrev Obj.LC_ANCHOR_ID : ObjId := 0x03000A
abbrev Obj.LC_APPLY : ObjId := 0x030006
abbrev Obj.LC_BIST : ObjId := 0x03000C
abbrev Obj.LC_BIST_RESULT : ObjId := 0x03000D
abbrev Obj.LC_DBG_ATTEMPTS : ObjId := 0x030108
abbrev Obj.LC_DBG_CHALLENGE : ObjId := 0x030102
abbrev Obj.LC_DBG_CHALLENGE_NEW : ObjId := 0x030101
abbrev Obj.LC_DBG_LAST : ObjId := 0x030109
abbrev Obj.LC_DBG_OPEN : ObjId := 0x030104
abbrev Obj.LC_DBG_SCOPE : ObjId := 0x030106
abbrev Obj.LC_DBG_STATE : ObjId := 0x030105
abbrev Obj.LC_DBG_TOKEN : ObjId := 0x030103
abbrev Obj.LC_DBG_WINDOW : ObjId := 0x030107
abbrev Obj.LC_DDAS_ID : ObjId := 0x03000B
abbrev Obj.LC_NONCE : ObjId := 0x030003
abbrev Obj.LC_NONCE_NEW : ObjId := 0x030004
abbrev Obj.LC_OWNER_PK_DSA : ObjId := 0x030008
abbrev Obj.LC_OWNER_PK_EC : ObjId := 0x030009
abbrev Obj.LC_REQUEST : ObjId := 0x030005
abbrev Obj.LC_REQ_STATE : ObjId := 0x030007
abbrev Obj.LC_ROOT : ObjId := 0x030002
abbrev Obj.LC_STATE : ObjId := 0x030001
abbrev Obj.LKS_EXTENTS_FREE : ObjId := 0x0C3001
abbrev Obj.LKS_HANDLES_FREE : ObjId := 0x0C3002
abbrev Obj.LKS_INFO : ObjId := 0x0C3004
abbrev Obj.LKS_SEL : ObjId := 0x0C3003
abbrev Obj.PKE_ABORTS : ObjId := 0x0A0402
abbrev Obj.PKE_CODE_REJECTS : ObjId := 0x0A3101
abbrev Obj.PKE_DISPATCH_ENTRY : ObjId := 0x0A0502
abbrev Obj.PKE_DISPATCH_SEL : ObjId := 0x0A0501
abbrev Obj.PKE_FAULTS : ObjId := 0x0A0401
abbrev Obj.PKE_HTS_CAP : ObjId := 0x0A3004
abbrev Obj.PKE_HTS_KEYS : ObjId := 0x0A3001
abbrev Obj.PKE_HTS_NEXT : ObjId := 0x0A3003
abbrev Obj.PKE_HTS_SEL : ObjId := 0x0A3002
abbrev Obj.PKE_HTS_SKIPPED : ObjId := 0x0A3009
abbrev Obj.PKE_HTS_STATE : ObjId := 0x0A3005
abbrev Obj.PKE_HTS_WARN : ObjId := 0x0A3006
abbrev Obj.PKE_HTS_WARNED : ObjId := 0x0A3008
abbrev Obj.PKE_HTS_WARN_LAST : ObjId := 0x0A3007
abbrev Obj.PKE_KEM_REJECTS : ObjId := 0x0A2101
abbrev Obj.PKE_LAT_LOCK : ObjId := 0x0A2003
abbrev Obj.PKE_LAT_SHARES_MIN : ObjId := 0x0A2001
abbrev Obj.PKE_MCE_ATTEMPTS_MAX : ObjId := 0x0A3102
abbrev Obj.PKE_OAEP_FAILS : ObjId := 0x0A4102
abbrev Obj.PKE_PARKS : ObjId := 0x0A0302
abbrev Obj.PKE_PARK_AUTH_ERR : ObjId := 0x0A0303
abbrev Obj.PKE_PATCH_STATE : ObjId := 0x0A0201
abbrev Obj.PKE_PATCH_VERSION : ObjId := 0x0A0205
abbrev Obj.PKE_RSA_T_MAX : ObjId := 0x0A4101
abbrev Obj.PKE_SEG_QUANTUM : ObjId := 0x0A0301
abbrev Obj.PKE_SIGN_ITER_CAP : ObjId := 0x0A2102
abbrev Obj.PKE_SIGN_ITER_MAX : ObjId := 0x0A2103
abbrev Obj.PKE_SLICE_JOBS : ObjId := 0x0A0101
abbrev Obj.PKE_SLICE_STATE : ObjId := 0x0A0001
abbrev Obj.PKE_SS_CLEAR : ObjId := 0x0A2002
abbrev Obj.PKE_XZERO_HITS : ObjId := 0x0A4003
abbrev Obj.PKE_XZERO_OFF : ObjId := 0x0A4001
abbrev Obj.PKE_XZERO_OFF_MGMT : ObjId := 0x0A4002
abbrev Obj.PWR_CLOCK_FLOOR : ObjId := 0x04000B
abbrev Obj.PWR_ENGINE_MHZ : ObjId := 0x040003
abbrev Obj.PWR_GAUGE_STATE : ObjId := 0x040006
abbrev Obj.PWR_GUARD : ObjId := 0x04000A
abbrev Obj.PWR_LAST_REPLAN : ObjId := 0x040008
abbrev Obj.PWR_MARGIN : ObjId := 0x040004
abbrev Obj.PWR_OP_HOURS : ObjId := 0x040009
abbrev Obj.PWR_PDN_WINDOW : ObjId := 0x040104
abbrev Obj.PWR_PLL_IDLE : ObjId := 0x040101
abbrev Obj.PWR_PMBUS_ADDR : ObjId := 0x040201
abbrev Obj.PWR_PMBUS_ERRS : ObjId := 0x040202
abbrev Obj.PWR_PMBUS_STATUS : ObjId := 0x040203
abbrev Obj.PWR_POWER_LOSSES : ObjId := 0x040204
abbrev Obj.PWR_REPLAN : ObjId := 0x040007
abbrev Obj.PWR_RNG_LOW : ObjId := 0x04000C
abbrev Obj.PWR_RTC : ObjId := 0x040401
abbrev Obj.PWR_RTC_LAST_SET : ObjId := 0x040404
abbrev Obj.PWR_RTC_SETS : ObjId := 0x040403
abbrev Obj.PWR_RTC_VALID : ObjId := 0x040402
abbrev Obj.PWR_SLICE_GATE : ObjId := 0x040103
abbrev Obj.PWR_SLICE_IDLE : ObjId := 0x040102
abbrev Obj.PWR_TEMPS : ObjId := 0x040301
abbrev Obj.PWR_VCORE_READ : ObjId := 0x040002
abbrev Obj.PWR_VCORE_TARGET : ObjId := 0x040001
abbrev Obj.PWR_YEARS : ObjId := 0x040005
abbrev Obj.RING_BAD_DESC : ObjId := 0x200058
abbrev Obj.RING_BUF_FREE : ObjId := 0x090005
abbrev Obj.RING_BURST : ObjId := 0x200049
abbrev Obj.RING_COAL_COUNT : ObjId := 0x20004D
abbrev Obj.RING_COAL_DELAY : ObjId := 0x20004E
abbrev Obj.RING_CPL_BASE : ObjId := 0x200042
abbrev Obj.RING_CPL_NEXT : ObjId := 0x200052
abbrev Obj.RING_CPL_ORDERED : ObjId := 0x20004F
abbrev Obj.RING_DISCARDS : ObjId := 0x200057
abbrev Obj.RING_ENABLE : ObjId := 0x200040
abbrev Obj.RING_ENTRIES_FREE : ObjId := 0x090001
abbrev Obj.RING_FORMAT : ObjId := 0x200044
abbrev Obj.RING_GRAFT_INFLIGHT : ObjId := 0x090007
abbrev Obj.RING_HELD : ObjId := 0x200053
abbrev Obj.RING_IRQ_EN : ObjId := 0x20004C
abbrev Obj.RING_JOBS : ObjId := 0x200054
abbrev Obj.RING_NEXT : ObjId := 0x200051
abbrev Obj.RING_PAGES_FREE : ObjId := 0x090002
abbrev Obj.RING_POLL_ACTIVE : ObjId := 0x200045
abbrev Obj.RING_POLL_IDLE : ObjId := 0x200046
abbrev Obj.RING_POLL_LATE : ObjId := 0x200059
abbrev Obj.RING_POLL_LATE_TOTAL : ObjId := 0x090008
abbrev Obj.RING_POLL_MAX : ObjId := 0x090003
abbrev Obj.RING_PREFETCH : ObjId := 0x200047
abbrev Obj.RING_PRIO_CLAMPED : ObjId := 0x20005A
abbrev Obj.RING_PRIO_FLOOR : ObjId := 0x20004A
abbrev Obj.RING_SIZE : ObjId := 0x200043
abbrev Obj.RING_STALLED_NOW : ObjId := 0x090006
abbrev Obj.RING_STALLS : ObjId := 0x200055
abbrev Obj.RING_STALL_US : ObjId := 0x200056
abbrev Obj.RING_STARVE_LIMIT : ObjId := 0x090004
abbrev Obj.RING_STATE : ObjId := 0x200050
abbrev Obj.RING_SUB_BASE : ObjId := 0x200041
abbrev Obj.RING_VECTOR : ObjId := 0x20004B
abbrev Obj.RING_WEIGHT : ObjId := 0x200048
abbrev Obj.RNG_DIVIDER : ObjId := 0x050002
abbrev Obj.RNG_FAILS : ObjId := 0x050004
abbrev Obj.RNG_LAST_FAIL : ObjId := 0x050006
abbrev Obj.RNG_READ : ObjId := 0x050003
abbrev Obj.RNG_RESEEDS : ObjId := 0x050007
abbrev Obj.RNG_RETESTS : ObjId := 0x050005
abbrev Obj.RNG_STALLS : ObjId := 0x050009
abbrev Obj.RNG_STARTUP_US : ObjId := 0x05000A
abbrev Obj.RNG_STATE : ObjId := 0x050001
abbrev Obj.RNG_STRETCH_MAX : ObjId := 0x050008
abbrev Obj.RNG_THRESHOLDS : ObjId := 0x050101
abbrev Obj.SP_ALIGN_LOSS : ObjId := 0x0D100A
abbrev Obj.SP_BAD_CIRCUIT : ObjId := 0x0D1006
abbrev Obj.SP_BAD_HDR : ObjId := 0x0D1005
abbrev Obj.SP_C_AN : ObjId := 0x300011
abbrev Obj.SP_C_BLOCK_LEN : ObjId := 0x300007
abbrev Obj.SP_C_CHANNEL_ID : ObjId := 0x30000D
abbrev Obj.SP_C_CONF_OFFSET : ObjId := 0x300005
abbrev Obj.SP_C_DROP_AUTH : ObjId := 0x30002D
abbrev Obj.SP_C_DROP_BLOCKED : ObjId := 0x300029
abbrev Obj.SP_C_DROP_FAULT : ObjId := 0x30002F
abbrev Obj.SP_C_DROP_LATE : ObjId := 0x30002C
abbrev Obj.SP_C_DROP_LEN : ObjId := 0x300024
abbrev Obj.SP_C_DROP_NOKEY : ObjId := 0x300028
abbrev Obj.SP_C_DROP_NOSA : ObjId := 0x30002B
abbrev Obj.SP_C_DROP_OVERFLOW : ObjId := 0x30002E
abbrev Obj.SP_C_DROP_QUIESCED : ObjId := 0x300026
abbrev Obj.SP_C_DROP_SIZE : ObjId := 0x300027
abbrev Obj.SP_C_DROP_UNBOUND : ObjId := 0x300025
abbrev Obj.SP_C_DROP_UNTAGGED : ObjId := 0x30002A
abbrev Obj.SP_C_ENABLE : ObjId := 0x300002
abbrev Obj.SP_C_HOLD : ObjId := 0x30000E
abbrev Obj.SP_C_KEYS : ObjId := 0x300012
abbrev Obj.SP_C_PROMOTIONS : ObjId := 0x300016
abbrev Obj.SP_C_PROT_OCTETS : ObjId := 0x300021
abbrev Obj.SP_C_PROT_PKTS : ObjId := 0x300020
abbrev Obj.SP_C_REPLAY_WIN : ObjId := 0x300006
abbrev Obj.SP_C_RX_LOWEST : ObjId := 0x300014
abbrev Obj.SP_C_SCI_INCL : ObjId := 0x30000A
abbrev Obj.SP_C_SCI_RX : ObjId := 0x300009
abbrev Obj.SP_C_SCI_TX : ObjId := 0x300008
abbrev Obj.SP_C_SSCI_RX : ObjId := 0x30000C
abbrev Obj.SP_C_SSCI_TX : ObjId := 0x30000B
abbrev Obj.SP_C_STATE : ObjId := 0x300010
abbrev Obj.SP_C_SUITE : ObjId := 0x300004
abbrev Obj.SP_C_SWITCHES : ObjId := 0x300015
abbrev Obj.SP_C_TENANT : ObjId := 0x300001
abbrev Obj.SP_C_TRANSFORM : ObjId := 0x300003
abbrev Obj.SP_C_TX_PN : ObjId := 0x300013
abbrev Obj.SP_C_VAL_OCTETS : ObjId := 0x300023
abbrev Obj.SP_C_VAL_PKTS : ObjId := 0x300022
abbrev Obj.SP_C_ZEROISE : ObjId := 0x300017
abbrev Obj.SP_DIAG_CRC_ERR : ObjId := 0x0D100B
abbrev Obj.SP_ENABLE : ObjId := 0x0D0001
abbrev Obj.SP_FAULTS : ObjId := 0x0D100C
abbrev Obj.SP_FC_STALL : ObjId := 0x0D000A
abbrev Obj.SP_FC_STALL_DROPS : ObjId := 0x0D1009
abbrev Obj.SP_FC_XOFF : ObjId := 0x0D0008
abbrev Obj.SP_FC_XOFF_IN : ObjId := 0x0D000B
abbrev Obj.SP_FC_XOFF_OUT : ObjId := 0x0D000C
abbrev Obj.SP_FC_XON : ObjId := 0x0D0009
abbrev Obj.SP_GRAFT_CLASS : ObjId := 0x0D0007
abbrev Obj.SP_LANES : ObjId := 0x0D0002
abbrev Obj.SP_LANE_RATE : ObjId := 0x0D0003
abbrev Obj.SP_LANE_STATUS : ObjId := 0x0D0006
abbrev Obj.SP_POLARITY : ObjId := 0x0D0004
abbrev Obj.SP_RUNT : ObjId := 0x0D1004
abbrev Obj.SP_RX_ERR : ObjId := 0x0D1003
abbrev Obj.SP_RX_OVERRUN : ObjId := 0x0D1008
abbrev Obj.SP_RX_PKTS : ObjId := 0x0D1001
abbrev Obj.SP_STATE : ObjId := 0x0D0005
abbrev Obj.SP_STATUS_TX : ObjId := 0x0D1007
abbrev Obj.SP_TX_PKTS : ObjId := 0x0D1002
abbrev Obj.SVC_CELL_BUDGET : ObjId := 0x500007
abbrev Obj.SVC_CELL_CALLS : ObjId := 0x500009
abbrev Obj.SVC_CELL_DATA_BASE : ObjId := 0x50000E
abbrev Obj.SVC_CELL_EXCS : ObjId := 0x50000B
abbrev Obj.SVC_CELL_IMAGE : ObjId := 0x500003
abbrev Obj.SVC_CELL_LAST_EXC : ObjId := 0x50000C
abbrev Obj.SVC_CELL_LOAD : ObjId := 0x500005
abbrev Obj.SVC_CELL_LOAD_STATE : ObjId := 0x500006
abbrev Obj.SVC_CELL_PROG_VERSION : ObjId := 0x500008
abbrev Obj.SVC_CELL_RESET : ObjId := 0x50000D
abbrev Obj.SVC_CELL_STATE : ObjId := 0x500002
abbrev Obj.SVC_CELL_TENANT : ObjId := 0x500001
abbrev Obj.SVC_CELL_TIMEOUTS : ObjId := 0x50000A
abbrev Obj.SVC_CELL_VKEY : ObjId := 0x500004
abbrev Obj.SVC_CODE_FREE : ObjId := 0x5F0002
abbrev Obj.SVC_DATA_FREE : ObjId := 0x5F0003
abbrev Obj.SVC_QUANTUM : ObjId := 0x5F0001
abbrev Obj.TENANT_CIRCUITS : ObjId := 0x200020
abbrev Obj.TENANT_COLOUR : ObjId := 0x200006
abbrev Obj.TENANT_CREATE : ObjId := 0x200002
abbrev Obj.TENANT_DELETE : ObjId := 0x200003
abbrev Obj.TENANT_FENCE : ObjId := 0x200004
abbrev Obj.TENANT_FENCE_CAUSE : ObjId := 0x200005
abbrev Obj.TENANT_INFLIGHT : ObjId := 0x200012
abbrev Obj.TENANT_LABEL : ObjId := 0x200007
abbrev Obj.TENANT_PAGES : ObjId := 0x200013
abbrev Obj.TENANT_QUOTA_CTX : ObjId := 0x200016
abbrev Obj.TENANT_QUOTA_ENTRIES : ObjId := 0x200010
abbrev Obj.TENANT_QUOTA_KREG : ObjId := 0x200014
abbrev Obj.TENANT_QUOTA_LKS : ObjId := 0x200015
abbrev Obj.TENANT_QUOTA_PAGES : ObjId := 0x200011
abbrev Obj.TENANT_REFUSALS : ObjId := 0x200030
abbrev Obj.TENANT_REFUSE_LIMIT : ObjId := 0x200031
abbrev Obj.TENANT_STATE : ObjId := 0x200001
abbrev Obj.TMP_ALARM_PIN_LEVEL : ObjId := 0x060007
abbrev Obj.TMP_AON_CLEAR : ObjId := 0x060302
abbrev Obj.TMP_AON_LATCH : ObjId := 0x060201
abbrev Obj.TMP_AON_LOST : ObjId := 0x060301
abbrev Obj.TMP_CARD_IDLE : ObjId := 0x063007
abbrev Obj.TMP_CARD_OFFICER : ObjId := 0x063008
abbrev Obj.TMP_CARD_STATE : ObjId := 0x063006
abbrev Obj.TMP_ENC_POLARITY : ObjId := 0x060008
abbrev Obj.TMP_EVIDENCE : ObjId := 0x060004
abbrev Obj.TMP_EVIDENCE_PENDING : ObjId := 0x060005
abbrev Obj.TMP_HELD : ObjId := 0x060001
abbrev Obj.TMP_LOCK : ObjId := 0x060006
abbrev Obj.TMP_LOG_ENTRY : ObjId := 0x060103
abbrev Obj.TMP_LOG_NEWEST : ObjId := 0x060101
abbrev Obj.TMP_LOG_OVERWRITTEN : ObjId := 0x060104
abbrev Obj.TMP_LOG_SEL : ObjId := 0x060102
abbrev Obj.TMP_OFFICERS : ObjId := 0x063002
abbrev Obj.TMP_OFF_KEY_ID : ObjId := 0x064001
abbrev Obj.TMP_OFF_LABEL : ObjId := 0x064002
abbrev Obj.TMP_OFF_LAST : ObjId := 0x064003
abbrev Obj.TMP_QUORUM_ACT : ObjId := 0x063004
abbrev Obj.TMP_QUORUM_CANCEL : ObjId := 0x063005
abbrev Obj.TMP_QUORUM_K : ObjId := 0x063001
abbrev Obj.TMP_QUORUM_STATE : ObjId := 0x063003
abbrev Obj.TMP_RELEASE : ObjId := 0x060002
abbrev Obj.TMP_RELEASE_STATE : ObjId := 0x060003
abbrev Obj.TMP_SRC_ALARMS : ObjId := 0x061003
abbrev Obj.TMP_SRC_CFG : ObjId := 0x061001
abbrev Obj.TMP_SRC_EVENTS : ObjId := 0x061002
abbrev Obj.TMP_SRC_FLAGS : ObjId := 0x061005
abbrev Obj.TMP_SRC_LAST : ObjId := 0x061004
abbrev Obj.UPD_ACTIVATE_AT : ObjId := 0x070106
abbrev Obj.UPD_ANCHOR_ID : ObjId := 0x070007
abbrev Obj.UPD_BOOT_AREA : ObjId := 0x070003
abbrev Obj.UPD_BOOT_COUNT : ObjId := 0x070004
abbrev Obj.UPD_CANCEL : ObjId := 0x070108
abbrev Obj.UPD_CASTON_PHASE : ObjId := 0x070001
abbrev Obj.UPD_CASTON_US : ObjId := 0x070002
abbrev Obj.UPD_COMP_STATE : ObjId := 0x070301
abbrev Obj.UPD_CONFIRM : ObjId := 0x070109
abbrev Obj.UPD_COPY_MS : ObjId := 0x07010E
abbrev Obj.UPD_FALLBACK_OK : ObjId := 0x070008
abbrev Obj.UPD_LAST_ERR : ObjId := 0x07010C
abbrev Obj.UPD_PENDING_AT : ObjId := 0x070107
abbrev Obj.UPD_RUNNING_VERSION : ObjId := 0x070005
abbrev Obj.UPD_SECVER : ObjId := 0x070201
abbrev Obj.UPD_SETTINGS_FORMAT : ObjId := 0x070006
abbrev Obj.UPD_STAGED : ObjId := 0x070104
abbrev Obj.UPD_STAGED_VERSION : ObjId := 0x07010D
abbrev Obj.UPD_STAGE_BEGIN : ObjId := 0x070102
abbrev Obj.UPD_STAGE_CHUNK : ObjId := 0x070103
abbrev Obj.UPD_STATE : ObjId := 0x070101
abbrev Obj.UPD_TRIAL_LEFT : ObjId := 0x07010B
abbrev Obj.UPD_TRIAL_WINDOW : ObjId := 0x07010A
abbrev Obj.UPD_VERIFY : ObjId := 0x070105

end Sys2Proof.Machine
end

