-- ==== Sys2Proof/Machine/State.lean ====
section
/-!
DEFINITION. The machine state as plain data: every register, table, buffer, counter, mode and pin the spec names,
the commands that wait, and the model's own clock, free-value counter and record of what has left the device.
A dictionary object whose value is only a number or a byte string lives in the object store (`DictSt.obj`); the records
below hold what the objects do not.
-/
namespace Sys2Proof.Machine

/-! ### What leaves the device -/

/-- Everything the device sends, in order. -/
inductive Out where
  | hostWrite (addr : Nat) (data : Bytes)
  | msix (vector : Nat)
  | datagram (dst port : Nat) (payload : Bytes)
  | icmpEcho (dst : Nat) (payload : Bytes)
  | neighbour (dst : Nat) (payload : Bytes)
  | mdio (phy reg value : Nat)
  | packet (port : Nat) (bytes : Bytes)
  | pmbus (addr command : Nat) (data : Bytes)
  | card (apdu : Bytes)
  | cardActivate
  | cardDeactivate
  | alarmPin (asserted : Bool)
  | gpio (dir level : Nat)
  | boundary (level : Bytes)
  | tap (value : Nat)
  | flow (port : Nat) (xoff : Nat)
deriving DecidableEq, Repr

/-! ### Dictionary, window, sessions (chapter 02) -/

/-- An open block write: object, declared total, bytes received so far (R81). -/
structure BlockWrite where
  obj : ObjId
  total : Nat
  data : Bytes
deriving DecidableEq, Repr

/-- The tracked block read: its object, whether that object has been seen to change since OFFSET 0 was read, and its value then
(R80). -/
structure BlockRead where
  obj : ObjId
  changed : Bool
  value : Bytes
deriving DecidableEq, Repr

/-- What the window and each session hold of their own: values of objects that each transport has its own copy of
(DICT_DESCRIPTION, the selectors, LC_REQUEST …), an open block write and the tracked block read. -/
structure CallerSt where
  own : Tab Nat
  write : Option BlockWrite
  read : Option BlockRead
deriving DecidableEq, Repr

/-- A caller's own state when nothing has been accessed. -/
def CallerSt.empty : CallerSt := { own := [], write := none, read := none }

/-- The window's registers (R58): DWIN_ADDR, DWIN_OFFSET, DWIN_TOTAL, DWIN_STATUS, DWIN_NTF_CTRL, the notification
queue behind DWIN_NTF_HEAD, and DWIN_DATA as a sparse table of its 1,024 bytes. -/
structure Window where
  index : BitVec 16
  sub : BitVec 8
  offset : Word
  total : Word
  busy : Bool
  done : Bool
  overrun : Bool
  ntfLost : Bool
  result : BitVec 8
  rlen : BitVec 11
  ntfEn : Bool
  ntfVector : BitVec 11
  queue : List ObjId
  data : Tab Byte
  st : CallerSt
deriving DecidableEq, Repr

/-- The window registers' reset values (R58). -/
def Window.reset : Window :=
  { index := 0, sub := 0, offset := 0, total := 0, busy := false, done := false, overrun := false, ntfLost := false,
    result := 0, rlen := 0, ntfEn := false, ntfVector := 0, queue := [], data := [], st := CallerSt.empty }

/-- An open OAP session (R66–R85). -/
structure Session where
  id : Nat
  principal : Nat
  roles : Nat
  tenant : Nat
  peer : Nat
  port : Nat
  seqIn : Nat
  seqOut : Nat
  lastReq : Option (Nat × Nat × Bytes)
  unanswered : Nat
  lastAt : Time
  openedAt : Time
  st : CallerSt
  changed : List ObjId
  sentAt : Tab Time
deriving DecidableEq, Repr

/-- A session set-up in progress (R73, R74, R454): the sender's address and port, the MSG_ID of its G1 and of the G3 under way,
the COUNT and fragments (offset and run) of the message under assembly, the SESSION_ID once chosen, the sequence numbers, when it
began, and G1 and G2 once they are whole. -/
structure Setup where
  peer : Nat
  port : Nat
  msgId : Nat
  replyId : Option Nat
  count : Nat
  frags : Tab (Nat × Bytes)
  sessionId : Nat
  seqIn : Nat
  seqOut : Nat
  startedAt : Time
  g1 : Bytes
  g2 : Bytes
deriving DecidableEq, Repr

/-- The operations of a dictionary access (R58, R66). -/
inductive AccOp where
  | read | write | readBlock | writeBlock | writeBlockLast | bad
deriving DecidableEq, Repr

/-- An access accepted by the dictionary server and not yet applied (R9, R76). -/
structure AccessReq where
  caller : Caller
  roles : Nat
  tenant : Nat
  approver : Nat
  op : AccOp
  obj : ObjId
  offset : Nat
  total : Nat
  len : Nat
  data : Bytes
deriving DecidableEq, Repr

/-- A settings store in progress (R53): the area to be written, made of the values taken at the DICT_STORE write, its sequence number,
the start. -/
structure StoreJob where
  area : Bytes
  seq : Nat
  startedAt : Time
deriving DecidableEq, Repr

/-- The dictionary, its two transports and the settings store; `areaA` and `areaB` are the configuration areas of flash as far as they
are programmed (R50), erased where nothing stands; `seen` holds, for each subscription of a value that the device
computes, the value last seen. -/
structure DictSt where
  obj : Tab Nat
  win : Window
  queue : List AccessReq
  sessions : Tab Session
  setups : Tab Setup
  locked : List ObjId
  areaA : Bytes
  areaB : Bytes
  store : Option StoreJob
  storeFailReport : Bool
  seen : Tab Nat
deriving DecidableEq, Repr

def DictSt.reset : DictSt :=
  { obj := [], win := Window.reset, queue := [], sessions := [], setups := [], locked := [], areaA := [],
    areaB := [], store := none, storeFailReport := false, seen := [] }

/-! ### Isolation (chapter 03) -/

/-- One entry of the refusal log (R108). -/
structure RefusalRec where
  stamp : Nat
  addr : Nat
  colour : Nat
  tag : Nat
  cls : Nat
  master : Nat
  kind : Nat
  len : Nat
  ring : Nat
  entry : Nat
  seq : Nat
deriving DecidableEq, Repr

/-- Tags, region rules in effect and shadow, the classes whose commit waits for the accesses under way (R96), the refusal log and the tagged and untagged memories of the fabric map (R90–R110). -/
structure IsoSt where
  mem : Tab Byte
  tags : Tab Nat
  rules : Tab Nat
  shadow : Tab Nat
  waiting : List Nat
  log : List RefusalRec
  refusedAt : Tab (List Time)
deriving DecidableEq, Repr

def IsoSt.reset : IsoSt :=
  { mem := [], tags := [], rules := [], shadow := [], waiting := [], log := [], refusedAt := [] }

/-! ### Rings and jobs (chapters 04 and 05) -/

/-- The states of a ring pair, as RING_STATE codes them (R129). -/
inductive PairState where
  | disabled | active | idle | stalled | draining | fault | fenced
deriving DecidableEq, Repr

/-- A prefetched entry: its ring index, its bytes as read, and when its poll read it (R142, R145). -/
structure Held where
  index : Nat
  body : Bytes
  at_ : Time
deriving DecidableEq, Repr

/-- What a ring pair holds beside its dictionary objects; `coalDelay` and `coalVector` are RING_COAL_DELAY and RING_VECTOR as its last
completion found them (R131). -/
structure Pair where
  st : PairState
  next : Nat
  cplNext : Nat
  lap : Bool
  cplLap : Bool
  held : List Held
  readNext : Nat
  readLap : Bool
  emptyPolls : Nat
  pollAt : Time
  stallAt : Option Time
  headAt : Option Time
  pageWait : Option Time
  turnsUsed : Nat
  unsignalled : Nat
  unsignalledAt : Option Time
  coalDelay : Nat
  coalVector : Nat
deriving DecidableEq, Repr

def Pair.reset : Pair :=
  { st := .disabled, next := 0, cplNext := 0, lap := true, cplLap := true, held := [], readNext := 0, readLap := true,
    emptyPolls := 0, pollAt := 0, stallAt := none, headAt := none, pageWait := none, turnsUsed := 0, unsignalled := 0,
    unsignalledAt := none, coalDelay := 0, coalVector := 0 }

/-- Where an admitted job came from: a ring pair, a circuit's graft exchange, a service cell's sub-job, the rebuild of a
stateful key. -/
inductive Origin where
  | ring (pair : Nat)
  | graft (circuit : Nat)
  | cell (cell : Nat)
  | rebuild (handle : Nat)
  | load (cell : Nat)
deriving DecidableEq, Repr

/-- Where an admitted job stands. -/
inductive Phase where
  | inbound
  | waiting
  | running (slice : Nat)
  | resuming (slice : Nat)
  | parked
  | committing
  | ended
  | scrubbing
deriving DecidableEq, Repr

/-- The job statuses (R176). -/
inductive Status where
  | ok | inputInvalid | keyInvalid | verifyFail | resultRejected | earlyRead | finished | lengthMismatch | skeinBroken
  | badDescriptor | keyPolicy | keyEmpty | stateExhausted | aborted | faultDetected | entropyFail | fenced | timeout
  | unsupported | quota
deriving DecidableEq, Repr

/-- A descriptor's fields, with the input segments of all entries of the job (R133, R134). -/
structure Desc where
  opcode : Nat
  pset : Nat
  ctrl : Nat
  key : Nat
  key2 : Nat
  userTag : Nat
  segs : List (Nat × Nat)
  outLen : Nat
  outAddr : Nat
  aux : Nat
  aux2 : Nat
  totalLen : Nat
  subIndex : Nat
  entries : Nat
deriving DecidableEq, Repr

/-- An in-flight entry (R155, R196, R197): the job, its colour, class and admission serial, its pages (input first, then
output, then resume pages), where it stands, and once it has ended, its ending and when that was; `late` lists the counters that
count it once its record is written.  `segAt` is when its present run or segment on a slice began, `keyChecked` that a segmented
command's key check has passed, `lksTarget` the LKS entry it is to fill, `tag` the tag of its parked state. -/
structure Entry where
  origin : Origin
  colour : Nat
  prio : Nat
  serial : Nat
  desc : Desc
  pages : List Nat
  inPages : Nat
  outPages : Nat
  stream : Bytes
  phase : Phase
  slice : Nat
  startedAt : Time
  segAt : Time
  progress : Nat
  segsSince : Nat
  cycles : Nat
  keyChecked : Bool
  target : Option Nat
  lksTarget : Option Nat
  tag : Bytes
  endedAt : Time
  status : Status
  detail : Nat
  output : Bytes
  scrub : Nat
  late : List ObjId
deriving DecidableEq, Repr

/-- One MSI-X table entry and its pending bit (PCI Express). -/
structure Msix where
  addr : Nat
  data : Nat
  masked : Bool
  pending : Bool
deriving DecidableEq, Repr

def Msix.reset : Msix := { addr := 0, data := 0, masked := true, pending := false }

/-- The ring manager: pairs, in-flight entries, the BAR0 ring registers of R173 and the MSI-X table; the turn under way of the
management pairs and of the tenant pairs, with the entries it has taken (R152); the pairs whose head job starves, and the pool pages
that other jobs may still take meanwhile (R162). -/
structure RingSt where
  pairs : Tab Pair
  entries : Tab Entry
  serial : Nat
  run : Bool
  err : BitVec 4
  errRing : Option Nat
  errVecEn : Bool
  errVec : BitVec 11
  msix : Tab Msix
  lastServed : Nat
  lastMgmt : Nat
  pollMs : Nat
  pollCount : Nat
  internalWait : List (Origin × Desc × Bytes)
  turnMgmt : Option (Nat × Nat)
  turnTenant : Option (Nat × Nat)
  starving : List Nat
  unheld : Nat
deriving DecidableEq, Repr

def RingSt.reset : RingSt :=
  { pairs := [], entries := [], serial := 0, run := true, err := 0, errRing := none, errVecEn := false, errVec := 0,
    msix := [], lastServed := 0, lastMgmt := 0, pollMs := 0, pollCount := 0, internalWait := [],
    turnMgmt := none, turnTenant := none, starving := [], unheld := 0 }

/-- The states of a slice, as PKE_SLICE_STATE codes them (R225). -/
inductive SliceState where
  | gated | idle | busy | parking | scrub | init | fenced
deriving DecidableEq, Repr

/-- A slice's microcode sequencer (R182–R184): microaddress, loop counter, public flag, return addresses. -/
structure Sequencer where
  addr : Nat
  loop : Nat
  flag : Bool
  ret : List Nat
deriving DecidableEq, Repr

def Sequencer.reset : Sequencer := { addr := 0, loop := 0, flag := false, ret := [] }

/-- A slice: its state, the entry it serves with that job's colour, its scratch as far as it holds what a segmented command carries from
one segment to the next, its sequencer, since when it is idle, whether its mask expander is seeded and how many
blocks that has given, the times of its watchdog bites, and when its re-initialisation began. -/
structure Slice where
  st : SliceState
  job : Option Nat
  colour : Nat
  scratch : Bytes
  seq : Sequencer
  idleSince : Time
  seeded : Bool
  blocks : Nat
  bites : List Time
  initAt : Time
deriving DecidableEq, Repr

def Slice.reset : Slice :=
  { st := .gated, job := none, colour := 0xFFFF, scratch := [], seq := Sequencer.reset, idleSince := 0, seeded := false, blocks := 0, bites := [], initAt := 0 }

/-- A burst at a bench port: requester, its class, fabric address, beats in all and done, whether it writes, cycles held,
the in-flight entry (0xFFFF_FFFF: none), pair and circuit (0xFFFF: none) it serves, whether a rule change waits for it (R211), and the
cycle at which it was preempted. -/
structure Burst where
  requester : Nat
  cls : Nat
  addr : Nat
  beats : Nat
  done : Nat
  write : Bool
  heldCycles : Nat
  entry : Nat
  pair : Nat
  circuit : Nat
  awaited : Bool
  lostAt : Nat
deriving DecidableEq, Repr

/-- A bench port (R203–R213): the ARB_MODE in effect, the burst in progress, preempted bursts (newest first), the
requester of each class most recently granted, each requester's BACKOFF count and retry cycle, the classes of the Tsuow core, the digest
engine and the stream DMA in effect (R226) and whether a burst has ended since they were taken over, the cycles that slices' jobs have
waited here and not yet been charged (R222), and its cycle counter. -/
structure Bench where
  mode : Nat
  holder : Option Burst
  preempted : List Burst
  lastOf : Tab Nat
  backoff : Tab Nat
  retryAt : Tab Nat
  classes : Nat × Nat × Nat
  boundary : Bool
  owed : List (Nat × Nat)
  cycle : Nat
deriving DecidableEq, Repr

def Bench.reset : Bench :=
  { mode := 0, holder := none, preempted := [], lastOf := [], backoff := [], retryAt := [], classes := (2, 2, 1),
    boundary := false, owed := [], cycle := 0 }

/-- The public-key engine: slices, benches, the patch set loaded by class, the park key (none: empty), the entries whose
pages wait for a scrub, and the fenced requesters 36–40. -/
structure PkeSt where
  slices : Tab Slice
  benches : Tab Bench
  patch : Tab Bytes
  parkKey : Bytes
  scrubQ : List Nat
  fencedReq : List Nat
deriving DecidableEq, Repr

def PkeSt.reset : PkeSt :=
  { slices := [], benches := [], patch := [], parkKey := [], scrubQ := [], fencedReq := [] }

/-! ### Stateful hash signatures (chapter 07) -/

/-- A BBRAM counter record (R280): NEXT (40 bits), GEN (8 bits) and its CRC-8 as stored. -/
structure CounterRec where
  next : Nat
  gen : Nat
  crc : Byte
deriving DecidableEq, Repr

def CounterRec.blank : CounterRec := { next := 0, gen := 0, crc := 0 }

/-- The states of a stateful key, as PKE_HTS_STATE codes them (R300). -/
inductive HtsState where
  | none_ | ready | rebuilding | exhausted | lost
deriving DecidableEq, Repr

/-- What the device keeps of a stateful private key beside its slot (R279, R281): its counter record's number and
generation, its working copy of NEXT, its node-cache LKS entry, its typecodes as AUX gives them (R277), its state, and
whether it has been reported (PKE_HTS_WARN). -/
structure HtsKey where
  record : Nat
  gen : Nat
  working : Nat
  cache : Nat
  types : Nat
  st : HtsState
  warned : Bool
deriving DecidableEq, Repr

/-! ### Key register, large-key store, archive (chapter 09) -/

/-- Slot states of STATE bits 1:0 (R332). -/
inductive SlotState where
  | empty | loading | active | retired
deriving DecidableEq, Repr

/-- A slot directory entry (R332) with the cells of its units, which hold the slot's bytes XORed with its mask (R337): `data` those of
the key, `pub` those of the public half that a slot of a private key holds after it.  MASK is the entry's seed and access count;
`refreshedAt` is when the mask was last refreshed (R338); `retiredAt` when the slot became RETIRED (R334). -/
structure Slot where
  owner : Nat
  alg : Nat
  pset : Nat
  usage : Nat
  st : SlotState
  persist : Bool
  isPublic : Bool
  stateful : Bool
  origin : Nat
  base : Nat
  units : Nat
  expiry : Nat
  seed : Nat
  accesses : Nat
  refreshedAt : Time
  retiredAt : Option Time
  data : Bytes
  pub : Bytes
deriving DecidableEq, Repr

/-- An LKS directory entry (R354) with its bytes: `state` is STATE bits 1:0 (0 EMPTY, 1 LOADING, 2 ACTIVE, 3 DRAINING). -/
structure LksEntry where
  owner : Nat
  alg : Nat
  pset : Nat
  usage : Nat
  state : Nat
  persist : Bool
  kind : Nat
  extents : List Nat
  length : Nat
  data : Bytes
deriving DecidableEq, Repr

/-- One record of the archive journal (R356): its KIND, serial, handle or colour, and for an ADD what it adds. -/
inductive ArchRec where
  | addSlot (serial handle : Nat) (slot : Slot)
  | addLks (serial handle : Nat) (e : LksEntry)
  | dropSlot (serial handle : Nat)
  | dropLks (serial handle : Nat)
  | dropColour (serial colour : Nat)
deriving DecidableEq, Repr

/-- What a pending archive commit does once its record is written and read back (R358). -/
inductive ArchEffect where
  | activate (handle : Nat)
  | setPersist (handle : Nat)
  | clearPersist (handle : Nat)
  | freeSlot (handle : Nat)
  | freeLks (handle : Nat)
  | setPersistLks (handle : Nat)
  | clearPersistLks (handle : Nat)
  | setExpiry (handle expiry : Nat)
  | activateLks (handle : Nat)
  | none_
deriving DecidableEq, Repr

/-- A record appended and not yet read back, its effect, the job that waits for it if any, and when it was appended. -/
structure ArchCommit where
  record : ArchRec
  effect : ArchEffect
  entry : Option Nat
  at_ : Time
deriving DecidableEq, Repr

/-- A card fill in progress (R352, R353). -/
structure Fill where
  handle : Nat
  components : Nat
  done : Nat
  officers : List Nat
  startedAt : Time
deriving DecidableEq, Repr

/-- The key register, large-key store and archive. `working` holds the secrets that the device itself works with and that no handle
names (R19): the two keys of each open session, the shared secrets of each set-up, the key for a card's component; `htsLost` the counter
records, with their generations, of the stateful keys that are LOST for good (R283); `kScr` and `kMask` are K_scr and K_mask (none: empty),
`orderKey` what fixes the order of handles and `lastHandle` the one allocated last, `expander` and `expBlocks` the mask expander's seed and
the blocks it has given, `loose` the bytes that direct array access has left in cells of no slot, `bypass` scramble bypass (R574);
`erasing` when the overwrite of an erasure began (R340); `kek` the KEK that BBRAM holds (none: empty; R355), `halfA` and `halfB` the bytes of the
archive area's two halves in flash (blank: empty; R356). -/
structure KregSt where
  slots : Tab Slot
  working : Tab Bytes
  lks : Tab LksEntry
  lksUsers : List (Nat × Nat)
  hts : Tab HtsKey
  htsLost : List (Nat × Nat)
  counters : Tab CounterRec
  kScr : Bytes
  kMask : Bytes
  orderKey : Bytes
  lastHandle : Nat
  expander : Bytes
  expBlocks : Nat
  loose : Tab Byte
  bypass : Bool
  erasing : Option Time
  fill : Option Fill
  kek : Bytes
  halfA : Bytes
  halfB : Bytes
  activeB : Bool
  archSerial : Nat
  commits : List ArchCommit
  dropAt : Option Time
deriving DecidableEq, Repr

def KregSt.reset : KregSt :=
  { slots := [], working := [], lks := [], lksUsers := [], hts := [], htsLost := [], counters := [], kScr := [], kMask := [], orderKey := [],
    lastHandle := 0, expander := [], expBlocks := 0, loose := [], bypass := false, erasing := none,
    fill := none, kek := [], halfA := [], halfB := [], activeB := false,
    archSerial := 0, commits := [], dropAt := none }

/-! ### Digest engine (chapter 10) -/

/-- A LIVE context record (R364, R381): colour, algorithm, its flags, phase, declared length, the message absorbed so
far, bytes already delivered, the keyed state of a keyed context (R368), N and S given at OPEN, and the result length that FINAL fixed
for KMAC. -/
structure Ctx where
  owner : Nat
  pset : Nat
  early : Bool
  after : Bool
  exportClear : Bool
  xof : Bool
  finished : Bool
  declared : Option Nat
  absorbed : Bytes
  squeezed : Nat
  keyed : Bool
  key : Bytes
  name : Bytes
  custom : Bytes
  outLen : Nat
deriving DecidableEq, Repr

/-- A context number that is not FREE: LIVE with its record, or SAVED with its epoch and the record its blob holds
(R364, R379). -/
inductive CtxNum where
  | live (c : Ctx)
  | saved (epoch : Nat) (c : Ctx)
deriving DecidableEq, Repr

/-- A digest unit: the jobs on it in their turns, the admission number of the job served last, the blocks that its jobs have been given in
whole quanta, the quantum in effect (R369, R390), its watchdog bites, whether it is fenced, and since when it is re-initialised. -/
structure DigUnit where
  jobs : List Nat
  last : Option Nat
  served : List (Nat × Nat)
  quantum : Nat
  bites : List Time
  fenced : Bool
  initAt : Option Time
deriving DecidableEq, Repr

def DigUnit.reset : DigUnit := { jobs := [], last := none, served := [], quantum := 16, bites := [], fenced := false, initAt := none }

/-- The digest engine: context numbers, what fixes their order and the number given last (4,096: none), the last epoch, K_dsave, the units and
the 32 measurement registers. -/
structure DigSt where
  ctx : Tab CtxNum
  orderKey : Bytes
  lastCtx : Nat
  epoch : Nat
  dsave : Bytes
  units : Tab DigUnit
  meas : Tab Bytes
deriving DecidableEq, Repr

def DigSt.reset : DigSt := { ctx := [], orderKey := [], lastCtx := 4096, epoch := 0, dsave := [], units := [], meas := [] }

/-! ### Stream ports and the link cipher (chapter 11) -/

/-- The states of a port, as SP_STATE codes them. -/
inductive PortState where
  | down | training | aligning | up
deriving DecidableEq, Repr

/-- A packet that waits for the framer to show XON for its class, or leaves at once: its class, its circuit, what it is
(0 STATUS, 1 PROTECT output, 2 VALIDATE output, 3 GRAFT_OUT), the octets its circuit counts, and its bytes. -/
structure OutPkt where
  cls : Nat
  circuit : Nat
  kind : Nat
  octets : Nat
  bytes : Bytes
deriving DecidableEq, Repr

/-- A port: its state, lanes locked and aligned, since when the framer holds each class off, the classes in stall
discard (R407), the classes the device holds off (bit k), and the packets that wait for their class. -/
structure Port where
  st : PortState
  locked : BitVec 8
  aligned : BitVec 8
  xoffIn : Tab Time
  stalled : List Nat
  xoffOut : BitVec 64
  outQ : List OutPkt
deriving DecidableEq, Repr

def Port.reset : Port :=
  { st := .down, locked := 0, aligned := 0, xoffIn := [], stalled := [], xoffOut := 0, outQ := [] }

/-- A circuit key: the slot that holds it, its AN or phase, the exchange that installed it, the next number (to be
assigned on TX, expected on RX), its salt, its frames and octets so far. -/
structure LinkKey where
  slot : Nat
  an : Nat
  xid : Nat
  next : Nat
  salt : Bytes
  frames : Nat
  octets : Nat
deriving DecidableEq, Repr

/-- A packet past its circuit's sequence point: its number in the device, its pipeline, OP, class and return tag, its size
in the receive buffer and its payload length, the slot of the key fixed for it, its packet number, its STATUS code and
DETAIL, its output payload, ECHO, and whether its pipeline has finished it. -/
structure InFlightPkt where
  id : Nat
  pipe : Nat
  op : Nat
  cls : Nat
  tag : Nat
  size : Nat
  inLen : Nat
  slot : Option Nat
  number : Nat
  code : Nat
  detail : Nat
  out : Bytes
  echo : Bool
  done : Bool
deriving DecidableEq, Repr

/-- A circuit: its five keys, the end of the retired key's hold, whether the next TX key is armed, whether the circuit is
blocked, its packets between the sequence point and the port, and the slots it has let go that a packet in process still
uses (R423). -/
structure Circuit where
  txCur : Option LinkKey
  txNext : Option LinkKey
  rxCur : Option LinkKey
  rxNext : Option LinkKey
  rxRet : Option LinkKey
  retireAt : Time
  armed : Bool
  blocked : Bool
  queue : List InFlightPkt
  dying : List Nat
deriving DecidableEq, Repr

def Circuit.reset : Circuit :=
  { txCur := none, txNext := none, rxCur := none, rxNext := none, rxRet := none, retireAt := 0, armed := false,
    blocked := false, queue := [], dying := [] }

/-- A cipher pipeline: fenced, since when it is re-initialised, and the times of its mismatches. -/
structure Pipe where
  fenced : Bool
  initAt : Option Time
  faults : List Time
deriving DecidableEq, Repr

def Pipe.reset : Pipe := { fenced := false, initAt := none, faults := [] }

/-- Ports, pipelines and circuits. -/
structure SpSt where
  ports : Tab Port
  pipes : Tab Pipe
  circuits : Tab Circuit
  pktId : Nat
deriving DecidableEq, Repr

def SpSt.reset : SpSt := { ports := [], pipes := [], circuits := [], pktId := 0 }

/-! ### Graft (chapter 12) -/

/-- The states of a circuit's exchange, as GR_C_STATE codes them. -/
inductive GraftState where
  | idle | g1Sent | g2Sent | confirming | armed | switched | blocked
deriving DecidableEq, Repr

/-- The stage whose internal jobs run (GRAFT_STEPS_DONE ends it): of the initiator KEYGEN, the verification of G2, DECAPS
and AGREE, the signatures of G3; of the responder ENCAPS and KEYGEN, AGREE, the signatures of G2, the verification of
G3. -/
inductive GraftStage where
  | none_ | iKeygen | iVerify | iSecrets | iSign | rShare | rAgree | rSign | rVerify
deriving DecidableEq, Repr

/-- How an internal job of an exchange ended: its step, status, DETAIL and output. -/
structure GraftRes where
  step : Nat
  status : Status
  detail : Nat
  out : Bytes
deriving DecidableEq, Repr

/-- A circuit's exchange (R447): state, whether this side is initiator, XID, N_I, the messages of the exchange, resends, the
running timer's end, whether a G2 or G3 has failed, the stage in progress with its outstanding jobs and their results, its
slots by role (0 KEM key, 1 classical key, 2–4 the KEM, classical and McEliece secrets), a held trigger and whether it is a
write of GR_C_REKEY, the end of the retry pause, whether the RX next key has been promoted, the message under assembly (its MSG_ID, COUNT, runs by index, and when it is discarded), the accepted message that
waits, the bytes of a received message in use and of a sent one not yet out, the MSG_ID and fragments to be sent, whether a
trigger waits for buffer pages, when GR_C_PERIOD elapses and whether it has. -/
structure Graft where
  st : GraftState
  initiator : Bool
  xid : Nat
  nI : Bytes
  g1 : Bytes
  g2 : Bytes
  g3 : Bytes
  resends : Nat
  timer : Option Time
  badMsg : Bool
  stage : GraftStage
  jobs : Nat
  results : List GraftRes
  slots : Tab Nat
  pending : Bool
  forced : Bool
  pauseUntil : Option Time
  promoted : Bool
  periodDone : Bool
  asmId : Nat
  asmCount : Nat
  asm_ : Tab (Nat × Bytes)
  asmDue : Option Time
  rx : Option Bytes
  rxLen : Nat
  txLen : Nat
  msgId : Nat
  outFrags : List Bytes
  waitBuf : Bool
  periodDue : Time
deriving DecidableEq, Repr

def Graft.reset : Graft :=
  { st := .idle, initiator := false, xid := 0, nI := [], g1 := [], g2 := [], g3 := [], resends := 0, timer := none,
    badMsg := false, stage := .none_, jobs := 0, results := [], slots := [], pending := false, forced := false,
    pauseUntil := none, promoted := false, periodDone := false, asmId := 0, asmCount := 0, asm_ := [], asmDue := none,
    rx := none, rxLen := 0, txLen := 0, msgId := 0, outFrags := [], waitBuf := false, periodDue := 0 }

/-- The graft driver. -/
structure GraftSt where
  circuits : Tab Graft
deriving DecidableEq, Repr

def GraftSt.reset : GraftSt := { circuits := [] }

/-! ### Tsuow core and service cells (chapter 13) -/

/-- The core's registers (R459–R461, R478), its latches and modes. -/
structure Core where
  g : Tab Word
  pc : BitVec 24
  fl : Word
  lc : Word
  ls : BitVec 24
  le : BitVec 24
  lc1 : Word
  ls1 : BitVec 24
  le1 : BitVec 24
  vstart : Word
  vqLo : Word
  vqHi : Word
  mode : Word
  epc : BitVec 24
  efl : Word
  ecause : Word
  eaddr : Word
  evec : BitVec 24
  ccol : Word
  cb : Word
  cl : Word
  dwin : Word
  budget : Word
  v : Tab (BitVec 512)
  k : Tab (BitVec 64)
  timeHi : Word
  endPending : Bool
  waiting : Bool
  stopped : Bool
  retention : Bool
deriving DecidableEq, Repr

def Core.reset : Core :=
  { g := [], pc := 0x200000, fl := 0, lc := 0, ls := 0, le := 0, lc1 := 0, ls1 := 0, le1 := 0, vstart := 0, vqLo := 0,
    vqHi := 0, mode := 0, epc := 0, efl := 0, ecause := 0, eaddr := 0, evec := 0x200000, ccol := 0, cb := 0, cl := 0,
    dwin := 0, budget := 0, v := [], k := [], timeHi := 0, endPending := false, waiting := false,
    stopped := false, retention := false }

/-- The states of a service cell, as SVC_CELL_STATE codes them. -/
inductive CellState where
  | empty | loading | ready | running | fenced
deriving DecidableEq, Repr

/-- A service cell: its state, the staged image, what is loaded (code base and length, data base and length, entry
points, the image kept for a reset), the job of the running call, its sub-job, the status, DETAIL and OUT_WRITTEN of a
sub-job that has ended, whether it waits, its saved registers while it does not hold the core, the end of its quantum, the
budget loaded at the call's start, its fence times, and of a load in progress the state before it and the image. -/
structure Cell where
  st : CellState
  image : Bytes
  loaded : Bytes
  codeBase : Nat
  codeLen : Nat
  dataBase : Nat
  dataLen : Nat
  call : Option Nat
  subjob : Option Nat
  subResult : Option (Nat × Nat × Nat)
  waiting : Bool
  saved : Option Core
  quantumEnd : Time
  budget : Nat
  fences : List Time
  loading : Option (CellState × Bytes)
deriving DecidableEq, Repr

def Cell.reset : Cell :=
  { st := .empty, image := [], loaded := [], codeBase := 0, codeLen := 0, dataBase := 0, dataLen := 0, call := none,
    subjob := none, subResult := none, waiting := false, saved := none, quantumEnd := 0, budget := 0, fences := [], loading := none }

/-- The core pair and the cells: which cell holds the core, the ready queue, warm restart times, whether a warm restart
runs, and the watchdog's last restart. -/
structure TsuowSt where
  core : Core
  cells : Tab Cell
  current : Option Nat
  readyQ : List Nat
  restarts : List Time
  restarting : Bool
  wdogAt : Time
  busKey : Bytes
  activeAt : Time
deriving DecidableEq, Repr

def TsuowSt.reset : TsuowSt :=
  { core := Core.reset, cells := [], current := none, readyQ := [], restarts := [], restarting := false, wdogAt := 0, busKey := [],
    activeAt := 0 }

/-! ### Entropy (chapter 14) -/

/-- The states of the entropy source, as RNG_STATE codes them. -/
inductive RngState where
  | off | startup | ready | failed | retest | dead
deriving DecidableEq, Repr

/-- A DRBG instance (R509, R511): generate calls since its last reseed, its interval, generate calls since the source
last started, and whether a reseed request waits. -/
structure Drbg where
  count : Nat
  interval : Nat
  calls : Nat
  pending : Bool
deriving DecidableEq, Repr

def Drbg.reset : Drbg := { count := 0, interval := 4096, calls := 0, pending := false }

/-- The entropy source and the 44 instances: state, instances, how often the instances have been instantiated, the seeds
buffered and since when the next is in the making, start-up tests failed in this attempt and retests failed, when it entered FAILED and when the test
under way began, and whether cast-on went on without it (R523). -/
structure RngSt where
  st : RngState
  drbg : Tab Drbg
  starts : Nat
  seeds : Nat
  seedAt : Time
  attempts : Nat
  retests : Nat
  failedAt : Time
  startedAt : Time
  degraded : Bool
deriving DecidableEq, Repr

def RngSt.reset : RngSt :=
  { st := .off, drbg := [], starts := 0, seeds := 0, seedAt := 0, attempts := 0, retests := 0, failedAt := 0,
    startedAt := 0, degraded := false }

/-! ### Tamper, card, quorum (chapter 15) -/

/-- A tamper source: the times of the events in its window, whether its input is held active since an event and since when,
consecutive samples that differ, STUCK, CHATTER, since when its input changes faster than the filter follows, when it last
changed, when it last gave an event, whether it has burnt an evidence bit in this hold, and whether its condition may give
an event again (S6, S14, S15). -/
structure Source where
  times : List Time
  active : Bool
  activeAt : Time
  run : Nat
  stuck : Bool
  chatter : Bool
  changesAt : Option Time
  changedAt : Time
  eventAt : Option Time
  burnt : Bool
  armed : Bool
deriving DecidableEq, Repr

def Source.reset : Source :=
  { times := [], active := false, activeAt := 0, run := 0, stuck := false, chatter := false, changesAt := none,
    changedAt := 0, eventAt := none, burnt := false, armed := true }

/-- A tamper log entry (R544). -/
structure TamperRec where
  stamp : Nat
  source : Nat
  level : Nat
  applied : Nat
  flags : Nat
  value : Nat
deriving DecidableEq, Repr

/-- An AON latch entry (R546). -/
structure LatchRec where
  stamp : Nat
  source : Nat
  level : Nat
  flags : Nat
  seq : Nat
deriving DecidableEq, Repr

/-- A supply event held back (R620): its source, value, time, and the end of its PWR_PDN_WINDOW. -/
structure HeldEvent where
  source : Nat
  value : Nat
  at_ : Time
  due : Time
deriving DecidableEq, Repr

/-- What the card is being asked (R549–R551): nothing; its ATR; SELECT; GET_KEYS; a LOGIN, APPROVE or FILL signature;
a key component. -/
inductive CardStep where
  | none_
  | atr (warm : Bool)
  | select
  | getKeys
  | login (officer : Nat) (stmt : Bytes)
  | approve (obj : ObjId) (data : Bytes) (stmt : Bytes) (report : Bool)
  | fill (stmt : Bytes)
  | component (stmt : Bytes)
deriving DecidableEq, Repr

/-- The states of the card slot, as TMP_CARD_STATE codes them. -/
inductive CardState where
  | absent | activating | unknown | session | failed
deriving DecidableEq, Repr

/-- The card slot: seated, its state, the exchange under way, the card's keys once read, the officer of an open session,
when the last card operation was. -/
structure Card where
  seated : Bool
  st : CardState
  step : CardStep
  keys : Bytes
  session : Option Nat
  lastAt : Time
deriving DecidableEq, Repr

def Card.reset : Card := { seated := false, st := .absent, step := .none_, keys := [], session := none, lastAt := 0 }

/-- A critical act awaiting approvals (R555, R556): the object and value written, the key IDs of its approvers, and when
the first approved. -/
structure PendingAct where
  obj : ObjId
  data : Bytes
  approvers : List Nat
  firstAt : Time
deriving DecidableEq, Repr

/-- The tamper monitor, the AON registers and the person interface: the sources, the held and pending levels, pending burns,
the AON latch, the tamper log, the end of a HOLD and of an ALARM_N pulse, the supply events held back, the mesh LFSR, whether
the AON domain runs on the cell alone and whether it has stopped, the card slot and the pending critical act. -/
structure TmpSt where
  sources : Tab Source
  held : Nat
  aonPending : Nat
  burnsPending : Nat
  latch : List LatchRec
  latchSeq : Nat
  log : List TamperRec
  holdUntil : Option Time
  pulseUntil : Option Time
  heldEvents : List HeldEvent
  lfsr : BitVec 31
  onCell : Bool
  aonStopped : Bool
  card : Card
  act : Option PendingAct
deriving DecidableEq, Repr

def TmpSt.reset : TmpSt :=
  { sources := [], held := 0, aonPending := 0, burnsPending := 0, latch := [], latchSeq := 0, log := [],
    holdUntil := none, pulseUntil := none, heldEvents := [], lfsr := 0, onCell := false,
    aonStopped := false, card := Card.reset, act := none }

/-! ### Life cycle and debug (chapter 16) -/

/-- The life-cycle states (R560). -/
inductive LifeState where
  | raw | test | provision | mission | rma | scrap
deriving DecidableEq, Repr

/-- The instruction in the debug TAP (R577–R579). -/
inductive TapInstr where
  | extest | samplePreload | idcode | bypass | debug (code : Nat)
deriving DecidableEq, Repr

/-- OTP (R561, R562, R594): the three state bytes, the two unit-root slots of 256 bits and a 32-bit check, the unit ID, the
ordering code, the evidence bits and the security versions of the ten component types. -/
structure Otp where
  state0 : Byte
  state1 : Byte
  state2 : Byte
  root0 : Bytes
  root1 : Bytes
  unitId : Bytes
  ordering : Nat
  evidence : Nat
  secver : Tab Nat
deriving DecidableEq, Repr

def Otp.blank : Otp :=
  { state0 := 0, state1 := 0, state2 := 0, root0 := List.replicate 36 0, root1 := List.replicate 36 0,
    unitId := List.replicate 16 0, ordering := 0, evidence := 0, secver := [] }

/-- Life cycle and debug: OTP, the decoded state, the held nonce and when it was drawn, the debug challenge and when it was
made, whether debug is open and with which scope, the TAP's instruction, the boundary register's update latches, whether the
boundary drives the pins, the root in use (1 unit root, 2 test root, 0 none), the last BIST result (0 NONE, 1 PASS,
2 FAIL), the result of a BIST that the next cast-on reports, the request or token of the pending act, and whether ring polling,
dispatch and stream traffic have stopped for a transition or a BIST (R570, R575). -/
structure LcSt where
  otp : Otp
  st : LifeState
  nonce : Option (Bytes × Time)
  challenge : Option (Bytes × Time)
  debugOpen : Bool
  scope : Nat
  tap : TapInstr
  boundary : Bytes
  extest : Bool
  root : Nat
  bist : Nat
  bistNext : Nat
  request : Bytes
  stopping : Bool
deriving DecidableEq, Repr

def LcSt.reset : LcSt :=
  { otp := Otp.blank, st := .raw, nonce := none, challenge := none, debugOpen := false, scope := 0, tap := .idcode,
    boundary := [], extest := false, root := 0, bist := 0,
    bistNext := 0, request := [], stopping := false }

/-! ### Cast-on and update (chapter 17) -/

/-- A copy of the activation record (R588): SEQ, the UPD_STATE code, STEP, ACTIVE_BAD, the staged bundle's length, the
pending activation, its hash and its security versions. -/
structure ActRec where
  seq : Nat
  state : Nat
  step : Nat
  activeBad : Bool
  staged : Nat
  activateAt : Nat
  hash : Bytes
  secver : List Nat
deriving DecidableEq, Repr

def ActRec.blank : ActRec :=
  { seq := 0, state := 0, step := 0, activeBad := false, staged := 0, activateAt := 0, hash := List.replicate 48 0, secver := List.replicate 10 0 }

/-- Cast-on and the flash image areas (R587): the phase (7 READY), the sampled straps, the area that runs (0 active,
1 fallback, 2 recovery), the bundles of the active, staging and fallback areas (the staging area's are the bytes staged), the
two copies of the activation record, whether the pending activation was ordered in recovery (no trial follows, R597), the end
of the trial, the BBRAM boot count, the running bundle, when the cast-on began, when the staged bundle's verification
began, and whether the flash is read in 8D-8D-8D mode (R668). -/
structure UpdSt where
  phase : Nat
  bootSel : Nat
  area : Nat
  active : Bytes
  staging : Bytes
  fallback : Bytes
  recA : Bytes
  recB : Bytes
  noTrial : Bool
  trialUntil : Option Time
  bootCount : Nat
  running : Bytes
  startedAt : Time
  verifyAt : Option Time
  octal : Bool
deriving DecidableEq, Repr

def UpdSt.reset : UpdSt :=
  { phase := 0, bootSel := 0, area := 0, active := [], staging := [], fallback := [], recA := [], recB := [],
    noTrial := false, trialUntil := none, bootCount := 0, running := [], startedAt := 0, verifyAt := none, octal := false }

/-! ### Power, clocks, RTC, resets (chapters 18 and 19) -/

/-- A gauge plan (R628): the engine clock in MHz, the core voltage in mV, the entropy divider. -/
structure Plan where
  mhz : Nat
  mv : Nat
  divider : Nat
deriving DecidableEq, Repr

/-- A plan being carried out: what it will report at its end (R627, R631–R633), and whether 850 mV has been reached where the
clock is to be lowered. -/
structure PlanRun where
  plan : Plan
  margin : Nat
  years : Nat
  state : Nat
  rngLow : Bool
deriving DecidableEq, Repr

/-- What the idle settings were before a write changed them at a time (R625). -/
structure IdleCfg where
  changedAt : Time
  sliceIdle : Nat
  sliceGate : Nat
  pllIdle : Nat
deriving DecidableEq, Repr

/-- Supplies, clocks, gauge, regulator and RTC: supplies in range; the engine PLL runs, the engine clock root is gated, the
engine clock; the voltage last acknowledged, last commanded and commanded before, when the last VOUT_COMMAND went out, its
failures and whether its result is awaited; the regulator's LINEAR16 exponent (none: not LINEAR16) and whether it is given up
until the next plan; the plan being carried out and the BBRAM plan; operating hours when counting last began, when that was,
and the hours of the last 24-hour plan, power losses; the RTC's value when last set, when that was, whether it is valid and how
often it was written; the temperatures in 0.01 °C; the idle settings before each change. -/
structure PwrSt where
  supplies : Bool
  pllRunning : Bool
  clockGated : Bool
  mhz : Nat
  voutAcked : Nat
  voutNow : Nat
  voutPrev : Nat
  voutAt : Option Time
  writeTries : Nat
  writePending : Bool
  linear16 : Option Int
  noPmbus : Bool
  plan : Option PlanRun
  bbPlan : Option Plan
  opHours : Nat
  opAt : Time
  lastPlanHours : Nat
  powerLosses : Nat
  rtcBase : Nat
  rtcAt : Time
  rtcValid : Bool
  rtcSets : Nat
  temps : List Int
  idleCfg : List IdleCfg
  engineAt : Time
deriving DecidableEq, Repr

def PwrSt.reset : PwrSt :=
  { supplies := false, pllRunning := false, clockGated := false, mhz := 1200, voutAcked := 850, voutNow := 850,
    voutPrev := 850, voutAt := none, writeTries := 0, writePending := false, linear16 := none, noPmbus := false,
    plan := none, bbPlan := none, opHours := 0, opAt := 0, lastPlanHours := 0, powerLosses := 0, rtcBase := 0, rtcAt := 0,
    rtcValid := false, rtcSets := 0, temps := [], idleCfg := [], engineAt := 0 }

/-- The units that can be re-initialised (R639). -/
inductive ReUnit where
  | slice (n : Nat) | requester (n : Nat) | digest (n : Nat) | pipe (n : Nat) | rng
deriving DecidableEq, Repr

/-- Containment: the scheduled reset (cause and time), the cause of the last reset, the reset count in BBRAM, the
re-initialisation that runs and since when, the fenced units' bits, whether RESET_N is low, and when the device was last reset. -/
structure RecSt where
  scheduled : Option (Nat × Time)
  cause : Nat
  resets : Nat
  reinit : Option ReUnit
  reinitAt : Time
  fences : List Nat
  resetLow : Bool
  resetAt : Option Time
deriving DecidableEq, Repr

def RecSt.reset : RecSt :=
  { scheduled := none, cause := 0, resets := 0, reinit := none, reinitAt := 0, fences := [], resetLow := false,
    resetAt := none }

/-! ### The whole machine -/

/-- The machine. -/
structure State where
  /-- The model's own clock, in nanoseconds. -/
  now : Time
  /-- The model's own counter of free values drawn so far. -/
  free : Nat
  /-- What has left the device, oldest first. -/
  out : List Out
  /-- The commands that wait, first in first out. -/
  pending : List Instr
  /-- The dictionary and its two transports. -/
  dict : DictSt
  /-- Tags, region rules, refusal log, fabric memories. -/
  iso : IsoSt
  /-- Ring pairs, in-flight entries, ring registers, MSI-X. -/
  ring : RingSt
  /-- The public-key engine and its benches. -/
  pke : PkeSt
  /-- The key register, the large-key store and the archive. -/
  kreg : KregSt
  /-- The digest engine. -/
  dig : DigSt
  /-- Stream ports and the link cipher. -/
  sp : SpSt
  /-- The graft exchanges. -/
  graft : GraftSt
  /-- The Tsuow core and the service cells. -/
  tsuow : TsuowSt
  /-- The entropy source and the DRBG instances. -/
  rng : RngSt
  /-- The tamper monitor, the AON registers and the person interface. -/
  tmp : TmpSt
  /-- Life cycle, OTP and debug. -/
  lc : LcSt
  /-- Cast-on and update. -/
  upd : UpdSt
  /-- Power, clocks and the RTC. -/
  pwr : PwrSt
  /-- Containment and recovery. -/
  rec_ : RecSt
deriving DecidableEq, Repr

/-- Why a step stops. -/
inductive Fault where
  /-- Raised by no meaning: every event of this block has a next state.  Safe. -/
  | none_
deriving DecidableEq, Repr

/-- Why a command is refused. -/
inductive Refusal where
  /-- A command whose meaning is not written: raised by its dispatch arm alone.  Safe. -/
  | notModelled (mnemonic : String)
deriving DecidableEq, Repr

/-- The machine right after reset, before cast-on (C0).  Where the spec gives no reset value the value stands in the
assumption log. -/
def State.reset : State :=
  { now := 0,
    free := 0,
    out := [],
    pending := [],
    dict := DictSt.reset,
    iso := IsoSt.reset,
    ring := RingSt.reset,
    pke := PkeSt.reset,
    kreg := KregSt.reset,
    dig := DigSt.reset,
    sp := SpSt.reset,
    graft := GraftSt.reset,
    tsuow := TsuowSt.reset,
    rng := RngSt.reset,
    tmp := TmpSt.reset,
    lc := LcSt.reset,
    upd := UpdSt.reset,
    pwr := PwrSt.reset,
    rec_ := RecSt.reset }

end Sys2Proof.Machine
end

