-- ==== Sys2Proof/Machine/Tab.lean ====
section
/-!
DEFINITION. Sparse tables in canonical form: keys strictly rising, no entry equal to the default.
Memories, object values and per-unit records are all held this way, so equal contents are equal data.
-/
namespace Sys2Proof.Machine

/-- The value listed at key `k`, if any. -/
def mget? {α : Type} (t : Tab α) (k : Nat) : Option α :=
  match t with
  | [] => none
  | (a, v) :: r => if k = a then some v else if k < a then none else mget? r k

/-- List value `v` at key `k`, in place of any value there. -/
def mset {α : Type} (t : Tab α) (k : Nat) (v : α) : Tab α :=
  match t with
  | [] => [(k, v)]
  | (a, w) :: r =>
    if k = a then (k, v) :: r
    else if k < a then (k, v) :: (a, w) :: r
    else (a, w) :: mset r k v

/-- Drop the value listed at key `k`. -/
def mdel {α : Type} (t : Tab α) (k : Nat) : Tab α :=
  match t with
  | [] => []
  | (a, w) :: r => if k = a then r else if k < a then (a, w) :: r else (a, w) :: mdel r k

/-- What key `k` reads as, when an unlisted key reads as `d k`. -/
def tget {α : Type} (d : Nat → α) (t : Tab α) (k : Nat) : α := (mget? t k).getD (d k)

/-- Write `v` at key `k`: a value equal to the default removes the entry. -/
def tset {α : Type} [DecidableEq α] (d : Nat → α) (t : Tab α) (k : Nat) (v : α) : Tab α :=
  if v = d k then mdel t k else mset t k v

/-- Keys strictly rising. -/
def keysRise {α : Type} : Tab α → Bool
  | [] => true
  | [_] => true
  | (a, _) :: (b, w) :: r => decide (a < b) && keysRise ((b, w) :: r)

/-- The canonical form: keys strictly rising and no entry equal to the default. -/
def tabWf {α : Type} [DecidableEq α] (d : Nat → α) (t : Tab α) : Bool :=
  keysRise t && t.all (fun p => decide (p.2 ≠ d p.1))

/-- Change every listed value. -/
def mmap {α : Type} (f : Nat → α → α) (t : Tab α) : Tab α := t.map (fun p => (p.1, f p.1 p.2))

/-- Keep the entries that satisfy `p`. -/
def mfilter {α : Type} (p : Nat → α → Bool) (t : Tab α) : Tab α := t.filter (fun e => p e.1 e.2)

/-- The first listed entry that satisfies `p`. -/
def mfind? {α : Type} (p : Nat → α → Bool) (t : Tab α) : Option (Nat × α) := t.find? (fun e => p e.1 e.2)

/-- How many listed entries satisfy `p`. -/
def mcount {α : Type} (p : Nat → α → Bool) (t : Tab α) : Nat := (t.filter (fun e => p e.1 e.2)).length

/-- The smallest key from `k` on, within `fuel` keys, that is not listed. -/
def mfree? {α : Type} (t : Tab α) : Nat → Nat → Option Nat
  | _, 0 => none
  | k, fuel + 1 => match mget? t k with
    | none => some k
    | some _ => mfree? t (k + 1) fuel

end Sys2Proof.Machine
end

