-- ==== Sys2Proof/Machine/Ops.lean ====
section
/-!
DEFINITION. The operations every family shares: the clock, free values, what leaves the device, the object store and its
notifications, the fabric memory.
-/
namespace Sys2Proof.Machine

/-! ### Clock and free values -/

/-- Microseconds, milliseconds and seconds in nanoseconds. -/
abbrev us (n : Nat) : Time := n * 1000
abbrev ms (n : Nat) : Time := n * 1000000
abbrev sec (n : Nat) : Time := n * 1000000000

/-- The clock stands at `t` or later. -/
def advanceTo (t : Time) (s : State) : State := { s with now := max s.now t }

/-- The RTC's TIME64 at moment `t` (R7, R635): its value when last set plus the time since. -/
def time64At (s : State) (t : Time) : Nat := (s.pwr.rtcBase + (t - s.pwr.rtcAt) * 65536 / 1000000000) % 2 ^ 64

/-- The RTC's TIME64 now. -/
def time64 (s : State) : Nat := time64At s s.now

/-- The next free value's number is used up. -/
def usedFree (s : State) : State := { s with free := s.free + 1 }

/-- Append to what has left the device. -/
def emit (o : Out) (s : State) : State := { s with out := s.out ++ [o] }

/-- Engine cycles as nanoseconds at the engine clock the gauge reports (R30). -/
def cyclesNs (s : State) (c : Nat) : Time := c * 1000 / (max s.pwr.mhz 1)

/-- The life-cycle states in which evidence is burnt and the hold of R543 applies (R542, R573). -/
def burnsState (s : State) : Bool := decide (s.lc.st = .provision ∨ s.lc.st = .mission)

/-- The evidence counter is full where the hold of R543 applies (R573). -/
def evidenceHold (s : State) : Bool := decide (256 ≤ s.lc.otp.evidence) && burnsState s

/-- The level at which the device is held: TMP_HELD's, or level 3 whatever TMP_HELD reads while the evidence counter is full
(R538, R543). -/
def heldLevel (s : State) : Nat := if evidenceHold s then max s.tmp.held 3 else s.tmp.held

/-- Ring polling, admission, dispatch and stream traffic have stopped: a response of level 3 or above is held (R535), or a
life-cycle transition or a memory BIST has begun (R570, R575). -/
def halted (s : State) : Bool := decide (3 ≤ heldLevel s) || s.lc.stopping

/-! ### MSI-X -/

/-- What raising a vector sends: nothing while it is masked. -/
def msixOut (r : RingSt) (vec : Nat) : List Out :=
  if (tget (fun _ => Msix.reset) r.msix vec).masked then [] else [.msix vec]

/-- The table after raising a vector: a masked vector becomes pending. -/
def msixRaised (r : RingSt) (vec : Nat) : RingSt :=
  let e := tget (fun _ => Msix.reset) r.msix vec
  if e.masked then { r with msix := tset (fun _ => Msix.reset) r.msix vec { e with pending := true } } else r

/-- Raise an MSI-X vector (PCI Express masking: a masked vector becomes pending). -/
def raiseVec (vec : Nat) (s : State) : State :=
  { s with ring := msixRaised s.ring vec, out := s.out ++ msixOut s.ring vec }

/-! ### The object store -/

/-- The number of bytes of an object's encoded value; the most a STRING may have (R37). -/
def encLen (o : ObjDesc) : Nat :=
  match o.ty with
  | .bool | .u8 | .array => 1
  | .u16 | .handle16 | .colour16 => 2
  | .u32 | .i32 => 4
  | .u64 | .time64 => 8
  | .bytes | .string => o.n

/-- The ROM default of an object. -/
def objDefault (id : ObjId) : Nat :=
  match findObj id with
  | some o => o.dflt
  | none => 0

/-- The live value of an object of the store, as a number (byte strings little-endian). -/
def objVal (s : State) (id : ObjId) : Nat := tget objDefault s.dict.obj id

/-- The live value as its encoded bytes (R37); a STRING without its trailing padding. -/
def objBytes (s : State) (id : ObjId) : Bytes :=
  match findObj id with
  | none => []
  | some o =>
    let b := leBytes (encLen o) (objVal s id)
    if o.ty = .string then (b.reverse.dropWhile (· == 0)).reverse else b

/-- The object of a ring pair: tenant pairs in the tenant record, management pairs at 0x0910 + m (R129). -/
def pairObj (pair : Nat) (base : ObjId) : ObjId :=
  if pair < 4096 then base + 256 * pair else base - 0x200000 + 0x091000 + 256 * (pair - 4096)

/-- The object of tenant `t`, circuit `c`, cell `n`, port `p`, source `src`, officer `o`: index base + number. -/
def at_ (base : ObjId) (n : Nat) : ObjId := base + 256 * n

/-! ### Roles (R39–R41, R674) -/

/-- Role mask bits of R39. -/
abbrev rMONITOR : Nat := 1
abbrev rOPERATOR : Nat := 2
abbrev rOFFICER : Nat := 4
abbrev rTENANT : Nat := 8
abbrev rSUPERVISOR : Nat := 16

/-- The roles DWIN_ROLE shows: OPERATOR always, OFFICER while a card session is open (R39, R58). -/
def windowRoles (s : State) : Nat := if s.tmp.card.session.isSome then rOPERATOR + rOFFICER else rOPERATOR

/-- Officers enrolled: TMP_OFF_KEY_ID not zero (R553). -/
def officers (s : State) : Nat :=
  ((List.range 16).filter (fun o => decide (objVal s (at_ Obj.TMP_OFF_KEY_ID o) ≠ 0))).length

/-- The record at index `idx` belongs to tenant `t`: its tenant record, a circuit bound to it, a cell assigned to it
(R40, R503). -/
def ownRecord (s : State) (t idx : Nat) : Bool :=
  decide (idx = 0x2000 + t) ||
  (decide (0x3000 ≤ idx ∧ idx < 0x5000) && decide (objVal s (idx * 256 + 1) = t)) ||
  (decide (0x5000 ≤ idx ∧ idx < 0x5040) && decide (objVal s (idx * 256 + 1) = t))

/-- Records where TENANT_ADMIN(t) reaches only its own (R40, R503). -/
def ownScoped (idx : Nat) : Bool := decide (0x2000 ≤ idx ∧ idx < 0x5040)

/-- The roles that count for an access to an object: TENANT_ADMIN drops out of records not its own (R40, R503). -/
def effRoles (s : State) (roles tenant : Nat) (id : ObjId) : Nat :=
  if bit roles 3 && ownScoped (id / 256) && !(ownRecord s tenant (id / 256)) then roles &&& 0x17 else roles

/-- Roles with MONITOR added where OPERATOR or OFFICER implies it (R39). -/
def withMonitor (roles : Nat) : Nat := if roles &&& 6 ≠ 0 then roles ||| 1 else roles

/-- Life-cycle state PROVISION. -/
def inProvision (s : State) : Bool := decide (s.lc.st = .provision)

/-- A rule withdraws the writes of TENANT_ADMIN(t) now: its tenant is fenced, or debug is open (R113, R584). -/
def writesWithdrawn (s : State) (tenant : Nat) : Bool :=
  s.lc.debugOpen || decide (objVal s (at_ Obj.TENANT_STATE tenant) = 2)

/-- The roles listed for writing an object now (R674): MONITOR drops out, state-qualified roles come in, TENANT_ADMIN
drops out while a rule withdraws it. -/
def writeRoles (s : State) (o : ObjDesc) (tenant : Nat) : Nat :=
  let q := match o.q with
    | .none_ => 0
    | .provision => if inProvision s then rOPERATOR else 0
    | .enrol => if inProvision s && decide (officers s < objVal s Obj.TMP_QUORUM_K) then rOPERATOR else 0
  let w := (o.wr &&& 0x1E) ||| q
  if writesWithdrawn s tenant then w &&& 0x17 else w

/-- The DICT_NTF_SET slot of a caller: its session's slot, or 8 for the window (R57). -/
def ntfSlot : Caller → Nat
  | .window => 8
  | .session k _ => k
  | .supervisor => 255

/-- An entry of the caller's own DICT_NTF_SET slot. -/
def ownNtf (c : Caller) (id : ObjId) : Bool := decide (id / 256 = 0x240 + ntfSlot c)

/-- The objects that a session holding TENANT_ADMIN alone reaches although they list MONITOR alone (R39). -/
def tenantOpen (c : Caller) (id : ObjId) : Bool :=
  decide (id = Obj.DICT_VERSION) || decide (id = Obj.DICT_DESCRIBE) || decide (id = Obj.DICT_DESCRIPTION) || ownNtf c id

/-- The caller may read the object (R39, R41, R674). -/
def mayRead (s : State) (c : Caller) (roles tenant : Nat) (id : ObjId) (o : ObjDesc) : Bool :=
  let r := withMonitor (effRoles s roles tenant id)
  decide (r &&& o.rd ≠ 0) || bit roles 4 || (bit roles 3 && tenantOpen c id)

/-- The caller may write the object, whatever its access code (R39, R41, R674): an entry of another slot's
DICT_NTF_SET never (R57). -/
def mayWrite (s : State) (c : Caller) (roles tenant : Nat) (id : ObjId) (o : ObjDesc) : Bool :=
  let r := effRoles s roles tenant id
  let mon := decide (withMonitor r &&& 1 ≠ 0) || (bit roles 3 && !(writesWithdrawn s tenant))
  if decide (0x240 ≤ id / 256 ∧ id / 256 ≤ 0x248) then mon && ownNtf c id
  else decide (r &&& writeRoles s o tenant ≠ 0) || (decide (id = Obj.DICT_DESCRIBE) && mon) || bit roles 4

/-- The access is concealed (R40, R503): the caller holds TENANT_ADMIN, the record is not its own, and none of its other
roles is listed for the object at all. -/
def concealed (s : State) (roles tenant : Nat) (id : ObjId) (o : ObjDesc) : Bool :=
  bit roles 3 && ownScoped (id / 256) && !(ownRecord s tenant (id / 256)) &&
    decide (withMonitor (roles &&& 0x17) &&& (o.rd ||| writeRoles s o tenant ||| (o.wr &&& 1)) = 0)

/-! ### Changes of objects: notifications (R61, R80, R84, R85) -/

/-- The slots that subscribe to an object (R57). -/
def subscribers (s : State) (id : ObjId) : List Nat :=
  (s.dict.obj.filter (fun p => decide (p.2 = id ∧ 0x240 ≤ p.1 / 256 ∧ p.1 / 256 ≤ 0x248 ∧ p.1 % 256 ≠ 0))).map
    (fun p => p.1 / 256 - 0x240)

/-- A caller's tracked block read learns that the object changed (R80). -/
def CallerSt.touched (c : CallerSt) (id : ObjId) : CallerSt :=
  { c with read := c.read.map (fun r => if r.obj = id then { r with changed := true } else r) }

/-- The window's queue gains the object (R61): not twice, and not past 64, which sets NTF_LOST. -/
def windowNotified (s : State) (id : ObjId) : Bool :=
  match findObj id with
  | none => false
  | some o => decide (8 ∈ subscribers s id) && mayRead s .window (windowRoles s) 0 id o

/-- The window after a change of an object. -/
def Window.noticed (w : Window) (sub : Bool) (id : ObjId) : Window :=
  if sub then
    if id ∈ w.queue then { w with st := w.st.touched id }
    else if 64 ≤ w.queue.length then { w with ntfLost := true, st := w.st.touched id }
    else { w with queue := w.queue ++ [id], st := w.st.touched id }
  else { w with st := w.st.touched id }

/-- A session after a change of an object: a subscribed object it may read waits for NOTIFY (R84, R85). -/
def Session.noticed (s : State) (k : Nat) (x : Session) (id : ObjId) : Session :=
  let readable := match findObj id with
    | some o => mayRead s (.session k 0) x.roles x.tenant id o
    | none => false
  { x with
    st := x.st.touched id,
    changed := if decide (k ∈ subscribers s id) && readable && !(decide (id ∈ x.changed)) then x.changed ++ [id]
               else x.changed }

/-- The object at `id` has changed: the window's queue and vector, the sessions' pending notifications and the tracked
block reads take note (R61, R80, R84). -/
def noticed (id : ObjId) (s : State) : State :=
  let w := windowNotified s id
  let queued := w && !(decide (id ∈ s.dict.win.queue)) && decide (s.dict.win.queue.length < 64)
  let rings := queued && s.dict.win.ntfEn
  let v := s.dict.win.ntfVector.toNat
  { s with
    dict := { s.dict with
      win := s.dict.win.noticed w id,
      sessions := mmap (fun k x => Session.noticed s k x id) s.dict.sessions },
    ring := if rings then msixRaised s.ring v else s.ring,
    out := if rings then s.out ++ msixOut s.ring v else s.out }

/-- Write an object of the store; a change is noticed. -/
def setObj (id : ObjId) (v : Nat) (s : State) : State :=
  let t := noticed id s
  { s with
    dict := if objVal s id = v then s.dict else { t.dict with obj := tset objDefault s.dict.obj id v },
    ring := if objVal s id = v then s.ring else t.ring,
    out := if objVal s id = v then s.out else t.out }

/-- One past the largest value an object's type holds. -/
def objRange (id : ObjId) : Nat :=
  match findObj id with
  | some o => 2 ^ (8 * encLen o)
  | none => 1

/-- Add `n` to a counter.  The spec does not say what a counter does past its width: there it takes a free value. -/
def bumpBy (id : ObjId) (n : Nat) (s : State) : State :=
  let v := objVal s id + n
  let fits := decide (v < objRange id)
  { setObj id (if fits then v else Config.freeNat s.free % objRange id) s with
    free := if fits then s.free else s.free + 1 }

/-- Count one. -/
def bump (id : ObjId) (s : State) : State := bumpBy id 1 s

/-! ### Fabric memory (R90) -/

/-- The large-key store's range of the fabric map. -/
def inLks (a : Nat) : Bool := decide (0x1000000 ≤ a ∧ a < 0x2000000)

/-- The position in its entry of byte `off` of the large-key store: an entry's extents hold its bytes in order (R93, R354). -/
def lksPos (off : Nat) (x : LksEntry) : Option Nat :=
  if off / 4096 ∈ x.extents then some (x.extents.idxOf (off / 4096) * 4096 + off % 4096) else none

/-- The LKS entry that holds a fabric address, and the byte's position in it. -/
def lksAt? (s : State) (a : Nat) : Option (Nat × LksEntry × Nat) :=
  if inLks a then s.kreg.lks.findSome? (fun p => (lksPos (a - 0x1000000) p.2).map (fun i => (p.1, p.2, i))) else none

/-- The records of the context store that the spec names (R23, R93, R144, R354, R544): tenant records, ring state with its prefetched
entries, digest contexts, graft circuit states, graft digest records of circuits and of set-ups, the directory of the large-key store,
the tamper log. -/
inductive CtxRec where
  | tenant (t : Nat)
  | ring (p : Nat)
  | digest (n : Nat)
  | graft (c : Nat)
  | graftDigest (c : Nat)
  | setup (n : Nat)
  | lksDir
  | tamperLog
deriving DecidableEq, Repr

/-- A record's kind and number. -/
def recKind : CtxRec → Nat × Nat
  | .tenant t => (0, t)
  | .ring p => (1, p)
  | .digest n => (2, n)
  | .graft c => (3, c)
  | .graftDigest c => (4, c)
  | .setup n => (5, n)
  | .lksDir => (6, 0)
  | .tamperLog => (7, 0)

/-- The record of a kind and a number. -/
def recOf (p : Nat × Nat) : CtxRec :=
  match p.1 with
  | 0 => .tenant p.2
  | 1 => .ring p.2
  | 2 => .digest p.2
  | 3 => .graft p.2
  | 4 => .graftDigest p.2
  | 5 => .setup p.2
  | 6 => .lksDir
  | _ => .tamperLog

/-- The context store's range of the fabric map (R90). -/
def inCtx (a : Nat) : Bool := decide (0x3000000 ≤ a ∧ a < 0x3200000)

/-- The record that holds a fabric address. -/
def ctxAt? (a : Nat) : Option CtxRec := if inCtx a then (Config.ctxHolder ((a - 0x3000000) / 256)).map recOf else none

/-- The first fabric address of a record: four granules from there lie in the store. -/
def recAddr (r : CtxRec) : Nat := 0x3000000 + Config.ctxPlace (recKind r).1 (recKind r).2 % 8188 * 256

/-- The tag of a record's granules (R93, R95): none has one until the supervisor firmware runs. -/
def recTag (s : State) (r : CtxRec) : Nat :=
  if s.upd.phase ≠ 7 then 0xFFFF
  else match r with
    | .digest n => match mget? s.dig.ctx n with
      | some (.live c) => c.owner
      | _ => 0xFFFF
    | .graftDigest c =>
      let t := objVal s (at_ Obj.SP_C_TENANT c)
      if t < 4096 then 0x1000 + t else 0xFFFF
    | .setup n => if (mget? s.dict.setups n).isSome then 0x0002 else 0xFFFF
    | _ => 0x0002

/-- A byte of a record of the context store, whose layout the spec does not list: an unknown function of the state. -/
opaque Config.ctxByte : State → Nat → Byte

/-- One byte of the fabric's memories: what nothing has written reads zero; the bytes of an LKS entry stand in its extents, those of a
record in the context store. -/
def memByte (s : State) (a : Nat) : Byte :=
  match lksAt? s a, ctxAt? a with
  | some (_, x, i), _ => x.data.getD i (tget (fun _ => 0) s.iso.mem a)
  | none, some _ => Config.ctxByte s a
  | none, none => tget (fun _ => 0) s.iso.mem a

/-- `n` bytes from address `a`. -/
def memRead (s : State) (a n : Nat) : Bytes := (List.range n).map (fun i => memByte s (a + i))

/-- Write a byte string at address `a` into a memory. -/
def putBytes (m : Tab Byte) (a : Nat) : Bytes → Tab Byte
  | [] => m
  | b :: r => putBytes (tset (fun _ => 0) m a b) (a + 1) r

/-- Write zero over `n` bytes from `a`: listed bytes of the range are dropped. -/
def zeroRange (m : Tab Byte) (a n : Nat) : Tab Byte := mfilter (fun k _ => !(decide (a ≤ k ∧ k < a + n))) m

/-- Write one byte of the large-key store: into the entry's data where it lies there. -/
def lksPut (s : State) (a : Nat) (b : Byte) : State :=
  match lksAt? s a with
  | some (h, x, i) =>
    if i < x.data.length then { s with kreg := { s.kreg with lks := mset s.kreg.lks h { x with data := listSet x.data i b } } }
    else { s with iso := { s.iso with mem := tset (fun _ => 0) s.iso.mem a b } }
  | none => { s with iso := { s.iso with mem := tset (fun _ => 0) s.iso.mem a b } }

/-- Write bytes of the large-key store. -/
def lksWrite (a : Nat) : Bytes → State → State
  | [], s => s
  | b :: r, s => lksWrite (a + 1) r (lksPut s a b)

/-- Write bytes of the context store: a write over a record leaves no mark on what the record says, since its layout is not stated. -/
def ctxWrite (a : Nat) : Bytes → State → State
  | [], s => s
  | b :: r, s => ctxWrite (a + 1) r
      (if (ctxAt? a).isSome then s else { s with iso := { s.iso with mem := tset (fun _ => 0) s.iso.mem a b } })

/-- Write bytes to the fabric memory. -/
def memWrite (a : Nat) (b : Bytes) (s : State) : State :=
  if inLks a then lksWrite a b s else if inCtx a then ctxWrite a b s else { s with iso := { s.iso with mem := putBytes s.iso.mem a b } }

/-- Bytes of the large-key store in no entry's extents are zero (R94). -/
def wipeFreeLks (s : State) : State :=
  { s with iso := { s.iso with mem := mfilter (fun a _ => !(inLks a) || (lksAt? s a).isSome) s.iso.mem } }

/-- The tag of a granule (R92, R93, R95): the owner of the LKS entry whose extent it is; that of the record it holds; 0xFFFF where
nothing has tagged it. -/
def tagOf (s : State) (granule : Nat) : Nat :=
  match lksAt? s (granule * 256), ctxAt? (granule * 256) with
  | some (_, x, _), _ => x.owner
  | none, some r => recTag s r
  | none, none => tget (fun _ => 0xFFFF) s.iso.tags granule

/-- Tag `n` granules from `g`. -/
def putTags (t : Tab Nat) (g tag : Nat) : Nat → Tab Nat
  | 0 => t
  | n + 1 => putTags (tset (fun _ => 0xFFFF) t g tag) (g + 1) tag n

/-- Retag `n` granules from `g`: each is overwritten with zero first (R94). -/
def retag (g n tag : Nat) (s : State) : State :=
  { s with iso := { s.iso with mem := zeroRange s.iso.mem (g * 256) (n * 256), tags := putTags s.iso.tags g tag n } }

/-- Tag `n` granules from `g` where they have just been zeroed. -/
def tagOnly (g n tag : Nat) (s : State) : State :=
  { s with iso := { s.iso with tags := putTags s.iso.tags g tag n } }

end Sys2Proof.Machine
end

