-- ==== Sys2Proof/Machine/Draws.lean ====
section
/-!
DEFINITION. Draws from the 44 DRBG instances (chapter 14): the seed buffer, generate calls, reseeds, stretching, stalls.
-/
namespace Sys2Proof.Machine

/-- A DRBG instance. -/
def drbg (s : State) (n : Nat) : Drbg := tget (fun _ => Drbg.reset) s.rng.drbg n

/-- Replace a DRBG instance. -/
def setDrbg (n : Nat) (d : Drbg) (s : State) : State :=
  { s with rng := { s.rng with drbg := tset (fun _ => Drbg.reset) s.rng.drbg n d } }

/-- The conditioner makes a 384-bit seed in this time: 40 × 4 / RNG_DIVIDER Mb/s (R506, R508). -/
def seedTime (s : State) : Time := 384 * 1000 * max (objVal s Obj.RNG_DIVIDER) 1 / 160

/-- Seeds in the buffer now: at most 64, made at the conditioned rate (R506, R508). -/
def seedsNow (s : State) : Nat := min 64 (s.rng.seeds + (s.now - s.rng.seedAt) / seedTime s)

/-- The buffer as it stands now: the seeds made since `seedAt`, and since when the next one is in the making; with a full buffer the
conditioner stands still (R508). -/
def settleSeeds (s : State) : State :=
  let made := (s.now - s.rng.seedAt) / seedTime s
  { s with rng := { s.rng with seeds := seedsNow s,
                               seedAt := if 64 ≤ s.rng.seeds + made then max s.now s.rng.seedAt else s.rng.seedAt + made * seedTime s } }

/-- Take one seed, waiting for it where the buffer is empty (R511, R512). -/
def takeSeed (s : State) : State :=
  let s1 := settleSeeds s
  if 0 < s1.rng.seeds then { s1 with rng := { s1.rng with seeds := s1.rng.seeds - 1 } }
  else
    let t := max s1.now (s1.rng.seedAt + seedTime s1)
    { s1 with now := t, rng := { s1.rng with seeds := 0, seedAt := t } }

/-- Set RNG_DIVIDER: seeds already buffered are kept (R507).  DESIGN CHOICE: the seed in the making goes on at the new rate from the last
whole seed. -/
def setDivider (d : Nat) (s : State) : State := setObj Obj.RNG_DIVIDER d (settleSeeds s)

/-- Serve an instance's reseed with one seed: its interval is 4,096 again (R511, R512). -/
def reseed (n : Nat) (s : State) : State :=
  let s1 := takeSeed s
  bump Obj.RNG_RESEEDS (setDrbg n { drbg s1 n with count := 0, interval := 4096, pending := false } s1)

/-- At a count of 2^20 a generate call stalls until its reseed is served (R511), which takes 40 cycles (R512). -/
def stallCall (n : Nat) (s : State) : State :=
  if 2 ^ 20 ≤ (drbg s n).count then
    let t := reseed n (bump Obj.RNG_STALLS s)
    { t with now := t.now + cyclesNs t 40 }
  else s

/-- An instance whose request is not served when its count reaches its interval doubles the interval (R511). -/
def stretch (n : Nat) (s : State) : State :=
  let d := drbg s n
  if d.pending ∧ d.interval ≤ d.count ∧ d.interval < 2 ^ 20 then
    let i := 2 * d.interval
    setObj Obj.RNG_STRETCH_MAX (max i (objVal s Obj.RNG_STRETCH_MAX)) (setDrbg n { d with interval := i } s)
  else s

/-- One generate call of at most 64 bytes (R509, R511). -/
def drawCall (n len : Nat) (s : State) : Bytes × State :=
  let s1 := stretch n (stallCall n s)
  let d := drbg s1 n
  ((List.range len).map (Config.drbg s1.rng.starts n d.calls),
   setDrbg n { d with count := d.count + 1, calls := d.calls + 1,
                      pending := d.pending || decide (d.interval ≤ d.count + 1) } s1)

/-- `calls` generate calls that give `len` bytes in all. -/
def drawCalls (n : Nat) : Nat → Nat → State → Bytes × State
  | 0, _, s => ([], s)
  | k + 1, len, s =>
    let a := drawCall n (min len 64) s
    let b := drawCalls n k (len - 64) a.2
    (a.1 ++ b.1, b.2)

/-- `len` bytes from instance `n`, 64 bytes a call (R509). -/
def draw (n len : Nat) (s : State) : Bytes × State := drawCalls n (ceilDiv len 64) len s

/-- Random bytes can be drawn (R516, R518). -/
def rngReady (s : State) : Bool := decide (s.rng.st = .ready)

/-- `k` generate calls whose output is written over and kept nowhere (R215, R340, R341). -/
def drawPass (n : Nat) : Nat → State → State
  | 0, s => s
  | k + 1, s => drawPass n k (drawCall n 64 s).2

/-- `len` bytes from instance `n`.  DESIGN CHOICE: where the source gives none, what a block takes in their place is a free value. -/
def drawOrFree (n len : Nat) (s : State) : Bytes × State :=
  if rngReady s then draw n len s else (freeBytes s.free len, usedFree s)

/-- An interrupt of the supervisor's work (R679): the core leaves its retention, and its next millisecond of rest counts from here. -/
def rouseCore (s : State) : State :=
  { s with
    pwr := { s.pwr with pllRunning := s.pwr.pllRunning || s.tsuow.core.retention },
    tsuow := { s.tsuow with core := { s.tsuow.core with retention := false }, activeAt := s.now } }

/-- Work that the core does itself finds it awake, or wakes it in 20 µs with the PLL's restart (R624). -/
def wakeCore (s : State) : State := rouseCore (if s.tsuow.core.retention then advanceTo (s.now + us 20) s else s)

/-- The state RNG_STATE shows (R526). -/
def rngCode : RngState → Nat
  | .off => 0
  | .startup => 1
  | .ready => 2
  | .failed => 3
  | .retest => 4
  | .dead => 5

/-- Change the source's state. -/
def setRng (st : RngState) (s : State) : State :=
  if s.rng.st = st then s else rouseCore (noticed Obj.RNG_STATE { s with rng := { s.rng with st := st } })


end Sys2Proof.Machine
end

