-- ==== Sys2Proof/Machine/Bench.lean ====
section
/-!
DEFINITION. The bench ports (chapter 05): grants, preemption, BACKOFF, and the accesses that a retag or a rule change waits for.
-/
namespace Sys2Proof.Machine

/-- A bench. -/
def bench (s : State) (b : Nat) : Bench := tget (fun _ => Bench.reset) s.pke.benches b

/-- Replace a bench. -/
def setBench (b : Nat) (x : Bench) (s : State) : State :=
  { s with pke := { s.pke with benches := tset (fun _ => Bench.reset) s.pke.benches b x } }

/-- Change every bench that is in use. -/
def eachBench (f : Bench → Bench) (s : State) : State :=
  { s with pke := { s.pke with benches := mmap (fun _ x => f x) s.pke.benches } }

/-- How far a requester is from the front of the rotation of its class (R205): the one after the last granted is first. -/
def rotation (x : Bench) (cls requester : Nat) : Nat :=
  let last := tget (fun _ => 40) x.lastOf cls
  (requester + 41 - (last + 1) % 41) % 41

/-- The winner of a list of bursts: lowest class, then rotation (R205). -/
def winner (x : Bench) (l : List Burst) : Option Burst := leastBy (fun q => q.cls * 41 + rotation x q.cls q.requester) l

/-- The job of a slice's burst has waited `n` cycles at the port (R222); the DMA engines and the other units occupy no slice. -/
def owe (b : Burst) (n : Nat) (x : Bench) : Bench :=
  if b.requester < 36 ∧ n ≠ 0 then { x with owed := x.owed ++ [(b.entry, n)] } else x

/-- Give the port to a burst (R205, R206). -/
def grant (x : Bench) (b : Burst) : Bench :=
  { x with holder := some b, lastOf := tset (fun _ => 40) x.lastOf b.cls b.requester,
           preempted := x.preempted.filter (fun q => decide (q.requester ≠ b.requester)),
           backoff := tset (fun _ => 0) x.backoff b.requester 0, retryAt := mdel x.retryAt b.requester }

/-- The preempted bursts that compete for the port: those that a retag or rule change waits for, where there are any (R211). -/
def contenders (x : Bench) : List Burst :=
  if x.preempted.any (·.awaited) then x.preempted.filter (·.awaited) else x.preempted

/-- Give the port to a preempted burst: it goes on from its recorded beat (R208). -/
def regrantTo (x : Bench) (b : Burst) : Bench := owe b (x.cycle - b.lostAt) (grant x b)

/-- A free port goes to the best preempted burst (R205, R208). -/
def regrant (x : Bench) : Bench :=
  match x.holder, winner x (contenders x) with
  | none, some b => regrantTo x b
  | _, _ => x

/-- One cycle of the port without a new request: a preempted burst takes a free port, and the holder moves a beat. -/
def benchCycle (x : Bench) : Bench :=
  let y := regrant x
  match y.holder with
  | some h =>
    if h.beats ≤ h.done + 1 then { y with holder := none, boundary := true, cycle := y.cycle + 1 }
    else { y with holder := some { h with done := h.done + 1, heldCycles := h.heldCycles + 1 }, cycle := y.cycle + 1 }
  | none => { y with cycle := y.cycle + 1 }

/-- Beats still to move at the port. -/
def beatsLeft (x : Bench) : Nat :=
  (match x.holder with | some h => h.beats - h.done | none => 0) + (x.preempted.map (fun q => q.beats - q.done)).sum

/-- `n` cycles of the port. -/
def benchCycles : Nat → Bench → Bench
  | 0, x => x
  | n + 1, x => benchCycles n (benchCycle x)

/-- The port as it stands at the start of cycle `t`. -/
def benchTo (t : Nat) (x : Bench) : Bench :=
  let y := benchCycles (min (t - x.cycle) (beatsLeft x)) x
  { y with cycle := max t y.cycle }

/-- The port once every burst in progress or preempted has ended (R96, R210). -/
def benchIdle (x : Bench) : Bench := benchCycles (beatsLeft x) x

/-- A requester loses: BACKOFF for 2^n cycles, n its consecutive BACKOFFs here, capped at 10 (R206). -/
def giveBackoff (x : Bench) (b : Burst) : Bench :=
  let n := min 10 (tget (fun _ => 0) x.backoff b.requester + 1)
  owe b (2 ^ n) { x with backoff := tset (fun _ => 0) x.backoff b.requester n, retryAt := mset x.retryAt b.requester (x.cycle + 2 ^ n) }

/-- Every loser of one cycle gets its BACKOFF (R206). -/
def backoffAll (x : Bench) : List Burst → Bench
  | [] => x
  | b :: r => backoffAll (giveBackoff x b) r

/-- Preempt the holder: its progress is recorded and its request stays raised (R207, R208). -/
def preempt (x : Bench) : Bench :=
  match x.holder with
  | some h => { x with holder := none, preempted := { h with lostAt := x.cycle } :: x.preempted }
  | none => x

/-- The decision of one cycle: the port, the burst newly granted, if any, the losers, and whether the holder was preempted
(R205–R211).  A burst that a retag or rule change waits for keeps the port. -/
def decidePort (x : Bench) (l : List Burst) : Bench × Option Burst × List Burst × Bool :=
  match x.holder with
  | some h =>
    match winner x l with
    | some w =>
      if x.mode = 0 ∧ w.cls < h.cls ∧ h.awaited = false then
        (grant (preempt x) w, some w, l.filter (fun q => decide (q.requester ≠ w.requester)), true)
      else (x, none, l, false)
    | none => (x, none, [], false)
  | none =>
    match winner x (if x.preempted.any (·.awaited) then contenders x else l ++ x.preempted) with
    | none => (x, none, l, false)
    | some w =>
      let isNew := l.any (fun q => decide (q.requester = w.requester))
      (if isNew then grant x w else regrantTo x w, if isNew then some w else none,
       l.filter (fun q => decide (q.requester ≠ w.requester)), false)

/-- A rule change begins to wait for the bursts in progress and preempted (R96); a preempted one takes the port (R211). -/
def markAwaited (x : Bench) : Bench :=
  let y := { x with holder := x.holder.map (fun h => { h with awaited := true }),
                    preempted := x.preempted.map (fun h => { h with awaited := true }) }
  match winner y y.preempted with
  | some w => regrantTo (preempt y) w
  | none => y

/-- A port that serves a requester no more: its bursts are dropped (R213). -/
def Bench.without (r : Nat) (x : Bench) : Bench :=
  { x with holder := match x.holder with
             | some h => if h.requester = r then none else some h
             | none => none,
           preempted := x.preempted.filter (fun q => decide (q.requester ≠ r)) }

/-- A requester's requests are ignored at every bench (R213). -/
def dropBursts (r : Nat) (s : State) : State := eachBench (Bench.without r) s

/-- The cycles that an entry's job has waited at the benches and not yet been charged. -/
def owedTo (s : State) (e : Nat) : Nat :=
  (s.pke.benches.map (fun p => ((p.2.owed.filter (fun q => decide (q.1 = e))).map (·.2)).sum)).sum

/-- They have been charged. -/
def settleOwed (e : Nat) (s : State) : State :=
  eachBench (fun x => { x with owed := x.owed.filter (fun q => decide (q.1 ≠ e)) }) s

/-- A burst touches a page. -/
def onPage (p : Nat) (b : Burst) : Bool := decide (b.addr / 1024 = p)

/-- A retag of a page waits for the bursts on it, in progress or preempted (R96). -/
def awaitPage (p : Nat) (s : State) : State :=
  let x := bench s (p / 512)
  if x.holder.any (onPage p) || x.preempted.any (onPage p) then
    setBench (p / 512) (benchIdle x) { s with now := s.now + cyclesNs s (beatsLeft x) }
  else s

/-- Retags of several pages. -/
def awaitPages : List Nat → State → State
  | [], s => s
  | p :: r, s => awaitPages r (awaitPage p s)

end Sys2Proof.Machine
end

