-- ==== Sys2Proof/Machine/Iso.lean ====
section
/-!
DEFINITION. The isolation supervisor's checks: the fabric map, region rules, tags, refusals and the refusal log.
-/
namespace Sys2Proof.Machine

/-- The tagged memories of the fabric map (R90). -/
def taggedAddr (a : Nat) : Bool :=
  decide (a < 0x800000) || decide (0x1000000 ≤ a ∧ a < 0x2200000) || decide (0x3000000 ≤ a ∧ a < 0x3200000)

/-- The untagged memories of the fabric map (R90): Tsuow instruction SRAM and ROM. -/
def untaggedAddr (a : Nat) : Bool := decide (0x4000000 ≤ a ∧ a < 0x4220000)

/-- Tsuow instruction ROM, never writable (R90). -/
def romAddr (a : Nat) : Bool := decide (0x4200000 ≤ a ∧ a < 0x4220000)

/-- The address lies in some memory of the fabric map. -/
def mapped (a : Nat) : Bool := taggedAddr a || untaggedAddr a

/-- A fabric access as the isolation supervisor sees it (R91, R108): class, unit number, colour, first address, length,
kind (1 read, 2 write, 4 fetch), and the pair and entry of the job served. -/
structure FabAcc where
  cls : Nat
  master : Nat
  colour : Nat
  addr : Nat
  len : Nat
  kind : Nat
  ring : Nat
  entry : Nat
deriving DecidableEq, Repr

/-- A region rule in effect: entry `e` of class `cls` (R97). -/
def ruleOf (s : State) (cls e : Nat) : Nat := tget (fun _ => 0) s.iso.rules (cls * 64 + e)

/-- EN, LOCK, R, W, X, LIMIT and BASE of a rule (R97). -/
def ruleEn (r : Nat) : Bool := bit r 63
def ruleLock (r : Nat) : Bool := bit r 62
def ruleLimit (r : Nat) : Nat := bits r 55 32
def ruleBase (r : Nat) : Nat := bits r 23 0

/-- The rule allows accesses of this kind (R97). -/
def ruleAllows (r kind : Nat) : Bool :=
  match kind with
  | 1 => bit r 61
  | 2 => bit r 60
  | _ => bit r 59

/-- The rule covers a granule (R97, R98): a LIMIT below BASE covers nothing. -/
def ruleCovers (r g : Nat) : Bool := decide (ruleBase r ≤ g ∧ g ≤ ruleLimit r)

/-- The class's enabled rules. -/
def enabledRules (s : State) (cls : Nat) : List Nat :=
  ((s.iso.rules.filter (fun p => decide (p.1 / 64 = cls))).map (·.2)).filter ruleEn

/-- The granules an access touches. -/
def granules (a : FabAcc) : List Nat := (List.range ((a.addr + max a.len 1 - 1) / 256 - a.addr / 256 + 1)).map (· + a.addr / 256)

/-- The first address of an access that lies in granule `g`. -/
def firstIn (a : FabAcc) (g : Nat) : Nat := max a.addr (g * 256)

/-- The checks of R91 and R103 with the tags as `tagAt` gives them.  Reasons of a refusal (R108), in the order of R109: 2 NO_RULE,
5 LOCKED, 4 OVERLAP, 3 PERMISSION, 1 TAG. -/
def checkWith (s : State) (tagAt : Nat → Nat) (a : FabAcc) : Option (Nat × Nat) :=
  let gs := granules a
  match gs.find? (fun g => !(mapped (g * 256))) with
  | some g => some (2, firstIn a g)
  | none =>
  if a.cls = 8 then
    -- the debug master ignores tags; a locked entry of any class admits it only through a locked entry of its own (R103)
    let locked := (s.iso.rules.map (·.2)).filter (fun r => ruleEn r && ruleLock r)
    let own := (enabledRules s 8).filter ruleLock
    match gs.find? (fun g => locked.any (fun r => ruleCovers r g) &&
        !(own.any (fun r => ruleCovers r g && ruleAllows r a.kind))) with
    | some g => some (5, firstIn a g)
    | none => none
  else
    let en := enabledRules s a.cls
    let whole := en.filter (fun r => gs.all (ruleCovers r))
    match whole with
    | [] => some (2, match gs.find? (fun g => !(en.any (fun r => ruleCovers r g))) with
        | some g => firstIn a g
        | none => a.addr)
    | _ =>
      match gs.find? (fun g => decide (2 ≤ (en.filter (fun r => ruleCovers r g)).length)) with
      | some g => some (4, firstIn a g)
      | none =>
        if !(whole.any (fun r => ruleAllows r a.kind)) then some (3, a.addr)
        else match gs.find? (fun g => decide (a.kind = 2) && romAddr (g * 256)) with
          | some g => some (3, firstIn a g)
          | none => match gs.find? (fun g => taggedAddr (g * 256) && decide (tagAt g ≠ a.colour)) with
            | some g => some (1, firstIn a g)
            | none => none

/-- An access as it stands (R91, R103): why it is refused, and at which address; none where it passes. -/
def checkAccess (s : State) (a : FabAcc) : Option (Nat × Nat) := checkWith s (tagOf s) a

/-- An access to a record of the context store (R36, R86, R93), from the record's first address. -/
def recAccess (cls master colour : Nat) (r : CtxRec) (len kind ring entry : Nat) : FabAcc :=
  { cls := cls, master := master, colour := colour, addr := recAddr r, len := max 1 (min len 1024), kind := kind, ring := ring,
    entry := entry }

/-- Why an access to a record is refused. -/
def checkRec (s : State) (r : CtxRec) (a : FabAcc) : Option (Nat × Nat) := checkWith s (fun _ => recTag s r) a

/-- The tag a log entry or a tag query shows: 0x0000 for untagged or unmapped addresses (R108, R122). -/
def shownTag (s : State) (addr : Nat) : Nat := if taggedAddr addr then tagOf s (addr / 256) else 0

/-- The refusal log after one more entry (R108): at most 1,024, the oldest overwritten. -/
def logged (l : List RefusalRec) (r : RefusalRec) : List RefusalRec := if 1024 ≤ l.length then l.drop 1 ++ [r] else l ++ [r]

/-- Record a refusal (R108, R110): the log entry (DESIGN CHOICE: ISO_LOG_OVERWRITTEN counts each entry that is overwritten, read or not,
as R108 has it), ISO_REFUSALS_TOTAL, the class counter, and TENANT_REFUSALS of a
tenant colour with its time in the window. -/
def logRefusal (a : FabAcc) (reason bad : Nat) (s : State) : State :=
  let seq := objVal s Obj.ISO_LOG_NEWEST + 1
  let r : RefusalRec :=
    { stamp := time64 s, addr := bad, colour := a.colour, tag := shownTag s bad, cls := a.cls, master := a.master,
      kind := reason * 16 + a.kind, len := a.len, ring := a.ring, entry := a.entry, seq := seq }
  let full := decide (1024 ≤ s.iso.log.length)
  let s1 := setObj Obj.ISO_LOG_NEWEST seq { s with iso := { s.iso with log := logged s.iso.log r } }
  let s2 := if full then bump Obj.ISO_LOG_OVERWRITTEN s1 else s1
  let s3 := bump (Obj.ISO_CLASS_REFUSALS + a.cls) (bump Obj.ISO_REFUSALS_TOTAL s2)
  if 0x1000 ≤ a.colour ∧ a.colour < 0x2000 then
    let t := a.colour - 0x1000
    let times := tget (fun _ => []) s3.iso.refusedAt t ++ [s3.now]
    bump (at_ Obj.TENANT_REFUSALS t) { s3 with iso := { s3.iso with refusedAt := mset s3.iso.refusedAt t times } }
  else s3

/-! ### The dictionary server's accesses (R36) -/

/-- The record in tagged memory that an object reports (R36). -/
def recordOf (id : ObjId) : Option CtxRec :=
  let idx := id / 256
  let sub := id % 256
  if 0x2000 ≤ idx ∧ idx < 0x3000 then
    some (if 0x40 ≤ sub ∧ sub < 0x60 then .ring (idx - 0x2000) else .tenant (idx - 0x2000))
  else if 0x910 ≤ idx ∧ idx < 0x920 then some (.ring (4096 + (idx - 0x910)))
  else if 0x3000 ≤ idx ∧ idx < 0x5000 then some (.graft (idx - 0x3000))
  else if id = Obj.TMP_LOG_ENTRY then some .tamperLog
  else none

/-- Why the dictionary server's access to an object's record, in colour 0x0002, is refused (R36): kind 1 read, 2 write. -/
def serverRefused (s : State) (id : ObjId) (len kind : Nat) : Option (FabAcc × Nat × Nat) :=
  (recordOf id).bind (fun r =>
    let a := recAccess 3 0 0x0002 r len kind 0xFFFF 0xFFFFFFFF
    (checkRec s r a).map (fun p => (a, p.1, p.2)))

/-- Why a read of an object's record is refused; a write-only or command object reads no record. -/
def readRefused (s : State) (id : ObjId) : Option (FabAcc × Nat × Nat) :=
  match findObj id with
  | none => none
  | some o => if o.acc = .wo ∨ o.acc = .cmd then none else serverRefused s id (encLen o) 1

/-- A read of an object's record that is refused is logged (R108). -/
def noteRead (id : ObjId) (s : State) : State :=
  match readRefused s id with
  | some (a, reason, bad) => logRefusal a reason bad s
  | none => s

/-- Write an object's record: a refused write is dropped entirely and logged, and its access ends as usual (R105, R108). -/
def recordWrite (id : ObjId) (len : Nat) (act : State → State) (s : State) : State :=
  match serverRefused s id len 2 with
  | some (a, reason, bad) => logRefusal a reason bad s
  | none => act s

/-- A log entry's 32 bytes (R108). -/
def refusalBytes (r : RefusalRec) : Bytes :=
  leBytes 8 r.stamp ++ leBytes 4 r.addr ++ leBytes 2 r.colour ++ leBytes 2 r.tag ++ leBytes 1 r.cls ++ leBytes 1 r.master ++
    leBytes 1 r.kind ++ zeros 1 ++ leBytes 2 r.len ++ leBytes 2 r.ring ++ leBytes 4 r.entry ++ leBytes 4 r.seq

/-- Tenant `t`'s refusals within ISO_FENCE_WINDOW reach its threshold (R112); a threshold of 0 never. -/
def overThreshold (s : State) (t : Nat) : Bool :=
  let lim := objVal s (at_ Obj.TENANT_REFUSE_LIMIT t)
  let th := if lim ≠ 0 then lim else objVal s Obj.ISO_FENCE_THRESHOLD
  let w := ms (objVal s Obj.ISO_FENCE_WINDOW)
  let n := ((tget (fun _ => []) s.iso.refusedAt t).filter (fun x => decide (s.now < x + w))).length
  decide (th ≠ 0 ∧ th ≤ n)

end Sys2Proof.Machine
end

