-- ==== Sys2Proof/Machine/Dict.lean ====
section
/-!
DEFINITION. The dictionary server's shared operations: results, checks in the order of R673, critical acts, and how a
result reaches the window or an OAP session.
-/
namespace Sys2Proof.Machine

/-- Access results (R44). -/
inductive Result where
  | done | noObject | notPermitted | readOnly | badLength | badValue | busy | blockOrder | quorumPending | badOp
  | storeFail | held | changed
deriving DecidableEq, Repr

/-- The result codes of R44. -/
def resultCode : Result → Nat
  | .done => 0x00
  | .noObject => 0x01
  | .notPermitted => 0x02
  | .readOnly => 0x03
  | .badLength => 0x04
  | .badValue => 0x05
  | .busy => 0x06
  | .blockOrder => 0x07
  | .quorumPending => 0x08
  | .badOp => 0x09
  | .storeFail => 0x0A
  | .held => 0x0B
  | .changed => 0x0C

/-- Who makes an access, with the roles it is made with and the key ID under which it approves critical acts (R555). -/
structure Who where
  caller : Caller
  roles : Nat
  tenant : Nat
  approver : Nat
deriving DecidableEq, Repr

/-- The key ID under which a caller approves: the card officer's, or the principal's (R555). -/
def approverId (s : State) (c : Caller) : Nat :=
  match c with
  | .window => match s.tmp.card.session with
    | some o => objVal s (at_ Obj.TMP_OFF_KEY_ID o)
    | none => 0
  | .session k _ => match mget? s.dict.sessions k with
    | some x => objVal s (at_ Obj.DICT_PRN_KEY_ID x.principal)
    | none => 0
  | .supervisor => 0

/-- The roles of a caller now; none for a session that is not open. -/
def whoOf (s : State) (c : Caller) : Option Who :=
  match c with
  | .window => some { caller := c, roles := windowRoles s, tenant := 0, approver := approverId s c }
  | .supervisor => some { caller := c, roles := rSUPERVISOR, tenant := 0, approver := 0 }
  | .session k _ => (mget? s.dict.sessions k).map
      (fun x => { caller := c, roles := x.roles, tenant := x.tenant, approver := approverId s c })

/-- The slot of a session that names the window of before a PCIe reset: its accepted access completes, and its result goes
nowhere (R62). -/
abbrev oldWindow : Nat := 8

/-- The slot of a session that has closed since its request was accepted: the request completes, unanswered (R75). -/
abbrev oldSession : Nat := 9

/-! ### What each caller holds of its own -/

/-- A caller's own state (R47, R80, R81). -/
def callerSt (s : State) (c : Caller) : CallerSt :=
  match c with
  | .window => s.dict.win.st
  | .supervisor => CallerSt.empty
  | .session k _ => if k = oldWindow then s.dict.win.st else match mget? s.dict.sessions k with
    | some x => x.st
    | none => CallerSt.empty

/-- Replace a caller's own state. -/
def setCallerSt (c : Caller) (v : CallerSt) (s : State) : State :=
  { s with dict := match c with
    | .window => { s.dict with win := { s.dict.win with st := v } }
    | .supervisor => s.dict
    | .session k _ => if k = oldWindow then { s.dict with win := { s.dict.win with st := v } } else { s.dict with sessions := mmap (fun j x => if j = k then { x with st := v } else x) s.dict.sessions } }

/-- A caller's own copy of an object that each transport session and the window hold separately. -/
def ownVal (s : State) (c : Caller) (id : ObjId) : Nat := tget (fun _ => 0) (callerSt s c).own id

/-- Write a caller's own copy of an object. -/
def setOwn (c : Caller) (id : ObjId) (v : Nat) (s : State) : State :=
  setCallerSt c { callerSt s c with own := tset (fun _ => 0) (callerSt s c).own id v } s

/-! ### What the device serves (R576, R597, R601) -/

/-- In recovery (R597). -/
def inRecovery (s : State) : Bool := decide (s.upd.area = 2 ∧ s.upd.phase = 3)

/-- In SCRAP, whose cast-on ends after phase C1 (R576). -/
def inScrap (s : State) : Bool := decide (s.lc.st = .scrap ∧ s.upd.phase = 1)

/-- The dictionary server runs: from DEVICE_READY on, in recovery, in SCRAP; not while the supervisor firmware restarts
(R490, R601). -/
def serverUp (s : State) : Bool :=
  (decide (s.upd.phase = 7) && !s.tsuow.restarting && !s.tsuow.core.stopped) || inRecovery s || inScrap s

/-- The objects that recovery serves besides the identity objects and LC_STATE (R597). -/
def recoveryObjs : List ObjId :=
  [Obj.UPD_STATE, Obj.UPD_LAST_ERR, Obj.UPD_STAGE_BEGIN, Obj.UPD_STAGE_CHUNK, Obj.UPD_VERIFY, Obj.UPD_ACTIVATE_AT]

/-- The object is served at all: every one after DEVICE_READY; in recovery and SCRAP those of R597 and R576. -/
def served (s : State) (id : ObjId) : Bool :=
  let few := decide (id / 256 = 0x100 ∨ id / 256 = 0x101) || decide (id = Obj.LC_STATE)
  if inScrap s then few else if inRecovery s then few || decide (id ∈ recoveryObjs) else true

/-! ### The checks (R673) -/

/-- Checks 2 and 3 for a read: concealed, permitted. -/
def readCheck (s : State) (w : Who) (id : ObjId) : Option Result :=
  match findObj id with
  | none => some .noObject
  | some o =>
    if !(served s id) || concealed s w.roles w.tenant id o then some .noObject
    else if mayRead s w.caller w.roles w.tenant id o then none
    else some .notPermitted

/-- Checks 2 to 4 for a write: concealed, permitted, RO or locked RWL. -/
def writeCheck (s : State) (w : Who) (id : ObjId) : Option Result :=
  match findObj id with
  | none => some .noObject
  | some o =>
    if !(served s id) || concealed s w.roles w.tenant id o then some .noObject
    else if !(mayWrite s w.caller w.roles w.tenant id o) then some .notPermitted
    else if o.acc = .ro || (o.acc = .rwl && decide (id ∈ s.dict.locked)) then some .readOnly
    else none

/-- The access is counted in DICT_ACCESS_REFUSED (R57): NOT_PERMITTED, or NO_OBJECT by concealment. -/
def refusedCounts (w : Who) (id : ObjId) (r : Result) : Bool :=
  match r with
  | .notPermitted => true
  | .noObject => (findObj id).isSome && bit w.roles 3
  | _ => false

/-- Check 6: the data's length is the object's encoded length; at most n for STRING(n) (R78). -/
def lengthOk (o : ObjDesc) (data : Bytes) : Bool :=
  if o.ty = .string then decide (data.length ≤ o.n) else decide (data.length = encLen o)

/-- The written number, without reserved bits (R12). -/
def maskedVal (o : ObjDesc) (data : Bytes) : Nat := if o.mask = 0 then leNat data else leNat data &&& o.mask

/-- The bytes are UTF-8: `need` bytes of a character are still to come, the next of them within `lo..hi` (Unicode, table 3-7). -/
def utf8From (need lo hi : Nat) : Bytes → Bool
  | [] => decide (need = 0)
  | b :: r =>
    let v := b.toNat
    if need ≠ 0 then decide (lo ≤ v ∧ v ≤ hi) && utf8From (need - 1) 0x80 0xBF r
    else if v < 0x80 then utf8From 0 0 0 r
    else if 0xC2 ≤ v ∧ v ≤ 0xDF then utf8From 1 0x80 0xBF r
    else if v = 0xE0 then utf8From 2 0xA0 0xBF r
    else if v = 0xED then utf8From 2 0x80 0x9F r
    else if 0xE1 ≤ v ∧ v ≤ 0xEF then utf8From 2 0x80 0xBF r
    else if v = 0xF0 then utf8From 3 0x90 0xBF r
    else if 0xF1 ≤ v ∧ v ≤ 0xF3 then utf8From 3 0x80 0xBF r
    else if v = 0xF4 then utf8From 3 0x80 0x8F r
    else false

/-- Check 9, the part that the type and range decide (R37, R44: a STRING is UTF-8 without the byte 0x00). -/
def rangeOk (o : ObjDesc) (data : Bytes) : Bool :=
  match o.ty with
  | .string => data.all (fun b => b ≠ 0) && utf8From 0 0 0 data
  | .bytes => true
  | _ =>
    let v := maskedVal o data
    (o.zero && decide (v = 0)) || (decide (o.min ≤ v ∧ v ≤ o.max) && (o.vals.isEmpty || decide (v ∈ o.vals)))

/-- What an object's own rules add to the checks of a write, and what the write does (R673): a lock of its own, an update
on trial, a state that forbids it now, a value or state that refuses it, whether it is a critical act.  `denied` withdraws a
role; `first` is what the first accepted write of a critical act does, with false where it ends the act (R569, R582); `recheck` is how
the act fails where the checks that depend on state, made again as it is applied, do not pass (R673): `act` is what happens then too. -/
structure WriteRule where
  denied : Bool := false
  first : State → State × Bool := fun s => (s, true)
  recheck : State → Option Result := fun _ => none
  lock : Bool
  held : Bool
  busy : Bool
  bad : Bool
  critical : Bool
  act : State → State

/-- The plain write of a setting: the value is set. -/
def plainRule (id : ObjId) (data : Bytes) : WriteRule :=
  { lock := false, held := false, busy := false, bad := false, critical := false,
    act := fun s => match findObj id with
      | some o => setObj id (maskedVal o data) s
      | none => s }

/-- The write of an object of which each caller holds its own copy. -/
def ownRule (c : Caller) (id : ObjId) (data : Bytes) : WriteRule :=
  { lock := false, held := false, busy := false, bad := false, critical := false,
    act := fun s => match findObj id with
      | some o => setOwn c id (maskedVal o data) s
      | none => s }

/-! ### Critical acts (R554–R556) -/

/-- The pending critical act; none once its five minutes have passed (R556). -/
def liveAct (s : State) : Option PendingAct :=
  match s.tmp.act with
  | some a => if s.now < a.firstAt + sec 300 then some a else none
  | none => none

/-- This act is pending. -/
def actPending (s : State) (id : ObjId) (data : Bytes) : Bool :=
  match liveAct s with
  | some a => decide (a.obj = id ∧ a.data = data)
  | none => false

/-- Another critical act is pending (R556). -/
def otherAct (s : State) (id : ObjId) (data : Bytes) : Bool := (liveAct s).isSome && !(actPending s id data)

/-- The approvals of this act, with this approver's counted once. -/
def approvals (s : State) (id : ObjId) (data : Bytes) (who : Nat) : List Nat :=
  match liveAct s with
  | some a => if a.obj = id ∧ a.data = data then (if who ∈ a.approvers then a.approvers else a.approvers ++ [who])
              else [who]
  | none => [who]

/-- The approval would be the k-th (R555). -/
def lastApproval (s : State) (id : ObjId) (data : Bytes) (who : Nat) : Bool :=
  decide (objVal s Obj.TMP_QUORUM_K ≤ (approvals s id data who).length)

/-- Discard the pending critical act with its approvals. -/
def dropAct (s : State) : State :=
  match s.tmp.act with
  | none => s
  | some _ => noticed Obj.TMP_QUORUM_STATE { s with tmp := { s.tmp with act := none } }

/-- Record an approval below the quorum. -/
def recordApproval (id : ObjId) (data : Bytes) (who : Nat) (s : State) : State :=
  let t := match liveAct s with
    | some a => a.firstAt
    | none => s.now
  noticed Obj.TMP_QUORUM_STATE
    { s with tmp := { s.tmp with act := some { obj := id, data := data, approvers := approvals s id data who, firstAt := t } } }

/-- Count an approval: below the quorum the act stays pending, at the k-th it is applied and discarded (R555).  The first
accepted write makes the act's own checks; a failure there discards the act (R569, R582).  A check that fails as the act is applied
gives the k-th approving write its result (R673). -/
def approve (id : ObjId) (data : Bytes) (who : Nat) (r : WriteRule) (s : State) : State × Result :=
  let last := lastApproval s id data who
  let p := if actPending s id data then (s, true) else r.first s
  if last then (if p.2 then (recordWrite id data.length r.act (dropAct p.1), (r.recheck (dropAct p.1)).getD .done) else (dropAct p.1, .done))
  else (if p.2 then recordApproval id data who p.1 else dropAct p.1, .quorumPending)

/-- The k-th approving write fails a check that depends on the state: the pending act is discarded (R673). -/
def failedLast (id : ObjId) (data : Bytes) (who : Nat) (e : Result) (s : State) : State :=
  if actPending s id data && lastApproval s id data who && decide (e = .readOnly ∨ e = .held ∨ e = .busy ∨ e = .badValue) then dropAct s
  else s

/-- The statement a card signs to approve a write (R550): its fixed fields, ACT 0x02, unit ID, nonce, time and the hash
of index, subindex and value. -/
def cardStatement (s : State) (act : Nat) (nonce hash : Bytes) : Bytes :=
  [0x5A, 0x4B, 0x4F, 0x53, 0x01, BitVec.ofNat 8 act, 0, 0] ++ fitBytes 16 s.lc.otp.unitId ++ fitBytes 32 nonce ++
    leBytes 8 (time64 s) ++ fitBytes 32 hash ++ zeros 32

/-- SHA3-256 of a byte string. -/
def sha3_256 (b : Bytes) : Bytes := primOut (.hash 0x04) [b] 32

/-- The result of an approving write on the window whose card does not approve: the spec names none, so it is one of those of R44 that a
write can end with and that stand for no approval, left open. -/
def cardRefusal (s : State) : Result :=
  ([.noObject, .notPermitted, .readOnly, .badLength, .badValue, .busy, .blockOrder, .badOp] : List Result).getD
    (Config.freeNat s.free % 9) .held

/-- Ask the card to sign an APPROVE statement over a write (R550, R555). -/
def askApproval (id : ObjId) (data : Bytes) (report : Bool) (s : State) : State × Option Result :=
  let n := draw 40 32 s
  let stmt := cardStatement n.2 2 n.1 (sha3_256 (leBytes 2 (id / 256) ++ leBytes 1 (id % 256) ++ data))
  ({ n.2 with
      tmp := { n.2.tmp with card := { n.2.tmp.card with step := .approve id data stmt report } },
      out := n.2.out ++ [.card ([0x80, 0x20, 0, 0] ++ stmt)] }, none)

/-! ### A write through all the checks -/

/-- Checks 2 to 4 of a write with its rule. -/
def roleChecks (s : State) (w : Who) (id : ObjId) (r : WriteRule) : Option Result :=
  match writeCheck s w id with
  | some e => if r.denied && decide (e = .readOnly) then some .notPermitted else some e
  | none => if r.denied then some .notPermitted else if r.lock then some .readOnly else none

/-- Checks 2 to 9 of a write with its rule; none when all pass. -/
def writeChecks (s : State) (w : Who) (id : ObjId) (data : Bytes) (r : WriteRule) : Option Result :=
  match roleChecks s w id r with
  | some e => some e
  | none => match findObj id with
      | none => some .noObject
      | some o =>
        if !(lengthOk o data) then some .badLength
        else if r.held then some .held
        else if r.busy || (r.critical && otherAct s id data) then some .busy
        else if !(rangeOk o data) || r.bad then some .badValue
        else none

/-- Count a refused access (R57). -/
def countRefused (w : Who) (id : ObjId) (r : Result) (s : State) : State :=
  if refusedCounts w id r then bump Obj.DICT_ACCESS_REFUSED s else s

/-- The access came through the window. -/
def fromWindow (c : Caller) : Bool :=
  match c with
  | .window => true
  | .supervisor => false
  | .session k _ => decide (k = oldWindow)

/-- Apply a write that a caller makes: its checks in order, then the act itself; a critical act by the approvals of
R555.  The answer is none while the caller's card has yet to sign the approval. -/
def serveWrite (w : Who) (id : ObjId) (data : Bytes) (r : WriteRule) (s : State) : State × Option Result :=
  match writeChecks s w id data r with
  | some e =>
    let s1 := if w.caller = .supervisor || fromWindow w.caller then s else failedLast id data w.approver e s
    (countRefused w id e s1, some e)
  | none =>
    if r.critical && w.caller ≠ .supervisor then
      if fromWindow w.caller then
        if s.tmp.card.session.isNone || decide (s.tmp.card.step ≠ .none_) || !(rngReady s) then
          (countRefused w id (cardRefusal s) (usedFree s), some (cardRefusal s))
        else askApproval id data (decide (w.caller = .window)) s
      else
        let p := approve id data w.approver r s
        (p.1, some p.2)
    else
      let p := r.first s
      if p.2 then (recordWrite id data.length r.act p.1, some ((r.recheck p.1).getD .done)) else (p.1, some .done)

/-! ### Results on the window (R58, R60) -/

/-- The DWIN_DATA table holding a value from byte 0 with zeros beyond it. -/
def winData (b : Bytes) : Tab Byte := putBytes [] 0 b

/-- A window access ends: RESULT, RLEN, the data of a read that ended DONE, DWIN_TOTAL of a READ_BLOCK, BUSY 0, DONE 1, and the vector
if EN. -/
def endWindow (r : Result) (isRead : Bool) (data : Bytes) (total : Option Nat) (s : State) : State :=
  let w := s.dict.win
  let ok := isRead && decide (r = .done)
  { s with
    dict := { s.dict with win := { w with
      busy := false, done := true, result := BitVec.ofNat 8 (resultCode r),
      rlen := if ok then BitVec.ofNat 11 data.length else 0,
      data := if ok then winData data else w.data,
      total := match total with
        | some t => if isRead then BitVec.ofNat 32 t else w.total
        | none => w.total } },
    ring := if w.ntfEn then msixRaised s.ring w.ntfVector.toNat else s.ring,
    out := if w.ntfEn then s.out ++ msixOut s.ring w.ntfVector.toNat else s.out }

/-! ### AES-GCM (FIPS 197, SP 800-38D: uninterpreted keystream and tag) -/

/-- The keystream for a key and nonce. -/
def gcmStream (key nonce : Bytes) (n : Nat) : Bytes := primOut .gcmStream [key, nonce] n

/-- The 16-byte tag over additional data and ciphertext. -/
def gcmTag (key nonce aad ct : Bytes) : Bytes := primOut .gcmTag [key, nonce, aad, ct] 16

/-- Encrypt, or decrypt, by the keystream. -/
def gcmXor (key nonce b : Bytes) : Bytes := xorBytes b (gcmStream key nonce b.length)

/-! ### OAP messages (R66, R67) -/

/-- A message header: VERSION, TYPE, FLAGS, SESSION_ID, SEQ, PAYLOAD_LEN (R66). -/
def oapHeader (type flags sid seq len : Nat) : Bytes :=
  leBytes 1 1 ++ leBytes 1 type ++ leBytes 2 flags ++ leBytes 4 sid ++ leBytes 8 seq ++ leBytes 2 len ++ zeros 2

/-- A data payload before encryption (R67). -/
def oapPlain (req : Nat) (id : ObjId) (result : Nat) (offset total : Nat) (data : Bytes) : Bytes :=
  leBytes 2 req ++ leBytes 2 (id / 256) ++ leBytes 1 (id % 256) ++ leBytes 1 result ++ leBytes 2 data.length ++
    leBytes 4 offset ++ leBytes 4 total ++ data

/-- The GCM nonce of a message: SESSION_ID and SEQ (R67). -/
def oapNonce (sid seq : Nat) : Bytes := leBytes 4 sid ++ leBytes 8 seq

/-- The secrets that no handle names, by place (R19): the incoming and the outgoing key of the session in a slot (R442), the shared
secrets of a set-up, the private key made for a card's component. -/
abbrev sessIn (slot : Nat) : Nat := 2 * slot
abbrev sessOut (slot : Nat) : Nat := 2 * slot + 1
abbrev setupSecret (n : Nat) : Nat := 16 + n
abbrev cardSecret : Nat := 24

/-- A secret that no handle names; none once it is destroyed. -/
def secret? (s : State) (i : Nat) : Option Bytes := mget? s.kreg.working i

/-- Keep such a secret. -/
def keepSecret (i : Nat) (b : Bytes) (s : State) : State := { s with kreg := { s.kreg with working := mset s.kreg.working i b } }

/-- Destroy such a secret. -/
def dropSecret (i : Nat) (s : State) : State := { s with kreg := { s.kreg with working := mdel s.kreg.working i } }

/-- A data message of the device under key `k`: header with DIR 1, encrypted payload, tag (R66, R67). -/
def oapSeal (k : Bytes) (x : Session) (type flags : Nat) (plain : Bytes) : Bytes :=
  let h := oapHeader type flags x.id x.seqOut plain.length
  let ct := gcmXor k (oapNonce x.id x.seqOut) plain
  h ++ ct ++ gcmTag k (oapNonce x.id x.seqOut) h ct

/-- Clear every subscription of a slot (R57, R75). -/
def dropSubs (slot : Nat) (t : Tab Nat) : Tab Nat := mfilter (fun k _ => !(decide (k / 256 = 0x240 + slot))) t

/-- The objects of a slot that its clearing changes: its entries in use and their number. -/
def slotObjs (slot : Nat) (t : Tab Nat) : List ObjId :=
  let used := (t.filter (fun p => decide (p.1 / 256 = 0x240 + slot ∧ p.1 % 256 ≠ 0 ∧ p.2 ≠ 0))).map (·.1)
  if used.isEmpty then [] else (0x240 + slot) * 256 :: used

/-- An accepted request of a closing session: it completes, unanswered (R75).  DESIGN CHOICE: it owns no DICT_NTF_SET slot any more, so
that a write of its own slot ends NOT_PERMITTED and is counted. -/
def AccessReq.orphaned (slot : Nat) (r : AccessReq) : AccessReq :=
  match r.caller with
  | .session k n => if k = slot then { r with caller := .session oldSession n } else r
  | _ => r

/-- An accepted request of the window at a PCIe reset: it completes, and its result is discarded (R62). -/
def AccessReq.unplugged (r : AccessReq) : AccessReq := if r.caller = .window then { r with caller := .session oldWindow 0 } else r

/-- Close a session (R75): keys, open block write, subscriptions and stored response go with it; other subscribers learn of the
cleared entries. -/
def closeSession (slot : Nat) (s : State) : State :=
  let u := dropSecret (sessIn slot) (dropSecret (sessOut slot) s)
  let t := { u with dict := { s.dict with
      sessions := mdel s.dict.sessions slot, obj := dropSubs slot s.dict.obj, queue := s.dict.queue.map (·.orphaned slot) } }
  (slotObjs slot s.dict.obj).foldl (fun u id => noticed id u) t

/-- Close every session. -/
def closeSessions (s : State) : State := s.dict.sessions.foldl (fun t q => closeSession q.1 t) s

/-- Send a data message in a session with its next SEQ (R70); a session whose SEQ is used up closes instead, and one whose key an
erasure of the key register has destroyed sends nothing. -/
def sendData (slot type flags : Nat) (plain : Bytes) (s : State) : State :=
  match mget? s.dict.sessions slot, secret? s (sessOut slot) with
  | none, _ => s
  | _, none => s
  | some x, some k =>
    if 2 ^ 64 - 1 < x.seqOut + 1 then closeSession slot s
    else
      { s with
        dict := { s.dict with sessions := mset s.dict.sessions slot { x with seqOut := x.seqOut + 1 } },
        out := s.out ++ [.datagram x.peer x.port (oapSeal k { x with seqOut := x.seqOut + 1 } type flags plain)] }

/-- Remember a session's most recently answered request and count the answer (R76, R77). -/
def answered (slot req type : Nat) (plain : Bytes) (s : State) : State :=
  let f := fun (k : Nat) (x : Session) =>
    if k = slot then { x with lastReq := some (req, type, plain), unanswered := x.unanswered - 1 } else x
  { s with dict := { s.dict with sessions := mmap f s.dict.sessions } }

/-- The TYPE of the response to an operation (R66). -/
def respType : AccOp → Nat
  | .read => 0x81
  | .write => 0x82
  | .readBlock => 0x83
  | .writeBlock => 0x84
  | .writeBlockLast => 0x84
  | .bad => 0x82

/-- Deliver a result to its caller: to the window's registers, as an OAP response of a session that is still open, or
nowhere for the supervisor firmware itself. -/
def deliver (c : Caller) (op : AccOp) (id : ObjId) (r : Result) (offset : Nat) (total : Option Nat) (data : Bytes)
    (s : State) : State :=
  match c with
  | .window => endWindow r (decide (op = .read ∨ op = .readBlock)) data total s
  | .session k req =>
    let plain := oapPlain req id (resultCode r) offset (total.getD 0) (if r = .done then data else [])
    sendData k (respType op) 1 plain (answered k req (respType op) plain s)
  | .supervisor => s

/-- Deliver the outcome of a write; nothing yet while the card has to sign (R555). -/
def deliverWrite (c : Caller) (op : AccOp) (id : ObjId) (p : State × Option Result) : State :=
  match p.2 with
  | some r => deliver c op id r 0 none [] p.1
  | none => p.1

/-! ### The settings store's end (R53, R54) -/

/-- The store has failed: the area in use stays (R54). -/
def storeFailed (s : State) : State :=
  setObj Obj.DICT_STORE_STATE 3 (bump Obj.ERR_FLASH_WRITE
    { s with dict := { s.dict with store := none, storeFailReport := true } })

/-- A store still WRITING 10 s after its start has failed (R53). -/
def settleStore (s : State) : State :=
  match s.dict.store with
  | some j => if j.startedAt + sec 10 ≤ s.now then storeFailed s else s
  | none => s

/-! ### Accesses in order of arrival (R9) -/

/-- An access as a command gives it, whole: who makes it, its operation, object and data. -/
structure AccessCmd where
  caller : Caller
  op : AccOp
  obj : ObjId
  data : Bytes
deriving DecidableEq, Repr

/-- The queued request is this access. -/
def AccessReq.is (r : AccessReq) (a : AccessCmd) : Bool :=
  decide (r.caller = a.caller ∧ r.op = a.op ∧ r.obj = a.obj ∧ r.data = a.data ∧ r.offset = 0)

/-- This access is the oldest accepted one. -/
def atHead (a : AccessCmd) (s : State) : Bool := s.dict.queue.head?.any (·.is a)

/-- The roles with which an access that a command makes is applied now: where it is the oldest accepted, those it was accepted with;
where none waits, its caller's own; none where it has to wait, or its caller is not there (R9, R58, R59). -/
def accessor (s : State) (a : AccessCmd) : Option Who :=
  match a.caller, s.dict.queue with
  | .supervisor, _ => whoOf s .supervisor
  | c, [] => if c = .window ∧ s.dict.win.busy = true then none else whoOf s c
  | c, r :: _ => if r.is a then some { caller := c, roles := r.roles, tenant := r.tenant, approver := r.approver } else none

/-- The access begins: it leaves the queue, the Tsuow core is woken for it, and a store past its time has failed. -/
def takeReq (a : AccessCmd) (s : State) : State :=
  settleStore (wakeCore (if atHead a s then { s with dict := { s.dict with queue := s.dict.queue.drop 1 } } else s))

/-- The dictionary server takes accesses in, whether or not it can apply them yet. -/
def takesIn (s : State) : Bool := s.pwr.supplies && (decide (s.upd.phase = 7) || inRecovery s || inScrap s)

/-- The access joins the queue (R9): the window's while BUSY is dropped with OVERRUN (R59), a session's fifth unanswered one is dropped
and counted (R76). -/
def joinQueue (a : AccessCmd) (s : State) : State :=
  match takesIn s, whoOf s a.caller with
  | true, some w =>
    let r : AccessReq :=
      { caller := a.caller, roles := w.roles, tenant := w.tenant, approver := w.approver, op := a.op, obj := a.obj, offset := 0,
        total := if a.op = .writeBlockLast then a.data.length else 0, len := a.data.length, data := a.data }
    let q := s.dict.queue ++ [r]
    match a.caller with
    | .window =>
      if s.dict.win.busy then { s with dict := { s.dict with win := { s.dict.win with overrun := true } } }
      else { s with dict := { s.dict with win := { s.dict.win with busy := true }, queue := q } }
    | .session k _ => match mget? s.dict.sessions k with
      | none => s
      | some x =>
        if 4 ≤ x.unanswered then bump Obj.DICT_OAP_DROPPED s
        else { s with dict := { s.dict with sessions := mset s.dict.sessions k { x with unanswered := x.unanswered + 1 }, queue := q } }
    | .supervisor => s
  | _, _ => s

/-- An access that a command makes: applied at once where its turn has come, else queued behind those that arrived before it (R9). -/
def inTurn (a : AccessCmd) (k : Who → State → State) (s : State) : State :=
  match serverUp s, accessor s a with
  | true, some w => k w (takeReq a s)
  | _, _ => joinQueue a s

/-- A write made by a caller: the whole access, from its checks to its result. -/
def writeAccess (c : Caller) (id : ObjId) (data : Bytes) (r : WriteRule) (s : State) : State :=
  inTurn ⟨c, .write, id, data⟩ (fun w t => deliverWrite c .write id (serveWrite w id data r t)) s

/-- A read made by a caller: checks 2 and 3, then what the object's own rule serves. -/
def readAccess (c : Caller) (id : ObjId) (serve : State → Result × Bytes × State) (s : State) : State :=
  inTurn ⟨c, .read, id, []⟩ (fun w t =>
    match readCheck t w id with
    | some e => deliver c .read id e 0 none [] (countRefused w id e t)
    | none =>
      let p := serve t
      deliver c .read id p.1 0 none p.2.1 p.2.2) s

end Sys2Proof.Machine
end

