-- ==== Sys2Proof/Machine/Counters.lean ====
section
/-!
DEFINITION. Stateful hash-based keys as BBRAM and the slots hold them (chapter 07): typecodes, counter records, the working
copy of NEXT and its commit.
-/
namespace Sys2Proof.Machine

/-! ### Stateful schemes: typecodes (R276–R278) -/

/-- One level of a stateful key: leaf cost lam, path cost c, height h, hash length n, chain count p (R278, R288). -/
structure HtsLevel where
  lam : Nat
  c : Nat
  h : Nat
  n : Nat
  p : Nat
deriving DecidableEq, Repr

/-- Kinds of LMS typecodes: 0 SHA256_M32, 1 SHA256_M24, 2 SHAKE_M32, 3 SHAKE_M24; the H25 codes are not supported. -/
def lmsKind (t : Nat) : Option Nat := if 5 ≤ t ∧ t ≤ 0x17 ∧ t % 5 ≠ 4 then some (t / 5 - 1) else none

/-- Kinds of LM-OTS typecodes, with the same numbering. -/
def otsKind (t : Nat) : Option Nat := if 1 ≤ t ∧ t ≤ 0x10 then some ((t - 1) / 4) else none

/-- lam of a one-time key (R288): W1, W2, W4, W8 of each kind. -/
def otsLam (kind w : Nat) : Nat :=
  match kind, w with
  | 0, 0 => 260 | 0, 1 => 390 | 0, 2 => 980 | 0, _ => 8450
  | 1, 0 => 200 | 1, 1 => 300 | 1, 2 => 750 | 1, _ => 6460
  | 2, 0 => 330 | 2, 1 => 490 | 2, 2 => 1230 | 2, _ => 10560
  | _, 0 => 250 | _, 1 => 380 | _, 2 => 940 | _, _ => 8080

/-- Chain counts (R278). -/
def otsP (n w : Nat) : Nat :=
  match w with
  | 0 => if n = 32 then 265 else 200
  | 1 => if n = 32 then 133 else 101
  | 2 => if n = 32 then 67 else 51
  | _ => if n = 32 then 34 else 26

/-- A supported LMS level: both typecodes name the same hash and n (R276). -/
def lmsLevel (t o : Nat) : Option HtsLevel :=
  match lmsKind t, otsKind o with
  | some a, some b =>
    if a = b then
      let n := if a % 2 = 0 then 32 else 24
      let w := (o - 1) % 4
      some { lam := otsLam a w, c := if a < 2 then 8 else 10, h := 5 * (t % 5 + 1), n := n, p := otsP n w }
    else none
  | _, _ => none

/-- An XMSS level of height `h`: WOTS+ with SHA2, n = 32, W16. -/
def xmssLevel (h : Nat) : HtsLevel := { lam := 3300, c := 8, h := h, n := 32, p := 67 }

/-- Total height and layers of an XMSS^MT OID (R276; the layer counts are RFC 8391's). -/
def xmssMt (oid : Nat) : Option (Nat × Nat) :=
  match oid with
  | 1 => some (20, 2) | 2 => some (20, 4) | 3 => some (40, 2) | 4 => some (40, 4) | 5 => some (40, 8)
  | 6 => some (60, 3) | 7 => some (60, 6) | 8 => some (60, 12)
  | _ => none

/-- `n` copies of a level. -/
def levels (n : Nat) (l : HtsLevel) : List HtsLevel := List.replicate n l

/-- The levels that KEYGEN's AUX names (R277), from the top; none where a typecode is not supported. -/
def htsLevels (pset a : Nat) : Option (List HtsLevel) :=
  let top := bits a 7 0
  match pset with
  | 1 => (lmsLevel top (bits a 15 8)).map (fun l => [l])
  | 2 =>
    let n := bits a 35 32
    if 1 ≤ n ∧ n ≤ 8 then
      match lmsLevel top (bits a 15 8) with
      | none => none
      | some t => if n = 1 then some [t] else (lmsLevel (bits a 23 16) (bits a 31 24)).map (fun l => t :: levels (n - 1) l)
    else none
  | 3 => match top with
    | 1 => some [xmssLevel 10]
    | 2 => some [xmssLevel 16]
    | 3 => some [xmssLevel 20]
    | _ => none
  | _ => (xmssMt top).map (fun p => levels p.2 (xmssLevel (p.1 / p.2)))

/-- Public key and signature lengths (R278). -/
def lmsPk (l : HtsLevel) : Nat := 24 + l.n
def lmsSig (l : HtsLevel) : Nat := 12 + l.n * (l.p + 1) + l.h * l.n
def htsPk (pset : Nat) (ls : List HtsLevel) : Nat :=
  match pset with
  | 1 => (ls.map lmsPk).headD 0
  | 2 => 4 + (ls.map lmsPk).headD 0
  | _ => 68
def htsHeight (ls : List HtsLevel) : Nat := (ls.map (·.h)).sum
def htsSig (pset : Nat) (ls : List HtsLevel) : Nat :=
  match pset with
  | 1 => (ls.map lmsSig).sum
  | 2 => 4 + (ls.map lmsSig).sum + ((ls.drop 1).map lmsPk).sum
  | 3 => 4 + 32 + (67 + htsHeight ls) * 32
  | _ => ceilDiv (htsHeight ls) 8 + 32 + (ls.length * 67 + htsHeight ls) * 32

/-- Capacity: 2^H up to 2^40 (R281). -/
def htsCap (ls : List HtsLevel) : Nat := 2 ^ min 40 (htsHeight ls)

/-! ### Counter records (R280) -/

/-- One byte through CRC-8, polynomial 0x07, no reflection. -/
def crc8Step (c : Byte) (b : Byte) : Byte :=
  let sh := fun (x : Byte) => if x.msb then (x <<< 1) ^^^ 0x07 else x <<< 1
  sh (sh (sh (sh (sh (sh (sh (sh (c ^^^ b))))))))

/-- CRC-8 of a byte string, initial value 0 (R280). -/
def crc8 (b : Bytes) : Byte := b.foldl crc8Step 0

/-- Bytes 0–5 of a record. -/
def recordHead (r : CounterRec) : Bytes := leBytes 5 r.next ++ leBytes 1 r.gen

/-- A record with its CRC. -/
def sealRecord (next gen : Nat) : CounterRec := { next := next, gen := gen, crc := crc8 (leBytes 5 next ++ leBytes 1 gen) }

/-- Counter record `n` of BBRAM. -/
def counter (s : State) (n : Nat) : CounterRec := tget (fun _ => CounterRec.blank) s.kreg.counters n

/-- Write a counter record through the AON commit port. -/
def setCounter (n : Nat) (r : CounterRec) (s : State) : State :=
  { s with kreg := { s.kreg with counters := tset (fun _ => CounterRec.blank) s.kreg.counters n r } }

/-- The device's own record of a stateful key. -/
def htsKey? (s : State) (h : Nat) : Option HtsKey := mget? s.kreg.hts h

/-- Replace it. -/
def setHts (h : Nat) (k : HtsKey) (s : State) : State := { s with kreg := { s.kreg with hts := mset s.kreg.hts h k } }

/-- The levels of a stateful key in a slot. -/
def htsKeyLevels (s : State) (h : Nat) : List HtsLevel :=
  match htsKey? s h, mget? s.kreg.slots h with
  | some k, some x => (htsLevels x.pset k.types).getD []
  | _, _ => []

/-- Why the counter record refuses an index (R283): its CRC, its generation, or the record is free. -/
def recordBroken (s : State) (k : HtsKey) : Bool :=
  let r := counter s k.record
  decide (r.crc ≠ crc8 (recordHead r)) || decide (r.gen ≠ k.gen) || decide (r.next = 0)

/-- PKE_HTS_WARN_LAST and PKE_HTS_WARNED once a key's NEXT reaches the percentage (R300). -/
def htsWarn (h : Nat) (cap next : Nat) (s : State) : State :=
  match htsKey? s h with
  | none => s
  | some k =>
    if !k.warned ∧ objVal s Obj.PKE_HTS_WARN * cap ≤ 100 * next then
      bump Obj.PKE_HTS_WARNED (setObj Obj.PKE_HTS_WARN_LAST h (setHts h { k with warned := true } s))
    else s

/-- A stateful key is LOST, for good (R283, R286): its counter record and generation are remembered. -/
def loseHts (h : Nat) (k : HtsKey) (s : State) : State :=
  let t := setHts h { k with st := .lost } s
  { t with kreg := { t.kreg with htsLost := if (k.record, k.gen) ∈ t.kreg.htsLost then t.kreg.htsLost else (k.record, k.gen) :: t.kreg.htsLost } }

/-- Free a stateful key's counter record (R280, R287): NEXT 0, the generation one higher. -/
def freeCounter (n : Nat) (s : State) : State := setCounter n (sealRecord 0 (((counter s n).gen + 1) % 256)) s

/-- The working copy of a key's NEXT moves on as index `working` is reserved (R281). -/
def reserveIndex (h : Nat) (k : HtsKey) (cap : Nat) (s : State) : State :=
  setHts h { k with working := k.working + 1, st := if cap ≤ k.working + 1 then .exhausted else k.st } s

/-- NEXT, one above the index that `k` has reserved, is committed with a fresh CRC (R281). -/
def commitIndex (h : Nat) (k : HtsKey) (cap : Nat) (s : State) : State :=
  htsWarn h cap (k.working + 1) (setCounter k.record (sealRecord (k.working + 1) k.gen) s)

/-- A stateful SIGN that stops on its slice `late` enough has used its index (R193, R281): after its key check of 120 cycles
the working copy has moved on, and after the commit phase of 11,000 cycles the record as well; when within that phase the
record is written is open: a free choice. -/
def stopSign (x : Entry) (s : State) : State :=
  let h := x.desc.key
  match x.phase, htsKey? s h, mget? s.kreg.slots h with
  | .running _, some k, some v =>
    let ls := htsKeyLevels s h
    let cap := htsCap ls
    if x.desc.opcode = 0x0404 ∧ x.startedAt + cyclesNs s 120 ≤ s.now ∧ v.owner = x.colour ∧ v.alg = 4 ∧ v.pset = x.desc.pset ∧
        v.stateful = true ∧ v.usage % 2 = 1 ∧ v.st ≠ .loading ∧ k.st = .ready ∧ k.working < cap ∧ recordBroken s k = false ∧
        htsSig v.pset ls ≤ x.desc.outLen then
      let s1 := reserveIndex h k cap { s with free := s.free + 1 }
      if x.startedAt + cyclesNs s 11120 ≤ s.now ∨ Config.freeNat s.free % 2 = 1 then
        bump Obj.PKE_HTS_SKIPPED (commitIndex h k cap s1)
      else s1
    else s
  | _, _, _ => s

/-- Every stateful SIGN on a slice stops, as at a reset or a loss of supply (R281). -/
def stopSigns (s : State) : State := (s.ring.entries.map (·.2)).foldl (fun t x => stopSign x t) s

/-- A stateful key whose new slot never becomes ACTIVE leaves nothing (R219): its record and its node cache are freed. -/
def dropNewKey (target : Option Nat) (s : State) : State :=
  match target with
  | none => s
  | some h => match htsKey? s h, mget? s.kreg.slots h with
    | some k, some v =>
      if v.st = .loading then
        let s1 := freeCounter k.record s
        wipeFreeLks { s1 with kreg := { s1.kreg with hts := mdel s1.kreg.hts h, lks := mdel s1.kreg.lks k.cache } }
      else s
    | _, _ => s

end Sys2Proof.Machine
end

