-- ==== Sys2Proof/Machine/Jobs.lean ====
section
/-!
DEFINITION. Jobs: pairs, in-flight entries, pages, slices, and how a job ends.
-/
namespace Sys2Proof.Machine

/-! ### Pairs and entries -/

/-- A ring pair's record. -/
def pair (s : State) (n : Nat) : Pair := tget (fun _ => Pair.reset) s.ring.pairs n

/-- Replace a ring pair's record. -/
def setPair (n : Nat) (p : Pair) (s : State) : State :=
  { s with ring := { s.ring with pairs := tset (fun _ => Pair.reset) s.ring.pairs n p } }

/-- The in-flight entry `e`, if it holds a job. -/
def entry? (s : State) (e : Nat) : Option Entry := mget? s.ring.entries e

/-- Replace an in-flight entry's job. -/
def setEntry (e : Nat) (x : Entry) (s : State) : State :=
  { s with ring := { s.ring with entries := mset s.ring.entries e x } }

/-- Free an in-flight entry. -/
def dropEntry (e : Nat) (s : State) : State := { s with ring := { s.ring with entries := mdel s.ring.entries e } }

/-- RING_STATE codes (R129). -/
def pairCode : PairState → Nat
  | .disabled => 0
  | .active => 1
  | .idle => 2
  | .stalled => 3
  | .draining => 4
  | .fault => 5
  | .fenced => 6

/-- The pair a job came from, 0xFFFF for internal jobs (R108). -/
def originPair (o : Origin) : Nat :=
  match o with
  | .ring p => p
  | _ => 0xFFFF

/-- A job of ring pair `p`. -/
def ofPair (p : Nat) (e : Entry) : Bool := decide (e.origin = .ring p)

/-- An internal graft job (R157). -/
def isGraft (e : Entry) : Bool :=
  match e.origin with
  | .graft _ => true
  | _ => false

/-- A rebuild of a stateful key's node cache (R286). -/
def isRebuild (e : Entry) : Bool :=
  match e.origin with
  | .rebuild _ => true
  | _ => false

/-- Pages of all jobs. -/
def usedPages (s : State) : List Nat := s.ring.entries.flatMap (fun p => p.2.pages)

/-- Buffer pages that a circuit's exchange holds (R443): a G1 sent and not yet answered, a message under assembly, a received
message in use, a G2 or G3 not yet out. -/
def grPages (g : Graft) : Nat :=
  (if g.st = .g1Sent ∧ g.stage ≠ .iSecrets then ceilDiv g.g1.length 1024 else 0) +
  (if g.asmDue.isSome then ceilDiv (max 1 (g.asm_.map (fun p => p.2.2.length)).sum) 1024 else 0) +
  ceilDiv (g.rx.getD []).length 1024 + ceilDiv g.rxLen 1024 + ceilDiv g.txLen 1024

/-- GR_BUF_USED (R455). -/
def grBufUsed (s : State) : Nat := (s.graft.circuits.map (fun p => grPages p.2)).sum

/-- RING_ENTRIES_FREE and RING_PAGES_FREE (R164); a sub-job of a service call takes no in-flight entry of its own and stands
above the 8,192 (R500). -/
def entriesFree (s : State) : Nat := 8192 - mcount (fun e _ => decide (e < 8192)) s.ring.entries
def pagesFree (s : State) : Nat := 8192 - (usedPages s).length - grBufUsed s

/-- TENANT_INFLIGHT and TENANT_PAGES of the jobs charged to pair `p`. -/
def pairEntries (s : State) (p : Nat) : Nat := mcount (fun _ e => ofPair p e) s.ring.entries
def pairPages (s : State) (p : Nat) : Nat :=
  ((s.ring.entries.filter (fun x => ofPair p x.2)).map (fun x => x.2.pages.length)).sum

/-- The next page to allocate: from the bench with most free pages (the lowest such), its lowest free page (R203). -/
def pickPage (used : List Nat) : Option Nat :=
  let count := fun b => (used.filter (fun p => decide (p / 512 = b))).length
  match leastBy count (List.range 16) with
  | none => none
  | some b => (List.range 512).find? (fun i => !(decide (b * 512 + i ∈ used))) |>.map (· + b * 512)

/-- `n` pages beyond those used. -/
def pickPages (used : List Nat) : Nat → List Nat
  | 0 => []
  | n + 1 => match pickPage used with
    | none => []
    | some p => p :: pickPages (p :: used) n

/-- Retag pages, zeroing them first (R93, R94): four granules a page. -/
def retagPages (tag : Nat) : List Nat → State → State
  | [], s => s
  | p :: r, s => retagPages tag r (retag (p * 4) 4 tag s)

/-- Give pages a tag once the bursts on them have ended (R93, R94, R96). -/
def tagPages (tag : Nat) (ps : List Nat) (s : State) : State := retagPages tag ps (awaitPages ps s)

/-- Write a byte string over a list of pages, 1,024 bytes each (R203). -/
def writePages (ps : List Nat) (b : Bytes) (s : State) : State :=
  match ps with
  | [] => s
  | p :: r => writePages r (b.drop 1024) (memWrite (p * 1024) (b.take 1024) s)

/-- The first `n` bytes of a list of pages. -/
def readPages (s : State) (ps : List Nat) (n : Nat) : Bytes :=
  match ps with
  | [] => []
  | p :: r => memRead s (p * 1024) (min n 1024) ++ readPages s r (n - 1024)

/-- Total input bytes of a job (R154). -/
def inLen (d : Desc) : Nat := (d.segs.map (·.2)).sum

/-- A job's input operand: what its input pages hold, or what has been streamed to its unit. -/
def jobInput (s : State) (e : Entry) : Bytes :=
  if e.inPages = 0 then e.stream else readPages s (e.pages.take e.inPages) (inLen e.desc)

/-! ### Slices -/

/-- A slice. -/
def slice_ (s : State) (n : Nat) : Slice := tget (fun _ => Slice.reset) s.pke.slices n

/-- Replace a slice. -/
def setSlice (n : Nat) (x : Slice) (s : State) : State :=
  { s with pke := { s.pke with slices := tset (fun _ => Slice.reset) s.pke.slices n x } }

/-- PKE_SLICE_STATE codes (R225). -/
def sliceCode : SliceState → Nat
  | .gated => 0
  | .idle => 1
  | .busy => 2
  | .parking => 3
  | .scrub => 4
  | .init => 5
  | .fenced => 6

/-- Slice classes (R177): 0 lattice, 1 code, 2 big-number, 3 hash-tree. -/
def classSlices (cls : Nat) : List Nat :=
  match cls with
  | 0 => List.range 16
  | 1 => (List.range 4).map (· + 16)
  | 2 => (List.range 12).map (· + 20)
  | _ => (List.range 4).map (· + 32)

/-- The slice class of a slice. -/
def sliceClass (n : Nat) : Nat := if n < 16 then 0 else if n < 20 then 1 else if n < 32 then 2 else 3

/-- The slice the dispatcher gives: the awake idle one idle longest; else a gated one, which wakes in 2 µs (R179). -/
def pickSlice (s : State) (cls : Nat) : Option (Nat × Time) :=
  let idle := (classSlices cls).filter (fun n => decide ((slice_ s n).st = .idle))
  match leastBy (fun n => (slice_ s n).idleSince) idle with
  | some n => some (n, 0)
  | none => ((classSlices cls).find? (fun n => decide ((slice_ s n).st = .gated))).map (fun n => (n, us 2))

/-- The object of slice `n`'s job count. -/
def sliceJobs (n : Nat) : ObjId := Obj.PKE_SLICE_JOBS + n

/-- The slice class that an opcode needs, if it runs on a slice (R177, R178). -/
def opClass (opcode : Nat) : Option Nat :=
  match opcode / 256 with
  | 1 => some 0
  | 2 => some 0
  | 5 => some 1
  | 6 => some 2
  | 7 => some 2
  | 3 => some 3
  | 4 => some 3
  | _ => none

/-- A slice without a job: its scratch is scrubbed, and it carries no colour (R19, R86, R180). -/
def Slice.cleared (x : Slice) : Slice := { x with job := none, colour := 0xFFFF, scratch := [] }

/-- The slice is done with its job: idle from now (R180). -/
def freeSlice (n : Nat) (s : State) : State :=
  let x := slice_ s n
  setSlice n { x.cleared with st := if x.st = .fenced then .fenced else .idle, idleSince := s.now } s

/-- The slice's job ended by a fault: re-initialise the slice (R192); its expander is unseeded unless the source is
READY (R201). -/
def reinitSlice (n : Nat) (s : State) : State :=
  let x := slice_ s n
  let st := if x.st = .fenced then SliceState.fenced else .init
  setSlice n { x.cleared with st := st, initAt := s.now, seeded := decide (s.rng.st = .ready) } (dropBursts n s)

/-! ### Key slots touched by a job's end -/

/-- A LOADING slot goes back to EMPTY; any other slot stays (R217). -/
def dropLoading (t : Option Nat) (slots : Tab Slot) : Tab Slot :=
  match t with
  | none => slots
  | some h => match mget? slots h with
    | some x => if x.st = .loading then mdel slots h else slots
    | none => slots

/-! ### How a job ends -/

/-- STATUS codes (R176). -/
def statusCode : Status → Nat
  | .ok => 0x00
  | .inputInvalid => 0x10
  | .keyInvalid => 0x11
  | .verifyFail => 0x12
  | .resultRejected => 0x13
  | .earlyRead => 0x14
  | .finished => 0x15
  | .lengthMismatch => 0x20
  | .skeinBroken => 0x21
  | .badDescriptor => 0x22
  | .keyPolicy => 0x30
  | .keyEmpty => 0x31
  | .stateExhausted => 0x32
  | .aborted => 0x40
  | .faultDetected => 0x50
  | .entropyFail => 0x51
  | .fenced => 0x52
  | .timeout => 0x53
  | .unsupported => 0x60
  | .quota => 0x61

/-- A job reads no LKS entry any more; a DRAINING entry that no job reads is freed (R294). -/
def lksLeft (e : Nat) (k : KregSt) : KregSt :=
  let u := k.lksUsers.filter (fun p => decide (p.2 ≠ e))
  { k with lksUsers := u, lks := mfilter (fun h x => !(decide (x.state = 3)) || u.any (fun p => decide (p.1 = h))) k.lks }

/-- The slices that hold a job beside `n`: an ATTEST has two (R351). -/
def freeOthers (e n : Nat) (s : State) : State :=
  { s with pke := { s.pke with slices := mmap (fun k x =>
      if k ≠ n ∧ x.st = .busy ∧ x.job = some e then { x.cleared with st := .idle, idleSince := s.now } else x) s.pke.slices } }

/-- Where a job runs on, take it off: its slice (which then scrubs the pages itself), a digest unit. -/
def detach (e : Nat) (x : Entry) (hasPages : Bool) (s : State) : State :=
  let s1 : State := freeOthers e (match x.phase with | .running n => n | _ => 36) (wipeFreeLks { s with
    pwr := { s.pwr with engineAt := s.now }
    dig := { s.dig with units := mmap (fun _ u => { u with jobs := dropAll e u.jobs, served := u.served.filter (fun p => decide (p.1 ≠ e)) })
                                s.dig.units },
    kreg := lksLeft e s.kreg })
  match x.phase with
  | .running n =>
    let v := slice_ s1 n
    if v.st = .fenced || v.st = .init then s1
    else if hasPages then setSlice n { v with st := .scrub, job := some e, scratch := [] } s1
    else freeSlice n s1
  | _ => if hasPages then { s1 with pke := { s1.pke with scrubQ := s1.pke.scrubQ ++ [e] } } else s1

/-- The engine's wake latency (R624): the PLL restarts in 15 µs; a gated clock root wakes in 0.1 µs. -/
def wakeEngine (s : State) : Time := if s.pwr.pllRunning then (if s.pwr.clockGated then 100 else 0) else us 15

/-- Work of a digest unit, the key manager or a bench finds the engine clock running, or wakes it (R624). -/
def rouseEngine (s : State) : State :=
  let s1 := advanceTo (s.now + wakeEngine s) s
  { s1 with pwr := { s1.pwr with pllRunning := true, clockGated := false, engineAt := s1.now } }

/-- The rank of an ending that stops a job, where several apply at one moment (R168); none for a command's own result. -/
def stopRank (st : Status) : Option Nat :=
  match st with
  | .faultDetected => some 0
  | .fenced => some 1
  | .timeout => some 2
  | .aborted => some 3
  | _ => none

/-- An ending that comes at the moment another has stopped the job, and stands before it (R168); of two watchdogs the lower code (R640).
DESIGN CHOICE: a command's own result that has been reached stays. -/
def outranks (now : Time) (st : Status) (detail : Nat) (x : Entry) : Bool :=
  decide (x.endedAt = now) && (match stopRank st, stopRank x.status with
    | some a, some b => decide (a < b ∨ (st = .timeout ∧ x.status = .timeout ∧ detail < x.detail))
    | _, _ => false)

/-- A LOADING entry of the large-key store goes back to EMPTY (R233, R295). -/
def dropLoadingLks (t : Option Nat) (l : Tab LksEntry) : Tab LksEntry :=
  match t with
  | none => l
  | some h => match mget? l h with
    | some x => if x.state = 1 then mdel l h else l
    | none => l

/-- Stop a job as by ABORT, with the given status (R214–R219): where it has already ended, only an ending of the same moment that
stands before its own changes its status (R168); otherwise no output, a LOADING target becomes EMPTY, an index it committed is used up
(R193), and its pages wait for the scrub before its record is written. -/
def haltJob (e : Nat) (st : Status) (detail : Nat) (s : State) : State :=
  match entry? s e with
  | none => s
  | some x =>
    if x.phase = .ended || x.phase = .scrubbing then
      (if outranks s.now st detail x then setEntry e { x with status := st, detail := detail } s else s)
    else
      let hasPages := !x.pages.isEmpty
      let s1 := dropNewKey x.target (detach e x hasPages (stopSign x s))
      setEntry e { x with status := st, detail := detail, output := [], stream := [], target := none, lksTarget := none,
                          phase := if hasPages then .scrubbing else .ended, scrub := x.pages.length, endedAt := s.now }
        (wipeFreeLks { s1 with kreg := { s1.kreg with slots := dropLoading x.target s1.kreg.slots,
                                                      lks := dropLoadingLks x.lksTarget s1.kreg.lks } })

/-- Cycles that a stopped job has occupied slices and that its CYCLES does not hold yet (R165): whole segments, and the run under way. -/
def occupied (s : State) (x : Entry) : Nat :=
  60000 * x.progress + (match x.phase with
    | .running _ => (s.now - x.segAt) * s.pwr.mhz / 1000
    | _ => 0)

/-- CYCLES counts what a job that is stopped has run. -/
def chargeRun (e : Nat) (s : State) : State :=
  match entry? s e with
  | none => s
  | some x =>
    if x.phase = .ended || x.phase = .scrubbing then s
    else setEntry e { x with cycles := x.cycles + occupied s x + owedTo s e } (settleOwed e s)

/-- Stop a job with the given status: its CYCLES report what it has run so far. -/
def stopJob (e : Nat) (st : Status) (detail : Nat) (s : State) : State := haltJob e st detail (chargeRun e s)

/-- Stop every job that satisfies `p`. -/
def stopJobs (p : Nat → Entry → Bool) (st : Status) (s : State) : State :=
  ((s.ring.entries.filter (fun x => p x.1 x.2)).map (·.1)).foldl (fun t e => stopJob e st 0 t) s

/-- A job's command reaches its end: status, DETAIL and output are set, its slice is free, its unit turns to the next;
`late` are the counters that count it once its record is written. -/
def endJob (e : Nat) (st : Status) (detail : Nat) (out : Bytes) (late : List ObjId) (s : State) : State :=
  match entry? s e with
  | none => s
  | some x =>
    let s1 := detach e { x with phase := .waiting } false s
    let s2 := match x.phase with
      | .running n => freeSlice n s1
      | _ => s1
    setEntry e { x with status := st, detail := detail,
                        output := if st = .ok || st = .earlyRead then out else [],
                        phase := .ended, late := late, endedAt := s2.now, target := none, lksTarget := none } s2

/-- The first of a queue (R20): the lowest priority class, then order of admission. -/
def frontOf (l : List (Nat × Entry)) : Option (Nat × Entry) :=
  leastBy (fun q => q.2.serial) (l.filter (fun q => l.all (fun r => decide (q.2.prio ≤ r.2.prio))))

/-- A job runs on a slice. -/
def onSlice (x : Entry) : Bool :=
  match x.phase with
  | .running _ => true
  | _ => false

/-- The job that a unit serves which takes one at a time (the key manager, the host's generator): the one it has begun, else the lowest
priority class's, then in order of admission (R342, R525). -/
def unitHead (s : State) (cls : Nat) : Option Nat :=
  match s.ring.entries.find? (fun q => decide (q.2.desc.opcode / 256 = cls) && onSlice q.2) with
  | some q => some q.1
  | none => (frontOf (s.ring.entries.filter (fun q => decide (q.2.desc.opcode / 256 = cls) && decide (q.2.phase = .waiting)))).map (·.1)

/-- A job has occupied its unit for `c` cycles in all its runs and segments, and has waited at the benches besides (R222): CYCLES counts
them, and the clock stands where its last run ends, or later. -/
def spend (e c : Nat) (s : State) : State :=
  match entry? s e with
  | none => s
  | some x =>
    let w := owedTo s e
    setEntry e { x with cycles := x.cycles + c + w }
      (settleOwed e { s with now := max s.now (x.segAt + cyclesNs s (c - 60000 * x.progress + w)) })

/-- The turn under way, without pair `p`'s. -/
def turnWithout (p : Nat) (t : Option (Nat × Nat)) : Option (Nat × Nat) :=
  match t with
  | some q => if q.1 = p then none else some q
  | none => none

/-- A pair's turn is over (R152). -/
def endTurn (p : Nat) (s : State) : State :=
  { s with ring := { s.ring with turnMgmt := turnWithout p s.ring.turnMgmt, turnTenant := turnWithout p s.ring.turnTenant } }

/-- The prefetch buffer gives up a pair's entries (R131, R145). -/
def dropHeld (n : Nat) (s : State) : State :=
  let p := pair s n
  setPair n { p with held := [], readNext := p.next, readLap := p.lap } (endTurn n s)

/-- The pair's head job no longer waits for pages (R162). -/
def notStarving (p : Nat) (s : State) : State := { s with ring := { s.ring with starving := dropAll p s.ring.starving } }

/-- A pair that had no polls due comes due now (R146): the time it was not polled is no lateness. -/
def Pair.pollDue (now : Time) (p : Pair) : Pair := { p with pollAt := max p.pollAt now }

/-- Every pair's poll comes due anew, where polling starts again (R146, R173). -/
def renewPolls (s : State) : State := { s with ring := { s.ring with pairs := mmap (fun _ p => p.pollDue s.now) s.ring.pairs } }

/-- Pairs STALLED now (R164). -/
def stalledNow (s : State) : Nat := mcount (fun _ p => decide (p.st = .stalled)) s.ring.pairs

/-- Leaving STALLED adds the time spent there to RING_STALL_US (R159). -/
def leaveStall (n : Nat) (s : State) : State :=
  let p := pair s n
  match p.stallAt with
  | none => s
  | some t => bumpBy (pairObj n Obj.RING_STALL_US) ((s.now - t) / 1000) (setPair n { p with stallAt := none } s)

end Sys2Proof.Machine
end

