-- ==== Sys2Proof/Machine/Micro.lean ====
section
/-!
DEFINITION. Microwords (R181–R184): their decoding, the slices' sequencers, and the fetch of a command's first microwords.  What the
datapath words of a command compute is the command's own meaning, as its chapter gives it.
-/
namespace Sys2Proof.Machine

/-- The condition of a sequencing microword (R182). -/
inductive MicroCond where
  | always | loopNotZero | flagSet | flagClear | reserved
deriving DecidableEq, Repr

/-- A microword by its operation group, with its operands (R182). -/
inductive Micro where
  | datapath (op dst srcA srcB : Nat) (sec : Bool) (modifier : Nat)
  | jmp (c : MicroCond) (target : Nat)
  | call (c : MicroCond) (target : Nat)
  | ret (c : MicroCond)
  | loop (c : MicroCond) (target : Nat)
  | ld (reg beats offset : Nat)
  | st (reg beats offset : Nat)
  | key (reg selector unit : Nat)
  | rand (reg : Nat) (drbg : Bool)
  | check (a b : Nat)
  | yield
  | release
  | fail (status : Nat)
  | unused (op : Nat)
deriving DecidableEq, Repr

/-- The condition that bits 24:22 code. -/
def microCond (w : Nat) : MicroCond :=
  match bits w 24 22 with
  | 0 => .always
  | 1 => .loopNotZero
  | 2 => .flagSet
  | 3 => .flagClear
  | _ => .reserved

/-- STEP, bit 25: the last microword of a command step (R181). -/
def microStep (w : Nat) : Bool := bit w 25

/-- A microword decoded (R181, R182). -/
def microOf (w : Nat) : Micro :=
  let op := bits w 31 26
  if op < 0x20 then .datapath op (bits w 24 20) (bits w 19 15) (bits w 14 10) (bit w 9) (bits w 8 0)
  else match op with
  | 0x20 => .jmp (microCond w) (bits w 20 4)
  | 0x21 => .call (microCond w) (bits w 20 4)
  | 0x22 => .ret (microCond w)
  | 0x23 => .loop (microCond w) (bits w 20 4)
  | 0x28 => .ld (bits w 24 20) (bits w 18 15 + 1) (bits w 14 0)
  | 0x29 => .st (bits w 24 20) (bits w 18 15 + 1) (bits w 14 0)
  | 0x2C => .key (bits w 24 20) (bits w 19 16) (bits w 15 0)
  | 0x2D => .rand (bits w 24 20) (bit w 19)
  | 0x2E => .check (bits w 24 20) (bits w 19 15)
  | 0x2F => .yield
  | 0x30 => .release
  | 0x31 => .fail (bits w 24 17)
  | _ => .unused op

/-- A condition holds: it reads the loop counter and the public flag alone (R183).  DESIGN CHOICE: a reserved condition never holds. -/
def MicroCond.holds (q : Sequencer) : MicroCond → Bool
  | .always => true
  | .loopNotZero => decide (q.loop ≠ 0)
  | .flagSet => q.flag
  | .flagClear => !q.flag
  | .reserved => false

/-- The sequencer after a microword (R182, R183).  A datapath word with SEC set never changes the public flag; what another makes of it is
not listed.  PRESUMED: LOOP first counts the loop counter down, CALL leaves a return address, RET takes the newest. -/
def Sequencer.after (cls w : Nat) (q : Sequencer) : Sequencer :=
  let next := (q.addr + 1) % 2 ^ 17
  match microOf w with
  | .jmp c t => { q with addr := if c.holds q then t else next }
  | .call c t => if c.holds q then { q with addr := t, ret := next :: q.ret } else { q with addr := next }
  | .ret c => if c.holds q then { q with addr := q.ret.headD next, ret := q.ret.drop 1 } else { q with addr := next }
  | .loop c t =>
    let r := { q with loop := q.loop - 1 }
    { r with addr := if c.holds r then t else next }
  | .datapath _ _ _ _ sec _ =>
    { q with addr := next, flag := if sec then q.flag else Config.microFlag cls w q.flag, loop := Config.microLoop cls w q.loop }
  | _ => { q with addr := next }

/-- The microword at a microaddress (R184): 65,536 words of the class's ROM, 8,192 of its patch RAM, zero where no patch set is loaded;
every other address is unused. -/
def microFetch (s : State) (cls a : Nat) : Option Nat :=
  if a < 0x10000 then some (Config.microRom cls a).toNat
  else if a < 0x12000 then some (match mget? s.pke.patch cls with
    | some b => (Config.patchWord cls (a - 0x10000) b).toNat
    | none => 0)
  else none

/-- PATCHED and TARGET of a dispatch entry as the loaded patch set redirects it (R186, R187). -/
def patchOf (s : State) (cls entry : Nat) : BitVec 18 :=
  match mget? s.pke.patch cls with
  | some b => Config.patchEntry cls entry b
  | none => 0

/-- A dispatch entry is PATCHED. -/
def isPatched (s : State) (cls entry : Nat) : Bool := (patchOf s cls entry).getLsbD 17

/-- The TARGET of a dispatch entry (R186). -/
def targetOf (s : State) (cls entry : Nat) : Nat :=
  if isPatched s cls entry then (patchOf s cls entry).toNat % 2 ^ 17 else (Config.dispatchTarget cls entry).toNat

/-- The words of the sequencing group that stand before a command's first other word; none where an unused address is fetched, or an
unused operation code (R182, R184). -/
def microWalk (s : State) (cls : Nat) : Nat → Sequencer → Option Sequencer
  | 0, q => some q
  | k + 1, q =>
    match microFetch s cls q.addr with
    | none => none
    | some w =>
      match microOf w with
      | .unused _ => none
      | .jmp _ _ => microWalk s cls k (q.after cls w)
      | .call _ _ => microWalk s cls k (q.after cls w)
      | .ret _ => microWalk s cls k (q.after cls w)
      | .loop _ _ => microWalk s cls k (q.after cls w)
      | _ => some q

/-- The dispatch entry of an opcode (R185). -/
def dispatchEntry (opcode : Nat) : Nat := opcode / 256 * 16 + opcode % 256

/-- A command enters its class's microcode on slice `n` (R185): where the dispatch entry leads into patch RAM and an unused word is
fetched there, the job ends FAULT_DETECTED (R182, R184).  DESIGN CHOICE: the ROM's own routines, whose words are not listed, fetch none. -/
def enterCommand (cls n e opcode : Nat) (s : State) : State :=
  let k := dispatchEntry opcode
  let q := { Sequencer.reset with addr := targetOf s cls k }
  if isPatched s cls k then
    match microWalk s cls 64 q with
    | none => stopJob e .faultDetected 0 s
    | some r => setSlice n { slice_ s n with seq := r } s
  else setSlice n { slice_ s n with seq := q } s

end Sys2Proof.Machine
end

