-- ==== Sys2Proof/Machine/Units.lean ====
section
/-!
DEFINITION. Operations over the other units that fences, tenant deletion, tamper responses and resets share: cells and
their calls, graft exchanges, circuit keys, the key register's erasure.
-/
namespace Sys2Proof.Machine

/-! ### Service cells (R492, R502) -/

/-- A service cell. -/
def cell (s : State) (n : Nat) : Cell := tget (fun _ => Cell.reset) s.tsuow.cells n

/-- Replace a service cell; a change of SVC_CELL_STATE is noticed. -/
def setCell (n : Nat) (c : Cell) (s : State) : State :=
  let t := { s with tsuow := { s.tsuow with cells := tset (fun _ => Cell.reset) s.tsuow.cells n c } }
  if (cell s n).st = c.st then t else noticed (at_ Obj.SVC_CELL_STATE n) t

/-- What a call's ending makes of its cell (R502). -/
inductive CellAfter where
  | keep | reinit | fence | remove
deriving DecidableEq, Repr

/-- Fields of a program image (R493). -/
def imgCodeLen (b : Bytes) : Nat := field b 16 4
def imgDataLen (b : Bytes) : Nat := field b 20 4
def imgCode (b : Bytes) : Bytes := slice b 80 (imgCodeLen b)
def imgData (b : Bytes) : Bytes := slice b (80 + imgCodeLen b) (imgDataLen b)

/-- The fabric address of a D-space address of data SRAM (R463). -/
def dataFabric (a : Nat) : Nat := 0x2000000 + a

/-- The fabric address of an I-space address (R462). -/
def codeFabric (a : Nat) : Nat := 0x4000000 + a

/-- A cell's data, BSS and stack as the image gives them (R493, R502). -/
def cellDataInit (c : Cell) (s : State) : State :=
  memWrite (dataFabric c.dataBase) (imgData c.loaded)
    { s with iso := { s.iso with mem := zeroRange s.iso.mem (dataFabric c.dataBase) c.dataLen } }

/-! ### The core (R457–R461, R487, R498, R501) -/

/-- Bits of MODE (R461): 0 UM, 1 PUM, 2 IE, 3 EL. -/
def modeUM (c : Core) : Bool := c.mode.getLsbD 0
def modePUM (c : Core) : Bool := c.mode.getLsbD 1
def modeIE (c : Core) : Bool := c.mode.getLsbD 2
def modeEL (c : Core) : Bool := c.mode.getLsbD 3

/-- MODE from its bits. -/
def mkMode (um pum ie el : Bool) : Word := BitVec.ofNat 32 (b2n um + 2 * b2n pum + 4 * b2n ie + 8 * b2n el)

/-- Exception entry (R487): EPC, EFL, ECAUSE, EADDR, MODE, and the jump to EVEC + 0x40 × code. -/
def Core.enter (c : Core) (code : Nat) (epc : BitVec 24) (eaddr : Word) : Core :=
  { c with epc := epc, efl := c.fl, ecause := BitVec.ofNat 32 code, eaddr := eaddr,
           mode := mkMode false (modeUM c) (modeIE c) true, pc := c.evec + BitVec.ofNat 24 (0x40 * code) }

/-- ERET (R487): FL from EFL, UM from PUM, EL 0, on at EPC. -/
def Core.eret (c : Core) : Core :=
  { c with fl := c.efl &&& 0xE00F, mode := mkMode (modePUM c) (modePUM c) (modeIE c) false, pc := c.epc }

/-- The registers that the supervisor firmware zeroes at the start and the end of a call (R498). -/
def Core.zeroed (c : Core) : Core :=
  { c with g := [], v := [], k := [], vstart := 0, vqLo := 0, vqHi := 0, lc := 0, ls := 0, le := 0, lc1 := 0, ls1 := 0, le1 := 0,
           fl := 0, endPending := false }

/-- The core in the supervisor's hands, out of user mode: an interrupt is entered where it was in user mode (R501). -/
def Core.toSupervisor (c : Core) : Core := if modeUM c then c.enter 0x10 c.pc 0 else c

/-- A cell's own registers back in the core, with the core's own exception registers and vector base; ERET has entered user
mode (R498, R501). -/
def Core.resume (c saved : Core) : Core :=
  { saved with epc := c.epc, efl := c.efl, ecause := c.ecause, eaddr := c.eaddr, evec := c.evec,
               mode := mkMode true true (modeIE c) false, waiting := false, stopped := c.stopped, retention := false,
               timeHi := c.timeHi }

/-- The next ready cell gets the core, for a quantum (R501). -/
def nextCell (s : State) : State :=
  match s.tsuow.current, s.tsuow.readyQ with
  | none, n :: r =>
    match (cell s n).saved with
    | some c =>
      let s1 := setCell n { cell s n with saved := none, quantumEnd := s.now + us (objVal s Obj.SVC_QUANTUM) } s
      { s1 with tsuow := { s1.tsuow with current := some n, readyQ := r, core := s1.tsuow.core.resume c } }
    | none => { s with tsuow := { s.tsuow with readyQ := r } }
  | _, _ => s

/-- A cell's call is over: the core leaves it, its registers zeroed, and goes to the next ready cell (R498, R501). -/
def leaveCell (n : Nat) (s : State) : State :=
  let mine := decide (s.tsuow.current = some n)
  let c := s.tsuow.core
  let t := { s.tsuow with
    current := if mine then none else s.tsuow.current, readyQ := dropAll n s.tsuow.readyQ,
    core := if mine then { c.toSupervisor.zeroed with ccol := 0, cb := 0, cl := 0, dwin := 0, budget := 0 } else c }
  nextCell { s with tsuow := t }

/-- A cell after its call or its tenant is gone (R502). -/
def cellAfter (n : Nat) (a : CellAfter) (s : State) : State :=
  let c := { cell s n with call := none, subjob := none, subResult := none, waiting := false, saved := none }
  match a with
  | .keep => setCell n { c with st := .ready } s
  | .fence => setCell n { c with st := .fenced, fences := c.fences ++ [s.now] } s
  | .reinit => setCell n { c with st := if c.st = .running then .ready else c.st } (cellDataInit c s)
  | .remove =>
    let s1 := { s with iso := { s.iso with mem := zeroRange s.iso.mem (codeFabric c.codeBase) (c.codeLen + imgDataLen c.loaded) } }
    setCell n { c with st := .empty, loaded := [], codeBase := 0, codeLen := 0, dataBase := 0, dataLen := 0 }
      (retag (dataFabric c.dataBase / 256) (ceilDiv c.dataLen 256) 0xFFFF s1)

/-- The D-space address of cell `n`'s page list. -/
def pageList (n : Nat) : Nat := 0x2000 * n

/-- The call's sub-job is stopped as by ABORT and forgotten; the page list goes back to the supervisor. -/
def dropSubjob (n : Nat) (s : State) : State :=
  let s1 := match (cell s n).subjob with
    | some e => dropEntry e (stopJob e .aborted 0 s)
    | none => s
  retag (dataFabric (pageList n) / 256) 32 0 s1

/-- The user-mode cycles of the call so far (R502): the budget loaded less the budget left. -/
def callCycles (s : State) (n : Nat) : Nat :=
  let left := if s.tsuow.current = some n then s.tsuow.core.budget.toNat
    else match (cell s n).saved with
      | some c => c.budget.toNat
      | none => 0
  (cell s n).budget - left

/-- End a cell's call: its sub-job is stopped as by ABORT, the call's job ends with the status, the cell is left as the
ending says (R502). -/
def endCall (n : Nat) (st : Status) (detail : Nat) (a : CellAfter) (s : State) : State :=
  let c := cell s n
  let cyc := callCycles s n
  let s2 := match c.call with
    | some e =>
      let s1 := dropSubjob n s
      let s1 := match entry? s1 e with
        | some x => setEntry e { x with cycles := cyc } s1
        | none => s1
      stopJob e st detail s1
    | none => s
  leaveCell n (cellAfter n a s2)

/-- End the calls of every running cell (R490, R535). -/
def endCalls (st : Status) (a : CellAfter) (s : State) : State :=
  ((s.tsuow.cells.filter (fun p => p.2.call.isSome)).map (·.1)).foldl (fun t n => endCall n st 0 a t) s

/-- The tenant a cell is assigned to. -/
def cellTenant (s : State) (n : Nat) : Nat := objVal s (at_ Obj.SVC_CELL_TENANT n)

/-- A load in progress ends without effect: its verification job is stopped as by a fence. -/
def dropLoad (n : Nat) (s : State) : State :=
  let s1 := stopJobs (fun _ e => decide (e.origin = .load n)) .fenced s
  setCell n { cell s1 n with loading := none }
    { s1 with ring := { s1.ring with internalWait := s1.ring.internalWait.filter (fun w => decide (w.1 ≠ .load n)) } }

/-- Stop every cell of a tenant and empty it (R113, R119, R502). -/
def dropCells (t : Nat) (s : State) : State :=
  ((s.tsuow.cells.filter (fun p => decide (cellTenant s p.1 = t))).map (·.1)).foldl
    (fun x n => endCall n .fenced 0 .remove (dropLoad n x)) s

/-! ### Circuits and graft (R409, R450) -/

/-- A circuit of the link cipher. -/
def circuit (s : State) (c : Nat) : Circuit := tget (fun _ => Circuit.reset) s.sp.circuits c

/-- Replace a circuit. -/
def setCircuit (c : Nat) (x : Circuit) (s : State) : State :=
  { s with sp := { s.sp with circuits := tset (fun _ => Circuit.reset) s.sp.circuits c x } }

/-- A circuit's exchange. -/
def graftOf (s : State) (c : Nat) : Graft := tget (fun _ => Graft.reset) s.graft.circuits c

/-- Replace a circuit's exchange; a change of GR_C_STATE is noticed. -/
def setGraft (c : Nat) (g : Graft) (s : State) : State :=
  let t := { s with graft := { s.graft with circuits := tset (fun _ => Graft.reset) s.graft.circuits c g } }
  if (graftOf s c).st = g.st then t else noticed (at_ Obj.GR_C_STATE c) t

/-- The first pass over the units of slots that are erased (R341): DRBG output; zero where the DRBG is stopped. -/
def overwriteUnits (hs : List Nat) (s : State) : State :=
  if rngReady s then drawPass 43 ((s.kreg.slots.filter (fun p => decide (p.1 ∈ hs))).map (fun p => p.2.units)).sum s else s

/-- Free key slots: overwritten, then zero; their handles and units free (R341). -/
def freeSlots (hs : List Nat) (s : State) : State :=
  let t := overwriteUnits hs s
  { t with kreg := { t.kreg with slots := mfilter (fun h _ => !(decide (h ∈ hs))) t.kreg.slots } }

/-- The slots of a key, if present. -/
def keySlot (k : Option LinkKey) : List Nat :=
  match k with
  | some x => [x.slot]
  | none => []

/-- The quiet state a circuit returns to: BLOCKED where the circuit is, IDLE otherwise (R447). -/
def quietState (s : State) (c : Nat) : GraftState := if (circuit s c).blocked then .blocked else .idle

/-- A next key that exchange `xid` installed and that has not been switched to or promoted. -/
def keyOfXid (xid : Nat) (k : Option LinkKey) : List Nat :=
  match k with
  | some x => if x.xid = xid then [x.slot] else []
  | none => []

/-- A circuit without the next keys of exchange `xid`. -/
def Circuit.dropNext (x : Circuit) (xid : Nat) : Circuit :=
  let keep := fun (k : Option LinkKey) => match k with
    | some y => if y.xid = xid then none else some y
    | none => none
  { x with txNext := keep x.txNext, rxNext := keep x.rxNext, armed := x.armed && (keep x.txNext).isSome }

/-- The role of the slot that a step of an exchange makes: of KEYGEN (1, 2) the keys, of ENCAPS, DECAPS and AGREE (5–7) the
secrets. -/
def stepRole (step : Nat) : Option Nat :=
  match step with
  | 1 => some 0
  | 2 => some 1
  | 5 => some 2
  | 6 => some 3
  | 7 => some 4
  | _ => none

/-- The slot that an exchange's job has made (R233). -/
def stepSlot (step : Nat) (st : Status) (detail : Nat) : Option Nat := if st = .ok then (stepRole step).map (fun _ => detail) else none

/-- An exchange's internal job. -/
def ofGraft (c : Nat) (e : Entry) : Bool := decide (e.origin = .graft c)

/-- The slots of an exchange's jobs that it has not taken over yet. -/
def looseSlots (s : State) (c : Nat) : List Nat :=
  (s.ring.entries.filter (fun q => ofGraft c q.2 && decide (q.2.phase = .ended))).filterMap
      (fun q => stepSlot q.2.desc.userTag q.2.status q.2.detail) ++
    (graftOf s c).results.filterMap (fun r => stepSlot r.step r.status r.detail)

/-- The jobs of an exchange that is over answer to nothing: step 0. -/
def orphan (c : Nat) (s : State) : State :=
  let f := fun (_ : Nat) (e : Entry) => if ofGraft c e then { e with desc := { e.desc with userTag := 0 } } else e
  { s with ring := { s.ring with entries := mmap f s.ring.entries,
                                 internalWait := s.ring.internalWait.filter (fun p => decide (p.1 ≠ .graft c)) } }

/-- Slots that a packet in process has fixed (R423). -/
def fixedSlots (x : Circuit) : List Nat := (x.queue.filter (fun q => !q.done)).filterMap (·.slot)

/-- End a circuit's exchange without its keys (R443, R449, R450): its ephemeral and secret slots and its next keys not yet
switched are erased (one that a packet in process has fixed, once that packet has left: R423), its pages freed, its internal jobs
stopped as by ABORT; the circuit is quiet.  A message under assembly and a G1 that waits belong to no exchange yet and stay. -/
def abandonGraft (c : Nat) (s : State) : State :=
  let g := graftOf s c
  let x := circuit s c
  let live := decide (g.st = .confirming ∨ g.st = .armed)
  let s1 := orphan c (stopJobs (fun _ e => ofGraft c e) .aborted s)
  let gone := if live then keyOfXid g.xid x.txNext ++ keyOfXid g.xid x.rxNext else []
  let held := fun h => decide (h ∈ fixedSlots x)
  let s2 := freeSlots (looseSlots s c ++ g.slots.map (·.2) ++ gone.filter (fun h => !(held h))) s1
  let s3 := if live then setCircuit c { x.dropNext g.xid with dying := x.dying ++ gone.filter held } s2 else s2
  setGraft c { Graft.reset with st := quietState s3 c, pending := g.pending, forced := g.forced, pauseUntil := g.pauseUntil,
                                periodDone := g.periodDone, periodDue := g.periodDue, asmId := g.asmId,
                                asmCount := g.asmCount, asm_ := g.asm_, asmDue := g.asmDue,
                                rx := g.rx.filter (fun b => decide (byteAt b 0 = 1)) } s3

/-- Free the slots of the named roles of an exchange. -/
def freeRoles (c : Nat) (rs : List Nat) (s : State) : State :=
  let g := graftOf s c
  let hs := (g.slots.filter (fun p => decide (p.1 ∈ rs))).map (·.2)
  setGraft c { graftOf s c with slots := g.slots.filter (fun p => !(decide (p.1 ∈ rs))) } (freeSlots hs s)

/-- An exchange in a state other than quiet (R447). -/
def graftQuiet (g : Graft) : Bool := decide (g.st = .idle ∨ g.st = .switched ∨ g.st = .blocked)

/-- Abandon every exchange in progress (R450, R535). -/
def abandonAll (s : State) : State :=
  ((s.graft.circuits.filter (fun p => !(graftQuiet p.2) || p.2.stage ≠ .none_)).map (·.1)).foldl (fun t c => abandonGraft c t) s

/-- A circuit without keys: what an erasure of the key register leaves of it (R429). -/
def Circuit.noKeys (x : Circuit) : Circuit :=
  { x with txCur := none, txNext := none, rxCur := none, rxNext := none, rxRet := none, armed := false, blocked := false, dying := [] }

/-! ### Erasure of the key register (R340) -/

/-- An erasure: K_scr and K_mask destroyed, every slot and every secret that no handle names gone, the overwrite running; circuits without keys, exchanges
abandoned, a card fill failed (R340, R353, R429, R450). -/
def eraseKreg (s : State) : State :=
  let s0 := abandonAll s
  let s1 := if s0.kreg.fill.isSome then setObj Obj.KREG_FILL_STATE 3 s0 else s0
  { s1 with
    kreg := { s1.kreg with slots := [], working := [], hts := [], kScr := [], kMask := [], erasing := some s1.now, fill := none },
    sp := { s1.sp with circuits := mmap (fun _ x => x.noKeys) s1.sp.circuits } }

/-- BIND-OFF (R535): the key register erased, every LKS entry and digest context erased and freed, the park key
destroyed, K_dsave redrawn. -/
def bindOff (s : State) : State :=
  let k := drawOrFree 36 32 (eraseKreg s)
  wipeFreeLks { k.2 with
    kreg := { k.2.kreg with lks := [], lksUsers := [] },
    dig := { k.2.dig with ctx := [], dsave := k.1 },
    pke := { k.2.pke with parkKey := [] } }

/-- A half's 64-byte header with COMPLETE written (R356): magic, half serial, check value of AK.  DESIGN CHOICE: the fields' places and
lengths after the magic. -/
def archHeader (serial : Nat) (check : Bytes) : Bytes :=
  [0x5A, 0x4B, 0x41, 0x52] ++ leBytes 4 serial ++ fitBytes 16 check ++ zeros 39 ++ [0x01]

/-- The archive is UNUSABLE (R360): both halves erased, the mark in the first: half serial 0, a zero check value, COMPLETE. -/
def archUnusable (s : State) : State :=
  setObj Obj.KREG_ARCH_STATE 3
    { s with kreg := { s.kreg with
        halfA := archHeader 0 [], halfB := [], activeB := false,
        dropAt := none } }

/-- Erase all of BBRAM (R535): the KEK, every stateful counter record, the boot count, the gauge plan and the counts
kept there.  What an erased count reads as is not stated: free values. -/
def eraseBbram (s : State) : State :=
  let f := fun i => Config.freeNat (s.free + i)
  { s with
    free := s.free + 5,
    kreg := { s.kreg with counters := [], kek := [] },
    upd := { s.upd with bootCount := f 0 % 2 ^ 64 },
    pwr := { s.pwr with opHours := f 1 % 2 ^ 32, opAt := s.now, powerLosses := f 2 % 2 ^ 32, rtcSets := f 3 % 2 ^ 32,
                        lastPlanHours := 0, bbPlan := none },
    rec_ := { s.rec_ with resets := f 4 % 2 ^ 32 } }

end Sys2Proof.Machine
end

