-- ==== Sys2Proof/Machine/Link.lean ====
section
/-!
DEFINITION. Stream ports and circuits, the shared part (chapters 11 and 12): what leaves a port, the order of a circuit's packets,
circuit keys and their release, the TX switch, promotion, and the events of the exchange that these cause.
-/
namespace Sys2Proof.Machine

/-! ### Ports (R393, R394, R404–R407) -/

/-- A stream port. -/
def port (s : State) (p : Nat) : Port := tget (fun _ => Port.reset) s.sp.ports p

/-- Replace a port; what SP_STATE, SP_LANE_STATUS, SP_FC_XOFF_IN and SP_FC_XOFF_OUT read is noticed where it changes (R61). -/
def setPort (p : Nat) (x : Port) (s : State) : State :=
  let y := port s p
  let t := { s with sp := { s.sp with ports := tset (fun _ => Port.reset) s.sp.ports p x } }
  let t1 := if y.st = x.st then t else noticed (at_ Obj.SP_STATE p) t
  let t2 := if y.locked = x.locked ∧ y.aligned = x.aligned then t1 else noticed (at_ Obj.SP_LANE_STATUS p) t1
  let t3 := if y.xoffIn.map (·.1) = x.xoffIn.map (·.1) then t2 else noticed (at_ Obj.SP_FC_XOFF_IN p) t2
  if y.xoffOut = x.xoffOut then t3 else noticed (at_ Obj.SP_FC_XOFF_OUT p) t3

/-- The port of a circuit (R26). -/
def portOfCircuit (c : Nat) : Nat := if c < 4096 then 0 else 1

/-- A circuit object's value. -/
def cVal (s : State) (c : Nat) (base : ObjId) : Nat := objVal s (at_ base c)

/-- A packet leaves the port: SP_TX_PKTS, SP_STATUS_TX, the circuit's output counters (R399, R412, R430). -/
def emitPkt (p : Nat) (o : OutPkt) (s : State) : State :=
  let s1 := bump (at_ Obj.SP_TX_PKTS p) (emit (.packet p o.bytes) s)
  match o.kind with
  | 0 => bump (at_ Obj.SP_STATUS_TX p) s1
  | 1 => bumpBy (at_ Obj.SP_C_PROT_OCTETS o.circuit) o.octets (bump (at_ Obj.SP_C_PROT_PKTS o.circuit) s1)
  | 2 => bumpBy (at_ Obj.SP_C_VAL_OCTETS o.circuit) o.octets (bump (at_ Obj.SP_C_VAL_PKTS o.circuit) s1)
  | _ => s1

/-- A packet is discarded in a stall (R407); 8192 stands for a circuit number that failed check 2 or 3, which counts only at port
level (R398). -/
def stallDrop (p circuit : Nat) (s : State) : State :=
  bump (at_ Obj.SP_FC_STALL_DROPS p) (if circuit < 8192 then bump (at_ Obj.SP_C_DROP_OVERFLOW circuit) s else s)

/-- A packet falls due on a port: discarded where the port is not UP (R394) or its class is in stall discard (R407), held while
the framer shows XOFF for its class (R404). -/
def sendPkt (p : Nat) (o : OutPkt) (s : State) : State :=
  let x := port s p
  if x.st ≠ .up then s
  else if o.cls ∈ x.stalled then stallDrop p o.circuit s
  else if (mget? x.xoffIn o.cls).isSome then setPort p { x with outQ := x.outQ ++ [o] } s
  else emitPkt p o s

/-- The 8-byte channel header (R395). -/
def chanHeader (op circuit len tag : Nat) : Bytes := leBytes 1 op ++ leBytes 2 circuit ++ leBytes 2 len ++ leBytes 3 tag

/-- A STATUS packet (R399). -/
def statusPkt (op circuit tag code detail : Nat) : Bytes :=
  chanHeader 5 circuit 8 tag ++ leBytes 1 op ++ leBytes 1 code ++ zeros 2 ++ leBytes 4 detail

/-- Send a STATUS packet; after BAD_HEADER and BAD_CIRCUIT it is charged to no circuit (R398). -/
def sendStatus (p cls circuit op tag code detail : Nat) (s : State) : State :=
  sendPkt p { cls := cls, circuit := if code = 0x0C ∨ code = 0x0D then 8192 else circuit, kind := 0, octets := 0, bytes := statusPkt op circuit tag code detail } s

/-! ### The receive buffer (R405) -/

/-- The circuits of a port that have packets in process. -/
def portCircuits (s : State) (p : Nat) : Tab Circuit := s.sp.circuits.filter (fun q => decide (portOfCircuit q.1 = p))

/-- Bytes of the receive buffer that class `k` occupies: its packets not yet out of their pipelines. -/
def classBytes (s : State) (p k : Nat) : Nat :=
  ((portCircuits s p).map (fun q => ((q.2.queue.filter (fun x => !x.done && decide (x.cls = k))).map (·.size)).sum)).sum

/-- Bytes of the receive buffer in use. -/
def portBytes (s : State) (p : Nat) : Nat :=
  ((portCircuits s p).map (fun q => ((q.2.queue.filter (fun x => !x.done)).map (·.size)).sum)).sum

/-- Whether the device holds class `k` off, by what it shows now (R405). -/
def showsXoff (s : State) (p k : Nat) : Bool :=
  let occ := classBytes s p k
  let free := 65536 - portBytes s p
  if objVal s (at_ Obj.SP_FC_XOFF p) < occ ∨ free < 16384 then true
  else if occ < objVal s (at_ Obj.SP_FC_XON p) ∧ 24576 ≤ free then false
  else (port s p).xoffOut.getLsbD k

/-- The device's calendar after its buffer has changed. -/
def updateFlow (p : Nat) (s : State) : State :=
  let v := BitVec.ofNat 64 ((List.range 64).map (fun k => if showsXoff s p k then 2 ^ k else 0)).sum
  if v = (port s p).xoffOut then s
  else emit (.flow p v.toNat) (setPort p { port s p with xoffOut := v } s)

/-! ### Key slots of circuits (R421, R423) -/

/-- Erase the slots a circuit has let go, save those that a packet in process has fixed (R423). -/
def settleSlots (c : Nat) (s : State) : State :=
  let x := circuit s c
  let gone := x.dying.filter (fun h => !(decide (h ∈ fixedSlots x)))
  if gone.isEmpty then s
  else freeSlots gone (setCircuit c { x with dying := x.dying.filter (fun h => decide (h ∈ fixedSlots x)) } s)

/-- All five keys of a circuit. -/
def circuitSlots (x : Circuit) : List Nat :=
  keySlot x.txCur ++ keySlot x.txNext ++ keySlot x.rxCur ++ keySlot x.rxNext ++ keySlot x.rxRet

/-- The circuit that holds a slot as its RX retired key drops it: its hold ends at once; a packet that has fixed the key completes first
(R348, R423). -/
def endHold (h : Nat) (s : State) : State :=
  let f := fun (_ : Nat) (c : Circuit) =>
    if keySlot c.rxRet = [h] then { c with rxRet := none, dying := c.dying ++ (keySlot c.rxRet).filter (fun k => decide (k ∈ fixedSlots c)) } else c
  { s with sp := { s.sp with circuits := mmap f s.sp.circuits } }

/-- A packet in process has fixed the slot's key (R423). -/
def keyFixed (s : State) (h : Nat) : Bool := s.sp.circuits.any (fun p => decide (h ∈ fixedSlots p.2))

/-- Erase every key of a circuit (R409, R410, R411). -/
def eraseKeys (c : Nat) (s : State) : State :=
  let x := circuit s c
  settleSlots c (setCircuit c { x.noKeys with dying := x.dying ++ circuitSlots x } s)

/-- The largest number of a circuit's packet numbers (R427). -/
def maxNumber (s : State) (c : Nat) : Nat :=
  if cVal s c Obj.SP_C_TRANSFORM = 0 ∧ cVal s c Obj.SP_C_SUITE < 2 then 2 ^ 32 - 1 else 2 ^ 64 - 1

/-- The hard lifetime or hold that a key's slot carries has passed (R428). -/
def keyExpired (s : State) (k : LinkKey) : Bool :=
  match mget? s.kreg.slots k.slot with
  | none => true
  | some v => decide (v.expiry ≠ 0 ∧ v.expiry ≤ bits (time64 s) 55 8)

/-- A TX key is usable: its lifetime has not passed and it is not exhausted (R427, R428). -/
def txUsable (s : State) (c : Nat) (k : LinkKey) : Bool := !(keyExpired s k) && decide (k.next ≤ maxNumber s c)

/-- An RX key is usable (R428). -/
def rxUsable (s : State) (k : LinkKey) : Bool := !(keyExpired s k)

/-! ### The exchange's events (R447, R448) -/

/-- A quiet circuit is BLOCKED where the link cipher has blocked it, and leaves BLOCKED with it (R446, R447). -/
def settleQuiet (c : Nat) (s : State) : State :=
  let g := graftOf s c
  match (circuit s c).blocked, g.st with
  | true, .idle => setGraft c { g with st := .blocked } s
  | true, .switched => setGraft c { g with st := .blocked } s
  | false, .blocked => setGraft c { g with st := .idle } s
  | _, _ => s

/-- An exchange completes (R447). -/
def completeGraft (c : Nat) (s : State) : State :=
  let s1 := bump Obj.GR_EXCHANGES (bump (at_ Obj.GR_C_EXCHANGES c) s)
  let s2 := setObj (at_ Obj.GR_C_LAST_DONE c) (time64 s1) s1
  settleQuiet c (setGraft c { graftOf s2 c with st := .idle, timer := none } s2)

/-- Arm the next TX key and start GR_C_SWITCH_DELAY (R447). -/
def armGraft (c : Nat) (s : State) : State :=
  let t := s.now + ms (cVal s c Obj.GR_C_SWITCH_DELAY)
  setGraft c { graftOf s c with st := .armed, timer := some t } (setCircuit c { circuit s c with armed := true } s)

/-- A trigger occurs: it is held until the circuit can start its exchange; one on a RESPONDER has no effect (R432, R448). -/
def trigger (c : Nat) (force : Bool) (s : State) : State :=
  if cVal s c Obj.GR_C_ROLE = 2 ∨ cVal s c Obj.SP_C_TENANT = 0xFFFF then s
  else
    let g := graftOf s c
    rouseCore (setGraft c { g with pending := true, forced := g.forced || force } s)

/-- The circuit leaves BLOCKED when both its current keys are usable again (R428). -/
def unblock (c : Nat) (s : State) : State :=
  let x := circuit s c
  match x.blocked, x.txCur, x.rxCur with
  | true, some t, some r =>
    if txUsable s c t && rxUsable s r then settleQuiet c (setCircuit c { x with blocked := false } s) else s
  | _, _, _ => s

/-- The TX switch (R424): the next key is current, numbers restart at 1, the old slot is let go. -/
def switchTx (c : Nat) (s : State) : State :=
  let x := circuit s c
  match x.txNext with
  | none => s
  | some k =>
    let s1 := setCircuit c { x with txCur := some k, txNext := none, armed := false, dying := x.dying ++ keySlot x.txCur } s
    let s2 := setGraft c { graftOf s1 c with periodDue := s1.now + ms (cVal s1 c Obj.GR_C_PERIOD), periodDone := false } (bump (at_ Obj.SP_C_SWITCHES c) (settleSlots c s1))
    unblock c s2

/-- The switch that an ARMED exchange commands (R447): SWITCHED, or completed where its RX key is already promoted. -/
def switchEvent (c : Nat) (s : State) : State :=
  let s1 := switchTx c s
  let g := graftOf s1 c
  if g.st = .armed then
    if g.promoted then completeGraft c s1 else settleQuiet c (setGraft c { g with st := .switched, timer := none } s1)
  else s1

/-- The exchange learns that the RX next key that it installed has been promoted (R447). -/
def promotedEvent (c xid : Nat) (s : State) : State :=
  let g := graftOf s c
  if g.xid ≠ xid then s
  else match g.st with
    | .confirming => armGraft c (setGraft c { g with promoted := true } s)
    | .armed => setGraft c { g with promoted := true } s
    | .switched => completeGraft c (setGraft c { g with promoted := true } s)
    | .blocked => completeGraft c (setGraft c { g with promoted := true } s)
    | _ => s

/-- An RX next key is promoted (R425): it is current, the old current key is retired with EXPIRY SP_C_HOLD later, any earlier
retired key is erased. -/
def promote (c : Nat) (s : State) : State :=
  let x := circuit s c
  match x.rxNext with
  | none => s
  | some k =>
    let hold := cVal s c Obj.SP_C_HOLD
    let e := bits (time64 s + hold * 65536 / 1000) 55 8
    let retire := fun (h : Nat) (v : Slot) =>
      if [h] = keySlot x.rxCur then { v with st := .retired, expiry := e, retiredAt := some s.now } else v
    let s1 := { s with kreg := { s.kreg with slots := mmap retire s.kreg.slots } }
    let s2 := setCircuit c { x with rxCur := some k, rxNext := none, rxRet := x.rxCur, retireAt := s.now + ms hold,
                                    dying := x.dying ++ keySlot x.rxRet } s1
    unblock c (promotedEvent c k.xid (bump (at_ Obj.SP_C_PROMOTIONS c) (settleSlots c s2)))

/-- The TX current key has become unusable (R428): the switch at once where the next key is armed, BLOCKED otherwise. -/
def txUnusable (c : Nat) (s : State) : State :=
  let x := circuit s c
  if x.armed && x.txNext.isSome then switchEvent c s
  else settleQuiet c (setCircuit c { x with blocked := true } s)

/-! ### Order of a circuit's packets (R400) -/

/-- A finished packet leaves: its output and, with ECHO, STATUS OK; or its STATUS (R396, R399). -/
def leavePkt (c : Nat) (q : InFlightPkt) (s : State) : State :=
  let p := portOfCircuit c
  if q.code ≠ 0 then sendStatus p q.cls c q.op q.tag q.code q.detail s
  else
    let cf := c + (if q.echo then 8192 else 0)
    let o : OutPkt := { cls := q.cls, circuit := c, kind := q.op, octets := if q.op = 1 then q.inLen else q.out.length,
                        bytes := chanHeader q.op cf q.out.length q.tag ++ q.out }
    let s1 := sendPkt p o s
    if q.echo then sendStatus p q.cls c q.op q.tag 0 0 s1 else s1

/-- Send the finished packets at the head of a circuit's queue. -/
def leaveAll (c : Nat) : List InFlightPkt → State → State
  | [], s => setCircuit c { circuit s c with queue := [] } s
  | q :: r, s => if q.done then leaveAll c r (leavePkt c q s) else setCircuit c { circuit s c with queue := q :: r } s

/-- The packets of a circuit that are finished leave in the order of their sequence points; slots let go are erased. -/
def drainCircuit (c : Nat) (s : State) : State := updateFlow (portOfCircuit c) (settleSlots c (leaveAll c (circuit s c).queue s))

/-- Packets in process that satisfy `f` are lost without output or STATUS (R394, R402, R636). -/
def losePkts (f : InFlightPkt → Bool) (s : State) : State :=
  let hit := (s.sp.circuits.filter (fun p => p.2.queue.any f)).map (·.1)
  let s1 := { s with sp := { s.sp with circuits := mmap (fun _ x => { x with queue := x.queue.filter (fun q => !(f q)) }) s.sp.circuits } }
  hit.foldl (fun t c => drainCircuit c t) s1

end Sys2Proof.Machine
end

