-- ==== Sys2Proof/Machine/Fence.lean ====
section
/-!
DEFINITION. Fences: the units of R636, what a fence ends, and its record (R637).
-/
namespace Sys2Proof.Machine

/-- Causes of ERR_FENCE_LAST (R650). -/
abbrev cSLICE_WDOG : Nat := 1
abbrev cBENCH_WDOG : Nat := 2
abbrev cUNIT_WDOG : Nat := 3
abbrev cREFUSAL : Nat := 4
abbrev cTAMPER : Nat := 5
abbrev cKAT : Nat := 6
abbrev cMISMATCH : Nat := 7
abbrev cRNG_DEAD : Nat := 8

/-- The bit of ERR_FENCE_MAP of a unit (R650). -/
def fenceBit : UnitRef → Option Nat
  | .slice n => some n
  | .requester n => some n
  | .digest n => some (41 + n)
  | .pipe n => some (45 + n)
  | _ => none

/-- The fence map's number for the entropy source (R650). -/
abbrev fenceRng : Nat := 53

/-- Record a fence (R637): its bit, ERR_FENCES, ERR_FENCE_LAST. -/
def recordFence (k cause entry : Nat) (s : State) : State :=
  let s1 := { s with rec_ := { s.rec_ with fences := if k ∈ s.rec_.fences then s.rec_.fences else k :: s.rec_.fences } }
  let s2 := bump Obj.ERR_FENCES s1
  setObj Obj.ERR_FENCE_LAST (leNat (leBytes 8 (time64 s2) ++ leBytes 1 k ++ leBytes 1 cause ++ zeros 2 ++ leBytes 4 entry)) s2

/-- Every slice of a class is fenced (R598). -/
def classFenced (s : State) (cls : Nat) : Bool := (classSlices cls).all (fun n => decide ((slice_ s n).st = .fenced))

/-- When the last slice of a class is fenced, every admitted job that waits for the class ends UNSUPPORTED (R598). -/
def endClassWaiters (cls : Nat) (s : State) : State :=
  if classFenced s cls then
    stopJobs (fun _ e => decide (opClass e.desc.opcode = some cls) && decide (e.phase = .waiting ∨ e.phase = .parked ∨
      e.phase = .inbound)) .unsupported s
  else s

/-- Fence a slice (R636): its job ends with `st`; a scrub it was doing waits for another slice (R216). -/
def fenceSlice (n cause : Nat) (st : Status) (detail : Nat) (s : State) : State :=
  let x := slice_ s n
  let e := x.job.getD 0xFFFFFFFF
  let scrubbing := x.st = .scrub
  let s1 := setSlice n { x.cleared with st := .fenced, seeded := false } (dropBursts n s)
  let s2 := match x.job with
    | none => s1
    | some j => if scrubbing then { s1 with pke := { s1.pke with scrubQ := j :: s1.pke.scrubQ } }
                else
                  let s' := stopJob j st detail s1
                  -- the fenced slice does not scrub the pages of its job itself
                  match entry? s' j with
                  | some y => if y.phase = .scrubbing ∧ j ∉ s'.pke.scrubQ then
                      { s' with pke := { s'.pke with scrubQ := s'.pke.scrubQ ++ [j] } } else s'
                  | none => s'
  endClassWaiters (sliceClass n) (recordFence n cause e s2)

/-- Fence a bench requester 36–40 (R636): the job it served, if any, ends with `st`. -/
def fenceRequester (n cause : Nat) (job : Option Nat) (st : Status) (detail : Nat) (s : State) : State :=
  let s0 := dropBursts n s
  let s1 := { s0 with pke := { s0.pke with fencedReq := if n ∈ s0.pke.fencedReq then s0.pke.fencedReq else n :: s0.pke.fencedReq } }
  let s2 := match job with
    | some e => stopJob e st detail s1
    | none => s1
  recordFence n cause (job.getD 0xFFFFFFFF) s2

/-- A digest unit. -/
def digUnit (s : State) (n : Nat) : DigUnit := tget (fun _ => DigUnit.reset) s.dig.units n

/-- Replace a digest unit. -/
def setDigUnit (n : Nat) (u : DigUnit) (s : State) : State :=
  { s with dig := { s.dig with units := tset (fun _ => DigUnit.reset) s.dig.units n u } }

/-- Fence a digest unit (R636): its jobs end with `st`; contexts are unchanged (R367). -/
def fenceDigest (n cause : Nat) (st : Status) (detail : Nat) (s : State) : State :=
  let js := (digUnit s n).jobs
  let s1 := js.foldl (fun t e => stopJob e st detail t) s
  recordFence (41 + n) cause (js.head?.getD 0xFFFFFFFF)
    (setDigUnit n { digUnit s1 n with fenced := true, jobs := [] } s1)

/-- A cipher pipeline. -/
def pipe (s : State) (n : Nat) : Pipe := tget (fun _ => Pipe.reset) s.sp.pipes n

/-- Replace a cipher pipeline. -/
def setPipe (n : Nat) (p : Pipe) (s : State) : State :=
  { s with sp := { s.sp with pipes := tset (fun _ => Pipe.reset) s.sp.pipes n p } }

/-- Fence a cipher pipeline (R636): packets in process on it are lost. -/
def fencePipe (n cause : Nat) (s : State) : State :=
  let s1 := losePkts (fun q => decide (q.pipe = n) && !q.done) s
  recordFence (45 + n) cause 0xFFFFFFFF (setPipe n { pipe s1 n with fenced := true } s1)

/-- Put a ring pair in FAULT (R174, R636): polling stops, held entries are discarded. -/
def faultPair (p : Nat) (s : State) : State :=
  let s1 := notStarving p (dropHeld p (leaveStall p s))
  let x := pair s1 p
  if x.st = .disabled then s1 else setPair p { x with st := .fault, headAt := none, pageWait := none } s1

/-- Apply a fence to a unit (R636): its job ends with `st`. -/
def fenceUnit (u : UnitRef) (cause : Nat) (st : Status) (s : State) : State :=
  match u with
  | .slice n => fenceSlice n cause st 0 s
  | .requester n => fenceRequester n cause none st 0 s
  | .digest n => fenceDigest n cause st 0 s
  | .pipe n => fencePipe n cause s
  | .ring p => faultPair p s
  | .cell n => endCall n .faultDetected 0 .reinit s
  | .none_ => s

/-- The number that names a unit in a log (R544). -/
def unitNumber : UnitRef → Nat
  | .slice n => n
  | .requester n => n
  | .digest n => n
  | .pipe n => n
  | .ring p => p
  | .cell n => n
  | .none_ => 0

/-- The unit is fenced already. -/
def unitFenced (s : State) (u : UnitRef) : Bool :=
  match u with
  | .slice n => decide ((slice_ s n).st = .fenced)
  | .requester n => decide (n ∈ s.pke.fencedReq)
  | .digest n => (digUnit s n).fenced
  | .pipe n => (pipe s n).fenced
  | .ring p => decide ((pair s p).st = .fault)
  | .cell n => decide ((cell s n).st = .fenced)
  | .none_ => true

end Sys2Proof.Machine
end

