-- ==== Sys2Proof/Machine/TamperOps.lean ====
section
/-!
DEFINITION. The response sequencer (chapter 15): events, confirmation, response levels, the tamper log, the evidence
counter, and the fencing of tenants.
-/
namespace Sys2Proof.Machine

/-- A tamper source. -/
def source (s : State) (n : Nat) : Source := tget (fun _ => Source.reset) s.tmp.sources n

/-- Replace a tamper source; a change of a bit that TMP_SRC_FLAGS shows is noticed. -/
def setSource (n : Nat) (x : Source) (s : State) : State :=
  let y := source s n
  let t := { s with tmp := { s.tmp with sources := tset (fun _ => Source.reset) s.tmp.sources n x } }
  if x.stuck = y.stuck ∧ x.chatter = y.chatter ∧ x.active = y.active then t else noticed (at_ Obj.TMP_SRC_FLAGS n) t

/-- Fields of TMP_SRC_CFG (R528). -/
def cfgEn (v : Nat) : Bool := bit v 63
def cfgLevel (v : Nat) : Nat := bits v 58 56
def cfgN (v : Nat) : Nat := bits v 55 48
def cfgW (v : Nat) : Nat := bits v 47 32
def cfgFilter (v : Nat) : Nat := bits v 15 8

/-- The configuration of source `n`. -/
def srcCfg (s : State) (n : Nat) : Nat := objVal s (at_ Obj.TMP_SRC_CFG n)

/-- The tamper log after one more entry (R544): at most 256, the oldest overwritten. -/
def tamperLogged (l : List TamperRec) (r : TamperRec) : List TamperRec := if 256 ≤ l.length then l.drop 1 ++ [r] else l ++ [r]

/-- Write an entry of the tamper log (R544). -/
def logTamper (r : TamperRec) (s : State) : State :=
  let full := decide (256 ≤ s.tmp.log.length)
  let s1 := bump Obj.TMP_LOG_NEWEST { s with tmp := { s.tmp with log := tamperLogged s.tmp.log r } }
  if full then bump Obj.TMP_LOG_OVERWRITTEN s1 else s1

/-- A tamper log entry's 16 bytes (R544). -/
def tamperBytes (r : TamperRec) : Bytes :=
  leBytes 8 r.stamp ++ leBytes 1 r.source ++ leBytes 1 r.level ++ leBytes 1 r.applied ++ leBytes 1 r.flags ++ leBytes 4 r.value

/-- Burn `n` evidence bits, at most 256 in all (R542). -/
def burn (n : Nat) (s : State) : State :=
  noticed Obj.TMP_EVIDENCE { s with lc := { s.lc with otp := { s.lc.otp with evidence := min 256 (s.lc.otp.evidence + n) } } }

/-- Drive ALARM_N (R558). -/
def alarmPin (low : Bool) (s : State) : State := emit (.alarmPin low) s

/-- Overwrite and free the pages of every job that waits for its scrub at once: operand memory scrubbed (R535).  DESIGN CHOICE: which
instances give the first pass of this scrub is not stated, and no instance's count of calls moves. -/
def scrubAll (s : State) : State :=
  let f := fun (_ : Nat) (e : Entry) => if e.phase = .scrubbing then { e with phase := .ended, pages := [], scrub := 0 } else e
  let g := fun (_ : Nat) (x : Slice) => if x.st = .scrub then { x.cleared with st := .idle, idleSince := s.now } else x
  { s with
    ring := { s.ring with entries := mmap f s.ring.entries },
    iso := { s.iso with mem := zeroRange s.iso.mem 0 0x800000, tags := mfilter (fun k _ => !(decide (k < 32768))) s.iso.tags },
    pke := { s.pke with slices := mmap g s.pke.slices, scrubQ := [] } }

/-- QUIESCE (R535): every admitted job ends FENCED, calls end FENCED with their cells re-initialised, exchanges are
abandoned, operand memory is scrubbed. -/
def quiesce (s : State) : State :=
  scrubAll (abandonAll (stopJobs (fun _ _ => true) .fenced (endCalls .fenced .reinit s)))

/-- The actions of a response level not yet taken when the level held is `from_` (R535, R540). -/
def levelActions (from_ level : Nat) (s : State) : State :=
  let s1 := if from_ < 3 ∧ 3 ≤ level then quiesce s else s
  let s2 := if from_ < 4 ∧ 4 ≤ level then bindOff s1 else s1
  if from_ < 5 ∧ 5 ≤ level then (if s.lc.st = .mission && !s.lc.debugOpen then archUnusable (eraseBbram s2) else eraseBbram s2)
  else s2

/-- Flag bits of a log entry (R544). -/
abbrev fAON : Nat := 1
abbrev fSTUCK : Nat := 2
abbrev fCHATTER : Nat := 4
abbrev fEVIDENCE : Nat := 8
abbrev fSUBSUMED : Nat := 16
abbrev fDEFERRED : Nat := 32

/-- Apply a confirmed alarm of source `n` at its LEVEL (R535, R537, R540, R542, R558), and write its log entry. -/
def applyAlarm (n level : Nat) (u : UnitRef) (value flags : Nat) (s : State) : State :=
  let held := heldLevel s
  let sub := decide (held ≠ 0 ∧ level ≤ held)
  let x := source s n
  let wants := decide (3 ≤ level) && burnsState s && !x.burnt
  let now_ := wants && s.pwr.supplies && decide (s.lc.otp.evidence < 256)
  let later := wants && !s.pwr.supplies
  let s1 := if now_ then burn 1 s else s
  let s2 := if later then { s1 with tmp := { s1.tmp with burnsPending := min 255 (s1.tmp.burnsPending + 1) } } else s1
  let s3 := if wants then setSource n { source s2 n with burnt := true } s2 else s2
  let s4 := if sub then s3 else
    match level with
    | 0 => s3
    | 1 => { s3 with tmp := { s3.tmp with holdUntil := some (s3.now + us 100) } }
    | 2 => if unitFenced s3 u then s3 else fenceUnit u cTAMPER .faultDetected s3
    | _ => noticed Obj.TMP_HELD (levelActions held level { s3 with tmp := { s3.tmp with held := level } })
  let pin := decide (objVal s4 Obj.TMP_ALARM_PIN_LEVEL ≤ level)
  let s5 := if pin && !sub then
      (if 3 ≤ level then alarmPin true s4
       else alarmPin true { s4 with tmp := { s4.tmp with pulseUntil := some (s4.now + ms 1) } })
    else s4
  let measured := decide (n ≤ 8 ∨ n = 14 ∨ n = 15)
  let shown := if measured || decide (level = 2) then value else 0
  let fl := flags + (if now_ then fEVIDENCE else 0) + (if sub then fSUBSUMED else 0)
  let applied := max (heldLevel s5) (if sub then held else level)
  logTamper { stamp := time64 s5, source := n, level := level, applied := applied, flags := fl, value := shown } s5

/-- Sources whose input a person or an enclosure drives and whose activity the filter measures in time (R527, R532). -/
def timedInput (n : Nat) : Bool := decide ((10 ≤ n ∧ n ≤ 13) ∨ n = 16 ∨ n = 22)

/-- On the backup cell alone, an alarm of level 1–5 is entered in the AON latch and raises the pending level; level 5
erases BBRAM (R546).  The stamp of an input's alarm is the time at which its activity began (the example after R558). -/
def latchAlarm (n level flags : Nat) (s : State) : State :=
  let at_ := if timedInput n then (source s n).activeAt else s.now
  let r : LatchRec := { stamp := time64At s at_, source := n, level := level, flags := flags, seq := s.tmp.latchSeq }
  let full := decide (16 ≤ s.tmp.latch.length)
  let s1 := { s with tmp := { s.tmp with
    latch := if full then s.tmp.latch.drop 1 ++ [r] else s.tmp.latch ++ [r],
    latchSeq := (s.tmp.latchSeq + 1) % 256,
    aonPending := max s.tmp.aonPending level,
    burnsPending := if 3 ≤ level then min 255 (s.tmp.burnsPending + 1) else s.tmp.burnsPending } }
  let s2 := if full then bump Obj.TMP_AON_LOST s1 else s1
  if level = 5 then eraseBbram s2 else s2

/-- Source `n` confirms an alarm: counters, then the response of its level (R531). -/
def confirm (n : Nat) (u : UnitRef) (value flags : Nat) (s : State) : State :=
  let level := cfgLevel (srcCfg s n)
  let s1 := setObj (at_ Obj.TMP_SRC_LAST n) (time64 s) (bump (at_ Obj.TMP_SRC_ALARMS n) s)
  if s.tmp.onCell then (if level = 0 then s1 else latchAlarm n level flags s1)
  else applyAlarm n level u value flags s1

/-- Source `n` gives one event, dated `t` (R531): counted in its window; the N-th within W confirms an alarm and the count
returns to 0.  A disabled source gives no events (R528). -/
def tamperEventAt (n : Nat) (u : UnitRef) (value : Nat) (t : Time) (s : State) : State :=
  let c := srcCfg s n
  if !(cfgEn c) then s
  else rouseCore (
    let x := source s n
    let times := (x.times.filter (fun a => decide (t ≤ a + ms (cfgW c)))) ++ [t]
    let s1 := bump (at_ Obj.TMP_SRC_EVENTS n) s
    if cfgN c ≤ times.length then confirm n u value 0 (setSource n { x with times := [], eventAt := some t } s1)
    else setSource n { x with times := times, eventAt := some t } s1)

/-- Source `n` gives one event now. -/
def tamperEvent (n : Nat) (u : UnitRef) (value : Nat) (s : State) : State := tamperEventAt n u value s.now s

/-! ### Faults of a unit (R107, R192) -/

/-- A failed invariant of the job on slice `n` (R192): it ends FAULT_DETECTED with the residue of an aborted job, the
slice is re-initialised, PKE_FAULTS counts, S17 takes an event. -/
def invariantFailure (e : Nat) (s : State) : State :=
  match entry? s e with
  | none => s
  | some x =>
    match x.phase with
    | .running n =>
      let s1 := haltJob e .faultDetected 0 (reinitSlice n s)
      let s2 := { s1 with pke := { s1.pke with scrubQ := if (entry? s1 e).map (·.phase) = some .scrubbing ∧ e ∉ s1.pke.scrubQ
                                              then s1.pke.scrubQ ++ [e] else s1.pke.scrubQ } }
      tamperEvent 17 (.slice n) n (bump Obj.PKE_FAULTS s2)
    | _ => s

/-! ### Fencing a tenant (R112, R113, R132) -/

/-- A pair of a tenant that is fenced (R132): ACTIVE, IDLE and STALLED become FENCED; the others keep their state. -/
def fencePair (t : Nat) (s : State) : State :=
  let s1 := notStarving t (leaveStall t s)
  let p := pair s1 t
  if p.st = .active ∨ p.st = .idle ∨ p.st = .stalled then
    setPair t { p with st := .fenced, held := [], readNext := p.next, readLap := p.lap, headAt := none, pageWait := none } (endTurn t s1)
  else s1

/-- Fence a tenant (R113): state and cause, its pair, its jobs FENCED, its cells stopped, emptied and zeroed. -/
def fenceTenant (t cause : Nat) (s : State) : State :=
  let s1 := setObj (at_ Obj.TENANT_FENCE t) 1
    (setObj (at_ Obj.TENANT_FENCE_CAUSE t) cause (setObj (at_ Obj.TENANT_STATE t) 2 s))
  let s2 := fencePair t s1
  let s3 := dropCells t s2
  stopJobs (fun _ e => ofPair t e) .fenced s3

/-- What the supervisor firmware does after a refusal of colour 0x1000 + t (R112, R121): at the threshold the tenant is
fenced with cause ISOLATION and S21 takes an event, unless the tenant is ABSENT, DELETING or fenced already. -/
def refusalPolicy (colour : Nat) (s : State) : State :=
  if 0x1000 ≤ colour ∧ colour < 0x2000 then
    let t := colour - 0x1000
    let st := objVal s (at_ Obj.TENANT_STATE t)
    if overThreshold s t && decide (st = 1 ∨ st = 3) then tamperEvent 21 .none_ t (fenceTenant t 2 s) else s
  else s

/-- The isolation supervisor refuses an access: log, counters, policy (R104–R112). -/
def refuse (a : FabAcc) (reason bad : Nat) (s : State) : State := refusalPolicy a.colour (logRefusal a reason bad s)

/-- A refusal of a device master (R107): the job it served ends FAULT_DETECTED, before the refusal's policy can end it otherwise (R168);
S17 takes an event, the unit is fenced. -/
def deviceRefusal (a : FabAcc) (u : UnitRef) (reason bad : Nat) (s : State) : State :=
  let s1 := refuse a reason bad (stopJob a.entry .faultDetected 0 s)
  fenceUnit u cREFUSAL .faultDetected (tamperEvent 17 u (unitNumber u) s1)

/-- A device master's access to a record of the context store: what follows where it passes; a refusal where it does not (R107). -/
def recGuard (r : CtxRec) (a : FabAcc) (u : UnitRef) (k : State → State) (s : State) : State :=
  match checkRec s r a with
  | none => k s
  | some (reason, bad) => deviceRefusal a u reason bad s

end Sys2Proof.Machine
end

