-- ==== Sys2Proof/Machine/Operands.lean ====
section
/-!
DEFINITION. Descriptors: both formats, the fields of CTRL, the checks that the descriptor alone decides, and what a
command's own rules add to them.
-/
namespace Sys2Proof.Machine

/-! ### CTRL (R133) -/

/-- CTRL.SEG: 0 SINGLE, 1 FIRST, 2 MIDDLE, 3 LAST. -/
def ctrlSeg (c : Nat) : Nat := c % 4

/-- CTRL.PRIO. -/
def ctrlPrio (c : Nat) : Nat := bits c 3 2

/-- CTRL.IRQ. -/
def ctrlIrq (c : Nat) : Bool := bit c 4

/-! ### Entries as read -/

/-- The bytes of one submission entry (R124). -/
def entrySize (legacy : Bool) : Nat := if legacy then 32 else 64

/-- The lap mark of an entry (R126): bit 0 of its last byte. -/
def entryMark (legacy : Bool) (b : Bytes) : Bool := decide (byteAt b (entrySize legacy - 1) % 2 = 1)

/-- An entry's SEG field. -/
def entrySeg (b : Bytes) : Nat := ctrlSeg (byteAt b 3)

/-- A native SINGLE or FIRST entry's descriptor (R133). -/
def nativeDesc (b : Bytes) (index : Nat) : Desc :=
  { opcode := field b 0 2, pset := byteAt b 2, ctrl := byteAt b 3, key := field b 4 2, key2 := field b 6 2,
    userTag := field b 8 8, segs := [(field b 16 8, field b 24 4)], outLen := field b 28 4, outAddr := field b 32 8,
    aux := field b 40 8, aux2 := field b 48 4, totalLen := field b 52 4, subIndex := index, entries := 1 }

/-- A legacy entry as a native SINGLE descriptor (R135). -/
def legacyDesc (b : Bytes) (index : Nat) : Desc :=
  { opcode := field b 0 2, pset := byteAt b 2, ctrl := byteAt b 3, key := field b 4 2, key2 := field b 6 2,
    userTag := byteAt b 30, segs := [(field b 8 8, field b 24 3)], outLen := field b 27 3, outAddr := field b 16 8,
    aux := 0, aux2 := 0, totalLen := 0, subIndex := index, entries := 1 }

/-- The job that a run of entries makes: the first entry's fields with every entry's input segment (R134, R147). -/
def jobDesc (legacy : Bool) (hs : List Held) : Desc :=
  match hs with
  | [] => nativeDesc [] 0
  | h :: r =>
    let d := if legacy then legacyDesc h.body h.index else nativeDesc h.body h.index
    { d with segs := d.segs ++ r.map (fun x => (field x.body 16 8, field x.body 24 4)), entries := r.length + 1 }

/-- Input length: TOTAL_LEN for a skein, IN_LEN otherwise (R154, R241). -/
def inputLen (d : Desc) : Nat := if d.entries = 1 then inLen d else d.totalLen

/-! ### Check 1: reserved bytes (R13, R134) -/

/-- The offset of the first of several fields, by offset and length, that holds a byte that is not zero (R139). -/
def firstNonzero (b : Bytes) : List (Nat × Nat) → Option Nat
  | [] => none
  | (off, n) :: r => if (slice b off n).all (fun x => x == 0) then firstNonzero b r else some off

/-- The first of several answers. -/
def firstSome : List (Option Nat) → Option Nat
  | [] => none
  | some x :: _ => some x
  | none :: r => firstSome r

/-- The first reserved field of a SINGLE or FIRST entry that is not zero: CTRL bits 7:5, TOTAL_LEN outside FIRST, bytes
56–62, MARK bits 7:1 (R133). -/
def reservedHead (legacy : Bool) (b : Bytes) : Option Nat :=
  let m := entrySize legacy - 1
  firstSome [if 32 ≤ byteAt b 3 then some 3 else none,
    if !legacy && decide (entrySeg b = 0) then firstNonzero b [(52, 4)] else none,
    if legacy then none else firstNonzero b [(56, 7)],
    if 2 ≤ byteAt b m then some m else none]

/-- The first reserved field of a MIDDLE or LAST entry that is not zero: all but SEG, IN_ADDR, IN_LEN and LAP (R134). -/
def reservedTail (b : Bytes) : Option Nat :=
  firstSome [firstNonzero b [(0, 2), (2, 1)], if 4 ≤ byteAt b 3 then some 3 else none,
    firstNonzero b [(4, 2), (6, 2), (8, 8), (28, 4), (32, 8), (40, 8), (48, 4), (52, 4), (56, 7)],
    if 2 ≤ byteAt b 63 then some 63 else none]

/-! ### What a command's own rules say of its descriptor -/

/-- A command's rules applied to one descriptor (R138, R154): the offset of its first reserved field that is not zero
(reason 0x01), the field that names an undefined set (0x03), the offset of a length outside its limits (0x05), the output length it
needs (0x06) and whether OUT_LEN must be 0 or exactly that (R387), whether it cannot run on a legacy ring (R136), whether its unit is unavailable, its page need as input,
output and resume pages, the cycles its slice watchdog allows, with those for each iteration begun (R224), and its own cycle
count. -/
structure CmdSpec where
  reserved : Option Nat
  psetBad : Option Nat
  lenBad : Option Nat
  outLen : Nat
  exact : Bool
  noLegacy : Bool
  unavailable : Bool
  inPages : Nat
  outPages : Nat
  resume : Nat
  wdog : Nat
  wdogIter : Nat
  cycles : Nat
deriving DecidableEq, Repr

/-- Pages of a staged operand and its output (R154). -/
def stagedPages (n : Nat) : Nat := ceilDiv n 1024

/-- Field offsets of a descriptor (R133), for DETAIL of R139. -/
abbrev offPSET : Nat := 2
abbrev offKEY : Nat := 4
abbrev offKEY2 : Nat := 6
abbrev offINLEN : Nat := 24
abbrev offOUTLEN : Nat := 28
abbrev offTOTAL : Nat := 52
abbrev offAUX : Nat := 40
abbrev offAUX2 : Nat := 48

/-- DETAIL of BAD_DESCRIPTOR (R139): reason, field offset, entry position. -/
def badDetail (reason off pos : Nat) : Nat := reason + off * 256 + pos * 65536

/-- The first entry and field of a run that fails check 1. -/
def reservedOf (legacy : Bool) (hs : List Held) (pos : Nat) : Option (Nat × Nat) :=
  match hs with
  | [] => none
  | h :: r =>
    match (if pos = 0 then reservedHead legacy h.body else reservedTail h.body) with
    | some off => some (off, pos)
    | none => reservedOf legacy r (pos + 1)

/-- The first failing field of check 1: of the entries' own reserved fields and of the command's in the first entry. -/
def firstReserved (a : Option (Nat × Nat)) (b : Option Nat) : Option (Nat × Nat) :=
  match a, b with
  | some (off, pos), some o => if pos = 0 ∧ off ≤ o then some (off, pos) else some (o, 0)
  | some x, none => some x
  | none, some o => some (o, 0)
  | none, none => none

/-- The first entry of a run whose IN_LEN is above 2,097,152 (R133). -/
def longSeg (segs : List (Nat × Nat)) (pos : Nat) : Option Nat :=
  match segs with
  | [] => none
  | x :: r => if 2097152 < x.2 then some pos else longSeg r (pos + 1)

/-- The offset of OUT_LEN in an entry of each format (R133, R135). -/
def outLenOff (legacy : Bool) : Nat := if legacy then 27 else offOUTLEN

/-- Check 5 of R138: the first field, as (offset, entry), that holds a length outside its limits; `own` is the field of the
first entry that the command's own rules refuse. -/
def badLength (legacy : Bool) (d : Desc) (own : Option Nat) : Option (Nat × Nat) :=
  if longSeg d.segs 0 = some 0 ∨ own = some offINLEN then some (offINLEN, 0)
  else if 2097152 < d.outLen ∨ own = some offOUTLEN then some (outLenOff legacy, 0)
  else match own with
    | some off => some (off, 0)
    | none => (longSeg d.segs 0).map (fun pos => (offINLEN, pos))

/-- Check 6 of R138 fails: OUT_LEN is not what the command needs. -/
def outShort (d : Desc) (c : CmdSpec) : Bool :=
  decide (d.outLen < c.outLen ∧ ¬(c.exact = true ∧ d.outLen = 0)) || (c.exact && decide (c.outLen < d.outLen))

/-- The checks of R138 on a complete run of entries, in order; `spec` is what the command's own rules say, none where
OPCODE names no command.  Check 9 is made with the page quota `quota` (none: the pair has none). -/
def preChecks (legacy : Bool) (hs : List Held) (d : Desc) (spec : Option CmdSpec) (quota : Option Nat) :
    Option (Status × Nat) :=
  match firstReserved (reservedOf legacy hs 0) (spec.bind (·.reserved)) with
  | some (off, pos) => some (.badDescriptor, badDetail 1 off pos)
  | none =>
  match spec with
  | none => some (.badDescriptor, badDetail 2 0 0)
  | some c =>
    match c.psetBad with
    | some off => some (.badDescriptor, badDetail 3 off 0)
    | none =>
    if legacy && decide (ctrlSeg d.ctrl ≠ 0) then some (.badDescriptor, badDetail 4 3 0)
    else match badLength legacy d c.lenBad with
    | some (off, pos) => some (.badDescriptor, badDetail 5 off pos)
    | none =>
    if outShort d c then some (.badDescriptor, 6 + c.outLen * 256)
    else if decide (d.entries ≠ 1) && decide (d.totalLen ≠ inLen d) then some (.lengthMismatch, inLen d)
    else if c.unavailable || (legacy && c.noLegacy) then some (.unsupported, 0)
    else
      let p := c.inPages + c.outPages + c.resume
      if 2048 < p then some (.quota, 0)
      else match quota with
        | some q => if q < p then some (.quota, 0) else none
        | none => none

end Sys2Proof.Machine
end

