-- ==== Sys2Proof/Machine/Keys.lean ====
section
/-!
DEFINITION. Shared operations over the key register and the large-key store (chapter 09), and the course of a command on a
slice: key check, result, invariant, RELEASE.
-/
namespace Sys2Proof.Machine

/-! ### The mask expander (R513) -/

/-- A slice's mask expander is reseeded during a key check once it has given more than 2^16 blocks; the blocks that a job
takes are not listed by the spec: a free value (R513). -/
def refreshExpander (n : Nat) (s : State) : State :=
  let v := slice_ s n
  let due := decide (2 ^ 16 < v.blocks) && rngReady s
  let s1 := if due then (draw n 64 s).2 else s
  setSlice n { v with blocks := (if due then 0 else v.blocks) + Config.freeNat s1.free,
                      seeded := v.seeded || due } { s1 with free := s1.free + 1 }

/-! ### The directory (R329–R336) -/

/-- Usage bits (R332). -/
abbrev uSIGN : Nat := 1
abbrev uVERIFY : Nat := 2
abbrev uKEM : Nat := 4
abbrev uAGREE : Nat := 8
abbrev uDERIVE : Nat := 16
abbrev uWRAP : Nat := 32
abbrev uLINK_TX : Nat := 64
abbrev uLINK_RX : Nat := 128
abbrev uEXPORT : Nat := 256

/-- The slot a handle names; handle 0x0000 names none (R329). -/
def slot? (s : State) (h : Nat) : Option Slot := if h = 0 then none else mget? s.kreg.slots h

/-- Bits 55:8 of the TIME64 now, as EXPIRY counts (R332). -/
def expiryNow (s : State) : Nat := bits (time64 s) 55 8

/-- The EXPIRY of a lifetime of `l` seconds from now; 0 seconds means none (R235). -/
def expiryIn (s : State) (l : Nat) : Nat := if l = 0 then 0 else bits (time64 s + l * 65536) 55 8

/-- The slot's lifetime has ended (R336). -/
def expired (s : State) (x : Slot) : Bool := decide (x.expiry ≠ 0 ∧ x.expiry ≤ expiryNow s)

/-- A slot with LINK_TX or LINK_RX: the link cipher's alone, which no command accepts (R333). -/
def linkOnly (x : Slot) : Bool := decide (x.usage &&& (uLINK_TX + uLINK_RX) ≠ 0)

/-- Why a handle whose data a command uses fails its key check (R89, R189, R335, R336, R340): empty, of another colour or
LOADING ends KEY_EMPTY; RETIRED, expired, the link cipher's or not what the command needs ends KEY_POLICY. -/
def slotFails (s : State) (colour h : Nat) (ok : Slot → Bool) : Option Status :=
  if s.kreg.erasing.isSome then some .keyEmpty
  else match slot? s h with
  | none => some .keyEmpty
  | some x =>
    if x.owner ≠ colour then some .keyEmpty
    else match x.st with
    | .empty => some .keyEmpty
    | .loading => some .keyEmpty
    | .retired => some .keyPolicy
    | .active => if expired s x || linkOnly x || !(ok x) then some .keyPolicy else none

/-- The slot holds a key of this algorithm and set, public or private, with this usage (R237, R265, R311). -/
def keyIs (alg pset usage : Nat) (pub : Bool) (x : Slot) : Bool :=
  decide (x.alg = alg ∧ x.pset = pset ∧ x.isPublic = pub ∧ x.usage &&& usage = usage)

/-- Units in use, of all slots and of those charged to a colour (R118, R443). -/
def unitsUsed (s : State) : Nat := (s.kreg.slots.map (fun p => p.2.units)).sum
def unitsCharged (s : State) (colour : Nat) : Nat :=
  ((s.kreg.slots.filter (fun p => decide (p.2.owner = colour ∧ p.2.origin ≠ 6))).map (fun p => p.2.units)).sum

/-- A quota that does not cover what would be held: 0 means no limit (R118). -/
def overQuota (q held : Nat) : Bool := decide (q ≠ 0 ∧ q < held)

/-- A tenant's quota object; colours other than a tenant's have none. -/
def quotaOf (s : State) (base : ObjId) (colour : Nat) : Nat :=
  if 0x1000 ≤ colour ∧ colour < 0x2000 then objVal s (at_ base (colour - 0x1000)) else 0

/-- No slot of `units` units can be made for the colour (R233, R330). -/
def slotQuota (s : State) (colour units : Nat) : Bool :=
  decide (65535 ≤ s.kreg.slots.length) || decide (40960 < unitsUsed s + units) ||
    overQuota (quotaOf s Obj.TENANT_QUOTA_KREG colour) (unitsCharged s colour + units)

/-- A handle's place in the order fixed at cast-on (R331). -/
def handleRank (s : State) (h : Nat) : Nat := Config.rank s.kreg.orderKey 0 h * 65536 + h

/-- The handle the next allocation takes: the next free one in that order, after the last allocated (R331). -/
def nextHandle (s : State) : Nat :=
  (nextBy (handleRank s) (if s.kreg.lastHandle = 0 then none else some s.kreg.lastHandle)
    ((List.range' 1 65535).filter (fun h => (mget? s.kreg.slots h).isNone))).getD 0

/-! ### Cells and masks (R337, R338) -/

/-- A slot's mask from byte `off` on (R337).  DESIGN CHOICE: the mask's word is 8 bytes. -/
def maskBytes (k : Bytes) (h seed off n : Nat) : Bytes := tabulate n (fun i => Config.maskByte k h seed ((off + i) / 8) ((off + i) % 8))

/-- A slot's bytes XORed with its mask: its cells from its bytes, and its bytes from its cells (R337). -/
def masked (s : State) (h : Nat) (x : Slot) : Slot :=
  { x with data := xorBytes x.data (maskBytes s.kreg.kMask h x.seed 0 x.data.length),
           pub := xorBytes x.pub (maskBytes s.kreg.kMask h x.seed x.data.length x.pub.length) }

/-- A mask seed of 28 bits: from the key register's DRBG (R22, R338); while the source gives none, from its mask expander as last seeded. -/
def maskSeed (s : State) : Nat × State :=
  if rngReady s then let d := draw 43 4 s; (leNat d.1 % 2 ^ 28, d.2)
  else (leNat (tabulate 4 (Config.keyExpander s.kreg.expander s.kreg.expBlocks)) % 2 ^ 28,
        { s with kreg := { s.kreg with expBlocks := s.kreg.expBlocks + 1 } })

/-- The runs of units in use, as first unit and length. -/
def unitRuns (s : State) : List (Nat × Nat) := s.kreg.slots.map (fun p => (p.2.base, p.2.units))

/-- A run of `n` units from `b` is free. -/
def runFree (runs : List (Nat × Nat)) (b n : Nat) : Bool := runs.all (fun r => decide (b + n ≤ r.1 ∨ r.1 + r.2 ≤ b))

/-- The lowest free run of `n` units: it begins at 0 or where a run in use ends. -/
def freeRun (runs : List (Nat × Nat)) (n : Nat) : Option Nat :=
  leastBy id ((0 :: runs.map (fun r => r.1 + r.2)).filter (fun b => decide (b + n ≤ 40960) && runFree runs b n))

/-- Relocate every slot to the front, in handle order. -/
def compactUnits (b : Nat) : Tab Slot → Tab Slot
  | [] => []
  | (h, x) :: r => (h, { x with base := b }) :: compactUnits (b + x.units) r

/-- Put a slot at a handle, its bytes under its mask: where it stands already, under the seed it has; else in a run of units, relocating slots
where no run is free, which takes up to 200 µs (R330, R337).  How long within that is a free value. -/
def putSlot (h : Nat) (x : Slot) (s : State) : State :=
  match mget? s.kreg.slots h with
  | some v => { s with kreg := { s.kreg with slots := mset s.kreg.slots h (masked s h { x with base := v.base, seed := v.seed }) } }
  | none =>
  match freeRun (unitRuns s) x.units with
  | some b => { s with kreg := { s.kreg with slots := mset s.kreg.slots h (masked s h { x with base := b }) } }
  | none =>
    let s1 := bump Obj.KREG_RELOCATIONS (usedFree { s with now := s.now + Config.freeNat s.free % 200001 })
    { s1 with kreg := { s1.kreg with slots := mset (compactUnits 0 s1.kreg.slots) h (masked s h { x with base := unitsUsed s1 }) } }

/-- A new handle has been taken, and a mask seed drawn for it (R22, R331). -/
def tookHandle (h : Nat) (s : State) : State :=
  let d := (maskSeed s).2
  { d with kreg := { d.kreg with lastHandle := h } }

/-- The handle of a job's new slot: the LOADING one that a segmented command holds, else the next (R233, R331). -/
def targetHandle (x : Entry) (s : State) : Nat := x.target.getD (nextHandle s)

/-- The handle is taken, where it has not been already. -/
def tookTarget (x : Entry) (s : State) : State := if x.target.isSome then s else tookHandle (nextHandle s) s

/-- A fresh slot of a key, its bytes in clear: `putSlot` masks them. -/
def newSlot (s : State) (owner alg pset usage origin units life : Nat) (data : Bytes) : Slot :=
  { owner := owner, alg := alg, pset := pset, usage := usage, st := .active, persist := false, isPublic := false,
    stateful := false, origin := origin, base := 0, units := units, expiry := expiryIn s life, seed := (maskSeed s).1,
    accesses := 0, refreshedAt := s.now, retiredAt := none, data := data, pub := [] }

/-- RELEASE puts a new slot in place: its lifetime of `life` seconds counts from here (R235). -/
def fillSlot (h life : Nat) (x : Slot) (s : State) : State := putSlot h { x with expiry := expiryIn s life, refreshedAt := s.now } s

/-- Erase slots and free their handles and units (R341). -/
def freeSlot (h : Nat) (s : State) : State := freeSlots [h] s

/-! ### The large-key store (R354) -/

/-- The LKS entry a handle names. -/
def lks? (s : State) (h : Nat) : Option LksEntry := mget? s.kreg.lks h

/-- Extents in use, in all and charged to a colour. -/
def extentsUsed (s : State) : List Nat := s.kreg.lks.flatMap (fun p => p.2.extents)
def extentsCharged (s : State) (colour : Nat) : Nat :=
  ((s.kreg.lks.filter (fun p => decide (p.2.owner = colour))).map (fun p => p.2.extents.length)).sum

/-- `n` free extents, lowest first. -/
def pickExtents (s : State) (n : Nat) : List Nat :=
  ((List.range 4096).filter (fun i => !(decide (i ∈ extentsUsed s)))).take n

/-- No LKS entry of `n` extents can be made for the colour (R295). -/
def lksQuota (s : State) (colour n : Nat) : Bool :=
  decide (4096 ≤ s.kreg.lks.length) || decide (4096 < (extentsUsed s).length + n) ||
    overQuota (quotaOf s Obj.TENANT_QUOTA_LKS colour) (extentsCharged s colour + n)

/-- The lowest free LKS handle. -/
def nextLks (s : State) : Nat := (mfree? s.kreg.lks 0 4096).getD 0

/-- Put an LKS entry at a handle: in the extents it holds already, else in freshly taken ones, which are zero until it is written
(R94). -/
def putLks (h : Nat) (x : LksEntry) (s : State) : State :=
  let ext := match mget? s.kreg.lks h with
    | some v => v.extents
    | none => pickExtents s (ceilDiv x.length 4096)
  { wipeFreeLks s with kreg := { s.kreg with lks := mset s.kreg.lks h { x with extents := ext } } }

/-- The LKS handle of a job's new entry: the LOADING one that a segmented command holds, else the lowest free. -/
def targetLks (x : Entry) (s : State) : Nat := x.lksTarget.getD (nextLks s)

/-- Why an LKS handle fails its key check (R189). -/
def lksFails (s : State) (colour h : Nat) (ok : LksEntry → Bool) : Option Status :=
  match lks? s h with
  | none => some .keyEmpty
  | some x => if x.owner ≠ colour ∨ x.state ≠ 2 then some .keyEmpty else if ok x then none else some .keyPolicy

/-- A Classic McEliece set and its "f" partner (R291). -/
def samePair (a b : Nat) : Bool := decide ((a - 1) / 2 = (b - 1) / 2 ∧ 1 ≤ a ∧ 1 ≤ b)

/-! ### Mask refresh (R338) -/

/-- Refresh a slot's mask: each cell is XORed with the old mask XOR the new one, formed first. -/
def refreshSlot (h : Nat) (s : State) : State :=
  match mget? s.kreg.slots h with
  | none => s
  | some x =>
    let d := maskSeed s
    let change := fun (off : Nat) (b : Bytes) =>
      xorBytes b (xorBytes (maskBytes s.kreg.kMask h x.seed off b.length) (maskBytes s.kreg.kMask h d.1 off b.length))
    bump Obj.KREG_REFRESHES
      { d.2 with kreg := { d.2.kreg with
          slots := mset d.2.kreg.slots h { x with seed := d.1, accesses := 0, refreshedAt := s.now, data := change 0 x.data,
                                                  pub := change x.data.length x.pub } } }

/-- One access to a slot's data: the 2^20-th since the last refresh is followed by a refresh (R338). -/
def touchSlot (s : State) (h : Nat) : State :=
  match mget? s.kreg.slots h with
  | none => s
  | some x =>
    if 2 ^ 20 - 1 ≤ x.accesses then refreshSlot h s
    else { s with kreg := { s.kreg with slots := mset s.kreg.slots h { x with accesses := x.accesses + 1 } } }

/-! ### The key check (R189, R231) -/

/-- What a command's key check needs: its handles' own results, whether a policy of the command refuses, the units of a new
slot, the extents of a new LKS entry, any other bound it needs, the DRBG bytes it draws, whether it needs a seeded mask
expander, and the slots whose data it reads. -/
structure Need where
  keys : List (Option Status)
  policy : Bool
  units : Option Nat
  lks : Option Nat
  other : Bool
  bytes : Nat
  mask : Bool
  uses : List Nat
deriving DecidableEq, Repr

/-- A command that needs nothing. -/
def Need.none_ : Need :=
  { keys := [], policy := false, units := none, lks := none, other := false, bytes := 0, mask := false, uses := [] }

/-- The first status that applies, in the order KEY_EMPTY, KEY_POLICY, QUOTA, ENTROPY_FAIL (R231): while an erasure's overwrite runs every key
check ends KEY_EMPTY (R340); a draw needs the source READY, masks
a `seeded` expander (R201, R263, R309). -/
def keyCheck (s : State) (colour : Nat) (seeded : Bool) (q : Need) : Option Status :=
  if decide (some Status.keyEmpty ∈ q.keys) || s.kreg.erasing.isSome then some .keyEmpty
  else if decide (some Status.keyPolicy ∈ q.keys) || decide (some Status.stateExhausted ∈ q.keys) || q.policy then
    some (if decide (some Status.keyPolicy ∈ q.keys) || q.policy then .keyPolicy else .stateExhausted)
  else if (match q.units with | some u => slotQuota s colour u | none => false) ||
      (match q.lks with | some n => lksQuota s colour n | none => false) || q.other then some .quota
  else if (decide (q.bytes ≠ 0) && !(rngReady s)) || (q.mask && !seeded) then some .entropyFail
  else none

/-- PKE_SIGN_ITER_MAX is the most iterations of an ML-DSA signature released (R261). -/
def signIterMax (n : Nat) (s : State) : State := setObj Obj.PKE_SIGN_ITER_MAX (max n (objVal s Obj.PKE_SIGN_ITER_MAX)) s

/-! ### The course of a command -/

/-- What a command's run comes to: status, DETAIL, output, cycles, the counters that count it after its record, what
RELEASE does, and the slot whose archive record must be committed before the job completes (R358). -/
structure Res where
  st : Status
  detail : Nat
  out : Bytes
  cycles : Nat
  late : List ObjId
  release : State → State
  commit : Option (ArchRec × ArchEffect)

/-- A run that ends with a status alone. -/
def Res.stop (st : Status) (cycles : Nat) : Res :=
  { st := st, detail := 0, out := [], cycles := cycles, late := [], release := id, commit := none }

/-- A run that ends OK with an output. -/
def Res.ok (out : Bytes) (cycles : Nat) : Res :=
  { st := .ok, detail := 0, out := out, cycles := cycles, late := [], release := id, commit := none }

/-- Append a record to the archive journal; its effect waits until it is written and read back (R358). -/
def appendArch (r : ArchRec) (f : ArchEffect) (entry : Option Nat) (s : State) : State :=
  { s with kreg := { s.kreg with
      archSerial := s.kreg.archSerial + 1,
      commits := s.kreg.commits ++ [{ record := r, effect := f, entry := entry, at_ := s.now }] } }

/-- A slot's record holds the lifetime that its RELEASE gave it (R235). -/
def asReleased (s : State) : ArchRec → ArchRec
  | .addSlot n h v => .addSlot n h { v with expiry := match mget? s.kreg.slots h with | some w => w.expiry | none => v.expiry }
  | r => r

/-- A job that waits for its archive commit (R348, R358): not ended yet, its new slot its target. -/
def awaitCommit (e : Nat) (r : ArchRec) (f : ArchEffect) (s : State) : State :=
  match entry? s e with
  | none => s
  | some x =>
    let t := match f with
      | .activate h => some h
      | _ => none
    appendArch r f (some e) (setEntry e { x with phase := .committing, target := t } s)

/-- The cycles that a wait for a reseed or a relocation adds (R222, R257, R330). -/
def waitCycles (s t : State) : Nat := (t.now - s.now) * t.pwr.mhz / 1000

/-- What a job's RELEASE waits counts in its CYCLES (R222, R330). -/
def addWait (e : Nat) (s t : State) : State :=
  match entry? t e with
  | none => t
  | some x => setEntry e { x with cycles := x.cycles + waitCycles s t } t

/-- The job ends with its run's result: ENTROPY_FAIL and FAULT_DETECTED leave the residue of an aborted job (R219, R256). -/
def finish (e : Nat) (r : Res) (s : State) : State :=
  let s1 := spend e r.cycles s
  match r.st with
  | .entropyFail => haltJob e .entropyFail 0 s1
  | .faultDetected => haltJob e .faultDetected 0 s1
  | .ok =>
    let s2 := endJob e .ok r.detail r.out r.late (addWait e s1 (r.release s1))
    match r.commit with
    | some c => awaitCommit e (asReleased s2 c.1) c.2 s2
    | none => s2
  | st => endJob e st r.detail r.out r.late s1

/-- The invariant is reached: the key check and validation have passed. -/
def reachesInvariant (st : Status) : Bool := decide (st = .ok ∨ st = .verifyFail ∨ st = .resultRejected)

/-- The key check's own wait and its draws on slice `n`: the DRBG bytes, and the expander's reseed where due (R231, R257). -/
def checkDraws (n : Nat) (q : Need) (s : State) : Bytes × State :=
  let s1 := if q.mask then refreshExpander n s else s
  draw n q.bytes (q.uses.foldl touchSlot s1)

/-- The colour whose quotas a job's new slots count against: none for the exchanges of graft (R443). -/
def quotaColour (x : Entry) : Nat := if isGraft x then 0x0002 else x.colour

/-- The ORIGIN of a job's new slot (R332): graft's own for an exchange. -/
def originOf (x : Entry) (own : Nat) : Nat := if isGraft x then 6 else own

/-- A command on slice `n`: its key check at cycle 120, then `run` with the DRBG bytes it drew; a segmented command past its first
segment has made the check, and holds the bytes in the slice's scratch. -/
def checked (x : Entry) (n : Nat) (q : Need) (run : Bytes → State → Res × State) (s : State) : Res × State :=
  if x.keyChecked then run (slice_ s n).scratch s
  else match keyCheck s (quotaColour x) (slice_ s n).seeded q with
  | some st => (Res.stop st 120, s)
  | none =>
    let d := checkDraws n q s
    let r := run d.1 d.2
    ({ r.1 with cycles := r.1.cycles + waitCycles s d.2 }, r.2)

/-- Segments of a command of `cycles` cycles (R194): each but the last takes 60,000.  DEDUCED: the counts of the command chapters are
ceil(cycles / 60,000). -/
def segments (cycles : Nat) : Nat := ceilDiv cycles 60000

/-- Resume pages of a job (R195). -/
def resumePages (x : Entry) : List Nat := x.pages.drop (x.inPages + x.outPages)

/-- The run is its last segment's: every job that is not segmented has one (R194); a key check that fails comes in the first. -/
def lastSegment (x : Entry) (r : Res) : Bool :=
  (resumePages x).isEmpty || decide (x.progress + 1 = segments r.cycles) || (!x.keyChecked && decide (r.cycles ≤ 120))

/-- A McEliece set; an HQC set. -/
def isMce (p : Nat) : Bool := decide (1 ≤ p ∧ p ≤ 10)

/-- The LKS entries whose bytes a command's run reads (1) or writes (2) on its slice (R285, R294, R295): a Classic McEliece public key, a
node cache. -/
def lksUses (x : Entry) (s : State) : List (Nat × Nat) :=
  match x.desc.opcode with
  | 0x0501 => if isMce x.desc.pset then [(targetLks x s, 2)] else []
  | 0x0502 => if isMce x.desc.pset then [(x.desc.key, 1)] else []
  | 0x0401 => match x.origin with
    | .rebuild h => (htsKey? s h).toList.map (fun k => (k.cache, 2))
    | _ => [(targetLks x s, 2)]
  | 0x0404 => (htsKey? s x.desc.key).toList.flatMap (fun k => [(k.cache, 1), (k.cache, 2)])
  | _ => []

/-- The fabric addresses of an entry's bytes in pieces of at most 1,024 bytes, with their lengths: extent by extent (R354). -/
def lksPieces (v : LksEntry) : List (Nat × Nat) :=
  (List.range (ceilDiv v.length 1024)).map (fun i =>
    (0x1000000 + v.extents.getD (i / 4) 0 * 4096 + i % 4 * 1024, min 1024 (v.length - i * 1024)))

/-- The accesses of class SLICE that a command's run makes to the large-key store, in the colour of the slice's job (R86): to the entries
it names in `s`, as they stand in `t`. -/
def sliceAccesses (e n : Nat) (x : Entry) (s t : State) : List FabAcc :=
  (lksUses x s).flatMap (fun u => match lks? t u.1 with
    | none => []
    | some v => (lksPieces v).map (fun p =>
      { cls := 0, master := n, colour := (slice_ t n).colour, addr := p.1, len := p.2, kind := u.2, ring := originPair x.origin, entry := e }))

/-- The first of them that is refused. -/
def sliceRefused (e n : Nat) (x : Entry) (s t : State) : Option (FabAcc × Nat × Nat) :=
  (sliceAccesses e n x s t).findSome? (fun a => (checkAccess t a).map (fun r => (a, r.1, r.2)))

/-- A run on slice `n` has reached its end with a result: a refused access to the large-key store ends its job FAULT_DETECTED and fences
the slice (R107). -/
def finishOn (e n : Nat) (x : Entry) (r : Res) (s : State) : State :=
  match if r.st = .ok then sliceRefused e n x s (r.release s) else none with
  | some (a, reason, bad) => deviceRefusal a (.slice n) reason bad (spend e r.cycles s)
  | none => finish e r s

/-- A job running on a slice with this opcode reaches its end: by `f`, or by a failed invariant where the slice's hardware
fails and the run reaches its invariant (R191, R192); a segmented command ends in its last segment. -/
def sliceRow (opcode e : Nat) (fault : Bool) (f : Entry → Nat → State → Res × State) (s : State) : State :=
  match entry? s e with
  | none => s
  | some x =>
    match x.phase with
    | .running n =>
      if x.desc.opcode ≠ opcode then s
      else
        let p := f x n s
        if !(lastSegment x p.1) then s
        else if fault && reachesInvariant p.1.st then invariantFailure e (spend e p.1.cycles p.2) else finishOn e n x p.1 p.2
    | _ => s

/-! ### Fields of a command -/

/-- AUX fields. -/
def aux (x : Entry) (hi lo : Nat) : Nat := bits x.desc.aux hi lo

/-- The usage mask of a new slot: its default where USAGE is 0. -/
def usageOr (u dflt : Nat) : Nat := if u = 0 then dflt else u

/-- The mask has a bit outside those permitted. -/
def usageBad (u allowed : Nat) : Bool := decide (u &&& allowed ≠ u)

/-- A shared secret may not go to the host in clear (R236). -/
def clearRefused (s : State) (colour : Nat) : Bool :=
  decide (colour ≠ 0x0002) && decide (objVal s Obj.PKE_SS_CLEAR ≠ 1)

/-- The slot of a 32-byte or other secret that a command makes (R234): ALG 0x08, PSET its length, ORIGIN 1. -/
def secretSlot (s : State) (x : Entry) (usage : Nat) (k : Bytes) : Slot :=
  newSlot s x.colour 0x08 k.length usage (originOf x 1) (ceilDiv k.length 64) x.desc.aux2 k

/-- Deliver a secret: to the host, or to a new slot whose handle DETAIL reports (R233, R236). -/
def deliverSecret (x : Entry) (toHost : Bool) (usage : Nat) (c k : Bytes) (cycles : Nat) (late : List ObjId) (s : State) :
    Res × State :=
  if toHost then ({ Res.ok (c ++ k) cycles with late := late }, s)
  else
    let h := nextHandle s
    let v := secretSlot s x usage k
    ({ st := .ok, detail := h, out := c, cycles := cycles, late := late, release := fillSlot h x.desc.aux2 v, commit := none },
     tookHandle h s)

/-- What a private slot holds beside its private value: a curve's public key and fixed-base table (R302); the table is uninterpreted. -/
def slotPub (alg pset units priv : Nat) (pub : Bytes) : Bytes :=
  if alg = 6 then pub ++ primOut (.pubOf alg pset) [pub] (64 * units - priv - pub.length) else []

/-- Deliver a new key pair: the private key to a new slot, the public key to the host (R233). -/
def deliverKey (x : Entry) (alg usage units : Nat) (pub priv : Bytes) (cycles : Nat) (s : State) : Res × State :=
  let h := targetHandle x s
  let v := { newSlot s x.colour alg x.desc.pset usage (originOf x 0) units x.desc.aux2 priv with pub := slotPub alg x.desc.pset units priv.length pub }
  ({ st := .ok, detail := h, out := pub, cycles := cycles, late := [], release := fillSlot h x.desc.aux2 v, commit := none }, tookTarget x s)

/-- The data of a slot a command uses. -/
def slotData (s : State) (h : Nat) : Bytes :=
  match slot? s h with
  | some x => (masked s h x).data
  | none => []

/-! ### What a command's rules say of its descriptor -/

/-- The first of several fields, by offset, that is reserved here and not zero: (offset, value, reserved). -/
def firstField : List (Nat × Nat × Bool) → Option Nat
  | [] => none
  | (off, v, r) :: l => if r && decide (v ≠ 0) then some off else firstField l

/-- The field that gives a job's input length: TOTAL_LEN of a skein, IN_LEN otherwise (R241). -/
def inputOff (d : Desc) : Nat := if d.entries = 1 then offINLEN else offTOTAL

/-- A command's specification from its parts, staging its whole input and output (R154). -/
def mkSpec (d : Desc) (reserved : Option Nat) (psetOk lenOk : Bool) (outLen cycles : Nat) : CmdSpec :=
  { reserved := reserved, psetBad := if psetOk then none else some offPSET, lenBad := if lenOk then none else some (inputOff d), outLen := outLen, exact := false,
    noLegacy := false, unavailable := false, inPages := stagedPages (inputLen d), outPages := stagedPages outLen,
    resume := 0, wdog := 4 * cycles, wdogIter := 0, cycles := cycles }

/-- Pre-hash functions (R249): digest length. -/
def phLen (ph : Nat) : Nat :=
  match ph with
  | 1 => 32 | 2 => 48 | 3 => 64 | 4 => 32 | 5 => 48 | 6 => 64 | 7 => 32 | 8 => 64
  | _ => 0

/-- The OID of a pre-hash function: its 11-byte DER encoding (R249). -/
def phOid (ph : Nat) : Bytes :=
  [0x06, 0x09, 0x60, 0x86, 0x48, 0x01, 0x65, 0x03, 0x04, 0x02,
   match ph with
   | 1 => 0x01 | 2 => 0x02 | 3 => 0x03 | 4 => 0x08 | 5 => 0x09 | 6 => 0x0A | 7 => 0x0B | _ => 0x0C]

/-- The message representative M′ of modes 0b00 and 0b01 (R248): `b` is the context and the message or its digest. -/
def messageRep (mode ctxLen ph : Nat) (b : Bytes) : Bytes :=
  if mode = 0 then leBytes 1 0 ++ leBytes 1 ctxLen ++ b
  else leBytes 1 1 ++ leBytes 1 ctxLen ++ b.take ctxLen ++ phOid ph ++ b.drop ctxLen

end Sys2Proof.Machine
end

