-- ==== Sys2Proof/Machine/Lattice.lean ====
section
/-!
DEFINITION. Lattice operations (chapter 06): ML-KEM and ML-DSA commands on slices L0–L15.
-/
namespace Sys2Proof.Machine

/-! ### Sizes (R228) -/

/-- Encapsulation key, ciphertext; public key, signature. -/
def kemEk (p : Nat) : Nat := match p with | 1 => 800 | 2 => 1184 | _ => 1568
def kemC (p : Nat) : Nat := match p with | 1 => 768 | 2 => 1088 | _ => 1568
def dsaPk (p : Nat) : Nat := match p with | 1 => 1312 | 2 => 1952 | _ => 2592
def dsaSig (p : Nat) : Nat := match p with | 1 => 2420 | 2 => 3309 | _ => 4627

/-! ### Cycle counts (R259, R260): two shares, three shares -/

/-- Three shares: AUX.SHARES3, or PKE_LAT_SHARES_MIN 3 (R254). -/
def shares3 (s : State) (aux : Nat) : Bool := bit aux 4 || decide (objVal s Obj.PKE_LAT_SHARES_MIN = 3)

/-- One of two counts by the share count. -/
def byShares (three : Bool) (a b : Nat) : Nat := if three then b else a

/-- Validation of ek (R259). -/
def kemValid (p : Nat) : Nat := match p with | 1 => 1000 | 2 => 1400 | _ => 1800

def kemKeygenCyc (t : Bool) (p : Nat) : Nat :=
  match p with | 1 => byShares t 9000 12600 | 2 => byShares t 14000 19400 | _ => byShares t 20000 27800
def kemEncapsCyc (t : Bool) (p : Nat) : Nat :=
  match p with | 1 => byShares t 11000 14000 | 2 => byShares t 17000 21800 | _ => byShares t 24000 30600
def kemDecapsCyc (t : Bool) (p : Nat) : Nat :=
  match p with | 1 => byShares t 15000 21000 | 2 => byShares t 24000 33600 | _ => byShares t 33000 46200
def dsaKeygenCyc (t : Bool) (p : Nat) : Nat :=
  match p with | 1 => byShares t 30000 37200 | 2 => byShares t 52000 64000 | _ => byShares t 80000 98000
def dsaVerifyCyc (p : Nat) : Nat := match p with | 1 => 28000 | 2 => 45000 | _ => 70000
def dsaSignBase (t : Bool) (p : Nat) : Nat :=
  match p with | 1 => byShares t 37500 41100 | 2 => byShares t 56600 62000 | _ => byShares t 91900 99700
def dsaSignIter (t : Bool) (p : Nat) : Nat :=
  match p with | 1 => byShares t 10000 14800 | 2 => byShares t 14000 20600 | _ => byShares t 26000 38000

/-- The extra cycles of a long message (R258): `m` is the message length in pure mode, 11 + d in pre-hash mode. -/
def dsaExtra (mode ctxLen m : Nat) : Nat :=
  if mode = 2 then 0 else 30 * (ceilDiv (67 + ctxLen + m) 136 - 1)

/-! ### Descriptors (R227, R238–R241) -/

/-- A lattice parameter set. -/
def latPset (p : Nat) : Bool := decide (1 ≤ p ∧ p ≤ 3)

/-- The ML-KEM commands' descriptors. -/
def kemSpec (s : State) (d : Desc) : Option CmdSpec :=
  let a := d.aux
  let p := d.pset
  let pksrc := bit a 3
  let host := decide (bits a 1 0 = 1)
  let badDest := if 2 ≤ bits a 1 0 then 1 else 0
  let gap := bits a 63 17 + bits a 7 5 + bits a 2 2
  let t := shares3 s a
  let res := fun (auxBad keyRes aux2Res : Bool) =>
    firstField [(offKEY, d.key, keyRes), (offKEY2, d.key2, true), (offAUX, gap + (if auxBad then 1 else 0), true),
      (offAUX2, d.aux2, aux2Res)]
  match d.opcode with
  | 0x0101 => some (mkSpec d (res (pksrc || decide (bits a 1 0 ≠ 0)) true false) (latPset p) (decide (inputLen d = 0)) (kemEk p)
      (kemKeygenCyc t p))
  | 0x0102 => some (mkSpec d (res (decide (badDest ≠ 0) || (host && decide (bits a 16 8 ≠ 0))) (!pksrc) host) (latPset p)
      (decide (inputLen d = if pksrc then 0 else kemEk p)) (kemC p + if host then 32 else 0) (kemEncapsCyc t p))
  | 0x0103 => some (mkSpec d (res (decide (badDest ≠ 0) || pksrc || (host && decide (bits a 16 8 ≠ 0))) false host) (latPset p)
      (decide (inputLen d = kemC p)) (if host then 32 else 0) (kemDecapsCyc t p))
  | 0x0107 => some (mkSpec d (res (decide (bits a 16 0 ≠ 0)) true true) (latPset p) (decide (inputLen d = kemEk p)) 0 (kemValid p))
  | _ => none

/-- What SIGN requires of its input after any pk and σ (R241), by mode. -/
def signInOk (mode ctxLen ph n : Nat) : Bool :=
  match mode with
  | 0 => decide (ctxLen ≤ n)
  | 1 => decide (n = ctxLen + phLen ph)
  | _ => decide (n = 64)

/-- The message length that the extra cycles count (R258). -/
def extraLen (mode ctxLen ph n : Nat) : Nat := if mode = 1 then 11 + phLen ph else n - ctxLen

/-- Reserved values of the signing fields (R239). -/
def modeBad (a : Nat) : Bool :=
  let mode := bits a 1 0
  let ph := bits a 23 16
  decide (mode = 3) || decide (mode = 1 ∧ (ph = 0 ∨ 8 < ph)) || decide (mode ≠ 1 ∧ ph ≠ 0) || decide (mode = 2 ∧ bits a 15 8 ≠ 0)

/-- The ML-DSA commands' descriptors. -/
def dsaSpec (s : State) (d : Desc) : Option CmdSpec :=
  let a := d.aux
  let p := d.pset
  let pksrc := bit a 3
  let mode := bits a 1 0
  let ctx := bits a 15 8
  let ph := bits a 23 16
  let t := shares3 s a
  let res := fun (auxBad keyRes aux2Res : Bool) =>
    firstField [(offKEY, d.key, keyRes), (offKEY2, d.key2, true), (offAUX, (if auxBad then 1 else 0), true),
      (offAUX2, d.aux2, aux2Res)]
  match d.opcode with
  | 0x0201 => some (mkSpec d (res (decide (bits a 63 17 ≠ 0 ∨ bits a 7 5 ≠ 0 ∨ bits a 3 0 ≠ 0)) true false) (latPset p)
      (decide (inputLen d = 0)) (dsaPk p) (dsaKeygenCyc t p))
  | 0x0204 =>
    let n := inputLen d
    let c : CmdSpec := mkSpec d (res (decide (bits a 63 24 ≠ 0 ∨ bits a 7 5 ≠ 0) || pksrc || modeBad a) false true) (latPset p)
      (signInOk mode ctx ph n) (dsaSig p) 0
    some { c with cycles := dsaSignBase t p + dsaExtra mode ctx (extraLen mode ctx ph n),
                  wdog := 4 * (dsaSignBase t p + dsaExtra mode ctx (extraLen mode ctx ph n)),
                  wdogIter := 4 * dsaSignIter t p }
  | 0x0205 =>
    let head := (if pksrc then 0 else dsaPk p) + dsaSig p
    let n := inputLen d - head
    some (mkSpec d (res (decide (bits a 63 24 ≠ 0 ∨ bits a 7 4 ≠ 0) || bit a 2 || modeBad a) (!pksrc) true) (latPset p)
      (decide (head ≤ inputLen d) && signInOk mode ctx ph n) 0 (dsaVerifyCyc p + dsaExtra mode ctx (extraLen mode ctx ph n)))
  | _ => none

/-! ### ML-KEM -/

/-- The two 12-bit coefficients of each three bytes are below 3,329 (R243). -/
def coeffsOk : Bytes → Bool
  | a :: b :: c :: r =>
    decide (a.toNat + 256 * (b.toNat % 16) < 3329) && decide (b.toNat / 16 + 16 * c.toNat < 3329) && coeffsOk r
  | _ => true

/-- The ek check (R243): no coefficient of its k encoded polynomials is 3,329 or greater. -/
def ekValid (p : Nat) (ek : Bytes) : Bool := coeffsOk (ek.take (kemEk p - 32))

/-- KEYGEN (R242): d ‖ z drawn, ek out, the seed in a new slot. -/
def runKemKeygen (x : Entry) (n : Nat) (s : State) : Res × State :=
  let p := x.desc.pset
  let u := usageOr (aux x 16 8) uKEM
  let q := { Need.none_ with policy := usageBad (aux x 16 8) (uKEM + uEXPORT), units := some 1, bytes := 64, mask := true }
  checked x n q (fun b t =>
    deliverKey x 1 u 1 (primOut (.mlkemKeygen p) [b.take 32, b.drop 32] (kemEk p)) b (kemKeygenCyc (shares3 s x.desc.aux) p) t) s

/-- The key policy of a delivered secret (R234, R236). -/
def secretPolicy (s : State) (x : Entry) : Bool :=
  if aux x 1 0 = 1 then clearRefused s x.colour else usageBad (aux x 16 8) (uDERIVE + uWRAP + uEXPORT)

/-- Units of the slot that a secret of `len` bytes goes to, if it goes to one. -/
def secretUnits (x : Entry) (len : Nat) : Option Nat := if aux x 1 0 = 1 then none else some (ceilDiv len 64)

/-- ENCAPS (R243, R244). -/
def runKemEncaps (x : Entry) (n : Nat) (s : State) : Res × State :=
  let p := x.desc.pset
  let pksrc := bit x.desc.aux 3
  let q := { Need.none_ with
    keys := if pksrc then [slotFails s x.colour x.desc.key (keyIs 1 p uKEM true)] else [],
    policy := secretPolicy s x, units := secretUnits x 32, bytes := 32, mask := true,
    uses := if pksrc then [x.desc.key] else [] }
  checked x n q (fun m t =>
    let ek := if pksrc then slotData s x.desc.key else jobInput s x
    if !(ekValid p ek) then (Res.stop .inputInvalid (kemValid p), t)
    else deliverSecret x (decide (aux x 1 0 = 1)) (usageOr (aux x 16 8) uDERIVE)
      (primOut (.mlkemEncapsC p) [ek, m] (kemC p)) (primOut (.mlkemEncapsK p) [ek, m] 32)
      (kemEncapsCyc (shares3 s x.desc.aux) p) [] t) s

/-- DECAPS (R245): a ciphertext that does not match gives the implicit-rejection key, counted after the record. -/
def runKemDecaps (x : Entry) (n : Nat) (s : State) : Res × State :=
  let p := x.desc.pset
  let q := { Need.none_ with
    keys := [slotFails s x.colour x.desc.key (keyIs 1 p uKEM false)],
    policy := secretPolicy s x, units := secretUnits x 32, mask := true, uses := [x.desc.key] }
  checked x n q (fun _ t =>
    let c := jobInput s x
    let sk := slotData s x.desc.key
    let rejects := Config.primBool (.kemReject 1 p) [sk, c]
    deliverSecret x (decide (aux x 1 0 = 1)) (usageOr (aux x 16 8) uDERIVE) [] (primOut (.mlkemDecaps p) [sk, c] 32)
      (kemDecapsCyc (shares3 s x.desc.aux) p) (if rejects then [Obj.PKE_KEM_REJECTS] else []) t) s

/-- CHECK (R246): no randomness, no output, no slot. -/
def runKemCheck (x : Entry) (_ : Nat) (s : State) : Res × State :=
  let p := x.desc.pset
  (if ekValid p (jobInput s x) then Res.ok [] (kemValid p) else Res.stop .inputInvalid (kemValid p), s)

/-! ### ML-DSA -/

/-- KEYGEN (R247). -/
def runDsaKeygen (x : Entry) (n : Nat) (s : State) : Res × State :=
  let p := x.desc.pset
  let u := usageOr (aux x 16 8) (uSIGN + uVERIFY)
  let q := { Need.none_ with policy := usageBad (aux x 16 8) (uSIGN + uVERIFY + uEXPORT), units := some 1, bytes := 32,
                             mask := true }
  checked x n q (fun b t =>
    deliverKey x 2 u 1 (primOut (.mldsaKeygen p) [b] (dsaPk p)) b (dsaKeygenCyc (shares3 s x.desc.aux) p) t) s

/-- What SIGN and VERIFY absorb with tr (R248): μ itself in external-μ mode, M′ otherwise. -/
def dsaMessage (x : Entry) (b : Bytes) : Bytes :=
  if aux x 1 0 = 2 then b else messageRep (aux x 1 0) (aux x 15 8) (aux x 23 16) b

/-- The extra cycles of the job's message of `n` bytes after any pk and σ. -/
def dsaJobExtra (x : Entry) (n : Nat) : Nat :=
  dsaExtra (aux x 1 0) (aux x 15 8) (extraLen (aux x 1 0) (aux x 15 8) (aux x 23 16) n)

/-- SIGN (R250–R252): the iterations depend on the key, the message and rnd; 814 without acceptance end FAULT_DETECTED
after the part before the iterations and the iterations themselves. -/
def runDsaSign (x : Entry) (n : Nat) (s : State) : Res × State :=
  let p := x.desc.pset
  let det := bit x.desc.aux 2
  let t3 := shares3 s x.desc.aux
  let q := { Need.none_ with
    keys := [slotFails s x.colour x.desc.key (keyIs 2 p uSIGN false)], bytes := if det then 0 else 32, mask := true,
    uses := [x.desc.key] }
  checked x n q (fun b t =>
    let rnd := if det then zeros 32 else b
    let args := [slotData s x.desc.key, dsaMessage x (jobInput s x), rnd, leBytes 1 (aux x 1 0)]
    let iters := 1 + Config.primNat (.mldsaSign p) args
    let cyc := dsaSignBase t3 p + dsaJobExtra x (inLen x.desc)
    if 814 < iters then
      (Res.stop .faultDetected (cyc - dsaVerifyCyc p + 814 * dsaSignIter t3 p), bump Obj.PKE_SIGN_ITER_CAP t)
    else
      ({ Res.ok (primOut (.mldsaSign p) args (dsaSig p)) (cyc + iters * dsaSignIter t3 p) with
          detail := iters,
          release := signIterMax iters }, t)) s

/-! #### Signature encodings (R253, FIPS 204) -/

/-- Sizes of a signature's parts, of FIPS 204: bytes of the challenge, bits of a coefficient of z, polynomials of z and of
the hint, hints at most (ω), and β. PRESUMED: the spec names the standard and not its numbers (log entry 161). -/
def sigC (p : Nat) : Nat := match p with | 1 => 32 | 2 => 48 | _ => 64
def sigZBits (p : Nat) : Nat := match p with | 1 => 18 | _ => 20
def sigL (p : Nat) : Nat := match p with | 1 => 4 | 2 => 5 | _ => 7
def sigK (p : Nat) : Nat := match p with | 1 => 4 | 2 => 6 | _ => 8
def sigOmega (p : Nat) : Nat := match p with | 1 => 80 | 2 => 55 | _ => 75
def sigBeta (p : Nat) : Nat := match p with | 1 => 78 | 2 => 196 | _ => 120

/-- Each of `n` coefficients γ1 − v has a magnitude below γ1 − β (R253): β < v < 2γ1 − β. -/
def zFits (p : Nat) : Nat → Nat → Bool
  | 0, _ => true
  | n + 1, z =>
    let v := z % 2 ^ sigZBits p
    decide (sigBeta p < v ∧ v + sigBeta p < 2 ^ sigZBits p) && zFits p n (z / 2 ^ sigZBits p)

/-- The hints of the polynomials that end at `ends`: each polynomial's indexes rise, no end falls back or passes ω, and the
places past the last end are 0 (R253). -/
def hintsFit (omega : Nat) (idx : List Nat) : Nat → List Nat → Bool
  | at_, [] => (idx.drop at_).all (fun v => decide (v = 0))
  | at_, e :: r =>
    let mine := (idx.take e).drop at_
    decide (at_ ≤ e ∧ e ≤ omega) && (List.zip mine (mine.drop 1)).all (fun q => decide (q.1 < q.2)) && hintsFit omega idx e r

/-- A signature whose encoding is not malformed (R253). -/
def sigEncoded (p : Nat) (sig : Bytes) : Bool :=
  let zLen := sigL p * 32 * sigZBits p
  let h := (sig.drop (sigC p + zLen)).map (fun b => b.toNat)
  zFits p (256 * sigL p) (leNat ((sig.drop (sigC p)).take zLen)) && hintsFit (sigOmega p) (h.take (sigOmega p)) 0 (h.drop (sigOmega p))

/-- VERIFY (R253): a malformed encoding fails as a signature that does not match. -/
def runDsaVerify (x : Entry) (n : Nat) (s : State) : Res × State :=
  let p := x.desc.pset
  let pksrc := bit x.desc.aux 3
  let q := { Need.none_ with
    keys := if pksrc then [slotFails s x.colour x.desc.key (keyIs 2 p uVERIFY true)] else [],
    uses := if pksrc then [x.desc.key] else [] }
  checked x n q (fun _ t =>
    let b := jobInput s x
    let pk := if pksrc then slotData s x.desc.key else b.take (dsaPk p)
    let r := if pksrc then b else b.drop (dsaPk p)
    let m := r.drop (dsaSig p)
    let cyc := dsaVerifyCyc p + dsaJobExtra x m.length
    (if sigEncoded p (r.take (dsaSig p)) && Config.primBool (.mldsaVerify p) [pk, dsaMessage x m, r.take (dsaSig p), leBytes 1 (aux x 1 0)]
     then Res.ok [] cyc
     else Res.stop .verifyFail cyc, t)) s

/-! ### The rows -/

/-- ML_KEM_KEYGEN (R242). -/
def execMlKemKeygen (e : Nat) (fault : Bool) (s : State) : Host.Outcome State Fault Refusal :=
  .next (sliceRow 0x0101 e fault runKemKeygen s)

/-- ML_KEM_ENCAPS (R244). -/
def execMlKemEncaps (e : Nat) (fault : Bool) (s : State) : Host.Outcome State Fault Refusal :=
  .next (sliceRow 0x0102 e fault runKemEncaps s)

/-- ML_KEM_DECAPS (R245). -/
def execMlKemDecaps (e : Nat) (fault : Bool) (s : State) : Host.Outcome State Fault Refusal :=
  .next (sliceRow 0x0103 e fault runKemDecaps s)

/-- ML_KEM_CHECK (R246). -/
def execMlKemCheck (e : Nat) (s : State) : Host.Outcome State Fault Refusal :=
  .next (sliceRow 0x0107 e false runKemCheck s)

/-- ML_DSA_KEYGEN (R247). -/
def execMlDsaKeygen (e : Nat) (fault : Bool) (s : State) : Host.Outcome State Fault Refusal :=
  .next (sliceRow 0x0201 e fault runDsaKeygen s)

/-- ML_DSA_SIGN (R250). -/
def execMlDsaSign (e : Nat) (fault : Bool) (s : State) : Host.Outcome State Fault Refusal :=
  .next (sliceRow 0x0204 e fault runDsaSign s)

/-- ML_DSA_VERIFY (R253). -/
def execMlDsaVerify (e : Nat) (fault : Bool) (s : State) : Host.Outcome State Fault Refusal :=
  .next (sliceRow 0x0205 e fault runDsaVerify s)

/-- PKE_LAT_LOCK (R261): a write of 1 locks the two lattice settings until the next reset. -/
def latLockRule : WriteRule :=
  { lock := false, held := false, busy := false, bad := false, critical := false,
    act := fun s => { s with dict := { s.dict with
      locked := Obj.PKE_LAT_SHARES_MIN :: Obj.PKE_SS_CLEAR :: s.dict.locked } } }

/-- PKE_LAT_LOCK (R261). -/
def execPkeLatLock (c : Caller) (data : Bytes) (s : State) : Host.Outcome State Fault Refusal :=
  .next (writeAccess c Obj.PKE_LAT_LOCK data latLockRule s)

end Sys2Proof.Machine
end

