-- ==== Sys2Proof/Machine/HashSig.lean ====
section
/-!
DEFINITION. Hash-based signatures (chapter 07): SLH-DSA and the stateful schemes LMS, HSS, XMSS and XMSS^MT on slices H0–H3,
with the BBRAM counter records.
-/
namespace Sys2Proof.Machine

/-! ### SLH-DSA (R266–R274) -/

/-- A defined SLH-DSA set. -/
def slhPset (p : Nat) : Bool := decide (1 ≤ p ∧ p ≤ 12)

/-- n of a set (R267). -/
def slhN (p : Nat) : Nat := if p ≤ 4 then 16 else if p ≤ 8 then 24 else 32

/-- An "s" set. -/
def slhS (p : Nat) : Bool := decide ((p - 1) % 4 < 2)

/-- Signature length (R267). -/
def slhSig (p : Nat) : Nat :=
  if slhS p then (if p ≤ 4 then 7856 else if p ≤ 8 then 16224 else 29792)
  else (if p ≤ 4 then 17088 else if p ≤ 8 then 35664 else 49856)

/-- The rows of R274: KEYGEN, SIGN, VERIFY. -/
def slhCycles (p : Nat) : Nat × Nat × Nat :=
  match p with
  | 1 => (5400000, 28240000, 16000)
  | 2 => (6750000, 35300000, 20000)
  | 3 => (84000, 1371000, 40000)
  | 4 => (105000, 1714000, 50000)
  | 5 => (8000000, 49900000, 24000)
  | 6 => (10000000, 62400000, 30000)
  | 7 => (128000, 2250000, 60000)
  | 8 => (160000, 2813000, 75000)
  | 9 => (5400000, 44300000, 35000)
  | 10 => (6750000, 55400000, 43800)
  | 11 => (350000, 4364000, 106700)
  | _ => (438000, 5455000, 133400)

/-- Hash families of R273. -/
inductive HashFam where
  | sha256 | sha512 | shake
deriving DecidableEq, Repr

/-- The message hash family of a set (R267). -/
def slhFam (p : Nat) : HashFam := if p % 2 = 0 then .shake else if p ≤ 4 then .sha256 else .sha512

/-- The extra cycles of a message of `n` bytes (R273). -/
def hashExtra (k : Nat) (f : HashFam) (n : Nat) : Nat :=
  if n ≤ 64 then 0
  else match f with
    | .sha256 => k * 8 * ceilDiv (n - 64) 64
    | .sha512 => k * 10 * ceilDiv (n - 64) 128
    | .shake => k * 10 * ceilDiv (n - 64) 136

/-- Length of M′ for the bytes after any pk and σ (R248, R273). -/
def slhRepLen (mode n : Nat) : Nat := 2 + n + if mode = 1 then 11 else 0

/-- Reserved values of the SLH-DSA signing fields (R269). -/
def slhModeBad (a : Nat) : Bool :=
  let ph := bits a 23 16
  bit a 1 || decide (bits a 1 0 = 1 ∧ (ph = 0 ∨ 8 < ph)) || decide (bits a 1 0 ≠ 1 ∧ ph ≠ 0)

/-- Resume pages of SIGN of the "s" sets (R272). -/
def slhResume (p : Nat) : Nat := if slhS p then (if p ≤ 4 then 2 else if p ≤ 8 then 3 else 4) else 0

/-- The SLH-DSA commands' descriptors (R266–R270). -/
def slhSpec (d : Desc) : Option CmdSpec :=
  let a := d.aux
  let p := d.pset
  let n := slhN p
  let pksrc := bit a 3
  let mode := bits a 1 0
  let ctx := bits a 15 8
  let ph := bits a 23 16
  let res := fun (auxBad keyRes aux2Res : Bool) =>
    firstField [(offKEY, d.key, keyRes), (offKEY2, d.key2, true), (offAUX, (if auxBad then 1 else 0), true),
      (offAUX2, d.aux2, aux2Res)]
  match d.opcode with
  | 0x0301 => some (mkSpec d (res (decide (bits a 63 17 ≠ 0 ∨ bits a 7 0 ≠ 0)) true false) (slhPset p) (decide (inputLen d = 0))
      (2 * n) (slhCycles p).1)
  | 0x0304 =>
    let cyc := (slhCycles p).2.1 + hashExtra 3 (slhFam p) (slhRepLen mode (inputLen d))
    let c := mkSpec d (res (decide (bits a 63 24 ≠ 0 ∨ bits a 7 4 ≠ 0) || pksrc || slhModeBad a) false true) (slhPset p)
      (signInOk mode ctx ph (inputLen d)) (slhSig p) cyc
    some { c with resume := slhResume p }
  | 0x0305 =>
    let head := (if pksrc then 0 else 2 * n) + slhSig p
    let m := inputLen d - head
    some (mkSpec d (res (decide (bits a 63 24 ≠ 0 ∨ bits a 7 4 ≠ 0) || bit a 2 || slhModeBad a) (!pksrc) true) (slhPset p)
      (decide (head ≤ inputLen d) && signInOk mode ctx ph m) 0
      ((slhCycles p).2.2 + hashExtra 1 (slhFam p) (slhRepLen mode m)))
  | _ => none

/-- SLH-DSA KEYGEN (R262, R268): SK.seed ‖ SK.prf ‖ PK.seed drawn, the key held as 4n bytes, pk out. -/
def runSlhKeygen (x : Entry) (n : Nat) (s : State) : Res × State :=
  let p := x.desc.pset
  let m := slhN p
  let u := usageOr (aux x 16 8) (uSIGN + uVERIFY)
  let q := { Need.none_ with policy := usageBad (aux x 16 8) (uSIGN + uVERIFY + uEXPORT), units := some (ceilDiv (4 * m) 64),
                             bytes := 3 * m }
  checked x n q (fun b t =>
    let root := primOut (.slhKeygen p) [b] m
    deliverKey x 3 u (ceilDiv (4 * m) 64) (b.drop (2 * m) ++ root) (b ++ root) (slhCycles p).1 t) s

/-- What the key check of SLH-DSA SIGN needs (R270). -/
def slhSignNeed (x : Entry) (s : State) : Need :=
  { Need.none_ with
    keys := [slotFails s x.colour x.desc.key (keyIs 3 x.desc.pset uSIGN false)],
    bytes := if bit x.desc.aux 2 then 0 else slhN x.desc.pset, uses := [x.desc.key] }

/-- SLH-DSA SIGN (R269–R271). -/
def runSlhSign (x : Entry) (n : Nat) (s : State) : Res × State :=
  let p := x.desc.pset
  let det := bit x.desc.aux 2
  checked x n (slhSignNeed x s) (fun b t =>
    let sk := slotData s x.desc.key
    let opt := if det then slice sk (2 * slhN p) (slhN p) else b
    let m := messageRep (aux x 1 0) (aux x 15 8) (aux x 23 16) (jobInput s x)
    (Res.ok (primOut (.slhSign p) [sk, m, opt] (slhSig p)) ((slhCycles p).2.1 + hashExtra 3 (slhFam p) m.length), t)) s

/-- SLH-DSA VERIFY (R271). -/
def runSlhVerify (x : Entry) (n : Nat) (s : State) : Res × State :=
  let p := x.desc.pset
  let pksrc := bit x.desc.aux 3
  let q := { Need.none_ with
    keys := if pksrc then [slotFails s x.colour x.desc.key (keyIs 3 p uVERIFY true)] else [],
    uses := if pksrc then [x.desc.key] else [] }
  checked x n q (fun _ t =>
    let b := jobInput s x
    let pk := if pksrc then slotData s x.desc.key else b.take (2 * slhN p)
    let r := if pksrc then b else b.drop (2 * slhN p)
    let m := messageRep (aux x 1 0) (aux x 15 8) (aux x 23 16) (r.drop (slhSig p))
    let cyc := (slhCycles p).2.2 + hashExtra 1 (slhFam p) m.length
    (if Config.primBool (.slhVerify p) [pk, m, r.take (slhSig p)] then Res.ok [] cyc else Res.stop .verifyFail cyc, t)) s

/-- SLH_DSA_KEYGEN (R268). -/
def execSlhDsaKeygen (e : Nat) (fault : Bool) (s : State) : Host.Outcome State Fault Refusal :=
  .next (sliceRow 0x0301 e fault runSlhKeygen s)

/-- SLH_DSA_SIGN (R271). -/
def execSlhDsaSign (e : Nat) (fault : Bool) (s : State) : Host.Outcome State Fault Refusal :=
  .next (sliceRow 0x0304 e fault runSlhSign s)

/-- SLH_DSA_VERIFY (R271). -/
def execSlhDsaVerify (e : Nat) (fault : Bool) (s : State) : Host.Outcome State Fault Refusal :=
  .next (sliceRow 0x0305 e fault runSlhVerify s)

/-! ### Stateful schemes: counts (R288) -/

/-- Counts (R288). -/
def htsA (pset : Nat) : Nat := if pset ≤ 2 then 9880 else 12620
def htsVerifyCyc (pset : Nat) (ls : List HtsLevel) : Nat := htsA pset + (ls.map (fun l => l.lam + l.c * l.h)).sum
def htsSignCyc (pset : Nat) (ls : List HtsLevel) : Nat :=
  13140 + htsVerifyCyc pset ls +
    (match ls.reverse with | l :: _ => l.lam * (1 + ceilDiv l.h 2) | [] => 0) + ((ls.drop 1).map (·.lam)).sum
def htsKeygenCyc (pset : Nat) (ls : List HtsLevel) : Nat :=
  960 + htsSignCyc pset ls + (ls.map (fun l => 2 ^ l.h * l.lam)).sum

/-- The hash family whose block the extra cycles count (R273): the bottom level's, which hashes the message. -/
def htsFam (ls : List HtsLevel) : HashFam :=
  match ls.getLast? with
  | some l => if l.c = 8 then .sha256 else .shake
  | none => .sha256

/-- Seeds that KEYGEN draws (R262): I and SEED for LMS and HSS, 96 bytes for XMSS. -/
def htsDraw (pset : Nat) (ls : List HtsLevel) : Nat :=
  if pset ≤ 2 then 16 + (match ls with | l :: _ => l.n | [] => 32) else 96

/-- The lowest record that is free: its NEXT is 0. -/
def freeRecord (s : State) : Option Nat := (List.range 512).find? (fun n => decide ((counter s n).next = 0))

/-- BBRAM can be reached: not under the test root (R355). -/
def bbramOpen (s : State) : Bool := decide (s.lc.root = 1)

/-! ### Stateful descriptors (R275–R278) -/

/-- The stateful commands' descriptors.  A SIGN's output length depends on its slot and is checked at the key check.  DESIGN CHOICE: its
output pages are those of OUT_LEN, the room the host gives, since R154's output length is not known at admission. -/
def htsSpec (legacy : Bool) (d : Desc) : Option CmdSpec :=
  let a := d.aux
  let p := d.pset
  let pset := decide (1 ≤ p ∧ p ≤ 4)
  let res := fun (auxBad keyRes aux2Res : Bool) =>
    firstField [(offKEY, d.key, keyRes), (offKEY2, d.key2, true), (offAUX, (if auxBad then 1 else 0), true),
      (offAUX2, d.aux2, aux2Res)]
  match d.opcode with
  | 0x0401 =>
    let ls := (htsLevels p a).getD []
    let low := decide (p = 2 ∧ 2 ≤ bits a 35 32)
    let bad := decide (bits a 63 49 ≠ 0 ∨ bits a 39 36 ≠ 0) || (decide (p ≠ 2) && decide (bits a 35 32 ≠ 0)) ||
      (!low && decide (bits a 31 16 ≠ 0)) || (decide (3 ≤ p) && decide (bits a 15 8 ≠ 0))
    let cyc := htsKeygenCyc p ls
    let c := mkSpec d (res bad true false) pset (decide (inputLen d = 0)) (htsPk p ls) cyc
    some { c with psetBad := if !pset then some offPSET else if !legacy && (htsLevels p a).isNone then some offAUX else none,
                  noLegacy := true, resume := 2 }
  | 0x0404 =>
    let c := mkSpec d (res (decide (a ≠ 0)) false true) pset true 0 0
    some { c with outPages := stagedPages d.outLen, wdog := 4 * (htsSignCyc 4 (levels 12 (xmssLevel 20)) +
      hashExtra 2 .sha256 (inputLen d)) }
  | 0x0405 =>
    let c := mkSpec d (res (decide (bits a 63 4 ≠ 0 ∨ bits a 2 0 ≠ 0)) (!(bit a 3)) true) pset true 0 0
    some { c with wdog := 4 * (htsVerifyCyc 4 (levels 12 (xmssLevel 20)) + hashExtra 1 .sha256 (inputLen d)) }
  | _ => none

/-! ### Stateful KEYGEN (R279–R285) -/

/-- The stateful slot's data: seeds, root, typecodes, record, generation and cache handle (R279). -/
def htsData (seed root : Bytes) (types record gen cache : Nat) : Bytes :=
  seed ++ root ++ leBytes 5 types ++ leBytes 2 record ++ leBytes 1 gen ++ leBytes 2 cache

/-- What the key check of a stateful KEYGEN needs (R284, R285). -/
def htsKeygenNeed (x : Entry) (s : State) : Need :=
  let ls := (htsLevels x.desc.pset x.desc.aux).getD []
  { Need.none_ with
      policy := usageBad (aux x 48 40) (uSIGN + uVERIFY), units := some 2, lks := some (2 * ls.length),
      other := (freeRecord s).isNone || !(bbramOpen s), bytes := htsDraw x.desc.pset ls }

/-- KEYGEN: a free counter record, a slot of two units set PERSIST, a node-cache entry; NEXT = 1 is committed before the
pairwise check signs a drawn 32-byte value with index 0, whose signature is not released (R284, R285, R300, R357).  Where that check fails (`withheld`) the record is
freed again. -/
def runHtsKeygen (withheld : Bool) (x : Entry) (n : Nat) (s : State) : Res × State :=
  let p := x.desc.pset
  let a := x.desc.aux
  match htsLevels p a with
  | none => (Res.stop .keyPolicy 120, s)
  | some ls =>
    let ext := 2 * ls.length
    let u := usageOr (aux x 48 40) (uSIGN + uVERIFY)
    checked x n (htsKeygenNeed x s) (fun b t0 =>
      let t := (draw n 32 t0).2
      let rec_ := (freeRecord t).getD 0
      let gen := (counter t rec_).gen
      let h := targetHandle x t
      let c := targetLks x t
      let types := bits a 35 0
      let pub := primOut (.htsKeygen p) [b, leBytes 5 types] (htsPk p ls)
      let v : Slot := { newSlot t x.colour 4 p u 0 2 x.desc.aux2 (htsData b pub types rec_ gen c) with
                        stateful := true, persist := true, st := .loading }
      let cache : LksEntry := { owner := x.colour, alg := 4, pset := p, usage := 0, state := 2, persist := false, kind := 2,
                                extents := [], length := ext * 4096, data := [] }
      let k : HtsKey := { record := rec_, gen := gen, working := 1, cache := c, types := types, st := .ready, warned := false }
      ({ st := .ok, detail := h, out := pub, cycles := htsKeygenCyc p ls + waitCycles t0 t, late := [],
         release := fun r => htsWarn h (htsCap ls) 1 (setHts h k (putLks c cache (fillSlot h x.desc.aux2 v r))),
         commit := some (.addSlot (t.kreg.archSerial + 1) h v, .activate h) },
       let u := bump Obj.PKE_HTS_SKIPPED (setCounter rec_ (sealRecord 1 gen) (tookTarget x t))
       if withheld then freeCounter rec_ u else u)) s

/-! ### Stateful SIGN (R281–R283, R193) -/

/-- SIGN: reserve the working copy's index, commit NEXT, sign (R281); DETAIL reports the index.  Where the invariant then fails
(`withheld`), the index is used up as the job stops. -/
def runHtsSign (withheld : Bool) (x : Entry) (n : Nat) (s : State) : Res × State :=
  let p := x.desc.pset
  let h := x.desc.key
  let q := { Need.none_ with keys := [slotFails s x.colour h (fun v => keyIs 4 p uSIGN false v && v.stateful)], uses := [h] }
  checked x n q (fun _ t =>
    match htsKey? t h with
    | none => (Res.stop .stateExhausted 120, t)
    | some k =>
      let ls := htsKeyLevels t h
      let cap := htsCap ls
      if recordBroken t k || decide (k.st = .lost) then (Res.stop .stateExhausted 120, loseHts h k t)
      else if cap ≤ k.working then (Res.stop .stateExhausted 120, setHts h { k with st := .exhausted } t)
      else if x.desc.outLen < htsSig p ls then
        ({ Res.stop .badDescriptor 120 with detail := 6 + htsSig p ls * 256 }, t)
      else
        let i := k.working
        let t2 := if withheld then t else commitIndex h k cap (reserveIndex h k cap t)
        let m := jobInput s x
        ({ Res.ok (primOut (.htsSign p) [slotData s h, leBytes 5 i, m] (htsSig p ls))
             (htsSignCyc p ls + hashExtra 2 (htsFam ls) m.length) with detail := i % 2 ^ 32 }, t2)) s

/-! ### Stateful VERIFY (R276, R278, R288) -/

/-- The levels an LMS signature's typecodes name: bytes 4–7 hold the LM-OTS typecode, and after the one-time signature the
LMS typecode follows. -/
def lmsSigLevel (b : Bytes) : Option HtsLevel :=
  match otsKind (beNat (slice b 4 4)) with
  | none => none
  | some a =>
    let o := beNat (slice b 4 4)
    let n := if a % 2 = 0 then 32 else 24
    lmsLevel (beNat (slice b (8 + n * (otsP n ((o - 1) % 4) + 1)) 4)) o

/-- The levels of an HSS signature: each lower level's public key follows the signature that signs it. -/
def hssSigLevels : Nat → Bytes → Option (List HtsLevel)
  | 0, _ => some []
  | k + 1, b =>
    match lmsSigLevel b with
    | none => none
    | some l =>
      let r := b.drop (lmsSig l)
      if k = 0 then some [l]
      else match lmsLevel (beNat (slice r 0 4)) (beNat (slice r 4 4)) with
        | none => none
        | some m => (hssSigLevels k (r.drop (lmsPk m))).map (fun q => l :: q)

/-- The public key's length by its typecodes (R278); none where they are not supported. -/
def htsPkLen (pset : Nat) (b : Bytes) : Option Nat :=
  let t := beNat (slice b 0 4)
  match pset with
  | 1 => (lmsLevel t (beNat (slice b 4 4))).map lmsPk
  | 2 => if 1 ≤ t ∧ t ≤ 8 then (lmsLevel (beNat (slice b 4 4)) (beNat (slice b 8 4))).map (fun l => 4 + lmsPk l) else none
  | 3 => if 1 ≤ t ∧ t ≤ 3 then some 68 else none
  | _ => if 1 ≤ t ∧ t ≤ 8 then some 68 else none

/-- The levels of a signature under a public key. -/
def htsSigLevels (pset : Nat) (pk sig : Bytes) : Option (List HtsLevel) :=
  match pset with
  | 1 => (lmsSigLevel sig).map (fun l => [l])
  | 2 => if beNat (slice sig 0 4) + 1 = beNat (slice pk 0 4) ∧ beNat (slice pk 0 4) ≤ 8
         then hssSigLevels (beNat (slice pk 0 4)) (sig.drop 4) else none
  | _ => htsLevels pset (beNat (slice pk 0 4))

/-- VERIFY: lengths come from the typecodes; an unsupported typecode ends VERIFY_FAIL at cycle a. -/
def runHtsVerify (x : Entry) (n : Nat) (s : State) : Res × State :=
  let p := x.desc.pset
  let pksrc := bit x.desc.aux 3
  let q := { Need.none_ with
    keys := if pksrc then [slotFails s x.colour x.desc.key (keyIs 4 p uVERIFY true)] else [],
    uses := if pksrc then [x.desc.key] else [] }
  checked x n q (fun _ t =>
    let b := jobInput s x
    let pkb := if pksrc then slotData s x.desc.key else b
    match htsPkLen p pkb with
    | none => (Res.stop .verifyFail (htsA p), t)
    | some len =>
      let pk := pkb.take len
      let r := if pksrc then b else b.drop len
      match htsSigLevels p pk r with
      | none => (Res.stop .verifyFail (htsA p), t)
      | some ls =>
        let sl := htsSig p ls
        let m := r.drop sl
        let cyc := htsVerifyCyc p ls + hashExtra 1 (htsFam ls) m.length
        if decide (sl ≤ r.length) && Config.primBool (.htsVerify p) [pk, m, r.take sl] then (Res.ok [] cyc, t)
        else (Res.stop .verifyFail cyc, t)) s

/-- STATEFUL_KEYGEN (R284). -/
def execStatefulKeygen (e : Nat) (fault : Bool) (s : State) : Host.Outcome State Fault Refusal :=
  .next (match entry? s e with
    | none => s
    | some x => match x.origin with
      | .rebuild _ => s
      | _ => sliceRow 0x0401 e fault (runHtsKeygen fault) s)

/-- STATEFUL_SIGN (R281): the index a failed invariant withholds is consumed (R193). -/
def execStatefulSign (e : Nat) (fault : Bool) (s : State) : Host.Outcome State Fault Refusal :=
  .next (sliceRow 0x0404 e fault (runHtsSign fault) s)

/-- STATEFUL_VERIFY (R288). -/
def execStatefulVerify (e : Nat) (fault : Bool) (s : State) : Host.Outcome State Fault Refusal :=
  .next (sliceRow 0x0405 e fault runHtsVerify s)

/-! ### Rebuilds (R286) -/

/-- The cost of a rebuild's leaves, from the top level down (R286, R288): the current tree of each level, and of each lower
level the successor tree as far as NEXT requires, one leaf for each signature made in the current tree; the last tree of a
level has no successor. -/
def rebuildCost (total next : Nat) : Bool → List HtsLevel → Nat
  | _, [] => 0
  | top, l :: r =>
    let below := l.h + htsHeight r
    let succ := if top || decide (2 ^ total ≤ (next / 2 ^ below + 1) * 2 ^ below) then 0 else min (2 ^ l.h) (next % 2 ^ below)
    (2 ^ l.h + succ) * l.lam + rebuildCost total next false r

/-- The cycles of a rebuild (R288). -/
def rebuildCyc (s : State) (h : Nat) : Nat :=
  let ls := htsKeyLevels s h
  960 + rebuildCost (htsHeight ls) ((htsKey? s h).elim 0 (·.working)) true ls

/-- The cycles of a stateful SIGN or VERIFY, by its own key's or signature's typecodes (R224, R288). -/
def htsCycles (x : Entry) (s : State) : Nat :=
  if x.desc.opcode = 0x0404 then
    let ls := htsKeyLevels s x.desc.key
    htsSignCyc x.desc.pset ls + hashExtra 2 (htsFam ls) (inputLen x.desc)
  else (runHtsVerify x 0xFF s).1.cycles

/-- STATEFUL_REBUILD (R286): the internal rebuild job ends; its key is READY again, or LOST where the recomputed top root
differs from the stored one. -/
def execStatefulRebuild (e : Nat) (rootMatches : Bool) (s : State) : Host.Outcome State Fault Refusal :=
  .next (match entry? s e with
    | none => s
    | some x =>
      match x.origin, x.phase with
      | .rebuild h, .running _ =>
        if !((resumePages x).isEmpty) ∧ x.progress + 1 ≠ segments (rebuildCyc s h) then s else
        let s1 := spend e (rebuildCyc s h) s
        match htsKey? s1 h with
        | none => endJob e .ok 0 [] [] s1
        | some k =>
          if rootMatches then
            endJob e .ok 0 [] []
              (setHts h { k with st := if htsCap (htsKeyLevels s h) ≤ k.working then .exhausted else .ready } s1)
          else invariantFailure e (loseHts h k s1)
      | _, _ => s)

end Sys2Proof.Machine
end

