-- ==== Sys2Proof/Machine/CodeKem.lean ====
section
/-!
DEFINITION. Code-based KEMs (chapter 07): Classic McEliece and HQC on slices C0–C3.
-/
namespace Sys2Proof.Machine

/-! ### Sizes and counts (R291, R296, R299) -/

def isHqc (p : Nat) : Bool := decide (0x11 ≤ p ∧ p ≤ 0x13)

/-- pk, sk, c and K lengths. -/
def codePk (p : Nat) : Nat :=
  match p with
  | 1 => 261120 | 2 => 261120 | 3 => 524160 | 4 => 524160 | 5 => 1044992 | 6 => 1044992 | 7 => 1047319 | 8 => 1047319
  | 9 => 1357824 | 10 => 1357824 | 0x11 => 2249 | 0x12 => 4522 | _ => 7245
def codeSk (p : Nat) : Nat :=
  match p with
  | 1 => 6492 | 2 => 6492 | 3 => 13608 | 4 => 13608 | 5 => 13932 | 6 => 13932 | 7 => 13948 | 8 => 13948
  | 9 => 14120 | 10 => 14120 | 0x11 => 2305 | 0x12 => 4586 | _ => 7317
def codeC (p : Nat) : Nat :=
  match p with
  | 1 => 96 | 2 => 96 | 3 => 156 | 4 => 156 | 5 => 208 | 6 => 208 | 7 => 194 | 8 => 194 | 9 => 208 | 10 => 208
  | 0x11 => 4433 | 0x12 => 8978 | _ => 14421
def codeK (p : Nat) : Nat := if isMce p then 32 else 64

/-- F, A and resume pages of McEliece KEYGEN (R296). -/
def mceKeygen (p : Nat) : Nat × Nat × Nat :=
  match (p - 1) / 2 with
  | 0 => (200000, 1900000, 8)
  | 1 => (450000, 5800000, 10)
  | 2 => (950000, 13100000, 15)
  | 3 => (1000000, 13600000, 15)
  | _ => (1250000, 19800000, 17)

/-- ENCAPS and DECAPS counts, HQC KEYGEN and validation (R299). -/
def codeEncapsCyc (p : Nat) : Nat :=
  match p with
  | 0x11 => 30000 | 0x12 => 60000 | 0x13 => 90500
  | _ => match (p - 1) / 2 with | 0 => 6000 | 1 => 12000 | 2 => 19800 | 3 => 20000 | _ => 26000
def codeDecapsCyc (p : Nat) : Nat :=
  match p with
  | 0x11 => 45000 | 0x12 => 92000 | 0x13 => 141000
  | _ => match (p - 1) / 2 with | 0 => 45000 | 1 => 98000 | 2 => 148000 | 3 => 150000 | _ => 171400
def hqcKeygenCyc (p : Nat) : Nat := match p with | 0x11 => 52000 | 0x12 => 104000 | _ => 158000
def hqcValid (p : Nat) : Nat := match p with | 0x11 => 300 | 0x12 => 500 | _ => 700

/-! ### Descriptors (R290–R293) -/

/-- The code KEM commands' descriptors. -/
def codeSpec (d : Desc) : Option CmdSpec :=
  let a := d.aux
  let p := d.pset
  let mce := isMce p
  let host := decide (bits a 1 0 = 1)
  let pksrc := bit a 3
  let pset := isMce p || isHqc p
  let gap := decide (bits a 63 17 ≠ 0 ∨ bits a 7 5 ≠ 0) || bit a 2
  let res := fun (auxBad keyRes : Bool) (keyVal : Nat) (aux2Res : Bool) =>
    firstField [(offKEY, keyVal, keyRes), (offKEY2, d.key2, true), (offAUX, (if auxBad then 1 else 0), true),
      (offAUX2, d.aux2, aux2Res)]
  match d.opcode with
  | 0x0501 =>
    let out := if mce && !(bit a 4) then 0 else codePk p
    let c := mkSpec d (res (gap || (!mce && bit a 4) || decide (bits a 3 0 ≠ 0)) true d.key false) pset (decide (inputLen d = 0))
      out (if mce then (mceKeygen p).1 + (mceKeygen p).2.1 else hqcKeygenCyc p)
    some (if mce then { c with outPages := 0, resume := (mceKeygen p).2.2 } else c)
  | 0x0502 =>
    some (mkSpec d (res (gap || bit a 4 || (mce && pksrc) || bit a 1 || (host && decide (bits a 16 8 ≠ 0)))
        (mce || !pksrc) (if mce then d.key / 4096 else d.key) host)
      pset (decide (inputLen d = if mce || pksrc then 0 else codePk p)) (codeC p + if host then codeK p else 0) (codeEncapsCyc p))
  | 0x0503 =>
    some (mkSpec d (res (gap || bit a 4 || pksrc || bit a 1 || (host && decide (bits a 16 8 ≠ 0))) false d.key host)
      pset (decide (inputLen d = codeC p)) (if host then codeK p else 0) (codeDecapsCyc p))
  | _ => none

/-! ### Commands -/

/-- A slot of this code KEM set; McEliece accepts either set of a pair (R291). -/
def codeKeyIs (p : Nat) (pub : Bool) (v : Slot) : Bool :=
  decide (v.alg = 5 ∧ v.isPublic = pub ∧ v.usage &&& uKEM = uKEM) &&
    (decide (v.pset = p) || (isMce p && isMce v.pset && samePair v.pset p))

/-- What the key check of a McEliece KEYGEN needs (R295). -/
def mceKeygenNeed (x : Entry) : Need :=
  { Need.none_ with policy := usageBad (aux x 16 8) (uKEM + uEXPORT), units := some (ceilDiv (codeSk x.desc.pset) 64),
                    lks := some (ceilDiv (codePk x.desc.pset) 4096), bytes := 32, mask := true }

/-- McEliece KEYGEN (R295, R296): N attempts; the private key in a new slot, pk in a new LKS entry. -/
def runMceKeygen (x : Entry) (n : Nat) (s : State) : Res × State :=
  let p := x.desc.pset
  let u := usageOr (aux x 16 8) uKEM
  let units := ceilDiv (codeSk p) 64
  checked x n (mceKeygenNeed x) (fun b t =>
    let h := targetHandle x t
    let l := targetLks x t
    let tries := 1 + Config.primNat (.mceKeygenPub p) [b]
    let pk := primOut (.mceKeygenPub p) [b] (codePk p)
    let v := newSlot t x.colour 5 p u 0 units x.desc.aux2 (primOut (.mceKeygenPriv p) [b] (codeSk p))
    let le : LksEntry := { owner := x.colour, alg := 5, pset := p, usage := uKEM, state := 2, persist := false, kind := 1,
                           extents := [], length := codePk p, data := pk }
    ({ st := .ok, detail := h + l * 65536, out := if bit x.desc.aux 4 then pk else [],
       cycles := (mceKeygen p).1 + tries * (mceKeygen p).2.1, late := [],
       release := fun r => setObj Obj.PKE_MCE_ATTEMPTS_MAX (max tries (objVal r Obj.PKE_MCE_ATTEMPTS_MAX) % 65536)
         (putLks l le (fillSlot h x.desc.aux2 v r)),
       commit := none }, tookTarget x t)) s

/-- HQC KEYGEN (R298). -/
def runHqcKeygen (x : Entry) (n : Nat) (s : State) : Res × State :=
  let p := x.desc.pset
  let units := ceilDiv (codeSk p) 64
  let q := { Need.none_ with policy := usageBad (aux x 16 8) (uKEM + uEXPORT), units := some units, bytes := 80, mask := true }
  checked x n q (fun b t =>
    let kp := primOut (.hqcKeygen p) [b] (codePk p + codeSk p)
    deliverKey x 5 (usageOr (aux x 16 8) uKEM) units (kp.take (codePk p)) (kp.drop (codePk p)) (hqcKeygenCyc p) t) s

/-- KEYGEN of the set's kind. -/
def runCodeKeygen (x : Entry) (n : Nat) (s : State) : Res × State :=
  if isMce x.desc.pset then runMceKeygen x n s else runHqcKeygen x n s

/-- The LKS entry serves an ENCAPS: ACTIVE, or DRAINING while this job already reads it (R294). -/
def mceKeyFails (s : State) (x : Entry) (e h : Nat) : Option Status :=
  match lks? s h with
  | none => some .keyEmpty
  | some l =>
    if l.owner ≠ x.colour ∨ !(l.state = 2 ∨ (l.state = 3 ∧ (h, e) ∈ s.kreg.lksUsers)) then some .keyEmpty
    else if l.alg = 5 ∧ l.kind = 1 ∧ l.usage &&& uKEM = uKEM ∧ samePair l.pset x.desc.pset then none else some .keyPolicy

/-- The bits of the last byte of an HQC pk above position n are zero (R298). -/
def hqcPkValid (p : Nat) (pk : Bytes) : Bool :=
  decide (byteAt pk (codePk p - 1) < match p with | 0x11 => 2 ^ 5 | 0x12 => 2 ^ 3 | _ => 2 ^ 5)

/-- ENCAPS (R294, R298). -/
def runCodeEncaps (e : Nat) (x : Entry) (n : Nat) (s : State) : Res × State :=
  let p := x.desc.pset
  let mce := isMce p
  let pksrc := bit x.desc.aux 3
  let host := decide (aux x 1 0 = 1)
  let u := usageOr (aux x 16 8) uDERIVE
  let q := { Need.none_ with
    keys := if mce then [mceKeyFails s x e x.desc.key]
            else if pksrc then [slotFails s x.colour x.desc.key (codeKeyIs p true)] else [],
    policy := secretPolicy s x, units := secretUnits x (codeK p), bytes := if mce then 32 else 48,
    uses := if !mce && pksrc then [x.desc.key] else [] }
  checked x n q (fun b t =>
    if mce then
      let pk := (lks? s x.desc.key).map (·.data) |>.getD []
      deliverSecret x host u (primOut (.mceEncapsC p) [pk, b] (codeC p)) (primOut (.mceEncapsK p) [pk, b] 32)
        (codeEncapsCyc p) [] t
    else
      let pk := if pksrc then slotData s x.desc.key else jobInput s x
      if !(hqcPkValid p pk) then (Res.stop .inputInvalid (hqcValid p), t)
      else deliverSecret x host u (primOut (.hqcEncapsC p) [pk, b] (codeC p)) (primOut (.hqcEncapsK p) [pk, b] 64)
        (codeEncapsCyc p) [] t) s

/-- Padding bits of a mceliece6960119 ciphertext: the top five bits of its last byte (R297). -/
def mcePadBad (p : Nat) (c : Bytes) : Bool := decide (p = 7 ∨ p = 8) && decide (8 ≤ byteAt c (codeC p - 1))

/-- DECAPS (R297, R298): every c of the set's length ends OK; a rejection is counted after the record. -/
def runCodeDecaps (x : Entry) (n : Nat) (s : State) : Res × State :=
  let p := x.desc.pset
  let q := { Need.none_ with
    keys := [slotFails s x.colour x.desc.key (codeKeyIs p false)], policy := secretPolicy s x,
    units := secretUnits x (codeK p), mask := true, uses := [x.desc.key] }
  checked x n q (fun _ t =>
    let c := jobInput s x
    let sk := slotData s x.desc.key
    let rejects := mcePadBad p c || Config.primBool (.kemReject 5 p) [sk, c]
    let k := primOut (if isMce p then .mceDecaps p else .hqcDecaps p) [sk, c] (codeK p)
    deliverSecret x (decide (aux x 1 0 = 1)) (usageOr (aux x 16 8) uDERIVE) [] k (codeDecapsCyc p)
      (if rejects then [Obj.PKE_CODE_REJECTS] else []) t) s

/-- CODE_KEM_KEYGEN (R295). -/
def execCodeKemKeygen (e : Nat) (fault : Bool) (s : State) : Host.Outcome State Fault Refusal :=
  .next (sliceRow 0x0501 e fault runCodeKeygen s)

/-- CODE_KEM_ENCAPS (R294). -/
def execCodeKemEncaps (e : Nat) (fault : Bool) (s : State) : Host.Outcome State Fault Refusal :=
  .next (sliceRow 0x0502 e fault (runCodeEncaps e) s)

/-- CODE_KEM_DECAPS (R297). -/
def execCodeKemDecaps (e : Nat) (fault : Bool) (s : State) : Host.Outcome State Fault Refusal :=
  .next (sliceRow 0x0503 e fault runCodeDecaps s)

end Sys2Proof.Machine
end

