-- ==== Sys2Proof/Machine/Curves.lean ====
section
/-!
DEFINITION. The curves of chapter 08 as far as R303 to R308 decide by them: which public points, signatures and private values
are refused.  The curves' numbers are those of the standards that R302 names (SP 800-186, RFC 8032): PRESUMED, log entry 163.
-/
namespace Sys2Proof.Machine

/-- b^e mod n, by squaring; `fuel` is at least the bit length of e. -/
def powMod (n : Nat) : Nat → Nat → Nat → Nat
  | 0, _, _ => 1 % n
  | f + 1, b, e => let h := powMod n f (b * b % n) (e / 2); if e % 2 = 1 then b * h % n else h

/-- The field prime of a curve by its PSET. -/
def curveP (p : Nat) : Nat :=
  match p with
  | 1 => 2 ^ 256 - 2 ^ 224 + 2 ^ 192 + 2 ^ 96 - 1
  | 2 => 2 ^ 384 - 2 ^ 128 - 2 ^ 96 + 2 ^ 32 - 1
  | 3 => 2 ^ 521 - 1
  | 6 => 2 ^ 255 - 19
  | _ => 2 ^ 448 - 2 ^ 224 - 1

/-- The coefficient b of y² = x³ − 3x + b. -/
def curveB (p : Nat) : Nat :=
  match p with
  | 1 => 0x5AC635D8AA3A93E7B3EBBD55769886BC651D06B0CC53B0F63BCE3C3E27D2604B
  | 2 => 0xB3312FA7E23EE7E4988E056BE3F82D19181D9C6EFE8141120314088F5013875AC656398D8A2ED19D2A85C8EDD3EC2AEF
  | _ => 0x51953EB9618E1C9A1F929A21A0B68540EEA2DA725B99B315F3B8B489918EF109E156193951EC7E937B1652C0BD3BB1BF073573DF883D2C34F1EF451FD46B503F00

/-- The order n of the base point, or L of an Edwards curve. -/
def curveN (p : Nat) : Nat :=
  match p with
  | 1 => 0xFFFFFFFF00000000FFFFFFFFFFFFFFFFBCE6FAADA7179E84F3B9CAC2FC632551
  | 2 => 2 ^ 384 - 2 ^ 192 + 0xC7634D81F4372DDF581A0DB248B0A77AECEC196ACCC52973
  | 3 => 2 ^ 521 - 6 * 2 ^ 256 + 0x51868783BF2F966B7FCC0148F709A5D03BB5C9B8899C47AEBB6FB71E91386409
  | 6 => 2 ^ 252 + 27742317777372353535851937790883648493
  | _ => 2 ^ 446 - 13818066809895115352007386748515426880336692474882178609894547503885

/-- Bytes of a coordinate. -/
def curveLen (p : Nat) : Nat := match p with | 1 => 32 | 2 => 48 | 3 => 66 | 6 => 32 | _ => 57

/-! ### Weierstrass points (R303) -/

/-- A Weierstrass public point is refused (R303). -/
def pointOff (p : Nat) (pt : Bytes) : Bool :=
  let m := curveP p
  let x := beNat (slice pt 1 (curveLen p))
  let y := beNat (slice pt (1 + curveLen p) (curveLen p))
  decide (byteAt pt 0 ≠ 4) || decide (m ≤ x ∨ m ≤ y) || decide (y * y % m ≠ (x * x * x + (m - 3) * x + curveB p) % m)

/-! ### Montgomery curves (R306): X25519 and X448 as RFC 7748 computes them -/

/-- Field prime and (A − 2) / 4 of the curve of PSET 4 or 5. -/
def montP (p : Nat) : Nat := if p = 4 then curveP 6 else curveP 7
def montA (p : Nat) : Nat := if p = 4 then 121665 else 39081

/-- Bytes of a scalar, a u coordinate and a secret. -/
def montLen (p : Nat) : Nat := if p = 4 then 32 else 56

/-- The scalar of a private value: its low bits cleared, its top bit set. -/
def montScalar (p : Nat) (d : Bytes) : Nat :=
  let k := leNat (d.take (montLen p))
  if p = 4 then k % 2 ^ 254 / 8 * 8 + 2 ^ 254 else k % 2 ^ 447 / 4 * 4 + 2 ^ 447

/-- The u coordinate of a public value: every value of the right length is one, u ≥ p included; the top bit of X25519's is not used. -/
def montU (p : Nat) (u : Bytes) : Nat :=
  let v := leNat (u.take (montLen p))
  (if p = 4 then v % 2 ^ 255 else v) % montP p

/-- Two points of the ladder, as X and Z each. -/
structure Ladder where
  x2 : Nat
  z2 : Nat
  x3 : Nat
  z3 : Nat
deriving DecidableEq, Repr

/-- The points exchanged where the scalar's bit is set. -/
def Ladder.swapped (l : Ladder) (b : Bool) : Ladder := if b then { x2 := l.x3, z2 := l.z3, x3 := l.x2, z3 := l.z2 } else l

/-- One doubling and one addition. -/
def Ladder.step (m a24 x1 : Nat) (l : Ladder) : Ladder :=
  let a := (l.x2 + l.z2) % m
  let b := (l.x2 + m - l.z2 % m) % m
  let aa := a * a % m
  let bb := b * b % m
  let e := (aa + m - bb) % m
  let da := (l.x3 + m - l.z3 % m) * a % m
  let cb := (l.x3 + l.z3) * b % m
  let s := (da + cb) % m
  let d := (da + m - cb) % m
  { x2 := aa * bb % m, z2 := e * (aa + a24 * e) % m, x3 := s * s % m, z3 := x1 * (d * d) % m }

/-- The ladder over the scalar's bits below `t`, from the top. -/
def ladder (m a24 x1 k : Nat) : Nat → Ladder → Ladder
  | 0, l => l
  | t + 1, l =>
    let b := decide (k / 2 ^ t % 2 = 1)
    ladder m a24 x1 k t (((l.swapped b).step m a24 x1).swapped b)

/-- Scalar times u: the secret of AGREE, the public value of KEYGEN with the base point's u. -/
def montMul (p : Nat) (d u : Bytes) : Bytes :=
  let m := montP p
  let x1 := montU p u
  let l := ladder m (montA p) x1 (montScalar p d) (8 * montLen p) { x2 := 1, z2 := 0, x3 := x1, z3 := 1 }
  leBytes (montLen p) (l.x2 * powMod m 448 l.z2 (m - 2) % m)

/-- The base point's u. -/
def montBase (p : Nat) : Bytes := leBytes (montLen p) (if p = 4 then 9 else 5)

/-! ### ECDSA operands (R305, R316) -/

/-- Bit length of n. -/
def curveBits (p : Nat) : Nat := match p with | 1 => 256 | 2 => 384 | _ => 521

/-- e of FIPS 186-5: the leftmost bits of the digest, as many as n has at most. -/
def ecdsaE (p : Nat) (m : Bytes) : Nat := beNat m / 2 ^ (8 * m.length - min (curveBits p) (8 * m.length))

/-- VERIFY takes s and n − s alike. -/
def ecdsaS (p : Nat) (s : Nat) : Nat := min s (curveN p - s)

/-! ### Edwards points (R304) -/

/-- 1/v in the field; 0 for 0. -/
def curveInv (p v : Nat) : Nat := powMod (curveP p) 448 v (curveP p - 2)

/-- d of an Edwards curve: −121665/121666 of Ed25519, −39081 of Ed448. -/
def edD (p : Nat) : Nat :=
  if p = 6 then (curveP 6 - 121665) * curveInv 6 121666 % curveP 6 else curveP 7 - 39081

/-- Numerator and denominator of x² at y. -/
def edX2 (p y : Nat) : Nat × Nat :=
  let m := curveP p
  ((y * y + m - 1) % m, if p = 6 then (edD p * (y * y) + 1) % m else (edD p * (y * y) + m - 1) % m)

/-- y of twice the point at y: doubling needs x² alone. -/
def edDouble (p y : Nat) : Nat :=
  let m := curveP p
  let q := edX2 p y
  let x2 := q.1 * curveInv p q.2 % m
  let y2 := y * y % m
  if p = 6 then (y2 + x2) * curveInv p ((2 + x2 + m - y2) % m) % m
  else (y2 + m - x2) * curveInv p ((2 + 2 * m - x2 - y2) % m) % m

/-- An encoded point's y, and its sign bit: the top bit. -/
def edY (p : Nat) (b : Bytes) : Nat := leNat (b.take (curveLen p)) % 2 ^ (8 * curveLen p - 1)
def edSign (p : Nat) (b : Bytes) : Bool := decide (leNat (b.take (curveLen p)) / 2 ^ (8 * curveLen p - 1) = 1)

/-- An encoding that names no point (R304): y ≥ p, no x exists, or x is 0 and the sign bit 1. -/
def edUndecodable (p : Nat) (b : Bytes) : Bool :=
  let m := curveP p
  let y := edY p b
  let q := edX2 p y
  decide (m ≤ y) || decide (1 < powMod m 448 (q.1 * q.2 % m) ((m - 1) / 2)) || (decide (q.1 = 0) && edSign p b)

/-- A point of small order (R304): order dividing 8 for Ed25519, 4 for Ed448. -/
def edSmall (p : Nat) (b : Bytes) : Bool :=
  let d := edDouble p (edDouble p (edY p b))
  decide ((if p = 6 then edDouble p d else d) = 1)

/-- A public key of VERIFY, AGREE on a P-curve, or CHECK is refused (R303, R304). -/
def pointBad (p : Nat) (pt : Bytes) : Bool :=
  if p ≤ 3 then pointOff p pt else edUndecodable p pt || edSmall p pt

/-! ### Signatures and private values (R305, R308) -/

/-- A signature that fails by its form (R305): r or s is 0 or ≥ n; R does not decode, or S ≥ L. -/
def eccSigBad (p : Nat) (sig : Bytes) : Bool :=
  let k := curveLen p
  if p ≤ 3 then
    let r := beNat (sig.take k)
    let s := beNat (slice sig k k)
    decide (r = 0 ∨ curveN p ≤ r ∨ s = 0 ∨ curveN p ≤ s)
  else edUndecodable p sig || decide (curveN p ≤ leNat (slice sig k k))

/-- A P-curve private value that is refused (R308). -/
def scalarBad (p : Nat) (b : Bytes) : Bool := decide (beNat b = 0 ∨ curveN p ≤ beNat b)

end Sys2Proof.Machine
end

