-- ==== Sys2Proof/Machine/Classical.lean ====
section
/-!
DEFINITION. Classical operations (chapter 08): elliptic curves and RSA on slices B0–B11.
-/
namespace Sys2Proof.Machine

/-! ### Curves: sizes and counts (R302, R326) -/

/-- P-curves 1–3, Montgomery curves 4 and 5, Edwards curves 6 and 7. -/
def isP (p : Nat) : Bool := decide (1 ≤ p ∧ p ≤ 3)
def isMont (p : Nat) : Bool := decide (p = 4 ∨ p = 5)
def isEd (p : Nat) : Bool := decide (p = 6 ∨ p = 7)

/-- Private value, public key, signature, shared secret, slot units. -/
def eccPrivLen (p : Nat) : Nat := match p with | 1 => 32 | 2 => 48 | 3 => 66 | 4 => 32 | 5 => 56 | 6 => 32 | _ => 57
def eccPubLen (p : Nat) : Nat := match p with | 1 => 65 | 2 => 97 | 3 => 133 | 4 => 32 | 5 => 56 | 6 => 32 | _ => 57
def eccSigLen (p : Nat) : Nat := match p with | 1 => 64 | 2 => 96 | 3 => 132 | 6 => 64 | _ => 114
def eccShareLen (p : Nat) : Nat := match p with | 1 => 32 | 2 => 48 | 3 => 66 | 4 => 32 | _ => 56
def eccUnits (p : Nat) : Nat := match p with | 1 => 18 | 2 => 27 | 3 => 38 | 4 => 1 | 5 => 2 | 6 => 17 | _ => 30

/-- DRBG bytes of KEYGEN and of ECDSA SIGN (R309). -/
def eccDraw (p : Nat) : Nat := match p with | 1 => 40 | 2 => 56 | 3 => 74 | 4 => 32 | 5 => 56 | 6 => 32 | _ => 57

/-- Validation, KEYGEN, SIGN, VERIFY, AGREE counts. -/
def eccValidCyc (p : Nat) : Nat := match p with | 1 => 4000 | 2 => 8000 | 3 => 16000 | 6 => 3000 | _ => 9000
def eccKeygenCyc (p : Nat) : Nat :=
  match p with | 1 => 50000 | 2 => 110000 | 3 => 220000 | 4 => 38000 | 5 => 110000 | 6 => 36000 | _ => 100000
def eccSignCyc (p : Nat) : Nat := match p with | 1 => 60000 | 2 => 130000 | 3 => 260000 | 6 => 40000 | _ => 115000
def eccVerifyCyc (p : Nat) : Nat := match p with | 1 => 110000 | 2 => 240000 | 3 => 480000 | 6 => 80000 | _ => 230000
def eccAgreeCyc (p : Nat) : Nat := match p with | 1 => 55000 | 2 => 120000 | 3 => 240000 | 4 => 38000 | _ => 110000

/-- The extra cycles of an EdDSA message (R318): `n` is the length of M or PH(M) with the context before it. -/
def edExtra (k p mode ctx n : Nat) : Nat :=
  let m := n - ctx
  let l := if p = 6 then (if mode = 0 then m else 34 + ctx + m) else 10 + ctx + m
  let t := if p = 6 then 47 else 21
  if l ≤ t then 0 else if p = 6 then k * 80 * ceilDiv (l - t) 128 else k * 60 * ceilDiv (l - t) 136

/-! ### Curve descriptors (R301, R314, R315) -/

/-- What SIGN requires of its input (R315). -/
def eccSignIn (p mode ctx n : Nat) : Bool :=
  if isP p then decide (20 ≤ n ∧ n ≤ 64) else if mode = 1 then decide (n = ctx + 64) else decide (ctx ≤ n)

/-- Reserved values of the EdDSA fields (R314); every field is reserved for ECDSA. -/
def eccModeBad (p a : Nat) : Bool :=
  let mode := bits a 1 0
  let ctx := bits a 15 8
  if isEd p then
    decide (mode = 3) || (decide (p = 7) && decide (mode = 2)) || (decide (p = 6) && decide (mode = 0 ∧ ctx ≠ 0)) ||
      decide (mode = 2 ∧ ctx = 0)
  else decide (mode ≠ 0 ∨ ctx ≠ 0)

/-- The curve commands' descriptors. -/
def eccSpec (d : Desc) : Option CmdSpec :=
  let a := d.aux
  let p := d.pset
  let pksrc := bit a 3
  let mode := bits a 1 0
  let ctx := bits a 15 8
  let host := decide (mode = 1)
  let res := fun (auxBad keyRes key2Res aux2Res : Bool) =>
    firstField [(offKEY, d.key, keyRes), (offKEY2, d.key2, key2Res), (offAUX, (if auxBad then 1 else 0), true),
      (offAUX2, d.aux2, aux2Res)]
  match d.opcode with
  | 0x0601 => some (mkSpec d (res (decide (bits a 63 17 ≠ 0 ∨ bits a 7 0 ≠ 0)) true true false) (decide (1 ≤ p ∧ p ≤ 7))
      (decide (inputLen d = 0)) (eccPubLen p) (eccKeygenCyc p))
  | 0x0604 => some (mkSpec d (res (decide (bits a 63 16 ≠ 0 ∨ bits a 7 2 ≠ 0) || eccModeBad p a) false true true) (isP p || isEd p)
      (eccSignIn p mode ctx (inputLen d)) (eccSigLen p)
      (eccSignCyc p + if isEd p then edExtra 2 p mode ctx (inputLen d) else 0))
  | 0x0605 =>
    let head := (if pksrc then 0 else eccPubLen p) + eccSigLen p
    let n := inputLen d - head
    some (mkSpec d (res (decide (bits a 63 16 ≠ 0 ∨ bits a 7 4 ≠ 0) || bit a 2 || eccModeBad p a) (!pksrc) true true)
      (isP p || isEd p) (decide (head ≤ inputLen d) && eccSignIn p mode ctx n) 0
      (eccVerifyCyc p + if isEd p then edExtra 1 p mode ctx n else 0))
  | 0x0606 => some (mkSpec d
      (res (decide (bits a 63 17 ≠ 0 ∨ bits a 7 4 ≠ 0) || bit a 2 || bit a 1 || (host && decide (bits a 16 8 ≠ 0))) false (!pksrc) host)
      (isP p || isMont p) (decide (inputLen d = if pksrc then 0 else eccPubLen p)) (if host then eccShareLen p else 0)
      (eccAgreeCyc p))
  | 0x0607 => some (mkSpec d (res (decide (a ≠ 0)) true true true) (isP p || isEd p) (decide (inputLen d = eccPubLen p)) 0
      (eccValidCyc p))
  | _ => none

/-! ### Curve commands -/

/-- A mask that mixes the groups of R310: signing bits or the other group's bit, with EXPORT. -/
def groupBad (u other : Nat) : Bool := usageBad u (uSIGN + uVERIFY + uEXPORT) && usageBad u (other + uEXPORT)

/-- Usage policy and default of a curve KEYGEN (R310). -/
def eccUsageBad (p u : Nat) : Bool :=
  if isP p then groupBad u uAGREE else if isMont p then usageBad u (uAGREE + uEXPORT) else usageBad u (uSIGN + uVERIFY + uEXPORT)
def eccUsage (p u : Nat) : Nat := usageOr u (if isMont p then uAGREE else uSIGN + uVERIFY)

/-- A curve's public key of a private value. -/
def eccPublic (p : Nat) (d : Bytes) : Bytes := if isMont p then montMul p d (montBase p) else primOut (.eccPub p) [d] (eccPubLen p)

/-- The shared secret of a private value and a peer's share (R302, R306): on a Montgomery curve it is all zero exactly where u is a
small-order value. -/
def eccShared (p : Nat) (d u : Bytes) : Bytes := if isMont p then montMul p d u else primOut (.eccAgree p) [d, u] (eccShareLen p)

/-- A signature over a digest (ECDSA) or a message (EdDSA), with the random bytes drawn and the mode and context length (R316). -/
def eccSignature (p : Nat) (d m rnd mode : Bytes) : Bytes :=
  primOut (.eccSign p) [d, if isP p then beBytes 66 (ecdsaE p m) else m, rnd, mode] (eccSigLen p)

/-- A signature verifies (R305, R316): one that R305 refuses does not. -/
def eccVerifies (p : Nat) (pk m sig mode : Bytes) : Bool :=
  !(eccSigBad p sig) && (if isP p then
      let n := eccSigLen p / 2
      Config.primBool (.eccVerify p) [pk, beBytes 66 (ecdsaE p m), sig.take n, beBytes 66 (ecdsaS p (beNat (slice sig n n))), mode]
    else Config.primBool (.eccVerify p) [pk, m, sig.take (eccSigLen p), mode])

/-- KEYGEN (R309): the private value from the draw. -/
def runEccKeygen (x : Entry) (n : Nat) (s : State) : Res × State :=
  let p := x.desc.pset
  let q := { Need.none_ with policy := eccUsageBad p (aux x 16 8), units := some (eccUnits p), bytes := eccDraw p, mask := true }
  checked x n q (fun b t =>
    let d := if isP p then primOut (.eccPriv p) [b] (eccPrivLen p) else b
    deliverKey x 6 (eccUsage p (aux x 16 8)) (eccUnits p) (eccPublic p d) d (eccKeygenCyc p) t) s

/-- SIGN (R313, R316). -/
def runEccSign (x : Entry) (n : Nat) (s : State) : Res × State :=
  let p := x.desc.pset
  let q := { Need.none_ with
    keys := [slotFails s x.colour x.desc.key (keyIs 6 p uSIGN false)], bytes := if isP p then eccDraw p else 0, mask := true,
    uses := [x.desc.key] }
  checked x n q (fun b t =>
    let m := jobInput s x
    (Res.ok (eccSignature p (slotData s x.desc.key) m b (leBytes 2 (aux x 15 0)))
      (eccSignCyc p + if isEd p then edExtra 2 p (aux x 1 0) (aux x 15 8) m.length else 0), t)) s

/-- VERIFY (R303–R305). -/
def runEccVerify (x : Entry) (n : Nat) (s : State) : Res × State :=
  let p := x.desc.pset
  let pksrc := bit x.desc.aux 3
  let q := { Need.none_ with
    keys := if pksrc then [slotFails s x.colour x.desc.key (keyIs 6 p uVERIFY true)] else [],
    uses := if pksrc then [x.desc.key] else [] }
  checked x n q (fun _ t =>
    let b := jobInput s x
    let pk := if pksrc then slotData s x.desc.key else b.take (eccPubLen p)
    let r := if pksrc then b else b.drop (eccPubLen p)
    let m := r.drop (eccSigLen p)
    let cyc := eccVerifyCyc p + if isEd p then edExtra 1 p (aux x 1 0) (aux x 15 8) m.length else 0
    if pointBad p pk then (Res.stop .inputInvalid (eccValidCyc p), t)
    else if eccVerifies p pk m r (leBytes 2 (aux x 15 8 * 256 + aux x 1 0)) then (Res.ok [] cyc, t)
    else (Res.stop .verifyFail cyc, t)) s

/-- The zero-secret check is turned off for a colour (R307). -/
def xzeroOff (s : State) (colour : Nat) : Bool :=
  if 0x1000 ≤ colour ∧ colour < 0x2000 then bit (objVal s Obj.PKE_XZERO_OFF) (colour - 0x1000)
  else decide (colour = 0x0002) && decide (objVal s Obj.PKE_XZERO_OFF_MGMT = 1)

/-- AGREE (R303, R306, R307). -/
def runEccAgree (x : Entry) (n : Nat) (s : State) : Res × State :=
  let p := x.desc.pset
  let pksrc := bit x.desc.aux 3
  let q := { Need.none_ with
    keys := slotFails s x.colour x.desc.key (keyIs 6 p uAGREE false) ::
      (if pksrc then [slotFails s x.colour x.desc.key2 (keyIs 6 p uAGREE true)] else []),
    policy := secretPolicy s x, units := secretUnits x (eccShareLen p), mask := true,
    uses := x.desc.key :: (if pksrc then [x.desc.key2] else []) }
  checked x n q (fun _ t =>
    let peer := if pksrc then slotData s x.desc.key2 else jobInput s x
    if isP p && pointBad p peer then (Res.stop .inputInvalid (eccValidCyc p), t)
    else
      let z := eccShared p (slotData s x.desc.key) peer
      if isMont p && allZero z && (isGraft x || !(xzeroOff s x.colour)) then
        ({ Res.stop .resultRejected (eccAgreeCyc p) with late := [Obj.PKE_XZERO_HITS] }, t)
      else deliverSecret x (decide (aux x 1 0 = 1)) (usageOr (aux x 16 8) uDERIVE) [] z (eccAgreeCyc p) [] t) s

/-- CHECK (R303, R304). -/
def runEccCheck (x : Entry) (_ : Nat) (s : State) : Res × State :=
  let p := x.desc.pset
  (if pointBad p (jobInput s x) then Res.stop .inputInvalid (eccValidCyc p) else Res.ok [] (eccValidCyc p), s)

/-- ECC_KEYGEN (R309). -/
def execEccKeygen (e : Nat) (fault : Bool) (s : State) : Host.Outcome State Fault Refusal :=
  .next (sliceRow 0x0601 e fault runEccKeygen s)

/-- ECC_SIGN (R313). -/
def execEccSign (e : Nat) (fault : Bool) (s : State) : Host.Outcome State Fault Refusal :=
  .next (sliceRow 0x0604 e fault runEccSign s)

/-- ECC_VERIFY (R305). -/
def execEccVerify (e : Nat) (fault : Bool) (s : State) : Host.Outcome State Fault Refusal :=
  .next (sliceRow 0x0605 e fault runEccVerify s)

/-- ECC_AGREE (R307). -/
def execEccAgree (e : Nat) (fault : Bool) (s : State) : Host.Outcome State Fault Refusal :=
  .next (sliceRow 0x0606 e fault runEccAgree s)

/-- ECC_CHECK (R303). -/
def execEccCheck (e : Nat) (s : State) : Host.Outcome State Fault Refusal :=
  .next (sliceRow 0x0607 e false runEccCheck s)

/-! ### RSA: sizes, counts, arithmetic (R319, R320, R327) -/

/-- The defined sets and the modulus length in bytes. -/
def rsaPset (p : Nat) : Bool := decide (p = 0x08 ∨ p = 0x0C ∨ p = 0x10 ∨ p = 0x18 ∨ p = 0x20)
def rsaK (p : Nat) : Nat := 32 * p

/-- A private slot's bytes: n, e, p, q, dP, dQ, qInv (R320). -/
def rsaSlotLen (p : Nat) : Nat := 7 * rsaK p / 2 + 4

def rsaValidCyc (p : Nat) : Nat := match p with | 0x08 => 1500 | 0x0C => 2000 | 0x10 => 2500 | 0x18 => 3500 | _ => 4500
def rsaPubCyc (p : Nat) : Nat := match p with | 0x08 => 30000 | 0x0C => 62000 | 0x10 => 105000 | 0x18 => 230000 | _ => 400000
def rsaPrivCyc (p : Nat) : Nat :=
  match p with | 0x08 => 360000 | 0x0C => 1100000 | 0x10 => 2400000 | 0x18 => 7300000 | _ => 16000000
/-- F, A, resume pages and slot units of KEYGEN (R327). -/
def rsaKeygen (p : Nat) : Nat × Nat × Nat × Nat :=
  match p with
  | 0x08 => (2400000, 380000, 4, 15)
  | 0x0C => (7000000, 1150000, 6, 22)
  | 0x10 => (15000000, 2937500, 8, 29)
  | 0x18 => (45000000, 9500000, 12, 43)
  | _ => (100000000, 21000000, 16, 57)

/-- hLen of HASH (R321). -/
def rsaHLen (h : Nat) : Nat := match h with | 1 => 32 | 2 => 48 | _ => 64

/-- The public operation. -/
def rsaPublic (n e m : Nat) : Nat := powMod n 32 (m % n) e

/-- The fields of a private slot (R320). -/
structure RsaKey where
  n : Nat
  e : Nat
  p : Nat
  q : Nat
  dP : Nat
  dQ : Nat
  qInv : Nat
deriving DecidableEq, Repr

/-- Read a private slot of modulus length `k` bytes. -/
def rsaRead (k : Nat) (b : Bytes) : RsaKey :=
  let h := k / 2
  { n := beNat (slice b 0 k), e := beNat (slice b k 4), p := beNat (slice b (k + 4) h), q := beNat (slice b (k + 4 + h) h),
    dP := beNat (slice b (k + 4 + 2 * h) h), dQ := beNat (slice b (k + 4 + 3 * h) h),
    qInv := beNat (slice b (k + 4 + 4 * h) h) }

/-- The private operation by the Chinese remainder theorem (RFC 8017). -/
def rsaPrivate (k : Nat) (v : RsaKey) (c : Nat) : Nat :=
  let m1 := powMod v.p (4 * k) (c % max v.p 1) v.dP
  let m2 := powMod v.q (4 * k) (c % max v.q 1) v.dQ
  let h := v.qInv * (m1 + v.p - m2 % max v.p 1) % max v.p 1
  m2 + h * v.q

/-- A public key from the input is refused (R323): n even, its top bit zero, e even or below 3. -/
def rsaPubBad (k n e : Nat) : Bool := decide (n % 2 = 0 ∨ n < 2 ^ (8 * k - 1) ∨ e % 2 = 0 ∨ e < 3)

/-- An integer to be raised to a power lies outside 2 to n − 2 (R323). -/
def rsaIntBad (n m : Nat) : Bool := decide (m < 2 ∨ n < m + 2)

/-! ### RSA descriptors (R319–R322) -/

/-- HASH and PAD do not go together (R321, R322). -/
def rsaHashBad (pad h : Nat) : Bool := if pad = 0 then decide (h ≠ 0) else decide (h = 0 ∨ 3 < h)

/-- The RSA commands' descriptors. -/
def rsaSpec (legacy : Bool) (d : Desc) : Option CmdSpec :=
  let a := d.aux
  let p := d.pset
  let k := rsaK p
  let pksrc := bit a 3
  let pad := bits a 5 4
  let hash := bits a 31 24
  let hl := rsaHLen hash
  let host := decide (bits a 1 0 = 1)
  let klen := bits a 39 32
  let gap := decide (bits a 63 40 ≠ 0 ∨ bits a 23 17 ≠ 0 ∨ bits a 7 6 ≠ 0) || bit a 2
  let pub := if pksrc then 0 else k + 4
  let res := fun (auxBad keyRes aux2Res : Bool) =>
    firstField [(offKEY, d.key, keyRes), (offKEY2, d.key2, true), (offAUX, (if auxBad then 1 else 0), true),
      (offAUX2, d.aux2, aux2Res)]
  match d.opcode with
  | 0x0701 =>
    let c := mkSpec d (res (decide (bits a 63 17 ≠ 0 ∨ bits a 7 0 ≠ 0)) true false) (rsaPset p) (decide (inputLen d = 0)) (k + 4)
      ((rsaKeygen p).1 + (rsaKeygen p).2.1)
    some { c with resume := (rsaKeygen p).2.2.1 }
  | 0x0704 => some (mkSpec d
      (res (gap || decide (klen ≠ 0 ∨ bits a 16 8 ≠ 0 ∨ bits a 3 0 ≠ 0 ∨ pad = 3) || rsaHashBad pad hash) false true)
      (rsaPset p) (decide (inputLen d = if pad = 0 then k else hl)) k (rsaPrivCyc p))
  | 0x0705 => some (mkSpec d
      (res (gap || decide (klen ≠ 0 ∨ bits a 16 8 ≠ 0 ∨ bits a 2 0 ≠ 0 ∨ pad = 3) || rsaHashBad pad hash) (!pksrc) true)
      (rsaPset p) (decide (inputLen d = pub + k + if pad = 0 then k else hl)) 0 (rsaPubCyc p))
  | 0x0708 => some (mkSpec d
      (res (gap || decide (klen ≠ 0 ∨ bits a 16 8 ≠ 0 ∨ bits a 2 0 ≠ 0 ∨ pad = 1 ∨ pad = 2) || rsaHashBad pad hash) (!pksrc) true)
      (rsaPset p)
      (if pad = 0 then decide (inputLen d = pub + k) else decide (pub ≤ inputLen d ∧ inputLen d + 2 * hl + 2 ≤ pub + k)) k
      (rsaPubCyc p))
  | 0x0709 =>
    let slotDest := decide (bits a 1 0 = 0)
    let bad := gap || decide (pad = 1 ∨ pad = 2) || rsaHashBad pad hash || bit a 3 || bit a 1 || (slotDest && decide (pad = 0)) ||
      (if slotDest && decide (pad = 3) then decide (klen < 16 ∨ 64 < klen) else decide (klen ≠ 0)) ||
      (!slotDest && decide (bits a 16 8 ≠ 0))
    let c := mkSpec d (if legacy then res false false true else res bad false (!slotDest)) (rsaPset p) (decide (inputLen d = k))
      (if legacy then 0 else if pad = 0 then k else if host then k - 2 * hl - 2 else 0) (rsaPrivCyc p)
    some { c with noLegacy := true }
  | _ => none

/-! ### RSA commands -/

/-- Usage of a new RSA key (R310). -/
def rsaUsageBad (u : Nat) : Bool := groupBad u uKEM

/-- The larger and the smaller prime of a new key (R325): FIPS 186-5 gives both at least √2 · 2^(4k − 1), they differ by more than
2^(4k − 100), and which of them the device calls p is open; primality itself is uninterpreted. -/
def rsaPrimes (p : Nat) (seed : Bytes) : Nat × Nat :=
  let k := rsaK p
  let gap := 2 ^ (4 * k - 100)
  let low := 1518500250 * 2 ^ (4 * k - 31)
  let top := 2 ^ (4 * k)
  let b := primOut (.rsaKeygen p) [seed] k
  let q := low + beNat (b.take (k / 2)) % (top - gap - 1 - low)
  (q + gap + 1 + beNat (b.drop (k / 2)) % (top - gap - 1 - q), q)

/-- 65,537⁻¹ modulo v, for v prime to it. -/
def rsaInv (v : Nat) : Nat := (1 + v * (65537 - powMod 65537 17 (v % 65537) 65535)) / 65537

/-- The private slot of two primes with e = 65,537 (R320, R325): n = pq, dP, dQ and qInv as RFC 8017 has them. -/
def rsaPrivSlot (p : Nat) (pq : Nat × Nat) : Bytes :=
  let k := rsaK p
  let h := k / 2
  beBytes k (pq.1 * pq.2) ++ beBytes 4 65537 ++ beBytes h pq.1 ++ beBytes h pq.2 ++ beBytes h (rsaInv (pq.1 - 1)) ++
    beBytes h (rsaInv (pq.2 - 1)) ++ beBytes h (powMod pq.1 (4 * k) (pq.2 % pq.1) (pq.1 - 2))

/-- What the key check of RSA KEYGEN needs (R310, R325). -/
def rsaKeygenNeed (x : Entry) : Need :=
  { Need.none_ with policy := rsaUsageBad (aux x 16 8), units := some (rsaKeygen x.desc.pset).2.2.2, bytes := 32, mask := true }

/-- KEYGEN (R325): e = 65,537; T candidates tested for both primes, two at least. -/
def runRsaKeygen (x : Entry) (n : Nat) (s : State) : Res × State :=
  let p := x.desc.pset
  let k := rsaK p
  checked x n (rsaKeygenNeed x) (fun b t =>
    let tries := 2 + Config.primNat (.rsaKeygen p) [b]
    let priv := rsaPrivSlot p (rsaPrimes p b)
    let pub := priv.take (k + 4)
    let r := deliverKey x 7 (usageOr (aux x 16 8) (uSIGN + uVERIFY)) (rsaKeygen p).2.2.2 pub priv
      ((rsaKeygen p).1 + tries * (rsaKeygen p).2.1) t
    ({ r.1 with release := fun v =>
        r.1.release (setObj Obj.PKE_RSA_T_MAX (max tries (objVal v Obj.PKE_RSA_T_MAX) % 2 ^ 32) v) }, r.2)) s

/-- SIGN (R322, R323). -/
def runRsaSign (x : Entry) (n : Nat) (s : State) : Res × State :=
  let p := x.desc.pset
  let k := rsaK p
  let pad := aux x 5 4
  let hash := aux x 31 24
  let q := { Need.none_ with
    keys := [slotFails s x.colour x.desc.key (keyIs 7 p uSIGN false)], bytes := if pad = 2 then rsaHLen hash else 0,
    mask := true, uses := [x.desc.key] }
  checked x n q (fun salt t =>
    let v := rsaRead k (slotData s x.desc.key)
    let b := jobInput s x
    if pad = 0 ∧ rsaIntBad v.n (beNat b) then (Res.stop .inputInvalid (rsaValidCyc p), t)
    else
      let em := if pad = 0 then b else primOut (.rsaPad pad) [leBytes 1 hash, b, salt] k
      (Res.ok (beBytes k (rsaPrivate k v (beNat em))) (rsaPrivCyc p), t)) s

/-- The public key of VERIFY and ENCRYPT: from the slot or the front of the input; the rest of the input. -/
def rsaPublicOf (s : State) (x : Entry) : Nat × Nat × Bytes :=
  let k := rsaK x.desc.pset
  let b := jobInput s x
  if bit x.desc.aux 3 then
    let d := slotData s x.desc.key
    (beNat (slice d 0 k), beNat (slice d k 4), b)
  else (beNat (slice b 0 k), beNat (slice b k 4), b.drop (k + 4))

/-- VERIFY (R322, R323): s ≥ n ends VERIFY_FAIL after the full count. -/
def runRsaVerify (x : Entry) (n : Nat) (s : State) : Res × State :=
  let p := x.desc.pset
  let k := rsaK p
  let pad := aux x 5 4
  let hash := aux x 31 24
  let pksrc := bit x.desc.aux 3
  let q := { Need.none_ with
    keys := if pksrc then [slotFails s x.colour x.desc.key (keyIs 7 p uVERIFY true)] else [],
    uses := if pksrc then [x.desc.key] else [] }
  checked x n q (fun _ t =>
    let v := rsaPublicOf s x
    if !pksrc && rsaPubBad k v.1 v.2.1 then (Res.stop .inputInvalid (rsaValidCyc p), t)
    else
      let sig := beNat (v.2.2.take k)
      let m := v.2.2.drop k
      let em := rsaPublic v.1 v.2.1 sig
      let good :=
        match pad with
        | 0 => decide (em = beNat m)
        | 1 => decide (em = beNat (primOut (.rsaPad 1) [leBytes 1 hash, m, []] k))
        | _ => Config.primBool (.rsaUnpad 2) [leBytes 1 hash, beBytes k em, m]
      (if decide (sig < v.1) && good then Res.ok [] (rsaPubCyc p) else Res.stop .verifyFail (rsaPubCyc p), t)) s

/-- ENCRYPT (R322, R323). -/
def runRsaEncrypt (x : Entry) (n : Nat) (s : State) : Res × State :=
  let p := x.desc.pset
  let k := rsaK p
  let pad := aux x 5 4
  let hash := aux x 31 24
  let pksrc := bit x.desc.aux 3
  let q := { Need.none_ with
    keys := if pksrc then [slotFails s x.colour x.desc.key (keyIs 7 p uKEM true)] else [],
    bytes := if pad = 3 then rsaHLen hash else 0, uses := if pksrc then [x.desc.key] else [] }
  checked x n q (fun seed t =>
    let v := rsaPublicOf s x
    if (!pksrc && rsaPubBad k v.1 v.2.1) || (decide (pad = 0) && rsaIntBad v.1 (beNat v.2.2)) then
      (Res.stop .inputInvalid (rsaValidCyc p), t)
    else
      let em := if pad = 0 then v.2.2 else primOut (.rsaPad 3) [leBytes 1 hash, v.2.2, seed] k
      (Res.ok (beBytes k (rsaPublic v.1 v.2.1 (beNat em))) (rsaPubCyc p), t)) s

/-- DECRYPT (R323, R324). -/
def runRsaDecrypt (x : Entry) (n : Nat) (s : State) : Res × State :=
  let p := x.desc.pset
  let k := rsaK p
  let pad := aux x 5 4
  let hash := aux x 31 24
  let klen := aux x 39 32
  let host := decide (aux x 1 0 = 1)
  let q := { Need.none_ with
    keys := [slotFails s x.colour x.desc.key (keyIs 7 p uKEM false)], policy := secretPolicy s x,
    units := secretUnits x 64, mask := true, uses := [x.desc.key] }
  checked x n q (fun _ t =>
    let v := rsaRead k (slotData s x.desc.key)
    let c := beNat (jobInput s x)
    if rsaIntBad v.n c then (Res.stop .inputInvalid (rsaValidCyc p), t)
    else
      let em := beBytes k (rsaPrivate k v c)
      if pad = 0 then (Res.ok em (rsaPrivCyc p), t)
      else
        let args := [leBytes 1 hash, em]
        let len := Config.primNat (.rsaUnpad 3) args % (k - 2 * rsaHLen hash - 1)
        if !(Config.primBool (.rsaUnpad 3) args) || (!host && decide (len ≠ klen)) then
          ({ Res.stop .verifyFail (rsaPrivCyc p) with late := [Obj.PKE_OAEP_FAILS] }, t)
        else deliverSecret x host (usageOr (aux x 16 8) uDERIVE) [] (primOut (.rsaUnpad 3) args len) (rsaPrivCyc p) [] t) s

/-- RSA_KEYGEN (R325). -/
def execRsaKeygen (e : Nat) (fault : Bool) (s : State) : Host.Outcome State Fault Refusal :=
  .next (sliceRow 0x0701 e fault runRsaKeygen s)

/-- RSA_SIGN (R322). -/
def execRsaSign (e : Nat) (fault : Bool) (s : State) : Host.Outcome State Fault Refusal :=
  .next (sliceRow 0x0704 e fault runRsaSign s)

/-- RSA_VERIFY (R322). -/
def execRsaVerify (e : Nat) (fault : Bool) (s : State) : Host.Outcome State Fault Refusal :=
  .next (sliceRow 0x0705 e fault runRsaVerify s)

/-- RSA_ENCRYPT (R322). -/
def execRsaEncrypt (e : Nat) (fault : Bool) (s : State) : Host.Outcome State Fault Refusal :=
  .next (sliceRow 0x0708 e fault runRsaEncrypt s)

/-- RSA_DECRYPT (R324). -/
def execRsaDecrypt (e : Nat) (fault : Bool) (s : State) : Host.Outcome State Fault Refusal :=
  .next (sliceRow 0x0709 e fault runRsaDecrypt s)

end Sys2Proof.Machine
end

