-- ==== Sys2Proof/Machine/KeyReg.lean ====
section
/-!
DEFINITION. The key manager's commands, lifetimes, mask refresh, erasure and officer-card fill (chapter 09).
-/
namespace Sys2Proof.Machine

/-! ### Roots (R345, R355) -/

/-- A unit-root slot whose check matches and whose 256 bits are not all zero or all one (R562). -/
def rootValid (b : Bytes) : Bool :=
  let k := b.take 32
  decide (b.drop 32 = (sha3_256 k).take 4) && k.any (fun x => x ≠ 0) && k.any (fun x => x ≠ 0xFF)

/-- The unit root (R562): the first valid slot; empty where neither is. -/
def unitRoot (o : Otp) : Bytes :=
  if rootValid o.root0 then o.root0.take 32 else if rootValid o.root1 then o.root1.take 32 else []

/-- The root in use: the unit root, or the test root (a ROM constant whose value the spec does not list). -/
def rootInUse (s : State) : Bytes :=
  if s.lc.root = 1 then unitRoot s.lc.otp else (List.range 32).map (Config.romByte 1)

/-- The KMAC state after the key block: key and customisation string (SP 800-185, R368). -/
def kmacState (bits : Nat) (k label : Bytes) : Bytes := primOut (.chain (if bits = 128 then 0x0E else 0x0F)) [k, label] 200

/-- KMAC from that state: `n` bytes of an output of `l` bits, 0 for KMACXOF. -/
def kmacOf (bits : Nat) (st x : Bytes) (l n : Nat) : Bytes := primOut (.kmac bits) [st, x, leBytes 8 l] n

/-- KMAC256 (SP 800-185) with 256-bit output. -/
def kmac256 (k x label : Bytes) : Bytes := kmacOf 256 (kmacState 256 k label) x 256 32

/-- The unit wrap key (R345). -/
def unitWrapKey (s : State) : Bytes := kmac256 (rootInUse s) [] (ascii "ZKUW")

/-! ### Directory entries (R332) -/

/-- STATE byte of a slot (R332). -/
def slotStateByte (v : Slot) : Nat :=
  (match v.st with | .empty => 0 | .loading => 1 | .active => 2 | .retired => 3) + 4 * b2n v.persist + 8 * b2n v.isPublic +
    16 * b2n v.stateful

/-- Directory bytes 0–7 and 12–17 (R332). -/
def dirHead (v : Slot) : Bytes :=
  leBytes 2 v.owner ++ leBytes 1 v.alg ++ leBytes 1 v.pset ++ leBytes 2 v.usage ++ leBytes 1 (slotStateByte v) ++ leBytes 1 v.origin
def dirExpiry (v : Slot) : Bytes := leBytes 6 v.expiry

/-- A directory entry's 24 bytes (R332). -/
def entryBytes (v : Slot) : Bytes :=
  dirHead v ++ leBytes 2 v.base ++ leBytes 2 v.units ++ dirExpiry v ++ leBytes 6 (v.seed * 2 ^ 20 + v.accesses)

/-- A slot as 24 bytes of a directory entry have it. -/
def entrySlot (v : Slot) (b : Bytes) : Slot :=
  let st := byteAt b 6
  let m := field b 18 6
  { v with owner := field b 0 2, alg := byteAt b 2, pset := byteAt b 3, usage := field b 4 2,
           st := match st % 4 with
             | 1 => .loading
             | 2 => .active
             | 3 => .retired
             | _ => .empty,
           persist := bit st 2, isPublic := bit st 3, stateful := bit st 4, origin := byteAt b 7, base := field b 8 2,
           units := field b 10 2, expiry := field b 12 6, seed := m / 2 ^ 20, accesses := m % 2 ^ 20 }

/-! ### The archive journal (R355–R360) -/

/-- The archive can be written: BBRAM is reached, a KEK is held, and the archive is neither HELD nor UNUSABLE. -/
def archiveOpen (s : State) : Bool :=
  bbramOpen s && !s.kreg.kek.isEmpty && !s.lc.debugOpen && decide (objVal s Obj.KREG_ARCH_STATE ≠ 2) &&
    decide (objVal s Obj.KREG_ARCH_STATE ≠ 3)

/-- The archive key AK (R355). -/
def archKey (s : State) : Bytes := kmac256 s.kreg.kek (unitRoot s.lc.otp) (ascii "ZKAR")

/-- The check value of AK in a half's header (R356), whose form is not stated. -/
def archCheck (ak : Bytes) : Bytes := primOut .unitConst [ascii "archive check", ak] 16

/-- A half's serial, and whether it is COMPLETE with a check value that verifies (R356, R360). -/
def halfSerial (b : Bytes) : Nat := field b 4 4
def halfGood (s : State) (b : Bytes) : Bool :=
  decide (b.take 4 = [0x5A, 0x4B, 0x41, 0x52] ∧ byteAt b 63 = 1 ∧ slice b 8 16 = archCheck (archKey s)) && !s.kreg.kek.isEmpty

/-- Key data of a record (R356). -/
def recPlain : ArchRec → Bytes
  | .addSlot _ _ x => x.data
  | .addLks _ _ x => x.data
  | _ => []

/-- Bytes of a record: 56 and the key data of an ADD (R356). -/
def recordLen (r : ArchRec) : Nat := 56 + (recPlain r).length

/-- STATE byte of an LKS entry (R354), and its 16 bytes. -/
def lksStateByte (x : LksEntry) : Nat := x.state % 4 + 4 * b2n x.persist
def lksBytes (x : LksEntry) : Bytes :=
  leBytes 2 x.owner ++ leBytes 1 x.alg ++ leBytes 1 x.pset ++ leBytes 2 x.usage ++ leBytes 1 (lksStateByte x) ++ leBytes 1 x.kind ++
    leBytes 2 (x.extents.headD 0) ++ leBytes 2 x.extents.length ++ leBytes 4 x.length

/-- KIND, SERIAL, HANDLE and ENTRY of a record (R356). -/
def recFields : ArchRec → Nat × Nat × Nat × Bytes
  | .addSlot n h x => (1, n, h, dirHead x ++ leBytes 2 0 ++ leBytes 2 x.units ++ dirExpiry x)
  | .addLks n h x => (2, n, h, lksBytes x ++ zeros 2)
  | .dropSlot n h => (3, n, h, zeros 18)
  | .dropLks n h => (4, n, h, zeros 18)
  | .dropColour n c => (5, n, c, zeros 18)

/-- Bytes 0–39 of a record. -/
def recHead (r : ArchRec) : Bytes :=
  let f := recFields r
  leBytes 4 (recordLen r) ++ leBytes 1 f.1 ++ zeros 3 ++ leBytes 8 f.2.1 ++ leBytes 2 f.2.2.1 ++ fitBytes 18 f.2.2.2 ++ zeros 4

/-- A record's nonce: 4 zero bytes and its SERIAL. -/
def recNonce (serial : Nat) : Bytes := zeros 4 ++ leBytes 8 serial

/-- A record sealed under AK (R356). -/
def sealRec (ak : Bytes) (r : ArchRec) : Bytes :=
  let n := recNonce (recFields r).2.1
  let ct := gcmXor ak n (recPlain r)
  recHead r ++ ct ++ gcmTag ak n (recHead r) ct

/-- A fresh slot, as an entry's bytes and its key data have it. -/
def slotOf (b data : Bytes) : Slot :=
  entrySlot { owner := 0, alg := 0, pset := 0, usage := 0, st := .empty, persist := false, isPublic := false, stateful := false,
              origin := 0, base := 0, units := 0, expiry := 0, seed := 0, accesses := 0, refreshedAt := 0, retiredAt := none,
              data := data, pub := [] } b

/-- A record as its bytes have it; none where the tag fails or KIND is none of the five. -/
def openRec (ak b : Bytes) : Option ArchRec :=
  let hd := b.take 40
  let n := field b 8 8
  let h := field b 16 2
  let e := slice b 18 18
  let ct := slice b 40 (b.length - 56)
  let data := gcmXor ak (recNonce n) ct
  if b.drop (b.length - 16) ≠ gcmTag ak (recNonce n) hd ct then none
  else match byteAt b 4 with
    | 1 => some (.addSlot n h (slotOf e data))
    | 2 => some (.addLks n h { owner := field e 0 2, alg := byteAt e 2, pset := byteAt e 3, usage := field e 4 2,
                               state := byteAt e 6 % 4, persist := bit (byteAt e 6) 2, kind := byteAt e 7,
                               extents := List.range' (field e 8 2) (field e 10 2), length := field e 12 4, data := data })
    | 3 => some (.dropSlot n h)
    | 4 => some (.dropLks n h)
    | 5 => some (.dropColour n h)
    | _ => none

/-- How the reading of a journal ends (R360). -/
inductive JournalEnd where
  | clean | torn | damaged
deriving DecidableEq, Repr

/-- The records of a journal's bytes, and how the reading ends (R360): a record cut short at the end is ignored, an earlier one whose tag
fails stops it; `bad` is the place of a record whose tag fails as it is read.  DEDUCED: a last record whose tag fails is one cut short. -/
def readJournal (ak : Bytes) : Nat → Option Nat → Bytes → List ArchRec × JournalEnd
  | 0, _, _ => ([], .clean)
  | k + 1, bad, b =>
    let l := field b 0 4
    if b.isEmpty then ([], .clean)
    else if b.length < 56 ∨ l < 56 ∨ b.length < l then ([], .torn)
    else match if bad = some 0 then none else openRec ak (b.take l) with
      | none => ([], if b.length = l then .torn else .damaged)
      | some r =>
        let q := readJournal ak k (bad.map (· - 1)) (b.drop l)
        (r :: q.1, q.2)

/-- The journal of a half. -/
def halfJournal (s : State) (bad : Option Nat) (b : Bytes) : List ArchRec × JournalEnd :=
  readJournal (archKey s) b.length bad (b.drop 64)
def halfRecs (s : State) (b : Bytes) : List ArchRec := (halfJournal s none b).1

/-- The active half, where it is not blank. -/
def activeHalf (s : State) : Option Bytes :=
  let b := if s.kreg.activeB then s.kreg.halfB else s.kreg.halfA
  if b.isEmpty then none else some b

/-- Put a half into the area of the active half. -/
def setActiveHalf (h : Bytes) (s : State) : State :=
  { s with kreg := if s.kreg.activeB then { s.kreg with halfB := h } else { s.kreg with halfA := h } }

/-- A record of a DROP. -/
def isDrop : ArchRec → Bool
  | .dropSlot _ _ => true
  | .dropLks _ _ => true
  | .dropColour _ _ => true
  | _ => false

/-- A later record drops what an ADD added. -/
def droppedBy (r : ArchRec) : ArchRec → Bool
  | .dropSlot _ h => (match r with | .addSlot _ k _ => decide (k = h) | _ => false)
  | .dropLks _ h => (match r with | .addLks _ k _ => decide (k = h) | _ => false)
  | .dropColour _ c => (match r with
    | .addSlot _ _ x => decide (x.owner = c)
    | .addLks _ _ x => decide (x.owner = c)
    | _ => false)
  | .addSlot _ h _ => (match r with | .addSlot _ k _ => decide (k = h) | _ => false)
  | .addLks _ h _ => (match r with | .addLks _ k _ => decide (k = h) | _ => false)

/-- The live records of a journal: the ADDs that nothing later drops or replaces. -/
def liveRecs : List ArchRec → List ArchRec
  | [] => []
  | r :: l => if isDrop r || l.any (droppedBy r) then liveRecs l else r :: liveRecs l

/-- Compact the archive (R359): the live records go to the other half with the next half serial; the old half is erased. -/
def compactArchive (s : State) : State :=
  match activeHalf s with
  | none => s
  | some h =>
    let ak := archKey s
    let n := archHeader (halfSerial h + 1) (archCheck ak) ++ (liveRecs (halfRecs s h)).flatMap (sealRec ak)
    { s with kreg := if s.kreg.activeB then { s.kreg with halfA := n, halfB := [], activeB := false, dropAt := none }
                     else { s.kreg with halfB := n, halfA := [], activeB := true, dropAt := none } }

/-- Write a record to the active half (R358). -/
def writeArch (r : ArchRec) (s : State) : State :=
  match activeHalf s with
  | none => s
  | some h =>
    let s1 := setActiveHalf (h ++ sealRec (archKey s) r) s
    { s1 with kreg := { s1.kreg with dropAt := if isDrop r && s1.kreg.dropAt.isNone then some s1.now else s1.kreg.dropAt } }

/-! ### Freeing keys (R287, R294, R341) -/

/-- Zero and free an LKS entry: at once, or when the last job that reads it ends (R294). -/
def freeLks (h : Nat) (s : State) : State :=
  match lks? s h with
  | none => s
  | some x =>
    let readers := (s.ring.entries.filter (fun q => decide (q.2.desc.opcode = 0x0502 ∧ q.2.desc.key = h ∧
      q.2.colour = x.owner) && isMce q.2.desc.pset && (match q.2.phase with | .running _ => true | _ => false))).map (·.1)
    if readers.isEmpty then wipeFreeLks { s with kreg := { s.kreg with lks := mdel s.kreg.lks h } }
    else { s with kreg := { s.kreg with lks := mset s.kreg.lks h { x with state := 3 },
                                        lksUsers := s.kreg.lksUsers ++ readers.map (fun e => (h, e)) } }

/-- Erase a slot and what hangs on it: a stateful key's record, then its cache, then the slot (R287); one that a packet in process has fixed,
once that packet has left (R423). -/
def eraseSlot (h : Nat) (s : State) : State :=
  match htsKey? s h with
  | none => if keyFixed s h then s else freeSlot h s
  | some k =>
    let s1 := freeLks k.cache (freeCounter k.record s)
    freeSlot h { s1 with kreg := { s1.kreg with hts := mdel s1.kreg.hts h } }

/-- A circuit holds the slot as a current or next key (R334, R348). -/
def circuitHolds (s : State) (h : Nat) : Bool :=
  s.sp.circuits.any (fun p => decide (h ∈ keySlot p.2.txCur ++ keySlot p.2.txNext ++ keySlot p.2.rxCur ++ keySlot p.2.rxNext))

/-- Change a slot. -/
def updSlot (h : Nat) (f : Slot → Slot) (s : State) : State :=
  { s with kreg := { s.kreg with slots := mmap (fun k x => if k = h then f x else x) s.kreg.slots } }

/-- Change an LKS entry. -/
def updLks (h : Nat) (f : LksEntry → LksEntry) (s : State) : State :=
  { s with kreg := { s.kreg with lks := mmap (fun k x => if k = h then f x else x) s.kreg.lks } }

/-- What a committed record's effect does (R358). -/
def archEffect (f : ArchEffect) (s : State) : State :=
  match f with
  | .activate h => updSlot h (fun x => { x with st := .active, persist := true }) s
  | .activateLks h => updLks h (fun x => { x with state := 2, persist := true }) s
  | .setPersist h => updSlot h (fun x => { x with persist := true }) s
  | .clearPersist h => updSlot h (fun x => { x with persist := false }) s
  | .setPersistLks h => updLks h (fun x => { x with persist := true }) s
  | .clearPersistLks h => updLks h (fun x => { x with persist := false }) s
  | .freeSlot h =>
    -- a stateful key leaves the archive for good before its record is freed (R287)
    let s1 := if (htsKey? s h).isSome then compactArchive s else s
    eraseSlot h s1
  | .freeLks h => freeLks h s
  | .setExpiry h e => updSlot h (fun x => { x with expiry := e }) s
  | .none_ => s

/-- ARCHIVE_COMMIT_DONE (R358): the oldest appended record is written and read back; its effect counts and the job that
waited for it ends.  A record whose job has been stopped meanwhile is not written. -/
def execArchiveCommitDone (s : State) : Host.Outcome State Fault Refusal :=
  .next (match s.kreg.commits with
    | [] => s
    | c :: r =>
      let s1 := { s with kreg := { s.kreg with commits := r } }
      match c.entry with
      | none => archEffect c.effect (writeArch c.record s1)
      | some e => match entry? s1 e with
        | none => s1
        | some x =>
          if x.phase = .committing then
            let s2 := archEffect c.effect (writeArch c.record s1)
            match entry? s2 e with
            | some y => setEntry e { y with phase := .ended, target := none } s2
            | none => s2
          else s1)

/-- KREG_ARCH_COMPACT (R359): a write of 1 compacts now. -/
def archCompactRule : WriteRule :=
  { lock := false, held := false, busy := false, bad := false, critical := false, act := compactArchive }

/-- 75 % of a half of 20 MiB. -/
abbrev compactAt : Nat := 15728640

/-- ARCHIVE_COMPACT (R359): by the write of KREG_ARCH_COMPACT, when the active half is 75 % full, or when
KREG_ARCH_COMPACT_MAX has elapsed since a DROP record. -/
def execArchiveCompact (w : Option (Caller × Bytes)) (s : State) : Host.Outcome State Fault Refusal :=
  .next (match w with
    | some (c, data) => writeAccess c Obj.KREG_ARCH_COMPACT data archCompactRule s
    | none =>
      match activeHalf s with
      | none => s
      | some h =>
        if compactAt ≤ h.length then compactArchive s
        else match s.kreg.dropAt with
          | none => s
          | some t => compactArchive (advanceTo (t + sec (objVal s Obj.KREG_ARCH_COMPACT_MAX)) s))

/-- Draw a new KEK and start an empty archive (R355, R360). -/
def freshArchive (s : State) : State :=
  let d := draw 43 32 s
  let s1 := { d.2 with kreg := { d.2.kreg with kek := d.1 } }
  setObj Obj.KREG_ARCH_STATE 0
    { s1 with kreg := { s1.kreg with activeB := false, dropAt := none, halfB := [], halfA := archHeader 1 (archCheck (archKey s1)) } }

/-- KREG_ARCH_INIT (R360, R361): BAD_VALUE unless the state is UNUSABLE or EMPTY.  DESIGN CHOICE: BUSY while no KEK can be
drawn, BAD_VALUE where BBRAM cannot be reached. -/
def archInitRule (s : State) : WriteRule :=
  { lock := false, held := false, busy := !(rngReady s),
    bad := decide (objVal s Obj.KREG_ARCH_STATE ≠ 3 ∧ objVal s Obj.KREG_ARCH_STATE ≠ 0) || !(bbramOpen s), critical := false,
    act := freshArchive }

/-- KREG_ARCH_INIT (R360). -/
def execKregArchInit (c : Caller) (data : Bytes) (s : State) : Host.Outcome State Fault Refusal :=
  .next (writeAccess c Obj.KREG_ARCH_INIT data (archInitRule s) s)

/-- Put back what an ADD record added, at its original handle (R360); a stateful key's working copy comes from its
counter record, and its node cache is to be rebuilt (R281, R286). -/
def restoreRec (r : ArchRec) (s : State) : State :=
  match r with
  | .addSlot _ h x =>
    let v : Slot := { x with st := if x.st = .retired then SlotState.retired else .active, persist := true, accesses := 0, refreshedAt := s.now }
    let q := maskSeed s
    let s1 := putSlot h { v with seed := q.1, pub := if x.isPublic then [] else slotPub x.alg x.pset x.units x.data.length
                                                       (if x.alg = 6 then eccPublic x.pset x.data else []) } q.2
    if x.stateful then
      let tail := x.data.drop (x.data.length - 10)
      let rec_ := field tail 5 2
      let c := field tail 8 2
      let k : HtsKey := { record := rec_, gen := field tail 7 1, working := (counter s rec_).next, cache := c,
                          types := field tail 0 5,
                          st := if (field tail 5 2, field tail 7 1) ∈ s.kreg.htsLost then .lost else .rebuilding, warned := false }
      let ext := match htsLevels x.pset (field tail 0 5) with
        | some ls => 2 * ls.length
        | none => 2
      setHts h k (putLks c { owner := x.owner, alg := 4, pset := x.pset, usage := 0, state := 1, persist := false, kind := 2,
                             extents := [], length := ext * 4096, data := [] } s1)
    else s1
  | .addLks _ h x => putLks h { x with state := 2, persist := true } s
  | _ => s

/-- Apply a journal (R360): its live records, at their original handles. -/
def applyJournal (rs : List ArchRec) (s : State) : State := (liveRecs rs).foldl (fun t r => restoreRec r t) s

/-- The COMPLETE half of the higher serial whose check value verifies under the KEK held (R360): none, A or B. -/
def chooseHalf (s : State) : Option Bool :=
  let good := fun (h : Bytes) => if halfGood s h then some (halfSerial h) else none
  match good s.kreg.halfA, good s.kreg.halfB with
  | some a, some b => some (decide (a < b))
  | some _, none => some false
  | none, some _ => some true
  | none, none => none

/-- Restore the archive (R355, R360): `torn` and `bad` say what the flash journal's reading finds (its last record cut
short; at which record a tag fails). -/
def restoreArchive (caston : Bool) (torn : Bool) (bad : Option Nat) (s : State) : State :=
  if !(bbramOpen s) then setObj Obj.KREG_ARCH_STATE 5 s
  else if s.tmp.held = 4 then setObj Obj.KREG_ARCH_STATE 2 s
  else match chooseHalf s with
    | some b =>
      let s0 := { s with kreg := { s.kreg with activeB := b } }
      match activeHalf s0 with
      | none => s0
      | some h =>
        let q := halfJournal s0 bad (if torn then h.dropLast else h)
        let s1 := setObj Obj.KREG_ARCH_TORN (b2n (decide (q.2 = .torn))) s0
        setObj Obj.KREG_ARCH_STATE (if q.2 = .damaged then 4 else if h.length ≤ 64 then 0 else 1) (applyJournal q.1 s1)
    | none =>
      let blank := s.kreg.halfA.isEmpty && s.kreg.halfB.isEmpty
      if blank && caston && s.kreg.kek.isEmpty && rngReady s then freshArchive s
      else if blank && (!s.kreg.kek.isEmpty || caston) then setObj Obj.KREG_ARCH_STATE 0 s
      else archUnusable s

/-- One rebuild job for each stateful key to be rebuilt, in ascending handle order (R286). -/
def queueRebuilds (s : State) : State :=
  let jobs := (s.kreg.hts.filter (fun p => decide (p.2.st = .rebuilding))).map (fun p =>
    (Origin.rebuild p.1,
     ({ opcode := 0x0401, pset := (slot? s p.1).map (·.pset) |>.getD 1, ctrl := 0, key := 0, key2 := 0, userTag := 0, segs := [],
        outLen := 0, outAddr := 0, aux := p.2.types, aux2 := 0, totalLen := 0, subIndex := 0, entries := 1 } : Desc), ([] : Bytes)))
  { s with ring := { s.ring with internalWait := s.ring.internalWait ++ jobs } }

/-! ### The key manager's course (R342) -/

/-- The slice of a class that a job of the key manager has been given (R178). -/
def sliceFor (s : State) (e cls : Nat) : Option Nat :=
  (classSlices cls).find? (fun n => decide ((slice_ s n).st = .busy ∧ (slice_ s n).job = some e))

/-- A run's ending comes after its slice's step: the endings of the key check, of the checks of R346 and of the descriptor come
before. -/
def afterSlice (st : Status) : Bool := decide (st = .ok ∨ st = .keyInvalid ∨ st = .inputInvalid ∨ st = .unsupported)

/-- A Classic McEliece public key goes from host memory into its LKS entry (R349): the writes of the inbound DMA, class PCIE_DMA in the
job's colour; the first that is refused. -/
def streamRefused (e : Nat) (x : Entry) (r : Res) (s : State) : Option (FabAcc × Nat × Nat) :=
  if x.desc.opcode = 0x0923 ∧ aux x 7 0 = 5 ∧ isMce (aux x 15 8) = true then
    match lks? s (r.detail / 65536) with
    | none => none
    | some v => (lksPieces v).findSome? (fun p =>
      let a : FabAcc := { cls := 1, master := 0, colour := x.colour, addr := p.1, len := p.2, kind := 2,
                          ring := originPair x.origin, entry := e }
      (checkAccess s a).map (fun q => (a, q.1, q.2)))
  else none

/-- A run of the key manager alone has reached its end. -/
def finishManager (e : Nat) (x : Entry) (r : Res) (s : State) : State :=
  match if r.st = .ok then streamRefused e x r (r.release s) else none with
  | some (a, reason, bad) => deviceRefusal a (.requester 36) reason bad (spend e r.cycles s)
  | none => finish e r s

/-- A command of class 0x09 that the key manager serves: `needs` are the slice classes of its steps, where it gets so far (R178, R342).
Each step waits for DISPATCH to give it its slice; UNSUPPORTED where every slice of a class is fenced (R598). -/
def managerRow (opcode : Nat) (needs : Entry → State → List Nat) (e : Nat) (fault : Bool)
    (f : Entry → Nat → State → Res × State) (s : State) : State :=
  match entry? s e with
  | none => s
  | some x =>
    if x.desc.opcode ≠ opcode ∨ unitHead s 9 ≠ some e then s
    else match needs x s with
      | [] =>
        let y := { x with startedAt := s.now, segAt := s.now }
        let p := f y 0xFF (setEntry e y s)
        finishManager e y p.1 p.2
      | c :: r =>
        if (c :: r).any (classFenced s) then stopJob e .unsupported 0 s
        else if !((c :: r).all (fun k => (sliceFor s e k).isSome)) then s
        else
          let n := (sliceFor s e c).getD 0
          let y := { x with slice := n, phase := .running n }
          let p := f y n (setEntry e y s)
          if fault && reachesInvariant p.1.st then invariantFailure e (spend e p.1.cycles p.2) else finish e p.1 p.2

/-- `checked` for the key manager: its draws are the key register's own (instance 43), with the expander of the slice that
serves it where it needs one. -/
def managerChecked (x : Entry) (n : Nat) (q : Need) (run : Bytes → State → Res × State) (s : State) : Res × State :=
  match keyCheck s x.colour (decide (36 ≤ n) || (slice_ s n).seeded) q with
  | some st => (Res.stop st 120, s)
  | none =>
    let s1 := if q.mask && decide (n < 36) then refreshExpander n s else s
    let d := draw 43 q.bytes (q.uses.foldl touchSlot s1)
    run d.1 d.2

/-! ### Plaintext forms (R346, R347) and counts (R351) -/

/-- L of an algorithm and set; none where the set is not defined or the algorithm has no plaintext form. -/
def plainLen (alg p : Nat) : Option Nat :=
  match alg with
  | 1 => if latPset p then some 64 else none
  | 2 => if latPset p then some 32 else none
  | 3 => if slhPset p then some (4 * slhN p) else none
  | 5 => if isMce p || isHqc p then some (codeSk p) else none
  | 6 => if 1 ≤ p ∧ p ≤ 7 then some (eccPrivLen p) else none
  | 7 => if rsaPset p then some (rsaSlotLen p) else none
  | 8 => if 16 ≤ p ∧ p ≤ 66 then some p else none
  | _ => none

/-- The set is defined for the algorithm (R332, R346). -/
def psetDefined (alg p : Nat) : Bool :=
  match alg with
  | 4 => decide (1 ≤ p ∧ p ≤ 4)
  | 0x0B => decide (p = 16 ∨ p = 32)
  | _ => (plainLen alg p).isSome

/-- Units of a private slot (R302, R327, R330). -/
def privUnits (alg p len : Nat) : Nat :=
  match alg with
  | 6 => eccUnits p
  | 7 => (rsaKeygen p).2.2.2
  | _ => ceilDiv len 64

/-- T of R346. -/
def wrapCyc (l : Nat) : Nat := 720 + 4 * ceilDiv l 16

/-- V and C of R351. -/
def importVC (alg p : Nat) : Nat × Nat :=
  match alg with
  | 6 => match p with
    | 1 => (500, 50500) | 2 => (700, 110700) | 3 => (900, 220900) | 4 => (0, 38000) | 5 => (0, 110000) | 6 => (0, 36000)
    | _ => (0, 100000)
  | 7 => (rsaPrivCyc p, rsaPrivCyc p)
  | _ => (0, 0)

/-- A private value on import is refused (R308). -/
def privBad (alg p : Nat) (b : Bytes) : Bool :=
  match alg with
  | 6 => isP p && scalarBad p b
  | 7 =>
    let k := rsaK p
    let v := rsaRead k b
    decide (v.n ≠ v.p * v.q ∨ v.n < 2 ^ (8 * k - 1) ∨ v.e % 2 = 0 ∨ v.e < 3 ∨ 2 ^ 32 - 1 < v.e ∨ v.p < 2 ∨ v.q < 2 ∨
      v.e * v.dP % (v.p - 1) ≠ 1 ∨ v.e * v.dQ % (v.q - 1) ≠ 1 ∨ v.qInv * v.q % v.p ≠ 1)
  | _ => false

/-- The blob key (R345). -/
def blobKey (s : State) (w : Option Bytes) (colour : Nat) (head : Bytes) : Bytes :=
  kmac256 (match w with | some k => k | none => unitWrapKey s)
    (leBytes 1 (if s.lc.root = 1 then 1 else 2) ++ leBytes 2 colour ++ head.take 16) (ascii "ZKWB")

/-- The wrapping slot may be used (R333): ALG 0x08 of 32 bytes or more with WRAP. -/
def wrapOk (v : Slot) : Bool := decide (v.alg = 8 ∧ 32 ≤ v.pset ∧ v.isPublic = false ∧ v.usage &&& uWRAP = uWRAP)

/-! ### Descriptors (R343, R344, R349) -/

/-- Public-key length, validation cycles and the usage bits permitted (default first) for IMPORT_PUBLIC (R349, R351); the
length is 0 for the stateful sets, whose typecodes give it. -/
def publicInfo (alg p : Nat) : Option (Nat × Nat × List Nat) :=
  match alg with
  | 1 => if latPset p then some (kemEk p, kemValid p, [uKEM]) else none
  | 2 => if latPset p then some (dsaPk p, 0, [uVERIFY]) else none
  | 3 => if slhPset p then some (2 * slhN p, 0, [uVERIFY]) else none
  | 4 => if 1 ≤ p ∧ p ≤ 4 then some (0, 0, [uVERIFY]) else none
  | 5 => if isHqc p then some (codePk p, hqcValid p, [uKEM]) else if isMce p then some (codePk p, 0, [uKEM]) else none
  | 6 => match p with
    | 1 => some (65, 4000, [uVERIFY, uAGREE])
    | 2 => some (97, 8000, [uVERIFY, uAGREE])
    | 3 => some (133, 16000, [uVERIFY, uAGREE])
    | 4 => some (32, 0, [uAGREE])
    | 5 => some (56, 0, [uAGREE])
    | 6 => some (32, 3000, [uVERIFY])
    | 7 => some (57, 9000, [uVERIFY])
    | _ => none
  | 7 => if rsaPset p then some (rsaK p + 4, rsaValidCyc p, [uVERIFY, uKEM]) else none
  | _ => none

/-- The key management commands' descriptors (R344).  DEDUCED: where R344 gives no input, no limit on IN_LEN is stated and
the input is not used; EXPORT_WRAPPED, whose output length only its slot gives (R676), needs pages for OUT_LEN up to the
longest blob. -/
def keySpec (legacy : Bool) (d : Desc) : Option CmdSpec :=
  let a := d.aux
  let alg := bits a 7 0
  let kp := bits a 15 8
  let pset := decide (d.pset = 0)
  let res := fun (keyRes key2Res auxBad aux2Res : Bool) =>
    firstField [(offKEY, d.key, keyRes), (offKEY2, d.key2, key2Res), (offAUX, (if auxBad then 1 else 0), true),
      (offAUX2, d.aux2, aux2Res)]
  match d.opcode with
  | 0x0920 => some (mkSpec d (res true false (decide (bits a 63 27 ≠ 0 ∨ bits a 25 25 ≠ 0 ∨ bits a 15 0 ≠ 0)) false) pset true 0 0)
  | 0x0921 =>
    let c := mkSpec d (res false false (decide (a ≠ 0)) true) pset true 0 0
    some { c with outPages := stagedPages (min d.outLen (56 + codeSk 10)) }
  | 0x0922 => some (mkSpec d (res false true (decide (bits a 63 26 ≠ 0 ∨ bits a 24 8 ≠ 0 ∨ 2 < alg)) true) pset true 0 0)
  | 0x0923 =>
    let info := publicInfo alg kp
    let lenOk := match info with
      | some (l, _) => decide (alg = 4) || decide (inputLen d = l)
      | none => true
    let c := mkSpec d (res true true (decide (bits a 63 27 ≠ 0) || bit a 25) false) pset (legacy || lenOk) 0 0
    some { c with psetBad := if !pset then some offPSET else if !legacy && info.isNone then some offAUX else none,
                  noLegacy := true, inPages := if alg = 5 && isMce kp then 0 else c.inPages }
  | 0x0924 => some (mkSpec d (res false true (decide (a ≠ 0)) true) pset (decide (inputLen d = 32)) 4851 0)
  | _ => none

/-! ### IMPORT_WRAPPED (R346) -/

/-- The blob's own form is wrong (R346). -/
def blobBad (b : Bytes) (key2 : Nat) : Bool :=
  let alg := byteAt b 8
  let p := byteAt b 9
  let typ := byteAt b 4
  decide (b.length < 56) || decide (b.take 4 ≠ [0x5A, 0x4B, 0x57, 0x42]) || decide (byteAt b 5 ≠ 1) || decide (typ ≠ 1 ∧ typ ≠ 2) ||
    decide (typ = 2 ∧ key2 ≠ 0) || decide (typ = 1 ∧ key2 = 0) || decide (field b 20 4 ≠ 0 ∨ field b 36 4 ≠ 0 ∨ 512 ≤ field b 10 2) ||
    !(psetDefined alg p) || decide (field b 12 4 + 56 ≠ b.length) ||
    (match plainLen alg p with | some l => decide (field b 12 4 ≠ l) | none => false)

/-- The earlier of two lifetimes in seconds, each counting only when it is not zero (R346). -/
def shorterLife (a b : Nat) : Nat := if a = 0 then b else if b = 0 then a else min a b

/-- Make a slot that a PERSIST import creates wait for its record (R358); UNSUPPORTED is the ending where the archive cannot
be written. -/
def persistRes (s : State) (h life : Nat) (v : Slot) (r : Res) : Res :=
  let w := { v with st := .loading, persist := true }
  { r with release := fillSlot h life w, commit := some (.addSlot (s.kreg.archSerial + 1) h { v with persist := true }, .activate h) }

/-- IMPORT_WRAPPED (R346). -/
def runImportWrapped (x : Entry) (n : Nat) (s : State) : Res × State :=
  let b := jobInput s x
  let alg := byteAt b 8
  let p := byteAt b 9
  let l := field b 12 4
  let usage := field b 10 2
  let narrow := aux x 24 16
  let persist := bit x.desc.aux 26
  if blobBad b x.desc.key2 then (Res.stop .inputInvalid 120, s)
  else
    let typ := byteAt b 4
    let vc := importVC alg p
    let q := { Need.none_ with
      keys := if typ = 1 then [slotFails s x.colour x.desc.key2 wrapOk] else [],
      policy := decide (alg = 4 ∨ alg = 0x0B) || (decide (narrow ≠ 0) && usageBad narrow usage),
      units := some (privUnits alg p l), mask := decide (vc ≠ (0, 0)), uses := if typ = 1 then [x.desc.key2] else [] }
    managerChecked x n q (fun _ t =>
      let w := if typ = 1 then some (slotData s x.desc.key2) else none
      let kb := blobKey s w (if typ = 1 then field b 6 2 else x.colour) b
      let ct := slice b 40 l
      let tag := slice b (40 + l) 16
      let nonce := slice b 24 12
      let cyc := wrapCyc l
      if tag ≠ gcmTag kb nonce (b.take 40) ct then (Res.stop .verifyFail cyc, t)
      else
        let key := gcmXor kb nonce ct
        if privBad alg p key then (Res.stop .keyInvalid (cyc + vc.1), t)
        else if persist && !(archiveOpen s) then (Res.stop .unsupported (cyc + vc.2), t)
        else
          let h := nextHandle t
          let life := shorterLife (field b 16 4) x.desc.aux2
          let v := { newSlot t x.colour alg p (if narrow = 0 then usage else narrow) 3 (privUnits alg p l) life key with
                     pub := slotPub alg p (privUnits alg p l) l (if alg = 6 then eccPublic p key else []) }
          let r : Res := { st := .ok, detail := h, out := [], cycles := cyc + vc.2, late := [], release := fillSlot h life v, commit := none }
          (if persist then persistRes t h life v r else r, tookHandle h t)) s

/-- IMPORT_WRAPPED needs a big-number slice for V and C. -/
def importSlice (x : Entry) (s : State) : List Nat :=
  let b := jobInput s x
  if blobBad b x.desc.key2 || !(afterSlice (runImportWrapped x 0xFF s).1.st) then []
  else if importVC (byteAt b 8) (byteAt b 9) = (0, 0) then [] else [2]

/-- IMPORT_WRAPPED (R346). -/
def execImportWrapped (e : Nat) (s : State) : Host.Outcome State Fault Refusal :=
  .next (managerRow 0x0920 importSlice e false runImportWrapped s)

/-! ### EXPORT_WRAPPED (R347) -/

/-- Whole seconds of lifetime left. -/
def lifeLeft (s : State) (v : Slot) : Nat := if v.expiry = 0 then 0 else (v.expiry * 256 - time64 s % 2 ^ 56) / 65536

/-- A blob's header (R345). -/
def blobHeader (typ colour alg pset usage len life : Nat) (nonce : Bytes) : Bytes :=
  [0x5A, 0x4B, 0x57, 0x42] ++ leBytes 1 typ ++ leBytes 1 1 ++ leBytes 2 colour ++ leBytes 1 alg ++ leBytes 1 pset ++
    leBytes 2 usage ++ leBytes 4 len ++ leBytes 4 life ++ zeros 4 ++ nonce ++ zeros 4

/-- EXPORT_WRAPPED (R347, R676). -/
def runExportWrapped (x : Entry) (n : Nat) (s : State) : Res × State :=
  let h := x.desc.key
  let w := x.desc.key2
  let q := { Need.none_ with
    keys := slotFails s x.colour h (fun v => decide (v.usage &&& uEXPORT = uEXPORT) && decide (v.alg ≠ 4 ∧ v.alg ≠ 0x0B)) ::
      (if w = 0 then [] else [slotFails s x.colour w wrapOk]),
    policy := decide (w ≠ 0 ∧ w = h), bytes := 12, uses := h :: (if w = 0 then [] else [w]) }
  match keyCheck s x.colour true q with
  | some st => (Res.stop st 120, s)
  | none => match slot? s h with
    | none => (Res.stop .keyEmpty 120, s)
    | some v =>
      let l := v.data.length
      managerChecked x n q (fun nonce t =>
        if x.desc.outLen < 56 + l then ({ Res.stop .badDescriptor 120 with detail := 6 + (56 + l) * 256 }, t) else
        let hd := blobHeader (if w = 0 then 2 else 1) v.owner v.alg v.pset v.usage l (lifeLeft s v) nonce
        let kb := blobKey s (if w = 0 then none else some (slotData s w)) (if w = 0 then x.colour else v.owner) hd
        let ct := gcmXor kb nonce (slotData s h)
        (Res.ok (hd ++ ct ++ gcmTag kb nonce hd ct) (wrapCyc l), t)) s

/-- EXPORT_WRAPPED (R347). -/
def execExportWrapped (e : Nat) (s : State) : Host.Outcome State Fault Refusal :=
  .next (managerRow 0x0921 (fun _ _ => []) e false runExportWrapped s)

/-! ### DELETE, PERSIST, UNPERSIST (R348) -/

/-- A slot that a command names without using its data: RETIRED and expired slots are accepted (R335, R336). -/
def namedSlot (s : State) (colour h : Nat) : Option Slot :=
  if s.kreg.erasing.isSome then none
  else match slot? s h with
  | none => none
  | some x => if x.owner = colour ∧ (x.st = .active ∨ x.st = .retired) then some x else none

/-- DELETE with its ACTION, on a slot (R348). -/
def runDeleteSlot (x : Entry) (action : Nat) (s : State) : Res × State :=
  let h := x.desc.key
  match namedSlot s x.colour h with
  | none => (Res.stop .keyEmpty 120, s)
  | some v =>
    let cyc := 420 + 8 * v.units
    if circuitHolds s h || (decide (action = 1) && (decide (v.alg = 0x0B) || decide (v.st = .retired))) then (Res.stop .keyPolicy 120, s)
    else if action ≠ 0 ∧ !(archiveOpen s) then (Res.stop .unsupported 120, s)
    else
      let n := s.kreg.archSerial + 1
      match action with
      | 0 =>
        if v.persist && archiveOpen s then
          ({ Res.ok [] cyc with commit := some (.dropSlot n h, .freeSlot h) }, s)
        else ({ Res.ok [] cyc with release := fun t => eraseSlot h (endHold h t) }, s)
      | 1 => ({ Res.ok [] cyc with commit := some (.addSlot n h { masked s h v with persist := true }, .setPersist h) }, s)
      | _ => ({ Res.ok [] cyc with commit := some (.dropSlot n h, .clearPersist h) }, s)

/-- DELETE with its ACTION, on an LKS entry (R294, R348). -/
def runDeleteLks (x : Entry) (action : Nat) (s : State) : Res × State :=
  let h := x.desc.key
  match lks? s h with
  | none => (Res.stop .keyEmpty 120, s)
  | some v =>
    if v.owner ≠ x.colour ∨ v.state ≠ 2 then (Res.stop .keyEmpty 120, s)
    else if action = 1 ∧ v.kind = 2 then (Res.stop .keyPolicy 120, s)
    else if action ≠ 0 ∧ !(archiveOpen s) then (Res.stop .unsupported 120, s)
    else
      let n := s.kreg.archSerial + 1
      match action with
      | 0 =>
        if v.persist && archiveOpen s then ({ Res.ok [] 420 with commit := some (.dropLks n h, .freeLks h) }, s)
        else ({ Res.ok [] 420 with release := freeLks h }, s)
      | 1 => ({ Res.ok [] 420 with commit := some (.addLks n h { v with persist := true }, .setPersistLks h) }, s)
      | _ => ({ Res.ok [] 420 with commit := some (.dropLks n h, .clearPersistLks h) }, s)

/-- DELETE with its ACTION (R343, R348). -/
def runDelete (action : Nat) (x : Entry) (_ : Nat) (s : State) : Res × State :=
  if bit x.desc.aux 25 then runDeleteLks x action s else runDeleteSlot x action s

/-- The job's ACTION is this one. -/
def actionIs (s : State) (e action : Nat) : Bool :=
  match entry? s e with
  | some x => decide (aux x 7 0 = action)
  | none => false

/-- DELETE (R348). -/
def execDelete (e : Nat) (s : State) : Host.Outcome State Fault Refusal :=
  .next (if actionIs s e 0 then managerRow 0x0922 (fun _ _ => []) e false (runDelete 0) s else s)

/-- PERSIST: ACTION 1 (R348). -/
def execPersist (e : Nat) (s : State) : Host.Outcome State Fault Refusal :=
  .next (if actionIs s e 1 then managerRow 0x0922 (fun _ _ => []) e false (runDelete 1) s else s)

/-- UNPERSIST: ACTION 2 (R348). -/
def execUnpersist (e : Nat) (s : State) : Host.Outcome State Fault Refusal :=
  .next (if actionIs s e 2 then managerRow 0x0922 (fun _ _ => []) e false (runDelete 2) s else s)

/-! ### IMPORT_PUBLIC (R349) -/

/-- The three padding bits of each 677-byte row of a mceliece6960119 key are zero (R349). -/
def mceRowsOk : Nat → Bytes → Bool
  | 0, _ => true
  | k + 1, b => decide (byteAt b 676 < 32) && mceRowsOk k (b.drop 677)

/-- The public key passes its full check (R349). -/
def publicValid (alg p : Nat) (b : Bytes) : Bool :=
  match alg with
  | 1 => ekValid p b
  | 4 => decide (htsPkLen p b = some b.length)
  | 5 => if isHqc p then hqcPkValid p b else if p = 7 ∨ p = 8 then mceRowsOk (b.length / 677) b else true
  | 6 => if isMont p then true else !(pointBad p b)
  | 7 => !(rsaPubBad (rsaK p) (beNat (slice b 0 (rsaK p))) (beNat (slice b (rsaK p) 4)))
  | _ => true

/-- IMPORT_PUBLIC into the LKS (R349). -/
def runImportMce (x : Entry) (n : Nat) (s : State) : Res × State :=
  let p := aux x 15 8
  let b := jobInput s x
  let u := aux x 24 16
  let persist := bit x.desc.aux 26
  let cyc := 320 + ceilDiv b.length 128
  let q := { Need.none_ with policy := decide (u ≠ 0 ∧ u ≠ uKEM), lks := some (ceilDiv b.length 4096) }
  managerChecked x n q (fun _ t =>
    if !(publicValid 5 p b) then (Res.stop .inputInvalid cyc, t)
    else if persist && !(archiveOpen s) then (Res.stop .unsupported cyc, t)
    else
      let h := nextLks t
      let v : LksEntry := { owner := x.colour, alg := 5, pset := p, usage := uKEM, state := 2, persist := persist, kind := 1,
                            extents := [], length := b.length, data := b }
      let r : Res := { st := .ok, detail := h * 65536, out := [], cycles := cyc, late := [],
                       release := putLks h { v with state := if persist then 1 else 2 }, commit := none }
      (if persist then { r with commit := some (.addLks (t.kreg.archSerial + 1) h v, .activateLks h) } else r, t)) s

/-- IMPORT_PUBLIC (R349). -/
def runImportPublic (x : Entry) (n : Nat) (s : State) : Res × State :=
  let alg := aux x 7 0
  let p := aux x 15 8
  let u := aux x 24 16
  let persist := bit x.desc.aux 26
  let b := jobInput s x
  if alg = 5 && isMce p then runImportMce x n s
  else match publicInfo alg p with
    | none => (Res.stop .inputInvalid 120, s)
    | some (_, chk, allowed) =>
      let q := { Need.none_ with policy := decide (u ≠ 0 ∧ u ∉ allowed), units := some (max 1 (ceilDiv b.length 64)) }
      managerChecked x n q (fun _ t =>
        let cyc := 320 + 4 * ceilDiv b.length 16 + chk
        if !(publicValid alg p b) then (Res.stop .inputInvalid cyc, t)
        else if persist && !(archiveOpen s) then (Res.stop .unsupported cyc, t)
        else
          let h := nextHandle t
          let v := { newSlot t x.colour alg p (usageOr u (allowed.headD 0)) 4 (max 1 (ceilDiv b.length 64)) x.desc.aux2 b with
                     isPublic := true }
          let r : Res := { st := .ok, detail := h, out := [], cycles := cyc, late := [], release := fillSlot h x.desc.aux2 v, commit := none }
          (if persist then persistRes t h x.desc.aux2 v r else r, tookHandle h t)) s

/-- The slice class whose slice makes the check, where it takes one. -/
def publicSlice (x : Entry) (s : State) : List Nat :=
  if !(afterSlice (runImportPublic x 0xFF s).1.st) then []
  else match publicInfo (aux x 7 0) (aux x 15 8) with
  | some (_, c, _) => if c = 0 then [] else match aux x 7 0 with
    | 1 => [0]
    | 5 => [1]
    | _ => [2]
  | none => []

/-- IMPORT_PUBLIC (R349). -/
def execImportPublic (e : Nat) (s : State) : Host.Outcome State Fault Refusal :=
  .next (managerRow 0x0923 publicSlice e false runImportPublic s)

/-! ### ATTEST (R350) -/

/-- The 128-byte statement (R350). -/
def attestStatement (s : State) (h : Nat) (v : Slot) (nonce : Bytes) : Bytes :=
  [0x5A, 0x4B, 0x41, 0x54, 0x01] ++ leBytes 1 (if s.lc.root = 1 then 1 else 2) ++ zeros 2 ++ fitBytes 16 s.lc.otp.unitId ++
    leBytes 8 (time64 s) ++ leBytes 2 h ++ dirHead v ++ dirExpiry v ++ zeros 2 ++ zeros 46 ++ fitBytes 32 nonce

/-- The attestation key of an algorithm: the colour 0x0000 slot derived at cast-on (R350). -/
def attestKey (s : State) (alg : Nat) : Option Bytes :=
  (mfind? (fun _ v => decide (v.owner = 0 ∧ v.alg = alg ∧ v.usage = uSIGN)) s.kreg.slots).map (fun p => (masked s p.1 p.2).data)

/-- An attestation key is derived from the root in use into a colour-0x0000 slot, usage SIGN alone (R350): the derivation is not stated. -/
def attestSlot (alg pset n units : Nat) (s : State) : State :=
  let data := primOut .unitConst [rootInUse s, leBytes 1 alg] n
  let h := nextHandle s
  let pub := if alg = 6 then eccPublic pset data else []
  putSlot h { newSlot s 0 alg pset uSIGN 2 units 0 data with pub := slotPub alg pset units n pub } (tookHandle h s)

/-- Both attestation keys derived anew, and their public keys shown (R350). -/
def attestKeys (s : State) : State :=
  let t := attestSlot 6 2 48 (eccUnits 2) (attestSlot 2 3 32 1 s)
  setObj Obj.KREG_ATTEST_PK_DSA (leNat (primOut (.mldsaKeygen 3) [(attestKey t 2).getD []] (dsaPk 3)))
    (setObj Obj.KREG_ATTEST_PK_EC (leNat (eccPublic 2 ((attestKey t 6).getD []))) t)

/-- ATTEST (R350, R351): signed on a lattice slice and a big-number slice. -/
def runAttest (x : Entry) (n : Nat) (s : State) : Res × State :=
  match namedSlot s x.colour x.desc.key, attestKey s 2, attestKey s 6 with
  | some v, some kd, some ke =>
    if !(rngReady s) || (decide (n < 36) && !((slice_ s n).seeded)) then (Res.stop .entropyFail 120, s)
    else
      let st := attestStatement s x.desc.key v (jobInput s x)
      let a := draw n 32 (refreshExpander n s)
      let b := draw (((slice_ s n).job.bind (fun e => sliceFor s e 2)).getD 20) 56 a.2
      let args := [kd, messageRep 0 9 0 (ascii "zk-attest" ++ st), a.1, leBytes 1 0]
      let iters := 1 + Config.primNat (.mldsaSign 3) args % 814
      let t3 := decide (objVal s Obj.PKE_LAT_SHARES_MIN = 3)
      let sign := dsaSignBase t3 3 + dsaExtra 0 9 128 + iters * dsaSignIter t3 3
      ({ Res.ok (st ++ primOut (.mldsaSign 3) args 4627 ++ eccSignature 2 ke (primOut (.hash 0x02) [st] 48) b.1 (zeros 2))
          (1120 + max sign 130000) with release := signIterMax iters }, b.2)
  | _, _, _ => (Res.stop .keyEmpty 120, s)

/-- ATTEST's two slices (R351).  DESIGN CHOICE: the record's SLICE names the lattice slice. -/
def attestSlices (x : Entry) (s : State) : List Nat := if afterSlice (runAttest x 0xFF s).1.st then [0, 2] else []

/-- ATTEST (R350). -/
def execAttest (e : Nat) (fault : Bool) (s : State) : Host.Outcome State Fault Refusal :=
  .next (managerRow 0x0924 attestSlices e fault runAttest s)

/-- The slice classes that a command of the key manager needs for its steps (R178, R342). -/
def managerNeeds (x : Entry) (s : State) : List Nat :=
  match x.desc.opcode with
  | 0x0920 => importSlice x s
  | 0x0923 => publicSlice x s
  | 0x0924 => attestSlices x s
  | _ => []

/-- The cycles of a command of the key manager. -/
def managerCycles (x : Entry) (n : Nat) (s : State) : Nat :=
  match x.desc.opcode with
  | 0x0920 => (runImportWrapped x n s).1.cycles
  | 0x0923 => (runImportPublic x n s).1.cycles
  | _ => (runAttest x n s).1.cycles

/-! ### Lifetimes (R334, R336) -/

/-- The clock stands where TIME64 bits 55:8 reach `e`, or later. -/
def advanceToExpiry (e : Nat) (s : State) : State :=
  if e * 256 ≤ time64 s % 2 ^ 56 then s
  else { s with now := s.now + ceilDiv ((e * 256 - time64 s % 2 ^ 56) * 1000000000) 65536 }

/-- A slot's EXPIRY passes (R334): RETIRED for KREG_RETIRE_GRACE, or EMPTY; a circuit's current and next keys are excepted; a
PERSIST slot's change goes through the archive (R358). -/
def expireSlot (h : Nat) (v : Slot) (s : State) : State :=
  let grace := objVal s Obj.KREG_RETIRE_GRACE
  let n := s.kreg.archSerial + 1
  if circuitHolds s h then s
  else if v.st = .active ∧ grace ≠ 0 then
    let w := { v with st := .retired, expiry := expiryIn s grace, retiredAt := some s.now }
    let s1 := updSlot h (fun _ => w) s
    if v.persist && archiveOpen s then appendArch (.addSlot n h (masked s h w)) (.setExpiry h w.expiry) none s1 else s1
  else if v.persist && archiveOpen s then appendArch (.dropSlot n h) (.freeSlot h) none s
  else eraseSlot h (endHold h s)

/-- KEY_EXPIRY (R334). -/
def execKeyExpiry (h : Nat) (s : State) : Host.Outcome State Fault Refusal :=
  .next (match slot? s h with
    | none => s
    | some v =>
      if v.expiry = 0 ∨ v.st = .loading then s
      else let s1 := advanceToExpiry v.expiry s; expireSlot h v s1)

/-- MASK_REFRESH (R338): 10 ms after the slot's last refresh. -/
def execMaskRefresh (h : Nat) (s : State) : Host.Outcome State Fault Refusal :=
  .next (match mget? s.kreg.slots h with
    | none => s
    | some x => refreshSlot h (advanceTo (x.refreshedAt + ms 10) s))

/-- The overwrite of an erasure ends (R340): every cell and directory entry, 65,536 blocks of 64 bytes, has been written with DRBG output and
then with zero, or with zero twice where the DRBG is stopped (R341); new K_scr and K_mask are drawn, and every entry is EMPTY. -/
def eraseDone (s : State) : State :=
  let a := drawOrFree 43 32 (if rngReady s then drawPass 43 65536 s else s)
  let b := drawOrFree 43 32 a.2
  { b.2 with kreg := { b.2.kreg with erasing := none, kScr := a.1, kMask := b.1, slots := [], loose := [] } }

/-- ERASE_OVERWRITE_DONE (R340), within 2 ms of the erasure. -/
def execEraseOverwriteDone (s : State) : Host.Outcome State Fault Refusal :=
  .next (if s.kreg.erasing.isSome then eraseDone s else s)

/-! ### Officer-card fill (R352, R353) -/

/-- The target fields: colour, ALG, PSET, USAGE, COMPONENTS, PERSIST. -/
structure FillTarget where
  colour : Nat
  alg : Nat
  pset : Nat
  usage : Nat
  components : Nat
  persist : Nat
deriving DecidableEq, Repr

/-- KREG_FILL_TARGET as written (R361). -/
def fillTarget (s : State) : FillTarget :=
  let b := leBytes 8 (objVal s Obj.KREG_FILL_TARGET)
  { colour := field b 0 2, alg := byteAt b 2, pset := byteAt b 3, usage := field b 4 2, components := byteAt b 6,
    persist := byteAt b 7 }

/-- The target may not be filled (R352). -/
def fillBad (s : State) : Bool :=
  let t := fillTarget s
  let tenant := decide (0x1000 ≤ t.colour ∧ t.colour < 0x2000) && decide (objVal s (at_ Obj.TENANT_STATE (t.colour - 0x1000)) = 1)
  !(decide (t.colour = 2) || tenant) || !(decide (t.alg = 8 ∨ t.alg = 1 ∨ t.alg = 2 ∨ t.alg = 6)) ||
    (plainLen t.alg t.pset).isNone || decide (t.components < 1 ∨ 4 < t.components)

/-- Ask the card whose session is open to sign the FILL statement (R550, R552), if it has given no component and nothing else is
asked of it. -/
def askFill (s : State) : State :=
  match s.kreg.fill, s.tmp.card.session with
  | some f, some o =>
    if o ∈ f.officers ∨ s.tmp.card.step ≠ .none_ ∨ !(rngReady s) then s
    else
      let n := draw 40 32 s
      let stmt := cardStatement n.2 3 n.1 (sha3_256 (leBytes 8 (objVal s Obj.KREG_FILL_TARGET)))
      { n.2 with
        tmp := { n.2.tmp with card := { n.2.tmp.card with step := .fill stmt, lastAt := n.2.now } },
        out := n.2.out ++ [.card ([0x80, 0x20, 0, 0] ++ stmt)] }
  | _, _ => s

/-- Nothing more is asked of the card for a fill; the key made for its component is destroyed (R19). -/
def endFillStep (s : State) : State :=
  { dropSecret cardSecret s with tmp := { s.tmp with card := { s.tmp.card with step := match s.tmp.card.step with
      | .fill _ => .none_
      | .component _ => .none_
      | x => x } } }

/-- Start a fill (R352): a LOADING slot, WAIT_CARD; a card whose session is open is asked at once. -/
def startFill (s : State) : State :=
  let t := fillTarget s
  let len := (plainLen t.alg t.pset).getD 0
  let units := privUnits t.alg t.pset len
  if slotQuota s t.colour units || s.kreg.erasing.isSome then setObj Obj.KREG_FILL_STATE 3 s
  else
    let h := nextHandle s
    let v := { newSlot s t.colour t.alg t.pset (t.usage % 512) 5 units 0 (zeros len) with st := .loading }
    let s1 := putSlot h v (tookHandle h s)
    askFill (setObj Obj.KREG_FILL_STATE 1
      { s1 with kreg := { s1.kreg with
          fill := some { handle := h, components := t.components, done := 0, officers := [], startedAt := s1.now } } })

/-- KREG_FILL_START (R352). -/
def fillStartRule (s : State) : WriteRule :=
  { lock := false, held := false, busy := s.kreg.fill.isSome || decide (objVal s Obj.TMP_RELEASE_STATE = 1), bad := fillBad s, critical := false, act := startFill }

/-- KREG_FILL_START (R352). -/
def execKregFillStart (c : Caller) (data : Bytes) (s : State) : Host.Outcome State Fault Refusal :=
  .next (writeAccess c Obj.KREG_FILL_START data (fillStartRule s) s)

/-- A fill ends FAILED (R353): its slot is EMPTY. -/
def failFill (s : State) : State :=
  match s.kreg.fill with
  | none => endFillStep s
  | some f => setObj Obj.KREG_FILL_STATE 3 (freeSlot f.handle (endFillStep { s with kreg := { s.kreg with fill := none } }))

/-- The last component is in (R353): the key is validated, completed and reported with its check value. -/
def finishFill (f : Fill) (s : State) : State :=
  match mget? s.kreg.slots f.handle with
  | none => failFill s
  | some v =>
    let key := slotData s f.handle
    if privBad v.alg v.pset key then failFill s
    else
      let t := fillTarget s
      let s1 := { s with kreg := { s.kreg with fill := none } }
      let c := { masked s f.handle v with st := .active, pub := slotPub v.alg v.pset v.units key.length (if v.alg = 6 then eccPublic v.pset key else []) }
      let w := masked s f.handle c
      let s2 := if t.persist = 1 && archiveOpen s then
          appendArch (.addSlot (s1.kreg.archSerial + 1) f.handle { c with persist := true }) (.activate f.handle) none
            (updSlot f.handle (fun _ => { w with st := .loading }) s1)
        else updSlot f.handle (fun _ => w) s1
      setObj Obj.KREG_FILL_STATE 2 (setObj Obj.KREG_FILL_HANDLE f.handle
        (setObj Obj.KREG_FILL_KCV (leNat ((kmac256 key [] (ascii "ZKKCV")).take 4)) s2))

/-- A component of the full length goes into the fill's slot by XOR (R352); the last one completes the key. -/
def addComponent (officer : Nat) (c : Bytes) (s : State) : State :=
  match s.kreg.fill with
  | none => s
  | some f =>
    let s1 := updSlot f.handle (fun v => { v with data := xorBytes v.data c }) s
    let g := { f with done := f.done + 1, officers := officer :: f.officers }
    if g.components ≤ g.done then finishFill g { s1 with kreg := { s1.kreg with fill := some g } }
    else { s1 with kreg := { s1.kreg with fill := some g } }

/-- FILL_TIMEOUT (R353): five minutes after the start. -/
def execFillTimeout (s : State) : Host.Outcome State Fault Refusal :=
  .next (match s.kreg.fill with
    | none => s
    | some f => failFill (advanceTo (f.startedAt + sec 300) s))

end Sys2Proof.Machine
end

