-- ==== Sys2Proof/Machine/Array.lean ====
section
/-!
DEFINITION. The factory memory test modes and the debug master (R103, R574): the key register's cells by physical address, the tag store,
direct array access, scramble bypass, OTP margin read, and the debug master's accesses.
-/
namespace Sys2Proof.Machine

/-! ### Where logical units and entries stand (R339) -/

/-- The permutation that a key gives of the numbers below `n`: the numbers in the order of their ranks. -/
def permOf (key : Bytes) (kind n u : Nat) : Nat :=
  let r := fun v => Config.rank key kind v * n + v
  ((List.range n).filter (fun v => decide (r v < r u))).length

/-- The physical place of logical unit or entry `u` of `n` (R339), or of itself under scramble bypass (R574). -/
def placeOf (s : State) (kind n u : Nat) : Nat := if s.kreg.bypass then u else permOf s.kreg.kScr kind n u

/-- What stands at a physical place. -/
def atPlace (s : State) (kind n c : Nat) : Nat := ((List.range n).find? (fun u => decide (placeOf s kind n u = c))).getD 0

/-! ### Directory entries and units (R329, R332, R337) -/

/-- Bytes of the directory, and of the whole register (R329). -/
abbrev dirSize : Nat := 1572864
abbrev kregSize : Nat := 4194304

/-- A byte of the cells that no slot uses, by its logical address: zero but for what direct array access has left there. -/
def looseByte (s : State) (a : Nat) : Byte := tget (fun _ => 0) s.kreg.loose a

/-- The slot whose units hold a byte of the data area, and the byte's offset in them. -/
def slotAt? (s : State) (i : Nat) : Option (Nat × Slot × Nat) :=
  (mfind? (fun _ v => decide (v.base * 64 ≤ i ∧ i < (v.base + v.units) * 64)) s.kreg.slots).map (fun p => (p.1, p.2, i - p.2.base * 64))

/-- A byte of the data area's cells, by its logical address. -/
def unitByte (s : State) (i : Nat) : Byte :=
  match slotAt? s i with
  | some (_, v, o) => (v.data ++ v.pub).getD o (looseByte s (dirSize + i))
  | none => looseByte s (dirSize + i)

/-- A directory entry's bytes by its handle. -/
def dirBytes (s : State) (h : Nat) : Bytes :=
  match mget? s.kreg.slots h with
  | some v => entryBytes v
  | none => tabulate 24 (fun i => looseByte s (h * 24 + i))

/-- The logical address of a physical one (R339). -/
def logicalAddr (s : State) (a : Nat) : Nat :=
  if a < dirSize then atPlace s 2 65536 (a / 24) * 24 + a % 24
  else dirSize + atPlace s 3 40960 ((a - dirSize) / 64) * 64 + (a - dirSize) % 64

/-- A byte of the key register by its physical address; past its 4 MiB there is none: zero. -/
def kregByte (s : State) (a : Nat) : Byte :=
  let l := logicalAddr s a
  if kregSize ≤ a then 0 else if a < dirSize then byteAt (dirBytes s (l / 24)) (l % 24) |> BitVec.ofNat 8 else unitByte s (l - dirSize)

/-- Put a byte of a cell that no slot uses. -/
def putLoose (a : Nat) (b : Byte) (s : State) : State :=
  { s with kreg := { s.kreg with loose := tset (fun _ => 0) s.kreg.loose a b } }

/-- A slot that a directory entry makes where none stood: the cells of its units are its bytes. -/
def foundSlot (s : State) (b : Bytes) : Slot :=
  let v := entrySlot { owner := 0, alg := 0, pset := 0, usage := 0, st := .empty, persist := false, isPublic := false, stateful := false,
                       origin := 0, base := 0, units := 0, expiry := 0, seed := 0, accesses := 0, refreshedAt := s.now, retiredAt := none,
                       data := [], pub := [] } b
  { v with data := tabulate (64 * v.units) (fun i => unitByte s (v.base * 64 + i)) }

/-- Write a byte of a directory entry: an entry whose STATE is EMPTY is none. -/
def putDirByte (h o : Nat) (b : Byte) (s : State) : State :=
  let e := listSet (dirBytes s h) o b
  let t := { s with kreg := { s.kreg with slots := mdel s.kreg.slots h } }
  if byteAt e 6 % 4 = 0 then (List.range 24).foldl (fun u i => putLoose (h * 24 + i) (BitVec.ofNat 8 (byteAt e i)) u) t
  else match mget? s.kreg.slots h with
    | some v => { s with kreg := { s.kreg with slots := mset s.kreg.slots h (entrySlot v e) } }
    | none => { s with kreg := { s.kreg with slots := mset s.kreg.slots h (foundSlot s e) } }

/-- Write a byte of a unit's cells. -/
def putUnitByte (i : Nat) (b : Byte) (s : State) : State :=
  match slotAt? s i with
  | some (h, v, o) =>
    if o < v.data.length then { s with kreg := { s.kreg with slots := mset s.kreg.slots h { v with data := listSet v.data o b } } }
    else if o < v.data.length + v.pub.length then
      { s with kreg := { s.kreg with slots := mset s.kreg.slots h { v with pub := listSet v.pub (o - v.data.length) b } } }
    else putLoose (dirSize + i) b s
  | none => putLoose (dirSize + i) b s

/-- Write a byte of the key register by its physical address. -/
def putKregByte (a : Nat) (b : Byte) (s : State) : State :=
  let l := logicalAddr s a
  if kregSize ≤ a then s else if a < dirSize then putDirByte (l / 24) (l % 24) b s else putUnitByte (l - dirSize) b s

/-! ### The tag store -/

/-- A byte of the tag store by its physical address: two bytes for each granule, in the order of their addresses. -/
def tagByte (s : State) (a : Nat) : Byte := BitVec.ofNat 8 (tagOf s (a / 2) / 256 ^ (a % 2))

/-- Write a byte of the tag store; the granule is not zeroed. -/
def putTagByte (a : Nat) (b : Byte) (s : State) : State :=
  let g := a / 2
  let t := tagOf s g
  tagOnly g 1 (if a % 2 = 0 then t / 256 * 256 + b.toNat else t % 256 + 256 * b.toNat) s

/-! ### Debug instructions (R574, R577–R579) -/

/-- What a debug instruction does, of what the spec names. -/
inductive DebugAct where
  | sramRead | sramWrite | tagRead | tagWrite | cellRead | cellWrite | bypassOn | bypassOff | marginRead | masterRead | masterWrite | other
deriving DecidableEq, Repr

/-- The action of a debug instruction's opcode: which opcode is which is defined only for Dwesy's tools (R577), a free function. -/
def debugAct (code : Nat) : DebugAct :=
  [DebugAct.sramRead, .sramWrite, .tagRead, .tagWrite, .cellRead, .cellWrite, .bypassOn, .bypassOff, .marginRead, .masterRead,
    .masterWrite].getD (Config.debugCode code) .other

/-- The factory memory test modes exist (R573). -/
def testModes (s : State) : Bool := decide (s.lc.st = .raw ∨ s.lc.st = .test ∨ s.lc.st = .rma)

/-- Bytes that an instruction shifts out. -/
def shiftOut (b : Bytes) (s : State) : State := emit (.tap (leNat b)) s

/-- Write a byte string through a byte store's own write. -/
def putAll (f : Nat → Byte → State → State) (a : Nat) : Bytes → State → State
  | [], s => s
  | b :: r, s => putAll f (a + 1) r (f a b s)

/-- A byte written to a memory by its address, no check made. -/
def putRaw (a : Nat) (b : Byte) (s : State) : State := memWrite a [b] s

/-- The debug master's access: class DEBUG, colour 0x0001, no tag check (R86, R103). -/
def debugAccess (addr len kind : Nat) : FabAcc :=
  { cls := 8, master := 0, colour := 0x0001, addr := addr, len := max 1 (min len 1024), kind := kind, ring := 0xFFFF, entry := 0xFFFFFFFF }

/-- The debug master reads: zero where refused (R103, R105). -/
def masterRead (addr len : Nat) (s : State) : State :=
  let a := debugAccess addr len 1
  match checkAccess s a with
  | some (reason, bad) => shiftOut (zeros a.len) (refuse a reason bad s)
  | none => shiftOut (memRead s addr a.len) s

/-- The debug master writes: dropped where refused (R103, R105). -/
def masterWrite (addr : Nat) (b : Bytes) (s : State) : State :=
  let a := debugAccess addr b.length 2
  match checkAccess s a with
  | some (reason, bad) => refuse a reason bad s
  | none => memWrite addr (b.take a.len) s

/-- A debug instruction that is loaded acts (R103, R574): the factory modes in RAW, TEST and RMA alone.  As many bytes are shifted out as in.
An OTP bit's reading at a raised and a lowered threshold is a free value. -/
def debugActs (act : DebugAct) (addr : Nat) (b : Bytes) (s : State) : State :=
  match act with
  | .masterRead => masterRead addr b.length s
  | .masterWrite => masterWrite addr b s
  | .other => s
  | .sramRead => if testModes s then shiftOut (memRead s addr b.length) s else s
  | .sramWrite => if testModes s then putAll putRaw addr b s else s
  | .tagRead => if testModes s then shiftOut (tabulate b.length (fun i => tagByte s (addr + i))) s else s
  | .tagWrite => if testModes s then putAll putTagByte addr b s else s
  | .cellRead => if testModes s then shiftOut (tabulate b.length (fun i => kregByte s (addr + i))) s else s
  | .cellWrite => if testModes s then putAll putKregByte addr b s else s
  | .bypassOn => if testModes s then { s with kreg := { s.kreg with bypass := true } } else s
  | .bypassOff => if testModes s then { s with kreg := { s.kreg with bypass := false } } else s
  | .marginRead => if testModes s then shiftOut (freeBytes s.free (2 * b.length)) (usedFree s) else s

end Sys2Proof.Machine
end

