-- ==== Sys2Proof/Machine/Flags.lean ====
section
/-!
DEFINITION. The Tsuow core's flags register FL (R460), the flag computations of its arithmetic, and the branch conditions.
-/
namespace Sys2Proof.Machine

/-- Flags of FL (R460). -/
def flZ (c : Core) : Bool := c.fl.getLsbD 0
def flN (c : Core) : Bool := c.fl.getLsbD 1
def flC (c : Core) : Bool := c.fl.getLsbD 2
def flV (c : Core) : Bool := c.fl.getLsbD 3
def flLA (c : Core) : Bool := c.fl.getLsbD 13
def flLS (c : Core) : Bool := c.fl.getLsbD 14

/-- Set Z, N, C and V. -/
def Core.setFlags (c : Core) (z n cy v : Bool) : Core :=
  { c with fl := (c.fl &&& 0xFFFFFFF0) ||| BitVec.ofNat 32 (b2n z + 2 * b2n n + 4 * b2n cy + 8 * b2n v) }

/-- Set LA and LS. -/
def Core.setLoop (c : Core) (la ls : Bool) : Core :=
  { c with fl := (c.fl &&& 0xFFFF9FFF) ||| BitVec.ofNat 32 (0x2000 * b2n la + 0x4000 * b2n ls) }

/-- A branch condition of R469, on flags as a subtraction sets them; none for a code that R469 does not list. -/
def condHolds (c : Core) (code : Nat) : Option Bool :=
  match code with
  | 0 => some (flZ c)
  | 1 => some (!(flZ c))
  | 2 => some (flN c != flV c)
  | 3 => some (flN c == flV c)
  | 4 => some (flC c)
  | 5 => some (!(flC c))
  | 6 => some (flZ c || (flN c != flV c))
  | 7 => some (!(flZ c) && (flN c == flV c))
  | 8 => some (flC c || flZ c)
  | 9 => some (!(flC c) && !(flZ c))
  | 10 => some true
  | _ => none

/-- A value and the flags a register operation sets. -/
structure AluOut where
  val : Word
  cy : Bool
  ov : Bool
deriving DecidableEq, Repr

/-- a + b + carry: the exact sum's carry and signed overflow. -/
def aluAdd (a b : Word) (cin : Bool) : AluOut :=
  let r := a + b + BitVec.ofNat 32 (b2n cin)
  { val := r, cy := decide (2 ^ 32 ≤ a.toNat + b.toNat + b2n cin), ov := decide (a.toInt + b.toInt + b2n cin ≠ r.toInt) }

/-- a − b − borrow: unsigned borrow and signed overflow. -/
def aluSub (a b : Word) (bin : Bool) : AluOut :=
  let r := a - b - BitVec.ofNat 32 (b2n bin)
  { val := r, cy := decide (a.toNat < b.toNat + b2n bin), ov := decide (a.toInt - b.toInt - b2n bin ≠ r.toInt) }

/-- A bitwise result has neither carry nor overflow. -/
def aluLogic (r : Word) : AluOut := { val := r, cy := false, ov := false }

/-- The flags of a result (R460). -/
def Core.aluFlags (c : Core) (o : AluOut) : Core := c.setFlags (decide (o.val = 0)) o.val.msb o.cy o.ov

end Sys2Proof.Machine
end

