-- ==== Sys2Proof/Machine/CoreOps.lean ====
section
/-!
DEFINITION. The Tsuow core (chapter 13): registers, flags, exceptions, fetch, the three address spaces, block repeat, and the
course of an instruction.
-/
namespace Sys2Proof.Machine

/-! ### Registers (R459–R461, R478) -/

/-- A general register. -/
def Core.reg (c : Core) (r : BitVec 4) : Word := tget (fun _ => 0) c.g r.toNat

/-- Write a general register. -/
def Core.setReg (c : Core) (r : BitVec 4) (v : Word) : Core := { c with g := tset (fun _ => 0) c.g r.toNat v }

/-- A vector register. -/
def Core.vec (c : Core) (r : BitVec 3) : BitVec 512 := tget (fun _ => 0) c.v r.toNat

/-- Write a vector register. -/
def Core.setVec (c : Core) (r : BitVec 3) (v : BitVec 512) : Core := { c with v := tset (fun _ => 0) c.v r.toNat v }

/-- A mask register: k0 reads all ones. -/
def Core.maskReg (c : Core) (r : BitVec 3) : BitVec 64 := if r = 0 then BitVec.allOnes 64 else tget (fun _ => 0) c.k r.toNat

/-- Write a mask register: k0 ignores writes. -/
def Core.setMask (c : Core) (r : BitVec 3) (v : BitVec 64) : Core :=
  if r = 0 then c else { c with k := tset (fun _ => 0) c.k r.toNat v }

/-! ### The core's accesses at the fabric (R457, R466, R467) -/

/-- Replace the core. -/
def setCore (c : Core) (s : State) : State := { s with tsuow := { s.tsuow with core := c } }

/-- The core's access as the isolation supervisor sees it: class TSUOW_CELL in user mode, TSUOW_SUP otherwise. -/
def coreAccess (s : State) (c : Core) (addr len kind : Nat) : FabAcc :=
  { cls := if modeUM c then 4 else 3, master := if modeUM c then s.tsuow.current.getD 0 else 0, colour := c.ccol.toNat, addr := addr,
    len := len, kind := kind, ring := 0xFFFF, entry := 0xFFFFFFFF }

/-- A refused access, to be logged once the instruction is done. -/
structure Refused where
  acc : FabAcc
  reason : Nat
  bad : Nat
deriving DecidableEq, Repr

/-- The isolation supervisor takes note of refusals, in order (R104–R112). -/
def refuseAll (l : List Refused) (s : State) : State := l.foldl (fun t r => refuse r.acc r.reason r.bad t) s

/-- The refusal of an access, if it is refused. -/
def refusedAs (s : State) (a : FabAcc) : List Refused :=
  match checkAccess s a with
  | some (reason, bad) => [{ acc := a, reason := reason, bad := bad }]
  | none => []

/-! ### Exceptions (R485–R487) -/

/-- Exception codes. -/
abbrev xILLEGAL : Nat := 0x01
abbrev xPRIV : Nat := 0x02
abbrev xIFAULT : Nat := 0x03
abbrev xDFAULT : Nat := 0x04
abbrev xALIGN : Nat := 0x05
abbrev xLOOPOVF : Nat := 0x06
abbrev xVQBAD : Nat := 0x07
abbrev xSVC : Nat := 0x08
abbrev xBUDGET : Nat := 0x0A
abbrev xRETVAL : Nat := 0x0B
abbrev xINTERRUPT : Nat := 0x10

/-- A fault of an instruction: its code and EADDR. -/
structure Exc where
  code : Nat
  addr : Word
deriving DecidableEq, Repr

/-- SVC_CELL_LAST_EXC (R504). -/
def lastExc (code : Nat) (c : Core) (epc : BitVec 24) (addr : Word) (sub : Nat) : Nat :=
  leNat (leBytes 1 code ++ zeros 1 ++ leBytes 2 c.vstart.toNat ++ leBytes 4 epc.toNat ++ leBytes 4 addr.toNat ++ leBytes 2 sub ++ zeros 2)

/-- A third fence of the same cell within 60 s fences the cell's tenant with cause CONTAINMENT (R638). -/
def containCell (n : Nat) (s : State) : State :=
  if 3 ≤ ((cell s n).fences.filter (fun t => decide (s.now < t + sec 60))).length ∧ cellTenant s n < 4096 then
    fenceTenant (cellTenant s n) 3 s
  else s

/-- The call of the cell that has taken an exception ends FENCED, the cell is FENCED (R502). -/
def excCall (n code : Nat) (epc : BitVec 24) (addr : Word) (c : Core) (s : State) : State :=
  let sub := match (cell s n).call.bind (entry? s) with
    | some x => x.desc.subIndex
    | none => 0
  let s1 := setObj (at_ Obj.SVC_CELL_LAST_EXC n) (lastExc code c epc addr sub) s
  containCell n (endCall n .fenced 0 .fence (bump (at_ Obj.SVC_CELL_EXCS n) s1))

/-- The call's BUDGET is used up: it ends TIMEOUT with code 0x0004 (R502, R640). -/
def budgetCall (n : Nat) (s : State) : State :=
  endCall n .timeout 4 .reinit (bump (Obj.ERR_WDOG_BITES + 3) (bump (at_ Obj.SVC_CELL_TIMEOUTS n) s))

/-- Take an exception with EPC (R487, R502): inside another one the core pair stops; of a cell's program, it ends the call. -/
def takeExc (code : Nat) (epc : BitVec 24) (addr : Word) (s : State) : State :=
  let c := s.tsuow.core
  if modeEL c && decide (code ≠ xINTERRUPT) then setCore { c with stopped := true } s
  else
    let s1 := setCore (c.enter code epc addr) s
    match s.tsuow.current with
    | some n =>
      if !(modeUM c) then s1
      else if code = xINTERRUPT ∨ code = xSVC then s1
      else if code = xBUDGET then budgetCall n s1
      else excCall n code epc addr c s1
    | none => s1

/-! ### Block repeat (R473–R475) -/

/-- end_level() of R473. -/
def Core.endLevel (c : Core) : Core :=
  if flLS c then { c.setLoop (flLA c) false with lc := c.lc1, ls := c.ls1, le := c.le1 } else c.setLoop false false

/-- The check made on completing the instruction at le (R473). -/
def Core.repeatEnd (c : Core) : Core :=
  if c.endPending then
    let d := { c with endPending := false, lc := c.lc - 1 }
    if d.lc ≠ 0 then { d with pc := d.ls } else d.endLevel
  else c

/-- An instruction completes without a branch: on to the next; at le of an active repeat its check is due (R473). -/
def Core.complete (c : Core) : Core := { c with pc := c.pc + 4, endPending := flLA c && decide (c.pc = c.le) }

/-- A taken branch (R474): its target, whatever le is. -/
def Core.goto (c : Core) (a : BitVec 24) : Core := { c with pc := a }

/-! ### Fetch (R462, R467) -/

/-- The I-space addresses `a .. a + len` that the core may fetch or read: 4-byte aligned, in SRAM or ROM, within CB–CL in user
mode. -/
def ispaceOk (c : Core) (a : Nat) : Bool :=
  decide (a % 4 = 0 ∧ a < 0x220000) && (!(modeUM c) || decide (c.cb.toNat ≤ a ∧ a + 3 ≤ c.cl.toNat))

/-- What the fetch at the pc raises, with its refusals: IFAULT, or ILLEGAL for the zero word of a refused fetch. -/
def fetchFault (s : State) (c : Core) : Option Exc × List Refused :=
  let a := c.pc.toNat
  if !(ispaceOk c a) then (some { code := xIFAULT, addr := BitVec.ofNat 32 a }, [])
  else
    let r := refusedAs s (coreAccess s c (codeFabric a) 4 4)
    if r.isEmpty then (none, []) else (some { code := xILLEGAL, addr := 0 }, r)

/-! ### D-space (R463, R465, R466) -/

/-- The fabric address of a D-space address, with its DWIN bit. -/
def dspace (a : Nat) : Option (Nat × Nat) :=
  if a < 0x200000 then some (0x2000000 + a, 0)
  else if 0x10000000 ≤ a ∧ a < 0x10800000 then some (a - 0x10000000, 1)
  else if 0x20000000 ≤ a ∧ a < 0x21000000 then some (0x1000000 + (a - 0x20000000), 2)
  else if 0x30000000 ≤ a ∧ a < 0x30200000 then some (0x3000000 + (a - 0x30000000), 3)
  else none

/-- An address is in a window that the core may reach now. -/
def reaches (c : Core) (a : Nat) : Option Nat :=
  match dspace a with
  | some (f, w) => if modeUM c && !(c.dwin.getLsbD w) then none else some f
  | none => none

/-- The core's own checks of a D-space access of `len` bytes aligned to `al` (R463, R465, R486): the fabric address. -/
def dCheck (c : Core) (a : Word) (len al : Nat) : Exc ⊕ Nat :=
  if a.toNat % al ≠ 0 then .inl { code := xALIGN, addr := a }
  else match reaches c a.toNat, reaches c (a.toNat + len - 1) with
    | some f, some l => if l = f + len - 1 then .inr f else .inl { code := xDFAULT, addr := a }
    | _, _ => .inl { code := xDFAULT, addr := a }

/-- A D-space read that passed the core's checks: its bytes, zero where refused, and the refusal (R105, R466). -/
def dRead (s : State) (c : Core) (f len : Nat) : Bytes × List Refused :=
  let r := refusedAs s (coreAccess s c f len 1)
  (if r.isEmpty then memRead s f len else zeros len, r)

/-- A D-space write that passed the core's checks: dropped where refused. -/
def dWrite (c : Core) (f : Nat) (b : Bytes) (s : State) : State × List Refused :=
  let r := refusedAs s (coreAccess s c f b.length 2)
  (if r.isEmpty then memWrite f b s else s, r)

/-! ### The course of an instruction -/

/-- The core executes instructions: cast-on has started it, it is not stopped, restarting, waiting or in retention, and in
user mode it serves a cell. -/
def coreRuns (s : State) : Bool :=
  let c := s.tsuow.core
  decide (s.upd.phase ≠ 0) && !c.stopped && !c.waiting && !c.retention && !s.tsuow.restarting && (!(modeUM c) || s.tsuow.current.isSome)

/-- In user mode an instruction takes at least one cycle of BUDGET; how many the spec does not list: a free value (R501). -/
def spendBudget (s : State) : State :=
  let c := s.tsuow.core
  if modeUM c then
    { s with free := s.free + 1,
             tsuow := { s.tsuow with core := { c with budget := c.budget - BitVec.ofNat 32 (min c.budget.toNat (1 + Config.freeNat s.free)) } } }
  else s

/-- One instruction: the repeat check that is due, BUDGET exhausted, the fetch, then `f` (R473, R485, R486). -/
def coreRow (f : State → State) (s : State) : State :=
  if !(coreRuns s) then s
  else
    let s1 := setCore s.tsuow.core.repeatEnd s
    let c := s1.tsuow.core
    if modeUM c && decide (c.budget = 0) then takeExc xBUDGET c.pc 0 s1
    else match fetchFault s1 c with
      | (some x, r) => refuseAll r (takeExc x.code c.pc x.addr s1)
      | (none, _) => f (spendBudget s1)

/-- An instruction that only changes the core. -/
def coreOnly (f : Core → Core) (s : State) : State := setCore (f s.tsuow.core) s

/-- An instruction that faults or changes the core. -/
def coreMay (f : Core → Exc ⊕ Core) (s : State) : State :=
  match f s.tsuow.core with
  | .inl x => takeExc x.code s.tsuow.core.pc x.addr s
  | .inr c => setCore c s

/-- The supervisor-only check (R485). -/
def privileged (c : Core) (k : Core) : Exc ⊕ Core := if modeUM c then .inl { code := xPRIV, addr := 0 } else .inr k

/-- A fault at the instruction. -/
def faultAt (x : Exc) (s : State) : State := takeExc x.code s.tsuow.core.pc x.addr s

/-- An undefined or reserved encoding (R469). -/
def illegal (s : State) : State := takeExc xILLEGAL s.tsuow.core.pc 0 s

/-- An interrupt may be taken now (R488). -/
def mayInterrupt (c : Core) : Bool := modeUM c || (modeIE c && !(modeEL c))

/-- What is taken between two elements of a string, gather or scatter (R471, R484): BUDGET in user mode, or an interrupt that
may be taken, with EPC the instruction. -/
def breakAt (budget : Bool) (s : State) : State :=
  let c := s.tsuow.core
  if budget then (if modeUM c then takeExc xBUDGET c.pc 0 (setCore { c with budget := 0 } s) else s)
  else takeExc xINTERRUPT c.pc 0 s

/-- A break between elements does occur. -/
def breakOccurs (budget : Bool) (c : Core) : Bool := if budget then modeUM c else mayInterrupt c

end Sys2Proof.Machine
end

