-- ==== Sys2Proof/Machine/CoreAlu.lean ====
section
/-!
DEFINITION. The Tsuow core's scalar instructions (R469): arithmetic, memory, branches, block repeat, ports, control and
feature registers, system instructions.
-/
namespace Sys2Proof.Machine

/-! ### Arithmetic -/

/-- A register operation: result and flags (R469). -/
def aluRow (rd : BitVec 4) (f : Core → AluOut) (s : State) : State :=
  coreRow (coreOnly (fun c => ((c.setReg rd (f c).val).aluFlags (f c)).complete)) s

/-- A register operation without flags. -/
def movRow (rd : BitVec 4) (f : Core → Word) (s : State) : State := coreRow (coreOnly (fun c => (c.setReg rd (f c)).complete)) s

/-- A comparison: flags alone. -/
def cmpRow (f : Core → AluOut) (s : State) : State := coreRow (coreOnly (fun c => (c.aluFlags (f c)).complete)) s

/-- ADD. -/
def execAdd (rd rs1 rs2 : BitVec 4) (s : State) : Host.Outcome State Fault Refusal :=
  .next (aluRow rd (fun c => aluAdd (c.reg rs1) (c.reg rs2) false) s)

/-- SUB. -/
def execSub (rd rs1 rs2 : BitVec 4) (s : State) : Host.Outcome State Fault Refusal :=
  .next (aluRow rd (fun c => aluSub (c.reg rs1) (c.reg rs2) false) s)

/-- AND. -/
def execAnd (rd rs1 rs2 : BitVec 4) (s : State) : Host.Outcome State Fault Refusal :=
  .next (aluRow rd (fun c => aluLogic (c.reg rs1 &&& c.reg rs2)) s)

/-- OR. -/
def execOr (rd rs1 rs2 : BitVec 4) (s : State) : Host.Outcome State Fault Refusal :=
  .next (aluRow rd (fun c => aluLogic (c.reg rs1 ||| c.reg rs2)) s)

/-- XOR. -/
def execXor (rd rs1 rs2 : BitVec 4) (s : State) : Host.Outcome State Fault Refusal :=
  .next (aluRow rd (fun c => aluLogic (c.reg rs1 ^^^ c.reg rs2)) s)

/-- A shift: the spec states no result for a count of 32 or more, and no C and V for any: free values. -/
def shiftRow (rd rs1 rs2 : BitVec 4) (f : Word → Nat → Word) (s : State) : State :=
  coreRow (fun t =>
    let c := t.tsuow.core
    let n := (c.reg rs2).toNat
    let v := if n < 32 then f (c.reg rs1) n else BitVec.ofNat 32 (Config.freeNat t.free)
    let w := Config.freeNat (t.free + 1)
    setCore ((c.setReg rd v).aluFlags { val := v, cy := bit w 0, ov := bit w 1 }).complete { t with free := t.free + 2 }) s

/-- SHL. -/
def execShl (rd rs1 rs2 : BitVec 4) (s : State) : Host.Outcome State Fault Refusal :=
  .next (shiftRow rd rs1 rs2 (fun a n => a <<< n) s)

/-- SHR. -/
def execShr (rd rs1 rs2 : BitVec 4) (s : State) : Host.Outcome State Fault Refusal :=
  .next (shiftRow rd rs1 rs2 (fun a n => a >>> n) s)

/-- SAR. -/
def execSar (rd rs1 rs2 : BitVec 4) (s : State) : Host.Outcome State Fault Refusal :=
  .next (shiftRow rd rs1 rs2 (fun a n => a.sshiftRight n) s)

/-- MUL: the low 32 bits. -/
def execMul (rd rs1 rs2 : BitVec 4) (s : State) : Host.Outcome State Fault Refusal :=
  .next (movRow rd (fun c => c.reg rs1 * c.reg rs2) s)

/-- MULHU: the high 32 bits of the unsigned product. -/
def execMulhu (rd rs1 rs2 : BitVec 4) (s : State) : Host.Outcome State Fault Refusal :=
  .next (movRow rd (fun c => BitVec.ofNat 32 ((c.reg rs1).toNat * (c.reg rs2).toNat / 2 ^ 32)) s)

/-- MULHS: the high 32 bits of the signed product. -/
def execMulhs (rd rs1 rs2 : BitVec 4) (s : State) : Host.Outcome State Fault Refusal :=
  .next (movRow rd (fun c => BitVec.ofInt 32 ((c.reg rs1).toInt * (c.reg rs2).toInt / 2 ^ 32)) s)

/-- CMP: FL from RS1 − RS2. -/
def execCmp (rs1 rs2 : BitVec 4) (s : State) : Host.Outcome State Fault Refusal :=
  .next (cmpRow (fun c => aluSub (c.reg rs1) (c.reg rs2) false) s)

/-- ADDC: add with the carry in C. -/
def execAddc (rd rs1 rs2 : BitVec 4) (s : State) : Host.Outcome State Fault Refusal :=
  .next (aluRow rd (fun c => aluAdd (c.reg rs1) (c.reg rs2) (flC c)) s)

/-- SUBC: subtract with the borrow in C. -/
def execSubc (rd rs1 rs2 : BitVec 4) (s : State) : Host.Outcome State Fault Refusal :=
  .next (aluRow rd (fun c => aluSub (c.reg rs1) (c.reg rs2) (flC c)) s)

/-- IMM18, signed and zero-extended. -/
def simm (i : BitVec 18) : Word := i.signExtend 32
def zimm (i : BitVec 18) : Word := i.zeroExtend 32

/-- ADDI. -/
def execAddi (rd rs1 : BitVec 4) (imm : BitVec 18) (s : State) : Host.Outcome State Fault Refusal :=
  .next (movRow rd (fun c => c.reg rs1 + simm imm) s)

/-- ORI. -/
def execOri (rd rs1 : BitVec 4) (imm : BitVec 18) (s : State) : Host.Outcome State Fault Refusal :=
  .next (movRow rd (fun c => c.reg rs1 ||| zimm imm) s)

/-- XORI. -/
def execXori (rd rs1 : BitVec 4) (imm : BitVec 18) (s : State) : Host.Outcome State Fault Refusal :=
  .next (movRow rd (fun c => c.reg rs1 ^^^ zimm imm) s)

/-- ANDI. -/
def execAndi (rd rs1 : BitVec 4) (imm : BitVec 18) (s : State) : Host.Outcome State Fault Refusal :=
  .next (movRow rd (fun c => c.reg rs1 &&& zimm imm) s)

/-- LHI: IMM18 << 14. -/
def execLhi (rd : BitVec 4) (imm : BitVec 18) (s : State) : Host.Outcome State Fault Refusal :=
  .next (movRow rd (fun _ => zimm imm <<< 14) s)

/-- CMPI: FL from RS1 − IMM18. -/
def execCmpi (rs1 : BitVec 4) (imm : BitVec 18) (s : State) : Host.Outcome State Fault Refusal :=
  .next (cmpRow (fun c => aluSub (c.reg rs1) (simm imm) false) s)

/-! ### Memory (R463–R467) -/

/-- A scalar load of `len` bytes, zero-extended; a refused one gives zero. -/
def loadRow (rd rs1 : BitVec 4) (imm : BitVec 18) (len : Nat) (s : State) : State :=
  coreRow (fun t =>
    let c := t.tsuow.core
    match dCheck c (c.reg rs1 + simm imm) len len with
    | .inl x => faultAt x t
    | .inr f =>
      let r := dRead t c f len
      refuseAll r.2 (setCore (c.setReg rd (BitVec.ofNat 32 (leNat r.1))).complete t)) s

/-- A scalar store of `len` bytes; a refused one is dropped. -/
def storeRow (rd rs1 : BitVec 4) (imm : BitVec 18) (len : Nat) (s : State) : State :=
  coreRow (fun t =>
    let c := t.tsuow.core
    match dCheck c (c.reg rs1 + simm imm) len len with
    | .inl x => faultAt x t
    | .inr f =>
      let r := dWrite c f (leBytes len (c.reg rd).toNat) t
      refuseAll r.2 (setCore c.complete r.1)) s

/-- LD. -/
def execLd (rd rs1 : BitVec 4) (imm : BitVec 18) (s : State) : Host.Outcome State Fault Refusal := .next (loadRow rd rs1 imm 4 s)

/-- LDH. -/
def execLdh (rd rs1 : BitVec 4) (imm : BitVec 18) (s : State) : Host.Outcome State Fault Refusal := .next (loadRow rd rs1 imm 2 s)

/-- LDB. -/
def execLdb (rd rs1 : BitVec 4) (imm : BitVec 18) (s : State) : Host.Outcome State Fault Refusal := .next (loadRow rd rs1 imm 1 s)

/-- ST. -/
def execSt (rd rs1 : BitVec 4) (imm : BitVec 18) (s : State) : Host.Outcome State Fault Refusal := .next (storeRow rd rs1 imm 4 s)

/-- STH. -/
def execSth (rd rs1 : BitVec 4) (imm : BitVec 18) (s : State) : Host.Outcome State Fault Refusal := .next (storeRow rd rs1 imm 2 s)

/-- STB. -/
def execStb (rd rs1 : BitVec 4) (imm : BitVec 18) (s : State) : Host.Outcome State Fault Refusal := .next (storeRow rd rs1 imm 1 s)

/-- A byte of I-space: SRAM and ROM are memory of the fabric; the ROM's content is not listed by the spec. -/
def ispaceByte (s : State) (a : Nat) : Byte := if romAddr (codeFabric a) then Config.firmware a else memByte s (codeFabric a)

/-- LDI (R462, R467): a word of I-space; a refused one gives zero. -/
def execLdi (rd rs1 : BitVec 4) (imm : BitVec 18) (s : State) : Host.Outcome State Fault Refusal :=
  .next (coreRow (fun t =>
    let c := t.tsuow.core
    let a := (c.reg rs1 + simm imm).toNat
    if !(ispaceOk c a) then faultAt { code := xIFAULT, addr := BitVec.ofNat 32 a } t
    else
      let r := refusedAs t (coreAccess t c (codeFabric a) 4 1)
      let b := if r.isEmpty then (List.range 4).map (fun i => ispaceByte t (a + i)) else zeros 4
      refuseAll r (setCore (c.setReg rd (BitVec.ofNat 32 (leNat b))).complete t)) s)

/-! ### Branches (R469, R474) -/

/-- A branch target: the instruction's address plus 4 × offset. -/
def target (c : Core) (off : BitVec 24) : BitVec 24 := c.pc + 4 * off

/-- BR. -/
def execBr (cond : BitVec 4) (off : BitVec 22) (s : State) : Host.Outcome State Fault Refusal :=
  .next (coreRow (fun t =>
    let c := t.tsuow.core
    match condHolds c cond.toNat with
    | none => illegal t
    | some true => setCore (c.goto (target c (off.signExtend 24))) t
    | some false => setCore c.complete t) s)

/-- JMP. -/
def execJmp (off : BitVec 26) (s : State) : Host.Outcome State Fault Refusal :=
  .next (coreRow (coreOnly (fun c => c.goto (target c (off.truncate 24)))) s)

/-- The return address in g14. -/
def Core.link (c : Core) : Core := c.setReg 14 ((c.pc + 4).zeroExtend 32)

/-- CALL. -/
def execCall (off : BitVec 26) (s : State) : Host.Outcome State Fault Refusal :=
  .next (coreRow (coreOnly (fun c => c.link.goto (target c (off.truncate 24)))) s)

/-- JR. -/
def execJr (rs1 : BitVec 4) (s : State) : Host.Outcome State Fault Refusal :=
  .next (coreRow (coreOnly (fun c => c.goto ((c.reg rs1).truncate 24))) s)

/-- CALLR. -/
def execCallr (rs1 : BitVec 4) (s : State) : Host.Outcome State Fault Refusal :=
  .next (coreRow (coreOnly (fun c => c.link.goto ((c.reg rs1).truncate 24))) s)

/-! ### Block repeat (R473, R474) -/

/-- The le a BRPT sets. -/
def brptEnd (c : Core) (imm : BitVec 18) : BitVec 24 := c.pc + 4 * imm.zeroExtend 24

/-- BRPT's fault, in the order of R486. -/
def brptFault (c : Core) (imm : BitVec 18) : Option Exc :=
  let le := (brptEnd c imm).toNat
  if modeUM c && !(decide (c.cb.toNat ≤ le ∧ le ≤ c.cl.toNat)) then some { code := xIFAULT, addr := BitVec.ofNat 32 le }
  else if imm = 0 ∨ (flLA c ∧ c.le.toNat < le) then some { code := xILLEGAL, addr := 0 }
  else if flLA c && flLS c then some { code := xLOOPOVF, addr := 0 }
  else none

/-- BRPT's effect (R473). -/
def brptDo (c : Core) (rs1 : BitVec 4) (imm : BitVec 18) : Core :=
  let c1 := if flLA c then { c.setLoop true true with lc1 := c.lc, ls1 := c.ls, le1 := c.le } else c
  let c2 := { c1 with lc := c.reg rs1, ls := c.pc + 4, le := brptEnd c imm }
  if c2.lc = 0 then { c2.endLevel with pc := brptEnd c imm + 4 } else { c2.setLoop true (flLS c2) with pc := c.pc + 4 }

/-- BRPT. -/
def execBrpt (rs1 : BitVec 4) (imm : BitVec 18) (s : State) : Host.Outcome State Fault Refusal :=
  .next (coreRow (fun t =>
    let c := t.tsuow.core
    match brptFault c imm with
    | some x => faultAt x t
    | none => setCore (brptDo c rs1 imm) t) s)

/-- BLOCK_REPEAT_END (R473): the check that is due on completing the instruction at le. -/
def execBlockRepeatEnd (s : State) : Host.Outcome State Fault Refusal := .next (coreOnly Core.repeatEnd s)

/-- BREND (R474): the level it ends is gone when it completes; at the le of the outer level that one's check is due (R473). -/
def execBrend (s : State) : Host.Outcome State Fault Refusal :=
  .next (coreRow (coreOnly (fun c => c.endLevel.complete)) s)

/-! ### Ports (R464) -/

/-- The port an IN or OUT names. -/
def portOf (c : Core) (rs1 : BitVec 4) (imm : BitVec 18) : Nat := (c.reg rs1 + simm imm).toNat % 65536

/-- Ports of R464's table. -/
def listedPort (p : Nat) : Bool := decide (0x8000 ≤ p ∧ p ≤ 0x8004)

/-- The value a port read returns, and the state after it; what the ports of the supervisor firmware return the spec does
not say: a free value. -/
def portRead (p : Nat) (s : State) : Word × State :=
  let c := s.tsuow.core
  match p with
  | 0x8000 =>
    if rngReady s then let d := draw 40 4 s; (BitVec.ofNat 32 (leNat d.1), d.2)
    else (0, setCore { c with fl := c.fl ||| 0x8000 } s)
  | 0x8001 => (BitVec.ofNat 32 (time64 s), setCore { c with timeHi := BitVec.ofNat 32 (time64 s / 2 ^ 32) } s)
  | 0x8002 => (c.timeHi, s)
  | 0x8003 => (BitVec.ofNat 32 (c.budget.toNat / 800), s)
  | 0x8004 => (BitVec.ofNat 32 (s.tsuow.current.getD 0), s)
  | _ => (BitVec.ofNat 32 (Config.freeNat s.free), usedFree s)

/-- A read of the RNG port stalls: the source has neither started nor failed (R464, R516). -/
def portStalls (s : State) (p : Nat) : Bool := decide (p = 0x8000) && decide (s.rng.st = .off ∨ s.rng.st = .startup)

/-- IN. -/
def execInPort (rd rs1 : BitVec 4) (imm : BitVec 18) (s : State) : Host.Outcome State Fault Refusal :=
  .next (coreRow (fun t =>
    let c := t.tsuow.core
    let p := portOf c rs1 imm
    if modeUM c && !(listedPort p) then faultAt { code := xPRIV, addr := 0 } t
    else if portStalls t p then t
    else
      let r := portRead p t
      setCore (r.2.tsuow.core.setReg rd r.1).complete r.2) s)

/-- OUT: a listed port ignores it; what a port of the supervisor firmware does with it the spec does not say. -/
def execOutPort (_rd rs1 : BitVec 4) (imm : BitVec 18) (s : State) : Host.Outcome State Fault Refusal :=
  .next (coreRow (fun t =>
    let c := t.tsuow.core
    if modeUM c && !(listedPort (portOf c rs1 imm)) then faultAt { code := xPRIV, addr := 0 } t
    else setCore c.complete t) s)

/-! ### Control and feature registers (R461, R476) -/

/-- A control register's value; none for a number that R461 does not list. -/
def ctlRead (c : Core) (n : Nat) : Option Word :=
  match n with
  | 0x00 => some c.fl
  | 0x01 => some c.lc
  | 0x02 => some (c.ls.zeroExtend 32)
  | 0x03 => some (c.le.zeroExtend 32)
  | 0x04 => some c.lc1
  | 0x05 => some (c.ls1.zeroExtend 32)
  | 0x06 => some (c.le1.zeroExtend 32)
  | 0x08 => some c.vstart
  | 0x09 => some c.vqLo
  | 0x0A => some c.vqHi
  | 0x10 => some c.mode
  | 0x11 => some (c.epc.zeroExtend 32)
  | 0x12 => some c.efl
  | 0x13 => some c.ecause
  | 0x14 => some c.eaddr
  | 0x15 => some (c.evec.zeroExtend 32)
  | 0x18 => some c.ccol
  | 0x19 => some c.cb
  | 0x1A => some c.cl
  | 0x1B => some c.dwin
  | 0x1C => some c.budget
  | _ => none

/-- A user-mode access raises PRIV (R461). -/
def ctlPriv (n : Nat) : Bool := decide (0x10 ≤ n)

/-- The colours CCOL takes (R457). -/
def ccolOk (v : Word) : Bool := decide (v = 0 ∨ v = 2 ∨ (0x1000 ≤ v.toNat ∧ v.toNat < 0x2000))

/-- Write a control register of R461 within its width. -/
def ctlWrite (c : Core) (n : Nat) (v : Word) : Core :=
  match n with
  | 0x00 => { c with fl := if modeUM c then (c.fl &&& 0x6000) ||| (v &&& 0x800F) else v &&& 0xE00F }
  | 0x01 => { c with lc := v }
  | 0x02 => { c with ls := v.truncate 24 }
  | 0x03 => { c with le := v.truncate 24 }
  | 0x04 => { c with lc1 := v }
  | 0x05 => { c with ls1 := v.truncate 24 }
  | 0x06 => { c with le1 := v.truncate 24 }
  | 0x08 => { c with vstart := v &&& 0x3F }
  | 0x09 => { c with vqLo := v }
  | 0x0A => { c with vqHi := v }
  | 0x10 => { c with mode := v &&& 0xF }
  | 0x11 => { c with epc := v.truncate 24 }
  | 0x12 => { c with efl := v }
  | 0x13 => { c with ecause := v &&& 0xFF }
  | 0x14 => { c with eaddr := v }
  | 0x15 => { c with evec := v.truncate 24 &&& 0xFFF000 }
  | 0x18 => if ccolOk (v &&& 0xFFFF) then { c with ccol := v &&& 0xFFFF } else c
  | 0x19 => { c with cb := v &&& 0xFFFFFF }
  | 0x1A => { c with cl := v &&& 0xFFFFFF }
  | 0x1B => { c with dwin := v &&& 0xF }
  | 0x1C => { c with budget := v }
  | _ => c

/-- MFC. -/
def execMfc (rd : BitVec 4) (imm : BitVec 18) (s : State) : Host.Outcome State Fault Refusal :=
  .next (coreRow (coreMay (fun c =>
    match ctlRead c imm.toNat with
    | none => .inl { code := xILLEGAL, addr := 0 }
    | some v => if modeUM c && ctlPriv imm.toNat then .inl { code := xPRIV, addr := 0 } else .inr (c.setReg rd v).complete)) s)

/-- MTC. -/
def execMtc (rs1 : BitVec 4) (imm : BitVec 18) (s : State) : Host.Outcome State Fault Refusal :=
  .next (coreRow (coreMay (fun c =>
    if (ctlRead c imm.toNat).isNone then .inl { code := xILLEGAL, addr := 0 }
    else if modeUM c && ctlPriv imm.toNat then .inl { code := xPRIV, addr := 0 }
    else .inr (ctlWrite c imm.toNat (c.reg rs1)).complete)) s)

/-- The feature registers of stepping B0 (R476). -/
def featReg (n : Nat) : Option Word :=
  match n with
  | 0 => some 0x00010000
  | 1 => some 0x000000FF
  | 2 => some 0x0200040F
  | 3 => some 0x040C0410
  | 4 => some 0x08000800
  | 5 => some 0x00004008
  | 6 => some 0x00000320
  | 7 => some 0
  | _ => none

/-- FEAT. -/
def execFeat (rd : BitVec 4) (imm : BitVec 18) (s : State) : Host.Outcome State Fault Refusal :=
  .next (coreRow (coreMay (fun c =>
    match featReg imm.toNat with
    | none => .inl { code := xILLEGAL, addr := 0 }
    | some v => .inr (c.setReg rd v).complete)) s)

/-! ### System instructions (R469, R487) -/

/-- NOP. -/
def execNop (s : State) : Host.Outcome State Fault Refusal := .next (coreRow (coreOnly Core.complete) s)

/-- ERET. -/
def execEret (s : State) : Host.Outcome State Fault Refusal := .next (coreRow (coreMay (fun c => privileged c c.eret)) s)

/-- WFI: waits for an interrupt. -/
def execWfi (s : State) : Host.Outcome State Fault Refusal :=
  .next (coreRow (coreMay (fun c => privileged c { c.complete with waiting := true })) s)

/-- FENCE: accesses complete in program order, so nothing is left to wait for (R458). -/
def execFence (s : State) : Host.Outcome State Fault Refusal := .next (coreRow (coreMay (fun c => privileged c c.complete)) s)

/-- Which words are legal encodings (R468–R470, R476, R478–R480, R499), by format; the fields that an operation does not use are zero. -/
def legalWord (w : Nat) : Bool :=
  let op := bits w 31 26
  let rd := bits w 25 22
  let rs1 := bits w 21 18
  let rs2 := bits w 17 14
  let fn := bits w 13 0
  let imm := bits w 17 0
  let vd := bits w 25 23
  let va := bits w 22 20
  let vb := bits w 19 17
  let k := bits w 16 14
  let ew := bits w 13 12
  let z := bit w 11
  let sgn := bit w 10
  let vfn := bits w 9 0
  let vmi := bits w 18 16
  let vmfn := bits w 9 0
  match op with
  | 0x01 => decide (fn ≤ 13) && (decide (fn ≠ 11) || decide (rd = 0))
  | 0x02 => true
  | 0x03 => true
  | 0x04 => true
  | 0x05 => true
  | 0x06 => decide (rs1 = 0)
  | 0x07 => decide (rd = 0)
  | 0x08 => true
  | 0x09 => true
  | 0x0A => true
  | 0x0B => true
  | 0x0C => true
  | 0x0D => true
  | 0x0E => true
  | 0x10 => decide (rd ≤ 10)
  | 0x11 => true
  | 0x12 => true
  | 0x13 => decide (fn ≤ 1 ∧ rd = 0 ∧ rs2 = 0)
  | 0x14 => decide (rd = 0 ∧ imm ≠ 0)
  | 0x15 => decide (rd = 0 ∧ rs1 = 0 ∧ rs2 = 0 ∧ fn = 0)
  | 0x18 => true
  | 0x19 => true
  | 0x1A =>
    let sz := bits w 24 23
    let halt := rs1
    decide (fn ≤ 5 ∧ rs2 = 0 ∧ sz ≠ 3) && !(decide (4 ≤ fn ∧ sz ≠ 2)) &&
      (decide (halt = 15) || (decide (halt ≤ 9 ∧ (fn = 1 ∨ fn = 2)) && bit w 25))
  | 0x1C => decide (rs1 = 0) && (ctlRead Core.reset imm).isSome
  | 0x1D => decide (rd = 0) && (ctlRead Core.reset imm).isSome
  | 0x1E => decide (rs1 = 0 ∧ imm ≤ 7)
  | 0x1F =>
    let f := fn % 256
    let svc := fn / 256
    decide (rd = 0 ∧ rs1 = 0 ∧ rs2 = 0) && (decide (f = 0 ∧ svc = 0) || decide (f = 1 ∧ svc ≤ 3) || decide (2 ≤ f ∧ f ≤ 4 ∧ svc = 0))
  | 0x20 =>
    match vmfn with
    | 0 => decide (vmi = 0)
    | 1 => decide (vmi = 0) && !(bit w 10)
    | 2 => true
    | 3 => !(bit w 10)
    | _ => false
  | 0x21 =>
    match vfn with
    | 0 => !sgn
    | 1 => !sgn
    | 2 => true
    | 3 => true
    | 4 => decide (ew ≠ 3)
    | 5 => decide (ew ≠ 3)
    | 6 => decide (ew = 0)
    | 7 => decide (ew = 1)
    | 8 => decide (ew = 1)
    | 9 => decide (ew = 1)
    | 10 => decide (ew ≠ 0) && !sgn
    | _ => decide (16 ≤ vfn ∧ vfn ≤ 22) && !sgn
  | 0x22 => decide (vfn ≤ 3)
  | 0x23 =>
    match vfn with
    | 0 => decide (vb = 0) && !sgn
    | 1 => decide (k = 0) && !z && !sgn
    | 2 => decide (va % 2 = 0 ∧ vb = 0 ∧ k = 0 ∧ ew = 0) && !z && !sgn
    | 3 => decide (vd % 2 = 0 ∧ vb = 0 ∧ k = 0 ∧ ew = 0) && !z && !sgn
    | 4 => decide (k = 0 ∧ ew = 0) && !z && !sgn
    | 5 => decide (k = 0 ∧ ew = 0) && !z && !sgn
    | 6 => decide (k = 0 ∧ ew = 0) && !z && !sgn
    | 7 => decide (vb = 0 ∧ k = 0 ∧ ew = 0) && !z && !sgn
    | _ => false
  | _ => false

/-- ILLEGAL (R469): an undefined or reserved encoding raises ILLEGAL; a word that R469 gives a meaning is not this event. -/
def execIllegal (w : Word) (s : State) : Host.Outcome State Fault Refusal :=
  .next (if legalWord w.toNat then s else coreRow illegal s)

/-! ### Interrupts and the budget (R485–R488, R502) -/

/-- INTERRUPT (R488): taken between instructions, when it may be; it ends WFI and retention. -/
def execInterrupt (s : State) : Host.Outcome State Fault Refusal :=
  .next (
    if decide (s.upd.phase ≠ 0) && !s.tsuow.core.stopped && !s.tsuow.restarting then
      let s1 := wakeCore s
      let c := { s1.tsuow.core.repeatEnd with waiting := false }
      if mayInterrupt c then takeExc xINTERRUPT c.pc 0 (setCore c s1) else setCore c s1
    else s)

/-- BUDGET (R485, R502): the running call's BUDGET reaches zero. -/
def execBudget (s : State) : Host.Outcome State Fault Refusal :=
  .next (if coreRuns s && modeUM s.tsuow.core then
      let c := { s.tsuow.core.repeatEnd with budget := 0 }
      takeExc xBUDGET c.pc 0 (setCore c s)
    else s)

end Sys2Proof.Machine
end

