-- ==== Sys2Proof/Machine/CoreStr.lean ====
section
/-!
DEFINITION. String instructions of the Tsuow core (R470–R472).
-/
namespace Sys2Proof.Machine

/-- The string operations. -/
inductive StrOp where
  | movs | cmps | scas | fills | ins | outs
deriving DecidableEq, Repr

/-- What one element comes to: done, with the state and any refusals; or a fault. -/
inductive StrStep where
  | fault (x : Exc)
  | stall
  | done (s : State) (r : List Refused)
deriving DecidableEq, Repr

/-- g8–g12 (R459). -/
abbrev gVAL : BitVec 4 := 8
abbrev gSRC : BitVec 4 := 9
abbrev gDST : BitVec 4 := 10
abbrev gCNT : BitVec 4 := 11
abbrev gPORT : BitVec 4 := 12

/-- Element size in bytes. -/
def strSize (sz : BitVec 2) : Nat := 2 ^ sz.toNat

/-- Move a pointer by one element. -/
def Core.strMove (c : Core) (r : BitVec 4) (n : Nat) (dir : Bool) : Core :=
  c.setReg r (if dir then c.reg r - BitVec.ofNat 32 n else c.reg r + BitVec.ofNat 32 n)

/-- The flags of comparing two elements of `n` bytes, as a subtraction of that width sets them. -/
def Core.strCmp (c : Core) (n a b : Nat) : Core :=
  let w := 8 * n
  let r := (a + 2 ^ w - b) % 2 ^ w
  let sg := fun x => decide (2 ^ (w - 1) ≤ x)
  c.setFlags (decide (r = 0)) (sg r) (decide (a < b)) (sg a != sg b && sg r != sg a)

/-- The fabric addresses of a source and a destination element, or the fault that comes first (R486): ALIGN of either before
DFAULT of either. -/
def strPair (c : Core) (n : Nat) : Exc ⊕ (Nat × Nat) :=
  if (c.reg gSRC).toNat % n ≠ 0 then .inl { code := xALIGN, addr := c.reg gSRC }
  else if (c.reg gDST).toNat % n ≠ 0 then .inl { code := xALIGN, addr := c.reg gDST }
  else match dCheck c (c.reg gSRC) n n, dCheck c (c.reg gDST) n n with
    | .inr f, .inr g => .inr (f, g)
    | .inl x, _ => .inl x
    | _, .inl x => .inl x

/-- One element of a string instruction (R470): nothing moves where it faults. -/
def strElem (op : StrOp) (n : Nat) (dir : Bool) (s : State) : StrStep :=
  let c := s.tsuow.core
  match op with
  | .movs =>
    match strPair c n with
    | .inl x => .fault x
    | .inr (f, g) =>
        let a := dRead s c f n
        let b := dWrite c g a.1 s
        .done (setCore ((c.strMove gSRC n dir).strMove gDST n dir) b.1) (a.2 ++ b.2)
  | .cmps =>
    match strPair c n with
    | .inl x => .fault x
    | .inr (f, g) =>
        let a := dRead s c f n
        let b := dRead s c g n
        .done (setCore (((c.strCmp n (leNat a.1) (leNat b.1)).strMove gSRC n dir).strMove gDST n dir) s) (a.2 ++ b.2)
  | .scas =>
    match dCheck c (c.reg gDST) n n with
    | .inl x => .fault x
    | .inr g =>
      let b := dRead s c g n
      .done (setCore ((c.strCmp n ((c.reg gVAL).toNat % 2 ^ (8 * n)) (leNat b.1)).strMove gDST n dir) s) b.2
  | .fills =>
    match dCheck c (c.reg gDST) n n with
    | .inl x => .fault x
    | .inr g =>
      let b := dWrite c g (leBytes n (c.reg gVAL).toNat) s
      .done (setCore (c.strMove gDST n dir) b.1) b.2
  | .ins =>
    let p := (c.reg gPORT).toNat % 65536
    if modeUM c && !(listedPort p) then .fault { code := xPRIV, addr := 0 }
    else match dCheck c (c.reg gDST) n n with
    | .inl x => .fault x
    | .inr g =>
      if portStalls s p then .stall
      else
        let v := portRead p s
        let d := v.2.tsuow.core
        let b := dWrite d g (leBytes n v.1.toNat) v.2
        .done (setCore (d.strMove gDST n dir) b.1) b.2
  | .outs =>
    let p := (c.reg gPORT).toNat % 65536
    if modeUM c && !(listedPort p) then .fault { code := xPRIV, addr := 0 }
    else match dCheck c (c.reg gSRC) n n with
    | .inl x => .fault x
    | .inr f =>
      let a := dRead s c f n
      .done (setCore (c.strMove gSRC n dir) s) a.2

/-- The fields of a string instruction that raise ILLEGAL (R470). -/
def strIllegal (op : StrOp) (rpt : Bool) (sz : BitVec 2) (halt : BitVec 4) : Bool :=
  decide (sz = 3) || (decide (op = .ins ∨ op = .outs) && decide (sz ≠ 2)) ||
    (decide (halt ≠ 15) && (!rpt || decide (op ≠ .cmps ∧ op ≠ .scas) || decide (10 ≤ halt.toNat)))

/-- The instruction ends: on to the next (R470). -/
def strDone (r : List Refused) (s : State) : State := refuseAll r (setCore s.tsuow.core.complete s)

/-- One element of a repeat with its count and halt condition (R470): the state, its refusals, and whether the instruction is
over. -/
def strOne (op : StrOp) (n : Nat) (dir : Bool) (halt : BitVec 4) (s : State) : State × List Refused × Bool :=
  match strElem op n dir s with
  | .fault x => (faultAt x s, [], true)
  | .stall => (s, [], true)
  | .done t q =>
    let d := t.tsuow.core
    let e := d.setReg gCNT (d.reg gCNT - 1)
    if halt ≠ 15 ∧ condHolds e halt.toNat = some true then (setCore e.complete t, q, true) else (setCore e t, q, false)

/-- A break is taken now: after `k` elements (R471). -/
def strBreak (brk : Option ElemBreak) (k : Nat) (c : Core) : Option Bool :=
  match brk with
  | some b => if b.after = k ∧ k ≠ 0 ∧ breakOccurs b.budget c then some b.budget else none
  | none => none

/-- The repeat of R470, of at most `fuel` elements, `k` of which are done. -/
def strLoop (op : StrOp) (n : Nat) (dir : Bool) (halt : BitVec 4) (brk : Option ElemBreak) : Nat → Nat → List Refused → State → State
  | 0, _, r, s => strDone r s
  | fuel + 1, k, r, s =>
    match strBreak brk k s.tsuow.core with
    | some b => refuseAll r (breakAt b s)
    | none =>
      let p := strOne op n dir halt s
      if p.2.2 then refuseAll (r ++ p.2.1) p.1 else strLoop op n dir halt brk fuel (k + 1) (r ++ p.2.1) p.1

/-- A string instruction (R470–R472). -/
def strRow (op : StrOp) (rpt : Bool) (sz : BitVec 2) (dir : Bool) (halt : BitVec 4) (brk : Option ElemBreak) (s : State) : State :=
  coreRow (fun t =>
    if strIllegal op rpt sz halt then illegal t
    else
      let n := strSize sz
      if rpt then strLoop op n dir halt brk (t.tsuow.core.reg gCNT).toNat 0 [] t
      else match strElem op n dir t with
        | .fault x => faultAt x t
        | .stall => t
        | .done u r => strDone r u) s

/-- MOVS. -/
def execMovs (rpt : Bool) (sz : BitVec 2) (dir : Bool) (halt : BitVec 4) (brk : Option ElemBreak) (s : State) :
    Host.Outcome State Fault Refusal := .next (strRow .movs rpt sz dir halt brk s)

/-- CMPS. -/
def execCmps (rpt : Bool) (sz : BitVec 2) (dir : Bool) (halt : BitVec 4) (brk : Option ElemBreak) (s : State) :
    Host.Outcome State Fault Refusal := .next (strRow .cmps rpt sz dir halt brk s)

/-- SCAS. -/
def execScas (rpt : Bool) (sz : BitVec 2) (dir : Bool) (halt : BitVec 4) (brk : Option ElemBreak) (s : State) :
    Host.Outcome State Fault Refusal := .next (strRow .scas rpt sz dir halt brk s)

/-- FILLS. -/
def execFills (rpt : Bool) (sz : BitVec 2) (dir : Bool) (halt : BitVec 4) (brk : Option ElemBreak) (s : State) :
    Host.Outcome State Fault Refusal := .next (strRow .fills rpt sz dir halt brk s)

/-- INS. -/
def execIns (rpt : Bool) (sz : BitVec 2) (dir : Bool) (halt : BitVec 4) (brk : Option ElemBreak) (s : State) :
    Host.Outcome State Fault Refusal := .next (strRow .ins rpt sz dir halt brk s)

/-- OUTS. -/
def execOuts (rpt : Bool) (sz : BitVec 2) (dir : Bool) (halt : BitVec 4) (brk : Option ElemBreak) (s : State) :
    Host.Outcome State Fault Refusal := .next (strRow .outs rpt sz dir halt brk s)

end Sys2Proof.Machine
end

