-- ==== Sys2Proof/Machine/CoreVec.lean ====
section
/-!
DEFINITION. The vector extension of the Tsuow core (R478–R484).
-/
namespace Sys2Proof.Machine

/-! ### Elements (R478) -/

/-- The element width in bits that EW selects. -/
def vWidth (ew : BitVec 2) : Nat := 8 * 2 ^ ew.toNat

/-- How many elements of `w` bits a register has. -/
def vCount (w : Nat) : Nat := 512 / w

/-- Element `i` of `w` bits. -/
def vElem (w i : Nat) (v : BitVec 512) : Nat := v.toNat / 2 ^ (w * i) % 2 ^ w

/-- Element `i` as a signed or unsigned number. -/
def vInt (sgn : Bool) (w i : Nat) (v : BitVec 512) : Int :=
  let x := vElem w i v
  if sgn && decide (2 ^ (w - 1) ≤ x) then (x : Int) - 2 ^ w else x

/-- A number within `w` bits. -/
def vWrap (w : Nat) (x : Int) : Nat := (x % 2 ^ w).toNat

/-- A register from its elements, element 0 lowest. -/
def vPack (w : Nat) (l : List Nat) : Nat := l.foldr (fun x acc => x % 2 ^ w + 2 ^ w * acc) 0

/-- Destination element `i` under the mask (R478): elements below VSTART stay, a masked-off one stays or becomes zero. -/
def vPick (c : Core) (k : BitVec 3) (z : Bool) (i old new : Nat) : Nat :=
  if i < c.vstart.toNat then old
  else if (c.maskReg k).getLsbD i then new
  else if z then 0 else old

/-- A vector register computed element by element. -/
def vMap (c : Core) (vd k : BitVec 3) (z : Bool) (w : Nat) (f : Nat → Nat) : BitVec 512 :=
  BitVec.ofNat 512 (vPack w ((List.range (vCount w)).map (fun i => vPick c k z i (vElem w i (c.vec vd)) (f i))))

/-- The end of a vector instruction: VSTART 0, on to the next. -/
def Core.vDone (c : Core) : Core := { c with vstart := 0 }.complete

/-- A vector operation of `w`-bit destination elements. -/
def vecRow (ok : Bool) (vd k : BitVec 3) (z : Bool) (w : Nat) (f : Core → Nat → Nat) (s : State) : State :=
  coreRow (fun t => if ok then coreOnly (fun c => (c.setVec vd (vMap c vd k z w (f c))).vDone) t else illegal t) s

/-! ### Arithmetic (R479) -/

/-- VADD. -/
def execVadd (vd va vb k : BitVec 3) (ew : BitVec 2) (z : Bool) (s : State) : Host.Outcome State Fault Refusal :=
  let w := vWidth ew
  .next (vecRow true vd k z w (fun c i => (vElem w i (c.vec va) + vElem w i (c.vec vb)) % 2 ^ w) s)

/-- VSUB. -/
def execVsub (vd va vb k : BitVec 3) (ew : BitVec 2) (z : Bool) (s : State) : Host.Outcome State Fault Refusal :=
  let w := vWidth ew
  .next (vecRow true vd k z w (fun c i => (vElem w i (c.vec va) + 2 ^ w - vElem w i (c.vec vb)) % 2 ^ w) s)

/-- VMUL: the low half. -/
def execVmul (vd va vb k : BitVec 3) (ew : BitVec 2) (z sgn : Bool) (s : State) : Host.Outcome State Fault Refusal :=
  let w := vWidth ew
  .next (vecRow true vd k z w (fun c i => vWrap w (vInt sgn w i (c.vec va) * vInt sgn w i (c.vec vb))) s)

/-- VMULH: the high half. -/
def execVmulh (vd va vb k : BitVec 3) (ew : BitVec 2) (z sgn : Bool) (s : State) : Host.Outcome State Fault Refusal :=
  let w := vWidth ew
  .next (vecRow true vd k z w (fun c i => vWrap w (vInt sgn w i (c.vec va) * vInt sgn w i (c.vec vb) / 2 ^ w)) s)

/-- A widening product: source `h + i`, into twice the width. -/
def vWiden (sgn : Bool) (w h : Nat) (a b : BitVec 512) (i : Nat) : Nat := vWrap (2 * w) (vInt sgn w (h + i) a * vInt sgn w (h + i) b)

/-- VWMUL.LO. -/
def execVwmulLo (vd va vb k : BitVec 3) (ew : BitVec 2) (z sgn : Bool) (s : State) : Host.Outcome State Fault Refusal :=
  let w := vWidth ew
  .next (vecRow (decide (ew ≠ 3)) vd k z (2 * w) (fun c => vWiden sgn w 0 (c.vec va) (c.vec vb)) s)

/-- VWMUL.HI: from half the source count on. -/
def execVwmulHi (vd va vb k : BitVec 3) (ew : BitVec 2) (z sgn : Bool) (s : State) : Host.Outcome State Fault Refusal :=
  let w := vWidth ew
  .next (vecRow (decide (ew ≠ 3)) vd k z (2 * w) (fun c => vWiden sgn w (vCount w / 2) (c.vec va) (c.vec vb)) s)

/-- d + Σ a × b over `n` sources of `w` bits from source `at_`. -/
def vDot (sgn : Bool) (w dw n at_ : Nat) (d a b : BitVec 512) (i : Nat) : Nat :=
  vWrap dw (vElem dw i d + ((List.range n).map (fun j => vInt sgn w (at_ + j) a * vInt sgn w (at_ + j) b)).sum)

/-- VDOT4B. -/
def execVdot4b (vd va vb k : BitVec 3) (ew : BitVec 2) (z sgn : Bool) (s : State) : Host.Outcome State Fault Refusal :=
  .next (vecRow (decide (ew = 0)) vd k z 32 (fun c i => vDot sgn 8 32 4 (4 * i) (c.vec vd) (c.vec va) (c.vec vb) i) s)

/-- VDOT2H. -/
def execVdot2h (vd va vb k : BitVec 3) (ew : BitVec 2) (z sgn : Bool) (s : State) : Host.Outcome State Fault Refusal :=
  .next (vecRow (decide (ew = 1)) vd k z 32 (fun c i => vDot sgn 16 32 2 (2 * i) (c.vec vd) (c.vec va) (c.vec vb) i) s)

/-- VDOT2HQ.LO. -/
def execVdot2hqLo (vd va vb k : BitVec 3) (ew : BitVec 2) (z sgn : Bool) (s : State) : Host.Outcome State Fault Refusal :=
  .next (vecRow (decide (ew = 1)) vd k z 64 (fun c i => vDot sgn 16 64 2 (2 * i) (c.vec vd) (c.vec va) (c.vec vb) i) s)

/-- VDOT2HQ.HI. -/
def execVdot2hqHi (vd va vb k : BitVec 3) (ew : BitVec 2) (z sgn : Bool) (s : State) : Host.Outcome State Fault Refusal :=
  .next (vecRow (decide (ew = 1)) vd k z 64 (fun c i => vDot sgn 16 64 2 (16 + 2 * i) (c.vec vd) (c.vec va) (c.vec vb) i) s)

/-- −q⁻¹ mod 2^w for an odd q, by `n` steps of Newton's iteration, each of which doubles the bits that hold. -/
def negInv (w q : Nat) : Nat → Nat
  | 0 => 2 ^ w - 1
  | n + 1 =>
    let x := negInv w q n
    x * (2 ^ w * 2 ^ w + 2 + q * x) % 2 ^ w

/-- The Montgomery product of R480. -/
def montgomery (w q a b : Nat) : Nat :=
  let m := a * b * negInv w q 7 % 2 ^ w
  let t := (a * b + m * q) / 2 ^ w
  (if q ≤ t then t - q else t) % 2 ^ w

/-- VQ = VQ_HI ‖ VQ_LO. -/
def vqOf (c : Core) (w : Nat) : Nat := (c.vqHi.toNat * 2 ^ 32 + c.vqLo.toNat) % 2 ^ w

/-- VMONT (R480): VQBAD if q is even. -/
def execVmont (vd va vb k : BitVec 3) (ew : BitVec 2) (z : Bool) (s : State) : Host.Outcome State Fault Refusal :=
  let w := vWidth ew
  .next (coreRow (fun t =>
    if ew = 0 then illegal t
    else if vqOf t.tsuow.core w % 2 = 0 then faultAt { code := xVQBAD, addr := 0 } t
    else coreOnly (fun c => (c.setVec vd (vMap c vd k z w (fun i =>
      montgomery w (vqOf c w) (vElem w i (c.vec va)) (vElem w i (c.vec vb))))).vDone) t) s)

/-- A bitwise operation. -/
def vBitRow (vd va vb k : BitVec 3) (ew : BitVec 2) (z : Bool) (f : BitVec 512 → BitVec 512 → BitVec 512) (s : State) : State :=
  let w := vWidth ew
  vecRow true vd k z w (fun c i => vElem w i (f (c.vec va) (c.vec vb))) s

/-- VAND. -/
def execVand (vd va vb k : BitVec 3) (ew : BitVec 2) (z : Bool) (s : State) : Host.Outcome State Fault Refusal :=
  .next (vBitRow vd va vb k ew z (fun a b => a &&& b) s)

/-- VOR. -/
def execVor (vd va vb k : BitVec 3) (ew : BitVec 2) (z : Bool) (s : State) : Host.Outcome State Fault Refusal :=
  .next (vBitRow vd va vb k ew z (fun a b => a ||| b) s)

/-- VXOR. -/
def execVxor (vd va vb k : BitVec 3) (ew : BitVec 2) (z : Bool) (s : State) : Host.Outcome State Fault Refusal :=
  .next (vBitRow vd va vb k ew z (fun a b => a ^^^ b) s)

/-- VANDN: a and not b. -/
def execVandn (vd va vb k : BitVec 3) (ew : BitVec 2) (z : Bool) (s : State) : Host.Outcome State Fault Refusal :=
  .next (vBitRow vd va vb k ew z (fun a b => a &&& ~~~b) s)

/-- VSHL: a shifted by b mod width. -/
def execVshl (vd va vb k : BitVec 3) (ew : BitVec 2) (z : Bool) (s : State) : Host.Outcome State Fault Refusal :=
  let w := vWidth ew
  .next (vecRow true vd k z w (fun c i => vElem w i (c.vec va) * 2 ^ (vElem w i (c.vec vb) % w) % 2 ^ w) s)

/-- VSHR. -/
def execVshr (vd va vb k : BitVec 3) (ew : BitVec 2) (z : Bool) (s : State) : Host.Outcome State Fault Refusal :=
  let w := vWidth ew
  .next (vecRow true vd k z w (fun c i => vElem w i (c.vec va) / 2 ^ (vElem w i (c.vec vb) % w)) s)

/-- VSAR. -/
def execVsar (vd va vb k : BitVec 3) (ew : BitVec 2) (z : Bool) (s : State) : Host.Outcome State Fault Refusal :=
  let w := vWidth ew
  .next (vecRow true vd k z w (fun c i => vWrap w (vInt true w i (c.vec va) / 2 ^ (vElem w i (c.vec vb) % w))) s)

/-! ### Compares and masks (R469, R478) -/

/-- A compare into mask register `kd`: one bit for each element. -/
def vCmpRow (kd va vb k : BitVec 3) (ew : BitVec 2) (z sgn : Bool) (f : Int → Int → Bool) (s : State) : State :=
  let w := vWidth ew
  coreRow (coreOnly (fun c =>
    let old := (c.maskReg kd).toNat
    let bits_ := (List.range (vCount w)).map (fun i =>
      vPick c k z i (old / 2 ^ i % 2) (b2n (f (vInt sgn w i (c.vec va)) (vInt sgn w i (c.vec vb)))))
    (c.setMask kd (BitVec.ofNat 64 (old / 2 ^ vCount w * 2 ^ vCount w + vPack 1 bits_))).vDone)) s

/-- VCMP EQ. -/
def execVcmpEq (kd va vb k : BitVec 3) (ew : BitVec 2) (z sgn : Bool) (s : State) : Host.Outcome State Fault Refusal :=
  .next (vCmpRow kd va vb k ew z sgn (fun a b => decide (a = b)) s)

/-- VCMP NE. -/
def execVcmpNe (kd va vb k : BitVec 3) (ew : BitVec 2) (z sgn : Bool) (s : State) : Host.Outcome State Fault Refusal :=
  .next (vCmpRow kd va vb k ew z sgn (fun a b => decide (a ≠ b)) s)

/-- VCMP LT. -/
def execVcmpLt (kd va vb k : BitVec 3) (ew : BitVec 2) (z sgn : Bool) (s : State) : Host.Outcome State Fault Refusal :=
  .next (vCmpRow kd va vb k ew z sgn (fun a b => decide (a < b)) s)

/-- VCMP LE. -/
def execVcmpLe (kd va vb k : BitVec 3) (ew : BitVec 2) (z sgn : Bool) (s : State) : Host.Outcome State Fault Refusal :=
  .next (vCmpRow kd va vb k ew z sgn (fun a b => decide (a ≤ b)) s)

/-- VBCAST: every element g[VA], truncated. -/
def execVbcast (vd : BitVec 3) (ra : BitVec 3) (k : BitVec 3) (ew : BitVec 2) (z : Bool) (s : State) : Host.Outcome State Fault Refusal :=
  let w := vWidth ew
  .next (vecRow true vd k z w (fun c _ => (c.reg (ra.zeroExtend 4)).toNat % 2 ^ w) s)

/-- VEXTR: g[VD] := element `i` of v[VA], low 32 bits. -/
def execVextr (rd va i : BitVec 3) (ew : BitVec 2) (s : State) : Host.Outcome State Fault Refusal :=
  .next (coreRow (coreOnly (fun c =>
    (c.setReg (rd.zeroExtend 4) (BitVec.ofNat 32 (vElem (vWidth ew) i.toNat (c.vec va)))).vDone)) s)

/-- KMOV: k[VD] := the register pair g[VA], g[VA + 1]; VA is even. -/
def execKmov (kd ra : BitVec 3) (s : State) : Host.Outcome State Fault Refusal :=
  .next (coreRow (coreMay (fun c =>
    if ra.getLsbD 0 then .inl { code := xILLEGAL, addr := 0 }
    else
      let r := ra.zeroExtend 4
      .inr (c.setMask kd (c.reg (r + 1) ++ c.reg r)).vDone)) s)

/-- KREAD: the register pair g[VD], g[VD + 1] := k[VA]; VD is even. -/
def execKread (rd ka : BitVec 3) (s : State) : Host.Outcome State Fault Refusal :=
  .next (coreRow (coreMay (fun c =>
    if rd.getLsbD 0 then .inl { code := xILLEGAL, addr := 0 }
    else
      let r := rd.zeroExtend 4
      let m := c.maskReg ka
      .inr ((c.setReg r (m.truncate 32)).setReg (r + 1) ((m >>> 32).truncate 32)).vDone)) s)

/-- A mask operation. -/
def maskRow (kd ka kb : BitVec 3) (f : BitVec 64 → BitVec 64 → BitVec 64) (s : State) : State :=
  coreRow (coreOnly (fun c => (c.setMask kd (f (c.maskReg ka) (c.maskReg kb))).vDone)) s

/-- KAND. -/
def execKand (kd ka kb : BitVec 3) (s : State) : Host.Outcome State Fault Refusal := .next (maskRow kd ka kb (fun a b => a &&& b) s)

/-- KOR. -/
def execKor (kd ka kb : BitVec 3) (s : State) : Host.Outcome State Fault Refusal := .next (maskRow kd ka kb (fun a b => a ||| b) s)

/-- KXOR. -/
def execKxor (kd ka kb : BitVec 3) (s : State) : Host.Outcome State Fault Refusal := .next (maskRow kd ka kb (fun a b => a ^^^ b) s)

/-- KNOT. -/
def execKnot (kd ka : BitVec 3) (s : State) : Host.Outcome State Fault Refusal := .next (maskRow kd ka 0 (fun a _ => ~~~a) s)

/-! ### Vector memory (R482–R484) -/

/-- An element takes part in an access: at VSTART or above, its mask bit 1. -/
def vTakes (c : Core) (k : BitVec 3) (i : Nat) : Bool := decide (c.vstart.toNat ≤ i) && (c.maskReg k).getLsbD i

/-- A fault of VLD or VST leaves VSTART at 0. -/
def vFault (x : Exc) (s : State) : State := faultAt x (coreOnly (fun c => { c with vstart := 0 }) s)

/-- VLD (R482): one 64-byte access. -/
def execVld (vd : BitVec 3) (rs : BitVec 4) (k : BitVec 3) (ew : BitVec 2) (z : Bool) (s : State) : Host.Outcome State Fault Refusal :=
  let w := vWidth ew
  .next (coreRow (fun t =>
    let c := t.tsuow.core
    match dCheck c (c.reg rs) 64 (w / 8) with
    | .inl x => vFault x t
    | .inr f =>
      let r := dRead t c f 64
      let b := BitVec.ofNat 512 (leNat r.1)
      refuseAll r.2 (setCore (c.setVec vd (vMap c vd k z w (fun i => vElem w i b))).vDone t)) s)

/-- The bytes a VST writes: the elements that take part. -/
def vstWrites (c : Core) (w f : Nat) (v : BitVec 512) (k : BitVec 3) (s : State) : State :=
  ((List.range (vCount w)).filter (vTakes c k)).foldl (fun t i => memWrite (f + i * (w / 8)) (leBytes (w / 8) (vElem w i v)) t) s

/-- VST (R482): one 64-byte access, checked whole. -/
def execVst (vs : BitVec 3) (rs : BitVec 4) (k : BitVec 3) (ew : BitVec 2) (s : State) : Host.Outcome State Fault Refusal :=
  let w := vWidth ew
  .next (coreRow (fun t =>
    let c := t.tsuow.core
    match dCheck c (c.reg rs) 64 (w / 8) with
    | .inl x => vFault x t
    | .inr f =>
      let r := refusedAs t (coreAccess t c f 64 2)
      refuseAll r (setCore c.vDone (if r.isEmpty then vstWrites c w f (c.vec vs) k t else t))) s)

/-- A break is taken before element `i`, after `n` accesses. -/
def vBreak (brk : Option ElemBreak) (n : Nat) (c : Core) : Option Bool :=
  match brk with
  | some b => if b.after = n ∧ n ≠ 0 ∧ breakOccurs b.budget c then some b.budget else none
  | none => none

/-- The elements of a gather or scatter in ascending order (R483, R484): `l` are left, `n` accesses are made; addresses come
from the index register as it stood when the instruction began. -/
def vElems (scatter : Bool) (vd : BitVec 3) (rs : BitVec 4) (idx : BitVec 512) (k : BitVec 3) (z : Bool) (w : Nat)
    (brk : Option ElemBreak) : List Nat → Nat → List Refused → State → State
  | [], _, r, s => refuseAll r (coreOnly Core.vDone s)
  | i :: l, n, r, s =>
    let c := s.tsuow.core
    if !((c.maskReg k).getLsbD i) then
      let e := (List.range (vCount w)).map (fun j => if j = i ∧ z ∧ !scatter then 0 else vElem w j (c.vec vd))
      vElems scatter vd rs idx k z w brk l n r (if scatter then s else setCore (c.setVec vd (BitVec.ofNat 512 (vPack w e))) s)
    else
      let t := setCore { c with vstart := BitVec.ofNat 32 i } s
      match vBreak brk n c with
      | some b => refuseAll r (breakAt b t)
      | none =>
        let a := c.reg rs + BitVec.ofNat 32 (vElem w i idx)
        match dCheck c a (w / 8) (w / 8) with
        | .inl x => refuseAll r (faultAt x t)
        | .inr f =>
          if scatter then
            let p := dWrite c f (leBytes (w / 8) (vElem w i (c.vec vd))) s
            vElems scatter vd rs idx k z w brk l (n + 1) (r ++ p.2) p.1
          else
            let p := dRead s c f (w / 8)
            let e := (List.range (vCount w)).map (fun j => if j = i then leNat p.1 else vElem w j (c.vec vd))
            vElems scatter vd rs idx k z w brk l (n + 1) (r ++ p.2) (setCore (c.setVec vd (BitVec.ofNat 512 (vPack w e))) s)

/-- The elements from VSTART on. -/
def vFrom (c : Core) (w : Nat) : List Nat := (List.range (vCount w)).filter (fun i => decide (c.vstart.toNat ≤ i))

/-- VGATH (R483). -/
def execVgath (vd : BitVec 3) (rs : BitVec 4) (vi k : BitVec 3) (ew : BitVec 2) (z : Bool) (brk : Option ElemBreak) (s : State) :
    Host.Outcome State Fault Refusal :=
  let w := vWidth ew
  .next (coreRow (fun t => vElems false vd rs (t.tsuow.core.vec vi) k z w brk (vFrom t.tsuow.core w) 0 [] t) s)

/-- VSCAT (R483). -/
def execVscat (vs : BitVec 3) (rs : BitVec 4) (vi k : BitVec 3) (ew : BitVec 2) (brk : Option ElemBreak) (s : State) :
    Host.Outcome State Fault Refusal :=
  let w := vWidth ew
  .next (coreRow (fun t => vElems true vs rs (t.tsuow.core.vec vi) k false w brk (vFrom t.tsuow.core w) 0 [] t) s)

end Sys2Proof.Machine
end

