-- ==== Sys2Proof/Machine/Digest.lean ====
section
/-!
DEFINITION. The digest engine (chapter 10): contexts, their commands, derivation, saving and loading, measurement registers.
-/
namespace Sys2Proof.Machine

/-! ### Algorithms (R362) -/

/-- The kinds of algorithm. -/
inductive DigKind where
  | sha2 | sha3 | shake | cshake | hmac | kmac
deriving DecidableEq, Repr

/-- An algorithm of R362: kind, block (rate) bytes, cycles a block, result bytes (0: variable). -/
structure DigAlg where
  kind : DigKind
  block : Nat
  cyc : Nat
  result : Nat
deriving DecidableEq, Repr

/-- The algorithm a PSET of class 0x08 names (R362). -/
def digAlg (pset : Nat) : Option DigAlg :=
  match pset with
  | 0x01 => some ⟨.sha2, 64, 16, 32⟩
  | 0x02 => some ⟨.sha2, 128, 40, 48⟩
  | 0x03 => some ⟨.sha2, 128, 40, 64⟩
  | 0x04 => some ⟨.sha3, 136, 24, 32⟩
  | 0x05 => some ⟨.sha3, 104, 24, 48⟩
  | 0x06 => some ⟨.sha3, 72, 24, 64⟩
  | 0x07 => some ⟨.shake, 168, 24, 0⟩
  | 0x08 => some ⟨.shake, 136, 24, 0⟩
  | 0x09 => some ⟨.cshake, 168, 24, 0⟩
  | 0x0A => some ⟨.cshake, 136, 24, 0⟩
  | 0x0B => some ⟨.hmac, 64, 16, 32⟩
  | 0x0C => some ⟨.hmac, 128, 40, 48⟩
  | 0x0D => some ⟨.hmac, 128, 40, 64⟩
  | 0x0E => some ⟨.kmac, 168, 24, 0⟩
  | 0x0F => some ⟨.kmac, 136, 24, 0⟩
  | _ => none

/-- The algorithm of a context's PSET. -/
def algOf (pset : Nat) : DigAlg := (digAlg pset).getD ⟨.sha2, 64, 16, 32⟩

/-- Keyed algorithms: HMAC and KMAC. -/
def keyedAlg (pset : Nat) : Bool := decide (0x0B ≤ pset ∧ pset ≤ 0x0F)

/-- Keccak algorithms. -/
def keccakKind : DigKind → Bool
  | .sha2 => false
  | .hmac => false
  | _ => true

/-- A context whose output goes on as long as it is read. -/
def isXof (c : Ctx) : Bool :=
  match (algOf c.pset).kind with
  | .shake => true
  | .cshake => true
  | .kmac => c.xof
  | _ => false

/-! ### Block counts (R389) -/

/-- Bytes of SP 800-185's left_encode or right_encode of `x`. -/
def encLen185 (x : Nat) : Nat := if x < 256 then 2 else if x < 65536 then 3 else if x < 16777216 then 4 else 5

/-- Bytes of encode_string of an `n`-byte string. -/
def encStr185 (n : Nat) : Nat := encLen185 (8 * n) + n

/-- Blocks of a bytepad string. -/
def bytepad185 (payload rate : Nat) : Nat := ceilDiv (encLen185 rate + payload) rate

/-- Blocks of a SHA-2 hash of `n` bytes, padding included (FIPS 180-4). -/
def sha2Blocks (b n : Nat) : Nat := ceilDiv (n + 1 + if b = 64 then 8 else 16) b

/-- Padding blocks of FINAL (R389): SHA-2 1 or 2, Keccak 1. -/
def padBlocks (a : DigAlg) (absorbed : Nat) : Nat :=
  if keccakKind a.kind then 1 else if absorbed % a.block + 1 + (if a.block = 64 then 8 else 16) ≤ a.block then 1 else 2

/-- Blocks of FINAL: padding, the HMAC outer block, the output blocks beyond the first. -/
def finalBlocks (a : DigAlg) (absorbed n : Nat) : Nat :=
  padBlocks a absorbed + (if a.kind = .hmac then 1 else 0) + (if keccakKind a.kind then ceilDiv n a.block - 1 else 0)

/-- Blocks of OPEN: two for HMAC, the bytepad strings of cSHAKE and KMAC. -/
def openBlocks (a : DigAlg) (nl sl kl : Nat) : Nat :=
  match a.kind with
  | .hmac => 2
  | .cshake => if nl = 0 ∧ sl = 0 then 0 else bytepad185 (encStr185 nl + encStr185 sl) a.block
  | .kmac => bytepad185 (encStr185 4 + encStr185 sl) a.block + bytepad185 (encStr185 kl) a.block
  | _ => 0

/-- Blocks of an HMAC: a key longer than a block is hashed first. -/
def hmacBlocks (b h keyLen msgLen : Nat) : Nat :=
  (if b < keyLen then sha2Blocks b keyLen else 0) + sha2Blocks b (b + msgLen) + sha2Blocks b (b + h)

/-! ### Results -/

/-- The state of HMAC after its key blocks, inner and outer (FIPS 198-1, R368), and HMAC from it. -/
def hmacState (p : Nat) (k : Bytes) : Bytes := primOut (.chain p) [k] (if (algOf p).block = 64 then 64 else 128)
def hmacOf (p : Nat) (st m : Bytes) : Bytes := primOut (.hmac p) [st, m] (algOf p).result

/-- The keyed state that OPEN holds (R368): none of an unkeyed algorithm. -/
def keyedState (p : Nat) (k custom : Bytes) : Bytes :=
  match (algOf p).kind with
  | .hmac => hmacState p k
  | .kmac => kmacState (if p = 0x0E then 128 else 256) k custom
  | _ => []

/-- Bytes `from_ .. from_ + n` of a context's result or output. -/
def digOut (c : Ctx) (from_ n : Nat) : Bytes :=
  let a := algOf c.pset
  let all := match a.kind with
    | .sha2 => primOut (.hash c.pset) [c.absorbed] a.result
    | .sha3 => primOut (.hash c.pset) [c.absorbed] a.result
    | .shake => primOut (.xof c.pset) [c.absorbed] (from_ + n)
    | .cshake =>
      if c.name.isEmpty && c.custom.isEmpty then primOut (.xof (c.pset - 2)) [c.absorbed] (from_ + n)
      else primOut (.cshake (if c.pset = 9 then 128 else 256)) [c.absorbed, c.name, c.custom] (from_ + n)
    | .hmac => hmacOf c.pset c.key c.absorbed
    | .kmac => kmacOf (if c.pset = 0x0E then 128 else 256) c.key c.absorbed (if c.xof then 0 else 8 * c.outLen) (from_ + n)
  (all.drop from_).take n

/-! ### Contexts (R364, R365) -/

/-- Replace the record of a context number. -/
def setCtx (n : Nat) (x : CtxNum) (s : State) : State := { s with dig := { s.dig with ctx := mset s.dig.ctx n x } }

/-- The number becomes FREE, its record erased. -/
def freeCtx (n : Nat) (s : State) : State := { s with dig := { s.dig with ctx := mdel s.dig.ctx n } }

/-- A LIVE number of the colour (R365). -/
def liveCtx? (s : State) (colour n : Nat) : Option Ctx :=
  match mget? s.dig.ctx n with
  | some (.live c) => if c.owner = colour then some c else none
  | _ => none

/-- A SAVED number of the colour. -/
def savedCtx? (s : State) (colour n : Nat) : Option (Nat × Ctx) :=
  match mget? s.dig.ctx n with
  | some (.saved e c) => if c.owner = colour then some (e, c) else none
  | _ => none

/-- The number is LIVE. -/
def isLive : CtxNum → Bool
  | .live _ => true
  | .saved _ _ => false

/-- LIVE numbers, in all and of a colour. -/
def liveCount (s : State) : Nat := mcount (fun _ x => isLive x) s.dig.ctx
def liveOf (s : State) (colour : Nat) : Nat :=
  mcount (fun _ x => match x with | .live c => decide (c.owner = colour) | _ => false) s.dig.ctx

/-- No LIVE record can be taken (R118, R364). -/
def ctxQuota (s : State) (colour : Nat) : Bool :=
  decide (256 ≤ liveCount s) || overQuota (quotaOf s Obj.TENANT_QUOTA_CTX colour) (liveOf s colour + 1)

/-- The next FREE number in the order fixed at cast-on (R364). -/
def nextCtx (s : State) : Option Nat :=
  nextBy (fun n => Config.rank s.dig.orderKey 1 n * 4096 + n) (if 4096 ≤ s.dig.lastCtx then none else some s.dig.lastCtx)
    ((List.range 4096).filter (fun n => (mget? s.dig.ctx n).isNone))

/-! ### Measurement registers (R386–R388) -/

/-- A measurement register. -/
def meas (s : State) (i : Nat) : Bytes := tget (fun _ => zeros 48) s.dig.meas i

/-- Extend a measurement register (R386). -/
def extendMeas (i : Nat) (b : Bytes) (s : State) : State :=
  noticed (Obj.DIG_MEAS + i)
    { s with dig := { s.dig with meas := tset (fun _ => zeros 48) s.dig.meas i (primOut (.hash 0x02) [meas s i ++ b] 48) } }

/-- Why a job may not extend a register (R387). -/
def measFails (s : State) (colour i : Nat) : Option Status :=
  if i < 8 then some .keyPolicy
  else if objVal s (Obj.DIG_MEAS_OWNER + i) ≠ colour then some .keyEmpty else none

/-- DIG_MEAS_OWNER (R388): a write is accepted while the register reads zero. -/
def measOwnerRule (i : Nat) (data : Bytes) (s : State) : WriteRule :=
  { plainRule (Obj.DIG_MEAS_OWNER + i) data with bad := !(allZero (meas s i)) }

/-- DIG_MEAS_OWNER_WRITE (R388): register `i`. -/
def execDigMeasOwnerWrite (c : Caller) (i : Nat) (data : Bytes) (s : State) : Host.Outcome State Fault Refusal :=
  .next (if i < 32 then writeAccess c (Obj.DIG_MEAS_OWNER + i) data (measOwnerRule i data s) s else s)

/-! ### Descriptors (R371–R374, R383) -/

/-- AUX fields of OPEN and ONESHOT (R372). -/
def dNLen (a : Nat) : Nat := bits a 21 12
def dSLen (a : Nat) : Nat := bits a 41 32

/-- AUX of OPEN or ONESHOT is refused with reason 0x01 (R372). -/
def openAuxBad (legacy one : Bool) (p a : Nat) : Bool :=
  let kind := (digAlg p).map (·.kind)
  decide (bits a 63 42 ≠ 0 ∨ bits a 31 22 ≠ 0 ∨ bits a 11 4 ≠ 0) || decide (512 < dNLen a ∨ 512 < dSLen a) ||
    (one && decide (bits a 2 0 ≠ 0)) ||
    (kind.isSome && (decide (dNLen a ≠ 0 ∧ kind ≠ some .cshake) ||
      decide (dSLen a ≠ 0 ∧ kind ≠ some .cshake ∧ kind ≠ some .kmac) || (bit a 3 && decide (kind ≠ some .kmac)) ||
      (!one && (bit a 2 && keyedAlg p)))) || (!one && !legacy && !(bit a 0))

/-- The input length OPEN and ONESHOT require (R372). -/
def openLenBad (one : Bool) (a n : Nat) : Bool :=
  if one then decide (n < dNLen a + dSLen a) else decide (n ≠ dNLen a + dSLen a)

/-- The least output of ONESHOT (R362). -/
def oneshotOut (p a : Nat) : Nat :=
  match digAlg p with
  | none => 0
  | some g => if g.result ≠ 0 then g.result else if g.kind = .kmac ∧ !(bit a 3) then 16 else 1

/-- AUX of FINISH is refused with reason 0x01 (R373, R385). -/
def finishAuxBad (a : Nat) : Bool :=
  let dest := bits a 3 2
  let olen := bits a 39 32
  decide (bits a 63 45 ≠ 0 ∨ bits a 31 17 ≠ 0 ∨ bits a 7 5 ≠ 0 ∨ bits a 1 1 ≠ 0 ∨ dest = 3) ||
    decide (bits a 44 40 ≠ 0 ∧ dest ≠ 2) || decide ((olen ≠ 0 ∨ bits a 16 8 ≠ 0) ∧ dest ≠ 1) ||
    decide (dest = 1 ∧ (olen < 16 ∨ 66 < olen))

/-- AUX of DERIVE is refused with reason 0x01 (R383, R385). -/
def deriveAuxBad (a : Nat) : Bool :=
  let mode := bits a 5 4
  let hash := bits a 31 24
  let olen := bits a 39 32
  decide (bits a 47 40 ≠ 0 ∨ bits a 23 17 ≠ 0 ∨ bits a 7 6 ≠ 0 ∨ bits a 3 2 ≠ 0 ∨ mode = 3 ∨ 2 ≤ bits a 1 0) ||
    decide (olen < 16 ∨ 66 < olen) || (if mode = 1 then decide (hash ≠ 0) else decide (hash < 1 ∨ 3 < hash)) ||
    decide (bits a 1 0 = 1 ∧ bits a 16 8 ≠ 0)

/-- The digest commands' descriptors; every command streams through two pages (R374).  DEDUCED: where the table of R371 gives
no input, no limit on IN_LEN is stated and the input is not used. -/
def digSpec (legacy : Bool) (d : Desc) : Option CmdSpec :=
  let a := d.aux
  let known := (digAlg d.pset).isSome
  let mk := fun (keyRes key2Bad auxBad aux2Res psetOk lenOk : Bool) (outLen : Nat) =>
    let c := mkSpec d (firstField [(offPSET, d.pset, decide (d.opcode ∈ [0x0814, 0x0815, 0x0817])), (offKEY, d.key, keyRes), (offKEY2, b2n key2Bad, true), (offAUX, b2n auxBad, true),
      (offAUX2, d.aux2, aux2Res)]) psetOk lenOk outLen 0
    ({ c with inPages := 0, outPages := 0, resume := 2 } : CmdSpec)
  let ctxBad := decide (4096 ≤ d.key2)
  let none_ := decide (d.pset = 0)
  match d.opcode with
  | 0x0810 => some (mk (!(keyedAlg d.pset)) (decide (d.key2 ≠ 0)) (openAuxBad legacy false d.pset a) false known
      (!(openLenBad false a (inputLen d))) 0)
  | 0x0811 => some (mk true ctxBad (decide (a ≠ 0)) true none_ true 0)
  | 0x0812 => some (mk true ctxBad (finishAuxBad a) (decide (bits a 3 2 ≠ 1)) none_ true 0)
  | 0x0813 =>
    let c := mk (!(keyedAlg d.pset)) (decide (d.key2 ≠ 0)) (openAuxBad legacy true d.pset a) true known
      (!(openLenBad true a (inputLen d))) (oneshotOut d.pset a)
    some { c with lenBad := match c.lenBad with
      | some o => some o
      | none => if (digAlg d.pset).map (·.kind) = some .kmac ∧ !(bit a 3) ∧ 64 < d.outLen then
          some offOUTLEN else none }
  | 0x0814 =>
    let c := mk false (decide (d.key2 ≠ 0)) (!legacy && deriveAuxBad a) (decide (bits a 1 0 = 1)) none_
      (legacy || decide (inputLen d ≤ 4096 ∧ bits a 63 48 ≤ inputLen d)) (if bits a 1 0 = 1 then bits a 39 32 else 0)
    some { c with noLegacy := true }
  | 0x0815 => some { mk true (decide (32 ≤ d.key2)) (decide (a ≠ 0)) true none_ true 48 with exact := true }
  | 0x0816 => some (mk true ctxBad (decide (a ≠ 0)) true none_ true 0)
  | 0x0817 => some (mk true ctxBad (decide (a ≠ 0)) true none_ true 0)
  | _ => none

/-! ### Units (R366, R369) -/

/-- The unit a digest job is on, where the unit serves jobs. -/
def unitOf? (s : State) (e : Nat) : Option Nat :=
  (List.range 4).find? (fun u => decide (e ∈ (digUnit s u).jobs) && !(digUnit s u).fenced && (digUnit s u).initAt.isNone)

/-- What a digest command works on: its context number, its measurement register (R366, R386). -/
def digNames (x : Entry) : Option Nat × Option Nat :=
  let d := x.desc
  match d.opcode with
  | 0x0811 => (some d.key2, none)
  | 0x0812 => (some d.key2, if bits d.aux 3 2 = 2 then some (bits d.aux 44 40) else none)
  | 0x0815 => (none, some d.key2)
  | 0x0816 => (some d.key2, none)
  | 0x0817 => (some d.key2, none)
  | _ => (none, none)

/-- Both name the same thing. -/
def sameName (a b : Option Nat) : Bool := a.isSome && decide (a = b)

/-- An earlier job works on the same context or register (R366, R386). -/
def digBlocked (s : State) (x : Entry) : Bool :=
  s.ring.entries.any (fun q =>
    decide (q.2.serial < x.serial ∧ q.2.desc.opcode / 256 = 8) && decide (q.2.phase ≠ .ended ∧ q.2.phase ≠ .scrubbing) &&
      ((sameName (digNames x).1 (digNames q.2).1 && decide (q.2.colour = x.colour)) || sameName (digNames x).2 (digNames q.2).2))

/-- The access of a unit to the context that a digest job names, in the context's colour (R86, R107). -/
def ctxAccess (u e : Nat) (x : Entry) (s : State) : Option (CtxRec × FabAcc) :=
  match (digNames x).1 with
  | none => none
  | some n => (liveCtx? s x.colour n).map (fun _ => (.digest n, recAccess 5 u x.colour (.digest n) 1024 1 (originPair x.origin) e))

/-- Cycles of a block of a job's algorithm (R362, R389). -/
def blockCyc (s : State) (x : Entry) : Nat :=
  match x.desc.opcode with
  | 0x0810 => (algOf x.desc.pset).cyc
  | 0x0813 => (algOf x.desc.pset).cyc
  | 0x0814 => if bits x.desc.aux 5 4 = 1 then 24 else (algOf (0x0A + bits x.desc.aux 31 24)).cyc
  | 0x0815 => 40
  | _ => match (digNames x).1.bind (liveCtx? s x.colour) with
    | some c => (algOf c.pset).cyc
    | none => 0

/-- A unit turns to a job (R363, R390): 12 cycles where it served another last, and the quantum is DIG_QUANTUM from here. -/
def turnTo (u : Nat) (x : Entry) (s : State) : State :=
  let v := digUnit s u
  if v.last = some x.serial then s
  else setDigUnit u { v with last := some x.serial, quantum := objVal s Obj.DIG_QUANTUM } { s with now := s.now + cyclesNs s 12 }

/-- A digest job runs to its end on unit `u`, from the turn that ends it: what its earlier turns were given is past. -/
def digTurn (e u : Nat) (x : Entry) (f : Entry → Nat → State → Res × State) (t : State) : State :=
  let v := digUnit t u
  let t1 := turnTo u x t
  let got := (v.served.find? (fun p => decide (p.1 = e))).elim 0 (·.2)
  let y := { x with segAt := if got = 0 then x.segAt + (t1.now - t.now) else t1.now - cyclesNs t (got * blockCyc t x) }
  let p := f y u (setEntry e y t1)
  finish e p.1 p.2

/-- A digest job reaches its end on its unit.  Where the unit is refused its context, the refusal is all that happens. -/
def digRow (opcode e : Nat) (f : Entry → Nat → State → Res × State) (s : State) : State :=
  match entry? s e with
  | none => s
  | some x =>
    if x.desc.opcode ≠ opcode ∨ x.phase ≠ .waiting ∨ digBlocked s x then s
    else match unitOf? s e with
      | none => s
      | some u =>
        match ctxAccess u e x s with
        | some (r, a) => recGuard r a (.digest u) (digTurn e u x f) s
        | none => digTurn e u x f s

/-- The blocks of a job's turns, with one more of `n`. -/
def servedMore (e n : Nat) (l : List (Nat × Nat)) : List (Nat × Nat) :=
  match l.find? (fun p => decide (p.1 = e)) with
  | some p => (e, p.2 + n) :: l.filter (fun q => decide (q.1 ≠ e))
  | none => (e, n) :: l

/-- The job has input ready and waits for no other (R366, R369). -/
def digReady (s : State) (e : Nat) : Bool :=
  match entry? s e with
  | none => false
  | some x => decide (x.phase = .waiting) && !(digBlocked s x)

/-- A unit's jobs up to the first that is ready, that job, and those after it (R369): a job that is passed over costs nothing. -/
def firstReady (s : State) : List Nat → Option (List Nat × Nat × List Nat)
  | [] => none
  | e :: r => if digReady s e then some ([], e, r) else (firstReady s r).map (fun q => (e :: q.1, q.2))

/-- The unit gives job `e`, which stands between `before` and `after` in its round, a quantum of blocks, and turns to the next (R369). -/
def serveQuantum (u : Nat) (before : List Nat) (e : Nat) (after : List Nat) (s : State) : State :=
  match entry? s e with
  | none => s
  | some x =>
    let t := turnTo u x s
    let v := digUnit t u
    setDigUnit u { v with jobs := after ++ before ++ [e], served := servedMore e v.quantum v.served }
      { t with now := t.now + cyclesNs t (v.quantum * blockCyc t x) }

/-- DIGEST_QUANTUM_END (R369): the job whose turn it is has been given a quantum of blocks, and the unit turns to the next. -/
def execDigestQuantumEnd (u : Nat) (s : State) : Host.Outcome State Fault Refusal :=
  .next (match firstReady s (digUnit s u).jobs with
    | none => s
    | some (before, e, after) =>
      if u < 4 ∧ (digUnit s u).fenced = false ∧ (digUnit s u).initAt.isNone then serveQuantum u before e after s else s)

/-- DIGEST_UNIT_REINIT_DONE (R642): within 0.5 ms of the bite the unit serves jobs again. -/
def execDigestUnitReinitDone (u : Nat) (s : State) : Host.Outcome State Fault Refusal :=
  .next (match (digUnit s u).initAt with
    | none => s
    | some t =>
      let s1 := advanceTo (t + us 500) s
      setDigUnit u { digUnit s1 u with initAt := none } s1)

/-! ### Key checks -/

/-- The slot may key a digest or a derivation (R368, R384): ALG 0x08 with DERIVE. -/
def deriveKeyOk (v : Slot) : Bool := decide (v.alg = 8 ∧ v.isPublic = false ∧ v.usage &&& uDERIVE = uDERIVE)

/-- A mask that a derived key may not have (R385). -/
def derivedBad (u : Nat) : Bool := usageBad u (uDERIVE + uWRAP + uEXPORT)

/-- Put a derived key into a new slot (R385). -/
def deliverDerived (x : Entry) (usage : Nat) (k : Bytes) (cycles : Nat) (release : State → State) (s : State) : Res × State :=
  let h := nextHandle s
  let v := newSlot s x.colour 0x08 k.length (usageOr usage uDERIVE) 2 (ceilDiv k.length 64) x.desc.aux2 k
  ({ st := .ok, detail := h, out := [], cycles := cycles, late := [], release := fun t => release (fillSlot h x.desc.aux2 v t), commit := none },
   tookHandle h s)

/-! ### OPEN (R364, R368, R372) -/

/-- The record OPEN makes (R372, R374). -/
def openedCtx (s : State) (x : Entry) : Ctx :=
  let a := x.desc.aux
  let b := jobInput s x
  { owner := x.colour, pset := x.desc.pset, early := true, after := bit a 1, exportClear := bit a 2, xof := bit a 3,
    finished := false, declared := if x.desc.aux2 = 0 then none else some x.desc.aux2, absorbed := [], squeezed := 0,
    keyed := keyedAlg x.desc.pset,
    key := if keyedAlg x.desc.pset then keyedState x.desc.pset (slotData s x.desc.key) (slice b (dNLen a) (dSLen a)) else [],
    name := b.take (dNLen a), custom := slice b (dNLen a) (dSLen a), outLen := 0 }

/-- OPEN. -/
def runOpenCtx (x : Entry) (_ : Nat) (s : State) : Res × State :=
  let a := algOf x.desc.pset
  let q := { Need.none_ with
    keys := if keyedAlg x.desc.pset then [slotFails s x.colour x.desc.key deriveKeyOk] else [], other := ctxQuota s x.colour }
  match keyCheck s x.colour true q, nextCtx s with
  | some st, _ => (Res.stop st 120, s)
  | none, none => (Res.stop .quota 120, s)
  | none, some n =>
    let c := openedCtx s x
    let s1 := if keyedAlg x.desc.pset then touchSlot s x.desc.key else s
    ({ Res.ok [] (200 + a.cyc * openBlocks a (dNLen x.desc.aux) (dSLen x.desc.aux) (slotData s x.desc.key).length) with
        detail := n, release := setCtx n (.live c) },
     { s1 with dig := { s1.dig with lastCtx := n } })

/-- OPEN (R364). -/
def execOpenCtx (e : Nat) (s : State) : Host.Outcome State Fault Refusal := .next (digRow 0x0810 e runOpenCtx s)

/-! ### ABSORB (R376, R378) -/

/-- LENGTH_MISMATCH of R378: the record is erased, the number FREE. -/
def lengthMismatch (n absorbed : Nat) (s : State) : Res × State :=
  ({ Res.stop .lengthMismatch 60 with detail := absorbed % 2 ^ 32 }, bump Obj.DIG_LEN_MISMATCH (freeCtx n s))

/-- ABSORB. -/
def runAbsorb (x : Entry) (_ : Nat) (s : State) : Res × State :=
  let n := x.desc.key2
  match liveCtx? s x.colour n with
  | none => (Res.stop .keyEmpty 120, s)
  | some c =>
    if c.finished && !c.after then (Res.stop .finished 60, s)
    else
      let base := if c.finished then [] else c.absorbed
      let all := base ++ jobInput s x
      let a := algOf c.pset
      if (match c.declared with | some l => decide (l < all.length) | none => false) then lengthMismatch n all.length s
      else
        let v := { c with absorbed := all, finished := false, squeezed := 0, outLen := 0 }
        ({ Res.ok [] (60 + a.cyc * (all.length / a.block - base.length / a.block)) with release := setCtx n (.live v) }, s)

/-- ABSORB (R376). -/
def execAbsorb (e : Nat) (s : State) : Host.Outcome State Fault Refusal := .next (digRow 0x0811 e runAbsorb s)

/-! ### FINISH (R373, R375–R378, R385, R676) -/

/-- How many bytes a FINISH delivers from a context (R373): fixed results, KMAC's own length where READ writes its result to the host
again, `n` asked for otherwise.  DESIGN CHOICE: a READ to a new slot or a measurement register takes as many bytes as it asks for of
the output whose L its FINAL fixed. -/
def finishLen (c : Ctx) (read : Bool) (dest n : Nat) : Nat :=
  let a := algOf c.pset
  if a.result ≠ 0 then a.result
  else if read && c.finished && !(isXof c) && decide (dest = 0) then c.outLen else n

/-- The key check's policy refusals of FINISH with DEST 0b01 (R375, R385). -/
def finishPolicy (c : Ctx) (read : Bool) (a : Nat) : Bool :=
  let olen := bits a 39 32
  decide (bits a 3 2 = 1) && (!c.keyed || derivedBad (bits a 16 8) || decide (finishLen c read 1 olen < olen))

/-- The length check of R676 on a FINISH to the host: the reason's DETAIL. -/
def finishLenBad (legacy : Bool) (c : Ctx) (read : Bool) (n : Nat) : Option Nat :=
  let a := algOf c.pset
  let most := if a.result ≠ 0 then a.result else if isXof c then 2097152 else 64
  let early := read && !c.finished
  let least := if early then 0 else if a.result ≠ 0 then a.result else if isXof c then 1
    else if read then c.outLen else 16
  if most < n then some (badDetail 5 (if legacy then 27 else offOUTLEN) 0)
  else if n < least then some (6 + least * 256) else none

/-- A job's ring is in the legacy format. -/
def legacyJob (s : State) (x : Entry) : Bool :=
  match x.origin with
  | .ring p => decide (objVal s (pairObj p Obj.RING_FORMAT) = 1)
  | _ => false

/-- The context after a FINISH that delivered `n` bytes. -/
def finishedCtx (c : Ctx) (read : Bool) (n : Nat) : Ctx :=
  if isXof c then { c with finished := true, squeezed := (if read then c.squeezed else 0) + n }
  else { c with finished := true, outLen := if read then c.outLen else n }

/-- The blocks a FINISH takes (R389). -/
def finishBlocks (c : Ctx) (read : Bool) (n : Nat) : Nat :=
  let a := algOf c.pset
  if read then
    if isXof c then ceilDiv (c.squeezed + n) a.block - ceilDiv c.squeezed a.block else 1
  else finalBlocks a c.absorbed.length n

/-- Deliver a result (R373): to the host, to a new slot, to a measurement register. -/
def finishDeliver (x : Entry) (n : Nat) (c : Ctx) (read : Bool) (s : State) : Res × State :=
  let a := x.desc.aux
  let dest := bits a 3 2
  let ask := if dest = 0 then x.desc.outLen else if dest = 1 then bits a 39 32 else 48
  let len := finishLen c read dest ask
  let v := finishedCtx c read len
  let out := digOut v (if isXof c && read then c.squeezed else 0) len
  let keep := fun t => if bit a 4 then freeCtx n t else setCtx n (.live v) t
  let cyc := 60 + (algOf c.pset).cyc * finishBlocks c read len
  match dest with
  | 0 => ({ Res.ok out cyc with release := keep }, s)
  | 1 =>
    match keyCheck s x.colour true { Need.none_ with units := some (ceilDiv (bits a 39 32) 64) } with
    | some st => (Res.stop st 120, s)
    | none => deliverDerived x (bits a 16 8) (out.take (bits a 39 32)) cyc keep s
  | _ => ({ Res.ok [] cyc with release := fun t => extendMeas (bits a 44 40) out (keep t) }, s)

/-- FINISH. -/
def runFinish (x : Entry) (_ : Nat) (s : State) : Res × State :=
  let n := x.desc.key2
  let a := x.desc.aux
  let read := bit a 0
  let dest := bits a 3 2
  match liveCtx? s x.colour n with
  | none => (Res.stop .keyEmpty 120, s)
  | some c =>
    match (if dest = 2 then measFails s x.colour (bits a 44 40) else none) with
    | some st => (Res.stop st 120, s)
    | none =>
      if finishPolicy c read a then (Res.stop .keyPolicy 120, s)
      else match (if dest = 0 then finishLenBad (legacyJob s x) c read x.desc.outLen else none) with
        | some det => ({ Res.stop .badDescriptor 120 with detail := det }, s)
        | none =>
          if read && !c.finished then
            ({ Res.stop .earlyRead 60 with out := if dest = 0 then zeros x.desc.outLen else [] }, bump Obj.DIG_EARLY_READS s)
          else if !read && c.finished then (Res.stop .finished 60, s)
          else if !read && (match c.declared with | some l => decide (c.absorbed.length < l) | none => false) then
            lengthMismatch n c.absorbed.length s
          else finishDeliver x n c read s

/-- A FINISH with OP as given (R373): AUX bit 0 clear for FINAL, set for READ. -/
def finishRow (e : Nat) (read : Bool) (s : State) : State :=
  match entry? s e with
  | some x => if bit x.desc.aux 0 = read then digRow 0x0812 e runFinish s else s
  | none => s

/-- FINISH_FINAL (R373). -/
def execFinishFinal (e : Nat) (s : State) : Host.Outcome State Fault Refusal := .next (finishRow e false s)

/-- FINISH_READ (R375). -/
def execFinishRead (e : Nat) (s : State) : Host.Outcome State Fault Refusal := .next (finishRow e true s)

/-! ### ONESHOT (R371, R389) -/

/-- ONESHOT. -/
def runOneshot (x : Entry) (_ : Nat) (s : State) : Res × State :=
  let p := x.desc.pset
  let g := algOf p
  let a := x.desc.aux
  let q := { Need.none_ with keys := if keyedAlg p then [slotFails s x.colour x.desc.key deriveKeyOk] else [] }
  match keyCheck s x.colour true q with
  | some st => (Res.stop st 120, s)
  | none =>
    let c0 := openedCtx s x
    let msg := (jobInput s x).drop (dNLen a + dSLen a)
    let n := if g.result ≠ 0 then g.result else x.desc.outLen
    let c := { c0 with absorbed := msg, outLen := n }
    let blocks := openBlocks g (dNLen a) (dSLen a) (slotData s x.desc.key).length + msg.length / g.block + finalBlocks g msg.length n
    (Res.ok (digOut c 0 n) (260 + g.cyc * blocks), if keyedAlg p then touchSlot s x.desc.key else s)

/-- ONESHOT (R371). -/
def execOneshot (e : Nat) (s : State) : Host.Outcome State Fault Refusal := .next (digRow 0x0813 e runOneshot s)

/-! ### DERIVE (R383–R385) -/

/-- HKDF-Expand (RFC 5869): `n` blocks from block `i`, after the block `t`. -/
def hkdfExpand (p h : Nat) (prk info : Bytes) : Nat → Nat → Bytes → Bytes
  | 0, _, _ => []
  | n + 1, i, t =>
    let u := hmacOf p (hmacState p prk) (t ++ info ++ leBytes 1 i)
    u ++ hkdfExpand p h prk info n (i + 1) u

/-- Counter mode of SP 800-108: `n` blocks from block `i` (R384). -/
def kdfCounter (p h : Nat) (k a b : Bytes) (olen : Nat) : Nat → Nat → Bytes
  | 0, _ => []
  | n + 1, i =>
    hmacOf p (hmacState p k) (beBytes 4 i ++ a ++ zeros 1 ++ b ++ beBytes 4 (8 * olen)) ++ kdfCounter p h k a b olen n (i + 1)

/-- The PSET of HMAC that HASH selects (R383). -/
def deriveHmac (hash : Nat) : Nat := 0x0A + hash

/-- The derived key (R384). -/
def deriveOut (mode hash olen : Nat) (k a b : Bytes) : Bytes :=
  let p := deriveHmac hash
  let h := (algOf p).result
  match mode with
  | 0 =>
    let prk := hmacOf p (hmacState p (if a.isEmpty then zeros h else a)) k
    (hkdfExpand p h prk b (ceilDiv olen h) 1 []).take olen
  | 1 => kmacOf 256 (kmacState 256 k a) b (8 * olen) olen
  | _ => (kdfCounter p h k a b olen (ceilDiv olen h) 1).take olen

/-- The PRF blocks (R389), with the cycles of one. -/
def deriveBlocks (mode hash olen kl al bl : Nat) : Nat × Nat :=
  let g := algOf (deriveHmac hash)
  let h := g.result
  let m := ceilDiv olen h
  match mode with
  | 0 =>
    (hmacBlocks g.block h (if al = 0 then h else al) kl +
      ((List.range m).map (fun i => hmacBlocks g.block h h ((if i = 0 then 0 else h) + bl + 1))).sum, g.cyc)
  | 1 => (bytepad185 (encStr185 4 + encStr185 al) 136 + bytepad185 (encStr185 kl) 136 +
      ceilDiv (bl + encLen185 (8 * olen) + 1) 136 + (ceilDiv olen 136 - 1), 24)
  | _ => (m * hmacBlocks g.block h kl (9 + al + bl), g.cyc)

/-- DERIVE. -/
def runDeriveKey (x : Entry) (_ : Nat) (s : State) : Res × State :=
  let a := x.desc.aux
  let host := decide (bits a 1 0 = 1)
  let olen := bits a 39 32
  let q := { Need.none_ with
    keys := [slotFails s x.colour x.desc.key deriveKeyOk],
    policy := if host then clearRefused s x.colour else derivedBad (bits a 16 8),
    units := if host then none else some (ceilDiv olen 64) }
  match keyCheck s x.colour true q with
  | some st => (Res.stop st 120, s)
  | none =>
    let k := slotData s x.desc.key
    let b := jobInput s x
    let sp := bits a 63 48
    let out := deriveOut (bits a 5 4) (bits a 31 24) olen k (b.take sp) (b.drop sp)
    let n := deriveBlocks (bits a 5 4) (bits a 31 24) olen k.length sp (b.length - sp)
    let cyc := 320 + n.2 * n.1
    let s1 := touchSlot s x.desc.key
    if host then (Res.ok out cyc, s1) else deliverDerived x (bits a 16 8) out cyc id s1

/-- DERIVE (R384). -/
def execDeriveKey (e : Nat) (s : State) : Host.Outcome State Fault Refusal := .next (digRow 0x0814 e runDeriveKey s)

/-! ### EXTEND (R386, R387) -/

/-- EXTEND. -/
def runExtend (x : Entry) (_ : Nat) (s : State) : Res × State :=
  let i := x.desc.key2
  match measFails s x.colour i with
  | some st => (Res.stop st 120, s)
  | none =>
    let b := jobInput s x
    let v := primOut (.hash 0x02) [meas s i ++ b] 48
    ({ Res.ok (if x.desc.outLen = 48 then v else []) (60 + 40 * ceilDiv (48 + b.length + 17) 128) with
        release := extendMeas i b }, s)

/-- EXTEND (R387). -/
def execExtend (e : Nat) (s : State) : Host.Outcome State Fault Refusal := .next (digRow 0x0815 e runExtend s)

/-! ### SAVE_CTX and LOAD_CTX (R379–R382) -/

/-- L of an algorithm (R381). -/
def savedLen (p : Nat) : Nat :=
  let a := algOf p
  match a.kind with
  | .sha2 => if a.block = 64 then 120 else 216
  | .hmac => if a.block = 64 then 152 else 280
  | _ => 224

/-- The saved state (R381); chaining states are the standards' own, uninterpreted. -/
def savedState (c : Ctx) : Bytes :=
  let a := algOf c.pset
  let pos := if keccakKind a.kind && c.finished then c.squeezed % a.block else c.absorbed.length % a.block
  let flags := b2n c.early + 2 * b2n c.after + 4 * b2n c.exportClear + 8 * b2n c.xof
  let head := leBytes 1 c.pset ++ leBytes 1 flags ++ leBytes 1 (b2n c.finished) ++ leBytes 1 pos ++
    leBytes 4 (c.declared.getD 0) ++ leBytes 8 c.absorbed.length ++ leBytes 8 c.squeezed
  let st := if a.block = 64 then 32 else 64
  if keccakKind a.kind then
    head ++ primOut (.chain c.pset) [c.key, c.name, c.custom, c.absorbed, leBytes 1 (b2n c.finished), leBytes 8 c.squeezed] 200
  else
    let buf := fitBytes a.block (c.absorbed.drop (c.absorbed.length - pos))
    head ++ primOut (.chain c.pset) [c.key, c.absorbed, leBytes 1 (b2n c.finished)] st ++ buf ++
      (if a.kind = .hmac then slice c.key st st else [])

/-- A blob of a context's state under K_dsave (R380). -/
def saveBlob (s : State) (c : Ctx) (n epoch : Nat) (nonce : Bytes) : Bytes :=
  let b := savedState c
  let h0 := blobHeader 3 c.owner 8 c.pset 0 b.length 0 nonce
  let hd := h0.take 16 ++ leBytes 4 epoch ++ leBytes 2 n ++ leBytes 1 (b2n c.exportClear) ++ zeros 1 ++ h0.drop 24
  let kb := blobKey s (some s.dig.dsave) c.owner hd
  if c.exportClear then hd ++ b ++ gcmTag kb nonce (hd ++ b) []
  else
    let ct := gcmXor kb nonce b
    hd ++ ct ++ gcmTag kb nonce hd ct

/-- SAVE_CTX. -/
def runSaveCtx (x : Entry) (u : Nat) (s : State) : Res × State :=
  let n := x.desc.key2
  match liveCtx? s x.colour n with
  | none => (Res.stop .keyEmpty 120, s)
  | some c =>
    if !(rngReady s) then (Res.stop .entropyFail 120, s)
    else
      let need := 56 + savedLen c.pset
      if x.desc.outLen < need then ({ Res.stop .badDescriptor 120 with detail := 6 + need * 256 }, s)
      else
        let d := draw (36 + u) 12 s
        let epoch := d.2.dig.epoch + 1
        ({ Res.ok (saveBlob s c n epoch d.1) (780 + 4 * ceilDiv (savedLen c.pset) 16) with release := setCtx n (.saved epoch c) },
         { d.2 with dig := { d.2.dig with epoch := epoch } })

/-- SAVE_CTX (R379). -/
def execSaveCtx (e : Nat) (s : State) : Host.Outcome State Fault Refusal := .next (digRow 0x0816 e runSaveCtx s)

/-- The form of a blob to load is wrong (R382, check 2). -/
def loadBad (b : Bytes) : Bool :=
  decide (b.length < 56) || decide (b.take 4 ≠ [0x5A, 0x4B, 0x57, 0x42]) || decide (byteAt b 4 ≠ 3 ∨ byteAt b 5 ≠ 1 ∨ byteAt b 8 ≠ 8) ||
    (digAlg (byteAt b 9)).isNone || decide (field b 12 4 ≠ savedLen (byteAt b 9) ∨ field b 12 4 + 56 ≠ b.length) ||
    decide (2 ≤ byteAt b 22 ∨ byteAt b 23 ≠ 0 ∨ field b 36 4 ≠ 0)

/-- The blob's tag verifies, and it is the one the save record names (R380, R382, check 3). -/
def loadOk (s : State) (b : Bytes) (colour n epoch : Nat) : Bool :=
  let l := field b 12 4
  let hd := b.take 40
  let nonce := slice b 24 12
  let kb := blobKey s (some s.dig.dsave) colour hd
  let tag := if byteAt b 22 = 1 then gcmTag kb nonce (b.take (40 + l)) [] else gcmTag kb nonce hd (slice b 40 l)
  decide (slice b (40 + l) 16 = tag ∧ field b 16 4 = epoch ∧ field b 20 2 = n)

/-- LOAD_CTX: the state restored is the one the save record's blob holds. -/
def runLoadCtx (x : Entry) (_ : Nat) (s : State) : Res × State :=
  let n := x.desc.key2
  match savedCtx? s x.colour n with
  | none => (Res.stop .keyEmpty 120, s)
  | some (epoch, c) =>
    let b := jobInput s x
    let cyc := 780 + 4 * ceilDiv (field b 12 4) 16
    if loadBad b then (Res.stop .inputInvalid (Config.freeNat s.free % 2 ^ 32), usedFree s)
    else if !(loadOk s b x.colour n epoch) then (Res.stop .verifyFail cyc, bump Obj.DIG_LOAD_FAILS s)
    else if ctxQuota s x.colour then (Res.stop .quota cyc, s)
    else ({ Res.ok [] cyc with release := setCtx n (.live c) }, s)

/-- LOAD_CTX (R382). -/
def execLoadCtx (e : Nat) (s : State) : Host.Outcome State Fault Refusal := .next (digRow 0x0817 e runLoadCtx s)

end Sys2Proof.Machine
end

