-- ==== Sys2Proof/Machine/Entropy.lean ====
section
/-!
DEFINITION. The entropy source (chapter 14): health tests, start-up, retests, reseeds, GENERATE and RNG_READ.
-/
namespace Sys2Proof.Machine

/-! ### Failure and retests (R518–R522) -/

/-- RNG_LAST_FAIL (R521). -/
def lastFail (s : State) (code group osc value : Nat) : Nat :=
  leNat (leBytes 8 (time64 s) ++ leBytes 1 code ++ leBytes 1 group ++ leBytes 1 osc ++ zeros 1 ++ leBytes 4 value)

/-- The source enters FAILED (R518): the instances stop, the seed buffer is discarded. -/
def enterFailed (s : State) : State :=
  setRng .failed { s with rng := { s.rng with drbg := [], seeds := 0, seedAt := s.now, failedAt := s.now } }

/-- RNG_TEST_FAIL (R518): test `code` of R514 fails while the source is READY. -/
def execRngTestFail (code group osc value : Nat) (s : State) : Host.Outcome State Fault Refusal :=
  .next (if s.rng.st = .ready ∧ 1 ≤ code ∧ code ≤ 5 ∧ group < 8 then
      let s1 := enterFailed { s with rng := { s.rng with retests := 0 } }
      let s2 := setObj Obj.RNG_LAST_FAIL (lastFail s1 code group osc value) (bump Obj.RNG_FAILS s1)
      tamperEvent 20 .none_ 0 s2
    else s)

/-- RNG_RETEST (R520): 100 ms after FAILED the retest begins. -/
def execRngRetest (s : State) : Host.Outcome State Fault Refusal :=
  .next (if s.rng.st = .failed then
      let s1 := advanceTo (s.rng.failedAt + ms 100) s
      bump Obj.RNG_RETESTS (setRng .retest { s1 with rng := { s1.rng with startedAt := s1.now } })
    else s)

/-- The source is DEAD (R520, R523, R636): fenced with cause RNG_DEAD. -/
def rngDies (s : State) : State := recordFence fenceRng cRNG_DEAD 0xFFFFFFFF (setRng .dead s)

/-- The end of a re-initialisation of the source (R639). -/
def rngReinitEnds (pass : Bool) (s : State) : State :=
  if s.rec_.reinit = some .rng then
    setObj Obj.ERR_REINIT_RESULT (if pass then 2 else 3)
      { s with rec_ := { s.rec_ with reinit := none, fences := if pass then dropAll fenceRng s.rec_.fences else s.rec_.fences } }
  else s

/-- START_UP_TEST_FAILURE (R517, R520): the test starts again, up to three failures; a failed retest gives S20 an event and
the next follows 100 ms later, up to three. -/
def execStartUpTestFailure (s : State) : Host.Outcome State Fault Refusal :=
  .next (match s.rng.st with
    | .startup =>
      let s1 := { s with rng := { s.rng with attempts := s.rng.attempts + 1, startedAt := s.now } }
      if 3 ≤ s1.rng.attempts then rngReinitEnds false (rngDies s1) else s1
    | .retest =>
      let s1 := { s with rng := { s.rng with retests := s.rng.retests + 1 } }
      tamperEvent 20 .none_ 0 (if 3 ≤ s1.rng.retests then rngDies s1 else enterFailed s1)
    | _ => s)

/-! ### Start-up (R515, R516) -/

/-- The least length of a start-up test: 65,536 sampling clocks of 10 ns × RNG_DIVIDER (R505, R515). -/
def sampleTime (s : State) : Time := 655360 * objVal s Obj.RNG_DIVIDER

/-- Seed the mask expander of every slice with 64 bytes of its instance (R513, R515). -/
def seedExpanders : Nat → State → State
  | 0, s => s
  | n + 1, s =>
    let s1 := seedExpanders n s
    let t := (draw n 64 s1).2
    setSlice n { slice_ t n with seeded := true, blocks := 0 } t

/-- The 44 instances are instantiated afresh from held seeds, the expanders seeded, the state READY (R515, R520). -/
def rngStarts (s : State) : State :=
  let s1 := { s with rng := { s.rng with drbg := [], starts := s.rng.starts + 1, seeds := 20, seedAt := s.now, attempts := 0,
                                         retests := 0, degraded := false } }
  setRng .ready (seedExpanders 36 s1)

/-- The time of a passing start-up test: its samples and, within the bounds of steps 1 and 3, a free value. -/
def startUpTime (s : State) : Time := sampleTime s + Config.freeNat s.free % 25001

/-- RNG_STARTUP_DONE (R515, R520): the test under way passes. -/
def execRngStartupDone (s : State) : Host.Outcome State Fault Refusal :=
  .next (if s.rng.st = .startup ∨ s.rng.st = .retest then
      let t := startUpTime s
      let s1 := usedFree (advanceTo (s.rng.startedAt + t) s)
      rngReinitEnds true (setObj Obj.RNG_STARTUP_US (t / 1000) (rngStarts s1))
    else s)

/-- ERR_RNG_REINIT (R520, R639): a write of 1 runs the start-up of R515 with three attempts; BUSY while a start-up or a
re-initialisation runs. -/
def rngReinitRule (s : State) (data : Bytes) : WriteRule :=
  { lock := false, held := false, critical := false, bad := decide (leNat data ≠ 1),
    busy := s.rec_.reinit.isSome || decide (s.rng.st = .startup ∨ s.rng.st = .retest),
    act := fun t => setObj Obj.ERR_REINIT_RESULT 1 (setRng .startup
      { t with
        rng := { t.rng with attempts := 0, retests := 0, startedAt := t.now, drbg := [], seeds := 0, seedAt := t.now },
        rec_ := { t.rec_ with reinit := some .rng } }) }

/-- ERR_RNG_REINIT (R520). -/
def execErrRngReinit (c : Caller) (data : Bytes) (s : State) : Host.Outcome State Fault Refusal :=
  .next (writeAccess c Obj.ERR_RNG_REINIT data (rngReinitRule s data) s)

/-! ### Reseeds (R511, R512) -/

/-- The pending instance served next: the highest count, ties to the lower number (R512). -/
def nextReseed (s : State) : Option Nat :=
  (leastBy (fun p => 2 ^ 64 - p.2.count) (s.rng.drbg.filter (fun p => p.2.pending))).map (·.1)

/-- DRBG_RESEED (R512): a pending reseed is served, in 40 cycles. -/
def execDrbgReseed (s : State) : Host.Outcome State Fault Refusal :=
  .next (if rngReady s then
      match nextReseed s with
      | some n => reseed n { s with now := s.now + cyclesNs s 40 }
      | none => s
    else s)

/-! ### GENERATE and RNG_READ (R525, R526) -/

/-- GENERATE's descriptor. -/
def genSpec (d : Desc) : Option CmdSpec :=
  if d.opcode = 0x0A30 then
    let c := mkSpec d (firstField [(offPSET, d.pset, true), (offKEY, d.key, true), (offKEY2, d.key2, true),
      (offAUX, d.aux / 2, true), (offAUX2, d.aux2, true)]) true (decide (inputLen d = 0)) 0 0
    some { c with
      lenBad := match c.lenBad with
        | some o => some o
        | none => if d.outLen < 1 ∨ 1048576 < d.outLen then some offOUTLEN else none,
      outPages := stagedPages d.outLen }
  else none

/-- GENERATE: random bytes from instance 41. -/
def runGenerate (x : Entry) (s : State) : Res × State :=
  if !(rngReady s) then (Res.stop .entropyFail 0, s)
  else
    let pr := bit x.desc.aux 0
    let d := draw 41 x.desc.outLen (if pr then reseed 41 s else s)
    (Res.ok d.1 (200 + 28 * ceilDiv x.desc.outLen 64 + if pr then 40 else 0), d.2)

/-- GENERATE (R525): served in order of priority class and admission. -/
def execGenerate (e : Nat) (s : State) : Host.Outcome State Fault Refusal :=
  .next (match entry? s e with
    | none => s
    | some x =>
      if x.desc.opcode = 0x0A30 ∧ unitHead s 0x0A = some e then
        let p := runGenerate x s
        finish e p.1 p.2
      else s)

/-- RNG_READ (R526): 64 new bytes from instance 41 on each read; BUSY unless READY. -/
def serveRngRead (s : State) : Result × Bytes × State :=
  if rngReady s then
    let d := draw 41 64 s
    (.done, d.1, d.2)
  else (.busy, [], s)

/-- RNG_READ (R526). -/
def execRngRead (c : Caller) (s : State) : Host.Outcome State Fault Refusal :=
  .next (readAccess c Obj.RNG_READ serveRngRead s)

end Sys2Proof.Machine
end

