-- ==== Sys2Proof/Machine/Commands.lean ====
section
/-!
DEFINITION. Which command an opcode names, and what its own rules say of its descriptor (R138).
-/
namespace Sys2Proof.Machine

/-! ### Service calls and control commands -/

/-- The scratch pages of a call: those of the cell's image where the cell is of the job's colour (R496). -/
def callScratch (s : State) (colour n : Nat) : Nat :=
  if decide (colour = 0x1000 + cellTenant s n) && !(cell s n).loaded.isEmpty then byteAt (cell s n).loaded 11 else 0

/-- A service call's descriptor (R496). -/
def callSpec (s : State) (colour : Nat) (d : Desc) : Option CmdSpec :=
  if d.opcode / 256 = 0x0C ∧ d.opcode % 256 < 16 then
    let c := mkSpec d (firstField [(offKEY2, d.key2 / 64, true)]) (decide (d.pset = 0)) true 0 0
    some { c with outPages := stagedPages d.outLen, resume := callScratch s colour (d.key2 % 64) }
  else none

/-- A control command's descriptor: nothing is staged and no output is made (R169). -/
def controlSpec (reserved : Option Nat) (d : Desc) : CmdSpec :=
  { mkSpec d reserved (decide (d.pset = 0)) true 0 0 with inPages := 0, outPages := 0 }

/-- STAGE's fields that must be zero, by offset in each format (R606). -/
def stageReserved (legacy : Bool) (d : Desc) : Option Nat :=
  if legacy then firstField [(3, d.ctrl, true), (offKEY, d.key, true), (offKEY2, d.key2, true), (16, d.outAddr, true),
    (27, d.outLen, true), (30, d.userTag, true)]
  else firstField [(3, d.ctrl, true), (offKEY, d.key, true), (offKEY2, d.key2, true), (8, d.userTag, true), (offOUTLEN, d.outLen, true),
    (32, d.outAddr, true), (offAUX, d.aux, true), (offAUX2, d.aux2, true)]

/-- NOP, ABORT and STAGE (R170, R606); a tenant ring has no STAGE.  DESIGN CHOICE: an ABORT on a legacy ring, whose AUX is zero (R135),
runs and names pair 0, SUB_INDEX 0; it does not end UNSUPPORTED, since no rule calls its AUX required. -/
def controlSpec? (colour : Nat) (legacy : Bool) (d : Desc) : Option CmdSpec :=
  match d.opcode with
  | 0x0FF0 => some (controlSpec (firstField [(offAUX, d.aux / 2 ^ 32, true)]) d)
  | 0x0FF1 => some (controlSpec none d)
  | 0x0FF2 => some { controlSpec (stageReserved legacy d) d with unavailable := decide (colour ≠ 0x0002) }
  | _ => none

/-! ### All commands -/

/-- The rules of the command an opcode names, by class. -/
def ownSpec (s : State) (colour : Nat) (legacy : Bool) (d : Desc) : Option CmdSpec :=
  match d.opcode / 256 with
  | 1 => kemSpec s d
  | 2 => dsaSpec s d
  | 3 => slhSpec d
  | 4 => htsSpec legacy d
  | 5 => codeSpec d
  | 6 => eccSpec d
  | 7 => rsaSpec legacy d
  | 8 => digSpec legacy d
  | 9 => keySpec legacy d
  | 10 => genSpec d
  | 12 => callSpec s colour d
  | 15 => controlSpec? colour legacy d
  | _ => none

/-- Every digest unit is fenced (R636). -/
def digestsFenced (s : State) : Bool := (List.range 4).all (fun u => (digUnit s u).fenced)

/-- The command's unit is unavailable (R188, R598): its class's slices all fenced or its patch set missing; every digest unit
fenced, or the digest engine's patches failed where the command needs them (which do is not listed: a free function). -/
def unitMissing (s : State) (opcode : Nat) : Bool :=
  (match opClass opcode with
   | some c => classFenced s c || (Config.needsPatch c (dispatchEntry opcode) && decide (objVal s (Obj.PKE_PATCH_STATE + c) ≠ 1))
   | none => false) || (decide (opcode / 256 = 8) && (digestsFenced s ||
      (Config.needsPatch 4 (dispatchEntry opcode) && decide (objVal s (Obj.UPD_COMP_STATE + 5) = 2))))

/-- What the rules of the command an opcode names say of a descriptor; none where OPCODE names no command (R138). -/
def cmdSpec (s : State) (colour : Nat) (legacy : Bool) (d : Desc) : Option CmdSpec :=
  (ownSpec s colour legacy d).map (fun c => { c with unavailable := c.unavailable || unitMissing s d.opcode })

end Sys2Proof.Machine
end

