-- ==== Sys2Proof/Machine/Cells.lean ====
section
/-!
DEFINITION. Service-program images (chapter 13): their form, the checks of a load, and where a loaded image stands.
-/
namespace Sys2Proof.Machine

/-! ### Loading a cell (R492–R495) -/

/-- The other fields of a program image (R493). -/
def imgBss (b : Bytes) : Nat := field b 24 4
def imgStack (b : Bytes) : Nat := field b 28 4
def imgEntries (b : Bytes) : Nat := byteAt b 7
def imgEntry (b : Bytes) (e : Nat) : Nat := field b (40 + 2 * e) 2
def imgSigned (b : Bytes) : Nat := 80 + imgCodeLen b + imgDataLen b

/-- Entry `e` is defined (R493). -/
def entryDefined (b : Bytes) (e : Nat) : Bool := decide (e < imgEntries b) && decide (imgEntry b e ≠ 0xFFFF)

/-- Check 1 of R495: the format of R493. -/
def imgFormatOk (b : Bytes) : Bool :=
  decide (slice b 0 5 = [0x5A, 0x4B, 0x53, 0x50, 0x01]) && decide (1 ≤ imgEntries b ∧ imgEntries b ≤ 16) &&
    decide (byteAt b 10 &&& 0xFB = 0) && decide (byteAt b 11 ≤ 64) && allZero (slice b 36 4) && allZero (slice b 72 8) &&
    decide (imgCodeLen b % 4 = 0 ∧ 4 ≤ imgCodeLen b) && decide (imgStack b % 16 = 0 ∧ 256 ≤ imgStack b ∧ imgStack b ≤ 65536) &&
    decide (imgCodeLen b + imgDataLen b ≤ 60829) && decide (imgDataLen b + imgBss b + imgStack b ≤ 262144) &&
    allZero (b.drop (imgSigned b + 4627)) && (List.range 16).any (entryDefined b)

/-- Check 5 of R495: the ISA version and the FEAT1 bits against FEAT0 and FEAT1 (R476, R477). -/
def imgFeaturesOk (b : Bytes) : Bool :=
  let f0 := ((featReg 0).getD 0).toNat
  let f1 := ((featReg 1).getD 0).toNat
  decide (byteAt b 5 = f0 / 65536 ∧ byteAt b 6 ≤ f0 % 65536 ∧ field b 12 4 &&& f1 = field b 12 4)

/-- Check 4 of R495: the signature over the image, ML-DSA-87, pure, context "zk-svc". -/
def imgSignatureOk (b key : Bytes) : Bool :=
  Config.primBool (.mldsaVerify 3)
    [key, messageRep 0 6 0 (ascii "zk-svc" ++ b.take (imgSigned b)), slice b (imgSigned b) 4627, leBytes 1 0]

/-- Instruction SRAM that the cells' code and data copies hold, and data SRAM that their data holds: (base, length). -/
def codeRuns (s : State) : List (Nat × Nat) :=
  (s.tsuow.cells.filter (fun p => !p.2.loaded.isEmpty)).map (fun p => (p.2.codeBase, (p.2.codeLen + imgDataLen p.2.loaded + 3) / 4 * 4))
def dataRuns (s : State) : List (Nat × Nat) :=
  (s.tsuow.cells.filter (fun p => !p.2.loaded.isEmpty)).map (fun p => (p.2.dataBase, (p.2.dataLen + 255) / 256 * 256))

/-- The lowest free run of `n` bytes of a pool. -/
def poolRun (runs : List (Nat × Nat)) (lo hi n : Nat) : Option Nat :=
  leastBy id ((lo :: runs.map (fun r => r.1 + r.2)).filter (fun b => decide (b + n ≤ hi) && runFree runs b n))

/-- SVC_CODE_FREE and SVC_DATA_FREE (R504). -/
def codeFree (s : State) : Nat := 1048576 - ((codeRuns s).map (·.2)).sum
def dataFree (s : State) : Nat := 1572864 - ((dataRuns s).map (·.2)).sum

/-- The verification key's data, where SVC_CELL_VKEY names an ACTIVE PUBLIC ML-DSA-87 slot of the colour with VERIFY (R495). -/
def cellKey (s : State) (n colour : Nat) : Option Bytes :=
  let h := objVal s (at_ Obj.SVC_CELL_VKEY n)
  match slotFails s colour h (keyIs 2 3 uVERIFY true) with
  | some _ => none
  | none => some (slotData s h)

/-- Data bytes of a cell: data, BSS and stack in whole granules (R492, R493). -/
def imgDataSize (b : Bytes) : Nat := ceilDiv (imgDataLen b + imgBss b + imgStack b) 256 * 256

/-- Put a loaded image in the cell (R495): old code and data freed, code and a copy of the data in instruction SRAM, data, BSS and
stack in new granules of the tenant's colour. -/
def placeImage (n cb db : Nat) (b : Bytes) (s : State) : State :=
  let s1 := cellAfter n .remove s
  let s2 := memWrite (codeFabric cb) (imgCode b ++ imgData b) s1
  let s3 := retag (dataFabric db / 256) (imgDataSize b / 256) (0x1000 + cellTenant s n) s2
  let c := { cell s3 n with loaded := b, codeBase := cb, codeLen := imgCodeLen b, dataBase := db, dataLen := imgDataSize b }
  setCell n { c with st := .ready } (cellDataInit c s3)

/-- SVC_CELL_LOAD_STATE codes (R504). -/
abbrev ldDONE : Nat := 2
abbrev ldFORMAT : Nat := 3
abbrev ldCOLOUR : Nat := 4
abbrev ldKEY : Nat := 5
abbrev ldSIGNATURE : Nat := 6
abbrev ldFEATURE : Nat := 7
abbrev ldSPACE : Nat := 8

/-- The verification's time: the count of R259 with the extra of R258. -/
def verifyTime (b : Bytes) (s : State) : State :=
  { s with now := s.now + cyclesNs s (dsaVerifyCyc 3 + dsaExtra 0 6 (imgSigned b)) }

/-- The checks of R495 that come before the signature: the code of the first that fails, or the verification key's data. -/
def loadChecks (s : State) (n : Nat) (b : Bytes) : Nat ⊕ Bytes :=
  let colour := 0x1000 + cellTenant s n
  if !(imgFormatOk b) then .inl ldFORMAT
  else if field b 8 2 ≠ colour then .inl ldCOLOUR
  else match cellKey s n colour with
    | none => .inl ldKEY
    | some key => .inr key

/-- The checks of R495 after the signature, in order, and the load; the result for SVC_CELL_LOAD_STATE. -/
def placeOr (n : Nat) (b : Bytes) (s : State) : State × Nat :=
  if !(imgFeaturesOk b) then (s, ldFEATURE)
  else match poolRun (codeRuns s) 0x100000 0x200000 (imgCodeLen b + imgDataLen b), poolRun (dataRuns s) 0x80000 0x200000 (imgDataSize b) with
    | some cb, some db => (placeImage n cb db b s, ldDONE)
    | _, _ => (s, ldSPACE)

/-- The input of the verification job (R495): signature, context, the bytes it covers. -/
def loadInput (b : Bytes) : Bytes := slice b (imgSigned b) 4627 ++ ascii "zk-svc" ++ b.take (imgSigned b)

/-- The result of a verification job that has not passed: its key no longer fits, or the signature is not verified. -/
def loadRefusal (st : Status) : Nat := if st = .keyEmpty ∨ st = .keyPolicy then ldKEY else ldSIGNATURE

/-- The verification job of cell `n`'s load has ended (R495): the remaining checks and the load, or the previous image stays in
effect. -/
def endLoad (n : Nat) (st : Status) (s : State) : State :=
  let c := cell s n
  match c.loading with
  | none => s
  | some (prior, b) =>
    let s1 := setCell n { c with st := prior, loading := none } s
    let p := if st = .ok then placeOr n b s1 else (s1, loadRefusal st)
    setObj (at_ Obj.SVC_CELL_LOAD_STATE n) p.2 p.1

/-- A load that cast-on makes itself (R599), with the same checks: phase C6 waits for its verification. -/
def loadNow (n : Nat) (b : Bytes) (s : State) : State :=
  let p := match loadChecks s n b with
    | .inl code => (s, code)
    | .inr key =>
      let s1 := verifyTime b s
      if classFenced s 0 || !(imgSignatureOk b key) then (s1, ldSIGNATURE) else placeOr n b s1
  setObj (at_ Obj.SVC_CELL_LOAD_STATE n) p.2 p.1

end Sys2Proof.Machine
end

