-- ==== Sys2Proof/Machine/Rings.lean ====
section
/-!
DEFINITION. Job rings (chapter 04): polling, skeins, admission, completion, interrupts, host-memory errors, and the
control commands NOP and ABORT.
-/
namespace Sys2Proof.Machine

/-! ### Settings of a pair -/

/-- A ring object's value for a pair (R129). -/
def ringVal (s : State) (p : Nat) (base : ObjId) : Nat := objVal s (pairObj p base)

/-- The pair's ring is in the legacy format. -/
def isLegacy (s : State) (p : Nat) : Bool := decide (ringVal s p Obj.RING_FORMAT = 1)

/-- A management ring pair (R28). -/
def isMgmt (p : Nat) : Bool := decide (4096 ≤ p)

/-- The colour of a pair's jobs (R87). -/
def pairColour (p : Nat) : Nat := if isMgmt p then 0x0002 else 0x1000 + p

/-- Polling and admission may go on (R173, R360, R535): no response of level 3 or above is held, the device is ready,
and no archive restore runs. -/
def deviceOpen (s : State) : Bool :=
  !(halted s) && decide (s.upd.phase = 7) && decide (objVal s Obj.TMP_RELEASE_STATE ≠ 1)

/-- The ring manager reads the pair's ring (R140, R173, R584). -/
def mayPoll (s : State) (p : Nat) : Bool :=
  let st := (pair s p).st
  decide (st = .active ∨ st = .idle) && s.ring.run && deviceOpen s &&
    !(s.lc.debugOpen && !(isMgmt p) && decide (objVal s (at_ Obj.TENANT_STATE p) = 3))

/-- A tenant counts in A of R117 while ACTIVE or FENCED. -/
def tenantsAlive (s : State) : Nat :=
  mcount (fun k v => decide (0x2000 ≤ k / 256 ∧ k / 256 < 0x3000 ∧ k % 256 = 1 ∧ (v = 1 ∨ v = 2))) s.dict.obj

/-- The fair shares of entries and pages (R117). -/
def fairEntries (s : State) : Nat := max 8 (8128 / max (tenantsAlive s) 1)
def fairPages (s : State) : Nat := max 64 (8128 / max (tenantsAlive s) 1)

/-- The entry and page quotas of a tenant pair (R155). -/
def entryQuota (s : State) (t : Nat) : Nat :=
  let q := objVal s (at_ Obj.TENANT_QUOTA_ENTRIES t)
  if q = 0 then fairEntries s else q
def pageQuota (s : State) (t : Nat) : Nat :=
  let q := objVal s (at_ Obj.TENANT_QUOTA_PAGES t)
  if q = 0 then fairPages s else q

/-! ### RING_ENABLE (R130–R132) -/

/-- The base is zero or not on a 4 KiB boundary (R124, R130). -/
def badBase (v : Nat) : Bool := decide (v = 0 ∨ v % 4096 ≠ 0)

/-- Start a pair: indexes 0, lap values 1, polling at the active interval; FENCED at once where its tenant is fenced. -/
def startPair (p : Nat) (s : State) : State :=
  let fenced := !(isMgmt p) && decide (objVal s (at_ Obj.TENANT_STATE p) = 2)
  let at1 := s.now + ringVal s p Obj.RING_POLL_ACTIVE * 500
  setObj (pairObj p Obj.RING_ENABLE) 1
    (setPair p { Pair.reset with st := if fenced then .fenced else .active, pollAt := at1 } s)

/-- The write of 1 to RING_ENABLE (R130). -/
def enableRule (p : Nat) (s : State) : WriteRule :=
  let ts := if isMgmt p then 1 else objVal s (at_ Obj.TENANT_STATE p)
  { lock := false, held := false, critical := false,
    busy := decide ((pair s p).st ≠ .disabled ∨ ts = 4),
    bad := badBase (ringVal s p Obj.RING_SUB_BASE) || badBase (ringVal s p Obj.RING_CPL_BASE) || decide (ts = 0),
    act := startPair p }

/-- A DRAINING pair without admitted jobs is DISABLED (R131). -/
def settleDrain (p : Nat) (s : State) : State :=
  let x := pair s p
  if x.st = .draining ∧ pairEntries s p = 0 then setPair p { x with st := .disabled } s else s

/-- Disable a pair: polling stops, held entries are discarded, DRAINING until its admitted jobs have completed (R131). -/
def stopPair (p : Nat) (s : State) : State :=
  let s1 := setObj (pairObj p Obj.RING_ENABLE) 0 (leaveStall p s)
  let s2 := dropHeld p s1
  let x := pair s2 p
  if x.st = .disabled then s2
  else settleDrain p (setPair p { x with st := .draining, headAt := none, pageWait := none } (notStarving p s2))

/-- The write of 0 to RING_ENABLE (R131). -/
def disableRule (p : Nat) (s : State) : WriteRule :=
  { lock := false, held := false, critical := false, bad := false,
    busy := !(isMgmt p) && decide (objVal s (at_ Obj.TENANT_STATE p) = 4), act := stopPair p }

/-- RING_ENABLE_SET (R130). -/
def execRingEnableSet (c : Caller) (p : Nat) (s : State) : Host.Outcome State Fault Refusal :=
  .next (writeAccess c (pairObj p Obj.RING_ENABLE) [1] (enableRule p s) s)

/-- RING_DISABLE (R131). -/
def execRingDisable (c : Caller) (p : Nat) (s : State) : Host.Outcome State Fault Refusal :=
  .next (writeAccess c (pairObj p Obj.RING_ENABLE) [0] (disableRule p s) s)

/-- RUN is written (R173): where it goes from 0 to 1, polling starts again. -/
def setRun (run : Bool) (s : State) : State :=
  let s1 := { s with ring := { s.ring with run := run } }
  if run && !s.ring.run then renewPolls s1 else s1

/-- RING_GCTRL_RUN (R173): bit 0 of a write of RING_GCTRL sets RUN. -/
def execRingGctrlRun (v : Word) (s : State) : Host.Outcome State Fault Refusal := .next (setRun (v.getLsbD 0) s)

/-! ### RING_ERR (R173) -/

/-- Set a RING_ERR bit; the vector is raised where EN is set and the bit changes from 0 to 1. -/
def ringErr (i : Nat) (s : State) : State :=
  let was := s.ring.err.getLsbD i
  let s1 := { s with ring := { s.ring with err := s.ring.err ||| (1#4 <<< i) } }
  if s.ring.errVecEn && !was then raiseVec s.ring.errVec.toNat s1 else s1

/-- RING_ERR bits. -/
abbrev ePOLL_LATE : Nat := 0
abbrev eBUF_FULL : Nat := 1
abbrev eRD_ERR : Nat := 2
abbrev eWR_ERR : Nat := 3

/-! ### Completion records (R165–R172) -/

/-- A completion record's bytes (R165). -/
def recordBytes (d : Desc) (st : Status) (slice written detail cycles : Nat) (lap : Bool) : Bytes :=
  leBytes 8 d.userTag ++ leBytes 2 d.subIndex ++ leBytes 1 (statusCode st) ++ leBytes 1 slice ++ leBytes 4 written ++
    leBytes 4 detail ++ leBytes 4 cycles ++ leBytes 2 d.entries ++ leBytes 2 d.opcode ++ zeros 3 ++ leBytes 1 (b2n lap)

/-- The host writes that one record makes (R166): one aligned write, or bytes 0–30 and then the mark byte. -/
def recordWrites (ordered : Bool) (addr : Nat) (b : Bytes) : List Out :=
  if ordered then [.hostWrite addr (b.take 31), .hostWrite (addr + 31) (b.drop 31)] else [.hostWrite addr b]

/-- A completion takes over RING_COAL_DELAY and RING_VECTOR as they are written (R131); while RING_IRQ_EN is 0 no delay runs. -/
def takeCoal (p : Nat) (s : State) : State :=
  setPair p { pair s p with coalDelay := if ringVal s p Obj.RING_IRQ_EN = 1 then ringVal s p Obj.RING_COAL_DELAY else 0,
                            coalVector := ringVal s p Obj.RING_VECTOR } s

/-- The pair's interrupt after a record (R171).  DESIGN CHOICE: a record written while RING_IRQ_EN is 0 counts neither towards
RING_COAL_COUNT nor as the first record not yet signalled once it is set. -/
def signal (p : Nat) (irq : Bool) (s0 : State) : State :=
  let s := takeCoal p s0
  let x := pair s p
  let n := x.unsignalled + 1
  if ringVal s p Obj.RING_IRQ_EN ≠ 1 then s
  else if irq || decide (ringVal s p Obj.RING_COAL_COUNT ≤ n) then
    raiseVec x.coalVector (setPair p { x with unsignalled := 0, unsignalledAt := none } s)
  else setPair p { x with unsignalled := n, unsignalledAt := some (x.unsignalledAt.getD s.now) } s

/-- Statuses that RING_BAD_DESC counts (R129). -/
def badDescStatus (st : Status) : Bool := decide (st = .badDescriptor ∨ st = .lengthMismatch ∨ st = .skeinBroken)

/-- Write a job's completion record on its pair (R165–R172). -/
def writeRecord (p : Nat) (d : Desc) (st : Status) (slice written detail cycles : Nat) (s : State) : State :=
  let x := pair s p
  let size := ringVal s p Obj.RING_SIZE
  let addr := ringVal s p Obj.RING_CPL_BASE + 32 * x.cplNext
  let b := recordBytes d st slice written detail cycles x.cplLap
  let last := decide (size ≤ x.cplNext + 1)
  let s1 := setPair p { x with cplNext := if last then 0 else x.cplNext + 1, cplLap := if last then !x.cplLap else x.cplLap }
    { s with out := s.out ++ recordWrites (decide (ringVal s p Obj.RING_CPL_ORDERED = 1)) addr b }
  let s2 := bump (pairObj p Obj.RING_JOBS) s1
  let s3 := if badDescStatus st then bump (pairObj p Obj.RING_BAD_DESC) s2 else s2
  signal p (ctrlIrq d.ctrl) s3

/-! ### Held entries and skeins (R142–R151) -/

/-- What stands at the head of a pair's held entries. -/
inductive Head where
  | empty
  | incomplete
  | job (n : Nat)
  | broken (n breaker : Nat)
  | tooLong (n last : Nat)
  | stray
deriving DecidableEq, Repr

/-- Follow a skein after its FIRST entry: `n` entries so far (R147–R149). -/
def followSkein (n : Nat) : List Held → Head
  | [] => .incomplete
  | h :: r =>
    match entrySeg h.body with
    | 2 => if n + 1 = 64 then .tooLong 64 h.index else followSkein (n + 1) r
    | 3 => .job (n + 1)
    | _ => .broken n h.index

/-- The head of the held entries (R147–R150); on a legacy ring every entry stands alone. -/
def headOf (legacy : Bool) : List Held → Head
  | [] => .empty
  | h :: r =>
    if legacy then .job 1
    else match entrySeg h.body with
    | 0 => .job 1
    | 1 => followSkein 1 r
    | _ => .stray

/-- The held entries end in a skein without its LAST (R141). -/
def openSkein (legacy : Bool) : List Held → Bool
  | [] => false
  | h :: r =>
    if legacy then false
    else if entrySeg h.body = 1 then r.all (fun x => decide (entrySeg x.body = 2)) || openSkein legacy r
    else openSkein legacy r

/-- The pair holds all it may prefetch, and is not polled (R143). -/
def prefetchFull (s : State) (p : Nat) : Bool :=
  decide (ringVal s p Obj.RING_PREFETCH ≤ (pair s p).held.length) && !(openSkein (isLegacy s p) (pair s p).held)

/-- RING_NEXT after `n` entries are consumed (R151); a pair that held all it may is polled again from now on (R143). -/
def consume (p n : Nat) (s : State) : State :=
  let x := if prefetchFull s p then (pair s p).pollDue s.now else pair s p
  let size := max (ringVal s p Obj.RING_SIZE) 1
  let wrap := decide (size ≤ x.next + n)
  notStarving p (setPair p
    { x with held := x.held.drop n, next := (x.next + n) % size, lap := if wrap then !x.lap else x.lap,
             headAt := if (x.held.drop n).isEmpty then none else some s.now, pageWait := none } s)

/-- End the broken skeins at the head: each is consumed and gets its record (R148, R149, R151). -/
def settleHead (p : Nat) : Nat → State → State
  | 0, s => s
  | fuel + 1, s =>
    let x := pair s p
    let leg := isLegacy s p
    match headOf leg x.held with
    | .broken n k =>
      let d := jobDesc leg (x.held.take n)
      settleHead p fuel (writeRecord p d .skeinBroken 0xFF 0 k 0 (consume p n s))
    | .tooLong n k =>
      let d := jobDesc leg (x.held.take n)
      settleHead p fuel (writeRecord p d .skeinBroken 0xFF 0 (k + 2 ^ 31) 0 (consume p n s))
    | _ => s

/-- When the FIRST entry of the pair's incomplete skein was read (R144). -/
def skeinAt (legacy : Bool) : List Held → Option Time
  | [] => none
  | h :: r =>
    if legacy then none
    else if decide (entrySeg h.body = 1) && r.all (fun x => decide (entrySeg x.body = 2)) then some h.at_
    else skeinAt legacy r

/-- Enabled pairs hold one reserved slot each; the rest of the 8,192 are shared (R144). -/
def sharedFree (s : State) : Nat :=
  8192 - mcount (fun _ x => decide (x.st ≠ .disabled)) s.ring.pairs -
    (s.ring.pairs.map (fun p => p.2.held.length - 1)).sum

/-- The pair whose incomplete skein has the oldest FIRST entry (R144).  DESIGN CHOICE: of several read at one moment, the lowest pair's. -/
def oldestSkein (s : State) : Option Nat :=
  let c := s.ring.pairs.filterMap (fun p => (skeinAt (isLegacy s p.1) p.2.held).map (fun t => (p.1, t)))
  (leastBy (fun q => q.2) c).map (·.1)

/-- How many entries a poll of the pair reads where the prefetch buffer has room (R141, R143). -/
def pollWant (s : State) (p : Nat) : Nat :=
  let x := pair s p
  let want := ringVal s p Obj.RING_PREFETCH - x.held.length
  min (if openSkein (isLegacy s p) x.held then max want 1 else want) (ringVal s p Obj.RING_SIZE - x.readNext)

/-- The pair is limited to its reserved slot (R144). -/
def reservedOnly (s : State) (p : Nat) : Bool := decide (sharedFree s < 64) && decide (oldestSkein s ≠ some p)

/-- How many entries a poll of the pair reads (R141, R143, R144). -/
def pollSize (s : State) (p : Nat) : Nat :=
  let grant := if (pair s p).held.isEmpty then 1 else 0
  min (pollWant s p) (if reservedOnly s p then grant else grant + sharedFree s)

/-- The leading entries whose marks are valid (R142). -/
def validPrefix (legacy lap : Bool) : List Bytes → List Bytes
  | [] => []
  | b :: r => if entryMark legacy b = lap then b :: validPrefix legacy lap r else []

/-- The polls issued in the current millisecond reach RING_POLL_MAX: this one waits for the next (R146). -/
def pollSlot (s : State) : Time × Nat :=
  let m := s.now / 1000000
  if s.ring.pollMs ≠ m then (s.now, 1)
  else if s.ring.pollCount < objVal s Obj.RING_POLL_MAX then (s.now, s.ring.pollCount + 1)
  else ((m + 1) * 1000000, 1)

/-- RING_POLL (R140–R149): the pair's poll is issued and returns `entries`, the entries read from its next unread index
on. -/
def pollPair (p : Nat) (entries : List Bytes) (s0 : State) : State :=
  let s := advanceTo (pair s0 p).pollAt s0
  let n := pollSize s p
  let leg := isLegacy s p
  let x := pair s p
  let ivl := (if x.st = .idle then ringVal s p Obj.RING_POLL_IDLE else ringVal s p Obj.RING_POLL_ACTIVE) * 500
  let slot := pollSlot s
  let late := decide (x.pollAt + ivl < slot.1)
  let limited := reservedOnly s p && decide (n < pollWant s p)
  let s1 := { advanceTo slot.1 s with ring := { s.ring with pollMs := slot.1 / 1000000, pollCount := slot.2 } }
  let s2 := if late then
      ringErr ePOLL_LATE (bump Obj.RING_POLL_LATE_TOTAL (bump (pairObj p Obj.RING_POLL_LATE) s1)) else s1
  let s3 := if limited then ringErr eBUF_FULL s2 else s2
  let read := entries.take n
  let ok := validPrefix leg x.readLap read
  let size := max (ringVal s p Obj.RING_SIZE) 1
  let fresh := (List.zip (List.range ok.length) ok).map (fun q => ({ index := x.readNext + q.1, body := q.2, at_ := s3.now } : Held))
  let wrap := decide (size ≤ x.readNext + ok.length)
  let empty := ok.isEmpty
  let count := if empty then x.emptyPolls + 1 else 0
  let st := if empty then (if 64 ≤ count then PairState.idle else x.st) else .active
  let next := (if st = .idle then ringVal s p Obj.RING_POLL_IDLE else ringVal s p Obj.RING_POLL_ACTIVE) * 500
  let s4 := bumpBy (pairObj p Obj.RING_DISCARDS) (read.length - ok.length)
    (setPair p { x with held := x.held ++ fresh, readNext := (x.readNext + ok.length) % size,
                        readLap := if wrap then !x.readLap else x.readLap, emptyPolls := count, st := st,
                        pollAt := s3.now + next, headAt := if x.held.isEmpty && !empty then some s3.now else x.headAt } s3)
  settleHead p 64 s4

/-- Another pair's poll stands before pair `p`'s: it is due earlier, or is as due and a management pair's (R146). -/
def pollBefore (s : State) (p q : Nat) : Bool :=
  let a := (pair s q).pollAt
  let b := (pair s p).pollAt
  decide (q ≠ p) && mayPoll s q && decide (pollSize s q ≠ 0) && (decide (a < b) || (decide (a = b) && isMgmt q && !(isMgmt p)))

/-- The polls that stand before pair `p`'s use up what RING_POLL_MAX leaves of the millisecond in which it would be issued: it waits
for them (R146). -/
def pollYields (s0 : State) (p : Nat) : Bool :=
  let s := advanceTo (pair s0 p).pollAt s0
  let left := objVal s Obj.RING_POLL_MAX + 1 - (pollSlot s).2
  decide (left ≤ mcount (fun q _ => pollBefore s p q) s.ring.pairs)

/-- A pair that would be polled and may take no slot: it has been limited to its reserved one (R144), and comes due again an interval
later. -/
def pollLimited (p : Nat) (s0 : State) : State :=
  let s := advanceTo (pair s0 p).pollAt s0
  let x := pair s p
  let ivl := (if x.st = .idle then ringVal s p Obj.RING_POLL_IDLE else ringVal s p Obj.RING_POLL_ACTIVE) * 500
  ringErr eBUF_FULL (setPair p { x with pollAt := s.now + ivl } s)

/-- The ring manager's own access to a pair's ring state in the context store (R86, R93), in colour 0x0002. -/
def ringAccess (p len kind : Nat) : FabAcc := recAccess 2 0 0x0002 (.ring p) len kind p 0xFFFFFFFF

/-- The ring manager goes on with a pair once the isolation supervisor passes its access to the pair's ring state (R107). -/
def ringGuard (p len kind : Nat) (k : State → State) (s : State) : State := recGuard (.ring p) (ringAccess p len kind) (.ring p) k s

/-- RING_POLL (R141, R144, R146). -/
def execRingPoll (p : Nat) (entries : List Bytes) (s : State) : Host.Outcome State Fault Refusal :=
  .next (if !(mayPoll s p) then s
    else if pollSize s p ≠ 0 then (if pollYields s p then s else ringGuard p (64 * pollSize s p) 2 (pollPair p entries) s)
    else if decide (pollWant s p ≠ 0) && reservedOnly s p then pollLimited p s
    else s)

/-! ### Admission (R152–R163) -/

/-- A pair holds a complete job at its head (R153). -/
def eligible (s : State) (p : Nat) : Bool :=
  let x := pair s p
  decide (x.st = .active ∨ x.st = .idle ∨ x.st = .stalled) &&
    (match headOf (isLegacy s p) x.held with
     | .job _ => true
     | .stray => true
     | .broken _ _ => true
     | .tooLong _ _ => true
     | _ => false)

/-- The eligible pairs of one group: management or tenant. -/
def eligiblePairs (s : State) (mgmt : Bool) : List Nat :=
  (s.ring.pairs.map (·.1)).filter (fun p => decide (isMgmt p = mgmt) && eligible s p)

/-- The next of a rising list after `last`, in rotation. -/
def nextAfter (last : Nat) (l : List Nat) : Option Nat :=
  match l.find? (fun p => decide (last < p)) with
  | some p => some p
  | none => l.head?

/-- The pair whose turn it is within a group, and whether a new round begins, from the lowest pair (R152). -/
def turnIn (s : State) (mgmt : Bool) : Option (Nat × Bool) :=
  let l := eligiblePairs s mgmt
  let left := l.filter (fun p => decide ((pair s p).turnsUsed < ringVal s p Obj.RING_WEIGHT))
  match left with
  | [] => l.head?.map (fun p => (p, true))
  | _ => (nextAfter (if mgmt then s.ring.lastMgmt else s.ring.lastServed) left).map (fun p => (p, false))

/-- Entries and pages of the management reserve that management jobs do not hold now (R156). -/
def reserveEntries (s : State) : Nat :=
  64 - min 64 (mcount (fun _ e => match e.origin with | .ring q => isMgmt q | _ => false) s.ring.entries)
def reservePages (s : State) : Nat :=
  let l := s.ring.entries.filter (fun x => match x.2.origin with | .ring q => isMgmt q | _ => false)
  64 - min 64 (l.map (fun x => x.2.pages.length)).sum

/-- Pages that the pair's head job needs; none where it has no job past its checks. -/
def headNeed (s : State) (p : Nat) : Nat :=
  let leg := isLegacy s p
  let x := pair s p
  match headOf leg x.held with
  | .job n => match cmdSpec s (pairColour p) leg (jobDesc leg (x.held.take n)) with
    | some c => c.inPages + c.outPages + c.resume
    | none => 0
  | _ => 0

/-- A starving pair's head job has waited longer than pair `p`'s (R162): every one has where `p`'s does not starve.  DESIGN CHOICE: of
two that have waited equally long, the lower pair's is served first. -/
def starvesBefore (s : State) (p q : Nat) : Bool :=
  let at1 := fun k => (pair s k).pageWait.getD s.now
  decide (q ≠ p) && (!(decide (p ∈ s.ring.starving)) || decide (at1 q < at1 p) || (decide (at1 q = at1 p) && decide (q < p)))

/-- Pool pages held back from pair `p`: those released since jobs starve, up to what the jobs that come before its own need (R162). -/
def heldFrom (s : State) (p : Nat) : Nat :=
  min (pagesFree s - s.ring.unheld) (((s.ring.starving.filter (starvesBefore s p)).map (headNeed s)).sum)

/-- The resources an internal job takes (R157, R286): those of graft steps, the resume pages of a rebuild. -/
def internalSpec (o : Origin) (d : Desc) : CmdSpec :=
  let r := match o with
    | .rebuild _ => 2
    | _ => 0
  { reserved := none, psetBad := none, lenBad := none, outLen := d.outLen, exact := false, noLegacy := false, unavailable := false,
    inPages := stagedPages (inLen d), outPages := stagedPages d.outLen, resume := r, wdog := 0, wdogIter := 0, cycles := 0 }

/-- Pages that an internal job needs. -/
def internalPages (o : Origin) (d : Desc) : Nat :=
  let c := internalSpec o d
  c.inPages + c.outPages + c.resume

/-- A graft job more stays within the bounds of graft jobs (R157). -/
def graftBound (s : State) (o : Origin) (d : Desc) : Bool :=
  let g := s.ring.entries.filter (fun q => isGraft q.2)
  decide (g.length < 1024) && decide ((g.map (fun q => q.2.pages.length)).sum + internalPages o d ≤ 1024)

/-- A graft job waits for an entry or for pages of the pool: no ring job is admitted before it but from the management reserve
(R157). -/
def graftWaits (s : State) : Bool :=
  s.ring.internalWait.any (fun w => match w.1 with
    | .graft _ => graftBound s w.1 w.2.1
    | _ => false)

/-- A job of `d` can be admitted to the pair now (R155, R156, R157, R162), needing `n` pages. -/
def roomFor (s : State) (p n : Nat) : Bool :=
  let held := heldFrom s p
  if graftWaits s then isMgmt p && decide (1 ≤ reserveEntries s) && decide (1 ≤ entriesFree s) && decide (n ≤ min (reservePages s) (pagesFree s))
  else if isMgmt p then decide (1 ≤ entriesFree s) && decide (n ≤ reservePages s + (pagesFree s - reservePages s - held))
  else decide (reserveEntries s < entriesFree s) && decide (n + reservePages s + held ≤ pagesFree s) &&
    decide (pairEntries s p < entryQuota s p) && decide (pairPages s p + n ≤ pageQuota s p)

/-- Only pool pages are lacking, not quota room or an entry (R162). -/
def lacksPages (s : State) (p n : Nat) : Bool :=
  !(isMgmt p) && decide (pagesFree s < n + reservePages s + heldFrom s p) && decide (reserveEntries s < entriesFree s) &&
    decide (pairEntries s p < entryQuota s p) && decide (pairPages s p + n ≤ pageQuota s p)

/-- The digest unit that takes the next job: the unfenced unit with fewest jobs, the lowest such (R369). -/
def leastUnit? (s : State) : Option Nat :=
  leastBy (fun u => (digUnit s u).jobs.length) ((List.range 4).filter (fun u => !(digUnit s u).fenced))

/-- A digest job goes to its unit and stays there (R366, R369). -/
def assignDigest (e opcode : Nat) (s : State) : State :=
  if opcode / 256 ≠ 8 then s
  else match leastUnit? s with
    | some u => setDigUnit u { digUnit s u with jobs := (digUnit s u).jobs ++ [e] } s
    | none => s

/-- Take an in-flight entry and pages and put the job in them (R155, R158): input, output and resume pages, tagged in
the job's colour, inbound DMA under way. -/
def admitJob (o : Origin) (colour prio : Nat) (d : Desc) (c : CmdSpec) (stream : Bytes) (s : State) : State :=
  match mfree? s.ring.entries 0 8192 with
  | none => s
  | some e =>
    let ps := pickPages (usedPages s) (c.inPages + c.outPages + c.resume)
    let x : Entry :=
      { origin := o, colour := colour, prio := prio, serial := s.ring.serial, desc := d, pages := ps,
        inPages := c.inPages, outPages := c.outPages, stream := if c.inPages = 0 then stream else [],
        phase := if inLen d = 0 ∨ !stream.isEmpty then .waiting else .inbound, slice := 0xFF, startedAt := s.now, segAt := s.now,
        progress := 0, segsSince := 0, cycles := 0, keyChecked := false, target := none, lksTarget := none, tag := [], endedAt := s.now,
        status := .ok, detail := 0, output := [], scrub := 0, late := [] }
    let s1 := writePages (ps.take c.inPages) stream (tagPages colour ps s)
    assignDigest e d.opcode (setEntry e x { (if (opClass d.opcode).isNone then rouseEngine s1 else s1) with ring := { s1.ring with serial := s1.ring.serial + 1, unheld := s1.ring.unheld - ps.length } })

/-- An internal job may be admitted now: graft jobs within their own bounds beside the reserve (R157), at most four
rebuilds at once (R286). -/
def internalFits (s : State) (o : Origin) (d : Desc) : Bool :=
  let room := decide (reserveEntries s < entriesFree s ∧ internalPages o d + reservePages s ≤ pagesFree s)
  match o with
  | .rebuild _ => room && decide (mcount (fun _ e => isRebuild e) s.ring.entries < 4)
  | .load _ => room
  | _ => room && graftBound s o d

/-- The colour of an internal job. -/
def internalColour (s : State) (o : Origin) : Nat :=
  match o with
  | .graft c => 0x1000 + objVal s (at_ Obj.SP_C_TENANT c)
  | .rebuild h => match mget? s.kreg.slots h with
    | some x => x.owner
    | none => 0x0002
  | .load n => 0x1000 + cellTenant s n
  | _ => 0x0002

/-- The priority class of an internal job: 2 of a load's verification (R495), 1 of the others (R157, R286). -/
def internalPrio (o : Origin) : Nat :=
  match o with
  | .load _ => 2
  | _ => 1

/-- The command of an internal job. -/
def stepDesc (opcode pset key aux outLen step n : Nat) : Desc :=
  { opcode := opcode, pset := pset, ctrl := 0, key := key, key2 := 0, userTag := step, segs := [(0, n)], outLen := outLen,
    outAddr := 0, aux := aux, aux2 := 0, totalLen := 0, subIndex := 0, entries := 1 }

/-- Admit the internal jobs that wait, in order, while what they need is free (R157, R286). -/
def admitInternal (s : State) : State :=
  s.ring.internalWait.foldl (fun t w =>
    if internalFits t w.1 w.2.1 then admitJob w.1 (internalColour t w.1) (internalPrio w.1) w.2.1 (internalSpec w.1 w.2.1) w.2.2 t
    else { t with ring := { t.ring with internalWait := t.ring.internalWait ++ [w] } })
    { s with ring := { s.ring with internalWait := [] } }

/-- The pair stalls on its head job (R159). -/
def stall (p : Nat) (pages : Bool) (s : State) : State :=
  let x := pair s p
  let pw := if pages then some (x.pageWait.getD s.now) else none
  if x.st = .stalled then setPair p { x with pageWait := pw } s
  else bump (pairObj p Obj.RING_STALLS) (setPair p { x with st := .stalled, stallAt := some s.now, pageWait := pw } s)

/-- The pair leaves STALLED as its head job is taken (R159), and is polled again from now on. -/
def unstall (p : Nat) (s : State) : State :=
  let s1 := leaveStall p s
  let x := pair s1 p
  if x.st = .stalled then setPair p { x.pollDue s1.now with st := .active } s1 else s1

/-- The job's class after the floor (R137). -/
def jobPrio (s : State) (p : Nat) (d : Desc) : Nat := max (ctrlPrio d.ctrl) (ringVal s p Obj.RING_PRIO_FLOOR)

/-- Count a job whose PRIO is below the floor (R137). -/
def countClamp (p : Nat) (d : Desc) (s : State) : State :=
  if ctrlPrio d.ctrl < ringVal s p Obj.RING_PRIO_FLOOR then bump (pairObj p Obj.RING_PRIO_CLAMPED) s else s

/-- A control command of class 0x0F: the ring manager carries it out in its own step (R169). -/
def isControl (d : Desc) : Bool := decide (d.opcode / 256 = 0x0F)

/-- A pair's turn goes on later: it has taken `taken` entries so far. -/
def keepTurn (p taken : Nat) (s : State) : State :=
  { s with ring := if isMgmt p then { s.ring with turnMgmt := some (p, taken) } else { s.ring with turnTenant := some (p, taken) } }

/-- A turn that has taken `taken` entries may go on to a job of `n` (R152): the burst has room for it, and a skein is a turn's first. -/
def inBurst (s : State) (p taken n : Nat) : Bool := decide (taken = 0) || (decide (n = 1) && decide (taken + n ≤ ringVal s p Obj.RING_BURST))

/-- One turn of a pair: jobs in submission order until RING_BURST entries are taken or the head job cannot be (R152).
`taken` counts the entries taken in this turn; at a control command the turn waits for that command's own step (R169). -/
def turn (p : Nat) : Nat → Nat → State → State
  | 0, _, s => endTurn p s
  | fuel + 1, taken, s0 =>
    let s := settleHead p 64 s0
    let leg := isLegacy s p
    let x := pair s p
    match headOf leg x.held with
    | .stray =>
      if inBurst s p taken 1 then
        let d := jobDesc leg (x.held.take 1)
        turn p fuel (taken + 1) (writeRecord p d .badDescriptor 0xFF 0 (badDetail 4 3 0) 0 (unstall p (consume p 1 s)))
      else endTurn p s
    | .job n =>
      if !(inBurst s p taken n) then endTurn p s
      else
        let hs := x.held.take n
        let d := jobDesc leg hs
        let spec := cmdSpec s (pairColour p) leg d
        let quota := if isMgmt p then none else some (pageQuota s p)
        match preChecks leg hs d spec quota with
        | some (st, detail) =>
          turn p fuel (taken + n) (writeRecord p d st 0xFF 0 detail 0 (unstall p (consume p n s)))
        | none =>
          match spec with
          | none => endTurn p s
          | some c =>
            if isControl d then keepTurn p taken s
            else
              let need := c.inPages + c.outPages + c.resume
              if roomFor s p need then
                turn p fuel (taken + n)
                  (admitJob (.ring p) (pairColour p) (jobPrio s p d) d c [] (countClamp p d (unstall p (consume p n s))))
              else endTurn p (stall p (lacksPages s p need) s)
    | _ => endTurn p s

/-- Something can be done for an eligible pair now: its head job can be admitted, or its record written (R153). -/
def admissible (s : State) (p : Nat) : Bool :=
  let leg := isLegacy s p
  let x := pair s p
  match headOf leg x.held with
  | .job n =>
    let hs := x.held.take n
    let d := jobDesc leg hs
    let spec := cmdSpec s (pairColour p) leg d
    isControl d || (preChecks leg hs d spec (if isMgmt p then none else some (pageQuota s p))).isSome || roomFor s p (headNeed s p)
  | _ => true

/-- The management pairs are visited next (R153): while one has an admissible job, or has yet to become STALLED. -/
def mgmtFirst (s : State) : Bool := (eligiblePairs s true).any (fun p => admissible s p || decide ((pair s p).st ≠ .stalled))

/-- A pair's turn is used (R152): in a new round every pair of its group has its turns again. -/
def useTurn (p : Nat) (fresh : Bool) (s : State) : State :=
  let s1 := if fresh then
      { s with ring := { s.ring with pairs := mmap (fun k x => if isMgmt k = isMgmt p then { x with turnsUsed := 0 } else x) s.ring.pairs } }
    else s
  let x := pair s1 p
  setPair p { x with turnsUsed := x.turnsUsed + 1 }
    { s1 with ring := if isMgmt p then { s1.ring with lastMgmt := p } else { s1.ring with lastServed := p } }

/-- The turn under way in the group that is visited next: its pair and the entries it has taken. -/
def openTurn (s : State) : Option (Nat × Nat) :=
  (if mgmtFirst s then s.ring.turnMgmt else s.ring.turnTenant).filter (fun q => eligible s q.1)

/-- Pair `p` has the turn: the entries it has taken in it so far, and the state with the turn used (R152, R153). -/
def takeTurn (p : Nat) (s : State) : Option (Nat × State) :=
  match openTurn s with
  | some q => if q.1 = p then some (q.2, s) else none
  | none => match turnIn s (mgmtFirst s) with
    | some (q, fresh) => if q = p then some (0, useTurn p fresh s) else none
    | none => none

/-- ADMISSION (R152, R153): it is the pair's turn, and the turn is taken. -/
def execAdmission (p : Nat) (s : State) : Host.Outcome State Fault Refusal :=
  .next (
    if !(deviceOpen s) then s
    else match takeTurn p s with
      | none => s
      | some (k, t) => ringGuard p 64 1 (turn p 65 k) t)

/-- STARVE_LIMIT_EXPIRY (R162): the head job of a tenant pair has waited more than RING_STARVE_LIMIT for pool pages;
pages released from now on are held for it, the longest wait first: those free now are what other jobs may still take. -/
def execStarveLimitExpiry (p : Nat) (s : State) : Host.Outcome State Fault Refusal :=
  .next (match (pair s p).pageWait with
    | none => s
    | some t =>
      if isMgmt p || decide (p ∈ s.ring.starving) then s
      else
        let s1 := advanceTo (t + us (objVal s Obj.RING_STARVE_LIMIT)) s
        { s1 with ring := { s1.ring with starving := s1.ring.starving ++ [p],
                                         unheld := if s1.ring.starving = [] then pagesFree s1 else s1.ring.unheld } })

/-! ### Jobs in flight -/

/-- INBOUND_DMA_COMPLETE (R179): the input is in the job's pages, or streamed to its unit, and the job waits in its
class's queue; not while the inbound DMA is fenced (R636). -/
def execInboundDmaComplete (e : Nat) (data : Bytes) (s : State) : Host.Outcome State Fault Refusal :=
  .next (match entry? s e with
    | none => s
    | some x =>
      if x.phase ≠ .inbound ∨ 36 ∈ s.pke.fencedReq then s
      else
        let b := fitBytes (inLen x.desc) data
        let s1 := rouseEngine s
        if x.inPages = 0 then setEntry e { x with stream := b, phase := .waiting } s1
        else setEntry e { x with phase := .waiting } (writePages (x.pages.take x.inPages) b s1))

/-- Free a job's entry and pages: pages zeroed and tagged 0xFFFF (R94, R158); a DRAINING pair may be done (R131); waiting internal
jobs come in first (R157). -/
def releaseJob (e : Nat) (x : Entry) (s : State) : State :=
  let s1 := dropEntry e (tagPages 0xFFFF x.pages s)
  let s2 := match x.origin with
    | .ring p => settleDrain p s1
    | _ => s1
  admitInternal s2

/-- The slice number a record shows (R165). -/
def recordSlice (x : Entry) : Nat := x.slice

/-- The roles of the ephemeral slots whose last job this step is (R443): DECAPS of the ML-KEM key, AGREE of the classical share. -/
def spentRoles (x : Entry) : List Nat := if x.desc.opcode = 0x0103 then [0] else if x.desc.opcode = 0x0606 then [1] else []

/-- A graft job has ended: the exchange takes its result (R444, R445), and an ephemeral slot that no further job uses is erased
(R443). -/
def noteGraft (c : Nat) (x : Entry) (s : State) : State :=
  let g := graftOf s c
  if x.desc.userTag = 0 then s
  else freeRoles c (spentRoles x) (setGraft c { g with results := g.results ++ [{ step := x.desc.userTag, status := x.status, detail := x.detail, out := x.output }] } s)

/-- The job has output for the host, and the outbound DMA is fenced: it stands at its next bench request (R636). -/
def outputHeld (s : State) (x : Entry) : Bool := decide (originPair x.origin ≠ 0xFFFF) && !x.output.isEmpty && decide (37 ∈ s.pke.fencedReq)

/-- PKE_ABORTS counts the jobs that end ABORTED (R225). -/
def countAbort (x : Entry) (s : State) : State := if x.status = .aborted then bump Obj.PKE_ABORTS s else s

/-- A job that has ended: its output, then its record, then its entry and pages are freed (R158, R165–R172); output waits while the
outbound DMA is fenced (R636).  The end of an internal job is the core's work (R679). -/
def completeJob (e : Nat) (s : State) : State :=
  match entry? s e with
  | none => s
  | some x =>
    if x.phase ≠ .ended ∨ outputHeld s x then s
    else
      match x.origin with
      | .ring p =>
        let s1 := if x.output.isEmpty then s else emit (.hostWrite x.desc.outAddr x.output) s
        let s2 := countAbort x s1
        releaseJob e x (x.late.foldl (fun t o => bump o t) (writeRecord p x.desc x.status (recordSlice x) x.output.length x.detail x.cycles s2))
      | .cell _ => s
      | .graft c => releaseJob e x (x.late.foldl (fun t o => bump o t) (noteGraft c x (countAbort x (wakeCore s))))
      | .load n => releaseJob e x (x.late.foldl (fun t o => bump o t) (endLoad n x.status (countAbort x (wakeCore s))))
      | .rebuild _ => releaseJob e x (x.late.foldl (fun t o => bump o t) (countAbort x (wakeCore s)))

/-- JOB_COMPLETE (R167). -/
def execJobComplete (e : Nat) (s : State) : Host.Outcome State Fault Refusal := .next (completeJob e s)

/-- COAL_DELAY_EXPIRY (R171). -/
def execCoalDelayExpiry (p : Nat) (s : State) : Host.Outcome State Fault Refusal :=
  .next (match (pair s p).unsignalledAt with
    | none => s
    | some t =>
      if (pair s p).coalDelay = 0 then s
      else
        let s1 := advanceTo (t + us (pair s p).coalDelay) s
        raiseVec (pair s p).coalVector (setPair p { pair s1 p with unsignalled := 0, unsignalledAt := none } s1))

/-! ### Control commands (R169, R170) -/

/-- The control command of `opcode` at the head of a pair, past its checks, with its entry count. -/
def controlHead (s : State) (p opcode : Nat) : Option (Desc × Nat) :=
  let leg := isLegacy s p
  let x := pair s p
  match headOf leg x.held with
  | .job n =>
    let hs := x.held.take n
    let d := jobDesc leg hs
    if deviceOpen s && eligible s p && decide (d.opcode = opcode) &&
        (preChecks leg hs d (cmdSpec s (pairColour p) leg d) none).isNone then some (d, n) else none
  | _ => none

/-- Complete a control command (R169): its record with SLICE 0xFF and CYCLES 0.  DESIGN CHOICE: RING_PRIO_CLAMPED does not count it,
since it is not run at any class. -/
def completeControl (p : Nat) (d : Desc) (n detail : Nat) (st : Status) (s : State) : State :=
  writeRecord p d st 0xFF 0 detail 0 (unstall p (consume p n s))

/-- The control command of `opcode` that pair `p`'s turn has reached: its descriptor, its entries, those the turn has taken before it,
and the state with the turn used (R152, R153, R169). -/
def controlTurn (s : State) (p opcode : Nat) : Option (Desc × Nat × Nat × State) :=
  match controlHead s p opcode, takeTurn p s with
  | some (d, n), some (k, t) => if inBurst s p k n then some (d, n, k, t) else none
  | _, _ => none

/-- After a control command of `n` entries, which count towards the burst, the turn goes on or is over (R152). -/
def afterControl (p n k : Nat) (s : State) : State :=
  if k + n < ringVal s p Obj.RING_BURST then keepTurn p (k + n) s else endTurn p s

/-- A STAGE whose input cannot be read ends FENCED, with its record (R174). -/
def endStage (p : Nat) (s : State) : State :=
  match controlHead s p 0x0FF2 with
  | some (d, n) => completeControl p d n 0 .fenced s
  | none => s

/-! ### Host-memory errors (R174, R643) -/

/-- A job that a host-memory error ends FENCED: a job not yet ended is stopped; one that has ended loses its output. -/
def fenceServed (e : Nat) (s : State) : State :=
  match entry? s e with
  | none => s
  | some x =>
    if x.phase = .ended then setEntry e { x with status := .fenced, detail := 0, output := [] } s
    else stopJob e .fenced 0 s

/-- A host-memory access of a pair ends in error (R174): RING_ERR, RING_ERR_RING, the pair in FAULT, the job served
FENCED; without a record where the completion ring itself cannot be written. -/
def hostError (p : Nat) (a : HostAccess) (s : State) : State :=
  let isWrite := match a with
    | .output _ => true
    | .completion _ => true
    | .record => true
    | _ => false
  let s1 := ringErr (if isWrite then eWR_ERR else eRD_ERR) { s with ring := { s.ring with errRing := some p } }
  -- STAGE has no in-flight entry: its record is written from its entry in the ring, before the pair's held entries are given up
  let s2 := faultPair p (if a = .stage then endStage p s1 else s1)
  match a with
  | .poll => s2
  | .record => s2
  | .stage => s2
  | .input e => fenceServed e s2
  | .output e => fenceServed e s2
  | .completion e => match entry? s2 e with
    | some x => if x.phase = .ended then releaseJob e x s2 else s2
    | none => s2

/-- The access is one the pair is making: the pair is not DISABLED, and the entry named holds a job of it; a record without an
in-flight entry is that of a job refused before admission, a broken skein or a control command. -/
def pairMakes (s : State) (p : Nat) (a : HostAccess) : Bool :=
  decide ((pair s p).st ≠ .disabled) &&
    (match a with
     | .poll => decide ((pair s p).st = .active ∨ (pair s p).st = .idle)
     | .record => true
     | .stage => (controlHead s p 0x0FF2).isSome
     | .input e => (match entry? s e with | some x => ofPair p x && decide (x.phase = .inbound) | none => false)
     | .output e => (match entry? s e with | some x => ofPair p x && decide (x.phase = .ended) | none => false)
     | .completion e => (match entry? s e with | some x => ofPair p x && decide (x.phase = .ended) | none => false))

/-- HOST_MEMORY_ERROR (R174). -/
def execHostMemoryError (p : Nat) (a : HostAccess) (s : State) : Host.Outcome State Fault Refusal :=
  .next (if pairMakes s p a then hostError p a s else s)

/-- RING_FETCH_TIMEOUT (R643): a read not complete when ERR_RING_FETCH expires is a host-memory error; a write is not
watched. -/
def execRingFetchTimeout (p : Nat) (a : HostAccess) (s : State) : Host.Outcome State Fault Refusal :=
  let isRead := match a with
    | .poll => true
    | .input _ => true
    | .stage => true
    | _ => false
  .next (if isRead && pairMakes s p a then hostError p a (advanceTo (s.now + us (objVal s Obj.ERR_RING_FETCH)) s) else s)

/-! ### PCIe resets (R62, R175) -/

/-- A ring pair after a PCIe reset: DISABLED, nothing held. -/
def Pair.unplugged (_ : Pair) : Pair := Pair.reset

/-- The calls of host jobs end without a record, their cells re-initialised (R502). -/
def dropHostCalls (s : State) : State :=
  ((s.tsuow.cells.filter (fun p => p.2.call.isSome)).map (·.1)).foldl (fun t n => endCall n .aborted 0 .reinit t) s

/-- A slice that ran a host job is free again. -/
def Slice.unplugged (now : Time) (host : List Nat) (x : Slice) : Slice :=
  match x.job with
  | some e => if e ∈ host ∧ (x.st = .busy ∨ x.st = .scrub ∨ x.st = .parking) then { x.cleared with st := .idle, idleSince := now } else x
  | none => x

/-- A function-level reset, PERST_N or link-down (R62, R175): every pair DISABLED, host jobs stopped without records,
their entries and pages freed, the ring registers and the window at their reset values. -/
def pcieReset (s : State) : State :=
  let s1 := dropHostCalls s
  let hostJobs : List Nat := (s1.ring.entries.filter (fun q => match q.2.origin with | .ring _ => true | _ => false)).map (·.1)
  let pages := (s1.ring.entries.filter (fun q => decide (q.1 ∈ hostJobs))).flatMap (fun q => q.2.pages)
  let s2 := stopJobs (fun e _ => decide (e ∈ hostJobs)) .aborted s1
  let s3 := tagPages 0xFFFF pages s2
  admitInternal { s3 with
    dict := { s3.dict with
      win := { Window.reset with st := { s3.dict.win.st with write := none } },
      queue := s3.dict.queue.map (·.unplugged),
      obj := mfilter (fun k _ => !(decide (k % 256 = 0x40 ∧ ((0x2000 ≤ k / 256 ∧ k / 256 < 0x3000) ∨ (0x910 ≤ k / 256 ∧ k / 256 < 0x920))))) s3.dict.obj },
    tmp := { s3.tmp with card := { s3.tmp.card with step := match s3.tmp.card.step with
      | .approve i d m _ => .approve i d m false
      | x => x } },
    ring := { RingSt.reset with
      entries := mfilter (fun e _ => !(decide (e ∈ hostJobs))) s3.ring.entries,
      serial := s3.ring.serial, internalWait := s3.ring.internalWait },
    pke := { s3.pke with
      slices := mmap (fun _ x => Slice.unplugged s3.now hostJobs x) s3.pke.slices,
      scrubQ := s3.pke.scrubQ.filter (fun e => !(decide (e ∈ hostJobs))) } }

/-- PCIE_LINK_RESET (R175). -/
def execPcieLinkReset (s : State) : Host.Outcome State Fault Refusal := .next (pcieReset s)

/-! ### NOP and ABORT (R170) -/

/-- JOB_NOP (R170): NOP completes OK in its pair's order. -/
def execJobNop (p : Nat) (s : State) : Host.Outcome State Fault Refusal :=
  .next (match controlTurn s p 0x0FF1 with
    | some (d, n, k, t) => ringGuard p 64 1 (fun u => afterControl p n k (completeControl p d n 0 .ok u)) t
    | none => s)

/-- A job counts as complete: RELEASE has been executed (R214). -/
def released (x : Entry) : Bool :=
  decide (x.phase = .committing) || (decide (x.phase = .ended) && decide (x.status = .ok ∨ x.status = .earlyRead))

/-- The admitted, not yet complete job of a pair with a SUB_INDEX (R170): the oldest such, also one that has been stopped and whose
record is still to come. -/
def abortTarget (s : State) (p sub : Nat) : Option Nat :=
  (leastBy (fun q => q.2.serial) (s.ring.entries.filter (fun q =>
    ofPair p q.2 && decide (q.2.desc.subIndex = sub) && !(released q.2)))).map (·.1)

/-- Stop a job by ABORT (R214): a running service call ends with its cell re-initialised (R502). -/
def abortJob (e : Nat) (s : State) : State :=
  match mfind? (fun _ c => decide (c.call = some e)) s.tsuow.cells with
  | some (n, _) => endCall n .aborted 0 .reinit s
  | none => stopJob e .aborted 0 s

/-- ABORT (R170, R214): it completes OK, with DETAIL 1 if the target was admitted and not yet complete. -/
def execAbort (p : Nat) (s : State) : Host.Outcome State Fault Refusal :=
  .next (match controlTurn s p 0x0FF0 with
    | none => s
    | some (d, n, k, t) => ringGuard p 64 1 (fun u =>
        let tp := bits d.aux 15 0
        let target := if isMgmt p || decide (tp = p) then abortTarget u tp (bits d.aux 31 16) else none
        afterControl p n k (match target with
          | some e => completeControl p d n 1 .ok (abortJob e u)
          | none => completeControl p d n 0 .ok u)) t)

end Sys2Proof.Machine
end

