-- ==== Sys2Proof/Machine/Service.lean ====
section
/-!
DEFINITION. Service cells (chapter 13): loads, calls, SVC, sub-jobs, quanta; lockstep, memory errors and warm restarts of the
core.
-/
namespace Sys2Proof.Machine

/-! ### Warm restarts (R489–R491, R644) -/

/-- The supervisor firmware runs. -/
def supervisorUp (s : State) : Bool :=
  decide (s.upd.phase ≠ 0) && !s.tsuow.restarting && !s.tsuow.core.stopped

/-- The core pair stops and restarts (R490, R644): every service call ends FAULT_DETECTED; the third restart within 60 s resets
the device instead, with cause TSUOW_WDOG (4). -/
def warmRestart (s : State) : State :=
  let s1 := endCalls .faultDetected .reinit s
  let recent := s1.tsuow.restarts.filter (fun t => decide (s1.now < t + sec 60)) ++ [s1.now]
  let s2 := { s1 with tsuow := { s1.tsuow with
    core := { Core.reset with stopped := true }, current := none, readyQ := [], restarts := recent, restarting := true } }
  if 3 ≤ recent.length then { s2 with rec_ := { s2.rec_ with scheduled := some (4, s2.now) } }
  else bump Obj.ERR_TSUOW_RESTARTS s2

/-- LOCKSTEP_MISMATCH (R490): the pair disagrees, in its request, register file or shadow; S18 takes an event. -/
def execLockstepMismatch (s : State) : Host.Outcome State Fault Refusal :=
  .next (if s.upd.phase = 0 ∨ s.tsuow.restarting then s else tamperEvent 18 .none_ 0 (warmRestart s))

/-- WARM_RESTART_COMPLETE (R490): within 5 ms the supervisor firmware is back. -/
def execWarmRestartComplete (s : State) : Host.Outcome State Fault Refusal :=
  .next (if s.tsuow.restarting then
      let began := s.tsuow.restarts.getLast?.getD s.now
      let s1 := usedFree (advanceTo (began + Config.freeNat s.free % (ms 5 + 1)) s)
      { s1 with tsuow := { s1.tsuow with core := Core.reset, restarting := false, wdogAt := s1.now } }
    else s)

/-- TSUOW_WDOG_BITE (R644): the supervisor firmware has not restarted its watchdog, or the pair has stopped under R487. -/
def execTsuowWdogBite (s : State) : Host.Outcome State Fault Refusal :=
  .next (if s.upd.phase = 0 ∨ s.tsuow.restarting then s
    else warmRestart (advanceTo (s.tsuow.wdogAt + ms (objVal s Obj.ERR_TSUOW_WDOG)) s))

/-- MEMORY_ECC_ERROR (R491, R645): a correction is counted; an uncorrectable error is counted and gives S19 an event, and in the
core's memories (4 and 5) it has the outcome of R490. -/
def execMemoryEccError (mem : Nat) (uncorrectable : Bool) (reader : UnitRef) (s : State) : Host.Outcome State Fault Refusal :=
  .next (if mem = 0 ∨ 5 < mem then s
    else if !uncorrectable then bump (Obj.ERR_ECC_CORR + (mem - 1)) s
    else
      let s1 := bump (Obj.ERR_ECC_UNCORR + (mem - 1)) s
      if mem ≤ 3 then tamperEvent 19 reader (unitNumber reader) s1
      else if s1.upd.phase = 0 ∨ s1.tsuow.restarting then s1
      else tamperEvent 19 .none_ 0 (warmRestart s1))

/-! ### Loading a cell (R494, R495) -/

/-- A load begins (R495): the checks before the signature, then the internal job that verifies it; a class without a slice leaves the
signature unverified (R598). -/
def runLoad (n : Nat) (b : Bytes) (s : State) : State :=
  match loadChecks s n b with
  | .inl code => setObj (at_ Obj.SVC_CELL_LOAD_STATE n) code s
  | .inr _ =>
    if unitMissing s 0x0205 then setObj (at_ Obj.SVC_CELL_LOAD_STATE n) ldSIGNATURE s
    else
      let c := cell s n
      let d := stepDesc 0x0205 3 (objVal s (at_ Obj.SVC_CELL_VKEY n)) (6 * 256 + 8) 0 0 (loadInput b).length
      let s1 := setCell n { c with st := .loading, loading := some (c.st, b) } (setObj (at_ Obj.SVC_CELL_LOAD_STATE n) 1 s)
      admitInternal { s1 with ring := { s1.ring with internalWait := s1.ring.internalWait ++ [(.load n, d, loadInput b)] } }

/-- A call to cell `n` in its tenant's colour is admitted (R494). -/
def callAdmitted (s : State) (n : Nat) : Bool :=
  s.ring.entries.any (fun q => decide (q.2.desc.opcode / 256 = 0x0C ∧ q.2.desc.key2 = n ∧ q.2.colour = 0x1000 + cellTenant s n) &&
    decide (q.2.phase ≠ .ended ∧ q.2.phase ≠ .scrubbing))

/-- SVC_CELL_LOAD's rule (R494). -/
def cellLoadRule (n : Nat) (s : State) : WriteRule :=
  let st := (cell s n).st
  { lock := false, held := false, critical := false, bad := decide (cellTenant s n = 0xFFFF),
    busy := decide (st = .loading ∨ st = .running) || callAdmitted s n,
    act := fun t => runLoad n (fitBytes 65536 (cell t n).image) t }

/-- SVC_CELL_LOAD (R494, R495). -/
def execSvcCellLoad (c : Caller) (n : Nat) (data : Bytes) (s : State) : Host.Outcome State Fault Refusal :=
  .next (if n < 64 then writeAccess c (at_ Obj.SVC_CELL_LOAD n) data (cellLoadRule n s) s else s)

/-- The cell's data, BSS and stack are as loaded; a FENCED or READY cell is READY (R504). -/
def resetCell (n : Nat) (s : State) : State :=
  let c := cell s n
  if c.st = .fenced ∨ c.st = .ready then setCell n { c with st := .ready } (cellDataInit c s) else s

/-- SVC_CELL_RESET's rule (R504). -/
def cellResetRule (n : Nat) (s : State) : WriteRule :=
  { lock := false, held := false, critical := false, bad := false, busy := (cell s n).call.isSome, act := resetCell n }

/-- SVC_CELL_RESET (R502, R504). -/
def execSvcCellReset (c : Caller) (n : Nat) (data : Bytes) (s : State) : Host.Outcome State Fault Refusal :=
  .next (if n < 64 then writeAccess c (at_ Obj.SVC_CELL_RESET n) data (cellResetRule n s) s else s)

/-! ### Calls (R496–R498) -/

/-- The registers of R498 at the start of a call. -/
def startRegs (x : Entry) (n : Nat) (c : Cell) : Tab Word :=
  let w := fun (v : Nat) => (BitVec.ofNat 32 v : Word)
  let set := fun (t : Tab Word) (k v : Nat) => tset (fun _ => 0) t k (w v)
  let d := x.desc
  let a := set (set (set (set [] 1 (inputLen d)) 2 d.outLen) 3 d.aux) 4 (d.aux / 2 ^ 32)
  let b := set (set (set (set a 5 (pageList n)) 6 x.pages.length) 7 d.aux2) 8 d.key
  set (set b 13 (d.opcode % 256)) 15 (c.dataBase + c.dataLen)

/-- The core as the supervisor firmware sets it up for a call (R498). -/
def startCore (x : Entry) (n budget : Nat) (c : Cell) (k : Core) : Core :=
  { k.zeroed with
    g := startRegs x n c,
    pc := BitVec.ofNat 24 (c.codeBase + 4 * imgEntry c.loaded (x.desc.opcode % 256)),
    ccol := BitVec.ofNat 32 x.colour, cb := BitVec.ofNat 32 c.codeBase, cl := BitVec.ofNat 32 (c.codeBase + c.codeLen - 1),
    dwin := if bit (byteAt c.loaded 10) 2 then 7 else 3, budget := BitVec.ofNat 32 budget }

/-- The page list: one word for each of the call's pages, its D-space address in the operand window (R498). -/
def pageWords (ps : List Nat) : Bytes := ps.flatMap (fun p => leBytes 4 (0x10000000 + p * 1024))

/-- Start a call (R498, R501): the page list is readable in the call's colour, the cell is RUNNING and ready for the core. -/
def startCall (e : Nat) (x : Entry) (n : Nat) (s : State) : State :=
  let budget := objVal s (at_ Obj.SVC_CELL_BUDGET n) * 800
  let c := cell s n
  let s1 := memWrite (dataFabric (pageList n)) (pageWords x.pages) (retag (dataFabric (pageList n) / 256) 32 x.colour s)
  let s2 := setEntry e { x with startedAt := s1.now, segAt := s1.now } s1
  let s3 := setCell n { c with st := .running, call := some e, subjob := none, subResult := none, waiting := false, budget := budget,
                               saved := some (startCore x n budget c s2.tsuow.core) } s2
  nextCell { s3 with tsuow := { s3.tsuow with readyQ := s3.tsuow.readyQ ++ [n] } }

/-- An earlier call of the same colour waits for the cell (R497). -/
def earlierCall (s : State) (x : Entry) (n : Nat) : Bool :=
  s.ring.entries.any (fun q => decide (q.2.desc.opcode / 256 = 0x0C ∧ q.2.desc.key2 = n ∧ q.2.colour = x.colour ∧ q.2.serial < x.serial) &&
    decide (q.2.phase = .waiting))

/-- A call's tenant is PAUSED (R502). -/
def callPaused (s : State) (n : Nat) : Bool := decide (objVal s (at_ Obj.TENANT_STATE (cellTenant s n)) = 3)

/-- SERVICE_CALL (R497): the call ends at dispatch, waits, or starts; a call of the right colour that never starts has spent no user-mode
cycle (R502). -/
def execServiceCall (e : Nat) (s : State) : Host.Outcome State Fault Refusal :=
  .next (match entry? s e with
    | none => s
    | some x =>
      let n := x.desc.key2
      if x.desc.opcode / 256 ≠ 0x0C ∨ x.phase ≠ .waiting ∨ !(supervisorUp s) then s
      else if x.colour ≠ 0x1000 + cellTenant s n then finish e (Res.stop .keyEmpty 120) s
      else if (cell s n).st = .loading then s
      else if (cell s n).st = .fenced then finish e (Res.stop .fenced 0) s
      else if (cell s n).st = .empty then finish e (Res.stop .keyEmpty 0) s
      else if !(entryDefined (cell s n).loaded (x.desc.opcode % 256)) then finish e (Res.stop .unsupported 0) s
      else if (cell s n).st ≠ .ready ∨ earlierCall s x n ∨ callPaused s n then s
      else startCall e x n (wakeCore s))

/-! ### The call area (R498, R500) -/

/-- `n` bytes of the call area from offset `off`. -/
def areaRead (s : State) : List Nat → Nat → Nat → Bytes
  | [], _, _ => []
  | p :: r, off, n =>
    if 1024 ≤ off then areaRead s r (off - 1024) n
    else memRead s (p * 1024 + off) (min n (1024 - off)) ++ areaRead s r 0 (n - (1024 - off))

/-- Write bytes into the call area at offset `off`. -/
def areaWrite : List Nat → Nat → Bytes → State → State
  | [], _, _, s => s
  | p :: r, off, b, s =>
    if 1024 ≤ off then areaWrite r (off - 1024) b s
    else areaWrite r 0 (b.drop (1024 - off)) (memWrite (p * 1024 + off) (b.take (1024 - off)) s)

/-- A range lies in the call area. -/
def inArea (x : Entry) (off n : Nat) : Bool := decide (n = 0 ∨ off + n ≤ 1024 * x.pages.length)

/-! ### SVC (R499, R501) -/

/-- A cell's registers as it will resume: before an exception entry as they stand, after one as ERET would return. -/
def userView (c : Core) : Core := if modeUM c then c else { c with pc := c.epc, fl := c.efl &&& 0xE00F }

/-- The cell that holds the core leaves it, its registers saved (R501). -/
def switchOut (n : Nat) (waiting : Bool) (s : State) : State :=
  let c := s.tsuow.core
  let s1 := setCell n { cell s n with saved := some (userView c), waiting := waiting } s
  { s1 with tsuow := { s1.tsuow with current := none, core := c.toSupervisor,
                                     readyQ := if waiting then s1.tsuow.readyQ else s1.tsuow.readyQ ++ [n] } }

/-- An SVC instruction: the SVC exception is taken with EPC the next instruction, without the repeat check where it stands at le
(R474); of a cell's program, the supervisor firmware then serves it by `f` (R485, R499). -/
def svcRow (f : Nat → State → State) (s : State) : State :=
  coreRow (fun t =>
    let c := t.tsuow.core.goto (t.tsuow.core.pc + 4)
    let t1 := takeExc xSVC c.pc 0 (setCore c t)
    match modeUM c, t.tsuow.current with
    | true, some n => f n t1
    | _, _ => t1) s

/-- The supervisor firmware returns to the cell with g1. -/
def svcReturn (v : Nat) (s : State) : State := setCore (s.tsuow.core.setReg 1 (BitVec.ofNat 32 v)).eret s

/-- The status that an EXIT names (R499). -/
def exitStatus (v : Nat) : Option Status :=
  match v with
  | 0x00 => some .ok
  | 0x10 => some .inputInvalid
  | 0x12 => some .verifyFail
  | _ => none

/-- EXIT (R499, R502): the call ends with its status and output, its cell READY, or as exception RETVAL. -/
def svcExit (n : Nat) (s : State) : State :=
  let c := s.tsuow.core
  match (cell s n).call with
  | none => s
  | some e =>
    match entry? s e with
    | none => s
    | some x =>
      let len := (c.reg 2).toNat
      match (if x.desc.outLen < len then none else exitStatus (c.reg 1).toNat) with
      | none =>
        let u := userView c
        let s1 := setCore (u.enter xRETVAL c.epc 0) s
        excCall n xRETVAL c.epc 0 u s1
      | some st =>
        let out := readPages s ((x.pages.drop x.inPages).take x.outPages) len
        let s1 := setEntry e { x with cycles := callCycles s n } (dropSubjob n s)
        let s2 := endJob e st 0 out [at_ Obj.SVC_CELL_CALLS n] s1
        leaveCell n (cellAfter n .keep s2)

/-- SVC_EXIT. -/
def execSvcExit (s : State) : Host.Outcome State Fault Refusal := .next (svcRow svcExit s)

/-- The 64-byte descriptor at a D-space address of the cell's data; zeros where it does not lie there. -/
def subDesc (s : State) (n a : Nat) : Bytes :=
  let c := cell s n
  if c.dataBase ≤ a ∧ a + 64 ≤ c.dataBase + c.dataLen then memRead s (dataFabric a) 64 else zeros 64

/-- A sub-job's command: classes 0x01–0x0A, taking no pages of its own (R500). -/
def subSpec (s : State) (x : Entry) (d : Desc) : Option CmdSpec :=
  if 1 ≤ d.opcode / 256 ∧ d.opcode / 256 ≤ 10 then
    (cmdSpec s x.colour false d).map (fun c => { c with inPages := 0, outPages := 0, resume := 0 })
  else none

/-- The status code of the first check that a sub-job's descriptor fails (R138, R500). -/
def subFails (s : State) (x : Entry) (b : Bytes) (d : Desc) : Option Status :=
  let h : Held := { index := 0, body := b, at_ := 0 }
  let r := (preChecks false [h] d (subSpec s x d) none).map (·.1)
  if r = some .badDescriptor then r
  else if ctrlSeg d.ctrl ≠ 0 ∨ !(inArea x (d.segs.headD (0, 0)).1 (inLen d)) ∨ !(inArea x d.outAddr d.outLen) then some .badDescriptor
  else r

/-- The entry index under which cell `n`'s sub-job is listed: it takes none of the 8,192 in-flight entries (R500). -/
def subEntry (n : Nat) : Nat := 8192 + n

/-- Start a sub-job: at the call's priority, in its colour, its input from the call area (R500). -/
def startSub (n : Nat) (x : Entry) (d : Desc) (s : State) : State :=
  let y : Entry :=
    { origin := .cell n, colour := x.colour, prio := x.prio, serial := s.ring.serial, desc := d, pages := [], inPages := 0,
      outPages := 0, stream := areaRead s x.pages (d.segs.headD (0, 0)).1 (inLen d), phase := .waiting, slice := 0xFF,
      startedAt := s.now, segAt := s.now, progress := 0, segsSince := 0, cycles := 0, keyChecked := false, target := none,
      lksTarget := none, tag := [], endedAt := s.now, status := .ok, detail := 0, output := [], scrub := 0, late := [] }
  let s1 := { s with ring := { s.ring with serial := s.ring.serial + 1 } }
  assignDigest (subEntry n) d.opcode (setEntry (subEntry n) y (setCell n { cell s1 n with subjob := some (subEntry n), subResult := none } s1))

/-- SUBMIT (R499, R500). -/
def svcSubmit (n : Nat) (s : State) : State :=
  match (cell s n).call.bind (entry? s) with
  | none => s
  | some x =>
    if (cell s n).subjob.isSome then svcReturn (statusCode .quota) s
    else
      let b := subDesc s n (s.tsuow.core.reg 1).toNat
      let d := nativeDesc b 0
      match subFails s x b d with
      | some st => svcReturn (statusCode st) s
      | none => svcReturn 0 (startSub n x d s)

/-- SVC_SUBMIT. -/
def execSvcSubmit (s : State) : Host.Outcome State Fault Refusal := .next (svcRow svcSubmit s)

/-- g1, g2 and g3 with a sub-job's STATUS, DETAIL and OUT_WRITTEN. -/
def Core.subAnswer (c : Core) (r : Nat × Nat × Nat) : Core :=
  ((c.setReg 1 (BitVec.ofNat 32 r.1)).setReg 2 (BitVec.ofNat 32 r.2.1)).setReg 3 (BitVec.ofNat 32 r.2.2)

/-- WAIT (R499, R501): the sub-job's result, or the cell gives up the core until it has ended. -/
def svcWait (n : Nat) (s : State) : State :=
  let c := cell s n
  match c.subResult with
  | some r => setCore (s.tsuow.core.subAnswer r).eret (setCell n { c with subResult := none } s)
  | none =>
    if c.subjob.isSome then nextCell (switchOut n true s)
    else svcReturn (statusCode .quota) s

/-- SVC_WAIT. -/
def execSvcWait (s : State) : Host.Outcome State Fault Refusal := .next (svcRow svcWait s)

/-- SVC_YIELD: the cell's quantum ends (R499, R501). -/
def execSvcYield (s : State) : Host.Outcome State Fault Refusal := .next (svcRow (fun n t => nextCell (switchOut n false t)) s)

/-- SUBJOB_COMPLETE (R500): the output is in the call area; a cell that waits resumes with the result. -/
def execSubjobComplete (n : Nat) (s : State) : Host.Outcome State Fault Refusal :=
  .next (
    let c := cell s n
    match c.subjob, c.call.bind (entry? s) with
    | some e, some x =>
      match entry? s e with
      | none => s
      | some y =>
        if y.phase ≠ .ended ∨ !(supervisorUp s) then s
        else
          let s := wakeCore s
          let r := (statusCode y.status, y.detail, y.output.length)
          let s1 := y.late.foldl (fun t o => bump o t) (areaWrite x.pages y.desc.outAddr y.output (dropEntry e s))
          if c.waiting then
            let s2 := setCell n { c with subjob := none, subResult := none, waiting := false, saved := c.saved.map (fun k => k.subAnswer r) } s1
            nextCell { s2 with tsuow := { s2.tsuow with readyQ := s2.tsuow.readyQ ++ [n] } }
          else setCell n { c with subjob := none, subResult := some r } s1
    | _, _ => s)

/-- SVC_QUANTUM_EXPIRY (R501): the cell that holds the core goes behind the others that are ready. -/
def execSvcQuantumExpiry (s : State) : Host.Outcome State Fault Refusal :=
  .next (match s.tsuow.current with
    | none => s
    | some n =>
      if supervisorUp s then
        let s1 := advanceTo (cell s n).quantumEnd s
        let c := s1.tsuow.core
        nextCell (switchOut n false (setCore (if modeUM c then c.repeatEnd else c) s1))
      else s)

end Sys2Proof.Machine
end

