-- ==== Sys2Proof/Machine/Stream.lean ====
section
/-!
DEFINITION. Stream ports and the link cipher (chapter 11): ports, circuits, checks on arrival, MACsec and block mode, pipelines,
flow control.
-/
namespace Sys2Proof.Machine

/-! ### Ports (R393, R394) -/

/-- The lanes a port uses. -/
def laneMask (s : State) (p : Nat) : BitVec 8 := if objVal s (at_ Obj.SP_LANES p) = 4 then 0x0F else 0xFF

/-- SP_ENABLE 1: training starts on a port that is DOWN. -/
def portOn (p : Nat) (s : State) : State :=
  let s1 := setObj (at_ Obj.SP_ENABLE p) 1 s
  let x := port s1 p
  if x.st = .down then setPort p { x with st := .training } s1 else s1

/-- What leaves with UP (R394): packets in process and packets that wait, without output or STATUS; the framer's calendar. -/
def portDrops (p : Nat) (s : State) : State :=
  let f := fun (c : Nat) (x : Circuit) => if portOfCircuit c = p then { x with queue := [] } else x
  let s1 := { s with sp := { s.sp with circuits := mmap f s.sp.circuits } }
  let s2 := ((portCircuits s1 p).map (·.1)).foldl (fun t c => settleSlots c t) s1
  setPort p { port s2 p with outQ := [], xoffIn := [], stalled := [], xoffOut := 0 } s2

/-- SP_ENABLE 0: the port is DOWN. -/
def portOff (p : Nat) (s : State) : State :=
  let s1 := portDrops p (setObj (at_ Obj.SP_ENABLE p) 0 s)
  setPort p { port s1 p with st := .down, locked := 0, aligned := 0 } s1

/-- A write of SP_ENABLE. -/
def portRule (act : State → State) : WriteRule :=
  { lock := false, held := false, busy := false, bad := false, critical := false, act := act }

/-- SP_ENABLE_SET (R393). -/
def execSpEnableSet (c : Caller) (p : Nat) (s : State) : Host.Outcome State Fault Refusal :=
  .next (if p < 2 then writeAccess c (at_ Obj.SP_ENABLE p) [1] (portRule (portOn p)) s else s)

/-- SP_DISABLE (R394). -/
def execSpDisable (c : Caller) (p : Nat) (s : State) : Host.Outcome State Fault Refusal :=
  .next (if p < 2 then writeAccess c (at_ Obj.SP_ENABLE p) [0] (portRule (portOff p)) s else s)

/-- PORT_UP (R393): training and alignment complete. -/
def execPortUp (p : Nat) (s : State) : Host.Outcome State Fault Refusal :=
  .next (
    let x := port s p
    if p < 2 ∧ (x.st = .training ∨ x.st = .aligning) then
      setPort p { x with st := .up, locked := laneMask s p, aligned := laneMask s p } s
    else s)

/-- PORT_ALIGN_LOSS (R394): the lanes `unlocked` have lost lock; none where only alignment is lost. -/
def execPortAlignLoss (p : Nat) (unlocked : BitVec 8) (s : State) : Host.Outcome State Fault Refusal :=
  .next (if p < 2 ∧ (port s p).st = .up then
      let s1 := portDrops p (bump (at_ Obj.SP_ALIGN_LOSS p) s)
      let x := port s1 p
      setPort p { x with st := if unlocked = 0 then .aligning else .training, locked := x.locked &&& ~~~unlocked, aligned := 0 } s1
    else s)

/-! ### Circuits (R408–R411) -/

/-- The counters of a circuit that start at 0 at every binding change (R411, R412, R456). -/
def circuitCounters (c : Nat) : List ObjId :=
  (([0x15, 0x16] ++ (List.range 16).map (· + 0x20) ++ (List.range 8).map (· + 0x58)).filter (fun i => decide (i ≠ 0x5F))).map
    (fun i => (0x3000 + c) * 256 + i)

/-- A circuit's counters at 0. -/
def clearCounters (c : Nat) (s : State) : State := (circuitCounters c).foldl (fun t o => setObj o 0 t) s

/-- Bind a circuit (R408). -/
def bindCircuit (c t : Nat) (s : State) : State :=
  let s1 := bump (at_ Obj.TENANT_CIRCUITS t) (setObj (at_ Obj.SP_C_TENANT c) t (clearCounters c s))
  setGraft c { Graft.reset with periodDue := s1.now + ms (cVal s1 c Obj.GR_C_PERIOD) } s1

/-- A circuit may be bound to tenant `t` (R408): ACTIVE or FENCED, the circuit unbound. -/
def bindOk (s : State) (c t : Nat) : Bool :=
  decide (t < 4096) && decide (cVal s c Obj.SP_C_TENANT = 0xFFFF) &&
    decide (objVal s (at_ Obj.TENANT_STATE t) = 1 ∨ objVal s (at_ Obj.TENANT_STATE t) = 2)

/-- The write of a tenant number to SP_C_TENANT (R408). -/
def bindRule (c t : Nat) (s : State) : WriteRule :=
  { lock := false, held := false, busy := false, critical := false, bad := !(bindOk s c t), act := bindCircuit c t }

/-- SP_C_BIND (R408). -/
def execSpCBind (by_ : Caller) (c t : Nat) (s : State) : Host.Outcome State Fault Refusal :=
  .next (if c < 8192 ∧ t < 0xFFFF then
      writeAccess by_ (at_ Obj.SP_C_TENANT c) (leBytes 2 t) (bindRule c t s) s
    else s)

/-- Erase every key of a circuit and abandon its exchange (R409–R411, R450). -/
def zeroiseCircuit (c : Nat) (s : State) : State := eraseKeys c (abandonGraft c s)

/-- Unbind a circuit (R409): packets past the sequence point complete, keys are erased, the counters return to their initial
values. -/
def unbindCircuit (c : Nat) (s : State) : State :=
  let t := cVal s c Obj.SP_C_TENANT
  if t = 0xFFFF then s
  else
    let s1 := clearCounters c (setObj (at_ Obj.SP_C_TENANT c) 0xFFFF (zeroiseCircuit c s))
    let n := objVal s1 (at_ Obj.TENANT_CIRCUITS t)
    setGraft c Graft.reset (setObj (at_ Obj.TENANT_CIRCUITS t) (n - 1) s1)

/-- SP_C_UNBIND (R409). -/
def execSpCUnbind (by_ : Caller) (c : Nat) (s : State) : Host.Outcome State Fault Refusal :=
  .next (if c < 8192 then writeAccess by_ (at_ Obj.SP_C_TENANT c) (leBytes 2 0xFFFF) (portRule (unbindCircuit c)) s else s)

/-- The transform objects of R410. -/
def transformSub (sub : Nat) : Bool := decide (sub ∈ [3, 4, 5, 7, 8, 9, 10, 11, 12, 13])

/-- The rule of a transform object: BUSY while the circuit is enabled; a change erases every key (R410). -/
def transformRule (c sub : Nat) (data : Bytes) (s : State) : WriteRule :=
  let id := (0x3000 + c) * 256 + sub
  let r := plainRule id data
  { r with
    busy := decide (cVal s c Obj.SP_C_ENABLE = 1),
    bad := decide (id = at_ Obj.SP_C_BLOCK_LEN c ∧ leNat data % 16 ≠ 0),
    act := fun t => if objBytes t id = data then r.act t else r.act (zeroiseCircuit c t) }

/-- SP_C_CONFIG_WRITE (R410). -/
def execSpCConfigWrite (by_ : Caller) (c sub : Nat) (data : Bytes) (s : State) : Host.Outcome State Fault Refusal :=
  .next (if c < 8192 ∧ transformSub sub then writeAccess by_ ((0x3000 + c) * 256 + sub) data (transformRule c sub data s) s else s)

/-- SP_C_ZEROISE (R411, R450). -/
def execSpCZeroise (by_ : Caller) (c : Nat) (data : Bytes) (s : State) : Host.Outcome State Fault Refusal :=
  .next (if c < 8192 then writeAccess by_ (at_ Obj.SP_C_ZEROISE c) data (portRule (zeroiseCircuit c)) s else s)

/-! ### Arrival (R398, R406) -/

/-- Fields of a channel header (R395). -/
def pktOp (b : Bytes) : Nat := byteAt b 0
def pktCircuit (b : Bytes) : Nat := field b 1 2 % 8192
def pktEcho (b : Bytes) : Bool := bit (field b 1 2) 13
def pktLen (b : Bytes) : Nat := field b 3 2
def pktTag (b : Bytes) : Nat := field b 5 3

/-- Check 1 of R398. -/
def pktWhole (ch : Nat) (b : Bytes) : Bool := decide (ch < 64 ∧ 8 ≤ b.length)

/-- Check 2 of R398. -/
def pktHeaderOk (b : Bytes) : Bool := decide (pktOp b = 1 ∨ pktOp b = 2 ∨ pktOp b = 4) && decide (field b 1 2 < 16384)

/-- ARRIVING_PACKET_DROP (R398, R406): the buffer, then checks 1 and 2; `error` is a CRC24 error or an error flag at EOP. A packet
under 8 bytes is a runt whatever else is wrong with it (R430). -/
def execArrivingPacketDrop (p ch : Nat) (b : Bytes) (error : Bool) (s : State) : Host.Outcome State Fault Refusal :=
  .next (if 2 ≤ p ∨ (port s p).st ≠ .up then s
    else if 65536 < portBytes s p + b.length then bump (at_ Obj.SP_RX_OVERRUN p) s
    else if b.length < 8 then bump (at_ Obj.SP_RUNT p) (bump (at_ Obj.SP_RX_PKTS p) s)
    else if error || !(pktWhole ch b) then bump (at_ Obj.SP_RX_ERR p) (bump (at_ Obj.SP_RX_PKTS p) s)
    else if pktHeaderOk b then s
    else
      let s1 := bump (at_ Obj.SP_BAD_HDR p) (bump (at_ Obj.SP_RX_PKTS p) s)
      if pktOp b = 3 ∨ pktOp b = 5 then s1
      else sendStatus p ch (pktCircuit b) (pktOp b) (pktTag b) 0x0C (field b 0 3) s1)

/-- The payload length lies within the transform's limits (R414, R418). -/
def sizeOk (s : State) (c op n : Nat) : Bool :=
  if op = 4 then true
  else if cVal s c Obj.SP_C_TRANSFORM = 0 then (if op = 1 then decide (60 ≤ n ∧ n ≤ 9596) else decide (36 ≤ n ∧ n ≤ 9628))
  else decide (n = cVal s c Obj.SP_C_BLOCK_LEN + if op = 1 then 0 else 32)

/-- Checks 3 to 7 of R398: STATUS code, DETAIL and counter of the first that fails. -/
def linkCheck (s : State) (p : Nat) (b : Bytes) : Option (Nat × Nat × ObjId) :=
  let c := pktCircuit b
  let n := b.length - 8
  if portOfCircuit c ≠ p then some (0x0D, c, at_ Obj.SP_BAD_CIRCUIT p)
  else if pktLen b ≠ n then some (0x01, n, at_ Obj.SP_C_DROP_LEN c)
  else if cVal s c Obj.SP_C_TENANT = 0xFFFF ∨ cVal s c Obj.SP_C_ENABLE ≠ 1 then some (0x02, 0, at_ Obj.SP_C_DROP_UNBOUND c)
  else if halted s then some (0x0A, 0, at_ Obj.SP_C_DROP_QUIESCED c)
  else if !(sizeOk s c (pktOp b) n) then some (0x03, n, at_ Obj.SP_C_DROP_SIZE c)
  else none

/-- A packet of OP `op` arrives on an UP port, whole and with a good header: the buffer, checks 3 to 7, the stall discard, and what
follows for its circuit. -/
def arrivePkt (op p ch : Nat) (b : Bytes) (accept : Nat → State → State) (s : State) : State :=
  if 2 ≤ p ∨ (port s p).st ≠ .up ∨ !(pktWhole ch b) ∨ !(pktHeaderOk b) ∨ pktOp b ≠ op then s
  else if 65536 < portBytes s p + b.length then bump (at_ Obj.SP_RX_OVERRUN p) s
  else
    let s1 := bump (at_ Obj.SP_RX_PKTS p) s
    match linkCheck s p b with
    | some (code, detail, ctr) => sendStatus p ch (pktCircuit b) op (pktTag b) code detail (bump ctr s1)
    | none => if ch ∈ (port s1 p).stalled then stallDrop p (pktCircuit b) s1 else accept (pktCircuit b) s1

/-! ### Pipelines (R400–R402) -/

/-- The pipelines of a port that are not fenced. -/
def openPipes (s : State) (p : Nat) : List Nat := ((List.range 4).map (· + 4 * p)).filter (fun n => !(pipe s n).fenced)

/-- Packets in process on a pipeline. -/
def pipeLoad (s : State) (n : Nat) : Nat :=
  (s.sp.circuits.map (fun q => (q.2.queue.filter (fun x => decide (x.pipe = n) && !x.done)).length)).sum

/-- The pipeline that takes the next packet of a port: one not being re-initialised, with fewest packets in process. -/
def pickPipe (s : State) (p : Nat) : Option Nat :=
  let l := openPipes s p
  match leastBy (pipeLoad s) (l.filter (fun n => (pipe s n).initAt.isNone)) with
  | some n => some n
  | none => l.head?

/-- What the sequence point makes of a packet: the slot fixed, the number, STATUS code and DETAIL, output payload. -/
structure SeqOut where
  slot : Option Nat
  number : Nat
  code : Nat
  detail : Nat
  out : Bytes
deriving DecidableEq, Repr

/-- A failure before the tag check. -/
def seqFail (code detail : Nat) : SeqOut := { slot := none, number := 0, code := code, detail := detail, out := [] }

/-- A packet passes the sequence point (R400): it joins its circuit's order on a pipeline; with every pipeline of the port fenced it
is dropped with STATUS FAULT (R636). -/
def seqPkt (c ch : Nat) (b : Bytes) (f : State → SeqOut × State) (s : State) : State :=
  let p := portOfCircuit c
  match pickPipe s p with
  | none => sendStatus p ch c (pktOp b) (pktTag b) 0x0B 0 (bump (at_ Obj.SP_C_DROP_FAULT c) s)
  | some n =>
    let r := f s
    let t := r.2
    let q : InFlightPkt :=
      { id := t.sp.pktId, pipe := n, op := pktOp b, cls := ch, tag := pktTag b, size := b.length, inLen := b.length - 8,
        slot := r.1.slot, number := r.1.number, code := r.1.code, detail := r.1.detail, out := r.1.out, echo := pktEcho b,
        done := false }
    let t1 := setCircuit c { circuit t c with queue := (circuit t c).queue ++ [q] } { t with sp := { t.sp with pktId := t.sp.pktId + 1 } }
    updateFlow p t1

/-! ### Transforms (R413–R420) -/

/-- The circuit's suite has 64-bit packet numbers. -/
def isXpn (s : State) (c : Nat) : Bool := decide (2 ≤ cVal s c Obj.SP_C_SUITE)

/-- The GCM nonce of a MACsec packet number (IEEE 802.1AE-2018): SCI and PN, or salt exclusive-or SSCI and PN. -/
def macsecIv (s : State) (c : Nat) (salt sci : Bytes) (ssci : ObjId) (pn : Nat) : Bytes :=
  if isXpn s c then xorBytes salt (beBytes 4 (cVal s c ssci) ++ beBytes 8 pn) else sci ++ beBytes 4 pn

/-- How much of `n` bytes of secure data stays clear (R415). -/
def clearLen (s : State) (c n : Nat) : Nat := min (cVal s c Obj.SP_C_CONF_OFFSET) n

/-- PROTECT in MACsec (R415). -/
def macsecProtect (s : State) (c : Nat) (k : LinkKey) (key frame : Bytes) : Bytes :=
  let sci := objBytes s (at_ Obj.SP_C_SCI_TX c)
  let incl := decide (cVal s c Obj.SP_C_SCI_INCL = 1)
  let sec := frame.drop 12
  let off := clearLen s c sec.length
  let tag : Bytes := [0x88, 0xE5] ++ leBytes 1 (b2n incl * 32 + 12 + k.an) ++ leBytes 1 (if sec.length < 48 then sec.length else 0) ++
    beBytes 4 k.next ++ (if incl then sci else [])
  let iv := macsecIv s c k.salt sci Obj.SP_C_SSCI_TX k.next
  let head := frame.take 12 ++ tag ++ sec.take off
  let ct := gcmXor key iv (sec.drop off)
  head ++ ct ++ gcmTag key iv head ct

/-- The header of block mode (R418). -/
def blockHeader (s : State) (c phase seq : Nat) : Bytes :=
  [0x01] ++ leBytes 1 phase ++ beBytes 2 (cVal s c Obj.SP_C_BLOCK_LEN / 16) ++ beBytes 4 (cVal s c Obj.SP_C_CHANNEL_ID) ++ beBytes 8 seq

/-- The IV of block mode (R419). -/
def blockIv (s : State) (c seq : Nat) : Bytes := beBytes 4 (cVal s c Obj.SP_C_CHANNEL_ID) ++ beBytes 8 seq

/-- PROTECT in block mode (R418, R419). -/
def blockProtect (s : State) (c : Nat) (k : LinkKey) (key block : Bytes) : Bytes :=
  let h := blockHeader s c k.an k.next
  let iv := blockIv s c k.next
  let ct := gcmXor key iv block
  h ++ ct ++ gcmTag key iv h ct

/-- The next packet number at which the exhaustion trigger is raised (R427). -/
def exhaustAt (s : State) (c : Nat) : Nat := if maxNumber s c = 2 ^ 32 - 1 then 0xC0000000 else 0xC000000000000000

/-- A frame, octet or exhaustion trigger of R448 holds for a TX key. -/
def keyTriggers (s : State) (c : Nat) (k : LinkKey) : Bool :=
  let f := cVal s c Obj.GR_C_MAX_FRAMES
  let o := cVal s c Obj.GR_C_MAX_OCTETS
  decide (f ≠ 0 ∧ f ≤ k.frames) || decide (o ≠ 0 ∧ o ≤ k.octets) || decide (exhaustAt s c ≤ k.next)

/-- PROTECT at the sequence point: check 8, the packet number, the output (R398, R400, R415, R418, R427, R428). -/
def protectSeq (c : Nat) (payload : Bytes) (s0 : State) : SeqOut × State :=
  let s := match (circuit s0 c).txCur with
    | some k => if txUsable s0 c k || (circuit s0 c).blocked then s0 else txUnusable c s0
    | none => s0
  match (circuit s c).txCur with
  | none => (seqFail 4 0, bump (at_ Obj.SP_C_DROP_NOKEY c) s)
  | some k =>
    if !(txUsable s c k) || (circuit s c).blocked then (seqFail 5 0, bump (at_ Obj.SP_C_DROP_BLOCKED c) s)
    else
      let key := slotData s k.slot
      let out := if cVal s c Obj.SP_C_TRANSFORM = 0 then macsecProtect s c k key payload else blockProtect s c k key payload
      let k1 := { k with next := k.next + 1, frames := k.frames + 1, octets := k.octets + payload.length }
      let s1 := setCircuit c { circuit s c with txCur := some k1 } s
      let s2 := if keyTriggers s1 c k1 && !(keyTriggers s c k) then trigger c false s1 else s1
      let s3 := if txUsable s2 c k1 then s2 else txUnusable c s2
      ({ slot := some k.slot, number := k.next, code := 0, detail := 0, out := out }, s3)

/-- PROTECT (R415). -/
def execProtect (p ch : Nat) (b : Bytes) (s : State) : Host.Outcome State Fault Refusal :=
  .next (arrivePkt 1 p ch b (fun c t => seqPkt c ch b (protectSeq c (b.drop 8)) t) s)

/-- The lowest acceptable number of an RX key (R417). -/
def lowest (s : State) (c : Nat) (k : LinkKey) : Nat := max 1 (k.next - cVal s c Obj.SP_C_REPLAY_WIN)

/-- The RX key that an AN or phase names: the current, next or retired key (R416, R420); a retired key until its hold ends. -/
def rxKey (s : State) (c an : Nat) : Option LinkKey :=
  let x := circuit s c
  let named := fun (k : LinkKey) => decide (k.an = an)
  firstSome3 (x.rxCur.filter named) (x.rxNext.filter named) (x.rxRet.filter (fun k => named k && decide (s.now < x.retireAt)))
where
  /-- The first key present. -/
  firstSome3 (a b d : Option LinkKey) : Option LinkKey :=
    match a, b with
    | some k, _ => some k
    | none, some k => some k
    | none, none => d

/-- XPN recovery of a packet number's high bits (IEEE 802.1AE-2018 10.6.2). -/
def recoverPn (low pn : Nat) : Nat :=
  low / 2 ^ 32 * 2 ^ 32 + pn + (if low % 2 ^ 32 ≥ 2 ^ 31 ∧ pn < 2 ^ 31 then 2 ^ 32 else 0)

/-- A check of VALIDATE fails: its STATUS and its counter (R398, R416, R420). -/
def validateFail (c code detail : Nat) (ctr : ObjId) (s : State) : SeqOut × State := (seqFail code detail, bump (at_ ctr c) s)

/-- VALIDATE under a key, from check 4 on: usable, replay, tag. -/
def underKey (c : Nat) (k : LinkKey) (pn : Nat) (tagOk : Bool) (out : Bytes) (s : State) : SeqOut × State :=
  if !(rxUsable s k) then validateFail c 5 0 Obj.SP_C_DROP_BLOCKED s
  else if pn < lowest s c k then validateFail c 8 (pn % 2 ^ 32) Obj.SP_C_DROP_LATE s
  else if !tagOk then ({ slot := some k.slot, number := pn, code := 9, detail := pn % 2 ^ 32, out := [] }, s)
  else ({ slot := some k.slot, number := pn, code := 0, detail := 0, out := out }, s)

/-- The offset of the first SecTAG field that fails check 1 of R416. -/
def secTagBad (f : Bytes) : Option Nat :=
  let hl := 20 + (if bit (byteAt f 14) 5 then 8 else 0)
  let sl := byteAt f 15
  let n := f.length - hl - 16
  if slice f 12 2 ≠ [0x88, 0xE5] then some 12
  else if byteAt f 14 &&& 0xDC ≠ 0x0C then some 14
  else if f.length < hl + 16 ∨ sl ≠ (if n < 48 then n else 0) then some 15
  else if beNat (slice f 16 4) = 0 then some 16
  else none

/-- VALIDATE in MACsec (R416). -/
def macsecValidate (c : Nat) (f : Bytes) (s : State) : SeqOut × State :=
  match secTagBad f with
  | some off => validateFail c 6 off Obj.SP_C_DROP_UNTAGGED s
  | none =>
    let an := byteAt f 14 % 4
    let sc := bit (byteAt f 14) 5
    let sci := objBytes s (at_ Obj.SP_C_SCI_RX c)
    if sc && decide (slice f 20 8 ≠ sci) then validateFail c 7 an Obj.SP_C_DROP_NOSA s
    else match rxKey s c an with
      | none => validateFail c 7 an Obj.SP_C_DROP_NOSA s
      | some k =>
        let hl := 20 + (if sc then 8 else 0)
        let pn32 := beNat (slice f 16 4)
        let pn := if isXpn s c then recoverPn (lowest s c k) pn32 else pn32
        let sec := slice f hl (f.length - hl - 16)
        let off := clearLen s c sec.length
        let iv := macsecIv s c k.salt sci Obj.SP_C_SSCI_RX pn
        let key := slotData s k.slot
        let ok := decide (gcmTag key iv (f.take (hl + off)) (sec.drop off) = f.drop (f.length - 16))
        underKey c k pn ok (f.take 12 ++ sec.take off ++ gcmXor key iv (sec.drop off)) s

/-- The offset of the first block header field that fails check 1 of R420. -/
def blockBad (s : State) (c : Nat) (f : Bytes) : Option Nat :=
  if byteAt f 0 ≠ 1 then some 0
  else if 2 ≤ byteAt f 1 then some 1
  else if beNat (slice f 2 2) ≠ cVal s c Obj.SP_C_BLOCK_LEN / 16 then some 2
  else if beNat (slice f 8 8) = 0 then some 8
  else none

/-- VALIDATE in block mode (R420). -/
def blockValidate (c : Nat) (f : Bytes) (s : State) : SeqOut × State :=
  match blockBad s c f with
  | some off => validateFail c 6 off Obj.SP_C_DROP_UNTAGGED s
  | none =>
    let phase := byteAt f 1
    if beNat (slice f 4 4) ≠ cVal s c Obj.SP_C_CHANNEL_ID then validateFail c 7 phase Obj.SP_C_DROP_NOSA s
    else match rxKey s c phase with
      | none => validateFail c 7 phase Obj.SP_C_DROP_NOSA s
      | some k =>
        let seq := beNat (slice f 8 8)
        let ct := slice f 16 (f.length - 32)
        let iv := blockIv s c seq
        let key := slotData s k.slot
        underKey c k seq (decide (gcmTag key iv (f.take 16) ct = f.drop (f.length - 16))) (gcmXor key iv ct) s

/-- VALIDATE (R416, R420). -/
def execValidate (p ch : Nat) (b : Bytes) (s : State) : Host.Outcome State Fault Refusal :=
  .next (arrivePkt 2 p ch b (fun c t => seqPkt c ch b (fun u =>
    if cVal u c Obj.SP_C_TRANSFORM = 0 then macsecValidate c (b.drop 8) u else blockValidate c (b.drop 8) u) t) s)

/-! ### The end of a packet (R400, R402, R417, R425) -/

/-- A pass advances the key's replay state (R417). -/
def LinkKey.passed (k : LinkKey) (slot n : Nat) : LinkKey := if k.slot = slot then { k with next := max k.next (n + 1) } else k

/-- A VALIDATE packet has passed under slot `h`: replay state, promotion of the next key (R417, R425). -/
def validatePassed (c h n : Nat) (s : State) : State :=
  let x := circuit s c
  let s1 := setCircuit c { x with rxCur := x.rxCur.map (fun k => k.passed h n), rxNext := x.rxNext.map (fun k => k.passed h n),
                                  rxRet := x.rxRet.map (fun k => k.passed h n) } s
  if keySlot x.rxNext = [h] then promote c s1 else s1

/-- Mark a packet finished, with a change of it. -/
def finishPkt (c id : Nat) (f : InFlightPkt → InFlightPkt) (s : State) : State :=
  let x := circuit s c
  setCircuit c { x with queue := x.queue.map (fun q => if q.id = id then { f q with done := true } else q) } s

/-- The two AES copies disagree (R402): STATUS FAULT, S17, the pipeline re-initialised and its packets in process lost; the third
mismatch within 1 s fences it (R636). -/
def pipeMismatch (c : Nat) (q : InFlightPkt) (s : State) : State :=
  let p := portOfCircuit c
  let s1 := bump (at_ Obj.SP_FAULTS p) (bump (at_ Obj.SP_C_DROP_FAULT c) s)
  let s2 := finishPkt c q.id (fun x => { x with code := 0x0B, detail := 0, out := [] }) s1
  let times := (pipe s2 q.pipe).faults.filter (fun t => decide (s2.now < t + sec 1)) ++ [s2.now]
  let s3 := setPipe q.pipe { pipe s2 q.pipe with faults := times, initAt := some s2.now } s2
  let s4 := if 3 ≤ times.length then fencePipe q.pipe cMISMATCH s3 else losePkts (fun x => decide (x.pipe = q.pipe) && !x.done) s3
  tamperEvent 17 (.pipe q.pipe) q.pipe (drainCircuit c s4)

/-- PIPELINE_DONE (R400): packet `id` of a circuit is finished, with or without a mismatch; what may leave now leaves. -/
def execPipelineDone (c id : Nat) (mismatch : Bool) (s : State) : Host.Outcome State Fault Refusal :=
  .next (match (circuit s c).queue.find? (fun q => decide (q.id = id) && !q.done) with
    | none => s
    | some q =>
      if mismatch then pipeMismatch c q s
      else
        let s1 := match q.op, q.code, q.slot with
          | 2, 0, some h => validatePassed c h q.number s
          | 2, 9, _ => bump (at_ Obj.SP_C_DROP_AUTH c) s
          | _, _, _ => s
        drainCircuit c (finishPkt c id (fun x => x) s1))

/-- PIPELINE_REINIT_DONE (R402): within 1 µs of the mismatch. -/
def execPipelineReinitDone (n : Nat) (s : State) : Host.Outcome State Fault Refusal :=
  .next (match (pipe s n).initAt with
    | none => s
    | some t =>
      let s1 := advanceTo (t + us 1) s
      setPipe n { pipe s1 n with initAt := none } s1)

/-! ### Keys in time (R426, R428) -/

/-- RX_HOLD_EXPIRY (R426): the retired key's slot is erased. -/
def execRxHoldExpiry (c : Nat) (s : State) : Host.Outcome State Fault Refusal :=
  .next (
    let x := circuit s c
    if x.rxRet.isSome then
      settleSlots c (setCircuit c { x with rxRet := none, dying := x.dying ++ keySlot x.rxRet } (advanceTo x.retireAt s))
    else s)

/-- LINK_KEY_UNUSABLE (R428): the TX current key's hard lifetime passes. -/
def execLinkKeyUnusable (c : Nat) (s : State) : Host.Outcome State Fault Refusal :=
  .next (match (circuit s c).txCur with
    | none => s
    | some k =>
      match mget? s.kreg.slots k.slot with
      | none => s
      | some v =>
        if v.expiry = 0 ∨ (circuit s c).blocked then s
        else txUnusable c (advanceToExpiry v.expiry s))

/-! ### Flow control (R404, R407) -/

/-- Packets of a class that waited leave, in order. -/
def releaseClass (p k : Nat) (s : State) : State :=
  let x := port s p
  let out := x.outQ.filter (fun o => decide (o.cls = k))
  out.foldl (fun t o => emitPkt p o t) (setPort p { x with outQ := x.outQ.filter (fun o => !(decide (o.cls = k))) } s)

/-- FLOW_CONTROL_WORD (R404): the framer shows XOFF or XON for a class. -/
def execFlowControlWord (p k : Nat) (xoff : Bool) (s : State) : Host.Outcome State Fault Refusal :=
  .next (
    let x := port s p
    if 2 ≤ p ∨ 64 ≤ k ∨ x.st ≠ .up then s
    else if xoff then
      if (mget? x.xoffIn k).isSome then s
      else setPort p { x with xoffIn := mset x.xoffIn k s.now } s
    else if (mget? x.xoffIn k).isSome then
      releaseClass p k (setPort p { x with xoffIn := mdel x.xoffIn k, stalled := dropAll k x.stalled } s)
    else s)

/-- Discard the packets of a class that wait on a port or are in process (R407). -/
def discardClass (p k : Nat) (s : State) : State :=
  let x := port s p
  let waiting := (x.outQ.filter (fun o => decide (o.cls = k))).map (·.circuit)
  let inside := (portCircuits s p).flatMap (fun q => (q.2.queue.filter (fun y => decide (y.cls = k))).map (fun _ => q.1))
  let s1 := setPort p { x with outQ := x.outQ.filter (fun o => !(decide (o.cls = k))), stalled := k :: dropAll k x.stalled } s
  let s2 := (waiting ++ inside).foldl (fun t c => stallDrop p c t) s1
  let f := fun (c : Nat) (y : Circuit) =>
    if portOfCircuit c = p then { y with queue := y.queue.filter (fun q => !(decide (q.cls = k))) } else y
  let hit := ((portCircuits s2 p).filter (fun q => q.2.queue.any (fun y => decide (y.cls = k)))).map (·.1)
  hit.foldl (fun t c => drainCircuit c t) { s2 with sp := { s2.sp with circuits := mmap f s2.sp.circuits } }

/-- FC_STALL_EXPIRY (R407): the framer has held a class longer than SP_FC_STALL. -/
def execFcStallExpiry (p k : Nat) (s : State) : Host.Outcome State Fault Refusal :=
  .next (match mget? (port s p).xoffIn k with
    | none => s
    | some t =>
      if k ∈ (port s p).stalled then s
      else discardClass p k (advanceTo (t + us (objVal s (at_ Obj.SP_FC_STALL p))) s))

end Sys2Proof.Machine
end

