-- ==== Sys2Proof/Machine/Graft.lean ====
section
/-!
DEFINITION. The graft exchange (chapter 12): suites, messages, fragments, transcripts, the key schedule, and the exchange of each
circuit.
-/
namespace Sys2Proof.Machine

/-! ### Suites (R434) -/

/-- ML-KEM and ML-DSA set, classical share set, classical signature set, of a suite. -/
def suKem (u : Nat) : Nat := if u = 2 then 2 else 3
def suAgree (u : Nat) : Nat := if u = 2 then 2 else 4
def suSign (u : Nat) : Nat := if u = 2 then 2 else 6
/-- The suite has a classical share and a classical signature. -/
def suCl (u : Nat) : Bool := decide (u ≠ 4)
/-- The suite has a Classic McEliece encapsulation. -/
def suMce (u : Nat) : Bool := decide (u = 3)

/-- Lengths of a classical share, an ML-DSA and a classical signature. -/
def shareLen (u : Nat) : Nat := if suCl u then eccPubLen (suAgree u) else 0
def sigPqLen (u : Nat) : Nat := dsaSig (suKem u)
def sigClLen (u : Nat) : Nat := if suCl u then eccSigLen (suSign u) else 0

/-- Lengths of the public keys that a principal sends in PKS (R436, R454). -/
def pksLen (u : Nat) : Nat := dsaPk (suKem u) + if suCl u then eccPubLen (suSign u) else 0

/-- The bytes of G2 before SIG_PQ, and the message lengths of R437. -/
def g2Head (u : Nat) : Nat := 48 + kemC (suKem u) + shareLen u + if suMce u then 194 else 0
def g1Len (u : Nat) : Nat := 48 + kemEk (suKem u) + shareLen u
def g2Len (u : Nat) : Nat := g2Head u + sigPqLen u + sigClLen u
def g3Len (u : Nat) : Nat := 48 + sigPqLen u + sigClLen u

/-! ### Messages (R435, R436) -/

/-- The 16-byte message header. -/
def graftHeader (type suite ctl link xid : Nat) : Bytes :=
  leBytes 1 type ++ [0x01] ++ leBytes 1 suite ++ leBytes 1 ctl ++ leBytes 4 link ++ leBytes 8 xid

/-- Fields of a header. -/
def gmType (b : Bytes) : Nat := byteAt b 0
def gmSuite (b : Bytes) : Nat := byteAt b 2
def gmCtl (b : Bytes) : Nat := byteAt b 3
def gmLink (b : Bytes) : Nat := field b 4 4
def gmXid (b : Bytes) : Nat := field b 8 8

/-- NEXT_AN of a message (R435). -/
def gmNextAn (b : Bytes) : Nat := bits (gmCtl b) 2 1

/-- N_I or N_R. -/
def gmNonce (b : Bytes) : Bytes := slice b 16 32

/-- EK and XS_I of a G1. -/
def g1Ek (u : Nat) (b : Bytes) : Bytes := slice b 48 (kemEk (suKem u))
def g1Share (u : Nat) (b : Bytes) : Bytes := slice b (48 + kemEk (suKem u)) (shareLen u)

/-- CT, XS_R, CT_MC, SIG_PQ and SIG_CL of a G2. -/
def g2Ct (u : Nat) (b : Bytes) : Bytes := slice b 48 (kemC (suKem u))
def g2Share (u : Nat) (b : Bytes) : Bytes := slice b (48 + kemC (suKem u)) (shareLen u)
def g2CtMc (u : Nat) (b : Bytes) : Bytes := slice b (48 + kemC (suKem u) + shareLen u) 194
def g2SigPq (u : Nat) (b : Bytes) : Bytes := slice b (g2Head u) (sigPqLen u)
def g2SigCl (u : Nat) (b : Bytes) : Bytes := slice b (g2Head u + sigPqLen u) (sigClLen u)

/-- SIG_PQ, SIG_CL and CONFIRM of a G3 whose signatures begin at `off`. -/
def g3SigPq (u off : Nat) (b : Bytes) : Bytes := slice b off (sigPqLen u)
def g3SigCl (u off : Nat) (b : Bytes) : Bytes := slice b (off + sigPqLen u) (sigClLen u)
def g3Confirm (u off : Nat) (b : Bytes) : Bytes := slice b (off + sigPqLen u + sigClLen u) 32

/-- A circuit's own NEXT_AN (R422). -/
def nextAn (s : State) (c : Nat) : Nat :=
  match (circuit s c).txCur with
  | none => 0
  | some k => if cVal s c Obj.SP_C_TRANSFORM = 0 then (k.an + 1) % 4 else 1 - k.an

/-! ### Transcripts and derivation (R442) -/

/-- SHA3-512. -/
def sha3_512 (b : Bytes) : Bytes := primOut (.hash 0x06) [b] 64

/-- TH2 over G1 and the bytes of G2 before SIG_PQ; TH3 over G1, G2 and the bytes of G3 before SIG_PQ. -/
def th2 (u : Nat) (g1 g2 : Bytes) : Bytes := sha3_512 (g1 ++ g2.take (g2Head u))
def th3 (g1 g2 g3 : Bytes) : Bytes := sha3_512 (g1 ++ g2 ++ g3)

/-- The label of a derivation. -/
def graftLabel (purpose suite form anIr anRi len link xid : Nat) : Bytes :=
  [0x5A, 0x4B, 0x47, 0x4C, 0x01] ++ leBytes 1 purpose ++ leBytes 1 suite ++ leBytes 1 form ++ leBytes 1 anIr ++ leBytes 1 anRi ++
    leBytes 2 len ++ leBytes 4 link ++ leBytes 8 xid

/-- A derivation: KMAC256 under IKM over TH3 and the label. -/
def derive (ikm th label : Bytes) (len : Nat) : Bytes :=
  kmacOf 256 (kmacState 256 ikm (ascii "ZKGRAFT")) (th ++ label) (8 * len) len

/-- CONFIRM. -/
def confirmOf (ikm th : Bytes) (suite link xid : Nat) : Bytes := derive ikm th (graftLabel 3 suite 0xFF 0 0 32 link xid) 32

/-- FORM of a circuit's keys, their length and that of their salts (R421, R442). -/
def linkForm (s : State) (c : Nat) : Nat := if cVal s c Obj.SP_C_TRANSFORM = 0 then cVal s c Obj.SP_C_SUITE else 4
def linkKeyLen (f : Nat) : Nat := if f = 0 ∨ f = 2 then 16 else 32
def linkSaltLen (f : Nat) : Nat := if f = 2 ∨ f = 3 then 12 else 0

/-! ### Fragments (R438) -/

/-- The fragments of a message: runs of `run` bytes, each with its header. -/
def fragments (id run : Nat) (b : Bytes) : List Bytes :=
  let n := ceilDiv b.length (max run 1)
  (List.range n).map (fun i => leBytes 4 id ++ leBytes 1 i ++ leBytes 1 n ++ leBytes 2 (i * run) ++ (b.drop (i * run)).take run)

/-- Join the runs from byte `at` on, each beginning where the last ended; none on a gap or an overlap (R440). -/
def tileRuns : Nat → Nat → List (Nat × Bytes) → Option Bytes
  | 0, _, l => if l.isEmpty then some [] else none
  | fuel + 1, p, l =>
    if l.isEmpty then some []
    else match l.find? (fun r => decide (r.1 = p)) with
      | none => none
      | some r => (tileRuns fuel (p + r.2.length) (l.erase r)).map (fun t => r.2 ++ t)

/-! ### Failure (R449) -/

/-- An exchange fails with a cause. -/
def failGraft (c cause : Nat) (s : State) : State :=
  let s1 := bump Obj.GR_FAILURES (bump (at_ Obj.GR_C_FAILS c) (setObj (at_ Obj.GR_C_LAST_FAIL c) cause s))
  let s2 := abandonGraft c s1
  setGraft c { graftOf s2 c with pauseUntil := some (s2.now + ms (objVal s2 Obj.GR_RETRY_PAUSE)) } s2

/-- The cause that a step's status ends an exchange with; none where it does not end it. -/
def stepCause (r : GraftRes) : Option Nat :=
  match r.status with
  | .ok => none
  | .verifyFail => none
  | .inputInvalid => if r.step = 3 ∨ r.step = 4 then none else some 5
  | .resultRejected => some 5
  | .keyEmpty => some 6
  | .keyPolicy => some 6
  | .entropyFail => some 7
  | .quota => some 9
  | _ => some 8

/-! ### Steps as internal jobs (R20, R157) -/

/-- One step: opcode, set, key, AUX, output length, step number, input. -/
structure Step_ where
  opcode : Nat
  pset : Nat
  key : Nat
  aux : Nat
  outLen : Nat
  step : Nat
  input : Bytes
deriving DecidableEq, Repr

/-- Submit a step; it ends UNSUPPORTED at once where every slice of its class is fenced (R598). -/
def addStep (c : Nat) (x : Step_) (s : State) : State :=
  if unitMissing s x.opcode then
    setGraft c { graftOf s c with results := (graftOf s c).results ++ [{ step := x.step, status := .unsupported, detail := 0, out := [] }] } s
  else
    let d := stepDesc x.opcode x.pset x.key x.aux x.outLen x.step x.input.length
    { s with ring := { s.ring with internalWait := s.ring.internalWait ++ [(.graft c, d, x.input)] } }

/-- Begin a stage with its steps. -/
def beginStage (c : Nat) (g : GraftStage) (l : List Step_) (s : State) : State :=
  let s1 := setGraft c { graftOf s c with stage := g, jobs := l.length, results := [] } s
  admitInternal (l.foldl (fun t x => addStep c x t) s1)

/-- The steps of KEYGEN. -/
def keygenPq (u : Nat) : Step_ :=
  { opcode := 0x0101, pset := suKem u, key := 0, aux := 0, outLen := kemEk (suKem u), step := 1, input := [] }
def keygenCl (u : Nat) : List Step_ :=
  if suCl u then [{ opcode := 0x0601, pset := suAgree u, key := 0, aux := uAGREE * 256, outLen := shareLen u, step := 2, input := [] }] else []

/-- The steps that sign a transcript hash with the circuit's own keys, under a context (R442). -/
def signSteps (u pq cl : Nat) (ctx th : Bytes) : List Step_ :=
  { opcode := 0x0204, pset := suKem u, key := pq, aux := ctx.length * 256, outLen := sigPqLen u, step := 8, input := ctx ++ th } ::
    (if suCl u then [{ opcode := 0x0604, pset := suSign u, key := cl, aux := 0, outLen := sigClLen u, step := 9, input := th }] else [])

/-- The steps that verify the peer's signatures of a transcript hash. -/
def verifySteps (u pq cl : Nat) (ctx th sigPq sigCl : Bytes) : List Step_ :=
  { opcode := 0x0205, pset := suKem u, key := pq, aux := ctx.length * 256 + 8, outLen := 0, step := 3, input := sigPq ++ ctx ++ th } ::
    (if suCl u then [{ opcode := 0x0605, pset := suSign u, key := cl, aux := 8, outLen := 0, step := 4, input := sigCl ++ th }] else [])

/-- AGREE of this side's share with the peer's. -/
def agreeStep (u key : Nat) (share : Bytes) : List Step_ :=
  if suCl u then [{ opcode := 0x0606, pset := suAgree u, key := key, aux := 0, outLen := 0, step := 6, input := share }] else []

/-- The signing contexts of R442. -/
def ctxR : Bytes := ascii "zk-graft-r"
def ctxI : Bytes := ascii "zk-graft-i"

/-! ### Buffer pages (R443) -/

/-- `n` buffer pages are free. -/
def bufRoom (s : State) (n : Nat) : Bool := decide (grBufUsed s + n ≤ objVal s Obj.GR_BUF_PAGES ∧ n ≤ pagesFree s)

/-- Pages of a message body. -/
def bodyPages (n : Nat) : Nat := ceilDiv n 1024

/-! ### Sending (R438, R439) -/

/-- Send a message under a new MSG_ID, after the fragments that still wait; `pages` are held until its last fragment is out. -/
def sendMsg (c : Nat) (b : Bytes) (pages : Nat) (s : State) : State :=
  let d := draw 42 4 s
  let g := graftOf d.2 c
  setGraft c { g with
    msgId := leNat d.1, outFrags := g.outFrags ++ fragments (leNat d.1) (objVal d.2 Obj.GR_FRAG_SIZE - 8) b, txLen := g.txLen + pages } d.2

/-- Circuit settings. -/
def grSuite (s : State) (c : Nat) : Nat := cVal s c Obj.GR_C_SUITE
def grLink (s : State) (c : Nat) : Nat := cVal s c Obj.GR_C_LINK_ID

/-- The CTL of a circuit-mode message with this NEXT_AN. -/
def ctlOf (an : Nat) : Nat := 2 * an

/-! ### Starting (R447–R449) -/

/-- A graft timer comes due: the core does its work (R679). -/
def graftTimer (t : Time) (s : State) : State := wakeCore (advanceTo t s)

/-- The circuit wants an exchange: a held trigger, or a bound and enabled circuit without a TX current key (R448). -/
def wantsGraft (s : State) (c : Nat) : Bool :=
  (graftOf s c).pending || (decide (cVal s c Obj.SP_C_ENABLE = 1) && (circuit s c).txCur.isNone)

/-- An exchange may start on the circuit, the retry pause apart. -/
def mayStart (s : State) (c : Nat) : Bool :=
  let g := graftOf s c
  let t := cVal s c Obj.SP_C_TENANT
  decide (t ≠ 0xFFFF) && graftQuiet g && decide (g.stage = .none_) && decide (objVal s Obj.GR_ENABLE = 1) &&
    decide (cVal s c Obj.GR_C_ROLE ≠ 2) && !(halted s) && !(s.rng.degraded) && decide (objVal s Obj.TMP_RELEASE_STATE ≠ 1) && supervisorUp s &&
    decide (objVal s (at_ Obj.TENANT_STATE t) ≠ 3)

/-- The retry pause does not hold the start back (R449). -/
def pauseOver (s : State) (c : Nat) : Bool :=
  match (graftOf s c).pauseUntil with
  | none => true
  | some t => decide (t ≤ s.now) || (graftOf s c).forced

/-- Start an exchange as initiator: XID and N_I drawn, the KEYGEN steps running; without room for G1 the trigger waits
(R443, R447). -/
def startGraft (c : Nat) (s : State) : State :=
  let u := grSuite s c
  if !(bufRoom s (bodyPages (g1Len u))) then setGraft c { graftOf s c with pending := true, waitBuf := true } s
  else if !(rngReady s) then failGraft c 7 (setGraft c { graftOf s c with pending := false, forced := false } s)
  else
    let d := draw 42 8 s
    let n := draw 42 32 d.2
    let g := graftOf n.2 c
    let g1 : Graft := { Graft.reset with
      st := .g1Sent, initiator := true, xid := leNat d.1, nI := n.1, periodDue := g.periodDue, periodDone := g.periodDone,
      pauseUntil := g.pauseUntil, asmId := g.asmId, asmCount := g.asmCount, asm_ := g.asm_, asmDue := g.asmDue, rx := g.rx, msgId := g.msgId, outFrags := g.outFrags, txLen := g.txLen }
    beginStage c .iKeygen (keygenPq u :: keygenCl u) (setGraft c g1 n.2)

/-- The circuit's tenant is PAUSED. -/
def tenantPaused (s : State) (c : Nat) : Bool := decide (objVal s (at_ Obj.TENANT_STATE (cVal s c Obj.SP_C_TENANT)) = 3)

/-- What holds every trigger of a quiet circuit back: the device is held at QUIESCE, cast-on found no random source, or the circuit's tenant
is PAUSED (R450, R523, R584). -/
def triggersHeld (s : State) (c : Nat) : Bool :=
  (halted s || s.rng.degraded || tenantPaused s c) && graftQuiet (graftOf s c) && decide ((graftOf s c).stage = .none_)

/-- Start the exchange that the circuit wants, if it may; a trigger that is held shows in GR_C_PENDING. -/
def tryStart (c : Nat) (s : State) : State :=
  if wantsGraft s c && mayStart s c && pauseOver s c then startGraft c (wakeCore s)
  else if wantsGraft s c && triggersHeld s c then trigger c false s
  else s

/-- GR_C_REKEY (R448). -/
def execGrCRekey (by_ : Caller) (c : Nat) (data : Bytes) (s : State) : Host.Outcome State Fault Refusal :=
  .next (if c < 8192 then writeAccess by_ (at_ Obj.GR_C_REKEY c) data (portRule (trigger c true)) s else s)

/-- GRAFT_TRIGGER_START (R447). -/
def execGraftTriggerStart (c : Nat) (s : State) : Host.Outcome State Fault Refusal := .next (tryStart c s)

/-- GRAFT_PERIOD_EXPIRY (R448): once for each TX switch or binding. -/
def execGraftPeriodExpiry (c : Nat) (s : State) : Host.Outcome State Fault Refusal :=
  .next (
    let g := graftOf s c
    if cVal s c Obj.SP_C_TENANT = 0xFFFF ∨ g.periodDone then s
    else
      let s1 := graftTimer g.periodDue s
      trigger c false (setGraft c { g with periodDone := true } s1))

/-- GRAFT_BUFFER_FREED (R443): a trigger that waited for pages starts. -/
def execGraftBufferFreed (c : Nat) (s : State) : Host.Outcome State Fault Refusal :=
  .next (if (graftOf s c).waitBuf && bufRoom s (bodyPages (g1Len (grSuite s c))) then
      tryStart c (setGraft c { graftOf s c with waitBuf := false } s)
    else s)

/-! ### Receiving (R440, R441) -/

/-- Forget the message under assembly. -/
def clearAsm (c : Nat) (s : State) : State := setGraft c { graftOf s c with asmId := 0, asmCount := 0, asm_ := [], asmDue := none } s

/-- Discard the message under assembly (R441). -/
def dropAsm (c : Nat) (s : State) : State := bump (at_ Obj.GR_C_FRAG_DROPS c) (clearAsm c s)

/-- Check 6 of R440: the message is acceptable in the circuit's state. -/
def msgAcceptable (s : State) (c type xid : Nat) : Bool :=
  let g := graftOf s c
  match type with
  | 1 => decide (cVal s c Obj.GR_C_ROLE ≠ 1) && decide (objVal s (at_ Obj.TENANT_STATE (cVal s c Obj.SP_C_TENANT)) ≠ 3) &&
      (graftQuiet g || decide (g.st = .g2Sent ∨ g.xid ≠ xid))
  | 2 => decide (g.st = .g1Sent ∧ g.xid = xid)
  | _ => decide (g.xid = xid) && !g.initiator && decide (g.st = .g2Sent ∨ g.st = .armed ∨ g.st = .switched)

/-- Checks 4 and 5 of R440. -/
def msgWellFormed (s : State) (c : Nat) (b : Bytes) : Bool :=
  let u := grSuite s c
  let n := match gmType b with
    | 1 => g1Len u
    | 2 => g2Len u
    | _ => g3Len u
  decide (16 ≤ b.length) && decide (byteAt b 1 = 1) && decide (1 ≤ gmType b ∧ gmType b ≤ 3) && decide (gmCtl b < 8) &&
    decide (gmCtl b % 2 = 0) && decide (gmSuite b = u) && decide (gmLink b = grLink s c) && decide (b.length = n)

/-- A complete message meets checks 3 to 6; an accepted one waits for the exchange. -/
def completeMsg (c : Nat) (s : State) : State :=
  let g := graftOf s c
  let s1 := clearAsm c s
  match tileRuns (g.asm_.length + 1) 0 (g.asm_.map (·.2)) with
  | none => bump (at_ Obj.GR_C_FRAG_DROPS c) s1
  | some b =>
    if msgWellFormed s c b && msgAcceptable s c (gmType b) (gmXid b) then setGraft c { graftOf s1 c with rx := some b } s1
    else bump (at_ Obj.GR_C_BAD_MSG c) s1

/-- Hold a fragment of the message under assembly.  DESIGN CHOICE: a COUNT that differs from the first fragment's discards the message, as
a run that differs does. -/
def holdFragment (c idx count off : Nat) (run : Bytes) (s : State) : State :=
  let g := graftOf s c
  if g.asmDue.isSome ∧ g.asmCount ≠ count then dropAsm c s
  else match mget? g.asm_ idx with
    | some x => if x = (off, run) then s else dropAsm c s
    | none =>
      let l := mset g.asm_ idx (off, run)
      let s1 := setGraft c { g with asm_ := l, asmCount := count, asmDue := some (g.asmDue.getD (s.now + ms (cVal s c Obj.GR_C_RETRY_TIMEOUT))) } s
      if l.length = count then completeMsg c s1 else s1

/-- A fragment arrives on circuit `c`. -/
def fragmentIn (c : Nat) (f : Bytes) (s : State) : State :=
  let id := field f 0 4
  let idx := byteAt f 4
  let count := byteAt f 5
  let off := field f 6 2
  let run := f.drop 8
  let g := graftOf s c
  let mine := decide (g.asmDue.isSome ∧ g.asmId = id)
  if f.length < 9 ∨ count ≤ idx ∨ 8192 < off + run.length then bump (at_ Obj.GR_C_FRAG_DROPS c) s
  else if !mine && !(bufRoom s 1) then bump Obj.GR_NOBUF_DROPS s
  else
    let s1 := if g.asmDue.isSome && !mine then dropAsm c s else s
    holdFragment c idx count off run (setGraft c { graftOf s1 c with asmId := id } s1)

/-- GRAFT_IN (R398, R440). -/
def execGraftIn (p ch : Nat) (b : Bytes) (s : State) : Host.Outcome State Fault Refusal :=
  .next (arrivePkt 4 p ch b (fun c t => fragmentIn c (b.drop 8) (wakeCore t)) s)

/-- FRAGMENT_ASSEMBLY_TIMEOUT (R441). -/
def execFragmentAssemblyTimeout (c : Nat) (s : State) : Host.Outcome State Fault Refusal :=
  .next (match (graftOf s c).asmDue with
    | none => s
    | some t => dropAsm c (graftTimer t s))

/-- An accepted message of a type, still acceptable, that the exchange can take now: a G2 or G3 waits for the stage in progress. -/
def takeMsg (s : State) (c type : Nat) : Option Bytes :=
  match (graftOf s c).rx with
  | none => none
  | some b =>
    if gmType b = type ∧ msgAcceptable s c type (gmXid b) ∧ supervisorUp s ∧ (type = 1 ∨ (graftOf s c).stage = .none_) then some b else none

/-- A message that waited until the state had moved on is let go (R447). -/
def dropStale (c type : Nat) (s : State) : State :=
  match (graftOf s c).rx with
  | none => s
  | some b => if gmType b = type ∧ !(msgAcceptable s c type (gmXid b)) then setGraft c { graftOf s c with rx := none } s else s

/-! ### Hashing on the digest units (R370) -/

/-- A unit's access to a graft digest record, in the record's colour (R86, R107). -/
def hashAccess (u colour : Nat) (r : CtxRec) : FabAcc := recAccess 5 u colour r 1024 1 0xFFFF 0xFFFFFFFF

/-- Unit `u` runs a job of the firmware to its end, under the next serial and after a context change (R363); a re-initialisation ends
first (R642).  DESIGN CHOICE: within the row, no other job's quantum comes between. -/
def hashTurn (u cyc : Nat) (s : State) : State :=
  let s1 := match (digUnit s u).initAt with
    | none => s
    | some t => advanceTo (t + us 500) s
  setDigUnit u { digUnit s1 u with initAt := none, last := some s1.ring.serial, quantum := objVal s1 Obj.DIG_QUANTUM }
    { s1 with now := s1.now + cyclesNs s1 (12 + cyc), ring := { s1.ring with serial := s1.ring.serial + 1 } }

/-- A job of `cyc` cycles on record `r` of the context store, on the unit that takes it (R369, R370): `done` follows; `lost` where every
unit is fenced (R598), or the record is refused it (R107). -/
def hashJob (colour : Nat) (r : CtxRec) (cyc : Nat) (lost done : State → State) (s : State) : State :=
  match leastUnit? s with
  | none => lost s
  | some u =>
    match checkRec s r (hashAccess u colour r) with
    | none => done (hashTurn u cyc s)
    | some (reason, bad) => lost (deviceRefusal (hashAccess u colour r) (.digest u) reason bad s)

/-- Cycles of a transcript hash of `len` bytes of which `held` stand absorbed: an ABSORB and a FINISH FINAL of SHA3-512 (R370, R389). -/
def hashCyc (held len : Nat) : Nat :=
  let a := algOf 0x06
  60 + a.cyc * (len / a.block - held / a.block) + (60 + a.cyc * finalBlocks a len a.result)

/-- Cycles of a KMAC256 ONESHOT that derives `len` bytes under `key` bytes from TH3 and the label (R370, R389, R442). -/
def deriveCyc (key len : Nat) : Nat :=
  let a := algOf 0x0F
  260 + a.cyc * (openBlocks a 0 7 key + 88 / a.block + finalBlocks a 88 len)

/-- Cycles of a key schedule: the derivation of PURPOSE 0x01 or 0x02, of `len` bytes, and that of PURPOSE 0x03 (R370). -/
def scheduleCyc (key len : Nat) : Nat := deriveCyc key len + deriveCyc key 32

/-- The colour of circuit `c`'s graft digest record (R370). -/
def circuitColour (s : State) (c : Nat) : Nat := 0x1000 + cVal s c Obj.SP_C_TENANT

/-- An exchange whose hashing cannot run fails as by a step that ends UNSUPPORTED or FAULT_DETECTED (R449); one that the refusal's own
consequences have abandoned stays so. -/
def hashLost (c : Nat) (s : State) : State := if graftQuiet (graftOf s c) then s else failGraft c 8 s

/-- A transcript hash or key schedule of circuit `c`'s exchange. -/
def graftHash (c cyc : Nat) (done : State → State) (s : State) : State :=
  hashJob (circuitColour s c) (.graftDigest c) cyc (hashLost c) done s

/-- Bytes that TH2 hashes; TH3 goes on from them. -/
def th2Len (u : Nat) (g1 : Bytes) : Nat := g1.length + g2Head u

/-! ### The responder (R433, R445, R447) -/

/-- Answer a G1: what this side held is discarded, the responder's first steps run. -/
def respond (c : Nat) (m : Bytes) (s : State) : State :=
  let u := grSuite s c
  let s1 := abandonGraft c s
  let g := graftOf s1 c
  let s2 := setGraft c { g with st := .g2Sent, xid := gmXid m, g1 := m, rxLen := m.length, timer := none } s1
  beginStage c .rShare
    ({ opcode := 0x0102, pset := suKem u, key := 0, aux := 0, outLen := kemC (suKem u), step := 5, input := g1Ek u m } ::
     keygenCl u ++
     (if suMce u then [{ opcode := 0x0502, pset := 7, key := cVal s c Obj.GR_C_MCE_PEER % 4096, aux := 0, outLen := 194, step := 7, input := [] }]
      else [])) s2

/-- A collision (R433): the larger N_I, as a big-endian integer, has its way. -/
def collide (c : Nat) (m : Bytes) (s : State) : State :=
  let s1 := bump Obj.GR_COLLISIONS s
  if beNat (graftOf s c).nI < beNat (gmNonce m) then respond c m s1 else s1

/-- GRAFT_G1_RECEIVED (R447). -/
def execGraftG1Received (c : Nat) (s : State) : Host.Outcome State Fault Refusal :=
  .next (match takeMsg s c 1 with
    | none => dropStale c 1 s
    | some m =>
      let s1 := setGraft c { graftOf s c with rx := none } s
      if (graftOf s c).st = .g1Sent then collide c m s1 else respond c m s1)

/-! ### The initiator (R444, R447) -/

/-- GRAFT_G2_RECEIVED (R444): its signatures are verified first. -/
def execGraftG2Received (c : Nat) (s : State) : Host.Outcome State Fault Refusal :=
  .next (match takeMsg s c 2 with
    | none => dropStale c 2 s
    | some m =>
      let u := grSuite s c
      let g := graftOf s c
      graftHash c (hashCyc 0 (th2Len u g.g1)) (fun t =>
        beginStage c .iVerify
          (verifySteps u (cVal s c Obj.GR_C_PEER_PQ) (cVal s c Obj.GR_C_PEER_CL) ctxR (th2 u g.g1 m) (g2SigPq u m) (g2SigCl u m))
          (setGraft c { g with rx := none, g2 := m, rxLen := m.length } t)) s)

/-- GRAFT_G3_RECEIVED (R445): its signatures are verified; one that repeats a completed exchange is ignored (R447). -/
def execGraftG3Received (c : Nat) (s : State) : Host.Outcome State Fault Refusal :=
  .next (match takeMsg s c 3 with
    | none => dropStale c 3 s
    | some m =>
      let u := grSuite s c
      let g := graftOf s c
      if g.st ≠ .g2Sent then setGraft c { g with rx := none } s
      else
        graftHash c (hashCyc (th2Len u g.g1) (g.g1.length + g.g2.length + 16)) (fun t =>
          beginStage c .rVerify
            (verifySteps u (cVal s c Obj.GR_C_PEER_PQ) (cVal s c Obj.GR_C_PEER_CL) ctxI (th3 g.g1 g.g2 (m.take 16))
              (g3SigPq u 16 m) (g3SigCl u 16 m))
            (setGraft c { g with rx := none, g3 := m, rxLen := m.length } t)) s)

/-! ### The key schedule (R421, R422, R442) -/

/-- The shared secrets in order: ML-KEM, classical, Classic McEliece. -/
def ikmOf (s : State) (g : Graft) : Bytes :=
  [2, 3, 4].flatMap (fun r => match mget? g.slots r with
    | some h => slotData s h
    | none => [])

/-- Put a traffic key in a slot of the tenant (R421, R442). -/
def putKey (c usage : Nat) (key : Bytes) (s : State) : Nat × State :=
  let h := nextHandle s
  let v := newSlot s (0x1000 + cVal s c Obj.SP_C_TENANT) 0x0B key.length usage 6 1 (cVal s c Obj.GR_C_HARD_LIFE) key
  (h, putSlot h v (tookHandle h s))

/-- A next key as installed. -/
def freshKey (slot an xid : Nat) (salt : Bytes) : LinkKey :=
  { slot := slot, an := an, xid := xid, next := 1, salt := salt, frames := 0, octets := 0 }

/-- Install the next TX and RX keys (R422): older next keys are erased, as is a retired key of the same AN or phase. -/
def installKeys (c xid txAn rxAn : Nat) (txKey txSalt rxKey rxSalt : Bytes) (s : State) : State :=
  let a := putKey c uLINK_TX txKey s
  let b := putKey c uLINK_RX rxKey a.2
  let x := circuit b.2 c
  let clash := decide ((x.rxRet.map (·.an)) = some rxAn)
  settleSlots c (setCircuit c { x with
    txNext := some (freshKey a.1 txAn xid txSalt), rxNext := some (freshKey b.1 rxAn xid rxSalt), armed := false,
    rxRet := if clash then none else x.rxRet,
    dying := x.dying ++ keySlot x.txNext ++ keySlot x.rxNext ++ (if clash then keySlot x.rxRet else []) } b.2)

/-- The key schedule of an exchange: keys installed, the shared-secret slots erased; without room the exchange fails (R449). -/
def keySchedule (c : Nat) (th : Bytes) (s : State) : State :=
  let g := graftOf s c
  let f := linkForm s c
  let k := linkKeyLen f
  let n := linkSaltLen f
  let len := 2 * (k + n)
  let u := grSuite s c
  let label := graftLabel 1 u f (gmNextAn g.g1) (gmNextAn g.g2) len (grLink s c) g.xid
  let out := derive (ikmOf s g) th label len
  let ir := slice out 0 k
  let irSalt := slice out k n
  let ri := slice out (k + n) k
  let riSalt := slice out (2 * k + n) n
  let s1 := freeRoles c [0, 1, 2, 3, 4] s
  if g.initiator then installKeys c g.xid (gmNextAn g.g1) (gmNextAn g.g2) ir irSalt ri riSalt s1
  else installKeys c g.xid (gmNextAn g.g2) (gmNextAn g.g1) ri riSalt ir irSalt s1

/-- Cycles of the key schedule of a circuit's exchange. -/
def circuitSchedule (s : State) (c : Nat) : Nat :=
  scheduleCyc (ikmOf s (graftOf s c)).length (2 * (linkKeyLen (linkForm s c) + linkSaltLen (linkForm s c)))

/-- The key register has room for the two next keys. -/
def keysFit (s : State) : Bool := s.kreg.slots.length + 2 ≤ 65535 && unitsUsed s + 2 ≤ 40960 && s.kreg.erasing.isNone

/-! ### The end of a stage (R444, R445, R447) -/

/-- The output of a step. -/
def stepOut (g : Graft) (step : Nat) : Bytes :=
  match g.results.find? (fun r => decide (r.step = step)) with
  | some r => r.out
  | none => []

/-- The exchange takes over the slots its steps have made. -/
def takeSlots (c : Nat) (s : State) : State :=
  let g := graftOf s c
  let f := fun (t : Tab Nat) (r : GraftRes) => match stepRole r.step, stepSlot r.step r.status r.detail with
    | some role, some h => mset t role h
    | _, _ => t
  setGraft c { g with slots := g.results.foldl f g.slots, results := g.results.map (fun r => { r with detail := 0 }) } s

/-- A verification has failed (R444, R445): the message is discarded and the exchange waits for another. -/
def badMessage (c : Nat) (s : State) : State :=
  setGraft c { graftOf s c with stage := .none_, jobs := 0, results := [], badMsg := true, rxLen := 0 } (bump (at_ Obj.GR_C_BAD_MSG c) s)

/-- A stage is over. -/
def stageOver (c : Nat) (f : Graft → Graft) (s : State) : State :=
  setGraft c (f { graftOf s c with stage := .none_, jobs := 0, results := [] }) s

/-- Some step of a verification stage has failed. -/
def verifyFailed (g : Graft) : Bool := g.results.any (fun r => decide (r.status ≠ .ok))

/-- KEYGEN is over: G1 is built and sent, the retry timer starts. -/
def afterKeygen (c : Nat) (s : State) : State :=
  let g := graftOf s c
  let u := grSuite s c
  if !(bufRoom s (bodyPages (g1Len u))) then failGraft c 9 s
  else if !(rngReady s) then failGraft c 7 s
  else
    let m := graftHeader 1 u (ctlOf (nextAn s c)) (grLink s c) g.xid ++ g.nI ++ fitBytes (kemEk (suKem u)) (stepOut g 1) ++
      fitBytes (shareLen u) (stepOut g 2)
    sendMsg c m 0 (stageOver c (fun g => { g with g1 := m, timer := some (s.now + ms (cVal s c Obj.GR_C_RETRY_TIMEOUT)) }) s)

/-- Both signatures of G2 have verified: DECAPS and AGREE run. -/
def afterVerifyG2 (c : Nat) (s : State) : State :=
  let g := graftOf s c
  let u := grSuite s c
  beginStage c .iSecrets
    ({ opcode := 0x0103, pset := suKem u, key := tget (fun _ => 0) g.slots 0, aux := 0, outLen := 0, step := 5, input := g2Ct u g.g2 } ::
     agreeStep u (tget (fun _ => 0) g.slots 1) (g2Share u g.g2) ++
     (if suMce u then [{ opcode := 0x0503, pset := 7, key := cVal s c Obj.GR_C_MCE_OWN, aux := 0, outLen := 0, step := 7, input := g2CtMc u g.g2 }]
      else [])) (setGraft c { g with timer := none } s)

/-- The initiator has its secrets: the key schedule, CONFIRMING, the signatures of G3. -/
def afterSecrets (c : Nat) (s : State) : State :=
  let g := graftOf s c
  let u := grSuite s c
  if !(keysFit s) then failGraft c 9 s
  else
    let h := graftHeader 3 u (ctlOf (gmNextAn g.g1)) (grLink s c) g.xid
    let th := th3 g.g1 g.g2 h
    let conf := confirmOf (ikmOf s g) th u (grLink s c) g.xid
    graftHash c (hashCyc (th2Len u g.g1) (g.g1.length + g.g2.length + 16)) (graftHash c (circuitSchedule s c) (fun t =>
      let s1 := keySchedule c th t
      let s2 := setGraft c { graftOf s1 c with st := .confirming, g3 := h ++ conf, rxLen := 0 } s1
      beginStage c .iSign (signSteps u (cVal s c Obj.GR_C_SIG_PQ) (cVal s c Obj.GR_C_SIG_CL) ctxI th) s2)) s

/-- G3 is signed and sent; GR_C_ARM_DELAY starts. -/
def afterSignG3 (c : Nat) (s : State) : State :=
  let g := graftOf s c
  let u := grSuite s c
  let m := g.g3.take 16 ++ fitBytes (sigPqLen u) (stepOut g 8) ++ fitBytes (sigClLen u) (stepOut g 9) ++ g.g3.drop 16
  if !(bufRoom s (bodyPages m.length)) then failGraft c 9 s
  else if !(rngReady s) then failGraft c 7 s
  else
    let t := s.now + ms (cVal s c Obj.GR_C_ARM_DELAY)
    sendMsg c m m.length (stageOver c (fun g => { g with g3 := m, timer := if g.st = .confirming then some t else g.timer }) s)

/-- The responder's signatures of TH2. -/
def signG2 (c : Nat) (s : State) : State :=
  let g := graftOf s c
  let u := grSuite s c
  graftHash c (hashCyc 0 (th2Len u g.g1)) (fun t =>
    beginStage c .rSign (signSteps u (cVal s c Obj.GR_C_SIG_PQ) (cVal s c Obj.GR_C_SIG_CL) ctxR (th2 u g.g1 g.g2))
      (setGraft c { g with rxLen := 0 } t)) s

/-- The responder has its ciphertexts and its share: G2's fields before SIG_PQ, then AGREE. -/
def afterShare (c : Nat) (s : State) : State :=
  if !(rngReady s) then failGraft c 7 s
  else
    let d := draw 42 32 s
    let g := graftOf d.2 c
    let u := grSuite s c
    let m := graftHeader 2 u (ctlOf (nextAn s c)) (grLink s c) g.xid ++ d.1 ++ fitBytes (kemC (suKem u)) (stepOut g 5) ++
      fitBytes (shareLen u) (stepOut g 2) ++ (if suMce u then fitBytes 194 (stepOut g 7) else [])
    let s1 := setGraft c { g with g2 := m } d.2
    if suCl u then beginStage c .rAgree (agreeStep u (tget (fun _ => 0) g.slots 1) (g1Share u g.g1)) s1 else signG2 c s1

/-- G2 is signed and sent; the responder's timer starts. -/
def afterSignG2 (c : Nat) (s : State) : State :=
  let g := graftOf s c
  let u := grSuite s c
  let m := g.g2 ++ fitBytes (sigPqLen u) (stepOut g 8) ++ fitBytes (sigClLen u) (stepOut g 9)
  if !(bufRoom s (bodyPages m.length)) then failGraft c 9 s
  else if !(rngReady s) then failGraft c 7 s
  else
    let t := s.now + ms ((cVal s c Obj.GR_C_RETRIES + 1) * cVal s c Obj.GR_C_RETRY_TIMEOUT)
    sendMsg c m m.length (stageOver c (fun g => { g with g2 := m, timer := some t }) s)

/-- Both signatures of G3 have verified: CONFIRM is compared, then keys are installed and armed. -/
def afterVerifyG3 (c : Nat) (s : State) : State :=
  let g := graftOf s c
  let u := grSuite s c
  let th := th3 g.g1 g.g2 (g.g3.take 16)
  graftHash c (circuitSchedule s c) (fun t =>
    if g3Confirm u 16 g.g3 ≠ confirmOf (ikmOf s g) th u (grLink s c) g.xid then badMessage c t
    else if !(keysFit t) then failGraft c 9 t
    else armGraft c (stageOver c (fun g => { g with rxLen := 0 }) (keySchedule c th t))) s

/-- A stage ends with every step done. -/
def stageEnd (c : Nat) (s : State) : State :=
  let g := graftOf s c
  match g.stage with
  | .none_ => s
  | .iKeygen => afterKeygen c s
  | .iVerify => if verifyFailed g then badMessage c s else afterVerifyG2 c s
  | .iSecrets => afterSecrets c s
  | .iSign => afterSignG3 c s
  | .rShare => afterShare c s
  | .rAgree => signG2 c s
  | .rSign => afterSignG2 c s
  | .rVerify => if verifyFailed g then badMessage c s else afterVerifyG3 c s

/-- GRAFT_STEPS_DONE (R447, R449): a step that ends the exchange ends it at once; otherwise the stage ends with its last step. -/
def execGraftStepsDone (c : Nat) (s : State) : Host.Outcome State Fault Refusal :=
  .next (
    let g := graftOf s c
    if g.stage = .none_ ∨ !(supervisorUp s) then s
    else match g.results.findSome? stepCause with
      | some cause => failGraft c cause s
      | none => if g.results.length < g.jobs then s else stageEnd c (takeSlots c s))

/-! ### Emission and timers (R439, R447) -/

/-- GRAFT_OUT_FRAGMENT (R439): the next fragment leaves, not while the device is held at QUIESCE (R429). -/
def execGraftOutFragment (c : Nat) (s : State) : Host.Outcome State Fault Refusal :=
  .next (
    let g := graftOf s c
    match g.outFrags with
    | [] => s
    | f :: r =>
      if halted s then s
      else
        let p := portOfCircuit c
        let k := objVal s (at_ Obj.SP_GRAFT_CLASS p)
        let s1 := setGraft c { g with outFrags := r, txLen := if r.isEmpty then 0 else g.txLen } s
        sendPkt p { cls := k, circuit := c, kind := 3, octets := 0, bytes := chanHeader 3 c f.length (field f 0 3) ++ f } s1)

/-- GRAFT_RETRY_TIMEOUT (R447). -/
def execGraftRetryTimeout (c : Nat) (s : State) : Host.Outcome State Fault Refusal :=
  .next (match (graftOf s c).st, (graftOf s c).timer with
    | .g1Sent, some t =>
      if !(supervisorUp s) then s
      else
        let s1 := graftTimer t s
        let g := graftOf s1 c
        if g.resends < cVal s1 c Obj.GR_C_RETRIES then
          bump (at_ Obj.GR_C_RESENDS c) (setGraft c { g with
            resends := g.resends + 1, outFrags := g.outFrags ++ fragments g.msgId (objVal s1 Obj.GR_FRAG_SIZE - 8) g.g1,
            timer := some (s1.now + ms (cVal s1 c Obj.GR_C_RETRY_TIMEOUT)) } s1)
        else failGraft c (if g.badMsg then 2 else 1) s1
    | _, _ => s)

/-- GRAFT_RESPONDER_TIMEOUT (R447): the exchange fails, and one starts as initiator at once if the role permits. -/
def execGraftResponderTimeout (c : Nat) (s : State) : Host.Outcome State Fault Refusal :=
  .next (match (graftOf s c).st, (graftOf s c).timer with
    | .g2Sent, some t =>
      if !(supervisorUp s) then s
      else
        let s1 := graftTimer t s
        let s2 := failGraft c (if (graftOf s1 c).badMsg then 3 else 4) s1
        if mayStart s2 c then startGraft c s2 else s2
    | _, _ => s)

/-- GRAFT_ARM_DELAY_EXPIRY (R447). -/
def execGraftArmDelayExpiry (c : Nat) (s : State) : Host.Outcome State Fault Refusal :=
  .next (match (graftOf s c).st, (graftOf s c).timer with
    | .confirming, some t => if supervisorUp s then armGraft c (graftTimer t s) else s
    | _, _ => s)

/-- GRAFT_SWITCH_DELAY_EXPIRY (R447). -/
def execGraftSwitchDelayExpiry (c : Nat) (s : State) : Host.Outcome State Fault Refusal :=
  .next (match (graftOf s c).st, (graftOf s c).timer with
    | .armed, some t => if supervisorUp s then switchEvent c (graftTimer t s) else s
    | _, _ => s)

/-- The triggers of R448 whose condition still holds. -/
def triggersHold (s : State) (c : Nat) : Bool :=
  (graftOf s c).periodDone || (circuit s c).blocked ||
    (match (circuit s c).txCur with
     | some k => keyTriggers s c k
     | none => decide (cVal s c Obj.SP_C_ENABLE = 1))

/-- GRAFT_RETRY_PAUSE_EXPIRY (R449): held triggers and those that still hold start an exchange. -/
def execGraftRetryPauseExpiry (c : Nat) (s : State) : Host.Outcome State Fault Refusal :=
  .next (match (graftOf s c).pauseUntil with
    | none => s
    | some t =>
      if !(supervisorUp s) then s
      else
        let s1 := graftTimer t s
        let s2 := setGraft c { graftOf s1 c with pauseUntil := none } s1
        tryStart c (if triggersHold s2 c then trigger c false s2 else s2))

end Sys2Proof.Machine
end

