-- ==== Sys2Proof/Machine/Pke.lean ====
section
/-!
DEFINITION. The public-key engine (chapter 05): dispatch, segments, parking and resuming, scrubs, slice and unit
watchdogs, benches and their arbiters.
-/
namespace Sys2Proof.Machine

/-! ### Dispatch (R179) -/

/-- A SIGN of a stateful key waits, admitted without a slice, while another SIGN of the key is on a slice or the key is
under rebuild (R282, R286). -/
def htsHolds (s : State) (e : Entry) : Bool :=
  decide (e.desc.opcode = 0x0404) &&
    ((match htsKey? s e.desc.key with | some k => decide (k.st = .rebuilding) | none => false) ||
     s.ring.entries.any (fun q => decide (q.2.desc.opcode = 0x0404 ∧ q.2.desc.key = e.desc.key) &&
       (match q.2.phase with | .running _ => true | _ => false)))

/-- A job waits for the slice class: admitted and staged, or parked (R179); or it is the key manager's, and a step of it needs a slice of
the class that it has not been given (R178, R342). -/
def waitsFor (s : State) (cls : Nat) (q : Nat × Entry) : Bool :=
  (decide (opClass q.2.desc.opcode = some cls) && decide (q.2.phase = .waiting ∨ q.2.phase = .parked) && !(htsHolds s q.2)) ||
  (decide (q.2.desc.opcode / 256 = 9) && (decide (q.2.phase = .waiting) || onSlice q.2) && decide (unitHead s 9 = some q.1) &&
    (sliceFor s q.1 cls).isNone && decide (cls ∈ managerNeeds q.2 s))

/-- The head of a class queue: lowest priority class, then order of admission (R20, R179). -/
def queueHead (s : State) (cls : Nat) : Option (Nat × Entry) := frontOf (s.ring.entries.filter (waitsFor s cls))

/-- Give the head of a class queue a slice (R179, R200): a parked job is to unseal its pages, any other starts. -/
def dispatchJob (cls : Nat) (s : State) : State :=
  match queueHead s cls, pickSlice s cls with
  | some (e, x), some (n, wake) =>
    let v := slice_ s n
    let t := s.now + wake + wakeEngine s
    let ph := if x.phase = .parked then Phase.resuming n else if onSlice x then x.phase else .running n
    let s1 := setSlice n { v with st := .busy, job := some e, colour := x.colour, scratch := [], seq := Sequencer.reset } s
    let s2 := setEntry e { x with phase := ph, slice := n, segsSince := 0, segAt := t,
                                  startedAt := if x.phase = .parked then x.startedAt else t } s1
    let s3 := bump (sliceJobs n) { s2 with pwr := { s2.pwr with pllRunning := true, clockGated := false } }
    if x.phase = .parked ∨ opClass x.desc.opcode = none then s3 else enterCommand cls n e x.desc.opcode s3
  | _, _ => s

/-- The HOLD of a level-1 response is in force (R535). -/
def holding (s : State) : Bool :=
  match s.tmp.holdUntil with
  | some t => decide (s.now < t)
  | none => false

/-- DISPATCH (R179): not while a response of level 1 or of level 3 and above is in force, nor before a waiting scrub has
its slice (R216). -/
def execDispatch (cls : Nat) (s : State) : Host.Outcome State Fault Refusal :=
  .next (if 4 ≤ cls ∨ holding s ∨ halted s ∨ s.pke.scrubQ ≠ [] then s else dispatchJob cls s)

/-! ### Segments (R194–R202) -/

/-- Cycles of a park or a resume (R199). -/
def parkCycles (x : Entry) : Nat := 200 + 40 * (resumePages x).length

/-- A job of class `p` or below that waits for the slice class, other than entry `e`. -/
def someoneWaits (s : State) (cls e p : Nat) : Bool :=
  s.ring.entries.any (fun q => decide (q.1 ≠ e) && waitsFor s cls q && decide (q.2.prio ≤ p))

/-- A slice of the class is idle or waking (R196): one that its job has been given and has not reached yet is waking (R179). -/
def someIdle (s : State) (cls : Nat) : Bool :=
  (classSlices cls).any (fun n => decide ((slice_ s n).st = .idle ∨ (slice_ s n).st = .gated) ||
    (match (slice_ s n).job.bind (entry? s) with
     | some y => decide ((slice_ s n).st = .busy) && decide (s.now < y.segAt)
     | none => false))

/-- The nonce that seals a job's resume pages (R197). -/
def parkNonce (e : Nat) (x : Entry) : Bytes := leBytes 2 e ++ leBytes 4 x.serial ++ leBytes 4 x.progress ++ zeros 2

/-- The additional data of the seal (R197): colour and opcode. -/
def parkAad (x : Entry) : Bytes := leBytes 2 x.colour ++ leBytes 2 x.desc.opcode

/-- The slice's state as the resume pages hold it, sealed under the park key (R197, R198); sealed bytes are unsealed by the same
operation. -/
def parkSeal (s : State) (e : Nat) (x : Entry) (b : Bytes) : Bytes :=
  gcmXor s.pke.parkKey (parkNonce e x) b

/-- The tag over sealed pages (R197). -/
def parkTag (s : State) (e : Nat) (x : Entry) (b : Bytes) : Bytes := primOut .gcmTag [s.pke.parkKey, parkNonce e x, parkAad x, b] 16

/-- The bytes that a slice's state fills the resume pages with: the bytes drawn at the key check and a free value for what the spec does
not list of a slice's scratch. -/
def scratchBytes (s : State) (n : Nat) (x : Entry) : Bytes :=
  let b := (slice_ s n).scratch
  b ++ freeBytes s.free ((resumePages x).length * 1024 - b.length)

/-- Park a job (R197, R199): its slice's state sealed into the resume pages, the tag in its entry, the slice scrubbed and free. -/
def parkJob (e n : Nat) (x : Entry) (s : State) : State :=
  let t := { s with now := s.now + cyclesNs s (parkCycles x) }
  let b := parkSeal t e x (scratchBytes t n x)
  let y := { x with phase := .parked, cycles := x.cycles + parkCycles x, tag := parkTag t e x b }
  bump Obj.PKE_PARKS (setEntry e y (freeSlice n (writePages (resumePages x) b (usedFree t))))

/-- The course of a segmented command up to its end (R194). -/
def segRun (n : Nat) (x : Entry) (s : State) : Res × State :=
  match x.desc.opcode with
  | 0x0304 => runSlhSign x n s
  | 0x0401 => runHtsKeygen false x n s
  | 0x0501 => runCodeKeygen x n s
  | _ => runRsaKeygen x n s

/-- What a segmented command's key check needs. -/
def segNeed (x : Entry) (s : State) : Need :=
  match x.desc.opcode with
  | 0x0304 => slhSignNeed x s
  | 0x0401 => htsKeygenNeed x s
  | 0x0501 => mceKeygenNeed x
  | _ => rsaKeygenNeed x

/-- Its cycles, the waits apart. -/
def segCycles (n : Nat) (x : Entry) (s : State) : Nat :=
  match x.desc.opcode with
  | 0x0401 => match x.origin with
    | .rebuild h => rebuildCyc s h
    | _ => htsKeygenCyc x.desc.pset ((htsLevels x.desc.pset x.desc.aux).getD [])
  | _ => (segRun n x s).1.cycles

/-- The LOADING slot that a segmented KEYGEN holds from its key check on (R233). -/
def holdSlot (e : Nat) (x : Entry) (units : Option Nat) (s : State) : State :=
  match units with
  | none => s
  | some u =>
    let h := nextHandle s
    let v := { newSlot s x.colour (x.desc.opcode / 256) x.desc.pset 0 (originOf x 0) u 0 [] with st := .loading }
    addWait e s (setEntry e { x with target := some h } (putSlot h v (tookHandle h s)))

/-- The LOADING entry of the large-key store that it holds (R295). -/
def holdLks (e : Nat) (extents : Option Nat) (s : State) : State :=
  match extents, entry? s e with
  | some m, some x =>
    let h := nextLks s
    let l : LksEntry := { owner := x.colour, alg := x.desc.opcode / 256, pset := x.desc.pset, usage := 0, state := 1, persist := false,
                          kind := if x.desc.opcode = 0x0501 then 1 else 2, extents := [], length := m * 4096, data := [] }
    setEntry e { x with lksTarget := some h } (putLks h l s)
  | _, _ => s

/-- A segmented command's key check, its first step (R189, R231): the bytes it draws stand in the slice's scratch, what it is to fill is
LOADING; or it ends at cycle 120. -/
def segCheck (e n : Nat) (x : Entry) (s : State) : State :=
  if isRebuild x then setEntry e { x with keyChecked := true } s else
  let q := segNeed x s
  match keyCheck s (quotaColour x) (slice_ s n).seeded q with
  | some st => finish e (Res.stop st 120) s
  | none =>
    let d := checkDraws n q s
    let t := setSlice n { slice_ d.2 n with scratch := d.1 } d.2
    holdLks e q.lks (holdSlot e { x with keyChecked := true, cycles := x.cycles + waitCycles s d.2 } q.units t)

/-- A segment ends (R196, R197): the progress count rises, and the job is parked where the rule says so; otherwise it goes on in its
slice. -/
def endSegment (e n : Nat) (x : Entry) (s : State) : State :=
  let cls := sliceClass n
  let w := owedTo s e
  let t := settleOwed e { s with now := max s.now (x.segAt + cyclesNs s (60000 + w)) }
  let y := { x with progress := x.progress + 1, segsSince := x.segsSince + 1, segAt := t.now, cycles := x.cycles + w }
  let lower := decide (0 < x.prio) && someoneWaits t cls e (x.prio - 1)
  let turn := decide (objVal t Obj.PKE_SEG_QUANTUM ≤ y.segsSince) && someoneWaits t cls e x.prio
  if (lower || turn) && !(someIdle t cls) then parkJob e n y t else bump (sliceJobs n) (setEntry e y t)

/-- SEGMENT_YIELD (R189, R194, R196, R197): the first also stands for the key check; a job in its last segment has no more. -/
def execSegmentYield (e : Nat) (s : State) : Host.Outcome State Fault Refusal :=
  .next (match entry? s e with
    | none => s
    | some x =>
      match x.phase with
      | .running n =>
        if (resumePages x).isEmpty ∨ opClass x.desc.opcode = none then s
        else
          let t := if x.keyChecked then s else segCheck e n x s
          match entry? t e with
          | some y => if y.phase = .running n ∧ y.keyChecked = true ∧ y.progress + 1 < segments (segCycles n y t) then endSegment e n y t else t
          | none => t
      | _ => s)

/-- The slice's expander can mask the job: hash-tree slices use none (R201, R263). -/
def maskReady (s : State) (n : Nat) : Bool := (slice_ s n).seeded || decide (sliceClass n = 3)

/-- JOB_RESUME (R200, R201): an unseeded expander ends the job ENTROPY_FAIL at once; a tag that does not verify, over what the resume
pages hold or as `tagOk` says of the slice's hardware, ends it FAULT_DETECTED as R192 does, counted in PKE_PARK_AUTH_ERR; otherwise the
slice's state is unsealed and the job goes on from its progress count. -/
def execJobResume (e : Nat) (tagOk : Bool) (s : State) : Host.Outcome State Fault Refusal :=
  .next (match entry? s e with
    | none => s
    | some x =>
      match x.phase with
      | .resuming n =>
        let y := { x with phase := Phase.running n }
        if !(maskReady s n) then stopJob e .entropyFail 0 (setEntry e { y with segAt := s.now } s)
        else
          let t := { s with now := max s.now (x.segAt + cyclesNs s (parkCycles y)) }
          let z := { y with cycles := y.cycles + parkCycles y, segAt := t.now }
          let b := readPages t (resumePages y) ((resumePages y).length * 1024)
          if tagOk && decide (parkTag t e x b = x.tag) then
            setSlice n { slice_ t n with scratch := (parkSeal t e x b).take (if isRebuild x then 0 else (segNeed x t).bytes) } (setEntry e { z with tag := [] } t)
          else
            let s1 := stopJob e .faultDetected 0 (reinitSlice n (setEntry e z t))
            let s2 := { s1 with pke := { s1.pke with scrubQ := s1.pke.scrubQ ++ [e] } }
            tamperEvent 17 (.slice n) n (bump Obj.PKE_PARK_AUTH_ERR s2)
      | _ => s)

/-! ### Scrubs (R215, R216) -/

/-- The first pass of a scrub of `k` pages by slice `n` (R215): random bytes of the slice's instance; of its mask expander where the DRBG
is stopped; zero where neither is available.  DESIGN CHOICE: an expander block is 16 bytes. -/
def firstPass (n k : Nat) (s : State) : State :=
  if rngReady s then (draw n (1024 * k) s).2
  else
    let v := slice_ s n
    if v.seeded then setSlice n { v with blocks := v.blocks + 64 * k } s else s

/-- The pages of a scrubbing job are overwritten, zeroed, tagged 0xFFFF and freed (R94, R215), and internal jobs that wait for pages
come in (R157); its record may follow. -/
def scrubJob (e n : Nat) (x : Entry) (s : State) : State :=
  let s1 := tagPages 0xFFFF x.pages (firstPass n x.pages.length s)
  let s2 := { s1 with now := s1.now + cyclesNs s1 (64 * x.pages.length) }
  admitInternal (setEntry e { x with phase := .ended, pages := [], inPages := 0, outPages := 0, scrub := 0 } s2)

/-- The slice that scrubs an entry's pages. -/
def scrubber (s : State) (e : Nat) : Option Nat :=
  (List.range 36).find? (fun n => decide ((slice_ s n).st = .scrub ∧ (slice_ s n).job = some e))

/-- ABORT_SCRUB (R215): the slice that holds the scrub finishes it and is free. -/
def execAbortScrub (e : Nat) (s : State) : Host.Outcome State Fault Refusal :=
  .next (match entry? s e with
    | none => s
    | some x =>
      if x.phase ≠ .scrubbing then s
      else match scrubber s e with
      | some n => freeSlice n (scrubJob e n x s)
      | none => s)

/-- SCRUB_TAKEOVER (R216): an idle slice takes the oldest scrub that waits, before any job. -/
def execScrubTakeover (n : Nat) (s : State) : Host.Outcome State Fault Refusal :=
  .next (match s.pke.scrubQ with
    | [] => s
    | e :: r =>
      let v := slice_ s n
      if n < 36 ∧ (v.st = .idle ∨ v.st = .gated) then
        setSlice n { v with st := .scrub, job := some e, colour := ((entry? s e).map (·.colour)).getD 0xFFFF, scratch := [] } { s with pke := { s.pke with scrubQ := r } }
      else s)

/-! ### Slice and unit watchdogs (R192, R224, R641, R642) -/

/-- SLICE_REINIT_COMPLETE (R192): within 20 µs the slice is back in the pool. -/
def execSliceReinitComplete (n : Nat) (s : State) : Host.Outcome State Fault Refusal :=
  .next (let v := slice_ s n
    if n < 36 ∧ v.st = .init then
      let s1 := advanceTo (v.initAt + us 20) s
      setSlice n { v.cleared with st := .idle, idleSince := s1.now } s1
    else s)

/-- Bites within the last second, this one included. -/
def recentBites (now : Time) (l : List Time) : List Time := l.filter (fun t => decide (now < t + sec 1)) ++ [now]

/-- The object of watchdog code `c`'s bites (R640). -/
def wdogBites (c : Nat) : ObjId := Obj.ERR_WDOG_BITES + (c - 1)

/-- The cycles at which the slice watchdog bites a job (R224): 240,000 in the segment under way of a segmented command,
otherwise its command's allowance; the iterations an ML-DSA SIGN has begun are a free value. -/
def wdogLimit (s : State) (n : Nat) (x : Entry) : Nat :=
  if x.desc.opcode / 256 = 9 then 4 * managerCycles x n s
  else if x.desc.opcode = 0x0404 ∨ x.desc.opcode = 0x0405 then 4 * htsCycles x s
  else match cmdSpec s x.colour false x.desc with
  | some c => if c.resume ≠ 0 then 240000 else c.wdog + (Config.freeNat s.free % 815) * c.wdogIter
  | none => 0

/-- SLICE_WDOG_BITE (R641): the job ends TIMEOUT with code 0x0002 and CYCLES at the limit; the slice is re-initialised,
or fenced at its third bite within 1 s. -/
def execSliceWdogBite (e : Nat) (s : State) : Host.Outcome State Fault Refusal :=
  .next (match entry? s e with
    | none => s
    | some x =>
      match x.phase with
      | .running n =>
        let lim := wdogLimit s n x
        let s0 := usedFree (advanceTo (x.segAt + cyclesNs s lim) s)
        let v := slice_ s0 n
        let bites := recentBites s0.now v.bites
        let s1 := bump (wdogBites 2) (setEntry e { x with cycles := x.cycles + 60000 * x.progress + lim, progress := 0, segAt := s0.now }
          (setSlice n { v with bites := bites } s0))
        if 3 ≤ bites.length then fenceSlice n cSLICE_WDOG .timeout 2 s1
        else
          let s2 := stopJob e .timeout 2 (reinitSlice n s1)
          match entry? s2 e with
          | some y => if y.phase = .scrubbing then { s2 with pke := { s2.pke with scrubQ := s2.pke.scrubQ ++ [e] } } else s2
          | none => s2
      | _ => s)

/-- UNIT_WDOG_BITE (R642): unit 0–3 is a digest unit, 4 the key manager.  The job it serves ends TIMEOUT with code
0x0003; a digest unit is re-initialised, or fenced at its third bite within 1 s. -/
def execUnitWdogBite (u : Nat) (s : State) : Host.Outcome State Fault Refusal :=
  .next (
    if u < 4 then
      let v := digUnit s u
      match v.jobs with
      | [] => s
      | e :: _ =>
        let s0 := advanceTo (s.now + ms 1) s
        let bites := recentBites s0.now v.bites
        let s1 := bump (wdogBites 3) (stopJob e .timeout 3 s0)
        if 3 ≤ bites.length then fenceDigest u cUNIT_WDOG .timeout 3 (setDigUnit u { digUnit s1 u with bites := bites } s1)
        else setDigUnit u { digUnit s1 u with bites := bites, initAt := some s1.now } s1
    else
      match unitHead s 9 with
      | none => s
      | some e => bump (wdogBites 3) (stopJob e .timeout 3 (advanceTo (s.now + ms 1) s)))

/-! ### Benches (R203–R213) -/

/-- A requester's request has this priority class at a bench (R204): that of the job served; of the Tsuow core, the digest engine and the
stream DMA the class in effect there (R226). -/
def reqClass (s : State) (x : Bench) (r : BenchReq) : Nat :=
  let ofEntry := match entry? s r.entry with
    | some e => e.prio
    | none => 3
  if r.requester < 36 then (if (slice_ s r.requester).st = .scrub then 0 else ofEntry)
  else if r.requester = 38 then x.classes.1
  else if r.requester = 39 then x.classes.2.1
  else if r.requester = 40 then x.classes.2.2
  else ofEntry

/-- The classes that the ARB_CLASS objects give take effect at a burst boundary of the bench (R226): where its port is free, or a burst
has ended since they were last taken over. -/
def takeClasses (s : State) (x : Bench) : Bench :=
  if x.boundary || x.holder.isNone then
    { x with boundary := false,
             classes := (objVal s Obj.ARB_CLASS_TSUOW, objVal s Obj.ARB_CLASS_DIGEST, objVal s Obj.ARB_CLASS_STREAM) }
  else x

/-- A requester that is fenced, or a slice that is not in the pool, is ignored (R192, R213, R636). -/
def ignored (s : State) (n : Nat) : Bool :=
  if n < 36 then decide ((slice_ s n).st = .fenced ∨ (slice_ s n).st = .init) else decide (n ∈ s.pke.fencedReq)

/-- A burst that bench `b` can serve (R203): 1–16 beats within one page of the bench. -/
def okBurst (b : Nat) (r : BenchReq) : Bool :=
  decide (r.requester < 41 ∧ 1 ≤ r.beats ∧ r.beats ≤ 16) &&
    decide (r.addr / 0x80000 = b ∧ r.addr / 1024 = (r.addr + 64 * r.beats - 1) / 1024)

/-- The colour a DMA engine carries (R86): that of the job, of the ring pair or of the circuit's tenant that it serves; 0xFFFF where it
serves none. -/
def servedColour (s : State) (b : Burst) : Nat :=
  match entry? s b.entry with
  | some x => x.colour
  | none =>
    if b.pair < 4112 then pairColour b.pair
    else if b.circuit < 8192 then 0x1000 + objVal s (at_ Obj.SP_C_TENANT b.circuit)
    else 0xFFFF

/-- The access a burst makes, as the isolation supervisor sees it (R86, R107, R108): a slice's in the colour of its own job, whichever
entry is named; none for the Tsuow core, whose accesses are checked at its own instructions. -/
def burstAccess (s : State) (b : Burst) : Option (FabAcc × UnitRef) :=
  let e := if b.requester < 36 then (slice_ s b.requester).job.getD 0xFFFFFFFF else b.entry
  let colour := if b.requester < 36 then (slice_ s b.requester).colour else servedColour s b
  let ring := match entry? s e with
    | some x => originPair x.origin
    | none => if b.pair < 4112 then b.pair else 0xFFFF
  let mk := fun cls master => ({ cls := cls, master := master, colour := colour, addr := b.addr, len := b.beats * 64,
                                 kind := if b.write then 2 else 1, ring := ring, entry := e } : FabAcc)
  if b.requester < 36 then some (mk 0 b.requester, .slice b.requester)
  else if b.requester = 36 ∨ b.requester = 37 then some (mk 1 0, .requester b.requester)
  else if b.requester = 39 then
    let n := ((List.range 4).find? (fun n => (digUnit s n).jobs.elem b.entry)).getD 0
    some (mk 5 n, .digest n)
  else if b.requester = 40 then some (mk 6 (if b.circuit < 8192 then b.circuit / 4096 else 0), .requester 40)
  else none

/-- The requests of one cycle at a bench (R205–R211): fenced requesters and those in BACKOFF are ignored. -/
def benchDecide (b cycle : Nat) (reqs : List BenchReq) (s : State) : State :=
  let x := takeClasses s (benchTo cycle (bench s b))
  let live := reqs.filter (fun r => !(ignored s r.requester) && okBurst b r &&
    decide (tget (fun _ => 0) x.retryAt r.requester ≤ x.cycle))
  let bursts := live.map (fun r => ({ requester := r.requester, cls := reqClass s x r, addr := r.addr, beats := r.beats, done := 0,
                                      write := r.write, heldCycles := 0, entry := r.entry, pair := r.pair, circuit := r.circuit,
                                      awaited := false, lostAt := 0 } : Burst))
  let d := decidePort x bursts
  let s1 := setBench b (backoffAll d.1 d.2.2.1) s
  let s2 := bumpBy (Obj.ARB_BACKOFFS + b) d.2.2.1.length s1
  let s3 := if d.2.2.2 then bump (Obj.ARB_PREEMPTS + b) s2 else s2
  match d.2.1 with
  | none => s3
  | some w =>
    match burstAccess s3 w with
    | none => s3
    | some (a, u) =>
      match checkAccess s3 a with
      | none => s3
      | some (reason, bad) =>
        let y := bench s3 b
        deviceRefusal a u reason bad (setBench b { y with holder := none, boundary := true } s3)

/-- BENCH_REQUEST (R205): the requests raised at a bench in one cycle; a request wakes the engine clock (R624). -/
def execBenchRequest (b cycle : Nat) (reqs : List BenchReq) (s : State) : Host.Outcome State Fault Refusal :=
  .next (if b < 16 then benchDecide b cycle reqs (if reqs = [] then s else rouseEngine s) else s)

/-- BENCH_WDOG_BITE (R212, R213): the holder's count reaches ARB_WDOG; the port is released, the job served ends TIMEOUT
with code 0x0001, a slice is re-initialised and any other requester is fenced. -/
def execBenchWdogBite (b : Nat) (s : State) : Host.Outcome State Fault Refusal :=
  .next (match (bench s b).holder with
    | none => s
    | some h =>
      let x := bench s b
      let s1 := setBench b { x with holder := none, boundary := true, cycle := x.cycle + (objVal s (Obj.ARB_WDOG + b) - h.heldCycles) } s
      let last := leNat (leBytes 8 (time64 s1) ++ leBytes 1 b ++ leBytes 1 h.requester ++ leBytes 1 h.cls ++
        leBytes 1 h.done ++ leBytes 4 h.entry)
      let s2 := setObj Obj.ARB_WDOG_LAST last (bump (Obj.ARB_WDOG_BITES + b) (bump (wdogBites 1) s1))
      if h.requester < 36 then
        let s3 := stopJob h.entry .timeout 1 (reinitSlice h.requester s2)
        match entry? s3 h.entry with
        | some y => if y.phase = .scrubbing then { s3 with pke := { s3.pke with scrubQ := s3.pke.scrubQ ++ [h.entry] } } else s3
        | none => s3
      else fenceRequester h.requester cBENCH_WDOG (if (entry? s2 h.entry).isSome then some h.entry else none) .timeout 1 s2)

/-- ARB_MODE_APPLY (R210): the bench's ARB_MODE takes effect once no burst is in progress or preempted. -/
def execArbModeApply (b : Nat) (s : State) : Host.Outcome State Fault Refusal :=
  .next (if b < 16 then
      let x := benchIdle (bench s b)
      setBench b { x with mode := objVal s (Obj.ARB_MODE + b) } s
    else s)

end Sys2Proof.Machine
end

