-- ==== Sys2Proof/Machine/Tenants.lean ====
section
/-!
DEFINITION. Tenants and the isolation area (chapter 03): creation, deletion, fencing, quotas; rule commits and tag queries.
-/
namespace Sys2Proof.Machine

/-! ### Records (R115) -/

/-- TENANT_STATE. -/
def tenantState (s : State) (t : Nat) : Nat := objVal s (at_ Obj.TENANT_STATE t)

/-- While a tenant is DELETING, writes to its record end BUSY (R121). -/
def deleting (s : State) (t : Nat) : Bool := decide (tenantState s t = 4)

/-- The counters of a tenant's record: refusals, and those of its ring pair. -/
def tenantCounters (t : Nat) : List ObjId :=
  at_ Obj.TENANT_REFUSALS t :: ([Obj.RING_JOBS, Obj.RING_STALLS, Obj.RING_STALL_US, Obj.RING_DISCARDS, Obj.RING_BAD_DESC,
    Obj.RING_POLL_LATE, Obj.RING_PRIO_CLAMPED].map (pairObj t))

/-- Forget a tenant's refusals in the fence window. -/
def forgetRefusals (t : Nat) (s : State) : State := { s with iso := { s.iso with refusedAt := mdel s.iso.refusedAt t } }

/-! ### Creation (R116) -/

/-- The new tenant: ACTIVE, counters 0, its pair disabled. -/
def createTenant (t : Nat) (s : State) : State :=
  let s1 := (tenantCounters t).foldl (fun x o => setObj o 0 x) (forgetRefusals t s)
  setPair t Pair.reset (setObj (at_ Obj.TENANT_STATE t) 1 (setObj (pairObj t Obj.RING_ENABLE) 0 s1))

/-- The write of TENANT_CREATE (R116, R584). -/
def createRule (t : Nat) (s : State) : WriteRule :=
  { lock := false, held := false, critical := false, busy := s.lc.debugOpen || deleting s t,
    bad := decide (tenantState s t ≠ 0), act := createTenant t }

/-- TENANT_CREATE (R116, R584). -/
def execTenantCreate (c : Caller) (t : Nat) (data : Bytes) (s : State) : Host.Outcome State Fault Refusal :=
  .next (if t < 4096 then
      writeAccess c (at_ Obj.TENANT_CREATE t) data (createRule t s) s
    else s)

/-! ### Deletion (R119) -/

/-- End a stopped job at once: its scrub done, its record written, its pages freed. -/
def flushJob (e : Nat) (s : State) : State :=
  match entry? s e with
  | none => s
  | some x =>
    let free := fun (_ : Nat) (y : Slice) => if y.job = some e ∧ y.st = .scrub then { y.cleared with st := .idle, idleSince := s.now } else y
    let s1 := { s with pke := { s.pke with slices := mmap free s.pke.slices, scrubQ := dropAll e s.pke.scrubQ } }
    completeJob e (setEntry e { x with phase := .ended, scrub := 0 } s1)

/-- Step 2: the jobs of a pair end FENCED, with their records. -/
def endPairJobs (t : Nat) (s : State) : State :=
  let s1 := stopJobs (fun _ e => ofPair t e) .fenced s
  ((s1.ring.entries.filter (fun q => ofPair t q.2)).map (·.1)).foldl (fun x e => flushJob e x) s1

/-- Step 3: cells stopped, emptied, no longer assigned. -/
def unassignCells (t : Nat) (s : State) : State :=
  let s1 := dropCells t s
  let mine := (List.range 64).filter (fun n => decide (cellTenant s1 n = t))
  mine.foldl (fun x n => setObj (at_ Obj.SVC_CELL_TENANT n) 0xFFFF x) s1

/-- Step 4: the tenant's circuits unbound. -/
def unbindAll (t : Nat) (s : State) : State :=
  let mine := (s.dict.obj.filter (fun p => decide (0x3000 ≤ p.1 / 256 ∧ p.1 / 256 < 0x5000 ∧ p.1 % 256 = 1 ∧ p.2 = t))).map
    (fun p => p.1 / 256 - 0x3000)
  mine.foldl (fun x c => unbindCircuit c x) s

/-- Owner of a context number. -/
def ctxOwner : CtxNum → Nat
  | .live c => c.owner
  | .saved _ c => c.owner

/-- A record not yet read back adds a key of the colour, or is about a handle whose key is gone. -/
def commitOf (colour : Nat) (slots lks : List Nat) (c : ArchCommit) : Bool :=
  (match c.record with
   | .addSlot _ h x => decide (x.owner = colour ∨ h ∈ slots)
   | .addLks _ h x => decide (x.owner = colour ∨ h ∈ lks)
   | .dropSlot _ h => decide (h ∈ slots)
   | .dropLks _ h => decide (h ∈ lks)
   | .dropColour _ _ => false) ||
  (match c.effect with
   | .setExpiry h _ => decide (h ∈ slots)
   | _ => false)

/-- Step 5: slots, LKS entries and contexts of a colour erased and freed; what was still to be written of them in the archive is not. -/
def freeColour (colour : Nat) (s : State) : State :=
  let hs := (s.kreg.slots.filter (fun p => decide (p.2.owner = colour))).map (·.1)
  let s1 := hs.foldl (fun x h => eraseSlot h x) s
  let gone := (s1.kreg.lks.filter (fun p => decide (p.2.owner = colour))).map (·.1)
  wipeFreeLks { s1 with
    kreg := { s1.kreg with lks := mfilter (fun _ x => decide (x.owner ≠ colour)) s1.kreg.lks,
                           lksUsers := s1.kreg.lksUsers.filter (fun p => !(decide (p.1 ∈ gone))),
                           commits := s1.kreg.commits.filter (fun c => !(commitOf colour hs gone c)) },
    dig := { s1.dig with ctx := mfilter (fun _ x => decide (ctxOwner x ≠ colour)) s1.dig.ctx } }

/-- The measurement registers of a deleted tenant keep their values; their owner is 0xFFFF until the next reset (R388). -/
def orphanMeas (colour : Nat) (s : State) : State :=
  (List.range 32).foldl (fun t i => if objVal t (Obj.DIG_MEAS_OWNER + i) = colour then setObj (Obj.DIG_MEAS_OWNER + i) 0xFFFF t else t) s

/-- Step 6: every granule of a colour zeroed and tagged 0xFFFF. -/
def freeGranules (colour : Nat) (s : State) : State :=
  let mine := fun (g : Nat) => decide (tget (fun _ => 0xFFFF) s.iso.tags g = colour)
  { s with iso := { s.iso with mem := mfilter (fun a _ => !(mine (a / 256))) s.iso.mem,
                               tags := mfilter (fun _ v => decide (v ≠ colour)) s.iso.tags } }

/-- The half that a restore would take stands as the active one: also where the restore is still HELD (R360). -/
def takeHalf (s : State) : State :=
  if objVal s Obj.KREG_ARCH_STATE = 2 then
    match chooseHalf s with
    | some b => { s with kreg := { s.kreg with activeB := b } }
    | none => s
  else s

/-- Step 7: the archive rewritten without the colour's keys (R356, R359), HELD or not. -/
def archiveDrop (colour : Nat) (s0 : State) : State :=
  let s := takeHalf s0
  if bbramOpen s && !s.kreg.kek.isEmpty && decide (objVal s Obj.KREG_ARCH_STATE ≠ 3) && (activeHalf s).isSome then
    let n := s.kreg.archSerial + 1
    compactArchive (writeArch (.dropColour n colour) { s with kreg := { s.kreg with archSerial := n } })
  else s

/-- Step 8: the record's objects at their defaults, state ABSENT. -/
def clearRecord (t : Nat) (s : State) : State :=
  let keys := (s.dict.obj.filter (fun p => decide (p.1 / 256 = 0x2000 + t))).map (·.1)
  setPair t Pair.reset (forgetRefusals t (keys.foldl (fun x k => setObj k (objDefault k) x) s))

/-- The steps of R119, in order. -/
def deleteTenant (t : Nat) (s : State) : State :=
  let colour := 0x1000 + t
  let s1 := endPairJobs t (stopPair t (setObj (at_ Obj.TENANT_STATE t) 4 s))
  let s2 := freeColour colour (unbindAll t (unassignCells t s1))
  clearRecord t (archiveDrop colour (freeGranules colour (orphanMeas colour s2)))

/-- The write of TENANT_DELETE (R119, R584). -/
def deleteRule (t : Nat) (s : State) : WriteRule :=
  { lock := false, held := false, critical := false, busy := s.lc.debugOpen || deleting s t,
    bad := decide (tenantState s t ≠ 1 ∧ tenantState s t ≠ 2), act := deleteTenant t }

/-- TENANT_DELETE (R119, R584). -/
def execTenantDelete (c : Caller) (t : Nat) (data : Bytes) (s : State) : Host.Outcome State Fault Refusal :=
  .next (if t < 4096 then
      writeAccess c (at_ Obj.TENANT_DELETE t) data (deleteRule t s) s
    else s)

/-! ### Fencing by the operator (R113–R115) -/

/-- A write of TENANT_FENCE on an ABSENT or DELETING tenant ends BAD_VALUE (R115).  DESIGN CHOICE: for a DELETING tenant R121 would give
BUSY; the rule that names TENANT_FENCE is followed. -/
def fenceRule (t : Nat) (act : State → State) (s : State) : WriteRule :=
  { lock := false, held := false, busy := false, critical := false, bad := decide (tenantState s t = 0) || deleting s t, act := act }

/-- Fence with cause OPERATOR; a tenant already fenced stays fenced with that cause. -/
def operatorFence (t : Nat) (s : State) : State :=
  if tenantState s t = 2 then setObj (at_ Obj.TENANT_FENCE_CAUSE t) 1 s else fenceTenant t 1 s

/-- TENANT_FENCE_SET (R113). -/
def execTenantFenceSet (c : Caller) (t : Nat) (s : State) : Host.Outcome State Fault Refusal :=
  .next (if t < 4096 then writeAccess c (at_ Obj.TENANT_FENCE t) [1] (fenceRule t (operatorFence t) s) s else s)

/-- A fenced pair resumes at its next expected entry (R114, R132). -/
def unfencePair (t : Nat) (s : State) : State :=
  let p := pair s t
  if p.st = .fenced then
    setPair t { p with st := .active, emptyPolls := 0, pollAt := s.now + ringVal s t Obj.RING_POLL_ACTIVE * 500 } s
  else s

/-- Unfence: refusals cleared, no cause, the pair resumes; a tenant that is not fenced is unchanged. -/
def unfenceTenant (t : Nat) (s : State) : State :=
  if tenantState s t ≠ 2 then s
  else
    let s1 := setObj (at_ Obj.TENANT_REFUSALS t) 0 (forgetRefusals t s)
    let s2 := setObj (at_ Obj.TENANT_FENCE t) 0 (setObj (at_ Obj.TENANT_FENCE_CAUSE t) 0 s1)
    unfencePair t (setObj (at_ Obj.TENANT_STATE t) 1 s2)

/-- TENANT_UNFENCE (R114). -/
def execTenantUnfence (c : Caller) (t : Nat) (s : State) : Host.Outcome State Fault Refusal :=
  .next (if t < 4096 then writeAccess c (at_ Obj.TENANT_FENCE t) [0] (fenceRule t (unfenceTenant t) s) s else s)

/-! ### Quotas (R117, R118) -/

/-- The quota objects of a tenant's record. -/
def quotaSub (sub : Nat) : Bool := decide (sub ∈ [0x10, 0x11, 0x14, 0x15, 0x16])

/-- The plain write of a setting of a tenant's record: BUSY while the tenant is DELETING (R121). -/
def tenantRule (t : Nat) (id : ObjId) (data : Bytes) (s : State) : WriteRule := { plainRule id data with busy := deleting s t }

/-- TENANT_QUOTA_WRITE (R118). -/
def execTenantQuotaWrite (c : Caller) (t sub : Nat) (data : Bytes) (s : State) : Host.Outcome State Fault Refusal :=
  .next (if t < 4096 ∧ quotaSub sub then
      let id := (0x2000 + t) * 256 + sub
      writeAccess c id data (tenantRule t id data s) s
    else s)

/-! ### Region rules (R97–R101, R123) -/

/-- A locked entry in effect: locked once it is enabled (R101). -/
def ruleLocked (s : State) (cls e : Nat) : Bool := ruleEn (ruleOf s cls e) && ruleLock (ruleOf s cls e)

/-- Two entries share a granule. -/
def rulesMeet (a b : Nat) : Bool :=
  decide (ruleBase a ≤ ruleLimit a ∧ ruleBase b ≤ ruleLimit b) && decide (ruleBase a ≤ ruleLimit b ∧ ruleBase b ≤ ruleLimit a)

/-- The entry's shadow: what was last written to it, or what is in effect. -/
def shadowOf (s : State) (cls e : Nat) : Nat := (mget? s.iso.shadow (cls * 64 + e)).getD (ruleOf s cls e)

/-- The entry becomes enabled, or is enabled with other contents, at a commit. -/
def ruleNew (s : State) (cls e : Nat) : Bool :=
  !(ruleLocked s cls e) && ruleEn (shadowOf s cls e) && decide (shadowOf s cls e ≠ ruleOf s cls e)

/-- The entry was enabled and stays as it is. -/
def ruleOld (s : State) (cls e : Nat) : Bool := ruleEn (ruleOf s cls e) && (ruleLocked s cls e || decide (shadowOf s cls e = ruleOf s cls e))

/-- A new entry stays disabled: it covers nothing, or overlaps one already enabled (R98, R100). -/
def ruleRefused (s : State) (cls e : Nat) : Bool :=
  let v := shadowOf s cls e
  ruleNew s cls e && (decide (ruleLimit v < ruleBase v) ||
    (List.range 64).any (fun k => ruleOld s cls k && rulesMeet v (ruleOf s cls k)))

/-- A new entry is enabled in overlap with another new one (R100). -/
def ruleOverlaps (s : State) (cls e : Nat) : Bool :=
  ruleNew s cls e && !(ruleRefused s cls e) &&
    (List.range 64).any (fun k => decide (k ≠ e) && ruleNew s cls k && !(ruleRefused s cls k) && rulesMeet (shadowOf s cls e) (shadowOf s cls k))

/-- What is in effect for an entry after the commit. -/
def ruleAfter (s : State) (cls e : Nat) : Nat :=
  if ruleLocked s cls e then ruleOf s cls e
  else if ruleRefused s cls e then shadowOf s cls e - 2 ^ 63
  else shadowOf s cls e

/-- A set of entries as a 64-bit map. -/
def entryMap (f : Nat → Bool) : Nat := ((List.range 64).map (fun e => if f e then 2 ^ e else 0)).sum

/-- Apply the shadow of a class as one change. -/
def applyRules (cls : Nat) (s : State) : State :=
  let rules := (List.range 64).foldl (fun t e => tset (fun _ => 0) t (cls * 64 + e) (ruleAfter s cls e)) s.iso.rules
  let s1 := { s with iso := { s.iso with rules := rules, shadow := mfilter (fun k _ => decide (k / 64 ≠ cls)) s.iso.shadow } }
  setObj Obj.ISO_RULE_COMMIT_STATE 2
    (setObj Obj.ISO_RULE_OVERLAP (entryMap (ruleOverlaps s cls)) (setObj Obj.ISO_RULE_REFUSED (entryMap (ruleRefused s cls)) s1))

/-- The write of an entry: to the shadow; of a locked entry READ_ONLY (R99, R101). -/
def ruleWrite (cls e : Nat) (data : Bytes) (s : State) : WriteRule :=
  { lock := ruleLocked s cls e, held := false, busy := false, bad := false, critical := false,
    act := fun t => match findObj (Obj.ISO_RULE + 256 * cls + e) with
      | some o => { t with iso := { t.iso with shadow := mset t.iso.shadow (cls * 64 + e) (maskedVal o data) } }
      | none => t }

/-- A commit is asked for: it waits for the accesses that began before it (R96). -/
def askCommit (cls : Nat) (s : State) : State :=
  setObj Obj.ISO_RULE_COMMIT_STATE 1 (eachBench markAwaited { s with iso := { s.iso with waiting := s.iso.waiting ++ [cls] } })

/-- The write of ISO_RULE_COMMIT (R46, R99): BUSY while a commit is being applied. -/
def commitRule (data : Bytes) (s : State) : WriteRule :=
  { portRule (askCommit (leNat data)) with busy := decide (objVal s Obj.ISO_RULE_COMMIT_STATE = 1) }

/-- ISO_RULE_COMMIT (R99). -/
def execIsoRuleCommit (c : Caller) (data : Bytes) (s : State) : Host.Outcome State Fault Refusal :=
  .next (writeAccess c Obj.ISO_RULE_COMMIT data (commitRule data s) s)

/-- RULE_CHANGE_APPLY (R96, R123): the bursts under way have ended; the commit that waited longest is applied. -/
def execRuleChangeApply (s : State) : Host.Outcome State Fault Refusal :=
  .next (match s.iso.waiting with
    | [] => s
    | cls :: r =>
      let s1 := eachBench benchIdle { s with iso := { s.iso with waiting := r } }
      applyRules cls s1)

/-- ISO_TAG_QUERY (R122). -/
def execIsoTagQuery (c : Caller) (data : Bytes) (s : State) : Host.Outcome State Fault Refusal :=
  .next (writeAccess c Obj.ISO_TAG_QUERY data (portRule (fun t => setObj Obj.ISO_TAG_RESULT (shownTag t (leNat data)) t)) s)

end Sys2Proof.Machine
end

