-- ==== Sys2Proof/Machine/Resets.lean ====
section
/-!
DEFINITION. What a reset leaves (R595, R647–R649, R657), and what the loss of the main supplies and of the AON domain leaves
(R545, R649, R661).
-/
namespace Sys2Proof.Machine

/-- Causes of ERR_RESET_CAUSE (R650). -/
abbrev rPOWER_ON : Nat := 0
abbrev rRESET_N : Nat := 1
abbrev rPERST_N : Nat := 2
abbrev rERR_RESET : Nat := 3
abbrev rTSUOW_WDOG : Nat := 4
abbrev rACTIVATION : Nat := 5
abbrev rTRIAL_EXPIRY : Nat := 6
abbrev rLIFE_CYCLE : Nat := 7
abbrev rBIST : Nat := 8
abbrev rEXTEST_EXIT : Nat := 9

/-- The objects that the AON domain keeps while the rest of the device is reset or without supply: the configuration of the
tamper sources and TMP_AON_LOST (R545, R546, R559). -/
def aonObject (id : ObjId) : Bool :=
  (decide (0x610 ≤ id / 256 ∧ id / 256 ≤ 0x627) && decide (id % 256 = 1)) || decide (id = Obj.TMP_AON_LOST)

/-- The counters of the tamper sources, which advance on the cell (R546). -/
def sourceCounter (id : ObjId) : Bool :=
  decide (0x610 ≤ id / 256 ∧ id / 256 ≤ 0x627) && decide (2 ≤ id % 256 ∧ id % 256 ≤ 4)

/-- A tamper source after a reset: count and window restart (R531); an AON input stays as it is, and a source burns no second
bit in a hold that outlives the reset (R538, R542). -/
def Source.restart (n : Nat) (x : Source) : Source :=
  { x with times := [], run := 0, armed := true,
           active := x.active && decide (10 ≤ n), changesAt := none }

/-- Every reset: what R649 calls lost returns to its reset value; the AON domain, OTP, flash, BBRAM, the RTC and the regulator
are kept.  `counts` keeps the source counters. -/
def loseVolatile (counts : Bool) (s : State) : State :=
  { s with
    dict := { DictSt.reset with
      obj := mfilter (fun k _ => aonObject k || (counts && sourceCounter k)) s.dict.obj,
      areaA := s.dict.areaA, areaB := s.dict.areaB },
    iso := IsoSt.reset,
    ring := RingSt.reset,
    pke := PkeSt.reset,
    kreg := { s.kreg with slots := [], working := [], lks := [], lksUsers := [], hts := [], kScr := [], kMask := [], orderKey := [],
                          lastHandle := 0, expander := [], expBlocks := 0, loose := [], bypass := false, erasing := none, fill := none,
                          commits := [] },
    dig := DigSt.reset,
    sp := SpSt.reset,
    graft := GraftSt.reset,
    tsuow := TsuowSt.reset,
    rng := { RngSt.reset with starts := s.rng.starts },
    tmp := { s.tmp with
      sources := s.tmp.sources.filterMap (fun p => let x := p.2.restart p.1; if x = Source.reset then none else some (p.1, x)),
      log := [], holdUntil := none, pulseUntil := none, heldEvents := [], act := none,
      card := { Card.reset with seated := s.tmp.card.seated } },
    lc := { s.lc with nonce := none, challenge := none, debugOpen := false, scope := 0, request := [], stopping := false,
                      tap := match s.lc.tap with
                        | .debug _ => .bypass
                        | t => t },
    upd := { s.upd with phase := 0, area := 0, trialUntil := none, running := [], verifyAt := none, octal := false },
    pwr := { s.pwr with pllRunning := false, clockGated := false, voutAt := none, writeTries := 0, writePending := false,
                        noPmbus := false, plan := none, temps := [], idleCfg := [] },
    rec_ := { s.rec_ with scheduled := none, reinit := none, fences := [] } }

/-- A count kept in BBRAM goes up by one; past its 32 bits the spec gives no value: a free one. -/
def nextCount (v : Nat) (s : State) : Nat := if v + 1 < 2 ^ 32 then v + 1 else Config.freeNat s.free % 2 ^ 32

/-- The device resets with a cause (R648): cast-on follows.  BOOT_SEL is sampled (R657).  Of two causes of the same moment the lower
code stands, for one reset (R659). -/
def resetDevice (cause bootSel : Nat) (s : State) : State :=
  let s1 := loseVolatile false (stopSigns s)
  let again := decide (s.upd.phase = 0 ∧ s.rec_.resetAt = some s.now)
  let out := if s.tmp.card.step = .none_ ∧ s.tmp.card.session = none then s.out else s.out ++ [.cardDeactivate]
  { s1 with
    out := out,
    free := s1.free + 1,
    upd := { s1.upd with bootSel := bootSel % 4 },
    rec_ := { s1.rec_ with cause := if again then min s.rec_.cause cause else cause, resetAt := some s.now,
                           resets := if again then s.rec_.resets else nextCount s.rec_.resets s1 } }

/-- Schedule a reset that the device makes itself; of two the earlier, of two of one moment the lower cause (R659). -/
def scheduleReset (cause : Nat) (t : Time) (s : State) : State :=
  { s with rec_ := { s.rec_ with scheduled := match s.rec_.scheduled with
      | some (c, u) => if u < t ∨ (u = t ∧ c ≤ cause) then some (c, u) else some (cause, t)
      | none => some (cause, t) } }

/-- The AON domain has stopped (R545, R649, R661): BBRAM is lost as by an erasure, the RTC, the latch and the held level are
without supply. -/
def aonStops (s : State) : State :=
  let s1 := eraseBbram s
  { s1 with pwr := { s1.pwr with rtcValid := false }, tmp := { s1.tmp with aonStopped := true } }

end Sys2Proof.Machine
end

