-- ==== Sys2Proof/Machine/Tamper.lean ====
section
/-!
DEFINITION. Tamper sources, the response's end, the pins (chapter 15) and the supply events held back (R620, R621).
-/
namespace Sys2Proof.Machine

/-! ### Events (R527, R531–R533, R620, R621) -/

/-- The sources watched on the backup cell alone (R527). -/
def cellSource (n : Nat) : Bool := decide (n = 6 ∨ n = 7 ∨ n = 8 ∨ (10 ≤ n ∧ n ≤ 16) ∨ n = 22)

/-- The sources whose events are held back for PWR_PDN_WINDOW (R620). -/
def heldSource (n : Nat) : Bool := decide (n = 1 ∨ n = 3 ∨ n = 5 ∨ n = 9)

/-- The inputs of R533. -/
def inputSource (n : Nat) : Bool := decide ((10 ≤ n ∧ n ≤ 16) ∨ n = 22)

/-- The source can give an event now: a source of the table; watched in the present supply state; not muted by RESET_N low
(R621); not STUCK, not in CHATTER (R533); S6 and the mesh pairs only after their condition has ended (R527, R533). -/
def mayEvent (s : State) (n : Nat) : Bool :=
  let x := source s n
  decide (n < 24) && !s.tmp.aonStopped && (s.pwr.supplies && !s.tmp.onCell || (s.tmp.onCell && cellSource n)) &&
    !(s.rec_.resetLow && (decide (n ≤ 5) || decide (n = 9))) && !x.stuck && !x.chatter && x.armed

/-- When the activity that gives a timed input's event began: FILTER ms before it, 3 s before it for ZERO_N (R527, R532). -/
def activityBegan (s : State) (n : Nat) : Time :=
  if n = 16 then s.now - sec 3 else s.now - ms (cfgFilter (srcCfg s n))

/-- Source `n` gives an event now: a supply event is held back, another counts at once (R531, R620). -/
def giveEvent (n : Nat) (u : UnitRef) (value : Nat) (s : State) : State :=
  if !(mayEvent s n) then s
  else if heldSource n then
    if cfgEn (srcCfg s n) then
      { s with tmp := { s.tmp with heldEvents := s.tmp.heldEvents ++
          [{ source := n, value := value, at_ := s.now, due := s.now + us (objVal s Obj.PWR_PDN_WINDOW) }] } }
    else s
  else
    let x := source s n
    let y := if timedInput n then { x with active := true, activeAt := activityBegan s n }
      else if n = 6 then { x with armed := false }
      else if n = 14 ∨ n = 15 then { x with active := true, activeAt := s.now, armed := false } else x
    tamperEvent n u value (setSource n y s)

/-- An event of an input that changes faster than its filter follows: at most one per 100 ms (R533). -/
def fastEvent (n : Nat) (u : UnitRef) (value : Nat) (s : State) : State :=
  let x := source s n
  let y := { x with changesAt := if x.changesAt.isSome then x.changesAt else some s.now, changedAt := s.now }
  let s1 := setSource n y s
  match x.eventAt with
  | some t => if s.now < t + ms 100 then s1 else giveEvent n u value s1
  | none => giveEvent n u value s1

/-- TAMPER_EVENT (R531): source `source` meets its event condition, at unit `u` where it has a level-2 scope, with a measured
value; `fast` says that the input changes faster than its filter follows. -/
def execTamperEvent (n : Nat) (u : UnitRef) (value : Nat) (fast : Bool) (s : State) : Host.Outcome State Fault Refusal :=
  .next (if fast && inputSource n then fastEvent n u value s
    else
      let x := source s n
      giveEvent n u value (if inputSource n then setSource n { x with changesAt := none } s else s))

/-! ### Samples (R527, R534, R630) -/

/-- One sample of a source with a consecutive-sample filter: `out` that it is outside; the FILTER-th in a row gives an event. -/
def sampleSource (n : Nat) (out : Bool) (value : Nat) (s : State) : State :=
  let x := source s n
  if !out then setSource n { x with run := 0 } s
  else if cfgFilter (srcCfg s n) ≤ x.run + 1 then giveEvent n .none_ value (setSource n { x with run := 0 } s)
  else setSource n { x with run := x.run + 1 } s

/-- Outside ±8 % around a target. -/
def outsideTarget (mv target : Nat) : Bool := decide (mv * 100 < target * 92 ∨ target * 108 < mv * 100)

/-- VDD_CORE is outside the window of S1: for 1 ms after a VOUT_COMMAND the union of the windows around the old and the new
target (R527, R630). -/
def coreOutside (s : State) (mv : Nat) : Bool :=
  let both := match s.pwr.voutAt with
    | some t => decide (s.now ≤ t + ms 1)
    | none => false
  outsideTarget mv s.pwr.voutNow && (!both || outsideTarget mv s.pwr.voutPrev)

/-- VBAT's sample for S6: below 2.35 V FILTER times in a row gives one event; at or above it FILTER times in a row arms the
source again (R527). -/
def sampleVbat (mv : Nat) (s : State) : State :=
  let x := source s 6
  let low := decide (mv < 2350)
  if low = x.armed then
    if low then sampleSource 6 true mv s
    else if cfgFilter (srcCfg s 6) ≤ x.run + 1 then setSource 6 { x with run := 0, armed := true } s
    else setSource 6 { x with run := x.run + 1 } s
  else setSource 6 { x with run := 0 } s

/-- The first temperature outside −45 °C to +115 °C, in 0.01 °C. -/
def tempOutside (ts : List Int) : Option Int := ts.find? (fun t => decide (t < -4500 ∨ 11500 < t))

/-- An I32 as its 32 bits. -/
def int32 (v : Int) : Nat := (BitVec.ofInt 32 v).toNat

/-- SUPPLY_SAMPLE (R527): the ADC's next sample, 16 µs later on main power, 1 ms later on the cell: VDD_CORE, VDD_SRAM,
VDD_IO18 and VBAT in mV, and the temperature sensors in 0.01 °C. -/
def execSupplySample (core sram io18 vbat : Nat) (temps : List Int) (s : State) : Host.Outcome State Fault Refusal :=
  .next (if s.tmp.aonStopped then s
    else
      let s1 := advanceTo (s.now + if s.tmp.onCell then ms 1 else us 16) s
      let hot := tempOutside temps
      let s2 := sampleSource 8 hot.isSome (int32 (hot.getD 0)) (sampleSource 7 (decide (3800 < vbat)) vbat (sampleVbat vbat s1))
      if s.tmp.onCell || !s.pwr.supplies then s2
      else
        let s3 := sampleSource 1 (coreOutside s2 core) core s2
        let s4 := sampleSource 3 (decide (sram < 740 ∨ 860 < sram)) sram s3
        let s5 := sampleSource 5 (decide (io18 < 1620 ∨ 1980 < io18)) io18 s4
        { s5 with pwr := { s5.pwr with temps := temps } })

/-- MESH_SAMPLE (R534): a mesh pair's sensed bit against the driven bit of the LFSR, 16 µs after the last on main power, 1 ms on
the cell; the FILTER-th mismatch in a row is an event of S14 or S15.  The LFSR's step and the bit it drives are not stated: free
functions of its state. -/
def execMeshSample (pair : Nat) (sensed : Bool) (s : State) : Host.Outcome State Fault Refusal :=
  .next (if s.tmp.aonStopped ∨ 2 ≤ pair then s
    else
      let s1 := advanceTo (s.now + if s.tmp.onCell then ms 1 else us 16) s
      let n := 14 + pair
      let s2 := { s1 with tmp := { s1.tmp with lfsr := Config.meshNext s1.tmp.lfsr } }
      let x := source s2 n
      if sensed = Config.meshBit s2.tmp.lfsr then setSource n { x with run := 0, armed := true, active := false } s2
      else if cfgFilter (srcCfg s2 n) ≤ x.run + 1 then giveEvent n .none_ (x.run + 1) (setSource n { x with run := x.run + 1 } s2)
      else setSource n { x with run := x.run + 1 } s2)

/-- ZERO_N_PRESS (R532): the debounced input has been low for 3 s. -/
def execZeroNPress (s : State) : Host.Outcome State Fault Refusal := .next (giveEvent 16 .none_ 0 s)

/-! ### STUCK and CHATTER (R533) -/

/-- A log entry for a flag (R544); on the cell alone nothing is logged. -/
def logFlag (n flags : Nat) (s : State) : State :=
  if s.tmp.onCell then s
  else logTamper { stamp := time64 s, source := n, level := cfgLevel (srcCfg s n), applied := heldLevel s, flags := flags,
                   value := 0 } s

/-- INPUT_STUCK (R533): 10 s of continuous activity. -/
def execInputStuck (n : Nat) (s : State) : Host.Outcome State Fault Refusal :=
  .next (let x := source s n
    if inputSource n && x.active && !x.stuck && !s.tmp.aonStopped then
      let s1 := advanceTo (x.activeAt + sec 10) s
      logFlag n fSTUCK (setSource n { x with stuck := true, changedAt := s1.now } s1)
    else s)

/-- STUCK_CLEAR (R533): the input has been inactive for 100 ms. -/
def execStuckClear (n : Nat) (s : State) : Host.Outcome State Fault Refusal :=
  .next (let x := source s n
    if inputSource n && x.stuck && !s.tmp.aonStopped then
      let s1 := advanceTo (x.changedAt + ms 100) s
      setSource n { x with stuck := false, active := false, armed := true, run := 0 } s1
    else s)

/-- INPUT_CHATTER (R533): the changes have gone on for more than 2 s: the flag, and the source's response once. -/
def execInputChatter (n : Nat) (s : State) : Host.Outcome State Fault Refusal :=
  .next (let x := source s n
    match x.changesAt with
    | none => s
    | some t =>
      if inputSource n && !x.chatter && !x.stuck && cfgEn (srcCfg s n) && !s.tmp.aonStopped then
        let s1 := advanceTo (t + sec 2 + 1) s
        confirm n .none_ 0 fCHATTER (setSource n { x with chatter := true, changedAt := s1.now, activeAt := s1.now } s1)
      else s)

/-- CHATTER_CLEAR (R533): 1 s without a change. -/
def execChatterClear (n : Nat) (s : State) : Host.Outcome State Fault Refusal :=
  .next (let x := source s n
    if inputSource n && x.chatter && !s.tmp.aonStopped then
      let s1 := advanceTo (x.changedAt + sec 1) s
      setSource n { x with chatter := false, changesAt := none, active := false, armed := true, run := 0 } s1
    else s)

/-! ### The ends of responses (R535, R537, R558) -/

/-- HOLD_EXPIRY (R535, R537): 100 µs after the last HOLD. -/
def execHoldExpiry (s : State) : Host.Outcome State Fault Refusal :=
  .next (match s.tmp.holdUntil with
    | none => s
    | some t => let s1 := advanceTo t s; { s1 with tmp := { s1.tmp with holdUntil := none } })

/-- ALARM_N is low (R558): a held response of TMP_ALARM_PIN_LEVEL or above, or a pulse; never on the cell alone. -/
def alarmLow (s : State) : Bool :=
  !s.tmp.onCell && (decide (heldLevel s ≠ 0 ∧ objVal s Obj.TMP_ALARM_PIN_LEVEL ≤ heldLevel s) || s.tmp.pulseUntil.isSome)

/-- Drive ALARM_N to what it must be now where that differs from before. -/
def drivePin (before : Bool) (s : State) : State := if alarmLow s = before then s else alarmPin (alarmLow s) s

/-- ALARM_PIN_PULSE_END (R558): 1 ms after the alarm. -/
def execAlarmPinPulseEnd (s : State) : Host.Outcome State Fault Refusal :=
  .next (match s.tmp.pulseUntil with
    | none => s
    | some t =>
      let s1 := advanceTo t s
      drivePin (alarmLow s) { s1 with tmp := { s1.tmp with pulseUntil := none } })

/-- An LED's drive (R557). -/
inductive Led where
  | off | on | blink (hz : Nat)
deriving DecidableEq, Repr

/-- LED_READY (R557). -/
def ledReady (s : State) : Led :=
  if decide (s.upd.phase ≠ 7) || s.upd.trialUntil.isSome then .blink 1 else if heldLevel s = 0 then .on else .off

/-- LED_ALARM (R557). -/
def ledAlarm (s : State) : Led :=
  if 3 ≤ heldLevel s then .on
  else if s.tmp.sources.any (fun p => p.2.stuck || p.2.chatter) || decide (240 ≤ s.lc.otp.evidence) then .blink 2 else .off

/-- LED_CARD (R557). -/
def ledCard (s : State) : Led :=
  if decide (s.tmp.card.step ≠ .none_) || s.tmp.act.isSome then .blink 4 else if s.tmp.card.session.isSome then .on else .off

/-! ### Power loss (R545, R620, R661) -/

/-- PWR_OP_HOURS now (R634): the hours VDD_CORE has been in range. -/
def hoursNow (s : State) : Nat :=
  if s.pwr.supplies then s.pwr.opHours + (s.now - s.pwr.opAt) / sec 3600 else s.pwr.opHours

/-- POWER_LOSS_DETECT (R620): a supply is below its loss threshold (VDD_CORE 0.55 V, VDD_SRAM 0.60 V, VDD_IO18 1.45 V).  Supply
events held back are discarded and the loss is counted; the device is without supply, its volatile state lost; without VDD_IO18
the AON domain runs on the cell, or stops where VBAT is not above 2.0 V. -/
def execPowerLossDetect (core sram io18 vbat : Nat) (s : State) : Host.Outcome State Fault Refusal :=
  .next (if s.pwr.supplies && decide (core < 550 ∨ sram < 600 ∨ io18 < 1450) then
      let held := !s.tmp.heldEvents.isEmpty
      let s1 := loseVolatile false (stopSigns s)
      let n := if held then nextCount s.pwr.powerLosses s1 else s.pwr.powerLosses
      let s2 := { s1 with free := s1.free + 1, pwr := { s1.pwr with supplies := false, powerLosses := n, opHours := hoursNow s } }
      if io18 < 1450 then
        let s3 := { s2 with tmp := { s2.tmp with onCell := true } }
        if 2000 < vbat then s3 else aonStops s3
      else s2
    else s)

/-- PDN_WINDOW_EXPIRY (R620): the window of the oldest event held back ends without a power loss: it is counted, dated when it
happened. -/
def execPdnWindowExpiry (s : State) : Host.Outcome State Fault Refusal :=
  .next (match s.tmp.heldEvents with
    | [] => s
    | e :: r =>
      let s1 := advanceTo e.due s
      tamperEventAt e.source .none_ e.value e.at_ { s1 with tmp := { s1.tmp with heldEvents := r } })

/-- AON_DOMAIN_STOP (R545): on the cell alone VBAT falls below 2.0 V. -/
def execAonDomainStop (s : State) : Host.Outcome State Fault Refusal :=
  .next (if s.tmp.onCell && !s.tmp.aonStopped then aonStops s else s)

/-! ### Configuration (R528–R530) -/

/-- FILTER is in the source's range (R527, R529). -/
def filterOk (n f : Nat) : Bool :=
  if n = 0 ∨ n = 2 ∨ n = 4 then decide (2 ≤ f)
  else if n = 9 ∨ n = 16 ∨ (17 ≤ n ∧ n ≤ 21) ∨ n = 23 then decide (f = 0)
  else decide (1 ≤ f)

/-- The level-2 scope of the source is not "—" (R527). -/
def hasScope (n : Nat) : Bool := decide (n = 17 ∨ (19 ≤ n ∧ n ≤ 21))

/-- A TMP_SRC_CFG value that ends BAD_VALUE (R528, R529). -/
def cfgBad (n v : Nat) : Bool :=
  decide (5 < cfgLevel v) || (decide (cfgLevel v = 2) && !(hasScope n)) || decide (cfgN v = 0) ||
    decide (cfgW v = 0 ∨ 65000 < cfgW v) || !(filterOk n (cfgFilter v))

/-- The change makes the source less sensitive (R530). -/
def lessSensitive (old v : Nat) : Bool :=
  (cfgEn old && !(cfgEn v)) || decide (cfgLevel v < cfgLevel old) || decide (cfgN old < cfgN v) ||
    decide (cfgW v < cfgW old) || decide (cfgFilter old < cfgFilter v)

/-- The written number of an object, without its reserved bits (R12). -/
def writtenVal (id : ObjId) (data : Bytes) : Nat :=
  match findObj id with
  | some o => maskedVal o data
  | none => leNat data

/-- TMP_SRC_CFG (R528–R530). -/
def cfgRule (n : Nat) (data : Bytes) (s : State) : WriteRule :=
  let v := writtenVal (at_ Obj.TMP_SRC_CFG n) data
  { plainRule (at_ Obj.TMP_SRC_CFG n) data with bad := cfgBad n v, critical := lessSensitive (srcCfg s n) v }

/-- TAMPER_CFG_WRITE (R530). -/
def execTamperCfgWrite (c : Caller) (src : Nat) (data : Bytes) (s : State) : Host.Outcome State Fault Refusal :=
  .next (if src < 24 then writeAccess c (at_ Obj.TMP_SRC_CFG src) data (cfgRule src data s) s else s)

/-- A rule of a command object that acts at once. -/
def cmdRule (act : State → State) : WriteRule :=
  { lock := false, held := false, busy := false, bad := false, critical := false, act := act }

/-- The objects that TMP_LOCK locks (R530). -/
def tmpLocked : List ObjId := Obj.TMP_ENC_POLARITY :: tabulate 24 (at_ Obj.TMP_SRC_CFG)

/-- Lock objects until the next reset. -/
def lockObjs (l : List ObjId) (s : State) : State :=
  { s with dict := { s.dict with locked := s.dict.locked ++ l.filter (fun i => !(decide (i ∈ s.dict.locked))) } }

/-- TMP_LOCK (R530). -/
def execTmpLock (c : Caller) (data : Bytes) (s : State) : Host.Outcome State Fault Refusal :=
  .next (writeAccess c Obj.TMP_LOCK data (cmdRule (lockObjs tmpLocked)) s)

/-! ### Release (R539, R543, R609) -/

/-- Bytes 0–95 of an activation record (R588). -/
def recBody (r : ActRec) : Bytes :=
  [0x5A, 0x4B, 0x41, 0x43] ++ leBytes 4 r.seq ++ leBytes 1 r.state ++ leBytes 1 r.step ++ leBytes 1 (b2n r.activeBad) ++ zeros 1 ++
    leBytes 4 r.staged ++ leBytes 8 r.activateAt ++ fitBytes 48 r.hash ++ tabulate 10 (fun i => BitVec.ofNat 8 (r.secver.getD i 0)) ++
    zeros 14

/-- A copy of the record as flash holds it: its bytes and their CHECK (R588). -/
def recBytes (r : ActRec) : Bytes := recBody r ++ sha3_256 (recBody r)

/-- The record that a copy holds, where its CHECK matches (R588). -/
def readRec (b : Bytes) : Option ActRec :=
  if b.length = 128 ∧ b.take 4 = [0x5A, 0x4B, 0x41, 0x43] ∧ b.drop 96 = sha3_256 (b.take 96) then
    some { seq := field b 4 4, state := byteAt b 8, step := byteAt b 9, activeBad := bit (byteAt b 10) 0, staged := field b 12 4,
           activateAt := field b 16 8, hash := slice b 24 48, secver := tabulate 10 (fun i => byteAt b (72 + i)) }
  else none

/-- The activation record in use (R588): of the copies whose CHECK matches the one with the higher SEQ. -/
def actRec (s : State) : ActRec :=
  match readRec s.upd.recA, readRec s.upd.recB with
  | none, none => ActRec.blank
  | some a, none => a
  | none, some b => b
  | some a, some b => if a.seq ≤ b.seq then b else a

/-- A pending activation whose time has come takes place, by a reset, once no response is held (R608, R609). -/
def activateIfDue (s : State) : State :=
  let r := actRec s
  if r.state = 6 ∧ r.activateAt ≤ time64 s ∧ s.tmp.held = 0 then scheduleReset rACTIVATION s.now s else s

/-- Release the held response (R539, R540): sources may burn again; after level 4 the archive is restored first, after level 5 it stays
UNUSABLE. -/
def releaseHeld (s : State) : State :=
  let low := alarmLow s
  let f := fun (_ : Nat) (x : Source) => { x with burnt := false }
  let deep := decide (s.tmp.held = 4) && decide (s.lc.st = .mission)
  let s1 := { s with tmp := { s.tmp with held := 0, sources := (mmap f s.tmp.sources).filter (fun p => decide (p.2 ≠ Source.reset)) } }
  let s2 := setObj Obj.TMP_RELEASE_STATE (if deep then 1 else 2) s1
  let s3 := noticed Obj.TMP_HELD (drivePin low s2)
  activateIfDue (if deep then s3 else renewPolls s3)

/-- TMP_RELEASE (R539, R543). -/
def releaseRule (data : Bytes) (s : State) : WriteRule :=
  { lock := false, held := false, busy := decide (objVal s Obj.TMP_RELEASE_STATE = 1),
    bad := decide (leNat data ≠ s.tmp.held) || evidenceHold s, critical := decide (4 ≤ s.tmp.held),
    act := fun t => if t.tmp.held = 0 then t else releaseHeld t }

/-- TMP_RELEASE (R539). -/
def execTmpRelease (c : Caller) (data : Bytes) (s : State) : Host.Outcome State Fault Refusal :=
  .next (writeAccess c Obj.TMP_RELEASE data (releaseRule data s) s)

/-- TMP_AON_CLEAR (R559). -/
def clearLatch (s : State) : State :=
  setObj Obj.TMP_AON_LOST 0 { s with tmp := { s.tmp with latch := [] } }

/-- TMP_AON_CLEAR (R559). -/
def execTmpAonClear (c : Caller) (data : Bytes) (s : State) : Host.Outcome State Fault Refusal :=
  .next (writeAccess c Obj.TMP_AON_CLEAR data (cmdRule clearLatch) s)

/-! ### Officers and quorum (R553, R556) -/

/-- TMP_QUORUM_CANCEL (R556). -/
def execTmpQuorumCancel (c : Caller) (data : Bytes) (s : State) : Host.Outcome State Fault Refusal :=
  .next (writeAccess c Obj.TMP_QUORUM_CANCEL data (cmdRule dropAct) s)

/-- QUORUM_EXPIRY (R556): five minutes after the first approval. -/
def execQuorumExpiry (s : State) : Host.Outcome State Fault Refusal :=
  .next (match s.tmp.act with
    | none => s
    | some a => dropAct (advanceTo (a.firstAt + sec 300) s))

/-- An enrolment change takes effect on one write (R553): in PROVISION, with fewer than k officers enrolled. -/
def enrolFree (s : State) : Bool := inProvision s && decide (officers s < objVal s Obj.TMP_QUORUM_K)

/-- Close the card session (R552). -/
def closeCard (s : State) : State :=
  match s.tmp.card.session with
  | none => s
  | some _ => noticed Obj.TMP_CARD_STATE
      { s with tmp := { s.tmp with card := { s.tmp.card with session := none, st := .unknown } } }

/-- A change of an officer's record closes that officer's card session (R552). -/
def officerChanged (o : Nat) (s : State) : State := if s.tmp.card.session = some o then closeCard s else s

/-- Officers enrolled after the write of key ID `v` for officer `o`. -/
def officersAfter (s : State) (o v : Nat) : Nat :=
  let was := decide (objVal s (at_ Obj.TMP_OFF_KEY_ID o) ≠ 0)
  if v ≠ 0 then (if was then officers s else officers s + 1) else (if was then officers s - 1 else officers s)

/-- TMP_OFF_KEY_ID (R553). -/
def enrolRule (o : Nat) (data : Bytes) (s : State) : WriteRule :=
  { plainRule (at_ Obj.TMP_OFF_KEY_ID o) data with
    bad := decide (s.lc.st = .mission) && decide (officersAfter s o (leNat data) < objVal s Obj.TMP_QUORUM_K),
    critical := !(enrolFree s),
    act := fun t => officerChanged o (noticed Obj.TMP_OFFICERS (setObj (at_ Obj.TMP_OFF_KEY_ID o) (leNat data) t)) }

/-- OFFICER_ENROL_WRITE (R553). -/
def execOfficerEnrolWrite (c : Caller) (o : Nat) (data : Bytes) (s : State) : Host.Outcome State Fault Refusal :=
  .next (if o < 16 then writeAccess c (at_ Obj.TMP_OFF_KEY_ID o) data (enrolRule o data s) s else s)

end Sys2Proof.Machine
end

