-- ==== Sys2Proof/Machine/Power.lean ====
section
/-!
DEFINITION. The gauge, the core regulator, sleep and the RTC (chapter 18).
-/
namespace Sys2Proof.Machine

/-! ### Planning (R627, R628, R632, R633) -/

/-- The measured slack at a point in 0.01 %; a point that was not measured never suffices. -/
def slackAt (m : GaugeData) (mhz mv : Nat) : Int :=
  match m.slack.find? (fun p => decide (p.1 = mhz ∧ p.2.1 = mv)) with
  | some p => p.2.2
  | none => -10000

/-- The clocks a plan tries: 1,200 MHz and the 25 MHz steps below it, down to PWR_CLOCK_FLOOR. -/
def planClocks (floor : Nat) : List Nat := (tabulate 13 (fun i => 1200 - 25 * i)).filter (fun f => decide (floor ≤ f))

/-- The voltages a plan tries, from the lowest. -/
def planVolts : List Nat := tabulate 41 (fun i => 650 + 5 * i)

/-- The voltage of a plan: the lowest at which the slack suffices; where none does the spec names none: a free one of them. -/
def planMv (m : GaugeData) (guard : Nat) (mhz free : Nat) : Nat :=
  (planVolts.find? (fun v => decide ((guard : Int) ≤ slackAt m mhz v))).getD (650 + 5 * (free % 41))

/-- A plan (R628) with what it will report: its state is AT_FLOOR where no clock suffices, CLOCK_LOWERED below 1,200 MHz,
VOLTAGE_CEILING at 850 mV, NORMAL otherwise. -/
def makePlan (m : GaugeData) (guard floor free : Nat) : PlanRun :=
  let clock := (planClocks floor).find? (fun f => decide ((guard : Int) ≤ slackAt m f 850))
  let f := clock.getD floor
  let v := planMv m guard f free
  let d := (tabulate 9 (· + 4)).find? (fun x => decide (x ∈ m.dividers))
  { plan := { mhz := f, mv := v, divider := d.getD 12 },
    margin := (slackAt m f v).toNat % 65536,
    years := min m.years 999,
    state := if clock.isNone then 3 else if f < 1200 then 2 else if v = 850 then 1 else 0,
    rngLow := d.isNone }

/-- A plan ends (R627–R633): what it reports, the BBRAM plan, the divider. -/
def endPlan (r : PlanRun) (s : State) : State :=
  let s1 := { s with pwr := { s.pwr with plan := none, bbPlan := some r.plan } }
  let s2 := setDivider r.plan.divider (setObj Obj.PWR_MARGIN r.margin (setObj Obj.PWR_YEARS r.years
    (setObj Obj.PWR_RNG_LOW (b2n r.rngLow) (setObj Obj.PWR_LAST_REPLAN (time64 s1) s1))))
  let st := if s2.pwr.noPmbus || s2.pwr.linear16.isNone then 4 else r.state
  let short := decide (r.years < 20 ∧ 20 ≤ objVal s Obj.PWR_YEARS)
  let s3 := setObj Obj.PWR_GAUGE_STATE st s2
  if short then noticed Obj.PWR_GAUGE_STATE s3 else s3

/-- The regulator can be written: it speaks LINEAR16 and is not given up until the next plan (R631). -/
def canWrite (s : State) : Bool := s.pwr.linear16.isSome && !s.pwr.noPmbus

/-- The voltage to which writes go next for a plan, if any write is due: up to 850 mV before the clock is lowered, to the plan's
voltage otherwise; a fall waits for its clock change (R628, R629). -/
def nextVolt (s : State) (p : Plan) : Option Nat :=
  if !(canWrite s) then none
  else if p.mhz < s.pwr.mhz then (if s.pwr.voutNow < 850 then some 850 else none)
  else if s.pwr.mhz < p.mhz then (if s.pwr.voutNow < p.mv then some p.mv else none)
  else if s.pwr.voutNow ≠ p.mv then some p.mv else none

/-- Where no write is due before it, the clock change of the plan is made; where nothing is left the plan ends (R628, R629). -/
def carryOn (s : State) : State :=
  match s.pwr.plan with
  | none => s
  | some r =>
    match nextVolt s r.plan with
    | some _ => s
    | none =>
      let s1 := { s with pwr := { s.pwr with mhz := r.plan.mhz } }
      match nextVolt s1 r.plan with
      | some _ => s1
      | none => endPlan r s1

/-- The gauge plans (R628): a plan begun while one is carried out replaces it. -/
def beginPlan (m : GaugeData) (s : State) : State :=
  let r := makePlan m (objVal s Obj.PWR_GUARD) (objVal s Obj.PWR_CLOCK_FLOOR) (Config.freeNat s.free)
  let s1 := { s with free := s.free + 1, pwr := { s.pwr with plan := some r, noPmbus := false } }
  carryOn (setObj Obj.PWR_VCORE_TARGET r.plan.mv s1)

/-- The next multiple of 24 hours at which the gauge plans. -/
def nextPlanHours (s : State) : Nat := (max s.pwr.lastPlanHours (hoursNow s) / 24 + 1) * 24

/-- GAUGE_REPLAN_DUE (R628): PWR_OP_HOURS reaches a multiple of 24. -/
def execGaugeReplanDue (m : GaugeData) (s : State) : Host.Outcome State Fault Refusal :=
  .next (if s.pwr.supplies && decide (s.upd.phase = 7) then
      let h := nextPlanHours s
      let s1 := wakeCore (advanceTo (s.pwr.opAt + sec 3600 * (h - s.pwr.opHours)) s)
      beginPlan m { s1 with pwr := { s1.pwr with lastPlanHours := h } }
    else s)

/-- PWR_REPLAN (R628): BUSY while a plan is carried out. -/
def replanRule (m : GaugeData) (s : State) : WriteRule :=
  { lock := false, held := false, busy := s.pwr.plan.isSome, bad := false, critical := false, act := beginPlan m }

/-- PWR_REPLAN (R628). -/
def execPwrReplan (c : Caller) (m : GaugeData) (data : Bytes) (s : State) : Host.Outcome State Fault Refusal :=
  .next (writeAccess c Obj.PWR_REPLAN data (replanRule m s) s)

/-! ### The regulator (R629–R631) -/

/-- A voltage in LINEAR16 with exponent `e`: the nearest mantissa below. -/
def linear16 (e : Int) (mv : Nat) : Nat :=
  if e < 0 then mv * 2 ^ e.natAbs / 1000 else mv / (1000 * 2 ^ e.natAbs)

/-- Write VOUT_COMMAND. -/
def writeVout (mv : Nat) (s : State) : State :=
  emit (.pmbus (objVal s Obj.PWR_PMBUS_ADDR) 0x21 (leBytes 2 (linear16 (s.pwr.linear16.getD 0) mv))) s

/-- VOUT_STEP (R629): the next write of 5 mV towards the plan's voltage, at least 200 µs after the last. -/
def execVoutStep (s : State) : Host.Outcome State Fault Refusal :=
  .next (match s.pwr.plan with
    | none => s
    | some r =>
      match nextVolt s r.plan with
      | none => carryOn s
      | some goal =>
        let t := match s.pwr.voutAt with
          | some t => t + us 200
          | none => s.now
        let s1 := advanceTo t s
        let old := s.pwr.voutNow
        let new := if old < goal then min goal (old + 5) else max goal (old - 5)
        let w := { s1.pwr with voutPrev := old, voutNow := new, voutAt := some s1.now, writePending := true, writeTries := 0 }
        carryOn (writeVout new { s1 with pwr := w }))

/-- PMBUS_WRITE_RESULT (R631): 1 ms after a write.  A failure is retried up to three times; then the device writes nothing more
until the next plan and keeps the last acknowledged target. -/
def execPmbusWriteResult (ack pec : Bool) (readMv : Nat) (s : State) : Host.Outcome State Fault Refusal :=
  .next (match s.pwr.voutAt with
    | none => s
    | some t =>
      if !s.pwr.writePending then s
      else
        let s0 := advanceTo (t + ms 1) s
        let s1 := if ack && pec then setObj Obj.PWR_VCORE_READ (readMv % 65536) s0 else s0
        let near := decide (readMv ≤ s.pwr.voutNow + 15 ∧ s.pwr.voutNow ≤ readMv + 15)
        if ack && pec && near then
          { s1 with pwr := { s1.pwr with writePending := false, writeTries := 0, voutAcked := s1.pwr.voutNow } }
        else if s1.pwr.writeTries < 3 then
          writeVout s1.pwr.voutNow { s1 with pwr := { s1.pwr with writeTries := s1.pwr.writeTries + 1, voutAt := some s1.now } }
        else
          let s2 := bump Obj.PWR_PMBUS_ERRS (bump Obj.ERR_PMBUS (setObj Obj.PWR_GAUGE_STATE 4 s1))
          let w := { s2.pwr with writePending := false, writeTries := 0, noPmbus := true, voutPrev := s2.pwr.voutNow,
                                 voutNow := s2.pwr.voutAcked }
          carryOn { s2 with pwr := w })

/-- PM_ALERT (R631): STATUS_WORD is read into PWR_PMBUS_STATUS. -/
def execPmAlert (status : Nat) (s : State) : Host.Outcome State Fault Refusal :=
  .next (if s.pwr.supplies && decide (s.upd.phase ≠ 0) then setObj Obj.PWR_PMBUS_STATUS (status % 65536) s else s)

/-! ### Sleep (R624, R625) -/

/-- The idle settings that hold for an idle period that began at `t` (R625). -/
def idleAt (s : State) (t : Time) : IdleCfg :=
  match s.pwr.idleCfg.find? (fun c => decide (t < c.changedAt)) with
  | some c => c
  | none => { changedAt := 0, sliceIdle := objVal s Obj.PWR_SLICE_IDLE, sliceGate := objVal s Obj.PWR_SLICE_GATE,
              pllIdle := objVal s Obj.PWR_PLL_IDLE }

/-- A write of an idle setting (R625): what holds until the next idle period is remembered. -/
def idleRule (id : ObjId) (data : Bytes) : WriteRule :=
  { plainRule id data with act := fun s =>
      let c := { idleAt s s.now with changedAt := s.now }
      (plainRule id data).act { s with pwr := { s.pwr with idleCfg := s.pwr.idleCfg ++ [c] } } }

/-- SLICE_POWER_GATE (R624): a slice idle for PWR_SLICE_IDLE while PWR_SLICE_GATE is 1. -/
def execSlicePowerGate (n : Nat) (s : State) : Host.Outcome State Fault Refusal :=
  .next (let x := slice_ s n
    let c := idleAt s x.idleSince
    if decide (n < 36) && decide (x.st = .idle) && decide (c.sliceGate = 1) then
      setSlice n { x with st := .gated } (advanceTo (x.idleSince + us c.sliceIdle) s)
    else s)

/-- The engine has work: a slice busy, a digest job, a key-manager command or a bench request (R624). -/
def engineBusy (s : State) : Bool :=
  s.pke.slices.any (fun p => !(decide (p.2.st = .idle ∨ p.2.st = .gated ∨ p.2.st = .fenced))) ||
    s.dig.units.any (fun p => !p.2.jobs.isEmpty) || (unitHead s 9).isSome || (unitHead s 0x0A).isSome ||
    s.pke.benches.any (fun p => p.2.holder.isSome || !p.2.preempted.isEmpty)

/-- The end of the engine's last work: a slice's, a digest job's, a key-manager command's, a bench request's. -/
def lastWork (s : State) : Time := s.pke.slices.foldl (fun t p => max t p.2.idleSince) s.pwr.engineAt

/-- Graft work continues (R679): the steps of an exchange, or fragments that have not left. -/
def graftWork (s : State) : Bool := s.graft.circuits.any (fun p => decide (p.2.stage ≠ .none_) || !p.2.outFrags.isEmpty)

/-- ENGINE_CLOCK_GATE (R624): no engine work for PWR_PLL_IDLE. -/
def execEngineClockGate (s : State) : Host.Outcome State Fault Refusal :=
  .next (if s.pwr.pllRunning && !s.pwr.clockGated && !(engineBusy s) then
      let s1 := advanceTo (lastWork s + us (idleAt s (lastWork s)).pllIdle) s
      { s1 with pwr := { s1.pwr with clockGated := true } }
    else s)

/-- PLL_STOP (R624, R679): the clock root gated, both ports DOWN, the core in retention, no graft work. -/
def execPllStop (s : State) : Host.Outcome State Fault Refusal :=
  .next (if s.pwr.clockGated && decide ((port s 0).st = .down) && decide ((port s 1).st = .down) && s.tsuow.core.retention &&
      !(graftWork s) then
      { s with pwr := { s.pwr with pllRunning := false } }
    else s)

/-- TSUOW_RETENTION (R624, R679): no dictionary access, interrupt or ready service call for 1 ms. -/
def execTsuowRetention (s : State) : Host.Outcome State Fault Refusal :=
  .next (if supervisorUp s && decide (s.upd.phase = 7) && s.dict.queue.isEmpty && s.tsuow.current.isNone && s.tsuow.readyQ.isEmpty then
      let s1 := advanceTo (s.tsuow.activeAt + ms 1) s
      { s1 with tsuow := { s1.tsuow with core := { s1.tsuow.core with retention := true } } }
    else s)

/-! ### The RTC (R635) -/

/-- Set the RTC (R635): it runs on from the value; the write is counted and recorded. -/
def setRtc (v : Nat) (s : State) : State :=
  let before := time64 s
  let s1 := { s with
    free := s.free + 1,
    pwr := { s.pwr with rtcBase := v % 2 ^ 64, rtcAt := s.now, rtcValid := true, rtcSets := nextCount s.pwr.rtcSets s } }
  setObj Obj.PWR_RTC_LAST_SET (leNat (leBytes 8 before ++ leBytes 8 v)) s1

/-- PWR_RTC (R635). -/
def rtcRule (data : Bytes) : WriteRule := cmdRule (setRtc (leNat data))

/-- PWR_RTC_WRITE (R635). -/
def execPwrRtcWrite (c : Caller) (data : Bytes) (s : State) : Host.Outcome State Fault Refusal :=
  .next (writeAccess c Obj.PWR_RTC data (rtcRule data) s)

end Sys2Proof.Machine
end

