-- ==== Sys2Proof/Machine/Recover.lean ====
section
/-!
DEFINITION. Re-initialisation (R639) and the resets that a write or the device itself starts (R646–R648, R657, R659).
-/
namespace Sys2Proof.Machine

/-! ### Re-initialisation (R639) -/

/-- The slice is fenced or has nothing to do. -/
def sliceQuiet (s : State) (n : Nat) : Bool :=
  let x := slice_ s n
  decide (x.st = .idle ∨ x.st = .gated ∨ x.st = .fenced) && x.job.isNone

/-- A bench requester has a burst at some bench. -/
def requesterBusy (s : State) (n : Nat) : Bool :=
  s.pke.benches.any (fun p => (p.2.holder.toList ++ p.2.preempted).any (fun b => decide (b.requester = n)))

/-- A pipeline has a packet in process. -/
def pipeBusy (s : State) (n : Nat) : Bool :=
  s.sp.circuits.any (fun p => p.2.queue.any (fun q => decide (q.pipe = n) && !q.done))

/-- The unit runs a job. -/
def reinitBusy (s : State) : ReUnit → Bool
  | .slice n => !(sliceQuiet s n)
  | .requester n => requesterBusy s n
  | .digest n => !(digUnit s n).jobs.isEmpty || (digUnit s n).initAt.isSome
  | .pipe n => pipeBusy s n || (pipe s n).initAt.isSome
  | .rng => decide (s.rng.st = .startup ∨ s.rng.st = .retest)

/-- Reset the unit and start its known-answer test (R639): a fence stays until the test passes. -/
def beginReinit (u : ReUnit) (s : State) : State :=
  let s1 := match u with
    | .slice n => if (slice_ s n).st = SliceState.fenced then s else setSlice n { (slice_ s n).cleared with st := .init, initAt := s.now, seeded := decide (s.rng.st = RngState.ready) } s
    | .digest n => setDigUnit n { digUnit s n with initAt := some s.now } s
    | .pipe n => setPipe n { pipe s n with initAt := some s.now } s
    | .requester _ => s
    | .rng => s
  setObj Obj.ERR_REINIT_RESULT 1 { s1 with rec_ := { s1.rec_ with reinit := some u, reinitAt := s1.now } }

/-- A re-initialisation object (R639): BUSY while the unit runs a job or another re-initialisation runs. -/
def reinitRule (u : ReUnit) (s : State) : WriteRule :=
  { lock := false, held := false, busy := s.rec_.reinit.isSome || reinitBusy s u, bad := false, critical := false,
    act := beginReinit u }

/-- ERR_SLICE_REINIT (R639). -/
def execErrSliceReinit (c : Caller) (data : Bytes) (s : State) : Host.Outcome State Fault Refusal :=
  .next (writeAccess c Obj.ERR_SLICE_REINIT data (reinitRule (.slice (leNat data)) s) s)

/-- ERR_REQ_REINIT (R639). -/
def execErrReqReinit (c : Caller) (data : Bytes) (s : State) : Host.Outcome State Fault Refusal :=
  .next (writeAccess c Obj.ERR_REQ_REINIT data (reinitRule (.requester (leNat data)) s) s)

/-- ERR_DIG_REINIT (R639). -/
def execErrDigReinit (c : Caller) (data : Bytes) (s : State) : Host.Outcome State Fault Refusal :=
  .next (writeAccess c Obj.ERR_DIG_REINIT data (reinitRule (.digest (leNat data)) s) s)

/-- ERR_PIPE_REINIT (R639). -/
def execErrPipeReinit (c : Caller) (data : Bytes) (s : State) : Host.Outcome State Fault Refusal :=
  .next (writeAccess c Obj.ERR_PIPE_REINIT data (reinitRule (.pipe (leNat data)) s) s)

/-- The bound of a re-initialisation in ns (R639); that of the source is its start-up's. -/
def reinitBound : ReUnit → Time
  | .slice _ => us 1020
  | .requester _ => us 10
  | .digest _ => us 500
  | .pipe _ => us 51
  | .rng => 0

/-- The fence map's number of a unit (R650). -/
def reinitBit : ReUnit → Nat
  | .slice n => n
  | .requester n => n
  | .digest n => 41 + n
  | .pipe n => 45 + n
  | .rng => fenceRng

/-- The known-answer test passes: the unit is unfenced and ready. -/
def liftFence (u : ReUnit) (s : State) : State :=
  let s1 := { s with rec_ := { s.rec_ with fences := dropAll (reinitBit u) s.rec_.fences } }
  match u with
  | .slice n => setSlice n { Slice.reset with st := .idle, idleSince := s1.now, seeded := decide (s1.rng.st = RngState.ready) } s1
  | .requester n => { s1 with pke := { s1.pke with fencedReq := dropAll n s1.pke.fencedReq } }
  | .digest n => setDigUnit n { DigUnit.reset with last := (digUnit s1 n).last, quantum := (digUnit s1 n).quantum } s1
  | .pipe n => setPipe n Pipe.reset s1
  | .rng => s1

/-- The known-answer test fails: a fenced unit stays fenced; another is fenced with cause KAT (R636, R639). -/
def keepFence (u : ReUnit) (s : State) : State :=
  match u with
  | .slice n => if (slice_ s n).st = SliceState.fenced then s else fenceSlice n cKAT .faultDetected 0 s
  | .requester n => if n ∈ s.pke.fencedReq then s else fenceRequester n cKAT none .faultDetected 0 s
  | .digest n =>
    let s1 := setDigUnit n { digUnit s n with initAt := none } s
    if (digUnit s n).fenced then s1 else fenceDigest n cKAT .faultDetected 0 s1
  | .pipe n =>
    let s1 := setPipe n { pipe s n with initAt := none } s
    if (pipe s n).fenced then s1 else fencePipe n cKAT s1
  | .rng => s

/-- REINIT_COMPLETE (R639): the known-answer test ends, within its bound.  The source's ends with its start-up (R520). -/
def execReinitComplete (pass : Bool) (s : State) : Host.Outcome State Fault Refusal :=
  .next (match s.rec_.reinit with
    | none => s
    | some .rng => s
    | some u =>
      let s1 := usedFree (advanceTo (s.rec_.reinitAt + Config.freeNat s.free % (reinitBound u + 1)) s)
      let s2 := { s1 with rec_ := { s1.rec_ with reinit := none } }
      setObj Obj.ERR_REINIT_RESULT (if pass then 2 else 3) (if pass then liftFence u s2 else keepFence u s2))

/-! ### Resets (R646–R648, R657, R659) -/

/-- ERR_RESET (R648): the device resets 1 ms after the write; a further write in that time ends BUSY (R46). -/
def errResetRule (s : State) : WriteRule :=
  { cmdRule (fun t => scheduleReset rERR_RESET (t.now + ms 1) t) with busy := s.rec_.scheduled.any (fun p => decide (p.1 = rERR_RESET)) }

/-- ERR_RESET (R648). -/
def execErrReset (c : Caller) (data : Bytes) (s : State) : Host.Outcome State Fault Refusal :=
  .next (writeAccess c Obj.ERR_RESET data (errResetRule s) s)

/-- SELF_RESET (R648): the scheduled reset takes place. -/
def execSelfReset (bootSel : Nat) (s : State) : Host.Outcome State Fault Refusal :=
  .next (match s.rec_.scheduled with
    | none => s
    | some (c, t) => resetDevice c bootSel (advanceTo t s))

/-- RESET_N (R646, R657, R659): low for 0.8 µs resets the device; its rising edge samples BOOT_SEL and lets cast-on begin. -/
def execResetN (low : Bool) (bootSel : Nat) (s : State) : Host.Outcome State Fault Refusal :=
  .next (if !s.pwr.supplies then s
    else if low then
      if s.rec_.resetLow then s
      else
        let s1 := resetDevice rRESET_N s.upd.bootSel s
        { s1 with rec_ := { s1.rec_ with resetLow := true } }
    else if s.rec_.resetLow then
      { s with rec_ := { s.rec_ with resetLow := false }, upd := { s.upd with bootSel := bootSel % 4 } }
    else s)

/-- PERST_N_RESET (R175, R647): PERST_N low for 1 ms resets the device while ERR_PERST_RESET is 1; otherwise it has the outcome of
R175 alone. -/
def execPerstNReset (bootSel : Nat) (s : State) : Host.Outcome State Fault Refusal :=
  .next (if !s.pwr.supplies then s
    else if objVal s Obj.ERR_PERST_RESET = 1 then resetDevice rPERST_N bootSel s else pcieReset s)

/-- POWER_ON_RESET (R577, R595, R617, R635): the supplies are in range and SYSCLK is stable; the RTC counts from 0 where it was lost; the TAP
is in Test-Logic-Reset. -/
def execPowerOnReset (bootSel : Nat) (s : State) : Host.Outcome State Fault Refusal :=
  .next (if s.pwr.supplies then s
    else
      let s1 := loseVolatile true s
      let lost := s.tmp.aonStopped
      { s1 with
        free := s.free + 1,
        upd := { s1.upd with bootSel := bootSel % 4 },
        pwr := { s1.pwr with
          supplies := true, opAt := s1.now,
          rtcBase := if lost then 0 else s1.pwr.rtcBase, rtcAt := if lost then s1.now else s1.pwr.rtcAt },
        tmp := { s1.tmp with onCell := false, aonStopped := false },
        lc := { s1.lc with tap := .idcode, extest := false, boundary := [] },
        rec_ := { s1.rec_ with cause := rPOWER_ON, resets := nextCount s.rec_.resets s, resetLow := false } })

end Sys2Proof.Machine
end

