-- ==== Sys2Proof/Machine/Update.lean ====
section
/-!
DEFINITION. Bundles and field update (chapter 17): verification, staging, activation, trial and confirmation.
-/
namespace Sys2Proof.Machine

/-! ### Signatures of the firmware's own checks -/

/-- SHA-384 of a byte string. -/
def sha384 (b : Bytes) : Bytes := primOut (.hash 0x02) [b] 48

/-- An ML-DSA signature of parameter set `p` (2 ML-DSA-65, 3 ML-DSA-87), pure mode, verifies. -/
def dsaOk (p : Nat) (pk ctx msg sig : Bytes) : Bool :=
  Config.primBool (.mldsaVerify p) [pk, messageRep 0 ctx.length 0 (ctx ++ msg), sig, leBytes 1 0]

/-- An ECDSA P-384 signature over SHA-384 of the message verifies. -/
def p384Ok (pk msg sig : Bytes) : Bool :=
  !(pointBad 2 pk) && eccVerifies 2 pk (sha384 msg) sig (zeros 2)

/-- An LMS signature verifies. -/
def lmsOk (pk msg sig : Bytes) : Bool := Config.primBool (.htsVerify 1) [pk, msg, sig]

/-- Boot ROM constants (R43, R563, R566, R581, R591): `n` bytes of constant `which`. -/
def rom (which n : Nat) : Bytes := tabulate n (Config.romByte which)

/-- The firmware anchors (R591), the life-cycle anchor (R566), the DDAS anchor (R581) and the image key K_fw (R591). -/
def fwDsa : Bytes := rom 10 2592
def fwLms : Bytes := rom 11 56
def lcDsa : Bytes := rom 12 2592
def lcEc : Bytes := rom 13 97
def ddasDsa : Bytes := rom 14 2592
def ddasEc : Bytes := rom 15 97
def imageKey : Bytes := rom 16 32

/-! ### Bundles (R589–R593) -/

/-- The most a bundle holds. -/
abbrev bundleMax : Nat := 7274496

/-- Fields of a manifest (R589). -/
def mfCount (b : Bytes) : Nat := byteAt b 5
def mfFormat (b : Bytes) : Nat := field b 6 2
def mfVersion (b : Bytes) : Nat := field b 8 4
def mfId (b : Bytes) : Bytes := slice b 16 16
def mfSigned (b : Bytes) : Nat := 64 + 96 * mfCount b

/-- Entry `i`'s 96 bytes and their fields (R590). -/
def mfEntry (b : Bytes) (i : Nat) : Bytes := slice b (64 + 96 * i) 96
def enType (e : Bytes) : Nat := byteAt e 0
def enIndex (e : Bytes) : Nat := byteAt e 1
def enSecver (e : Bytes) : Nat := field e 8 2
def enOffset (e : Bytes) : Nat := field e 12 4
def enLength (e : Bytes) : Nat := field e 16 4
def enHash (e : Bytes) : Bytes := slice e 32 48

/-- The manifest's entries. -/
def mfEntries (b : Bytes) : List Bytes := tabulate (mfCount b) (mfEntry b)

/-- One entry's own rules (R590, R592). -/
def entryOk (b e : Bytes) : Bool :=
  decide (1 ≤ enType e ∧ enType e ≤ 10) && (if enType e = 9 then decide (enIndex e < 64) else decide (enIndex e = 0)) &&
    allZero (slice e 2 2) && allZero (slice e 10 2) && decide (enSecver e ≤ 32) && decide (enOffset e % 4096 = 0) &&
    decide (enOffset e + enLength e ≤ b.length)

/-- Two entries can stand in one bundle: their bodies do not overlap, and they are not of the same type, or programs of two
cells (R592). -/
def entriesMeet (e f : Bytes) : Bool :=
  (decide (enOffset e + enLength e ≤ enOffset f) || decide (enOffset f + enLength f ≤ enOffset e)) &&
    (decide (enType e ≠ enType f) || (decide (enType e = 9) && decide (enIndex e ≠ enIndex f)))

/-- The first entry that breaks a rule of R590 or R592 by itself or with one before it. -/
def badEntry (b : Bytes) : List Bytes → Nat → List Bytes → Option Nat
  | _, _, [] => none
  | before, i, e :: r =>
    if !(entryOk b e) || !(before.all (entriesMeet e)) then some i else badEntry b (e :: before) (i + 1) r

/-- A verification's failure (R593): its UPD_LAST_ERR result and the failing entry, if there is one. -/
structure BundleErr where
  result : Nat
  entry : Option Nat
deriving DecidableEq, Repr

/-- Check 1 of R593. -/
def formatErr (b : Bytes) : Option BundleErr :=
  if decide (b.take 4 ≠ [0x5A, 0x4B, 0x4D, 0x46]) || decide (byteAt b 4 ≠ 1) || decide (mfCount b < 1 ∨ 80 < mfCount b) ||
      !(allZero (slice b 14 2)) || !(allZero (slice b 40 24)) || decide (bundleMax < b.length) then some ⟨1, none⟩
  else match badEntry b [] 0 (mfEntries b) with
    | some i => some ⟨1, some i⟩
    | none => if (mfEntries b).any (fun e => decide (enType e = 1)) then none else some ⟨1, none⟩

/-- Check 2: both signatures verify. -/
def signaturesOk (b : Bytes) : Bool :=
  let n := mfSigned b
  let m := b.take n
  dsaOk 3 fwDsa (ascii "zk-fw") m (slice b n 4627) && lmsOk fwLms m (slice b (n + 4627) 1772)

/-- Check 3: the ISA version against FEAT0 (R476). -/
def isaOk (b : Bytes) : Bool :=
  let f0 := ((featReg 0).getD 0).toNat
  decide (byteAt b 12 = f0 / 65536) && decide (byteAt b 13 ≤ f0 % 65536)

/-- The OTP security version of a type (R594). -/
def otpSecver (o : Otp) (t : Nat) : Nat := tget (fun _ => 0) o.secver t

/-- K_img of a bundle (R591). -/
def bundleKey (b : Bytes) : Bytes := kmac256 imageKey (mfId b) (ascii "ZKIMG")

/-- A body's ciphertext and plaintext. -/
def bodyCt (b e : Bytes) : Bytes := slice b (enOffset e) (enLength e)
def bodyPlain (b e : Bytes) : Bytes := gcmXor (bundleKey b) (slice e 20 12) (bodyCt b e)

/-- Check 5 for one entry: tag and hash. -/
def bodyOk (b e : Bytes) : Bool :=
  decide (gcmTag (bundleKey b) (slice e 20 12) (e.take 32) (bodyCt b e) = slice e 80 16) && decide (sha384 (bodyPlain b e) = enHash e)

/-- The first failure of R593, if any. -/
def bundleErr (o : Otp) (b : Bytes) : Option BundleErr :=
  match formatErr b with
  | some e => some e
  | none =>
    if !(signaturesOk b) then some ⟨2, none⟩
    else if !(isaOk b) then some ⟨3, none⟩
    else match (mfEntries b).findIdx? (fun e => decide (enSecver e < otpSecver o (enType e))) with
      | some i => some ⟨4, some i⟩
      | none => match (mfEntries b).findIdx? (fun e => !(bodyOk b e)) with
        | some i => some ⟨5, some i⟩
        | none => none

/-- The entry of a type (and cell), if the bundle has one. -/
def findEntry (b : Bytes) (t i : Nat) : Option Bytes := (mfEntries b).find? (fun e => decide (enType e = t ∧ enIndex e = i))

/-- Write UPD_LAST_ERR (R593, R616).  Its entry byte where no entry fails, and its detail, are not stated: free values. -/
def lastErr (result : Nat) (entry : Option Nat) (s : State) : State :=
  let n := Config.freeNat s.free
  let e := match entry with
    | some i => i
    | none => n % 256
  setObj Obj.UPD_LAST_ERR (leNat (leBytes 1 result ++ leBytes 1 e ++ zeros 2 ++ leBytes 4 (n / 256))) (usedFree s)

/-! ### The activation record (R588) -/

/-- Write the activation record (R588): into the other copy, with SEQ plus 1; UPD_STATE follows it. -/
def putRec (f : ActRec → ActRec) (s : State) : State :=
  let r := actRec s
  let w := { f r with seq := r.seq + 1 }
  let toA := match readRec s.upd.recA, readRec s.upd.recB with
    | none, _ => true
    | some a, some b => decide (a.seq ≤ b.seq)
    | some _, none => false
  setObj Obj.UPD_STATE w.state
    { s with upd := if toA then { s.upd with recA := recBytes w } else { s.upd with recB := recBytes w } }

/-- UPD_STATE codes. -/
abbrev uEMPTY : Nat := 0
abbrev uRECEIVING : Nat := 1
abbrev uINCOMPLETE : Nat := 2
abbrev uVERIFYING : Nat := 3
abbrev uVERIFIED : Nat := 4
abbrev uBAD : Nat := 5
abbrev uPENDING : Nat := 6
abbrev uTRIAL : Nat := 7
abbrev uCONFIRMED : Nat := 8
abbrev uFELL_BACK : Nat := 9

/-- UPD_STATE. -/
def updState (s : State) : Nat := (actRec s).state

/-- Change UPD_STATE. -/
def setUpd (st : Nat) (s : State) : State := putRec (fun r => { r with state := st }) s

/-! ### Staging (R602–R606) -/

/-- Erase the staging area. -/
def stageBegin (s : State) : State :=
  setUpd uRECEIVING { s with upd := { s.upd with staging := [], verifyAt := none } }

/-- UPD_STAGE_BEGIN (R602): HELD on trial, BUSY while PENDING. -/
def stageBeginRule (s : State) : WriteRule :=
  { lock := false, held := decide (updState s = uTRIAL), busy := decide (updState s = uPENDING), bad := false, critical := false,
    act := stageBegin }

/-- UPD_STAGE_BEGIN (R602). -/
def execUpdStageBegin (c : Caller) (data : Bytes) (s : State) : Host.Outcome State Fault Refusal :=
  .next (writeAccess c Obj.UPD_STAGE_BEGIN data (stageBeginRule s) s)

/-- Fields of a chunk (R603). -/
def ckOffset (b : Bytes) : Nat := field b 4 4
def ckLength (b : Bytes) : Nat := field b 8 4

/-- What keeps a chunk out (R604): nothing; its length; another check; its programming. -/
inductive ChunkEnd where
  | ok | length | check | flash
deriving DecidableEq, Repr

/-- The checks of R604 on a header and its data, apart from the state. -/
def chunkEnd (s : State) (b : Bytes) (progOk : Bool) : ChunkEnd :=
  if b.length < 17 ∨ b.length ≠ 16 + ckLength b then .length
  else if updState s ≠ uRECEIVING ∨ b.take 4 ≠ [0x5A, 0x4B, 0x43, 0x48] ∨ slice b 12 4 ≠ zeros 4 ∨
      ckOffset b ≠ s.upd.staging.length ∨ bundleMax < ckOffset b + ckLength b then .check
  else if progOk then .ok else .flash

/-- The UPD_LAST_ERR result of a refused chunk (R616). -/
def chunkErr (s : State) (b : Bytes) : ChunkEnd → Nat
  | .length => 6
  | .flash => 8
  | _ => if b.take 4 ≠ [0x5A, 0x4B, 0x43, 0x48] ∨ slice b 12 4 ≠ zeros 4 then 1
         else if ckOffset b ≠ s.upd.staging.length then 7 else 6

/-- Program an accepted chunk; any other makes UPD_STATE INCOMPLETE (R604). -/
def takeChunk (b : Bytes) (progOk : Bool) (s : State) : State :=
  match chunkEnd s b progOk with
  | .ok => noticed Obj.UPD_STAGED { s with upd := { s.upd with staging := s.upd.staging ++ b.drop 16 } }
  | e => setUpd uINCOMPLETE (lastErr (chunkErr s b e) none { s with upd := { s.upd with verifyAt := none } })

/-- The result of a chunk written as a block write of declared `total` (R605). -/
def chunkResult (s : State) (total : Nat) (b : Bytes) (progOk : Bool) : Result :=
  if total < 17 ∨ 65536 < total ∨ b.length ≠ total then .badLength
  else match chunkEnd s b progOk with
    | .ok => .done
    | .length => .badLength
    | _ => .badValue

/-- A block write's LAST segment to UPD_STAGE_CHUNK, past checks 2 to 4 (R605). -/
def chunkWrite (total : Nat) (b : Bytes) (progOk : Bool) (s : State) : State × Result :=
  let r := chunkResult s total b progOk
  if decide (total < 17 ∨ 65536 < total ∨ b.length ≠ total) then
    (setUpd uINCOMPLETE (lastErr 6 none { s with upd := { s.upd with verifyAt := none } }), r)
  else (takeChunk b progOk s, r)

/-- One whole chunk written by a caller: checks 2 to 4 of R673, then those of R605; `offset` is its last segment's. -/
def serveChunk (w : Who) (offset total : Nat) (data : Bytes) (ok : Bool) (s : State) : State :=
  match writeCheck s w Obj.UPD_STAGE_CHUNK with
  | some e => deliver w.caller .writeBlockLast Obj.UPD_STAGE_CHUNK e offset (some total) [] (countRefused w Obj.UPD_STAGE_CHUNK e s)
  | none =>
    let p := chunkWrite total data ok s
    deliver w.caller .writeBlockLast Obj.UPD_STAGE_CHUNK p.2 offset (some total) [] p.1

/-- The offset of the last segment of a chunk that a command gives whole: its segments are as long as the transport takes (R79, R81). -/
def lastOffset (c : Caller) (n : Nat) : Nat :=
  let k := if fromWindow c then 1024 else 1008
  (n - 1) / k * k

/-- UPD_STAGE_CHUNK (R605): one chunk, whole, by a block write of declared `total`; `ok` says whether its programming succeeds. -/
def execUpdStageChunk (c : Caller) (total : Nat) (data : Bytes) (ok : Bool) (s : State) : Host.Outcome State Fault Refusal :=
  .next (inTurn ⟨c, .writeBlockLast, Obj.UPD_STAGE_CHUNK, data⟩
    (fun w t => serveChunk w (lastOffset c data.length) total data ok t) s)

/-- STAGE's status and DETAIL for a chunk read from host memory (R606). -/
def stageStatus (n : Nat) : ChunkEnd → Status × Nat
  | .ok => (.ok, 0)
  | .length => (.lengthMismatch, n - 16)
  | .check => (.inputInvalid, 0)
  | .flash => (.faultDetected, 0)

/-- STAGE (R606): the chunk at IN_ADDR, `data` as the host's memory holds it, is programmed; the record follows. -/
def execStage (p : Nat) (data : Bytes) (ok : Bool) (s : State) : Host.Outcome State Fault Refusal :=
  .next (match controlTurn s p 0x0FF2 with
    | none => s
    | some (d, n, k, t) => ringGuard p 64 1 (fun u =>
      let b := fitBytes (inputLen d) data
      let e := chunkEnd u b ok
      let s1 := takeChunk b ok u
      let s2 := if e = .flash then bump Obj.ERR_FLASH_WRITE s1 else s1
      let st := stageStatus (inputLen d) e
      afterControl p n k (completeControl p d n st.2 st.1 s2)) t)

/-! ### Verification (R607) -/

/-- UPD_VERIFY's rule (R607): BUSY while a verification runs (R46). -/
def verifyRule (data : Bytes) (s : State) : WriteRule :=
  let st := updState s
  { lock := false, held := false, busy := s.upd.verifyAt.isSome,
    bad := !(decide (st = uRECEIVING ∨ st = uVERIFIED ∨ st = uFELL_BACK)) || decide (leNat data ≠ s.upd.staging.length),
    critical := false,
    act := fun t => setUpd uVERIFYING { t with upd := { t.upd with verifyAt := some t.now } } }

/-- UPD_VERIFY (R607). -/
def execUpdVerify (c : Caller) (data : Bytes) (s : State) : Host.Outcome State Fault Refusal :=
  .next (writeAccess c Obj.UPD_VERIFY data (verifyRule data s) s)

/-- The security versions of a bundle by type; 0 where absent (R588). -/
def bundleSecvers (b : Bytes) : List Nat := tabulate 10 (fun t => ((findEntry b (t + 1) 0).map enSecver).getD 0)

/-- UPD_VERIFY_END (R607): within 80 ms the staged bundle is VERIFIED, with the activation record written, or BAD. -/
def execUpdVerifyEnd (s : State) : Host.Outcome State Fault Refusal :=
  .next (match s.upd.verifyAt with
    | none => s
    | some t =>
      let s1 := usedFree (advanceTo (t + Config.freeNat s.free % (ms 80 + 1)) s)
      let s2 := { s1 with upd := { s1.upd with verifyAt := none } }
      let b := s2.upd.staging
      match bundleErr s2.lc.otp b with
      | some e => setUpd uBAD (lastErr e.result e.entry s2)
      | none => noticed Obj.UPD_STAGED_VERSION
          (putRec (fun r => { r with state := uVERIFIED, hash := sha384 b, staged := b.length, secver := bundleSecvers b }) s2))

/-! ### Activation, trial, confirmation (R608, R609, R612–R615) -/

/-- Set PENDING with its time; 0 means now (R608).  In recovery the bundle activates at once, without a trial (R597). -/
def activateAt (v : Nat) (s : State) : State :=
  let recovery := decide (s.upd.area = 2)
  let t := if v = 0 ∨ recovery then time64 s else v
  let s1 := noticed Obj.UPD_PENDING_AT (putRec (fun r => { r with state := uPENDING, activateAt := t }) s)
  let s2 := { s1 with upd := { s1.upd with noTrial := recovery } }
  if recovery then scheduleReset rACTIVATION s2.now s2 else s2

/-- UPD_ACTIVATE_AT's rule (R608). -/
def activateRule (data : Bytes) (s : State) : WriteRule :=
  { lock := false, held := false, busy := false, bad := decide (updState s ≠ uVERIFIED), critical := false,
    act := activateAt (leNat data) }

/-- UPD_ACTIVATE_AT (R608). -/
def execUpdActivateAt (c : Caller) (data : Bytes) (s : State) : Host.Outcome State Fault Refusal :=
  .next (writeAccess c Obj.UPD_ACTIVATE_AT data (activateRule data s) s)

/-- UPD_CANCEL's rule (R608). -/
def cancelRule (s : State) : WriteRule :=
  { lock := false, held := false, busy := false, bad := decide (updState s ≠ uPENDING), critical := false, act := setUpd uVERIFIED }

/-- UPD_CANCEL (R608). -/
def execUpdCancel (c : Caller) (data : Bytes) (s : State) : Host.Outcome State Fault Refusal :=
  .next (writeAccess c Obj.UPD_CANCEL data (cancelRule s) s)

/-- When the RTC reaches a TIME64. -/
def rtcReaches (s : State) (t : Nat) : Time :=
  if t ≤ s.pwr.rtcBase then s.now else s.pwr.rtcAt + ((t - s.pwr.rtcBase) * 1000000000 + 65535) / 65536

/-- ACTIVATION_DUE (R608, R609): the RTC reaches the recorded time; while a response is held the activation waits. -/
def execActivationDue (bootSel : Nat) (s : State) : Host.Outcome State Fault Refusal :=
  .next (let r := actRec s
    if r.state = uPENDING ∧ s.upd.phase = 7 ∧ s.tmp.held = 0 then
      resetDevice rACTIVATION bootSel (advanceTo (rtcReaches s r.activateAt) s)
    else s)

/-- Burn the security versions that a confirmation owes (R594, R614). -/
def burnSecver (s : State) : State :=
  let l := (actRec s).secver
  let t := (tabulate 10 (· + 1)).foldl (fun t k => tset (fun _ => 0) t k (max (tget (fun _ => 0) t k) (l.getD (k - 1) 0))) s.lc.otp.secver
  { s with lc := { s.lc with otp := { s.lc.otp with secver := t } } }

/-- UPD_CONFIRM's rule (R614). -/
def confirmRule (s : State) : WriteRule :=
  { lock := false, held := false, busy := false, bad := decide (updState s ≠ uTRIAL), critical := false,
    act := fun t => burnSecver (setUpd uCONFIRMED { t with upd := { t.upd with trialUntil := none } }) }

/-- UPD_CONFIRM (R614). -/
def execUpdConfirm (c : Caller) (data : Bytes) (s : State) : Host.Outcome State Fault Refusal :=
  .next (writeAccess c Obj.UPD_CONFIRM data (confirmRule s) s)

/-- TRIAL_EXPIRY (R612, R615): the trial window ends without a confirmation; the device resets. -/
def execTrialExpiry (bootSel : Nat) (s : State) : Host.Outcome State Fault Refusal :=
  .next (match s.upd.trialUntil with
    | none => s
    | some t => resetDevice rTRIAL_EXPIRY bootSel (advanceTo t s))

end Sys2Proof.Machine
end

