-- ==== Sys2Proof/Machine/LifeCycle.lean ====
section
/-!
DEFINITION. Life cycle, debug reopening and the TAP (chapter 16).
-/
namespace Sys2Proof.Machine

/-! ### States and OTP (R560–R563) -/

/-- The state codes (R560). -/
def lifeCode : LifeState → Nat
  | .raw => 0x00
  | .test => 0x01
  | .provision => 0x03
  | .mission => 0x07
  | .rma => 0x0F
  | .scrap => 0x1F

/-- The state of a code. -/
def lifeOf (v : Nat) : Option LifeState :=
  [LifeState.raw, .test, .provision, .mission, .rma, .scrap].find? (fun l => decide (lifeCode l = v))

/-- The life cycle that OTP's three copies decode to (R561): the bitwise majority; any other code is SCRAP. -/
def decodeLife (o : Otp) : LifeState :=
  (lifeOf ((o.state0 &&& o.state1) ||| (o.state0 &&& o.state2) ||| (o.state1 &&& o.state2)).toNat).getD .scrap

/-- The root that a state uses (R560). -/
def rootOf : LifeState → Nat
  | .raw => 2
  | .test => 2
  | .provision => 1
  | .mission => 1
  | .rma => 2
  | .scrap => 0

/-- A root slot that is not burnt. -/
def rootBlank (b : Bytes) : Bool := allZero b

/-- A root slot's 36 bytes: 256 bits and their check (R562). -/
def rootSlot (k : Bytes) : Bytes := k ++ (sha3_256 k).take 4

/-- A key of the degraded state (R524): the label and the boot count, under the test root the RTC. -/
def degradedKey (s : State) (label : String) : Bytes :=
  kmac256 (rootInUse s) (ascii label ++ leBytes 8 (if s.lc.root = 1 then s.upd.bootCount else time64 s)) (ascii "ZKDGR")

/-! ### The nonce (R567) -/

/-- A nonce of instance 40, or of the degraded state (R523, R524, R567). -/
def lcNonce (s : State) : Bytes × State :=
  if s.rng.degraded && !(rngReady s) then (degradedKey s "LC_NONCE", s) else draw 40 32 s

/-- A nonce can be made now. -/
def nonceReady (s : State) : Bool := rngReady s || s.rng.degraded

/-- Draw the held nonce. -/
def newNonce (s : State) : State :=
  let p := lcNonce s
  noticed Obj.LC_NONCE { p.2 with lc := { p.2.lc with nonce := some (p.1, p.2.now) } }

/-- LC_NONCE_NEW (R567). -/
def nonceRule (s : State) : WriteRule := { cmdRule newNonce with busy := !(nonceReady s) }

/-- LC_NONCE_NEW (R567). -/
def execLcNonceNew (c : Caller) (data : Bytes) (s : State) : Host.Outcome State Fault Refusal :=
  .next (writeAccess c Obj.LC_NONCE_NEW data (nonceRule s) s)

/-- Discard the held nonce. -/
def dropNonce (s : State) : State := noticed Obj.LC_NONCE { s with lc := { s.lc with nonce := none } }

/-- NONCE_EXPIRY (R567): 30 minutes after it was drawn. -/
def execNonceExpiry (s : State) : Host.Outcome State Fault Refusal :=
  .next (match s.lc.nonce with
    | none => s
    | some p => dropNonce (advanceTo (p.2 + sec 1800) s))

/-! ### Requests (R564–R569) -/

/-- Owner keys are set (R564). -/
def ownerKeys (s : State) : Bool := decide (objVal s Obj.LC_OWNER_PK_DSA ≠ 0 ∧ objVal s Obj.LC_OWNER_PK_EC ≠ 0)

/-- The transitions of R564 with the signers allowed (1 Dwesy, 2 owner); with the evidence counter full a PROVISION unit leaves
only to SCRAP, a MISSION unit only to RMA or SCRAP. -/
def transitionOk (s : State) (goal : LifeState) (signer : Nat) : Bool :=
  let full := evidenceHold s
  match s.lc.st, goal with
  | .raw, .test => decide (signer = 1)
  | .test, .provision => decide (signer = 1)
  | .provision, .mission => decide (signer = 2) && !full
  | .mission, .rma => decide (signer = 1)
  | .scrap, .scrap => false
  | _, .scrap => decide (signer = 1) || (decide (signer = 2) && ownerKeys s)
  | _, _ => false

/-- The preconditions of R564. -/
def precondition (s : State) (goal : LifeState) : Bool :=
  match goal with
  | .provision => rngReady s && (rootBlank s.lc.otp.root0 || rootBlank s.lc.otp.root1)
  | .mission => ownerKeys s && decide (objVal s Obj.TMP_QUORUM_K ≤ officers s)
  | _ => true

/-- Both signatures of a request verify (R566); a class without a slice verifies none (R598).  DESIGN CHOICE: the two verifications, of
ML-DSA-87 and ECDSA P-384, run within the step. -/
def requestSigned (s : State) (b : Bytes) : Bool :=
  let m := b.take 64
  let owner := decide (byteAt b 7 = 2)
  let dsa := if owner then leBytes 2592 (objVal s Obj.LC_OWNER_PK_DSA) else lcDsa
  let ec := if owner then leBytes 97 (objVal s Obj.LC_OWNER_PK_EC) else lcEc
  !(unitMissing s 0x0205) && !(unitMissing s 0x0605) && dsaOk 3 dsa (ascii "zk-lc") m (slice b 64 4627) && p384Ok ec m (slice b 4691 96)

/-- LC_REQ_STATE codes. -/
abbrev lIDLE : Nat := 0
abbrev lPENDING : Nat := 2
abbrev lAPPLYING : Nat := 3
abbrev lPRECONDITION : Nat := 9

/-- The first check of R569 that a request fails, as LC_REQ_STATE codes it. -/
def requestFault (s : State) (b : Bytes) : Option Nat :=
  if decide (b.take 4 ≠ [0x5A, 0x4B, 0x4C, 0x43]) || decide (byteAt b 4 ≠ 1) || decide (byteAt b 7 ≠ 1 ∧ byteAt b 7 ≠ 2) ||
      !(allZero (slice b 56 8)) then some 4
  else match lifeOf (byteAt b 6) with
    | none => some 5
    | some goal =>
      if byteAt b 5 ≠ lifeCode s.lc.st ∨ !(transitionOk s goal (byteAt b 7)) then some 5
      else if slice b 8 16 ≠ fitBytes 16 s.lc.otp.unitId then some 6
      else if s.lc.nonce.map (·.1) ≠ some (slice b 24 32) then some 7
      else if !(requestSigned s b) then some 8
      else if !(precondition s goal) then some 9
      else none

/-- Change LC_REQ_STATE. -/
def setReq (v : Nat) (s : State) : State := setObj Obj.LC_REQ_STATE v s

/-- The checks of R569 at the first accepted write; the nonce is discarded either way. -/
def checkRequest (b : Bytes) (s : State) : State × Bool :=
  match requestFault s b with
  | some e => (setReq e (dropNonce s), false)
  | none => (setReq lPENDING (dropNonce { s with lc := { s.lc with request := b } }), true)

/-! ### Carrying out a transition (R570, R571) -/

/-- Step 1 (R570): admitted jobs end FENCED, exchanges are abandoned, the key register is erased; ring polling, dispatch and
stream traffic stop. -/
def stopTraffic (s : State) : State :=
  let s1 := eraseKreg (abandonAll (stopJobs (fun _ _ => true) .fenced (endCalls .fenced .reinit s)))
  { s1 with lc := { s1.lc with stopping := true } }

/-- Step 2 (R570): 32 bytes of instance 40 burnt, with their check, into the first blank root slot. -/
def burnRoot (s : State) : State :=
  let p := draw 40 32 s
  let o := p.2.lc.otp
  let w := rootSlot p.1
  { p.2 with lc := { p.2.lc with otp := if rootBlank o.root0 then { o with root0 := w } else { o with root1 := w } } }

/-- Step 3 (R570): the three copies of the state byte are burnt, bits that are burnt staying so. -/
def burnState (goal : LifeState) (s : State) : State :=
  let v := BitVec.ofNat 8 (lifeCode goal)
  let o := s.lc.otp
  { s with lc := { s.lc with otp := { o with state0 := o.state0 ||| v, state1 := o.state1 ||| v, state2 := o.state2 ||| v } } }

/-- A transition (R570): its burns, and the reset within 20 ms of the approval. -/
def transition (goal : LifeState) (s : State) : State :=
  let s1 := stopTraffic s
  let s2 := if goal = .provision then burnRoot s1 else s1
  let t := s.now + Config.freeNat s.free % (ms 20 + 1)
  scheduleReset rLIFE_CYCLE t (usedFree (burnState goal s2))

/-- The held request's precondition holds. -/
def requestHolds (s : State) : Bool := (lifeOf (byteAt s.lc.request 6)).any (precondition s)

/-- At the k-th approval, or at once without a quorum: precondition 6 again, then the transition (R569). -/
def applyRequest (s : State) : State :=
  match lifeOf (byteAt s.lc.request 6) with
  | none => s
  | some goal => if precondition s goal then transition goal (setReq lAPPLYING s) else setReq lPRECONDITION s

/-- LC_REQUEST of a caller (R586). -/
def requestOf (s : State) (c : Caller) : Bytes := leBytes 4787 (ownVal s c Obj.LC_REQUEST)

/-- LC_APPLY (R568, R569): a critical act while any officer is enrolled, and then only of an OFFICER; its first write names the
hash of the caller's own LC_REQUEST. -/
def applyRule (w : Who) (data : Bytes) (s : State) : WriteRule :=
  let enrolled := decide (0 < officers s)
  let b := requestOf s w.caller
  { denied := enrolled && !(bit w.roles 2) && !(bit w.roles 4),
    first := checkRequest b,
    lock := false, held := false, busy := s.lc.stopping,
    bad := !(actPending s Obj.LC_APPLY data) && decide (data ≠ sha3_256 b), critical := enrolled,
    recheck := fun t => if requestHolds t then none else some .badValue,
    act := applyRequest }

/-- A rule that depends on who writes: none applies to an access whose turn has not come. -/
def ruleFor (s : State) (a : AccessCmd) (f : Who → WriteRule) : WriteRule :=
  match accessor s a with
  | some w => f w
  | none => cmdRule id

/-- LC_APPLY (R568, R569). -/
def execLcApply (c : Caller) (data : Bytes) (s : State) : Host.Outcome State Fault Refusal :=
  .next (writeAccess c Obj.LC_APPLY data (ruleFor s ⟨c, .write, Obj.LC_APPLY, data⟩ (fun w => applyRule w data s)) s)

/-- LC_BIST's write (R575): step 1 of R570, then a reset; whether every memory passes is the hardware's. -/
def beginBist (pass : Bool) (s : State) : State :=
  let s1 := stopTraffic s
  noticed Obj.LC_BIST_RESULT (scheduleReset rBIST s1.now
    { s1 with lc := { s1.lc with bist := 0, bistNext := if pass then 1 else 2 } })

/-- LC_BIST (R575): BAD_VALUE in MISSION and SCRAP. -/
def bistRule (pass : Bool) (s : State) : WriteRule :=
  { cmdRule (beginBist pass) with busy := s.lc.stopping, bad := decide (s.lc.st = .mission ∨ s.lc.st = .scrap) }

/-- LC_BIST (R575). -/
def execLcBist (c : Caller) (data : Bytes) (pass : Bool) (s : State) : Host.Outcome State Fault Refusal :=
  .next (writeAccess c Obj.LC_BIST data (bistRule pass s) s)

/-! ### Reopening debug (R580–R585) -/

/-- An update is on trial. -/
def onTrial (s : State) : Bool := decide (updState s = uTRIAL)

/-- The conditions of R580, apart from the trial. -/
def debugAllowed (s : State) : Bool := decide (s.lc.st = .mission) && decide (s.tmp.held = 0)

/-- The challenge (R580). -/
def challengeBytes (s : State) (scope : Nat) (nonce : Bytes) : Bytes :=
  [0x5A, 0x4B, 0x44, 0x43, 0x01, 0x07, BitVec.ofNat 8 scope, 0] ++ fitBytes 16 s.lc.otp.unitId ++ fitBytes 32 nonce ++
    leBytes 8 (time64 s)

/-- Create a challenge (R580). -/
def newChallenge (scope : Nat) (s : State) : State :=
  let p := lcNonce s
  noticed Obj.LC_DBG_STATE (noticed Obj.LC_DBG_CHALLENGE
    { p.2 with lc := { p.2.lc with challenge := some (challengeBytes p.2 scope p.1, p.2.now) } })

/-- LC_DBG_CHALLENGE_NEW (R580, R612). -/
def challengeRule (data : Bytes) (s : State) : WriteRule :=
  { lock := false, held := onTrial s, busy := !(nonceReady s), bad := decide (8 ≤ leNat data) || !(debugAllowed s), critical := false,
    act := newChallenge (leNat data) }

/-- LC_DBG_CHALLENGE_NEW (R580). -/
def execLcDbgChallengeNew (c : Caller) (data : Bytes) (s : State) : Host.Outcome State Fault Refusal :=
  .next (writeAccess c Obj.LC_DBG_CHALLENGE_NEW data (challengeRule data s) s)

/-- The checks of R582 on a token; its signatures need a slice each (R598). -/
def tokenOk (data b : Bytes) (s : State) : Bool :=
  match s.lc.challenge with
  | none => false
  | some (ch, t) =>
    let m := b.take 64
    decide (data = sha3_256 b) && decide (b.take 4 = [0x5A, 0x4B, 0x44, 0x54]) &&
      decide (slice b 4 2 = slice ch 4 2) && decide (slice b 7 57 = slice ch 7 57) &&
      decide (byteAt b 6 &&& byteAt ch 6 = byteAt b 6) &&
      !(unitMissing s 0x0205) && !(unitMissing s 0x0605) &&
      dsaOk 3 ddasDsa (ascii "zk-ddas") m (slice b 64 4627) && p384Ok ddasEc m (slice b 4691 96) &&
      decide (s.now - t < sec (objVal s Obj.LC_DBG_WINDOW)) && debugAllowed s && !(onTrial s)

/-- A failed check discards the challenge (R582). -/
def dropChallenge (s : State) : State :=
  noticed Obj.LC_DBG_STATE (noticed Obj.LC_DBG_CHALLENGE { s with lc := { s.lc with challenge := none } })

/-- The checks of R582 at the first accepted write. -/
def checkToken (data b : Bytes) (s : State) : State × Bool :=
  if tokenOk data b s then ({ s with lc := { s.lc with request := b } }, true) else (dropChallenge s, false)

/-- Every ACTIVE tenant becomes PAUSED (R583). -/
def pauseTenants (s : State) : State :=
  (s.dict.obj.filter (fun p => decide (0x2000 ≤ p.1 / 256 ∧ p.1 / 256 < 0x3000 ∧ p.1 % 256 = 1 ∧ p.2 = 1))).foldl
    (fun t p => setObj p.1 3 t) s

/-- The steps of R583: bind-off with the outcome of level 4 but without the hold, its overwrite ended; sessions close; BBRAM is isolated, the test
root in use, the attestation keys derived from it; tenants PAUSED; debug OPEN with the granted scope.  The steps take up to 3 ms. -/
def openDebug (s : State) : State :=
  let scope := byteAt s.lc.request 6
  let s1 := eraseDone (closeSessions (bindOff (quiesce s)))
  let s2 := attestKeys { s1 with lc := { s1.lc with root := 2, debugOpen := true, scope := scope, challenge := none, request := [] } }
  let s3 := pauseTenants (setObj Obj.KREG_ARCH_STATE 5 s2)
  let s4 := usedFree (advanceTo (s.now + Config.freeNat s.free % (ms 3 + 1)) s3)
  noticed Obj.LC_DBG_STATE (noticed Obj.LC_DBG_SCOPE (setObj Obj.LC_DBG_LAST (time64 s4) s4))

/-- At the k-th approval the same checks again (R582, R583). -/
def applyToken (data : Bytes) (s : State) : State := if tokenOk data s.lc.request s then openDebug s else dropChallenge s

/-- LC_DBG_OPEN (R582): a critical act on the caller's own LC_DBG_TOKEN. -/
def openRule (c : Caller) (data : Bytes) (s : State) : WriteRule :=
  { first := checkToken data (leBytes 4787 (ownVal s c Obj.LC_DBG_TOKEN)),
    recheck := fun t => if tokenOk data t.lc.request t then none else if onTrial t then some .held else some .badValue,
    lock := false, held := false, busy := false, bad := false, critical := true, act := applyToken data }

/-- LC_DBG_OPEN (R582). -/
def execLcDbgOpen (c : Caller) (data : Bytes) (s : State) : Host.Outcome State Fault Refusal :=
  .next (writeAccess c Obj.LC_DBG_OPEN data (openRule c data s) s)

/-! ### The TAP (R577–R579) -/

/-- Where EXTEST was in force it ends, and the device resets as on RESET_N (R578). -/
def leaveExtest (bootSel : Nat) (s : State) : State :=
  if s.lc.extest then resetDevice rEXTEST_EXIT bootSel { s with lc := { s.lc with extest := false } } else s

/-- An instruction is loaded (R577). -/
def loadTap (t : TapInstr) (bootSel : Nat) (s : State) : State :=
  let s1 := leaveExtest bootSel s
  { s1 with lc := { s1.lc with tap := t } }

/-- EXTEST (R578): the boundary register drives the pins it covers; `scan` is what is shifted into it. -/
def execExtest (scan : Bytes) (s : State) : Host.Outcome State Fault Refusal :=
  .next (if s.pwr.supplies then emit (.boundary scan) { s with lc := { s.lc with tap := .extest, extest := true, boundary := scan } } else s)

/-- EXTEST_EXIT (R578): at Test-Logic-Reset, where IDCODE is loaded (R577). -/
def execExtestExit (bootSel : Nat) (s : State) : Host.Outcome State Fault Refusal :=
  .next (if s.pwr.supplies && s.lc.extest then loadTap .idcode bootSel s else s)

/-- IDCODE (R577): the 32-bit register is selected and shifts out its value. -/
def execIdcode (bootSel : Nat) (s : State) : Host.Outcome State Fault Refusal :=
  .next (if s.pwr.supplies then emit (.tap 0x2744099B) (loadTap .idcode bootSel s) else s)

/-- SAMPLE/PRELOAD (R577): the boundary register is selected and takes `scan` without driving the pins. -/
def execSamplePreload (bootSel : Nat) (scan : Bytes) (s : State) : Host.Outcome State Fault Refusal :=
  .next (if s.pwr.supplies then
      let s1 := loadTap .samplePreload bootSel s
      { s1 with lc := { s1.lc with boundary := scan } }
    else s)

/-- BYPASS (R577): 0xFF and every opcode not in the table. -/
def execBypass (bootSel : Nat) (s : State) : Host.Outcome State Fault Refusal :=
  .next (if s.pwr.supplies then loadTap .bypass bootSel s else s)

/-- The debug TAP is available (R573). -/
def debugTap (s : State) : Bool :=
  match s.lc.st with
  | .raw => true
  | .test => true
  | .rma => true
  | .mission => s.lc.debugOpen
  | _ => false

/-- A debug instruction is inside LC_DBG_SCOPE (R579); which scope bit an instruction needs is defined only for Dwesy's tools: a
free function. -/
def inDebugScope (s : State) (code : Nat) : Bool := s.lc.scope.testBit (Config.debugScope code % 3)

/-- DEBUG_INSTRUCTION (R574, R579): opcodes 0x80–0xBF, with an address and the bytes shifted into its data register. -/
def execDebugInstruction (op : DebugOp) (bootSel : Nat) (s : State) : Host.Outcome State Fault Refusal :=
  .next (if !s.pwr.supplies then s
    else if op.code < 0x80 ∨ 0xBF < op.code then loadTap .bypass bootSel s
    else
      let t := leaveExtest bootSel s
      if debugTap t && (!t.lc.debugOpen || inDebugScope t op.code) then debugActs (debugAct op.code) op.addr op.data (loadTap (.debug op.code) bootSel t)
      else
        let s1 := bump Obj.LC_DBG_ATTEMPTS (loadTap .bypass bootSel t)
        if t.lc.st = .mission ∧ t.lc.debugOpen = false then tamperEvent 23 .none_ 0 s1 else s1)

end Sys2Proof.Machine
end

