-- ==== Sys2Proof/Machine/CfgArea.lean ====
section
/-!
DEFINITION. The configuration areas of flash (R50–R53): their layout, their tag, what they hold of the live settings, and the checks a
firmware makes on one.
-/
namespace Sys2Proof.Machine

/-! ### The layout (R50) -/

/-- The length of a configuration area. -/
abbrev cfgBytes : Nat := 262144

/-- The magic of an area. -/
def cfgMagic : Bytes := [0x5A, 0x4B, 0x43, 0x46]

/-- A record: index, subindex, a reserved byte, value length, value. -/
def cfgRecord (p : ObjId × Bytes) : Bytes :=
  leBytes 2 (p.1 / 256) ++ leBytes 1 (p.1 % 256) ++ zeros 1 ++ leBytes 2 p.2.length ++ p.2

/-- An area up to the end of its last record. -/
def cfgBody (format seq : Nat) (recs : List (ObjId × Bytes)) : Bytes :=
  let b := recs.flatMap cfgRecord
  cfgMagic ++ leBytes 2 format ++ zeros 2 ++ leBytes 4 seq ++ leBytes 4 recs.length ++ leBytes 4 b.length ++ b

/-- The key of an area's tag: derived from the root in use; the derivation is not stated. -/
def cfgKey (s : State) : Bytes := primOut .unitConst [rootInUse s, ascii "configuration area"] 32

/-- An area whole: KMAC256 over everything before the tag. -/
def cfgSealed (s : State) (body : Bytes) : Bytes := body ++ kmac256 (cfgKey s) body []

/-- The fields of an area's first 20 bytes. -/
def cfFormat (b : Bytes) : Nat := field b 4 2
def cfSeq (b : Bytes) : Nat := field b 8 4
def cfCount (b : Bytes) : Nat := field b 12 4
def cfLength (b : Bytes) : Nat := field b 16 4

/-- `n` records from a record section, which they fill exactly. -/
def cfRecords : (n : Nat) → Bytes → Option (List (ObjId × Bytes))
  | 0, b => if b.isEmpty then some [] else none
  | n + 1, b =>
    let k := field b 4 2
    if b.length < 6 + k then none
    else (cfRecords n (b.drop (6 + k))).map (fun r => (field b 0 2 * 256 + byteAt b 2, slice b 6 k) :: r)

/-- What a firmware of settings format `f` reads from an area under the root in use (R51): none where its magic, lengths, tag or
format do not check; else its sequence number and its records. -/
def readArea (s : State) (f : Nat) (b : Bytes) : Option (Nat × List (ObjId × Bytes)) :=
  let body := b.take (20 + cfLength b)
  if b.length < 20 ∨ b.take 4 ≠ cfgMagic ∨ cfFormat b ≠ f ∨ cfgBytes < 20 + cfLength b + 32 ∨ b.length < 20 + cfLength b + 32 ∨
      slice b (20 + cfLength b) 32 ≠ kmac256 (cfgKey s) body [] then none
  else (cfRecords (cfCount b) (body.drop 20)).map (fun r => (cfSeq b, r))

/-! ### What a store writes (R53) -/

/-- The encoded bytes of a setting: a STRING without its padding. -/
def storedBytes (o : ObjDesc) (v : Nat) : Bytes :=
  let b := leBytes (encLen o) v
  if o.ty = .string then (b.reverse.dropWhile (· == 0)).reverse else b

/-- The object is a stored setting (R49). -/
def isStored (id : ObjId) : Bool :=
  match findObj id with
  | some o => o.stored
  | none => false

/-- The object of region-rule entry `k` (class × 64 + entry). -/
def ruleId (k : Nat) : ObjId := Obj.ISO_RULE + 256 * (k / 64) + k % 64

/-- The entry of the region rules that an object holds (R97, R123): class × 64 + entry. -/
def ruleSlot (id : Nat) : Option Nat :=
  if 0x810 ≤ id / 256 ∧ id / 256 ≤ 0x818 ∧ 1 ≤ id % 256 ∧ id % 256 ≤ 64 then some ((id / 256 - 0x810) * 64 + (id % 256 - 1)) else none

/-- The stored settings outside the records of tenants, circuits and cells: every one of them is in every area. -/
def fixedSettings : List ObjId :=
  (objTable.filter (fun o => o.stored && decide (o.hi < 0x2000))).flatMap
    (fun o => (List.range (o.hi + 1 - o.lo)).flatMap (fun i => (List.range (o.shi + 1 - o.slo)).map (fun j => (o.lo + i) * 256 + (o.slo + j))))

/-- The tenants that exist. -/
def tenantsHeld (s : State) : List Nat :=
  (s.dict.obj.filter (fun p => decide (0x2000 ≤ p.1 / 256 ∧ p.1 / 256 < 0x3000 ∧ p.1 % 256 = 1 ∧ p.2 ≠ 0))).map
    (fun p => p.1 / 256 - 0x2000)

/-- The settings in the records of tenants, circuits and cells that an area holds: those that differ from their defaults, and of each
tenant that exists its label, so that cast-on rebuilds it (R595).  DESIGN CHOICE: all of them would not fit in an area. -/
def recordSettings (s : State) : List ObjId :=
  (((tenantsHeld s).foldl (fun t n => mset t (at_ Obj.TENANT_LABEL n) 0)
    (mfilter (fun k _ => isStored k && decide (0x200000 ≤ k)) s.dict.obj))).map (·.1)

/-- A setting's live value; of a region rule, what is in effect (R99). -/
def settingVal (s : State) (id : ObjId) : Nat :=
  match ruleSlot id with
  | some k => tget (fun _ => 0) s.iso.rules k
  | none => objVal s id

/-- The records of the live settings (R53). -/
def liveSettings (s : State) : List (ObjId × Bytes) :=
  (fixedSettings ++ recordSettings s).filterMap (fun id => (findObj id).map (fun o => (id, storedBytes o (settingVal s id))))

end Sys2Proof.Machine
end

