-- ==== Sys2Proof/Machine/Settings.lean ====
section
/-!
DEFINITION. The settings store, the commands of the dictionary area, principals, and the management PHY (R47–R57, R65, R553,
R672).
-/
namespace Sys2Proof.Machine

/-! ### Defaults and stored settings (R49, R56) -/

/-- The MAC address of a unit without a stored one (R672). -/
def defaultMac (s : State) : Nat := 2 + 256 * leNat (slice s.lc.otp.unitId 11 5)

/-- An object's default, where it is not a constant of the table: OTP, ROM, the unit's MAC address, the tenant's colour. -/
def defaultOf (s : State) (id : ObjId) : Nat :=
  if id = Obj.ID_MG_MAC then defaultMac s
  else if id = Obj.ID_ORDERING then s.lc.otp.ordering
  else if id = Obj.ID_UNIT_ID then leNat s.lc.otp.unitId
  else if id = Obj.ID_ROM_VERSION then leNat (rom 0 4)
  else if id / 256 = 0x101 ∧ id % 256 ≠ 0 then ((featReg (id % 256 - 1)).getD 0).toNat
  else if 0x2000 ≤ id / 256 ∧ id / 256 < 0x3000 ∧ id % 256 = 6 then 0x1000 + (id / 256 - 0x2000)
  else if id = Obj.LC_ANCHOR_ID then leNat (sha3_256 (lcDsa ++ lcEc))
  else if id = Obj.LC_DDAS_ID then leNat (sha3_256 (ddasDsa ++ ddasEc))
  else if id = Obj.UPD_ANCHOR_ID then leNat (sha3_256 (fwDsa ++ fwLms))
  else objDefault id

/-! ### DICT_STORE (R53–R55) -/

/-- The area not in use: B while A is in use, otherwise A. -/
def storeToB (s : State) : Bool := decide (objVal s Obj.DICT_CFG_STATE = 0)

/-- Replace a configuration area. -/
def putArea (toB : Bool) (a : Bytes) (s : State) : State :=
  { s with dict := if toB then { s.dict with areaB := a } else { s.dict with areaA := a } }

/-- A store starts: the live values of this moment, sealed under the root in use; the area not in use is erased (R53). -/
def startStore (s : State) : State :=
  let n := objVal s Obj.DICT_CFG_SEQ + 1
  let job : StoreJob := { area := cfgSealed s (cfgBody (mfFormat s.upd.running) n (liveSettings s)), seq := n, startedAt := s.now }
  let s1 := putArea (storeToB s) [] s
  setObj Obj.DICT_STORE_STATE 1 { s1 with dict := { s1.dict with store := some job, storeFailReport := false } }

/-- The write of DICT_STORE (R53, R55). -/
def storeRule (s : State) : WriteRule :=
  { cmdRule startStore with held := onTrial s, busy := s.dict.store.any (fun j => decide (s.now < j.startedAt + sec 10)) }

/-- DICT_STORE (R53). -/
def execDictStore (c : Caller) (data : Bytes) (s : State) : Host.Outcome State Fault Refusal :=
  .next (writeAccess c Obj.DICT_STORE data (storeRule s) s)

/-- The store has succeeded: its area is in use (R53). -/
def storeDone (j : StoreJob) (s : State) : State :=
  let b := storeToB s
  setObj Obj.DICT_STORE_STATE 2 (setObj Obj.DICT_CFG_SEQ j.seq (setObj Obj.DICT_CFG_STATE (b2n b)
    (putArea b j.area { s with dict := { s.dict with store := none } })))

/-- STORE_WRITE_DONE (R53, R54): the area has been erased, programmed and read back, or that has failed; 10 s after its start a
store has failed, and so has one whose records do not fit in an area. -/
def execStoreWriteDone (ok : Bool) (s : State) : Host.Outcome State Fault Refusal :=
  .next (match s.dict.store with
    | none => s
    | some j => if ok && decide (s.now < j.startedAt + sec 10) && decide (j.area.length ≤ cfgBytes) then storeDone j s else storeFailed s)

/-- A read of DICT_STORE_STATE: the first after a failed store ends STORE_FAIL (R54). -/
def readStoreState (s : State) : Result × Bytes × State :=
  if s.dict.storeFailReport then (.storeFail, [], { s with dict := { s.dict with storeFailReport := false } })
  else (.done, objBytes s Obj.DICT_STORE_STATE, s)

/-- DICT_STORE_STATE_READ (R54). -/
def execDictStoreStateRead (c : Caller) (s : State) : Host.Outcome State Fault Refusal :=
  .next (readAccess c Obj.DICT_STORE_STATE readStoreState s)

/-! ### The management PHY and GPIO (R672) -/

/-- The Clause 22 frames that write a word of the PLCA registers through the indirect access registers 13 and 14. -/
def mmdWrite (phy mmd reg value : Nat) : List Out :=
  [.mdio phy 13 mmd, .mdio phy 14 reg, .mdio phy 13 (0x4000 + mmd), .mdio phy 14 value]

/-- Write the PLCA settings to the PHY: the control word, then node count and node ID; a node ID of 0xFF keeps the PHY's own,
which the spec does not give.  `errs` frames are not completed. -/
def writePhy (errs : Nat) (s : State) : State :=
  let phy := objVal s Obj.ID_MG_PHY_ADDR
  let mmd := objVal s Obj.ID_MG_PLCA_MMD
  let reg := objVal s Obj.ID_MG_PLCA_REG
  let node := objVal s Obj.ID_MG_PLCA_NODE
  let id := if node = 0xFF then Config.freeNat s.free % 256 else node
  let s1 := { s with
    free := s.free + 1,
    out := s.out ++ mmdWrite phy mmd reg (objVal s Obj.ID_MG_PLCA_EN * 32768) ++
      mmdWrite phy mmd ((reg + 1) % 65536) (objVal s Obj.ID_MG_PLCA_COUNT * 256 + id) }
  if errs = 0 then s1 else bumpBy Obj.ID_MG_MDIO_ERRS (min errs 8) s1

/-- A write of a management PHY object (R672). -/
def phyRule (sub errs : Nat) (data : Bytes) (s : State) : WriteRule :=
  let r := plainRule (0x11000 + sub) data
  { r with
    bad := decide (sub = 4 ∧ leNat data ≠ 0xFF ∧ objVal s Obj.ID_MG_PLCA_COUNT ≤ leNat data),
    act := fun t => writePhy errs (r.act t) }

/-- MG_PHY_CONFIG_WRITE (R672). -/
def execMgPhyConfigWrite (c : Caller) (sub : Nat) (data : Bytes) (errs : Nat) (s : State) : Host.Outcome State Fault Refusal :=
  .next (if 2 ≤ sub ∧ sub ≤ 7 then writeAccess c (0x11000 + sub) data (phyRule sub errs data s) s else s)

/-- Drive the GPIO pins as the objects say. -/
def driveGpio (s : State) : State := emit (.gpio (objVal s Obj.ID_GPIO_DIR) (objVal s Obj.ID_GPIO_OUT)) s

/-! ### Principals and OAP (R57, R65, R553) -/

/-- Close the sessions of a principal (R75). -/
def closePrincipal (p : Nat) (s : State) : State :=
  (s.dict.sessions.filter (fun q => decide (q.2.principal = p))).foldl (fun t q => closeSession q.1 t) s

/-- The objects of principal `p`. -/
def prnObj (p sub : Nat) : ObjId := (0x220 + p) * 256 + sub

/-- A write of an enrolment object of a principal: a critical act except under R553, SUITE apart. -/
def principalRule (p sub : Nat) (data : Bytes) (s : State) : WriteRule :=
  let id := prnObj p sub
  let r := plainRule id data
  { r with
    critical := decide (sub ≠ 4) && !(enrolFree s),
    act := fun t => let u := r.act t
      if sub ≠ 4 ∧ objVal u id ≠ objVal t id then closePrincipal p u else u }

/-- PRINCIPAL_ENROL_WRITE (R553). -/
def execPrincipalEnrolWrite (c : Caller) (p sub : Nat) (data : Bytes) (s : State) : Host.Outcome State Fault Refusal :=
  .next (if p < 32 ∧ 1 ≤ sub ∧ sub ≤ 4 then writeAccess c (prnObj p sub) data (principalRule p sub data s) s else s)

/-- A write of DICT_OAP_ENABLE: 0 closes every session (R65). -/
def oapEnableRule (data : Bytes) : WriteRule :=
  let r := plainRule Obj.DICT_OAP_ENABLE data
  { r with act := fun t => if leNat data = 0 then closeSessions (r.act t) else r.act t }

/-- OAP_ENABLE_WRITE (R65). -/
def execOapEnableWrite (c : Caller) (data : Bytes) (s : State) : Host.Outcome State Fault Refusal :=
  .next (writeAccess c Obj.DICT_OAP_ENABLE data (oapEnableRule data) s)

/-- DICT_OAP_LOCK (R57). -/
def execDictOapLock (c : Caller) (data : Bytes) (s : State) : Host.Outcome State Fault Refusal :=
  .next (writeAccess c Obj.DICT_OAP_LOCK data (cmdRule (lockObjs [Obj.DICT_OAP_PORT])) s)

/-! ### DICT_RESTORE_DEFAULTS (R56) -/

/-- The numbers 0–8,191 of the circuits that are bound. -/
def boundCircuits (s : State) : List Nat :=
  (s.dict.obj.filter (fun p => decide (0x3000 ≤ p.1 / 256 ∧ p.1 / 256 < 0x5000 ∧ p.1 % 256 = 1))).map (fun p => p.1 / 256 - 0x3000)

/-- What follows from the settings that lose their values: ports go down, circuits are unbound, sessions of principals and
officers whose enrolment changes close. -/
def leaveSettings (s : State) : State :=
  let s1 := [0, 1].foldl (fun t p => if objVal t (at_ Obj.SP_ENABLE p) = 1 then portOff p t else t) s
  let s2 := (boundCircuits s1).foldl (fun t c => unbindCircuit c t) s1
  let changed := (List.range 32).filter (fun p => decide (objVal s (prnObj p 1) ≠ 0 ∨ objVal s (prnObj p 2) ≠ 0 ∨ objVal s (prnObj p 3) ≠ 0))
  closeCard (changed.foldl (fun t p => closePrincipal p t) s2)

/-- Every stored setting takes its ROM default; a locked region rule stays in effect (R101). -/
def restoreDefaults (s : State) : State :=
  let s1 := leaveSettings s
  let keys := (s1.dict.obj.filter (fun p => isStored p.1)).map (·.1)
  let s2 := keys.foldl (fun t k => setObj k (objDefault k) t) s1
  let s3 := setObj Obj.ID_MG_MAC (defaultMac s2) s2
  driveGpio { s3 with iso := { s3.iso with
    rules := mfilter (fun k _ => ruleLocked s3 (k / 64) (k % 64)) s3.iso.rules, shadow := [] } }

/-- The write of DICT_RESTORE_DEFAULTS: a critical act (R56). -/
def restoreRule : WriteRule := { cmdRule restoreDefaults with critical := true }

/-- DICT_RESTORE_DEFAULTS (R56). -/
def execDictRestoreDefaults (c : Caller) (data : Bytes) (s : State) : Host.Outcome State Fault Refusal :=
  .next (writeAccess c Obj.DICT_RESTORE_DEFAULTS data restoreRule s)

/-! ### DICT_DESCRIBE (R47, R48) -/

/-- The type codes of R37. -/
def typeCode : ObjType → Nat
  | .bool => 0x01
  | .u8 => 0x02
  | .u16 => 0x03
  | .u32 => 0x04
  | .u64 => 0x05
  | .i32 => 0x06
  | .bytes => 0x07
  | .string => 0x08
  | .time64 => 0x09
  | .handle16 => 0x0A
  | .colour16 => 0x0B
  | .array => 0x0C

/-- The access codes of a descriptor (R47). -/
def accessCode : Access → Nat
  | .ro => 0x01
  | .rw => 0x02
  | .wo => 0x03
  | .rwl => 0x04
  | .cmd => 0x06

/-- The object is locked now: among the locked RWL objects, or a region-rule entry with its LOCK bit set (R101). -/
def lockedNow (s : State) (id : ObjId) : Bool :=
  decide (id ∈ s.dict.locked) || (ruleSlot id).any (fun k => ruleLocked s (k / 64) (k % 64))

/-- A descriptor (R47); of an object that its reader can neither read nor write only index and subindex (R48). -/
def descriptor (s : State) (w : Who) (id : ObjId) : Bytes :=
  let head := leBytes 2 (id / 256) ++ leBytes 1 (id % 256)
  match findObj id with
  | none => head ++ zeros 61
  | some o =>
    let reach := served s id && !(concealed s w.roles w.tenant id o) &&
      (mayRead s w.caller w.roles w.tenant id o || mayWrite s w.caller w.roles w.tenant id o)
    if !reach then head ++ zeros 61
    else
      let n := if o.ty = .bytes ∨ o.ty = .string ∨ o.ty = .array then o.n else 0
      let roles := (o.rd ||| o.wr ||| writeRoles s o w.tenant) &&& 15
      head ++ leBytes 1 (typeCode o.ty) ++ leBytes 4 n ++ leBytes 1 (accessCode o.acc) ++ leBytes 1 roles ++
        leBytes 1 (b2n o.stored + 2 * b2n (lockedNow s id)) ++ zeros 1 ++ leBytes 20 (defaultOf s id) ++
        fitBytes 32 (ascii o.name)

/-- The write of DICT_DESCRIBE: the caller's own DICT_DESCRIPTION takes the descriptor (R47). -/
def describeRule (w : Who) (data : Bytes) : WriteRule :=
  cmdRule (fun t => setOwn w.caller Obj.DICT_DESCRIPTION (leNat (descriptor t w (writtenVal Obj.DICT_DESCRIBE data))) t)

/-- DICT_DESCRIBE (R47). -/
def execDictDescribe (c : Caller) (data : Bytes) (s : State) : Host.Outcome State Fault Refusal :=
  .next (writeAccess c Obj.DICT_DESCRIBE data (ruleFor s ⟨c, .write, Obj.DICT_DESCRIBE, data⟩ (fun w => describeRule w data)) s)

end Sys2Proof.Machine
end

