-- ==== Sys2Proof/Machine/Reads.lean ====
section
/-!
DEFINITION. What a read of an object returns (R8, R37, R38): the objects whose value the device computes from its state, and
every other from the object store.
-/
namespace Sys2Proof.Machine

/-! ### Computed values, area by area -/

/-- Identity, by subindex (R43, R672). -/
def readIdentity (s : State) (gpio idx sub : Nat) : Option Nat :=
  if idx = 0x100 then (if sub = 3 ∨ sub = 5 ∨ sub = 7 then some (defaultOf s (0x10000 + sub)) else none)
  else if idx = 0x101 then (if sub = 0 then none else some (defaultOf s (0x10100 + sub)))
  else if idx = 0x120 ∧ sub = 3 then some (gpio % 256) else none

/-- The entries of a notification slot in use (R57). -/
def slotCount (s : State) (slot : Nat) : Nat :=
  mcount (fun k v => decide (k / 256 = 0x240 + slot ∧ k % 256 ≠ 0 ∧ v ≠ 0)) s.dict.obj

/-- The dictionary area (R47, R57). -/
def readDict (s : State) (c : Caller) (idx sub : Nat) : Option Nat :=
  if idx = 0x203 ∧ sub = 2 then some (ownVal s c Obj.DICT_DESCRIPTION)
  else if idx = 0x210 ∧ sub = 5 then some s.dict.sessions.length
  else if 0x240 ≤ idx ∧ idx ≤ 0x248 ∧ sub = 0 then some (slotCount s (idx - 0x240)) else none

/-- A pair's ring objects (R129). -/
def readPair (s : State) (p sub : Nat) : Option Nat :=
  match sub with
  | 0x50 => some (pairCode (pair s p).st)
  | 0x51 => some (pair s p).next
  | 0x52 => some (pair s p).cplNext
  | 0x53 => some (pair s p).held.length
  | _ => none

/-- A tenant's record (R121, R129). -/
def readTenant (s : State) (t sub : Nat) : Option Nat :=
  match sub with
  | 0x06 => some (0x1000 + t)
  | 0x12 => some (pairEntries s t)
  | 0x13 => some (pairPages s t)
  | _ => readPair s t sub

/-- Isolation (R108, R121): the selected log entry; an entry of the region rules in effect (R99). -/
def readIso (s : State) (c : Caller) (idx sub : Nat) : Option Nat :=
  if idx = 0x800 ∧ sub = 3 then some (ownVal s c Obj.ISO_LOG_SEL)
  else if idx = 0x800 ∧ sub = 4 then
    some (((s.iso.log.find? (fun r => decide (r.seq = ownVal s c Obj.ISO_LOG_SEL))).map (fun r => leNat (refusalBytes r))).getD 0)
  else if 0x810 ≤ idx ∧ idx ≤ 0x818 then some (ruleOf s (idx - 0x810) (sub - 1)) else none

/-- Rings, as a whole (R164). -/
def readRings (s : State) (sub : Nat) : Option Nat :=
  match sub with
  | 1 => some (entriesFree s)
  | 2 => some (pagesFree s)
  | 5 => some (sharedFree s)
  | 6 => some (stalledNow s)
  | 7 => some (mcount (fun _ e => isGraft e) s.ring.entries)
  | _ => none

/-- The commands that the dispatch tables hold, and those with SEGMENTED (R186, R194). -/
def dispatchOps : List Nat :=
  [0x0101, 0x0102, 0x0103, 0x0107, 0x0201, 0x0204, 0x0205, 0x0301, 0x0304, 0x0305, 0x0401, 0x0404, 0x0405, 0x0501, 0x0502,
    0x0503, 0x0601, 0x0604, 0x0605, 0x0606, 0x0607, 0x0701, 0x0704, 0x0705, 0x0708, 0x0709]
def segmentedOps : List Nat := [0x0304, 0x0401, 0x0501, 0x0701]

/-- A dispatch entry (R186–R188): its TARGET and NEEDS_PATCH are the ROM's, its redirection the loaded patch set's. -/
def dispatchWord (s : State) (sel : Nat) : Nat :=
  let cls := bits sel 9 8
  let e := bits sel 7 0
  let op := e / 16 * 256 + e % 16
  let valid := decide (op ∈ dispatchOps) && decide (opClass op = some cls)
  let target := targetOf s cls e
  b2n valid * 2 ^ 31 + b2n (isPatched s cls e) * 2 ^ 30 + b2n (Config.needsPatch cls e) * 2 ^ 29 +
    b2n (valid && decide (op ∈ segmentedOps)) * 2 ^ 28 + target

/-- The state codes of R300. -/
def htsCode : HtsState → Nat
  | .none_ => 0
  | .ready => 1
  | .rebuilding => 2
  | .exhausted => 3
  | .lost => 4

/-- The stateful key that the caller has selected (R300). -/
def readHts (s : State) (c : Caller) (sub : Nat) : Option Nat :=
  let h := ownVal s c Obj.PKE_HTS_SEL
  let v := fun (f : HtsKey → Nat) => some ((htsKey? s h).elim 0 f)
  match sub with
  | 1 => some s.kreg.hts.length
  | 2 => some h
  | 3 => v (fun k => (counter s k.record).next)
  | 4 => v (fun _ => htsCap (htsKeyLevels s h))
  | 5 => v (fun k => htsCode k.st)
  | _ => none

/-- The public-key engine (R225, R300). -/
def readPke (s : State) (c : Caller) (idx sub : Nat) : Option Nat :=
  if idx = 0xA00 then (if sub = 0 then none else some (sliceCode (slice_ s (sub - 1)).st))
  else if idx = 0xA05 ∧ sub = 2 then some (dispatchWord s (objVal s Obj.PKE_DISPATCH_SEL))
  else if idx = 0xA30 then readHts s c sub else none

/-- The digest engine (R389). -/
def readDigest (s : State) (idx sub : Nat) : Option Nat :=
  if idx = 0xB00 then (match sub with
    | 1 => some (liveCount s)
    | 2 => some (s.dig.ctx.length - liveCount s)
    | 4 => some s.dig.epoch
    | _ => none)
  else if idx = 0xB01 ∧ sub ≠ 0 then some (digUnit s (sub - 1)).jobs.length
  else if idx = 0xB10 ∧ sub ≠ 0 then some (leNat (meas s (sub - 1))) else none

/-- Directory bytes 0–17 of a slot with BASE zero (R332). -/
def slotInfo (v : Slot) : Bytes := dirHead v ++ zeros 2 ++ leBytes 2 v.units ++ dirExpiry v

/-- An LKS directory entry (R354). -/
def lksInfo (e : LksEntry) : Bytes :=
  leBytes 2 e.owner ++ leBytes 1 e.alg ++ leBytes 1 e.pset ++ leBytes 2 e.usage ++ leBytes 1 (e.state + 4 * b2n e.persist) ++
    leBytes 1 e.kind ++ leBytes 2 (e.extents.headD 0) ++ leBytes 2 e.extents.length ++ leBytes 4 e.length

/-- Key register, archive and large-key store (R361). -/
def readKreg (s : State) (c : Caller) (idx sub : Nat) : Option Nat :=
  if idx = 0xC00 ∧ sub = 1 then some (40960 - unitsUsed s)
  else if idx = 0xC00 ∧ sub = 2 then some (65535 - s.kreg.slots.length)
  else if idx = 0xC02 ∧ sub = 1 then some (ownVal s c Obj.KREG_SEL)
  else if idx = 0xC02 ∧ sub = 2 then some ((slot? s (ownVal s c Obj.KREG_SEL)).elim 0 (fun v => leNat (slotInfo v)))
  else if idx = 0xC20 ∧ sub = 2 then some ((activeHalf s).elim 0 (fun h => (liveRecs (halfRecs s h)).length))
  else if idx = 0xC20 ∧ sub = 3 then some ((activeHalf s).elim 0 List.length)
  else if idx = 0xC30 ∧ sub = 1 then some (4096 - (extentsUsed s).length)
  else if idx = 0xC30 ∧ sub = 2 then some (4096 - s.kreg.lks.length)
  else if idx = 0xC30 ∧ sub = 3 then some (ownVal s c Obj.LKS_SEL)
  else if idx = 0xC30 ∧ sub = 4 then some ((lks? s (ownVal s c Obj.LKS_SEL)).elim 0 (fun e => leNat (lksInfo e)))
  else none

/-- The number with the bits of a list set. -/
def bitMap (l : List Nat) : Nat := l.foldl (fun n k => putBit n k true) 0

/-- A stream port (R430). -/
def readPort (s : State) (p sub : Nat) : Option Nat :=
  let x := port s p
  match sub with
  | 0x05 => some (match x.st with | .down => 0 | .training => 1 | .aligning => 2 | .up => 3)
  | 0x06 => some (x.aligned.toNat * 256 + x.locked.toNat)
  | 0x0B => some (bitMap (x.xoffIn.map (·.1)))
  | 0x0C => some x.xoffOut.toNat
  | _ => none

/-- SP_C_STATE (R411). -/
def circuitCode (s : State) (c : Nat) : Nat :=
  if cVal s c Obj.SP_C_TENANT = 0xFFFF then 0
  else if cVal s c Obj.SP_C_ENABLE ≠ 1 then 1
  else if halted s then 2
  else if (circuit s c).blocked then 3
  else if (circuit s c).txCur.elim true (fun k => !(txUsable s c k)) then 4 else 5

/-- The states of an exchange, as GR_C_STATE codes them. -/
def graftCode : GraftState → Nat
  | .idle => 0
  | .g1Sent => 1
  | .g2Sent => 2
  | .confirming => 3
  | .armed => 4
  | .switched => 5
  | .blocked => 6

/-- A circuit's record (R411, R451). -/
def readCircuit (s : State) (c sub : Nat) : Option Nat :=
  let x := circuit s c
  let an := fun (k : Option LinkKey) => k.elim 0 (fun q => q.an % 4)
  match sub with
  | 0x10 => some (circuitCode s c)
  | 0x11 => some (an x.txCur * 64 + an x.rxCur * 16 + an x.rxNext * 4 + an x.rxRet)
  | 0x12 => some (b2n x.txCur.isSome + 2 * b2n x.txNext.isSome + 4 * b2n x.rxCur.isSome + 8 * b2n x.rxNext.isSome +
      16 * b2n x.rxRet.isSome)
  | 0x13 => some (x.txCur.elim 0 (·.next))
  | 0x14 => some (x.rxCur.elim 0 (lowest s c))
  | 0x40 => some (graftCode (graftOf s c).st)
  | 0x5F => some (b2n (graftOf s c).pending)
  | _ => none

/-- Service programs (R503). -/
def readService (s : State) (idx sub : Nat) : Option Nat :=
  if idx = 0x5F00 then (match sub with
    | 2 => some (codeFree s)
    | 3 => some (dataFree s)
    | _ => none)
  else
    let x := cell s (idx - 0x5000)
    match sub with
    | 2 => some (match x.st with | .empty => 0 | .loading => 1 | .ready => 2 | .running => 3 | .fenced => 4)
    | 8 => some (field x.loaded 32 4)
    | 0x0E => some x.dataBase
    | _ => none

/-- A tamper log entry by its number: the log holds the newest 256 (R544). -/
def tamperEntry (s : State) (n : Nat) : Nat :=
  let first := objVal s Obj.TMP_LOG_NEWEST - s.tmp.log.length
  if n ≤ first then 0 else (s.tmp.log[n - first - 1]?).elim 0 (fun r => leNat (tamperBytes r))

/-- An entry of the AON latch (R546). -/
def latchBytes (r : LatchRec) : Bytes :=
  leBytes 8 r.stamp ++ leBytes 1 r.source ++ leBytes 1 r.level ++ leBytes 1 r.flags ++ leBytes 1 r.seq

/-- TMP_QUORUM_ACT (R559). -/
def quorumAct (s : State) : Nat :=
  (liveAct s).elim 0 (fun a => leNat (leBytes 2 (a.obj / 256) ++ leBytes 1 (a.obj % 256) ++ leBytes 1 a.approvers.length ++
    leBytes 2 (ceilDiv (a.firstAt + sec 300 - s.now) 1000000000) ++ zeros 2))

/-- Whether an input is active now, apart from the sources whose activity the device follows: not stated, a free value. -/
def activeNow (s : State) (n : Nat) : Bool :=
  if inputSource n then (source s n).active else Config.freeNat s.free % 2 = 1

/-- Tamper and person interface (R559). -/
def readTamper (s : State) (c : Caller) (idx sub : Nat) : Option Nat :=
  if idx = 0x600 then (match sub with
    | 1 => some s.tmp.held
    | 4 => some s.lc.otp.evidence
    | 5 => some s.tmp.burnsPending
    | _ => none)
  else if idx = 0x601 then (match sub with
    | 2 => some (ownVal s c Obj.TMP_LOG_SEL)
    | 3 => some (tamperEntry s (ownVal s c Obj.TMP_LOG_SEL))
    | _ => none)
  else if idx = 0x602 then (if sub = 0 then none else some ((s.tmp.latch[sub - 1]?).elim 0 (fun r => leNat (latchBytes r))))
  else if 0x610 ≤ idx ∧ idx ≤ 0x627 ∧ sub = 5 then
    let x := source s (idx - 0x610)
    some (b2n x.stuck + 2 * b2n x.chatter + 4 * b2n (activeNow s (idx - 0x610)))
  else if idx = 0x630 then (match sub with
    | 2 => some (officers s)
    | 3 => some (b2n (liveAct s).isSome)
    | 4 => some (quorumAct s)
    | 6 => some (match s.tmp.card.st with | .absent => 0 | .activating => 1 | .unknown => 2 | .session => 3 | .failed => 4)
    | 8 => some (s.tmp.card.session.getD 0xFF)
    | _ => none)
  else none

/-- Life cycle and debug (R586): an act that is no longer pending leaves LC_REQ_STATE at IDLE. -/
def readLife (s : State) (idx sub : Nat) : Option Nat :=
  if idx = 0x300 then (match sub with
    | 1 => some (lifeCode s.lc.st)
    | 2 => some s.lc.root
    | 3 => some (s.lc.nonce.elim 0 (fun p => leNat p.1))
    | 7 =>
      let v := objVal s Obj.LC_REQ_STATE
      some (if v = lPENDING ∧ (liveAct s).elim true (fun a => a.obj ≠ Obj.LC_APPLY) then lIDLE else v)
    | 0x0A => some (defaultOf s Obj.LC_ANCHOR_ID)
    | 0x0B => some (defaultOf s Obj.LC_DDAS_ID)
    | 0x0D => some s.lc.bist
    | _ => none)
  else (match sub with
    | 2 => some (s.lc.challenge.elim 0 (fun p => leNat p.1))
    | 5 => some (if s.lc.debugOpen then 3 else b2n s.lc.challenge.isSome)
    | 6 => some s.lc.scope
    | _ => none)

/-- Cast-on and update (R616). -/
def readUpdate (s : State) (idx sub : Nat) : Option Nat :=
  if idx = 0x700 then (match sub with
    | 1 => some s.upd.phase
    | 3 => some s.upd.area
    | 4 => some s.upd.bootCount
    | 5 => some (mfVersion s.upd.running)
    | 6 => some (mfFormat s.upd.running)
    | 7 => some (defaultOf s Obj.UPD_ANCHOR_ID)
    | 8 => some (b2n (bundleErr s.lc.otp s.upd.fallback).isNone)
    | _ => none)
  else if idx = 0x701 then (match sub with
    | 1 => some (updState s)
    | 4 => some s.upd.staging.length
    | 7 => some (actRec s).activateAt
    | 0x0B => some (s.upd.trialUntil.elim 0 (fun t => ceilDiv (t - s.now) 1000000000))
    | 0x0D => some (mfVersion s.upd.staging)
    | _ => none)
  else if idx = 0x702 ∧ sub ≠ 0 then some (otpSecver s.lc.otp sub) else none

/-- Power and the RTC (R634, R635). -/
def readPower (s : State) (idx sub : Nat) : Option Nat :=
  if idx = 0x400 then (match sub with
    | 3 => some s.pwr.mhz
    | 9 => some (hoursNow s)
    | _ => none)
  else if idx = 0x402 ∧ sub = 4 then some s.pwr.powerLosses
  else if idx = 0x403 ∧ sub ≠ 0 then some (int32 (s.pwr.temps.getD (sub - 1) 0))
  else if idx = 0x404 then (match sub with
    | 1 => some (time64 s)
    | 2 => some (b2n s.pwr.rtcValid)
    | 3 => some s.pwr.rtcSets
    | _ => none)
  else none

/-- The value of an object that the device computes from its state; none for one of the object store. -/
def computed (s : State) (c : Caller) (gpio : Nat) (id : ObjId) : Option Nat :=
  let idx := id / 256
  let sub := id % 256
  if idx < 0x200 then readIdentity s gpio idx sub
  else if idx < 0x300 then readDict s c idx sub
  else if idx < 0x400 then readLife s idx sub
  else if idx < 0x500 then readPower s idx sub
  else if idx = 0x500 ∧ sub = 1 then some (rngCode s.rng.st)
  else if idx < 0x600 then none
  else if idx < 0x700 then readTamper s c idx sub
  else if idx < 0x800 then readUpdate s idx sub
  else if idx < 0x900 then readIso s c idx sub
  else if idx = 0x900 then readRings s sub
  else if 0x910 ≤ idx ∧ idx < 0x920 then readPair s (4096 + (idx - 0x910)) sub
  else if idx < 0xA00 then none
  else if idx < 0xB00 then readPke s c idx sub
  else if idx < 0xC00 then readDigest s idx sub
  else if idx < 0xD00 then readKreg s c idx sub
  else if idx = 0xD00 ∨ idx = 0xD01 then readPort s (idx - 0xD00) sub
  else if idx < 0xE00 then none
  else if idx = 0xE00 then (match sub with
    | 4 => some (grBufUsed s)
    | 6 => some (mcount (fun _ g => !(graftQuiet g)) s.graft.circuits)
    | _ => none)
  else if idx = 0xF00 then (match sub with
    | 2 => some s.rec_.cause
    | 3 => some s.rec_.resets
    | _ => none)
  else if idx = 0xF01 ∧ sub = 1 then some (bitMap s.rec_.fences)
  else if idx < 0x2000 then none
  else if idx < 0x3000 then readTenant s (idx - 0x2000) sub
  else if idx < 0x5000 then readCircuit s (idx - 0x3000) sub
  else if idx < 0x6000 then readService s idx sub else none

/-- The bytes of an object (R37); write-only and command objects read as zero (R8), as does a record that the dictionary server is
refused (R36, R105). -/
def readValue (s : State) (c : Caller) (gpio : Nat) (id : ObjId) : Bytes :=
  match findObj id with
  | none => []
  | some o =>
    if o.acc = .wo ∨ o.acc = .cmd then zeros (encLen o)
    else if (readRefused s id).isSome then (if o.ty = .string then [] else zeros (encLen o))
    else match computed s c gpio id with
      | some v => leBytes (encLen o) v
      | none => objBytes s id

/-- Serve a read that has passed its checks: RNG_READ and DICT_STORE_STATE have rules of their own (R54, R526). -/
def serveRead (c : Caller) (gpio : Nat) (id : ObjId) (s : State) : Result × Bytes × State :=
  if id = Obj.RNG_READ then serveRngRead s
  else if id = Obj.DICT_STORE_STATE then readStoreState s
  else (.done, readValue s c gpio id, noteRead id s)

/-! ### Changes of computed values (R61, R84) -/

/-- The subindexes whose computed values no operation reports as it changes them: the dictionary server sees their changes when
it next looks.  DESIGN CHOICE: a pin that changes under ID_GPIO_IN, which is sampled at a read alone (R672), notifies nobody. -/
def watched (id : ObjId) : Bool :=
  let told : List ObjId := [Obj.RNG_STATE, Obj.TMP_HELD, Obj.TMP_EVIDENCE, Obj.TMP_OFFICERS, Obj.TMP_QUORUM_STATE, Obj.TMP_CARD_STATE,
    Obj.LC_NONCE, Obj.LC_BIST_RESULT, Obj.LC_DBG_CHALLENGE, Obj.LC_DBG_STATE, Obj.LC_DBG_SCOPE, Obj.UPD_STAGED, Obj.UPD_PENDING_AT,
    Obj.UPD_STAGED_VERSION]
  let idx := id / 256
  let sub := id % 256
  !(decide (id ∈ told)) && !(decide (idx = 0xB10)) && !(decide (idx = 0x120)) &&
    !(decide ((idx = 0xD00 ∨ idx = 0xD01) ∧ (sub = 5 ∨ sub = 0xB ∨ sub = 0xC))) &&
    !(decide (0x3000 ≤ idx ∧ idx < 0x5000 ∧ sub = 0x40)) && !(decide (0x5000 ≤ idx ∧ idx < 0x5040 ∧ sub = 2)) &&
    !(decide (0x610 ≤ idx ∧ idx ≤ 0x627))

/-- The value that a subscription's owner would read, where it is computed and watched. -/
def watchedVal (s : State) (slot : Nat) (id : ObjId) : Option Nat :=
  if watched id then computed s (if slot = 8 then .window else .session slot 0) 0 id else none

/-- The subscriptions of every slot: entry and subscribed object (R57). -/
def subscriptions (s : State) : List (ObjId × ObjId) :=
  s.dict.obj.filter (fun p => decide (0x240 ≤ p.1 / 256 ∧ p.1 / 256 ≤ 0x248 ∧ p.1 % 256 ≠ 0 ∧ p.2 ≠ 0))

/-- A change of an object is noticed for one slot: its window queue or its session's pending notifications (R61, R84). -/
def noticedBy (slot : Nat) (id : ObjId) (s : State) : State :=
  if slot = 8 then
    let w := windowNotified s id
    let queued := w && !(decide (id ∈ s.dict.win.queue)) && decide (s.dict.win.queue.length < 64)
    let rings := queued && s.dict.win.ntfEn
    let v := s.dict.win.ntfVector.toNat
    { s with
      dict := { s.dict with win := s.dict.win.noticed w id },
      ring := if rings then msixRaised s.ring v else s.ring,
      out := if rings then s.out ++ msixOut s.ring v else s.out }
  else { s with dict := { s.dict with sessions := mmap (fun k x => if k = slot then Session.noticed s k x id else x) s.dict.sessions } }

/-- Look at one subscription: a computed value that differs from the one its slot has seen before is a change for that slot. -/
def lookAt (s : State) (p : ObjId × ObjId) : State :=
  match watchedVal s (p.1 / 256 - 0x240) p.2 with
  | none => s
  | some v =>
    let s1 := { s with dict := { s.dict with seen := mset s.dict.seen p.1 v } }
    match mget? s.dict.seen p.1 with
    | none => s1
    | some w => if w = v then s1 else noticedBy (p.1 / 256 - 0x240) p.2 s1

/-- Look at every subscription. -/
def lookAround (s : State) : State := (subscriptions s).foldl lookAt s

end Sys2Proof.Machine
end

