-- ==== Sys2Proof/Machine/Rules.lean ====
section
/-!
DEFINITION. The rule of every object's write: the settings with checks or effects of their own, the command objects, and the
plain settings.  The rows of the command objects use the same rules.
-/
namespace Sys2Proof.Machine

/-- The objects of which each transport session and the window hold their own copy (R47, R121, R300, R361, R559, R586). -/
def ownObjs : List ObjId :=
  [Obj.ISO_LOG_SEL, Obj.PKE_HTS_SEL, Obj.KREG_SEL, Obj.LKS_SEL, Obj.TMP_LOG_SEL, Obj.LC_DBG_TOKEN]

/-- A subscription is written (R57): the value that the subscribed object has now is the one seen. -/
def subscribeRule (id : ObjId) (data : Bytes) : WriteRule :=
  let r := plainRule id data
  { r with act := fun s =>
      let t := r.act s
      let t1 := { t with dict := { t.dict with seen := mdel t.dict.seen id } }
      if objVal t1 id = 0 then t1 else lookAt t1 (id, objVal t1 id) }

/-- Identity and dictionary (R47–R57, R672). -/
def ruleDict (env : ApplyEnv) (w : Who) (id : ObjId) (data : Bytes) (s : State) : WriteRule :=
  let idx := id / 256
  let sub := id % 256
  if idx = 0x110 ∧ 2 ≤ sub ∧ sub ≤ 7 then phyRule sub env.mdioErrs data s
  else if idx = 0x120 then { plainRule id data with act := fun t => driveGpio ((plainRule id data).act t) }
  else if id = Obj.DICT_STORE then storeRule s
  else if id = Obj.DICT_RESTORE_DEFAULTS then restoreRule
  else if id = Obj.DICT_DESCRIBE then describeRule w data
  else if id = Obj.DICT_OAP_ENABLE then oapEnableRule data
  else if id = Obj.DICT_OAP_LOCK then cmdRule (lockObjs [Obj.DICT_OAP_PORT])
  else if 0x220 ≤ idx ∧ idx < 0x240 then principalRule (idx - 0x220) sub data s
  else if 0x240 ≤ idx ∧ idx ≤ 0x248 then subscribeRule id data else plainRule id data

/-- Life cycle and debug (R567–R582). -/
def ruleLife (env : ApplyEnv) (w : Who) (id : ObjId) (data : Bytes) (s : State) : WriteRule :=
  if id = Obj.LC_NONCE_NEW then nonceRule s
  else if id = Obj.LC_REQUEST then
    { ownRule w.caller id data with busy := (liveAct s).any (fun a => decide (a.obj = Obj.LC_APPLY)) }
  else if id = Obj.LC_APPLY then applyRule w data s
  else if id = Obj.LC_BIST then bistRule env.bistPass s
  else if id = Obj.LC_DBG_CHALLENGE_NEW then challengeRule data s
  else if id = Obj.LC_DBG_OPEN then openRule w.caller data s
  else plainRule id data

/-- Power and the RTC (R620, R625, R628, R635). -/
def rulePower (env : ApplyEnv) (id : ObjId) (data : Bytes) (s : State) : WriteRule :=
  if id = Obj.PWR_REPLAN then replanRule env.gauge s
  else if id = Obj.PWR_CLOCK_FLOOR then { plainRule id data with bad := decide (leNat data % 25 ≠ 0) }
  else if id = Obj.PWR_PLL_IDLE ∨ id = Obj.PWR_SLICE_IDLE ∨ id = Obj.PWR_SLICE_GATE then idleRule id data
  else if id = Obj.PWR_PDN_WINDOW then { plainRule id data with critical := decide (objVal s id < leNat data) }
  else if id = Obj.PWR_RTC then rtcRule data
  else plainRule id data

/-- Tamper and person interface (R528–R559). -/
def ruleTamper (id : ObjId) (data : Bytes) (s : State) : WriteRule :=
  let idx := id / 256
  let sub := id % 256
  if id = Obj.TMP_RELEASE then releaseRule data s
  else if id = Obj.TMP_LOCK then cmdRule (lockObjs tmpLocked)
  else if id = Obj.TMP_ALARM_PIN_LEVEL then
    { plainRule id data with act := fun t => drivePin (alarmLow t) ((plainRule id data).act t) }
  else if id = Obj.TMP_AON_CLEAR then cmdRule clearLatch
  else if 0x610 ≤ idx ∧ idx ≤ 0x627 ∧ sub = 1 then cfgRule (idx - 0x610) data s
  else if id = Obj.TMP_QUORUM_CANCEL then cmdRule dropAct
  else if 0x640 ≤ idx ∧ idx ≤ 0x64F ∧ sub = 1 then enrolRule (idx - 0x640) data s
  else if 0x640 ≤ idx ∧ idx ≤ 0x64F then
    { plainRule id data with act := fun t => officerChanged (idx - 0x640) ((plainRule id data).act t) }
  else plainRule id data

/-- Update (R602–R614). -/
def ruleUpdate (id : ObjId) (data : Bytes) (s : State) : WriteRule :=
  if id = Obj.UPD_STAGE_BEGIN then stageBeginRule s
  else if id = Obj.UPD_VERIFY then verifyRule data s
  else if id = Obj.UPD_ACTIVATE_AT then activateRule data s
  else if id = Obj.UPD_CANCEL then cancelRule s
  else if id = Obj.UPD_CONFIRM then confirmRule s
  else plainRule id data

/-- Isolation (R97–R101, R122). -/
def ruleIso (id : ObjId) (data : Bytes) (s : State) : WriteRule :=
  let idx := id / 256
  if 0x810 ≤ idx ∧ idx ≤ 0x818 then ruleWrite (idx - 0x810) (id % 256 - 1) data s
  else if id = Obj.ISO_RULE_COMMIT then commitRule data s
  else if id = Obj.ISO_TAG_QUERY then portRule (fun t => setObj Obj.ISO_TAG_RESULT (shownTag t (leNat data)) t)
  else plainRule id data

/-- A pair's ring objects (R124, R129–R131). -/
def rulePair (p sub : Nat) (id : ObjId) (data : Bytes) (s : State) : WriteRule :=
  let r := if isMgmt p then plainRule id data else tenantRule p id data s
  let v := leNat data
  if sub = 0x40 then (if v = 0 then disableRule p s else enableRule p s)
  else if 0x41 ≤ sub ∧ sub ≤ 0x44 then
    { r with busy := r.busy || decide ((pair s p).st ≠ .disabled) }
  else if sub = 0x45 then { r with bad := decide (ringVal s p Obj.RING_POLL_IDLE < v) }
  else if sub = 0x46 then { r with bad := decide (v < ringVal s p Obj.RING_POLL_ACTIVE) }
  else r

/-- A tenant's record (R113–R119). -/
def ruleTenant (t sub : Nat) (id : ObjId) (data : Bytes) (s : State) : WriteRule :=
  if sub = 2 then createRule t s
  else if sub = 3 then deleteRule t s
  else if sub = 4 then fenceRule t (if leNat data = 0 then unfenceTenant t else operatorFence t) s
  else if 0x40 ≤ sub then rulePair t sub id data s
  else tenantRule t id data s

/-- Public-key engine and digest engine (R261, R388). -/
def ruleEngines (id : ObjId) (data : Bytes) (s : State) : WriteRule :=
  if id = Obj.PKE_LAT_LOCK then latLockRule
  else if id / 256 = 0xB11 then measOwnerRule (id % 256 - 1) data s
  else plainRule id data

/-- Key register and archive (R352, R359, R360). -/
def ruleKreg (id : ObjId) (data : Bytes) (s : State) : WriteRule :=
  if id = Obj.KREG_FILL_START then fillStartRule s
  else if id = Obj.KREG_ARCH_COMPACT then archCompactRule
  else if id = Obj.KREG_ARCH_INIT then archInitRule s
  else plainRule id data

/-- Stream ports (R393, R394, R405). -/
def rulePort (p sub : Nat) (id : ObjId) (data : Bytes) (s : State) : WriteRule :=
  let r := plainRule id data
  let v := leNat data
  if sub = 1 then portRule (if v = 0 then portOff p else portOn p)
  else if 2 ≤ sub ∧ sub ≤ 4 then { r with busy := decide (objVal s (at_ Obj.SP_ENABLE p) = 1) }
  else if sub = 8 then { r with act := fun t => updateFlow p (r.act t) }
  else if sub = 9 then
    { r with bad := decide (objVal s (at_ Obj.SP_FC_XOFF p) < v + 512), act := fun t => updateFlow p (r.act t) }
  else r

/-- A circuit's record (R408–R411, R448, R451). -/
def ruleCircuit (c sub : Nat) (id : ObjId) (data : Bytes) (s : State) : WriteRule :=
  if sub = 1 then (if leNat data = 0xFFFF then portRule (unbindCircuit c) else bindRule c (leNat data) s)
  else if transformSub sub then transformRule c sub data s
  else if sub = 0x17 then portRule (zeroiseCircuit c)
  else if 0x41 ≤ sub ∧ sub ≤ 0x49 then { plainRule id data with busy := !(graftQuiet (graftOf s c)) }
  else if sub = 0x52 then portRule (trigger c true)
  else plainRule id data

/-- Service programs (R493, R494, R503, R504). -/
def ruleService (n sub : Nat) (id : ObjId) (data : Bytes) (s : State) : WriteRule :=
  if sub = 1 then
    { plainRule id data with
      act := fun t => [9, 10, 11].foldl (fun u k => setObj ((0x5000 + n) * 256 + k) 0 u) ((plainRule id data).act t),
      busy := decide ((cell s n).st ≠ .empty),
      bad := decide (leNat data ≠ 0xFFFF) && (decide (4096 ≤ leNat data) || decide (objVal s (at_ Obj.TENANT_STATE (leNat data)) ≠ 1)) }
  else if sub = 3 then portRule (fun t => noticed id (setCell n { cell t n with image := data } t))
  else if sub = 5 then cellLoadRule n s
  else if sub = 0x0D then cellResetRule n s
  else plainRule id data

/-- Errors and recovery (R520, R639, R648). -/
def ruleErrors (id : ObjId) (data : Bytes) (s : State) : WriteRule :=
  if id = Obj.ERR_RESET then errResetRule s
  else if id = Obj.ERR_SLICE_REINIT then reinitRule (.slice (leNat data)) s
  else if id = Obj.ERR_REQ_REINIT then reinitRule (.requester (leNat data)) s
  else if id = Obj.ERR_DIG_REINIT then reinitRule (.digest (leNat data)) s
  else if id = Obj.ERR_PIPE_REINIT then reinitRule (.pipe (leNat data)) s
  else if id = Obj.ERR_RNG_REINIT then rngReinitRule s data
  else plainRule id data

/-- The rule of a write of any object. -/
def writeRule (env : ApplyEnv) (w : Who) (id : ObjId) (data : Bytes) (s : State) : WriteRule :=
  let idx := id / 256
  let sub := id % 256
  if id ∈ ownObjs then ownRule w.caller id data
  else if idx < 0x300 then ruleDict env w id data s
  else if idx < 0x400 then ruleLife env w id data s
  else if idx < 0x500 then rulePower env id data s
  else if idx < 0x600 then plainRule id data
  else if idx < 0x700 then ruleTamper id data s
  else if idx < 0x800 then ruleUpdate id data s
  else if idx < 0x900 then ruleIso id data s
  else if 0x910 ≤ idx ∧ idx < 0x920 then rulePair (4096 + (idx - 0x910)) sub id data s
  else if idx < 0xC00 then ruleEngines id data s
  else if idx < 0xD00 then ruleKreg id data s
  else if idx = 0xD00 ∨ idx = 0xD01 then rulePort (idx - 0xD00) sub id data s
  else if idx < 0xF00 then plainRule id data
  else if idx < 0x1000 then ruleErrors id data s
  else if idx < 0x2000 then plainRule id data
  else if idx < 0x3000 then ruleTenant (idx - 0x2000) sub id data s
  else if idx < 0x5000 then ruleCircuit (idx - 0x3000) sub id data s
  else if idx < 0x5040 then ruleService (idx - 0x5000) sub id data s
  else plainRule id data

end Sys2Proof.Machine
end

