-- ==== Sys2Proof/Machine/Card.lean ====
section
/-!
DEFINITION. The officer card slot (R548–R552, R555): activation, LOGIN, approvals and key components.
-/
namespace Sys2Proof.Machine

/-! ### The slot -/

/-- Replace the card slot, an event for the core (R679); TMP_CARD_STATE is noticed where it changes. -/
def setCard (k : Card) (s : State) : State :=
  let t := rouseCore { s with tmp := { s.tmp with card := k } }
  if k.st = s.tmp.card.st then t else noticed Obj.TMP_CARD_STATE t

/-- The card slot works: from DEVICE_READY on (R576, R597). -/
def slotWorks (s : State) : Bool := s.pwr.supplies && decide (s.upd.phase = 7)

/-- Send a card command (R549): CLA, INS, P1, P2 and data. -/
def apdu (cla ins p1 : Byte) (data : Bytes) : Out := .card ([cla, ins, p1, 0] ++ data)

/-- Activate the contacts for LOGIN (R548, R551); without the random source no session opens. -/
def activateCard (s : State) : State :=
  if !(rngReady s) then setCard { s.tmp.card with st := .failed, step := .none_ } s
  else emit .cardActivate (setCard { s.tmp.card with st := .activating, step := .atr false } s)

/-- The card is deactivated as one that does not serve (R548). -/
def rejectCard (s : State) : State := emit .cardDeactivate (setCard { s.tmp.card with st := .failed, step := .none_ } s)

/-- The exchange ends and the card is treated as refused (R549). -/
def refuseCard (s : State) : State := setCard { s.tmp.card with st := .failed, step := .none_ } s

/-- CARD_INSERT (R551). -/
def execCardInsert (s : State) : Host.Outcome State Fault Refusal :=
  .next (if s.tmp.card.seated then s
    else
      let s1 := { s with tmp := { s.tmp with card := { s.tmp.card with seated := true } } }
      if slotWorks s then activateCard s1 else s1)

/-- CARD_ATR (R548): a failed ATR gets one warm reset; a card without T=1 and LRC is deactivated. -/
def execCardAtr (valid t1lrc : Bool) (s : State) : Host.Outcome State Fault Refusal :=
  .next (match s.tmp.card.step with
    | .atr warm =>
      if !valid then
        if warm then rejectCard s else emit .cardActivate (setCard { s.tmp.card with step := .atr true } s)
      else if !t1lrc then rejectCard s
      else emit (apdu 0x00 0xA4 0x04 [0xF0, 0x5A, 0x4B, 0x4F, 0x46, 0x01]) (setCard { s.tmp.card with step := .select } s)
    | _ => s)

/-- CARD_SELECT (R549). -/
def execCardSelect (sw : Nat) (s : State) : Host.Outcome State Fault Refusal :=
  .next (match s.tmp.card.step with
    | .select =>
      if sw ≠ 0x9000 then refuseCard s
      else emit (apdu 0x80 0x10 0x00 []) (setCard { s.tmp.card with step := .getKeys } s)
    | _ => s)

/-! ### LOGIN (R551) -/

/-- The officer whose card holds these public keys. -/
def officerOf (s : State) (keys : Bytes) : Option Nat :=
  let h := leNat (sha3_256 keys)
  (List.range 16).find? (fun o => decide (h ≠ 0 ∧ objVal s (at_ Obj.TMP_OFF_KEY_ID o) = h))

/-- Ask the card of an officer to sign the LOGIN statement (R550). -/
def askLogin (o : Nat) (keys : Bytes) (s : State) : State :=
  let n := draw 40 32 s
  let stmt := cardStatement n.2 1 n.1 []
  emit (apdu 0x80 0x20 0x00 stmt) (setCard { n.2.tmp.card with keys := keys, step := .login o stmt } n.2)

/-- CARD_GET_KEYS (R551): a card of no enrolled officer is UNKNOWN. -/
def execCardGetKeys (sw : Nat) (data : Bytes) (s : State) : Host.Outcome State Fault Refusal :=
  .next (match s.tmp.card.step with
    | .getKeys =>
      if sw ≠ 0x9000 ∨ data.length ≠ 2049 ∨ !(rngReady s) then refuseCard s
      else match officerOf s data with
        | none => setCard { s.tmp.card with keys := data, st := .unknown, step := .none_ } s
        | some o => askLogin o data s
    | _ => s)

/-- A card's two signatures over a statement verify (R550). -/
def cardSigned (keys stmt sig : Bytes) : Bool :=
  decide (sig.length = 3405) && dsaOk 2 (keys.take 1952) (ascii "zk-officer") stmt (sig.take 3309) &&
    p384Ok (keys.drop 1952) stmt (sig.drop 3309)

/-- The verifications of a card's signatures can run: ML-DSA-65 and ECDSA P-384 each have a slice (R550, R598).  DESIGN CHOICE: they run within
the row, and wait for no slice. -/
def canVerifyCard (s : State) : Bool := !(unitMissing s 0x0205) && !(unitMissing s 0x0605)

/-- The session of an officer opens (R551). -/
def openCard (o : Nat) (s : State) : State :=
  askFill (setObj (at_ Obj.TMP_OFF_LAST o) (time64 s)
    (setCard { s.tmp.card with st := .session, session := some o, step := .none_, lastAt := s.now } s))

/-! ### Approvals (R555) -/

/-- The window's access ends, its result discarded where a PCIe reset has come between (R62). -/
def endApproval (report : Bool) (e : Result) (s : State) : State :=
  if report then deliver .window .write 0 e 0 none [] s else s

/-- Who approves through the window: an officer whose card session is open (R39, R555). -/
def approverOf (o : Nat) (report : Bool) (s : State) : Who :=
  { caller := if report then .window else .session oldWindow 0, roles := rOPERATOR + rOFFICER, tenant := 0,
    approver := objVal s (at_ Obj.TMP_OFF_KEY_ID o) }

/-- The approval is not counted (R552, R555); where the access so ends NOT_PERMITTED, that is counted (R57). -/
def notApproved (obj : ObjId) (report : Bool) (s : State) : State :=
  let e := cardRefusal s
  endApproval report e (countRefused (approverOf 0 report s) obj e
    (usedFree { s with tmp := { s.tmp with card := { s.tmp.card with step := .none_ } } }))

/-- The card of officer `o` has signed: the write meets its checks again, and the approval counts. -/
def approved (env : ApplyEnv) (o : Nat) (obj : ObjId) (data : Bytes) (report : Bool) (s : State) : State :=
  let w := approverOf o report s
  let s1 := { s with tmp := { s.tmp with card := { s.tmp.card with step := .none_, lastAt := s.now } } }
  let r := writeRule env w obj data s1
  askFill (match writeChecks s1 w obj data r with
    | some e => endApproval report e (countRefused w obj e (failedLast obj data w.approver e s1))
    | none =>
      let p := approve obj data w.approver r s1
      endApproval report p.2 p.1)

/-! ### Key components (R352, R550) -/

/-- The card has signed the FILL statement: it is sent a fresh ML-KEM-768 ek. -/
def askComponent (stmt : Bytes) (s : State) : State :=
  let n := draw 40 64 s
  let ek := primOut (.mlkemKeygen 2) [n.1.take 32, n.1.drop 32] (kemEk 2)
  emit (apdu 0x80 0x30 0x00 (stmt ++ ek))
    (keepSecret cardSecret n.1 (setCard { n.2.tmp.card with step := .component stmt, lastAt := n.2.now } n.2))

/-- CARD_SIGN (R550, R551, R555): what the signature was asked for follows if it verifies. -/
def execCardSign (sw : Nat) (data : Bytes) (env : ApplyEnv) (s : State) : Host.Outcome State Fault Refusal :=
  .next (
    let k := s.tmp.card
    let good := fun stmt => decide (sw = 0x9000) && rngReady s && canVerifyCard s && cardSigned k.keys stmt data
    match k.step with
    | .login o stmt => if good stmt then openCard o s else refuseCard s
    | .approve obj d stmt report =>
      match k.session with
      | some o => if good stmt then approved env o obj d report s else notApproved obj report s
      | none => notApproved obj report s
    | .fill stmt => if good stmt && s.kreg.fill.isSome && !(unitMissing s 0x0103) then askComponent stmt s else failFill s
    | _ => s)

/-- The component that a card's answer holds, decrypted (R550); none where the answer is of the wrong length or its tag fails. -/
def component (stmt dk data : Bytes) (len : Nat) : Option Bytes :=
  let c := data.take 1088
  let ct := slice data 1088 len
  let key := kmac256 (primOut (.mlkemDecaps 2) [dk, c] 32) stmt (ascii "ZKFILL")
  if data.length = 1088 + len + 16 ∧ gcmTag key (zeros 12) stmt ct = data.drop (1088 + len) then some (gcmXor key (zeros 12) ct)
  else none

/-- CARD_GET_COMPONENT (R352, R353, R550). -/
def execCardGetComponent (sw : Nat) (data : Bytes) (s : State) : Host.Outcome State Fault Refusal :=
  .next (match s.tmp.card.step, s.tmp.card.session, s.kreg.fill with
    | .component stmt, some o, some f =>
      let len := match mget? s.kreg.slots f.handle with
        | some v => v.data.length
        | none => 0
      let s1 := endFillStep { s with tmp := { s.tmp with card := { s.tmp.card with lastAt := s.now } } }
      if sw ≠ 0x9000 then failFill s
      else match (secret? s cardSecret).bind (fun dk => component stmt dk data len) with
        | none => failFill s
        | some c => addComponent o c s1
    | .component _, _, _ => failFill s
    | _, _, _ => s)

/-! ### The end of a session (R552) -/

/-- What the operation under way comes to when its card goes: an approval is not counted, a key fill fails. -/
def dropOperation (s : State) : State :=
  match s.tmp.card.step with
  | .approve obj _ _ report => notApproved obj report s
  | .fill _ => failFill s
  | .component _ => failFill s
  | _ => s

/-- CARD_REMOVE (R552). -/
def execCardRemove (s : State) : Host.Outcome State Fault Refusal :=
  .next (if s.tmp.card.seated then
      let s1 := dropOperation s
      emit .cardDeactivate (setCard { Card.reset with lastAt := s1.tmp.card.lastAt } s1)
    else s)

/-- CARD_IDLE_TIMEOUT (R552). -/
def execCardIdleTimeout (s : State) : Host.Outcome State Fault Refusal :=
  .next (if s.tmp.card.session.isSome ∧ s.tmp.card.step = .none_ then
      closeCard (advanceTo (s.tmp.card.lastAt + sec (objVal s Obj.TMP_CARD_IDLE)) s)
    else s)

end Sys2Proof.Machine
end

