-- ==== Sys2Proof/Machine/CastOn.lean ====
section
/-!
DEFINITION. Cast-on (R595–R600): the phases C0 to C6, with the copies of an activation or a fallback (R610, R611, R615).
-/
namespace Sys2Proof.Machine

/-! ### C0 and C1 (R595) -/

/-- The latch as tamper-log entries (R547): copied with flag AON; DEFERRED where the entry's burn is made now. -/
def copyLatch (burns : Bool) (level : Nat) (s : State) : State :=
  s.tmp.latch.foldl (fun t r => logTamper
    { stamp := r.stamp, source := r.source, level := r.level, applied := max level r.level,
      flags := r.flags + fAON + (if burns && decide (3 ≤ r.level) then fDEFERRED else 0), value := 0 } t) s

/-- The AON domain's state is taken over (R538, R542, R543, R547): the latch copied, the pending burns made, the held level the
higher of the held and the pending level. -/
def takeAon (s : State) : State :=
  let burns := burnsState s && decide (0 < s.tmp.burnsPending)
  let pend := if 3 ≤ s.tmp.aonPending then s.tmp.aonPending else 0
  let level := max s.tmp.held pend
  let s1 := if burns then burn s.tmp.burnsPending s else s
  let s2 := copyLatch burns (max (heldLevel s1) level) s1
  { s2 with tmp := { s2.tmp with
    burnsPending := 0, aonPending := 0, held := level } }

/-- RMA and SCRAP (R572): BBRAM erased, every unburnt bit of the root slots burnt, archive and configuration areas erased. -/
def destroy (s : State) : State :=
  if s.lc.st = .rma ∨ s.lc.st = .scrap then
    let s1 := eraseBbram s
    let ones : Bytes := List.replicate 36 0xFF
    { s1 with
      lc := { s1.lc with otp := { s1.lc.otp with root0 := ones, root1 := ones } },
      kreg := { s1.kreg with halfA := [], halfB := [] },
      dict := { s1.dict with areaA := [], areaB := [] } }
  else s

/-- OTP is loaded and the life cycle decoded (R561); the last BIST's result is reported from now on (R575). -/
def loadOtp (s : State) : State :=
  let l := decodeLife s.lc.otp
  { s with lc := { s.lc with st := l, root := rootOf l, bist := if s.lc.bistNext = 0 then s.lc.bist else s.lc.bistNext, bistNext := 0 } }

/-- The BBRAM boot count goes up by one; past its 64 bits the spec gives no value: a free one. -/
def countBoot (s : State) : State :=
  let n := s.upd.bootCount + 1
  { usedFree s with upd := { s.upd with bootCount := if n < 2 ^ 64 then n else Config.freeNat s.free % 2 ^ 64 } }

/-- The voltages of the writes that lead from one target to another in steps of 5 mV (R629); one write where they are equal. -/
def voltSteps (old new : Nat) : List Nat :=
  if old < new then tabulate (ceilDiv (new - old) 5) (fun i => min new (old + 5 * (i + 1)))
  else if new < old then tabulate (ceilDiv (old - new) 5) (fun i => max new (old - 5 * (i + 1)))
  else [new]

/-- The BBRAM plan, or 850 mV, 1,200 MHz and divider 4 (R629). -/
def bootPlan (s : State) : Plan := s.pwr.bbPlan.getD { mhz := 1200, mv := 850, divider := 4 }

/-- The regulator's VOUT_MODE is read and the boot plan applied (R629, R631): no write where it is not LINEAR16.  The writes but
the last have been acknowledged; the last one's result is awaited. -/
def bootPower (e : Option Int) (s : State) : State :=
  let p := bootPlan s
  let s1 := setDivider p.divider (setObj Obj.PWR_VCORE_TARGET p.mv
    { s with pwr := { s.pwr with linear16 := e, mhz := p.mhz, pllRunning := true } })
  match e with
  | none => setObj Obj.PWR_GAUGE_STATE 4 s1
  | some _ =>
    let steps := voltSteps s.pwr.voutNow p.mv
    let prev := steps.dropLast.getLast?.getD s.pwr.voutNow
    let s2 := steps.foldl (fun t v => writeVout v t) s1
    { s2 with pwr := { s2.pwr with voutNow := p.mv, voutPrev := prev, voutAcked := if steps.length = 1 then s.pwr.voutAcked else prev,
                                   voutAt := some s2.now, writePending := true } }

/-- The supervisor's data region: zeroed and tagged 0x0000 by the boot ROM (R95). -/
def tagSupervisor (s : State) : State := retag 0x20000 2048 0 s

/-- Phase C1. -/
def phaseC1 (env : CastEnv) (s : State) : State :=
  let s1 := destroy (loadOtp { s with upd := { s.upd with startedAt := s.now } })
  let s2 := countBoot (takeAon (tagSupervisor s1))
  let s3 := if (actRec s2).state = uCONFIRMED then burnSecver s2 else s2
  let s4 := { s3 with tmp := { s3.tmp with lfsr := BitVec.ofNat 31 (Config.freeNat s3.free) }, free := s3.free + 1 }
  extendMeas 0 (leBytes 1 (lifeCode s4.lc.st) ++ fitBytes 16 s4.lc.otp.unitId ++ rom 0 4) (bootPower env.exponent s4)

/-! ### C2 (R515, R517, R523, R524, R340) -/

/-- A key that cast-on must hold: from instance `n`, or in the degraded state derived under its label (R524). -/
def castKey (n len : Nat) (label : String) (s : State) : Bytes × State :=
  if s.rng.degraded then (degradedKey s label, s) else draw n len s

/-- The keys and orders that cast-on draws (R22, R510, R524): those of the key register with the park key it issues, those of the digest
engine from unit 0's instance, the bus key from the Tsuow core's. -/
def castKeys (s : State) : State :=
  let scr := castKey 43 32 "K_scr" s
  let mask := castKey 43 32 "K_mask" scr.2
  let park := castKey 43 32 "park key" mask.2
  let order := castKey 43 32 "handle order" park.2
  let seed := castKey 43 64 "mask expander seed" order.2
  let ctx := castKey 36 32 "context-number order" seed.2
  let dsave := castKey 36 32 "K_dsave" ctx.2
  let bus := castKey 40 32 "bus key" dsave.2
  let t := bus.2
  { t with kreg := { t.kreg with kScr := scr.1, kMask := mask.1, orderKey := order.1, lastHandle := 0, expander := seed.1, expBlocks := 0 },
           pke := { t.pke with parkKey := park.1 },
           dig := { t.dig with orderKey := ctx.1, lastCtx := 4096, dsave := dsave.1 },
           tsuow := { t.tsuow with busKey := bus.1 } }

/-- The entropy source starts, or after three failed tests cast-on goes on without it; the keys that cast-on must hold are drawn,
or derived in the degraded state. -/
def phaseC2 (env : CastEnv) (s : State) : State :=
  castKeys (if env.rngFails < 3 then rngStarts (usedFree (setObj Obj.RNG_STARTUP_US (startUpTime s / 1000) s))
    else
      let t := rngDies s
      { t with rng := { t.rng with degraded := true } })

/-! ### The copies of an activation or a fallback (R610, R611, R615) -/

/-- What the copies leave: the state, whether cast-on begins with the fallback area, whether an area was copied. -/
structure Copied where
  st : State
  fallbackFirst : Bool
  copied : Bool

/-- A copy that does not read back (R611): UPD_STATE BAD, FLASH, the fallback area runs. -/
def copyFailed (s : State) : Copied :=
  { st := putRec (fun r => { r with state := uBAD, step := 0 }) (lastErr 8 none s), fallbackFirst := true, copied := true }

/-- A copy step's duration. -/
def copyTook (env : CastEnv) (s : State) : State := setObj Obj.UPD_COPY_MS (env.copyMs % 2 ^ 32) s

/-- Step D: TRIAL.  After an activation ordered in recovery no trial follows (R597); UPD_STATE then is not stated: a free value among
EMPTY, VERIFIED and CONFIRMED. -/
def stepD (s : State) : Copied :=
  let st := if s.upd.noTrial then [uEMPTY, uVERIFIED, uCONFIRMED].getD (Config.freeNat s.free % 3) uEMPTY else uTRIAL
  let s1 := usedFree { s with upd := { s.upd with noTrial := false } }
  { st := putRec (fun r => { r with state := st, step := 3, activeBad := false }) s1, fallbackFirst := false, copied := true }

/-- Step C: staging into the active area. -/
def stepC (env : CastEnv) (s : State) : Copied :=
  let s1 := copyTook env (putRec (fun r => { r with step := 2 }) s)
  if env.copyC then stepD { s1 with upd := { s1.upd with active := s1.upd.staging } }
  else copyFailed { s1 with upd := { s1.upd with active := [] } }

/-- Step B: the active area into the fallback area; skipped while ACTIVE_BAD is set. -/
def stepB (env : CastEnv) (s : State) : Copied :=
  if (actRec s).activeBad then stepC env s
  else
    let s1 := copyTook env (putRec (fun r => { r with step := 1 }) s)
    if env.copyB then stepC env { s1 with upd := { s1.upd with fallback := s1.upd.active } }
    else copyFailed { s1 with upd := { s1.upd with fallback := [] } }

/-- Step A: staging verified again and its hash compared; a failure leaves every area as it is (R611).  A wrong hash has no code
of its own in UPD_LAST_ERR: BAD_COMPONENT. -/
def stepA (env : CastEnv) (s : State) : Copied :=
  let b := s.upd.staging
  let bad : Option BundleErr := match bundleErr s.lc.otp b with
    | some e => some e
    | none => if sha384 b = (actRec s).hash then none else some ⟨5, none⟩
  match bad with
  | none => stepB env s
  | some e => { st := putRec (fun r => { r with state := uBAD }) (lastErr e.result e.entry s), fallbackFirst := false, copied := false }

/-- A trial that ended without a confirmation (R615): the fallback area copied into the active area. -/
def fallBack (env : CastEnv) (s : State) : Copied :=
  let s1 := copyTook env (putRec (fun r => { r with step := 4 }) s)
  let s2 := putRec (fun r => { r with state := uFELL_BACK, step := 0 })
    { s1 with upd := { s1.upd with trialUntil := none, active := if env.copyC then s1.upd.fallback else [] } }
  { st := if env.copyC then s2 else lastErr 8 none s2, fallbackFirst := !env.copyC, copied := true }

/-- A pending activation's time has come (R608, R609); one ordered in recovery does not wait (R597). -/
def activates (s : State) : Bool :=
  let r := actRec s
  decide (r.state = uPENDING) && (s.upd.noTrial || (decide (r.activateAt ≤ time64 s) && decide (s.tmp.held = 0)))

/-- Whichever copy cast-on owes: a step found interrupted is done again from its start (R610). -/
def copies (env : CastEnv) (s : State) : Copied :=
  let r := actRec s
  if r.state = uTRIAL ∨ r.step = 4 then fallBack env s
  else if r.step = 1 then stepB env s
  else if r.step = 2 then stepC env s
  else if activates s then stepA env s
  else { st := s, fallbackFirst := false, copied := false }

/-! ### C3 (R596, R597, R600) -/

/-- The bundle of an area: 0 active, 1 fallback. -/
def areaBundle (s : State) (a : Nat) : Bytes := if a = 0 then s.upd.active else s.upd.fallback

/-- An area fails R593: reported, and ACTIVE_BAD set where it is the active area. -/
def areaFailed (a : Nat) (e : BundleErr) (s : State) : State :=
  let s1 := lastErr e.result e.entry s
  if a = 0 then putRec (fun r => { r with activeBad := true }) s1 else s1

/-- The area that runs, if one passes R593, after the failures found; and whether a second area was tried. -/
def chooseArea (fallbackFirst : Bool) (s : State) : Option Nat × State :=
  let a := if decide (s.upd.bootSel = 1) || (actRec s).activeBad || fallbackFirst then 1 else 0
  match bundleErr s.lc.otp (areaBundle s a) with
  | none => (some a, s)
  | some e =>
    let s1 := areaFailed a e s
    match bundleErr s.lc.otp (areaBundle s (1 - a)) with
    | none => (some (1 - a), s1)
    | some f => (none, areaFailed (1 - a) f s1)

/-- The HASH of a component, 48 zero bytes where it is absent (R600). -/
def compHash (b : Bytes) (t : Nat) : Bytes := ((findEntry b t 0).map enHash).getD (zeros 48)

/-- UPD_COMP_STATE of a type. -/
def setComp (t v : Nat) (s : State) : State := setObj (Obj.UPD_COMP_STATE + (t - 1)) v s

/-- The Tsuow firmware in its half of instruction SRAM (R462, R492, R595). -/
def placeFirmware (b : Bytes) (s : State) : State :=
  match findEntry b 1 0 with
  | none => s
  | some e => setComp 1 1 (memWrite (codeFabric 0) ((bodyPlain b e).take 0x100000) s)

/-- The firmware runs: where the core then stands and what its registers hold is not stated: free values. -/
def startFirmware (s : State) : State :=
  let b := freeBytes s.free 68
  let c := { s.tsuow.core with pc := BitVec.ofNat 24 (4 * (field b 64 4 % 0x40000)) }
  let d := (List.range 16).foldl (fun x i => x.setReg i (BitVec.ofNat 32 (field b (4 * i) 4))) c
  usedFree { s with tsuow := { s.tsuow with core := d } }

/-- The entropy parameters of TYPE 0x0A, if the bundle carries them (R592, R598). -/
def placeThresholds (b : Bytes) (s : State) : State :=
  match findEntry b 10 0 with
  | none => s
  | some e => (List.range 6).foldl
      (fun t i => setObj (Obj.RNG_THRESHOLDS + i) (Config.rngThreshold (bodyPlain b e) i).toNat t) (setComp 10 1 s)

/-- Phase C3 on area `a`. -/
def phaseC3 (a : Nat) (s : State) : State :=
  let b := areaBundle s a
  let s1 := { s with upd := { s.upd with area := a, running := b } }
  let s2 := extendMeas 1 (sha384 (b.take (mfSigned b))) s1
  let s3 := extendMeas 7 (compHash b 10 ++ leBytes 1 a ++ leBytes 1 (updState s2)) (extendMeas 2 (compHash b 1) s2)
  placeThresholds b (startFirmware (placeFirmware b s3))

/-! ### C4 (R187, R188, R598, R600) -/

/-- Load the patch set of a class (R187, R188): LOADED, FAILED or NONE. -/
def loadPatch (b : Bytes) (bad : List Nat) (s : State) (cls : Nat) : State :=
  match findEntry b (2 + cls) 0 with
  | none => s
  | some e =>
    let ok := !(decide (2 + cls ∈ bad))
    let s1 := setComp (2 + cls) (if ok then 1 else 2) (setObj (Obj.PKE_PATCH_STATE + cls) (if ok then 1 else 2) s)
    if ok then
      setObj (Obj.PKE_PATCH_VERSION + cls) (field e 4 4)
        { s1 with pke := { s1.pke with patch := mset s1.pke.patch cls (bodyPlain b e) } }
    else s1

/-- The patches of the digest engine and the link cipher (R598). -/
def loadBlockPatch (b : Bytes) (bad : List Nat) (s : State) (t : Nat) : State :=
  if (findEntry b t 0).isNone then s else setComp t (if t ∈ bad then 2 else 1) s

/-- The units that a known-answer test covers (R595). -/
def katUnit : UnitRef → Bool
  | .slice n => decide (n < 36)
  | .digest n => decide (n < 4)
  | .pipe n => decide (n < 8)
  | _ => false

/-- A unit fails its known-answer test (R598): FENCED, and S17 takes one event. -/
def katFails (s : State) (u : UnitRef) : State :=
  if katUnit u && !(unitFenced s u) then tamperEvent 17 u (unitNumber u) (fenceUnit u cKAT .faultDetected s) else s

/-- Phase C4. -/
def phaseC4 (env : CastEnv) (s : State) : State :=
  let b := s.upd.running
  let s1 := [6, 7].foldl (loadBlockPatch b env.badPatches) ([0, 1, 2, 3].foldl (loadPatch b env.badPatches) s)
  let s2 := env.katFails.foldl katFails s1
  extendMeas 4 (compHash b 6 ++ compHash b 7) ([2, 3, 4, 5].foldl (fun t k => extendMeas 3 (compHash b k) t) s2)

/-! ### C5 (R350, R360) -/

/-- ARCHIVE_RESTORE (R360, R539): after the release of a level-4 or level-5 response the archive is restored before the
first job is admitted. -/
def execArchiveRestore (torn : Bool) (bad : Option Nat) (s : State) : Host.Outcome State Fault Refusal :=
  .next (if objVal s Obj.TMP_RELEASE_STATE = 1 then
      renewPolls (admitInternal (queueRebuilds (setObj Obj.TMP_RELEASE_STATE 2 (restoreArchive false torn bad s))))
    else s)

/-- Phase C5: the archive in MISSION (R595), then the attestation keys. -/
def phaseC5 (env : CastEnv) (s : State) : State :=
  let s1 := if s.lc.st = .mission then queueRebuilds (restoreArchive true env.torn env.bad s) else s
  attestKeys s1

/-! ### C6: settings (R51, R52, R613) -/

/-- The configuration area. -/
def cfgArea (s : State) (b : Bool) : Bytes := if b then s.dict.areaB else s.dict.areaA

/-- The area in use for a firmware of format `f`: of the valid ones that with the higher sequence number; true is B (R51). -/
def areaInUse (s : State) (f : Nat) : Option Bool :=
  match readArea s f s.dict.areaA, readArea s f s.dict.areaB with
  | none, none => none
  | some _, none => some false
  | none, some _ => some true
  | some a, some b => some (decide (a.1 < b.1))

/-- Trial firmware of another settings format converts the area that the old firmware used into the other area (R613); where it
cannot read the old format, or there is none, it runs on defaults. -/
def convert (env : CastEnv) (s : State) : State :=
  let new := mfFormat s.upd.running
  let old := mfFormat s.upd.fallback
  if updState s = uTRIAL ∧ old ≠ new then
    match areaInUse s old, env.conv with
    | some b, some recs =>
      let rs := recs.filterMap (fun p => (findObj p.1).map (fun o => (p.1, storedBytes o p.2)))
      putArea (!b) (cfgSealed s (cfgBody new (cfSeq (cfgArea s b) + 1) rs)) s
    | _, _ => s
  else s

/-- The area that this cast-on uses: on trial with another format than the old one's, only the area just converted (R613). -/
def settingsArea (env : CastEnv) (s : State) : Option Bool :=
  let new := mfFormat s.upd.running
  let old := mfFormat s.upd.fallback
  if updState s = uTRIAL ∧ old ≠ new then
    match areaInUse s old, env.conv with
    | some b, some _ => some (!b)
    | some _, none => none
    | none, _ => areaInUse s new
  else areaInUse s new

/-- A record's object exists and its value passes the object's type and the range of its table row (R52). -/
def recordPlain (p : ObjId × Bytes) : Bool :=
  match findObj p.1 with
  | none => false
  | some o => o.stored && lengthOk o p.2 && rangeOk o p.2

/-- The value that the records of an area leave a setting with: its own record's where that passes, else the default. -/
def areaVal (recs : List (ObjId × Bytes)) (id : ObjId) : Nat :=
  match recs.find? (fun p => decide (p.1 = id)) with
  | some p => if recordPlain p then leNat p.2 else objDefault id
  | none => objDefault id

/-- The ranges that an object's own rule adds to its row: those that R533, R548 and the others give, and those that hold between two
settings, each record of such a pair standing or falling with both values as the area leaves them. -/
def recordBad (recs : List (ObjId × Bytes)) (p : ObjId × Bytes) : Bool :=
  let id := p.1
  let idx := id / 256
  let sub := id % 256
  let v := leNat p.2
  let pairs := decide ((0x2000 ≤ idx ∧ idx < 0x3000) ∨ (0x910 ≤ idx ∧ idx < 0x920))
  let val := fun (k : Nat) => areaVal recs (idx * 256 + k)
  (decide (0x610 ≤ idx ∧ idx ≤ 0x627 ∧ sub = 1) && cfgBad (idx - 0x610) v) ||
  decide (id = Obj.PWR_CLOCK_FLOOR ∧ v % 25 ≠ 0) ||
  (pairs && decide (sub = 0x45 ∨ sub = 0x46) && decide (val 0x46 < val 0x45)) ||
  decide ((idx = 0xD00 ∨ idx = 0xD01) ∧ (sub = 8 ∨ sub = 9) ∧ val 8 < val 9 + 512) ||
  decide (0x3000 ≤ idx ∧ idx < 0x5000 ∧ id % 256 = Obj.SP_C_BLOCK_LEN % 256 ∧ v % 16 ≠ 0) ||
  decide (id = Obj.ID_MG_PLCA_NODE ∧ v ≠ 0xFF ∧ areaVal recs Obj.ID_MG_PLCA_COUNT ≤ v)

/-- A stored record is loaded (R52). -/
def recordOk (recs : List (ObjId × Bytes)) (p : ObjId × Bytes) : Bool := recordPlain p && !(recordBad recs p)

/-- A live value takes its stored value; nobody subscribes before DEVICE_READY. -/
def putObj (id v : Nat) (s : State) : State := { s with dict := { s.dict with obj := tset objDefault s.dict.obj id v } }

/-- The record skipped: its object keeps its ROM default (R52). -/
def skipRecord (s : State) : State := bump Obj.DICT_CFG_SKIPPED s

/-- A stored region rule as it comes into effect: never locked (R49), disabled where it covers nothing (R98). -/
def storedRule (v : Nat) : Nat :=
  let w := if bit v 62 then v - 2 ^ 62 else v
  if bit w 63 && decide (ruleLimit w < ruleBase w) then w - 2 ^ 63 else w

/-- One record of the area in use.  Entries 0–47 of the region rules are the supervisor firmware's own (R102); circuits are bound
after every other record (R678). -/
def loadRecord (recs : List (ObjId × Bytes)) (s : State) (p : ObjId × Bytes) : State :=
  if !(recordOk recs p) then skipRecord s
  else match ruleSlot p.1 with
    | some k =>
      if k % 64 < 48 then s else { s with iso := { s.iso with rules := tset (fun _ => 0) s.iso.rules k (storedRule (leNat p.2)) } }
    | none => if 0x3000 ≤ p.1 / 256 ∧ p.1 / 256 < 0x5000 ∧ p.1 % 256 = 1 then s else putObj p.1 (leNat p.2) s

/-- A tenant of which the area holds a record exists: ACTIVE, its pair disabled. -/
def rebuildTenant (s : State) (p : ObjId × Bytes) : State :=
  if 0x2000 ≤ p.1 / 256 ∧ p.1 / 256 < 0x3000 then putObj ((p.1 / 256) * 256 + 1) 1 s else s

/-- A stored binding of a circuit, in ascending order (R408, R678). -/
def rebuildCircuit (recs : List (ObjId × Bytes)) (s : State) (p : ObjId × Bytes) : State :=
  if 0x3000 ≤ p.1 / 256 ∧ p.1 / 256 < 0x5000 ∧ p.1 % 256 = 1 ∧ recordOk recs p then
    let c := p.1 / 256 - 0x3000
    if bindOk s c (leNat p.2) then bindCircuit c (leNat p.2) s else skipRecord s
  else s

/-- The settings of the tamper sources return to their defaults before the area is read: AON holds the last ones until then. -/
def clearCfg (s : State) : State :=
  (List.range 24).foldl (fun t n => let id := at_ Obj.TMP_SRC_CFG n; putObj id (objDefault id) t) s

/-- The settings are read (R51, R52). -/
def loadSettings (env : CastEnv) (s : State) : State :=
  let s1 := putObj Obj.ID_MG_MAC (defaultMac s) (clearCfg (convert env s))
  match settingsArea env s with
  | none => putObj Obj.DICT_CFG_SEQ 0 (putObj Obj.DICT_CFG_STATE 2 s1)
  | some b =>
    match readArea s1 (mfFormat s1.upd.running) (cfgArea s1 b) with
    | none => putObj Obj.DICT_CFG_STATE 2 s1
    | some (seq, recs) =>
      let s2 := putObj Obj.DICT_CFG_SEQ seq (putObj Obj.DICT_CFG_STATE (b2n b) s1)
      recs.foldl (rebuildCircuit recs) (recs.foldl rebuildTenant (recs.foldl (loadRecord recs) s2))

/-! ### C6: the rest (R102, R599, R600) -/

/-- The supervisor's region rules, programmed and locked (R102). -/
def lockRules (s : State) : State :=
  let f := fun (t : Tab Nat) (k : Nat) =>
    let v := (Config.supervisorRule (k / 48) (k % 48)).toNat
    tset (fun _ => 0) t (k / 48 * 64 + k % 48) (if bit v 63 && !(bit v 62) then v + 2 ^ 62 else v)
  { s with iso := { s.iso with rules := (List.range 432).foldl f s.iso.rules } }

/-- The locks of MISSION (R553, R564). -/
def lockMission (s : State) : State :=
  if s.lc.st = .mission then lockObjs [Obj.TMP_QUORUM_K, Obj.LC_OWNER_PK_DSA, Obj.LC_OWNER_PK_EC] s else s

/-- Load the bundle's service program of cell `n` (R599), and measure it where it is loaded (R600). -/
def loadProgram (b : Bytes) (s : State) (n : Nat) : State :=
  match findEntry b 9 n with
  | none => s
  | some e =>
    let img := bodyPlain b e
    let s1 := setComp 9 1 s
    if cellTenant s n = 0xFFFF ∨ field img 8 2 ≠ 0x1000 + cellTenant s n then s1
    else
      let s2 := loadNow n (fitBytes 65536 img) s1
      if objVal s2 (at_ Obj.SVC_CELL_LOAD_STATE n) = ldDONE then extendMeas 6 (leBytes 1 n ++ enHash e) s2 else s2

/-- MEAS5 (R600). -/
def measureSettings (s : State) : State :=
  let b := s.upd.running
  extendMeas 5 (compHash b 8 ++ leBytes 2 (mfFormat b) ++ leBytes 1 (objVal s Obj.DICT_CFG_STATE) ++ leBytes 4 (objVal s Obj.DICT_CFG_SEQ))
    (if (findEntry b 8 0).isSome then setComp 8 1 s else s)

/-- The ports that are enabled train (R393). -/
def startPorts (s : State) : State := [0, 1].foldl (fun t p => if objVal t (at_ Obj.SP_ENABLE p) = 1 then portOn p t else t) s

/-- Phase C6. -/
def phaseC6 (env : CastEnv) (s : State) : State :=
  let s1 := measureSettings (lockMission (lockRules (loadSettings env s)))
  let s2 := (List.range 64).foldl (loadProgram s1.upd.running) s1
  driveGpio (writePhy env.mdioErrs (startPorts s2))

/-! ### DEVICE_READY (R595, R601, R612, R628) -/

/-- Cast-on's length (R595, R601): at most 150 ms, but for the cases of R601; its value within that is free. -/
def castTook (long : Bool) (s : State) : State :=
  let t := Config.freeNat s.free % (if long then 2 ^ 32 else 150001)
  let s1 := advanceTo (s.upd.startedAt + us t) (usedFree s)
  putObj Obj.UPD_CASTON_US ((s1.now - s1.upd.startedAt) / 1000 % 2 ^ 32) s1

/-- DEVICE_READY: the trial window begins, the gauge plans, a seated card is activated, ALARM_N shows the held level. -/
def deviceReady (env : CastEnv) (s : State) : State :=
  let trial := if updState s = uTRIAL then some (s.now + sec (objVal s Obj.UPD_TRIAL_WINDOW)) else none
  let s1 := { s with upd := { s.upd with phase := 7, trialUntil := trial },
                     tsuow := { s.tsuow with wdogAt := s.now, activeAt := s.now } }
  let s2 := beginPlan env.gauge (admitInternal (putObj Obj.UPD_STATE (updState s1) s1))
  let s3 := if alarmLow s2 then alarmPin true s2 else s2
  if s3.tmp.card.seated then activateCard s3 else s3

/-- Phases C2 to C6, or recovery (R597).  The flash is read in 8D-8D-8D mode where it offers that; else in 1S-1S-1S throughout (R668). -/
def bootOn (env : CastEnv) (s : State) : State :=
  let c := copies env (phaseC2 env { s with upd := { s.upd with octal := env.octal } })
  let tried := bundleErr c.st.lc.otp (areaBundle c.st (if decide (c.st.upd.bootSel = 1) || (actRec c.st).activeBad || c.fallbackFirst then 1 else 0))
  let long := c.copied || tried.isSome || decide (0 < env.rngFails) || !env.octal
  match chooseArea c.fallbackFirst c.st with
  | (none, t) => castTook true { t with upd := { t.upd with area := 2, phase := 3, running := [] } }
  | (some a, t) => deviceReady env (castTook long (phaseC6 env (phaseC5 env (phaseC4 env (phaseC3 a t)))))

/-- In SCRAP cast-on ends after phase C1 (R576): RING_GCTRL.RUN reads 0. -/
def scrapEnds (s : State) : State :=
  castTook false { s with upd := { s.upd with phase := 1 }, ring := { s.ring with run := false } }

/-- CAST_ON (R595): after power-on and after every reset, phases C0 to C6 to DEVICE_READY. -/
def execCastOn (env : CastEnv) (s : State) : Host.Outcome State Fault Refusal :=
  .next (if s.pwr.supplies && decide (s.upd.phase = 0) && !s.rec_.resetLow then
      let t := phaseC1 env s
      if t.lc.st = .scrap then scrapEnds t else bootOn env t
    else s)

end Sys2Proof.Machine
end

