-- ==== Sys2Proof/Machine/Oap.lean ====
section
/-!
DEFINITION. The management port and OAP (R64–R77, R84, R85): datagrams and their checks, requests, NOTIFY, echo and neighbour
discovery.
-/
namespace Sys2Proof.Machine

/-! ### The port (R64, R65) -/

/-- The management port is served: from DEVICE_READY on and in SCRAP; idle before and in recovery (R576, R597). -/
def portServed (s : State) : Bool := s.pwr.supplies && (decide (s.upd.phase = 7) || inScrap s)

/-- What the MAC hands on (R63): frames of 64 to 1,518 octets with a good FCS, no VLAN tag, no pause frame; above it there is IPv6
alone (R64). -/
def macTakes (f : MacFrame) : Bool := decide (64 ≤ f.length ∧ f.length ≤ 1518) && f.fcsOk && decide (f.type_ = 0x86DD)

/-- An address in fe80::/10. -/
def isLinkLocal (addr : Nat) : Bool := decide (addr / 2 ^ 118 % 1024 = 0x3FA)

/-- What R63 and R64 let through, whatever the destination. -/
def passes64 (d : Datagram) : Bool := macTakes d.frame && isLinkLocal d.srcAddr && !d.extHeader && d.checksumOk

/-- The link-local address of the EUI-64 of a MAC address given in transmission order (R64). -/
def linkLocalOf (mac : Bytes) : Bytes :=
  [0xFE, 0x80] ++ zeros 6 ++ [mac.getD 0 0 ^^^ 2] ++ slice mac 1 2 ++ [0xFF, 0xFE] ++ slice mac 3 3

/-- The device's own address, and the multicast addresses at which neighbour discovery and echo reach it too: its solicited-node address
and all nodes (RFC 4291, PRESUMED). -/
def ownAddr (s : State) : Nat := leNat (linkLocalOf (objBytes s Obj.ID_MG_MAC)).reverse
def solicitedNode (s : State) : Nat := 0xFF0200000000000000000001FF000000 + ownAddr s % 2 ^ 24
abbrev allNodes : Nat := 0xFF020000000000000000000000000001

/-- A datagram that reaches OAP (R64, R65). -/
def oapHears (s : State) (d : Datagram) : Bool :=
  portServed s && passes64 d && decide (d.dstAddr = ownAddr s) && decide (d.dstPort = objVal s Obj.DICT_OAP_PORT) &&
    decide (objVal s Obj.DICT_OAP_ENABLE = 1)

/-! ### Header fields (R66) -/

/-- TYPE, FLAGS, SESSION_ID, SEQ and PAYLOAD_LEN. -/
def omType (b : Bytes) : Nat := byteAt b 1
def omFlags (b : Bytes) : Nat := field b 2 2
def omSession (b : Bytes) : Nat := field b 4 4
def omSeq (b : Bytes) : Nat := field b 8 8
def omLen (b : Bytes) : Nat := field b 16 2

/-- The payload as it stands in the datagram. -/
def omPayload (b : Bytes) : Bytes := slice b 20 (omLen b)

/-- The TYPEs of the direction principal to device. -/
def inTypes : List Nat := [0x01, 0x02, 0x03, 0x04, 0x21, 0x23, 0x24]

/-- A set-up message, which carries no tag. -/
def isSetup (type : Nat) : Bool := decide (type = 0x21 ∨ type = 0x23)

/-- Checks 1 and 2 of R68. -/
def headerOk (b : Bytes) : Bool :=
  decide (20 ≤ b.length) && decide (b.length = 20 + omLen b + if isSetup (omType b) then 0 else 16) && decide (omLen b ≤ 1024) &&
    decide (byteAt b 0 = 1) && decide (omType b ∈ inTypes) && decide (omFlags b % 2 = 0) && decide (omFlags b < 4) &&
    decide (field b 18 2 = 0)

/-- A datagram of one TYPE arrives: the checks of R64, R65 and R68 up to check 2, then what the TYPE brings.  A message of another
TYPE is another command's. -/
def arriving (type : Nat) (d : Datagram) (k : Bytes → State → State) (s : State) : State :=
  if !(oapHears s d) then s
  else if !(headerOk d.payload) then bump Obj.DICT_OAP_LEN_ERR s
  else if omType d.payload = type then k d.payload s else s

/-! ### Data messages (R67–R70, R76, R77) -/

/-- The open session that a SESSION_ID names, and its slot. -/
def sessionOf (s : State) (sid : Nat) : Option (Nat × Session) :=
  if sid = 0 then none else mfind? (fun _ (x : Session) => decide (x.id = sid)) s.dict.sessions

/-- The tag of a data message verifies under the incoming key of the session in slot `n` (R67); no tag does once that key is
destroyed. -/
def tagOk (s : State) (n : Nat) (b : Bytes) : Bool :=
  match secret? s (sessIn n) with
  | some k => decide (gcmTag k (oapNonce (omSession b) (omSeq b)) (b.take 20) (omPayload b) = b.drop (20 + omLen b))
  | none => false

/-- The plaintext of a data message. -/
def openPayload (s : State) (n : Nat) (b : Bytes) : Bytes :=
  gcmXor ((secret? s (sessIn n)).getD []) (oapNonce (omSession b) (omSeq b)) (omPayload b)

/-- Replace the session in a slot. -/
def setSession (k : Nat) (x : Session) (s : State) : State :=
  { s with dict := { s.dict with sessions := mset s.dict.sessions k x } }

/-- Checks 3 to 5 of R68 on a data message or CLOSE; one that passes gives its SEQ to the session.  A session whose incoming SEQ is
used up closes (R70). -/
def authentic (b : Bytes) (k : Nat → Session → State → State) (s : State) : State :=
  match sessionOf s (omSession b) with
  | none => bump Obj.DICT_OAP_AUTH_ERR s
  | some (n, x) =>
    if omSeq b ≤ x.seqIn then
      let s1 := bump Obj.DICT_OAP_REPLAY s
      if x.seqIn = 2 ^ 64 - 1 then closeSession n s1 else s1
    else if !(tagOk s n b) then bump Obj.DICT_OAP_AUTH_ERR s
    else
      let x1 := { x with seqIn := omSeq b }
      k n x1 (setSession n x1 s)

/-- The access a request makes (R67): the session's roles of this moment go with it. -/
def requestOfPlain (s : State) (n : Nat) (x : Session) (op : AccOp) (p : Bytes) : AccessReq :=
  let c := Caller.session n (field p 0 2)
  { caller := c, roles := x.roles, tenant := x.tenant, approver := approverId s c, op := op,
    obj := field p 2 2 * 256 + byteAt p 4, offset := field p 8 4, total := field p 12 4, len := p.length - 16, data := p.drop 16 }

/-- What R69 answers at once, before any object is looked at: BAD_OP for an OFFSET or TOTAL that must be zero, BAD_LENGTH for a
DATA_LEN that disagrees. -/
def plainFault (op : AccOp) (p : Bytes) : Option Result :=
  if decide (op = .read ∨ op = .write) && decide (field p 8 4 ≠ 0 ∨ field p 12 4 ≠ 0) then some .badOp
  else if p.length < 16 ∨ field p 6 2 ≠ p.length - 16 then some .badLength
  else none

/-- A request is accepted: it counts as unanswered and is queued (R9, R76).  A block segment that ends BAD_LENGTH here discards the open
block (R45). -/
def acceptReq (n : Nat) (x : Session) (op : AccOp) (p : Bytes) (s : State) : State :=
  let r := requestOfPlain s n x op p
  let s1 := setSession n { x with unanswered := x.unanswered + 1, lastAt := s.now } s
  match plainFault op p with
  | some e =>
    let plain := decide (op = .read ∨ op = .write)
    let cut := e = .badLength ∧ (op = .writeBlock ∨ op = .writeBlockLast)
    deliver r.caller op r.obj e (if plain then 0 else r.offset) (if plain then none else some r.total) []
      (if cut then setCallerSt r.caller { callerSt s1 r.caller with write := none } s1 else s1)
  | none => { s1 with dict := { s1.dict with queue := s1.dict.queue ++ [r] } }

/-- An authenticated request: a repeated REQ_ID has its stored response sent again (R77), a fifth unanswered one is dropped
(R76). -/
def request (op : AccOp) (b : Bytes) (n : Nat) (x : Session) (s : State) : State :=
  let p := openPayload s n b
  let resend := match x.lastReq with
    | some (q, t, r) => if q = field p 0 2 then some (t, r) else none
    | none => none
  match resend with
  | some (t, r) => sendData n t 1 r (setSession n { x with lastAt := s.now } s)
  | none => if 4 ≤ x.unanswered then bump Obj.DICT_OAP_DROPPED s else acceptReq n x op p s

/-- A data message arrives. -/
def dataIn (type : Nat) (op : Bytes → AccOp) (d : Datagram) (s : State) : State :=
  arriving type d (fun b t => authentic b (request (op b) b) t) s

/-- OAP_READ (R68). -/
def execOapRead (d : Datagram) (s : State) : Host.Outcome State Fault Refusal := .next (dataIn 0x01 (fun _ => .read) d s)

/-- OAP_WRITE (R77). -/
def execOapWrite (d : Datagram) (s : State) : Host.Outcome State Fault Refusal := .next (dataIn 0x02 (fun _ => .write) d s)

/-- OAP_READ_BLOCK (R79). -/
def execOapReadBlock (d : Datagram) (s : State) : Host.Outcome State Fault Refusal :=
  .next (dataIn 0x03 (fun _ => .readBlock) d s)

/-- OAP_WRITE_BLOCK (R81): LAST is FLAGS bit 1. -/
def execOapWriteBlock (d : Datagram) (s : State) : Host.Outcome State Fault Refusal :=
  .next (dataIn 0x04 (fun b => if bit (omFlags b) 1 then .writeBlockLast else .writeBlock) d s)

/-- CLOSE (R75): an authenticated CLOSE closes its session. -/
def execClose (d : Datagram) (s : State) : Host.Outcome State Fault Refusal :=
  .next (arriving 0x24 d (fun b t => authentic b (fun n _ u => closeSession n u) t) s)

/-! ### Timers (R73, R75) -/

/-- Discard the set-up in a slot, and its secrets. -/
def dropSetup (n : Nat) (s : State) : State :=
  dropSecret (setupSecret n) { s with dict := { s.dict with setups := mdel s.dict.setups n } }

/-- OAP_SETUP_TIMEOUT (R73). -/
def execOapSetupTimeout (slot : Nat) (s : State) : Host.Outcome State Fault Refusal :=
  .next (match mget? s.dict.setups slot with
    | none => s
    | some u =>
      let s1 := advanceTo (u.startedAt + sec 2) s
      dropSetup slot s1)

/-- OAP_IDLE_TIMEOUT (R75). -/
def execOapIdleTimeout (slot : Nat) (s : State) : Host.Outcome State Fault Refusal :=
  .next (match mget? s.dict.sessions slot with
    | none => s
    | some x => closeSession slot (advanceTo (x.lastAt + sec (objVal s Obj.DICT_OAP_IDLE_TIMEOUT)) s))

/-- OAP_MAX_LIFE (R75). -/
def execOapMaxLife (slot : Nat) (s : State) : Host.Outcome State Fault Refusal :=
  .next (match mget? s.dict.sessions slot with
    | none => s
    | some x => closeSession slot (advanceTo (x.openedAt + sec (objVal s Obj.DICT_OAP_MAX_LIFE)) s))

/-! ### NOTIFY (R84, R85) -/

/-- The payload of a NOTIFY: the value, or its first 1,008 bytes with the object's length in TOTAL. -/
def notifyPlain (id : ObjId) (v : Bytes) : Bytes :=
  oapPlain 0 id 0 0 (if 1008 < v.length then v.length else 0) (v.take 1008)

/-- When a session may next send NOTIFY of an object: 100 ms after the last. -/
def notifyFrom (x : Session) (id : ObjId) : Time :=
  match mget? x.sentAt id with
  | some t => t + ms 100
  | none => 0

/-- NOTIFY (R84): the latest value of an object that has changed, to a session that can read it now (R85). -/
def notify (slot : Nat) (obj : ObjId) (gpio : Nat) (s : State) : State :=
  match mget? s.dict.sessions slot with
  | none => s
  | some x =>
    if obj ∉ x.changed ∨ !(serverUp s) then s
    else
      let c := Caller.session slot 0
      let w : Who := { caller := c, roles := x.roles, tenant := x.tenant, approver := 0 }
      let s1 := advanceTo (notifyFrom x obj) s
      let x1 := { x with changed := x.changed.erase obj }
      match readCheck s1 w obj with
      | some _ => setSession slot x1 s1
      | none =>
        sendData slot 0x05 1 (notifyPlain obj (readValue s1 c gpio obj))
          (noteRead obj (setSession slot { x1 with sentAt := mset x.sentAt obj s1.now } s1))

/-- NOTIFY (R84): the dictionary server looks at the subscribed values that it computes, and sends the one that has changed. -/
def execNotify (slot : Nat) (obj : ObjId) (gpio : Nat) (s : State) : Host.Outcome State Fault Refusal :=
  .next (notify slot obj gpio (if serverUp s then lookAround s else s))

/-! ### ICMPv6 (R64, R65) -/

/-- ICMPV6_ECHO (R64): the request's identifier, sequence number and data come back. -/
def execIcmpv6Echo (d : Datagram) (s : State) : Host.Outcome State Fault Refusal :=
  .next (if portServed s && passes64 d && decide (d.dstAddr = ownAddr s ∨ d.dstAddr = allNodes) then emit (.icmpEcho d.srcAddr d.payload) s
    else s)

/-- NEIGHBOUR_DISCOVERY (R64): a solicitation of the device's own address is answered with its MAC address. -/
def execNeighbourDiscovery (d : Datagram) (s : State) : Host.Outcome State Fault Refusal :=
  .next (
    let mac := objBytes s Obj.ID_MG_MAC
    let here := decide (d.dstAddr = ownAddr s ∨ d.dstAddr = solicitedNode s)
    if portServed s && passes64 d && here && decide (d.payload = linkLocalOf mac) then emit (.neighbour d.srcAddr mac) s else s)

end Sys2Proof.Machine
end

