-- ==== Sys2Proof/Machine/OapSetup.lean ====
section
/-!
DEFINITION. Opening an OAP session by a management-mode graft exchange (R71–R74, R438, R442, R454): the device is the responder.
-/
namespace Sys2Proof.Machine

/-! ### Set-ups (R73, R74) -/

/-- Replace the set-up in a slot. -/
def putSetup (n : Nat) (u : Setup) (s : State) : State := { s with dict := { s.dict with setups := mset s.dict.setups n u } }

/-- The exchange is discarded without a response and counted (R72). -/
def failSetup (n : Nat) (s : State) : State := bump Obj.DICT_OAP_AUTH_ERR (dropSetup n s)

/-- The set-up to which a G1 fragment belongs: sender's address and port, and MSG_ID (R74). -/
def setupOfG1 (s : State) (d : Datagram) (msg : Nat) : Option (Nat × Setup) :=
  mfind? (fun _ (u : Setup) => decide (u.peer = d.srcAddr ∧ u.port = d.srcPort ∧ u.msgId = msg)) s.dict.setups

/-- The set-up that a SESSION_ID names. -/
def setupOfId (s : State) (sid : Nat) : Option (Nat × Setup) :=
  if sid = 0 then none else mfind? (fun _ (u : Setup) => decide (u.sessionId = sid)) s.dict.setups

/-- A SESSION_ID that is not 0 and in no use (R74): which one, the spec leaves to the device. -/
def pickSession (s : State) : Nat :=
  let used := s.dict.sessions.map (·.2.id) ++ s.dict.setups.map (·.2.sessionId)
  let c := Config.freeNat s.free % 2 ^ 32
  if c ≠ 0 ∧ c ∉ used then c else (((List.range 17).map (· + 1)).find? (fun i => !(decide (i ∈ used)))).getD 0

/-! ### Fragments (R438, R440) -/

/-- A fragment that can belong to a message: check 1 of R440. -/
def fragOk (f : Bytes) : Bool :=
  decide (9 ≤ f.length) && decide (byteAt f 4 < byteAt f 5) && decide (byteAt f 5 ≤ 64) && decide (field f 6 2 + (f.drop 8).length ≤ 8192)

/-- Hold a fragment: the set-up with it, and the message if it is whole; none where it contradicts what is held. -/
def holdFrag (u : Setup) (f : Bytes) : Option (Setup × Option Bytes) :=
  let idx := byteAt f 4
  let r := (field f 6 2, f.drop 8)
  if u.frags.length ≠ 0 ∧ u.count ≠ byteAt f 5 then none
  else match mget? u.frags idx with
    | some x => if x = r then some (u, none) else none
    | none =>
      let u1 := { u with count := byteAt f 5, frags := mset u.frags idx r }
      if u1.frags.length < u1.count then some (u1, none)
      else (tileRuns (u1.frags.length + 1) 0 (u1.frags.map (·.2))).map (fun m => ({ u1 with frags := [] }, some m))

/-- A whole message of a management exchange (R435, R437, R454). -/
def mgMsgOk (type suite len : Nat) (m : Bytes) : Bool :=
  decide (m.length = len) && decide (gmType m = type) && decide (byteAt m 1 = 1) && decide (gmCtl m < 8) && decide (gmCtl m % 2 = 1) &&
    decide (gmSuite m = suite) && decide (gmLink m = 0)

/-- The suites of management mode (R454). -/
def mgSuite (u : Nat) : Bool := decide (u = 1 ∨ u = 2 ∨ u = 4)

/-! ### The responder's steps (R442, R445, R454) -/

/-- The device's signing handles for a suite (R454). -/
def mgSigPq (s : State) (u : Nat) : Nat := objVal s (if u = 2 then Obj.GR_MG_SIG_DSA65 else Obj.GR_MG_SIG_DSA87)
def mgSigCl (s : State) (u : Nat) : Nat := objVal s (if u = 2 then Obj.GR_MG_SIG_P384 else Obj.GR_MG_SIG_ED25519)

/-- A private slot of colour 0x0002 with which a step can sign (R431). -/
def mgKeyOk (s : State) (alg pset h : Nat) : Bool := (slotFails s 0x0002 h (keyIs alg pset uSIGN false)).isNone

/-- The opcodes of a suite's responder steps, up to G2 and for G3. -/
def mgSteps2 (u : Nat) : List Nat := [0x0102, 0x0204] ++ if suCl u then [0x0601, 0x0606, 0x0604] else []
def mgSteps3 (u : Nat) : List Nat := 0x0205 :: if suCl u then [0x0605] else []

/-- The responder's steps on a G1 can end OK: their units and keys are there, the random source runs, EK and XS_I are good. -/
def canRespond (s : State) (u : Nat) (m : Bytes) : Bool :=
  rngReady s && (mgSteps2 u).all (fun o => !(unitMissing s o)) && mgKeyOk s 2 (suKem u) (mgSigPq s u) &&
    (!(suCl u) || mgKeyOk s 6 (suSign u) (mgSigCl s u)) && ekValid (suKem u) (g1Ek u m) &&
    (!(suCl u) || !(isP (suAgree u)) || !(pointBad (suAgree u) (g1Share u m)))

/-- The device's ML-DSA signature, in pure mode with a context; PKE_SIGN_ITER_MAX takes note of its iterations (R261). -/
def mgSignPq (p h : Nat) (ctx msg : Bytes) (s : State) : Bytes × State :=
  let r := draw 0 32 (touchSlot s h)
  let args := [slotData s h, messageRep 0 ctx.length 0 (ctx ++ msg), r.1, leBytes 1 0]
  (primOut (.mldsaSign p) args (dsaSig p), signIterMax (1 + Config.primNat (.mldsaSign p) args % 814) r.2)

/-- The device's classical signature over a hash. -/
def mgSignCl (p h : Nat) (msg : Bytes) (s : State) : Bytes × State :=
  let r := draw 20 (if isP p then eccDraw p else 0) (touchSlot s h)
  (eccSignature p (slotData s h) msg r.1 (zeros 2), r.2)

/-- ENCAPS on EK: ciphertext and secret. -/
def mgEncaps (u : Nat) (m : Bytes) (s : State) : Bytes × Bytes × State :=
  let r := draw 0 32 s
  let p := suKem u
  (primOut (.mlkemEncapsC p) [g1Ek u m, r.1] (kemC p), primOut (.mlkemEncapsK p) [g1Ek u m, r.1] 32, r.2)

/-- The device's own classical share and what it agrees with XS_I; nothing in GS4. -/
def mgAgree (u : Nat) (m : Bytes) (s : State) : Bytes × Bytes × State :=
  if suCl u then
    let p := suAgree u
    let r := draw 20 (eccDraw p) s
    let d := if isP p then primOut (.eccPriv p) [r.1] (eccPrivLen p) else r.1
    (eccPublic p d, eccShared p d (g1Share u m), r.2)
  else ([], [], s)

/-- The fragments of a SESSION_G2, each an OAP message of the set-up (R71, R74, R438). -/
def sendG2 (u : Setup) (id : Nat) (m : Bytes) (s : State) : Setup × State :=
  let fs := fragments id (min (objVal s Obj.GR_FRAG_SIZE) 1024 - 8) m
  let msgs := fs.mapIdx (fun i f => Out.datagram u.peer u.port (oapHeader 0x22 1 u.sessionId (u.seqOut + 1 + i) f.length ++ f))
  ({ u with seqOut := u.seqOut + fs.length, g2 := m }, { s with out := s.out ++ msgs })

/-- A transcript hash or key schedule of a set-up, on its record of colour 0x0002; where it cannot run the exchange is discarded (R72, R370). -/
def setupHash (n cyc : Nat) (done : State → State) (s : State) : State := hashJob 0x0002 (.setup n) cyc (failSetup n) done s

/-- G2 before its signatures. -/
def g2Fields (u xid : Nat) (nR ct share : Bytes) : Bytes := graftHeader 2 u 1 0 xid ++ nR ++ ct ++ share

/-- G1 is whole: the responder's steps run and G2 is sent under a SESSION_ID of the device's choice. -/
def answerG1 (n : Nat) (x : Setup) (m : Bytes) (s : State) : State :=
  let u := gmSuite m
  if !(mgSuite u && mgMsgOk 1 u (g1Len u) m && canRespond s u m) then failSetup n s
  else
    let a := mgEncaps u m s
    let b := mgAgree u m a.2.2
    if suCl u && isMont (suAgree u) && allZero b.2.1 then failSetup n (bump Obj.PKE_XZERO_HITS b.2.2)
    else
      let r := draw 42 32 b.2.2
      let head := g2Fields u (gmXid m) r.1 a.1 b.1
      setupHash n (hashCyc 0 (m.length + head.length)) (fun t =>
        let th := th2 u m head
        let p := mgSignPq (suKem u) (mgSigPq s u) ctxR th t
        let c := if suCl u then mgSignCl (suSign u) (mgSigCl s u) th p.2 else ([], p.2)
        let i := draw 42 4 c.2
        let x1 := { x with g1 := m, sessionId := pickSession i.2 }
        let g := sendG2 x1 (leNat i.1) (head ++ p.1 ++ c.1) (usedFree i.2)
        keepSecret (setupSecret n) (a.2.1 ++ b.2.1) (putSetup n g.1 g.2)) r.2

/-- A fragment of G1 joins its set-up (R71, R73). -/
def joinG1 (n : Nat) (x : Setup) (f : Bytes) (s : State) : State :=
  if x.g1 ≠ [] then putSetup n x s
  else match holdFrag x f with
    | none => failSetup n s
    | some (y, none) => putSetup n y s
    | some (y, some m) => answerG1 n y m (putSetup n y s)

/-- A fresh set-up. -/
def newSetup (d : Datagram) (msg seq : Nat) (t : Time) : Setup :=
  { peer := d.srcAddr, port := d.srcPort, msgId := msg, replyId := none, count := 0, frags := [], sessionId := 0, seqIn := seq,
    seqOut := 0, startedAt := t, g1 := [], g2 := [] }

/-- A SESSION_G1 message that has passed checks 1 and 2 of R68. -/
def firstMessage (d : Datagram) (b : Bytes) (s : State) : State :=
  let f := omPayload b
  if omSession b ≠ 0 then bump Obj.DICT_OAP_AUTH_ERR s
  else match setupOfG1 s d (field f 0 4) with
    | some (n, x) =>
      if omSeq b ≤ x.seqIn then bump Obj.DICT_OAP_REPLAY s
      else if 8 ≤ s.dict.sessions.length then bump Obj.DICT_OAP_DROPPED s
      else if !(fragOk f) then failSetup n s
      else joinG1 n { x with seqIn := omSeq b } f s
    | none =>
      if omSeq b = 0 then bump Obj.DICT_OAP_REPLAY s
      else if 8 ≤ s.dict.sessions.length then bump Obj.DICT_OAP_DROPPED s
      else match mfree? s.dict.setups 0 8 with
        | none => bump Obj.DICT_OAP_DROPPED s
        | some n =>
          if !(fragOk f) then bump Obj.DICT_OAP_AUTH_ERR s
          else joinG1 n (newSetup d (field f 0 4) (omSeq b) s.now) f s

/-- SESSION_G1 (R71): handled by the supervisor firmware's graft driver; lost while the core pair restarts. -/
def execSessionG1 (d : Datagram) (s : State) : Host.Outcome State Fault Refusal :=
  .next (arriving 0x21 d (fun b t => if supervisorUp t then firstMessage d b t else t) s)

/-! ### G3 (R72) -/

/-- The enrolled principal of these public keys whose sessions use this suite (R71, R72). -/
def principalOf (s : State) (suite : Nat) (pks : Bytes) : Option Nat :=
  let h := leNat (sha3_256 pks)
  (List.range 32).find? (fun p => decide (h ≠ 0 ∧ objVal s (at_ Obj.DICT_PRN_KEY_ID p) = h ∧ objVal s (at_ Obj.DICT_PRN_SUITE p) = suite))

/-- A G3's signatures are good (R72, R445). -/
def g3Signed (s : State) (x : Setup) (m : Bytes) : Bool :=
  let u := gmSuite x.g1
  let off := 16 + pksLen u
  let th := th3 x.g1 x.g2 (m.take off)
  let pq := slice m 16 (dsaPk (suKem u))
  let cl := slice m (16 + dsaPk (suKem u)) (eccPubLen (suSign u))
  (mgSteps3 u).all (fun o => !(unitMissing s o)) && dsaOk (suKem u) pq ctxI th (g3SigPq u off m) &&
    (!(suCl u) || (!(pointBad (suSign u) cl) && eccVerifies (suSign u) cl th (g3SigCl u off m) (zeros 2)))

/-- A G3's CONFIRM is good under the set-up's secrets (R445). -/
def g3Confirmed (ikm : Bytes) (x : Setup) (m : Bytes) : Bool :=
  let u := gmSuite x.g1
  let off := 16 + pksLen u
  decide (g3Confirm u off m = confirmOf ikm (th3 x.g1 x.g2 (m.take off)) u 0 (gmXid x.g1))

/-- The session's two keys (R442, R454): principal to device, device to principal. -/
def sessionKeys (ikm : Bytes) (x : Setup) (m : Bytes) : Bytes × Bytes :=
  let u := gmSuite x.g1
  let k := derive ikm (th3 x.g1 x.g2 (m.take (16 + pksLen u))) (graftLabel 2 u 0xFF 0 0 64 0 (gmXid x.g1)) 64
  (k.take 32, k.drop 32)

/-- A session with its principal's roles, both SEQ starting again (R72, R74). -/
def newSession (s : State) (x : Setup) (p : Nat) : Session :=
  { id := x.sessionId, principal := p, roles := objVal s (at_ Obj.DICT_PRN_ROLES p), tenant := objVal s (at_ Obj.DICT_PRN_TENANT p),
    peer := x.peer, port := x.port, seqIn := 0, seqOut := 0, lastReq := none, unanswered := 0,
    lastAt := s.now, openedAt := s.now, st := CallerSt.empty, changed := [], sentAt := [] }

/-- The session of a principal opens in slot `k`, its keys in the key register (R72, R442). -/
def openSession (k p : Nat) (x : Setup) (keys : Bytes × Bytes) (s : State) : State :=
  keepSecret (sessOut k) keys.2 (keepSecret (sessIn k) keys.1 (setSession k (newSession s x p) s))

/-- A whole G3 that can be the one its set-up waits for (R437, R440, R454): also its secrets are there, which an erasure of the key register
would have destroyed. -/
def g3Fits (n : Nat) (s : State) (x : Setup) (m : Bytes) : Bool :=
  let u := gmSuite x.g1
  mgMsgOk 3 u (g3Len u + pksLen u) m && decide (gmXid m = gmXid x.g1) && decide (gmCtl m = gmCtl x.g1) && (secret? s (setupSecret n)).isSome

/-- The verdict on a G3 and the principal it names: the session opens, or the exchange is discarded (R72). -/
def admitG3 (n : Nat) (x : Setup) (m : Bytes) (ok : Bool) (keys : Bytes × Bytes) (s : State) : State :=
  let u := gmSuite x.g1
  if !ok then failSetup n s
  else match principalOf s u (slice m 16 (pksLen u)), mfree? s.dict.sessions 0 8 with
    | some p, some k => openSession k p x keys (dropSetup n s)
    | some _, none => bump Obj.DICT_OAP_DROPPED (dropSetup n s)
    | none, _ => failSetup n s

/-- TH3 stands; the signatures verify or not; then the key schedule runs and CONFIRM is compared (R72, R370, R445). -/
def judgeG3 (n : Nat) (x : Setup) (m : Bytes) (s : State) : State :=
  let u := gmSuite x.g1
  let ikm := (secret? s (setupSecret n)).getD []
  if !(g3Signed s x m) then failSetup n s
  else setupHash n (scheduleCyc ikm.length 64) (fun t => admitG3 n x m (g3Confirmed ikm x m) (sessionKeys ikm x m) t) s

/-- G3 is whole: the session opens, or the exchange is discarded (R72). -/
def answerG3 (n : Nat) (x : Setup) (m : Bytes) (s : State) : State :=
  let u := gmSuite x.g1
  if !(g3Fits n s x m) then failSetup n s
  else setupHash n (hashCyc (th2Len u x.g1) (x.g1.length + x.g2.length + 16 + pksLen u)) (judgeG3 n x m) s
/-- A fragment of G3 joins; a new MSG_ID begins the message again (R441). -/
def joinG3 (n : Nat) (x : Setup) (f : Bytes) (s : State) : State :=
  let id := field f 0 4
  let y := if x.replyId = some id then x else { x with replyId := some id, count := 0, frags := [] }
  match holdFrag y f with
  | none => failSetup n s
  | some (z, none) => putSetup n z s
  | some (z, some m) => answerG3 n z m s

/-- A SESSION_G3 message that has passed checks 1 and 2 of R68. -/
def lastMessage (b : Bytes) (s : State) : State :=
  match setupOfId s (omSession b) with
  | none => bump Obj.DICT_OAP_AUTH_ERR s
  | some (n, x) =>
    if omSeq b ≤ x.seqIn then bump Obj.DICT_OAP_REPLAY s
    else if !(fragOk (omPayload b)) then failSetup n s
    else joinG3 n { x with seqIn := omSeq b } (omPayload b) s

/-- SESSION_G3 (R72). -/
def execSessionG3 (d : Datagram) (s : State) : Host.Outcome State Fault Refusal :=
  .next (arriving 0x23 d (fun b t => if supervisorUp t then lastMessage b t else t) s)

end Sys2Proof.Machine
end

