-- ==== Sys2Proof/Machine/Window.lean ====
section
/-!
DEFINITION. The BAR0 registers and the dictionary window (R58–R62, R173, R675), and the dictionary server's access to the next
object in its queue (R9, R78–R83, R673).
-/
namespace Sys2Proof.Machine

/-! ### BAR0 (R58, R173) -/

/-- The bytes of DWIN_DATA from `off` on. -/
def winBytes (s : State) (off n : Nat) : Bytes := (List.range n).map (fun i => tget (fun _ => 0) s.dict.win.data (off + i))

/-- A doubleword of the window's registers (R58–R61). -/
def readWin (s : State) (off : Nat) : Nat :=
  let w := s.dict.win
  match off with
  | 0x400 => w.index.toNat * 256 + w.sub.toNat
  | 0x404 => w.offset.toNat
  | 0x40C => w.total.toNat
  | 0x410 => b2n w.busy * 2 ^ 31 + b2n w.done * 2 ^ 30 + b2n w.overrun * 2 ^ 29 + b2n w.ntfLost * 2 ^ 28 + w.result.toNat * 65536 +
      w.rlen.toNat
  | 0x414 => b2n w.ntfEn * 2 ^ 31 + w.ntfVector.toNat
  | 0x418 => match w.queue with
    | [] => 0
    | id :: _ => 2 ^ 31 + id
  | 0x420 => windowRoles s
  | _ => 0

/-- What a read of an aligned doubleword of BAR0 returns; DWIN_DATA reads zero while BUSY (R59). -/
def readReg (s : State) (off : Nat) : Nat :=
  if off = 0 then b2n s.ring.run
  else if off = 4 then pagesFree s * 65536 + entriesFree s
  else if off = 8 then stalledNow s
  else if off = 0xC then s.ring.err.toNat
  else if off = 0x10 then s.ring.errRing.elim 0 (fun p => 2 ^ 31 + p)
  else if off = 0x14 then b2n s.ring.errVecEn * 2 ^ 31 + s.ring.errVec.toNat
  else if 0x400 ≤ off ∧ off < 0x424 then readWin s off
  else if 0x1000 ≤ off ∧ off < 0x1400 then (if s.dict.win.busy then 0 else leNat (winBytes s (off - 0x1000) 4))
  else if 0x8000 ≤ off ∧ off < 0x10000 then
    let e := tget (fun _ => Msix.reset) s.ring.msix ((off - 0x8000) / 16)
    match (off - 0x8000) % 16 / 4 with
    | 0 => e.addr % 2 ^ 32
    | 1 => e.addr / 2 ^ 32
    | 2 => e.data
    | _ => b2n e.masked
  else if 0x10000 ≤ off ∧ off < 0x10100 then
    bitMap ((List.range 32).filter (fun i => (tget (fun _ => Msix.reset) s.ring.msix ((off - 0x10000) * 8 + i)).pending))
  else 0

/-- Replace the window. -/
def setWin (w : Window) (s : State) : State := { s with dict := { s.dict with win := w } }

/-- A doubleword of the MSI-X table is written; a vector unmasked while pending is sent (PCI Express). -/
def writeMsix (off : Nat) (v : Word) (s : State) : State :=
  let n := off / 16
  let e := tget (fun _ => Msix.reset) s.ring.msix n
  let put := fun (x : Msix) (t : State) => { t with ring := { t.ring with msix := tset (fun _ => Msix.reset) t.ring.msix n x } }
  match off % 16 / 4 with
  | 0 => put { e with addr := e.addr / 2 ^ 32 * 2 ^ 32 + v.toNat } s
  | 1 => put { e with addr := v.toNat * 2 ^ 32 + e.addr % 2 ^ 32 } s
  | 2 => put { e with data := v.toNat } s
  | _ =>
    let m := v.getLsbD 0
    if e.pending && !m then put { e with masked := false, pending := false } (emit (.msix n) s) else put { e with masked := m } s

/-- A window register that R59 guards is written: dropped, with OVERRUN, while BUSY. -/
def guarded (f : Window → Window) (s : State) : State :=
  if s.dict.win.busy then setWin { s.dict.win with overrun := true } s else setWin (f s.dict.win) s

/-- Remove the oldest queued notification (R61). -/
def popNotification (s : State) : State := lookAround (setWin { s.dict.win with queue := s.dict.win.queue.drop 1 } s)

/-- The operation codes of DWIN_CMD (R58). -/
def accOp (code : Nat) : AccOp :=
  match code with
  | 1 => .read
  | 2 => .write
  | 3 => .readBlock
  | 4 => .writeBlock
  | 5 => .writeBlockLast
  | _ => .bad

/-- DWIN_CMD is written: the access is queued with the window's roles of this moment (R9, R58); while BUSY it is dropped
(R59). -/
def command (op : AccOp) (len : Nat) (s : State) : State :=
  let w := s.dict.win
  if !s.pwr.supplies then s
  else if w.busy then setWin { w with overrun := true } s
  else
    let r : AccessReq :=
      { caller := .window, roles := windowRoles s, tenant := 0, approver := approverId s .window, op := op,
        obj := w.index.toNat * 256 + w.sub.toNat, offset := w.offset.toNat, total := w.total.toNat, len := len,
        data := winBytes s 0 (min len 1024) ++ zeros (len - 1024) }
    { s with dict := { s.dict with win := { w with busy := true }, queue := s.dict.queue ++ [r] } }

/-- A doubleword of BAR0 is written. -/
def writeReg (off : Nat) (v : Word) (s : State) : State :=
  if off = 0 then setRun (v.getLsbD 0) s
  else if off = 0xC then { s with ring := { s.ring with err := s.ring.err &&& ~~~(v.truncate 4) } }
  else if off = 0x14 then { s with ring := { s.ring with errVecEn := v.getLsbD 31, errVec := v.truncate 11 } }
  else if off = 0x400 then guarded (fun w => { w with index := (v >>> 8).truncate 16, sub := v.truncate 8 }) s
  else if off = 0x404 then guarded (fun w => { w with offset := v }) s
  else if off = 0x408 then command (accOp (bits v.toNat 15 13)) (bits v.toNat 10 0) s
  else if off = 0x40C then guarded (fun w => { w with total := v }) s
  else if off = 0x410 then
    let w := s.dict.win
    setWin { w with done := w.done && !(v.getLsbD 30), overrun := w.overrun && !(v.getLsbD 29), ntfLost := w.ntfLost && !(v.getLsbD 28) } s
  else if off = 0x414 then setWin { s.dict.win with ntfEn := v.getLsbD 31, ntfVector := v.truncate 11 } s
  else if off = 0x41C then popNotification s
  else if 0x1000 ≤ off ∧ off < 0x1400 ∧ off % 4 = 0 then
    guarded (fun w => { w with data := putBytes w.data (off - 0x1000) (leBytes 4 v.toNat) }) s
  else if 0x8000 ≤ off ∧ off < 0x10000 ∧ off % 4 = 0 then writeMsix (off - 0x8000) v s
  else s

/-- REGISTER_WRITE (R8): a BAR0 doubleword, or an object. -/
def execRegisterWrite (t : WriteTarget) (s : State) : Host.Outcome State Fault Refusal :=
  .next (match t with
    | .bar0 off v => if s.pwr.supplies then writeReg off v s else s
    | .object c idx sub data env =>
      let id := idx * 256 + sub % 256
      if id = Obj.UPD_STAGE_CHUNK then
        inTurn ⟨c, .writeBlockLast, id, data⟩ (fun w t => serveChunk w (lastOffset c data.length) data.length data env.flashOk t) s
      else writeAccess c id data (ruleFor s ⟨c, .write, id, data⟩ (fun w => writeRule env w id data s)) s)

/-- DWIN_READ (R60). -/
def execDwinRead (s : State) : Host.Outcome State Fault Refusal := .next (command .read 0 s)

/-- DWIN_WRITE (R58). -/
def execDwinWrite (len : Nat) (s : State) : Host.Outcome State Fault Refusal := .next (command .write (len % 2048) s)

/-- DWIN_READ_BLOCK (R79). -/
def execDwinReadBlock (s : State) : Host.Outcome State Fault Refusal := .next (command .readBlock 0 s)

/-- DWIN_WRITE_BLOCK (R81). -/
def execDwinWriteBlock (len : Nat) (s : State) : Host.Outcome State Fault Refusal := .next (command .writeBlock (len % 2048) s)

/-- DWIN_WRITE_BLOCK_LAST (R83). -/
def execDwinWriteBlockLast (len : Nat) (s : State) : Host.Outcome State Fault Refusal :=
  .next (command .writeBlockLast (len % 2048) s)

/-- DWIN_NTF_POP (R61): any value. -/
def execDwinNtfPop (_ : Word) (s : State) : Host.Outcome State Fault Refusal :=
  .next (if s.pwr.supplies then popNotification s else s)

/-! ### Serving an access (R9, R673) -/

/-- The transport limit of a read or of a block segment (R78, R79). -/
def segLimit (c : Caller) : Nat := if fromWindow c then 1024 else 1008

/-- A READ (R69, R78, R675). -/
def applyRead (env : ApplyEnv) (w : Who) (r : AccessReq) (s : State) : State :=
  if r.offset ≠ 0 then deliver w.caller .read r.obj .badOp 0 none [] s
  else match readCheck s w r.obj with
    | some e => deliver w.caller .read r.obj e 0 none [] (countRefused w r.obj e s)
    | none =>
      if (readValue s w.caller env.gpio r.obj).length > segLimit w.caller then deliver w.caller .read r.obj .badLength 0 none [] s
      else
        let p := serveRead w.caller env.gpio r.obj s
        deliver w.caller .read r.obj p.1 0 none p.2.1 p.2.2

/-- The tracked block read stands for this object, which has not changed (R80). -/
def readStands (s : State) (w : Who) (gpio : Nat) (id : ObjId) : Option Bytes :=
  match (callerSt s w.caller).read with
  | none => none
  | some b =>
    if b.obj ≠ id ∨ b.changed then none
    else if id ≠ Obj.RNG_READ ∧ readValue s w.caller gpio id ≠ b.value then none
    else some b.value

/-- A segment of a value, and the answer it gives (R79). -/
def answerSegment (w : Who) (r : AccessReq) (v : Bytes) (s : State) : State :=
  deliver w.caller .readBlock r.obj .done r.offset (some v.length) ((v.drop r.offset).take (segLimit w.caller)) s

/-- The caller's tracked block read is now that of this object, whatever its READ_BLOCK at OFFSET 0 ended with (R80). -/
def trackRead (w : Who) (id : ObjId) (v : Bytes) (s : State) : State :=
  setCallerSt w.caller { callerSt s w.caller with read := some { obj := id, changed := false, value := v } } s

/-- A READ_BLOCK that returns no data: OFFSET and TOTAL of the answer are those of the request, TOTAL the object's length where it has
passed its checks. -/
def refuseSegment (w : Who) (r : AccessReq) (e : Result) (total : Nat) (s : State) : State :=
  deliver w.caller .readBlock r.obj e r.offset (some total) [] s

/-- A READ_BLOCK (R79, R80); one that consumes the report of a failed store ends STORE_FAIL at any OFFSET (R54). -/
def applyReadBlock (env : ApplyEnv) (w : Who) (r : AccessReq) (s : State) : State :=
  let v := readValue s w.caller env.gpio r.obj
  let s1 := if r.offset = 0 then trackRead w r.obj v s else s
  match readCheck s w r.obj with
  | some e => refuseSegment w r e r.total (countRefused w r.obj e s1)
  | none =>
    if r.offset ≠ 0 ∧ ¬(r.obj = Obj.DICT_STORE_STATE ∧ s.dict.storeFailReport = true) then
      match readStands s w env.gpio r.obj with
      | none => refuseSegment w r .changed v.length s
      | some b => answerSegment w r b (noteRead r.obj s)
    else
      let p := serveRead w.caller env.gpio r.obj s1
      if p.1 ≠ .done then refuseSegment w r p.1 v.length p.2.2 else answerSegment w r p.2.1 (trackRead w r.obj p.2.1 p.2.2)

/-- A WRITE (R69, R78, R675). -/
def applyWrite (env : ApplyEnv) (w : Who) (r : AccessReq) (s : State) : State :=
  if r.offset ≠ 0 then deliver w.caller .write r.obj .badOp 0 none [] s
  else deliverWrite w.caller .write r.obj (serveWrite w r.obj r.data (writeRule env w r.obj r.data s) s)

/-- Set the caller's open block write. -/
def setBlock (w : Who) (b : Option BlockWrite) (s : State) : State :=
  setCallerSt w.caller { callerSt s w.caller with write := b } s

/-- The answer to a block segment. -/
def answerWrite (w : Who) (r : AccessReq) (e : Result) (s : State) : State :=
  deliver w.caller r.op r.obj e r.offset (some r.total) [] s

/-- The LAST segment writes the object if the bytes received equal TOTAL and the encoded length (R83); a chunk of the update goes
by its own rules (R605). -/
def applyLast (env : ApplyEnv) (w : Who) (r : AccessReq) (b : BlockWrite) (s : State) : State :=
  if r.obj = Obj.UPD_STAGE_CHUNK then serveChunk w r.offset b.total b.data env.flashOk s
  else if b.data.length ≠ b.total then answerWrite w r .badLength s
  else
    let p := serveWrite w r.obj b.data (writeRule env w r.obj b.data s) s
    match p.2 with
    | some e => answerWrite w r e p.1
    | none => p.1

/-- A segment that continues or opens a block: the block with the segment's bytes. -/
def extendBlock (env : ApplyEnv) (w : Who) (r : AccessReq) (b : BlockWrite) (s : State) : State :=
  let b1 := { b with data := b.data ++ r.data }
  if r.op = .writeBlockLast then applyLast env w r b1 (setBlock w none s)
  else answerWrite w r .done (setBlock w (some b1) s)

/-- A block segment (R81–R83): checks 2 to 4, the object's own lock and denied role among them, come before the order of segments
(R673). -/
def applyWriteBlock (env : ApplyEnv) (w : Who) (r : AccessReq) (s : State) : State :=
  match roleChecks s w r.obj (writeRule env w r.obj r.data s) with
  | some e => answerWrite w r e (countRefused w r.obj e s)
  | none =>
    let opened := (callerSt s w.caller).write
    if r.offset ≠ 0 then
      match opened with
      | none => answerWrite w r .blockOrder s
      | some b =>
        if b.obj ≠ r.obj ∨ b.data.length ≠ r.offset then answerWrite w r .blockOrder (setBlock w none s)
        else if 1024 < r.len then answerWrite w r .badLength (setBlock w none s)
        else extendBlock env w r b s
    else
      let s1 := if opened.isSome then bump Obj.DICT_OAP_DROPPED (setBlock w none s) else s
      if 1024 < r.len ∨ 65536 < r.total then answerWrite w r .badLength s1
      else extendBlock env w r { obj := r.obj, total := r.total, data := [] } s1

/-- Apply an accepted access, with the roles it was accepted with. -/
def applyReq (env : ApplyEnv) (r : AccessReq) (s : State) : State :=
  let w : Who := { caller := r.caller, roles := r.roles, tenant := r.tenant, approver := r.approver }
  match r.op with
  | .read => applyRead env w r s
  | .write => applyWrite env w r s
  | .readBlock => applyReadBlock env w r s
  | .writeBlock => applyWriteBlock env w r s
  | .writeBlockLast => applyWriteBlock env w r s
  | .bad => deliver w.caller .bad r.obj .badOp 0 none [] s

/-- DICT_ACCESS_APPLY (R9): the oldest accepted access, once the dictionary server runs; the Tsuow core is woken for it. -/
def execDictAccessApply (env : ApplyEnv) (s : State) : Host.Outcome State Fault Refusal :=
  .next (match serverUp s, s.dict.queue with
    | true, r :: rest => lookAround (applyReq env r (settleStore (wakeCore { s with dict := { s.dict with queue := rest } })))
    | _, _ => s)

end Sys2Proof.Machine
end

