-- ==== Sys2Proof/Machine/Dispatch.lean ====
section
/-!
DEFINITION. One arm per command: each calls that command's meaning.
-/
namespace Sys2Proof.Machine

def exec (i : Instr) (s : State) : Host.Outcome State Fault Refusal :=
  match i with
  | .registerWrite t => Sys2Proof.Machine.execRegisterWrite t s
  | .dwinRead => Sys2Proof.Machine.execDwinRead s
  | .dwinWrite len => Sys2Proof.Machine.execDwinWrite len s
  | .dwinReadBlock => Sys2Proof.Machine.execDwinReadBlock s
  | .dwinWriteBlock len => Sys2Proof.Machine.execDwinWriteBlock len s
  | .dwinWriteBlockLast len => Sys2Proof.Machine.execDwinWriteBlockLast len s
  | .dwinNtfPop v => Sys2Proof.Machine.execDwinNtfPop v s
  | .dictAccessApply env => Sys2Proof.Machine.execDictAccessApply env s
  | .quorumExpiry => Sys2Proof.Machine.execQuorumExpiry s
  | .dictStore c data => Sys2Proof.Machine.execDictStore c data s
  | .storeWriteDone ok => Sys2Proof.Machine.execStoreWriteDone ok s
  | .dictStoreStateRead c => Sys2Proof.Machine.execDictStoreStateRead c s
  | .dictRestoreDefaults c data => Sys2Proof.Machine.execDictRestoreDefaults c data s
  | .dictDescribe c data => Sys2Proof.Machine.execDictDescribe c data s
  | .dictOapLock c data => Sys2Proof.Machine.execDictOapLock c data s
  | .oapEnableWrite c data => Sys2Proof.Machine.execOapEnableWrite c data s
  | .principalEnrolWrite c p sub data => Sys2Proof.Machine.execPrincipalEnrolWrite c p sub data s
  | .oapRead d => Sys2Proof.Machine.execOapRead d s
  | .oapWrite d => Sys2Proof.Machine.execOapWrite d s
  | .oapReadBlock d => Sys2Proof.Machine.execOapReadBlock d s
  | .oapWriteBlock d => Sys2Proof.Machine.execOapWriteBlock d s
  | .sessionG1 d => Sys2Proof.Machine.execSessionG1 d s
  | .sessionG3 d => Sys2Proof.Machine.execSessionG3 d s
  | .close d => Sys2Proof.Machine.execClose d s
  | .oapSetupTimeout slot => Sys2Proof.Machine.execOapSetupTimeout slot s
  | .oapIdleTimeout slot => Sys2Proof.Machine.execOapIdleTimeout slot s
  | .oapMaxLife slot => Sys2Proof.Machine.execOapMaxLife slot s
  | .notify slot obj gpio => Sys2Proof.Machine.execNotify slot obj gpio s
  | .icmpv6Echo d => Sys2Proof.Machine.execIcmpv6Echo d s
  | .neighbourDiscovery d => Sys2Proof.Machine.execNeighbourDiscovery d s
  | .mgPhyConfigWrite c sub data errs => Sys2Proof.Machine.execMgPhyConfigWrite c sub data errs s
  | .tenantCreate c t data => Sys2Proof.Machine.execTenantCreate c t data s
  | .tenantDelete c t data => Sys2Proof.Machine.execTenantDelete c t data s
  | .tenantFenceSet c t => Sys2Proof.Machine.execTenantFenceSet c t s
  | .tenantUnfence c t => Sys2Proof.Machine.execTenantUnfence c t s
  | .tenantQuotaWrite c t sub data => Sys2Proof.Machine.execTenantQuotaWrite c t sub data s
  | .isoRuleCommit c data => Sys2Proof.Machine.execIsoRuleCommit c data s
  | .ruleChangeApply => Sys2Proof.Machine.execRuleChangeApply s
  | .isoTagQuery c data => Sys2Proof.Machine.execIsoTagQuery c data s
  | .ringEnableSet c pair => Sys2Proof.Machine.execRingEnableSet c pair s
  | .ringDisable c pair => Sys2Proof.Machine.execRingDisable c pair s
  | .ringGctrlRun v => Sys2Proof.Machine.execRingGctrlRun v s
  | .ringPoll pair entries => Sys2Proof.Machine.execRingPoll pair entries s
  | .admission pair => Sys2Proof.Machine.execAdmission pair s
  | .starveLimitExpiry pair => Sys2Proof.Machine.execStarveLimitExpiry pair s
  | .inboundDmaComplete entry data => Sys2Proof.Machine.execInboundDmaComplete entry data s
  | .dispatch cls => Sys2Proof.Machine.execDispatch cls s
  | .jobComplete entry => Sys2Proof.Machine.execJobComplete entry s
  | .coalDelayExpiry pair => Sys2Proof.Machine.execCoalDelayExpiry pair s
  | .hostMemoryError pair a => Sys2Proof.Machine.execHostMemoryError pair a s
  | .ringFetchTimeout pair a => Sys2Proof.Machine.execRingFetchTimeout pair a s
  | .pcieLinkReset => Sys2Proof.Machine.execPcieLinkReset s
  | .jobNop pair => Sys2Proof.Machine.execJobNop pair s
  | .abort pair => Sys2Proof.Machine.execAbort pair s
  | .abortScrub entry => Sys2Proof.Machine.execAbortScrub entry s
  | .scrubTakeover slice => Sys2Proof.Machine.execScrubTakeover slice s
  | .stage pair data ok => Sys2Proof.Machine.execStage pair data ok s
  | .segmentYield entry => Sys2Proof.Machine.execSegmentYield entry s
  | .jobResume entry tagOk => Sys2Proof.Machine.execJobResume entry tagOk s
  | .sliceReinitComplete slice => Sys2Proof.Machine.execSliceReinitComplete slice s
  | .benchRequest bench cycle reqs => Sys2Proof.Machine.execBenchRequest bench cycle reqs s
  | .benchWdogBite bench => Sys2Proof.Machine.execBenchWdogBite bench s
  | .arbModeApply bench => Sys2Proof.Machine.execArbModeApply bench s
  | .sliceWdogBite entry => Sys2Proof.Machine.execSliceWdogBite entry s
  | .unitWdogBite unit => Sys2Proof.Machine.execUnitWdogBite unit s
  | .mlKemKeygen entry fault => Sys2Proof.Machine.execMlKemKeygen entry fault s
  | .mlKemEncaps entry fault => Sys2Proof.Machine.execMlKemEncaps entry fault s
  | .mlKemDecaps entry fault => Sys2Proof.Machine.execMlKemDecaps entry fault s
  | .mlKemCheck entry => Sys2Proof.Machine.execMlKemCheck entry s
  | .mlDsaKeygen entry fault => Sys2Proof.Machine.execMlDsaKeygen entry fault s
  | .mlDsaSign entry fault => Sys2Proof.Machine.execMlDsaSign entry fault s
  | .mlDsaVerify entry fault => Sys2Proof.Machine.execMlDsaVerify entry fault s
  | .slhDsaKeygen entry fault => Sys2Proof.Machine.execSlhDsaKeygen entry fault s
  | .slhDsaSign entry fault => Sys2Proof.Machine.execSlhDsaSign entry fault s
  | .slhDsaVerify entry fault => Sys2Proof.Machine.execSlhDsaVerify entry fault s
  | .statefulKeygen entry fault => Sys2Proof.Machine.execStatefulKeygen entry fault s
  | .statefulSign entry fault => Sys2Proof.Machine.execStatefulSign entry fault s
  | .statefulVerify entry fault => Sys2Proof.Machine.execStatefulVerify entry fault s
  | .statefulRebuild entry rootMatches => Sys2Proof.Machine.execStatefulRebuild entry rootMatches s
  | .codeKemKeygen entry fault => Sys2Proof.Machine.execCodeKemKeygen entry fault s
  | .codeKemEncaps entry fault => Sys2Proof.Machine.execCodeKemEncaps entry fault s
  | .codeKemDecaps entry fault => Sys2Proof.Machine.execCodeKemDecaps entry fault s
  | .eccKeygen entry fault => Sys2Proof.Machine.execEccKeygen entry fault s
  | .eccSign entry fault => Sys2Proof.Machine.execEccSign entry fault s
  | .eccVerify entry fault => Sys2Proof.Machine.execEccVerify entry fault s
  | .eccAgree entry fault => Sys2Proof.Machine.execEccAgree entry fault s
  | .eccCheck entry => Sys2Proof.Machine.execEccCheck entry s
  | .rsaKeygen entry fault => Sys2Proof.Machine.execRsaKeygen entry fault s
  | .rsaSign entry fault => Sys2Proof.Machine.execRsaSign entry fault s
  | .rsaVerify entry fault => Sys2Proof.Machine.execRsaVerify entry fault s
  | .rsaEncrypt entry fault => Sys2Proof.Machine.execRsaEncrypt entry fault s
  | .rsaDecrypt entry fault => Sys2Proof.Machine.execRsaDecrypt entry fault s
  | .openCtx entry => Sys2Proof.Machine.execOpenCtx entry s
  | .absorb entry => Sys2Proof.Machine.execAbsorb entry s
  | .finishFinal entry => Sys2Proof.Machine.execFinishFinal entry s
  | .finishRead entry => Sys2Proof.Machine.execFinishRead entry s
  | .oneshot entry => Sys2Proof.Machine.execOneshot entry s
  | .deriveKey entry => Sys2Proof.Machine.execDeriveKey entry s
  | .extend entry => Sys2Proof.Machine.execExtend entry s
  | .saveCtx entry => Sys2Proof.Machine.execSaveCtx entry s
  | .loadCtx entry => Sys2Proof.Machine.execLoadCtx entry s
  | .digestQuantumEnd unit => Sys2Proof.Machine.execDigestQuantumEnd unit s
  | .importWrapped entry => Sys2Proof.Machine.execImportWrapped entry s
  | .exportWrapped entry => Sys2Proof.Machine.execExportWrapped entry s
  | .delete entry => Sys2Proof.Machine.execDelete entry s
  | .persist entry => Sys2Proof.Machine.execPersist entry s
  | .unpersist entry => Sys2Proof.Machine.execUnpersist entry s
  | .importPublic entry => Sys2Proof.Machine.execImportPublic entry s
  | .attest entry fault => Sys2Proof.Machine.execAttest entry fault s
  | .generate entry => Sys2Proof.Machine.execGenerate entry s
  | .serviceCall entry => Sys2Proof.Machine.execServiceCall entry s
  | .keyExpiry handle => Sys2Proof.Machine.execKeyExpiry handle s
  | .maskRefresh handle => Sys2Proof.Machine.execMaskRefresh handle s
  | .eraseOverwriteDone => Sys2Proof.Machine.execEraseOverwriteDone s
  | .archiveCommitDone => Sys2Proof.Machine.execArchiveCommitDone s
  | .archiveCompact w => Sys2Proof.Machine.execArchiveCompact w s
  | .kregArchInit c data => Sys2Proof.Machine.execKregArchInit c data s
  | .archiveRestore torn bad => Sys2Proof.Machine.execArchiveRestore torn bad s
  | .kregFillStart c data => Sys2Proof.Machine.execKregFillStart c data s
  | .fillTimeout => Sys2Proof.Machine.execFillTimeout s
  | .pkeLatLock c data => Sys2Proof.Machine.execPkeLatLock c data s
  | .digMeasOwnerWrite c reg data => Sys2Proof.Machine.execDigMeasOwnerWrite c reg data s
  | .spEnableSet by_ port => Sys2Proof.Machine.execSpEnableSet by_ port s
  | .spDisable by_ port => Sys2Proof.Machine.execSpDisable by_ port s
  | .portUp port => Sys2Proof.Machine.execPortUp port s
  | .portAlignLoss port unlocked => Sys2Proof.Machine.execPortAlignLoss port unlocked s
  | .spCBind by_ circuit tenant => Sys2Proof.Machine.execSpCBind by_ circuit tenant s
  | .spCUnbind by_ circuit => Sys2Proof.Machine.execSpCUnbind by_ circuit s
  | .spCConfigWrite by_ circuit sub data => Sys2Proof.Machine.execSpCConfigWrite by_ circuit sub data s
  | .spCZeroise by_ circuit data => Sys2Proof.Machine.execSpCZeroise by_ circuit data s
  | .protect port channel packet => Sys2Proof.Machine.execProtect port channel packet s
  | .validate port channel packet => Sys2Proof.Machine.execValidate port channel packet s
  | .graftIn port channel packet => Sys2Proof.Machine.execGraftIn port channel packet s
  | .pipelineDone circuit id mismatch => Sys2Proof.Machine.execPipelineDone circuit id mismatch s
  | .rxHoldExpiry circuit => Sys2Proof.Machine.execRxHoldExpiry circuit s
  | .linkKeyUnusable circuit => Sys2Proof.Machine.execLinkKeyUnusable circuit s
  | .flowControlWord port cls xoff => Sys2Proof.Machine.execFlowControlWord port cls xoff s
  | .fcStallExpiry port cls => Sys2Proof.Machine.execFcStallExpiry port cls s
  | .graftPeriodExpiry circuit => Sys2Proof.Machine.execGraftPeriodExpiry circuit s
  | .grCRekey by_ circuit data => Sys2Proof.Machine.execGrCRekey by_ circuit data s
  | .graftTriggerStart circuit => Sys2Proof.Machine.execGraftTriggerStart circuit s
  | .graftG1Received circuit => Sys2Proof.Machine.execGraftG1Received circuit s
  | .graftG2Received circuit => Sys2Proof.Machine.execGraftG2Received circuit s
  | .graftG3Received circuit => Sys2Proof.Machine.execGraftG3Received circuit s
  | .graftStepsDone circuit => Sys2Proof.Machine.execGraftStepsDone circuit s
  | .graftOutFragment circuit => Sys2Proof.Machine.execGraftOutFragment circuit s
  | .graftRetryTimeout circuit => Sys2Proof.Machine.execGraftRetryTimeout circuit s
  | .graftResponderTimeout circuit => Sys2Proof.Machine.execGraftResponderTimeout circuit s
  | .graftArmDelayExpiry circuit => Sys2Proof.Machine.execGraftArmDelayExpiry circuit s
  | .graftSwitchDelayExpiry circuit => Sys2Proof.Machine.execGraftSwitchDelayExpiry circuit s
  | .graftRetryPauseExpiry circuit => Sys2Proof.Machine.execGraftRetryPauseExpiry circuit s
  | .fragmentAssemblyTimeout circuit => Sys2Proof.Machine.execFragmentAssemblyTimeout circuit s
  | .graftBufferFreed circuit => Sys2Proof.Machine.execGraftBufferFreed circuit s
  | .add rd rs1 rs2 => Sys2Proof.Machine.execAdd rd rs1 rs2 s
  | .sub rd rs1 rs2 => Sys2Proof.Machine.execSub rd rs1 rs2 s
  | .and rd rs1 rs2 => Sys2Proof.Machine.execAnd rd rs1 rs2 s
  | .or rd rs1 rs2 => Sys2Proof.Machine.execOr rd rs1 rs2 s
  | .xor rd rs1 rs2 => Sys2Proof.Machine.execXor rd rs1 rs2 s
  | .shl rd rs1 rs2 => Sys2Proof.Machine.execShl rd rs1 rs2 s
  | .shr rd rs1 rs2 => Sys2Proof.Machine.execShr rd rs1 rs2 s
  | .sar rd rs1 rs2 => Sys2Proof.Machine.execSar rd rs1 rs2 s
  | .mul rd rs1 rs2 => Sys2Proof.Machine.execMul rd rs1 rs2 s
  | .mulhu rd rs1 rs2 => Sys2Proof.Machine.execMulhu rd rs1 rs2 s
  | .mulhs rd rs1 rs2 => Sys2Proof.Machine.execMulhs rd rs1 rs2 s
  | .cmp rs1 rs2 => Sys2Proof.Machine.execCmp rs1 rs2 s
  | .addc rd rs1 rs2 => Sys2Proof.Machine.execAddc rd rs1 rs2 s
  | .subc rd rs1 rs2 => Sys2Proof.Machine.execSubc rd rs1 rs2 s
  | .addi rd rs1 imm => Sys2Proof.Machine.execAddi rd rs1 imm s
  | .ori rd rs1 imm => Sys2Proof.Machine.execOri rd rs1 imm s
  | .xori rd rs1 imm => Sys2Proof.Machine.execXori rd rs1 imm s
  | .andi rd rs1 imm => Sys2Proof.Machine.execAndi rd rs1 imm s
  | .lhi rd imm => Sys2Proof.Machine.execLhi rd imm s
  | .cmpi rs1 imm => Sys2Proof.Machine.execCmpi rs1 imm s
  | .ld rd rs1 imm => Sys2Proof.Machine.execLd rd rs1 imm s
  | .ldh rd rs1 imm => Sys2Proof.Machine.execLdh rd rs1 imm s
  | .ldb rd rs1 imm => Sys2Proof.Machine.execLdb rd rs1 imm s
  | .st rd rs1 imm => Sys2Proof.Machine.execSt rd rs1 imm s
  | .sth rd rs1 imm => Sys2Proof.Machine.execSth rd rs1 imm s
  | .stb rd rs1 imm => Sys2Proof.Machine.execStb rd rs1 imm s
  | .ldi rd rs1 imm => Sys2Proof.Machine.execLdi rd rs1 imm s
  | .br cond off => Sys2Proof.Machine.execBr cond off s
  | .jmp off => Sys2Proof.Machine.execJmp off s
  | .call off => Sys2Proof.Machine.execCall off s
  | .jr rs1 => Sys2Proof.Machine.execJr rs1 s
  | .callr rs1 => Sys2Proof.Machine.execCallr rs1 s
  | .brpt rs1 imm => Sys2Proof.Machine.execBrpt rs1 imm s
  | .blockRepeatEnd => Sys2Proof.Machine.execBlockRepeatEnd s
  | .brend => Sys2Proof.Machine.execBrend s
  | .inPort rd rs1 imm => Sys2Proof.Machine.execInPort rd rs1 imm s
  | .outPort rd rs1 imm => Sys2Proof.Machine.execOutPort rd rs1 imm s
  | .movs rpt sz dir halt brk => Sys2Proof.Machine.execMovs rpt sz dir halt brk s
  | .cmps rpt sz dir halt brk => Sys2Proof.Machine.execCmps rpt sz dir halt brk s
  | .scas rpt sz dir halt brk => Sys2Proof.Machine.execScas rpt sz dir halt brk s
  | .fills rpt sz dir halt brk => Sys2Proof.Machine.execFills rpt sz dir halt brk s
  | .ins rpt sz dir halt brk => Sys2Proof.Machine.execIns rpt sz dir halt brk s
  | .outs rpt sz dir halt brk => Sys2Proof.Machine.execOuts rpt sz dir halt brk s
  | .mfc rd imm => Sys2Proof.Machine.execMfc rd imm s
  | .mtc rs1 imm => Sys2Proof.Machine.execMtc rs1 imm s
  | .feat rd imm => Sys2Proof.Machine.execFeat rd imm s
  | .nop => Sys2Proof.Machine.execNop s
  | .eret => Sys2Proof.Machine.execEret s
  | .wfi => Sys2Proof.Machine.execWfi s
  | .fence => Sys2Proof.Machine.execFence s
  | .svcExit => Sys2Proof.Machine.execSvcExit s
  | .svcSubmit => Sys2Proof.Machine.execSvcSubmit s
  | .svcWait => Sys2Proof.Machine.execSvcWait s
  | .svcYield => Sys2Proof.Machine.execSvcYield s
  | .subjobComplete cell => Sys2Proof.Machine.execSubjobComplete cell s
  | .vld vd rs k ew z => Sys2Proof.Machine.execVld vd rs k ew z s
  | .vst vs rs k ew => Sys2Proof.Machine.execVst vs rs k ew s
  | .vgath vd rs vi k ew z brk => Sys2Proof.Machine.execVgath vd rs vi k ew z brk s
  | .vscat vs rs vi k ew brk => Sys2Proof.Machine.execVscat vs rs vi k ew brk s
  | .vadd vd va vb k ew z => Sys2Proof.Machine.execVadd vd va vb k ew z s
  | .vsub vd va vb k ew z => Sys2Proof.Machine.execVsub vd va vb k ew z s
  | .vmul vd va vb k ew z sgn => Sys2Proof.Machine.execVmul vd va vb k ew z sgn s
  | .vmulh vd va vb k ew z sgn => Sys2Proof.Machine.execVmulh vd va vb k ew z sgn s
  | .vwmulLo vd va vb k ew z sgn => Sys2Proof.Machine.execVwmulLo vd va vb k ew z sgn s
  | .vwmulHi vd va vb k ew z sgn => Sys2Proof.Machine.execVwmulHi vd va vb k ew z sgn s
  | .vdot4b vd va vb k ew z sgn => Sys2Proof.Machine.execVdot4b vd va vb k ew z sgn s
  | .vdot2h vd va vb k ew z sgn => Sys2Proof.Machine.execVdot2h vd va vb k ew z sgn s
  | .vdot2hqLo vd va vb k ew z sgn => Sys2Proof.Machine.execVdot2hqLo vd va vb k ew z sgn s
  | .vdot2hqHi vd va vb k ew z sgn => Sys2Proof.Machine.execVdot2hqHi vd va vb k ew z sgn s
  | .vmont vd va vb k ew z => Sys2Proof.Machine.execVmont vd va vb k ew z s
  | .vand vd va vb k ew z => Sys2Proof.Machine.execVand vd va vb k ew z s
  | .vor vd va vb k ew z => Sys2Proof.Machine.execVor vd va vb k ew z s
  | .vxor vd va vb k ew z => Sys2Proof.Machine.execVxor vd va vb k ew z s
  | .vandn vd va vb k ew z => Sys2Proof.Machine.execVandn vd va vb k ew z s
  | .vshl vd va vb k ew z => Sys2Proof.Machine.execVshl vd va vb k ew z s
  | .vshr vd va vb k ew z => Sys2Proof.Machine.execVshr vd va vb k ew z s
  | .vsar vd va vb k ew z => Sys2Proof.Machine.execVsar vd va vb k ew z s
  | .vcmpEq kd va vb k ew z sgn => Sys2Proof.Machine.execVcmpEq kd va vb k ew z sgn s
  | .vcmpNe kd va vb k ew z sgn => Sys2Proof.Machine.execVcmpNe kd va vb k ew z sgn s
  | .vcmpLt kd va vb k ew z sgn => Sys2Proof.Machine.execVcmpLt kd va vb k ew z sgn s
  | .vcmpLe kd va vb k ew z sgn => Sys2Proof.Machine.execVcmpLe kd va vb k ew z sgn s
  | .vbcast vd ra k ew z => Sys2Proof.Machine.execVbcast vd ra k ew z s
  | .vextr rd va ix ew => Sys2Proof.Machine.execVextr rd va ix ew s
  | .kmov kd ra => Sys2Proof.Machine.execKmov kd ra s
  | .kread rd ka => Sys2Proof.Machine.execKread rd ka s
  | .kand kd ka kb => Sys2Proof.Machine.execKand kd ka kb s
  | .kor kd ka kb => Sys2Proof.Machine.execKor kd ka kb s
  | .kxor kd ka kb => Sys2Proof.Machine.execKxor kd ka kb s
  | .knot kd ka => Sys2Proof.Machine.execKnot kd ka s
  | .interrupt => Sys2Proof.Machine.execInterrupt s
  | .budget => Sys2Proof.Machine.execBudget s
  | .svcQuantumExpiry => Sys2Proof.Machine.execSvcQuantumExpiry s
  | .lockstepMismatch => Sys2Proof.Machine.execLockstepMismatch s
  | .memoryEccError memory uncorrectable reader => Sys2Proof.Machine.execMemoryEccError memory uncorrectable reader s
  | .warmRestartComplete => Sys2Proof.Machine.execWarmRestartComplete s
  | .tsuowWdogBite => Sys2Proof.Machine.execTsuowWdogBite s
  | .svcCellLoad by_ cell data => Sys2Proof.Machine.execSvcCellLoad by_ cell data s
  | .svcCellReset by_ cell data => Sys2Proof.Machine.execSvcCellReset by_ cell data s
  | .rngTestFail code group osc value => Sys2Proof.Machine.execRngTestFail code group osc value s
  | .rngStartupDone => Sys2Proof.Machine.execRngStartupDone s
  | .rngRetest => Sys2Proof.Machine.execRngRetest s
  | .drbgReseed => Sys2Proof.Machine.execDrbgReseed s
  | .rngRead c => Sys2Proof.Machine.execRngRead c s
  | .errRngReinit c data => Sys2Proof.Machine.execErrRngReinit c data s
  | .tamperEvent source u value fast => Sys2Proof.Machine.execTamperEvent source u value fast s
  | .supplySample core sram io18 vbat temps => Sys2Proof.Machine.execSupplySample core sram io18 vbat temps s
  | .meshSample pair sensed => Sys2Proof.Machine.execMeshSample pair sensed s
  | .zeroNPress => Sys2Proof.Machine.execZeroNPress s
  | .inputStuck source => Sys2Proof.Machine.execInputStuck source s
  | .inputChatter source => Sys2Proof.Machine.execInputChatter source s
  | .holdExpiry => Sys2Proof.Machine.execHoldExpiry s
  | .alarmPinPulseEnd => Sys2Proof.Machine.execAlarmPinPulseEnd s
  | .powerLossDetect core sram io18 vbat => Sys2Proof.Machine.execPowerLossDetect core sram io18 vbat s
  | .pdnWindowExpiry => Sys2Proof.Machine.execPdnWindowExpiry s
  | .tamperCfgWrite c src data => Sys2Proof.Machine.execTamperCfgWrite c src data s
  | .tmpLock c data => Sys2Proof.Machine.execTmpLock c data s
  | .tmpRelease c data => Sys2Proof.Machine.execTmpRelease c data s
  | .tmpAonClear c data => Sys2Proof.Machine.execTmpAonClear c data s
  | .tmpQuorumCancel c data => Sys2Proof.Machine.execTmpQuorumCancel c data s
  | .officerEnrolWrite c officer data => Sys2Proof.Machine.execOfficerEnrolWrite c officer data s
  | .cardInsert => Sys2Proof.Machine.execCardInsert s
  | .cardRemove => Sys2Proof.Machine.execCardRemove s
  | .cardIdleTimeout => Sys2Proof.Machine.execCardIdleTimeout s
  | .cardAtr valid t1lrc => Sys2Proof.Machine.execCardAtr valid t1lrc s
  | .cardSelect sw => Sys2Proof.Machine.execCardSelect sw s
  | .cardGetKeys sw data => Sys2Proof.Machine.execCardGetKeys sw data s
  | .cardSign sw data env => Sys2Proof.Machine.execCardSign sw data env s
  | .cardGetComponent sw data => Sys2Proof.Machine.execCardGetComponent sw data s
  | .lcNonceNew c data => Sys2Proof.Machine.execLcNonceNew c data s
  | .nonceExpiry => Sys2Proof.Machine.execNonceExpiry s
  | .lcApply c data => Sys2Proof.Machine.execLcApply c data s
  | .lcBist c data pass => Sys2Proof.Machine.execLcBist c data pass s
  | .lcDbgChallengeNew c data => Sys2Proof.Machine.execLcDbgChallengeNew c data s
  | .lcDbgOpen c data => Sys2Proof.Machine.execLcDbgOpen c data s
  | .extest scan => Sys2Proof.Machine.execExtest scan s
  | .extestExit bootSel => Sys2Proof.Machine.execExtestExit bootSel s
  | .idcode bootSel => Sys2Proof.Machine.execIdcode bootSel s
  | .samplePreload bootSel scan => Sys2Proof.Machine.execSamplePreload bootSel scan s
  | .bypass bootSel => Sys2Proof.Machine.execBypass bootSel s
  | .debugInstruction op bootSel => Sys2Proof.Machine.execDebugInstruction op bootSel s
  | .powerOnReset bootSel => Sys2Proof.Machine.execPowerOnReset bootSel s
  | .resetN low bootSel => Sys2Proof.Machine.execResetN low bootSel s
  | .perstNReset bootSel => Sys2Proof.Machine.execPerstNReset bootSel s
  | .castOn env => Sys2Proof.Machine.execCastOn env s
  | .errReset c data => Sys2Proof.Machine.execErrReset c data s
  | .selfReset bootSel => Sys2Proof.Machine.execSelfReset bootSel s
  | .updStageBegin c data => Sys2Proof.Machine.execUpdStageBegin c data s
  | .updStageChunk c total data ok => Sys2Proof.Machine.execUpdStageChunk c total data ok s
  | .updVerify c data => Sys2Proof.Machine.execUpdVerify c data s
  | .updActivateAt c data => Sys2Proof.Machine.execUpdActivateAt c data s
  | .updCancel c data => Sys2Proof.Machine.execUpdCancel c data s
  | .activationDue bootSel => Sys2Proof.Machine.execActivationDue bootSel s
  | .updConfirm c data => Sys2Proof.Machine.execUpdConfirm c data s
  | .trialExpiry bootSel => Sys2Proof.Machine.execTrialExpiry bootSel s
  | .gaugeReplanDue m => Sys2Proof.Machine.execGaugeReplanDue m s
  | .pwrReplan c m data => Sys2Proof.Machine.execPwrReplan c m data s
  | .voutStep => Sys2Proof.Machine.execVoutStep s
  | .pmbusWriteResult ack pec readMv => Sys2Proof.Machine.execPmbusWriteResult ack pec readMv s
  | .pmAlert status => Sys2Proof.Machine.execPmAlert status s
  | .slicePowerGate n => Sys2Proof.Machine.execSlicePowerGate n s
  | .engineClockGate => Sys2Proof.Machine.execEngineClockGate s
  | .pllStop => Sys2Proof.Machine.execPllStop s
  | .tsuowRetention => Sys2Proof.Machine.execTsuowRetention s
  | .pwrRtcWrite c data => Sys2Proof.Machine.execPwrRtcWrite c data s
  | .errSliceReinit c data => Sys2Proof.Machine.execErrSliceReinit c data s
  | .errReqReinit c data => Sys2Proof.Machine.execErrReqReinit c data s
  | .errDigReinit c data => Sys2Proof.Machine.execErrDigReinit c data s
  | .errPipeReinit c data => Sys2Proof.Machine.execErrPipeReinit c data s
  | .reinitComplete pass => Sys2Proof.Machine.execReinitComplete pass s
  | .stuckClear source => Sys2Proof.Machine.execStuckClear source s
  | .chatterClear source => Sys2Proof.Machine.execChatterClear source s
  | .aonDomainStop => Sys2Proof.Machine.execAonDomainStop s
  | .startUpTestFailure => Sys2Proof.Machine.execStartUpTestFailure s
  | .updVerifyEnd => Sys2Proof.Machine.execUpdVerifyEnd s
  | .illegal w => Sys2Proof.Machine.execIllegal w s
  | .arrivingPacketDrop port channel packet error => Sys2Proof.Machine.execArrivingPacketDrop port channel packet error s
  | .pipelineReinitDone pipeline => Sys2Proof.Machine.execPipelineReinitDone pipeline s
  | .digestUnitReinitDone unit => Sys2Proof.Machine.execDigestUnitReinitDone unit s

end Sys2Proof.Machine
end

