-- ==== Sys2Proof/Machine/Idle.lean ====
section
/-!
DEFINITION. What happens while no command waits: time passes.
-/
namespace Sys2Proof.Machine

/-- The model's tick: one microsecond, after which watched values are looked at (DESIGN CHOICE: the spec's table has no row for
the passing of time, which timed rows measure on this clock). -/
def idle (s : State) : State := lookAround { s with now := s.now + us 1 }

end Sys2Proof.Machine
end

