-- ==== Sys2Proof/WellFormed.lean ====
section
/-!
DEFINITION. Well-formed commands: every number that names a unit, pair, circuit, entry or object of the device lies in the
range that the spec gives that kind of unit.
-/
namespace Sys2Proof.WellFormed

/-- The number is that of an in-flight entry, 0–8,191 of the table and one for the sub-job of each cell (R155, R499). -/
def okEntry (n : Nat) : Bool := decide (n < 8256)

/-- The number is that of a circuit (R408). -/
def okCircuit (n : Nat) : Bool := decide (n < 8192)

/-- The number is that of a ring pair: 4,096 of tenants and 16 of management (R129). -/
def okPair (n : Nat) : Bool := decide (n < 4112)

/-- The number is that of a stream port, or a mesh pair (R391, R534). -/
def okPort (n : Nat) : Bool := decide (n < 2)

/-- The number is that of a channel or flow-control class (R395). -/
def okChannel (n : Nat) : Bool := decide (n < 64)

/-- The number is that of a slice (R177). -/
def okSlice (n : Nat) : Bool := decide (n < 36)

/-- The number is that of a service cell (R492). -/
def okCell (n : Nat) : Bool := decide (n < 64)

/-- The number is that of a tamper source (R527). -/
def okSource (n : Nat) : Bool := decide (n < 24)

/-- The number is that of an officer (R553). -/
def okOfficer (n : Nat) : Bool := decide (n < 16)

/-- The number is that of a principal (R57). -/
def okPrincipal (n : Nat) : Bool := decide (n < 32)

/-- The number is that of a session slot, or an oscillator group (R75, R505). -/
def okSession (n : Nat) : Bool := decide (n < 8)

/-- The number is that of a digest unit (R362). -/
def okDigest (n : Nat) : Bool := decide (n < 4)

/-- The number is that of a digest unit or the key manager under the unit watchdog (R642). -/
def okUnit (n : Nat) : Bool := decide (n < 5)

/-- The number is that of a bench (R177). -/
def okBench (n : Nat) : Bool := decide (n < 16)

/-- The number is that of the BOOT_SEL straps (R657). -/
def okStraps (n : Nat) : Bool := decide (n < 4)

/-- The number is that of the 11-bit LEN of DWIN_CMD (R58). -/
def okLen (n : Nat) : Bool := decide (n < 2048)

/-- The number is that of a key handle (R331). -/
def okHandle (n : Nat) : Bool := decide (1 ≤ n ∧ n < 65536)

/-- The number is that of a memory of ERR_ECC (R650). -/
def okMemory (n : Nat) : Bool := decide (1 ≤ n ∧ n ≤ 5)

/-- The number is that of a cipher pipeline (R391). -/
def okPipe (n : Nat) : Bool := decide (n < 8)

/-- The number is that of a tenant (R86). -/
def okTenant (n : Nat) : Bool := decide (n < 4096)

/-- The number is that of a 16-bit status word. -/
def okSw (n : Nat) : Bool := decide (n < 65536)

/-- The number is that of a slice class (R177). -/
def okClass (n : Nat) : Bool := decide (n < 4)

/-- The number is that of a debug opcode of the TAP (R579). -/
def okDebug (n : Nat) : Bool := decide (0x80 ≤ n ∧ n ≤ 0xBF)

/-- The number is that of an object address: index and subindex (R35). -/
def okObject (n : Nat) : Bool := decide (n < 2 ^ 24)

/-- The number is that of an object of the management PHY (R672). -/
def okPhy (n : Nat) : Bool := decide (2 ≤ n ∧ n ≤ 7)

/-- The number is that of an enrolment object of a principal (R57). -/
def okEnrol (n : Nat) : Bool := decide (1 ≤ n ∧ n ≤ 4)

/-- The number is that of a subindex (R35). -/
def okSub (n : Nat) : Bool := decide (n < 256)

/-- The number is that of a measurement register (R386). -/
def okMeas (n : Nat) : Bool := decide (n < 32)

/-- The number is that of a health test (R514). -/
def okTest (n : Nat) : Bool := decide (1 ≤ n ∧ n ≤ 5)

/-- A caller: the window, one of eight sessions, the supervisor firmware (R39). -/
def okCaller : Caller → Bool
  | .session k _ => decide (k < 8)
  | _ => true

/-- The target of a write without a row of its own: a doubleword of BAR0's first 64 KiB, or an object (R8). -/
def okTarget : WriteTarget → Bool
  | .bar0 off _ => decide (off % 4 = 0)
  | .object by_ idx sub _ _ => okCaller by_ && decide (idx < 65536 ∧ sub < 256)

end Sys2Proof.WellFormed

namespace Sys2Proof
open WellFormed

/-- A command's operands all lie in their ranges. -/
def wellFormed (i : Instr) : Bool :=
  match i with
  | .registerWrite t => okTarget t
  | .dwinRead => true
  | .dwinWrite len => okLen len
  | .dwinReadBlock => true
  | .dwinWriteBlock len => okLen len
  | .dwinWriteBlockLast len => okLen len
  | .dwinNtfPop _ => true
  | .dictAccessApply _ => true
  | .quorumExpiry => true
  | .dictStore c _ => okCaller c
  | .storeWriteDone _ => true
  | .dictStoreStateRead c => okCaller c
  | .dictRestoreDefaults c _ => okCaller c
  | .dictDescribe c _ => okCaller c
  | .dictOapLock c _ => okCaller c
  | .oapEnableWrite c _ => okCaller c
  | .principalEnrolWrite c p sub _ => okCaller c && okPrincipal p && okEnrol sub
  | .oapRead _ => true
  | .oapWrite _ => true
  | .oapReadBlock _ => true
  | .oapWriteBlock _ => true
  | .sessionG1 _ => true
  | .sessionG3 _ => true
  | .close _ => true
  | .oapSetupTimeout slot => okSession slot
  | .oapIdleTimeout slot => okSession slot
  | .oapMaxLife slot => okSession slot
  | .notify slot obj _ => okSession slot && okObject obj
  | .icmpv6Echo _ => true
  | .neighbourDiscovery _ => true
  | .mgPhyConfigWrite c sub _ _ => okCaller c && okPhy sub
  | .tenantCreate c t _ => okCaller c && okTenant t
  | .tenantDelete c t _ => okCaller c && okTenant t
  | .tenantFenceSet c t => okCaller c && okTenant t
  | .tenantUnfence c t => okCaller c && okTenant t
  | .tenantQuotaWrite c t sub _ => okCaller c && okTenant t && okSub sub
  | .isoRuleCommit c _ => okCaller c
  | .ruleChangeApply => true
  | .isoTagQuery c _ => okCaller c
  | .ringEnableSet c pair => okCaller c && okPair pair
  | .ringDisable c pair => okCaller c && okPair pair
  | .ringGctrlRun _ => true
  | .ringPoll pair _ => okPair pair
  | .admission pair => okPair pair
  | .starveLimitExpiry pair => okPair pair
  | .inboundDmaComplete entry _ => okEntry entry
  | .dispatch cls => okClass cls
  | .jobComplete entry => okEntry entry
  | .coalDelayExpiry pair => okPair pair
  | .hostMemoryError pair _ => okPair pair
  | .ringFetchTimeout pair _ => okPair pair
  | .pcieLinkReset => true
  | .jobNop pair => okPair pair
  | .abort pair => okPair pair
  | .abortScrub entry => okEntry entry
  | .scrubTakeover slice => okSlice slice
  | .stage pair _ _ => okPair pair
  | .segmentYield entry => okEntry entry
  | .jobResume entry _ => okEntry entry
  | .sliceReinitComplete slice => okSlice slice
  | .benchRequest bench _ _ => okBench bench
  | .benchWdogBite bench => okBench bench
  | .arbModeApply bench => okBench bench
  | .sliceWdogBite entry => okEntry entry
  | .unitWdogBite unit => okUnit unit
  | .mlKemKeygen entry _ => okEntry entry
  | .mlKemEncaps entry _ => okEntry entry
  | .mlKemDecaps entry _ => okEntry entry
  | .mlKemCheck entry => okEntry entry
  | .mlDsaKeygen entry _ => okEntry entry
  | .mlDsaSign entry _ => okEntry entry
  | .mlDsaVerify entry _ => okEntry entry
  | .slhDsaKeygen entry _ => okEntry entry
  | .slhDsaSign entry _ => okEntry entry
  | .slhDsaVerify entry _ => okEntry entry
  | .statefulKeygen entry _ => okEntry entry
  | .statefulSign entry _ => okEntry entry
  | .statefulVerify entry _ => okEntry entry
  | .statefulRebuild entry _ => okEntry entry
  | .codeKemKeygen entry _ => okEntry entry
  | .codeKemEncaps entry _ => okEntry entry
  | .codeKemDecaps entry _ => okEntry entry
  | .eccKeygen entry _ => okEntry entry
  | .eccSign entry _ => okEntry entry
  | .eccVerify entry _ => okEntry entry
  | .eccAgree entry _ => okEntry entry
  | .eccCheck entry => okEntry entry
  | .rsaKeygen entry _ => okEntry entry
  | .rsaSign entry _ => okEntry entry
  | .rsaVerify entry _ => okEntry entry
  | .rsaEncrypt entry _ => okEntry entry
  | .rsaDecrypt entry _ => okEntry entry
  | .openCtx entry => okEntry entry
  | .absorb entry => okEntry entry
  | .finishFinal entry => okEntry entry
  | .finishRead entry => okEntry entry
  | .oneshot entry => okEntry entry
  | .deriveKey entry => okEntry entry
  | .extend entry => okEntry entry
  | .saveCtx entry => okEntry entry
  | .loadCtx entry => okEntry entry
  | .digestQuantumEnd unit => okDigest unit
  | .importWrapped entry => okEntry entry
  | .exportWrapped entry => okEntry entry
  | .delete entry => okEntry entry
  | .persist entry => okEntry entry
  | .unpersist entry => okEntry entry
  | .importPublic entry => okEntry entry
  | .attest entry _ => okEntry entry
  | .generate entry => okEntry entry
  | .serviceCall entry => okEntry entry
  | .keyExpiry handle => okHandle handle
  | .maskRefresh handle => okHandle handle
  | .eraseOverwriteDone => true
  | .archiveCommitDone => true
  | .archiveCompact _ => true
  | .kregArchInit c _ => okCaller c
  | .archiveRestore _ _ => true
  | .kregFillStart c _ => okCaller c
  | .fillTimeout => true
  | .pkeLatLock c _ => okCaller c
  | .digMeasOwnerWrite c i _ => okCaller c && okMeas i
  | .spEnableSet by_ port => okCaller by_ && okPort port
  | .spDisable by_ port => okCaller by_ && okPort port
  | .portUp port => okPort port
  | .portAlignLoss port _ => okPort port
  | .spCBind by_ circuit tenant => okCaller by_ && okCircuit circuit && okTenant tenant
  | .spCUnbind by_ circuit => okCaller by_ && okCircuit circuit
  | .spCConfigWrite by_ circuit sub _ => okCaller by_ && okCircuit circuit && okSub sub
  | .spCZeroise by_ circuit _ => okCaller by_ && okCircuit circuit
  | .protect port channel _ => okPort port && okChannel channel
  | .validate port channel _ => okPort port && okChannel channel
  | .graftIn port channel _ => okPort port && okChannel channel
  | .pipelineDone circuit _ _ => okCircuit circuit
  | .rxHoldExpiry circuit => okCircuit circuit
  | .linkKeyUnusable circuit => okCircuit circuit
  | .flowControlWord port cls _ => okPort port && okChannel cls
  | .fcStallExpiry port cls => okPort port && okChannel cls
  | .graftPeriodExpiry circuit => okCircuit circuit
  | .grCRekey by_ circuit _ => okCaller by_ && okCircuit circuit
  | .graftTriggerStart circuit => okCircuit circuit
  | .graftG1Received circuit => okCircuit circuit
  | .graftG2Received circuit => okCircuit circuit
  | .graftG3Received circuit => okCircuit circuit
  | .graftStepsDone circuit => okCircuit circuit
  | .graftOutFragment circuit => okCircuit circuit
  | .graftRetryTimeout circuit => okCircuit circuit
  | .graftResponderTimeout circuit => okCircuit circuit
  | .graftArmDelayExpiry circuit => okCircuit circuit
  | .graftSwitchDelayExpiry circuit => okCircuit circuit
  | .graftRetryPauseExpiry circuit => okCircuit circuit
  | .fragmentAssemblyTimeout circuit => okCircuit circuit
  | .graftBufferFreed circuit => okCircuit circuit
  | .add _ _ _ => true
  | .sub _ _ _ => true
  | .and _ _ _ => true
  | .or _ _ _ => true
  | .xor _ _ _ => true
  | .shl _ _ _ => true
  | .shr _ _ _ => true
  | .sar _ _ _ => true
  | .mul _ _ _ => true
  | .mulhu _ _ _ => true
  | .mulhs _ _ _ => true
  | .cmp _ _ => true
  | .addc _ _ _ => true
  | .subc _ _ _ => true
  | .addi _ _ _ => true
  | .ori _ _ _ => true
  | .xori _ _ _ => true
  | .andi _ _ _ => true
  | .lhi _ _ => true
  | .cmpi _ _ => true
  | .ld _ _ _ => true
  | .ldh _ _ _ => true
  | .ldb _ _ _ => true
  | .st _ _ _ => true
  | .sth _ _ _ => true
  | .stb _ _ _ => true
  | .ldi _ _ _ => true
  | .br _ _ => true
  | .jmp _ => true
  | .call _ => true
  | .jr _ => true
  | .callr _ => true
  | .brpt _ _ => true
  | .blockRepeatEnd => true
  | .brend => true
  | .inPort _ _ _ => true
  | .outPort _ _ _ => true
  | .movs _ _ _ _ _ => true
  | .cmps _ _ _ _ _ => true
  | .scas _ _ _ _ _ => true
  | .fills _ _ _ _ _ => true
  | .ins _ _ _ _ _ => true
  | .outs _ _ _ _ _ => true
  | .mfc _ _ => true
  | .mtc _ _ => true
  | .feat _ _ => true
  | .nop => true
  | .eret => true
  | .wfi => true
  | .fence => true
  | .svcExit => true
  | .svcSubmit => true
  | .svcWait => true
  | .svcYield => true
  | .subjobComplete cell => okCell cell
  | .vld _ _ _ _ _ => true
  | .vst _ _ _ _ => true
  | .vgath _ _ _ _ _ _ _ => true
  | .vscat _ _ _ _ _ _ => true
  | .vadd _ _ _ _ _ _ => true
  | .vsub _ _ _ _ _ _ => true
  | .vmul _ _ _ _ _ _ _ => true
  | .vmulh _ _ _ _ _ _ _ => true
  | .vwmulLo _ _ _ _ _ _ _ => true
  | .vwmulHi _ _ _ _ _ _ _ => true
  | .vdot4b _ _ _ _ _ _ _ => true
  | .vdot2h _ _ _ _ _ _ _ => true
  | .vdot2hqLo _ _ _ _ _ _ _ => true
  | .vdot2hqHi _ _ _ _ _ _ _ => true
  | .vmont _ _ _ _ _ _ => true
  | .vand _ _ _ _ _ _ => true
  | .vor _ _ _ _ _ _ => true
  | .vxor _ _ _ _ _ _ => true
  | .vandn _ _ _ _ _ _ => true
  | .vshl _ _ _ _ _ _ => true
  | .vshr _ _ _ _ _ _ => true
  | .vsar _ _ _ _ _ _ => true
  | .vcmpEq _ _ _ _ _ _ _ => true
  | .vcmpNe _ _ _ _ _ _ _ => true
  | .vcmpLt _ _ _ _ _ _ _ => true
  | .vcmpLe _ _ _ _ _ _ _ => true
  | .vbcast _ _ _ _ _ => true
  | .vextr _ _ _ _ => true
  | .kmov _ _ => true
  | .kread _ _ => true
  | .kand _ _ _ => true
  | .kor _ _ _ => true
  | .kxor _ _ _ => true
  | .knot _ _ => true
  | .interrupt => true
  | .budget => true
  | .svcQuantumExpiry => true
  | .lockstepMismatch => true
  | .memoryEccError memory _ _ => okMemory memory
  | .warmRestartComplete => true
  | .tsuowWdogBite => true
  | .svcCellLoad by_ cell _ => okCaller by_ && okCell cell
  | .svcCellReset by_ cell _ => okCaller by_ && okCell cell
  | .rngTestFail code group _ _ => okTest code && okSession group
  | .rngStartupDone => true
  | .rngRetest => true
  | .drbgReseed => true
  | .rngRead c => okCaller c
  | .errRngReinit c _ => okCaller c
  | .tamperEvent source _ _ _ => okSource source
  | .supplySample _ _ _ _ _ => true
  | .meshSample pair _ => okPort pair
  | .zeroNPress => true
  | .inputStuck source => okSource source
  | .inputChatter source => okSource source
  | .holdExpiry => true
  | .alarmPinPulseEnd => true
  | .powerLossDetect _ _ _ _ => true
  | .pdnWindowExpiry => true
  | .tamperCfgWrite c src _ => okCaller c && okSource src
  | .tmpLock c _ => okCaller c
  | .tmpRelease c _ => okCaller c
  | .tmpAonClear c _ => okCaller c
  | .tmpQuorumCancel c _ => okCaller c
  | .officerEnrolWrite c officer _ => okCaller c && okOfficer officer
  | .cardInsert => true
  | .cardRemove => true
  | .cardIdleTimeout => true
  | .cardAtr _ _ => true
  | .cardSelect sw => okSw sw
  | .cardGetKeys sw _ => okSw sw
  | .cardSign sw _ _ => okSw sw
  | .cardGetComponent sw _ => okSw sw
  | .lcNonceNew c _ => okCaller c
  | .nonceExpiry => true
  | .lcApply c _ => okCaller c
  | .lcBist c _ _ => okCaller c
  | .lcDbgChallengeNew c _ => okCaller c
  | .lcDbgOpen c _ => okCaller c
  | .extest _ => true
  | .extestExit bootSel => okStraps bootSel
  | .idcode bootSel => okStraps bootSel
  | .samplePreload bootSel _ => okStraps bootSel
  | .bypass bootSel => okStraps bootSel
  | .debugInstruction op bootSel => okDebug op.code && okStraps bootSel && decide (op.addr < 2 ^ 32 ∧ op.data.length ≤ 1024)
  | .powerOnReset bootSel => okStraps bootSel
  | .resetN _ bootSel => okStraps bootSel
  | .perstNReset bootSel => okStraps bootSel
  | .castOn _ => true
  | .errReset c _ => okCaller c
  | .selfReset bootSel => okStraps bootSel
  | .updStageBegin c _ => okCaller c
  | .updStageChunk c _ _ _ => okCaller c
  | .updVerify c _ => okCaller c
  | .updActivateAt c _ => okCaller c
  | .updCancel c _ => okCaller c
  | .activationDue bootSel => okStraps bootSel
  | .updConfirm c _ => okCaller c
  | .trialExpiry bootSel => okStraps bootSel
  | .gaugeReplanDue _ => true
  | .pwrReplan c _ _ => okCaller c
  | .voutStep => true
  | .pmbusWriteResult _ _ _ => true
  | .pmAlert status => okSw status
  | .slicePowerGate n => okSlice n
  | .engineClockGate => true
  | .pllStop => true
  | .tsuowRetention => true
  | .pwrRtcWrite c _ => okCaller c
  | .errSliceReinit c _ => okCaller c
  | .errReqReinit c _ => okCaller c
  | .errDigReinit c _ => okCaller c
  | .errPipeReinit c _ => okCaller c
  | .reinitComplete _ => true
  | .stuckClear source => okSource source
  | .chatterClear source => okSource source
  | .aonDomainStop => true
  | .startUpTestFailure => true
  | .updVerifyEnd => true
  | .illegal _ => true
  | .arrivingPacketDrop port channel _ _ => okPort port && okChannel channel
  | .pipelineReinitDone pipeline => okPipe pipeline
  | .digestUnitReinitDone unit => okDigest unit

end Sys2Proof
end

