-- ==== Sys2Proof/Safety.lean ====
section
/-!
DEFINITION. What the claims call safe: memories in canonical form, a queue of well-formed commands, and OTP whose burnt bits
stay burnt.
-/
namespace Sys2Proof.Machine

/-- A memory in canonical form: addresses strictly rising, no byte listed that equals what an unlisted one reads as. -/
def Memory.wf (m : Tab Byte) : Bool := tabWf (fun _ => 0) m

/-- Every command that waits is well-formed. -/
def QueueOk (s : State) : Prop := ∀ c ∈ s.pending, wellFormed c = true

/-- A unit-root slot keeps its bits: unchanged, or blank before, or all ones after (R562, R570, R572). -/
def SlotKept (a b : Bytes) : Prop := a = b ∨ rootBlank a = true ∨ b = List.replicate 36 0xFF

/-- Every OTP bit that is burnt in `o` is burnt in `p` (R542, R561, R562, R594); the unit ID and the ordering code are the same. -/
def BurntFrom (o p : Otp) : Prop :=
  (o.state0 &&& p.state0 = o.state0 ∧ o.state1 &&& p.state1 = o.state1 ∧ o.state2 &&& p.state2 = o.state2) ∧
  (SlotKept o.root0 p.root0 ∧ SlotKept o.root1 p.root1) ∧
  (o.unitId = p.unitId ∧ o.ordering = p.ordering) ∧ o.evidence ≤ p.evidence ∧
  ∀ t, otpSecver o t ≤ otpSecver p t

/-- OTP is sound and has kept every bit burnt in `o`: at most 256 evidence bits, the security versions in canonical form. -/
def OtpInv (o : Otp) (s : State) : Prop :=
  s.lc.otp.evidence ≤ 256 ∧ tabWf (fun _ => 0) s.lc.otp.secver = true ∧ BurntFrom o s.lc.otp

/-! ### What the claims about object writes speak of (R9, R555, R673) -/

/-- The state in which a write begins: its access has left the queue, and the Tsuow core is awake. -/
def begun (c : Caller) (id : ObjId) (data : Bytes) (s : State) : State := takeReq ⟨c, .write, id, data⟩ s

/-- The state on which a write's act is performed: the write has begun; a critical act's first accepted write has made its checks, and the
k-th approval has discarded the pending act (R555). -/
def actedOn (c : Caller) (id : ObjId) (data : Bytes) (r : WriteRule) (s : State) : State :=
  let t := begun c id data s
  if r.critical = true ∧ c ≠ .supervisor then dropAct (if actPending t id data = true then t else (r.first t).1) else (r.first t).1

/-- The turn of caller `c`'s write has come (R9): the dictionary server runs, and the write is the oldest access that waits, made with the
roles `w` it was accepted with, or none waits and it is made with the caller's own. -/
def Turn (c : Caller) (id : ObjId) (data : Bytes) (w : Who) (s : State) : Prop :=
  serverUp s = true ∧ accessor s ⟨c, .write, id, data⟩ = some w

/-- The write passes every check of R673 and is carried out at once: its turn has come, no check refuses, then or as it is applied, the server's
access to the object's record is not refused (R36, R104), and a critical act is the supervisor firmware's or has its k-th approval with
this write of a session. -/
def Deciding (c : Caller) (id : ObjId) (data : Bytes) (r : WriteRule) (s : State) : Prop :=
  let t := begun c id data s
  ∃ w, Turn c id data w s ∧ writeChecks t w id data r = none ∧
    (r.critical = true → c = .supervisor ∨ (fromWindow c = false ∧ lastApproval t id data w.approver = true)) ∧
    ((r.critical = true ∧ c ≠ .supervisor ∧ actPending t id data = true) ∨ (r.first t).2 = true) ∧
    serverRefused (actedOn c id data r s) id data.length 2 = none ∧ r.recheck (actedOn c id data r s) = none

/-- A write that ends DONE: its result is delivered to its caller after the act's effect `t`. -/
def writeDone (c : Caller) (id : ObjId) (t : State) : State := deliver c .write id .done 0 none [] t

/-! ### What the claims about jobs speak of -/

/-- Entry `e` holds job `x`, which runs a command of this opcode on slice `n`. -/
def OnSlice (e opcode n : Nat) (x : Entry) (s : State) : Prop :=
  entry? s e = some x ∧ x.phase = .running n ∧ x.desc.opcode = opcode

/-- The job is not segmented, and its key check passes with these needs (R189). -/
def Passes (s : State) (n : Nat) (x : Entry) (q : Need) : Prop :=
  x.keyChecked = false ∧ resumePages x = [] ∧ x.target = none ∧ keyCheck s (quotaColour x) (slice_ s n).seeded q = none

/-- The job's key check has passed in an earlier segment, or passes now (R189, R194). -/
def Ready (s : State) (n : Nat) (x : Entry) (q : Need) : Prop :=
  x.keyChecked = true ∨ keyCheck s (quotaColour x) (slice_ s n).seeded q = none

/-- The bytes that the key check drew, and the state its command runs from. -/
def runFrom (s : State) (n : Nat) (x : Entry) (q : Need) : Bytes × State :=
  if x.keyChecked then ((slice_ s n).scratch, s) else checkDraws n q s

/-- A segmented command that makes a key has a LOADING slot from its key check on (R233). -/
def HoldsTarget (x : Entry) : Prop :=
  match x.target with
  | some h => x.keyChecked = true ∧ h ≠ 0
  | none => x.keyChecked = false

/-- The job of entry `e` has ended with this status, DETAIL and output. -/
def EndedWith (t : State) (e : Nat) (st : Status) (detail : Nat) (out : Bytes) : Prop :=
  ∃ y, entry? t e = some y ∧ y.phase = .ended ∧ y.status = st ∧ y.detail = detail ∧ y.output = out

/-- The slot at handle `h` is ACTIVE and holds this key. -/
def SlotHolds (t : State) (h owner alg pset usage : Nat) (data : Bytes) : Prop :=
  ∃ v, mget? t.kreg.slots h = some v ∧ v.st = .active ∧ v.owner = owner ∧ v.alg = alg ∧ v.pset = pset ∧ v.usage = usage ∧
    slotData t h = data

/-- The job ended OK with its ciphertext `c`, if any, and the secret `k`: after `c` in the output where DEST is the host, else in the
new slot at `h`, which DETAIL names (R233, R234, R236). -/
def SecretMade (t : State) (e : Nat) (x : Entry) (h : Nat) (c k : Bytes) : Prop :=
  if aux x 1 0 = 1 then EndedWith t e .ok 0 (c ++ k)
  else EndedWith t e .ok h c ∧ SlotHolds t h x.colour 8 k.length (usageOr (aux x 16 8) uDERIVE) k

/-- Entry `e` holds job `x`, which runs a command of this opcode at the head of the key manager's queue (R342). -/
def AtManager (e opcode : Nat) (x : Entry) (s : State) : Prop :=
  entry? s e = some x ∧ x.desc.opcode = opcode ∧ unitHead s 9 = some e

/-- The key manager takes the job up now. -/
def takenUp (x : Entry) (s : State) : Entry := { x with startedAt := s.now, segAt := s.now }

/-- The job of entry `e` waits, with this DETAIL, for its archive record to be committed (R358). -/
def AwaitsRecord (t : State) (e detail : Nat) (r : ArchRec) (f : ArchEffect) : Prop :=
  (∃ y, entry? t e = some y ∧ y.phase = .committing ∧ y.status = .ok ∧ y.detail = detail ∧ y.output = []) ∧
    ∃ c, t.kreg.commits.getLast? = some c ∧ c.record = r ∧ c.effect = f ∧ c.entry = some e

/-- Entry `e` holds job `x`, which a digest unit serves, with no earlier job of its context or register to wait for (R366, R386), and whose
unit may reach its context (R107). -/
def OnDigest (e opcode : Nat) (x : Entry) (s : State) : Prop :=
  entry? s e = some x ∧ x.phase = .waiting ∧ x.desc.opcode = opcode ∧ digBlocked s x = false ∧
    ∃ u, unitOf? s e = some u ∧ ∀ r a, ctxAccess u e x s = some (r, a) → checkRec s r a = none

/-- A digest unit takes the firmware's hashing on record `r` and may reach the record (R107, R369, R370). -/
def HashReach (s : State) (colour : Nat) (r : CtxRec) : Prop :=
  ∃ u, leastUnit? s = some u ∧ checkRec s r (hashAccess u colour r) = none

/-! ### What the claims about the core speak of (R473, R485, R501) -/

/-- The core before its next instruction: the repeat check that was due is made. -/
def beforeInstr (s : State) : State := setCore s.tsuow.core.repeatEnd s

/-- The state an instruction acts on: in user mode some BUDGET is spent. -/
def atInstr (s : State) : State := spendBudget (beforeInstr s)

/-- The core executes its next instruction: it runs, BUDGET is left in user mode, and the fetch is not refused. -/
def Executes (s : State) : Prop :=
  coreRuns s = true ∧ (modeUM (beforeInstr s).tsuow.core = true → (beforeInstr s).tsuow.core.budget ≠ 0) ∧
    (fetchFault (beforeInstr s) (beforeInstr s).tsuow.core).1 = none

/-- The instruction has completed: on to the next, and only general registers and flags may differ. -/
def Retired (c d : Core) : Prop := d.pc = c.pc + 4 ∧ d = { c with g := d.g, fl := d.fl, pc := d.pc, endPending := d.endPending }

/-- Register `rd` holds `v`; every other is as before. -/
def Wrote (c d : Core) (rd : BitVec 4) (v : Word) : Prop := d.reg rd = v ∧ ∀ r, r ≠ rd → d.reg r = c.reg r

/-- Z, N, C and V are these; the other bits of FL are as before. -/
def FlagsAre (c d : Core) (z n cy v : Bool) : Prop :=
  flZ d = z ∧ flN d = n ∧ flC d = cy ∧ flV d = v ∧ d.fl &&& 0xFFFFFFF0 = c.fl &&& 0xFFFFFFF0

/-- A vector instruction has completed: VSTART 0, on to the next, and only general, vector and mask registers may differ. -/
def VRetired (c d : Core) : Prop :=
  d.pc = c.pc + 4 ∧ d.vstart = 0 ∧
    d = { c with g := d.g, v := d.v, k := d.k, vstart := d.vstart, pc := d.pc, endPending := d.endPending }

/-- Vector register `vd` holds, at each element of `w` bits, what R478 gives for new values `f`; every other register is as before. -/
def VWrote (c d : Core) (vd k : BitVec 3) (z : Bool) (w : Nat) (f : Nat → Nat) : Prop :=
  (∀ i, i < vCount w → vElem w i (d.vec vd) =
    if i < c.vstart.toNat then vElem w i (c.vec vd) else if (c.maskReg k).getLsbD i then f i else if z then 0 else vElem w i (c.vec vd)) ∧
  (∀ r, r ≠ vd → d.vec r = c.vec r) ∧ d.g = c.g ∧ d.k = c.k

end Sys2Proof.Machine
end

