-- ==== Sys2Proof/Certificates/Slice0/Obligations.lean ====
section
/-!
DEFINITION. What is claimed of the model, for the provers.
-/
section
open Sys2Proof Sys2Proof.Machine

/-- For every command c at the front of a state's queue, the step answers what exec of c answers on that state with the queue's
rest. (00_scope.md) -/
def Obligations.StepRunsFront : Prop :=
  ∀ (c : Instr) (r : List Instr) (s : State), s.pending = c :: r → step s = exec c { s with pending := r }

/-- On an empty queue the step answers a next state: the clock moves on by 1,000 ns and the dictionary server looks at the watched
values; where nothing is subscribed, nothing else changes. The tick is the model's choice (log entry 1). (01_architecture.md) -/
def Obligations.IdleStep : Prop :=
  (∀ s : State, s.pending = [] → step s = .next (lookAround { s with now := s.now + 1000 })) ∧
  ∀ s : State, s.pending = [] → subscriptions s = [] → step s = .next { s with now := s.now + 1000 }

/-- In State.reset each measurement register is 48 zero bytes, each granule's tag is 0xFFFF, each ring pair is disabled, no
context number is in use, and the held tamper level is 0 in a new unit (log entry 5). In State.reset every window register of R58
and ring register of R173 reads the reset value of its table: zero, but DWIN_ROLE, whose OPERATOR bit is 1, RING_GCTRL, whose RUN
bit is 1, and RING_STATUS, whose free entries and pages are those of the rings at reset. DWIN_DATA reads zero. No command waits in
the queue. (R95, R131, R364, R386, R58, R62, R173) -/
def Obligations.ResetValues : Prop :=
  ((∀ i, meas State.reset i = List.replicate 48 0) ∧ (∀ g, tagOf State.reset g = 0xFFFF) ∧
  (∀ p, (pair State.reset p).st = .disabled) ∧ (∀ n, mget? State.reset.dig.ctx n = none) ∧ State.reset.tmp.held = 0) ∧
  ((∀ off ∈ [0x400, 0x404, 0x40C, 0x410, 0x414, 0x418, 0x8, 0xC, 0x10, 0x14], readReg State.reset off = 0) ∧
  readReg State.reset 0x420 = 2 ∧ readReg State.reset 0 = 1 ∧
  readReg State.reset 4 = pagesFree State.reset * 65536 + entriesFree State.reset ∧
  (∀ off, 0x1000 ≤ off → off < 0x1400 → readReg State.reset off = 0) ∧ State.reset.pending = [])

/-- State.reset meets OtpInv for the blank OTP of a new unit: no more than 256 evidence bits, the security versions in canonical
form, every bit burnt in the blank OTP burnt in it. (R542, R561, R562, R594) -/
def Obligations.OtpInvAtReset : Prop :=
  OtpInv Otp.blank State.reset

/-- For every OTP o and every state that meets OtpInv o (at most 256 evidence bits, security versions in canonical form, every bit
burnt in o burnt in it), if a step answers a next state, that state meets OtpInv o. The life-cycle bytes keep their burnt bits, a
unit-root slot is unchanged, programmed from blank or overwritten with ones, evidence and security versions never fall, the unit
ID and ordering code never change. (R542, R561, R562, R572, R594) -/
def Obligations.OtpOneWay : Prop :=
  ∀ (o : Otp) (s s' : State), OtpInv o s → step s = .next s' → OtpInv o s'

/-- For every command and state, exec answers a next state and its queue is the one before. A queue of well-formed commands
therefore stays one. (The queue is the model's own state.) (00_scope.md) -/
def Obligations.ExecKeepsQueue : Prop :=
  (∀ (c : Instr) (s : State), ∃ t, exec c s = .next t ∧ t.pending = s.pending) ∧
  ∀ s s' : State, QueueOk s → step s = .next s' → QueueOk s'

/-- With the supplies in range and BUSY 0, each of READ, WRITE, READ_BLOCK, WRITE_BLOCK and WRITE_BLOCK_LAST answers the state in
which BUSY is 1 and one access more waits: by the window, with the roles of DWIN_ROLE now, the object of DWIN_ADDR, DWIN_OFFSET,
DWIN_TOTAL, LEN (0 for reads) and that many bytes of DWIN_DATA. With BUSY 1 each only sets OVERRUN. (R9, R58, R59, R60, R79, R81,
R83) -/
def Obligations.WindowCommands : Prop :=
  let req := fun (s : State) (op : AccOp) (len : Nat) =>
    ({ caller := .window, roles := windowRoles s, tenant := 0, approver := approverId s .window, op := op,
       obj := s.dict.win.index.toNat * 256 + s.dict.win.sub.toNat, offset := s.dict.win.offset.toNat,
       total := s.dict.win.total.toNat, len := len,
       data := winBytes s 0 (min len 1024) ++ zeros (len - 1024) } : AccessReq)
  let asked := fun (s : State) (op : AccOp) (len : Nat) =>
    { s with dict := { s.dict with win := { s.dict.win with busy := true }, queue := s.dict.queue ++ [req s op len] } }
  (∀ s : State, s.pwr.supplies = true → s.dict.win.busy = false →
    exec .dwinRead s = .next (asked s .read 0) ∧ exec .dwinReadBlock s = .next (asked s .readBlock 0) ∧
    ∀ len, len < 2048 → exec (.dwinWrite len) s = .next (asked s .write len) ∧
      exec (.dwinWriteBlock len) s = .next (asked s .writeBlock len) ∧
      exec (.dwinWriteBlockLast len) s = .next (asked s .writeBlockLast len)) ∧
  ∀ (s : State) (i : Instr), s.pwr.supplies = true → s.dict.win.busy = true →
    (i = .dwinRead ∨ i = .dwinReadBlock ∨ (∃ n, i = .dwinWrite n) ∨ (∃ n, i = .dwinWriteBlock n) ∨ ∃ n, i = .dwinWriteBlockLast n) →
    exec i s = .next { s with dict := { s.dict with win := { s.dict.win with overrun := true } } }

/-- With the supplies in range and BUSY 1, a REGISTER_WRITE of any value to DWIN_ADDR, DWIN_OFFSET, DWIN_CMD, DWIN_TOTAL or a
doubleword of DWIN_DATA changes OVERRUN (to 1) and nothing else, so the access in progress is unaffected, and every doubleword of
DWIN_DATA reads zero. (R59) -/
def Obligations.WindowGuard : Prop :=
  (∀ (s : State) (off : Nat) (v : Word), s.pwr.supplies = true → s.dict.win.busy = true →
    (off = 0x400 ∨ off = 0x404 ∨ off = 0x408 ∨ off = 0x40C ∨ (0x1000 ≤ off ∧ off < 0x1400 ∧ off % 4 = 0)) →
    exec (.registerWrite (.bar0 off v)) s = .next { s with dict := { s.dict with win := { s.dict.win with overrun := true } } }) ∧
  ∀ (s : State) (off : Nat), s.dict.win.busy = true → 0x1000 ≤ off → off < 0x1400 → readReg s off = 0

/-- With the supplies in range: RING_GCTRL takes RUN from bit 0, and where RUN goes from 0 to 1 the polls come due anew; RING_ERR
clears the bits written 1; RING_ERR_CTRL takes EN and VECTOR; DWIN_STATUS clears DONE, OVERRUN and NTF_LOST where written 1;
DWIN_NTF_CTRL takes EN and VECTOR; with BUSY 0, DWIN_ADDR, DWIN_OFFSET and DWIN_TOTAL take the value, and a written doubleword of
DWIN_DATA reads back as that value while the others keep theirs. Each answers exactly that state. With the supplies in range,
DWIN_NTF_POP of any value drops the head of the window's queue, after which the dictionary server looks at the watched values;
where nothing is subscribed nothing else changes, and an empty queue stays empty. (R58, R173, R61) -/
def Obligations.RegisterWrites : Prop :=
  (∀ (s : State) (v : Word), s.pwr.supplies = true →
    let w := s.dict.win
    let wr := fun (off : Nat) => exec (.registerWrite (.bar0 off v)) s
    let win := fun (x : Window) => ({ s with dict := { s.dict with win := x } } : State)
    let ran := { s with ring := { s.ring with run := v.getLsbD 0 } }
    wr 0 = .next (if v.getLsbD 0 = true ∧ s.ring.run = false then renewPolls ran else ran) ∧
    wr 0xC = .next { s with ring := { s.ring with err := s.ring.err &&& ~~~(v.truncate 4) } } ∧
    wr 0x14 = .next { s with ring := { s.ring with errVecEn := v.getLsbD 31, errVec := v.truncate 11 } } ∧
    wr 0x410 = .next (win { w with done := w.done && !(v.getLsbD 30), overrun := w.overrun && !(v.getLsbD 29),
                                   ntfLost := w.ntfLost && !(v.getLsbD 28) }) ∧
    wr 0x414 = .next (win { w with ntfEn := v.getLsbD 31, ntfVector := v.truncate 11 }) ∧
    (w.busy = false →
      wr 0x400 = .next (win { w with index := (v >>> 8).truncate 16, sub := v.truncate 8 }) ∧
      wr 0x404 = .next (win { w with offset := v }) ∧ wr 0x40C = .next (win { w with total := v }) ∧
      ∀ off, 0x1000 ≤ off → off < 0x1400 → off % 4 = 0 → keysRise w.data = true →
        ∃ d, wr off = .next (win { w with data := d }) ∧ readReg (win { w with data := d }) off = v.toNat ∧
          ∀ k, (k < off - 0x1000 ∨ off - 0x1000 + 4 ≤ k) → tget (fun _ => 0) d k = tget (fun _ => 0) w.data k)) ∧
  ((∀ (v : Word) (s : State), s.pwr.supplies = true →
    exec (.dwinNtfPop v) s = .next (lookAround { s with dict := { s.dict with win := { s.dict.win with queue := s.dict.win.queue.tail } } })) ∧
  ∀ (v : Word) (s : State), s.pwr.supplies = true → subscriptions s = [] →
    exec (.dwinNtfPop v) s = .next { s with dict := { s.dict with win := { s.dict.win with queue := s.dict.win.queue.tail } } })

/-- When an object that the window has subscribed and may read changes: if it is already queued the queue is unchanged; if 64 are
queued it is not queued and NTF_LOST is 1; otherwise it is queued last, NTF_LOST as before. A queue of at most 64 different
objects stays one. An object the window has not subscribed leaves queue and NTF_LOST unchanged. (R61) -/
def Obligations.NotificationQueue : Prop :=
  ∀ (id : ObjId) (s : State),
    let q := s.dict.win.queue
    let t := (noticed id s).dict.win
    (windowNotified s id = true →
      (id ∈ q → t.queue = q ∧ t.ntfLost = s.dict.win.ntfLost) ∧
      (id ∉ q → 64 ≤ q.length → t.queue = q ∧ t.ntfLost = true) ∧
      (id ∉ q → q.length < 64 → t.queue = q ++ [id] ∧ t.ntfLost = s.dict.win.ntfLost)) ∧
    (windowNotified s id = false → t.queue = q ∧ t.ntfLost = s.dict.win.ntfLost) ∧
    (q.length ≤ 64 → q.Nodup → t.queue.length ≤ 64 ∧ t.queue.Nodup)

/-- While the dictionary server runs and an access waits, DICT_ACCESS_APPLY answers the state in which the oldest one has been
applied with the roles it was accepted with and the watched values have been looked at; before it is applied it has left the
queue, the core has been woken, and a store past its time has failed. For a READ of the window at offset 0 that the checks allow,
of an object of at most 1,024 bytes whose record the server may read and that has no read rule of its own, the application changes
only the window, the interrupt state and the output, and leaves RESULT DONE, RLEN the value's length, BUSY 0, DONE 1, and in
DWIN_DATA the value with zeros beyond it. (R9, R60, R673, R78) -/
def Obligations.AccessApply : Prop :=
  (∀ (env : ApplyEnv) (r : AccessReq) (q : List AccessReq) (s : State), serverUp s = true → s.dict.queue = r :: q →
    exec (.dictAccessApply env) s = .next (lookAround (applyReq env r (settleStore (wakeCore { s with dict := { s.dict with queue := q } }))))) ∧
  ∀ (env : ApplyEnv) (r : AccessReq) (s : State),
    let w : Who := { caller := r.caller, roles := r.roles, tenant := r.tenant, approver := r.approver }
    let v := readValue s .window env.gpio r.obj
    r.caller = .window → r.op = .read → r.offset = 0 → readCheck s w r.obj = none → v.length ≤ 1024 →
    readRefused s r.obj = none → r.obj ≠ Obj.RNG_READ → r.obj ≠ Obj.DICT_STORE_STATE →
    let t := applyReq env r s
    t.dict.win.result = 0 ∧ t.dict.win.rlen = BitVec.ofNat 11 v.length ∧ t.dict.win.busy = false ∧ t.dict.win.done = true ∧
    (∀ i, i < v.length → tget (fun _ => 0) t.dict.win.data i = v.getD i 0) ∧
    (∀ i, v.length ≤ i → tget (fun _ => 0) t.dict.win.data i = 0) ∧
    t = { s with dict := { s.dict with win := t.dict.win }, ring := t.ring, out := t.out }

/-- REGISTER_WRITE of an object (a chunk of the update apart) that is carried out at once (Deciding: its turn has come, no check
of R673 fails, a critical act is the supervisor firmware's or has its k-th approval by a session) answers the state after its
rule's act, with DONE delivered. After the plain rule's act the object's live value is the written number without its reserved
bits. (R8, R9, R673) -/
def Obligations.ObjectWrite : Prop :=
  (∀ (c : Caller) (idx sub : Nat) (data : Bytes) (env : ApplyEnv) (w : Who) (s : State),
    let id := idx * 256 + sub % 256
    id ≠ Obj.UPD_STAGE_CHUNK → Turn c id data w s → Deciding c id data (writeRule env w id data s) s →
    exec (.registerWrite (.object c idx sub data env)) s =
      .next (writeDone c id ((writeRule env w id data s).act (actedOn c id data (writeRule env w id data s) s)))) ∧
  ∀ (id : ObjId) (o : ObjDesc) (data : Bytes) (s : State), findObj id = some o → keysRise s.dict.obj = true →
    objVal ((plainRule id data).act s) id = maskedVal o data

/-- Where a write's turn has come and some check of R673 refuses it, and it approves no pending act of a session, it leaves the
state in which it began (its access out of the queue, the core awake, a store past its time failed) with that result delivered
and, for the results R57 names, DICT_ACCESS_REFUSED counted. The results come in the order NO_OBJECT, NOT_PERMITTED, READ_ONLY,
BAD_LENGTH, HELD, BUSY, BAD_VALUE: each is given only where no earlier check fails. (R673, R57) -/
def Obligations.CheckOrder : Prop :=
  (∀ (c : Caller) (w : Who) (id : ObjId) (data : Bytes) (r : WriteRule) (e : Result) (s : State),
    let t := begun c id data s
    Turn c id data w s → writeChecks t w id data r = some e → (c = .supervisor ∨ c = .window ∨ actPending t id data = false) →
    writeAccess c id data r s = deliver c .write id e 0 none [] (countRefused w id e t)) ∧
  ∀ (w : Who) (id : ObjId) (data : Bytes) (r : WriteRule) (s : State) (o : ObjDesc), findObj id = some o →
    writeChecks s w id data r =
      if served s id = false ∨ concealed s w.roles w.tenant id o = true then some .noObject
      else if mayWrite s w.caller w.roles w.tenant id o = false ∨ r.denied = true then some .notPermitted
      else if o.acc = .ro ∨ (o.acc = .rwl ∧ id ∈ s.dict.locked) ∨ r.lock = true then some .readOnly
      else if lengthOk o data = false then some .badLength
      else if r.held = true then some .held
      else if r.busy = true ∨ (r.critical = true ∧ otherAct s id data = true) then some .busy
      else if rangeOk o data = false ∨ r.bad = true then some .badValue
      else none

/-- Where the write is carried out at once (Deciding: its turn has come, every check of R673 passes, a critical act is the
supervisor firmware's or has its k-th approval): DICT_STORE starts a store; DICT_RESTORE_DEFAULTS restores the defaults;
DICT_DESCRIBE puts the descriptor into the caller's own DICT_DESCRIPTION; DICT_OAP_LOCK locks DICT_OAP_PORT; a write of
DICT_OAP_ENABLE takes the value and 0 closes every session; a principal's enrolment object takes the value, and a change of roles,
tenant or key ID closes that principal's sessions; a management PHY object takes the value and the PHY is written over MDIO. (R47,
R53, R56, R57, R65, R553, R672) -/
def Obligations.DictionaryCommands : Prop :=
  (∀ c data s, Deciding c Obj.DICT_STORE data (storeRule s) s →
    exec (.dictStore c data) s = .next (writeDone c Obj.DICT_STORE (startStore (begun c Obj.DICT_STORE data s)))) ∧
  (∀ c data s, Deciding c Obj.DICT_RESTORE_DEFAULTS data restoreRule s →
    exec (.dictRestoreDefaults c data) s =
      .next (writeDone c Obj.DICT_RESTORE_DEFAULTS (restoreDefaults (actedOn c Obj.DICT_RESTORE_DEFAULTS data restoreRule s)))) ∧
  (∀ c data w s, Turn c Obj.DICT_DESCRIBE data w s → Deciding c Obj.DICT_DESCRIBE data (describeRule w data) s →
    let t := begun c Obj.DICT_DESCRIBE data s
    exec (.dictDescribe c data) s = .next (writeDone c Obj.DICT_DESCRIBE
      (setOwn c Obj.DICT_DESCRIPTION (leNat (descriptor t w (writtenVal Obj.DICT_DESCRIBE data))) t))) ∧
  (∀ c data s, Deciding c Obj.DICT_OAP_LOCK data (cmdRule (lockObjs [Obj.DICT_OAP_PORT])) s →
    exec (.dictOapLock c data) s = .next (writeDone c Obj.DICT_OAP_LOCK (lockObjs [Obj.DICT_OAP_PORT] (begun c Obj.DICT_OAP_LOCK data s)))) ∧
  (∀ c data s, Deciding c Obj.DICT_OAP_ENABLE data (oapEnableRule data) s →
    let t := setObj Obj.DICT_OAP_ENABLE (leNat data) (begun c Obj.DICT_OAP_ENABLE data s)
    exec (.oapEnableWrite c data) s = .next (writeDone c Obj.DICT_OAP_ENABLE (if leNat data = 0 then closeSessions t else t))) ∧
  (∀ c p sub data s, p < 32 → 1 ≤ sub → sub ≤ 4 → Deciding c (prnObj p sub) data (principalRule p sub data s) s →
    let u := actedOn c (prnObj p sub) data (principalRule p sub data s) s
    let t := (plainRule (prnObj p sub) data).act u
    exec (.principalEnrolWrite c p sub data) s = .next (writeDone c (prnObj p sub)
      (if sub ≠ 4 ∧ objVal t (prnObj p sub) ≠ objVal u (prnObj p sub) then closePrincipal p t else t))) ∧
  (∀ c sub data errs s, 2 ≤ sub → sub ≤ 7 → Deciding c (0x11000 + sub) data (phyRule sub errs data s) s →
    exec (.mgPhyConfigWrite c sub data errs) s =
      .next (writeDone c (0x11000 + sub) (writePhy errs ((plainRule (0x11000 + sub) data).act (begun c (0x11000 + sub) data s)))))

/-- startStore sets DICT_STORE_STATE to WRITING (1), keeps the live settings of that moment as a sealed area with the in-use
sequence number plus 1, and erases the area not in use; the area in use is unchanged. STORE_WRITE_DONE of a store that succeeds
within 10 s, its area no longer than 256 KiB, ends DONE (2): the area not in use holds that area, and is in use under that number.
A store that fails, or is too long, or whose 10 s have passed, ends FAILED (3) with ERR_FLASH_WRITE counted and both areas and
DICT_CFG_STATE unchanged. A DICT_STORE_STATE_READ whose turn has come and that is permitted ends STORE_FAIL and takes the report
where a store has failed; otherwise it ends DONE with the state. While an update is on trial, a DICT_STORE of one byte whose turn
has come, by a permitted caller, ends HELD: that answer is delivered on the state in which the write began. (R50, R53, R54, R55)
-/
def Obligations.SettingsStore : Prop :=
  ((∀ s, keysRise s.dict.obj = true →
    let t := startStore s
    let seq := objVal s Obj.DICT_CFG_SEQ + 1
    objVal t Obj.DICT_STORE_STATE = 1 ∧
    t.dict.store = some { area := cfgSealed s (cfgBody (mfFormat s.upd.running) seq (liveSettings s)), seq := seq, startedAt := s.now } ∧
    (storeToB s = true → t.dict.areaA = s.dict.areaA ∧ t.dict.areaB = []) ∧
    (storeToB s = false → t.dict.areaB = s.dict.areaB ∧ t.dict.areaA = [])) ∧
  (∀ s j, keysRise s.dict.obj = true → s.dict.store = some j → s.now < j.startedAt + sec 10 → j.area.length ≤ cfgBytes →
    ∃ t, exec (.storeWriteDone true) s = .next t ∧ t.dict.store = none ∧ objVal t Obj.DICT_STORE_STATE = 2 ∧
      objVal t Obj.DICT_CFG_SEQ = j.seq ∧ objVal t Obj.DICT_CFG_STATE = b2n (storeToB s) ∧
      t.dict.areaA = (if storeToB s then s.dict.areaA else j.area) ∧ t.dict.areaB = (if storeToB s then j.area else s.dict.areaB)) ∧
  (∀ s j ok, keysRise s.dict.obj = true → s.dict.store = some j →
    (ok = false ∨ j.startedAt + sec 10 ≤ s.now ∨ cfgBytes < j.area.length) →
    ∃ t, exec (.storeWriteDone ok) s = .next t ∧ t.dict.store = none ∧ objVal t Obj.DICT_STORE_STATE = 3 ∧
      t.dict.storeFailReport = true ∧ t.dict.areaA = s.dict.areaA ∧ t.dict.areaB = s.dict.areaB ∧
      objVal t Obj.DICT_CFG_STATE = objVal s Obj.DICT_CFG_STATE ∧
      (objVal s Obj.ERR_FLASH_WRITE + 1 < 2 ^ 32 → objVal t Obj.ERR_FLASH_WRITE = objVal s Obj.ERR_FLASH_WRITE + 1)) ∧
  (∀ c w s, let a : AccessCmd := ⟨c, .read, Obj.DICT_STORE_STATE, []⟩
    let t := takeReq a s
    serverUp s = true → accessor s a = some w → readCheck t w Obj.DICT_STORE_STATE = none →
    (t.dict.storeFailReport = true → exec (.dictStoreStateRead c) s = .next (deliver c .read Obj.DICT_STORE_STATE .storeFail 0 none []
      { t with dict := { t.dict with storeFailReport := false } })) ∧
    (t.dict.storeFailReport = false → exec (.dictStoreStateRead c) s =
      .next (deliver c .read Obj.DICT_STORE_STATE .done 0 none (objBytes t Obj.DICT_STORE_STATE) t)))) ∧
  (∀ c w data s, let t := begun c Obj.DICT_STORE data s
    Turn c Obj.DICT_STORE data w s → onTrial s = true → data.length = 1 → writeCheck t w Obj.DICT_STORE = none →
    (c = .supervisor ∨ c = .window ∨ actPending t Obj.DICT_STORE data = false) →
    exec (.dictStore c data) s = .next (deliver c .write Obj.DICT_STORE .held 0 none [] t))

/-- For a session whose turn has come, a critical write that passes its checks and is not the k-th approval ends QUORUM_PENDING on
the state in which the act is pending with this approver counted once and its first approval's time kept (where the act is new,
for an act without a check of its own at the first write). For the window with a card session, no card exchange and the source
READY, a critical write that passes its checks leaves the card asked to sign an APPROVE statement over it and gives no answer yet.
A critical write of an act while another is pending, whose earlier checks pass, ends BUSY: that answer is delivered on the state
in which the write began, and the pending act is unchanged. QUORUM_EXPIRY of a pending act answers a next state with no act
pending, the clock at five minutes after its first approval or where it was if later. (R550, R555, R556, R673) -/
def Obligations.CriticalActs : Prop :=
  (∀ (k n : Nat) (w : Who) (id : ObjId) (data : Bytes) (r : WriteRule) (s : State),
    let c := Caller.session k n
    let t := begun c id data s
    k < 8 → Turn c id data w s → writeChecks t w id data r = none → r.critical = true →
    lastApproval t id data w.approver = false → (actPending t id data = true ∨ r.first = fun u => (u, true)) →
    writeAccess c id data r s = deliver c .write id .quorumPending 0 none [] (recordApproval id data w.approver t) ∧
    ∃ a, (recordApproval id data w.approver t).tmp.act = some a ∧ a.obj = id ∧ a.data = data ∧ w.approver ∈ a.approvers ∧
      a.approvers = approvals t id data w.approver ∧
      a.firstAt = (match liveAct t with | some b => b.firstAt | none => t.now)) ∧
  (∀ (w : Who) (id : ObjId) (data : Bytes) (r : WriteRule) (s : State),
    let t := begun .window id data s
    let u := (askApproval id data true t).1
    Turn .window id data w s → writeChecks t w id data r = none → r.critical = true →
    t.tmp.card.session.isSome = true → t.tmp.card.step = .none_ → rngReady t = true →
    writeAccess .window id data r s = u ∧
    ∃ stmt, u.tmp.card.step = .approve id data stmt true ∧ u.out = (draw 40 32 t).2.out ++ [.card ([0x80, 0x20, 0, 0] ++ stmt)]) ∧
  (∀ (c : Caller) (w : Who) (id : ObjId) (data : Bytes) (r : WriteRule) (s : State) (o : ObjDesc),
    let t := begun c id data s
    Turn c id data w s → findObj id = some o → r.critical = true → otherAct t id data = true → writeCheck t w id = none →
    r.denied = false → r.lock = false → lengthOk o data = true → r.held = false →
    writeAccess c id data r s = deliver c .write id .busy 0 none [] t ∧ (writeAccess c id data r s).tmp.act = s.tmp.act) ∧
  ∀ (s : State) (a : PendingAct), s.tmp.act = some a →
    ∃ t, exec .quorumExpiry s = .next t ∧ t.tmp.act = none ∧ t.now = max s.now (a.firstAt + sec 300)

/-- Where the write is carried out at once: TENANT_CREATE has the effect of createTenant, TENANT_DELETE that of deleteTenant,
TENANT_FENCE 1 that of operatorFence and 0 that of unfenceTenant; a quota object takes the value; ISO_RULE_COMMIT asks for the
class's commit; ISO_TAG_QUERY puts the address's tag into ISO_TAG_RESULT; each ends DONE. RULE_CHANGE_APPLY lets the bursts at
every bench end and applies the commit that waited longest. After createTenant the tenant is ACTIVE, its counters are zero,
RING_ENABLE is 0 and its ring pair is as at reset; nothing outside the dictionary, the output, the isolation unit's window of
refusals, the interrupt state and the pairs differs. TENANT_CREATE of one byte whose turn has come, by a permitted caller, of a
tenant neither ABSENT nor DELETING, with debug not reopened, ends BAD_VALUE, delivered on the state in which the write began.
operatorFence of a tenant already fenced changes its TENANT_FENCE_CAUSE, to OPERATOR, and nothing else; of any other it is
fenceTenant with cause OPERATOR. unfenceTenant of a fenced tenant leaves it ACTIVE with cause 0, TENANT_FENCE 0, TENANT_REFUSALS 0
and no refusals in the window; a fenced pair is active again at its next expected entry, any other pair as it was. On a tenant
that is not fenced it changes nothing. (R99, R101, R113, R114, R116, R118, R119, R122, R115) -/
def Obligations.TenantCommands : Prop :=
  ((∀ c t data s, t < 4096 → Deciding c (at_ Obj.TENANT_CREATE t) data (createRule t s) s →
    exec (.tenantCreate c t data) s = .next (writeDone c (at_ Obj.TENANT_CREATE t) (createTenant t (begun c (at_ Obj.TENANT_CREATE t) data s)))) ∧
  (∀ c t data s, t < 4096 → Deciding c (at_ Obj.TENANT_DELETE t) data (deleteRule t s) s →
    exec (.tenantDelete c t data) s = .next (writeDone c (at_ Obj.TENANT_DELETE t) (deleteTenant t (begun c (at_ Obj.TENANT_DELETE t) data s)))) ∧
  (∀ c t s, t < 4096 → Deciding c (at_ Obj.TENANT_FENCE t) [1] (fenceRule t (operatorFence t) s) s →
    exec (.tenantFenceSet c t) s = .next (writeDone c (at_ Obj.TENANT_FENCE t) (operatorFence t (begun c (at_ Obj.TENANT_FENCE t) [1] s)))) ∧
  (∀ c t s, t < 4096 → Deciding c (at_ Obj.TENANT_FENCE t) [0] (fenceRule t (unfenceTenant t) s) s →
    exec (.tenantUnfence c t) s = .next (writeDone c (at_ Obj.TENANT_FENCE t) (unfenceTenant t (begun c (at_ Obj.TENANT_FENCE t) [0] s)))) ∧
  (∀ c t sub data s, t < 4096 → quotaSub sub = true →
    let id := (0x2000 + t) * 256 + sub
    Deciding c id data (tenantRule t id data s) s →
    exec (.tenantQuotaWrite c t sub data) s = .next (writeDone c id (setObj id (leNat data) (begun c id data s)))) ∧
  (∀ c data s, Deciding c Obj.ISO_RULE_COMMIT data (commitRule data s) s →
    exec (.isoRuleCommit c data) s = .next (writeDone c Obj.ISO_RULE_COMMIT (askCommit (leNat data) (begun c Obj.ISO_RULE_COMMIT data s)))) ∧
  (∀ cls r s, s.iso.waiting = cls :: r → exec .ruleChangeApply s = .next (applyRules cls
    (eachBench benchIdle { s with iso := { s.iso with waiting := r } }))) ∧
  ∀ c data s, Deciding c Obj.ISO_TAG_QUERY data (portRule (fun t => setObj Obj.ISO_TAG_RESULT (shownTag t (leNat data)) t)) s →
    let t := begun c Obj.ISO_TAG_QUERY data s
    exec (.isoTagQuery c data) s = .next (writeDone c Obj.ISO_TAG_QUERY (setObj Obj.ISO_TAG_RESULT (shownTag t (leNat data)) t))) ∧
  ((∀ t s, t < 4096 → keysRise s.dict.obj = true → keysRise s.ring.pairs = true →
    let u := createTenant t s
    objVal u (at_ Obj.TENANT_STATE t) = 1 ∧ (∀ o ∈ tenantCounters t, objVal u o = 0) ∧ objVal u (pairObj t Obj.RING_ENABLE) = 0 ∧
    (pair u t = Pair.reset) ∧
    u = { s with dict := u.dict, out := u.out, iso := { s.iso with refusedAt := u.iso.refusedAt },
                 ring := { s.ring with msix := u.ring.msix, pairs := u.ring.pairs } }) ∧
  ∀ c w t b s, let id := at_ Obj.TENANT_CREATE t
    let u := begun c id [b] s
    t < 4096 → Turn c id [b] w s → tenantState s t ≠ 0 → tenantState s t ≠ 4 → s.lc.debugOpen = false → writeCheck u w id = none →
    (c = .supervisor ∨ c = .window ∨ actPending u id [b] = false) →
    exec (.tenantCreate c t [b]) s = .next (deliver c .write id .badValue 0 none [] u)) ∧
  ((∀ t s, tenantState s t ≠ 2 → operatorFence t s = fenceTenant t 1 s) ∧
  (∀ t s, t < 4096 → keysRise s.dict.obj = true → tenantState s t = 2 →
    operatorFence t s = setObj (at_ Obj.TENANT_FENCE_CAUSE t) 1 s ∧ objVal (operatorFence t s) (at_ Obj.TENANT_FENCE_CAUSE t) = 1) ∧
  (∀ t s, t < 4096 → keysRise s.dict.obj = true → tenantState s t = 2 → keysRise s.iso.refusedAt = true → keysRise s.ring.pairs = true →
    let u := unfenceTenant t s
    objVal u (at_ Obj.TENANT_STATE t) = 1 ∧ objVal u (at_ Obj.TENANT_FENCE_CAUSE t) = 0 ∧ objVal u (at_ Obj.TENANT_FENCE t) = 0 ∧
    objVal u (at_ Obj.TENANT_REFUSALS t) = 0 ∧ mget? u.iso.refusedAt t = none ∧
    ((pair s t).st = .fenced → (pair u t).st = .active ∧ (pair u t).next = (pair s t).next) ∧
    ((pair s t).st ≠ .fenced → pair u t = pair s t)) ∧
  ∀ t s, tenantState s t ≠ 2 → unfenceTenant t s = s)

/-- After applyRules cls every entry of the class is what R98-R101 give: a locked entry in effect keeps its contents; a new entry
that covers nothing or overlaps one already enabled is disabled and its bit set in ISO_RULE_REFUSED; every other entry takes its
shadow. Entries of other classes are unchanged. An entry so refused reads with EN 0. (R97, R98, R99, R100, R101) -/
def Obligations.RuleCommit : Prop :=
  ∀ cls s, keysRise s.iso.rules = true → keysRise s.dict.obj = true →
    let t := applyRules cls s
    (∀ e, e < 64 → ruleOf t cls e = ruleAfter s cls e) ∧
    (∀ e, e < 64 → ruleLocked s cls e = true → ruleOf t cls e = ruleOf s cls e) ∧
    (∀ e, e < 64 → shadowOf s cls e < 2 ^ 64 → ruleRefused s cls e = true → ruleEn (ruleOf t cls e) = false) ∧
    (∀ e, e < 64 → (objVal t Obj.ISO_RULE_REFUSED).testBit e = ruleRefused s cls e) ∧
    (∀ c e, c ≠ cls → e < 64 → ruleOf t c e = ruleOf s c e) ∧ objVal t Obj.ISO_RULE_COMMIT_STATE = 2

/-- For every access of a master other than the debug master that the checks let pass: every granule it touches lies in a memory
of the fabric map, every tagged one carries the master's colour, and some enabled region rule of the class allows its kind and
covers every granule. The debug master's checks are R103's. (R91) -/
def Obligations.AccessChecked : Prop :=
  ∀ (s : State) (a : FabAcc), a.cls ≠ 8 → checkAccess s a = none →
    (∀ g ∈ granules a, mapped (g * 256) = true) ∧
    (∀ g ∈ granules a, taggedAddr (g * 256) = true → tagOf s g = a.colour) ∧
    ∃ r ∈ enabledRules s a.cls, ruleAllows r a.kind = true ∧ ∀ g ∈ granules a, ruleCovers r g = true

/-- After logRefusal the newest log entry has the refusal's address, colour, class, master, kind, length, ring and entry,
ISO_LOG_NEWEST is its SEQ, one more than before, and the log holds at most 1,024 entries. ISO_REFUSALS_TOTAL and the class counter
are one higher (where they fit their widths); a refusal in colour 0x1000 + t adds one to TENANT_REFUSALS of t. No listed memory
byte and no listed tag changes. After retag g n tag, outside the large-key store and the context store, each of the n granules
carries the tag and every byte of them reads zero; every tag outside them, and every byte outside them and the context store, is
as before; and both tables keep their canonical form. (Extents of the large-key store and records of the context store are held
with what they hold.) (R108, R110, R94) -/
def Obligations.RefusalsAndRetags : Prop :=
  (∀ (a : FabAcc) (reason bad : Nat) (s : State), keysRise s.dict.obj = true → a.cls ≤ 8 → s.iso.log.length ≤ 1024 →
    objVal s Obj.ISO_REFUSALS_TOTAL + 1 < 2 ^ 64 → objVal s (Obj.ISO_CLASS_REFUSALS + a.cls) + 1 < 2 ^ 32 →
    let t := logRefusal a reason bad s
    objVal t Obj.ISO_LOG_NEWEST = objVal s Obj.ISO_LOG_NEWEST + 1 ∧ t.iso.log.length ≤ 1024 ∧
    (∃ r, t.iso.log.getLast? = some r ∧ r.addr = bad ∧ r.colour = a.colour ∧ r.cls = a.cls ∧ r.master = a.master ∧
      r.kind = reason * 16 + a.kind ∧ r.len = a.len ∧ r.ring = a.ring ∧ r.entry = a.entry ∧ r.seq = objVal s Obj.ISO_LOG_NEWEST + 1) ∧
    objVal t Obj.ISO_REFUSALS_TOTAL = objVal s Obj.ISO_REFUSALS_TOTAL + 1 ∧
    objVal t (Obj.ISO_CLASS_REFUSALS + a.cls) = objVal s (Obj.ISO_CLASS_REFUSALS + a.cls) + 1 ∧
    (∀ n, n < 4096 → a.colour = 0x1000 + n → objVal s (at_ Obj.TENANT_REFUSALS n) + 1 < 2 ^ 32 →
      objVal t (at_ Obj.TENANT_REFUSALS n) = objVal s (at_ Obj.TENANT_REFUSALS n) + 1) ∧
    t.iso.mem = s.iso.mem ∧ t.iso.tags = s.iso.tags) ∧
  (∀ (g n tag : Nat) (s : State), Memory.wf s.iso.mem = true → tabWf (fun _ => 0xFFFF) s.iso.tags = true →
    let t := retag g n tag s
    Memory.wf t.iso.mem = true ∧ tabWf (fun _ => 0xFFFF) t.iso.tags = true ∧
    (∀ k, g ≤ k → k < g + n → inLks (k * 256) = false → inCtx (k * 256) = false → tagOf t k = tag) ∧
    (∀ a, g * 256 ≤ a → a < (g + n) * 256 → inLks a = false → inCtx a = false → memByte t a = 0) ∧
    (∀ k, (k < g ∨ g + n ≤ k) → tagOf t k = tagOf s k) ∧
    ∀ a, (a < g * 256 ∨ (g + n) * 256 ≤ a) → inCtx a = false → memByte t a = memByte s a)

/-- For READ, WRITE, READ_BLOCK and WRITE_BLOCK: a datagram that reaches OAP, with a good header and that TYPE, naming an open
session, with a SEQ above the last accepted and a good tag. If its REQ_ID is the last answered one, the stored response is sent
again under the next SEQ. Otherwise, with fewer than four unanswered and its fields as R69 wants, one access more waits, made by
the session with its roles, tenant and the message's object, OFFSET, TOTAL and DATA, and the session has taken the SEQ. A SEQ not
above the last, which is not yet used up, is dropped and counted in DICT_OAP_REPLAY; a bad tag is counted in DICT_OAP_AUTH_ERR.
(R67, R68, R69, R76, R77) -/
def Obligations.OapRequests : Prop :=
  ∀ (i : Datagram → Instr) (type : Nat) (op : Bytes → AccOp) (d : Datagram) (s : State),
    ((i = .oapRead ∧ type = 1 ∧ op = fun _ => .read) ∨ (i = .oapWrite ∧ type = 2 ∧ op = fun _ => .write) ∨
      (i = .oapReadBlock ∧ type = 3 ∧ op = fun _ => .readBlock) ∨
      (i = .oapWriteBlock ∧ type = 4 ∧ op = fun b => if bit (omFlags b) 1 then .writeBlockLast else .writeBlock)) →
    oapHears s d = true → headerOk d.payload = true → omType d.payload = type →
    ∀ (n : Nat) (x : Session), sessionOf s (omSession d.payload) = some (n, x) →
    let b := d.payload
    let p := openPayload s n b
    let x1 := { x with seqIn := omSeq b }
    let t := setSession n x1 s
    (x.seqIn < omSeq b → tagOk s n b = true →
      (∀ ty r, x.lastReq = some (field p 0 2, ty, r) →
        exec (i d) s = .next (sendData n ty 1 r (setSession n { x1 with lastAt := s.now } t))) ∧
      ((∀ ty r, x.lastReq ≠ some (field p 0 2, ty, r)) → x.unanswered < 4 → plainFault (op b) p = none →
        exec (i d) s = .next
          (let u := setSession n { x1 with unanswered := x.unanswered + 1, lastAt := s.now } t
           { u with dict := { u.dict with queue := s.dict.queue ++ [requestOfPlain t n x1 (op b) p] } }))) ∧
    (omSeq b ≤ x.seqIn → x.seqIn ≠ 2 ^ 64 - 1 → exec (i d) s = .next (bump Obj.DICT_OAP_REPLAY s)) ∧
    (x.seqIn < omSeq b → tagOk s n b = false → exec (i d) s = .next (bump Obj.DICT_OAP_AUTH_ERR s))

/-- An authenticated CLOSE, the end of DICT_OAP_IDLE_TIMEOUT since the last accepted message, and the end of DICT_OAP_MAX_LIFE
since the session opened each answer closeSession of the slot at that time. After closeSession the slot holds no session (nor its
open block write), its two keys are gone, it has no subscription, every other slot's session is there as before but for what it is
told of changes, its accepted requests are made unanswered ones, and nothing outside the dictionary, the session keys, the
interrupt state and the output differs. The set-up time-out leaves the slot without a set-up and without its secrets, at 2 s after
it began or later, and changes nothing else. (R68, R73, R75) -/
def Obligations.SessionsClose : Prop :=
  (∀ (d : Datagram) (n : Nat) (x : Session) (s : State), oapHears s d = true → headerOk d.payload = true → omType d.payload = 0x24 →
    sessionOf s (omSession d.payload) = some (n, x) → x.seqIn < omSeq d.payload → tagOk s n d.payload = true →
    exec (.close d) s = .next (closeSession n (setSession n { x with seqIn := omSeq d.payload } s))) ∧
  (∀ (k : Nat) (x : Session) (s : State), mget? s.dict.sessions k = some x →
    exec (.oapIdleTimeout k) s = .next (closeSession k { s with now := max s.now (x.lastAt + sec (objVal s Obj.DICT_OAP_IDLE_TIMEOUT)) }) ∧
    exec (.oapMaxLife k) s = .next (closeSession k { s with now := max s.now (x.openedAt + sec (objVal s Obj.DICT_OAP_MAX_LIFE)) })) ∧
  (∀ (k : Nat) (s : State), keysRise s.dict.sessions = true → keysRise s.kreg.working = true →
    let t := closeSession k s
    let kept := fun (y : Session) => { y with st := CallerSt.empty, changed := [] }
    mget? t.dict.sessions k = none ∧ secret? t (sessIn k) = none ∧ secret? t (sessOut k) = none ∧
    (∀ j, j ≠ k → (mget? t.dict.sessions j).map kept = (mget? s.dict.sessions j).map kept) ∧
    (∀ p ∈ t.dict.obj, p.1 / 256 ≠ 0x240 + k) ∧ t.dict.queue = s.dict.queue.map (AccessReq.orphaned k) ∧
    t = { s with dict := t.dict, kreg := { s.kreg with working := t.kreg.working }, ring := t.ring, out := t.out }) ∧
  ∀ (n : Nat) (u : Setup) (s : State), mget? s.dict.setups n = some u → keysRise s.dict.setups = true → keysRise s.kreg.working = true →
    ∃ t, exec (.oapSetupTimeout n) s = .next t ∧ mget? t.dict.setups n = none ∧ secret? t (setupSecret n) = none ∧
      t.now = max s.now (u.startedAt + sec 2) ∧
      t = { s with now := t.now, dict := { s.dict with setups := t.dict.setups },
                   kreg := { s.kreg with working := mdel s.kreg.working (setupSecret n) } }

/-- A SESSION_G1 that reaches OAP with a good header, SESSION_ID 0, a SEQ above 0, from no set-up under way, with fewer than eight
sessions, a free set-up and a good fragment, joins a new set-up with its fragment; where the message is not yet whole that is all.
A whole G1 of suite 4 that the responder can answer, with a digest unit for its transcript, leaves the set-up with that G1, and
the fragments of a G2 sent to its sender under the set-up's SESSION_ID, each with the next SEQ. A SESSION_G3 fragment that names a
set-up with a SEQ above its last joins it. A whole G3 that fits its set-up, with good signatures and CONFIRM, a digest unit for
the hashing, of an enrolled principal, with a free slot: the set-up is gone and the slot holds a session with the principal's
roles and tenant, both SEQs 0 and the two derived keys. With a digest unit, a whole G3 that fails a check: the set-up is discarded
and DICT_OAP_AUTH_ERR counts. (R71, R72, R73, R74, R438, R454) -/
def Obligations.SessionSetUp : Prop :=
  (∀ (d : Datagram) (n : Nat) (s : State), oapHears s d = true → headerOk d.payload = true → omType d.payload = 0x21 → supervisorUp s = true →
    omSession d.payload = 0 → setupOfG1 s d (field (omPayload d.payload) 0 4) = none → omSeq d.payload ≠ 0 → s.dict.sessions.length < 8 →
    mfree? s.dict.setups 0 8 = some n → fragOk (omPayload d.payload) = true →
    exec (.sessionG1 d) s = .next (joinG1 n (newSetup d (field (omPayload d.payload) 0 4) (omSeq d.payload) s.now) (omPayload d.payload) s) ∧
    ∀ y, holdFrag (newSetup d (field (omPayload d.payload) 0 4) (omSeq d.payload) s.now) (omPayload d.payload) = some (y, none) →
      exec (.sessionG1 d) s = .next { s with dict := { s.dict with setups := mset s.dict.setups n y } }) ∧
  (∀ (n : Nat) (x : Setup) (m : Bytes) (s : State), gmSuite m = 4 → mgMsgOk 1 4 (g1Len 4) m = true → canRespond s 4 m = true →
    HashReach s 0x0002 (.setup n) →
    let t := answerG1 n x m s
    ∃ y before fid sz, mget? t.dict.setups n = some y ∧ y.g1 = m ∧ y.peer = x.peer ∧ y.port = x.port ∧
      y.seqOut = x.seqOut + (fragments fid sz y.g2).length ∧
      t.out = before ++ (fragments fid sz y.g2).mapIdx
        (fun i f => Out.datagram x.peer x.port (oapHeader 0x22 1 y.sessionId (x.seqOut + 1 + i) f.length ++ f))) ∧
  (∀ (d : Datagram) (n : Nat) (x : Setup) (s : State), oapHears s d = true → headerOk d.payload = true → omType d.payload = 0x23 →
    supervisorUp s = true → setupOfId s (omSession d.payload) = some (n, x) → x.seqIn < omSeq d.payload → fragOk (omPayload d.payload) = true →
    exec (.sessionG3 d) s = .next (joinG3 n { x with seqIn := omSeq d.payload } (omPayload d.payload) s)) ∧
  ∀ (n : Nat) (x : Setup) (m : Bytes) (s : State),
    let u := gmSuite x.g1
    let ikm := (secret? s (setupSecret n)).getD []
    let good := g3Fits n s x m = true ∧ g3Signed s x m = true ∧ g3Confirmed ikm x m = true
    HashReach s 0x0002 (.setup n) → keysRise s.dig.units = true →
    (∀ p k, good → principalOf s u (slice m 16 (pksLen u)) = some p → mfree? s.dict.sessions 0 8 = some k → keysRise s.kreg.working = true →
      let t := answerG3 n x m s
      ∃ v, t = openSession k p x (sessionKeys ikm x m) (dropSetup n v) ∧ v.dict = s.dict ∧ v.kreg = s.kreg ∧ s.now ≤ v.now ∧
        secret? t (sessIn k) = some (sessionKeys ikm x m).1 ∧ secret? t (sessOut k) = some (sessionKeys ikm x m).2 ∧
        ∃ y, mget? t.dict.sessions k = some y ∧ y.roles = objVal s (at_ Obj.DICT_PRN_ROLES p) ∧
          y.tenant = objVal s (at_ Obj.DICT_PRN_TENANT p) ∧ y.seqIn = 0 ∧ y.seqOut = 0) ∧
    (¬ good → ∃ v, answerG3 n x m s = bump Obj.DICT_OAP_AUTH_ERR (dropSetup n v) ∧ v.dict = s.dict ∧ v.kreg = s.kreg)

/-- While the port is served, an echo request that R63 and R64 let through to the device's address or to all nodes is answered
with its own data, and a solicitation of the device's own link-local address, sent there or to its solicited-node address, with
its MAC address. For an open session and an object in its changed list once the dictionary server has looked at the watched
values, NOTIFY takes the object out of the list, waits until 100 ms after the last NOTIFY of it, and, where the session can read
the object then, sends its present value as a TYPE 0x05 message; where it cannot, nothing is sent. (R63, R64, R65, R84, R85) -/
def Obligations.PortAnswers : Prop :=
  (∀ (d : Datagram) (s : State), portServed s = true → passes64 d = true → (d.dstAddr = ownAddr s ∨ d.dstAddr = allNodes) →
    exec (.icmpv6Echo d) s = .next { s with out := s.out ++ [.icmpEcho d.srcAddr d.payload] }) ∧
  (∀ (d : Datagram) (s : State), portServed s = true → passes64 d = true → (d.dstAddr = ownAddr s ∨ d.dstAddr = solicitedNode s) →
    d.payload = linkLocalOf (objBytes s Obj.ID_MG_MAC) →
    exec (.neighbourDiscovery d) s = .next { s with out := s.out ++ [.neighbour d.srcAddr (objBytes s Obj.ID_MG_MAC)] }) ∧
  ∀ (k : Nat) (x : Session) (obj : ObjId) (gpio : Nat) (s : State), let s0 := lookAround s
    mget? s0.dict.sessions k = some x → obj ∈ x.changed → serverUp s = true →
    let w : Who := { caller := .session k 0, roles := x.roles, tenant := x.tenant, approver := 0 }
    let s1 := { s0 with now := max s0.now (notifyFrom x obj) }
    let x1 := { x with changed := x.changed.erase obj }
    (readCheck s1 w obj = none → exec (.notify k obj gpio) s =
      .next (sendData k 0x05 1 (notifyPlain obj (readValue s1 (.session k 0) gpio obj))
        (noteRead obj (setSession k { x1 with sentAt := mset x.sentAt obj s1.now } s1)))) ∧
    (readCheck s1 w obj ≠ none → exec (.notify k obj gpio) s = .next (setSession k x1 s1))

/-- Where the write is carried out at once, RING_ENABLE_SET starts the pair: RING_ENABLE 1, the pair's record that of a reset
(both indexes 0, both lap values 1, nothing held) but for its state, ACTIVE, or FENCED where its tenant is fenced, and its first
poll one active interval on. RING_DISABLE stops it: RING_ENABLE 0, nothing held; a pair that was not DISABLED is DRAINING while it
has admitted jobs and DISABLED when it has none. A write of 1 to a pair that is not DISABLED or whose tenant is DELETING is BUSY;
with a base zero or off 4 KiB, or an ABSENT tenant, its value is bad. RING_GCTRL_RUN sets RUN to bit 0; where RUN goes from 0 to 1
the polls come due anew; nothing else changes. (R129, R130, R131, R132, R173) -/
def Obligations.RingCommands : Prop :=
  (∀ c p s, Deciding c (pairObj p Obj.RING_ENABLE) [1] (enableRule p s) s →
    exec (.ringEnableSet c p) s = .next (writeDone c (pairObj p Obj.RING_ENABLE) (startPair p (begun c (pairObj p Obj.RING_ENABLE) [1] s)))) ∧
  (∀ c p s, Deciding c (pairObj p Obj.RING_ENABLE) [0] (disableRule p s) s →
    exec (.ringDisable c p) s = .next (writeDone c (pairObj p Obj.RING_ENABLE) (stopPair p (begun c (pairObj p Obj.RING_ENABLE) [0] s)))) ∧
  (∀ v s, let t := { s with ring := { s.ring with run := v.getLsbD 0 } }
    exec (.ringGctrlRun v) s = .next (if v.getLsbD 0 = true ∧ s.ring.run = false then renewPolls t else t)) ∧
  (∀ p s, (p < 4112) → keysRise s.dict.obj = true →
    let t := startPair p s
    objVal t (pairObj p Obj.RING_ENABLE) = 1 ∧
    pair t p = { Pair.reset with st := if isMgmt p = false ∧ tenantState s p = 2 then .fenced else .active,
                                 pollAt := s.now + ringVal s p Obj.RING_POLL_ACTIVE * 500 }) ∧
  (∀ p s, (p < 4112) → keysRise s.dict.obj = true → keysRise s.ring.pairs = true →
    let t := stopPair p s
    objVal t (pairObj p Obj.RING_ENABLE) = 0 ∧ (pair t p).held = [] ∧ (pair t p).next = (pair s p).next ∧
    (pair t p).st = (if (pair s p).st = .disabled ∨ pairEntries s p = 0 then .disabled else .draining)) ∧
  (∀ p s, (enableRule p s).busy = true ↔ (pair s p).st ≠ .disabled ∨ (isMgmt p = false ∧ tenantState s p = 4)) ∧
  ∀ p s, (enableRule p s).bad = true ↔ (ringVal s p Obj.RING_SUB_BASE = 0 ∨ ringVal s p Obj.RING_SUB_BASE % 4096 ≠ 0 ∨
    ringVal s p Obj.RING_CPL_BASE = 0 ∨ ringVal s p Obj.RING_CPL_BASE % 4096 ≠ 0 ∨ (isMgmt p = false ∧ tenantState s p = 0))

/-- After PCIE_LINK_RESET every pair is at its reset record (DISABLED, nothing held), no in-flight entry holds a job of a ring
pair (unless one of a ring had waited as an internal job, which none ever does), RING_GCTRL.RUN reads 1 and RING_ERR,
RING_ERR_RING and RING_ERR_VEC read 0; every window register reads its reset value, the notification queue is empty and no block
write is open; the accepted accesses stay in the queue, none of them the window's any more, and the OAP sessions are unchanged in
number. (R62, R175) -/
def Obligations.PcieReset : Prop :=
  ∀ s : State, ∃ t, exec .pcieLinkReset s = .next t ∧ t.ring.pairs = [] ∧ t.ring.run = true ∧ t.ring.err = 0 ∧ t.ring.errRing = none ∧
    t.ring.errVecEn = false ∧ t.ring.errVec = 0 ∧
    (∀ e x, mget? t.ring.entries e = some x → (∀ p, x.origin ≠ .ring p) ∨ ∃ w ∈ s.ring.internalWait, w.1 = x.origin) ∧
    (∃ st, t.dict.win = { Window.reset with st := st } ∧ st.write = none) ∧
    t.dict.queue.length = s.dict.queue.length ∧ (∀ r ∈ t.dict.queue, r.caller ≠ .window) ∧
    t.dict.sessions.length = s.dict.sessions.length

/-- A RING_POLL of a pair that may be polled, whose poll yields to no other and whose ring state the ring manager may reach, takes
at most the entries that the prefetch depth, the ring's end and the buffer grant; of these it holds, after those held before, the
ones from the first on whose marks are valid, up to the first that is not. The next unread index moves on by their number, around
the ring. A poll with a valid entry leaves the pair ACTIVE with no empty polls; the 64th consecutive empty poll leaves it IDLE.
RING_NEXT and RING_CPL_NEXT do not change in the poll itself; broken skeins at the head are then ended. (R140, R141, R142) -/
def Obligations.RingPolling : Prop :=
  ∀ (p : Nat) (es : List Bytes) (s : State), mayPoll s p = true → pollSize s p ≠ 0 → pollYields s p = false →
    checkRec s (.ring p) (ringAccess p (64 * pollSize s p) 2) = none →
    let x := pair s p
    let ok := validPrefix (isLegacy s p) x.readLap (es.take (pollSize s p))
    let size := max (ringVal s p Obj.RING_SIZE) 1
    ∃ u, exec (.ringPoll p es) s = .next (settleHead p 64 u) ∧
      (pair u p).held.map (·.body) = x.held.map (·.body) ++ ok ∧
      (pair u p).readNext = (x.readNext + ok.length) % size ∧
      (pair u p).readLap = (if size ≤ x.readNext + ok.length then !x.readLap else x.readLap) ∧
      (pair u p).next = x.next ∧ (pair u p).cplNext = x.cplNext ∧
      (ok ≠ [] → (pair u p).st = .active ∧ (pair u p).emptyPolls = 0) ∧
      (ok = [] → (pair u p).emptyPolls = x.emptyPolls + 1 ∧ (pair u p).st = if 64 ≤ x.emptyPolls + 1 then .idle else x.st)

/-- ADMISSION of the pair whose turn it is, with the device open and the ring manager's access to its ring state allowed, goes on
with its turn. The turn under way goes on; where none is, the next is used, of a management pair while one has an admissible head
job or has yet to stall, else of a tenant pair. A new round gives every pair its turns again. A head job for which the burst has
room, past its pre-checks and no control command, takes an in-flight entry and its pages at one instant if there is room;
otherwise the pair is stalled and its turn is over. For a tenant job, with no pages held back and no graft job waiting, room
means: an entry and n pages free beyond the management reserve, TENANT_INFLIGHT below the entry quota, TENANT_PAGES plus n within
the page quota. An admitted job has the lowest free entry, the picked pages, its origin, colour, class and descriptor; no other
entry changes. (R152, R153, R155, R158, R159, R161) -/
def Obligations.AdmissionTurn : Prop :=
  (∀ (p k : Nat) (s t : State), deviceOpen s = true → takeTurn p s = some (k, t) → checkRec t (.ring p) (ringAccess p 64 1) = none →
    exec (.admission p) s = .next (turn p 65 k t)) ∧
  (∀ (p k : Nat) (s : State), openTurn s = some (p, k) → takeTurn p s = some (k, s)) ∧
  (∀ (p : Nat) (fresh : Bool) (s : State), openTurn s = none → turnIn s (mgmtFirst s) = some (p, fresh) →
    takeTurn p s = some (0, useTurn p fresh s)) ∧
  (∀ s : State, mgmtFirst s = true ↔ ∃ p, p ∈ eligiblePairs s true ∧ (admissible s p = true ∨ (pair s p).st ≠ .stalled)) ∧
  (∀ (p : Nat) (fresh : Bool) (s : State),
    (pair (useTurn p fresh s) p).turnsUsed = (if fresh = true then 0 else (pair s p).turnsUsed) + 1 ∧
    (pair (useTurn p fresh s) p).held = (pair s p).held ∧ (useTurn p fresh s).ring.entries = s.ring.entries) ∧
  (∀ (p fuel k n : Nat) (c : CmdSpec) (s : State),
    let x := pair s p
    let leg := isLegacy s p
    let d := jobDesc leg (x.held.take n)
    let need := c.inPages + c.outPages + c.resume
    headOf leg x.held = .job n → inBurst s p k n = true → cmdSpec s (pairColour p) leg d = some c → isControl d = false →
    preChecks leg (x.held.take n) d (some c) (if isMgmt p then none else some (pageQuota s p)) = none →
    (roomFor s p need = true →
      turn p (fuel + 1) k s = turn p fuel (k + n)
        (admitJob (.ring p) (pairColour p) (jobPrio s p d) d c [] (countClamp p d (unstall p (consume p n s))))) ∧
    (roomFor s p need = false → turn p (fuel + 1) k s = endTurn p (stall p (lacksPages s p need) s))) ∧
  (∀ (p n : Nat) (s : State), isMgmt p = false → s.ring.starving = [] → graftWaits s = false →
    (roomFor s p n = true ↔ reserveEntries s < entriesFree s ∧ n + reservePages s ≤ pagesFree s ∧ pairEntries s p < entryQuota s p ∧
      pairPages s p + n ≤ pageQuota s p)) ∧
  (∀ (p : Nat) (b : Bool) (s : State), (pair s p).st ≠ .stalled →
    (pair (stall p b s) p).st = .stalled ∧ (pair (stall p b s) p).held = (pair s p).held ∧ (stall p b s).ring.entries = s.ring.entries) ∧
  ∀ (o : Origin) (colour prio : Nat) (d : Desc) (c : CmdSpec) (stream : Bytes) (s : State) (e : Nat), mfree? s.ring.entries 0 8192 = some e →
    let t := admitJob o colour prio d c stream s
    (∃ x, entry? t e = some x ∧ x.origin = o ∧ x.colour = colour ∧ x.prio = prio ∧ x.desc = d ∧
      x.pages = pickPages (usedPages s) (c.inPages + c.outPages + c.resume) ∧ x.status = .ok ∧ x.output = []) ∧
    ∀ k, k ≠ e → entry? t k = entry? s k

/-- INBOUND_DMA_COMPLETE, the inbound DMA not fenced, wakes the engine and puts the input bytes into the job's input pages, or
streams them to its unit, and the job waits. DISPATCH of a slice class, with no response in force and no scrub waiting, gives a
slice command at the head of the class queue the picked slice (where its dispatch entry is redirected, to words that are there):
the slice is BUSY with it in its colour, the job runs (or resumes, if parked) on it and the engine clock runs. JOB_COMPLETE of an
ended ring job, its output not held by a fence, writes its output, if any, to OUT_ADDR, then its record, then counts it and
releases it: with no internal job waiting, its entry is free and its pages are tagged 0xFFFF. (R158, R167, R168, R179) -/
def Obligations.JobFlow : Prop :=
  (∀ e data x s, entry? s e = some x → x.phase = .inbound → 36 ∉ s.pke.fencedReq →
    exec (.inboundDmaComplete e data) s = .next (
      if x.inPages = 0 then setEntry e { x with stream := fitBytes (inLen x.desc) data, phase := .waiting } (rouseEngine s)
      else setEntry e { x with phase := .waiting } (writePages (x.pages.take x.inPages) (fitBytes (inLen x.desc) data) (rouseEngine s)))) ∧
  (∀ cls e x n wake s, cls < 4 → holding s = false → halted s = false → s.pke.scrubQ = [] →
    queueHead s cls = some (e, x) → opClass x.desc.opcode = some cls → pickSlice s cls = some (n, wake) →
    (isPatched s cls (dispatchEntry x.desc.opcode) = false ∨
      microWalk s cls 64 { Sequencer.reset with addr := targetOf s cls (dispatchEntry x.desc.opcode) } ≠ none) →
    (∀ k, x.phase ≠ .running k) →
    let at1 := s.now + wake + wakeEngine s
    ∃ t, exec (.dispatch cls) s = .next t ∧ (slice_ t n).st = .busy ∧ (slice_ t n).job = some e ∧ (slice_ t n).colour = x.colour ∧
      entry? t e = some { x with phase := if x.phase = .parked then .resuming n else .running n, slice := n, segsSince := 0, segAt := at1,
                                 startedAt := if x.phase = .parked then x.startedAt else at1 } ∧
      (∀ k, k ≠ e → entry? t k = entry? s k) ∧ (∀ k, k ≠ n → slice_ t k = slice_ s k) ∧
      t.pwr.pllRunning = true ∧ t.pwr.clockGated = false) ∧
  (∀ e x p s, entry? s e = some x → x.phase = .ended → x.origin = .ring p → outputHeld s x = false →
    let s1 := if x.output = [] then s else emit (.hostWrite x.desc.outAddr x.output) s
    let s2 := if x.status = .aborted then bump Obj.PKE_ABORTS s1 else s1
    exec (.jobComplete e) s = .next (releaseJob e x (x.late.foldl (fun t o => bump o t)
      (writeRecord p x.desc x.status x.slice x.output.length x.detail x.cycles s2)))) ∧
  ∀ e x s, entry? s e = some x → keysRise s.ring.entries = true → keysRise s.iso.tags = true → s.ring.internalWait = [] → (∀ q ∈ x.pages, q < 8192) →
    let t := releaseJob e x s
    entry? t e = none ∧ (∀ k, k ≠ e → entry? t k = entry? s k) ∧ ∀ q ∈ x.pages, ∀ i, i < 4 → tagOf t (q * 4 + i) = 0xFFFF

/-- writeRecord sends the record's 32 bytes to RING_CPL_BASE + 32 x the completion index, in one write, or as bytes 0-30 and then
byte 31 where RING_CPL_ORDERED is 1; anything sent after it is an MSI-X vector. Byte 10 is the STATUS code, byte 11 the slice,
byte 31 bit 0 the lap value. The completion index moves on by one and wraps at RING_SIZE, where the lap value flips. Every other
pair is unchanged. (R165, R166, R171) -/
def Obligations.CompletionRecord : Prop :=
  (∀ d st slice written detail cycles lap, (recordBytes d st slice written detail cycles lap).length = 32 ∧
    (recordBytes d st slice written detail cycles lap).getD 10 0 = BitVec.ofNat 8 (statusCode st) ∧
    (recordBytes d st slice written detail cycles lap).getD 11 0 = BitVec.ofNat 8 slice ∧
    (recordBytes d st slice written detail cycles lap).getD 31 0 = BitVec.ofNat 8 (b2n lap)) ∧
  ∀ p d st slice written detail cycles s, keysRise s.ring.pairs = true →
    let x := pair s p
    let size := ringVal s p Obj.RING_SIZE
    let t := writeRecord p d st slice written detail cycles s
    (∃ r, t.out = s.out ++ recordWrites (decide (ringVal s p Obj.RING_CPL_ORDERED = 1)) (ringVal s p Obj.RING_CPL_BASE + 32 * x.cplNext)
        (recordBytes d st slice written detail cycles x.cplLap) ++ r ∧ ∀ o ∈ r, ∃ v, o = .msix v) ∧
    (pair t p).cplNext = (if size ≤ x.cplNext + 1 then 0 else x.cplNext + 1) ∧
    (pair t p).cplLap = (if size ≤ x.cplNext + 1 then !x.cplLap else x.cplLap) ∧ (pair t p).held = x.held ∧
    ∀ q, q ≠ p → pair t q = pair s q

/-- STARVE_LIMIT_EXPIRY of a tenant pair that waits for pages puts it among those that pages are held for, from those released
from now on where it is the first. COAL_DELAY_EXPIRY of a pair with unsignalled records and a delay in force raises its vector and
restarts the count. A HOST_MEMORY_ERROR of an access that the pair is making has the effect of hostError; RING_FETCH_TIMEOUT does
the same for a read, ERR_RING_FETCH later. After hostError of a poll RING_ERR shows the read error, RING_ERR_RING the pair, and
the pair is in FAULT with nothing held. A NOP or ABORT that the pair's turn has reached, with the ring manager's access allowed,
completes OK and counts towards the burst; a control command completes with SLICE 0xFF and CYCLES 0. ABORT, from a management pair
or naming its own pair, stops the oldest admitted, not yet complete job of its target pair and SUB_INDEX and completes with DETAIL
1; it completes with DETAIL 0 where there is none, or where a tenant pair names another. (R162, R169, R170, R171, R174, R214,
R643) -/
def Obligations.RingEvents : Prop :=
  (∀ p t s, (pair s p).pageWait = some t → isMgmt p = false → p ∉ s.ring.starving →
    exec (.starveLimitExpiry p) s = .next { s with now := max s.now (t + us (objVal s Obj.RING_STARVE_LIMIT)),
                                                   ring := { s.ring with starving := s.ring.starving ++ [p],
                                                                         unheld := if s.ring.starving = [] then pagesFree s else s.ring.unheld } }) ∧
  (∀ p t s, (pair s p).unsignalledAt = some t → (pair s p).coalDelay ≠ 0 →
    exec (.coalDelayExpiry p) s = .next (raiseVec (pair s p).coalVector
      (setPair p { pair s p with unsignalled := 0, unsignalledAt := none }
        { s with now := max s.now (t + us (pair s p).coalDelay) }))) ∧
  (∀ p a s, pairMakes s p a = true → exec (.hostMemoryError p a) s = .next (hostError p a s) ∧
    ((a = .poll ∨ a = .stage ∨ ∃ e, a = .input e) → exec (.ringFetchTimeout p a) s =
      .next (hostError p a { s with now := max s.now (s.now + us (objVal s Obj.ERR_RING_FETCH)) }))) ∧
  (∀ p s, (pair s p).st ≠ .disabled → keysRise s.ring.pairs = true →
    let t := hostError p .poll s
    t.ring.errRing = some p ∧ t.ring.err.getLsbD 2 = true ∧ (pair t p).st = .fault ∧ (pair t p).held = []) ∧
  (∀ p d n k s t, controlTurn s p 0x0FF1 = some (d, n, k, t) → checkRec t (.ring p) (ringAccess p 64 1) = none →
    exec (.jobNop p) s = .next (afterControl p n k (completeControl p d n 0 .ok t))) ∧
  (∀ p d n k s t, controlTurn s p 0x0FF0 = some (d, n, k, t) → checkRec t (.ring p) (ringAccess p 64 1) = none →
    let tp := bits d.aux 15 0
    let sub := bits d.aux 31 16
    (∀ e, isMgmt p = true ∨ tp = p → abortTarget t tp sub = some e →
      exec (.abort p) s = .next (afterControl p n k (completeControl p d n 1 .ok (abortJob e t)))) ∧
    ((isMgmt p = true ∨ tp = p → abortTarget t tp sub = none) →
      exec (.abort p) s = .next (afterControl p n k (completeControl p d n 0 .ok t)))) ∧
  ∀ p d n detail st s, completeControl p d n detail st s = writeRecord p d st 0xFF 0 detail 0 (unstall p (consume p n s))

/-- stopJob of a job that has not ended gives it the status and DETAIL with no output; it is SCRUBBING while it holds pages and
ended when it holds none; a target slot that was LOADING is EMPTY; with no target slot every slot is unchanged; digest contexts,
tags, and every byte outside the large-key store and the context store are unchanged. A job that has ended, or that is being
scrubbed, takes the status where that stands before its own at this same moment, and is unchanged otherwise. A stateful SIGN with
a READY key that is stopped on its slice after its key check and commit phase of 11,120 cycles has used its index: the working
copy and the sealed record stand one higher (the model's reading, entry 162). ABORT_SCRUB ends the scrub, with no internal job
waiting: the pages read tag 0xFFFF and byte 0 and belong to the job no more, and the scrubbing slice is idle. (R167, R168, R193,
R214, R215, R217, R219, R281) -/
def Obligations.StopLeavesNoResidue : Prop :=
  (∀ e st detail x s, entry? s e = some x → x.phase ≠ .ended → x.phase ≠ .scrubbing →
    let t := stopJob e st detail s
    (∃ y, entry? t e = some y ∧ y.status = st ∧ y.detail = detail ∧ y.output = [] ∧ y.target = none ∧ y.pages = x.pages ∧
      y.phase = (if x.pages = [] then .ended else .scrubbing)) ∧
    (∀ k, k ≠ e → entry? t k = entry? s k) ∧
    (∀ h, x.target = some h → ∀ v, mget? s.kreg.slots h = some v → v.st = .loading → keysRise s.kreg.slots = true → mget? t.kreg.slots h = none) ∧
    (x.target = none → t.kreg.slots = s.kreg.slots) ∧ t.dig.ctx = s.dig.ctx ∧ t.iso.tags = s.iso.tags ∧
    (keysRise s.iso.mem = true → ∀ a, inLks a = false → inCtx a = false → memByte t a = memByte s a)) ∧
  (∀ e st detail x s, entry? s e = some x → (x.phase = .ended ∨ x.phase = .scrubbing) →
    stopJob e st detail s = if outranks s.now st detail x then setEntry e { x with status := st, detail := detail } s else s) ∧
  (∀ e st detail x n k v s, entry? s e = some x → x.phase = .running n → x.desc.opcode = 0x0404 → x.target = none →
    htsKey? s x.desc.key = some k → mget? s.kreg.slots x.desc.key = some v → v.owner = x.colour → v.alg = 4 → v.pset = x.desc.pset →
    v.stateful = true → v.usage % 2 = 1 → v.st ≠ .loading → k.st = .ready → k.working < htsCap (htsKeyLevels s x.desc.key) →
    recordBroken s k = false → htsSig v.pset (htsKeyLevels s x.desc.key) ≤ x.desc.outLen → x.startedAt + cyclesNs s 11120 ≤ s.now →
    let t := stopJob e st detail s
    counter t k.record = sealRecord (k.working + 1) k.gen ∧ ∃ j, htsKey? t x.desc.key = some j ∧ j.working = k.working + 1) ∧
  ∀ e x n s, entry? s e = some x → x.phase = .scrubbing → scrubber s e = some n → s.ring.internalWait = [] → Memory.wf s.iso.mem = true →
    keysRise s.iso.tags = true → (∀ q ∈ x.pages, q < 8192) →
    ∃ t, exec (.abortScrub e) s = .next t ∧ (slice_ t n).st = .idle ∧ (slice_ t n).job = none ∧
      (∃ y, entry? t e = some y ∧ y.phase = .ended ∧ y.pages = [] ∧ y.status = x.status) ∧
      ∀ q ∈ x.pages, (∀ i, i < 4 → tagOf t (q * 4 + i) = 0xFFFF) ∧ ∀ i, i < 1024 → memByte t (q * 1024 + i) = 0

/-- SEGMENT_YIELD of a running segmented command makes its key check, where that is still to come; if the job then runs on, past
its check and before its last segment, a segment ends, otherwise that is all. A segment that ends raises the job's progress; the
job is parked where no slice of the class is idle or waking and a job of a lower class number waits, or one of its class or lower
after PKE_SEG_QUANTUM segments; otherwise it goes on and its slice's job count rises. A parked job's entry is PARKED with 200
cycles and 40 for each resume page added, and its slice holds no job and no scratch. JOB_RESUME with a usable expander and the
kept tag runs the job with the cycles of the resume; with an unseeded expander it ends ENTROPY_FAIL. SCRUB_TAKEOVER gives the
oldest waiting scrub to an idle or gated slice. SLICE_REINIT_COMPLETE makes a slice under re-initialisation IDLE 20 us after it
began, or later. (R189, R192, R194, R196, R197, R200, R201, R216) -/
def Obligations.SegmentsAndSlices : Prop :=
  (∀ e x n s, entry? s e = some x → x.phase = .running n → resumePages x ≠ [] → opClass x.desc.opcode ≠ none →
    let t := if x.keyChecked = true then s else segCheck e n x s
    (∀ y, entry? t e = some y → y.phase = .running n → y.keyChecked = true → y.progress + 1 < segments (segCycles n y t) →
      exec (.segmentYield e) s = .next (endSegment e n y t)) ∧
    ((∀ y, entry? t e = some y → ¬ (y.phase = .running n ∧ y.keyChecked = true ∧ y.progress + 1 < segments (segCycles n y t))) →
      exec (.segmentYield e) s = .next t)) ∧
  (∀ e n x s,
    let cls := sliceClass n
    let w := owedTo s e
    let t := settleOwed e { s with now := max s.now (x.segAt + cyclesNs s (60000 + w)) }
    let y := { x with progress := x.progress + 1, segsSince := x.segsSince + 1, segAt := t.now, cycles := x.cycles + w }
    let waits := (0 < x.prio ∧ someoneWaits t cls e (x.prio - 1) = true) ∨
      (objVal t Obj.PKE_SEG_QUANTUM ≤ x.segsSince + 1 ∧ someoneWaits t cls e x.prio = true)
    (waits ∧ someIdle t cls = false → endSegment e n x s = parkJob e n y t) ∧
    (¬ (waits ∧ someIdle t cls = false) → endSegment e n x s = bump (sliceJobs n) (setEntry e y t))) ∧
  (∀ e n x s, let t := parkJob e n x s
    (∃ y, entry? t e = some y ∧ y.phase = .parked ∧ y.cycles = x.cycles + 200 + 40 * (resumePages x).length ∧ y.progress = x.progress) ∧
    (slice_ t n).job = none ∧ (slice_ t n).scratch = []) ∧
  (∀ e x n s, entry? s e = some x → x.phase = .resuming n →
    let t := { s with now := max s.now (x.segAt + cyclesNs s (parkCycles x)) }
    let b := readPages t (resumePages x) ((resumePages x).length * 1024)
    (maskReady s n = true → parkTag t e x b = x.tag → ∃ u, exec (.jobResume e true) s = .next u ∧ u.now = t.now ∧
      ∃ y, entry? u e = some y ∧ y.phase = .running n ∧ y.cycles = x.cycles + parkCycles x ∧ y.progress = x.progress ∧ y.desc = x.desc) ∧
    (maskReady s n = false → ∀ ok,
      exec (.jobResume e ok) s = .next (stopJob e .entropyFail 0 (setEntry e { x with phase := .running n, segAt := s.now } s)))) ∧
  (∀ n e r s, n < 36 → s.pke.scrubQ = e :: r → ((slice_ s n).st = .idle ∨ (slice_ s n).st = .gated) →
    exec (.scrubTakeover n) s = .next (setSlice n
      { slice_ s n with st := .scrub, job := some e, colour := ((entry? s e).map (·.colour)).getD 0xFFFF, scratch := [] }
      { s with pke := { s.pke with scrubQ := r } })) ∧
  ∀ n s, n < 36 → (slice_ s n).st = .init →
    let now := max s.now ((slice_ s n).initAt + us 20)
    exec (.sliceReinitComplete n) s = .next (setSlice n { (slice_ s n).cleared with st := .idle, idleSince := now } { s with now := now })

/-- SLICE_WDOG_BITE of a running job comes at its limit in the segment under way; with fewer than three bites within 1 s it re-
initialises the slice and stops the job TIMEOUT with DETAIL 2; the third fences the slice. UNIT_WDOG_BITE of a digest unit stops
the job it serves TIMEOUT with DETAIL 3 and re-initialises the unit, or fences it at the third; of the key manager it stops the
job at the head. BENCH_WDOG_BITE releases the port, records the bite, and stops the slice's job TIMEOUT with DETAIL 1 with the
slice re-initialised, or fences any other requester. Each bite is counted. (R192, R212, R213, R224, R641, R642) -/
def Obligations.WatchdogBites : Prop :=
  (∀ e x n s, entry? s e = some x → x.phase = .running n →
    let lim := wdogLimit s n x
    let s0 := { s with now := max s.now (x.segAt + cyclesNs s lim), free := s.free + 1 }
    let bites := recentBites s0.now (slice_ s n).bites
    let s1 := bump (wdogBites 2) (setEntry e { x with cycles := x.cycles + 60000 * x.progress + lim, progress := 0, segAt := s0.now }
      (setSlice n { slice_ s n with bites := bites } s0))
    (3 ≤ bites.length → exec (.sliceWdogBite e) s = .next (fenceSlice n cSLICE_WDOG .timeout 2 s1)) ∧
    (bites.length < 3 → ∃ t, exec (.sliceWdogBite e) s = .next t ∧
      (slice_ t n).st = (if (slice_ s n).st = .fenced then .fenced else .init) ∧ (slice_ t n).job = none ∧
      ∃ y, entry? t e = some y ∧ y.status = .timeout ∧ y.detail = 2 ∧ y.output = [])) ∧
  (∀ u e r s, u < 4 → (digUnit s u).jobs = e :: r →
    let s0 := { s with now := max s.now (s.now + ms 1) }
    let bites := recentBites s0.now (digUnit s u).bites
    let s1 := bump (wdogBites 3) (stopJob e .timeout 3 s0)
    exec (.unitWdogBite u) s = .next (
      if 3 ≤ bites.length then fenceDigest u cUNIT_WDOG .timeout 3 (setDigUnit u { digUnit s1 u with bites := bites } s1)
      else setDigUnit u { digUnit s1 u with bites := bites, initAt := some s1.now } s1)) ∧
  (∀ u e s, 4 ≤ u → unitHead s 9 = some e →
    exec (.unitWdogBite u) s = .next (bump (wdogBites 3) (stopJob e .timeout 3 { s with now := max s.now (s.now + ms 1) }))) ∧
  ∀ b h s, b < 16 → keysRise s.pke.benches = true → (bench s b).holder = some h →
    ∃ t, exec (.benchWdogBite b) s = .next t ∧ (bench t b).holder = none ∧
      (h.requester < 36 → (slice_ t h.requester).job = none ∧ ∀ x, entry? s h.entry = some x → x.phase ≠ .ended → x.phase ≠ .scrubbing →
        ∃ y, entry? t h.entry = some y ∧ y.status = .timeout ∧ y.detail = 1 ∧ y.output = []) ∧
      (36 ≤ h.requester → h.requester ∈ t.pke.fencedReq)

/-- BENCH_REQUEST has benchDecide decide the requests of one cycle; where there are any, the engine has been woken. The winner of
a list has the lowest class number of all, and is the first in rotation among that class. In compatible mode (not 0) a burst that
holds the port keeps it and is not preempted. In native mode (0) a winner of a lower class number than the holder takes the port,
and the holder is kept to continue, unless a rule change waits for it; a winner of no lower class number changes nothing. A loser
backs off for 2^n cycles, n its consecutive BACKOFFs here, at most 10; a grant sets its n to 0 and gives it the port.
ARB_MODE_APPLY puts the bench's ARB_MODE into effect once its bursts have ended. (R205, R206, R207, R209, R210, R211) -/
def Obligations.BenchArbitration : Prop :=
  (∀ b cycle reqs s, b < 16 → exec (.benchRequest b cycle reqs) s = .next (benchDecide b cycle reqs (if reqs = [] then s else rouseEngine s))) ∧
  (∀ x l w, winner x l = some w → w ∈ l ∧ ∀ q ∈ l, w.cls < q.cls ∨
    (w.cls = q.cls ∧ rotation x w.cls w.requester ≤ rotation x q.cls q.requester)) ∧
  (∀ x l h, x.holder = some h → x.mode ≠ 0 → (decidePort x l).1.holder = some h ∧ (decidePort x l).2.2.2 = false) ∧
  (∀ x l h w, x.holder = some h → x.mode = 0 → winner x l = some w →
    (w.cls < h.cls → h.awaited = false → w.requester ≠ h.requester →
      (decidePort x l).1.holder = some w ∧ { h with lostAt := x.cycle } ∈ (decidePort x l).1.preempted) ∧
    (h.cls ≤ w.cls ∨ h.awaited = true → (decidePort x l).1 = x)) ∧
  (∀ x q, tget (fun _ => 0) (giveBackoff x q).backoff q.requester = min 10 (tget (fun _ => 0) x.backoff q.requester + 1) ∧
    tget (fun _ => 0) (giveBackoff x q).retryAt q.requester = x.cycle + 2 ^ min 10 (tget (fun _ => 0) x.backoff q.requester + 1)) ∧
  (∀ x w, keysRise x.backoff = true → tget (fun _ => 0) (grant x w).backoff w.requester = 0 ∧ (grant x w).holder = some w) ∧
  ∀ b s, b < 16 → exec (.arbModeApply b) s = .next (setBench b { benchIdle (bench s b) with mode := objVal s (Obj.ARB_MODE + b) } s)

/-- For a job of the opcode that runs unsegmented on a slice with no hardware fault and whose key check passes, needing what its
rule says: ML-KEM KEYGEN gives ek and a new slot with d||z; ENCAPS and DECAPS deliver ciphertext and secret, a rejection counted
after the record; an ek that fails the R243 check ends INPUT_INVALID; ML-DSA KEYGEN gives pk and a new slot with the seed; SIGN
gives the signature with its iterations in DETAIL, 814 at most, else it ends FAULT_DETECTED; VERIFY ends OK or VERIFY_FAIL.
Outputs are the standards' functions (opaque). PKE_LAT_LOCK locks PKE_LAT_SHARES_MIN and PKE_SS_CLEAR. (R233, R242, R243, R244,
R245, R246, R247, R248, R250, R252, R253, R261) -/
def Obligations.LatticeJobs : Prop :=
  (∀ e n x s, OnSlice e 0x0101 n x s →
    let q := { Need.none_ with policy := usageBad (aux x 16 8) (uKEM + uEXPORT), units := some 1, bytes := 64, mask := true }
    let d := checkDraws n q s
    Passes s n x q →
    ∃ t, exec (.mlKemKeygen e false) s = .next t ∧ SlotHolds t (nextHandle d.2) x.colour 1 x.desc.pset (usageOr (aux x 16 8) uKEM) d.1 ∧
      EndedWith t e .ok (nextHandle d.2) (primOut (.mlkemKeygen x.desc.pset) [d.1.take 32, d.1.drop 32] (kemEk x.desc.pset))) ∧
  (∀ e n x s, OnSlice e 0x0102 n x s →
    let p := x.desc.pset
    let slot := bit x.desc.aux 3
    let q := { Need.none_ with
        keys := if slot then [slotFails s x.colour x.desc.key (keyIs 1 p uKEM true)] else [],
        policy := secretPolicy s x, units := secretUnits x 32, bytes := 32, mask := true, uses := if slot then [x.desc.key] else [] }
    let d := checkDraws n q s
    let ek := if slot then slotData s x.desc.key else jobInput s x
    Passes s n x q →
    (ekValid p ek = true → ∃ t, exec (.mlKemEncaps e false) s = .next t ∧ SecretMade t e x (nextHandle d.2)
      (primOut (.mlkemEncapsC p) [ek, d.1] (kemC p)) (primOut (.mlkemEncapsK p) [ek, d.1] 32)) ∧
    (ekValid p ek = false → ∃ t, exec (.mlKemEncaps e false) s = .next t ∧ EndedWith t e .inputInvalid 0 [])) ∧
  (∀ e n x s, OnSlice e 0x0103 n x s →
    let p := x.desc.pset
    let q := { Need.none_ with
        keys := [slotFails s x.colour x.desc.key (keyIs 1 p uKEM false)],
        policy := secretPolicy s x, units := secretUnits x 32, mask := true, uses := [x.desc.key] }
    let args := [slotData s x.desc.key, jobInput s x]
    Passes s n x q →
    ∃ t, exec (.mlKemDecaps e false) s = .next t ∧ SecretMade t e x (nextHandle (checkDraws n q s).2) [] (primOut (.mlkemDecaps p) args 32) ∧
      ∃ y, entry? t e = some y ∧ y.late = if Config.primBool (.kemReject 1 p) args then [Obj.PKE_KEM_REJECTS] else []) ∧
  (∀ e n x s, OnSlice e 0x0107 n x s → ∃ t, exec (.mlKemCheck e) s = .next t ∧
    EndedWith t e (if ekValid x.desc.pset (jobInput s x) then .ok else .inputInvalid) 0 []) ∧
  (∀ e n x s, OnSlice e 0x0201 n x s →
    let q := { Need.none_ with policy := usageBad (aux x 16 8) (uSIGN + uVERIFY + uEXPORT), units := some 1, bytes := 32, mask := true }
    let d := checkDraws n q s
    Passes s n x q →
    ∃ t, exec (.mlDsaKeygen e false) s = .next t ∧
      SlotHolds t (nextHandle d.2) x.colour 2 x.desc.pset (usageOr (aux x 16 8) (uSIGN + uVERIFY)) d.1 ∧
      EndedWith t e .ok (nextHandle d.2) (primOut (.mldsaKeygen x.desc.pset) [d.1] (dsaPk x.desc.pset))) ∧
  (∀ e n x s, OnSlice e 0x0204 n x s →
    let p := x.desc.pset
    let det := bit x.desc.aux 2
    let q := { Need.none_ with
        keys := [slotFails s x.colour x.desc.key (keyIs 2 p uSIGN false)], bytes := if det then 0 else 32,
        mask := true, uses := [x.desc.key] }
    let args := [slotData s x.desc.key, dsaMessage x (jobInput s x), if det then zeros 32 else (checkDraws n q s).1, leBytes 1 (aux x 1 0)]
    let iters := 1 + Config.primNat (.mldsaSign p) args
    Passes s n x q →
    (iters ≤ 814 → ∃ t, exec (.mlDsaSign e false) s = .next t ∧ EndedWith t e .ok iters (primOut (.mldsaSign p) args (dsaSig p))) ∧
    (814 < iters → ∃ t, exec (.mlDsaSign e false) s = .next t ∧
      ∃ y, entry? t e = some y ∧ y.status = .faultDetected ∧ y.output = [])) ∧
  (∀ e n x s, OnSlice e 0x0205 n x s →
    let p := x.desc.pset
    let slot := bit x.desc.aux 3
    let q := { Need.none_ with
        keys := if slot then [slotFails s x.colour x.desc.key (keyIs 2 p uVERIFY true)] else [],
        uses := if slot then [x.desc.key] else [] }
    let b := jobInput s x
    let r := if slot then b else b.drop (dsaPk p)
    let good := sigEncoded p (r.take (dsaSig p)) && Config.primBool (.mldsaVerify p) [if slot then slotData s x.desc.key else b.take (dsaPk p), dsaMessage x (r.drop (dsaSig p)),
      r.take (dsaSig p), leBytes 1 (aux x 1 0)]
    Passes s n x q →
    ∃ t, exec (.mlDsaVerify e false) s = .next t ∧ EndedWith t e (if good then .ok else .verifyFail) 0 []) ∧
  ∀ c data s, Deciding c Obj.PKE_LAT_LOCK data latLockRule s → exec (.pkeLatLock c data) s =
    .next (writeDone c Obj.PKE_LAT_LOCK (let t := begun c Obj.PKE_LAT_LOCK data s
      { t with dict := { t.dict with locked := Obj.PKE_LAT_SHARES_MIN :: Obj.PKE_SS_CLEAR :: t.dict.locked } }))

/-- For a job of the opcode on a slice, no hardware fault, its key check passed (a segmented one, in its last segment), and no
access to the large-key store refused: SLH-DSA KEYGEN, SIGN and VERIFY end as their rules say. STATEFUL_KEYGEN seals its free
counter record at NEXT 1 and waits for its slot's archive record. STATEFUL_SIGN with a sound record and an index left signs with
the working index, seals NEXT one higher, and reports the index in DETAIL; with a broken record or a LOST key, or the capacity
reached, it ends STATE_EXHAUSTED. STATEFUL_VERIFY ends OK or VERIFY_FAIL. A rebuild whose root matches leaves the key READY, or
EXHAUSTED at its capacity. (R262, R268, R271, R281, R282, R283, R284, R285, R286, R288, R357) -/
def Obligations.HashSignatureJobs : Prop :=
  (∀ e n x s, OnSlice e 0x0301 n x s →
    let p := x.desc.pset
    let u := ceilDiv (4 * slhN p) 64
    let q := { Need.none_ with policy := usageBad (aux x 16 8) (uSIGN + uVERIFY + uEXPORT), units := some u, bytes := 3 * slhN p }
    let d := checkDraws n q s
    let root := primOut (.slhKeygen p) [d.1] (slhN p)
    Passes s n x q →
    ∃ t, exec (.slhDsaKeygen e false) s = .next t ∧ EndedWith t e .ok (nextHandle d.2) (d.1.drop (2 * slhN p) ++ root) ∧
      SlotHolds t (nextHandle d.2) x.colour 3 p (usageOr (aux x 16 8) (uSIGN + uVERIFY)) (d.1 ++ root)) ∧
  (∀ e n x s, OnSlice e 0x0304 n x s →
    let p := x.desc.pset
    let det := bit x.desc.aux 2
    let q := slhSignNeed x s
    let sk := slotData s x.desc.key
    let opt := if det then slice sk (2 * slhN p) (slhN p) else (runFrom s n x q).1
    Ready s n x q → lastSegment x (runSlhSign x n s).1 = true →
    ∃ t, exec (.slhDsaSign e false) s = .next t ∧ EndedWith t e .ok 0
      (primOut (.slhSign p) [sk, messageRep (aux x 1 0) (aux x 15 8) (aux x 23 16) (jobInput s x), opt] (slhSig p))) ∧
  (∀ e n x s, OnSlice e 0x0305 n x s →
    let p := x.desc.pset
    let slot := bit x.desc.aux 3
    let q := { Need.none_ with
        keys := if slot then [slotFails s x.colour x.desc.key (keyIs 3 p uVERIFY true)] else [],
        uses := if slot then [x.desc.key] else [] }
    let b := jobInput s x
    let r := if slot then b else b.drop (2 * slhN p)
    let good := Config.primBool (.slhVerify p) [if slot then slotData s x.desc.key else b.take (2 * slhN p),
      messageRep (aux x 1 0) (aux x 15 8) (aux x 23 16) (r.drop (slhSig p)), r.take (slhSig p)]
    Passes s n x q →
    ∃ t, exec (.slhDsaVerify e false) s = .next t ∧ EndedWith t e (if good then .ok else .verifyFail) 0 []) ∧
  (∀ e n x s ls r, OnSlice e 0x0401 n x s → (∀ h, x.origin ≠ .rebuild h) → htsLevels x.desc.pset x.desc.aux = some ls → freeRecord s = some r →
    let d := runFrom s n x (htsKeygenNeed x s)
    let h := targetHandle x (draw n 32 d.2).2
    let w := runHtsKeygen false x n s
    Ready s n x (htsKeygenNeed x s) → HoldsTarget x → lastSegment x w.1 = true → sliceRefused e n x w.2 (w.1.release w.2) = none →
    ∃ t, exec (.statefulKeygen e false) s = .next t ∧ counter t r = sealRecord 1 (counter s r).gen ∧
      (∃ y, entry? t e = some y ∧ y.phase = .committing ∧ y.status = .ok ∧ y.detail = h ∧ y.target = some h ∧
        y.output = primOut (.htsKeygen x.desc.pset) [d.1, leBytes 5 (bits x.desc.aux 35 0)] (htsPk x.desc.pset ls)) ∧
      (∃ v, mget? t.kreg.slots h = some v ∧ v.st = .loading ∧ v.stateful = true ∧ v.persist = true ∧ v.alg = 4 ∧ v.units = 2) ∧
      ∃ k, htsKey? t h = some k ∧ k.record = r ∧ k.working = 1 ∧ k.st = .ready) ∧
  (∀ e n x s k, OnSlice e 0x0404 n x s → htsKey? s x.desc.key = some k →
    let p := x.desc.pset
    let h := x.desc.key
    let ls := htsKeyLevels s h
    let w := runHtsSign false x n s
    Passes s n x { Need.none_ with keys := [slotFails s x.colour h (fun v => keyIs 4 p uSIGN false v && v.stateful)], uses := [h] } →
    (sliceRefused e n x w.2 (w.1.release w.2) = none → recordBroken s k = false → k.st ≠ .lost → k.working < htsCap ls → htsSig p ls ≤ x.desc.outLen →
      ∃ t, exec (.statefulSign e false) s = .next t ∧ counter t k.record = sealRecord (k.working + 1) k.gen ∧
        (∃ j, htsKey? t h = some j ∧ j.working = k.working + 1) ∧
        EndedWith t e .ok (k.working % 2 ^ 32) (primOut (.htsSign p) [slotData s h, leBytes 5 k.working, jobInput s x] (htsSig p ls))) ∧
    (recordBroken s k = true ∨ k.st = .lost ∨ htsCap ls ≤ k.working →
      ∃ t, exec (.statefulSign e false) s = .next t ∧ EndedWith t e .stateExhausted 0 [] ∧ counter t k.record = counter s k.record)) ∧
  (∀ e n x s len ls, OnSlice e 0x0405 n x s →
    let p := x.desc.pset
    let slot := bit x.desc.aux 3
    let q := { Need.none_ with
        keys := if slot then [slotFails s x.colour x.desc.key (keyIs 4 p uVERIFY true)] else [],
        uses := if slot then [x.desc.key] else [] }
    let pkb := if slot then slotData s x.desc.key else jobInput s x
    let r := if slot then jobInput s x else (jobInput s x).drop len
    let good := decide (htsSig p ls ≤ r.length) && Config.primBool (.htsVerify p) [pkb.take len, r.drop (htsSig p ls), r.take (htsSig p ls)]
    Passes s n x q → htsPkLen p pkb = some len → htsSigLevels p (pkb.take len) r = some ls →
    ∃ t, exec (.statefulVerify e false) s = .next t ∧ EndedWith t e (if good then .ok else .verifyFail) 0 []) ∧
  ∀ e n h x k s, entry? s e = some x → x.origin = .rebuild h → x.phase = .running n → htsKey? s h = some k →
    (resumePages x = [] ∨ x.progress + 1 = segments (rebuildCyc s h)) →
    ∃ t, exec (.statefulRebuild e true) s = .next t ∧ EndedWith t e .ok 0 [] ∧
      htsKey? t h = some { k with st := if htsCap (htsKeyLevels s h) ≤ k.working then .exhausted else .ready }

/-- For a job of the opcode that runs on a slice with no hardware fault, its key check passed (a segmented one, in its last
segment), no access to the large-key store refused: Classic McEliece KEYGEN makes the private key's slot and the public key's LKS
entry and reports both handles; HQC KEYGEN makes a slot; ENCAPS and DECAPS deliver the secret; an HQC key with bits above n ends
INPUT_INVALID; curve KEYGEN, SIGN, VERIFY, AGREE and CHECK end as R303-R313 say, a bad point INPUT_INVALID and an all-zero
Montgomery secret RESULT_REJECTED with no output. Outputs are the standards' functions (opaque). (R233, R290, R294, R295, R297,
R298, R303, R304, R305, R307, R309, R313) -/
def Obligations.CodeAndCurveJobs : Prop :=
  (∀ e n x s, OnSlice e 0x0501 n x s →
    let p := x.desc.pset
    (isMce p = true →
      let d := runFrom s n x (mceKeygenNeed x)
      let h := targetHandle x d.2
      let w := runMceKeygen x n s
      Ready s n x (mceKeygenNeed x) → HoldsTarget x → lastSegment x w.1 = true → sliceRefused e n x w.2 (w.1.release w.2) = none →
      ∃ t, exec (.codeKemKeygen e false) s = .next t ∧
      EndedWith t e .ok (h + targetLks x d.2 * 65536) (if bit x.desc.aux 4 then primOut (.mceKeygenPub p) [d.1] (codePk p) else []) ∧
      SlotHolds t h x.colour 5 p (usageOr (aux x 16 8) uKEM) (primOut (.mceKeygenPriv p) [d.1] (codeSk p)) ∧
      ∃ l, lks? t (targetLks x d.2) = some l ∧ l.owner = x.colour ∧ l.state = 2 ∧ l.kind = 1 ∧ l.pset = p ∧
        l.data = primOut (.mceKeygenPub p) [d.1] (codePk p)) ∧
    (isMce p = false →
      let q := { Need.none_ with
        policy := usageBad (aux x 16 8) (uKEM + uEXPORT), units := some (ceilDiv (codeSk p) 64), bytes := 80, mask := true }
      let d := checkDraws n q s
      let h := nextHandle d.2
      Passes s n x q → ∃ t, exec (.codeKemKeygen e false) s = .next t ∧
      EndedWith t e .ok h ((primOut (.hqcKeygen p) [d.1] (codePk p + codeSk p)).take (codePk p)) ∧
      SlotHolds t h x.colour 5 p (usageOr (aux x 16 8) uKEM) ((primOut (.hqcKeygen p) [d.1] (codePk p + codeSk p)).drop (codePk p)))) ∧
  (∀ e n x s, OnSlice e 0x0502 n x s →
    let p := x.desc.pset
    let slot := bit x.desc.aux 3
    let q := { Need.none_ with
        keys := if isMce p then [mceKeyFails s x e x.desc.key] else if slot then [slotFails s x.colour x.desc.key (codeKeyIs p true)] else [],
        policy := secretPolicy s x, units := secretUnits x (codeK p), bytes := if isMce p then 32 else 48,
        uses := if !(isMce p) && slot then [x.desc.key] else [] }
    let d := checkDraws n q s
    let pk := if isMce p then ((lks? s x.desc.key).map (·.data)).getD [] else if slot then slotData s x.desc.key else jobInput s x
    Passes s n x q →
    let w := runCodeEncaps e x n s
    (isMce p = true → sliceRefused e n x w.2 (w.1.release w.2) = none → ∃ t, exec (.codeKemEncaps e false) s = .next t ∧ SecretMade t e x (nextHandle d.2)
      (primOut (.mceEncapsC p) [pk, d.1] (codeC p)) (primOut (.mceEncapsK p) [pk, d.1] 32)) ∧
    (isMce p = false → hqcPkValid p pk = true → ∃ t, exec (.codeKemEncaps e false) s = .next t ∧ SecretMade t e x (nextHandle d.2)
      (primOut (.hqcEncapsC p) [pk, d.1] (codeC p)) (primOut (.hqcEncapsK p) [pk, d.1] 64)) ∧
    (isMce p = false → hqcPkValid p pk = false → ∃ t, exec (.codeKemEncaps e false) s = .next t ∧ EndedWith t e .inputInvalid 0 [])) ∧
  (∀ e n x s, OnSlice e 0x0503 n x s →
    let p := x.desc.pset
    let q := { Need.none_ with
        keys := [slotFails s x.colour x.desc.key (codeKeyIs p false)], policy := secretPolicy s x,
        units := secretUnits x (codeK p), mask := true, uses := [x.desc.key] }
    Passes s n x q →
    ∃ t, exec (.codeKemDecaps e false) s = .next t ∧ SecretMade t e x (nextHandle (checkDraws n q s).2) []
      (primOut (if isMce p then .mceDecaps p else .hqcDecaps p) [slotData s x.desc.key, jobInput s x] (codeK p))) ∧
  (∀ e n x s, OnSlice e 0x0601 n x s →
    let p := x.desc.pset
    let q := { Need.none_ with policy := eccUsageBad p (aux x 16 8), units := some (eccUnits p), bytes := eccDraw p, mask := true }
    let d := checkDraws n q s
    let k := if isP p then primOut (.eccPriv p) [d.1] (eccPrivLen p) else d.1
    Passes s n x q →
    ∃ t, exec (.eccKeygen e false) s = .next t ∧ EndedWith t e .ok (nextHandle d.2) (eccPublic p k) ∧
      SlotHolds t (nextHandle d.2) x.colour 6 p (eccUsage p (aux x 16 8)) k) ∧
  (∀ e n x s, OnSlice e 0x0604 n x s →
    let p := x.desc.pset
    let q := { Need.none_ with
        keys := [slotFails s x.colour x.desc.key (keyIs 6 p uSIGN false)], bytes := if isP p then eccDraw p else 0,
        mask := true, uses := [x.desc.key] }
    Passes s n x q →
    ∃ t, exec (.eccSign e false) s = .next t ∧ EndedWith t e .ok 0
      (eccSignature p (slotData s x.desc.key) (jobInput s x) (checkDraws n q s).1 (leBytes 2 (aux x 15 0)))) ∧
  (∀ e n x s, OnSlice e 0x0605 n x s →
    let p := x.desc.pset
    let slot := bit x.desc.aux 3
    let q := { Need.none_ with
        keys := if slot then [slotFails s x.colour x.desc.key (keyIs 6 p uVERIFY true)] else [],
        uses := if slot then [x.desc.key] else [] }
    let b := jobInput s x
    let pk := if slot then slotData s x.desc.key else b.take (eccPubLen p)
    let r := if slot then b else b.drop (eccPubLen p)
    let good := eccVerifies p pk (r.drop (eccSigLen p)) r (leBytes 2 (aux x 15 8 * 256 + aux x 1 0))
    Passes s n x q →
    ∃ t, exec (.eccVerify e false) s = .next t ∧
      EndedWith t e (if pointBad p pk then .inputInvalid else if good then .ok else .verifyFail) 0 []) ∧
  (∀ e n x s, OnSlice e 0x0606 n x s →
    let p := x.desc.pset
    let slot := bit x.desc.aux 3
    let q := { Need.none_ with
        keys := slotFails s x.colour x.desc.key (keyIs 6 p uAGREE false) ::
          (if slot then [slotFails s x.colour x.desc.key2 (keyIs 6 p uAGREE true)] else []),
        policy := secretPolicy s x, units := secretUnits x (eccShareLen p), mask := true,
        uses := x.desc.key :: (if slot then [x.desc.key2] else []) }
    let peer := if slot then slotData s x.desc.key2 else jobInput s x
    let z := eccShared p (slotData s x.desc.key) peer
    let bad := isP p && pointBad p peer
    let zero := isMont p && allZero z && (isGraft x || !(xzeroOff s x.colour))
    Passes s n x q →
    ∃ t, exec (.eccAgree e false) s = .next t ∧ (bad = true → EndedWith t e .inputInvalid 0 []) ∧
      (bad = false → zero = true → EndedWith t e .resultRejected 0 []) ∧
      (bad = false → zero = false → SecretMade t e x (nextHandle (checkDraws n q s).2) [] z)) ∧
  ∀ e n x s, OnSlice e 0x0607 n x s → ∃ t, exec (.eccCheck e) s = .next t ∧
    EndedWith t e (if pointBad x.desc.pset (jobInput s x) then .inputInvalid else .ok) 0 []

/-- For a job of the opcode that runs on a slice with no hardware fault, its key check passed (KEYGEN, in its last segment):
KEYGEN gives n = pq and e = 65,537 and a new slot of the primes and their CRT values; SIGN raises the padded (or raw) input to the
private exponent; VERIFY ends OK only for s below n whose encoded message is the one expected; ENCRYPT raises the padded (or raw)
message to e; DECRYPT delivers the recovered secret, or the raw block; integers outside R323's range end INPUT_INVALID, a bad OAEP
block VERIFY_FAIL. Padding is the standards' (opaque). (R233, R236, R320, R321, R322, R323, R324, R325) -/
def Obligations.RsaJobs : Prop :=
  (∀ e n x s, OnSlice e 0x0701 n x s →
    let p := x.desc.pset
    let d := runFrom s n x (rsaKeygenNeed x)
    let pq := rsaPrimes p d.1
    Ready s n x (rsaKeygenNeed x) → HoldsTarget x → lastSegment x (runRsaKeygen x n s).1 = true →
    ∃ t, exec (.rsaKeygen e false) s = .next t ∧
      EndedWith t e .ok (targetHandle x d.2) ((beBytes (rsaK p) (pq.1 * pq.2) ++ beBytes 4 65537).take (rsaK p + 4)) ∧
      SlotHolds t (targetHandle x d.2) x.colour 7 p (usageOr (aux x 16 8) (uSIGN + uVERIFY)) (rsaPrivSlot p pq)) ∧
  (∀ e n x s, OnSlice e 0x0704 n x s →
    let p := x.desc.pset
    let k := rsaK p
    let pad := aux x 5 4
    let hash := aux x 31 24
    let q := { Need.none_ with
        keys := [slotFails s x.colour x.desc.key (keyIs 7 p uSIGN false)],
        bytes := if pad = 2 then rsaHLen hash else 0, mask := true, uses := [x.desc.key] }
    let v := rsaRead k (slotData s x.desc.key)
    let b := jobInput s x
    let em := if pad = 0 then b else primOut (.rsaPad pad) [leBytes 1 hash, b, (checkDraws n q s).1] k
    let bad := decide (pad = 0) && rsaIntBad v.n (beNat b)
    Passes s n x q →
    ∃ t, exec (.rsaSign e false) s = .next t ∧ (bad = true → EndedWith t e .inputInvalid 0 []) ∧
      (bad = false → EndedWith t e .ok 0 (beBytes k (rsaPrivate k v (beNat em))))) ∧
  (∀ e n x s, OnSlice e 0x0705 n x s →
    let p := x.desc.pset
    let k := rsaK p
    let pad := aux x 5 4
    let hash := aux x 31 24
    let slot := bit x.desc.aux 3
    let q := { Need.none_ with
        keys := if slot then [slotFails s x.colour x.desc.key (keyIs 7 p uVERIFY true)] else [],
        uses := if slot then [x.desc.key] else [] }
    let v := rsaPublicOf s x
    let sig := beNat (v.2.2.take k)
    let m := v.2.2.drop k
    let em := rsaPublic v.1 v.2.1 sig
    let bad := !slot && rsaPubBad k v.1 v.2.1
    Passes s n x q →
    ∃ t, exec (.rsaVerify e false) s = .next t ∧ (bad = true → EndedWith t e .inputInvalid 0 []) ∧
      (bad = false → v.1 ≤ sig → EndedWith t e .verifyFail 0 []) ∧
      (bad = false → sig < v.1 → pad = 0 → EndedWith t e (if em = beNat m then .ok else .verifyFail) 0 []) ∧
      (bad = false → sig < v.1 → pad = 1 →
        EndedWith t e (if em = beNat (primOut (.rsaPad 1) [leBytes 1 hash, m, []] k) then .ok else .verifyFail) 0 []) ∧
      (bad = false → sig < v.1 → 2 ≤ pad →
        EndedWith t e (if Config.primBool (.rsaUnpad 2) [leBytes 1 hash, beBytes k em, m] then .ok else .verifyFail) 0 [])) ∧
  (∀ e n x s, OnSlice e 0x0708 n x s →
    let p := x.desc.pset
    let k := rsaK p
    let pad := aux x 5 4
    let hash := aux x 31 24
    let slot := bit x.desc.aux 3
    let q := { Need.none_ with
        keys := if slot then [slotFails s x.colour x.desc.key (keyIs 7 p uKEM true)] else [],
        bytes := if pad = 3 then rsaHLen hash else 0, uses := if slot then [x.desc.key] else [] }
    let v := rsaPublicOf s x
    let em := if pad = 0 then v.2.2 else primOut (.rsaPad 3) [leBytes 1 hash, v.2.2, (checkDraws n q s).1] k
    let bad := (!slot && rsaPubBad k v.1 v.2.1) || (decide (pad = 0) && rsaIntBad v.1 (beNat v.2.2))
    Passes s n x q →
    ∃ t, exec (.rsaEncrypt e false) s = .next t ∧ (bad = true → EndedWith t e .inputInvalid 0 []) ∧
      (bad = false → EndedWith t e .ok 0 (beBytes k (rsaPublic v.1 v.2.1 (beNat em))))) ∧
  ∀ e n x s, OnSlice e 0x0709 n x s →
    let p := x.desc.pset
    let k := rsaK p
    let pad := aux x 5 4
    let q := { Need.none_ with
        keys := [slotFails s x.colour x.desc.key (keyIs 7 p uKEM false)], policy := secretPolicy s x,
        units := secretUnits x 64, mask := true, uses := [x.desc.key] }
    let v := rsaRead k (slotData s x.desc.key)
    let c := beNat (jobInput s x)
    let em := beBytes k (rsaPrivate k v c)
    let args := [leBytes 1 (aux x 31 24), em]
    let len := Config.primNat (.rsaUnpad 3) args % (k - 2 * rsaHLen (aux x 31 24) - 1)
    let good := Config.primBool (.rsaUnpad 3) args && (decide (aux x 1 0 = 1) || decide (len = aux x 39 32))
    Passes s n x q →
    ∃ t, exec (.rsaDecrypt e false) s = .next t ∧ (rsaIntBad v.n c = true → EndedWith t e .inputInvalid 0 []) ∧
      (rsaIntBad v.n c = false → pad = 0 → EndedWith t e .ok 0 em) ∧
      (rsaIntBad v.n c = false → pad ≠ 0 → good = false → EndedWith t e .verifyFail 0 []) ∧
      (rsaIntBad v.n c = false → pad ≠ 0 → good = true →
        SecretMade t e x (nextHandle (checkDraws n q s).2) [] (primOut (.rsaUnpad 3) args len))

/-- The key check gives KEY_EMPTY exactly where a handle is empty or an erasure runs; KEY_POLICY only for a handle's or the
command's policy; QUOTA only past those; ENTROPY_FAIL only for a draw without a READY source or a mask on an unseeded expander. A
job not checked yet whose check fails stops at 120 cycles; but for ENTROPY_FAIL it ends with that status, DETAIL 0, no output, 120
cycles and its bench waits more, and no slot changed. With the slice's hardware failing, each of the commands named whose run ends
OK, VERIFY_FAIL or RESULT_REJECTED in its last segment ends by the failed invariant instead: where it holds no pages, the job is
stopped FAULT_DETECTED, the slice re-initialised, PKE_FAULTS counted, and tamper source S17 takes an event of that slice. (R189,
R191, R192, R219, R231, R233) -/
def Obligations.KeyChecks : Prop :=
  (∀ s colour seeded q, let k := keyCheck s colour seeded q
    ((some Status.keyEmpty ∈ q.keys ∨ s.kreg.erasing ≠ none) ↔ k = some .keyEmpty) ∧
    (k = some .keyPolicy → some Status.keyPolicy ∈ q.keys ∨ q.policy = true) ∧
    (k = some .quota → q.policy = false ∧ some Status.keyPolicy ∉ q.keys ∧ some Status.stateExhausted ∉ q.keys) ∧
    (k = some .entropyFail → ((q.bytes ≠ 0 ∧ s.rng.st ≠ .ready) ∨ (q.mask = true ∧ seeded = false)) ∧ q.other = false)) ∧
  (∀ (x : Entry) n q run s st, x.keyChecked = false → keyCheck s (quotaColour x) (slice_ s n).seeded q = some st → checked x n q run s = (Res.stop st 120, s)) ∧
  (∀ e x n st s, entry? s e = some x → x.phase = .running n → (st = .keyEmpty ∨ st = .keyPolicy ∨ st = .stateExhausted ∨ st = .quota) →
    let t := finish e (Res.stop st 120) s
    EndedWith t e st 0 [] ∧ t.kreg.slots = s.kreg.slots ∧ ∃ y, entry? t e = some y ∧ y.cycles = x.cycles + 120 + owedTo s e) ∧
  (∀ e i op (f : Entry → Nat → State → Res × State) n x s,
    ((i = .mlKemKeygen e true ∧ op = 0x0101 ∧ f = runKemKeygen) ∨ (i = .mlKemEncaps e true ∧ op = 0x0102 ∧ f = runKemEncaps) ∨
     (i = .mlKemDecaps e true ∧ op = 0x0103 ∧ f = runKemDecaps) ∨ (i = .mlDsaKeygen e true ∧ op = 0x0201 ∧ f = runDsaKeygen) ∨
     (i = .mlDsaSign e true ∧ op = 0x0204 ∧ f = runDsaSign) ∨ (i = .mlDsaVerify e true ∧ op = 0x0205 ∧ f = runDsaVerify) ∨
     (i = .slhDsaKeygen e true ∧ op = 0x0301 ∧ f = runSlhKeygen) ∨ (i = .slhDsaSign e true ∧ op = 0x0304 ∧ f = runSlhSign) ∨
     (i = .slhDsaVerify e true ∧ op = 0x0305 ∧ f = runSlhVerify) ∨
     (i = .statefulKeygen e true ∧ op = 0x0401 ∧ f = runHtsKeygen true ∧ ∀ h, x.origin ≠ .rebuild h) ∨
     (i = .statefulSign e true ∧ op = 0x0404 ∧ f = runHtsSign true) ∨ (i = .statefulVerify e true ∧ op = 0x0405 ∧ f = runHtsVerify) ∨
     (i = .codeKemKeygen e true ∧ op = 0x0501 ∧ f = runCodeKeygen) ∨ (i = .codeKemEncaps e true ∧ op = 0x0502 ∧ f = runCodeEncaps e) ∨
     (i = .codeKemDecaps e true ∧ op = 0x0503 ∧ f = runCodeDecaps) ∨ (i = .eccKeygen e true ∧ op = 0x0601 ∧ f = runEccKeygen) ∨
     (i = .eccSign e true ∧ op = 0x0604 ∧ f = runEccSign) ∨ (i = .eccVerify e true ∧ op = 0x0605 ∧ f = runEccVerify) ∨
     (i = .eccAgree e true ∧ op = 0x0606 ∧ f = runEccAgree) ∨ (i = .rsaKeygen e true ∧ op = 0x0701 ∧ f = runRsaKeygen) ∨
     (i = .rsaSign e true ∧ op = 0x0704 ∧ f = runRsaSign) ∨ (i = .rsaVerify e true ∧ op = 0x0705 ∧ f = runRsaVerify) ∨
     (i = .rsaEncrypt e true ∧ op = 0x0708 ∧ f = runRsaEncrypt) ∨ (i = .rsaDecrypt e true ∧ op = 0x0709 ∧ f = runRsaDecrypt)) →
    OnSlice e op n x s → lastSegment x (f x n s).1 = true → (f x n s).1.st = .ok ∨ (f x n s).1.st = .verifyFail ∨ (f x n s).1.st = .resultRejected →
    exec i s = .next (invariantFailure e (spend e (f x n s).1.cycles (f x n s).2))) ∧
  ∀ e x n s, entry? s e = some x → x.phase = .running n → x.pages = [] →
    invariantFailure e s = tamperEvent 17 (.slice n) n (bump Obj.PKE_FAULTS (haltJob e .faultDetected 0 (reinitSlice n s)))

/-- For a job at the head of the key manager's queue whose checks pass: IMPORT_WRAPPED with a matching tag and a good key makes
the slot DETAIL names, or, with PERSIST, waits for its ADD record; a bad blob ends INPUT_INVALID, a wrong tag VERIFY_FAIL.
EXPORT_WRAPPED outputs header, ciphertext and tag. DELETE of a slot that no circuit and no packet in process holds frees it, or
waits for its DROP record; of an LKS entry frees or drains it. PERSIST and UNPERSIST wait for their record, or end UNSUPPORTED
with no archive. IMPORT_PUBLIC of a valid key, given the slice its check needs, makes a public slot or LKS entry. ATTEST, given
its two slices, outputs the statement and its two signatures. (R308, R333, R342, R345, R346, R347, R348, R349, R350, R358) -/
def Obligations.KeyManagerJobs : Prop :=
  (∀ e x s, AtManager e 0x0920 x s →
    let b := jobInput s x
    let alg := byteAt b 8
    let l := field b 12 4
    let typ := byteAt b 4
    let narrow := aux x 24 16
    let vc := importVC alg (byteAt b 9)
    let q := { Need.none_ with
        keys := if typ = 1 then [slotFails s x.colour x.desc.key2 wrapOk] else [],
        policy := decide (alg = 4 ∨ alg = 0x0B) || (decide (narrow ≠ 0) && usageBad narrow (field b 10 2)),
        units := some (privUnits alg (byteAt b 9) l), mask := decide (vc ≠ (0, 0)), uses := if typ = 1 then [x.desc.key2] else [] }
    let kb := blobKey s (if typ = 1 then some (slotData s x.desc.key2) else none) (if typ = 1 then field b 6 2 else x.colour) b
    let key := gcmXor kb (slice b 24 12) (slice b 40 l)
    let good := slice b (40 + l) 16 = gcmTag kb (slice b 24 12) (b.take 40) (slice b 40 l)
    (blobBad b x.desc.key2 = true → ∃ t, exec (.importWrapped e) s = .next t ∧ EndedWith t e .inputInvalid 0 []) ∧
    (blobBad b x.desc.key2 = false → keyCheck s x.colour true q = none → vc = (0, 0) →
      (¬ good → ∃ t, exec (.importWrapped e) s = .next t ∧ EndedWith t e .verifyFail 0 [] ∧ mget? t.kreg.slots (nextHandle s) = none) ∧
      (good → privBad alg (byteAt b 9) key = false → bit x.desc.aux 26 = false → ∃ t, exec (.importWrapped e) s = .next t ∧
        EndedWith t e .ok (nextHandle s) [] ∧
        SlotHolds t (nextHandle s) x.colour alg (byteAt b 9) (if narrow = 0 then field b 10 2 else narrow) key) ∧
      (good → privBad alg (byteAt b 9) key = false → bit x.desc.aux 26 = true → archiveOpen s = true → ∃ t, exec (.importWrapped e) s = .next t ∧
        (∃ v, AwaitsRecord t e (nextHandle s) (.addSlot (s.kreg.archSerial + 1) (nextHandle s) v) (.activate (nextHandle s)) ∧ v.data = key) ∧
        ∃ v, mget? t.kreg.slots (nextHandle s) = some v ∧ v.st = .loading))) ∧
  (∀ e x v s, AtManager e 0x0921 x s → slot? s x.desc.key = some v → 56 + v.data.length ≤ x.desc.outLen →
    let h := x.desc.key
    let w := x.desc.key2
    let q := { Need.none_ with
        keys := slotFails s x.colour h (fun y => decide (y.usage &&& uEXPORT = uEXPORT) && decide (y.alg ≠ 4 ∧ y.alg ≠ 0x0B)) ::
          (if w = 0 then [] else [slotFails s x.colour w wrapOk]),
        policy := decide (w ≠ 0 ∧ w = h), bytes := 12, uses := h :: (if w = 0 then [] else [w]) }
    keyCheck s x.colour true q = none →
    ∃ t nonce, exec (.exportWrapped e) s = .next t ∧ nonce.length = 12 ∧
      let hd := blobHeader (if w = 0 then 2 else 1) v.owner v.alg v.pset v.usage v.data.length (lifeLeft s v) nonce
      let kb := blobKey s (if w = 0 then none else some (slotData s w)) (if w = 0 then x.colour else v.owner) hd
      EndedWith t e .ok 0 (hd ++ gcmXor kb nonce (slotData s h) ++ gcmTag kb nonce hd (gcmXor kb nonce (slotData s h)))) ∧
  (∀ e x v s, AtManager e 0x0922 x s → bit x.desc.aux 25 = false → namedSlot s x.colour x.desc.key = some v → circuitHolds s x.desc.key = false →
    ((htsKey? s x.desc.key).isSome = true ∨ keyFixed s x.desc.key = false) →
    let h := x.desc.key
    let r := s.kreg.archSerial + 1
    (aux x 7 0 = 0 → (v.persist && archiveOpen s) = false →
      ∃ t, exec (.delete e) s = .next t ∧ EndedWith t e .ok 0 [] ∧ mget? t.kreg.slots h = none) ∧
    (aux x 7 0 = 0 → v.persist = true → archiveOpen s = true →
      ∃ t, exec (.delete e) s = .next t ∧ AwaitsRecord t e 0 (.dropSlot r h) (.freeSlot h)) ∧
    (aux x 7 0 = 1 → v.alg ≠ 0x0B → v.st ≠ .retired → archiveOpen s = true →
      ∃ t, exec (.persist e) s = .next t ∧ AwaitsRecord t e 0 (.addSlot r h { masked s h v with persist := true }) (.setPersist h)) ∧
    (aux x 7 0 = 2 → archiveOpen s = true → ∃ t, exec (.unpersist e) s = .next t ∧ AwaitsRecord t e 0 (.dropSlot r h) (.clearPersist h)) ∧
    (aux x 7 0 = 2 → archiveOpen s = false → ∃ t, exec (.unpersist e) s = .next t ∧ EndedWith t e .unsupported 0 [])) ∧
  (∀ e x v s, AtManager e 0x0922 x s → bit x.desc.aux 25 = true → lks? s x.desc.key = some v → v.owner = x.colour → v.state = 2 →
    let h := x.desc.key
    let r := s.kreg.archSerial + 1
    (aux x 7 0 = 0 → (v.persist && archiveOpen s) = false → keysRise s.kreg.lks = true →
      ∃ t, exec (.delete e) s = .next t ∧ EndedWith t e .ok 0 [] ∧ ∀ l, lks? t h = some l → l.state = 3) ∧
    (aux x 7 0 = 0 → v.persist = true → archiveOpen s = true → ∃ t, exec (.delete e) s = .next t ∧ AwaitsRecord t e 0 (.dropLks r h) (.freeLks h)) ∧
    (aux x 7 0 = 1 → v.kind ≠ 2 → archiveOpen s = true →
      ∃ t, exec (.persist e) s = .next t ∧ AwaitsRecord t e 0 (.addLks r h { v with persist := true }) (.setPersistLks h)) ∧
    (aux x 7 0 = 2 → archiveOpen s = true → ∃ t, exec (.unpersist e) s = .next t ∧ AwaitsRecord t e 0 (.dropLks r h) (.clearPersistLks h))) ∧
  (∀ e x s len chk allowed, AtManager e 0x0923 x s →
    let alg := aux x 7 0
    let p := aux x 15 8
    let u := aux x 24 16
    let b := jobInput s x
    publicInfo alg p = some (len, chk, allowed) → bit x.desc.aux 26 = false → publicValid alg p b = true →
    (publicSlice x s = [] ∨ ∃ c, publicSlice x s = [c] ∧ classFenced s c = false ∧ (sliceFor s e c).isSome = true) →
    ((alg ≠ 5 ∨ isMce p = false) →
      keyCheck s x.colour true { Need.none_ with policy := decide (u ≠ 0 ∧ u ∉ allowed), units := some (max 1 (ceilDiv b.length 64)) } = none →
      ∃ t, exec (.importPublic e) s = .next t ∧ EndedWith t e .ok (nextHandle s) [] ∧
        SlotHolds t (nextHandle s) x.colour alg p (usageOr u (allowed.headD 0)) b ∧
        ∃ v, mget? t.kreg.slots (nextHandle s) = some v ∧ v.isPublic = true) ∧
    (alg = 5 → isMce p = true →
      keyCheck s x.colour true { Need.none_ with policy := decide (u ≠ 0 ∧ u ≠ uKEM), lks := some (ceilDiv b.length 4096) } = none →
      let y := takenUp x s
      let w := runImportMce y 0xFF (setEntry e y s)
      streamRefused e y w.1 (w.1.release w.2) = none →
      ∃ t, exec (.importPublic e) s = .next t ∧ EndedWith t e .ok (nextLks s * 65536) [] ∧
        ∃ l, lks? t (nextLks s) = some l ∧ l.owner = x.colour ∧ l.pset = p ∧ l.state = 2 ∧ l.data = b)) ∧
  ∀ e x v kd ke n m s, AtManager e 0x0924 x s → namedSlot s x.colour x.desc.key = some v → attestKey s 2 = some kd → attestKey s 6 = some ke →
    s.rng.st = .ready → classFenced s 0 = false → classFenced s 2 = false → sliceFor s e 0 = some n → sliceFor s e 2 = some m →
    (slice_ s n).seeded = true →
    let st := attestStatement s x.desc.key v (jobInput s x)
    ∃ t rnd k, exec (.attest e false) s = .next t ∧ rnd.length = 32 ∧ k.length = 56 ∧ EndedWith t e .ok 0
      (st ++ primOut (.mldsaSign 3) [kd, messageRep 0 9 0 (ascii "zk-attest" ++ st), rnd, leBytes 1 0] 4627 ++
        eccSignature 2 ke (primOut (.hash 0x02) [st] 48) k (zeros 2))

/-- KEY_EXPIRY retires an ACTIVE slot for the grace time, or frees it with no grace (a PERSIST slot of an open archive apart)
unless a packet in process has fixed it, and leaves a slot that a circuit holds. MASK_REFRESH comes 10 ms after the last and gives
a seed of 28 bits, the key unchanged. ERASE_OVERWRITE_DONE leaves every slot EMPTY with new K_scr and K_mask. ARCHIVE_COMMIT_DONE
writes the oldest record, applies its effect and ends its job; a stopped job's is not written. Compaction seals the live records
in the other half with the next serial and erases the old one. KREG_ARCH_INIT starts an empty archive under a drawn KEK.
ARCHIVE_RESTORE during a release restores, queues the rebuilds, admits what fits and sets RELEASE_STATE 2. KREG_FILL_START starts
a fill; its time-out fails it and frees its slot. (R334, R338, R340, R352, R353, R355, R358, R359, R360) -/
def Obligations.KeyRegisterEvents : Prop :=
  (∀ h v s, slot? s h = some v → v.expiry ≠ 0 → v.st ≠ .loading →
    let s1 := advanceToExpiry v.expiry s
    exec (.keyExpiry h) s = .next (expireSlot h v s1) ∧
    (circuitHolds s h = true → expireSlot h v s1 = s1) ∧
    (circuitHolds s h = false → v.st = .active → objVal s Obj.KREG_RETIRE_GRACE ≠ 0 →
      ∃ w, mget? (expireSlot h v s1).kreg.slots h = some w ∧ w.st = .retired ∧ w.data = v.data ∧
        w.expiry = expiryIn s1 (objVal s Obj.KREG_RETIRE_GRACE)) ∧
    (circuitHolds s h = false → (v.st ≠ .active ∨ objVal s Obj.KREG_RETIRE_GRACE = 0) → (v.persist && archiveOpen s) = false →
      ((htsKey? s h).isSome = true ∨ keyFixed s h = false) →
      mget? (expireSlot h v s1).kreg.slots h = none)) ∧
  (∀ h x s, mget? s.kreg.slots h = some x → ∃ t y, exec (.maskRefresh h) s = .next t ∧ mget? t.kreg.slots h = some y ∧
    y = { x with seed := y.seed, accesses := 0, refreshedAt := max s.now (x.refreshedAt + ms 10), data := y.data, pub := y.pub } ∧
    y.seed < 2 ^ 28 ∧ slotData t h = slotData s h) ∧
  (∀ k s, s.kreg.erasing = some k → exec .eraseOverwriteDone s = .next (eraseDone s)) ∧
  (∀ s, (eraseDone s).kreg.erasing = none ∧ (eraseDone s).kreg.slots = [] ∧ (eraseDone s).kreg.kScr.length = 32 ∧
    (eraseDone s).kreg.kMask.length = 32) ∧
  (∀ c r s, s.kreg.commits = c :: r →
    let s1 := { s with kreg := { s.kreg with commits := r } }
    (c.entry = none → exec .archiveCommitDone s = .next (archEffect c.effect (writeArch c.record s1))) ∧
    (∀ e x, c.entry = some e → entry? s e = some x → x.phase = .committing → ∃ t, exec .archiveCommitDone s = .next t ∧
      entry? t e = some { x with phase := .ended, target := none } ∧ t.kreg = (archEffect c.effect (writeArch c.record s1)).kreg) ∧
    (∀ e x, c.entry = some e → entry? s e = some x → x.phase ≠ .committing → exec .archiveCommitDone s = .next s1)) ∧
  (∀ h s, activeHalf s = some h →
    (compactAt ≤ h.length → exec (.archiveCompact none) s = .next (compactArchive s)) ∧
    (∀ at_, h.length < compactAt → s.kreg.dropAt = some at_ → exec (.archiveCompact none) s =
      .next (compactArchive { s with now := max s.now (at_ + sec (objVal s Obj.KREG_ARCH_COMPACT_MAX)) })) ∧
    activeHalf (compactArchive s) = some (archHeader (halfSerial h + 1) (archCheck (archKey s)) ++
      (liveRecs (halfRecs s h)).flatMap (sealRec (archKey s))) ∧
    (compactArchive s).kreg.activeB = (!s.kreg.activeB) ∧
    (if s.kreg.activeB then (compactArchive s).kreg.halfB = [] else (compactArchive s).kreg.halfA = [])) ∧
  (∀ c data s, Deciding c Obj.KREG_ARCH_COMPACT data archCompactRule s →
    exec (.archiveCompact (some (c, data))) s = .next (writeDone c Obj.KREG_ARCH_COMPACT (compactArchive (begun c Obj.KREG_ARCH_COMPACT data s)))) ∧
  (∀ c data s, Deciding c Obj.KREG_ARCH_INIT data (archInitRule s) s →
    exec (.kregArchInit c data) s = .next (writeDone c Obj.KREG_ARCH_INIT (freshArchive (begun c Obj.KREG_ARCH_INIT data s)))) ∧
  (∀ s, let t := freshArchive s
    t.kreg.kek = (draw 43 32 s).1 ∧ t.kreg.kek.length = 32 ∧ t.kreg.halfB = [] ∧ t.kreg.activeB = false ∧
    t.kreg.halfA = archHeader 1 (archCheck (archKey t))) ∧
  (∀ torn bad s, objVal s Obj.TMP_RELEASE_STATE = 1 →
    exec (.archiveRestore torn bad) s = .next (renewPolls (admitInternal (queueRebuilds (setObj Obj.TMP_RELEASE_STATE 2 (restoreArchive false torn bad s)))))) ∧
  (∀ c data s, Deciding c Obj.KREG_FILL_START data (fillStartRule s) s →
    exec (.kregFillStart c data) s = .next (writeDone c Obj.KREG_FILL_START (startFill (begun c Obj.KREG_FILL_START data s)))) ∧
  ∀ f s, s.kreg.fill = some f → keysRise s.dict.obj = true → ∃ t, exec .fillTimeout s = .next t ∧ t.kreg.fill = none ∧
    mget? t.kreg.slots f.handle = none ∧ objVal t Obj.KREG_FILL_STATE = 3 ∧ t.now = max s.now (f.startedAt + sec 300)

/-- For a job that a digest unit serves, with no access to its context refused: OPEN past its key check makes the next free number
LIVE with the descriptor's record. ABSORB appends its input, or restarts a finished context that allows it; FINISHED where it does
not; beyond the declared length it ends LENGTH_MISMATCH and frees the number. FINAL of an unfinished context whose declared length
is met delivers the result to the host, a new slot or a measurement register, and keeps or frees the number. READ delivers from a
finished context, or ends EARLY_READ with zeros. SAVE_CTX outputs the blob under the next epoch; LOAD_CTX restores the record its
blob was saved from. (R364, R372, R373, R375, R376, R378, R379, R381, R382, R385) -/
def Obligations.DigestContexts : Prop :=
  (∀ e x n s, OnDigest e 0x0810 x s →
    keyCheck s x.colour true { Need.none_ with
        keys := if keyedAlg x.desc.pset then [slotFails s x.colour x.desc.key deriveKeyOk] else [],
        other := ctxQuota s x.colour } = none → nextCtx s = some n →
    ∃ t, exec (.openCtx e) s = .next t ∧ EndedWith t e .ok n [] ∧ mget? t.dig.ctx n = some (.live (openedCtx s x))) ∧
  (∀ e x c s, OnDigest e 0x0811 x s → liveCtx? s x.colour x.desc.key2 = some c → keysRise s.dig.ctx = true →
    let n := x.desc.key2
    let all := (if c.finished then [] else c.absorbed) ++ jobInput s x
    (c.finished = true → c.after = false → ∃ t, exec (.absorb e) s = .next t ∧ EndedWith t e .finished 0 [] ∧ t.dig.ctx = s.dig.ctx) ∧
    ((c.finished = false ∨ c.after = true) → (∀ l, c.declared = some l → all.length ≤ l) → ∃ t, exec (.absorb e) s = .next t ∧
      EndedWith t e .ok 0 [] ∧ mget? t.dig.ctx n = some (.live { c with absorbed := all, finished := false, squeezed := 0, outLen := 0 })) ∧
    (∀ l, (c.finished = false ∨ c.after = true) → c.declared = some l → l < all.length → ∃ t, exec (.absorb e) s = .next t ∧
      EndedWith t e .lengthMismatch (all.length % 2 ^ 32) [] ∧ mget? t.dig.ctx n = none)) ∧
  (∀ e x c s, OnDigest e 0x0812 x s → liveCtx? s x.colour x.desc.key2 = some c → bit x.desc.aux 0 = false → c.finished = false →
    (∀ l, c.declared = some l → l ≤ c.absorbed.length) → keysRise s.dig.ctx = true →
    let n := x.desc.key2
    let olen := aux x 39 32
    let v := fun k => finishedCtx c false k
    let left := fun (t : State) k => if bit x.desc.aux 4 then mget? t.dig.ctx n = none else mget? t.dig.ctx n = some (.live (v k))
    (aux x 3 2 = 0 → finishLenBad (legacyJob s x) c false x.desc.outLen = none →
      let k := finishLen c false 0 x.desc.outLen
      ∃ t, exec (.finishFinal e) s = .next t ∧ EndedWith t e .ok 0 (digOut (v k) 0 k) ∧ left t k) ∧
    (aux x 3 2 = 1 → finishPolicy c false x.desc.aux = false → keyCheck s x.colour true { Need.none_ with units := some (ceilDiv olen 64) } = none →
      let k := finishLen c false 1 olen
      ∃ t, exec (.finishFinal e) s = .next t ∧ EndedWith t e .ok (nextHandle s) [] ∧ left t k ∧
        SlotHolds t (nextHandle s) x.colour 8 olen (usageOr (aux x 16 8) uDERIVE) ((digOut (v k) 0 k).take olen)) ∧
    (aux x 3 2 = 2 → measFails s x.colour (aux x 44 40) = none → keysRise s.dig.meas = true →
      let k := finishLen c false 2 48
      ∃ t, exec (.finishFinal e) s = .next t ∧ EndedWith t e .ok 0 [] ∧ left t k ∧
        meas t (aux x 44 40) = primOut (.hash 0x02) [meas s (aux x 44 40) ++ digOut (v k) 0 k] 48)) ∧
  (∀ e x c s, OnDigest e 0x0812 x s → liveCtx? s x.colour x.desc.key2 = some c → bit x.desc.aux 0 = true → aux x 3 2 = 0 →
    finishLenBad (legacyJob s x) c true x.desc.outLen = none →
    let k := finishLen c true 0 x.desc.outLen
    (c.finished = false → ∃ t, exec (.finishRead e) s = .next t ∧ EndedWith t e .earlyRead 0 (zeros x.desc.outLen) ∧ t.dig.ctx = s.dig.ctx) ∧
    (c.finished = true → keysRise s.dig.ctx = true → ∃ t, exec (.finishRead e) s = .next t ∧
      EndedWith t e .ok 0 (digOut (finishedCtx c true k) (if isXof c then c.squeezed else 0) k) ∧
      mget? t.dig.ctx x.desc.key2 = if bit x.desc.aux 4 then none else some (.live (finishedCtx c true k)))) ∧
  (∀ e x c s, OnDigest e 0x0816 x s → liveCtx? s x.colour x.desc.key2 = some c → s.rng.st = .ready → 56 + savedLen c.pset ≤ x.desc.outLen →
    ∃ t nonce, exec (.saveCtx e) s = .next t ∧ nonce.length = 12 ∧ t.dig.epoch = s.dig.epoch + 1 ∧
      EndedWith t e .ok 0 (saveBlob s c x.desc.key2 (s.dig.epoch + 1) nonce) ∧
      mget? t.dig.ctx x.desc.key2 = some (.saved (s.dig.epoch + 1) c)) ∧
  ∀ e x k c s, OnDigest e 0x0817 x s → savedCtx? s x.colour x.desc.key2 = some (k, c) → loadBad (jobInput s x) = false →
    (loadOk s (jobInput s x) x.colour x.desc.key2 k = true → ctxQuota s x.colour = false →
      ∃ t, exec (.loadCtx e) s = .next t ∧ EndedWith t e .ok 0 [] ∧ mget? t.dig.ctx x.desc.key2 = some (.live c)) ∧
    (loadOk s (jobInput s x) x.colour x.desc.key2 k = false →
      ∃ t, exec (.loadCtx e) s = .next t ∧ EndedWith t e .verifyFail 0 [] ∧ mget? t.dig.ctx x.desc.key2 = some (.saved k c))

/-- For a job that a digest unit serves, past its key check and with no access to its context refused: ONESHOT outputs the result
of its message under its key; DERIVE outputs the derived key to the host, or to a new slot; EXTEND by the owner of register i
(8-31) sets it to SHA-384 of its value and the input, outputs it where OUT_LEN is 48, and leaves every other register.
DIG_MEAS_OWNER_WRITE, where carried out, takes the value; while the register is not zero it ends BAD_VALUE if it gets that far.
DIGEST_QUANTUM_END passes over the jobs that are not ready and gives the first that is a quantum of blocks, 12 cycles more where
the unit served another last, and turns to the next; a re-initialised unit serves again 0.5 ms after the bite. (R369, R371, R383,
R384, R385, R386, R387, R388, R642) -/
def Obligations.DigestOneStep : Prop :=
  (∀ e x s, OnDigest e 0x0813 x s →
    let p := x.desc.pset
    let g := algOf p
    let a := x.desc.aux
    let n := if g.result ≠ 0 then g.result else x.desc.outLen
    keyCheck s x.colour true { Need.none_ with keys := if keyedAlg p then [slotFails s x.colour x.desc.key deriveKeyOk] else [] } = none →
    ∃ t, exec (.oneshot e) s = .next t ∧ t.dig.ctx = s.dig.ctx ∧
      EndedWith t e .ok 0 (digOut { openedCtx s x with absorbed := (jobInput s x).drop (dNLen a + dSLen a), outLen := n } 0 n)) ∧
  (∀ e x s, OnDigest e 0x0814 x s →
    let a := x.desc.aux
    let host := decide (bits a 1 0 = 1)
    let olen := bits a 39 32
    let b := jobInput s x
    let out := deriveOut (bits a 5 4) (bits a 31 24) olen (slotData s x.desc.key) (b.take (bits a 63 48)) (b.drop (bits a 63 48))
    let q := { Need.none_ with
        keys := [slotFails s x.colour x.desc.key deriveKeyOk],
        policy := if host then clearRefused s x.colour else derivedBad (bits a 16 8),
        units := if host then none else some (ceilDiv olen 64) }
    keyCheck s x.colour true q = none →
    (host = true → ∃ t, exec (.deriveKey e) s = .next t ∧ EndedWith t e .ok 0 out) ∧
    (host = false → ∃ t, exec (.deriveKey e) s = .next t ∧ EndedWith t e .ok (nextHandle s) [] ∧
      SlotHolds t (nextHandle s) x.colour 8 out.length (usageOr (bits a 16 8) uDERIVE) out)) ∧
  (∀ e x s, OnDigest e 0x0815 x s → keysRise s.dig.meas = true →
    let i := x.desc.key2
    let v := primOut (.hash 0x02) [meas s i ++ jobInput s x] 48
    (8 ≤ i → objVal s (Obj.DIG_MEAS_OWNER + i) = x.colour → ∃ t, exec (.extend e) s = .next t ∧
      EndedWith t e .ok 0 (if x.desc.outLen = 48 then v else []) ∧ meas t i = v ∧ ∀ j, j ≠ i → meas t j = meas s j) ∧
    (i < 8 → ∃ t, exec (.extend e) s = .next t ∧ EndedWith t e .keyPolicy 0 [] ∧ t.dig.meas = s.dig.meas) ∧
    (8 ≤ i → objVal s (Obj.DIG_MEAS_OWNER + i) ≠ x.colour → ∃ t, exec (.extend e) s = .next t ∧ EndedWith t e .keyEmpty 0 [] ∧
      t.dig.meas = s.dig.meas)) ∧
  (∀ c i data s, i < 32 → Deciding c (Obj.DIG_MEAS_OWNER + i) data (measOwnerRule i data s) s →
    exec (.digMeasOwnerWrite c i data) s =
      .next (writeDone c (Obj.DIG_MEAS_OWNER + i) ((plainRule (Obj.DIG_MEAS_OWNER + i) data).act (begun c (Obj.DIG_MEAS_OWNER + i) data s)))) ∧
  (∀ c i data s, i < 32 → allZero (meas s i) = false → ¬ Deciding c (Obj.DIG_MEAS_OWNER + i) data (measOwnerRule i data s) s) ∧
  (∀ u l e r x s, (digUnit s u).jobs = l ++ e :: r → (∀ y ∈ l, digReady s y = false) → digReady s e = true → entry? s e = some x → u < 4 →
    (digUnit s u).fenced = false → (digUnit s u).initAt = none →
    let same := (digUnit s u).last = some x.serial
    let q := if same then (digUnit s u).quantum else objVal s Obj.DIG_QUANTUM
    let got := fun v : DigUnit => (v.served.find? (fun p => decide (p.1 = e))).elim 0 (·.2)
    ∃ t, exec (.digestQuantumEnd u) s = .next t ∧ (digUnit t u).jobs = r ++ l ++ [e] ∧ (digUnit t u).last = some x.serial ∧
      got (digUnit t u) = got (digUnit s u) + q ∧
      t.now = s.now + (if same then 0 else cyclesNs s 12) + cyclesNs s (q * blockCyc s x)) ∧
  ∀ u a s, (digUnit s u).initAt = some a → exec (.digestUnitReinitDone u) s =
    .next (setDigUnit u { digUnit s u with initAt := none } { s with now := max s.now (a + us 500) })

/-- Where the write is carried out: SP_ENABLE 1 starts training on a DOWN port and 0 takes it DOWN with its waiting packets
dropped; SP_C_TENANT binds or unbinds the circuit; a transform object takes the value, erasing the circuit's keys first if it
changes; SP_C_ZEROISE erases them. PORT_UP takes a TRAINING or ALIGNING port UP with its lanes locked; PORT_ALIGN_LOSS takes it to
ALIGNING, or TRAINING where a lane lost lock. XOFF holds a class, XON releases its packets in order; a class held for SP_FC_STALL
is discarded until XON. (R393, R394, R404, R407, R408, R409, R410, R411) -/
def Obligations.StreamCommands : Prop :=
  (∀ c p s, p < 2 → Deciding c (at_ Obj.SP_ENABLE p) [1] (portRule (portOn p)) s →
    exec (.spEnableSet c p) s = .next (writeDone c (at_ Obj.SP_ENABLE p) (portOn p (begun c (at_ Obj.SP_ENABLE p) [1] s)))) ∧
  (∀ c p s, p < 2 → Deciding c (at_ Obj.SP_ENABLE p) [0] (portRule (portOff p)) s →
    exec (.spDisable c p) s = .next (writeDone c (at_ Obj.SP_ENABLE p) (portOff p (begun c (at_ Obj.SP_ENABLE p) [0] s)))) ∧
  (∀ p s, keysRise s.dict.obj = true → keysRise s.sp.ports = true →
    ((port s p).st = .down → (port (portOn p s) p).st = .training) ∧ objVal (portOn p s) (at_ Obj.SP_ENABLE p) = 1 ∧
    (port (portOff p s) p).st = .down ∧ (port (portOff p s) p).outQ = [] ∧ objVal (portOff p s) (at_ Obj.SP_ENABLE p) = 0) ∧
  (∀ p s, p < 2 → ((port s p).st = .training ∨ (port s p).st = .aligning) →
    exec (.portUp p) s = .next (setPort p { port s p with st := .up, locked := laneMask s p, aligned := laneMask s p } s)) ∧
  (∀ p u s, p < 2 → (port s p).st = .up → ∃ t, exec (.portAlignLoss p u) s = .next t ∧
    (port t p).st = (if u = 0 then .aligning else .training) ∧ (port t p).locked = (port s p).locked &&& ~~~u ∧
    (port t p).aligned = 0 ∧ (port t p).outQ = [] ∧ (port t p).xoffIn = []) ∧
  (∀ c n k s, n < 8192 → k < 0xFFFF → Deciding c (at_ Obj.SP_C_TENANT n) (leBytes 2 k) (bindRule n k s) s →
    exec (.spCBind c n k) s = .next (writeDone c (at_ Obj.SP_C_TENANT n) (bindCircuit n k (begun c (at_ Obj.SP_C_TENANT n) (leBytes 2 k) s)))) ∧
  (∀ n k s, k < 4096 → objVal (bindCircuit n k s) (at_ Obj.SP_C_TENANT n) = k ∧
    ((bindRule n k s).bad = false ↔ objVal s (at_ Obj.SP_C_TENANT n) = 0xFFFF ∧
      (objVal s (at_ Obj.TENANT_STATE k) = 1 ∨ objVal s (at_ Obj.TENANT_STATE k) = 2))) ∧
  (∀ c n s, n < 8192 → Deciding c (at_ Obj.SP_C_TENANT n) (leBytes 2 0xFFFF) (portRule (unbindCircuit n)) s →
    exec (.spCUnbind c n) s = .next (writeDone c (at_ Obj.SP_C_TENANT n) (unbindCircuit n (begun c (at_ Obj.SP_C_TENANT n) (leBytes 2 0xFFFF) s)))) ∧
  (∀ c n sub data s, n < 8192 → transformSub sub = true →
    let id := (0x3000 + n) * 256 + sub
    Deciding c id data (transformRule n sub data s) s →
    exec (.spCConfigWrite c n sub data) s = .next (writeDone c id ((plainRule id data).act
      (if objBytes (begun c id data s) id = data then begun c id data s else zeroiseCircuit n (begun c id data s))))) ∧
  (∀ c n data s, n < 8192 → Deciding c (at_ Obj.SP_C_ZEROISE n) data (portRule (zeroiseCircuit n)) s →
    exec (.spCZeroise c n data) s = .next (writeDone c (at_ Obj.SP_C_ZEROISE n) (zeroiseCircuit n (begun c (at_ Obj.SP_C_ZEROISE n) data s)))) ∧
  (∀ n s, keysRise s.sp.circuits = true →
    let x := circuit (zeroiseCircuit n s) n
    x.txCur = none ∧ x.txNext = none ∧ x.rxCur = none ∧ x.rxNext = none ∧ x.rxRet = none ∧ x.armed = false ∧ x.blocked = false) ∧
  (∀ p k s, p < 2 → k < 64 → (port s p).st = .up →
    let x := port s p
    (mget? x.xoffIn k = none → exec (.flowControlWord p k true) s =
      .next (setPort p { x with xoffIn := mset x.xoffIn k s.now } s)) ∧
    (mget? x.xoffIn k ≠ none → exec (.flowControlWord p k false) s = .next
      (releaseClass p k (setPort p { x with xoffIn := mdel x.xoffIn k, stalled := dropAll k x.stalled } s)))) ∧
  ∀ p k a s, mget? (port s p).xoffIn k = some a → k ∉ (port s p).stalled →
    exec (.fcStallExpiry p k) s = .next (discardClass p k { s with now := max s.now (a + us (objVal s (at_ Obj.SP_FC_STALL p))) })

/-- A whole packet with a good header on an UP port that fails a check of its circuit is counted and answered by that check's
STATUS; one that passes joins its circuit's order: PROTECT under the usable TX key, whose number, frames and octets advance;
VALIDATE with what its checks make of it; GRAFT_IN goes to assembly. PIPELINE_DONE finishes a packet, after which the finished
ones at the head leave in order; a passed number advances the key's replay state; the AES copies' mismatch re-initialises the
pipeline. A packet with no room is an overrun, one under 8 bytes a runt, a flagged one an error; a bad header is counted, with
STATUS 0x0C. RX_HOLD_EXPIRY drops the retired key; a TX key that becomes unusable is switched where the next is armed, else
blocks. (R398, R400, R402, R415, R417, R425, R426, R427, R428, R636) -/
def Obligations.StreamPackets : Prop :=
  let arrives := fun (s : State) (op p ch : Nat) (b : Bytes) => p < 2 ∧ (port s p).st = .up ∧ pktWhole ch b = true ∧ pktHeaderOk b = true ∧
    pktOp b = op ∧ portBytes s p + b.length ≤ 65536
  let counted := fun (s : State) (p : Nat) => bump (at_ Obj.SP_RX_PKTS p) s
  (∀ i op p ch b code detail ctr s,
    ((i = .protect p ch b ∧ op = 1) ∨ (i = .validate p ch b ∧ op = 2) ∨ (i = .graftIn p ch b ∧ op = 4)) →
    arrives s op p ch b → linkCheck s p b = some (code, detail, ctr) →
    exec i s = .next (sendStatus p ch (pktCircuit b) op (pktTag b) code detail (bump ctr (counted s p)))) ∧
  (∀ p ch b k n s, arrives s 1 p ch b → linkCheck s p b = none → ch ∉ (port s p).stalled → pickPipe s p = some n →
    let c := pktCircuit b
    (circuit s c).txCur = some k → (circuit s c).blocked = false → keyExpired s k = false → k.next < maxNumber s c →
    ∃ t q, exec (.protect p ch b) s = .next t ∧ (circuit t c).queue = (circuit s c).queue ++ [q] ∧ q.pipe = n ∧ q.number = k.next ∧
      q.code = 0 ∧ q.done = false ∧
      q.out = (if cVal s c Obj.SP_C_TRANSFORM = 0 then macsecProtect s c k (slotData s k.slot) (b.drop 8)
        else blockProtect s c k (slotData s k.slot) (b.drop 8)) ∧
      (circuit t c).txCur = some { k with next := k.next + 1, frames := k.frames + 1, octets := k.octets + (b.length - 8) }) ∧
  (∀ p ch b n s, arrives s 2 p ch b → linkCheck s p b = none → ch ∉ (port s p).stalled → pickPipe s p = some n →
    let c := pktCircuit b
    let r := if cVal s c Obj.SP_C_TRANSFORM = 0 then macsecValidate c (b.drop 8) (counted s p) else blockValidate c (b.drop 8) (counted s p)
    ∃ t q, exec (.validate p ch b) s = .next t ∧ (circuit t c).queue = (circuit s c).queue ++ [q] ∧ q.pipe = n ∧ q.slot = r.1.slot ∧
      q.number = r.1.number ∧ q.code = r.1.code ∧ q.detail = r.1.detail ∧ q.out = r.1.out) ∧
  (∀ p ch b s, arrives s 4 p ch b → linkCheck s p b = none → ch ∉ (port s p).stalled →
    exec (.graftIn p ch b) s = .next (fragmentIn (pktCircuit b) (b.drop 8) (wakeCore (counted s p)))) ∧
  (∀ c id q s, (circuit s c).queue.find? (fun y => decide (y.id = id) && !y.done) = some q →
    let s1 := if q.op = 2 ∧ q.code = 9 then bump (at_ Obj.SP_C_DROP_AUTH c) s
      else match q.slot with
        | some h => if q.op = 2 ∧ q.code = 0 then validatePassed c h q.number s else s
        | none => s
    exec (.pipelineDone c id false) s = .next (drainCircuit c (finishPkt c id (fun y => y) s1)) ∧
    exec (.pipelineDone c id true) s = .next (pipeMismatch c q s)) ∧
  (∀ c s, keysRise s.sp.circuits = true → (circuit (drainCircuit c s) c).queue = (circuit s c).queue.dropWhile (·.done)) ∧
  (∀ c h n k s, (circuit s c).rxCur = some k → k.slot = h → keySlot (circuit s c).rxNext ≠ [h] →
    (circuit (validatePassed c h n s) c).rxCur = some { k with next := max k.next (n + 1) }) ∧
  (∀ c k s, (circuit s c).rxRet = some k → exec (.rxHoldExpiry c) s =
    .next (settleSlots c (setCircuit c { circuit s c with rxRet := none, dying := (circuit s c).dying ++ [k.slot] }
      { s with now := max s.now (circuit s c).retireAt }))) ∧
  (∀ c k v s, (circuit s c).txCur = some k → mget? s.kreg.slots k.slot = some v → v.expiry ≠ 0 → (circuit s c).blocked = false →
    exec (.linkKeyUnusable c) s = .next (txUnusable c (advanceToExpiry v.expiry s))) ∧
  (∀ c s, ((circuit s c).armed = true → (circuit s c).txNext ≠ none → txUnusable c s = switchEvent c s) ∧
    ((circuit s c).armed = false → (circuit (txUnusable c s) c).blocked = true)) ∧
  (∀ p ch b err s, p < 2 → (port s p).st = .up → 65536 < portBytes s p + b.length →
    exec (.arrivingPacketDrop p ch b err) s = .next (bump (at_ Obj.SP_RX_OVERRUN p) s)) ∧
  (∀ p ch b s, p < 2 → (port s p).st = .up → portBytes s p + b.length ≤ 65536 →
    (b.length < 8 → ∀ err, exec (.arrivingPacketDrop p ch b err) s = .next (bump (at_ Obj.SP_RUNT p) (counted s p))) ∧
    (8 ≤ b.length → exec (.arrivingPacketDrop p ch b true) s = .next (bump (at_ Obj.SP_RX_ERR p) (counted s p))) ∧
    (pktWhole ch b = true → pktHeaderOk b = false → pktOp b ≠ 3 → pktOp b ≠ 5 → exec (.arrivingPacketDrop p ch b false) s =
      .next (sendStatus p ch (pktCircuit b) (pktOp b) (pktTag b) 0x0C (field b 0 3) (bump (at_ Obj.SP_BAD_HDR p) (counted s p))))) ∧
  ∀ n a s, (pipe s n).initAt = some a →
    exec (.pipelineReinitDone n) s = .next (setPipe n { pipe s n with initAt := none } { s with now := max s.now (a + us 1) })

/-- GR_C_REKEY, where carried out, raises a forced trigger, as the period's end raises one; a trigger on a bound circuit that is
no RESPONDER is held. A circuit that wants an exchange, may start it and is not held back by the pause starts it; with room for G1
and a READY source it is then G1_SENT as initiator with KEYGEN running. A trigger that waited for the buffer tries again once
there is room. A G1 taken is answered (G2_SENT, this XID, first steps); where this side has sent its own, a collision is counted
and the peer's G1 answered if this side's N_I is the smaller. A G2 taken, with a digest unit for its transcript, begins the
verification of its signatures, as a G3 does in G2_SENT; a G3 taken in another state is let go. Hashing goes to the unfenced unit
with fewest jobs and takes its cycles and a context change. A step that ends the exchange fails it with its cause; with all done
the stage ends. Each fragment leaves under its channel header with its MSG_ID as TAG. With the supervisor up: the retry timer
appends G1's fragments again up to GR_C_RETRIES times, then fails the exchange, as the responder's timer does before it may start
one itself; the arm delay arms, the switch delay switches; the pause's end raises triggers that still hold and tries to start; the
assembly time-out drops the message. (R369, R370, R433, R439, R440, R441, R443, R444, R445, R447, R448, R449) -/
def Obligations.GraftExchange : Prop :=
  (∀ c n data s, n < 8192 → Deciding c (at_ Obj.GR_C_REKEY n) data (portRule (trigger n true)) s →
    exec (.grCRekey c n data) s = .next (writeDone c (at_ Obj.GR_C_REKEY n) (trigger n true (begun c (at_ Obj.GR_C_REKEY n) data s)))) ∧
  (∀ c f s, cVal s c Obj.GR_C_ROLE ≠ 2 → cVal s c Obj.SP_C_TENANT ≠ 0xFFFF → (graftOf (trigger c f s) c).pending = true) ∧
  (∀ c s, cVal s c Obj.SP_C_TENANT ≠ 0xFFFF → (graftOf s c).periodDone = false →
    exec (.graftPeriodExpiry c) s = .next (trigger c false (setGraft c { graftOf s c with periodDone := true }
      (graftTimer (graftOf s c).periodDue s)))) ∧
  (∀ c s, wantsGraft s c = true → mayStart s c = true → pauseOver s c = true →
    exec (.graftTriggerStart c) s = .next (startGraft c (wakeCore s)) ∧
    (bufRoom s (bodyPages (g1Len (grSuite s c))) = true → s.rng.st = .ready →
      let g := graftOf (startGraft c (wakeCore s)) c
      g.st = .g1Sent ∧ g.initiator = true ∧ g.stage = .iKeygen)) ∧
  (∀ c s, (graftOf s c).waitBuf = true → bufRoom s (bodyPages (g1Len (grSuite s c))) = true →
    exec (.graftBufferFreed c) s = .next (tryStart c (setGraft c { graftOf s c with waitBuf := false } s))) ∧
  (∀ c m s, takeMsg s c 1 = some m →
    let s1 := setGraft c { graftOf s c with rx := none } s
    ((graftOf s c).st ≠ .g1Sent → exec (.graftG1Received c) s = .next (respond c m s1)) ∧
    ((graftOf s c).st = .g1Sent → exec (.graftG1Received c) s = .next
      (if beNat (graftOf s c).nI < beNat (gmNonce m) then respond c m (bump Obj.GR_COLLISIONS s1) else bump Obj.GR_COLLISIONS s1))) ∧
  (∀ c m s, let g := graftOf (respond c m s) c
    g.st = .g2Sent ∧ g.xid = gmXid m ∧ g.g1 = m ∧ g.stage = .rShare) ∧
  (∀ c m s, takeMsg s c 2 = some m → HashReach s (circuitColour s c) (.graftDigest c) → ∃ t, exec (.graftG2Received c) s = .next t ∧ (graftOf t c).stage = .iVerify ∧ (graftOf t c).g2 = m ∧
    (graftOf t c).st = .g1Sent) ∧
  (∀ c m s, takeMsg s c 3 = some m →
    ((graftOf s c).st = .g2Sent → HashReach s (circuitColour s c) (.graftDigest c) →
      ∃ t, exec (.graftG3Received c) s = .next t ∧ (graftOf t c).stage = .rVerify ∧ (graftOf t c).g3 = m) ∧
    ((graftOf s c).st ≠ .g2Sent → exec (.graftG3Received c) s = .next (setGraft c { graftOf s c with rx := none } s))) ∧
  (∀ u colour r k lost done s, leastUnit? s = some u → (digUnit s u).initAt = none → checkRec s r (hashAccess u colour r) = none →
    ∃ t, hashJob colour r k lost done s = done t ∧ t.now = s.now + cyclesNs s (12 + k) ∧ (digUnit t u).last = some s.ring.serial ∧
      (digUnit t u).jobs = (digUnit s u).jobs ∧ t.ring.serial = s.ring.serial + 1 ∧ t.graft = s.graft) ∧
  (∀ c s, (graftOf s c).stage ≠ .none_ → supervisorUp s = true →
    (∀ k, (graftOf s c).results.findSome? stepCause = some k → exec (.graftStepsDone c) s = .next (failGraft c k s)) ∧
    ((graftOf s c).results.findSome? stepCause = none → (graftOf s c).jobs ≤ (graftOf s c).results.length →
      exec (.graftStepsDone c) s = .next (stageEnd c (takeSlots c s)))) ∧
  (∀ c f r s, (graftOf s c).outFrags = f :: r → halted s = false →
    exec (.graftOutFragment c) s = .next (sendPkt (portOfCircuit c)
      { cls := objVal s (at_ Obj.SP_GRAFT_CLASS (portOfCircuit c)), circuit := c, kind := 3, octets := 0,
        bytes := chanHeader 3 c f.length (field f 0 3) ++ f }
      (setGraft c { graftOf s c with outFrags := r, txLen := if r.isEmpty then 0 else (graftOf s c).txLen } s))) ∧
  (∀ c a s, supervisorUp s = true → (graftOf s c).timer = some a →
    let s1 := graftTimer a s
    let g := graftOf s c
    (g.st = .g1Sent → g.resends < cVal s c Obj.GR_C_RETRIES → exec (.graftRetryTimeout c) s = .next
      (bump (at_ Obj.GR_C_RESENDS c) (setGraft c { g with
          resends := g.resends + 1, outFrags := g.outFrags ++ fragments g.msgId (objVal s Obj.GR_FRAG_SIZE - 8) g.g1,
          timer := some (s1.now + ms (cVal s c Obj.GR_C_RETRY_TIMEOUT)) } s1))) ∧
    (g.st = .g1Sent → cVal s c Obj.GR_C_RETRIES ≤ g.resends → exec (.graftRetryTimeout c) s = .next (failGraft c (if g.badMsg then 2 else 1) s1)) ∧
    (g.st = .g2Sent → let s2 := failGraft c (if g.badMsg then 3 else 4) s1
      exec (.graftResponderTimeout c) s = .next (if mayStart s2 c then startGraft c s2 else s2)) ∧
    (g.st = .confirming → exec (.graftArmDelayExpiry c) s = .next (armGraft c s1) ∧ (graftOf (armGraft c s1) c).st = .armed ∧
      (circuit (armGraft c s1) c).armed = true) ∧
    (g.st = .armed → exec (.graftSwitchDelayExpiry c) s = .next (switchEvent c s1))) ∧
  (∀ c a s, supervisorUp s = true → (graftOf s c).pauseUntil = some a →
    let s1 := setGraft c { graftOf s c with pauseUntil := none } (graftTimer a s)
    exec (.graftRetryPauseExpiry c) s = .next (tryStart c (if triggersHold s1 c then trigger c false s1 else s1))) ∧
  ∀ c a s, (graftOf s c).asmDue = some a → exec (.fragmentAssemblyTimeout c) s = .next
    (bump (at_ Obj.GR_C_FRAG_DROPS c) (setGraft c { graftOf s c with asmId := 0, asmCount := 0, asm_ := [], asmDue := none }
      (graftTimer a s)))

/-- When the core executes its next instruction, ADD, SUB, ADDC, SUBC, AND, OR and XOR put their result into rd and set Z, N, C
and V (carry or borrow, signed overflow; 0 for logic). The shifts by less than 32 put the shifted value and set Z and N of it; C
and V, and the result for 32 or more, are free values. MUL, MULHU, MULHS, ADDI, ORI, XORI, ANDI and LHI put their result and leave
FL. CMP and CMPI set the flags of the subtraction and leave the registers. Every other register, every other bit of FL, every
other field of the core and all memory are unchanged; the pc moves on by 4. (R459, R460, R468, R469, R473) -/
def Obligations.CoreArithmetic : Prop :=
  ∀ (s : State) (rd r1 r2 : BitVec 4) (imm : BitVec 18), Executes s → keysRise s.tsuow.core.g = true →
    let u := atInstr s
    let c := u.tsuow.core
    let a := c.reg r1
    let b := c.reg r2
    let k := b2n (flC c)
    let sub := fun (x y : Word) (bin : Nat) => (x - y - BitVec.ofNat 32 bin, decide (x.toNat < y.toNat + bin),
      decide (x.toInt - y.toInt - bin ≠ (x - y - BitVec.ofNat 32 bin).toInt))
    (∀ i v cy ov, ((i = Instr.add rd r1 r2 ∧ v = a + b ∧ cy = decide (2 ^ 32 ≤ a.toNat + b.toNat) ∧ ov = decide (a.toInt + b.toInt ≠ v.toInt)) ∨
        (i = .sub rd r1 r2 ∧ (v, cy, ov) = sub a b 0) ∨
        (i = .addc rd r1 r2 ∧ v = a + b + BitVec.ofNat 32 k ∧ cy = decide (2 ^ 32 ≤ a.toNat + b.toNat + k) ∧
          ov = decide (a.toInt + b.toInt + k ≠ v.toInt)) ∨
        (i = .subc rd r1 r2 ∧ (v, cy, ov) = sub a b k) ∨
        (i = .and rd r1 r2 ∧ v = a &&& b ∧ cy = false ∧ ov = false) ∨ (i = .or rd r1 r2 ∧ v = a ||| b ∧ cy = false ∧ ov = false) ∨
        (i = .xor rd r1 r2 ∧ v = a ^^^ b ∧ cy = false ∧ ov = false)) →
      ∃ d, exec i s = .next (setCore d u) ∧ Retired c d ∧ Wrote c d rd v ∧ FlagsAre c d (decide (v = 0)) v.msb cy ov) ∧
    (∀ i v, ((i = Instr.shl rd r1 r2 ∧ v = a <<< b.toNat) ∨ (i = .shr rd r1 r2 ∧ v = a >>> b.toNat) ∨
        (i = .sar rd r1 r2 ∧ v = a.sshiftRight b.toNat)) →
      ∃ d w cy ov, exec i s = .next (setCore d { u with free := u.free + 2 }) ∧ (b.toNat < 32 → w = v) ∧ Retired c d ∧ Wrote c d rd w ∧
        FlagsAre c d (decide (w = 0)) w.msb cy ov) ∧
    (∀ i v, ((i = Instr.mul rd r1 r2 ∧ v = a * b) ∨ (i = .mulhu rd r1 r2 ∧ v = BitVec.ofNat 32 (a.toNat * b.toNat / 2 ^ 32)) ∨
        (i = .mulhs rd r1 r2 ∧ v = BitVec.ofInt 32 (a.toInt * b.toInt / 2 ^ 32)) ∨ (i = .addi rd r1 imm ∧ v = a + imm.signExtend 32) ∨
        (i = .ori rd r1 imm ∧ v = a ||| imm.zeroExtend 32) ∨ (i = .xori rd r1 imm ∧ v = a ^^^ imm.zeroExtend 32) ∨
        (i = .andi rd r1 imm ∧ v = a &&& imm.zeroExtend 32) ∨ (i = .lhi rd imm ∧ v = imm.zeroExtend 32 <<< 14)) →
      ∃ d, exec i s = .next (setCore d u) ∧ Retired c d ∧ Wrote c d rd v ∧ d.fl = c.fl) ∧
    (∀ i y, ((i = Instr.cmp r1 r2 ∧ y = b) ∨ (i = .cmpi r1 imm ∧ y = imm.signExtend 32)) →
      ∃ d, exec i s = .next (setCore d u) ∧ Retired c d ∧ d.g = c.g ∧
        FlagsAre c d (decide (a - y = 0)) (a - y).msb (decide (a.toNat < y.toNat)) (decide (a.toInt - y.toInt ≠ (a - y).toInt)))

/-- When the core executes: a load whose address passes the core's checks and is not refused puts the zero-extended bytes into rd;
a refused one gives 0; LDI reads I-space. A store not refused writes the low bytes of rd at exactly the address that the check
gives, and every byte outside them reads as before (in a record of the context store, whose layout is open, nothing is claimed:
log entry 175); a refused one is dropped and logged. An access that fails the core's checks raises its fault at the instruction.
MOVS, CMPS, SCAS, FILLS, INS and OUTS of one element that passes do that element and complete; with a repeat count of 0 they only
complete; a reserved form raises ILLEGAL. (R105, R462, R463, R465, R466, R467, R470, R472, R486) -/
def Obligations.CoreMemory : Prop :=
  ∀ (s : State), Executes s → keysRise s.tsuow.core.g = true →
    let u := atInstr s
    let c := u.tsuow.core
    (∀ i rd r1 imm n f, ((i = Instr.ld rd r1 imm ∧ n = 4) ∨ (i = .ldh rd r1 imm ∧ n = 2) ∨ (i = .ldb rd r1 imm ∧ n = 1)) →
      dCheck c (c.reg r1 + imm.signExtend 32) n n = .inr f →
      let l := refusedAs u (coreAccess u c f n 1)
      ∃ d, exec i s = .next (refuseAll l (setCore d u)) ∧ Retired c d ∧ d.fl = c.fl ∧
        Wrote c d rd (if l = [] then BitVec.ofNat 32 (leNat (memRead u f n)) else 0)) ∧
    (∀ rd r1 imm, let a := (c.reg r1 + imm.signExtend 32).toNat
      (ispaceOk c a = true → refusedAs u (coreAccess u c (codeFabric a) 4 1) = [] →
        ∃ d, exec (.ldi rd r1 imm) s = .next (setCore d u) ∧ Retired c d ∧ d.fl = c.fl ∧
          Wrote c d rd (BitVec.ofNat 32 (leNat ((List.range 4).map (fun j => ispaceByte u (a + j)))))) ∧
      (ispaceOk c a = false → exec (.ldi rd r1 imm) s = .next (faultAt { code := xIFAULT, addr := BitVec.ofNat 32 a } u))) ∧
    (∀ i rd r1 imm n f, ((i = Instr.st rd r1 imm ∧ n = 4) ∨ (i = .sth rd r1 imm ∧ n = 2) ∨ (i = .stb rd r1 imm ∧ n = 1)) →
      dCheck c (c.reg r1 + imm.signExtend 32) n n = .inr f →
      let l := refusedAs u (coreAccess u c f n 2)
      (l ≠ [] → exec i s = .next (refuseAll l (setCore c.complete u))) ∧
      (l = [] → keysRise s.iso.mem = true → keysRise s.kreg.lks = true → ∃ t, exec i s = .next t ∧ t.tsuow.core = c.complete ∧
        (inLks f = false → ctxAt? f = none → memRead t f n = leBytes n (c.reg rd).toNat) ∧
        ∀ a, (a < f ∨ f + n ≤ a) → ctxAt? a = none → memByte t a = memByte s a)) ∧
    (∀ i rd r1 imm n x, ((i = Instr.ld rd r1 imm ∧ n = 4) ∨ (i = .ldh rd r1 imm ∧ n = 2) ∨ (i = .ldb rd r1 imm ∧ n = 1) ∨
        (i = .st rd r1 imm ∧ n = 4) ∨ (i = .sth rd r1 imm ∧ n = 2) ∨ (i = .stb rd r1 imm ∧ n = 1)) →
      dCheck c (c.reg r1 + imm.signExtend 32) n n = .inl x → exec i s = .next (faultAt x u)) ∧
    (∀ sz dir brk f g, sz ≠ 3 →
      let n := 2 ^ sz.toNat
      let step := fun (r : BitVec 4) => if dir then c.reg r - BitVec.ofNat 32 n else c.reg r + BitVec.ofNat 32 n
      (dCheck c (c.reg 9) n n = .inr f → refusedAs u (coreAccess u c f n 1) = [] → dCheck c (c.reg 10) n n = .inr g →
        (refusedAs u (coreAccess u c g n 2) = [] → keysRise s.iso.mem = true → inLks g = false → ctxAt? g = none → ∃ t, exec (.movs false sz dir 15 brk) s = .next t ∧
          memRead t g n = memRead u f n ∧ (∀ a, (a < g ∨ g + n ≤ a) → ctxAt? a = none → memByte t a = memByte s a) ∧
          t.tsuow.core.reg 9 = step 9 ∧ t.tsuow.core.reg 10 = step 10 ∧ t.tsuow.core.pc = c.pc + 4) ∧
        (refusedAs u (coreAccess u c g n 1) = [] → exec (.cmps false sz dir 15 brk) s = .next (setCore
          (((c.strCmp n (leNat (memRead u f n)) (leNat (memRead u g n))).setReg 9 (step 9)).setReg 10 (step 10)).complete u))) ∧
      (dCheck c (c.reg 10) n n = .inr g →
        (refusedAs u (coreAccess u c g n 1) = [] → exec (.scas false sz dir 15 brk) s = .next (setCore
          ((c.strCmp n ((c.reg 8).toNat % 2 ^ (8 * n)) (leNat (memRead u g n))).setReg 10 (step 10)).complete u)) ∧
        (refusedAs u (coreAccess u c g n 2) = [] → exec (.fills false sz dir 15 brk) s = .next
          (setCore (c.setReg 10 (step 10)).complete (memWrite g (leBytes n (c.reg 8).toNat) u))))) ∧
    (∀ dir brk g, dCheck c (c.reg 10) 4 4 = .inr g → refusedAs u (coreAccess u c g 4 2) = [] → (c.reg 12).toNat % 65536 = 0x8004 →
      exec (.ins false 2 dir 15 brk) s = .next (setCore
        (c.setReg 10 (if dir then c.reg 10 - 4 else c.reg 10 + 4)).complete
        (memWrite g (leBytes 4 (s.tsuow.current.getD 0 % 2 ^ 32)) u))) ∧
    (∀ dir brk f, dCheck c (c.reg 9) 4 4 = .inr f → refusedAs u (coreAccess u c f 4 1) = [] → listedPort ((c.reg 12).toNat % 65536) = true →
      exec (.outs false 2 dir 15 brk) s = .next (setCore (c.setReg 9 (if dir then c.reg 9 - 4 else c.reg 9 + 4)).complete u)) ∧
    (∀ i rpt sz dir halt brk op, ((i = Instr.movs rpt sz dir halt brk ∧ op = StrOp.movs) ∨ (i = .cmps rpt sz dir halt brk ∧ op = .cmps) ∨
        (i = .scas rpt sz dir halt brk ∧ op = .scas) ∨ (i = .fills rpt sz dir halt brk ∧ op = .fills) ∨
        (i = .ins rpt sz dir halt brk ∧ op = .ins) ∨ (i = .outs rpt sz dir halt brk ∧ op = .outs)) →
      (strIllegal op rpt sz halt = true → exec i s = .next (illegal u)) ∧
      (strIllegal op rpt sz halt = false → rpt = true → c.reg 11 = 0 → exec i s = .next (setCore c.complete u)))

/-- When the core executes: a branch whose condition holds goes to its target, else on; JMP, CALL, JR and CALLR go to theirs, the
calls leaving the return address in g14; BRPT, BREND and the repeat check follow R473; IN and OUT act on the listed ports, in user
mode others raise PRIV; MFC, MTC and FEAT read and write what R461 and R476 list, in user mode PRIV for the registers from 0x10;
NOP only moves on; ERET, WFI and FENCE raise PRIV in user mode. An exception enters with EPC, EFL, ECAUSE, EADDR, MODE and pc as
R487 says. An interrupt wakes the core and is taken when it may be; BUDGET ends a user-mode call; an undefined word raises
ILLEGAL. (R461, R464, R469, R473, R474, R476, R485, R486, R487, R488) -/
def Obligations.CoreFlow : Prop :=
  (∀ (s : State), Executes s →
    let u := atInstr s
    let c := u.tsuow.core
    let at_ := fun (a : BitVec 24) => setCore { c with pc := a } u
    let done := setCore c.complete u
    let user := modeUM c = true
    let priv := takeExc xPRIV c.pc 0 u
    (∀ cond off, (condHolds c cond.toNat = some true → exec (.br cond off) s = .next (at_ (c.pc + 4 * off.signExtend 24))) ∧
      (condHolds c cond.toNat = some false → exec (.br cond off) s = .next done) ∧
      (condHolds c cond.toNat = none → exec (.br cond off) s = .next (takeExc xILLEGAL c.pc 0 u))) ∧
    (∀ off, exec (.jmp off) s = .next (at_ (c.pc + 4 * off.truncate 24)) ∧
      exec (.call off) s = .next (setCore { c.setReg 14 ((c.pc + 4).zeroExtend 32) with pc := c.pc + 4 * off.truncate 24 } u)) ∧
    (∀ r, exec (.jr r) s = .next (at_ ((c.reg r).truncate 24)) ∧
      exec (.callr r) s = .next (setCore { c.setReg 14 ((c.pc + 4).zeroExtend 32) with pc := (c.reg r).truncate 24 } u)) ∧
    (∀ r imm, (∀ x, brptFault c imm = some x → exec (.brpt r imm) s = .next (faultAt x u)) ∧
      (brptFault c imm = none → ∃ d, exec (.brpt r imm) s = .next (setCore d u) ∧ d.g = c.g ∧
        (c.reg r ≠ 0 → d.lc = c.reg r ∧ d.ls = c.pc + 4 ∧ d.le = c.pc + 4 * imm.zeroExtend 24 ∧ flLA d = true ∧
          d.pc = c.pc + 4 ∧ (flLA c = true → flLS d = true ∧ d.lc1 = c.lc ∧ d.ls1 = c.ls ∧ d.le1 = c.le)) ∧
        (c.reg r = 0 → d.pc = c.pc + 4 * imm.zeroExtend 24 + 4 ∧ flLA d = flLA c))) ∧
    exec .brend s = .next (setCore c.endLevel.complete u) ∧
    (∀ rd r imm, let p := (c.reg r + imm.signExtend 32).toNat % 65536
      (user → listedPort p = false → exec (.inPort rd r imm) s = .next priv ∧ exec (.outPort rd r imm) s = .next priv) ∧
      ((listedPort p = true ∨ ¬ user) → exec (.outPort rd r imm) s = .next done) ∧
      ((listedPort p = true ∨ ¬ user) → portStalls u p = false → exec (.inPort rd r imm) s =
        .next (setCore ((portRead p u).2.tsuow.core.setReg rd (portRead p u).1).complete (portRead p u).2))) ∧
    (∀ rd r imm, (ctlRead c imm.toNat = none → exec (.mfc rd imm) s = .next (takeExc xILLEGAL c.pc 0 u) ∧
        exec (.mtc r imm) s = .next (takeExc xILLEGAL c.pc 0 u)) ∧
      (∀ v, ctlRead c imm.toNat = some v →
        (user → 0x10 ≤ imm.toNat → exec (.mfc rd imm) s = .next priv ∧ exec (.mtc r imm) s = .next priv) ∧
        (imm.toNat < 0x10 ∨ ¬ user → exec (.mfc rd imm) s = .next (setCore (c.setReg rd v).complete u) ∧
          exec (.mtc r imm) s = .next (setCore (ctlWrite c imm.toNat (c.reg r)).complete u))) ∧
      (∀ v, featReg imm.toNat = some v → exec (.feat rd imm) s = .next (setCore (c.setReg rd v).complete u)) ∧
      (featReg imm.toNat = none → exec (.feat rd imm) s = .next (takeExc xILLEGAL c.pc 0 u))) ∧
    exec .nop s = .next done ∧
    (user → exec .eret s = .next priv ∧ exec .wfi s = .next priv ∧ exec .fence s = .next priv) ∧
    (¬ user → exec .eret s = .next (setCore { c with
        fl := c.efl &&& 0xE00F, mode := mkMode (modePUM c) (modePUM c) (modeIE c) false, pc := c.epc } u) ∧
      exec .wfi s = .next (setCore { c.complete with waiting := true } u) ∧ exec .fence s = .next done) ∧
    ∀ w : Word, legalWord w.toNat = false → exec (.illegal w) s = .next (takeExc xILLEGAL c.pc 0 u)) ∧
  (∀ (s : State) code epc addr, let c := s.tsuow.core
    (modeEL c = true → code ≠ xINTERRUPT → takeExc code epc addr s = setCore { c with stopped := true } s) ∧
    (modeEL c = false → modeUM c = false → s.tsuow.current = none → takeExc code epc addr s = setCore { c with
        epc := epc, efl := c.fl, ecause := BitVec.ofNat 32 code, eaddr := addr, mode := mkMode false false (modeIE c) true,
        pc := c.evec + BitVec.ofNat 24 (0x40 * code) } s)) ∧
  (∀ s : State, let c0 := s.tsuow.core.repeatEnd
    exec .blockRepeatEnd s = .next (setCore c0 s) ∧
    (s.upd.phase ≠ 0 → s.tsuow.core.stopped = false → s.tsuow.restarting = false →
      let u := wakeCore s
      let c := { u.tsuow.core.repeatEnd with waiting := false }
      c.retention = false ∧ u.now = (if s.tsuow.core.retention then s.now + us 20 else s.now) ∧
      exec .interrupt s = .next (if modeUM c ∨ (modeIE c ∧ ¬ modeEL c) then takeExc xINTERRUPT c.pc 0 (setCore c u) else setCore c u)) ∧
    (coreRuns s = true → modeUM s.tsuow.core = true →
      exec .budget s = .next (takeExc xBUDGET c0.pc 0 (setCore { c0 with budget := 0 } s)))) ∧
  ∀ c : Core, (c.endPending = true → c.lc ≠ 1 → c.repeatEnd.pc = c.ls ∧ c.repeatEnd.lc = c.lc - 1) ∧
    (c.endPending = true → c.lc = 1 → c.repeatEnd.pc = c.pc ∧ flLA c.repeatEnd = (flLA c && flLS c)) ∧ (c.endPending = false → c.repeatEnd = c)

/-- When the core executes a vector instruction of an element width its operation has, each destination element at VSTART or above
whose mask bit is 1 takes the operation's value, a masked-off one stays or becomes 0, and those below VSTART stay; no other
register changes; VSTART is 0 and the pc moves on. Compares set one mask bit for each element alike; mask operations, KMOV, KREAD
and VEXTR put their value. VMONT with an even q raises VQBAD; a width that the operation lacks raises ILLEGAL. VLD, VST, VGATH and
VSCAT that pass every check move the elements that take part, and VST and VSCAT write no byte outside them. (R469, R478, R479,
R480, R482, R483, R484) -/
def Obligations.CoreVector : Prop :=
  ∀ (s : State), Executes s → keysRise s.tsuow.core.g = true → keysRise s.tsuow.core.v = true → keysRise s.tsuow.core.k = true →
    let u := atInstr s
    let c := u.tsuow.core
    (∀ i vd va vb k ew z sgn w ok f, let ws := vWidth ew
      let A := c.vec va
      let B := c.vec vb
      ((i = Instr.vadd vd va vb k ew z ∧ ok = true ∧ w = ws ∧ f = (fun j => (vElem ws j A + vElem ws j B) % 2 ^ ws)) ∨
       (i = .vsub vd va vb k ew z ∧ ok = true ∧ w = ws ∧ f = (fun j => (vElem ws j A + 2 ^ ws - vElem ws j B) % 2 ^ ws)) ∨
       (i = .vmul vd va vb k ew z sgn ∧ ok = true ∧ w = ws ∧ f = (fun j => vWrap ws (vInt sgn ws j A * vInt sgn ws j B))) ∨
       (i = .vmulh vd va vb k ew z sgn ∧ ok = true ∧ w = ws ∧ f = (fun j => vWrap ws (vInt sgn ws j A * vInt sgn ws j B / 2 ^ ws))) ∨
       (i = .vwmulLo vd va vb k ew z sgn ∧ ok = decide (ew ≠ 3) ∧ w = 2 * ws ∧ f = (fun j => vWrap (2 * ws) (vInt sgn ws j A * vInt sgn ws j B))) ∨
       (i = .vwmulHi vd va vb k ew z sgn ∧ ok = decide (ew ≠ 3) ∧ w = 2 * ws ∧
         f = (fun j => vWrap (2 * ws) (vInt sgn ws (vCount ws / 2 + j) A * vInt sgn ws (vCount ws / 2 + j) B))) ∨
       (i = .vdot4b vd va vb k ew z sgn ∧ ok = decide (ew = 0) ∧ w = 32 ∧ f = (fun j => vDot sgn 8 32 4 (0 + 4 * j) (c.vec vd) A B j)) ∨
       (i = .vdot2h vd va vb k ew z sgn ∧ ok = decide (ew = 1) ∧ w = 32 ∧ f = (fun j => vDot sgn 16 32 2 (0 + 2 * j) (c.vec vd) A B j)) ∨
       (i = .vdot2hqLo vd va vb k ew z sgn ∧ ok = decide (ew = 1) ∧ w = 64 ∧ f = (fun j => vDot sgn 16 64 2 (0 + 2 * j) (c.vec vd) A B j)) ∨
       (i = .vdot2hqHi vd va vb k ew z sgn ∧ ok = decide (ew = 1) ∧ w = 64 ∧ f = (fun j => vDot sgn 16 64 2 (16 + 2 * j) (c.vec vd) A B j)) ∨
       (i = .vmont vd va vb k ew z ∧ vqOf c ws % 2 = 1 ∧ ok = decide (ew ≠ 0) ∧ w = ws ∧
         f = (fun j => montgomery ws (vqOf c ws) (vElem ws j A) (vElem ws j B))) ∨
       (i = .vand vd va vb k ew z ∧ ok = true ∧ w = ws ∧ f = (fun j => vElem ws j (A &&& B))) ∨
       (i = .vor vd va vb k ew z ∧ ok = true ∧ w = ws ∧ f = (fun j => vElem ws j (A ||| B))) ∨
       (i = .vxor vd va vb k ew z ∧ ok = true ∧ w = ws ∧ f = (fun j => vElem ws j (A ^^^ B))) ∨
       (i = .vandn vd va vb k ew z ∧ ok = true ∧ w = ws ∧ f = (fun j => vElem ws j (A &&& ~~~B))) ∨
       (i = .vshl vd va vb k ew z ∧ ok = true ∧ w = ws ∧ f = (fun j => vElem ws j A * 2 ^ (vElem ws j B % ws) % 2 ^ ws)) ∨
       (i = .vshr vd va vb k ew z ∧ ok = true ∧ w = ws ∧ f = (fun j => vElem ws j A / 2 ^ (vElem ws j B % ws))) ∨
       (i = .vsar vd va vb k ew z ∧ ok = true ∧ w = ws ∧ f = (fun j => vWrap ws (vInt true ws j A / 2 ^ (vElem ws j B % ws)))) ∨
       (i = .vbcast vd va k ew z ∧ ok = true ∧ w = ws ∧ f = (fun _ => (c.reg (va.zeroExtend 4)).toNat % 2 ^ ws))) →
      (ok = true → ∃ d, exec i s = .next (setCore d u) ∧ VRetired c d ∧ VWrote c d vd k z w f) ∧
      (ok = false → exec i s = .next (takeExc xILLEGAL c.pc 0 u))) ∧
    (∀ vd va vb k ew z, ew ≠ 0 → vqOf c (vWidth ew) % 2 = 0 → exec (.vmont vd va vb k ew z) s = .next (takeExc xVQBAD c.pc 0 u)) ∧
    (∀ i kd va vb k ew z sgn f, let w := vWidth ew
      ((i = Instr.vcmpEq kd va vb k ew z sgn ∧ f = fun (x y : Int) => decide (x = y)) ∨ (i = .vcmpNe kd va vb k ew z sgn ∧ f = fun x y => decide (x ≠ y)) ∨
       (i = .vcmpLt kd va vb k ew z sgn ∧ f = fun x y => decide (x < y)) ∨ (i = .vcmpLe kd va vb k ew z sgn ∧ f = fun x y => decide (x ≤ y))) →
      ∃ d, exec i s = .next (setCore d u) ∧ VRetired c d ∧ d.g = c.g ∧ d.v = c.v ∧ (∀ r, r ≠ kd → d.maskReg r = c.maskReg r) ∧
        (kd ≠ 0 → ∀ j, j < 64 → (d.maskReg kd).getLsbD j =
          if vCount w ≤ j ∨ j < c.vstart.toNat then (c.maskReg kd).getLsbD j
          else if (c.maskReg k).getLsbD j then f (vInt sgn w j (c.vec va)) (vInt sgn w j (c.vec vb))
          else if z then false else (c.maskReg kd).getLsbD j)) ∧
    (∀ i kd ka kb m, ((i = Instr.kand kd ka kb ∧ m = c.maskReg ka &&& c.maskReg kb) ∨ (i = .kor kd ka kb ∧ m = c.maskReg ka ||| c.maskReg kb) ∨
        (i = .kxor kd ka kb ∧ m = c.maskReg ka ^^^ c.maskReg kb) ∨ (i = .knot kd ka ∧ m = ~~~c.maskReg ka) ∨
        (i = .kmov kd ka ∧ ka.getLsbD 0 = false ∧ m = c.reg (ka.zeroExtend 4 + 1) ++ c.reg (ka.zeroExtend 4))) →
      ∃ d, exec i s = .next (setCore d u) ∧ VRetired c d ∧ d.g = c.g ∧ d.v = c.v ∧ (kd ≠ 0 → d.maskReg kd = m) ∧
        d.maskReg 0 = BitVec.allOnes 64 ∧ ∀ r, r ≠ kd → d.maskReg r = c.maskReg r) ∧
    (∀ rd va i ew, ∃ d, exec (.vextr rd va i ew) s = .next (setCore d u) ∧ VRetired c d ∧ d.v = c.v ∧ d.k = c.k ∧
      Wrote c d (rd.zeroExtend 4) (BitVec.ofNat 32 (vElem (vWidth ew) i.toNat (c.vec va)))) ∧
    (∀ rd ka, (rd.getLsbD 0 = false → ∃ d, exec (.kread rd ka) s = .next (setCore d u) ∧ VRetired c d ∧ d.v = c.v ∧ d.k = c.k ∧
        d.reg (rd.zeroExtend 4 + 1) ++ d.reg (rd.zeroExtend 4) = c.maskReg ka) ∧
      (rd.getLsbD 0 = true → exec (.kread rd ka) s = .next (takeExc xILLEGAL c.pc 0 u) ∧
        exec (.kmov ka rd) s = .next (takeExc xILLEGAL c.pc 0 u))) ∧
    (∀ vd rs k ew z f, let w := vWidth ew
      dCheck c (c.reg rs) 64 (w / 8) = .inr f →
      (refusedAs u (coreAccess u c f 64 1) = [] → ∃ d, exec (.vld vd rs k ew z) s = .next (setCore d u) ∧ VRetired c d ∧
        VWrote c d vd k z w (fun j => leNat (memRead u (f + j * (w / 8)) (w / 8)))) ∧
      (refusedAs u (coreAccess u c f 64 2) = [] → keysRise s.iso.mem = true → keysRise s.kreg.lks = true →
        ∃ t, exec (.vst vd rs k ew) s = .next t ∧ VRetired c t.tsuow.core ∧
        (∀ j, j < vCount w → inLks f = false → ctxAt? (f + j * (w / 8)) = none → memRead t (f + j * (w / 8)) (w / 8) =
          if vTakes c k j then leBytes (w / 8) (vElem w j (c.vec vd)) else memRead s (f + j * (w / 8)) (w / 8)) ∧
        ∀ a, (a < f ∨ f + 64 ≤ a) → ctxAt? a = none → memByte t a = memByte s a)) ∧
    (∀ vd rs vi k ew z, let w := vWidth ew
      let addr := fun j => c.reg rs + BitVec.ofNat 32 (vElem w j (c.vec vi))
      ((∀ j, j < vCount w → vTakes c k j = true → ∃ f, dCheck c (addr j) (w / 8) (w / 8) = .inr f ∧ refusedAs u (coreAccess u c f (w / 8) 1) = []) →
        ∃ d, exec (.vgath vd rs vi k ew z none) s = .next (setCore d u) ∧ VRetired c d ∧
          ∀ j f, j < vCount w → vTakes c k j = true → dCheck c (addr j) (w / 8) (w / 8) = .inr f →
            vElem w j (d.vec vd) = leNat (memRead u f (w / 8))) ∧
      ((∀ j, j < vCount w → vTakes c k j = true → ∃ f, dCheck c (addr j) (w / 8) (w / 8) = .inr f ∧ inLks f = false ∧
          refusedAs u (coreAccess u c f (w / 8) 2) = []) → keysRise s.iso.mem = true →
        ∃ t, exec (.vscat vd rs vi k ew none) s = .next t ∧ VRetired c t.tsuow.core ∧ t.tsuow.core.v = c.v ∧
          ∀ a, (∀ j f, j < vCount w → vTakes c k j = true → dCheck c (addr j) (w / 8) (w / 8) = .inr f → a < f ∨ f + w / 8 ≤ a) →
            ctxAt? a = none → memByte t a = memByte s a))

/-- SVC_CELL_LOAD and SVC_CELL_RESET, where carried out, begin the load and reset the cell; a bad format reports 3; past the
checks before the signature the cell is LOADING with a verification job, whose end places the image (READY) or leaves the cell as
before with its cause. A call waits for a LOADING cell; to a READY cell it starts it (RUNNING); to another colour's or an EMPTY
cell it ends KEY_EMPTY, to a FENCED one FENCED, with no such entry UNSUPPORTED. Each SVC of a cell's program enters the supervisor
with EPC the next instruction, which serves it; EXIT with a status of R499 ends the call with it and its output. A sub-job's end
resumes a waiting cell. The quantum's end gives the core to the next cell. A mismatch, an uncorrectable error in the core's
memories or its watchdog restarts the core pair; it is back within 5 ms. (R487, R490, R491, R494, R495, R497, R498, R499, R500,
R501, R502, R644) -/
def Obligations.ServiceCells : Prop :=
  (∀ c n data s, n < 64 → Deciding c (at_ Obj.SVC_CELL_LOAD n) data (cellLoadRule n s) s → exec (.svcCellLoad c n data) s =
    .next (let t := begun c (at_ Obj.SVC_CELL_LOAD n) data s; writeDone c (at_ Obj.SVC_CELL_LOAD n) (runLoad n (fitBytes 65536 (cell t n).image) t))) ∧
  (∀ n b s, keysRise s.dict.obj = true →
    (imgFormatOk b = false → objVal (runLoad n b s) (at_ Obj.SVC_CELL_LOAD_STATE n) = 3) ∧
    (∀ key, loadChecks s n b = .inr key → unitMissing s 0x0205 = false → let t := runLoad n b s
      objVal t (at_ Obj.SVC_CELL_LOAD_STATE n) = 1 ∧ (cell t n).st = .loading ∧ (cell t n).loading = some ((cell s n).st, b))) ∧
  (∀ n st b prior s, keysRise s.tsuow.cells = true → (cell s n).loading = some (prior, b) → let t := endLoad n st s
    let s1 := setCell n { cell s n with st := prior, loading := none } s
    (st ≠ .ok → cell t n = { cell s n with st := prior, loading := none } ∧ objVal t (at_ Obj.SVC_CELL_LOAD_STATE n) = loadRefusal st) ∧
    (st = .ok → (placeOr n b s1).2 = 2 → (cell t n).st = .ready ∧ (cell t n).loaded = b ∧ (cell t n).loading = none)) ∧
  (∀ e x n s, entry? s e = some x → x.origin = .load n → x.phase = .ended → outputHeld s x = false → exec (.jobComplete e) s =
    .next (releaseJob e x (x.late.foldl (fun t o => bump o t) (endLoad n x.status (countAbort x (wakeCore s)))))) ∧
  (∀ c n data s, n < 64 → Deciding c (at_ Obj.SVC_CELL_RESET n) data (cellResetRule n s) s →
    exec (.svcCellReset c n data) s = .next (writeDone c (at_ Obj.SVC_CELL_RESET n) (resetCell n (begun c (at_ Obj.SVC_CELL_RESET n) data s)))) ∧
  (∀ e x s, entry? s e = some x → x.desc.opcode / 256 = 0x0C → x.phase = .waiting → supervisorUp s = true →
    let n := x.desc.key2
    let ends := fun st => ∃ t, exec (.serviceCall e) s = .next t ∧ EndedWith t e st 0 []
    let mine := x.colour = 0x1000 + cellTenant s n
    (¬ mine → ends .keyEmpty) ∧ (mine → (cell s n).st = .loading → exec (.serviceCall e) s = .next s) ∧ (mine → (cell s n).st = .fenced → ends .fenced) ∧ (mine → (cell s n).st = .empty → ends .keyEmpty) ∧
    (mine → (cell s n).st = .ready → entryDefined (cell s n).loaded (x.desc.opcode % 256) = false → ends .unsupported) ∧
    (mine → (cell s n).st = .ready → entryDefined (cell s n).loaded (x.desc.opcode % 256) = true → earlierCall s x n = false →
      callPaused s n = false → ∃ t, exec (.serviceCall e) s = .next t ∧ (cell t n).st = .running ∧ (cell t n).call = some e)) ∧
  (∀ s : State, Executes s →
    let u := atInstr s
    let c := { u.tsuow.core with pc := u.tsuow.core.pc + 4 }
    let t := takeExc xSVC c.pc 0 (setCore c u)
    (∀ n, modeUM c = true → s.tsuow.current = some n → exec .svcExit s = .next (svcExit n t) ∧ exec .svcSubmit s = .next (svcSubmit n t) ∧
      exec .svcWait s = .next (svcWait n t) ∧ exec .svcYield s = .next (nextCell (switchOut n false t))) ∧
    (modeUM c = false → ∀ i ∈ [Instr.svcExit, .svcSubmit, .svcWait, .svcYield], exec i s = .next t)) ∧
  (∀ n e x st s, (cell s n).call = some e → entry? s e = some x → (s.tsuow.core.reg 2).toNat ≤ x.desc.outLen →
    exitStatus (s.tsuow.core.reg 1).toNat = some st → EndedWith (svcExit n s) e st 0
      (if st = .ok then readPages s ((x.pages.drop x.inPages).take x.outPages) (s.tsuow.core.reg 2).toNat else [])) ∧
  (∀ n e s, (cell s n).call = some e →
    (∀ x, entry? s e = some x → (cell s n).subjob ≠ none → svcSubmit n s = svcReturn 0x61 s) ∧
    (∀ r, (cell s n).subResult = some r → svcWait n s =
      setCore (s.tsuow.core.subAnswer r).eret (setCell n { cell s n with subResult := none } s)) ∧
    ((cell s n).subResult = none → (cell s n).subjob ≠ none → svcWait n s = nextCell (switchOut n true s)) ∧
    ((cell s n).subResult = none → (cell s n).subjob = none → svcWait n s = svcReturn 0x61 s)) ∧
  (∀ n e k x y s, (cell s n).subjob = some k → (cell s n).call = some e → entry? s e = some x → entry? s k = some y → y.phase = .ended →
    supervisorUp s = true →
    let c := cell s n
    let r := (statusCode y.status, y.detail, y.output.length)
    let s1 := y.late.foldl (fun t o => bump o t) (areaWrite x.pages y.desc.outAddr y.output (dropEntry k (wakeCore s)))
    (c.waiting = false → exec (.subjobComplete n) s = .next (setCell n { c with subjob := none, subResult := some r } s1)) ∧
    (c.waiting = true → let s2 := setCell n { c with
          subjob := none, subResult := none, waiting := false, saved := c.saved.map (fun q => q.subAnswer r) } s1
      exec (.subjobComplete n) s = .next (nextCell { s2 with tsuow := { s2.tsuow with readyQ := s2.tsuow.readyQ ++ [n] } }))) ∧
  (∀ n s, s.tsuow.current = some n → supervisorUp s = true →
    let c := s.tsuow.core
    exec .svcQuantumExpiry s = .next (nextCell (switchOut n false (setCore (if modeUM c then c.repeatEnd else c)
      { s with now := max s.now (cell s n).quantumEnd })))) ∧
  (∀ s, s.upd.phase ≠ 0 → s.tsuow.restarting = false →
    exec .lockstepMismatch s = .next (tamperEvent 18 .none_ 0 (warmRestart s)) ∧
    exec .tsuowWdogBite s = .next (warmRestart { s with now := max s.now (s.tsuow.wdogAt + ms (objVal s Obj.ERR_TSUOW_WDOG)) }) ∧
    ∀ m r, (m = 4 ∨ m = 5) → exec (.memoryEccError m true r) s =
      .next (tamperEvent 19 .none_ 0 (warmRestart (bump (Obj.ERR_ECC_UNCORR + (m - 1)) s)))) ∧
  (∀ m r s, 1 ≤ m → m ≤ 5 → exec (.memoryEccError m false r) s = .next (bump (Obj.ERR_ECC_CORR + (m - 1)) s) ∧
    (m ≤ 3 → exec (.memoryEccError m true r) s = .next (tamperEvent 19 r (unitNumber r) (bump (Obj.ERR_ECC_UNCORR + (m - 1)) s)))) ∧
  (∀ s, (warmRestart s).tsuow.core.stopped = true ∧ (warmRestart s).tsuow.current = none ∧ (warmRestart s).tsuow.restarting = true) ∧
  ∀ a s, s.tsuow.restarting = true → s.tsuow.restarts.getLast? = some a → ∃ t, exec .warmRestartComplete s = .next t ∧
    t.tsuow.restarting = false ∧ t.tsuow.core = Core.reset ∧ t.now ≤ max s.now (a + ms 5)

/-- RNG_TEST_FAIL of a READY source counts it, makes it FAILED with no seeds and no instances, and S20 takes an event. A retest
begins 100 ms later. A passing test makes the source READY with fresh instances and every slice's expander seeded. A failing
start-up test starts again, the third makes the source DEAD; a failing retest is FAILED again, the third DEAD, with an event of
S20. ERR_RNG_REINIT, where carried out, starts the start-up afresh. DRBG_RESEED serves the pending instance. GENERATE outputs the
bytes of instance 41, or ends ENTROPY_FAIL; RNG_READ gives 64 new bytes, or BUSY where the source is not READY. (R511, R512, R513,
R515, R516, R517, R518, R520, R525, R526) -/
def Obligations.EntropySource : Prop :=
  (∀ code g o v s, s.rng.st = .ready → 1 ≤ code → code ≤ 5 → g < 8 →
    let s1 := enterFailed { s with rng := { s.rng with retests := 0 } }
    exec (.rngTestFail code g o v) s = .next (tamperEvent 20 .none_ 0
      (setObj Obj.RNG_LAST_FAIL (lastFail s1 code g o v) (bump Obj.RNG_FAILS s1)))) ∧
  (∀ s, let t := enterFailed s
    t.rng.st = .failed ∧ t.rng.drbg = [] ∧ t.rng.seeds = 0 ∧ t.rng.failedAt = s.now) ∧
  (∀ s, s.rng.st = .failed → ∃ t, exec .rngRetest s = .next t ∧ t.rng.st = .retest ∧ t.now = max s.now (s.rng.failedAt + ms 100) ∧
    t.rng.startedAt = t.now) ∧
  (∀ s, (s.rng.st = .startup ∨ s.rng.st = .retest) → keysRise s.pke.slices = true → ∃ t, exec .rngStartupDone s = .next t ∧ t.rng.st = .ready ∧
    t.rng.starts = s.rng.starts + 1 ∧ s.rng.startedAt + sampleTime s ≤ t.now ∧ ∀ n, n < 36 → (slice_ t n).seeded = true) ∧
  (∀ s, s.rng.st = .startup →
    let s1 := { s with rng := { s.rng with attempts := s.rng.attempts + 1, startedAt := s.now } }
    (s.rng.attempts < 2 → exec .startUpTestFailure s = .next s1) ∧
    (2 ≤ s.rng.attempts → ∃ t, exec .startUpTestFailure s = .next t ∧ t.rng.st = .dead)) ∧
  (∀ s, s.rng.st = .retest →
    let s1 := { s with rng := { s.rng with retests := s.rng.retests + 1 } }
    exec .startUpTestFailure s = .next (tamperEvent 20 .none_ 0 (if s.rng.retests < 2 then enterFailed s1 else rngDies s1))) ∧
  (∀ c data s, Deciding c Obj.ERR_RNG_REINIT data (rngReinitRule s data) s →
    let t := begun c Obj.ERR_RNG_REINIT data s
    exec (.errRngReinit c data) s = .next (writeDone c Obj.ERR_RNG_REINIT (setObj Obj.ERR_REINIT_RESULT 1 (setRng .startup
      { t with rng := { t.rng with attempts := 0, retests := 0, startedAt := t.now, drbg := [], seeds := 0, seedAt := t.now },
               rec_ := { t.rec_ with reinit := some .rng } })))) ∧
  (∀ n s, s.rng.st = .ready → nextReseed s = some n → exec .drbgReseed s = .next (reseed n { s with now := s.now + cyclesNs s 40 })) ∧
  (∀ n s, keysRise s.rng.drbg = true → let d := drbg (reseed n s) n
    d.count = 0 ∧ d.interval = 4096 ∧ d.pending = false ∧ d.calls = (drbg s n).calls) ∧
  (∀ e x s, entry? s e = some x → x.desc.opcode = 0x0A30 → unitHead s 0x0A = some e → x.phase = .waiting →
    (s.rng.st = .ready → ∃ t, exec (.generate e) s = .next t ∧
      EndedWith t e .ok 0 (draw 41 x.desc.outLen (if bit x.desc.aux 0 then reseed 41 s else s)).1) ∧
    (s.rng.st ≠ .ready → ∃ t y, exec (.generate e) s = .next t ∧ entry? t e = some y ∧ y.status = .entropyFail ∧ y.output = [])) ∧
  ∀ c w s, let a : AccessCmd := ⟨c, .read, Obj.RNG_READ, []⟩
    let t := takeReq a s
    serverUp s = true → accessor s a = some w → readCheck t w Obj.RNG_READ = none →
    (s.rng.st = .ready → exec (.rngRead c) s = .next (deliver c .read Obj.RNG_READ .done 0 none (draw 41 64 t).1 (draw 41 64 t).2)) ∧
    (s.rng.st ≠ .ready → exec (.rngRead c) s = .next (deliver c .read Obj.RNG_READ .busy 0 none [] t))

/-- Where a source may give events, TAMPER_EVENT counts one, dated now (one in 100 ms of an input that changes faster than its
filter follows), a timed input active from when its activity began; one of a supply source is held back for PWR_PDN_WINDOW and
counted, dated when it happened, at PDN_WINDOW_EXPIRY. Below N events within W the source only counts; the N-th empties the count
and confirms. A confirmed alarm on main power adds one log entry with its source and LEVEL; level 1 holds for 100 µs (a HOLD again
restarts it, HOLD_EXPIRY ends it), a level of 3 or more above the held one is held, burns one evidence bit where R542 asks it, and
from 4 on leaves no key. On the cell it enters the latch and raises the pending level. The FILTER-th consecutive sample outside
gives an event, one inside restarts the run. STUCK and CHATTER are set and cleared at their times; ZERO_N gives S16's event; the
pulse of ALARM_N ends; power loss discards held-back events, counts, and leaves the AON domain on the cell or stops it. (R527,
R531, R532, R533, R534, R535, R537, R540, R542, R544, R546, R620) -/
def Obligations.TamperEvents : Prop :=
  (∀ n u v f s, let x := source s n
    let y := { x with changesAt := some (x.changesAt.getD s.now), changedAt := s.now }
    (inputSource n = false → exec (.tamperEvent n u v f) s = .next (giveEvent n u v s)) ∧
    (inputSource n = true → exec (.tamperEvent n u v false) s = .next (giveEvent n u v (setSource n { x with changesAt := none } s))) ∧
    (inputSource n = true → exec (.tamperEvent n u v true) s = .next (if x.eventAt.any (fun t => decide (s.now < t + ms 100))
      then setSource n y s else giveEvent n u v (setSource n y s)))) ∧
  (∀ n u v s, let x := source s n
    (mayEvent s n = false → giveEvent n u v s = s) ∧
    (mayEvent s n = true → heldSource n = true → giveEvent n u v s = if cfgEn (srcCfg s n) = true then { s with
      tmp := { s.tmp with heldEvents := s.tmp.heldEvents ++
        [{ source := n, value := v, at_ := s.now, due := s.now + us (objVal s Obj.PWR_PDN_WINDOW) }] } } else s) ∧
    (mayEvent s n = true → heldSource n = false → giveEvent n u v s = tamperEvent n u v (setSource n
      (if n = 14 ∨ n = 15 then { x with active := true, activeAt := s.now, armed := false }
       else if inputSource n = true then
         { x with active := true, activeAt := if n = 16 then s.now - sec 3 else s.now - ms (cfgFilter (srcCfg s n)) }
       else if n = 6 then { x with armed := false } else x) s))) ∧
  (∀ n u v t s, cfgEn (srcCfg s n) = true →
    let x := source s n
    let times := x.times.filter (fun a => decide (t ≤ a + ms (cfgW (srcCfg s n)))) ++ [t]
    let s1 := bump (at_ Obj.TMP_SRC_EVENTS n) s
    (times.length < cfgN (srcCfg s n) → tamperEventAt n u v t s = rouseCore (setSource n { x with times := times, eventAt := some t } s1) ∧
      source (tamperEventAt n u v t s) n = { x with times := times, eventAt := some t }) ∧
    (cfgN (srcCfg s n) ≤ times.length →
      tamperEventAt n u v t s = rouseCore (confirm n u v 0 (setSource n { x with times := [], eventAt := some t } s1)))) ∧
  (∀ n u v f s, s.tmp.onCell = false → ∃ r, (confirm n u v f s).tmp.log = tamperLogged s.tmp.log r ∧ r.source = n ∧
    r.level = cfgLevel (srcCfg s n)) ∧
  (∀ n u v f s, s.tmp.onCell = true → cfgLevel (srcCfg s n) ≠ 0 → s.tmp.latch.length ≤ 16 →
    let t := confirm n u v f s
    t.tmp.latch.length ≤ 16 ∧ (∃ r, t.tmp.latch.getLast? = some r ∧ r.source = n ∧ r.level = cfgLevel (srcCfg s n)) ∧
    t.tmp.aonPending = max s.tmp.aonPending (cfgLevel (srcCfg s n)) ∧ t.lc.otp = s.lc.otp) ∧
  (∀ n level u v f s, heldLevel s < level →
    let t := applyAlarm n level u v f s
    (level = 1 → t.tmp.holdUntil = some (s.now + us 100)) ∧
    (3 ≤ level → t.tmp.held = level ∧
      t.lc.otp.evidence = if burnsState s = true ∧ (source s n).burnt = false ∧ s.pwr.supplies = true ∧ s.lc.otp.evidence < 256
        then s.lc.otp.evidence + 1 else s.lc.otp.evidence) ∧
    (heldLevel s < 4 → 4 ≤ level → t.kreg.slots = [] ∧ t.kreg.lks = [] ∧ t.kreg.working = [] ∧
      t.kreg.kScr = [] ∧ t.kreg.kMask = [] ∧ t.dig.ctx = [] ∧ t.pke.parkKey = []) ∧
    (heldLevel s < 5 → 5 ≤ level → t.kreg.counters = [] ∧ t.kreg.kek = [] ∧ t.pwr.bbPlan = none)) ∧
  (∀ s a, s.tmp.holdUntil = some a →
    exec .holdExpiry s = .next { s with now := max s.now a, tmp := { s.tmp with holdUntil := none } }) ∧
  (∀ n v s, keysRise s.tmp.sources = true →
    let x := source s n
    source (sampleSource n false v s) n = { x with run := 0 } ∧
    (x.run + 1 < cfgFilter (srcCfg s n) → source (sampleSource n true v s) n = { x with run := x.run + 1 }) ∧
    (cfgFilter (srcCfg s n) ≤ x.run + 1 → sampleSource n true v s = giveEvent n .none_ v (setSource n { x with run := 0 } s))) ∧
  (∀ core sram io18 vbat ts s, s.tmp.aonStopped = false →
    let s0 := { s with now := s.now + if s.tmp.onCell then ms 1 else us 16 }
    let hot := tempOutside ts
    let s2 := sampleSource 8 hot.isSome (int32 (hot.getD 0)) (sampleSource 7 (decide (3800 < vbat)) vbat (sampleVbat vbat s0))
    (s.tmp.onCell = true → exec (.supplySample core sram io18 vbat ts) s = .next s2) ∧
    (s.tmp.onCell = false → s.pwr.supplies = true → ∃ t, exec (.supplySample core sram io18 vbat ts) s = .next t ∧ t.pwr.temps = ts)) ∧
  (∀ p b s, p < 2 → s.tmp.aonStopped = false → keysRise s.tmp.sources = true →
    let x := source s (14 + p)
    ∃ t, exec (.meshSample p b) s = .next t ∧
      (b = Config.meshBit (Config.meshNext s.tmp.lfsr) → source t (14 + p) = { x with run := 0, armed := true, active := false }) ∧
      (b ≠ Config.meshBit (Config.meshNext s.tmp.lfsr) → x.run + 1 < cfgFilter (srcCfg s (14 + p)) →
        source t (14 + p) = { x with run := x.run + 1 })) ∧
  (∀ s, mayEvent s 16 = true → exec .zeroNPress s =
    .next (tamperEvent 16 .none_ 0 (setSource 16 { source s 16 with active := true, activeAt := s.now - sec 3 } s))) ∧
  (∀ n s, inputSource n = true → s.tmp.aonStopped = false → keysRise s.tmp.sources = true →
    let x := source s n
    (x.active = true → x.stuck = false → ∃ t, exec (.inputStuck n) s = .next t ∧ t.now = max s.now (x.activeAt + sec 10) ∧
      source t n = { x with stuck := true, changedAt := t.now }) ∧
    (x.stuck = true → ∃ t, exec (.stuckClear n) s = .next t ∧ t.now = max s.now (x.changedAt + ms 100) ∧
      source t n = { x with stuck := false, active := false, armed := true, run := 0 }) ∧
    (∀ a, x.changesAt = some a → x.chatter = false → x.stuck = false → cfgEn (srcCfg s n) = true →
      ∃ t, exec (.inputChatter n) s = .next t ∧ (source t n).chatter = true) ∧
    (x.chatter = true → ∃ t, exec (.chatterClear n) s = .next t ∧ t.now = max s.now (x.changedAt + sec 1) ∧
      source t n = { x with chatter := false, changesAt := none, active := false, armed := true, run := 0 })) ∧
  (∀ s a, s.tmp.pulseUntil = some a → s.tmp.onCell = false → ∃ t, exec .alarmPinPulseEnd s = .next t ∧ t.tmp.pulseUntil = none ∧
    t.now = max s.now a ∧
    t.out = if heldLevel s ≠ 0 ∧ objVal s Obj.TMP_ALARM_PIN_LEVEL ≤ heldLevel s then s.out else s.out ++ [.alarmPin false]) ∧
  (∀ s e r, s.tmp.heldEvents = e :: r → exec .pdnWindowExpiry s =
    .next (tamperEventAt e.source .none_ e.value e.at_ { s with now := max s.now e.due, tmp := { s.tmp with heldEvents := r } })) ∧
  (∀ core sram io18 vbat s, s.pwr.supplies = true → (core < 550 ∨ sram < 600 ∨ io18 < 1450) →
    ∃ t, exec (.powerLossDetect core sram io18 vbat) s = .next t ∧ t.pwr.supplies = false ∧ t.tmp.heldEvents = [] ∧ t.kreg.slots = [] ∧
      t.lc.otp = s.lc.otp ∧ (1450 ≤ io18 ∨ 2000 < vbat → t.kreg.kek = s.kreg.kek ∧ t.pwr.powerLosses =
        if s.tmp.heldEvents = [] then s.pwr.powerLosses else nextCount s.pwr.powerLosses (stopSigns s)) ∧
      (io18 < 1450 → t.tmp.onCell = true ∧ (vbat ≤ 2000 → t.tmp.aonStopped = true ∧ t.kreg.kek = []))) ∧
  ∀ s, s.tmp.onCell = true → s.tmp.aonStopped = false →
    ∃ t, exec .aonDomainStop s = .next t ∧ t.tmp.aonStopped = true ∧ t.kreg.kek = [] ∧ t.kreg.counters = []

/-- Where the write is carried out: TMP_SRC_CFG takes the value; TMP_LOCK locks every TMP_SRC_CFG and TMP_ENC_POLARITY;
TMP_RELEASE releases the held response (nothing held; first the archive's restore after level 4 in MISSION); TMP_AON_CLEAR empties
the latch; TMP_QUORUM_CANCEL drops the pending act; TMP_OFF_KEY_ID takes the key ID and closes that officer's card session. A card
is activated, given one warm reset, selected, asked its keys; an officer's card is asked to sign LOGIN, and a card session opens
only if both signatures verify; another card is UNKNOWN. A signed approval is counted, a signed FILL asks for the component, which
is added if its tag verifies. Removal or the idle time closes the session. (R529, R530, R539, R548, R549, R550, R551, R552, R553,
R555, R556, R559) -/
def Obligations.TamperCommands : Prop :=
  (∀ c n data s, n < 24 → Deciding c (at_ Obj.TMP_SRC_CFG n) data (cfgRule n data s) s → exec (.tamperCfgWrite c n data) s =
    .next (writeDone c (at_ Obj.TMP_SRC_CFG n) (setObj (at_ Obj.TMP_SRC_CFG n) (writtenVal (at_ Obj.TMP_SRC_CFG n) data)
      (actedOn c (at_ Obj.TMP_SRC_CFG n) data (cfgRule n data s) s)))) ∧
  (∀ c data s, Deciding c Obj.TMP_LOCK data (cmdRule (lockObjs tmpLocked)) s →
    exec (.tmpLock c data) s = .next (writeDone c Obj.TMP_LOCK (lockObjs tmpLocked (begun c Obj.TMP_LOCK data s)))) ∧
  (∀ s : State, Obj.TMP_ENC_POLARITY ∈ (lockObjs tmpLocked s).dict.locked ∧
    ∀ n, n < 24 → at_ Obj.TMP_SRC_CFG n ∈ (lockObjs tmpLocked s).dict.locked) ∧
  (∀ c data s, Deciding c Obj.TMP_RELEASE data (releaseRule data s) s → let u := actedOn c Obj.TMP_RELEASE data (releaseRule data s) s
    exec (.tmpRelease c data) s = .next (writeDone c Obj.TMP_RELEASE (if u.tmp.held = 0 then u else releaseHeld u))) ∧
  (∀ s, (releaseHeld s).tmp.held = 0 ∧
    objVal (releaseHeld s) Obj.TMP_RELEASE_STATE = (if s.tmp.held = 4 ∧ s.lc.st = .mission then 1 else 2)) ∧
  (∀ c data s, Deciding c Obj.TMP_AON_CLEAR data (cmdRule clearLatch) s →
    exec (.tmpAonClear c data) s = .next (writeDone c Obj.TMP_AON_CLEAR (clearLatch (begun c Obj.TMP_AON_CLEAR data s)))) ∧
  (∀ s, keysRise s.dict.obj = true → (clearLatch s).tmp.latch = [] ∧ objVal (clearLatch s) Obj.TMP_AON_LOST = 0) ∧
  (∀ c data s, Deciding c Obj.TMP_QUORUM_CANCEL data (cmdRule dropAct) s →
    exec (.tmpQuorumCancel c data) s = .next (writeDone c Obj.TMP_QUORUM_CANCEL (dropAct (begun c Obj.TMP_QUORUM_CANCEL data s)))) ∧
  (∀ c o data s, o < 16 → Deciding c (at_ Obj.TMP_OFF_KEY_ID o) data (enrolRule o data s) s →
    let id := at_ Obj.TMP_OFF_KEY_ID o
    exec (.officerEnrolWrite c o data) s = .next (writeDone c id
      (officerChanged o (noticed Obj.TMP_OFFICERS (setObj id (leNat data) (actedOn c id data (enrolRule o data s) s)))))) ∧
  (∀ s o, s.tmp.card.session = some o → (officerChanged o s).tmp.card.session = none) ∧
  (∀ s : State, s.tmp.card.seated = false → slotWorks s = true → ∃ t, exec .cardInsert s = .next t ∧ t.tmp.card.seated = true ∧
    if rngReady s = true then t.tmp.card.step = .atr false ∧ t.out.getLast? = some .cardActivate else t.tmp.card.st = .failed) ∧
  (∀ s warm v p, s.tmp.card.step = .atr warm → ∃ t, exec (.cardAtr v p) s = .next t ∧
    if v = true then (if p = true then t.tmp.card.step = .select ∧ t.out.getLast? = some (apdu 0x00 0xA4 0x04 [0xF0, 0x5A, 0x4B, 0x4F, 0x46, 0x01])
        else t.tmp.card.st = .failed ∧ t.out.getLast? = some .cardDeactivate)
    else if warm = true then t.tmp.card.st = .failed ∧ t.out.getLast? = some .cardDeactivate
    else t.tmp.card.step = .atr true ∧ t.out.getLast? = some .cardActivate) ∧
  (∀ s sw, s.tmp.card.step = .select → ∃ t, exec (.cardSelect sw) s = .next t ∧
    if sw = 0x9000 then t.tmp.card.step = .getKeys ∧ t.out.getLast? = some (.card [0x80, 0x10, 0, 0]) else t.tmp.card.st = .failed) ∧
  (∀ s data, s.tmp.card.step = .getKeys → data.length = 2049 → rngReady s = true → ∃ t, exec (.cardGetKeys 0x9000 data) s = .next t ∧
    t.tmp.card.keys = data ∧ match officerOf s data with
      | none => t.tmp.card.st = .unknown ∧ t.tmp.card.step = .none_
      | some o => ∃ stmt, t.tmp.card.step = .login o stmt ∧ t.out.getLast? = some (.card ([0x80, 0x20, 0, 0] ++ stmt))) ∧
  (∀ s o stmt data env, s.tmp.card.step = .login o stmt → ∃ t, exec (.cardSign 0x9000 data env) s = .next t ∧
    if rngReady s = true ∧ canVerifyCard s = true ∧ cardSigned s.tmp.card.keys stmt data = true then t.tmp.card.st = .session ∧ t.tmp.card.session = some o
    else t.tmp.card.st = .failed ∧ t.tmp.card.session = s.tmp.card.session) ∧
  (∀ s o stmt obj d report data env, s.tmp.card.step = .approve obj d stmt report → s.tmp.card.session = some o →
    exec (.cardSign 0x9000 data env) s = .next (if rngReady s = true ∧ canVerifyCard s = true ∧
      cardSigned s.tmp.card.keys stmt data = true then approved env o obj d report s else notApproved obj report s)) ∧
  (∀ s stmt data env, s.tmp.card.step = .fill stmt →
    if rngReady s = true ∧ canVerifyCard s = true ∧ s.kreg.fill.isSome = true ∧ unitMissing s 0x0103 = false ∧
      cardSigned s.tmp.card.keys stmt data = true
    then ∃ t dk, exec (.cardSign 0x9000 data env) s = .next t ∧ t.tmp.card.step = .component stmt ∧ secret? t cardSecret = some dk
    else exec (.cardSign 0x9000 data env) s = .next (failFill s)) ∧
  (∀ s stmt dk o f v data, s.tmp.card.step = .component stmt → secret? s cardSecret = some dk → s.tmp.card.session = some o →
    s.kreg.fill = some f → mget? s.kreg.slots f.handle = some v →
    (∀ c, component stmt dk data v.data.length = some c → exec (.cardGetComponent 0x9000 data) s = .next (addComponent o c
      (endFillStep { s with tmp := { s.tmp with card := { s.tmp.card with lastAt := s.now } } }))) ∧
    (component stmt dk data v.data.length = none → exec (.cardGetComponent 0x9000 data) s = .next (failFill s))) ∧
  (∀ s : State, s.tmp.card.seated = true → ∃ t, exec .cardRemove s = .next t ∧ t.tmp.card.seated = false ∧ t.tmp.card.session = none ∧
    t.out.getLast? = some .cardDeactivate) ∧
  ∀ s o, s.tmp.card.session = some o → s.tmp.card.step = .none_ → ∃ t, exec .cardIdleTimeout s = .next t ∧
    t.tmp.card.session = none ∧ t.tmp.card.st = .unknown ∧ t.now = max s.now (s.tmp.card.lastAt + sec (objVal s Obj.TMP_CARD_IDLE))

/-- LC_NONCE_NEW holds a nonce of instance 40 for 30 minutes. LC_APPLY's first write makes the checks of R569 in order: the first
that fails is reported and the nonce discarded; none fails only for a listed transition, this unit, the held nonce and two good
signatures. Carried out, it burns the state bits, stops traffic, leaves no key and schedules the reset. LC_BIST, a challenge and
LC_DBG_OPEN act where they pass their checks: an opened debug has the granted scope, no key slot but the attestation keys derived
anew, no session, and every tenant that was ACTIVE PAUSED. IDCODE, SAMPLE/PRELOAD, BYPASS and EXTEST select their registers; an
instruction that leaves EXTEST resets the device first; a debug instruction inside what is available acts, one outside it selects
BYPASS and counts, with an event of S23 in MISSION while debug is not open. (R564, R567, R569, R570, R575, R577, R578, R579, R580,
R582, R583) -/
def Obligations.LifeCycleAndDebug : Prop :=
  (∀ c data s, Deciding c Obj.LC_NONCE_NEW data (nonceRule s) s →
    exec (.lcNonceNew c data) s = .next (writeDone c Obj.LC_NONCE_NEW (newNonce (begun c Obj.LC_NONCE_NEW data s)))) ∧
  (∀ s, rngReady s = true → (newNonce s).lc.nonce = some ((draw 40 32 s).1, (draw 40 32 s).2.now)) ∧
  (∀ s p, s.lc.nonce = some p → ∃ t, exec .nonceExpiry s = .next t ∧ t.lc.nonce = none ∧ t.now = max s.now (p.2 + sec 1800)) ∧
  (∀ c w data s, accessor s ⟨c, .write, Obj.LC_APPLY, data⟩ = some w → Deciding c Obj.LC_APPLY data (applyRule w data s) s → exec (.lcApply c data) s =
    .next (writeDone c Obj.LC_APPLY (applyRequest (actedOn c Obj.LC_APPLY data (applyRule w data s) s)))) ∧
  (∀ s b, (∀ e, requestFault s b = some e → (checkRequest b s).2 = false ∧ (checkRequest b s).1.lc.nonce = none ∧
      objVal (checkRequest b s).1 Obj.LC_REQ_STATE = e) ∧
    (requestFault s b = none → byteAt b 5 = lifeCode s.lc.st ∧ slice b 8 16 = fitBytes 16 s.lc.otp.unitId ∧
      s.lc.nonce.map (·.1) = some (slice b 24 32) ∧ requestSigned s b = true ∧
      ∃ goal, lifeOf (byteAt b 6) = some goal ∧ transitionOk s goal (byteAt b 7) = true ∧ precondition s goal = true)) ∧
  (∀ s goal g, transitionOk s goal g = true → s.lc.st ≠ .scrap ∧ (goal = .scrap ∨
    (s.lc.st, goal) ∈ [(LifeState.raw, LifeState.test), (.test, .provision), (.provision, .mission), (.mission, .rma)])) ∧
  (∀ s goal, lifeOf (byteAt s.lc.request 6) = some goal → precondition s goal = true →
    let t := applyRequest s
    let v := BitVec.ofNat 8 (lifeCode goal)
    t.lc.otp.state0 = s.lc.otp.state0 ||| v ∧ t.lc.otp.state1 = s.lc.otp.state1 ||| v ∧ t.lc.otp.state2 = s.lc.otp.state2 ||| v ∧
    (goal ≠ .provision → t.lc.otp.root0 = s.lc.otp.root0 ∧ t.lc.otp.root1 = s.lc.otp.root1) ∧
    t.kreg.slots = [] ∧ t.lc.stopping = true ∧ t.rec_.scheduled.isSome = true ∧ objVal t Obj.LC_REQ_STATE = 3) ∧
  (∀ c data pass s, Deciding c Obj.LC_BIST data (bistRule pass s) s →
    exec (.lcBist c data pass) s = .next (writeDone c Obj.LC_BIST (beginBist pass (begun c Obj.LC_BIST data s)))) ∧
  (∀ pass s, (beginBist pass s).kreg.slots = [] ∧ (beginBist pass s).rec_.scheduled.isSome = true ∧
    (beginBist pass s).lc.bistNext = if pass then 1 else 2) ∧
  (∀ c data s, Deciding c Obj.LC_DBG_CHALLENGE_NEW data (challengeRule data s) s → exec (.lcDbgChallengeNew c data) s =
    .next (writeDone c Obj.LC_DBG_CHALLENGE_NEW (newChallenge (leNat data) (begun c Obj.LC_DBG_CHALLENGE_NEW data s)))) ∧
  (∀ k s, rngReady s = true → let p := draw 40 32 s
    (newChallenge k s).lc.challenge = some (challengeBytes p.2 k p.1, p.2.now)) ∧
  (∀ c data s, Deciding c Obj.LC_DBG_OPEN data (openRule c data s) s → exec (.lcDbgOpen c data) s =
    .next (writeDone c Obj.LC_DBG_OPEN (applyToken data (actedOn c Obj.LC_DBG_OPEN data (openRule c data s) s)))) ∧
  (∀ data s, (tokenOk data s.lc.request s = false → (applyToken data s).lc.challenge = none ∧ (applyToken data s).lc.debugOpen = s.lc.debugOpen) ∧
    (tokenOk data s.lc.request s = true → let t := applyToken data s
      t.lc.debugOpen = true ∧ t.lc.scope = byteAt s.lc.request 6 ∧ t.lc.root = 2 ∧ t.lc.challenge = none ∧
      (∀ p ∈ t.kreg.slots, p.2.owner = 0 ∧ p.2.usage = uSIGN ∧ p.2.origin = 2) ∧ t.kreg.lks = [] ∧ t.dict.sessions = [] ∧
      t.tmp.held = s.tmp.held ∧
      ∀ n, n < 4096 → keysRise s.dict.obj = true → objVal s (at_ Obj.TENANT_STATE n) = 1 → objVal t (at_ Obj.TENANT_STATE n) = 3)) ∧
  (∀ s n, n < 4096 → keysRise s.dict.obj = true → objVal (pauseTenants s) (at_ Obj.TENANT_STATE n) =
    if objVal s (at_ Obj.TENANT_STATE n) = 1 then 3 else objVal s (at_ Obj.TENANT_STATE n)) ∧
  ∀ s, s.pwr.supplies = true →
    (∀ b, exec (.extest b) s = .next { s with lc := { s.lc with tap := .extest, extest := true, boundary := b }, out := s.out ++ [.boundary b] }) ∧
    ∀ b, let u := if s.lc.extest = true then resetDevice 9 b { s with lc := { s.lc with extest := false } } else s
      (s.lc.extest = true → u.upd.phase = 0 ∧ u.kreg.slots = [] ∧ u.lc.extest = false ∧
        exec (.extestExit b) s = .next { u with lc := { u.lc with tap := .idcode } }) ∧
      exec (.idcode b) s = .next { u with lc := { u.lc with tap := .idcode }, out := u.out ++ [.tap 0x2744099B] } ∧
      exec (.bypass b) s = .next { u with lc := { u.lc with tap := .bypass } } ∧
      (∀ v, exec (.samplePreload b v) s = .next { u with lc := { u.lc with tap := .samplePreload, boundary := v } }) ∧
      ∀ op : DebugOp, 0x80 ≤ op.code → op.code ≤ 0xBF →
        let open_ := debugTap u = true ∧ (u.lc.debugOpen = true → inDebugScope u op.code = true)
        let s1 := bump Obj.LC_DBG_ATTEMPTS { u with lc := { u.lc with tap := .bypass } }
        (open_ → exec (.debugInstruction op b) s =
          .next (debugActs (debugAct op.code) op.addr op.data { u with lc := { u.lc with tap := .debug op.code } })) ∧
        (¬ open_ → exec (.debugInstruction op b) s =
          .next (if u.lc.st = .mission ∧ u.lc.debugOpen = false then tamperEvent 23 .none_ 0 s1 else s1))

/-- A reset records its cause and its count (two causes of one moment are one reset, of the lower code), leaves no key slot, keeps
OTP, the configuration areas, the bundles, the held level, the latch and the stateful counters (an index then being signed with
may be used up), and awaits cast-on. ERR_RESET schedules it 1 ms later, SELF_RESET makes it, RESET_N low makes it and its rise
samples BOOT_SEL, PERST_N makes it only while ERR_PERST_RESET is 1; power-on brings the supplies. CAST_ON ends after C1 in SCRAP
with RUN 0, else at DEVICE_READY or in recovery; the area it chooses verifies, and it is in recovery only where neither does. In
C1 the held level is at least what it was and at least 3 where every evidence bit is burnt; RMA and SCRAP destroy the roots,
BBRAM, archive and settings. An activation copies active to fallback and staging to active, a fallback back again (activation
record's SEQ not at its end). (R538, R543, R547, R572, R576, R595, R596, R597, R610, R646, R647, R648) -/
def Obligations.ResetsAndCastOn : Prop :=
  (∀ k b s, let t := resetDevice k b s
    let again := s.upd.phase = 0 ∧ s.rec_.resetAt = some s.now
    t.rec_.cause = (if again then min s.rec_.cause k else k) ∧ t.rec_.resetAt = some s.now ∧
    t.rec_.resets = (if again then s.rec_.resets else nextCount s.rec_.resets (stopSigns s)) ∧ t.upd.phase = 0 ∧ t.upd.bootSel = b % 4 ∧ t.kreg.slots = [] ∧
    t.lc.otp = s.lc.otp ∧ t.dict.areaA = s.dict.areaA ∧ t.dict.areaB = s.dict.areaB ∧ t.upd.active = s.upd.active ∧
    t.upd.fallback = s.upd.fallback ∧ t.upd.staging = s.upd.staging ∧ t.upd.recA = s.upd.recA ∧ t.upd.recB = s.upd.recB ∧
    t.tmp.held = s.tmp.held ∧ t.tmp.latch = s.tmp.latch ∧ t.kreg.counters = (stopSigns s).kreg.counters ∧ t.kreg.kek = s.kreg.kek) ∧
  (∀ c data s, Deciding c Obj.ERR_RESET data (errResetRule s) s → let t := begun c Obj.ERR_RESET data s
    exec (.errReset c data) s = .next (writeDone c Obj.ERR_RESET (scheduleReset 3 (t.now + ms 1) t))) ∧
  (∀ b k a s, s.rec_.scheduled = some (k, a) → exec (.selfReset b) s = .next (resetDevice k b { s with now := max s.now a })) ∧
  (∀ b s, s.pwr.supplies = true →
    (s.rec_.resetLow = false → let u := resetDevice 1 s.upd.bootSel s
      exec (.resetN true b) s = .next { u with rec_ := { u.rec_ with resetLow := true } }) ∧
    (s.rec_.resetLow = true → exec (.resetN false b) s =
      .next { s with rec_ := { s.rec_ with resetLow := false }, upd := { s.upd with bootSel := b % 4 } }) ∧
    (objVal s Obj.ERR_PERST_RESET = 1 → exec (.perstNReset b) s = .next (resetDevice 2 b s)) ∧
    (objVal s Obj.ERR_PERST_RESET ≠ 1 → exec (.perstNReset b) s = .next (pcieReset s))) ∧
  (∀ b s, s.pwr.supplies = false → ∃ t, exec (.powerOnReset b) s = .next t ∧ t.pwr.supplies = true ∧ t.rec_.cause = 0 ∧ t.upd.phase = 0 ∧
    t.tmp.onCell = false ∧ t.tmp.aonStopped = false ∧ t.rec_.resetLow = false ∧ t.kreg.slots = [] ∧ t.lc.otp = s.lc.otp ∧
    t.upd.bootSel = b % 4 ∧ (s.tmp.aonStopped = true → time64 t = 0)) ∧
  (∀ env s, s.pwr.supplies = true → s.upd.phase = 0 → s.rec_.resetLow = false → ∃ t, exec (.castOn env) s = .next t ∧
    (decodeLife s.lc.otp = .scrap → t.upd.phase = 1 ∧ t.ring.run = false) ∧
    (decodeLife s.lc.otp ≠ .scrap → t.upd.phase = 7 ∨ (t.upd.phase = 3 ∧ t.upd.area = 2 ∧ t.upd.running = []))) ∧
  (∀ env s, s.pwr.supplies = true → s.upd.phase = 0 → s.rec_.resetLow = false → decodeLife s.lc.otp ≠ .scrap →
    let t := phaseC1 env s
    exec (.castOn env) s = .next (bootOn env t) ∧
    let c := copies env (phaseC2 env { t with upd := { t.upd with octal := env.octal } })
    (∀ a, (chooseArea c.fallbackFirst c.st).1 = some a → (bootOn env t).upd.phase = 7 ∧ (bootOn env t).upd.area = a ∧
      (bootOn env t).upd.running = areaBundle c.st a) ∧
    ((chooseArea c.fallbackFirst c.st).1 = none → (bootOn env t).upd.phase = 3 ∧ (bootOn env t).upd.area = 2)) ∧
  (∀ f s, (∀ a, (chooseArea f s).1 = some a → bundleErr s.lc.otp (areaBundle s a) = none ∧
      (phaseC3 a (chooseArea f s).2).upd.running = areaBundle s a) ∧
    ((chooseArea f s).1 = none → bundleErr s.lc.otp s.upd.active ≠ none ∧ bundleErr s.lc.otp s.upd.fallback ≠ none)) ∧
  (∀ s, let t := takeAon s
    s.tmp.held ≤ t.tmp.held ∧ t.tmp.aonPending = 0 ∧ t.tmp.burnsPending = 0 ∧ (evidenceHold t = true → halted t = true) ∧
    (burnsState s = true → t.lc.otp.evidence = if s.tmp.burnsPending = 0 then s.lc.otp.evidence
      else min 256 (s.lc.otp.evidence + s.tmp.burnsPending))) ∧
  (∀ s : State, (s.lc.st = .rma ∨ s.lc.st = .scrap) → let t := destroy s
    t.kreg.kek = [] ∧ t.kreg.counters = [] ∧ t.kreg.halfA = [] ∧ t.kreg.halfB = [] ∧ t.dict.areaA = [] ∧
    t.dict.areaB = [] ∧ t.lc.otp.root0 = List.replicate 36 0xFF ∧ t.lc.otp.root1 = List.replicate 36 0xFF) ∧
  (∀ env s, (actRec s).seq + 8 < 2 ^ 32 → bundleErr s.lc.otp s.upd.staging ≠ none → let t := (stepA env s).st
    t.upd.active = s.upd.active ∧ t.upd.fallback = s.upd.fallback ∧ updState t = 5) ∧
  (∀ env s, (actRec s).seq + 8 < 2 ^ 32 → bundleErr s.lc.otp s.upd.staging = none → sha384 s.upd.staging = (actRec s).hash → (actRec s).activeBad = false →
    env.copyB = true → env.copyC = true → s.upd.noTrial = false → let t := (stepA env s).st
    t.upd.fallback = s.upd.active ∧ t.upd.active = s.upd.staging ∧ updState t = 7 ∧ (actRec t).step = 3) ∧
  ∀ env s, (actRec s).seq + 8 < 2 ^ 32 → env.copyC = true → let t := (fallBack env s).st
    t.upd.active = s.upd.fallback ∧ t.upd.fallback = s.upd.fallback ∧ updState t = 9 ∧ (actRec t).step = 0 ∧ t.upd.trialUntil = none

/-- Where the write is carried out: UPD_STAGE_BEGIN erases the staging area (RECEIVING); UPD_VERIFY makes the state VERIFYING and,
within 80 ms, UPD_VERIFY_END makes it VERIFIED, the record holding the bundle's hash, or BAD; UPD_ACTIVATE_AT makes it PENDING
with its time, 0 being now; UPD_CANCEL makes it VERIFIED; UPD_CONFIRM makes it CONFIRMED, ends the trial and burns each OTP
security version up to the record's. A chunk that meets R604 is programmed, its bytes appended, and ends DONE; any other, or one
of a wrong declared length, leaves the staging area as it was and makes the state INCOMPLETE. (The record's SEQ is taken not to be
at the end of its 32 bits.) An activation whose time has come with nothing held resets the device with cause 5; the trial's end
resets it with cause 6. (R588, R602, R604, R605, R607, R608, R609, R612, R614, R615) -/
def Obligations.UpdateCommands : Prop :=
  (∀ c data s, Deciding c Obj.UPD_STAGE_BEGIN data (stageBeginRule s) s →
    exec (.updStageBegin c data) s = .next (writeDone c Obj.UPD_STAGE_BEGIN (stageBegin (begun c Obj.UPD_STAGE_BEGIN data s)))) ∧
  (∀ s, (actRec s).seq + 1 < 2 ^ 32 → (stageBegin s).upd.staging = [] ∧ updState (stageBegin s) = 1) ∧
  (∀ s b ok, chunkEnd s b ok = .ok ↔ ok = true ∧ 17 ≤ b.length ∧ b.length = 16 + ckLength b ∧ updState s = 1 ∧
    b.take 4 = [0x5A, 0x4B, 0x43, 0x48] ∧ slice b 12 4 = zeros 4 ∧ ckOffset b = s.upd.staging.length ∧
    ckOffset b + ckLength b ≤ bundleMax) ∧
  (∀ c w total data ok s, let a : AccessCmd := ⟨c, .writeBlockLast, Obj.UPD_STAGE_CHUNK, data⟩
    let u := takeReq a s
    let ends := fun r t => exec (.updStageChunk c total data ok) s =
      .next (deliver w.caller .writeBlockLast Obj.UPD_STAGE_CHUNK r (lastOffset c data.length) (some total) [] t)
    serverUp s = true → accessor s a = some w → writeCheck u w Obj.UPD_STAGE_CHUNK = none →
    (17 ≤ total → total ≤ 65536 → data.length = total →
      ends (match chunkEnd u data ok with | .ok => .done | .length => .badLength | _ => .badValue) (takeChunk data ok u)) ∧
    (total < 17 ∨ 65536 < total ∨ data.length ≠ total →
      ends .badLength (setUpd 2 (lastErr 6 none { u with upd := { u.upd with verifyAt := none } })))) ∧
  (∀ s b ok, (actRec s).seq + 1 < 2 ^ 32 → (chunkEnd s b ok = .ok → (takeChunk b ok s).upd.staging = s.upd.staging ++ b.drop 16 ∧ updState (takeChunk b ok s) = 1) ∧
    (chunkEnd s b ok ≠ .ok → (takeChunk b ok s).upd.staging = s.upd.staging ∧ updState (takeChunk b ok s) = 2)) ∧
  (∀ c data s, Deciding c Obj.UPD_VERIFY data (verifyRule data s) s → let u := begun c Obj.UPD_VERIFY data s
    exec (.updVerify c data) s = .next (writeDone c Obj.UPD_VERIFY (setUpd 3 { u with upd := { u.upd with verifyAt := some u.now } }))) ∧
  (∀ s a, (actRec s).seq + 1 < 2 ^ 32 → s.upd.verifyAt = some a → ∃ t, exec .updVerifyEnd s = .next t ∧ t.upd.verifyAt = none ∧ t.now ≤ max s.now (a + ms 80) ∧
    t.upd.staging = s.upd.staging ∧
    (bundleErr s.lc.otp s.upd.staging = none → updState t = 4 ∧ (actRec t).hash = sha384 s.upd.staging ∧
      (actRec t).secver = bundleSecvers s.upd.staging) ∧
    (bundleErr s.lc.otp s.upd.staging ≠ none → updState t = 5)) ∧
  (∀ c data s, Deciding c Obj.UPD_ACTIVATE_AT data (activateRule data s) s →
    exec (.updActivateAt c data) s = .next (writeDone c Obj.UPD_ACTIVATE_AT (activateAt (leNat data) (begun c Obj.UPD_ACTIVATE_AT data s)))) ∧
  (∀ v s, (actRec s).seq + 1 < 2 ^ 32 → v < 2 ^ 64 → updState (activateAt v s) = 6 ∧ (actRec (activateAt v s)).activateAt = (if v = 0 ∨ s.upd.area = 2 then time64 s else v) ∧
    (actRec (activateAt v s)).hash = (actRec s).hash) ∧
  (∀ c data s, Deciding c Obj.UPD_CANCEL data (cancelRule s) s →
    exec (.updCancel c data) s = .next (writeDone c Obj.UPD_CANCEL (setUpd 4 (begun c Obj.UPD_CANCEL data s)))) ∧
  (∀ v s, (actRec s).seq + 1 < 2 ^ 32 → v < 256 → updState (setUpd v s) = v ∧ (actRec (setUpd v s)).hash = (actRec s).hash ∧ (actRec (setUpd v s)).seq = (actRec s).seq + 1) ∧
  (∀ b s, updState s = 6 → s.upd.phase = 7 → s.tmp.held = 0 → exec (.activationDue b) s =
    .next (resetDevice 5 b { s with now := max s.now (rtcReaches s (actRec s).activateAt) })) ∧
  (∀ b s, s.tmp.held ≠ 0 → exec (.activationDue b) s = .next s) ∧
  (∀ c data s, Deciding c Obj.UPD_CONFIRM data (confirmRule s) s → let u := begun c Obj.UPD_CONFIRM data s
    exec (.updConfirm c data) s = .next (writeDone c Obj.UPD_CONFIRM
      (burnSecver (setUpd 8 { u with upd := { u.upd with trialUntil := none } })))) ∧
  (∀ s k, keysRise s.lc.otp.secver = true → 1 ≤ k → k ≤ 10 →
    otpSecver (burnSecver s).lc.otp k = max (otpSecver s.lc.otp k) ((actRec s).secver.getD (k - 1) 0)) ∧
  ∀ b a s, s.upd.trialUntil = some a → exec (.trialExpiry b) s = .next (resetDevice 6 b { s with now := max s.now a })

/-- GAUGE_REPLAN_DUE and PWR_REPLAN begin a plan: the lowest voltage of the range at which the slack suffices, at a clock whose
slack at 850 mV suffices where there is one. VOUT_STEP writes VOUT_COMMAND at most 5 mV nearer the goal, at least 200 µs after the
last write. PMBUS_WRITE_RESULT accepts an acknowledged write within 15 mV, writes again up to three times, then keeps the last
acknowledged target and reports state 4. PM_ALERT reports STATUS_WORD. An idle slice is gated, an idle engine's clock gated, the
PLL stopped, the core put in retention, under their conditions. PWR_RTC sets the RTC and records the time before. (R624, R628,
R629, R630, R631, R635) -/
def Obligations.PowerAndClocks : Prop :=
  (∀ m s, s.pwr.supplies = true → s.upd.phase = 7 → ∃ t, exec (.gaugeReplanDue m) s = .next t ∧ t.pwr.lastPlanHours = nextPlanHours s ∧
    t.now = max s.now (s.pwr.opAt + sec 3600 * (nextPlanHours s - s.pwr.opHours)) + (if s.tsuow.core.retention = true then us 20 else 0)) ∧
  (∀ c m data s, Deciding c Obj.PWR_REPLAN data (replanRule m s) s →
    exec (.pwrReplan c m data) s = .next (writeDone c Obj.PWR_REPLAN (beginPlan m (begun c Obj.PWR_REPLAN data s)))) ∧
  (∀ m s, keysRise s.dict.obj = true →
    let p := (makePlan m (objVal s Obj.PWR_GUARD) (objVal s Obj.PWR_CLOCK_FLOOR) (Config.freeNat s.free)).plan
    objVal (beginPlan m s) Obj.PWR_VCORE_TARGET = p.mv ∧ (beginPlan m s).pwr.noPmbus = false) ∧
  (∀ m f k (g : Nat), (∃ v ∈ planVolts, (g : Int) ≤ slackAt m f v) →
    planMv m g f k ∈ planVolts ∧ (g : Int) ≤ slackAt m f (planMv m g f k) ∧ ∀ v ∈ planVolts, v < planMv m g f k → slackAt m f v < g) ∧
  (∀ m (g : Nat) fl k, (∃ f ∈ planClocks fl, (g : Int) ≤ slackAt m f 850) → let p := makePlan m g fl k
    p.plan.mhz ∈ planClocks fl ∧ (g : Int) ≤ slackAt m p.plan.mhz 850 ∧
    (∀ f ∈ planClocks fl, p.plan.mhz < f → slackAt m f 850 < g) ∧ p.state ≠ 3) ∧
  (∀ s r goal, s.pwr.plan = some r → nextVolt s r.plan = some goal → ∃ t, exec .voutStep s = .next t ∧
    t.pwr.voutNow = (if s.pwr.voutNow < goal then min goal (s.pwr.voutNow + 5) else max goal (s.pwr.voutNow - 5)) ∧
    t.pwr.voutPrev = s.pwr.voutNow ∧ t.pwr.writePending = true ∧ t.pwr.voutAt = some t.now ∧ (∀ a, s.pwr.voutAt = some a → a + us 200 ≤ t.now) ∧
    ∃ l, t.out = s.out ++ .pmbus (objVal s Obj.PWR_PMBUS_ADDR) 0x21
      (leBytes 2 (linear16 (s.pwr.linear16.getD 0) t.pwr.voutNow)) :: l) ∧
  (∀ ack pec mv a s, s.pwr.voutAt = some a → s.pwr.writePending = true → keysRise s.dict.obj = true →
    let good := ack = true ∧ pec = true ∧ mv ≤ s.pwr.voutNow + 15 ∧ s.pwr.voutNow ≤ mv + 15
    ∃ t, exec (.pmbusWriteResult ack pec mv) s = .next t ∧ t.now = max s.now (a + ms 1) ∧
      (good → t.pwr.writePending = false ∧ t.pwr.voutAcked = s.pwr.voutNow ∧ objVal t Obj.PWR_VCORE_READ = mv % 65536) ∧
      (¬ good → s.pwr.writeTries < 3 → t.pwr.writePending = true ∧ t.pwr.writeTries = s.pwr.writeTries + 1 ∧ t.pwr.voutNow = s.pwr.voutNow) ∧
      (¬ good → 3 ≤ s.pwr.writeTries → t.pwr.writePending = false ∧ t.pwr.noPmbus = true ∧ t.pwr.voutNow = s.pwr.voutAcked ∧
        objVal t Obj.PWR_GAUGE_STATE = 4)) ∧
  (∀ v s, s.pwr.supplies = true → s.upd.phase ≠ 0 → exec (.pmAlert v) s = .next (setObj Obj.PWR_PMBUS_STATUS (v % 65536) s)) ∧
  (∀ n s, n < 36 → (slice_ s n).st = .idle → (idleAt s (slice_ s n).idleSince).sliceGate = 1 → keysRise s.pke.slices = true →
    ∃ t, exec (.slicePowerGate n) s = .next t ∧ (slice_ t n).st = .gated ∧
      t.now = max s.now ((slice_ s n).idleSince + us (idleAt s (slice_ s n).idleSince).sliceIdle)) ∧
  (∀ s : State, s.pwr.pllRunning = true → s.pwr.clockGated = false → engineBusy s = false →
    ∃ t, exec .engineClockGate s = .next t ∧ t.pwr.clockGated = true ∧ t.pwr.pllRunning = true) ∧
  (∀ s : State, s.pwr.clockGated = true → (port s 0).st = .down → (port s 1).st = .down → s.tsuow.core.retention = true →
    graftWork s = false → exec .pllStop s = .next { s with pwr := { s.pwr with pllRunning := false } }) ∧
  (∀ s, supervisorUp s = true → s.upd.phase = 7 → s.dict.queue = [] → s.tsuow.current = none → s.tsuow.readyQ = [] →
    ∃ t, exec .tsuowRetention s = .next t ∧ t.tsuow.core.retention = true ∧ t.now = max s.now (s.tsuow.activeAt + ms 1)) ∧
  (∀ c data s, Deciding c Obj.PWR_RTC data (rtcRule data) s →
    exec (.pwrRtcWrite c data) s = .next (writeDone c Obj.PWR_RTC (setRtc (leNat data) (begun c Obj.PWR_RTC data s)))) ∧
  ∀ v s, keysRise s.dict.obj = true → v < 2 ^ 64 → time64 (setRtc v s) = v ∧ (setRtc v s).pwr.rtcSets = nextCount s.pwr.rtcSets s ∧
    objVal (setRtc v s) Obj.PWR_RTC_LAST_SET = time64 s + v * 2 ^ 64

/-- Where the write is carried out, ERR_SLICE_REINIT, ERR_REQ_REINIT, ERR_DIG_REINIT and ERR_PIPE_REINIT start the test of the
unit they name and report RUNNING (1); a second one is BUSY until it ends. REINIT_COMPLETE ends it within its bound: PASS (2), the
unit unfenced, out of the fence map and ready, or FAIL (3), the unit fenced. (R520, R636, R639) -/
def Obligations.Reinitialisation : Prop :=
  (∀ c data s,
    (Deciding c Obj.ERR_SLICE_REINIT data (reinitRule (.slice (leNat data)) s) s → exec (.errSliceReinit c data) s =
      .next (writeDone c Obj.ERR_SLICE_REINIT (beginReinit (.slice (leNat data)) (begun c Obj.ERR_SLICE_REINIT data s)))) ∧
    (Deciding c Obj.ERR_REQ_REINIT data (reinitRule (.requester (leNat data)) s) s → exec (.errReqReinit c data) s =
      .next (writeDone c Obj.ERR_REQ_REINIT (beginReinit (.requester (leNat data)) (begun c Obj.ERR_REQ_REINIT data s)))) ∧
    (Deciding c Obj.ERR_DIG_REINIT data (reinitRule (.digest (leNat data)) s) s → exec (.errDigReinit c data) s =
      .next (writeDone c Obj.ERR_DIG_REINIT (beginReinit (.digest (leNat data)) (begun c Obj.ERR_DIG_REINIT data s)))) ∧
    (Deciding c Obj.ERR_PIPE_REINIT data (reinitRule (.pipe (leNat data)) s) s → exec (.errPipeReinit c data) s =
      .next (writeDone c Obj.ERR_PIPE_REINIT (beginReinit (.pipe (leNat data)) (begun c Obj.ERR_PIPE_REINIT data s))))) ∧
  (∀ u s, (beginReinit u s).rec_.reinit = some u ∧ (beginReinit u s).rec_.reinitAt = s.now ∧
    objVal (beginReinit u s) Obj.ERR_REINIT_RESULT = 1 ∧ (beginReinit u s).rec_.fences = s.rec_.fences ∧
    (∀ n, u = .slice n → (slice_ s n).st ≠ .fenced → (slice_ (beginReinit u s) n).st = .init) ∧
    (∀ n, u = .digest n → (digUnit (beginReinit u s) n).initAt = some s.now) ∧
    (∀ n, u = .pipe n → (pipe (beginReinit u s) n).initAt = some s.now) ∧
    (s.rec_.reinit.isSome = true → (reinitRule u s).busy = true) ∧ (reinitBusy s u = true → (reinitRule u s).busy = true)) ∧
  ∀ u pass s, s.rec_.reinit = some u → u ≠ .rng → ∃ t, exec (.reinitComplete pass) s = .next t ∧ t.rec_.reinit = none ∧
    s.now ≤ t.now ∧ t.now ≤ max s.now (s.rec_.reinitAt + reinitBound u) ∧ objVal t Obj.ERR_REINIT_RESULT = (if pass then 2 else 3) ∧
    (pass = true → reinitBit u ∉ t.rec_.fences ∧ (∀ n, u = .slice n → (slice_ t n).st = .idle) ∧
      (∀ n, u = .requester n → n ∉ t.pke.fencedReq) ∧
      (∀ n, u = .digest n → keysRise s.dig.units = true → (digUnit t n).fenced = false ∧ (digUnit t n).jobs = []) ∧
      ∀ n, u = .pipe n → keysRise s.sp.pipes = true → (pipe t n).fenced = false) ∧
    (pass = false → (∀ n, u = .slice n → (slice_ t n).st = .fenced) ∧ (∀ n, u = .requester n → n ∈ t.pke.fencedReq) ∧
      (∀ n, u = .digest n → (digUnit t n).fenced = true) ∧ ∀ n, u = .pipe n → (pipe t n).fenced = true)

end
end

