-- ==== Sys2Proof/Laws/Access.lean ====
section
/-!
SUPPORT. What the dictionary server does with a write (R9, R555, R673), and where the access to a record passes its checks (R36, R91),
said once.
-/
namespace Sys2Proof.Machine

/-- An access is applied with its own caller's roles. -/
theorem accessor_caller {s : State} {a : AccessCmd} {w : Who} (h : accessor s a = some w) : w.caller = a.caller := by
  have own : ∀ c, whoOf s c = some w → w.caller = c := by
    intro c hw
    cases c with
    | window => simp only [whoOf, Option.some.injEq] at hw; rw [← hw]
    | supervisor => simp only [whoOf, Option.some.injEq] at hw; rw [← hw]
    | session k n =>
      simp only [whoOf, Option.map_eq_some_iff] at hw
      obtain ⟨x, _, hx⟩ := hw
      rw [← hx]
  unfold accessor at h
  split at h
  · rename_i hc; rw [own _ h, hc]
  · split at h
    · cases h
    · exact own _ h
  · split at h
    · cases h; rfl
    · cases h

/-- The act of a write that is carried out at once is performed on `actedOn`, and the answer is DONE. -/
theorem writeAccess_of_deciding {c : Caller} {id : ObjId} {data : Bytes} {r : WriteRule} {s : State} (h : Deciding c id data r s) :
    writeAccess c id data r s = writeDone c id (r.act (actedOn c id data r s)) := by
  obtain ⟨w, ⟨hu, hw⟩, hc, hq, hf, hrec, hre⟩ := h
  have hwc : w.caller = c := accessor_caller hw
  unfold writeAccess inTurn
  rw [hw, hu]
  have hb : takeReq ⟨c, .write, id, data⟩ s = begun c id data s := rfl
  simp only [serveWrite, hb, hc]
  unfold actedOn at hrec hre ⊢
  revert hrec hre hq hf
  generalize begun c id data s = t
  intro hq hf hrec hre
  by_cases hcrit : r.critical = true
  · by_cases hsup : c = .supervisor
    · have hp : (r.first t).2 = true := by
        rcases hf with ⟨_, h2, _⟩ | h
        · exact absurd hsup h2
        · exact h
      simp [hwc, hsup, deliverWrite, writeDone, recordWrite, hp] at hrec hre ⊢
      simp [hrec, hre]
    · obtain ⟨hfw, hl⟩ := (hq hcrit).resolve_left hsup
      have hp : (if actPending t id data = true then (t, true) else r.first t).2 = true := by
        split
        · rfl
        · rename_i hn
          rcases hf with ⟨_, _, h3⟩ | h
          · exact absurd h3 hn
          · exact h
      have he : (if actPending t id data = true then t else (r.first t).1) =
          (if actPending t id data = true then (t, true) else r.first t).1 := by split <;> rfl
      simp only [hcrit, ne_eq, hsup, not_false_eq_true, and_self, if_true, he] at hrec hre ⊢
      simp only [hwc, hfw, approve, hl, hp, deliverWrite, writeDone, recordWrite, hsup, not_false_eq_true, decide_true,
        Bool.and_self, if_true, Bool.false_eq_true, if_false, hrec, hre, Option.getD_none]
  · have hp : (r.first t).2 = true := by
      rcases hf with ⟨h1, _⟩ | h
      · exact absurd h1 hcrit
      · exact h
    simp [hcrit, deliverWrite, writeDone, recordWrite, hp] at hrec hre ⊢
    simp [hrec, hre]

/-- An access to a record passes where the master's class has one enabled rule, which covers the context store and allows it, and the
record's tag is the master's colour (R91, R93). -/
theorem checkRec_open {s : State} {r : CtxRec} {cls master len kind ring entry rule : Nat} (hc : cls ≠ 8)
    (he : enabledRules s cls = [rule]) (hb : ruleBase rule ≤ 0x30000) (hl : 0x31FFF ≤ ruleLimit rule)
    (ha : ruleAllows rule kind = true) : checkRec s r (recAccess cls master (recTag s r) r len kind ring entry) = none := by
  have hr : 0x3000000 ≤ recAddr r ∧ recAddr r % 256 = 0 ∧ recAddr r < 0x3000000 + 8188 * 256 := by
    unfold recAddr
    generalize Config.ctxPlace (recKind r).1 (recKind r).2 = p
    omega
  have hg : ∀ g ∈ granules (recAccess cls master (recTag s r) r len kind ring entry), 0x30000 ≤ g ∧ g ≤ 0x31FFF := by
    intro g h
    simp only [granules, recAccess, List.mem_map, List.mem_range] at h
    obtain ⟨k, hk, rfl⟩ := h
    omega
  generalize hgs : granules (recAccess cls master (recTag s r) r len kind ring entry) = gs at hg
  have h1 : gs.find? (fun g => !(mapped (g * 256))) = none := by
    rw [List.find?_eq_none]; intro g h
    have := hg g h
    have h2 : taggedAddr (g * 256) = true := by unfold taggedAddr; simp; omega
    simp [mapped, h2]
  have h2 : gs.all (ruleCovers rule) = true := by
    rw [List.all_eq_true]; intro g h
    have := hg g h
    simp only [ruleCovers, decide_eq_true_eq]; omega
  have h3 : gs.find? (fun g => decide (2 ≤ (([rule] : List Nat).filter (fun r => ruleCovers r g)).length)) = none := by
    rw [List.find?_eq_none]; intro g _
    have := List.length_filter_le (fun r => ruleCovers r g) [rule]
    simp only [List.length_cons, List.length_nil] at this
    simp only [decide_eq_true_eq]; omega
  have h4 : gs.find? (fun g => decide (kind = 2) && romAddr (g * 256)) = none := by
    rw [List.find?_eq_none]; intro g h
    have := hg g h
    have h2 : romAddr (g * 256) = false := by unfold romAddr; simp; omega
    simp [h2]
  have h5 : gs.find? (fun g => taggedAddr (g * 256) && decide (recTag s r ≠ recTag s r)) = none := by
    rw [List.find?_eq_none]; intro g _; simp
  have h6 : ([rule] : List Nat).filter (fun r => gs.all (ruleCovers r)) = [rule] := by simp [h2]
  unfold recAccess at hgs ⊢
  unfold checkRec checkWith
  rw [hgs]
  simp only [h1, hc, if_false, he, h6, h3, List.any_cons, List.any_nil, ha, Bool.or_false, Bool.not_true, Bool.false_eq_true, h4, h5]

/-- The dictionary server reaches the record of an object where its class's one rule allows it and the record is its own (R36). -/
theorem serverRefused_open {s : State} {id : ObjId} {len kind rule : Nat} (he : enabledRules s 3 = [rule]) (hb : ruleBase rule ≤ 0x30000)
    (hl : 0x31FFF ≤ ruleLimit rule) (ha : ruleAllows rule kind = true) (ht : ∀ r, recordOf id = some r → recTag s r = 0x0002) :
    serverRefused s id len kind = none := by
  unfold serverRefused
  cases h : recordOf id with
  | none => rfl
  | some r =>
    have := checkRec_open (s := s) (r := r) (master := 0) (len := len) (ring := 0xFFFF) (entry := 0xFFFFFFFF) (by decide : (3 : Nat) ≠ 8)
      he hb hl ha
    rw [ht r h] at this
    simp [this]

end Sys2Proof.Machine
end

