-- ==== Sys2Proof/Laws/FramePending.lean ====
section
/-!
SUPPORT. The queue is untouched: for every operation and every command of the model, `pending` after is `pending` before.
-/
namespace Sys2Proof.Machine
@[simp] theorem foldl_pending {α : Type} (g : State → α → State) (h : ∀ t x, (g t x).pending = t.pending) (l : List α) (s : State) :
    (l.foldl g s).pending = s.pending := by
  induction l generalizing s with
  | nil => rfl
  | cons x r ih => rw [List.foldl_cons, ih, h]
theorem ite_pending (c : Prop) [Decidable c] (a b : State) : (if c then a else b).pending = if c then a.pending else b.pending := by split <;> rfl
theorem ite_rule_pending_act (c : Prop) [Decidable c] (a b : WriteRule) (ha : ∀ τ, (a.act τ).pending = τ.pending) (hb : ∀ τ, (b.act τ).pending = τ.pending) :
    ∀ τ, ((if c then a else b).act τ).pending = τ.pending := by split <;> assumption
theorem ite_rule_pending_first (c : Prop) [Decidable c] (a b : WriteRule) (ha : ∀ τ, (a.first τ).1.pending = τ.pending)
    (hb : ∀ τ, (b.first τ).1.pending = τ.pending) : ∀ τ, ((if c then a else b).first τ).1.pending = τ.pending := by split <;> assumption
@[simp] theorem Res.stop_release (st : Status) (c : Nat) : (Res.stop st c).release = id := rfl
@[simp] theorem Res.ok_release (o : Bytes) (c : Nat) : (Res.ok o c).release = id := rfl
@[simp] theorem persistRes_release (s : State) (h life : Nat) (v : Slot) (r : Res) :
    (persistRes s h life v r).release = fillSlot h life { v with st := .loading, persist := true } := rfl
@[simp] theorem advanceTo_pending (t : Time) (s : State) : (advanceTo t s).pending = s.pending := by simp only [advanceTo]
@[simp] theorem usedFree_pending (s : State) : (usedFree s).pending = s.pending := by simp only [usedFree]
@[simp] theorem emit_pending (o : Out) (s : State) : (emit o s).pending = s.pending := by simp only [emit]
@[simp] theorem raiseVec_pending (vec : Nat) (s : State) : (raiseVec vec s).pending = s.pending := by simp only [raiseVec]
@[simp] theorem noticed_pending (id : ObjId) (s : State) : (noticed id s).pending = s.pending := by simp only [noticed]
@[simp] theorem setObj_pending (id : ObjId) (v : Nat) (s : State) : (setObj id v s).pending = s.pending := by simp only [setObj]
@[simp] theorem bumpBy_pending (id : ObjId) (n : Nat) (s : State) : (bumpBy id n s).pending = s.pending := by simp only [bumpBy, setObj_pending]
@[simp] theorem bump_pending (id : ObjId) (s : State) : (bump id s).pending = s.pending := by simp only [bump, bumpBy_pending]
@[simp] theorem lksPut_pending (s : State) (a : Nat) (b : Byte) : (lksPut s a b).pending = s.pending := by unfold lksPut; (repeat' split) <;> (first | (simp only; done) | with_reducible rfl | (simp_all; done))
@[simp] theorem lksWrite_pending (a : Nat) (a1 : Bytes) (a2 : State) : (lksWrite a a1 a2).pending = a2.pending := by
  induction a1 generalizing a a2 with
  | nil => rfl
  | cons x r ih => rw [lksWrite, ih, lksPut_pending]
@[simp] theorem ctxWrite_pending (a : Nat) (a1 : Bytes) (a2 : State) : (ctxWrite a a1 a2).pending = a2.pending := by
  induction a1 generalizing a a2 with
  | nil => rfl
  | cons b r ih => rw [ctxWrite, ih]; split <;> rfl
@[simp] theorem memWrite_pending (a : Nat) (b : Bytes) (s : State) : (memWrite a b s).pending = s.pending := by simp only [memWrite, lksWrite_pending, ctxWrite_pending, ite_pending, ite_self]
@[simp] theorem wipeFreeLks_pending (s : State) : (wipeFreeLks s).pending = s.pending := by simp only [wipeFreeLks]
@[simp] theorem retag_pending (g : Nat) (n : Nat) (tag : Nat) (s : State) : (retag g n tag s).pending = s.pending := by simp only [retag]
@[simp] theorem tagOnly_pending (g : Nat) (n : Nat) (tag : Nat) (s : State) : (tagOnly g n tag s).pending = s.pending := by simp only [tagOnly]
@[simp] theorem setDrbg_pending (n : Nat) (d : Drbg) (s : State) : (setDrbg n d s).pending = s.pending := by simp only [setDrbg]
@[simp] theorem settleSeeds_pending (s : State) : (settleSeeds s).pending = s.pending := by simp only [settleSeeds]
@[simp] theorem takeSeed_pending (s : State) : (takeSeed s).pending = s.pending := by simp only [takeSeed, settleSeeds_pending, ite_pending, ite_self]
@[simp] theorem setDivider_pending (d : Nat) (s : State) : (setDivider d s).pending = s.pending := by simp only [setDivider, setObj_pending, settleSeeds_pending]
@[simp] theorem reseed_pending (n : Nat) (s : State) : (reseed n s).pending = s.pending := by simp only [reseed, takeSeed_pending, bump_pending, setDrbg_pending]
@[simp] theorem stallCall_pending (n : Nat) (s : State) : (stallCall n s).pending = s.pending := by simp only [stallCall, reseed_pending, bump_pending, ite_pending, ite_self]
@[simp] theorem stretch_pending (n : Nat) (s : State) : (stretch n s).pending = s.pending := by simp only [stretch, setObj_pending, setDrbg_pending, ite_pending, ite_self]
@[simp] theorem drawCall_pending (n : Nat) (len : Nat) (s : State) : (drawCall n len s).2.pending = s.pending := by simp only [drawCall, stretch_pending, stallCall_pending, setDrbg_pending]
@[simp] theorem drawCalls_pending (n : Nat) (a1 : Nat) (a2 : Nat) (a3 : State) : (drawCalls n a1 a2 a3).2.pending = a3.pending := by
  induction a1 generalizing a2 a3 with
  | zero => rfl
  | succ k ih => rw [drawCalls]; simp only [ih, drawCall_pending]
@[simp] theorem draw_pending (n : Nat) (len : Nat) (s : State) : (draw n len s).2.pending = s.pending := by simp only [draw, drawCalls_pending]
@[simp] theorem drawPass_pending (n : Nat) (a1 : Nat) (a2 : State) : (drawPass n a1 a2).pending = a2.pending := by
  induction a1 generalizing a2 with
  | zero => rfl
  | succ k ih => rw [drawPass, ih, drawCall_pending]
@[simp] theorem drawOrFree_pending (n : Nat) (len : Nat) (s : State) : (drawOrFree n len s).2.pending = s.pending := by unfold drawOrFree; (repeat' split) <;> (first | (simp only [draw_pending, usedFree_pending]; done) | with_reducible rfl | (simp_all; done))
@[simp] theorem rouseCore_pending (s : State) : (rouseCore s).pending = s.pending := by simp only [rouseCore]
@[simp] theorem wakeCore_pending (s : State) : (wakeCore s).pending = s.pending := by simp only [wakeCore, rouseCore_pending, advanceTo_pending, ite_pending, ite_self]
@[simp] theorem setRng_pending (st : RngState) (s : State) : (setRng st s).pending = s.pending := by simp only [setRng, rouseCore_pending, noticed_pending, ite_pending, ite_self]
@[simp] theorem setBench_pending (b : Nat) (x : Bench) (s : State) : (setBench b x s).pending = s.pending := by simp only [setBench]
@[simp] theorem eachBench_pending (f : Bench → Bench) (s : State) : (eachBench f s).pending = s.pending := by simp only [eachBench]
@[simp] theorem dropBursts_pending (r : Nat) (s : State) : (dropBursts r s).pending = s.pending := by simp only [dropBursts, eachBench_pending]
@[simp] theorem settleOwed_pending (e : Nat) (s : State) : (settleOwed e s).pending = s.pending := by simp only [settleOwed, eachBench_pending]
@[simp] theorem awaitPage_pending (p : Nat) (s : State) : (awaitPage p s).pending = s.pending := by simp only [awaitPage, setBench_pending, ite_pending, ite_self]
@[simp] theorem awaitPages_pending (a0 : List Nat) (a1 : State) : (awaitPages a0 a1).pending = a1.pending := by
  induction a0 generalizing a1 with
  | nil => rfl
  | cons p r ih => rw [awaitPages, ih, awaitPage_pending]
@[simp] theorem logRefusal_pending (a : FabAcc) (reason : Nat) (bad : Nat) (s : State) : (logRefusal a reason bad s).pending = s.pending := by
  have h : ∀ t : State, (bump (Obj.ISO_CLASS_REFUSALS + a.cls) (bump Obj.ISO_REFUSALS_TOTAL
      (if decide (1024 ≤ s.iso.log.length) = true then bump Obj.ISO_LOG_OVERWRITTEN t else t))).pending = t.pending := by
    intro t; rw [bump_pending, bump_pending]; split <;> simp only [bump_pending]
  unfold logRefusal; dsimp only; split
  · exact (bump_pending _ _).trans ((h _).trans (setObj_pending _ _ _))
  · exact (h _).trans (setObj_pending _ _ _)
@[simp] theorem noteRead_pending (id : ObjId) (s : State) : (noteRead id s).pending = s.pending := by unfold noteRead; (repeat' split) <;> (first | (simp only [logRefusal_pending]; done) | with_reducible rfl | (simp_all; done))
@[simp] theorem recordWrite_pending (id : ObjId) (len : Nat) (act : State → State) (s : State) (h2 : ∀ τ, (act τ).pending = τ.pending) : (recordWrite id len act s).pending = s.pending := by unfold recordWrite; (repeat' split) <;> (first | (simp only [logRefusal_pending]; done) | with_reducible rfl | (simp_all; done))
@[simp] theorem setCallerSt_pending (c : Caller) (v : CallerSt) (s : State) : (setCallerSt c v s).pending = s.pending := by simp only [setCallerSt]
@[simp] theorem setOwn_pending (c : Caller) (id : ObjId) (v : Nat) (s : State) : (setOwn c id v s).pending = s.pending := by simp only [setOwn, setCallerSt_pending]
@[simp] theorem plainRule_pending_act (id : ObjId) (data : Bytes) : ∀ τ, ((plainRule id data).act τ).pending = τ.pending := by intro τ; unfold plainRule; dsimp only; (repeat' split) <;> (first | (simp only [setObj_pending]; done) | with_reducible rfl | (simp_all; done))
@[simp] theorem plainRule_pending_first (id : ObjId) (data : Bytes) : ∀ τ, ((plainRule id data).first τ).1.pending = τ.pending := by simp [plainRule]
@[simp] theorem ownRule_pending_act (c : Caller) (id : ObjId) (data : Bytes) : ∀ τ, ((ownRule c id data).act τ).pending = τ.pending := by intro τ; unfold ownRule; dsimp only; (repeat' split) <;> (first | (simp only [setOwn_pending]; done) | with_reducible rfl | (simp_all; done))
@[simp] theorem ownRule_pending_first (c : Caller) (id : ObjId) (data : Bytes) : ∀ τ, ((ownRule c id data).first τ).1.pending = τ.pending := by simp [ownRule]
@[simp] theorem dropAct_pending (s : State) : (dropAct s).pending = s.pending := by unfold dropAct; (repeat' split) <;> (first | (simp only [noticed_pending]; done) | with_reducible rfl | (simp_all; done))
@[simp] theorem recordApproval_pending (id : ObjId) (data : Bytes) (who : Nat) (s : State) : (recordApproval id data who s).pending = s.pending := by simp only [recordApproval, noticed_pending]
@[simp] theorem approve_pending (id : ObjId) (data : Bytes) (who : Nat) (r : WriteRule) (s : State) (h3 : ∀ τ, (r.act τ).pending = τ.pending) (g3 : ∀ τ, (r.first τ).1.pending = τ.pending) : (approve id data who r s).1.pending = s.pending := by unfold approve; dsimp only; (repeat' split) <;> (first | (simp only [dropAct_pending, recordApproval_pending]; done) | with_reducible rfl | (simp_all; done))
@[simp] theorem failedLast_pending (id : ObjId) (data : Bytes) (who : Nat) (e : Result) (s : State) : (failedLast id data who e s).pending = s.pending := by simp only [failedLast, dropAct_pending, ite_pending, ite_self]
@[simp] theorem askApproval_pending (id : ObjId) (data : Bytes) (report : Bool) (s : State) : (askApproval id data report s).1.pending = s.pending := by simp only [askApproval, draw_pending]
@[simp] theorem countRefused_pending (w : Who) (id : ObjId) (r : Result) (s : State) : (countRefused w id r s).pending = s.pending := by simp only [countRefused, bump_pending, ite_pending, ite_self]
@[simp] theorem serveWrite_pending (w : Who) (id : ObjId) (data : Bytes) (r : WriteRule) (s : State) (h3 : ∀ τ, (r.act τ).pending = τ.pending) (g3 : ∀ τ, (r.first τ).1.pending = τ.pending) : (serveWrite w id data r s).1.pending = s.pending := by unfold serveWrite; dsimp only; (repeat' split) <;> (first | (simp only [failedLast_pending, countRefused_pending, usedFree_pending, askApproval_pending]; done) | with_reducible rfl | (simp_all; done))
@[simp] theorem endWindow_pending (r : Result) (isRead : Bool) (data : Bytes) (total : Option Nat) (s : State) : (endWindow r isRead data total s).pending = s.pending := by simp only [endWindow]
@[simp] theorem keepSecret_pending (i : Nat) (b : Bytes) (s : State) : (keepSecret i b s).pending = s.pending := by simp only [keepSecret]
@[simp] theorem dropSecret_pending (i : Nat) (s : State) : (dropSecret i s).pending = s.pending := by simp only [dropSecret]
@[simp] theorem closeSession_pending (slot : Nat) (s : State) : (closeSession slot s).pending = s.pending := by
  unfold closeSession
  exact foldl_pending _ (fun t x => noticed_pending _ _) _ _
@[simp] theorem closeSessions_pending (s : State) : (closeSessions s).pending = s.pending := by
  unfold closeSessions
  exact foldl_pending _ (fun t x => closeSession_pending _ _) _ _
@[simp] theorem sendData_pending (slot : Nat) (type : Nat) (flags : Nat) (plain : Bytes) (s : State) : (sendData slot type flags plain s).pending = s.pending := by unfold sendData; (repeat' split) <;> (first | (simp only [closeSession_pending]; done) | with_reducible rfl | (simp_all; done))
@[simp] theorem answered_pending (slot : Nat) (req : Nat) (type : Nat) (plain : Bytes) (s : State) : (answered slot req type plain s).pending = s.pending := by simp only [answered]
@[simp] theorem deliver_pending (c : Caller) (op : AccOp) (id : ObjId) (r : Result) (offset : Nat) (total : Option Nat) (data : Bytes) (s : State) : (deliver c op id r offset total data s).pending = s.pending := by unfold deliver; (repeat' split) <;> (first | (simp only [endWindow_pending, sendData_pending, answered_pending]; done) | with_reducible rfl | (simp_all; done))
@[simp] theorem deliverWrite_pending (c : Caller) (op : AccOp) (id : ObjId) (p : State × Option Result) : (deliverWrite c op id p).pending = p.1.pending := by unfold deliverWrite; (repeat' split) <;> (first | (simp only [deliver_pending]; done) | with_reducible rfl | (simp_all; done))
@[simp] theorem storeFailed_pending (s : State) : (storeFailed s).pending = s.pending := by simp only [storeFailed, setObj_pending, bump_pending]
@[simp] theorem settleStore_pending (s : State) : (settleStore s).pending = s.pending := by unfold settleStore; (repeat' split) <;> (first | (simp only [storeFailed_pending]; done) | with_reducible rfl | (simp_all; done))
@[simp] theorem takeReq_pending (a : AccessCmd) (s : State) : (takeReq a s).pending = s.pending := by simp only [takeReq, settleStore_pending, wakeCore_pending, ite_pending, ite_self]
@[simp] theorem joinQueue_pending (a : AccessCmd) (s : State) : (joinQueue a s).pending = s.pending := by unfold joinQueue; (repeat' split) <;> (first | (simp only [bump_pending]; done) | with_reducible rfl | (simp_all; done))
@[simp] theorem inTurn_pending (a : AccessCmd) (k : Who → State → State) (s : State) (h1 : ∀ v0 τ, (k v0 τ).pending = τ.pending) : (inTurn a k s).pending = s.pending := by unfold inTurn; (repeat' split) <;> (first | (simp only [joinQueue_pending]; done) | with_reducible rfl | (simp_all; done))
@[simp] theorem writeAccess_pending (c : Caller) (id : ObjId) (data : Bytes) (r : WriteRule) (s : State) (h3 : ∀ τ, (r.act τ).pending = τ.pending) (g3 : ∀ τ, (r.first τ).1.pending = τ.pending) : (writeAccess c id data r s).pending = s.pending := by unfold writeAccess; (repeat' split) <;> (first | (simp only [inTurn_pending, deliverWrite_pending, serveWrite_pending, implies_true, ite_pending, ite_self]; done) | with_reducible rfl | (simp_all; done))
@[simp] theorem readAccess_pending (c : Caller) (id : ObjId) (serve : State → Result × Bytes × State) (s : State) (h2 : ∀ τ, (serve τ).2.2.pending = τ.pending) : (readAccess c id serve s).pending = s.pending := by
  unfold readAccess
  apply inTurn_pending
  intro w τ
  dsimp only
  split
  · rw [deliver_pending, countRefused_pending]
  · rw [deliver_pending]; simp_all
@[simp] theorem setCounter_pending (n : Nat) (r : CounterRec) (s : State) : (setCounter n r s).pending = s.pending := by simp only [setCounter]
@[simp] theorem setHts_pending (h : Nat) (k : HtsKey) (s : State) : (setHts h k s).pending = s.pending := by simp only [setHts]
@[simp] theorem htsWarn_pending (h : Nat) (cap : Nat) (next : Nat) (s : State) : (htsWarn h cap next s).pending = s.pending := by unfold htsWarn; (repeat' split) <;> (first | (simp only [bump_pending, setObj_pending, setHts_pending]; done) | with_reducible rfl | (simp_all; done))
@[simp] theorem loseHts_pending (h : Nat) (k : HtsKey) (s : State) : (loseHts h k s).pending = s.pending := by simp only [loseHts, setHts_pending]
@[simp] theorem freeCounter_pending (n : Nat) (s : State) : (freeCounter n s).pending = s.pending := by simp only [freeCounter, setCounter_pending]
@[simp] theorem reserveIndex_pending (h : Nat) (k : HtsKey) (cap : Nat) (s : State) : (reserveIndex h k cap s).pending = s.pending := by simp only [reserveIndex, setHts_pending]
@[simp] theorem commitIndex_pending (h : Nat) (k : HtsKey) (cap : Nat) (s : State) : (commitIndex h k cap s).pending = s.pending := by simp only [commitIndex, htsWarn_pending, setCounter_pending]
@[simp] theorem stopSign_pending (x : Entry) (s : State) : (stopSign x s).pending = s.pending := by unfold stopSign; dsimp only; (repeat' split) <;> (first | (simp only [reserveIndex_pending, bump_pending, commitIndex_pending]; done) | with_reducible rfl | (simp_all; done))
@[simp] theorem stopSigns_pending (s : State) : (stopSigns s).pending = s.pending := by unfold stopSigns; (repeat' split) <;> (first | (simp only [stopSign_pending, implies_true, ite_pending, ite_self]; done) | with_reducible rfl | (simp_all; done))
@[simp] theorem dropNewKey_pending (target : Option Nat) (s : State) : (dropNewKey target s).pending = s.pending := by unfold dropNewKey; (repeat' split) <;> (first | (simp only [freeCounter_pending, wipeFreeLks_pending]; done) | with_reducible rfl | (simp_all; done))
@[simp] theorem setPair_pending (n : Nat) (p : Pair) (s : State) : (setPair n p s).pending = s.pending := by simp only [setPair]
@[simp] theorem setEntry_pending (e : Nat) (x : Entry) (s : State) : (setEntry e x s).pending = s.pending := by simp only [setEntry]
@[simp] theorem dropEntry_pending (e : Nat) (s : State) : (dropEntry e s).pending = s.pending := by simp only [dropEntry]
@[simp] theorem retagPages_pending (tag : Nat) (a1 : List Nat) (a2 : State) : (retagPages tag a1 a2).pending = a2.pending := by
  induction a1 generalizing a2 with
  | nil => rfl
  | cons p r ih => rw [retagPages, ih, retag_pending]
@[simp] theorem tagPages_pending (tag : Nat) (ps : List Nat) (s : State) : (tagPages tag ps s).pending = s.pending := (retagPages_pending _ _ _).trans (awaitPages_pending _ _)
@[simp] theorem writePages_pending (ps : List Nat) (b : Bytes) (s : State) : (writePages ps b s).pending = s.pending := by
  induction ps generalizing b s with
  | nil => rfl
  | cons p r ih => rw [writePages, ih, memWrite_pending]
@[simp] theorem setSlice_pending (n : Nat) (x : Slice) (s : State) : (setSlice n x s).pending = s.pending := by simp only [setSlice]
@[simp] theorem freeSlice_pending (n : Nat) (s : State) : (freeSlice n s).pending = s.pending := by unfold freeSlice; (repeat' split) <;> (first | (simp only [setSlice_pending, idle_pending, implies_true, ite_pending, ite_self]; done) | with_reducible rfl | (simp_all; done))
@[simp] theorem reinitSlice_pending (n : Nat) (s : State) : (reinitSlice n s).pending = s.pending := by simp only [reinitSlice, setSlice_pending, dropBursts_pending]
@[simp] theorem freeOthers_pending (e : Nat) (n : Nat) (s : State) : (freeOthers e n s).pending = s.pending := by unfold freeOthers; (repeat' split) <;> (first | (simp only [idle_pending, implies_true, ite_pending, ite_self]; done) | with_reducible rfl | (simp_all; done))
@[simp] theorem detach_pending (e : Nat) (x : Entry) (hasPages : Bool) (s : State) : (detach e x hasPages s).pending = s.pending := by unfold detach; (repeat' split) <;> (first | (simp only [freeOthers_pending, wipeFreeLks_pending, setSlice_pending, freeSlice_pending, ite_pending, ite_self]; done) | with_reducible rfl | (simp_all; done))
@[simp] theorem rouseEngine_pending (s : State) : (rouseEngine s).pending = s.pending := by simp only [rouseEngine, advanceTo_pending]
@[simp] theorem haltJob_pending (e : Nat) (st : Status) (detail : Nat) (s : State) : (haltJob e st detail s).pending = s.pending := by unfold haltJob; (repeat' split) <;> (first | (simp only [setEntry_pending, dropNewKey_pending, detach_pending, stopSign_pending, wipeFreeLks_pending]; done) | with_reducible rfl | (simp_all; done))
@[simp] theorem chargeRun_pending (e : Nat) (s : State) : (chargeRun e s).pending = s.pending := by unfold chargeRun; (repeat' split) <;> (first | (simp only [setEntry_pending, settleOwed_pending]; done) | with_reducible rfl | (simp_all; done))
@[simp] theorem stopJob_pending (e : Nat) (st : Status) (detail : Nat) (s : State) : (stopJob e st detail s).pending = s.pending := by unfold stopJob; (repeat' split) <;> (first | (simp only [haltJob_pending, chargeRun_pending]; done) | with_reducible rfl | (simp_all; done))
@[simp] theorem stopJobs_pending (p : Nat → Entry → Bool) (st : Status) (s : State) : (stopJobs p st s).pending = s.pending := by unfold stopJobs; (repeat' split) <;> (first | (simp only [stopJob_pending, implies_true, ite_pending, ite_self]; done) | with_reducible rfl | (simp_all; done))
@[simp] theorem endJob_pending (e : Nat) (st : Status) (detail : Nat) (out : Bytes) (late : List ObjId) (s : State) : (endJob e st detail out late s).pending = s.pending := by unfold endJob; (repeat' split) <;> (first | (simp only [detach_pending, freeSlice_pending, setEntry_pending]; done) | with_reducible rfl | (simp_all; done))
@[simp] theorem spend_pending (e : Nat) (c : Nat) (s : State) : (spend e c s).pending = s.pending := by unfold spend; (repeat' split) <;> (first | (simp only [setEntry_pending, settleOwed_pending]; done) | with_reducible rfl | (simp_all; done))
@[simp] theorem endTurn_pending (p : Nat) (s : State) : (endTurn p s).pending = s.pending := by simp only [endTurn]
@[simp] theorem dropHeld_pending (n : Nat) (s : State) : (dropHeld n s).pending = s.pending := by simp only [dropHeld, setPair_pending, endTurn_pending]
@[simp] theorem notStarving_pending (p : Nat) (s : State) : (notStarving p s).pending = s.pending := by simp only [notStarving]
@[simp] theorem renewPolls_pending (s : State) : (renewPolls s).pending = s.pending := by simp only [renewPolls]
@[simp] theorem leaveStall_pending (n : Nat) (s : State) : (leaveStall n s).pending = s.pending := by unfold leaveStall; dsimp only; (repeat' split) <;> (first | (simp only [bumpBy_pending, setPair_pending]; done) | with_reducible rfl | (simp_all; done))
@[simp] theorem enterCommand_pending (cls : Nat) (n : Nat) (e : Nat) (opcode : Nat) (s : State) : (enterCommand cls n e opcode s).pending = s.pending := by unfold enterCommand; dsimp only; (repeat' split) <;> (first | (simp only [stopJob_pending, setSlice_pending]; done) | with_reducible rfl | (simp_all; done))
@[simp] theorem setCell_pending (n : Nat) (c : Cell) (s : State) : (setCell n c s).pending = s.pending := by simp only [setCell, noticed_pending, ite_pending, ite_self]
@[simp] theorem cellDataInit_pending (c : Cell) (s : State) : (cellDataInit c s).pending = s.pending := by simp only [cellDataInit, memWrite_pending]
@[simp] theorem nextCell_pending (s : State) : (nextCell s).pending = s.pending := by unfold nextCell; (repeat' split) <;> (first | (simp only [setCell_pending]; done) | with_reducible rfl | (simp_all; done))
@[simp] theorem leaveCell_pending (n : Nat) (s : State) : (leaveCell n s).pending = s.pending := by simp only [leaveCell, nextCell_pending]
@[simp] theorem cellAfter_pending (n : Nat) (a : CellAfter) (s : State) : (cellAfter n a s).pending = s.pending := by unfold cellAfter; (repeat' split) <;> (first | (simp only [setCell_pending, cellDataInit_pending, retag_pending]; done) | with_reducible rfl | (simp_all; done))
@[simp] theorem dropSubjob_pending (n : Nat) (s : State) : (dropSubjob n s).pending = s.pending := by unfold dropSubjob; (repeat' split) <;> (first | (simp only [dropEntry_pending, stopJob_pending, retag_pending]; done) | with_reducible rfl | (simp_all; done))
@[simp] theorem endCall_pending (n : Nat) (st : Status) (detail : Nat) (a : CellAfter) (s : State) : (endCall n st detail a s).pending = s.pending := by unfold endCall; dsimp only; (repeat' split) <;> (first | (simp only [dropSubjob_pending, setEntry_pending, stopJob_pending, leaveCell_pending, cellAfter_pending]; done) | with_reducible rfl | (simp_all; done))
@[simp] theorem endCalls_pending (st : Status) (a : CellAfter) (s : State) : (endCalls st a s).pending = s.pending := by unfold endCalls; (repeat' split) <;> (first | (simp only [endCall_pending, implies_true, ite_pending, ite_self]; done) | with_reducible rfl | (simp_all; done))
@[simp] theorem dropLoad_pending (n : Nat) (s : State) : (dropLoad n s).pending = s.pending := by simp only [dropLoad, stopJobs_pending, setCell_pending]
@[simp] theorem dropCells_pending (t : Nat) (s : State) : (dropCells t s).pending = s.pending := by unfold dropCells; (repeat' split) <;> (first | (simp only [endCall_pending, dropLoad_pending, implies_true, ite_pending, ite_self]; done) | with_reducible rfl | (simp_all; done))
@[simp] theorem setCircuit_pending (c : Nat) (x : Circuit) (s : State) : (setCircuit c x s).pending = s.pending := by simp only [setCircuit]
@[simp] theorem setGraft_pending (c : Nat) (g : Graft) (s : State) : (setGraft c g s).pending = s.pending := by simp only [setGraft, noticed_pending, ite_pending, ite_self]
@[simp] theorem overwriteUnits_pending (hs : List Nat) (s : State) : (overwriteUnits hs s).pending = s.pending := by simp only [overwriteUnits, drawPass_pending, ite_pending, ite_self]
@[simp] theorem freeSlots_pending (hs : List Nat) (s : State) : (freeSlots hs s).pending = s.pending := by simp only [freeSlots, overwriteUnits_pending]
@[simp] theorem orphan_pending (c : Nat) (s : State) : (orphan c s).pending = s.pending := by simp only [orphan]
@[simp] theorem abandonGraft_pending (c : Nat) (s : State) : (abandonGraft c s).pending = s.pending := by simp only [abandonGraft, orphan_pending, stopJobs_pending, freeSlots_pending, setCircuit_pending, setGraft_pending, ite_pending, ite_self]
@[simp] theorem freeRoles_pending (c : Nat) (rs : List Nat) (s : State) : (freeRoles c rs s).pending = s.pending := by simp only [freeRoles, setGraft_pending, freeSlots_pending]
@[simp] theorem abandonAll_pending (s : State) : (abandonAll s).pending = s.pending := by unfold abandonAll; (repeat' split) <;> (first | (simp only [abandonGraft_pending, implies_true, ite_pending, ite_self]; done) | with_reducible rfl | (simp_all; done))
@[simp] theorem eraseKreg_pending (s : State) : (eraseKreg s).pending = s.pending := by simp only [eraseKreg, abandonAll_pending, setObj_pending, ite_pending, ite_self]
@[simp] theorem bindOff_pending (s : State) : (bindOff s).pending = s.pending := by simp only [bindOff, drawOrFree_pending, eraseKreg_pending, wipeFreeLks_pending]
@[simp] theorem archUnusable_pending (s : State) : (archUnusable s).pending = s.pending := by simp only [archUnusable, setObj_pending]
@[simp] theorem eraseBbram_pending (s : State) : (eraseBbram s).pending = s.pending := by simp only [eraseBbram]
@[simp] theorem setPort_pending (p : Nat) (x : Port) (s : State) : (setPort p x s).pending = s.pending := by simp only [setPort, noticed_pending, ite_pending, ite_self]
@[simp] theorem emitPkt_pending (p : Nat) (o : OutPkt) (s : State) : (emitPkt p o s).pending = s.pending := by unfold emitPkt; (repeat' split) <;> (first | (simp only [bump_pending, emit_pending, bumpBy_pending]; done) | with_reducible rfl | (simp_all; done))
@[simp] theorem stallDrop_pending (p : Nat) (circuit : Nat) (s : State) : (stallDrop p circuit s).pending = s.pending := by simp only [stallDrop, bump_pending, ite_pending, ite_self]
@[simp] theorem sendPkt_pending (p : Nat) (o : OutPkt) (s : State) : (sendPkt p o s).pending = s.pending := by simp only [sendPkt, stallDrop_pending, setPort_pending, emitPkt_pending, ite_pending, ite_self]
@[simp] theorem sendStatus_pending (p : Nat) (cls : Nat) (circuit : Nat) (op : Nat) (tag : Nat) (code : Nat) (detail : Nat) (s : State) : (sendStatus p cls circuit op tag code detail s).pending = s.pending := by simp only [sendStatus, sendPkt_pending]
@[simp] theorem updateFlow_pending (p : Nat) (s : State) : (updateFlow p s).pending = s.pending := by simp only [updateFlow, emit_pending, setPort_pending, ite_pending, ite_self]
@[simp] theorem settleSlots_pending (c : Nat) (s : State) : (settleSlots c s).pending = s.pending := by simp only [settleSlots, freeSlots_pending, setCircuit_pending, ite_pending, ite_self]
@[simp] theorem endHold_pending (h : Nat) (s : State) : (endHold h s).pending = s.pending := by simp only [endHold]
@[simp] theorem eraseKeys_pending (c : Nat) (s : State) : (eraseKeys c s).pending = s.pending := by simp only [eraseKeys, settleSlots_pending, setCircuit_pending]
@[simp] theorem settleQuiet_pending (c : Nat) (s : State) : (settleQuiet c s).pending = s.pending := by unfold settleQuiet; dsimp only; (repeat' split) <;> (first | (simp only [idle_pending, setGraft_pending, implies_true, ite_pending, ite_self]; done) | with_reducible rfl | (simp_all; done))
@[simp] theorem completeGraft_pending (c : Nat) (s : State) : (completeGraft c s).pending = s.pending := by unfold completeGraft; (repeat' split) <;> (first | (simp only [bump_pending, setObj_pending, settleQuiet_pending, setGraft_pending, idle_pending, implies_true, ite_pending, ite_self]; done) | with_reducible rfl | (simp_all; done))
@[simp] theorem armGraft_pending (c : Nat) (s : State) : (armGraft c s).pending = s.pending := by simp only [armGraft, setGraft_pending, setCircuit_pending]
@[simp] theorem trigger_pending (c : Nat) (force : Bool) (s : State) : (trigger c force s).pending = s.pending := by simp only [trigger, rouseCore_pending, setGraft_pending, ite_pending, ite_self]
@[simp] theorem unblock_pending (c : Nat) (s : State) : (unblock c s).pending = s.pending := by unfold unblock; dsimp only; (repeat' split) <;> (first | (simp only [settleQuiet_pending, setCircuit_pending]; done) | with_reducible rfl | (simp_all; done))
@[simp] theorem switchTx_pending (c : Nat) (s : State) : (switchTx c s).pending = s.pending := by unfold switchTx; dsimp only; (repeat' split) <;> (first | (simp only [setCircuit_pending, setGraft_pending, bump_pending, settleSlots_pending, unblock_pending]; done) | with_reducible rfl | (simp_all; done))
@[simp] theorem switchEvent_pending (c : Nat) (s : State) : (switchEvent c s).pending = s.pending := by simp only [switchEvent, switchTx_pending, completeGraft_pending, settleQuiet_pending, setGraft_pending, ite_pending, ite_self]
@[simp] theorem promotedEvent_pending (c : Nat) (xid : Nat) (s : State) : (promotedEvent c xid s).pending = s.pending := by unfold promotedEvent; dsimp only; (repeat' split) <;> (first | (simp only [armGraft_pending, setGraft_pending, completeGraft_pending]; done) | with_reducible rfl | (simp_all; done))
@[simp] theorem promote_pending (c : Nat) (s : State) : (promote c s).pending = s.pending := by unfold promote; dsimp only; (repeat' split) <;> (first | (simp only [setCircuit_pending, unblock_pending, promotedEvent_pending, bump_pending, settleSlots_pending]; done) | with_reducible rfl | (simp_all; done))
@[simp] theorem txUnusable_pending (c : Nat) (s : State) : (txUnusable c s).pending = s.pending := by simp only [txUnusable, switchEvent_pending, settleQuiet_pending, setCircuit_pending, ite_pending, ite_self]
@[simp] theorem leavePkt_pending (c : Nat) (q : InFlightPkt) (s : State) : (leavePkt c q s).pending = s.pending := by simp only [leavePkt, sendStatus_pending, sendPkt_pending, ite_pending, ite_self]
@[simp] theorem leaveAll_pending (c : Nat) (a1 : List InFlightPkt) (a2 : State) : (leaveAll c a1 a2).pending = a2.pending := by
  induction a1 generalizing a2 with
  | nil => rfl
  | cons q r ih => rw [leaveAll]; split
                   · rw [ih, leavePkt_pending]
                   · rfl
@[simp] theorem drainCircuit_pending (c : Nat) (s : State) : (drainCircuit c s).pending = s.pending := by simp only [drainCircuit, updateFlow_pending, settleSlots_pending, leaveAll_pending]
@[simp] theorem losePkts_pending (f : InFlightPkt → Bool) (s : State) : (losePkts f s).pending = s.pending := by unfold losePkts; (repeat' split) <;> (first | (simp only; done) | with_reducible rfl | (simp_all; done))
@[simp] theorem recordFence_pending (k : Nat) (cause : Nat) (entry : Nat) (s : State) : (recordFence k cause entry s).pending = s.pending := by simp only [recordFence, bump_pending, setObj_pending]
@[simp] theorem endClassWaiters_pending (cls : Nat) (s : State) : (endClassWaiters cls s).pending = s.pending := by simp only [endClassWaiters, stopJobs_pending, ite_pending, ite_self]
@[simp] theorem fenceSlice_pending (n : Nat) (cause : Nat) (st : Status) (detail : Nat) (s : State) : (fenceSlice n cause st detail s).pending = s.pending := by unfold fenceSlice; dsimp only; (repeat' split) <;> (first | (simp only [setSlice_pending, dropBursts_pending, stopJob_pending, endClassWaiters_pending, recordFence_pending]; done) | with_reducible rfl | (simp_all; done))
@[simp] theorem fenceRequester_pending (n : Nat) (cause : Nat) (job : Option Nat) (st : Status) (detail : Nat) (s : State) : (fenceRequester n cause job st detail s).pending = s.pending := by unfold fenceRequester; (repeat' split) <;> (first | (simp only [dropBursts_pending, stopJob_pending, recordFence_pending]; done) | with_reducible rfl | (simp_all; done))
@[simp] theorem setDigUnit_pending (n : Nat) (u : DigUnit) (s : State) : (setDigUnit n u s).pending = s.pending := by simp only [setDigUnit]
@[simp] theorem fenceDigest_pending (n : Nat) (cause : Nat) (st : Status) (detail : Nat) (s : State) : (fenceDigest n cause st detail s).pending = s.pending := by unfold fenceDigest; (repeat' split) <;> (first | (simp only [recordFence_pending, setDigUnit_pending]; done) | with_reducible rfl | (simp_all; done))
@[simp] theorem setPipe_pending (n : Nat) (p : Pipe) (s : State) : (setPipe n p s).pending = s.pending := by simp only [setPipe]
@[simp] theorem fencePipe_pending (n : Nat) (cause : Nat) (s : State) : (fencePipe n cause s).pending = s.pending := by simp only [fencePipe, losePkts_pending, recordFence_pending, setPipe_pending]
@[simp] theorem faultPair_pending (p : Nat) (s : State) : (faultPair p s).pending = s.pending := by simp only [faultPair, notStarving_pending, dropHeld_pending, leaveStall_pending, setPair_pending, ite_pending, ite_self]
@[simp] theorem fenceUnit_pending (u : UnitRef) (cause : Nat) (st : Status) (s : State) : (fenceUnit u cause st s).pending = s.pending := by unfold fenceUnit; (repeat' split) <;> (first | (simp only [fenceSlice_pending, fenceRequester_pending, fenceDigest_pending, fencePipe_pending, faultPair_pending, endCall_pending]; done) | with_reducible rfl | (simp_all; done))
@[simp] theorem setSource_pending (n : Nat) (x : Source) (s : State) : (setSource n x s).pending = s.pending := by simp only [setSource, noticed_pending, ite_pending, ite_self]
@[simp] theorem logTamper_pending (r : TamperRec) (s : State) : (logTamper r s).pending = s.pending := by simp only [logTamper, bump_pending, ite_pending, ite_self]
@[simp] theorem burn_pending (n : Nat) (s : State) : (burn n s).pending = s.pending := by simp only [burn, noticed_pending]
@[simp] theorem alarmPin_pending (low : Bool) (s : State) : (alarmPin low s).pending = s.pending := by simp only [alarmPin, emit_pending]
@[simp] theorem scrubAll_pending (s : State) : (scrubAll s).pending = s.pending := by unfold scrubAll; (repeat' split) <;> (first | (simp only [idle_pending, implies_true, ite_pending, ite_self]; done) | with_reducible rfl | (simp_all; done))
@[simp] theorem quiesce_pending (s : State) : (quiesce s).pending = s.pending := by simp only [quiesce, scrubAll_pending, abandonAll_pending, stopJobs_pending, endCalls_pending]
@[simp] theorem levelActions_pending (from_ : Nat) (level : Nat) (s : State) : (levelActions from_ level s).pending = s.pending := by simp only [levelActions, quiesce_pending, bindOff_pending, archUnusable_pending, eraseBbram_pending, ite_pending, ite_self]
@[simp] theorem applyAlarm_pending (n : Nat) (level : Nat) (u : UnitRef) (value : Nat) (flags : Nat) (s : State) : (applyAlarm n level u value flags s).pending = s.pending := by
  unfold applyAlarm; dsimp only
  refine (logTamper_pending _ _).trans ?_
  simp only [ite_pending, alarmPin_pending, ite_self]
  (repeat' split) <;> simp []
@[simp] theorem latchAlarm_pending (n : Nat) (level : Nat) (flags : Nat) (s : State) : (latchAlarm n level flags s).pending = s.pending := by simp only [latchAlarm, bump_pending, eraseBbram_pending, ite_pending, ite_self]
@[simp] theorem confirm_pending (n : Nat) (u : UnitRef) (value : Nat) (flags : Nat) (s : State) : (confirm n u value flags s).pending = s.pending := by simp only [confirm, setObj_pending, bump_pending, latchAlarm_pending, applyAlarm_pending, ite_pending, ite_self]
@[simp] theorem tamperEventAt_pending (n : Nat) (u : UnitRef) (value : Nat) (t : Time) (s : State) : (tamperEventAt n u value t s).pending = s.pending := by simp only [tamperEventAt, rouseCore_pending, bump_pending, confirm_pending, setSource_pending, ite_pending, ite_self]
@[simp] theorem tamperEvent_pending (n : Nat) (u : UnitRef) (value : Nat) (s : State) : (tamperEvent n u value s).pending = s.pending := by simp only [tamperEvent, tamperEventAt_pending]
@[simp] theorem invariantFailure_pending (e : Nat) (s : State) : (invariantFailure e s).pending = s.pending := by unfold invariantFailure; (repeat' split) <;> (first | (simp only [haltJob_pending, reinitSlice_pending, tamperEvent_pending, bump_pending]; done) | with_reducible rfl | (simp_all; done))
@[simp] theorem fencePair_pending (t : Nat) (s : State) : (fencePair t s).pending = s.pending := by unfold fencePair; dsimp only; (repeat' split) <;> (first | (simp only [notStarving_pending, leaveStall_pending, idle_pending, setPair_pending, endTurn_pending, implies_true, ite_pending, ite_self]; done) | with_reducible rfl | (simp_all; done))
@[simp] theorem fenceTenant_pending (t : Nat) (cause : Nat) (s : State) : (fenceTenant t cause s).pending = s.pending := by simp only [fenceTenant, setObj_pending, fencePair_pending, dropCells_pending, stopJobs_pending]
@[simp] theorem refusalPolicy_pending (colour : Nat) (s : State) : (refusalPolicy colour s).pending = s.pending := by simp only [refusalPolicy, tamperEvent_pending, fenceTenant_pending, ite_pending, ite_self]
@[simp] theorem refuse_pending (a : FabAcc) (reason : Nat) (bad : Nat) (s : State) : (refuse a reason bad s).pending = s.pending := by simp only [refuse, refusalPolicy_pending, logRefusal_pending]
@[simp] theorem deviceRefusal_pending (a : FabAcc) (u : UnitRef) (reason : Nat) (bad : Nat) (s : State) : (deviceRefusal a u reason bad s).pending = s.pending := by simp only [deviceRefusal, refuse_pending, stopJob_pending, fenceUnit_pending, tamperEvent_pending]
@[simp] theorem recGuard_pending (r : CtxRec) (a : FabAcc) (u : UnitRef) (k : State → State) (s : State) (h3 : ∀ τ, (k τ).pending = τ.pending) : (recGuard r a u k s).pending = s.pending := by unfold recGuard; (repeat' split) <;> (first | (simp only [deviceRefusal_pending]; done) | with_reducible rfl | (simp_all; done))
@[simp] theorem refreshExpander_pending (n : Nat) (s : State) : (refreshExpander n s).pending = s.pending := by simp only [refreshExpander, draw_pending, setSlice_pending, ite_pending, ite_self]
@[simp] theorem maskSeed_pending (s : State) : (maskSeed s).2.pending = s.pending := by unfold maskSeed; (repeat' split) <;> (first | (simp only [draw_pending]; done) | with_reducible rfl | (simp_all; done))
@[simp] theorem putSlot_pending (h : Nat) (x : Slot) (s : State) : (putSlot h x s).pending = s.pending := by unfold putSlot; (repeat' split) <;> (first | (simp only [bump_pending, usedFree_pending]; done) | with_reducible rfl | (simp_all; done))
@[simp] theorem tookHandle_pending (h : Nat) (s : State) : (tookHandle h s).pending = s.pending := by simp only [tookHandle, maskSeed_pending]
@[simp] theorem tookTarget_pending (x : Entry) (s : State) : (tookTarget x s).pending = s.pending := by simp only [tookTarget, tookHandle_pending, ite_pending, ite_self]
@[simp] theorem fillSlot_pending (h : Nat) (life : Nat) (x : Slot) (s : State) : (fillSlot h life x s).pending = s.pending := by simp only [fillSlot, putSlot_pending]
@[simp] theorem freeSlot_pending (h : Nat) (s : State) : (freeSlot h s).pending = s.pending := by simp only [freeSlot, freeSlots_pending]
@[simp] theorem putLks_pending (h : Nat) (x : LksEntry) (s : State) : (putLks h x s).pending = s.pending := by simp only [putLks, wipeFreeLks_pending]
@[simp] theorem refreshSlot_pending (h : Nat) (s : State) : (refreshSlot h s).pending = s.pending := by unfold refreshSlot; (repeat' split) <;> (first | (simp only [maskSeed_pending, bump_pending]; done) | with_reducible rfl | (simp_all; done))
@[simp] theorem touchSlot_pending (s : State) (h : Nat) : (touchSlot s h).pending = s.pending := by unfold touchSlot; (repeat' split) <;> (first | (simp only [refreshSlot_pending]; done) | with_reducible rfl | (simp_all; done))
@[simp] theorem signIterMax_pending (n : Nat) (s : State) : (signIterMax n s).pending = s.pending := by simp only [signIterMax, setObj_pending]
@[simp] theorem appendArch_pending (r : ArchRec) (f : ArchEffect) (entry : Option Nat) (s : State) : (appendArch r f entry s).pending = s.pending := by simp only [appendArch]
@[simp] theorem awaitCommit_pending (e : Nat) (r : ArchRec) (f : ArchEffect) (s : State) : (awaitCommit e r f s).pending = s.pending := by unfold awaitCommit; (repeat' split) <;> (first | (simp only [appendArch_pending, setEntry_pending]; done) | with_reducible rfl | (simp_all; done))
@[simp] theorem addWait_pending (e : Nat) (s : State) (t : State) : (addWait e s t).pending = t.pending := by unfold addWait; (repeat' split) <;> (first | (simp only [setEntry_pending]; done) | with_reducible rfl | (simp_all; done))
@[simp] theorem finish_pending (e : Nat) (r : Res) (s : State) (h1 : ∀ ρ, (r.release ρ).pending = ρ.pending) : (finish e r s).pending = s.pending := by unfold finish; (repeat' split) <;> (first | (simp only [spend_pending, haltJob_pending, endJob_pending, addWait_pending, awaitCommit_pending]; done) | with_reducible rfl | (simp_all; done))
@[simp] theorem checkDraws_pending (n : Nat) (q : Need) (s : State) : (checkDraws n q s).2.pending = s.pending := by unfold checkDraws; (repeat' split) <;> (first | (simp only [draw_pending]; done) | with_reducible rfl | (simp_all; done))
@[simp] theorem checked_pending (x : Entry) (n : Nat) (q : Need) (run : Bytes → State → Res × State) (s : State) (h3 : ∀ v0 τ, (run v0 τ).2.pending = τ.pending) (k3 : ∀ v0 τ ρ, ((run v0 τ).1.release ρ).pending = ρ.pending) : (checked x n q run s).2.pending = s.pending := by unfold checked; (repeat' split) <;> (first | (simp only; done) | with_reducible rfl | (simp_all; done))
@[simp] theorem checked_pending_rel (x : Entry) (n : Nat) (q : Need) (run : Bytes → State → Res × State) (s : State) (h3 : ∀ v0 τ, (run v0 τ).2.pending = τ.pending) (k3 : ∀ v0 τ ρ, ((run v0 τ).1.release ρ).pending = ρ.pending) : ∀ ρ, ((checked x n q run s).1.release ρ).pending = ρ.pending := by intro ρ; unfold checked; (repeat' split) <;> (first | (simp only [Res.stop_release, id]; done) | with_reducible rfl | (simp_all; done))
@[simp] theorem finishOn_pending (e : Nat) (n : Nat) (x : Entry) (r : Res) (s : State) (h3 : ∀ ρ, (r.release ρ).pending = ρ.pending) : (finishOn e n x r s).pending = s.pending := by unfold finishOn; (repeat' split) <;> (first | (simp only [deviceRefusal_pending, spend_pending]; done) | with_reducible rfl | (simp_all; done))
@[simp] theorem sliceRow_pending (opcode : Nat) (e : Nat) (fault : Bool) (f : Entry → Nat → State → Res × State) (s : State) (h3 : ∀ v0 v1 τ, (f v0 v1 τ).2.pending = τ.pending) (k3 : ∀ v0 v1 τ ρ, ((f v0 v1 τ).1.release ρ).pending = ρ.pending) : (sliceRow opcode e fault f s).pending = s.pending := by unfold sliceRow; dsimp only; (repeat' split) <;> (first | (simp only [invariantFailure_pending, spend_pending]; done) | with_reducible rfl | (simp_all; done))
@[simp] theorem deliverSecret_pending (x : Entry) (toHost : Bool) (usage : Nat) (c : Bytes) (k : Bytes) (cycles : Nat) (late : List ObjId) (s : State) : (deliverSecret x toHost usage c k cycles late s).2.pending = s.pending := by unfold deliverSecret; (repeat' split) <;> (first | (simp only [tookHandle_pending]; done) | with_reducible rfl | (simp_all; done))
@[simp] theorem deliverSecret_pending_rel (x : Entry) (toHost : Bool) (usage : Nat) (c : Bytes) (k : Bytes) (cycles : Nat) (late : List ObjId) (s : State) : ∀ ρ, ((deliverSecret x toHost usage c k cycles late s).1.release ρ).pending = ρ.pending := by intro ρ; unfold deliverSecret; (repeat' split) <;> (first | (simp only [fillSlot_pending, Res.ok_release, id]; done) | with_reducible rfl | (simp_all; done))
@[simp] theorem deliverKey_pending (x : Entry) (alg : Nat) (usage : Nat) (units : Nat) (pub : Bytes) (priv : Bytes) (cycles : Nat) (s : State) : (deliverKey x alg usage units pub priv cycles s).2.pending = s.pending := by simp only [deliverKey, tookTarget_pending]
@[simp] theorem deliverKey_pending_rel (x : Entry) (alg : Nat) (usage : Nat) (units : Nat) (pub : Bytes) (priv : Bytes) (cycles : Nat) (s : State) : ∀ ρ, ((deliverKey x alg usage units pub priv cycles s).1.release ρ).pending = ρ.pending := by simp only [deliverKey, fillSlot_pending, implies_true]
@[simp] theorem runKemKeygen_pending (x : Entry) (n : Nat) (s : State) : (runKemKeygen x n s).2.pending = s.pending := by simp only [runKemKeygen, checked_pending, deliverKey_pending, deliverKey_pending_rel, implies_true]
@[simp] theorem runKemKeygen_pending_rel (x : Entry) (n : Nat) (s : State) : ∀ ρ, ((runKemKeygen x n s).1.release ρ).pending = ρ.pending := by simp only [runKemKeygen, checked_pending_rel, deliverKey_pending, deliverKey_pending_rel, implies_true]
@[simp] theorem runKemEncaps_pending (x : Entry) (n : Nat) (s : State) : (runKemEncaps x n s).2.pending = s.pending := by unfold runKemEncaps; dsimp only; (repeat' split) <;> (first | (simp only [checked_pending, deliverSecret_pending, deliverSecret_pending_rel, implies_true]; done) | with_reducible rfl | (apply checked_pending <;> intros <;> (try dsimp only) <;> (repeat' split) <;> (first | (simp only [Res.stop_release, id]; done) | with_reducible rfl | (simp_all; done))))
@[simp] theorem runKemEncaps_pending_rel (x : Entry) (n : Nat) (s : State) : ∀ ρ, ((runKemEncaps x n s).1.release ρ).pending = ρ.pending := by intro ρ; unfold runKemEncaps; dsimp only; (repeat' split) <;> (first | (simp only [checked_pending_rel, deliverSecret_pending, deliverSecret_pending_rel, implies_true]; done) | with_reducible rfl | (apply checked_pending_rel <;> intros <;> (try dsimp only) <;> (repeat' split) <;> (first | (simp only [Res.stop_release, id]; done) | with_reducible rfl | (simp_all; done))))
@[simp] theorem runKemDecaps_pending (x : Entry) (n : Nat) (s : State) : (runKemDecaps x n s).2.pending = s.pending := by simp only [runKemDecaps, checked_pending, deliverSecret_pending, deliverSecret_pending_rel, implies_true]
@[simp] theorem runKemDecaps_pending_rel (x : Entry) (n : Nat) (s : State) : ∀ ρ, ((runKemDecaps x n s).1.release ρ).pending = ρ.pending := by simp only [runKemDecaps, checked_pending_rel, deliverSecret_pending, deliverSecret_pending_rel, implies_true]
@[simp] theorem runKemCheck_pending (x : Entry) (a1 : Nat) (s : State) : (runKemCheck x a1 s).2.pending = s.pending := by simp only [runKemCheck]
@[simp] theorem runKemCheck_pending_rel (x : Entry) (a1 : Nat) (s : State) : ∀ ρ, ((runKemCheck x a1 s).1.release ρ).pending = ρ.pending := by intro ρ; unfold runKemCheck; dsimp only; (repeat' split) <;> (first | (simp only [Res.stop_release, Res.ok_release, id]; done) | with_reducible rfl | (simp_all; done))
@[simp] theorem runDsaKeygen_pending (x : Entry) (n : Nat) (s : State) : (runDsaKeygen x n s).2.pending = s.pending := by simp only [runDsaKeygen, checked_pending, deliverKey_pending, deliverKey_pending_rel, implies_true]
@[simp] theorem runDsaKeygen_pending_rel (x : Entry) (n : Nat) (s : State) : ∀ ρ, ((runDsaKeygen x n s).1.release ρ).pending = ρ.pending := by simp only [runDsaKeygen, checked_pending_rel, deliverKey_pending, deliverKey_pending_rel, implies_true]
@[simp] theorem runDsaSign_pending (x : Entry) (n : Nat) (s : State) : (runDsaSign x n s).2.pending = s.pending := by unfold runDsaSign; dsimp only; (repeat' split) <;> (first | (simp only [checked_pending, signIterMax_pending, implies_true]; done) | with_reducible rfl | (apply checked_pending <;> intros <;> (try dsimp only) <;> (repeat' split) <;> (first | (simp only [bump_pending, signIterMax_pending, Res.stop_release, id]; done) | with_reducible rfl | (simp_all; done))))
@[simp] theorem runDsaSign_pending_rel (x : Entry) (n : Nat) (s : State) : ∀ ρ, ((runDsaSign x n s).1.release ρ).pending = ρ.pending := by intro ρ; unfold runDsaSign; dsimp only; (repeat' split) <;> (first | (simp only [checked_pending_rel, signIterMax_pending, implies_true]; done) | with_reducible rfl | (apply checked_pending_rel <;> intros <;> (try dsimp only) <;> (repeat' split) <;> (first | (simp only [bump_pending, signIterMax_pending, Res.stop_release, id]; done) | with_reducible rfl | (simp_all; done))))
@[simp] theorem runDsaVerify_pending (x : Entry) (n : Nat) (s : State) : (runDsaVerify x n s).2.pending = s.pending := by unfold runDsaVerify; dsimp only; (repeat' split) <;> (first | (simp only [checked_pending, checked_pending_rel, implies_true, ite_pending, ite_self, Res.stop_release, Res.ok_release, persistRes_release, id]; done) | with_reducible rfl | (apply checked_pending <;> intros <;> (try dsimp only) <;> (repeat' split) <;> (first | (simp only [Res.stop_release, Res.ok_release, id]; done) | with_reducible rfl | (simp_all; done))))
@[simp] theorem runDsaVerify_pending_rel (x : Entry) (n : Nat) (s : State) : ∀ ρ, ((runDsaVerify x n s).1.release ρ).pending = ρ.pending := by intro ρ; unfold runDsaVerify; dsimp only; (repeat' split) <;> (first | (simp only [checked_pending, checked_pending_rel, implies_true, ite_pending, ite_self, Res.stop_release, Res.ok_release, persistRes_release, id]; done) | with_reducible rfl | (apply checked_pending_rel <;> intros <;> (try dsimp only) <;> (repeat' split) <;> (first | (simp only [Res.stop_release, Res.ok_release, id]; done) | with_reducible rfl | (simp_all; done))))
theorem execMlKemKeygen_pending (e : Nat) (fault : Bool) (s : State) : ∃ τ, execMlKemKeygen e fault s = .next τ ∧ τ.pending = s.pending := by refine ⟨_, rfl, ?_⟩; simp only [sliceRow_pending, runKemKeygen_pending, runKemKeygen_pending_rel, implies_true]
theorem execMlKemEncaps_pending (e : Nat) (fault : Bool) (s : State) : ∃ τ, execMlKemEncaps e fault s = .next τ ∧ τ.pending = s.pending := by refine ⟨_, rfl, ?_⟩; simp only [sliceRow_pending, runKemEncaps_pending, runKemEncaps_pending_rel, implies_true]
theorem execMlKemDecaps_pending (e : Nat) (fault : Bool) (s : State) : ∃ τ, execMlKemDecaps e fault s = .next τ ∧ τ.pending = s.pending := by refine ⟨_, rfl, ?_⟩; simp only [sliceRow_pending, runKemDecaps_pending, runKemDecaps_pending_rel, implies_true]
theorem execMlKemCheck_pending (e : Nat) (s : State) : ∃ τ, execMlKemCheck e s = .next τ ∧ τ.pending = s.pending := by refine ⟨_, rfl, ?_⟩; simp only [sliceRow_pending, runKemCheck_pending, runKemCheck_pending_rel, implies_true]
theorem execMlDsaKeygen_pending (e : Nat) (fault : Bool) (s : State) : ∃ τ, execMlDsaKeygen e fault s = .next τ ∧ τ.pending = s.pending := by refine ⟨_, rfl, ?_⟩; simp only [sliceRow_pending, runDsaKeygen_pending, runDsaKeygen_pending_rel, implies_true]
theorem execMlDsaSign_pending (e : Nat) (fault : Bool) (s : State) : ∃ τ, execMlDsaSign e fault s = .next τ ∧ τ.pending = s.pending := by refine ⟨_, rfl, ?_⟩; simp only [sliceRow_pending, runDsaSign_pending, runDsaSign_pending_rel, implies_true]
theorem execMlDsaVerify_pending (e : Nat) (fault : Bool) (s : State) : ∃ τ, execMlDsaVerify e fault s = .next τ ∧ τ.pending = s.pending := by refine ⟨_, rfl, ?_⟩; simp only [sliceRow_pending, runDsaVerify_pending, runDsaVerify_pending_rel, implies_true]
@[simp] theorem latLockRule_pending_act  : ∀ τ, ((latLockRule).act τ).pending = τ.pending := by simp [latLockRule]
@[simp] theorem latLockRule_pending_first  : ∀ τ, ((latLockRule).first τ).1.pending = τ.pending := by simp [latLockRule]
theorem execPkeLatLock_pending (c : Caller) (data : Bytes) (s : State) : ∃ τ, execPkeLatLock c data s = .next τ ∧ τ.pending = s.pending := by refine ⟨_, rfl, ?_⟩; simp only [writeAccess_pending, latLockRule_pending_act, latLockRule_pending_first, implies_true]
@[simp] theorem runSlhKeygen_pending (x : Entry) (n : Nat) (s : State) : (runSlhKeygen x n s).2.pending = s.pending := by simp only [runSlhKeygen, checked_pending, deliverKey_pending, deliverKey_pending_rel, implies_true]
@[simp] theorem runSlhKeygen_pending_rel (x : Entry) (n : Nat) (s : State) : ∀ ρ, ((runSlhKeygen x n s).1.release ρ).pending = ρ.pending := by simp only [runSlhKeygen, checked_pending_rel, deliverKey_pending, deliverKey_pending_rel, implies_true]
@[simp] theorem runSlhSign_pending (x : Entry) (n : Nat) (s : State) : (runSlhSign x n s).2.pending = s.pending := by unfold runSlhSign; dsimp only; (repeat' split) <;> (first | (simp only [checked_pending, checked_pending_rel, implies_true, ite_pending, ite_self, Res.stop_release, Res.ok_release, persistRes_release, id]; done) | with_reducible rfl | (apply checked_pending <;> intros <;> (try dsimp only) <;> (repeat' split) <;> (first | (simp only [Res.ok_release, id]; done) | with_reducible rfl | (simp_all; done))))
@[simp] theorem runSlhSign_pending_rel (x : Entry) (n : Nat) (s : State) : ∀ ρ, ((runSlhSign x n s).1.release ρ).pending = ρ.pending := by intro ρ; unfold runSlhSign; dsimp only; (repeat' split) <;> (first | (simp only [checked_pending, checked_pending_rel, implies_true, ite_pending, ite_self, Res.stop_release, Res.ok_release, persistRes_release, id]; done) | with_reducible rfl | (apply checked_pending_rel <;> intros <;> (try dsimp only) <;> (repeat' split) <;> (first | (simp only [Res.ok_release, id]; done) | with_reducible rfl | (simp_all; done))))
@[simp] theorem runSlhVerify_pending (x : Entry) (n : Nat) (s : State) : (runSlhVerify x n s).2.pending = s.pending := by unfold runSlhVerify; dsimp only; (repeat' split) <;> (first | (simp only [checked_pending, checked_pending_rel, implies_true, ite_pending, ite_self, Res.stop_release, Res.ok_release, persistRes_release, id]; done) | with_reducible rfl | (apply checked_pending <;> intros <;> (try dsimp only) <;> (repeat' split) <;> (first | (simp only [Res.stop_release, Res.ok_release, id]; done) | with_reducible rfl | (simp_all; done))))
@[simp] theorem runSlhVerify_pending_rel (x : Entry) (n : Nat) (s : State) : ∀ ρ, ((runSlhVerify x n s).1.release ρ).pending = ρ.pending := by intro ρ; unfold runSlhVerify; dsimp only; (repeat' split) <;> (first | (simp only [checked_pending, checked_pending_rel, implies_true, ite_pending, ite_self, Res.stop_release, Res.ok_release, persistRes_release, id]; done) | with_reducible rfl | (apply checked_pending_rel <;> intros <;> (try dsimp only) <;> (repeat' split) <;> (first | (simp only [Res.stop_release, Res.ok_release, id]; done) | with_reducible rfl | (simp_all; done))))
theorem execSlhDsaKeygen_pending (e : Nat) (fault : Bool) (s : State) : ∃ τ, execSlhDsaKeygen e fault s = .next τ ∧ τ.pending = s.pending := by refine ⟨_, rfl, ?_⟩; simp only [sliceRow_pending, runSlhKeygen_pending, runSlhKeygen_pending_rel, implies_true]
theorem execSlhDsaSign_pending (e : Nat) (fault : Bool) (s : State) : ∃ τ, execSlhDsaSign e fault s = .next τ ∧ τ.pending = s.pending := by refine ⟨_, rfl, ?_⟩; simp only [sliceRow_pending, runSlhSign_pending, runSlhSign_pending_rel, implies_true]
theorem execSlhDsaVerify_pending (e : Nat) (fault : Bool) (s : State) : ∃ τ, execSlhDsaVerify e fault s = .next τ ∧ τ.pending = s.pending := by refine ⟨_, rfl, ?_⟩; simp only [sliceRow_pending, runSlhVerify_pending, runSlhVerify_pending_rel, implies_true]
@[simp] theorem runHtsKeygen_pending (withheld : Bool) (x : Entry) (n : Nat) (s : State) : (runHtsKeygen withheld x n s).2.pending = s.pending := by unfold runHtsKeygen; dsimp only; (repeat' split) <;> (first | (simp only [checked_pending, draw_pending, htsWarn_pending, setHts_pending, putLks_pending, fillSlot_pending, bump_pending, setCounter_pending, tookTarget_pending, freeCounter_pending, implies_true]; done) | with_reducible rfl | (simp_all; done))
@[simp] theorem runHtsKeygen_pending_rel (withheld : Bool) (x : Entry) (n : Nat) (s : State) : ∀ ρ, ((runHtsKeygen withheld x n s).1.release ρ).pending = ρ.pending := by intro ρ; unfold runHtsKeygen; dsimp only; (repeat' split) <;> (first | (simp only [checked_pending_rel, draw_pending, htsWarn_pending, setHts_pending, putLks_pending, fillSlot_pending, bump_pending, setCounter_pending, tookTarget_pending, freeCounter_pending, implies_true, Res.stop_release, id]; done) | with_reducible rfl | (simp_all; done))
@[simp] theorem runHtsSign_pending (withheld : Bool) (x : Entry) (n : Nat) (s : State) : (runHtsSign withheld x n s).2.pending = s.pending := by unfold runHtsSign; dsimp only; (repeat' split) <;> (first | (simp only [Res.stop_release, Res.ok_release]; done) | with_reducible rfl | (apply checked_pending <;> intros <;> (try dsimp only) <;> (repeat' split) <;> (first | (simp only [loseHts_pending, setHts_pending, commitIndex_pending, reserveIndex_pending, Res.stop_release, Res.ok_release, id]; done) | with_reducible rfl | (simp_all; done))))
@[simp] theorem runHtsSign_pending_rel (withheld : Bool) (x : Entry) (n : Nat) (s : State) : ∀ ρ, ((runHtsSign withheld x n s).1.release ρ).pending = ρ.pending := by intro ρ; unfold runHtsSign; dsimp only; (repeat' split) <;> (first | (simp only [Res.stop_release, Res.ok_release]; done) | with_reducible rfl | (apply checked_pending_rel <;> intros <;> (try dsimp only) <;> (repeat' split) <;> (first | (simp only [loseHts_pending, setHts_pending, commitIndex_pending, reserveIndex_pending, Res.stop_release, Res.ok_release, id]; done) | with_reducible rfl | (simp_all; done))))
@[simp] theorem runHtsVerify_pending (x : Entry) (n : Nat) (s : State) : (runHtsVerify x n s).2.pending = s.pending := by unfold runHtsVerify; dsimp only; (repeat' split) <;> (first | (simp only [checked_pending, checked_pending_rel, implies_true, ite_pending, ite_self, Res.stop_release, Res.ok_release, persistRes_release, id]; done) | with_reducible rfl | (apply checked_pending <;> intros <;> (try dsimp only) <;> (repeat' split) <;> (first | (simp only [Res.stop_release, Res.ok_release, id]; done) | with_reducible rfl | (simp_all; done))))
@[simp] theorem runHtsVerify_pending_rel (x : Entry) (n : Nat) (s : State) : ∀ ρ, ((runHtsVerify x n s).1.release ρ).pending = ρ.pending := by intro ρ; unfold runHtsVerify; dsimp only; (repeat' split) <;> (first | (simp only [checked_pending, checked_pending_rel, implies_true, ite_pending, ite_self, Res.stop_release, Res.ok_release, persistRes_release, id]; done) | with_reducible rfl | (apply checked_pending_rel <;> intros <;> (try dsimp only) <;> (repeat' split) <;> (first | (simp only [Res.stop_release, Res.ok_release, id]; done) | with_reducible rfl | (simp_all; done))))
theorem execStatefulKeygen_pending (e : Nat) (fault : Bool) (s : State) : ∃ τ, execStatefulKeygen e fault s = .next τ ∧ τ.pending = s.pending := by refine ⟨_, rfl, ?_⟩; (repeat' split) <;> (first | (simp only [sliceRow_pending, runHtsKeygen_pending, runHtsKeygen_pending_rel, implies_true]; done) | with_reducible rfl | (simp_all; done))
theorem execStatefulSign_pending (e : Nat) (fault : Bool) (s : State) : ∃ τ, execStatefulSign e fault s = .next τ ∧ τ.pending = s.pending := by refine ⟨_, rfl, ?_⟩; simp only [sliceRow_pending, runHtsSign_pending, runHtsSign_pending_rel, implies_true]
theorem execStatefulVerify_pending (e : Nat) (fault : Bool) (s : State) : ∃ τ, execStatefulVerify e fault s = .next τ ∧ τ.pending = s.pending := by refine ⟨_, rfl, ?_⟩; simp only [sliceRow_pending, runHtsVerify_pending, runHtsVerify_pending_rel, implies_true]
theorem execStatefulRebuild_pending (e : Nat) (rootMatches : Bool) (s : State) : ∃ τ, execStatefulRebuild e rootMatches s = .next τ ∧ τ.pending = s.pending := by refine ⟨_, rfl, ?_⟩; dsimp only; (repeat' split) <;> (first | (simp only [spend_pending, endJob_pending, setHts_pending, invariantFailure_pending, loseHts_pending]; done) | with_reducible rfl | (simp_all; done))
@[simp] theorem runMceKeygen_pending (x : Entry) (n : Nat) (s : State) : (runMceKeygen x n s).2.pending = s.pending := by simp only [runMceKeygen, checked_pending, setObj_pending, putLks_pending, fillSlot_pending, tookTarget_pending, implies_true]
@[simp] theorem runMceKeygen_pending_rel (x : Entry) (n : Nat) (s : State) : ∀ ρ, ((runMceKeygen x n s).1.release ρ).pending = ρ.pending := by simp only [runMceKeygen, checked_pending_rel, setObj_pending, putLks_pending, fillSlot_pending, tookTarget_pending, implies_true]
@[simp] theorem runHqcKeygen_pending (x : Entry) (n : Nat) (s : State) : (runHqcKeygen x n s).2.pending = s.pending := by simp only [runHqcKeygen, checked_pending, deliverKey_pending, deliverKey_pending_rel, implies_true]
@[simp] theorem runHqcKeygen_pending_rel (x : Entry) (n : Nat) (s : State) : ∀ ρ, ((runHqcKeygen x n s).1.release ρ).pending = ρ.pending := by simp only [runHqcKeygen, checked_pending_rel, deliverKey_pending, deliverKey_pending_rel, implies_true]
@[simp] theorem runCodeKeygen_pending (x : Entry) (n : Nat) (s : State) : (runCodeKeygen x n s).2.pending = s.pending := by unfold runCodeKeygen; (repeat' split) <;> (first | (simp only [runMceKeygen_pending, runHqcKeygen_pending]; done) | with_reducible rfl | (simp_all; done))
@[simp] theorem runCodeKeygen_pending_rel (x : Entry) (n : Nat) (s : State) : ∀ ρ, ((runCodeKeygen x n s).1.release ρ).pending = ρ.pending := by intro ρ; unfold runCodeKeygen; (repeat' split) <;> (first | (simp only [runMceKeygen_pending_rel, runHqcKeygen_pending_rel]; done) | with_reducible rfl | (simp_all; done))
@[simp] theorem runCodeEncaps_pending (e : Nat) (x : Entry) (n : Nat) (s : State) : (runCodeEncaps e x n s).2.pending = s.pending := by unfold runCodeEncaps; dsimp only; (repeat' split) <;> (first | (simp only [checked_pending, deliverSecret_pending, deliverSecret_pending_rel, implies_true]; done) | with_reducible rfl | (apply checked_pending <;> intros <;> (try dsimp only) <;> (repeat' split) <;> (first | (simp only [Res.stop_release, id]; done) | with_reducible rfl | (simp_all; done))))
@[simp] theorem runCodeEncaps_pending_rel (e : Nat) (x : Entry) (n : Nat) (s : State) : ∀ ρ, ((runCodeEncaps e x n s).1.release ρ).pending = ρ.pending := by intro ρ; unfold runCodeEncaps; dsimp only; (repeat' split) <;> (first | (simp only [checked_pending_rel, deliverSecret_pending, deliverSecret_pending_rel, implies_true]; done) | with_reducible rfl | (apply checked_pending_rel <;> intros <;> (try dsimp only) <;> (repeat' split) <;> (first | (simp only [Res.stop_release, id]; done) | with_reducible rfl | (simp_all; done))))
@[simp] theorem runCodeDecaps_pending (x : Entry) (n : Nat) (s : State) : (runCodeDecaps x n s).2.pending = s.pending := by simp only [runCodeDecaps, checked_pending, deliverSecret_pending, deliverSecret_pending_rel, implies_true]
@[simp] theorem runCodeDecaps_pending_rel (x : Entry) (n : Nat) (s : State) : ∀ ρ, ((runCodeDecaps x n s).1.release ρ).pending = ρ.pending := by simp only [runCodeDecaps, checked_pending_rel, deliverSecret_pending, deliverSecret_pending_rel, implies_true]
theorem execCodeKemKeygen_pending (e : Nat) (fault : Bool) (s : State) : ∃ τ, execCodeKemKeygen e fault s = .next τ ∧ τ.pending = s.pending := by refine ⟨_, rfl, ?_⟩; simp only [sliceRow_pending, runCodeKeygen_pending, runCodeKeygen_pending_rel, implies_true]
theorem execCodeKemEncaps_pending (e : Nat) (fault : Bool) (s : State) : ∃ τ, execCodeKemEncaps e fault s = .next τ ∧ τ.pending = s.pending := by refine ⟨_, rfl, ?_⟩; simp only [sliceRow_pending, runCodeEncaps_pending, runCodeEncaps_pending_rel, implies_true]
theorem execCodeKemDecaps_pending (e : Nat) (fault : Bool) (s : State) : ∃ τ, execCodeKemDecaps e fault s = .next τ ∧ τ.pending = s.pending := by refine ⟨_, rfl, ?_⟩; simp only [sliceRow_pending, runCodeDecaps_pending, runCodeDecaps_pending_rel, implies_true]
@[simp] theorem runEccKeygen_pending (x : Entry) (n : Nat) (s : State) : (runEccKeygen x n s).2.pending = s.pending := by simp only [runEccKeygen, checked_pending, deliverKey_pending, deliverKey_pending_rel, implies_true]
@[simp] theorem runEccKeygen_pending_rel (x : Entry) (n : Nat) (s : State) : ∀ ρ, ((runEccKeygen x n s).1.release ρ).pending = ρ.pending := by simp only [runEccKeygen, checked_pending_rel, deliverKey_pending, deliverKey_pending_rel, implies_true]
@[simp] theorem runEccSign_pending (x : Entry) (n : Nat) (s : State) : (runEccSign x n s).2.pending = s.pending := by unfold runEccSign; dsimp only; (repeat' split) <;> (first | (simp only [checked_pending, checked_pending_rel, implies_true, ite_pending, ite_self, Res.stop_release, Res.ok_release, persistRes_release, id]; done) | with_reducible rfl | (apply checked_pending <;> intros <;> (try dsimp only) <;> (repeat' split) <;> (first | (simp only [Res.ok_release, id]; done) | with_reducible rfl | (simp_all; done))))
@[simp] theorem runEccSign_pending_rel (x : Entry) (n : Nat) (s : State) : ∀ ρ, ((runEccSign x n s).1.release ρ).pending = ρ.pending := by intro ρ; unfold runEccSign; dsimp only; (repeat' split) <;> (first | (simp only [checked_pending, checked_pending_rel, implies_true, ite_pending, ite_self, Res.stop_release, Res.ok_release, persistRes_release, id]; done) | with_reducible rfl | (apply checked_pending_rel <;> intros <;> (try dsimp only) <;> (repeat' split) <;> (first | (simp only [Res.ok_release, id]; done) | with_reducible rfl | (simp_all; done))))
@[simp] theorem runEccVerify_pending (x : Entry) (n : Nat) (s : State) : (runEccVerify x n s).2.pending = s.pending := by unfold runEccVerify; dsimp only; (repeat' split) <;> (first | (simp only [checked_pending, checked_pending_rel, implies_true, ite_pending, ite_self, Res.stop_release, Res.ok_release, persistRes_release, id]; done) | with_reducible rfl | (apply checked_pending <;> intros <;> (try dsimp only) <;> (repeat' split) <;> (first | (simp only [Res.stop_release, Res.ok_release, id]; done) | with_reducible rfl | (simp_all; done))))
@[simp] theorem runEccVerify_pending_rel (x : Entry) (n : Nat) (s : State) : ∀ ρ, ((runEccVerify x n s).1.release ρ).pending = ρ.pending := by intro ρ; unfold runEccVerify; dsimp only; (repeat' split) <;> (first | (simp only [checked_pending, checked_pending_rel, implies_true, ite_pending, ite_self, Res.stop_release, Res.ok_release, persistRes_release, id]; done) | with_reducible rfl | (apply checked_pending_rel <;> intros <;> (try dsimp only) <;> (repeat' split) <;> (first | (simp only [Res.stop_release, Res.ok_release, id]; done) | with_reducible rfl | (simp_all; done))))
@[simp] theorem runEccAgree_pending (x : Entry) (n : Nat) (s : State) : (runEccAgree x n s).2.pending = s.pending := by unfold runEccAgree; dsimp only; (repeat' split) <;> (first | (simp only [checked_pending, deliverSecret_pending, deliverSecret_pending_rel, implies_true, Res.stop_release, id]; done) | with_reducible rfl | (apply checked_pending <;> intros <;> (try dsimp only) <;> (repeat' split) <;> (first | (simp only [Res.stop_release, id]; done) | with_reducible rfl | (simp_all; done))))
@[simp] theorem runEccAgree_pending_rel (x : Entry) (n : Nat) (s : State) : ∀ ρ, ((runEccAgree x n s).1.release ρ).pending = ρ.pending := by intro ρ; unfold runEccAgree; dsimp only; (repeat' split) <;> (first | (simp only [checked_pending_rel, deliverSecret_pending, deliverSecret_pending_rel, implies_true, Res.stop_release, id]; done) | with_reducible rfl | (apply checked_pending_rel <;> intros <;> (try dsimp only) <;> (repeat' split) <;> (first | (simp only [Res.stop_release, id]; done) | with_reducible rfl | (simp_all; done))))
@[simp] theorem runEccCheck_pending (x : Entry) (a1 : Nat) (s : State) : (runEccCheck x a1 s).2.pending = s.pending := by simp only [runEccCheck]
@[simp] theorem runEccCheck_pending_rel (x : Entry) (a1 : Nat) (s : State) : ∀ ρ, ((runEccCheck x a1 s).1.release ρ).pending = ρ.pending := by intro ρ; unfold runEccCheck; dsimp only; (repeat' split) <;> (first | (simp only [Res.stop_release, Res.ok_release, id]; done) | with_reducible rfl | (simp_all; done))
theorem execEccKeygen_pending (e : Nat) (fault : Bool) (s : State) : ∃ τ, execEccKeygen e fault s = .next τ ∧ τ.pending = s.pending := by refine ⟨_, rfl, ?_⟩; simp only [sliceRow_pending, runEccKeygen_pending, runEccKeygen_pending_rel, implies_true]
theorem execEccSign_pending (e : Nat) (fault : Bool) (s : State) : ∃ τ, execEccSign e fault s = .next τ ∧ τ.pending = s.pending := by refine ⟨_, rfl, ?_⟩; simp only [sliceRow_pending, runEccSign_pending, runEccSign_pending_rel, implies_true]
theorem execEccVerify_pending (e : Nat) (fault : Bool) (s : State) : ∃ τ, execEccVerify e fault s = .next τ ∧ τ.pending = s.pending := by refine ⟨_, rfl, ?_⟩; simp only [sliceRow_pending, runEccVerify_pending, runEccVerify_pending_rel, implies_true]
theorem execEccAgree_pending (e : Nat) (fault : Bool) (s : State) : ∃ τ, execEccAgree e fault s = .next τ ∧ τ.pending = s.pending := by refine ⟨_, rfl, ?_⟩; simp only [sliceRow_pending, runEccAgree_pending, runEccAgree_pending_rel, implies_true]
theorem execEccCheck_pending (e : Nat) (s : State) : ∃ τ, execEccCheck e s = .next τ ∧ τ.pending = s.pending := by refine ⟨_, rfl, ?_⟩; simp only [sliceRow_pending, runEccCheck_pending, runEccCheck_pending_rel, implies_true]
@[simp] theorem runRsaKeygen_pending (x : Entry) (n : Nat) (s : State) : (runRsaKeygen x n s).2.pending = s.pending := by simp only [runRsaKeygen, checked_pending, deliverKey_pending, deliverKey_pending_rel, setObj_pending, implies_true]
@[simp] theorem runRsaKeygen_pending_rel (x : Entry) (n : Nat) (s : State) : ∀ ρ, ((runRsaKeygen x n s).1.release ρ).pending = ρ.pending := by simp only [runRsaKeygen, checked_pending_rel, deliverKey_pending, deliverKey_pending_rel, setObj_pending, implies_true]
@[simp] theorem runRsaSign_pending (x : Entry) (n : Nat) (s : State) : (runRsaSign x n s).2.pending = s.pending := by unfold runRsaSign; dsimp only; (repeat' split) <;> (first | (simp only [checked_pending, checked_pending_rel, implies_true, ite_pending, ite_self, Res.stop_release, Res.ok_release, persistRes_release, id]; done) | with_reducible rfl | (apply checked_pending <;> intros <;> (try dsimp only) <;> (repeat' split) <;> (first | (simp only [Res.stop_release, Res.ok_release, id]; done) | with_reducible rfl | (simp_all; done))))
@[simp] theorem runRsaSign_pending_rel (x : Entry) (n : Nat) (s : State) : ∀ ρ, ((runRsaSign x n s).1.release ρ).pending = ρ.pending := by intro ρ; unfold runRsaSign; dsimp only; (repeat' split) <;> (first | (simp only [checked_pending, checked_pending_rel, implies_true, ite_pending, ite_self, Res.stop_release, Res.ok_release, persistRes_release, id]; done) | with_reducible rfl | (apply checked_pending_rel <;> intros <;> (try dsimp only) <;> (repeat' split) <;> (first | (simp only [Res.stop_release, Res.ok_release, id]; done) | with_reducible rfl | (simp_all; done))))
@[simp] theorem runRsaVerify_pending (x : Entry) (n : Nat) (s : State) : (runRsaVerify x n s).2.pending = s.pending := by unfold runRsaVerify; dsimp only; (repeat' split) <;> (first | (simp only [checked_pending, checked_pending_rel, implies_true, ite_pending, ite_self, Res.stop_release, Res.ok_release, persistRes_release, id]; done) | with_reducible rfl | (apply checked_pending <;> intros <;> (try dsimp only) <;> (repeat' split) <;> (first | (simp only [Res.stop_release, Res.ok_release, id]; done) | with_reducible rfl | (simp_all; done))))
@[simp] theorem runRsaVerify_pending_rel (x : Entry) (n : Nat) (s : State) : ∀ ρ, ((runRsaVerify x n s).1.release ρ).pending = ρ.pending := by intro ρ; unfold runRsaVerify; dsimp only; (repeat' split) <;> (first | (simp only [checked_pending, checked_pending_rel, implies_true, ite_pending, ite_self, Res.stop_release, Res.ok_release, persistRes_release, id]; done) | with_reducible rfl | (apply checked_pending_rel <;> intros <;> (try dsimp only) <;> (repeat' split) <;> (first | (simp only [Res.stop_release, Res.ok_release, id]; done) | with_reducible rfl | (simp_all; done))))
@[simp] theorem runRsaEncrypt_pending (x : Entry) (n : Nat) (s : State) : (runRsaEncrypt x n s).2.pending = s.pending := by unfold runRsaEncrypt; dsimp only; (repeat' split) <;> (first | (simp only [checked_pending, checked_pending_rel, implies_true, ite_pending, ite_self, Res.stop_release, Res.ok_release, persistRes_release, id]; done) | with_reducible rfl | (apply checked_pending <;> intros <;> (try dsimp only) <;> (repeat' split) <;> (first | (simp only [Res.stop_release, Res.ok_release, id]; done) | with_reducible rfl | (simp_all; done))))
@[simp] theorem runRsaEncrypt_pending_rel (x : Entry) (n : Nat) (s : State) : ∀ ρ, ((runRsaEncrypt x n s).1.release ρ).pending = ρ.pending := by intro ρ; unfold runRsaEncrypt; dsimp only; (repeat' split) <;> (first | (simp only [checked_pending, checked_pending_rel, implies_true, ite_pending, ite_self, Res.stop_release, Res.ok_release, persistRes_release, id]; done) | with_reducible rfl | (apply checked_pending_rel <;> intros <;> (try dsimp only) <;> (repeat' split) <;> (first | (simp only [Res.stop_release, Res.ok_release, id]; done) | with_reducible rfl | (simp_all; done))))
@[simp] theorem runRsaDecrypt_pending (x : Entry) (n : Nat) (s : State) : (runRsaDecrypt x n s).2.pending = s.pending := by unfold runRsaDecrypt; dsimp only; (repeat' split) <;> (first | (simp only [checked_pending, deliverSecret_pending, deliverSecret_pending_rel, implies_true, Res.stop_release, id]; done) | with_reducible rfl | (apply checked_pending <;> intros <;> (try dsimp only) <;> (repeat' split) <;> (first | (simp only [Res.stop_release, Res.ok_release, id]; done) | with_reducible rfl | (simp_all; done))))
@[simp] theorem runRsaDecrypt_pending_rel (x : Entry) (n : Nat) (s : State) : ∀ ρ, ((runRsaDecrypt x n s).1.release ρ).pending = ρ.pending := by intro ρ; unfold runRsaDecrypt; dsimp only; (repeat' split) <;> (first | (simp only [checked_pending_rel, deliverSecret_pending, deliverSecret_pending_rel, implies_true, Res.stop_release, id]; done) | with_reducible rfl | (apply checked_pending_rel <;> intros <;> (try dsimp only) <;> (repeat' split) <;> (first | (simp only [Res.stop_release, Res.ok_release, id]; done) | with_reducible rfl | (simp_all; done))))
theorem execRsaKeygen_pending (e : Nat) (fault : Bool) (s : State) : ∃ τ, execRsaKeygen e fault s = .next τ ∧ τ.pending = s.pending := by refine ⟨_, rfl, ?_⟩; simp only [sliceRow_pending, runRsaKeygen_pending, runRsaKeygen_pending_rel, implies_true]
theorem execRsaSign_pending (e : Nat) (fault : Bool) (s : State) : ∃ τ, execRsaSign e fault s = .next τ ∧ τ.pending = s.pending := by refine ⟨_, rfl, ?_⟩; simp only [sliceRow_pending, runRsaSign_pending, runRsaSign_pending_rel, implies_true]
theorem execRsaVerify_pending (e : Nat) (fault : Bool) (s : State) : ∃ τ, execRsaVerify e fault s = .next τ ∧ τ.pending = s.pending := by refine ⟨_, rfl, ?_⟩; simp only [sliceRow_pending, runRsaVerify_pending, runRsaVerify_pending_rel, implies_true]
theorem execRsaEncrypt_pending (e : Nat) (fault : Bool) (s : State) : ∃ τ, execRsaEncrypt e fault s = .next τ ∧ τ.pending = s.pending := by refine ⟨_, rfl, ?_⟩; simp only [sliceRow_pending, runRsaEncrypt_pending, runRsaEncrypt_pending_rel, implies_true]
theorem execRsaDecrypt_pending (e : Nat) (fault : Bool) (s : State) : ∃ τ, execRsaDecrypt e fault s = .next τ ∧ τ.pending = s.pending := by refine ⟨_, rfl, ?_⟩; simp only [sliceRow_pending, runRsaDecrypt_pending, runRsaDecrypt_pending_rel, implies_true]
@[simp] theorem setActiveHalf_pending (h : Bytes) (s : State) : (setActiveHalf h s).pending = s.pending := by simp only [setActiveHalf]
@[simp] theorem compactArchive_pending (s : State) : (compactArchive s).pending = s.pending := by unfold compactArchive; (repeat' split) <;> (first | (simp only; done) | with_reducible rfl | (simp_all; done))
@[simp] theorem writeArch_pending (r : ArchRec) (s : State) : (writeArch r s).pending = s.pending := by unfold writeArch; (repeat' split) <;> (first | (simp only [setActiveHalf_pending]; done) | with_reducible rfl | (simp_all; done))
@[simp] theorem freeLks_pending (h : Nat) (s : State) : (freeLks h s).pending = s.pending := by unfold freeLks; (repeat' split) <;> (first | (simp only [wipeFreeLks_pending, ite_pending, ite_self]; done) | with_reducible rfl | (simp_all; done))
@[simp] theorem eraseSlot_pending (h : Nat) (s : State) : (eraseSlot h s).pending = s.pending := by unfold eraseSlot; (repeat' split) <;> (first | (simp only [freeSlot_pending, freeLks_pending, freeCounter_pending]; done) | with_reducible rfl | (simp_all; done))
@[simp] theorem updSlot_pending (h : Nat) (f : Slot → Slot) (s : State) : (updSlot h f s).pending = s.pending := by simp only [updSlot]
@[simp] theorem updLks_pending (h : Nat) (f : LksEntry → LksEntry) (s : State) : (updLks h f s).pending = s.pending := by simp only [updLks]
@[simp] theorem archEffect_pending (f : ArchEffect) (s : State) : (archEffect f s).pending = s.pending := by unfold archEffect; (repeat' split) <;> (first | (simp only [updSlot_pending, updLks_pending, compactArchive_pending, eraseSlot_pending, freeLks_pending]; done) | with_reducible rfl | (simp_all; done))
theorem execArchiveCommitDone_pending (s : State) : ∃ τ, execArchiveCommitDone s = .next τ ∧ τ.pending = s.pending := by refine ⟨_, rfl, ?_⟩; dsimp only; (repeat' split) <;> (first | (simp only [archEffect_pending, writeArch_pending, setEntry_pending]; done) | with_reducible rfl | (simp_all; done))
@[simp] theorem archCompactRule_pending_act  : ∀ τ, ((archCompactRule).act τ).pending = τ.pending := by intro τ; unfold archCompactRule; dsimp only; (repeat' split) <;> (first | (simp only [compactArchive_pending]; done) | with_reducible rfl | (simp_all; done))
@[simp] theorem archCompactRule_pending_first  : ∀ τ, ((archCompactRule).first τ).1.pending = τ.pending := by simp [archCompactRule]
theorem execArchiveCompact_pending (w : Option (Caller × Bytes)) (s : State) : ∃ τ, execArchiveCompact w s = .next τ ∧ τ.pending = s.pending := by refine ⟨_, rfl, ?_⟩; (repeat' split) <;> (first | (simp only [writeAccess_pending, archCompactRule_pending_act, archCompactRule_pending_first, compactArchive_pending, advanceTo_pending, implies_true]; done) | with_reducible rfl | (simp_all; done))
@[simp] theorem freshArchive_pending (s : State) : (freshArchive s).pending = s.pending := by simp only [freshArchive, draw_pending, setObj_pending]
@[simp] theorem archInitRule_pending_act (s : State) : ∀ τ, ((archInitRule s).act τ).pending = τ.pending := by intro τ; unfold archInitRule; dsimp only; (repeat' split) <;> (first | (simp only [freshArchive_pending]; done) | with_reducible rfl | (simp_all; done))
@[simp] theorem archInitRule_pending_first (s : State) : ∀ τ, ((archInitRule s).first τ).1.pending = τ.pending := by simp [archInitRule]
theorem execKregArchInit_pending (c : Caller) (data : Bytes) (s : State) : ∃ τ, execKregArchInit c data s = .next τ ∧ τ.pending = s.pending := by refine ⟨_, rfl, ?_⟩; simp only [writeAccess_pending, archInitRule_pending_act, archInitRule_pending_first, implies_true]
@[simp] theorem restoreRec_pending (r : ArchRec) (s : State) : (restoreRec r s).pending = s.pending := by unfold restoreRec; (repeat' split) <;> (first | (simp only [maskSeed_pending, putSlot_pending, setHts_pending, putLks_pending]; done) | with_reducible rfl | (simp_all; done))
@[simp] theorem applyJournal_pending (rs : List ArchRec) (s : State) : (applyJournal rs s).pending = s.pending := by unfold applyJournal; (repeat' split) <;> (first | (simp only [restoreRec_pending, implies_true, ite_pending, ite_self]; done) | with_reducible rfl | (simp_all; done))
@[simp] theorem restoreArchive_pending (caston : Bool) (torn : Bool) (bad : Option Nat) (s : State) : (restoreArchive caston torn bad s).pending = s.pending := by unfold restoreArchive; dsimp only; (repeat' split) <;> (first | (simp only [setObj_pending, applyJournal_pending, freshArchive_pending, archUnusable_pending]; done) | with_reducible rfl | (simp_all; done))
@[simp] theorem queueRebuilds_pending (s : State) : (queueRebuilds s).pending = s.pending := by simp only [queueRebuilds]
@[simp] theorem finishManager_pending (e : Nat) (x : Entry) (r : Res) (s : State) (h2 : ∀ ρ, (r.release ρ).pending = ρ.pending) : (finishManager e x r s).pending = s.pending := by unfold finishManager; (repeat' split) <;> (first | (simp only [deviceRefusal_pending, spend_pending]; done) | with_reducible rfl | (simp_all; done))
@[simp] theorem managerRow_pending (opcode : Nat) (needs : Entry → State → List Nat) (e : Nat) (fault : Bool) (f : Entry → Nat → State → Res × State) (s : State) (h4 : ∀ v0 v1 τ, (f v0 v1 τ).2.pending = τ.pending) (k4 : ∀ v0 v1 τ ρ, ((f v0 v1 τ).1.release ρ).pending = ρ.pending) : (managerRow opcode needs e fault f s).pending = s.pending := by unfold managerRow; dsimp only; (repeat' split) <;> (first | (simp only [stopJob_pending, invariantFailure_pending, spend_pending]; done) | with_reducible rfl | (simp_all; done))
@[simp] theorem managerChecked_pending (x : Entry) (n : Nat) (q : Need) (run : Bytes → State → Res × State) (s : State) (h3 : ∀ v0 τ, (run v0 τ).2.pending = τ.pending) (k3 : ∀ v0 τ ρ, ((run v0 τ).1.release ρ).pending = ρ.pending) : (managerChecked x n q run s).2.pending = s.pending := by unfold managerChecked; (repeat' split) <;> (first | (simp only; done) | with_reducible rfl | (simp_all; done))
@[simp] theorem managerChecked_pending_rel (x : Entry) (n : Nat) (q : Need) (run : Bytes → State → Res × State) (s : State) (h3 : ∀ v0 τ, (run v0 τ).2.pending = τ.pending) (k3 : ∀ v0 τ ρ, ((run v0 τ).1.release ρ).pending = ρ.pending) : ∀ ρ, ((managerChecked x n q run s).1.release ρ).pending = ρ.pending := by intro ρ; unfold managerChecked; (repeat' split) <;> (first | (simp only [Res.stop_release, id]; done) | with_reducible rfl | (simp_all; done))
@[simp] theorem runImportWrapped_pending (x : Entry) (n : Nat) (s : State) : (runImportWrapped x n s).2.pending = s.pending := by unfold runImportWrapped; dsimp only; (repeat' split) <;> (first | (simp only [managerChecked_pending, fillSlot_pending, tookHandle_pending, implies_true, persistRes_release]; done) | with_reducible rfl | (apply managerChecked_pending <;> intros <;> (try dsimp only) <;> (repeat' split) <;> (first | (simp only [Res.stop_release, id]; done) | with_reducible rfl | (simp_all; done))))
@[simp] theorem runImportWrapped_pending_rel (x : Entry) (n : Nat) (s : State) : ∀ ρ, ((runImportWrapped x n s).1.release ρ).pending = ρ.pending := by intro ρ; unfold runImportWrapped; dsimp only; (repeat' split) <;> (first | (simp only [managerChecked_pending_rel, fillSlot_pending, tookHandle_pending, implies_true, Res.stop_release, persistRes_release, id]; done) | with_reducible rfl | (apply managerChecked_pending_rel <;> intros <;> (try dsimp only) <;> (repeat' split) <;> (first | (simp only [Res.stop_release, id]; done) | with_reducible rfl | (simp_all; done))))
theorem execImportWrapped_pending (e : Nat) (s : State) : ∃ τ, execImportWrapped e s = .next τ ∧ τ.pending = s.pending := by refine ⟨_, rfl, ?_⟩; simp only [managerRow_pending, runImportWrapped_pending, runImportWrapped_pending_rel, implies_true]
@[simp] theorem runExportWrapped_pending (x : Entry) (n : Nat) (s : State) : (runExportWrapped x n s).2.pending = s.pending := by unfold runExportWrapped; dsimp only; (repeat' split) <;> (first | (simp only [managerChecked_pending, implies_true, Res.stop_release, id]; done) | with_reducible rfl | (apply managerChecked_pending <;> intros <;> (try dsimp only) <;> (repeat' split) <;> (first | (simp only [Res.ok_release, id]; done) | with_reducible rfl | (simp_all; done))))
@[simp] theorem runExportWrapped_pending_rel (x : Entry) (n : Nat) (s : State) : ∀ ρ, ((runExportWrapped x n s).1.release ρ).pending = ρ.pending := by intro ρ; unfold runExportWrapped; dsimp only; (repeat' split) <;> (first | (simp only [managerChecked_pending_rel, implies_true, Res.stop_release, id]; done) | with_reducible rfl | (apply managerChecked_pending_rel <;> intros <;> (try dsimp only) <;> (repeat' split) <;> (first | (simp only [Res.ok_release, id]; done) | with_reducible rfl | (simp_all; done))))
theorem execExportWrapped_pending (e : Nat) (s : State) : ∃ τ, execExportWrapped e s = .next τ ∧ τ.pending = s.pending := by refine ⟨_, rfl, ?_⟩; simp only [managerRow_pending, runExportWrapped_pending, runExportWrapped_pending_rel, implies_true]
@[simp] theorem runDeleteSlot_pending (x : Entry) (action : Nat) (s : State) : (runDeleteSlot x action s).2.pending = s.pending := by unfold runDeleteSlot; dsimp only; (repeat' split) <;> (first | (simp only; done) | with_reducible rfl | (simp_all; done))
@[simp] theorem runDeleteSlot_pending_rel (x : Entry) (action : Nat) (s : State) : ∀ ρ, ((runDeleteSlot x action s).1.release ρ).pending = ρ.pending := by intro ρ; unfold runDeleteSlot; dsimp only; (repeat' split) <;> (first | (simp only [eraseSlot_pending, endHold_pending, Res.stop_release, Res.ok_release, id]; done) | with_reducible rfl | (simp_all; done))
@[simp] theorem runDeleteLks_pending (x : Entry) (action : Nat) (s : State) : (runDeleteLks x action s).2.pending = s.pending := by unfold runDeleteLks; dsimp only; (repeat' split) <;> (first | (simp only; done) | with_reducible rfl | (simp_all; done))
@[simp] theorem runDeleteLks_pending_rel (x : Entry) (action : Nat) (s : State) : ∀ ρ, ((runDeleteLks x action s).1.release ρ).pending = ρ.pending := by intro ρ; unfold runDeleteLks; dsimp only; (repeat' split) <;> (first | (simp only [freeLks_pending, Res.stop_release, Res.ok_release, id]; done) | with_reducible rfl | (simp_all; done))
@[simp] theorem runDelete_pending (action : Nat) (x : Entry) (a2 : Nat) (s : State) : (runDelete action x a2 s).2.pending = s.pending := by unfold runDelete; (repeat' split) <;> (first | (simp only [runDeleteLks_pending, runDeleteSlot_pending]; done) | with_reducible rfl | (simp_all; done))
@[simp] theorem runDelete_pending_rel (action : Nat) (x : Entry) (a2 : Nat) (s : State) : ∀ ρ, ((runDelete action x a2 s).1.release ρ).pending = ρ.pending := by intro ρ; unfold runDelete; (repeat' split) <;> (first | (simp only [runDeleteLks_pending_rel, runDeleteSlot_pending_rel]; done) | with_reducible rfl | (simp_all; done))
theorem execDelete_pending (e : Nat) (s : State) : ∃ τ, execDelete e s = .next τ ∧ τ.pending = s.pending := by refine ⟨_, rfl, ?_⟩; simp only [managerRow_pending, runDelete_pending, runDelete_pending_rel, implies_true, ite_pending, ite_self]
theorem execPersist_pending (e : Nat) (s : State) : ∃ τ, execPersist e s = .next τ ∧ τ.pending = s.pending := by refine ⟨_, rfl, ?_⟩; simp only [managerRow_pending, runDelete_pending, runDelete_pending_rel, implies_true, ite_pending, ite_self]
theorem execUnpersist_pending (e : Nat) (s : State) : ∃ τ, execUnpersist e s = .next τ ∧ τ.pending = s.pending := by refine ⟨_, rfl, ?_⟩; simp only [managerRow_pending, runDelete_pending, runDelete_pending_rel, implies_true, ite_pending, ite_self]
@[simp] theorem runImportMce_pending (x : Entry) (n : Nat) (s : State) : (runImportMce x n s).2.pending = s.pending := by unfold runImportMce; dsimp only; (repeat' split) <;> (first | (simp only [managerChecked_pending, putLks_pending, implies_true]; done) | with_reducible rfl | (apply managerChecked_pending <;> intros <;> (try dsimp only) <;> (repeat' split) <;> (first | (simp only [Res.stop_release, id]; done) | with_reducible rfl | (simp_all; done))))
@[simp] theorem runImportMce_pending_rel (x : Entry) (n : Nat) (s : State) : ∀ ρ, ((runImportMce x n s).1.release ρ).pending = ρ.pending := by intro ρ; unfold runImportMce; dsimp only; (repeat' split) <;> (first | (simp only [managerChecked_pending_rel, putLks_pending, implies_true]; done) | with_reducible rfl | (apply managerChecked_pending_rel <;> intros <;> (try dsimp only) <;> (repeat' split) <;> (first | (simp only [Res.stop_release, id]; done) | with_reducible rfl | (simp_all; done))))
@[simp] theorem runImportPublic_pending (x : Entry) (n : Nat) (s : State) : (runImportPublic x n s).2.pending = s.pending := by unfold runImportPublic; dsimp only; (repeat' split) <;> (first | (simp only [runImportMce_pending, managerChecked_pending, fillSlot_pending, tookHandle_pending, implies_true, persistRes_release]; done) | with_reducible rfl | (apply managerChecked_pending <;> intros <;> (try dsimp only) <;> (repeat' split) <;> (first | (simp only [Res.stop_release, id]; done) | with_reducible rfl | (simp_all; done))))
@[simp] theorem runImportPublic_pending_rel (x : Entry) (n : Nat) (s : State) : ∀ ρ, ((runImportPublic x n s).1.release ρ).pending = ρ.pending := by intro ρ; unfold runImportPublic; dsimp only; (repeat' split) <;> (first | (simp only [runImportMce_pending_rel, managerChecked_pending_rel, fillSlot_pending, tookHandle_pending, implies_true, Res.stop_release, persistRes_release, id]; done) | with_reducible rfl | (apply managerChecked_pending_rel <;> intros <;> (try dsimp only) <;> (repeat' split) <;> (first | (simp only [Res.stop_release, id]; done) | with_reducible rfl | (simp_all; done))))
theorem execImportPublic_pending (e : Nat) (s : State) : ∃ τ, execImportPublic e s = .next τ ∧ τ.pending = s.pending := by refine ⟨_, rfl, ?_⟩; simp only [managerRow_pending, runImportPublic_pending, runImportPublic_pending_rel, implies_true]
@[simp] theorem attestSlot_pending (alg : Nat) (pset : Nat) (n : Nat) (units : Nat) (s : State) : (attestSlot alg pset n units s).pending = s.pending := by simp only [attestSlot, putSlot_pending, tookHandle_pending]
@[simp] theorem attestKeys_pending (s : State) : (attestKeys s).pending = s.pending := by simp only [attestKeys, attestSlot_pending, setObj_pending]
@[simp] theorem runAttest_pending (x : Entry) (n : Nat) (s : State) : (runAttest x n s).2.pending = s.pending := by unfold runAttest; (repeat' split) <;> (first | (simp only [draw_pending, refreshExpander_pending]; done) | with_reducible rfl | (simp_all; done))
@[simp] theorem runAttest_pending_rel (x : Entry) (n : Nat) (s : State) : ∀ ρ, ((runAttest x n s).1.release ρ).pending = ρ.pending := by intro ρ; unfold runAttest; (repeat' split) <;> (first | (simp only [signIterMax_pending, Res.stop_release, id]; done) | with_reducible rfl | (simp_all; done))
theorem execAttest_pending (e : Nat) (fault : Bool) (s : State) : ∃ τ, execAttest e fault s = .next τ ∧ τ.pending = s.pending := by refine ⟨_, rfl, ?_⟩; simp only [managerRow_pending, runAttest_pending, runAttest_pending_rel, implies_true]
@[simp] theorem advanceToExpiry_pending (e : Nat) (s : State) : (advanceToExpiry e s).pending = s.pending := by simp only [advanceToExpiry, ite_pending, ite_self]
@[simp] theorem expireSlot_pending (h : Nat) (v : Slot) (s : State) : (expireSlot h v s).pending = s.pending := by simp only [expireSlot, updSlot_pending, appendArch_pending, eraseSlot_pending, endHold_pending, ite_pending, ite_self]
theorem execKeyExpiry_pending (h : Nat) (s : State) : ∃ τ, execKeyExpiry h s = .next τ ∧ τ.pending = s.pending := by refine ⟨_, rfl, ?_⟩; (repeat' split) <;> (first | (simp only [advanceToExpiry_pending, expireSlot_pending]; done) | with_reducible rfl | (simp_all; done))
theorem execMaskRefresh_pending (h : Nat) (s : State) : ∃ τ, execMaskRefresh h s = .next τ ∧ τ.pending = s.pending := by refine ⟨_, rfl, ?_⟩; (repeat' split) <;> (first | (simp only [refreshSlot_pending, advanceTo_pending]; done) | with_reducible rfl | (simp_all; done))
@[simp] theorem eraseDone_pending (s : State) : (eraseDone s).pending = s.pending := by simp only [eraseDone, drawOrFree_pending, drawPass_pending, ite_pending, ite_self]
theorem execEraseOverwriteDone_pending (s : State) : ∃ τ, execEraseOverwriteDone s = .next τ ∧ τ.pending = s.pending := by refine ⟨_, rfl, ?_⟩; (repeat' split) <;> (first | (simp only [eraseDone_pending]; done) | with_reducible rfl | (simp_all; done))
@[simp] theorem askFill_pending (s : State) : (askFill s).pending = s.pending := by unfold askFill; (repeat' split) <;> (first | (simp only [draw_pending]; done) | with_reducible rfl | (simp_all; done))
@[simp] theorem endFillStep_pending (s : State) : (endFillStep s).pending = s.pending := by simp only [endFillStep, dropSecret_pending]
@[simp] theorem startFill_pending (s : State) : (startFill s).pending = s.pending := by simp only [startFill, setObj_pending, putSlot_pending, tookHandle_pending, askFill_pending, ite_pending, ite_self]
@[simp] theorem fillStartRule_pending_act (s : State) : ∀ τ, ((fillStartRule s).act τ).pending = τ.pending := by intro τ; unfold fillStartRule; dsimp only; (repeat' split) <;> (first | (simp only [startFill_pending]; done) | with_reducible rfl | (simp_all; done))
@[simp] theorem fillStartRule_pending_first (s : State) : ∀ τ, ((fillStartRule s).first τ).1.pending = τ.pending := by simp [fillStartRule]
theorem execKregFillStart_pending (c : Caller) (data : Bytes) (s : State) : ∃ τ, execKregFillStart c data s = .next τ ∧ τ.pending = s.pending := by refine ⟨_, rfl, ?_⟩; simp only [writeAccess_pending, fillStartRule_pending_act, fillStartRule_pending_first, implies_true]
@[simp] theorem failFill_pending (s : State) : (failFill s).pending = s.pending := by unfold failFill; (repeat' split) <;> (first | (simp only [endFillStep_pending, setObj_pending, freeSlot_pending]; done) | with_reducible rfl | (simp_all; done))
@[simp] theorem finishFill_pending (f : Fill) (s : State) : (finishFill f s).pending = s.pending := by unfold finishFill; (repeat' split) <;> (first | (simp only [failFill_pending, appendArch_pending, updSlot_pending, setObj_pending, ite_pending, ite_self]; done) | with_reducible rfl | (simp_all; done))
@[simp] theorem addComponent_pending (officer : Nat) (c : Bytes) (s : State) : (addComponent officer c s).pending = s.pending := by unfold addComponent; (repeat' split) <;> (first | (simp only [updSlot_pending, finishFill_pending, ite_pending, ite_self]; done) | with_reducible rfl | (simp_all; done))
theorem execFillTimeout_pending (s : State) : ∃ τ, execFillTimeout s = .next τ ∧ τ.pending = s.pending := by refine ⟨_, rfl, ?_⟩; (repeat' split) <;> (first | (simp only [failFill_pending, advanceTo_pending]; done) | with_reducible rfl | (simp_all; done))
@[simp] theorem putLoose_pending (a : Nat) (b : Byte) (s : State) : (putLoose a b s).pending = s.pending := by simp only [putLoose]
@[simp] theorem putDirByte_pending (h : Nat) (o : Nat) (b : Byte) (s : State) : (putDirByte h o b s).pending = s.pending := by unfold putDirByte; dsimp only; (repeat' split) <;> (first | (simp only; done) | with_reducible rfl | (simp_all; done))
@[simp] theorem putUnitByte_pending (i : Nat) (b : Byte) (s : State) : (putUnitByte i b s).pending = s.pending := by unfold putUnitByte; (repeat' split) <;> (first | (simp only [putLoose_pending]; done) | with_reducible rfl | (simp_all; done))
@[simp] theorem putKregByte_pending (a : Nat) (b : Byte) (s : State) : (putKregByte a b s).pending = s.pending := by simp only [putKregByte, putDirByte_pending, putUnitByte_pending, ite_pending, ite_self]
@[simp] theorem putTagByte_pending (a : Nat) (b : Byte) (s : State) : (putTagByte a b s).pending = s.pending := by simp only [putTagByte, tagOnly_pending]
@[simp] theorem shiftOut_pending (b : Bytes) (s : State) : (shiftOut b s).pending = s.pending := by simp only [shiftOut, emit_pending]
@[simp] theorem putAll_pending (f : Nat → Byte → State → State) (a : Nat) (a2 : Bytes) (a3 : State) (h0 : ∀ v0 v1 τ, (f v0 v1 τ).pending = τ.pending) : (putAll f a a2 a3).pending = a3.pending := by
  induction a2 generalizing a a3 with
  | nil => rfl
  | cons b r ih => rw [putAll, ih, h0]
@[simp] theorem putRaw_pending (a : Nat) (b : Byte) (s : State) : (putRaw a b s).pending = s.pending := by simp only [putRaw, memWrite_pending]
@[simp] theorem masterRead_pending (addr : Nat) (len : Nat) (s : State) : (masterRead addr len s).pending = s.pending := by unfold masterRead; dsimp only; (repeat' split) <;> (first | (simp only [shiftOut_pending, refuse_pending]; done) | with_reducible rfl | (simp_all; done))
@[simp] theorem masterWrite_pending (addr : Nat) (b : Bytes) (s : State) : (masterWrite addr b s).pending = s.pending := by unfold masterWrite; dsimp only; (repeat' split) <;> (first | (simp only [refuse_pending, memWrite_pending]; done) | with_reducible rfl | (simp_all; done))
@[simp] theorem debugActs_pending (act : DebugAct) (addr : Nat) (b : Bytes) (s : State) : (debugActs act addr b s).pending = s.pending := by unfold debugActs; (repeat' split) <;> (first | (simp only [masterRead_pending, masterWrite_pending, shiftOut_pending, putAll_pending, putRaw_pending, putTagByte_pending, putKregByte_pending, usedFree_pending, implies_true]; done) | with_reducible rfl | (simp_all; done))
@[simp] theorem setCore_pending (c : Core) (s : State) : (setCore c s).pending = s.pending := by simp only [setCore]
@[simp] theorem refuseAll_pending (l : List Refused) (s : State) : (refuseAll l s).pending = s.pending := by unfold refuseAll; (repeat' split) <;> (first | (simp only [refuse_pending, implies_true, ite_pending, ite_self]; done) | with_reducible rfl | (simp_all; done))
@[simp] theorem containCell_pending (n : Nat) (s : State) : (containCell n s).pending = s.pending := by simp only [containCell, fenceTenant_pending, ite_pending, ite_self]
@[simp] theorem excCall_pending (n : Nat) (code : Nat) (epc : BitVec 24) (addr : Word) (c : Core) (s : State) : (excCall n code epc addr c s).pending = s.pending := by simp only [excCall, setObj_pending, containCell_pending, endCall_pending, bump_pending]
@[simp] theorem budgetCall_pending (n : Nat) (s : State) : (budgetCall n s).pending = s.pending := by simp only [budgetCall, endCall_pending, bump_pending]
@[simp] theorem takeExc_pending (code : Nat) (epc : BitVec 24) (addr : Word) (s : State) : (takeExc code epc addr s).pending = s.pending := by unfold takeExc; (repeat' split) <;> (first | (simp only [setCore_pending, budgetCall_pending, excCall_pending, ite_pending, ite_self]; done) | with_reducible rfl | (simp_all; done))
@[simp] theorem dWrite_pending (c : Core) (f : Nat) (b : Bytes) (s : State) : (dWrite c f b s).1.pending = s.pending := by simp only [dWrite, memWrite_pending, ite_pending, ite_self]
@[simp] theorem spendBudget_pending (s : State) : (spendBudget s).pending = s.pending := by simp only [spendBudget, ite_pending, ite_self]
@[simp] theorem coreRow_pending (f : State → State) (s : State) (h0 : ∀ τ, (f τ).pending = τ.pending) : (coreRow f s).pending = s.pending := by unfold coreRow; dsimp only; (repeat' split) <;> (first | (simp only [setCore_pending, takeExc_pending, refuseAll_pending]; done) | with_reducible rfl | (simp_all; done))
@[simp] theorem coreOnly_pending (f : Core → Core) (s : State) : (coreOnly f s).pending = s.pending := by simp only [coreOnly, setCore_pending]
@[simp] theorem coreMay_pending (f : Core → Exc ⊕ Core) (s : State) : (coreMay f s).pending = s.pending := by unfold coreMay; (repeat' split) <;> (first | (simp only [takeExc_pending, setCore_pending]; done) | with_reducible rfl | (simp_all; done))
@[simp] theorem faultAt_pending (x : Exc) (s : State) : (faultAt x s).pending = s.pending := by simp only [faultAt, takeExc_pending]
@[simp] theorem illegal_pending (s : State) : (illegal s).pending = s.pending := by simp only [illegal, takeExc_pending]
@[simp] theorem breakAt_pending (budget : Bool) (s : State) : (breakAt budget s).pending = s.pending := by simp only [breakAt, takeExc_pending, setCore_pending, ite_pending, ite_self]
@[simp] theorem aluRow_pending (rd : BitVec 4) (f : Core → AluOut) (s : State) : (aluRow rd f s).pending = s.pending := by simp only [aluRow, coreRow_pending, coreOnly_pending, implies_true]
@[simp] theorem movRow_pending (rd : BitVec 4) (f : Core → Word) (s : State) : (movRow rd f s).pending = s.pending := by simp only [movRow, coreRow_pending, coreOnly_pending, implies_true]
@[simp] theorem cmpRow_pending (f : Core → AluOut) (s : State) : (cmpRow f s).pending = s.pending := by simp only [cmpRow, coreRow_pending, coreOnly_pending, implies_true]
theorem execAdd_pending (rd : BitVec 4) (rs1 : BitVec 4) (rs2 : BitVec 4) (s : State) : ∃ τ, execAdd rd rs1 rs2 s = .next τ ∧ τ.pending = s.pending := by refine ⟨_, rfl, ?_⟩; simp only [aluRow_pending]
theorem execSub_pending (rd : BitVec 4) (rs1 : BitVec 4) (rs2 : BitVec 4) (s : State) : ∃ τ, execSub rd rs1 rs2 s = .next τ ∧ τ.pending = s.pending := by refine ⟨_, rfl, ?_⟩; simp only [aluRow_pending]
theorem execAnd_pending (rd : BitVec 4) (rs1 : BitVec 4) (rs2 : BitVec 4) (s : State) : ∃ τ, execAnd rd rs1 rs2 s = .next τ ∧ τ.pending = s.pending := by refine ⟨_, rfl, ?_⟩; simp only [aluRow_pending]
theorem execOr_pending (rd : BitVec 4) (rs1 : BitVec 4) (rs2 : BitVec 4) (s : State) : ∃ τ, execOr rd rs1 rs2 s = .next τ ∧ τ.pending = s.pending := by refine ⟨_, rfl, ?_⟩; simp only [aluRow_pending]
theorem execXor_pending (rd : BitVec 4) (rs1 : BitVec 4) (rs2 : BitVec 4) (s : State) : ∃ τ, execXor rd rs1 rs2 s = .next τ ∧ τ.pending = s.pending := by refine ⟨_, rfl, ?_⟩; simp only [aluRow_pending]
@[simp] theorem shiftRow_pending (rd : BitVec 4) (rs1 : BitVec 4) (rs2 : BitVec 4) (f : Word → Nat → Word) (s : State) : (shiftRow rd rs1 rs2 f s).pending = s.pending := by simp only [shiftRow, coreRow_pending, setCore_pending, implies_true]
theorem execShl_pending (rd : BitVec 4) (rs1 : BitVec 4) (rs2 : BitVec 4) (s : State) : ∃ τ, execShl rd rs1 rs2 s = .next τ ∧ τ.pending = s.pending := by refine ⟨_, rfl, ?_⟩; simp only [shiftRow_pending]
theorem execShr_pending (rd : BitVec 4) (rs1 : BitVec 4) (rs2 : BitVec 4) (s : State) : ∃ τ, execShr rd rs1 rs2 s = .next τ ∧ τ.pending = s.pending := by refine ⟨_, rfl, ?_⟩; simp only [shiftRow_pending]
theorem execSar_pending (rd : BitVec 4) (rs1 : BitVec 4) (rs2 : BitVec 4) (s : State) : ∃ τ, execSar rd rs1 rs2 s = .next τ ∧ τ.pending = s.pending := by refine ⟨_, rfl, ?_⟩; simp only [shiftRow_pending]
theorem execMul_pending (rd : BitVec 4) (rs1 : BitVec 4) (rs2 : BitVec 4) (s : State) : ∃ τ, execMul rd rs1 rs2 s = .next τ ∧ τ.pending = s.pending := by refine ⟨_, rfl, ?_⟩; simp only [movRow_pending]
theorem execMulhu_pending (rd : BitVec 4) (rs1 : BitVec 4) (rs2 : BitVec 4) (s : State) : ∃ τ, execMulhu rd rs1 rs2 s = .next τ ∧ τ.pending = s.pending := by refine ⟨_, rfl, ?_⟩; simp only [movRow_pending]
theorem execMulhs_pending (rd : BitVec 4) (rs1 : BitVec 4) (rs2 : BitVec 4) (s : State) : ∃ τ, execMulhs rd rs1 rs2 s = .next τ ∧ τ.pending = s.pending := by refine ⟨_, rfl, ?_⟩; simp only [movRow_pending]
theorem execCmp_pending (rs1 : BitVec 4) (rs2 : BitVec 4) (s : State) : ∃ τ, execCmp rs1 rs2 s = .next τ ∧ τ.pending = s.pending := by refine ⟨_, rfl, ?_⟩; simp only [cmpRow_pending]
theorem execAddc_pending (rd : BitVec 4) (rs1 : BitVec 4) (rs2 : BitVec 4) (s : State) : ∃ τ, execAddc rd rs1 rs2 s = .next τ ∧ τ.pending = s.pending := by refine ⟨_, rfl, ?_⟩; simp only [aluRow_pending]
theorem execSubc_pending (rd : BitVec 4) (rs1 : BitVec 4) (rs2 : BitVec 4) (s : State) : ∃ τ, execSubc rd rs1 rs2 s = .next τ ∧ τ.pending = s.pending := by refine ⟨_, rfl, ?_⟩; simp only [aluRow_pending]
theorem execAddi_pending (rd : BitVec 4) (rs1 : BitVec 4) (imm : BitVec 18) (s : State) : ∃ τ, execAddi rd rs1 imm s = .next τ ∧ τ.pending = s.pending := by refine ⟨_, rfl, ?_⟩; simp only [movRow_pending]
theorem execOri_pending (rd : BitVec 4) (rs1 : BitVec 4) (imm : BitVec 18) (s : State) : ∃ τ, execOri rd rs1 imm s = .next τ ∧ τ.pending = s.pending := by refine ⟨_, rfl, ?_⟩; simp only [movRow_pending]
theorem execXori_pending (rd : BitVec 4) (rs1 : BitVec 4) (imm : BitVec 18) (s : State) : ∃ τ, execXori rd rs1 imm s = .next τ ∧ τ.pending = s.pending := by refine ⟨_, rfl, ?_⟩; simp only [movRow_pending]
theorem execAndi_pending (rd : BitVec 4) (rs1 : BitVec 4) (imm : BitVec 18) (s : State) : ∃ τ, execAndi rd rs1 imm s = .next τ ∧ τ.pending = s.pending := by refine ⟨_, rfl, ?_⟩; simp only [movRow_pending]
theorem execLhi_pending (rd : BitVec 4) (imm : BitVec 18) (s : State) : ∃ τ, execLhi rd imm s = .next τ ∧ τ.pending = s.pending := by refine ⟨_, rfl, ?_⟩; simp only [movRow_pending]
theorem execCmpi_pending (rs1 : BitVec 4) (imm : BitVec 18) (s : State) : ∃ τ, execCmpi rs1 imm s = .next τ ∧ τ.pending = s.pending := by refine ⟨_, rfl, ?_⟩; simp only [cmpRow_pending]
@[simp] theorem loadRow_pending (rd : BitVec 4) (rs1 : BitVec 4) (imm : BitVec 18) (len : Nat) (s : State) : (loadRow rd rs1 imm len s).pending = s.pending := by unfold loadRow; dsimp only; (repeat' split) <;> (first | (simp only [coreRow_pending, faultAt_pending, refuseAll_pending, setCore_pending, implies_true, ite_pending, ite_self]; done) | with_reducible rfl | (apply coreRow_pending <;> intros <;> (try dsimp only) <;> (repeat' split) <;> (first | (simp only [faultAt_pending, refuseAll_pending, setCore_pending]; done) | with_reducible rfl | (simp_all; done))))
@[simp] theorem storeRow_pending (rd : BitVec 4) (rs1 : BitVec 4) (imm : BitVec 18) (len : Nat) (s : State) : (storeRow rd rs1 imm len s).pending = s.pending := by unfold storeRow; dsimp only; (repeat' split) <;> (first | (simp only [coreRow_pending, faultAt_pending, dWrite_pending, refuseAll_pending, setCore_pending, implies_true, ite_pending, ite_self]; done) | with_reducible rfl | (apply coreRow_pending <;> intros <;> (try dsimp only) <;> (repeat' split) <;> (first | (simp only [faultAt_pending, dWrite_pending, refuseAll_pending, setCore_pending]; done) | with_reducible rfl | (simp_all; done))))
theorem execLd_pending (rd : BitVec 4) (rs1 : BitVec 4) (imm : BitVec 18) (s : State) : ∃ τ, execLd rd rs1 imm s = .next τ ∧ τ.pending = s.pending := by refine ⟨_, rfl, ?_⟩; simp only [loadRow_pending]
theorem execLdh_pending (rd : BitVec 4) (rs1 : BitVec 4) (imm : BitVec 18) (s : State) : ∃ τ, execLdh rd rs1 imm s = .next τ ∧ τ.pending = s.pending := by refine ⟨_, rfl, ?_⟩; simp only [loadRow_pending]
theorem execLdb_pending (rd : BitVec 4) (rs1 : BitVec 4) (imm : BitVec 18) (s : State) : ∃ τ, execLdb rd rs1 imm s = .next τ ∧ τ.pending = s.pending := by refine ⟨_, rfl, ?_⟩; simp only [loadRow_pending]
theorem execSt_pending (rd : BitVec 4) (rs1 : BitVec 4) (imm : BitVec 18) (s : State) : ∃ τ, execSt rd rs1 imm s = .next τ ∧ τ.pending = s.pending := by refine ⟨_, rfl, ?_⟩; simp only [storeRow_pending]
theorem execSth_pending (rd : BitVec 4) (rs1 : BitVec 4) (imm : BitVec 18) (s : State) : ∃ τ, execSth rd rs1 imm s = .next τ ∧ τ.pending = s.pending := by refine ⟨_, rfl, ?_⟩; simp only [storeRow_pending]
theorem execStb_pending (rd : BitVec 4) (rs1 : BitVec 4) (imm : BitVec 18) (s : State) : ∃ τ, execStb rd rs1 imm s = .next τ ∧ τ.pending = s.pending := by refine ⟨_, rfl, ?_⟩; simp only [storeRow_pending]
theorem execLdi_pending (rd : BitVec 4) (rs1 : BitVec 4) (imm : BitVec 18) (s : State) : ∃ τ, execLdi rd rs1 imm s = .next τ ∧ τ.pending = s.pending := by refine ⟨_, rfl, ?_⟩; simp only [coreRow_pending, faultAt_pending, refuseAll_pending, setCore_pending, implies_true, ite_pending, ite_self]
theorem execBr_pending (cond : BitVec 4) (off : BitVec 22) (s : State) : ∃ τ, execBr cond off s = .next τ ∧ τ.pending = s.pending := by refine ⟨_, rfl, ?_⟩; apply coreRow_pending <;> intros <;> (try dsimp only) <;> (repeat' split) <;> (first | (simp only [illegal_pending, setCore_pending]; done) | with_reducible rfl | (simp_all; done))
theorem execJmp_pending (off : BitVec 26) (s : State) : ∃ τ, execJmp off s = .next τ ∧ τ.pending = s.pending := by refine ⟨_, rfl, ?_⟩; simp only [coreRow_pending, coreOnly_pending, implies_true]
theorem execCall_pending (off : BitVec 26) (s : State) : ∃ τ, execCall off s = .next τ ∧ τ.pending = s.pending := by refine ⟨_, rfl, ?_⟩; simp only [coreRow_pending, coreOnly_pending, implies_true]
theorem execJr_pending (rs1 : BitVec 4) (s : State) : ∃ τ, execJr rs1 s = .next τ ∧ τ.pending = s.pending := by refine ⟨_, rfl, ?_⟩; simp only [coreRow_pending, coreOnly_pending, implies_true]
theorem execCallr_pending (rs1 : BitVec 4) (s : State) : ∃ τ, execCallr rs1 s = .next τ ∧ τ.pending = s.pending := by refine ⟨_, rfl, ?_⟩; simp only [coreRow_pending, coreOnly_pending, implies_true]
theorem execBrpt_pending (rs1 : BitVec 4) (imm : BitVec 18) (s : State) : ∃ τ, execBrpt rs1 imm s = .next τ ∧ τ.pending = s.pending := by refine ⟨_, rfl, ?_⟩; apply coreRow_pending <;> intros <;> (try dsimp only) <;> (repeat' split) <;> (first | (simp only [faultAt_pending, setCore_pending]; done) | with_reducible rfl | (simp_all; done))
theorem execBlockRepeatEnd_pending (s : State) : ∃ τ, execBlockRepeatEnd s = .next τ ∧ τ.pending = s.pending := by refine ⟨_, rfl, ?_⟩; simp only [coreOnly_pending]
theorem execBrend_pending (s : State) : ∃ τ, execBrend s = .next τ ∧ τ.pending = s.pending := by refine ⟨_, rfl, ?_⟩; simp only [coreRow_pending, coreOnly_pending, implies_true]
@[simp] theorem portRead_pending (p : Nat) (s : State) : (portRead p s).2.pending = s.pending := by unfold portRead; (repeat' split) <;> (first | (simp only [draw_pending, setCore_pending, usedFree_pending]; done) | with_reducible rfl | (simp_all; done))
theorem execInPort_pending (rd : BitVec 4) (rs1 : BitVec 4) (imm : BitVec 18) (s : State) : ∃ τ, execInPort rd rs1 imm s = .next τ ∧ τ.pending = s.pending := by refine ⟨_, rfl, ?_⟩; simp only [coreRow_pending, faultAt_pending, portRead_pending, setCore_pending, implies_true, ite_pending, ite_self]
theorem execOutPort_pending (_rd : BitVec 4) (rs1 : BitVec 4) (imm : BitVec 18) (s : State) : ∃ τ, execOutPort _rd rs1 imm s = .next τ ∧ τ.pending = s.pending := by refine ⟨_, rfl, ?_⟩; simp only [coreRow_pending, faultAt_pending, setCore_pending, implies_true, ite_pending, ite_self]
theorem execMfc_pending (rd : BitVec 4) (imm : BitVec 18) (s : State) : ∃ τ, execMfc rd imm s = .next τ ∧ τ.pending = s.pending := by refine ⟨_, rfl, ?_⟩; simp only [coreRow_pending, coreMay_pending, implies_true]
theorem execMtc_pending (rs1 : BitVec 4) (imm : BitVec 18) (s : State) : ∃ τ, execMtc rs1 imm s = .next τ ∧ τ.pending = s.pending := by refine ⟨_, rfl, ?_⟩; simp only [coreRow_pending, coreMay_pending, implies_true]
theorem execFeat_pending (rd : BitVec 4) (imm : BitVec 18) (s : State) : ∃ τ, execFeat rd imm s = .next τ ∧ τ.pending = s.pending := by refine ⟨_, rfl, ?_⟩; simp only [coreRow_pending, coreMay_pending, implies_true]
theorem execNop_pending (s : State) : ∃ τ, execNop s = .next τ ∧ τ.pending = s.pending := by refine ⟨_, rfl, ?_⟩; simp only [coreRow_pending, coreOnly_pending, implies_true]
theorem execEret_pending (s : State) : ∃ τ, execEret s = .next τ ∧ τ.pending = s.pending := by refine ⟨_, rfl, ?_⟩; simp only [coreRow_pending, coreMay_pending, implies_true]
theorem execWfi_pending (s : State) : ∃ τ, execWfi s = .next τ ∧ τ.pending = s.pending := by refine ⟨_, rfl, ?_⟩; simp only [coreRow_pending, coreMay_pending, implies_true]
theorem execFence_pending (s : State) : ∃ τ, execFence s = .next τ ∧ τ.pending = s.pending := by refine ⟨_, rfl, ?_⟩; simp only [coreRow_pending, coreMay_pending, implies_true]
theorem execIllegal_pending (w : Word) (s : State) : ∃ τ, execIllegal w s = .next τ ∧ τ.pending = s.pending := by refine ⟨_, rfl, ?_⟩; simp only [coreRow_pending, illegal_pending, implies_true, ite_pending, ite_self]
theorem execInterrupt_pending (s : State) : ∃ τ, execInterrupt s = .next τ ∧ τ.pending = s.pending := by refine ⟨_, rfl, ?_⟩; simp only [wakeCore_pending, takeExc_pending, setCore_pending, ite_pending, ite_self]
theorem execBudget_pending (s : State) : ∃ τ, execBudget s = .next τ ∧ τ.pending = s.pending := by refine ⟨_, rfl, ?_⟩; simp only [takeExc_pending, setCore_pending, ite_pending, ite_self]
@[simp] theorem strDone_pending (r : List Refused) (s : State) : (strDone r s).pending = s.pending := by simp only [strDone, refuseAll_pending, setCore_pending]
@[simp] theorem strElem_pending {op : StrOp} {n : Nat} {dir : Bool} {s t : State} {r : List Refused} (h : strElem op n dir s = .done t r) :
    t.pending = s.pending := by
  unfold strElem at h
  dsimp only at h
  (repeat' split at h) <;> first | (cases h; done) | (injection h with h1 h2; subst h1; simp)
@[simp] theorem strOne_pending (op : StrOp) (n : Nat) (dir : Bool) (halt : BitVec 4) (s : State) : (strOne op n dir halt s).1.pending = s.pending := by
  unfold strOne
  split
  · simp
  · rfl
  · rename_i h; dsimp only; split <;> simp [strElem_pending h]
@[simp] theorem strLoop_pending (op : StrOp) (n : Nat) (dir : Bool) (halt : BitVec 4) (brk : Option ElemBreak) (a5 : Nat) (a6 : Nat) (a7 : List Refused) (a8 : State) : (strLoop op n dir halt brk a5 a6 a7 a8).pending = a8.pending := by
  induction a5 generalizing a6 a7 a8 with
  | zero => simp [strLoop, strDone]
  | succ k ih => rw [strLoop]; split
                 · simp
                 · dsimp only; split
                   · simp
                   · rw [ih]; simp
@[simp] theorem strRow_pending (op : StrOp) (rpt : Bool) (sz : BitVec 2) (dir : Bool) (halt : BitVec 4) (brk : Option ElemBreak) (s : State) : (strRow op rpt sz dir halt brk s).pending = s.pending := by
  unfold strRow
  apply coreRow_pending
  intro τ
  dsimp only
  split
  · simp
  · split
    · simp
    · split
      · simp
      · rfl
      · rename_i h; rw [strDone_pending, strElem_pending h]
theorem execMovs_pending (rpt : Bool) (sz : BitVec 2) (dir : Bool) (halt : BitVec 4) (brk : Option ElemBreak) (s : State) : ∃ τ, execMovs rpt sz dir halt brk s = .next τ ∧ τ.pending = s.pending := by refine ⟨_, rfl, ?_⟩; simp only [strRow_pending]
theorem execCmps_pending (rpt : Bool) (sz : BitVec 2) (dir : Bool) (halt : BitVec 4) (brk : Option ElemBreak) (s : State) : ∃ τ, execCmps rpt sz dir halt brk s = .next τ ∧ τ.pending = s.pending := by refine ⟨_, rfl, ?_⟩; simp only [strRow_pending]
theorem execScas_pending (rpt : Bool) (sz : BitVec 2) (dir : Bool) (halt : BitVec 4) (brk : Option ElemBreak) (s : State) : ∃ τ, execScas rpt sz dir halt brk s = .next τ ∧ τ.pending = s.pending := by refine ⟨_, rfl, ?_⟩; simp only [strRow_pending]
theorem execFills_pending (rpt : Bool) (sz : BitVec 2) (dir : Bool) (halt : BitVec 4) (brk : Option ElemBreak) (s : State) : ∃ τ, execFills rpt sz dir halt brk s = .next τ ∧ τ.pending = s.pending := by refine ⟨_, rfl, ?_⟩; simp only [strRow_pending]
theorem execIns_pending (rpt : Bool) (sz : BitVec 2) (dir : Bool) (halt : BitVec 4) (brk : Option ElemBreak) (s : State) : ∃ τ, execIns rpt sz dir halt brk s = .next τ ∧ τ.pending = s.pending := by refine ⟨_, rfl, ?_⟩; simp only [strRow_pending]
theorem execOuts_pending (rpt : Bool) (sz : BitVec 2) (dir : Bool) (halt : BitVec 4) (brk : Option ElemBreak) (s : State) : ∃ τ, execOuts rpt sz dir halt brk s = .next τ ∧ τ.pending = s.pending := by refine ⟨_, rfl, ?_⟩; simp only [strRow_pending]
@[simp] theorem vecRow_pending (ok : Bool) (vd : BitVec 3) (k : BitVec 3) (z : Bool) (w : Nat) (f : Core → Nat → Nat) (s : State) : (vecRow ok vd k z w f s).pending = s.pending := by simp only [vecRow, coreRow_pending, coreOnly_pending, illegal_pending, implies_true, ite_pending, ite_self]
theorem execVadd_pending (vd : BitVec 3) (va : BitVec 3) (vb : BitVec 3) (k : BitVec 3) (ew : BitVec 2) (z : Bool) (s : State) : ∃ τ, execVadd vd va vb k ew z s = .next τ ∧ τ.pending = s.pending := by refine ⟨_, rfl, ?_⟩; simp only [vecRow_pending]
theorem execVsub_pending (vd : BitVec 3) (va : BitVec 3) (vb : BitVec 3) (k : BitVec 3) (ew : BitVec 2) (z : Bool) (s : State) : ∃ τ, execVsub vd va vb k ew z s = .next τ ∧ τ.pending = s.pending := by refine ⟨_, rfl, ?_⟩; simp only [vecRow_pending]
theorem execVmul_pending (vd : BitVec 3) (va : BitVec 3) (vb : BitVec 3) (k : BitVec 3) (ew : BitVec 2) (z : Bool) (sgn : Bool) (s : State) : ∃ τ, execVmul vd va vb k ew z sgn s = .next τ ∧ τ.pending = s.pending := by refine ⟨_, rfl, ?_⟩; simp only [vecRow_pending]
theorem execVmulh_pending (vd : BitVec 3) (va : BitVec 3) (vb : BitVec 3) (k : BitVec 3) (ew : BitVec 2) (z : Bool) (sgn : Bool) (s : State) : ∃ τ, execVmulh vd va vb k ew z sgn s = .next τ ∧ τ.pending = s.pending := by refine ⟨_, rfl, ?_⟩; simp only [vecRow_pending]
theorem execVwmulLo_pending (vd : BitVec 3) (va : BitVec 3) (vb : BitVec 3) (k : BitVec 3) (ew : BitVec 2) (z : Bool) (sgn : Bool) (s : State) : ∃ τ, execVwmulLo vd va vb k ew z sgn s = .next τ ∧ τ.pending = s.pending := by refine ⟨_, rfl, ?_⟩; simp only [vecRow_pending]
theorem execVwmulHi_pending (vd : BitVec 3) (va : BitVec 3) (vb : BitVec 3) (k : BitVec 3) (ew : BitVec 2) (z : Bool) (sgn : Bool) (s : State) : ∃ τ, execVwmulHi vd va vb k ew z sgn s = .next τ ∧ τ.pending = s.pending := by refine ⟨_, rfl, ?_⟩; simp only [vecRow_pending]
theorem execVdot4b_pending (vd : BitVec 3) (va : BitVec 3) (vb : BitVec 3) (k : BitVec 3) (ew : BitVec 2) (z : Bool) (sgn : Bool) (s : State) : ∃ τ, execVdot4b vd va vb k ew z sgn s = .next τ ∧ τ.pending = s.pending := by refine ⟨_, rfl, ?_⟩; simp only [vecRow_pending]
theorem execVdot2h_pending (vd : BitVec 3) (va : BitVec 3) (vb : BitVec 3) (k : BitVec 3) (ew : BitVec 2) (z : Bool) (sgn : Bool) (s : State) : ∃ τ, execVdot2h vd va vb k ew z sgn s = .next τ ∧ τ.pending = s.pending := by refine ⟨_, rfl, ?_⟩; simp only [vecRow_pending]
theorem execVdot2hqLo_pending (vd : BitVec 3) (va : BitVec 3) (vb : BitVec 3) (k : BitVec 3) (ew : BitVec 2) (z : Bool) (sgn : Bool) (s : State) : ∃ τ, execVdot2hqLo vd va vb k ew z sgn s = .next τ ∧ τ.pending = s.pending := by refine ⟨_, rfl, ?_⟩; simp only [vecRow_pending]
theorem execVdot2hqHi_pending (vd : BitVec 3) (va : BitVec 3) (vb : BitVec 3) (k : BitVec 3) (ew : BitVec 2) (z : Bool) (sgn : Bool) (s : State) : ∃ τ, execVdot2hqHi vd va vb k ew z sgn s = .next τ ∧ τ.pending = s.pending := by refine ⟨_, rfl, ?_⟩; simp only [vecRow_pending]
theorem execVmont_pending (vd : BitVec 3) (va : BitVec 3) (vb : BitVec 3) (k : BitVec 3) (ew : BitVec 2) (z : Bool) (s : State) : ∃ τ, execVmont vd va vb k ew z s = .next τ ∧ τ.pending = s.pending := by refine ⟨_, rfl, ?_⟩; simp only [coreRow_pending, illegal_pending, faultAt_pending, coreOnly_pending, implies_true, ite_pending, ite_self]
@[simp] theorem vBitRow_pending (vd : BitVec 3) (va : BitVec 3) (vb : BitVec 3) (k : BitVec 3) (ew : BitVec 2) (z : Bool) (f : BitVec 512 → BitVec 512 → BitVec 512) (s : State) : (vBitRow vd va vb k ew z f s).pending = s.pending := by simp only [vBitRow, vecRow_pending]
theorem execVand_pending (vd : BitVec 3) (va : BitVec 3) (vb : BitVec 3) (k : BitVec 3) (ew : BitVec 2) (z : Bool) (s : State) : ∃ τ, execVand vd va vb k ew z s = .next τ ∧ τ.pending = s.pending := by refine ⟨_, rfl, ?_⟩; simp only [vBitRow_pending]
theorem execVor_pending (vd : BitVec 3) (va : BitVec 3) (vb : BitVec 3) (k : BitVec 3) (ew : BitVec 2) (z : Bool) (s : State) : ∃ τ, execVor vd va vb k ew z s = .next τ ∧ τ.pending = s.pending := by refine ⟨_, rfl, ?_⟩; simp only [vBitRow_pending]
theorem execVxor_pending (vd : BitVec 3) (va : BitVec 3) (vb : BitVec 3) (k : BitVec 3) (ew : BitVec 2) (z : Bool) (s : State) : ∃ τ, execVxor vd va vb k ew z s = .next τ ∧ τ.pending = s.pending := by refine ⟨_, rfl, ?_⟩; simp only [vBitRow_pending]
theorem execVandn_pending (vd : BitVec 3) (va : BitVec 3) (vb : BitVec 3) (k : BitVec 3) (ew : BitVec 2) (z : Bool) (s : State) : ∃ τ, execVandn vd va vb k ew z s = .next τ ∧ τ.pending = s.pending := by refine ⟨_, rfl, ?_⟩; simp only [vBitRow_pending]
theorem execVshl_pending (vd : BitVec 3) (va : BitVec 3) (vb : BitVec 3) (k : BitVec 3) (ew : BitVec 2) (z : Bool) (s : State) : ∃ τ, execVshl vd va vb k ew z s = .next τ ∧ τ.pending = s.pending := by refine ⟨_, rfl, ?_⟩; simp only [vecRow_pending]
theorem execVshr_pending (vd : BitVec 3) (va : BitVec 3) (vb : BitVec 3) (k : BitVec 3) (ew : BitVec 2) (z : Bool) (s : State) : ∃ τ, execVshr vd va vb k ew z s = .next τ ∧ τ.pending = s.pending := by refine ⟨_, rfl, ?_⟩; simp only [vecRow_pending]
theorem execVsar_pending (vd : BitVec 3) (va : BitVec 3) (vb : BitVec 3) (k : BitVec 3) (ew : BitVec 2) (z : Bool) (s : State) : ∃ τ, execVsar vd va vb k ew z s = .next τ ∧ τ.pending = s.pending := by refine ⟨_, rfl, ?_⟩; simp only [vecRow_pending]
@[simp] theorem vCmpRow_pending (kd : BitVec 3) (va : BitVec 3) (vb : BitVec 3) (k : BitVec 3) (ew : BitVec 2) (z : Bool) (sgn : Bool) (f : Int → Int → Bool) (s : State) : (vCmpRow kd va vb k ew z sgn f s).pending = s.pending := by simp only [vCmpRow, coreRow_pending, coreOnly_pending, implies_true]
theorem execVcmpEq_pending (kd : BitVec 3) (va : BitVec 3) (vb : BitVec 3) (k : BitVec 3) (ew : BitVec 2) (z : Bool) (sgn : Bool) (s : State) : ∃ τ, execVcmpEq kd va vb k ew z sgn s = .next τ ∧ τ.pending = s.pending := by refine ⟨_, rfl, ?_⟩; simp only [vCmpRow_pending]
theorem execVcmpNe_pending (kd : BitVec 3) (va : BitVec 3) (vb : BitVec 3) (k : BitVec 3) (ew : BitVec 2) (z : Bool) (sgn : Bool) (s : State) : ∃ τ, execVcmpNe kd va vb k ew z sgn s = .next τ ∧ τ.pending = s.pending := by refine ⟨_, rfl, ?_⟩; simp only [vCmpRow_pending]
theorem execVcmpLt_pending (kd : BitVec 3) (va : BitVec 3) (vb : BitVec 3) (k : BitVec 3) (ew : BitVec 2) (z : Bool) (sgn : Bool) (s : State) : ∃ τ, execVcmpLt kd va vb k ew z sgn s = .next τ ∧ τ.pending = s.pending := by refine ⟨_, rfl, ?_⟩; simp only [vCmpRow_pending]
theorem execVcmpLe_pending (kd : BitVec 3) (va : BitVec 3) (vb : BitVec 3) (k : BitVec 3) (ew : BitVec 2) (z : Bool) (sgn : Bool) (s : State) : ∃ τ, execVcmpLe kd va vb k ew z sgn s = .next τ ∧ τ.pending = s.pending := by refine ⟨_, rfl, ?_⟩; simp only [vCmpRow_pending]
theorem execVbcast_pending (vd : BitVec 3) (ra : BitVec 3) (k : BitVec 3) (ew : BitVec 2) (z : Bool) (s : State) : ∃ τ, execVbcast vd ra k ew z s = .next τ ∧ τ.pending = s.pending := by refine ⟨_, rfl, ?_⟩; simp only [vecRow_pending]
theorem execVextr_pending (rd : BitVec 3) (va : BitVec 3) (i : BitVec 3) (ew : BitVec 2) (s : State) : ∃ τ, execVextr rd va i ew s = .next τ ∧ τ.pending = s.pending := by refine ⟨_, rfl, ?_⟩; simp only [coreRow_pending, coreOnly_pending, implies_true]
theorem execKmov_pending (kd : BitVec 3) (ra : BitVec 3) (s : State) : ∃ τ, execKmov kd ra s = .next τ ∧ τ.pending = s.pending := by refine ⟨_, rfl, ?_⟩; simp only [coreRow_pending, coreMay_pending, implies_true]
theorem execKread_pending (rd : BitVec 3) (ka : BitVec 3) (s : State) : ∃ τ, execKread rd ka s = .next τ ∧ τ.pending = s.pending := by refine ⟨_, rfl, ?_⟩; simp only [coreRow_pending, coreMay_pending, implies_true]
@[simp] theorem maskRow_pending (kd : BitVec 3) (ka : BitVec 3) (kb : BitVec 3) (f : BitVec 64 → BitVec 64 → BitVec 64) (s : State) : (maskRow kd ka kb f s).pending = s.pending := by simp only [maskRow, coreRow_pending, coreOnly_pending, implies_true]
theorem execKand_pending (kd : BitVec 3) (ka : BitVec 3) (kb : BitVec 3) (s : State) : ∃ τ, execKand kd ka kb s = .next τ ∧ τ.pending = s.pending := by refine ⟨_, rfl, ?_⟩; simp only [maskRow_pending]
theorem execKor_pending (kd : BitVec 3) (ka : BitVec 3) (kb : BitVec 3) (s : State) : ∃ τ, execKor kd ka kb s = .next τ ∧ τ.pending = s.pending := by refine ⟨_, rfl, ?_⟩; simp only [maskRow_pending]
theorem execKxor_pending (kd : BitVec 3) (ka : BitVec 3) (kb : BitVec 3) (s : State) : ∃ τ, execKxor kd ka kb s = .next τ ∧ τ.pending = s.pending := by refine ⟨_, rfl, ?_⟩; simp only [maskRow_pending]
theorem execKnot_pending (kd : BitVec 3) (ka : BitVec 3) (s : State) : ∃ τ, execKnot kd ka s = .next τ ∧ τ.pending = s.pending := by refine ⟨_, rfl, ?_⟩; simp only [maskRow_pending]
@[simp] theorem vFault_pending (x : Exc) (s : State) : (vFault x s).pending = s.pending := by simp only [vFault, faultAt_pending, coreOnly_pending]
theorem execVld_pending (vd : BitVec 3) (rs : BitVec 4) (k : BitVec 3) (ew : BitVec 2) (z : Bool) (s : State) : ∃ τ, execVld vd rs k ew z s = .next τ ∧ τ.pending = s.pending := by refine ⟨_, rfl, ?_⟩; apply coreRow_pending <;> intros <;> (try dsimp only) <;> (repeat' split) <;> (first | (simp only [vFault_pending, refuseAll_pending, setCore_pending]; done) | with_reducible rfl | (simp_all; done))
@[simp] theorem vstWrites_pending (c : Core) (w : Nat) (f : Nat) (v : BitVec 512) (k : BitVec 3) (s : State) : (vstWrites c w f v k s).pending = s.pending := by unfold vstWrites; (repeat' split) <;> (first | (simp only [memWrite_pending, implies_true, ite_pending, ite_self]; done) | with_reducible rfl | (simp_all; done))
theorem execVst_pending (vs : BitVec 3) (rs : BitVec 4) (k : BitVec 3) (ew : BitVec 2) (s : State) : ∃ τ, execVst vs rs k ew s = .next τ ∧ τ.pending = s.pending := by refine ⟨_, rfl, ?_⟩; apply coreRow_pending <;> intros <;> (try dsimp only) <;> (repeat' split) <;> (first | (simp only [vFault_pending, refuseAll_pending, setCore_pending, vstWrites_pending]; done) | with_reducible rfl | (simp_all; done))
@[simp] theorem vElems_pending (scatter : Bool) (vd : BitVec 3) (rs : BitVec 4) (idx : BitVec 512) (k : BitVec 3) (z : Bool) (w : Nat) (brk : Option ElemBreak) (a8 : List Nat) (a9 : Nat) (a10 : List Refused) (a11 : State) : (vElems scatter vd rs idx k z w brk a8 a9 a10 a11).pending = a11.pending := by
  induction a8 generalizing a9 a10 a11 with
  | nil => simp [vElems]
  | cons i l ih =>
    rw [vElems]; dsimp only
    (repeat' split) <;> simp [ih]
theorem execVgath_pending (vd : BitVec 3) (rs : BitVec 4) (vi : BitVec 3) (k : BitVec 3) (ew : BitVec 2) (z : Bool) (brk : Option ElemBreak) (s : State) : ∃ τ, execVgath vd rs vi k ew z brk s = .next τ ∧ τ.pending = s.pending := by refine ⟨_, rfl, ?_⟩; simp only [coreRow_pending, vElems_pending, implies_true]
theorem execVscat_pending (vs : BitVec 3) (rs : BitVec 4) (vi : BitVec 3) (k : BitVec 3) (ew : BitVec 2) (brk : Option ElemBreak) (s : State) : ∃ τ, execVscat vs rs vi k ew brk s = .next τ ∧ τ.pending = s.pending := by refine ⟨_, rfl, ?_⟩; simp only [coreRow_pending, vElems_pending, implies_true]
@[simp] theorem setCtx_pending (n : Nat) (x : CtxNum) (s : State) : (setCtx n x s).pending = s.pending := by simp only [setCtx]
@[simp] theorem freeCtx_pending (n : Nat) (s : State) : (freeCtx n s).pending = s.pending := by simp only [freeCtx]
@[simp] theorem extendMeas_pending (i : Nat) (b : Bytes) (s : State) : (extendMeas i b s).pending = s.pending := by simp only [extendMeas, noticed_pending]
@[simp] theorem measOwnerRule_pending_act (i : Nat) (data : Bytes) (s : State) : ∀ τ, ((measOwnerRule i data s).act τ).pending = τ.pending := by intro τ; unfold measOwnerRule; dsimp only; (repeat' split) <;> (first | (simp only [plainRule_pending_act]; done) | with_reducible rfl | (simp_all; done))
@[simp] theorem measOwnerRule_pending_first (i : Nat) (data : Bytes) (s : State) : ∀ τ, ((measOwnerRule i data s).first τ).1.pending = τ.pending := by intro τ; unfold measOwnerRule; dsimp only; (repeat' split) <;> (first | (simp only [plainRule_pending_first]; done) | with_reducible rfl | (simp_all; done))
theorem execDigMeasOwnerWrite_pending (c : Caller) (i : Nat) (data : Bytes) (s : State) : ∃ τ, execDigMeasOwnerWrite c i data s = .next τ ∧ τ.pending = s.pending := by refine ⟨_, rfl, ?_⟩; simp only [writeAccess_pending, measOwnerRule_pending_act, measOwnerRule_pending_first, implies_true, ite_pending, ite_self]
@[simp] theorem turnTo_pending (u : Nat) (x : Entry) (s : State) : (turnTo u x s).pending = s.pending := by simp only [turnTo, setDigUnit_pending, ite_pending, ite_self]
@[simp] theorem digTurn_pending (e : Nat) (u : Nat) (x : Entry) (f : Entry → Nat → State → Res × State) (t : State) (h3 : ∀ v0 v1 τ, (f v0 v1 τ).2.pending = τ.pending) (k3 : ∀ v0 v1 τ ρ, ((f v0 v1 τ).1.release ρ).pending = ρ.pending) : (digTurn e u x f t).pending = t.pending := by unfold digTurn; (repeat' split) <;> (first | (simp only; done) | with_reducible rfl | (simp_all; done))
@[simp] theorem digRow_pending (opcode : Nat) (e : Nat) (f : Entry → Nat → State → Res × State) (s : State) (h2 : ∀ v0 v1 τ, (f v0 v1 τ).2.pending = τ.pending) (k2 : ∀ v0 v1 τ ρ, ((f v0 v1 τ).1.release ρ).pending = ρ.pending) : (digRow opcode e f s).pending = s.pending := by unfold digRow; (repeat' split) <;> (first | (simp only; done) | with_reducible rfl | (simp_all; done))
@[simp] theorem serveQuantum_pending (u : Nat) (before : List Nat) (e : Nat) (after : List Nat) (s : State) : (serveQuantum u before e after s).pending = s.pending := by unfold serveQuantum; (repeat' split) <;> (first | (simp only [turnTo_pending, setDigUnit_pending, implies_true, ite_pending, ite_self]; done) | with_reducible rfl | (simp_all; done))
theorem execDigestQuantumEnd_pending (u : Nat) (s : State) : ∃ τ, execDigestQuantumEnd u s = .next τ ∧ τ.pending = s.pending := by refine ⟨_, rfl, ?_⟩; (repeat' split) <;> (first | (simp only [serveQuantum_pending, implies_true, ite_pending, ite_self]; done) | with_reducible rfl | (simp_all; done))
theorem execDigestUnitReinitDone_pending (u : Nat) (s : State) : ∃ τ, execDigestUnitReinitDone u s = .next τ ∧ τ.pending = s.pending := by refine ⟨_, rfl, ?_⟩; (repeat' split) <;> (first | (simp only [advanceTo_pending, setDigUnit_pending]; done) | with_reducible rfl | (simp_all; done))
@[simp] theorem deliverDerived_pending (x : Entry) (usage : Nat) (k : Bytes) (cycles : Nat) (release : State → State) (s : State) (h4 : ∀ τ, (release τ).pending = τ.pending) : (deliverDerived x usage k cycles release s).2.pending = s.pending := by simp only [deliverDerived, tookHandle_pending]
@[simp] theorem deliverDerived_pending_rel (x : Entry) (usage : Nat) (k : Bytes) (cycles : Nat) (release : State → State) (s : State) (h4 : ∀ τ, (release τ).pending = τ.pending) : ∀ ρ, ((deliverDerived x usage k cycles release s).1.release ρ).pending = ρ.pending := by intro ρ; unfold deliverDerived; (repeat' split) <;> (first | (simp only; done) | with_reducible rfl | (simp_all; done))
@[simp] theorem runOpenCtx_pending (x : Entry) (a1 : Nat) (s : State) : (runOpenCtx x a1 s).2.pending = s.pending := by unfold runOpenCtx; dsimp only; (repeat' split) <;> (first | (simp only [touchSlot_pending]; done) | with_reducible rfl | (simp_all; done))
@[simp] theorem runOpenCtx_pending_rel (x : Entry) (a1 : Nat) (s : State) : ∀ ρ, ((runOpenCtx x a1 s).1.release ρ).pending = ρ.pending := by intro ρ; unfold runOpenCtx; dsimp only; (repeat' split) <;> (first | (simp only [setCtx_pending, Res.stop_release, id]; done) | with_reducible rfl | (simp_all; done))
theorem execOpenCtx_pending (e : Nat) (s : State) : ∃ τ, execOpenCtx e s = .next τ ∧ τ.pending = s.pending := by refine ⟨_, rfl, ?_⟩; simp only [digRow_pending, runOpenCtx_pending, runOpenCtx_pending_rel, implies_true]
@[simp] theorem lengthMismatch_pending (n : Nat) (absorbed : Nat) (s : State) : (lengthMismatch n absorbed s).2.pending = s.pending := by simp only [lengthMismatch, bump_pending, freeCtx_pending, Res.stop_release]
@[simp] theorem lengthMismatch_pending_rel (n : Nat) (absorbed : Nat) (s : State) : ∀ ρ, ((lengthMismatch n absorbed s).1.release ρ).pending = ρ.pending := by simp only [lengthMismatch, implies_true, Res.stop_release, id]
@[simp] theorem runAbsorb_pending (x : Entry) (a1 : Nat) (s : State) : (runAbsorb x a1 s).2.pending = s.pending := by unfold runAbsorb; dsimp only; (repeat' split) <;> (first | (simp only [lengthMismatch_pending]; done) | with_reducible rfl | (simp_all; done))
@[simp] theorem runAbsorb_pending_rel (x : Entry) (a1 : Nat) (s : State) : ∀ ρ, ((runAbsorb x a1 s).1.release ρ).pending = ρ.pending := by intro ρ; unfold runAbsorb; dsimp only; (repeat' split) <;> (first | (simp only [lengthMismatch_pending_rel, setCtx_pending, Res.stop_release, id]; done) | with_reducible rfl | (simp_all; done))
theorem execAbsorb_pending (e : Nat) (s : State) : ∃ τ, execAbsorb e s = .next τ ∧ τ.pending = s.pending := by refine ⟨_, rfl, ?_⟩; simp only [digRow_pending, runAbsorb_pending, runAbsorb_pending_rel, implies_true]
@[simp] theorem finishDeliver_pending (x : Entry) (n : Nat) (c : Ctx) (read : Bool) (s : State) : (finishDeliver x n c read s).2.pending = s.pending := by unfold finishDeliver; dsimp only; (repeat' split) <;> (first | (simp only [freeCtx_pending, setCtx_pending, deliverDerived_pending, implies_true]; done) | with_reducible rfl | (simp_all; done))
@[simp] theorem finishDeliver_pending_rel (x : Entry) (n : Nat) (c : Ctx) (read : Bool) (s : State) : ∀ ρ, ((finishDeliver x n c read s).1.release ρ).pending = ρ.pending := by intro ρ; unfold finishDeliver; dsimp only; (repeat' split) <;> (first | (simp only [freeCtx_pending, setCtx_pending, deliverDerived_pending_rel, extendMeas_pending, implies_true, Res.stop_release, id]; done) | with_reducible rfl | (simp_all; done))
@[simp] theorem runFinish_pending (x : Entry) (a1 : Nat) (s : State) : (runFinish x a1 s).2.pending = s.pending := by unfold runFinish; dsimp only; (repeat' split) <;> (first | (simp only [bump_pending, lengthMismatch_pending, finishDeliver_pending]; done) | with_reducible rfl | (simp_all; done))
@[simp] theorem runFinish_pending_rel (x : Entry) (a1 : Nat) (s : State) : ∀ ρ, ((runFinish x a1 s).1.release ρ).pending = ρ.pending := by intro ρ; unfold runFinish; dsimp only; (repeat' split) <;> (first | (simp only [lengthMismatch_pending_rel, finishDeliver_pending_rel, Res.stop_release, id]; done) | with_reducible rfl | (simp_all; done))
@[simp] theorem finishRow_pending (e : Nat) (read : Bool) (s : State) : (finishRow e read s).pending = s.pending := by unfold finishRow; (repeat' split) <;> (first | (simp only [digRow_pending, runFinish_pending, runFinish_pending_rel, implies_true]; done) | with_reducible rfl | (simp_all; done))
theorem execFinishFinal_pending (e : Nat) (s : State) : ∃ τ, execFinishFinal e s = .next τ ∧ τ.pending = s.pending := by refine ⟨_, rfl, ?_⟩; simp only [finishRow_pending]
theorem execFinishRead_pending (e : Nat) (s : State) : ∃ τ, execFinishRead e s = .next τ ∧ τ.pending = s.pending := by refine ⟨_, rfl, ?_⟩; simp only [finishRow_pending]
@[simp] theorem runOneshot_pending (x : Entry) (a1 : Nat) (s : State) : (runOneshot x a1 s).2.pending = s.pending := by unfold runOneshot; dsimp only; (repeat' split) <;> (first | (simp only [touchSlot_pending]; done) | with_reducible rfl | (simp_all; done))
@[simp] theorem runOneshot_pending_rel (x : Entry) (a1 : Nat) (s : State) : ∀ ρ, ((runOneshot x a1 s).1.release ρ).pending = ρ.pending := by intro ρ; unfold runOneshot; dsimp only; (repeat' split) <;> (first | (simp only [Res.stop_release, Res.ok_release, id]; done) | with_reducible rfl | (simp_all; done))
theorem execOneshot_pending (e : Nat) (s : State) : ∃ τ, execOneshot e s = .next τ ∧ τ.pending = s.pending := by refine ⟨_, rfl, ?_⟩; simp only [digRow_pending, runOneshot_pending, runOneshot_pending_rel, implies_true]
@[simp] theorem runDeriveKey_pending (x : Entry) (a1 : Nat) (s : State) : (runDeriveKey x a1 s).2.pending = s.pending := by unfold runDeriveKey; dsimp only; (repeat' split) <;> (first | (simp only [touchSlot_pending, deliverDerived_pending, implies_true, id]; done) | with_reducible rfl | (simp_all; done))
@[simp] theorem runDeriveKey_pending_rel (x : Entry) (a1 : Nat) (s : State) : ∀ ρ, ((runDeriveKey x a1 s).1.release ρ).pending = ρ.pending := by intro ρ; unfold runDeriveKey; dsimp only; (repeat' split) <;> (first | (simp only [deliverDerived_pending_rel, implies_true, Res.stop_release, Res.ok_release, id]; done) | with_reducible rfl | (simp_all; done))
theorem execDeriveKey_pending (e : Nat) (s : State) : ∃ τ, execDeriveKey e s = .next τ ∧ τ.pending = s.pending := by refine ⟨_, rfl, ?_⟩; simp only [digRow_pending, runDeriveKey_pending, runDeriveKey_pending_rel, implies_true]
@[simp] theorem runExtend_pending (x : Entry) (a1 : Nat) (s : State) : (runExtend x a1 s).2.pending = s.pending := by unfold runExtend; dsimp only; (repeat' split) <;> (first | (simp only; done) | with_reducible rfl | (simp_all; done))
@[simp] theorem runExtend_pending_rel (x : Entry) (a1 : Nat) (s : State) : ∀ ρ, ((runExtend x a1 s).1.release ρ).pending = ρ.pending := by intro ρ; unfold runExtend; dsimp only; (repeat' split) <;> (first | (simp only [extendMeas_pending, Res.stop_release, id]; done) | with_reducible rfl | (simp_all; done))
theorem execExtend_pending (e : Nat) (s : State) : ∃ τ, execExtend e s = .next τ ∧ τ.pending = s.pending := by refine ⟨_, rfl, ?_⟩; simp only [digRow_pending, runExtend_pending, runExtend_pending_rel, implies_true]
@[simp] theorem runSaveCtx_pending (x : Entry) (u : Nat) (s : State) : (runSaveCtx x u s).2.pending = s.pending := by unfold runSaveCtx; dsimp only; (repeat' split) <;> (first | (simp only [draw_pending]; done) | with_reducible rfl | (simp_all; done))
@[simp] theorem runSaveCtx_pending_rel (x : Entry) (u : Nat) (s : State) : ∀ ρ, ((runSaveCtx x u s).1.release ρ).pending = ρ.pending := by intro ρ; unfold runSaveCtx; dsimp only; (repeat' split) <;> (first | (simp only [setCtx_pending, Res.stop_release, id]; done) | with_reducible rfl | (simp_all; done))
theorem execSaveCtx_pending (e : Nat) (s : State) : ∃ τ, execSaveCtx e s = .next τ ∧ τ.pending = s.pending := by refine ⟨_, rfl, ?_⟩; simp only [digRow_pending, runSaveCtx_pending, runSaveCtx_pending_rel, implies_true]
@[simp] theorem runLoadCtx_pending (x : Entry) (a1 : Nat) (s : State) : (runLoadCtx x a1 s).2.pending = s.pending := by unfold runLoadCtx; dsimp only; (repeat' split) <;> (first | (simp only [usedFree_pending, bump_pending]; done) | with_reducible rfl | (simp_all; done))
@[simp] theorem runLoadCtx_pending_rel (x : Entry) (a1 : Nat) (s : State) : ∀ ρ, ((runLoadCtx x a1 s).1.release ρ).pending = ρ.pending := by intro ρ; unfold runLoadCtx; dsimp only; (repeat' split) <;> (first | (simp only [setCtx_pending, Res.stop_release, id]; done) | with_reducible rfl | (simp_all; done))
theorem execLoadCtx_pending (e : Nat) (s : State) : ∃ τ, execLoadCtx e s = .next τ ∧ τ.pending = s.pending := by refine ⟨_, rfl, ?_⟩; simp only [digRow_pending, runLoadCtx_pending, runLoadCtx_pending_rel, implies_true]
@[simp] theorem enterFailed_pending (s : State) : (enterFailed s).pending = s.pending := by simp only [enterFailed, setRng_pending]
theorem execRngTestFail_pending (code : Nat) (group : Nat) (osc : Nat) (value : Nat) (s : State) : ∃ τ, execRngTestFail code group osc value s = .next τ ∧ τ.pending = s.pending := by refine ⟨_, rfl, ?_⟩; simp only [enterFailed_pending, setObj_pending, bump_pending, tamperEvent_pending, ite_pending, ite_self]
theorem execRngRetest_pending (s : State) : ∃ τ, execRngRetest s = .next τ ∧ τ.pending = s.pending := by refine ⟨_, rfl, ?_⟩; simp only [advanceTo_pending, bump_pending, setRng_pending, ite_pending, ite_self]
@[simp] theorem rngDies_pending (s : State) : (rngDies s).pending = s.pending := by simp only [rngDies, recordFence_pending, setRng_pending]
@[simp] theorem rngReinitEnds_pending (pass : Bool) (s : State) : (rngReinitEnds pass s).pending = s.pending := by simp only [rngReinitEnds, setObj_pending, ite_pending, ite_self]
theorem execStartUpTestFailure_pending (s : State) : ∃ τ, execStartUpTestFailure s = .next τ ∧ τ.pending = s.pending := by refine ⟨_, rfl, ?_⟩; (repeat' split) <;> (first | (simp only [rngReinitEnds_pending, rngDies_pending, tamperEvent_pending, enterFailed_pending, ite_pending, ite_self]; done) | with_reducible rfl | (simp_all; done))
@[simp] theorem seedExpanders_pending (a0 : Nat) (a1 : State) : (seedExpanders a0 a1).pending = a1.pending := by
  induction a0 generalizing a1 with
  | zero => rfl
  | succ n ih => rw [seedExpanders]; exact (draw_pending n 64 _).trans (ih _)
@[simp] theorem rngStarts_pending (s : State) : (rngStarts s).pending = s.pending := by simp only [rngStarts, setRng_pending, seedExpanders_pending]
theorem execRngStartupDone_pending (s : State) : ∃ τ, execRngStartupDone s = .next τ ∧ τ.pending = s.pending := by refine ⟨_, rfl, ?_⟩; simp only [usedFree_pending, advanceTo_pending, rngReinitEnds_pending, setObj_pending, rngStarts_pending, ite_pending, ite_self]
@[simp] theorem rngReinitRule_pending_act (s : State) (data : Bytes) : ∀ τ, ((rngReinitRule s data).act τ).pending = τ.pending := by intro τ; unfold rngReinitRule; dsimp only; (repeat' split) <;> (first | (simp only [setObj_pending, setRng_pending]; done) | with_reducible rfl | (simp_all; done))
@[simp] theorem rngReinitRule_pending_first (s : State) (data : Bytes) : ∀ τ, ((rngReinitRule s data).first τ).1.pending = τ.pending := by simp [rngReinitRule]
theorem execErrRngReinit_pending (c : Caller) (data : Bytes) (s : State) : ∃ τ, execErrRngReinit c data s = .next τ ∧ τ.pending = s.pending := by refine ⟨_, rfl, ?_⟩; simp only [writeAccess_pending, rngReinitRule_pending_act, rngReinitRule_pending_first, implies_true]
theorem execDrbgReseed_pending (s : State) : ∃ τ, execDrbgReseed s = .next τ ∧ τ.pending = s.pending := by refine ⟨_, rfl, ?_⟩; (repeat' split) <;> (first | (simp only [reseed_pending]; done) | with_reducible rfl | (simp_all; done))
@[simp] theorem runGenerate_pending (x : Entry) (s : State) : (runGenerate x s).2.pending = s.pending := by unfold runGenerate; (repeat' split) <;> (first | (simp only [draw_pending, reseed_pending, ite_pending, ite_self]; done) | with_reducible rfl | (simp_all; done))
@[simp] theorem runGenerate_pending_rel (x : Entry) (s : State) : ∀ ρ, ((runGenerate x s).1.release ρ).pending = ρ.pending := by intro ρ; unfold runGenerate; (repeat' split) <;> (first | (simp only [Res.stop_release, Res.ok_release, id]; done) | with_reducible rfl | (simp_all; done))
theorem execGenerate_pending (e : Nat) (s : State) : ∃ τ, execGenerate e s = .next τ ∧ τ.pending = s.pending := by refine ⟨_, rfl, ?_⟩; (repeat' split) <;> (first | (simp only [runGenerate_pending, runGenerate_pending_rel, finish_pending, implies_true]; done) | with_reducible rfl | (simp_all; done))
@[simp] theorem serveRngRead_pending (s : State) : (serveRngRead s).2.2.pending = s.pending := by unfold serveRngRead; (repeat' split) <;> (first | (simp only [draw_pending]; done) | with_reducible rfl | (simp_all; done))
theorem execRngRead_pending (c : Caller) (s : State) : ∃ τ, execRngRead c s = .next τ ∧ τ.pending = s.pending := by refine ⟨_, rfl, ?_⟩; simp only [readAccess_pending, serveRngRead_pending, implies_true]
@[simp] theorem placeImage_pending (n : Nat) (cb : Nat) (db : Nat) (b : Bytes) (s : State) : (placeImage n cb db b s).pending = s.pending := by simp only [placeImage, cellAfter_pending, memWrite_pending, retag_pending, setCell_pending, cellDataInit_pending]
@[simp] theorem verifyTime_pending (b : Bytes) (s : State) : (verifyTime b s).pending = s.pending := by simp only [verifyTime]
@[simp] theorem placeOr_pending (n : Nat) (b : Bytes) (s : State) : (placeOr n b s).1.pending = s.pending := by unfold placeOr; (repeat' split) <;> (first | (simp only [placeImage_pending]; done) | with_reducible rfl | (simp_all; done))
@[simp] theorem endLoad_pending (n : Nat) (st : Status) (s : State) : (endLoad n st s).pending = s.pending := by unfold endLoad; dsimp only; (repeat' split) <;> (first | (simp only [setCell_pending, placeOr_pending, setObj_pending]; done) | with_reducible rfl | (simp_all; done))
@[simp] theorem loadNow_pending (n : Nat) (b : Bytes) (s : State) : (loadNow n b s).pending = s.pending := by unfold loadNow; (repeat' split) <;> (first | (simp only [verifyTime_pending, placeOr_pending, setObj_pending]; done) | with_reducible rfl | (simp_all; done))
@[simp] theorem startPair_pending (p : Nat) (s : State) : (startPair p s).pending = s.pending := by simp only [startPair, setObj_pending, setPair_pending]
@[simp] theorem enableRule_pending_act (p : Nat) (s : State) : ∀ τ, ((enableRule p s).act τ).pending = τ.pending := by intro τ; unfold enableRule; dsimp only; (repeat' split) <;> (first | (simp only [startPair_pending]; done) | with_reducible rfl | (simp_all; done))
@[simp] theorem enableRule_pending_first (p : Nat) (s : State) : ∀ τ, ((enableRule p s).first τ).1.pending = τ.pending := by simp [enableRule]
@[simp] theorem settleDrain_pending (p : Nat) (s : State) : (settleDrain p s).pending = s.pending := by simp only [settleDrain, setPair_pending, ite_pending, ite_self]
@[simp] theorem stopPair_pending (p : Nat) (s : State) : (stopPair p s).pending = s.pending := by simp only [stopPair, setObj_pending, leaveStall_pending, dropHeld_pending, settleDrain_pending, setPair_pending, notStarving_pending, ite_pending, ite_self]
@[simp] theorem disableRule_pending_act (p : Nat) (s : State) : ∀ τ, ((disableRule p s).act τ).pending = τ.pending := by intro τ; unfold disableRule; dsimp only; (repeat' split) <;> (first | (simp only [stopPair_pending]; done) | with_reducible rfl | (simp_all; done))
@[simp] theorem disableRule_pending_first (p : Nat) (s : State) : ∀ τ, ((disableRule p s).first τ).1.pending = τ.pending := by simp [disableRule]
theorem execRingEnableSet_pending (c : Caller) (p : Nat) (s : State) : ∃ τ, execRingEnableSet c p s = .next τ ∧ τ.pending = s.pending := by refine ⟨_, rfl, ?_⟩; simp only [writeAccess_pending, enableRule_pending_act, enableRule_pending_first, implies_true]
theorem execRingDisable_pending (c : Caller) (p : Nat) (s : State) : ∃ τ, execRingDisable c p s = .next τ ∧ τ.pending = s.pending := by refine ⟨_, rfl, ?_⟩; simp only [writeAccess_pending, disableRule_pending_act, disableRule_pending_first, implies_true]
@[simp] theorem setRun_pending (run : Bool) (s : State) : (setRun run s).pending = s.pending := by simp only [setRun, renewPolls_pending, ite_pending, ite_self]
theorem execRingGctrlRun_pending (v : Word) (s : State) : ∃ τ, execRingGctrlRun v s = .next τ ∧ τ.pending = s.pending := by refine ⟨_, rfl, ?_⟩; simp only [setRun_pending]
@[simp] theorem ringErr_pending (i : Nat) (s : State) : (ringErr i s).pending = s.pending := by simp only [ringErr, raiseVec_pending, ite_pending, ite_self]
@[simp] theorem takeCoal_pending (p : Nat) (s : State) : (takeCoal p s).pending = s.pending := by simp only [takeCoal, setPair_pending]
@[simp] theorem signal_pending (p : Nat) (irq : Bool) (s0 : State) : (signal p irq s0).pending = s0.pending := by simp only [signal, takeCoal_pending, raiseVec_pending, setPair_pending, ite_pending, ite_self]
@[simp] theorem writeRecord_pending (p : Nat) (d : Desc) (st : Status) (slice : Nat) (written : Nat) (detail : Nat) (cycles : Nat) (s : State) : (writeRecord p d st slice written detail cycles s).pending = s.pending := by simp only [writeRecord, setPair_pending, bump_pending, signal_pending, ite_pending, ite_self]
@[simp] theorem consume_pending (p : Nat) (n : Nat) (s : State) : (consume p n s).pending = s.pending := by simp only [consume, notStarving_pending, setPair_pending]
@[simp] theorem settleHead_pending (p : Nat) (a1 : Nat) (a2 : State) : (settleHead p a1 a2).pending = a2.pending := by
  induction a1 generalizing a2 with
  | zero => rfl
  | succ n ih =>
    rw [settleHead]; dsimp only
    split
    · rw [ih, writeRecord_pending, consume_pending]
    · rw [ih, writeRecord_pending, consume_pending]
    · rfl
@[simp] theorem pollPair_pending (p : Nat) (entries : List Bytes) (s0 : State) : (pollPair p entries s0).pending = s0.pending := by
  unfold pollPair
  refine (settleHead_pending _ _ _).trans ((bumpBy_pending _ _ _).trans ((setPair_pending _ _ _).trans ?_))
  simp only [ite_pending, ringErr_pending, bump_pending, ite_self]
  rfl
@[simp] theorem pollLimited_pending (p : Nat) (s0 : State) : (pollLimited p s0).pending = s0.pending := by unfold pollLimited; (repeat' split) <;> (first | (simp only [advanceTo_pending, idle_pending, ringErr_pending, setPair_pending, implies_true, ite_pending, ite_self]; done) | with_reducible rfl | (simp_all; done))
@[simp] theorem ringGuard_pending (p : Nat) (len : Nat) (kind : Nat) (k : State → State) (s : State) (h3 : ∀ τ, (k τ).pending = τ.pending) : (ringGuard p len kind k s).pending = s.pending := by unfold ringGuard; (repeat' split) <;> (first | (simp only [recGuard_pending, implies_true, ite_pending, ite_self]; done) | with_reducible rfl | (simp_all; done))
theorem execRingPoll_pending (p : Nat) (entries : List Bytes) (s : State) : ∃ τ, execRingPoll p entries s = .next τ ∧ τ.pending = s.pending := by refine ⟨_, rfl, ?_⟩; simp only [ringGuard_pending, pollPair_pending, pollLimited_pending, implies_true, ite_pending, ite_self]
@[simp] theorem assignDigest_pending (e : Nat) (opcode : Nat) (s : State) : (assignDigest e opcode s).pending = s.pending := by unfold assignDigest; (repeat' split) <;> (first | (simp only [setDigUnit_pending, implies_true, ite_pending, ite_self]; done) | with_reducible rfl | (simp_all; done))
@[simp] theorem admitJob_pending (o : Origin) (colour : Nat) (prio : Nat) (d : Desc) (c : CmdSpec) (stream : Bytes) (s : State) : (admitJob o colour prio d c stream s).pending = s.pending := by unfold admitJob; (repeat' split) <;> (first | (simp only [writePages_pending, tagPages_pending, assignDigest_pending, setEntry_pending, rouseEngine_pending]; done) | with_reducible rfl | (simp_all; done))
@[simp] theorem admitInternal_pending (s : State) : (admitInternal s).pending = s.pending := by
  unfold admitInternal
  refine (foldl_pending _ ?_ _ _).trans rfl
  intro t x
  split
  · exact admitJob_pending _ _ _ _ _ _ _
  · rfl
@[simp] theorem stall_pending (p : Nat) (pages : Bool) (s : State) : (stall p pages s).pending = s.pending := by simp only [stall, setPair_pending, bump_pending, ite_pending, ite_self]
@[simp] theorem unstall_pending (p : Nat) (s : State) : (unstall p s).pending = s.pending := by simp only [unstall, leaveStall_pending, setPair_pending, ite_pending, ite_self]
@[simp] theorem countClamp_pending (p : Nat) (d : Desc) (s : State) : (countClamp p d s).pending = s.pending := by simp only [countClamp, bump_pending, ite_pending, ite_self]
@[simp] theorem keepTurn_pending (p : Nat) (taken : Nat) (s : State) : (keepTurn p taken s).pending = s.pending := by simp only [keepTurn]
@[simp] theorem turn_pending (p : Nat) (a1 : Nat) (a2 : Nat) (a3 : State) : (turn p a1 a2 a3).pending = a3.pending := by
  induction a1 generalizing a2 a3 with
  | zero => rfl
  | succ k ih =>
    rw [turn]; dsimp only
    (repeat' split) <;> simp [ih]
@[simp] theorem useTurn_pending (p : Nat) (fresh : Bool) (s : State) : (useTurn p fresh s).pending = s.pending := by simp only [useTurn, setPair_pending, ite_pending, ite_self]
theorem takeTurn_pending {p k : Nat} {s t : State} (h : takeTurn p s = some (k, t)) : t.pending = s.pending := by
  unfold takeTurn at h
  (repeat' split at h) <;> first | (cases h; done) | (cases h; first | rfl | exact useTurn_pending _ _ _)
theorem execAdmission_pending (p : Nat) (s : State) : ∃ τ, execAdmission p s = .next τ ∧ τ.pending = s.pending := by
  refine ⟨_, rfl, ?_⟩
  split
  · rfl
  · split
    · rfl
    · rename_i e
      rw [ringGuard_pending _ _ _ _ _ (fun τ => turn_pending _ _ _ _), takeTurn_pending e]
theorem execStarveLimitExpiry_pending (p : Nat) (s : State) : ∃ τ, execStarveLimitExpiry p s = .next τ ∧ τ.pending = s.pending := by refine ⟨_, rfl, ?_⟩; (repeat' split) <;> (first | (simp only [advanceTo_pending]; done) | with_reducible rfl | (simp_all; done))
theorem execInboundDmaComplete_pending (e : Nat) (data : Bytes) (s : State) : ∃ τ, execInboundDmaComplete e data s = .next τ ∧ τ.pending = s.pending := by refine ⟨_, rfl, ?_⟩; (repeat' split) <;> (first | (simp only [rouseEngine_pending, setEntry_pending, writePages_pending]; done) | with_reducible rfl | (simp_all; done))
@[simp] theorem releaseJob_pending (e : Nat) (x : Entry) (s : State) : (releaseJob e x s).pending = s.pending := by unfold releaseJob; (repeat' split) <;> (first | (simp only [dropEntry_pending, tagPages_pending, settleDrain_pending, admitInternal_pending]; done) | with_reducible rfl | (simp_all; done))
@[simp] theorem noteGraft_pending (c : Nat) (x : Entry) (s : State) : (noteGraft c x s).pending = s.pending := by simp only [noteGraft, freeRoles_pending, setGraft_pending, ite_pending, ite_self]
@[simp] theorem countAbort_pending (x : Entry) (s : State) : (countAbort x s).pending = s.pending := by simp only [countAbort, bump_pending, ite_pending, ite_self]
@[simp] theorem completeJob_pending (e : Nat) (s : State) : (completeJob e s).pending = s.pending := by unfold completeJob; (repeat' split) <;> (first | (simp only [releaseJob_pending]; done) | with_reducible rfl | (simp_all; done))
theorem execJobComplete_pending (e : Nat) (s : State) : ∃ τ, execJobComplete e s = .next τ ∧ τ.pending = s.pending := by refine ⟨_, rfl, ?_⟩; simp only [completeJob_pending]
theorem execCoalDelayExpiry_pending (p : Nat) (s : State) : ∃ τ, execCoalDelayExpiry p s = .next τ ∧ τ.pending = s.pending := by refine ⟨_, rfl, ?_⟩; (repeat' split) <;> (first | (simp only [advanceTo_pending, raiseVec_pending, setPair_pending]; done) | with_reducible rfl | (simp_all; done))
@[simp] theorem completeControl_pending (p : Nat) (d : Desc) (n : Nat) (detail : Nat) (st : Status) (s : State) : (completeControl p d n detail st s).pending = s.pending := by simp only [completeControl, writeRecord_pending, unstall_pending, consume_pending]
@[simp] theorem afterControl_pending (p : Nat) (n : Nat) (k : Nat) (s : State) : (afterControl p n k s).pending = s.pending := by simp only [afterControl, keepTurn_pending, endTurn_pending, ite_pending, ite_self]
@[simp] theorem endStage_pending (p : Nat) (s : State) : (endStage p s).pending = s.pending := by unfold endStage; (repeat' split) <;> (first | (simp only [completeControl_pending]; done) | with_reducible rfl | (simp_all; done))
@[simp] theorem fenceServed_pending (e : Nat) (s : State) : (fenceServed e s).pending = s.pending := by unfold fenceServed; (repeat' split) <;> (first | (simp only [setEntry_pending, stopJob_pending]; done) | with_reducible rfl | (simp_all; done))
@[simp] theorem hostError_pending (p : Nat) (a : HostAccess) (s : State) : (hostError p a s).pending = s.pending := by unfold hostError; dsimp only; (repeat' split) <;> (first | (simp only [ringErr_pending, faultPair_pending, endStage_pending, fenceServed_pending, releaseJob_pending]; done) | with_reducible rfl | (simp_all; done))
theorem execHostMemoryError_pending (p : Nat) (a : HostAccess) (s : State) : ∃ τ, execHostMemoryError p a s = .next τ ∧ τ.pending = s.pending := by refine ⟨_, rfl, ?_⟩; simp only [hostError_pending, ite_pending, ite_self]
theorem execRingFetchTimeout_pending (p : Nat) (a : HostAccess) (s : State) : ∃ τ, execRingFetchTimeout p a s = .next τ ∧ τ.pending = s.pending := by refine ⟨_, rfl, ?_⟩; simp only [hostError_pending, advanceTo_pending, ite_pending, ite_self]
@[simp] theorem dropHostCalls_pending (s : State) : (dropHostCalls s).pending = s.pending := by unfold dropHostCalls; (repeat' split) <;> (first | (simp only [endCall_pending, implies_true, ite_pending, ite_self]; done) | with_reducible rfl | (simp_all; done))
@[simp] theorem pcieReset_pending (s : State) : (pcieReset s).pending = s.pending := by simp only [pcieReset, dropHostCalls_pending, stopJobs_pending, tagPages_pending, admitInternal_pending]
theorem execPcieLinkReset_pending (s : State) : ∃ τ, execPcieLinkReset s = .next τ ∧ τ.pending = s.pending := by refine ⟨_, rfl, ?_⟩; simp only [pcieReset_pending]
theorem controlTurn_pending {s t : State} {p o n k : Nat} {d : Desc} (h : controlTurn s p o = some (d, n, k, t)) : t.pending = s.pending := by
  unfold controlTurn at h
  split at h
  · rename_i e
    split at h
    · cases h; exact takeTurn_pending e
    · cases h
  · cases h
theorem execJobNop_pending (p : Nat) (s : State) : ∃ τ, execJobNop p s = .next τ ∧ τ.pending = s.pending := by
  refine ⟨_, rfl, ?_⟩
  split
  · rename_i e; rw [ringGuard_pending _ _ _ _ _ (fun τ => by simp), controlTurn_pending e]
  · rfl
@[simp] theorem abortJob_pending (e : Nat) (s : State) : (abortJob e s).pending = s.pending := by unfold abortJob; (repeat' split) <;> (first | (simp only [endCall_pending, stopJob_pending]; done) | with_reducible rfl | (simp_all; done))
theorem execAbort_pending (p : Nat) (s : State) : ∃ τ, execAbort p s = .next τ ∧ τ.pending = s.pending := by
  refine ⟨_, rfl, ?_⟩
  split
  · rfl
  · rename_i e
    rw [ringGuard_pending _ _ _ _ _ (fun τ => by dsimp only; split <;> simp), controlTurn_pending e]
@[simp] theorem warmRestart_pending (s : State) : (warmRestart s).pending = s.pending := by simp only [warmRestart, endCalls_pending, bump_pending, ite_pending, ite_self]
theorem execLockstepMismatch_pending (s : State) : ∃ τ, execLockstepMismatch s = .next τ ∧ τ.pending = s.pending := by refine ⟨_, rfl, ?_⟩; simp only [tamperEvent_pending, warmRestart_pending, ite_pending, ite_self]
theorem execWarmRestartComplete_pending (s : State) : ∃ τ, execWarmRestartComplete s = .next τ ∧ τ.pending = s.pending := by refine ⟨_, rfl, ?_⟩; simp only [usedFree_pending, advanceTo_pending, ite_pending, ite_self]
theorem execTsuowWdogBite_pending (s : State) : ∃ τ, execTsuowWdogBite s = .next τ ∧ τ.pending = s.pending := by refine ⟨_, rfl, ?_⟩; simp only [warmRestart_pending, advanceTo_pending, ite_pending, ite_self]
theorem execMemoryEccError_pending (mem : Nat) (uncorrectable : Bool) (reader : UnitRef) (s : State) : ∃ τ, execMemoryEccError mem uncorrectable reader s = .next τ ∧ τ.pending = s.pending := by refine ⟨_, rfl, ?_⟩; simp only [bump_pending, tamperEvent_pending, warmRestart_pending, ite_pending, ite_self]
@[simp] theorem runLoad_pending (n : Nat) (b : Bytes) (s : State) : (runLoad n b s).pending = s.pending := by
  unfold runLoad
  split
  · exact setObj_pending _ _ _
  · split
    · exact setObj_pending _ _ _
    · exact (admitInternal_pending _).trans ((setCell_pending _ _ _).trans (setObj_pending _ _ _))
@[simp] theorem cellLoadRule_pending_act (n : Nat) (s : State) : ∀ τ, ((cellLoadRule n s).act τ).pending = τ.pending := by intro τ; unfold cellLoadRule; dsimp only; (repeat' split) <;> (first | (simp only [runLoad_pending]; done) | with_reducible rfl | (simp_all; done))
@[simp] theorem cellLoadRule_pending_first (n : Nat) (s : State) : ∀ τ, ((cellLoadRule n s).first τ).1.pending = τ.pending := by simp [cellLoadRule]
theorem execSvcCellLoad_pending (c : Caller) (n : Nat) (data : Bytes) (s : State) : ∃ τ, execSvcCellLoad c n data s = .next τ ∧ τ.pending = s.pending := by refine ⟨_, rfl, ?_⟩; simp only [writeAccess_pending, cellLoadRule_pending_act, cellLoadRule_pending_first, implies_true, ite_pending, ite_self]
@[simp] theorem resetCell_pending (n : Nat) (s : State) : (resetCell n s).pending = s.pending := by simp only [resetCell, setCell_pending, cellDataInit_pending, ite_pending, ite_self]
@[simp] theorem cellResetRule_pending_act (n : Nat) (s : State) : ∀ τ, ((cellResetRule n s).act τ).pending = τ.pending := by intro τ; unfold cellResetRule; dsimp only; (repeat' split) <;> (first | (simp only [resetCell_pending]; done) | with_reducible rfl | (simp_all; done))
@[simp] theorem cellResetRule_pending_first (n : Nat) (s : State) : ∀ τ, ((cellResetRule n s).first τ).1.pending = τ.pending := by simp [cellResetRule]
theorem execSvcCellReset_pending (c : Caller) (n : Nat) (data : Bytes) (s : State) : ∃ τ, execSvcCellReset c n data s = .next τ ∧ τ.pending = s.pending := by refine ⟨_, rfl, ?_⟩; simp only [writeAccess_pending, cellResetRule_pending_act, cellResetRule_pending_first, implies_true, ite_pending, ite_self]
@[simp] theorem startCall_pending (e : Nat) (x : Entry) (n : Nat) (s : State) : (startCall e x n s).pending = s.pending := by simp only [startCall, memWrite_pending, retag_pending, setEntry_pending, setCell_pending, nextCell_pending]
theorem execServiceCall_pending (e : Nat) (s : State) : ∃ τ, execServiceCall e s = .next τ ∧ τ.pending = s.pending := by
  refine ⟨_, rfl, ?_⟩
  split
  · rfl
  · dsimp only
    (repeat' split) <;> first | rfl | exact finish_pending _ _ _ (fun _ => rfl) | simp
@[simp] theorem areaWrite_pending (a0 : List Nat) (a1 : Nat) (a2 : Bytes) (a3 : State) : (areaWrite a0 a1 a2 a3).pending = a3.pending := by
  induction a0 generalizing a1 a2 a3 with
  | nil => rfl
  | cons p r ih => rw [areaWrite]; split
                   · rw [ih]
                   · rw [ih, memWrite_pending]
@[simp] theorem switchOut_pending (n : Nat) (waiting : Bool) (s : State) : (switchOut n waiting s).pending = s.pending := by simp only [switchOut, setCell_pending]
@[simp] theorem svcRow_pending (f : Nat → State → State) (s : State) (h0 : ∀ v0 τ, (f v0 τ).pending = τ.pending) : (svcRow f s).pending = s.pending := by unfold svcRow; dsimp only; (repeat' split) <;> (first | (simp only [coreRow_pending, takeExc_pending, setCore_pending, implies_true, ite_pending, ite_self]; done) | with_reducible rfl | (apply coreRow_pending <;> intros <;> (try dsimp only) <;> (repeat' split) <;> (first | (simp only [takeExc_pending, setCore_pending]; done) | with_reducible rfl | (simp_all; done))))
@[simp] theorem svcReturn_pending (v : Nat) (s : State) : (svcReturn v s).pending = s.pending := by simp only [svcReturn, setCore_pending]
@[simp] theorem svcExit_pending (n : Nat) (s : State) : (svcExit n s).pending = s.pending := by unfold svcExit; dsimp only; (repeat' split) <;> (first | (simp only [setCore_pending, excCall_pending, setEntry_pending, dropSubjob_pending, endJob_pending, leaveCell_pending, cellAfter_pending]; done) | with_reducible rfl | (simp_all; done))
theorem execSvcExit_pending (s : State) : ∃ τ, execSvcExit s = .next τ ∧ τ.pending = s.pending := by refine ⟨_, rfl, ?_⟩; simp only [svcRow_pending, svcExit_pending, implies_true]
@[simp] theorem startSub_pending (n : Nat) (x : Entry) (d : Desc) (s : State) : (startSub n x d s).pending = s.pending := by simp only [startSub, assignDigest_pending, setEntry_pending, setCell_pending]
@[simp] theorem svcSubmit_pending (n : Nat) (s : State) : (svcSubmit n s).pending = s.pending := by unfold svcSubmit; dsimp only; (repeat' split) <;> (first | (simp only [svcReturn_pending, startSub_pending]; done) | with_reducible rfl | (simp_all; done))
theorem execSvcSubmit_pending (s : State) : ∃ τ, execSvcSubmit s = .next τ ∧ τ.pending = s.pending := by refine ⟨_, rfl, ?_⟩; simp only [svcRow_pending, svcSubmit_pending, implies_true]
@[simp] theorem svcWait_pending (n : Nat) (s : State) : (svcWait n s).pending = s.pending := by unfold svcWait; dsimp only; (repeat' split) <;> (first | (simp only [setCore_pending, setCell_pending, nextCell_pending, switchOut_pending, svcReturn_pending]; done) | with_reducible rfl | (simp_all; done))
theorem execSvcWait_pending (s : State) : ∃ τ, execSvcWait s = .next τ ∧ τ.pending = s.pending := by refine ⟨_, rfl, ?_⟩; simp only [svcRow_pending, svcWait_pending, implies_true]
theorem execSvcYield_pending (s : State) : ∃ τ, execSvcYield s = .next τ ∧ τ.pending = s.pending := by refine ⟨_, rfl, ?_⟩; simp only [svcRow_pending, nextCell_pending, switchOut_pending, implies_true]
theorem execSubjobComplete_pending (n : Nat) (s : State) : ∃ τ, execSubjobComplete n s = .next τ ∧ τ.pending = s.pending := by refine ⟨_, rfl, ?_⟩; dsimp only; (repeat' split) <;> (first | (simp only [setCell_pending, nextCell_pending]; done) | with_reducible rfl | (simp_all; done))
theorem execSvcQuantumExpiry_pending (s : State) : ∃ τ, execSvcQuantumExpiry s = .next τ ∧ τ.pending = s.pending := by refine ⟨_, rfl, ?_⟩; (repeat' split) <;> (first | (simp only [advanceTo_pending, nextCell_pending, switchOut_pending, setCore_pending]; done) | with_reducible rfl | (simp_all; done))
@[simp] theorem portOn_pending (p : Nat) (s : State) : (portOn p s).pending = s.pending := by simp only [portOn, setObj_pending, setPort_pending, ite_pending, ite_self]
@[simp] theorem portDrops_pending (p : Nat) (s : State) : (portDrops p s).pending = s.pending := by unfold portDrops; (repeat' split) <;> (first | (simp only [setPort_pending]; done) | with_reducible rfl | (simp_all; done))
@[simp] theorem portOff_pending (p : Nat) (s : State) : (portOff p s).pending = s.pending := by simp only [portOff, portDrops_pending, setObj_pending, setPort_pending]
@[simp] theorem portRule_pending_act (act : State → State) (h0 : ∀ τ, (act τ).pending = τ.pending) : ∀ τ, ((portRule act).act τ).pending = τ.pending := by intro τ; unfold portRule; dsimp only; (repeat' split) <;> (first | (simp only [implies_true, ite_pending, ite_self]; done) | with_reducible rfl | (simp_all; done))
@[simp] theorem portRule_pending_first (act : State → State) (h0 : ∀ τ, (act τ).pending = τ.pending) : ∀ τ, ((portRule act).first τ).1.pending = τ.pending := by simp [portRule]
theorem execSpEnableSet_pending (c : Caller) (p : Nat) (s : State) : ∃ τ, execSpEnableSet c p s = .next τ ∧ τ.pending = s.pending := by refine ⟨_, rfl, ?_⟩; simp only [writeAccess_pending, portRule_pending_act, portRule_pending_first, portOn_pending, implies_true, ite_pending, ite_self]
theorem execSpDisable_pending (c : Caller) (p : Nat) (s : State) : ∃ τ, execSpDisable c p s = .next τ ∧ τ.pending = s.pending := by refine ⟨_, rfl, ?_⟩; simp only [writeAccess_pending, portRule_pending_act, portRule_pending_first, portOff_pending, implies_true, ite_pending, ite_self]
theorem execPortUp_pending (p : Nat) (s : State) : ∃ τ, execPortUp p s = .next τ ∧ τ.pending = s.pending := by refine ⟨_, rfl, ?_⟩; simp only [setPort_pending, ite_pending, ite_self]
theorem execPortAlignLoss_pending (p : Nat) (unlocked : BitVec 8) (s : State) : ∃ τ, execPortAlignLoss p unlocked s = .next τ ∧ τ.pending = s.pending := by refine ⟨_, rfl, ?_⟩; simp only [portDrops_pending, bump_pending, setPort_pending, ite_pending, ite_self]
@[simp] theorem clearCounters_pending (c : Nat) (s : State) : (clearCounters c s).pending = s.pending := by unfold clearCounters; (repeat' split) <;> (first | (simp only [setObj_pending, implies_true, ite_pending, ite_self]; done) | with_reducible rfl | (simp_all; done))
@[simp] theorem bindCircuit_pending (c : Nat) (t : Nat) (s : State) : (bindCircuit c t s).pending = s.pending := by simp only [bindCircuit, bump_pending, setObj_pending, clearCounters_pending, setGraft_pending]
@[simp] theorem bindRule_pending_act (c : Nat) (t : Nat) (s : State) : ∀ τ, ((bindRule c t s).act τ).pending = τ.pending := by intro τ; unfold bindRule; dsimp only; (repeat' split) <;> (first | (simp only [bindCircuit_pending]; done) | with_reducible rfl | (simp_all; done))
@[simp] theorem bindRule_pending_first (c : Nat) (t : Nat) (s : State) : ∀ τ, ((bindRule c t s).first τ).1.pending = τ.pending := by simp [bindRule]
theorem execSpCBind_pending (by_ : Caller) (c : Nat) (t : Nat) (s : State) : ∃ τ, execSpCBind by_ c t s = .next τ ∧ τ.pending = s.pending := by refine ⟨_, rfl, ?_⟩; simp only [writeAccess_pending, bindRule_pending_act, bindRule_pending_first, implies_true, ite_pending, ite_self]
@[simp] theorem zeroiseCircuit_pending (c : Nat) (s : State) : (zeroiseCircuit c s).pending = s.pending := by simp only [zeroiseCircuit, eraseKeys_pending, abandonGraft_pending]
@[simp] theorem unbindCircuit_pending (c : Nat) (s : State) : (unbindCircuit c s).pending = s.pending := by simp only [unbindCircuit, clearCounters_pending, setObj_pending, zeroiseCircuit_pending, setGraft_pending, ite_pending, ite_self]
theorem execSpCUnbind_pending (by_ : Caller) (c : Nat) (s : State) : ∃ τ, execSpCUnbind by_ c s = .next τ ∧ τ.pending = s.pending := by refine ⟨_, rfl, ?_⟩; simp only [writeAccess_pending, portRule_pending_act, portRule_pending_first, unbindCircuit_pending, implies_true, ite_pending, ite_self]
@[simp] theorem transformRule_pending_act (c : Nat) (sub : Nat) (data : Bytes) (s : State) : ∀ τ, ((transformRule c sub data s).act τ).pending = τ.pending := by intro τ; unfold transformRule; dsimp only; (repeat' split) <;> (first | (simp only [plainRule_pending_act, zeroiseCircuit_pending]; done) | with_reducible rfl | (simp_all; done))
@[simp] theorem transformRule_pending_first (c : Nat) (sub : Nat) (data : Bytes) (s : State) : ∀ τ, ((transformRule c sub data s).first τ).1.pending = τ.pending := by intro τ; unfold transformRule; dsimp only; (repeat' split) <;> (first | (simp only [plainRule_pending_first]; done) | with_reducible rfl | (simp_all; done))
theorem execSpCConfigWrite_pending (by_ : Caller) (c : Nat) (sub : Nat) (data : Bytes) (s : State) : ∃ τ, execSpCConfigWrite by_ c sub data s = .next τ ∧ τ.pending = s.pending := by refine ⟨_, rfl, ?_⟩; simp only [writeAccess_pending, transformRule_pending_act, transformRule_pending_first, implies_true, ite_pending, ite_self]
theorem execSpCZeroise_pending (by_ : Caller) (c : Nat) (data : Bytes) (s : State) : ∃ τ, execSpCZeroise by_ c data s = .next τ ∧ τ.pending = s.pending := by refine ⟨_, rfl, ?_⟩; simp only [writeAccess_pending, portRule_pending_act, portRule_pending_first, zeroiseCircuit_pending, implies_true, ite_pending, ite_self]
theorem execArrivingPacketDrop_pending (p : Nat) (ch : Nat) (b : Bytes) (error : Bool) (s : State) : ∃ τ, execArrivingPacketDrop p ch b error s = .next τ ∧ τ.pending = s.pending := by refine ⟨_, rfl, ?_⟩; simp only [bump_pending, sendStatus_pending, ite_pending, ite_self]
@[simp] theorem arrivePkt_pending (op : Nat) (p : Nat) (ch : Nat) (b : Bytes) (accept : Nat → State → State) (s : State) (h4 : ∀ v0 τ, (accept v0 τ).pending = τ.pending) : (arrivePkt op p ch b accept s).pending = s.pending := by unfold arrivePkt; dsimp only; (repeat' split) <;> (first | (simp only [bump_pending, sendStatus_pending, stallDrop_pending]; done) | with_reducible rfl | (simp_all; done))
@[simp] theorem seqPkt_pending (c : Nat) (ch : Nat) (b : Bytes) (f : State → SeqOut × State) (s : State) (h3 : ∀ τ, (f τ).2.pending = τ.pending) : (seqPkt c ch b f s).pending = s.pending := by unfold seqPkt; dsimp only; (repeat' split) <;> (first | (simp only [sendStatus_pending, bump_pending, setCircuit_pending, updateFlow_pending]; done) | with_reducible rfl | (simp_all; done))
@[simp] theorem protectSeq_pending (c : Nat) (payload : Bytes) (s0 : State) : (protectSeq c payload s0).2.pending = s0.pending := by unfold protectSeq; dsimp only; (repeat' split) <;> (first | (simp only [txUnusable_pending, bump_pending, setCircuit_pending, trigger_pending]; done) | with_reducible rfl | (simp_all; done))
theorem execProtect_pending (p : Nat) (ch : Nat) (b : Bytes) (s : State) : ∃ τ, execProtect p ch b s = .next τ ∧ τ.pending = s.pending := by refine ⟨_, rfl, ?_⟩; simp only [arrivePkt_pending, seqPkt_pending, protectSeq_pending, implies_true]
@[simp] theorem validateFail_pending (c : Nat) (code : Nat) (detail : Nat) (ctr : ObjId) (s : State) : (validateFail c code detail ctr s).2.pending = s.pending := by simp only [validateFail, bump_pending]
@[simp] theorem underKey_pending (c : Nat) (k : LinkKey) (pn : Nat) (tagOk : Bool) (out : Bytes) (s : State) : (underKey c k pn tagOk out s).2.pending = s.pending := by unfold underKey; (repeat' split) <;> (first | (simp only [validateFail_pending]; done) | with_reducible rfl | (simp_all; done))
@[simp] theorem macsecValidate_pending (c : Nat) (f : Bytes) (s : State) : (macsecValidate c f s).2.pending = s.pending := by unfold macsecValidate; dsimp only; (repeat' split) <;> (first | (simp only [validateFail_pending, underKey_pending]; done) | with_reducible rfl | (simp_all; done))
@[simp] theorem blockValidate_pending (c : Nat) (f : Bytes) (s : State) : (blockValidate c f s).2.pending = s.pending := by unfold blockValidate; dsimp only; (repeat' split) <;> (first | (simp only [validateFail_pending, underKey_pending]; done) | with_reducible rfl | (simp_all; done))
theorem execValidate_pending (p : Nat) (ch : Nat) (b : Bytes) (s : State) : ∃ τ, execValidate p ch b s = .next τ ∧ τ.pending = s.pending := by
  exact ⟨_, rfl, arrivePkt_pending _ _ _ _ _ _ (fun c t => seqPkt_pending _ _ _ _ _ (fun u => by split <;> simp))⟩
@[simp] theorem validatePassed_pending (c : Nat) (h : Nat) (n : Nat) (s : State) : (validatePassed c h n s).pending = s.pending := by simp only [validatePassed, setCircuit_pending, promote_pending, ite_pending, ite_self]
@[simp] theorem finishPkt_pending (c : Nat) (id : Nat) (f : InFlightPkt → InFlightPkt) (s : State) : (finishPkt c id f s).pending = s.pending := by simp only [finishPkt, setCircuit_pending]
@[simp] theorem pipeMismatch_pending (c : Nat) (q : InFlightPkt) (s : State) : (pipeMismatch c q s).pending = s.pending := by simp only [pipeMismatch, bump_pending, finishPkt_pending, setPipe_pending, fencePipe_pending, losePkts_pending, tamperEvent_pending, drainCircuit_pending, ite_pending, ite_self]
theorem execPipelineDone_pending (c : Nat) (id : Nat) (mismatch : Bool) (s : State) : ∃ τ, execPipelineDone c id mismatch s = .next τ ∧ τ.pending = s.pending := by refine ⟨_, rfl, ?_⟩; (repeat' split) <;> (first | (simp only [pipeMismatch_pending, validatePassed_pending, bump_pending, drainCircuit_pending, finishPkt_pending]; done) | with_reducible rfl | (simp_all; done))
theorem execPipelineReinitDone_pending (n : Nat) (s : State) : ∃ τ, execPipelineReinitDone n s = .next τ ∧ τ.pending = s.pending := by refine ⟨_, rfl, ?_⟩; (repeat' split) <;> (first | (simp only [advanceTo_pending, setPipe_pending]; done) | with_reducible rfl | (simp_all; done))
theorem execRxHoldExpiry_pending (c : Nat) (s : State) : ∃ τ, execRxHoldExpiry c s = .next τ ∧ τ.pending = s.pending := by refine ⟨_, rfl, ?_⟩; simp only [settleSlots_pending, setCircuit_pending, advanceTo_pending, ite_pending, ite_self]
theorem execLinkKeyUnusable_pending (c : Nat) (s : State) : ∃ τ, execLinkKeyUnusable c s = .next τ ∧ τ.pending = s.pending := by refine ⟨_, rfl, ?_⟩; (repeat' split) <;> (first | (simp only [txUnusable_pending, advanceToExpiry_pending]; done) | with_reducible rfl | (simp_all; done))
@[simp] theorem releaseClass_pending (p : Nat) (k : Nat) (s : State) : (releaseClass p k s).pending = s.pending := by unfold releaseClass; (repeat' split) <;> (first | (simp only; done) | with_reducible rfl | (simp_all; done))
theorem execFlowControlWord_pending (p : Nat) (k : Nat) (xoff : Bool) (s : State) : ∃ τ, execFlowControlWord p k xoff s = .next τ ∧ τ.pending = s.pending := by refine ⟨_, rfl, ?_⟩; simp only [setPort_pending, releaseClass_pending, ite_pending, ite_self]
@[simp] theorem discardClass_pending (p : Nat) (k : Nat) (s : State) : (discardClass p k s).pending = s.pending := by unfold discardClass; (repeat' split) <;> (first | (simp only; done) | with_reducible rfl | (simp_all; done))
theorem execFcStallExpiry_pending (p : Nat) (k : Nat) (s : State) : ∃ τ, execFcStallExpiry p k s = .next τ ∧ τ.pending = s.pending := by refine ⟨_, rfl, ?_⟩; (repeat' split) <;> (first | (simp only [discardClass_pending, advanceTo_pending]; done) | with_reducible rfl | (simp_all; done))
@[simp] theorem failGraft_pending (c : Nat) (cause : Nat) (s : State) : (failGraft c cause s).pending = s.pending := by simp only [failGraft, bump_pending, setObj_pending, abandonGraft_pending, setGraft_pending]
@[simp] theorem addStep_pending (c : Nat) (x : Step_) (s : State) : (addStep c x s).pending = s.pending := by simp only [addStep, setGraft_pending, ite_pending, ite_self]
@[simp] theorem beginStage_pending (c : Nat) (g : GraftStage) (l : List Step_) (s : State) : (beginStage c g l s).pending = s.pending := by unfold beginStage; (repeat' split) <;> (first | (simp only [admitInternal_pending]; done) | with_reducible rfl | (simp_all; done))
@[simp] theorem sendMsg_pending (c : Nat) (b : Bytes) (pages : Nat) (s : State) : (sendMsg c b pages s).pending = s.pending := by simp only [sendMsg, draw_pending, setGraft_pending]
@[simp] theorem graftTimer_pending (t : Time) (s : State) : (graftTimer t s).pending = s.pending := by simp only [graftTimer, wakeCore_pending, advanceTo_pending]
@[simp] theorem startGraft_pending (c : Nat) (s : State) : (startGraft c s).pending = s.pending := by simp only [startGraft, setGraft_pending, failGraft_pending, draw_pending, beginStage_pending, ite_pending, ite_self]
@[simp] theorem tryStart_pending (c : Nat) (s : State) : (tryStart c s).pending = s.pending := by simp only [tryStart, startGraft_pending, wakeCore_pending, trigger_pending, ite_pending, ite_self]
theorem execGrCRekey_pending (by_ : Caller) (c : Nat) (data : Bytes) (s : State) : ∃ τ, execGrCRekey by_ c data s = .next τ ∧ τ.pending = s.pending := by refine ⟨_, rfl, ?_⟩; simp only [writeAccess_pending, portRule_pending_act, portRule_pending_first, trigger_pending, implies_true, ite_pending, ite_self]
theorem execGraftTriggerStart_pending (c : Nat) (s : State) : ∃ τ, execGraftTriggerStart c s = .next τ ∧ τ.pending = s.pending := by refine ⟨_, rfl, ?_⟩; simp only [tryStart_pending]
theorem execGraftPeriodExpiry_pending (c : Nat) (s : State) : ∃ τ, execGraftPeriodExpiry c s = .next τ ∧ τ.pending = s.pending := by refine ⟨_, rfl, ?_⟩; simp only [graftTimer_pending, trigger_pending, setGraft_pending, ite_pending, ite_self]
theorem execGraftBufferFreed_pending (c : Nat) (s : State) : ∃ τ, execGraftBufferFreed c s = .next τ ∧ τ.pending = s.pending := by refine ⟨_, rfl, ?_⟩; simp only [tryStart_pending, setGraft_pending, ite_pending, ite_self]
@[simp] theorem clearAsm_pending (c : Nat) (s : State) : (clearAsm c s).pending = s.pending := by simp only [clearAsm, setGraft_pending]
@[simp] theorem dropAsm_pending (c : Nat) (s : State) : (dropAsm c s).pending = s.pending := by simp only [dropAsm, bump_pending, clearAsm_pending]
@[simp] theorem completeMsg_pending (c : Nat) (s : State) : (completeMsg c s).pending = s.pending := by unfold completeMsg; dsimp only; (repeat' split) <;> (first | (simp only [clearAsm_pending, bump_pending, setGraft_pending]; done) | with_reducible rfl | (simp_all; done))
@[simp] theorem holdFragment_pending (c : Nat) (idx : Nat) (count : Nat) (off : Nat) (run : Bytes) (s : State) : (holdFragment c idx count off run s).pending = s.pending := by unfold holdFragment; dsimp only; (repeat' split) <;> (first | (simp only [dropAsm_pending, setGraft_pending, completeMsg_pending]; done) | with_reducible rfl | (simp_all; done))
@[simp] theorem fragmentIn_pending (c : Nat) (f : Bytes) (s : State) : (fragmentIn c f s).pending = s.pending := by simp only [fragmentIn, bump_pending, dropAsm_pending, holdFragment_pending, setGraft_pending, ite_pending, ite_self]
theorem execGraftIn_pending (p : Nat) (ch : Nat) (b : Bytes) (s : State) : ∃ τ, execGraftIn p ch b s = .next τ ∧ τ.pending = s.pending := by refine ⟨_, rfl, ?_⟩; simp only [arrivePkt_pending, fragmentIn_pending, wakeCore_pending, implies_true]
theorem execFragmentAssemblyTimeout_pending (c : Nat) (s : State) : ∃ τ, execFragmentAssemblyTimeout c s = .next τ ∧ τ.pending = s.pending := by refine ⟨_, rfl, ?_⟩; (repeat' split) <;> (first | (simp only [dropAsm_pending, graftTimer_pending]; done) | with_reducible rfl | (simp_all; done))
@[simp] theorem dropStale_pending (c : Nat) (type : Nat) (s : State) : (dropStale c type s).pending = s.pending := by unfold dropStale; (repeat' split) <;> (first | (simp only [setGraft_pending]; done) | with_reducible rfl | (simp_all; done))
@[simp] theorem hashTurn_pending (u : Nat) (cyc : Nat) (s : State) : (hashTurn u cyc s).pending = s.pending := by unfold hashTurn; (repeat' split) <;> (first | (simp only [advanceTo_pending, setDigUnit_pending, implies_true, ite_pending, ite_self]; done) | with_reducible rfl | (simp_all; done))
@[simp] theorem hashJob_pending (colour : Nat) (r : CtxRec) (cyc : Nat) (lost : State → State) (done : State → State) (s : State) (h3 : ∀ τ, (lost τ).pending = τ.pending) (h4 : ∀ τ, (done τ).pending = τ.pending) : (hashJob colour r cyc lost done s).pending = s.pending := by unfold hashJob; (repeat' split) <;> (first | (simp only [hashTurn_pending, deviceRefusal_pending, implies_true, ite_pending, ite_self]; done) | with_reducible rfl | (simp_all; done))
@[simp] theorem hashLost_pending (c : Nat) (s : State) : (hashLost c s).pending = s.pending := by simp only [hashLost, failGraft_pending, implies_true, ite_pending, ite_self]
@[simp] theorem graftHash_pending (c : Nat) (cyc : Nat) (done : State → State) (s : State) (h2 : ∀ τ, (done τ).pending = τ.pending) : (graftHash c cyc done s).pending = s.pending := by unfold graftHash; (repeat' split) <;> (first | (simp only [hashJob_pending, hashLost_pending, implies_true, ite_pending, ite_self]; done) | with_reducible rfl | (simp_all; done))
@[simp] theorem respond_pending (c : Nat) (m : Bytes) (s : State) : (respond c m s).pending = s.pending := by simp only [respond, abandonGraft_pending, setGraft_pending, beginStage_pending]
@[simp] theorem collide_pending (c : Nat) (m : Bytes) (s : State) : (collide c m s).pending = s.pending := by simp only [collide, bump_pending, respond_pending, ite_pending, ite_self]
theorem execGraftG1Received_pending (c : Nat) (s : State) : ∃ τ, execGraftG1Received c s = .next τ ∧ τ.pending = s.pending := by refine ⟨_, rfl, ?_⟩; (repeat' split) <;> (first | (simp only [dropStale_pending, setGraft_pending, collide_pending, respond_pending]; done) | with_reducible rfl | (simp_all; done))
theorem execGraftG2Received_pending (c : Nat) (s : State) : ∃ τ, execGraftG2Received c s = .next τ ∧ τ.pending = s.pending := by refine ⟨_, rfl, ?_⟩; (repeat' split) <;> (first | (simp only [dropStale_pending, graftHash_pending, beginStage_pending, setGraft_pending, implies_true, ite_pending, ite_self]; done) | with_reducible rfl | (simp_all; done))
theorem execGraftG3Received_pending (c : Nat) (s : State) : ∃ τ, execGraftG3Received c s = .next τ ∧ τ.pending = s.pending := by refine ⟨_, rfl, ?_⟩; (repeat' split) <;> (first | (simp only [dropStale_pending, setGraft_pending, graftHash_pending, beginStage_pending, implies_true, ite_pending, ite_self]; done) | with_reducible rfl | (simp_all; done))
@[simp] theorem putKey_pending (c : Nat) (usage : Nat) (key : Bytes) (s : State) : (putKey c usage key s).2.pending = s.pending := by simp only [putKey, putSlot_pending, tookHandle_pending]
@[simp] theorem installKeys_pending (c : Nat) (xid : Nat) (txAn : Nat) (rxAn : Nat) (txKey : Bytes) (txSalt : Bytes) (rxKey : Bytes) (rxSalt : Bytes) (s : State) : (installKeys c xid txAn rxAn txKey txSalt rxKey rxSalt s).pending = s.pending := by simp only [installKeys, putKey_pending, settleSlots_pending, setCircuit_pending]
@[simp] theorem keySchedule_pending (c : Nat) (th : Bytes) (s : State) : (keySchedule c th s).pending = s.pending := by simp only [keySchedule, freeRoles_pending, installKeys_pending, ite_pending, ite_self]
@[simp] theorem takeSlots_pending (c : Nat) (s : State) : (takeSlots c s).pending = s.pending := by simp only [takeSlots, setGraft_pending]
@[simp] theorem badMessage_pending (c : Nat) (s : State) : (badMessage c s).pending = s.pending := by simp only [badMessage, setGraft_pending, bump_pending]
@[simp] theorem stageOver_pending (c : Nat) (f : Graft → Graft) (s : State) : (stageOver c f s).pending = s.pending := by simp only [stageOver, setGraft_pending]
@[simp] theorem afterKeygen_pending (c : Nat) (s : State) : (afterKeygen c s).pending = s.pending := by simp only [afterKeygen, failGraft_pending, sendMsg_pending, stageOver_pending, ite_pending, ite_self]
@[simp] theorem afterVerifyG2_pending (c : Nat) (s : State) : (afterVerifyG2 c s).pending = s.pending := by simp only [afterVerifyG2, beginStage_pending, setGraft_pending]
@[simp] theorem afterSecrets_pending (c : Nat) (s : State) : (afterSecrets c s).pending = s.pending := by simp only [afterSecrets, failGraft_pending, graftHash_pending, keySchedule_pending, setGraft_pending, beginStage_pending, implies_true, ite_pending, ite_self]
@[simp] theorem afterSignG3_pending (c : Nat) (s : State) : (afterSignG3 c s).pending = s.pending := by simp only [afterSignG3, failGraft_pending, sendMsg_pending, stageOver_pending, ite_pending, ite_self]
@[simp] theorem signG2_pending (c : Nat) (s : State) : (signG2 c s).pending = s.pending := by simp only [signG2, graftHash_pending, beginStage_pending, setGraft_pending, implies_true, ite_pending, ite_self]
@[simp] theorem afterShare_pending (c : Nat) (s : State) : (afterShare c s).pending = s.pending := by simp only [afterShare, failGraft_pending, draw_pending, setGraft_pending, beginStage_pending, signG2_pending, ite_pending, ite_self]
@[simp] theorem afterSignG2_pending (c : Nat) (s : State) : (afterSignG2 c s).pending = s.pending := by simp only [afterSignG2, failGraft_pending, sendMsg_pending, stageOver_pending, ite_pending, ite_self]
@[simp] theorem afterVerifyG3_pending (c : Nat) (s : State) : (afterVerifyG3 c s).pending = s.pending := by simp only [afterVerifyG3, graftHash_pending, badMessage_pending, failGraft_pending, armGraft_pending, stageOver_pending, keySchedule_pending, implies_true, ite_pending, ite_self]
@[simp] theorem stageEnd_pending (c : Nat) (s : State) : (stageEnd c s).pending = s.pending := by unfold stageEnd; dsimp only; (repeat' split) <;> (first | (simp only [afterKeygen_pending, badMessage_pending, afterVerifyG2_pending, afterSecrets_pending, afterSignG3_pending, afterShare_pending, signG2_pending, afterSignG2_pending, afterVerifyG3_pending]; done) | with_reducible rfl | (simp_all; done))
theorem execGraftStepsDone_pending (c : Nat) (s : State) : ∃ τ, execGraftStepsDone c s = .next τ ∧ τ.pending = s.pending := by refine ⟨_, rfl, ?_⟩; dsimp only; (repeat' split) <;> (first | (simp only [failGraft_pending, stageEnd_pending, takeSlots_pending]; done) | with_reducible rfl | (simp_all; done))
theorem execGraftOutFragment_pending (c : Nat) (s : State) : ∃ τ, execGraftOutFragment c s = .next τ ∧ τ.pending = s.pending := by refine ⟨_, rfl, ?_⟩; dsimp only; (repeat' split) <;> (first | (simp only [setGraft_pending, sendPkt_pending]; done) | with_reducible rfl | (simp_all; done))
theorem execGraftRetryTimeout_pending (c : Nat) (s : State) : ∃ τ, execGraftRetryTimeout c s = .next τ ∧ τ.pending = s.pending := by refine ⟨_, rfl, ?_⟩; (repeat' split) <;> (first | (simp only [graftTimer_pending, bump_pending, setGraft_pending, failGraft_pending, ite_pending, ite_self]; done) | with_reducible rfl | (simp_all; done))
theorem execGraftResponderTimeout_pending (c : Nat) (s : State) : ∃ τ, execGraftResponderTimeout c s = .next τ ∧ τ.pending = s.pending := by refine ⟨_, rfl, ?_⟩; (repeat' split) <;> (first | (simp only [graftTimer_pending, failGraft_pending, startGraft_pending, ite_pending, ite_self]; done) | with_reducible rfl | (simp_all; done))
theorem execGraftArmDelayExpiry_pending (c : Nat) (s : State) : ∃ τ, execGraftArmDelayExpiry c s = .next τ ∧ τ.pending = s.pending := by refine ⟨_, rfl, ?_⟩; (repeat' split) <;> (first | (simp only [armGraft_pending, graftTimer_pending]; done) | with_reducible rfl | (simp_all; done))
theorem execGraftSwitchDelayExpiry_pending (c : Nat) (s : State) : ∃ τ, execGraftSwitchDelayExpiry c s = .next τ ∧ τ.pending = s.pending := by refine ⟨_, rfl, ?_⟩; (repeat' split) <;> (first | (simp only [switchEvent_pending, graftTimer_pending]; done) | with_reducible rfl | (simp_all; done))
theorem execGraftRetryPauseExpiry_pending (c : Nat) (s : State) : ∃ τ, execGraftRetryPauseExpiry c s = .next τ ∧ τ.pending = s.pending := by refine ⟨_, rfl, ?_⟩; (repeat' split) <;> (first | (simp only [graftTimer_pending, setGraft_pending, tryStart_pending, trigger_pending, ite_pending, ite_self]; done) | with_reducible rfl | (simp_all; done))
@[simp] theorem dispatchJob_pending (cls : Nat) (s : State) : (dispatchJob cls s).pending = s.pending := by unfold dispatchJob; (repeat' split) <;> (first | (simp only [setSlice_pending, setEntry_pending, bump_pending, enterCommand_pending]; done) | with_reducible rfl | (simp_all; done))
theorem execDispatch_pending (cls : Nat) (s : State) : ∃ τ, execDispatch cls s = .next τ ∧ τ.pending = s.pending := by refine ⟨_, rfl, ?_⟩; simp only [dispatchJob_pending, ite_pending, ite_self]
@[simp] theorem parkJob_pending (e : Nat) (n : Nat) (x : Entry) (s : State) : (parkJob e n x s).pending = s.pending := by simp only [parkJob, bump_pending, setEntry_pending, freeSlice_pending, writePages_pending, usedFree_pending]
@[simp] theorem segRun_pending (n : Nat) (x : Entry) (s : State) : (segRun n x s).2.pending = s.pending := by unfold segRun; (repeat' split) <;> (first | (simp only [runSlhSign_pending, runHtsKeygen_pending, runCodeKeygen_pending, runRsaKeygen_pending]; done) | with_reducible rfl | (simp_all; done))
@[simp] theorem segRun_pending_rel (n : Nat) (x : Entry) (s : State) : ∀ ρ, ((segRun n x s).1.release ρ).pending = ρ.pending := by intro ρ; unfold segRun; (repeat' split) <;> (first | (simp only [runSlhSign_pending_rel, runHtsKeygen_pending_rel, runCodeKeygen_pending_rel, runRsaKeygen_pending_rel]; done) | with_reducible rfl | (simp_all; done))
@[simp] theorem holdSlot_pending (e : Nat) (x : Entry) (units : Option Nat) (s : State) : (holdSlot e x units s).pending = s.pending := by unfold holdSlot; (repeat' split) <;> (first | (simp only [addWait_pending, setEntry_pending, putSlot_pending, tookHandle_pending]; done) | with_reducible rfl | (simp_all; done))
@[simp] theorem holdLks_pending (e : Nat) (extents : Option Nat) (s : State) : (holdLks e extents s).pending = s.pending := by unfold holdLks; (repeat' split) <;> (first | (simp only [setEntry_pending, putLks_pending]; done) | with_reducible rfl | (simp_all; done))
@[simp] theorem segCheck_pending (e : Nat) (n : Nat) (x : Entry) (s : State) : (segCheck e n x s).pending = s.pending := by
  unfold segCheck
  split
  · exact setEntry_pending _ _ _
  · dsimp only
    split
    · exact finish_pending _ _ _ (fun _ => rfl)
    · rw [holdLks_pending, holdSlot_pending, setSlice_pending, checkDraws_pending]
@[simp] theorem endSegment_pending (e : Nat) (n : Nat) (x : Entry) (s : State) : (endSegment e n x s).pending = s.pending := by simp only [endSegment, settleOwed_pending, parkJob_pending, bump_pending, setEntry_pending, ite_pending, ite_self]
theorem execSegmentYield_pending (e : Nat) (s : State) : ∃ τ, execSegmentYield e s = .next τ ∧ τ.pending = s.pending := by refine ⟨_, rfl, ?_⟩; dsimp only; (repeat' split) <;> (first | (simp only [segCheck_pending, endSegment_pending]; done) | with_reducible rfl | (simp_all; done))
theorem execJobResume_pending (e : Nat) (tagOk : Bool) (s : State) : ∃ τ, execJobResume e tagOk s = .next τ ∧ τ.pending = s.pending := by refine ⟨_, rfl, ?_⟩; (repeat' split) <;> (first | (simp only [stopJob_pending, setEntry_pending, setSlice_pending, reinitSlice_pending, tamperEvent_pending, bump_pending, ite_pending, ite_self]; done) | with_reducible rfl | (simp_all; done))
@[simp] theorem firstPass_pending (n : Nat) (k : Nat) (s : State) : (firstPass n k s).pending = s.pending := by simp only [firstPass, draw_pending, setSlice_pending, ite_pending, ite_self]
@[simp] theorem scrubJob_pending (e : Nat) (n : Nat) (x : Entry) (s : State) : (scrubJob e n x s).pending = s.pending := by simp only [scrubJob, tagPages_pending, firstPass_pending, admitInternal_pending, setEntry_pending]
theorem execAbortScrub_pending (e : Nat) (s : State) : ∃ τ, execAbortScrub e s = .next τ ∧ τ.pending = s.pending := by refine ⟨_, rfl, ?_⟩; (repeat' split) <;> (first | (simp only [freeSlice_pending, scrubJob_pending]; done) | with_reducible rfl | (simp_all; done))
theorem execScrubTakeover_pending (n : Nat) (s : State) : ∃ τ, execScrubTakeover n s = .next τ ∧ τ.pending = s.pending := by refine ⟨_, rfl, ?_⟩; dsimp only; (repeat' split) <;> (first | (simp only [idle_pending, setSlice_pending, implies_true, ite_pending, ite_self]; done) | with_reducible rfl | (simp_all; done))
theorem execSliceReinitComplete_pending (n : Nat) (s : State) : ∃ τ, execSliceReinitComplete n s = .next τ ∧ τ.pending = s.pending := by refine ⟨_, rfl, ?_⟩; dsimp only; (repeat' split) <;> (first | (simp only [advanceTo_pending, setSlice_pending, idle_pending, implies_true, ite_pending, ite_self]; done) | with_reducible rfl | (simp_all; done))
theorem execSliceWdogBite_pending (e : Nat) (s : State) : ∃ τ, execSliceWdogBite e s = .next τ ∧ τ.pending = s.pending := by refine ⟨_, rfl, ?_⟩; dsimp only; (repeat' split) <;> (first | (simp only [usedFree_pending, advanceTo_pending, bump_pending, setEntry_pending, setSlice_pending, fenceSlice_pending, stopJob_pending, reinitSlice_pending]; done) | with_reducible rfl | (simp_all; done))
theorem execUnitWdogBite_pending (u : Nat) (s : State) : ∃ τ, execUnitWdogBite u s = .next τ ∧ τ.pending = s.pending := by refine ⟨_, rfl, ?_⟩; dsimp only; (repeat' split) <;> (first | (simp only [advanceTo_pending, bump_pending, stopJob_pending, fenceDigest_pending, setDigUnit_pending]; done) | with_reducible rfl | (simp_all; done))
@[simp] theorem benchDecide_pending (b : Nat) (cycle : Nat) (reqs : List BenchReq) (s : State) : (benchDecide b cycle reqs s).pending = s.pending := by unfold benchDecide; dsimp only; (repeat' split) <;> (first | (simp only [setBench_pending, bumpBy_pending, bump_pending, deviceRefusal_pending]; done) | with_reducible rfl | (simp_all; done))
theorem execBenchRequest_pending (b : Nat) (cycle : Nat) (reqs : List BenchReq) (s : State) : ∃ τ, execBenchRequest b cycle reqs s = .next τ ∧ τ.pending = s.pending := by refine ⟨_, rfl, ?_⟩; simp only [benchDecide_pending, rouseEngine_pending, ite_pending, ite_self]
theorem execBenchWdogBite_pending (b : Nat) (s : State) : ∃ τ, execBenchWdogBite b s = .next τ ∧ τ.pending = s.pending := by refine ⟨_, rfl, ?_⟩; dsimp only; (repeat' split) <;> (first | (simp only [setBench_pending, setObj_pending, bump_pending, stopJob_pending, reinitSlice_pending, fenceRequester_pending]; done) | with_reducible rfl | (simp_all; done))
theorem execArbModeApply_pending (b : Nat) (s : State) : ∃ τ, execArbModeApply b s = .next τ ∧ τ.pending = s.pending := by refine ⟨_, rfl, ?_⟩; simp only [setBench_pending, ite_pending, ite_self]
@[simp] theorem forgetRefusals_pending (t : Nat) (s : State) : (forgetRefusals t s).pending = s.pending := by simp only [forgetRefusals]
@[simp] theorem createTenant_pending (t : Nat) (s : State) : (createTenant t s).pending = s.pending := by unfold createTenant; (repeat' split) <;> (first | (simp only [setObj_pending, setPair_pending]; done) | with_reducible rfl | (simp_all; done))
@[simp] theorem createRule_pending_act (t : Nat) (s : State) : ∀ τ, ((createRule t s).act τ).pending = τ.pending := by intro τ; unfold createRule; dsimp only; (repeat' split) <;> (first | (simp only [createTenant_pending]; done) | with_reducible rfl | (simp_all; done))
@[simp] theorem createRule_pending_first (t : Nat) (s : State) : ∀ τ, ((createRule t s).first τ).1.pending = τ.pending := by simp [createRule]
theorem execTenantCreate_pending (c : Caller) (t : Nat) (data : Bytes) (s : State) : ∃ τ, execTenantCreate c t data s = .next τ ∧ τ.pending = s.pending := by refine ⟨_, rfl, ?_⟩; simp only [writeAccess_pending, createRule_pending_act, createRule_pending_first, implies_true, ite_pending, ite_self]
@[simp] theorem flushJob_pending (e : Nat) (s : State) : (flushJob e s).pending = s.pending := by unfold flushJob; (repeat' split) <;> (first | (simp only [idle_pending, completeJob_pending, setEntry_pending, implies_true, ite_pending, ite_self]; done) | with_reducible rfl | (simp_all; done))
@[simp] theorem endPairJobs_pending (t : Nat) (s : State) : (endPairJobs t s).pending = s.pending := by unfold endPairJobs; (repeat' split) <;> (first | (simp only; done) | with_reducible rfl | (simp_all; done))
@[simp] theorem unassignCells_pending (t : Nat) (s : State) : (unassignCells t s).pending = s.pending := by unfold unassignCells; (repeat' split) <;> (first | (simp only; done) | with_reducible rfl | (simp_all; done))
@[simp] theorem unbindAll_pending (t : Nat) (s : State) : (unbindAll t s).pending = s.pending := by unfold unbindAll; (repeat' split) <;> (first | (simp only; done) | with_reducible rfl | (simp_all; done))
@[simp] theorem freeColour_pending (colour : Nat) (s : State) : (freeColour colour s).pending = s.pending := by unfold freeColour; (repeat' split) <;> (first | (simp only [wipeFreeLks_pending]; done) | with_reducible rfl | (simp_all; done))
@[simp] theorem orphanMeas_pending (colour : Nat) (s : State) : (orphanMeas colour s).pending = s.pending := by
  unfold orphanMeas
  exact foldl_pending _ (fun t i => by split <;> simp) _ _
@[simp] theorem freeGranules_pending (colour : Nat) (s : State) : (freeGranules colour s).pending = s.pending := by simp only [freeGranules]
@[simp] theorem takeHalf_pending (s : State) : (takeHalf s).pending = s.pending := by unfold takeHalf; (repeat' split) <;> (first | (simp only; done) | with_reducible rfl | (simp_all; done))
@[simp] theorem archiveDrop_pending (colour : Nat) (s0 : State) : (archiveDrop colour s0).pending = s0.pending := by simp only [archiveDrop, takeHalf_pending, compactArchive_pending, writeArch_pending, ite_pending, ite_self]
@[simp] theorem clearRecord_pending (t : Nat) (s : State) : (clearRecord t s).pending = s.pending := by unfold clearRecord; (repeat' split) <;> (first | (simp only [setPair_pending, forgetRefusals_pending]; done) | with_reducible rfl | (simp_all; done))
@[simp] theorem deleteTenant_pending (t : Nat) (s : State) : (deleteTenant t s).pending = s.pending := by simp only [deleteTenant, endPairJobs_pending, stopPair_pending, setObj_pending, freeColour_pending, unbindAll_pending, unassignCells_pending, clearRecord_pending, archiveDrop_pending, freeGranules_pending, orphanMeas_pending]
@[simp] theorem deleteRule_pending_act (t : Nat) (s : State) : ∀ τ, ((deleteRule t s).act τ).pending = τ.pending := by intro τ; unfold deleteRule; dsimp only; (repeat' split) <;> (first | (simp only [deleteTenant_pending]; done) | with_reducible rfl | (simp_all; done))
@[simp] theorem deleteRule_pending_first (t : Nat) (s : State) : ∀ τ, ((deleteRule t s).first τ).1.pending = τ.pending := by simp [deleteRule]
theorem execTenantDelete_pending (c : Caller) (t : Nat) (data : Bytes) (s : State) : ∃ τ, execTenantDelete c t data s = .next τ ∧ τ.pending = s.pending := by refine ⟨_, rfl, ?_⟩; simp only [writeAccess_pending, deleteRule_pending_act, deleteRule_pending_first, implies_true, ite_pending, ite_self]
@[simp] theorem fenceRule_pending_act (t : Nat) (act : State → State) (s : State) (h1 : ∀ τ, (act τ).pending = τ.pending) : ∀ τ, ((fenceRule t act s).act τ).pending = τ.pending := by intro τ; unfold fenceRule; dsimp only; (repeat' split) <;> (first | (simp only [implies_true, ite_pending, ite_self]; done) | with_reducible rfl | (simp_all; done))
@[simp] theorem fenceRule_pending_first (t : Nat) (act : State → State) (s : State) (h1 : ∀ τ, (act τ).pending = τ.pending) : ∀ τ, ((fenceRule t act s).first τ).1.pending = τ.pending := by simp [fenceRule]
@[simp] theorem operatorFence_pending (t : Nat) (s : State) : (operatorFence t s).pending = s.pending := by simp only [operatorFence, setObj_pending, fenceTenant_pending, ite_pending, ite_self]
theorem execTenantFenceSet_pending (c : Caller) (t : Nat) (s : State) : ∃ τ, execTenantFenceSet c t s = .next τ ∧ τ.pending = s.pending := by refine ⟨_, rfl, ?_⟩; simp only [writeAccess_pending, fenceRule_pending_act, fenceRule_pending_first, operatorFence_pending, implies_true, ite_pending, ite_self]
@[simp] theorem unfencePair_pending (t : Nat) (s : State) : (unfencePair t s).pending = s.pending := by simp only [unfencePair, setPair_pending, ite_pending, ite_self]
@[simp] theorem unfenceTenant_pending (t : Nat) (s : State) : (unfenceTenant t s).pending = s.pending := by simp only [unfenceTenant, setObj_pending, forgetRefusals_pending, unfencePair_pending, ite_pending, ite_self]
theorem execTenantUnfence_pending (c : Caller) (t : Nat) (s : State) : ∃ τ, execTenantUnfence c t s = .next τ ∧ τ.pending = s.pending := by refine ⟨_, rfl, ?_⟩; simp only [writeAccess_pending, fenceRule_pending_act, fenceRule_pending_first, unfenceTenant_pending, implies_true, ite_pending, ite_self]
@[simp] theorem tenantRule_pending_act (t : Nat) (id : ObjId) (data : Bytes) (s : State) : ∀ τ, ((tenantRule t id data s).act τ).pending = τ.pending := by intro τ; unfold tenantRule; dsimp only; (repeat' split) <;> (first | (simp only [plainRule_pending_act]; done) | with_reducible rfl | (simp_all; done))
@[simp] theorem tenantRule_pending_first (t : Nat) (id : ObjId) (data : Bytes) (s : State) : ∀ τ, ((tenantRule t id data s).first τ).1.pending = τ.pending := by intro τ; unfold tenantRule; dsimp only; (repeat' split) <;> (first | (simp only [plainRule_pending_first]; done) | with_reducible rfl | (simp_all; done))
theorem execTenantQuotaWrite_pending (c : Caller) (t : Nat) (sub : Nat) (data : Bytes) (s : State) : ∃ τ, execTenantQuotaWrite c t sub data s = .next τ ∧ τ.pending = s.pending := by refine ⟨_, rfl, ?_⟩; simp only [writeAccess_pending, tenantRule_pending_act, tenantRule_pending_first, implies_true, ite_pending, ite_self]
@[simp] theorem applyRules_pending (cls : Nat) (s : State) : (applyRules cls s).pending = s.pending := by simp only [applyRules, setObj_pending]
@[simp] theorem ruleWrite_pending_act (cls : Nat) (e : Nat) (data : Bytes) (s : State) : ∀ τ, ((ruleWrite cls e data s).act τ).pending = τ.pending := by intro τ; unfold ruleWrite; dsimp only; (repeat' split) <;> (first | (simp only; done) | with_reducible rfl | (simp_all; done))
@[simp] theorem ruleWrite_pending_first (cls : Nat) (e : Nat) (data : Bytes) (s : State) : ∀ τ, ((ruleWrite cls e data s).first τ).1.pending = τ.pending := by simp [ruleWrite]
@[simp] theorem askCommit_pending (cls : Nat) (s : State) : (askCommit cls s).pending = s.pending := by simp only [askCommit, setObj_pending, eachBench_pending]
@[simp] theorem commitRule_pending_act (data : Bytes) (s : State) : ∀ τ, ((commitRule data s).act τ).pending = τ.pending := by intro τ; unfold commitRule; dsimp only; (repeat' split) <;> (first | (simp only [portRule_pending_act, askCommit_pending, implies_true]; done) | with_reducible rfl | (simp_all; done))
@[simp] theorem commitRule_pending_first (data : Bytes) (s : State) : ∀ τ, ((commitRule data s).first τ).1.pending = τ.pending := by intro τ; unfold commitRule; dsimp only; (repeat' split) <;> (first | (simp only [portRule_pending_first, askCommit_pending, implies_true]; done) | with_reducible rfl | (simp_all; done))
theorem execIsoRuleCommit_pending (c : Caller) (data : Bytes) (s : State) : ∃ τ, execIsoRuleCommit c data s = .next τ ∧ τ.pending = s.pending := by refine ⟨_, rfl, ?_⟩; simp only [writeAccess_pending, commitRule_pending_act, commitRule_pending_first, implies_true]
theorem execRuleChangeApply_pending (s : State) : ∃ τ, execRuleChangeApply s = .next τ ∧ τ.pending = s.pending := by refine ⟨_, rfl, ?_⟩; (repeat' split) <;> (first | (simp only [eachBench_pending, applyRules_pending]; done) | with_reducible rfl | (simp_all; done))
theorem execIsoTagQuery_pending (c : Caller) (data : Bytes) (s : State) : ∃ τ, execIsoTagQuery c data s = .next τ ∧ τ.pending = s.pending := by refine ⟨_, rfl, ?_⟩; simp only [writeAccess_pending, portRule_pending_act, portRule_pending_first, setObj_pending, implies_true]
@[simp] theorem loseVolatile_pending (counts : Bool) (s : State) : (loseVolatile counts s).pending = s.pending := by unfold loseVolatile; (repeat' split) <;> (first | (simp only [request_pending, implies_true, ite_pending, ite_self]; done) | with_reducible rfl | (simp_all; done))
@[simp] theorem resetDevice_pending (cause : Nat) (bootSel : Nat) (s : State) : (resetDevice cause bootSel s).pending = s.pending := by simp only [resetDevice, loseVolatile_pending, stopSigns_pending]
@[simp] theorem scheduleReset_pending (cause : Nat) (t : Time) (s : State) : (scheduleReset cause t s).pending = s.pending := by simp only [scheduleReset]
@[simp] theorem aonStops_pending (s : State) : (aonStops s).pending = s.pending := by simp only [aonStops, eraseBbram_pending]
@[simp] theorem giveEvent_pending (n : Nat) (u : UnitRef) (value : Nat) (s : State) : (giveEvent n u value s).pending = s.pending := by simp only [giveEvent, tamperEvent_pending, setSource_pending, ite_pending, ite_self]
@[simp] theorem fastEvent_pending (n : Nat) (u : UnitRef) (value : Nat) (s : State) : (fastEvent n u value s).pending = s.pending := by unfold fastEvent; dsimp only; (repeat' split) <;> (first | (simp only [setSource_pending, giveEvent_pending]; done) | with_reducible rfl | (simp_all; done))
theorem execTamperEvent_pending (n : Nat) (u : UnitRef) (value : Nat) (fast : Bool) (s : State) : ∃ τ, execTamperEvent n u value fast s = .next τ ∧ τ.pending = s.pending := by refine ⟨_, rfl, ?_⟩; simp only [fastEvent_pending, giveEvent_pending, setSource_pending, ite_pending, ite_self]
@[simp] theorem sampleSource_pending (n : Nat) (out : Bool) (value : Nat) (s : State) : (sampleSource n out value s).pending = s.pending := by simp only [sampleSource, setSource_pending, giveEvent_pending, ite_pending, ite_self]
@[simp] theorem sampleVbat_pending (mv : Nat) (s : State) : (sampleVbat mv s).pending = s.pending := by simp only [sampleVbat, sampleSource_pending, setSource_pending, ite_pending, ite_self]
theorem execSupplySample_pending (core : Nat) (sram : Nat) (io18 : Nat) (vbat : Nat) (temps : List Int) (s : State) : ∃ τ, execSupplySample core sram io18 vbat temps s = .next τ ∧ τ.pending = s.pending := by refine ⟨_, rfl, ?_⟩; simp only [advanceTo_pending, sampleSource_pending, sampleVbat_pending, ite_pending, ite_self]
theorem execMeshSample_pending (pair : Nat) (sensed : Bool) (s : State) : ∃ τ, execMeshSample pair sensed s = .next τ ∧ τ.pending = s.pending := by refine ⟨_, rfl, ?_⟩; simp only [advanceTo_pending, setSource_pending, giveEvent_pending, ite_pending, ite_self]
theorem execZeroNPress_pending (s : State) : ∃ τ, execZeroNPress s = .next τ ∧ τ.pending = s.pending := by refine ⟨_, rfl, ?_⟩; simp only [giveEvent_pending]
@[simp] theorem logFlag_pending (n : Nat) (flags : Nat) (s : State) : (logFlag n flags s).pending = s.pending := by simp only [logFlag, logTamper_pending, ite_pending, ite_self]
theorem execInputStuck_pending (n : Nat) (s : State) : ∃ τ, execInputStuck n s = .next τ ∧ τ.pending = s.pending := by refine ⟨_, rfl, ?_⟩; simp only [advanceTo_pending, logFlag_pending, setSource_pending, ite_pending, ite_self]
theorem execStuckClear_pending (n : Nat) (s : State) : ∃ τ, execStuckClear n s = .next τ ∧ τ.pending = s.pending := by refine ⟨_, rfl, ?_⟩; simp only [advanceTo_pending, setSource_pending, ite_pending, ite_self]
theorem execInputChatter_pending (n : Nat) (s : State) : ∃ τ, execInputChatter n s = .next τ ∧ τ.pending = s.pending := by refine ⟨_, rfl, ?_⟩; dsimp only; (repeat' split) <;> (first | (simp only [advanceTo_pending, confirm_pending, setSource_pending]; done) | with_reducible rfl | (simp_all; done))
theorem execChatterClear_pending (n : Nat) (s : State) : ∃ τ, execChatterClear n s = .next τ ∧ τ.pending = s.pending := by refine ⟨_, rfl, ?_⟩; simp only [advanceTo_pending, setSource_pending, ite_pending, ite_self]
theorem execHoldExpiry_pending (s : State) : ∃ τ, execHoldExpiry s = .next τ ∧ τ.pending = s.pending := by refine ⟨_, rfl, ?_⟩; (repeat' split) <;> (first | (simp only [advanceTo_pending]; done) | with_reducible rfl | (simp_all; done))
@[simp] theorem drivePin_pending (before : Bool) (s : State) : (drivePin before s).pending = s.pending := by simp only [drivePin, alarmPin_pending, ite_pending, ite_self]
theorem execAlarmPinPulseEnd_pending (s : State) : ∃ τ, execAlarmPinPulseEnd s = .next τ ∧ τ.pending = s.pending := by refine ⟨_, rfl, ?_⟩; (repeat' split) <;> (first | (simp only [advanceTo_pending, drivePin_pending]; done) | with_reducible rfl | (simp_all; done))
theorem execPowerLossDetect_pending (core : Nat) (sram : Nat) (io18 : Nat) (vbat : Nat) (s : State) : ∃ τ, execPowerLossDetect core sram io18 vbat s = .next τ ∧ τ.pending = s.pending := by refine ⟨_, rfl, ?_⟩; simp only [loseVolatile_pending, stopSigns_pending, aonStops_pending, ite_pending, ite_self]
theorem execPdnWindowExpiry_pending (s : State) : ∃ τ, execPdnWindowExpiry s = .next τ ∧ τ.pending = s.pending := by refine ⟨_, rfl, ?_⟩; (repeat' split) <;> (first | (simp only [advanceTo_pending, tamperEventAt_pending]; done) | with_reducible rfl | (simp_all; done))
theorem execAonDomainStop_pending (s : State) : ∃ τ, execAonDomainStop s = .next τ ∧ τ.pending = s.pending := by refine ⟨_, rfl, ?_⟩; simp only [aonStops_pending, ite_pending, ite_self]
@[simp] theorem cfgRule_pending_act (n : Nat) (data : Bytes) (s : State) : ∀ τ, ((cfgRule n data s).act τ).pending = τ.pending := by intro τ; unfold cfgRule; dsimp only; (repeat' split) <;> (first | (simp only [plainRule_pending_act]; done) | with_reducible rfl | (simp_all; done))
@[simp] theorem cfgRule_pending_first (n : Nat) (data : Bytes) (s : State) : ∀ τ, ((cfgRule n data s).first τ).1.pending = τ.pending := by intro τ; unfold cfgRule; dsimp only; (repeat' split) <;> (first | (simp only [plainRule_pending_first]; done) | with_reducible rfl | (simp_all; done))
theorem execTamperCfgWrite_pending (c : Caller) (src : Nat) (data : Bytes) (s : State) : ∃ τ, execTamperCfgWrite c src data s = .next τ ∧ τ.pending = s.pending := by refine ⟨_, rfl, ?_⟩; simp only [writeAccess_pending, cfgRule_pending_act, cfgRule_pending_first, implies_true, ite_pending, ite_self]
@[simp] theorem cmdRule_pending_act (act : State → State) (h0 : ∀ τ, (act τ).pending = τ.pending) : ∀ τ, ((cmdRule act).act τ).pending = τ.pending := by intro τ; unfold cmdRule; dsimp only; (repeat' split) <;> (first | (simp only [implies_true, ite_pending, ite_self]; done) | with_reducible rfl | (simp_all; done))
@[simp] theorem cmdRule_pending_first (act : State → State) (h0 : ∀ τ, (act τ).pending = τ.pending) : ∀ τ, ((cmdRule act).first τ).1.pending = τ.pending := by simp [cmdRule]
@[simp] theorem lockObjs_pending (l : List ObjId) (s : State) : (lockObjs l s).pending = s.pending := by simp only [lockObjs]
theorem execTmpLock_pending (c : Caller) (data : Bytes) (s : State) : ∃ τ, execTmpLock c data s = .next τ ∧ τ.pending = s.pending := by refine ⟨_, rfl, ?_⟩; simp only [writeAccess_pending, cmdRule_pending_act, cmdRule_pending_first, lockObjs_pending, implies_true]
@[simp] theorem activateIfDue_pending (s : State) : (activateIfDue s).pending = s.pending := by simp only [activateIfDue, scheduleReset_pending, ite_pending, ite_self]
@[simp] theorem releaseHeld_pending (s : State) : (releaseHeld s).pending = s.pending := by simp only [releaseHeld, setObj_pending, noticed_pending, drivePin_pending, activateIfDue_pending, renewPolls_pending, ite_pending, ite_self]
@[simp] theorem releaseRule_pending_act (data : Bytes) (s : State) : ∀ τ, ((releaseRule data s).act τ).pending = τ.pending := by intro τ; unfold releaseRule; dsimp only; (repeat' split) <;> (first | (simp only [releaseHeld_pending]; done) | with_reducible rfl | (simp_all; done))
@[simp] theorem releaseRule_pending_first (data : Bytes) (s : State) : ∀ τ, ((releaseRule data s).first τ).1.pending = τ.pending := by simp [releaseRule]
theorem execTmpRelease_pending (c : Caller) (data : Bytes) (s : State) : ∃ τ, execTmpRelease c data s = .next τ ∧ τ.pending = s.pending := by refine ⟨_, rfl, ?_⟩; simp only [writeAccess_pending, releaseRule_pending_act, releaseRule_pending_first, implies_true]
@[simp] theorem clearLatch_pending (s : State) : (clearLatch s).pending = s.pending := by simp only [clearLatch, setObj_pending]
theorem execTmpAonClear_pending (c : Caller) (data : Bytes) (s : State) : ∃ τ, execTmpAonClear c data s = .next τ ∧ τ.pending = s.pending := by refine ⟨_, rfl, ?_⟩; simp only [writeAccess_pending, cmdRule_pending_act, cmdRule_pending_first, clearLatch_pending, implies_true]
theorem execTmpQuorumCancel_pending (c : Caller) (data : Bytes) (s : State) : ∃ τ, execTmpQuorumCancel c data s = .next τ ∧ τ.pending = s.pending := by refine ⟨_, rfl, ?_⟩; simp only [writeAccess_pending, cmdRule_pending_act, cmdRule_pending_first, dropAct_pending, implies_true]
theorem execQuorumExpiry_pending (s : State) : ∃ τ, execQuorumExpiry s = .next τ ∧ τ.pending = s.pending := by refine ⟨_, rfl, ?_⟩; (repeat' split) <;> (first | (simp only [dropAct_pending, advanceTo_pending]; done) | with_reducible rfl | (simp_all; done))
@[simp] theorem closeCard_pending (s : State) : (closeCard s).pending = s.pending := by unfold closeCard; (repeat' split) <;> (first | (simp only [noticed_pending]; done) | with_reducible rfl | (simp_all; done))
@[simp] theorem officerChanged_pending (o : Nat) (s : State) : (officerChanged o s).pending = s.pending := by simp only [officerChanged, closeCard_pending, ite_pending, ite_self]
@[simp] theorem enrolRule_pending_act (o : Nat) (data : Bytes) (s : State) : ∀ τ, ((enrolRule o data s).act τ).pending = τ.pending := by intro τ; unfold enrolRule; dsimp only; (repeat' split) <;> (first | (simp only [officerChanged_pending, noticed_pending, setObj_pending]; done) | with_reducible rfl | (simp_all; done))
@[simp] theorem enrolRule_pending_first (o : Nat) (data : Bytes) (s : State) : ∀ τ, ((enrolRule o data s).first τ).1.pending = τ.pending := by intro τ; unfold enrolRule; dsimp only; (repeat' split) <;> (first | (simp only [plainRule_pending_first]; done) | with_reducible rfl | (simp_all; done))
theorem execOfficerEnrolWrite_pending (c : Caller) (o : Nat) (data : Bytes) (s : State) : ∃ τ, execOfficerEnrolWrite c o data s = .next τ ∧ τ.pending = s.pending := by refine ⟨_, rfl, ?_⟩; simp only [writeAccess_pending, enrolRule_pending_act, enrolRule_pending_first, implies_true, ite_pending, ite_self]
@[simp] theorem endPlan_pending (r : PlanRun) (s : State) : (endPlan r s).pending = s.pending := by simp only [endPlan, setDivider_pending, setObj_pending, noticed_pending, ite_pending, ite_self]
@[simp] theorem carryOn_pending (s : State) : (carryOn s).pending = s.pending := by unfold carryOn; dsimp only; (repeat' split) <;> (first | (simp only [endPlan_pending]; done) | with_reducible rfl | (simp_all; done))
@[simp] theorem beginPlan_pending (m : GaugeData) (s : State) : (beginPlan m s).pending = s.pending := by simp only [beginPlan, carryOn_pending, setObj_pending]
theorem execGaugeReplanDue_pending (m : GaugeData) (s : State) : ∃ τ, execGaugeReplanDue m s = .next τ ∧ τ.pending = s.pending := by refine ⟨_, rfl, ?_⟩; simp only [wakeCore_pending, advanceTo_pending, beginPlan_pending, ite_pending, ite_self]
@[simp] theorem replanRule_pending_act (m : GaugeData) (s : State) : ∀ τ, ((replanRule m s).act τ).pending = τ.pending := by intro τ; unfold replanRule; dsimp only; (repeat' split) <;> (first | (simp only [beginPlan_pending]; done) | with_reducible rfl | (simp_all; done))
@[simp] theorem replanRule_pending_first (m : GaugeData) (s : State) : ∀ τ, ((replanRule m s).first τ).1.pending = τ.pending := by simp [replanRule]
theorem execPwrReplan_pending (c : Caller) (m : GaugeData) (data : Bytes) (s : State) : ∃ τ, execPwrReplan c m data s = .next τ ∧ τ.pending = s.pending := by refine ⟨_, rfl, ?_⟩; simp only [writeAccess_pending, replanRule_pending_act, replanRule_pending_first, implies_true]
@[simp] theorem writeVout_pending (mv : Nat) (s : State) : (writeVout mv s).pending = s.pending := by simp only [writeVout, emit_pending]
theorem execVoutStep_pending (s : State) : ∃ τ, execVoutStep s = .next τ ∧ τ.pending = s.pending := by refine ⟨_, rfl, ?_⟩; (repeat' split) <;> (first | (simp only [carryOn_pending, advanceTo_pending, writeVout_pending]; done) | with_reducible rfl | (simp_all; done))
theorem execPmbusWriteResult_pending (ack : Bool) (pec : Bool) (readMv : Nat) (s : State) : ∃ τ, execPmbusWriteResult ack pec readMv s = .next τ ∧ τ.pending = s.pending := by refine ⟨_, rfl, ?_⟩; (repeat' split) <;> (first | (simp only [advanceTo_pending, setObj_pending, writeVout_pending, bump_pending, carryOn_pending, ite_pending, ite_self]; done) | with_reducible rfl | (simp_all; done))
theorem execPmAlert_pending (status : Nat) (s : State) : ∃ τ, execPmAlert status s = .next τ ∧ τ.pending = s.pending := by refine ⟨_, rfl, ?_⟩; simp only [setObj_pending, ite_pending, ite_self]
@[simp] theorem idleRule_pending_act (id : ObjId) (data : Bytes) : ∀ τ, ((idleRule id data).act τ).pending = τ.pending := by intro τ; unfold idleRule; dsimp only; (repeat' split) <;> (first | (simp only [plainRule_pending_act]; done) | with_reducible rfl | (simp_all; done))
@[simp] theorem idleRule_pending_first (id : ObjId) (data : Bytes) : ∀ τ, ((idleRule id data).first τ).1.pending = τ.pending := by intro τ; unfold idleRule; dsimp only; (repeat' split) <;> (first | (simp only [plainRule_pending_first]; done) | with_reducible rfl | (simp_all; done))
theorem execSlicePowerGate_pending (n : Nat) (s : State) : ∃ τ, execSlicePowerGate n s = .next τ ∧ τ.pending = s.pending := by refine ⟨_, rfl, ?_⟩; dsimp only; (repeat' split) <;> (first | (simp only [idle_pending, setSlice_pending, advanceTo_pending, implies_true, ite_pending, ite_self]; done) | with_reducible rfl | (simp_all; done))
theorem execEngineClockGate_pending (s : State) : ∃ τ, execEngineClockGate s = .next τ ∧ τ.pending = s.pending := by refine ⟨_, rfl, ?_⟩; simp only [advanceTo_pending, ite_pending, ite_self]
theorem execPllStop_pending (s : State) : ∃ τ, execPllStop s = .next τ ∧ τ.pending = s.pending := by refine ⟨_, rfl, ?_⟩; simp only [ite_pending, ite_self]
theorem execTsuowRetention_pending (s : State) : ∃ τ, execTsuowRetention s = .next τ ∧ τ.pending = s.pending := by refine ⟨_, rfl, ?_⟩; simp only [advanceTo_pending, ite_pending, ite_self]
@[simp] theorem setRtc_pending (v : Nat) (s : State) : (setRtc v s).pending = s.pending := by simp only [setRtc, setObj_pending]
@[simp] theorem rtcRule_pending_act (data : Bytes) : ∀ τ, ((rtcRule data).act τ).pending = τ.pending := by intro τ; simp only [rtcRule]; (repeat' split) <;> (first | (simp only [cmdRule_pending_act, setRtc_pending, implies_true]; done) | with_reducible rfl | (simp_all; done))
@[simp] theorem rtcRule_pending_first (data : Bytes) : ∀ τ, ((rtcRule data).first τ).1.pending = τ.pending := by intro τ; simp only [rtcRule]; (repeat' split) <;> (first | (simp only [cmdRule_pending_first, setRtc_pending, implies_true]; done) | with_reducible rfl | (simp_all; done))
theorem execPwrRtcWrite_pending (c : Caller) (data : Bytes) (s : State) : ∃ τ, execPwrRtcWrite c data s = .next τ ∧ τ.pending = s.pending := by refine ⟨_, rfl, ?_⟩; simp only [writeAccess_pending, rtcRule_pending_act, rtcRule_pending_first, implies_true]
@[simp] theorem beginReinit_pending (u : ReUnit) (s : State) : (beginReinit u s).pending = s.pending := by unfold beginReinit; (repeat' split) <;> (first | (simp only [setSlice_pending, setDigUnit_pending, setPipe_pending, setObj_pending]; done) | with_reducible rfl | (simp_all; done))
@[simp] theorem reinitRule_pending_act (u : ReUnit) (s : State) : ∀ τ, ((reinitRule u s).act τ).pending = τ.pending := by intro τ; unfold reinitRule; dsimp only; (repeat' split) <;> (first | (simp only [beginReinit_pending]; done) | with_reducible rfl | (simp_all; done))
@[simp] theorem reinitRule_pending_first (u : ReUnit) (s : State) : ∀ τ, ((reinitRule u s).first τ).1.pending = τ.pending := by simp [reinitRule]
theorem execErrSliceReinit_pending (c : Caller) (data : Bytes) (s : State) : ∃ τ, execErrSliceReinit c data s = .next τ ∧ τ.pending = s.pending := by refine ⟨_, rfl, ?_⟩; simp only [writeAccess_pending, reinitRule_pending_act, reinitRule_pending_first, implies_true]
theorem execErrReqReinit_pending (c : Caller) (data : Bytes) (s : State) : ∃ τ, execErrReqReinit c data s = .next τ ∧ τ.pending = s.pending := by refine ⟨_, rfl, ?_⟩; simp only [writeAccess_pending, reinitRule_pending_act, reinitRule_pending_first, implies_true]
theorem execErrDigReinit_pending (c : Caller) (data : Bytes) (s : State) : ∃ τ, execErrDigReinit c data s = .next τ ∧ τ.pending = s.pending := by refine ⟨_, rfl, ?_⟩; simp only [writeAccess_pending, reinitRule_pending_act, reinitRule_pending_first, implies_true]
theorem execErrPipeReinit_pending (c : Caller) (data : Bytes) (s : State) : ∃ τ, execErrPipeReinit c data s = .next τ ∧ τ.pending = s.pending := by refine ⟨_, rfl, ?_⟩; simp only [writeAccess_pending, reinitRule_pending_act, reinitRule_pending_first, implies_true]
@[simp] theorem liftFence_pending (u : ReUnit) (s : State) : (liftFence u s).pending = s.pending := by unfold liftFence; (repeat' split) <;> (first | (simp only [setSlice_pending, idle_pending, setDigUnit_pending, setPipe_pending, implies_true, ite_pending, ite_self]; done) | with_reducible rfl | (simp_all; done))
@[simp] theorem keepFence_pending (u : ReUnit) (s : State) : (keepFence u s).pending = s.pending := by unfold keepFence; (repeat' split) <;> (first | (simp only [fenceSlice_pending, fenceRequester_pending, setDigUnit_pending, fenceDigest_pending, setPipe_pending, fencePipe_pending]; done) | with_reducible rfl | (simp_all; done))
theorem execReinitComplete_pending (pass : Bool) (s : State) : ∃ τ, execReinitComplete pass s = .next τ ∧ τ.pending = s.pending := by refine ⟨_, rfl, ?_⟩; (repeat' split) <;> (first | (simp only [usedFree_pending, advanceTo_pending, setObj_pending, liftFence_pending, keepFence_pending]; done) | with_reducible rfl | (simp_all; done))
@[simp] theorem errResetRule_pending_act (s : State) : ∀ τ, ((errResetRule s).act τ).pending = τ.pending := by intro τ; simp only [errResetRule]; (repeat' split) <;> (first | (simp only [cmdRule_pending_act, scheduleReset_pending, implies_true]; done) | with_reducible rfl | (simp_all; done))
@[simp] theorem errResetRule_pending_first (s : State) : ∀ τ, ((errResetRule s).first τ).1.pending = τ.pending := by intro τ; simp only [errResetRule]; (repeat' split) <;> (first | (simp only [cmdRule_pending_first, scheduleReset_pending, implies_true]; done) | with_reducible rfl | (simp_all; done))
theorem execErrReset_pending (c : Caller) (data : Bytes) (s : State) : ∃ τ, execErrReset c data s = .next τ ∧ τ.pending = s.pending := by refine ⟨_, rfl, ?_⟩; simp only [writeAccess_pending, errResetRule_pending_act, errResetRule_pending_first, implies_true]
theorem execSelfReset_pending (bootSel : Nat) (s : State) : ∃ τ, execSelfReset bootSel s = .next τ ∧ τ.pending = s.pending := by refine ⟨_, rfl, ?_⟩; (repeat' split) <;> (first | (simp only [resetDevice_pending, advanceTo_pending]; done) | with_reducible rfl | (simp_all; done))
theorem execResetN_pending (low : Bool) (bootSel : Nat) (s : State) : ∃ τ, execResetN low bootSel s = .next τ ∧ τ.pending = s.pending := by refine ⟨_, rfl, ?_⟩; simp only [resetDevice_pending, ite_pending, ite_self]
theorem execPerstNReset_pending (bootSel : Nat) (s : State) : ∃ τ, execPerstNReset bootSel s = .next τ ∧ τ.pending = s.pending := by refine ⟨_, rfl, ?_⟩; simp only [resetDevice_pending, pcieReset_pending, ite_pending, ite_self]
theorem execPowerOnReset_pending (bootSel : Nat) (s : State) : ∃ τ, execPowerOnReset bootSel s = .next τ ∧ τ.pending = s.pending := by refine ⟨_, rfl, ?_⟩; simp only [loseVolatile_pending, ite_pending, ite_self]
@[simp] theorem lastErr_pending (result : Nat) (entry : Option Nat) (s : State) : (lastErr result entry s).pending = s.pending := by simp only [lastErr, setObj_pending, usedFree_pending]
@[simp] theorem putRec_pending (f : ActRec → ActRec) (s : State) : (putRec f s).pending = s.pending := by simp only [putRec, setObj_pending]
@[simp] theorem setUpd_pending (st : Nat) (s : State) : (setUpd st s).pending = s.pending := by simp only [setUpd, putRec_pending]
@[simp] theorem stageBegin_pending (s : State) : (stageBegin s).pending = s.pending := by simp only [stageBegin, setUpd_pending]
@[simp] theorem stageBeginRule_pending_act (s : State) : ∀ τ, ((stageBeginRule s).act τ).pending = τ.pending := by intro τ; unfold stageBeginRule; dsimp only; (repeat' split) <;> (first | (simp only [stageBegin_pending]; done) | with_reducible rfl | (simp_all; done))
@[simp] theorem stageBeginRule_pending_first (s : State) : ∀ τ, ((stageBeginRule s).first τ).1.pending = τ.pending := by simp [stageBeginRule]
theorem execUpdStageBegin_pending (c : Caller) (data : Bytes) (s : State) : ∃ τ, execUpdStageBegin c data s = .next τ ∧ τ.pending = s.pending := by refine ⟨_, rfl, ?_⟩; simp only [writeAccess_pending, stageBeginRule_pending_act, stageBeginRule_pending_first, implies_true]
@[simp] theorem takeChunk_pending (b : Bytes) (progOk : Bool) (s : State) : (takeChunk b progOk s).pending = s.pending := by unfold takeChunk; (repeat' split) <;> (first | (simp only [noticed_pending, setUpd_pending, lastErr_pending]; done) | with_reducible rfl | (simp_all; done))
@[simp] theorem chunkWrite_pending (total : Nat) (b : Bytes) (progOk : Bool) (s : State) : (chunkWrite total b progOk s).1.pending = s.pending := by unfold chunkWrite; (repeat' split) <;> (first | (simp only [setUpd_pending, lastErr_pending, takeChunk_pending]; done) | with_reducible rfl | (simp_all; done))
@[simp] theorem serveChunk_pending (w : Who) (offset : Nat) (total : Nat) (data : Bytes) (ok : Bool) (s : State) : (serveChunk w offset total data ok s).pending = s.pending := by unfold serveChunk; (repeat' split) <;> (first | (simp only [deliver_pending, countRefused_pending, chunkWrite_pending]; done) | with_reducible rfl | (simp_all; done))
theorem execUpdStageChunk_pending (c : Caller) (total : Nat) (data : Bytes) (ok : Bool) (s : State) : ∃ τ, execUpdStageChunk c total data ok s = .next τ ∧ τ.pending = s.pending := by refine ⟨_, rfl, ?_⟩; (repeat' split) <;> (first | (simp only [inTurn_pending, serveChunk_pending, implies_true]; done) | with_reducible rfl | (simp_all; done))
theorem execStage_pending (p : Nat) (data : Bytes) (ok : Bool) (s : State) : ∃ τ, execStage p data ok s = .next τ ∧ τ.pending = s.pending := by
  refine ⟨_, rfl, ?_⟩
  split
  · rfl
  · rename_i e
    rw [ringGuard_pending _ _ _ _ _ (fun τ => by dsimp only; split <;> simp), controlTurn_pending e]
@[simp] theorem verifyRule_pending_act (data : Bytes) (s : State) : ∀ τ, ((verifyRule data s).act τ).pending = τ.pending := by intro τ; unfold verifyRule; dsimp only; (repeat' split) <;> (first | (simp only [setUpd_pending]; done) | with_reducible rfl | (simp_all; done))
@[simp] theorem verifyRule_pending_first (data : Bytes) (s : State) : ∀ τ, ((verifyRule data s).first τ).1.pending = τ.pending := by simp [verifyRule]
theorem execUpdVerify_pending (c : Caller) (data : Bytes) (s : State) : ∃ τ, execUpdVerify c data s = .next τ ∧ τ.pending = s.pending := by refine ⟨_, rfl, ?_⟩; simp only [writeAccess_pending, verifyRule_pending_act, verifyRule_pending_first, implies_true]
theorem execUpdVerifyEnd_pending (s : State) : ∃ τ, execUpdVerifyEnd s = .next τ ∧ τ.pending = s.pending := by refine ⟨_, rfl, ?_⟩; dsimp only; (repeat' split) <;> (first | (simp only [usedFree_pending, advanceTo_pending, setUpd_pending, lastErr_pending, noticed_pending, putRec_pending]; done) | with_reducible rfl | (simp_all; done))
@[simp] theorem activateAt_pending (v : Nat) (s : State) : (activateAt v s).pending = s.pending := by simp only [activateAt, noticed_pending, putRec_pending, scheduleReset_pending, ite_pending, ite_self]
@[simp] theorem activateRule_pending_act (data : Bytes) (s : State) : ∀ τ, ((activateRule data s).act τ).pending = τ.pending := by intro τ; unfold activateRule; dsimp only; (repeat' split) <;> (first | (simp only [activateAt_pending]; done) | with_reducible rfl | (simp_all; done))
@[simp] theorem activateRule_pending_first (data : Bytes) (s : State) : ∀ τ, ((activateRule data s).first τ).1.pending = τ.pending := by simp [activateRule]
theorem execUpdActivateAt_pending (c : Caller) (data : Bytes) (s : State) : ∃ τ, execUpdActivateAt c data s = .next τ ∧ τ.pending = s.pending := by refine ⟨_, rfl, ?_⟩; simp only [writeAccess_pending, activateRule_pending_act, activateRule_pending_first, implies_true]
@[simp] theorem cancelRule_pending_act (s : State) : ∀ τ, ((cancelRule s).act τ).pending = τ.pending := by intro τ; unfold cancelRule; dsimp only; (repeat' split) <;> (first | (simp only [setUpd_pending]; done) | with_reducible rfl | (simp_all; done))
@[simp] theorem cancelRule_pending_first (s : State) : ∀ τ, ((cancelRule s).first τ).1.pending = τ.pending := by simp [cancelRule]
theorem execUpdCancel_pending (c : Caller) (data : Bytes) (s : State) : ∃ τ, execUpdCancel c data s = .next τ ∧ τ.pending = s.pending := by refine ⟨_, rfl, ?_⟩; simp only [writeAccess_pending, cancelRule_pending_act, cancelRule_pending_first, implies_true]
theorem execActivationDue_pending (bootSel : Nat) (s : State) : ∃ τ, execActivationDue bootSel s = .next τ ∧ τ.pending = s.pending := by refine ⟨_, rfl, ?_⟩; simp only [resetDevice_pending, advanceTo_pending, ite_pending, ite_self]
@[simp] theorem burnSecver_pending (s : State) : (burnSecver s).pending = s.pending := by simp only [burnSecver]
@[simp] theorem confirmRule_pending_act (s : State) : ∀ τ, ((confirmRule s).act τ).pending = τ.pending := by intro τ; unfold confirmRule; dsimp only; (repeat' split) <;> (first | (simp only [burnSecver_pending, setUpd_pending]; done) | with_reducible rfl | (simp_all; done))
@[simp] theorem confirmRule_pending_first (s : State) : ∀ τ, ((confirmRule s).first τ).1.pending = τ.pending := by simp [confirmRule]
theorem execUpdConfirm_pending (c : Caller) (data : Bytes) (s : State) : ∃ τ, execUpdConfirm c data s = .next τ ∧ τ.pending = s.pending := by refine ⟨_, rfl, ?_⟩; simp only [writeAccess_pending, confirmRule_pending_act, confirmRule_pending_first, implies_true]
theorem execTrialExpiry_pending (bootSel : Nat) (s : State) : ∃ τ, execTrialExpiry bootSel s = .next τ ∧ τ.pending = s.pending := by refine ⟨_, rfl, ?_⟩; (repeat' split) <;> (first | (simp only [resetDevice_pending, advanceTo_pending]; done) | with_reducible rfl | (simp_all; done))
@[simp] theorem lcNonce_pending (s : State) : (lcNonce s).2.pending = s.pending := by unfold lcNonce; (repeat' split) <;> (first | (simp only [draw_pending]; done) | with_reducible rfl | (simp_all; done))
@[simp] theorem newNonce_pending (s : State) : (newNonce s).pending = s.pending := by simp only [newNonce, lcNonce_pending, noticed_pending]
@[simp] theorem nonceRule_pending_act (s : State) : ∀ τ, ((nonceRule s).act τ).pending = τ.pending := by intro τ; unfold nonceRule; dsimp only; (repeat' split) <;> (first | (simp only [cmdRule_pending_act, newNonce_pending, implies_true]; done) | with_reducible rfl | (simp_all; done))
@[simp] theorem nonceRule_pending_first (s : State) : ∀ τ, ((nonceRule s).first τ).1.pending = τ.pending := by intro τ; unfold nonceRule; dsimp only; (repeat' split) <;> (first | (simp only [cmdRule_pending_first, newNonce_pending, implies_true]; done) | with_reducible rfl | (simp_all; done))
theorem execLcNonceNew_pending (c : Caller) (data : Bytes) (s : State) : ∃ τ, execLcNonceNew c data s = .next τ ∧ τ.pending = s.pending := by refine ⟨_, rfl, ?_⟩; simp only [writeAccess_pending, nonceRule_pending_act, nonceRule_pending_first, implies_true]
@[simp] theorem dropNonce_pending (s : State) : (dropNonce s).pending = s.pending := by simp only [dropNonce, noticed_pending]
theorem execNonceExpiry_pending (s : State) : ∃ τ, execNonceExpiry s = .next τ ∧ τ.pending = s.pending := by refine ⟨_, rfl, ?_⟩; (repeat' split) <;> (first | (simp only [dropNonce_pending, advanceTo_pending]; done) | with_reducible rfl | (simp_all; done))
@[simp] theorem setReq_pending (v : Nat) (s : State) : (setReq v s).pending = s.pending := by simp only [setReq, setObj_pending]
@[simp] theorem checkRequest_pending (b : Bytes) (s : State) : (checkRequest b s).1.pending = s.pending := by unfold checkRequest; (repeat' split) <;> (first | (simp only [setReq_pending, dropNonce_pending, request_pending, implies_true, ite_pending, ite_self]; done) | with_reducible rfl | (simp_all; done))
@[simp] theorem stopTraffic_pending (s : State) : (stopTraffic s).pending = s.pending := by simp only [stopTraffic, eraseKreg_pending, abandonAll_pending, stopJobs_pending, endCalls_pending]
@[simp] theorem burnRoot_pending (s : State) : (burnRoot s).pending = s.pending := by simp only [burnRoot, draw_pending]
@[simp] theorem burnState_pending (goal : LifeState) (s : State) : (burnState goal s).pending = s.pending := by simp only [burnState]
@[simp] theorem transition_pending (goal : LifeState) (s : State) : (transition goal s).pending = s.pending := by simp only [transition, stopTraffic_pending, burnRoot_pending, scheduleReset_pending, usedFree_pending, burnState_pending, ite_pending, ite_self]
@[simp] theorem applyRequest_pending (s : State) : (applyRequest s).pending = s.pending := by unfold applyRequest; (repeat' split) <;> (first | (simp only [transition_pending, setReq_pending]; done) | with_reducible rfl | (simp_all; done))
@[simp] theorem applyRule_pending_act (w : Who) (data : Bytes) (s : State) : ∀ τ, ((applyRule w data s).act τ).pending = τ.pending := by intro τ; unfold applyRule; dsimp only; (repeat' split) <;> (first | (simp only [applyRequest_pending]; done) | with_reducible rfl | (simp_all; done))
@[simp] theorem applyRule_pending_first (w : Who) (data : Bytes) (s : State) : ∀ τ, ((applyRule w data s).first τ).1.pending = τ.pending := by intro τ; unfold applyRule; dsimp only; (repeat' split) <;> (first | (simp only [checkRequest_pending]; done) | with_reducible rfl | (simp_all; done))
@[simp] theorem ruleFor_pending_act (s : State) (a : AccessCmd) (f : Who → WriteRule) (h2 : ∀ v0 τ, ((f v0).act τ).pending = τ.pending) (g2 : ∀ v0 τ, ((f v0).first τ).1.pending = τ.pending) : ∀ τ, ((ruleFor s a f).act τ).pending = τ.pending := by intro τ; simp only [ruleFor]; (repeat' split) <;> (first | (simp only [cmdRule_pending_act, cmdRule_pending_first, implies_true, ite_pending, ite_self]; done) | with_reducible rfl | (simp_all; done))
@[simp] theorem ruleFor_pending_first (s : State) (a : AccessCmd) (f : Who → WriteRule) (h2 : ∀ v0 τ, ((f v0).act τ).pending = τ.pending) (g2 : ∀ v0 τ, ((f v0).first τ).1.pending = τ.pending) : ∀ τ, ((ruleFor s a f).first τ).1.pending = τ.pending := by intro τ; simp only [ruleFor]; (repeat' split) <;> (first | (simp only [cmdRule_pending_act, cmdRule_pending_first, implies_true, ite_pending, ite_self]; done) | with_reducible rfl | (simp_all; done))
theorem execLcApply_pending (c : Caller) (data : Bytes) (s : State) : ∃ τ, execLcApply c data s = .next τ ∧ τ.pending = s.pending := by refine ⟨_, rfl, ?_⟩; simp only [writeAccess_pending, ruleFor_pending_act, ruleFor_pending_first, applyRule_pending_act, applyRule_pending_first, implies_true]
@[simp] theorem beginBist_pending (pass : Bool) (s : State) : (beginBist pass s).pending = s.pending := by simp only [beginBist, stopTraffic_pending, noticed_pending, scheduleReset_pending]
@[simp] theorem bistRule_pending_act (pass : Bool) (s : State) : ∀ τ, ((bistRule pass s).act τ).pending = τ.pending := by intro τ; unfold bistRule; dsimp only; (repeat' split) <;> (first | (simp only [cmdRule_pending_act, beginBist_pending, implies_true]; done) | with_reducible rfl | (simp_all; done))
@[simp] theorem bistRule_pending_first (pass : Bool) (s : State) : ∀ τ, ((bistRule pass s).first τ).1.pending = τ.pending := by intro τ; unfold bistRule; dsimp only; (repeat' split) <;> (first | (simp only [cmdRule_pending_first, beginBist_pending, implies_true]; done) | with_reducible rfl | (simp_all; done))
theorem execLcBist_pending (c : Caller) (data : Bytes) (pass : Bool) (s : State) : ∃ τ, execLcBist c data pass s = .next τ ∧ τ.pending = s.pending := by refine ⟨_, rfl, ?_⟩; simp only [writeAccess_pending, bistRule_pending_act, bistRule_pending_first, implies_true]
@[simp] theorem newChallenge_pending (scope : Nat) (s : State) : (newChallenge scope s).pending = s.pending := by simp only [newChallenge, lcNonce_pending, noticed_pending]
@[simp] theorem challengeRule_pending_act (data : Bytes) (s : State) : ∀ τ, ((challengeRule data s).act τ).pending = τ.pending := by intro τ; unfold challengeRule; dsimp only; (repeat' split) <;> (first | (simp only [newChallenge_pending]; done) | with_reducible rfl | (simp_all; done))
@[simp] theorem challengeRule_pending_first (data : Bytes) (s : State) : ∀ τ, ((challengeRule data s).first τ).1.pending = τ.pending := by simp [challengeRule]
theorem execLcDbgChallengeNew_pending (c : Caller) (data : Bytes) (s : State) : ∃ τ, execLcDbgChallengeNew c data s = .next τ ∧ τ.pending = s.pending := by refine ⟨_, rfl, ?_⟩; simp only [writeAccess_pending, challengeRule_pending_act, challengeRule_pending_first, implies_true]
@[simp] theorem dropChallenge_pending (s : State) : (dropChallenge s).pending = s.pending := by simp only [dropChallenge, noticed_pending]
@[simp] theorem checkToken_pending (data : Bytes) (b : Bytes) (s : State) : (checkToken data b s).1.pending = s.pending := by unfold checkToken; (repeat' split) <;> (first | (simp only [request_pending, dropChallenge_pending, implies_true, ite_pending, ite_self]; done) | with_reducible rfl | (simp_all; done))
@[simp] theorem pauseTenants_pending (s : State) : (pauseTenants s).pending = s.pending := by unfold pauseTenants; (repeat' split) <;> (first | (simp only [setObj_pending, implies_true, ite_pending, ite_self]; done) | with_reducible rfl | (simp_all; done))
@[simp] theorem openDebug_pending (s : State) : (openDebug s).pending = s.pending := by unfold openDebug; (repeat' split) <;> (first | (simp only [eraseDone_pending, closeSessions_pending, bindOff_pending, quiesce_pending, attestKeys_pending, request_pending, pauseTenants_pending, setObj_pending, usedFree_pending, advanceTo_pending, noticed_pending, implies_true, ite_pending, ite_self]; done) | with_reducible rfl | (simp_all; done))
@[simp] theorem applyToken_pending (data : Bytes) (s : State) : (applyToken data s).pending = s.pending := by simp only [applyToken, openDebug_pending, dropChallenge_pending, ite_pending, ite_self]
@[simp] theorem openRule_pending_act (c : Caller) (data : Bytes) (s : State) : ∀ τ, ((openRule c data s).act τ).pending = τ.pending := by intro τ; unfold openRule; dsimp only; (repeat' split) <;> (first | (simp only [applyToken_pending]; done) | with_reducible rfl | (simp_all; done))
@[simp] theorem openRule_pending_first (c : Caller) (data : Bytes) (s : State) : ∀ τ, ((openRule c data s).first τ).1.pending = τ.pending := by intro τ; unfold openRule; dsimp only; (repeat' split) <;> (first | (simp only [checkToken_pending]; done) | with_reducible rfl | (simp_all; done))
theorem execLcDbgOpen_pending (c : Caller) (data : Bytes) (s : State) : ∃ τ, execLcDbgOpen c data s = .next τ ∧ τ.pending = s.pending := by refine ⟨_, rfl, ?_⟩; simp only [writeAccess_pending, openRule_pending_act, openRule_pending_first, implies_true]
@[simp] theorem leaveExtest_pending (bootSel : Nat) (s : State) : (leaveExtest bootSel s).pending = s.pending := by simp only [leaveExtest, resetDevice_pending, ite_pending, ite_self]
@[simp] theorem loadTap_pending (t : TapInstr) (bootSel : Nat) (s : State) : (loadTap t bootSel s).pending = s.pending := by simp only [loadTap, leaveExtest_pending]
theorem execExtest_pending (scan : Bytes) (s : State) : ∃ τ, execExtest scan s = .next τ ∧ τ.pending = s.pending := by refine ⟨_, rfl, ?_⟩; simp only [emit_pending, ite_pending, ite_self]
theorem execExtestExit_pending (bootSel : Nat) (s : State) : ∃ τ, execExtestExit bootSel s = .next τ ∧ τ.pending = s.pending := by refine ⟨_, rfl, ?_⟩; simp only [loadTap_pending, ite_pending, ite_self]
theorem execIdcode_pending (bootSel : Nat) (s : State) : ∃ τ, execIdcode bootSel s = .next τ ∧ τ.pending = s.pending := by refine ⟨_, rfl, ?_⟩; simp only [emit_pending, loadTap_pending, ite_pending, ite_self]
theorem execSamplePreload_pending (bootSel : Nat) (scan : Bytes) (s : State) : ∃ τ, execSamplePreload bootSel scan s = .next τ ∧ τ.pending = s.pending := by refine ⟨_, rfl, ?_⟩; simp only [loadTap_pending, ite_pending, ite_self]
theorem execBypass_pending (bootSel : Nat) (s : State) : ∃ τ, execBypass bootSel s = .next τ ∧ τ.pending = s.pending := by refine ⟨_, rfl, ?_⟩; simp only [loadTap_pending, ite_pending, ite_self]
theorem execDebugInstruction_pending (op : DebugOp) (bootSel : Nat) (s : State) : ∃ τ, execDebugInstruction op bootSel s = .next τ ∧ τ.pending = s.pending := by refine ⟨_, rfl, ?_⟩; simp only [loadTap_pending, leaveExtest_pending, debugActs_pending, bump_pending, tamperEvent_pending, ite_pending, ite_self]
@[simp] theorem putArea_pending (toB : Bool) (a : Bytes) (s : State) : (putArea toB a s).pending = s.pending := by simp only [putArea]
@[simp] theorem startStore_pending (s : State) : (startStore s).pending = s.pending := by simp only [startStore, putArea_pending, setObj_pending]
@[simp] theorem storeRule_pending_act (s : State) : ∀ τ, ((storeRule s).act τ).pending = τ.pending := by intro τ; unfold storeRule; dsimp only; (repeat' split) <;> (first | (simp only [cmdRule_pending_act, startStore_pending, implies_true]; done) | with_reducible rfl | (simp_all; done))
@[simp] theorem storeRule_pending_first (s : State) : ∀ τ, ((storeRule s).first τ).1.pending = τ.pending := by intro τ; unfold storeRule; dsimp only; (repeat' split) <;> (first | (simp only [cmdRule_pending_first, startStore_pending, implies_true]; done) | with_reducible rfl | (simp_all; done))
theorem execDictStore_pending (c : Caller) (data : Bytes) (s : State) : ∃ τ, execDictStore c data s = .next τ ∧ τ.pending = s.pending := by refine ⟨_, rfl, ?_⟩; simp only [writeAccess_pending, storeRule_pending_act, storeRule_pending_first, implies_true]
@[simp] theorem storeDone_pending (j : StoreJob) (s : State) : (storeDone j s).pending = s.pending := by simp only [storeDone, setObj_pending, putArea_pending]
theorem execStoreWriteDone_pending (ok : Bool) (s : State) : ∃ τ, execStoreWriteDone ok s = .next τ ∧ τ.pending = s.pending := by refine ⟨_, rfl, ?_⟩; (repeat' split) <;> (first | (simp only [storeDone_pending, storeFailed_pending]; done) | with_reducible rfl | (simp_all; done))
@[simp] theorem readStoreState_pending (s : State) : (readStoreState s).2.2.pending = s.pending := by unfold readStoreState; (repeat' split) <;> (first | (simp only; done) | with_reducible rfl | (simp_all; done))
theorem execDictStoreStateRead_pending (c : Caller) (s : State) : ∃ τ, execDictStoreStateRead c s = .next τ ∧ τ.pending = s.pending := by refine ⟨_, rfl, ?_⟩; simp only [readAccess_pending, readStoreState_pending, implies_true]
@[simp] theorem writePhy_pending (errs : Nat) (s : State) : (writePhy errs s).pending = s.pending := by simp only [writePhy, bumpBy_pending, ite_pending, ite_self]
@[simp] theorem phyRule_pending_act (sub : Nat) (errs : Nat) (data : Bytes) (s : State) : ∀ τ, ((phyRule sub errs data s).act τ).pending = τ.pending := by intro τ; unfold phyRule; dsimp only; (repeat' split) <;> (first | (simp only [plainRule_pending_act, writePhy_pending]; done) | with_reducible rfl | (simp_all; done))
@[simp] theorem phyRule_pending_first (sub : Nat) (errs : Nat) (data : Bytes) (s : State) : ∀ τ, ((phyRule sub errs data s).first τ).1.pending = τ.pending := by intro τ; unfold phyRule; dsimp only; (repeat' split) <;> (first | (simp only [plainRule_pending_first]; done) | with_reducible rfl | (simp_all; done))
theorem execMgPhyConfigWrite_pending (c : Caller) (sub : Nat) (data : Bytes) (errs : Nat) (s : State) : ∃ τ, execMgPhyConfigWrite c sub data errs s = .next τ ∧ τ.pending = s.pending := by refine ⟨_, rfl, ?_⟩; simp only [writeAccess_pending, phyRule_pending_act, phyRule_pending_first, implies_true, ite_pending, ite_self]
@[simp] theorem driveGpio_pending (s : State) : (driveGpio s).pending = s.pending := by simp only [driveGpio, emit_pending]
@[simp] theorem closePrincipal_pending (p : Nat) (s : State) : (closePrincipal p s).pending = s.pending := by unfold closePrincipal; (repeat' split) <;> (first | (simp only [closeSession_pending, implies_true, ite_pending, ite_self]; done) | with_reducible rfl | (simp_all; done))
@[simp] theorem principalRule_pending_act (p : Nat) (sub : Nat) (data : Bytes) (s : State) : ∀ τ, ((principalRule p sub data s).act τ).pending = τ.pending := by intro τ; unfold principalRule; dsimp only; (repeat' split) <;> (first | (simp only [plainRule_pending_act, closePrincipal_pending]; done) | with_reducible rfl | (simp_all; done))
@[simp] theorem principalRule_pending_first (p : Nat) (sub : Nat) (data : Bytes) (s : State) : ∀ τ, ((principalRule p sub data s).first τ).1.pending = τ.pending := by intro τ; unfold principalRule; dsimp only; (repeat' split) <;> (first | (simp only [plainRule_pending_first]; done) | with_reducible rfl | (simp_all; done))
theorem execPrincipalEnrolWrite_pending (c : Caller) (p : Nat) (sub : Nat) (data : Bytes) (s : State) : ∃ τ, execPrincipalEnrolWrite c p sub data s = .next τ ∧ τ.pending = s.pending := by refine ⟨_, rfl, ?_⟩; simp only [writeAccess_pending, principalRule_pending_act, principalRule_pending_first, implies_true, ite_pending, ite_self]
@[simp] theorem oapEnableRule_pending_act (data : Bytes) : ∀ τ, ((oapEnableRule data).act τ).pending = τ.pending := by intro τ; unfold oapEnableRule; dsimp only; (repeat' split) <;> (first | (simp only [plainRule_pending_act, closeSessions_pending]; done) | with_reducible rfl | (simp_all; done))
@[simp] theorem oapEnableRule_pending_first (data : Bytes) : ∀ τ, ((oapEnableRule data).first τ).1.pending = τ.pending := by intro τ; unfold oapEnableRule; dsimp only; (repeat' split) <;> (first | (simp only [plainRule_pending_first]; done) | with_reducible rfl | (simp_all; done))
theorem execOapEnableWrite_pending (c : Caller) (data : Bytes) (s : State) : ∃ τ, execOapEnableWrite c data s = .next τ ∧ τ.pending = s.pending := by refine ⟨_, rfl, ?_⟩; simp only [writeAccess_pending, oapEnableRule_pending_act, oapEnableRule_pending_first, implies_true]
theorem execDictOapLock_pending (c : Caller) (data : Bytes) (s : State) : ∃ τ, execDictOapLock c data s = .next τ ∧ τ.pending = s.pending := by refine ⟨_, rfl, ?_⟩; simp only [writeAccess_pending, cmdRule_pending_act, cmdRule_pending_first, lockObjs_pending, implies_true]
@[simp] theorem leaveSettings_pending (s : State) : (leaveSettings s).pending = s.pending := by
  exact (closeCard_pending _).trans ((foldl_pending _ (fun t p => closePrincipal_pending p t) _ _).trans
    ((foldl_pending _ (fun t c => unbindCircuit_pending c t) _ _).trans (foldl_pending _ (fun t p => by split <;> simp) _ _)))
@[simp] theorem restoreDefaults_pending (s : State) : (restoreDefaults s).pending = s.pending := by unfold restoreDefaults; (repeat' split) <;> (first | (simp only [setObj_pending, driveGpio_pending]; done) | with_reducible rfl | (simp_all; done))
@[simp] theorem restoreRule_pending_act  : ∀ τ, ((restoreRule).act τ).pending = τ.pending := by intro τ; unfold restoreRule; dsimp only; (repeat' split) <;> (first | (simp only [cmdRule_pending_act, restoreDefaults_pending, implies_true]; done) | with_reducible rfl | (simp_all; done))
@[simp] theorem restoreRule_pending_first  : ∀ τ, ((restoreRule).first τ).1.pending = τ.pending := by intro τ; unfold restoreRule; dsimp only; (repeat' split) <;> (first | (simp only [cmdRule_pending_first, restoreDefaults_pending, implies_true]; done) | with_reducible rfl | (simp_all; done))
theorem execDictRestoreDefaults_pending (c : Caller) (data : Bytes) (s : State) : ∃ τ, execDictRestoreDefaults c data s = .next τ ∧ τ.pending = s.pending := by refine ⟨_, rfl, ?_⟩; simp only [writeAccess_pending, restoreRule_pending_act, restoreRule_pending_first, implies_true]
@[simp] theorem describeRule_pending_act (w : Who) (data : Bytes) : ∀ τ, ((describeRule w data).act τ).pending = τ.pending := by intro τ; simp only [describeRule]; (repeat' split) <;> (first | (simp only [cmdRule_pending_act, setOwn_pending, implies_true]; done) | with_reducible rfl | (simp_all; done))
@[simp] theorem describeRule_pending_first (w : Who) (data : Bytes) : ∀ τ, ((describeRule w data).first τ).1.pending = τ.pending := by intro τ; simp only [describeRule]; (repeat' split) <;> (first | (simp only [cmdRule_pending_first, setOwn_pending, implies_true]; done) | with_reducible rfl | (simp_all; done))
theorem execDictDescribe_pending (c : Caller) (data : Bytes) (s : State) : ∃ τ, execDictDescribe c data s = .next τ ∧ τ.pending = s.pending := by refine ⟨_, rfl, ?_⟩; simp only [writeAccess_pending, ruleFor_pending_act, ruleFor_pending_first, describeRule_pending_act, describeRule_pending_first, implies_true]
@[simp] theorem serveRead_pending (c : Caller) (gpio : Nat) (id : ObjId) (s : State) : (serveRead c gpio id s).2.2.pending = s.pending := by unfold serveRead; (repeat' split) <;> (first | (simp only [serveRngRead_pending, readStoreState_pending, noteRead_pending, implies_true, ite_pending, ite_self, Res.stop_release, Res.ok_release, persistRes_release, id]; done) | with_reducible rfl | (simp_all; done))
@[simp] theorem noticedBy_pending (slot : Nat) (id : ObjId) (s : State) : (noticedBy slot id s).pending = s.pending := by simp only [noticedBy, ite_pending, ite_self]
@[simp] theorem lookAt_pending (s : State) (p : ObjId × ObjId) : (lookAt s p).pending = s.pending := by unfold lookAt; (repeat' split) <;> (first | (simp only [noticedBy_pending]; done) | with_reducible rfl | (simp_all; done))
@[simp] theorem lookAround_pending (s : State) : (lookAround s).pending = s.pending := by unfold lookAround; (repeat' split) <;> (first | (simp only [lookAt_pending, implies_true, ite_pending, ite_self]; done) | with_reducible rfl | (simp_all; done))
@[simp] theorem subscribeRule_pending_act (id : ObjId) (data : Bytes) : ∀ τ, ((subscribeRule id data).act τ).pending = τ.pending := by intro τ; unfold subscribeRule; dsimp only; (repeat' split) <;> (first | (simp only [plainRule_pending_act, lookAt_pending]; done) | with_reducible rfl | (simp_all; done))
@[simp] theorem subscribeRule_pending_first (id : ObjId) (data : Bytes) : ∀ τ, ((subscribeRule id data).first τ).1.pending = τ.pending := by intro τ; unfold subscribeRule; dsimp only; (repeat' split) <;> (first | (simp only [plainRule_pending_first]; done) | with_reducible rfl | (simp_all; done))
@[simp] theorem ruleDict_pending_act (env : ApplyEnv) (w : Who) (id : ObjId) (data : Bytes) (s : State) : ∀ τ, ((ruleDict env w id data s).act τ).pending = τ.pending := by intro τ; unfold ruleDict; dsimp only; (repeat' split) <;> (first | (simp only [phyRule_pending_act, plainRule_pending_act, driveGpio_pending, storeRule_pending_act, restoreRule_pending_act, describeRule_pending_act, oapEnableRule_pending_act, cmdRule_pending_act, lockObjs_pending, principalRule_pending_act, subscribeRule_pending_act, implies_true]; done) | with_reducible rfl | (simp_all; done))
@[simp] theorem ruleDict_pending_first (env : ApplyEnv) (w : Who) (id : ObjId) (data : Bytes) (s : State) : ∀ τ, ((ruleDict env w id data s).first τ).1.pending = τ.pending := by intro τ; unfold ruleDict; dsimp only; (repeat' split) <;> (first | (simp only [phyRule_pending_first, plainRule_pending_first, storeRule_pending_first, restoreRule_pending_first, describeRule_pending_first, oapEnableRule_pending_first, cmdRule_pending_first, lockObjs_pending, principalRule_pending_first, subscribeRule_pending_first, implies_true]; done) | with_reducible rfl | (simp_all; done))
@[simp] theorem ruleLife_pending_act (env : ApplyEnv) (w : Who) (id : ObjId) (data : Bytes) (s : State) : ∀ τ, ((ruleLife env w id data s).act τ).pending = τ.pending := by intro τ; unfold ruleLife; dsimp only; (repeat' split) <;> (first | (simp only [nonceRule_pending_act, ownRule_pending_act, applyRule_pending_act, bistRule_pending_act, challengeRule_pending_act, openRule_pending_act, plainRule_pending_act]; done) | with_reducible rfl | (simp_all; done))
@[simp] theorem ruleLife_pending_first (env : ApplyEnv) (w : Who) (id : ObjId) (data : Bytes) (s : State) : ∀ τ, ((ruleLife env w id data s).first τ).1.pending = τ.pending := by intro τ; unfold ruleLife; dsimp only; (repeat' split) <;> (first | (simp only [nonceRule_pending_first, ownRule_pending_first, applyRule_pending_first, bistRule_pending_first, challengeRule_pending_first, openRule_pending_first, plainRule_pending_first]; done) | with_reducible rfl | (simp_all; done))
@[simp] theorem rulePower_pending_act (env : ApplyEnv) (id : ObjId) (data : Bytes) (s : State) : ∀ τ, ((rulePower env id data s).act τ).pending = τ.pending := by intro τ; unfold rulePower; dsimp only; (repeat' split) <;> (first | (simp only [replanRule_pending_act, plainRule_pending_act, idleRule_pending_act, rtcRule_pending_act]; done) | with_reducible rfl | (simp_all; done))
@[simp] theorem rulePower_pending_first (env : ApplyEnv) (id : ObjId) (data : Bytes) (s : State) : ∀ τ, ((rulePower env id data s).first τ).1.pending = τ.pending := by intro τ; unfold rulePower; dsimp only; (repeat' split) <;> (first | (simp only [replanRule_pending_first, plainRule_pending_first, idleRule_pending_first, rtcRule_pending_first]; done) | with_reducible rfl | (simp_all; done))
@[simp] theorem ruleTamper_pending_act (id : ObjId) (data : Bytes) (s : State) : ∀ τ, ((ruleTamper id data s).act τ).pending = τ.pending := by intro τ; unfold ruleTamper; dsimp only; (repeat' split) <;> (first | (simp only [releaseRule_pending_act, cmdRule_pending_act, lockObjs_pending, plainRule_pending_act, drivePin_pending, clearLatch_pending, cfgRule_pending_act, dropAct_pending, enrolRule_pending_act, officerChanged_pending, implies_true]; done) | with_reducible rfl | (simp_all; done))
@[simp] theorem ruleTamper_pending_first (id : ObjId) (data : Bytes) (s : State) : ∀ τ, ((ruleTamper id data s).first τ).1.pending = τ.pending := by intro τ; unfold ruleTamper; dsimp only; (repeat' split) <;> (first | (simp only [releaseRule_pending_first, cmdRule_pending_first, lockObjs_pending, plainRule_pending_first, clearLatch_pending, cfgRule_pending_first, dropAct_pending, enrolRule_pending_first, implies_true]; done) | with_reducible rfl | (simp_all; done))
@[simp] theorem ruleUpdate_pending_act (id : ObjId) (data : Bytes) (s : State) : ∀ τ, ((ruleUpdate id data s).act τ).pending = τ.pending := by intro τ; simp only [ruleUpdate]; (repeat' split) <;> (first | (simp only [stageBeginRule_pending_act, verifyRule_pending_act, activateRule_pending_act, cancelRule_pending_act, confirmRule_pending_act, plainRule_pending_act]; done) | with_reducible rfl | (simp_all; done))
@[simp] theorem ruleUpdate_pending_first (id : ObjId) (data : Bytes) (s : State) : ∀ τ, ((ruleUpdate id data s).first τ).1.pending = τ.pending := by intro τ; simp only [ruleUpdate]; (repeat' split) <;> (first | (simp only [stageBeginRule_pending_first, verifyRule_pending_first, activateRule_pending_first, cancelRule_pending_first, confirmRule_pending_first, plainRule_pending_first]; done) | with_reducible rfl | (simp_all; done))
@[simp] theorem ruleIso_pending_act (id : ObjId) (data : Bytes) (s : State) : ∀ τ, ((ruleIso id data s).act τ).pending = τ.pending := by intro τ; unfold ruleIso; dsimp only; (repeat' split) <;> (first | (simp only [ruleWrite_pending_act, commitRule_pending_act, portRule_pending_act, setObj_pending, plainRule_pending_act, implies_true]; done) | with_reducible rfl | (simp_all; done))
@[simp] theorem ruleIso_pending_first (id : ObjId) (data : Bytes) (s : State) : ∀ τ, ((ruleIso id data s).first τ).1.pending = τ.pending := by intro τ; unfold ruleIso; dsimp only; (repeat' split) <;> (first | (simp only [ruleWrite_pending_first, commitRule_pending_first, portRule_pending_first, setObj_pending, plainRule_pending_first, implies_true]; done) | with_reducible rfl | (simp_all; done))
@[simp] theorem rulePair_pending_act (p : Nat) (sub : Nat) (id : ObjId) (data : Bytes) (s : State) : ∀ τ, ((rulePair p sub id data s).act τ).pending = τ.pending := by intro τ; unfold rulePair; dsimp only; (repeat' split) <;> (first | (simp only [plainRule_pending_act, tenantRule_pending_act, disableRule_pending_act, enableRule_pending_act]; done) | with_reducible rfl | (simp_all; done))
@[simp] theorem rulePair_pending_first (p : Nat) (sub : Nat) (id : ObjId) (data : Bytes) (s : State) : ∀ τ, ((rulePair p sub id data s).first τ).1.pending = τ.pending := by intro τ; unfold rulePair; dsimp only; (repeat' split) <;> (first | (simp only [plainRule_pending_first, tenantRule_pending_first, disableRule_pending_first, enableRule_pending_first]; done) | with_reducible rfl | (simp_all; done))
@[simp] theorem ruleTenant_pending_act (t : Nat) (sub : Nat) (id : ObjId) (data : Bytes) (s : State) : ∀ τ, ((ruleTenant t sub id data s).act τ).pending = τ.pending := by intro τ; simp only [ruleTenant]; (repeat' split) <;> (first | (simp only [createRule_pending_act, deleteRule_pending_act, fenceRule_pending_act, unfenceTenant_pending, operatorFence_pending, rulePair_pending_act, tenantRule_pending_act, implies_true]; done) | with_reducible rfl | (simp_all; done))
@[simp] theorem ruleTenant_pending_first (t : Nat) (sub : Nat) (id : ObjId) (data : Bytes) (s : State) : ∀ τ, ((ruleTenant t sub id data s).first τ).1.pending = τ.pending := by intro τ; simp only [ruleTenant]; (repeat' split) <;> (first | (simp only [createRule_pending_first, deleteRule_pending_first, fenceRule_pending_first, unfenceTenant_pending, operatorFence_pending, rulePair_pending_first, tenantRule_pending_first, implies_true]; done) | with_reducible rfl | (simp_all; done))
@[simp] theorem ruleEngines_pending_act (id : ObjId) (data : Bytes) (s : State) : ∀ τ, ((ruleEngines id data s).act τ).pending = τ.pending := by intro τ; simp only [ruleEngines]; (repeat' split) <;> (first | (simp only [latLockRule_pending_act, measOwnerRule_pending_act, plainRule_pending_act]; done) | with_reducible rfl | (simp_all; done))
@[simp] theorem ruleEngines_pending_first (id : ObjId) (data : Bytes) (s : State) : ∀ τ, ((ruleEngines id data s).first τ).1.pending = τ.pending := by intro τ; simp only [ruleEngines]; (repeat' split) <;> (first | (simp only [latLockRule_pending_first, measOwnerRule_pending_first, plainRule_pending_first]; done) | with_reducible rfl | (simp_all; done))
@[simp] theorem ruleKreg_pending_act (id : ObjId) (data : Bytes) (s : State) : ∀ τ, ((ruleKreg id data s).act τ).pending = τ.pending := by intro τ; simp only [ruleKreg]; (repeat' split) <;> (first | (simp only [fillStartRule_pending_act, archCompactRule_pending_act, archInitRule_pending_act, plainRule_pending_act]; done) | with_reducible rfl | (simp_all; done))
@[simp] theorem ruleKreg_pending_first (id : ObjId) (data : Bytes) (s : State) : ∀ τ, ((ruleKreg id data s).first τ).1.pending = τ.pending := by intro τ; simp only [ruleKreg]; (repeat' split) <;> (first | (simp only [fillStartRule_pending_first, archCompactRule_pending_first, archInitRule_pending_first, plainRule_pending_first]; done) | with_reducible rfl | (simp_all; done))
@[simp] theorem rulePort_pending_act (p : Nat) (sub : Nat) (id : ObjId) (data : Bytes) (s : State) : ∀ τ, ((rulePort p sub id data s).act τ).pending = τ.pending := by intro τ; unfold rulePort; dsimp only; (repeat' split) <;> (first | (simp only [plainRule_pending_act, portRule_pending_act, portOff_pending, portOn_pending, updateFlow_pending, implies_true]; done) | with_reducible rfl | (simp_all; done))
@[simp] theorem rulePort_pending_first (p : Nat) (sub : Nat) (id : ObjId) (data : Bytes) (s : State) : ∀ τ, ((rulePort p sub id data s).first τ).1.pending = τ.pending := by intro τ; unfold rulePort; dsimp only; (repeat' split) <;> (first | (simp only [plainRule_pending_first, portRule_pending_first, portOff_pending, portOn_pending, implies_true]; done) | with_reducible rfl | (simp_all; done))
@[simp] theorem ruleCircuit_pending_act (c : Nat) (sub : Nat) (id : ObjId) (data : Bytes) (s : State) : ∀ τ, ((ruleCircuit c sub id data s).act τ).pending = τ.pending := by intro τ; unfold ruleCircuit; dsimp only; (repeat' split) <;> (first | (simp only [portRule_pending_act, unbindCircuit_pending, bindRule_pending_act, transformRule_pending_act, zeroiseCircuit_pending, plainRule_pending_act, trigger_pending, implies_true]; done) | with_reducible rfl | (simp_all; done))
@[simp] theorem ruleCircuit_pending_first (c : Nat) (sub : Nat) (id : ObjId) (data : Bytes) (s : State) : ∀ τ, ((ruleCircuit c sub id data s).first τ).1.pending = τ.pending := by intro τ; unfold ruleCircuit; dsimp only; (repeat' split) <;> (first | (simp only [portRule_pending_first, unbindCircuit_pending, bindRule_pending_first, transformRule_pending_first, zeroiseCircuit_pending, plainRule_pending_first, trigger_pending, implies_true]; done) | with_reducible rfl | (simp_all; done))
@[simp] theorem ruleService_pending_act (n : Nat) (sub : Nat) (id : ObjId) (data : Bytes) (s : State) : ∀ τ, ((ruleService n sub id data s).act τ).pending = τ.pending := by intro τ; unfold ruleService; dsimp only; (repeat' split) <;> (first | (simp only [plainRule_pending_act, portRule_pending_act, noticed_pending, setCell_pending, cellLoadRule_pending_act, cellResetRule_pending_act, implies_true]; done) | with_reducible rfl | (simp_all; done))
@[simp] theorem ruleService_pending_first (n : Nat) (sub : Nat) (id : ObjId) (data : Bytes) (s : State) : ∀ τ, ((ruleService n sub id data s).first τ).1.pending = τ.pending := by intro τ; unfold ruleService; dsimp only; (repeat' split) <;> (first | (simp only [plainRule_pending_first, portRule_pending_first, noticed_pending, setCell_pending, cellLoadRule_pending_first, cellResetRule_pending_first, implies_true]; done) | with_reducible rfl | (simp_all; done))
@[simp] theorem ruleErrors_pending_act (id : ObjId) (data : Bytes) (s : State) : ∀ τ, ((ruleErrors id data s).act τ).pending = τ.pending := by intro τ; simp only [ruleErrors]; (repeat' split) <;> (first | (simp only [errResetRule_pending_act, reinitRule_pending_act, rngReinitRule_pending_act, plainRule_pending_act]; done) | with_reducible rfl | (simp_all; done))
@[simp] theorem ruleErrors_pending_first (id : ObjId) (data : Bytes) (s : State) : ∀ τ, ((ruleErrors id data s).first τ).1.pending = τ.pending := by intro τ; simp only [ruleErrors]; (repeat' split) <;> (first | (simp only [errResetRule_pending_first, reinitRule_pending_first, rngReinitRule_pending_first, plainRule_pending_first]; done) | with_reducible rfl | (simp_all; done))
@[simp] theorem writeRule_pending_act (env : ApplyEnv) (w : Who) (id : ObjId) (data : Bytes) (s : State) : ∀ τ, ((writeRule env w id data s).act τ).pending = τ.pending := by
  intro τ
  unfold writeRule
  dsimp only
  refine ite_rule_pending_act _ _ _ (by apply ownRule_pending_act) ?_ τ; clear τ; intro τ
  refine ite_rule_pending_act _ _ _ (by apply ruleDict_pending_act) ?_ τ; clear τ; intro τ
  refine ite_rule_pending_act _ _ _ (by apply ruleLife_pending_act) ?_ τ; clear τ; intro τ
  refine ite_rule_pending_act _ _ _ (by apply rulePower_pending_act) ?_ τ; clear τ; intro τ
  refine ite_rule_pending_act _ _ _ (by apply plainRule_pending_act) ?_ τ; clear τ; intro τ
  refine ite_rule_pending_act _ _ _ (by apply ruleTamper_pending_act) ?_ τ; clear τ; intro τ
  refine ite_rule_pending_act _ _ _ (by apply ruleUpdate_pending_act) ?_ τ; clear τ; intro τ
  refine ite_rule_pending_act _ _ _ (by apply ruleIso_pending_act) ?_ τ; clear τ; intro τ
  refine ite_rule_pending_act _ _ _ (by apply rulePair_pending_act) ?_ τ; clear τ; intro τ
  refine ite_rule_pending_act _ _ _ (by apply ruleEngines_pending_act) ?_ τ; clear τ; intro τ
  refine ite_rule_pending_act _ _ _ (by apply ruleKreg_pending_act) ?_ τ; clear τ; intro τ
  refine ite_rule_pending_act _ _ _ (by apply rulePort_pending_act) ?_ τ; clear τ; intro τ
  refine ite_rule_pending_act _ _ _ (by apply plainRule_pending_act) ?_ τ; clear τ; intro τ
  refine ite_rule_pending_act _ _ _ (by apply ruleErrors_pending_act) ?_ τ; clear τ; intro τ
  refine ite_rule_pending_act _ _ _ (by apply plainRule_pending_act) ?_ τ; clear τ; intro τ
  refine ite_rule_pending_act _ _ _ (by apply ruleTenant_pending_act) ?_ τ; clear τ; intro τ
  refine ite_rule_pending_act _ _ _ (by apply ruleCircuit_pending_act) ?_ τ; clear τ; intro τ
  refine ite_rule_pending_act _ _ _ (by apply ruleService_pending_act) ?_ τ; clear τ; intro τ
  apply plainRule_pending_act
@[simp] theorem writeRule_pending_first (env : ApplyEnv) (w : Who) (id : ObjId) (data : Bytes) (s : State) : ∀ τ, ((writeRule env w id data s).first τ).1.pending = τ.pending := by
  intro τ
  unfold writeRule
  dsimp only
  refine ite_rule_pending_first _ _ _ (by apply ownRule_pending_first) ?_ τ; clear τ; intro τ
  refine ite_rule_pending_first _ _ _ (by apply ruleDict_pending_first) ?_ τ; clear τ; intro τ
  refine ite_rule_pending_first _ _ _ (by apply ruleLife_pending_first) ?_ τ; clear τ; intro τ
  refine ite_rule_pending_first _ _ _ (by apply rulePower_pending_first) ?_ τ; clear τ; intro τ
  refine ite_rule_pending_first _ _ _ (by apply plainRule_pending_first) ?_ τ; clear τ; intro τ
  refine ite_rule_pending_first _ _ _ (by apply ruleTamper_pending_first) ?_ τ; clear τ; intro τ
  refine ite_rule_pending_first _ _ _ (by apply ruleUpdate_pending_first) ?_ τ; clear τ; intro τ
  refine ite_rule_pending_first _ _ _ (by apply ruleIso_pending_first) ?_ τ; clear τ; intro τ
  refine ite_rule_pending_first _ _ _ (by apply rulePair_pending_first) ?_ τ; clear τ; intro τ
  refine ite_rule_pending_first _ _ _ (by apply ruleEngines_pending_first) ?_ τ; clear τ; intro τ
  refine ite_rule_pending_first _ _ _ (by apply ruleKreg_pending_first) ?_ τ; clear τ; intro τ
  refine ite_rule_pending_first _ _ _ (by apply rulePort_pending_first) ?_ τ; clear τ; intro τ
  refine ite_rule_pending_first _ _ _ (by apply plainRule_pending_first) ?_ τ; clear τ; intro τ
  refine ite_rule_pending_first _ _ _ (by apply ruleErrors_pending_first) ?_ τ; clear τ; intro τ
  refine ite_rule_pending_first _ _ _ (by apply plainRule_pending_first) ?_ τ; clear τ; intro τ
  refine ite_rule_pending_first _ _ _ (by apply ruleTenant_pending_first) ?_ τ; clear τ; intro τ
  refine ite_rule_pending_first _ _ _ (by apply ruleCircuit_pending_first) ?_ τ; clear τ; intro τ
  refine ite_rule_pending_first _ _ _ (by apply ruleService_pending_first) ?_ τ; clear τ; intro τ
  apply plainRule_pending_first
@[simp] theorem setCard_pending (k : Card) (s : State) : (setCard k s).pending = s.pending := by simp only [setCard, rouseCore_pending, noticed_pending, ite_pending, ite_self]
@[simp] theorem activateCard_pending (s : State) : (activateCard s).pending = s.pending := by simp only [activateCard, setCard_pending, emit_pending, ite_pending, ite_self]
@[simp] theorem rejectCard_pending (s : State) : (rejectCard s).pending = s.pending := by simp only [rejectCard, emit_pending, setCard_pending]
@[simp] theorem refuseCard_pending (s : State) : (refuseCard s).pending = s.pending := by simp only [refuseCard, setCard_pending]
theorem execCardInsert_pending (s : State) : ∃ τ, execCardInsert s = .next τ ∧ τ.pending = s.pending := by refine ⟨_, rfl, ?_⟩; simp only [activateCard_pending, ite_pending, ite_self]
theorem execCardAtr_pending (valid : Bool) (t1lrc : Bool) (s : State) : ∃ τ, execCardAtr valid t1lrc s = .next τ ∧ τ.pending = s.pending := by refine ⟨_, rfl, ?_⟩; (repeat' split) <;> (first | (simp only [rejectCard_pending, emit_pending, setCard_pending]; done) | with_reducible rfl | (simp_all; done))
theorem execCardSelect_pending (sw : Nat) (s : State) : ∃ τ, execCardSelect sw s = .next τ ∧ τ.pending = s.pending := by refine ⟨_, rfl, ?_⟩; (repeat' split) <;> (first | (simp only [refuseCard_pending, emit_pending, setCard_pending]; done) | with_reducible rfl | (simp_all; done))
@[simp] theorem askLogin_pending (o : Nat) (keys : Bytes) (s : State) : (askLogin o keys s).pending = s.pending := by simp only [askLogin, draw_pending, emit_pending, setCard_pending]
theorem execCardGetKeys_pending (sw : Nat) (data : Bytes) (s : State) : ∃ τ, execCardGetKeys sw data s = .next τ ∧ τ.pending = s.pending := by refine ⟨_, rfl, ?_⟩; (repeat' split) <;> (first | (simp only [refuseCard_pending, setCard_pending, askLogin_pending]; done) | with_reducible rfl | (simp_all; done))
@[simp] theorem openCard_pending (o : Nat) (s : State) : (openCard o s).pending = s.pending := by simp only [openCard, askFill_pending, setObj_pending, setCard_pending]
@[simp] theorem endApproval_pending (report : Bool) (e : Result) (s : State) : (endApproval report e s).pending = s.pending := by simp only [endApproval, deliver_pending, ite_pending, ite_self]
@[simp] theorem notApproved_pending (obj : ObjId) (report : Bool) (s : State) : (notApproved obj report s).pending = s.pending := by simp only [notApproved, endApproval_pending, countRefused_pending, usedFree_pending]
@[simp] theorem approved_pending (env : ApplyEnv) (o : Nat) (obj : ObjId) (data : Bytes) (report : Bool) (s : State) : (approved env o obj data report s).pending = s.pending := by unfold approved; dsimp only; (repeat' split) <;> (first | (simp only [writeRule_pending_act, writeRule_pending_first, askFill_pending, endApproval_pending, countRefused_pending, failedLast_pending, approve_pending, implies_true]; done) | with_reducible rfl | (simp_all; done))
@[simp] theorem askComponent_pending (stmt : Bytes) (s : State) : (askComponent stmt s).pending = s.pending := by simp only [askComponent, draw_pending, emit_pending, keepSecret_pending, setCard_pending]
theorem execCardSign_pending (sw : Nat) (data : Bytes) (env : ApplyEnv) (s : State) : ∃ τ, execCardSign sw data env s = .next τ ∧ τ.pending = s.pending := by refine ⟨_, rfl, ?_⟩; dsimp only; (repeat' split) <;> (first | (simp only [openCard_pending, refuseCard_pending, approved_pending, notApproved_pending, askComponent_pending, failFill_pending]; done) | with_reducible rfl | (simp_all; done))
theorem execCardGetComponent_pending (sw : Nat) (data : Bytes) (s : State) : ∃ τ, execCardGetComponent sw data s = .next τ ∧ τ.pending = s.pending := by refine ⟨_, rfl, ?_⟩; dsimp only; (repeat' split) <;> (first | (simp only [endFillStep_pending, failFill_pending, addComponent_pending]; done) | with_reducible rfl | (simp_all; done))
@[simp] theorem dropOperation_pending (s : State) : (dropOperation s).pending = s.pending := by unfold dropOperation; (repeat' split) <;> (first | (simp only [notApproved_pending, failFill_pending]; done) | with_reducible rfl | (simp_all; done))
theorem execCardRemove_pending (s : State) : ∃ τ, execCardRemove s = .next τ ∧ τ.pending = s.pending := by refine ⟨_, rfl, ?_⟩; simp only [dropOperation_pending, emit_pending, setCard_pending, ite_pending, ite_self]
theorem execCardIdleTimeout_pending (s : State) : ∃ τ, execCardIdleTimeout s = .next τ ∧ τ.pending = s.pending := by refine ⟨_, rfl, ?_⟩; simp only [closeCard_pending, advanceTo_pending, ite_pending, ite_self]
@[simp] theorem copyLatch_pending (burns : Bool) (level : Nat) (s : State) : (copyLatch burns level s).pending = s.pending := by unfold copyLatch; (repeat' split) <;> (first | (simp only [logTamper_pending, implies_true, ite_pending, ite_self]; done) | with_reducible rfl | (simp_all; done))
@[simp] theorem takeAon_pending (s : State) : (takeAon s).pending = s.pending := by simp only [takeAon, burn_pending, copyLatch_pending, ite_pending, ite_self]
@[simp] theorem destroy_pending (s : State) : (destroy s).pending = s.pending := by simp only [destroy, eraseBbram_pending, ite_pending, ite_self]
@[simp] theorem loadOtp_pending (s : State) : (loadOtp s).pending = s.pending := by simp only [loadOtp]
@[simp] theorem countBoot_pending (s : State) : (countBoot s).pending = s.pending := by simp only [countBoot, usedFree_pending]
@[simp] theorem bootPower_pending (e : Option Int) (s : State) : (bootPower e s).pending = s.pending := by unfold bootPower; (repeat' split) <;> (first | (simp only [setDivider_pending, setObj_pending]; done) | with_reducible rfl | (simp_all; done))
@[simp] theorem tagSupervisor_pending (s : State) : (tagSupervisor s).pending = s.pending := by simp only [tagSupervisor, retag_pending]
@[simp] theorem phaseC1_pending (env : CastEnv) (s : State) : (phaseC1 env s).pending = s.pending := by simp only [phaseC1, destroy_pending, loadOtp_pending, countBoot_pending, takeAon_pending, tagSupervisor_pending, burnSecver_pending, extendMeas_pending, bootPower_pending, ite_pending, ite_self]
@[simp] theorem castKey_pending (n : Nat) (len : Nat) (label : String) (s : State) : (castKey n len label s).2.pending = s.pending := by unfold castKey; (repeat' split) <;> (first | (simp only [draw_pending]; done) | with_reducible rfl | (simp_all; done))
@[simp] theorem castKeys_pending (s : State) : (castKeys s).pending = s.pending := by simp only [castKeys, castKey_pending]
@[simp] theorem phaseC2_pending (env : CastEnv) (s : State) : (phaseC2 env s).pending = s.pending := by simp only [phaseC2, castKeys_pending, rngStarts_pending, usedFree_pending, setObj_pending, rngDies_pending, ite_pending, ite_self]
@[simp] theorem copyFailed_pending (s : State) : (copyFailed s).st.pending = s.pending := by simp only [copyFailed, putRec_pending, lastErr_pending]
@[simp] theorem copyTook_pending (env : CastEnv) (s : State) : (copyTook env s).pending = s.pending := by simp only [copyTook, setObj_pending]
@[simp] theorem stepD_pending (s : State) : (stepD s).st.pending = s.pending := by simp only [stepD, usedFree_pending, putRec_pending]
@[simp] theorem stepC_pending (env : CastEnv) (s : State) : (stepC env s).st.pending = s.pending := by unfold stepC; (repeat' split) <;> (first | (simp only [copyTook_pending, putRec_pending, stepD_pending, copyFailed_pending]; done) | with_reducible rfl | (simp_all; done))
@[simp] theorem stepB_pending (env : CastEnv) (s : State) : (stepB env s).st.pending = s.pending := by unfold stepB; (repeat' split) <;> (first | (simp only [stepC_pending, copyTook_pending, putRec_pending, copyFailed_pending]; done) | with_reducible rfl | (simp_all; done))
@[simp] theorem stepA_pending (env : CastEnv) (s : State) : (stepA env s).st.pending = s.pending := by unfold stepA; dsimp only; (repeat' split) <;> (first | (simp only [stepB_pending, putRec_pending, lastErr_pending]; done) | with_reducible rfl | (simp_all; done))
@[simp] theorem fallBack_pending (env : CastEnv) (s : State) : (fallBack env s).st.pending = s.pending := by simp only [fallBack, copyTook_pending, putRec_pending, lastErr_pending, ite_pending, ite_self]
@[simp] theorem copies_pending (env : CastEnv) (s : State) : (copies env s).st.pending = s.pending := by unfold copies; dsimp only; (repeat' split) <;> (first | (simp only [fallBack_pending, stepB_pending, stepC_pending, stepA_pending]; done) | with_reducible rfl | (simp_all; done))
@[simp] theorem areaFailed_pending (a : Nat) (e : BundleErr) (s : State) : (areaFailed a e s).pending = s.pending := by simp only [areaFailed, lastErr_pending, putRec_pending, ite_pending, ite_self]
@[simp] theorem chooseArea_pending (fallbackFirst : Bool) (s : State) : (chooseArea fallbackFirst s).2.pending = s.pending := by unfold chooseArea; dsimp only; (repeat' split) <;> (first | (simp only [areaFailed_pending]; done) | with_reducible rfl | (simp_all; done))
@[simp] theorem setComp_pending (t : Nat) (v : Nat) (s : State) : (setComp t v s).pending = s.pending := by simp only [setComp, setObj_pending]
@[simp] theorem placeFirmware_pending (b : Bytes) (s : State) : (placeFirmware b s).pending = s.pending := by unfold placeFirmware; (repeat' split) <;> (first | (simp only [setComp_pending, memWrite_pending]; done) | with_reducible rfl | (simp_all; done))
@[simp] theorem startFirmware_pending (s : State) : (startFirmware s).pending = s.pending := by simp only [startFirmware, usedFree_pending]
@[simp] theorem placeThresholds_pending (b : Bytes) (s : State) : (placeThresholds b s).pending = s.pending := by unfold placeThresholds; (repeat' split) <;> (first | (simp only; done) | with_reducible rfl | (simp_all; done))
@[simp] theorem phaseC3_pending (a : Nat) (s : State) : (phaseC3 a s).pending = s.pending := by simp only [phaseC3, extendMeas_pending, placeThresholds_pending, startFirmware_pending, placeFirmware_pending]
@[simp] theorem loadPatch_pending (b : Bytes) (bad : List Nat) (s : State) (cls : Nat) : (loadPatch b bad s cls).pending = s.pending := by unfold loadPatch; (repeat' split) <;> (first | (simp only [setComp_pending, setObj_pending, ite_pending, ite_self]; done) | with_reducible rfl | (simp_all; done))
@[simp] theorem loadBlockPatch_pending (b : Bytes) (bad : List Nat) (s : State) (t : Nat) : (loadBlockPatch b bad s t).pending = s.pending := by simp only [loadBlockPatch, setComp_pending, ite_pending, ite_self]
@[simp] theorem katFails_pending (s : State) (u : UnitRef) : (katFails s u).pending = s.pending := by simp only [katFails, tamperEvent_pending, fenceUnit_pending, ite_pending, ite_self]
@[simp] theorem phaseC4_pending (env : CastEnv) (s : State) : (phaseC4 env s).pending = s.pending := by unfold phaseC4; (repeat' split) <;> (first | (simp only [extendMeas_pending]; done) | with_reducible rfl | (simp_all; done))
theorem execArchiveRestore_pending (torn : Bool) (bad : Option Nat) (s : State) : ∃ τ, execArchiveRestore torn bad s = .next τ ∧ τ.pending = s.pending := by refine ⟨_, rfl, ?_⟩; simp only [renewPolls_pending, admitInternal_pending, queueRebuilds_pending, setObj_pending, restoreArchive_pending, ite_pending, ite_self]
@[simp] theorem phaseC5_pending (env : CastEnv) (s : State) : (phaseC5 env s).pending = s.pending := by simp only [phaseC5, queueRebuilds_pending, restoreArchive_pending, attestKeys_pending, ite_pending, ite_self]
@[simp] theorem convert_pending (env : CastEnv) (s : State) : (convert env s).pending = s.pending := by unfold convert; dsimp only; (repeat' split) <;> (first | (simp only [putArea_pending]; done) | with_reducible rfl | (simp_all; done))
@[simp] theorem putObj_pending (id : Nat) (v : Nat) (s : State) : (putObj id v s).pending = s.pending := by simp only [putObj]
@[simp] theorem skipRecord_pending (s : State) : (skipRecord s).pending = s.pending := by simp only [skipRecord, bump_pending]
@[simp] theorem loadRecord_pending (recs : List (ObjId × Bytes)) (s : State) (p : ObjId × Bytes) : (loadRecord recs s p).pending = s.pending := by unfold loadRecord; (repeat' split) <;> (first | (simp only [skipRecord_pending, putObj_pending]; done) | with_reducible rfl | (simp_all; done))
@[simp] theorem rebuildTenant_pending (s : State) (p : ObjId × Bytes) : (rebuildTenant s p).pending = s.pending := by simp only [rebuildTenant, putObj_pending, ite_pending, ite_self]
@[simp] theorem rebuildCircuit_pending (recs : List (ObjId × Bytes)) (s : State) (p : ObjId × Bytes) : (rebuildCircuit recs s p).pending = s.pending := by simp only [rebuildCircuit, bindCircuit_pending, skipRecord_pending, ite_pending, ite_self]
@[simp] theorem clearCfg_pending (s : State) : (clearCfg s).pending = s.pending := by unfold clearCfg; (repeat' split) <;> (first | (simp only; done) | with_reducible rfl | (simp_all; done))
@[simp] theorem loadSettings_pending (env : CastEnv) (s : State) : (loadSettings env s).pending = s.pending := by unfold loadSettings; dsimp only; (repeat' split) <;> (first | (simp only [putObj_pending, clearCfg_pending, convert_pending]; done) | with_reducible rfl | (simp_all; done))
@[simp] theorem lockRules_pending (s : State) : (lockRules s).pending = s.pending := by simp only [lockRules]
@[simp] theorem lockMission_pending (s : State) : (lockMission s).pending = s.pending := by simp only [lockMission, lockObjs_pending, ite_pending, ite_self]
@[simp] theorem loadProgram_pending (b : Bytes) (s : State) (n : Nat) : (loadProgram b s n).pending = s.pending := by unfold loadProgram; (repeat' split) <;> (first | (simp only [setComp_pending, loadNow_pending, extendMeas_pending, ite_pending, ite_self]; done) | with_reducible rfl | (simp_all; done))
@[simp] theorem measureSettings_pending (s : State) : (measureSettings s).pending = s.pending := by simp only [measureSettings, extendMeas_pending, setComp_pending, ite_pending, ite_self]
@[simp] theorem startPorts_pending (s : State) : (startPorts s).pending = s.pending := by
  exact foldl_pending _ (fun t p => by split <;> simp) _ _
@[simp] theorem phaseC6_pending (env : CastEnv) (s : State) : (phaseC6 env s).pending = s.pending := by unfold phaseC6; (repeat' split) <;> (first | (simp only [driveGpio_pending, writePhy_pending, startPorts_pending]; done) | with_reducible rfl | (simp_all; done))
@[simp] theorem castTook_pending (long : Bool) (s : State) : (castTook long s).pending = s.pending := by simp only [castTook, advanceTo_pending, usedFree_pending, putObj_pending]
@[simp] theorem deviceReady_pending (env : CastEnv) (s : State) : (deviceReady env s).pending = s.pending := by simp only [deviceReady, beginPlan_pending, admitInternal_pending, putObj_pending, alarmPin_pending, activateCard_pending, ite_pending, ite_self]
@[simp] theorem bootOn_pending (env : CastEnv) (s : State) : (bootOn env s).pending = s.pending := by
  unfold bootOn
  dsimp only
  split <;> rename_i h <;> have h := congrArg (fun q => q.2.pending) h <;>
    simp only [chooseArea_pending, copies_pending, phaseC2_pending] at h <;> rw [h]
  · exact castTook_pending _ _
  · simp only [deviceReady_pending, castTook_pending, phaseC6_pending, phaseC5_pending, phaseC4_pending, phaseC3_pending]
@[simp] theorem scrapEnds_pending (s : State) : (scrapEnds s).pending = s.pending := by simp only [scrapEnds, castTook_pending]
theorem execCastOn_pending (env : CastEnv) (s : State) : ∃ τ, execCastOn env s = .next τ ∧ τ.pending = s.pending := by refine ⟨_, rfl, ?_⟩; simp only [phaseC1_pending, scrapEnds_pending, bootOn_pending, ite_pending, ite_self]
@[simp] theorem arriving_pending (type : Nat) (d : Datagram) (k : Bytes → State → State) (s : State) (h2 : ∀ v0 τ, (k v0 τ).pending = τ.pending) : (arriving type d k s).pending = s.pending := by unfold arriving; (repeat' split) <;> (first | (simp only [bump_pending]; done) | with_reducible rfl | (simp_all; done))
@[simp] theorem setSession_pending (k : Nat) (x : Session) (s : State) : (setSession k x s).pending = s.pending := by simp only [setSession]
@[simp] theorem authentic_pending (b : Bytes) (k : Nat → Session → State → State) (s : State) (h1 : ∀ v0 v1 τ, (k v0 v1 τ).pending = τ.pending) : (authentic b k s).pending = s.pending := by unfold authentic; (repeat' split) <;> (first | (simp only [bump_pending, closeSession_pending]; done) | with_reducible rfl | (simp_all; done))
@[simp] theorem acceptReq_pending (n : Nat) (x : Session) (op : AccOp) (p : Bytes) (s : State) : (acceptReq n x op p s).pending = s.pending := by unfold acceptReq; (repeat' split) <;> (first | (simp only [setSession_pending, deliver_pending, setCallerSt_pending, ite_pending, ite_self]; done) | with_reducible rfl | (simp_all; done))
@[simp] theorem request_pending (op : AccOp) (b : Bytes) (n : Nat) (x : Session) (s : State) : (request op b n x s).pending = s.pending := by unfold request; dsimp only; (repeat' split) <;> (first | (simp only [sendData_pending, setSession_pending, bump_pending, acceptReq_pending]; done) | with_reducible rfl | (simp_all; done))
@[simp] theorem dataIn_pending (type : Nat) (op : Bytes → AccOp) (d : Datagram) (s : State) : (dataIn type op d s).pending = s.pending := by simp only [dataIn, arriving_pending, authentic_pending, request_pending, implies_true]
theorem execOapRead_pending (d : Datagram) (s : State) : ∃ τ, execOapRead d s = .next τ ∧ τ.pending = s.pending := by refine ⟨_, rfl, ?_⟩; simp only [dataIn_pending]
theorem execOapWrite_pending (d : Datagram) (s : State) : ∃ τ, execOapWrite d s = .next τ ∧ τ.pending = s.pending := by refine ⟨_, rfl, ?_⟩; simp only [dataIn_pending]
theorem execOapReadBlock_pending (d : Datagram) (s : State) : ∃ τ, execOapReadBlock d s = .next τ ∧ τ.pending = s.pending := by refine ⟨_, rfl, ?_⟩; simp only [dataIn_pending]
theorem execOapWriteBlock_pending (d : Datagram) (s : State) : ∃ τ, execOapWriteBlock d s = .next τ ∧ τ.pending = s.pending := by refine ⟨_, rfl, ?_⟩; simp only [dataIn_pending]
theorem execClose_pending (d : Datagram) (s : State) : ∃ τ, execClose d s = .next τ ∧ τ.pending = s.pending := by refine ⟨_, rfl, ?_⟩; simp only [arriving_pending, authentic_pending, closeSession_pending, implies_true]
@[simp] theorem dropSetup_pending (n : Nat) (s : State) : (dropSetup n s).pending = s.pending := by simp only [dropSetup, dropSecret_pending]
theorem execOapSetupTimeout_pending (slot : Nat) (s : State) : ∃ τ, execOapSetupTimeout slot s = .next τ ∧ τ.pending = s.pending := by refine ⟨_, rfl, ?_⟩; (repeat' split) <;> (first | (simp only [advanceTo_pending, dropSetup_pending]; done) | with_reducible rfl | (simp_all; done))
theorem execOapIdleTimeout_pending (slot : Nat) (s : State) : ∃ τ, execOapIdleTimeout slot s = .next τ ∧ τ.pending = s.pending := by refine ⟨_, rfl, ?_⟩; (repeat' split) <;> (first | (simp only [closeSession_pending, advanceTo_pending]; done) | with_reducible rfl | (simp_all; done))
theorem execOapMaxLife_pending (slot : Nat) (s : State) : ∃ τ, execOapMaxLife slot s = .next τ ∧ τ.pending = s.pending := by refine ⟨_, rfl, ?_⟩; (repeat' split) <;> (first | (simp only [closeSession_pending, advanceTo_pending]; done) | with_reducible rfl | (simp_all; done))
@[simp] theorem notify_pending (slot : Nat) (obj : ObjId) (gpio : Nat) (s : State) : (notify slot obj gpio s).pending = s.pending := by unfold notify; dsimp only; (repeat' split) <;> (first | (simp only [advanceTo_pending, setSession_pending, sendData_pending, noteRead_pending]; done) | with_reducible rfl | (simp_all; done))
theorem execNotify_pending (slot : Nat) (obj : ObjId) (gpio : Nat) (s : State) : ∃ τ, execNotify slot obj gpio s = .next τ ∧ τ.pending = s.pending := by refine ⟨_, rfl, ?_⟩; simp only [notify_pending, lookAround_pending, ite_pending, ite_self]
theorem execIcmpv6Echo_pending (d : Datagram) (s : State) : ∃ τ, execIcmpv6Echo d s = .next τ ∧ τ.pending = s.pending := by refine ⟨_, rfl, ?_⟩; simp only [emit_pending, ite_pending, ite_self]
theorem execNeighbourDiscovery_pending (d : Datagram) (s : State) : ∃ τ, execNeighbourDiscovery d s = .next τ ∧ τ.pending = s.pending := by refine ⟨_, rfl, ?_⟩; simp only [emit_pending, ite_pending, ite_self]
@[simp] theorem putSetup_pending (n : Nat) (u : Setup) (s : State) : (putSetup n u s).pending = s.pending := by simp only [putSetup]
@[simp] theorem failSetup_pending (n : Nat) (s : State) : (failSetup n s).pending = s.pending := by simp only [failSetup, bump_pending, dropSetup_pending]
@[simp] theorem mgSignPq_pending (p : Nat) (h : Nat) (ctx : Bytes) (msg : Bytes) (s : State) : (mgSignPq p h ctx msg s).2.pending = s.pending := by simp only [mgSignPq, draw_pending, touchSlot_pending, signIterMax_pending]
@[simp] theorem mgSignCl_pending (p : Nat) (h : Nat) (msg : Bytes) (s : State) : (mgSignCl p h msg s).2.pending = s.pending := by simp only [mgSignCl, draw_pending, touchSlot_pending]
@[simp] theorem mgEncaps_pending (u : Nat) (m : Bytes) (s : State) : (mgEncaps u m s).2.2.pending = s.pending := by simp only [mgEncaps, draw_pending]
@[simp] theorem mgAgree_pending (u : Nat) (m : Bytes) (s : State) : (mgAgree u m s).2.2.pending = s.pending := by unfold mgAgree; (repeat' split) <;> (first | (simp only [draw_pending]; done) | with_reducible rfl | (simp_all; done))
@[simp] theorem sendG2_pending (u : Setup) (id : Nat) (m : Bytes) (s : State) : (sendG2 u id m s).2.pending = s.pending := by simp only [sendG2]
@[simp] theorem setupHash_pending (n : Nat) (cyc : Nat) (done : State → State) (s : State) (h2 : ∀ τ, (done τ).pending = τ.pending) : (setupHash n cyc done s).pending = s.pending := by unfold setupHash; (repeat' split) <;> (first | (simp only [hashJob_pending, failSetup_pending, implies_true, ite_pending, ite_self]; done) | with_reducible rfl | (simp_all; done))
@[simp] theorem answerG1_pending (n : Nat) (x : Setup) (m : Bytes) (s : State) : (answerG1 n x m s).pending = s.pending := by unfold answerG1; dsimp only; (repeat' split) <;> (first | (simp only [failSetup_pending, mgEncaps_pending, mgAgree_pending, bump_pending, draw_pending, setupHash_pending, mgSignPq_pending, mgSignCl_pending, sendG2_pending, usedFree_pending, keepSecret_pending, putSetup_pending, implies_true, ite_pending, ite_self]; done) | with_reducible rfl | (simp_all; done))
@[simp] theorem joinG1_pending (n : Nat) (x : Setup) (f : Bytes) (s : State) : (joinG1 n x f s).pending = s.pending := by unfold joinG1; (repeat' split) <;> (first | (simp only [putSetup_pending, failSetup_pending, answerG1_pending, implies_true, ite_pending, ite_self]; done) | with_reducible rfl | (simp_all; done))
@[simp] theorem firstMessage_pending (d : Datagram) (b : Bytes) (s : State) : (firstMessage d b s).pending = s.pending := by unfold firstMessage; dsimp only; (repeat' split) <;> (first | (simp only [bump_pending, failSetup_pending, joinG1_pending]; done) | with_reducible rfl | (simp_all; done))
theorem execSessionG1_pending (d : Datagram) (s : State) : ∃ τ, execSessionG1 d s = .next τ ∧ τ.pending = s.pending := by refine ⟨_, rfl, ?_⟩; simp only [arriving_pending, firstMessage_pending, implies_true, ite_pending, ite_self]
@[simp] theorem openSession_pending (k : Nat) (p : Nat) (x : Setup) (keys : Bytes × Bytes) (s : State) : (openSession k p x keys s).pending = s.pending := by simp only [openSession, keepSecret_pending, setSession_pending]
@[simp] theorem admitG3_pending (n : Nat) (x : Setup) (m : Bytes) (ok : Bool) (keys : Bytes × Bytes) (s : State) : (admitG3 n x m ok keys s).pending = s.pending := by unfold admitG3; dsimp only; (repeat' split) <;> (first | (simp only [openSession_pending, dropSetup_pending, bump_pending, failSetup_pending, implies_true, ite_pending, ite_self]; done) | with_reducible rfl | (simp_all; done))
@[simp] theorem judgeG3_pending (n : Nat) (x : Setup) (m : Bytes) (s : State) : (judgeG3 n x m s).pending = s.pending := by simp only [judgeG3, failSetup_pending, setupHash_pending, admitG3_pending, implies_true, ite_pending, ite_self]
@[simp] theorem answerG3_pending (n : Nat) (x : Setup) (m : Bytes) (s : State) : (answerG3 n x m s).pending = s.pending := by unfold answerG3; dsimp only; (repeat' split) <;> (first | (simp only [failSetup_pending, setupHash_pending, judgeG3_pending, implies_true, ite_pending, ite_self]; done) | with_reducible rfl | (simp_all; done))
@[simp] theorem joinG3_pending (n : Nat) (x : Setup) (f : Bytes) (s : State) : (joinG3 n x f s).pending = s.pending := by unfold joinG3; dsimp only; (repeat' split) <;> (first | (simp only [failSetup_pending, putSetup_pending, answerG3_pending, implies_true, ite_pending, ite_self]; done) | with_reducible rfl | (simp_all; done))
@[simp] theorem lastMessage_pending (b : Bytes) (s : State) : (lastMessage b s).pending = s.pending := by unfold lastMessage; (repeat' split) <;> (first | (simp only [bump_pending, failSetup_pending, joinG3_pending]; done) | with_reducible rfl | (simp_all; done))
theorem execSessionG3_pending (d : Datagram) (s : State) : ∃ τ, execSessionG3 d s = .next τ ∧ τ.pending = s.pending := by refine ⟨_, rfl, ?_⟩; simp only [arriving_pending, lastMessage_pending, implies_true, ite_pending, ite_self]
@[simp] theorem setWin_pending (w : Window) (s : State) : (setWin w s).pending = s.pending := by simp only [setWin]
@[simp] theorem writeMsix_pending (off : Nat) (v : Word) (s : State) : (writeMsix off v s).pending = s.pending := by unfold writeMsix; (repeat' split) <;> (first | (simp only [emit_pending, ite_pending, ite_self]; done) | with_reducible rfl | (simp_all; done))
@[simp] theorem guarded_pending (f : Window → Window) (s : State) : (guarded f s).pending = s.pending := by simp only [guarded, setWin_pending, ite_pending, ite_self]
@[simp] theorem popNotification_pending (s : State) : (popNotification s).pending = s.pending := by simp only [popNotification, lookAround_pending, setWin_pending]
@[simp] theorem command_pending (op : AccOp) (len : Nat) (s : State) : (command op len s).pending = s.pending := by simp only [command, setWin_pending, ite_pending, ite_self]
@[simp] theorem writeReg_pending (off : Nat) (v : Word) (s : State) : (writeReg off v s).pending = s.pending := by simp only [writeReg, setRun_pending, guarded_pending, command_pending, setWin_pending, popNotification_pending, writeMsix_pending, ite_pending, ite_self]
theorem execRegisterWrite_pending (t : WriteTarget) (s : State) : ∃ τ, execRegisterWrite t s = .next τ ∧ τ.pending = s.pending := by refine ⟨_, rfl, ?_⟩; (repeat' split) <;> (first | (simp only [writeReg_pending, inTurn_pending, serveChunk_pending, writeAccess_pending, ruleFor_pending_act, ruleFor_pending_first, writeRule_pending_act, writeRule_pending_first, implies_true, ite_pending, ite_self]; done) | with_reducible rfl | (simp_all; done))
theorem execDwinRead_pending (s : State) : ∃ τ, execDwinRead s = .next τ ∧ τ.pending = s.pending := by refine ⟨_, rfl, ?_⟩; simp only [command_pending]
theorem execDwinWrite_pending (len : Nat) (s : State) : ∃ τ, execDwinWrite len s = .next τ ∧ τ.pending = s.pending := by refine ⟨_, rfl, ?_⟩; simp only [command_pending]
theorem execDwinReadBlock_pending (s : State) : ∃ τ, execDwinReadBlock s = .next τ ∧ τ.pending = s.pending := by refine ⟨_, rfl, ?_⟩; simp only [command_pending]
theorem execDwinWriteBlock_pending (len : Nat) (s : State) : ∃ τ, execDwinWriteBlock len s = .next τ ∧ τ.pending = s.pending := by refine ⟨_, rfl, ?_⟩; simp only [command_pending]
theorem execDwinWriteBlockLast_pending (len : Nat) (s : State) : ∃ τ, execDwinWriteBlockLast len s = .next τ ∧ τ.pending = s.pending := by refine ⟨_, rfl, ?_⟩; simp only [command_pending]
theorem execDwinNtfPop_pending (a0 : Word) (s : State) : ∃ τ, execDwinNtfPop a0 s = .next τ ∧ τ.pending = s.pending := by refine ⟨_, rfl, ?_⟩; simp only [popNotification_pending, ite_pending, ite_self]
@[simp] theorem applyRead_pending (env : ApplyEnv) (w : Who) (r : AccessReq) (s : State) : (applyRead env w r s).pending = s.pending := by unfold applyRead; (repeat' split) <;> (first | (simp only [deliver_pending, countRefused_pending, serveRead_pending]; done) | with_reducible rfl | (simp_all; done))
@[simp] theorem answerSegment_pending (w : Who) (r : AccessReq) (v : Bytes) (s : State) : (answerSegment w r v s).pending = s.pending := by simp only [answerSegment, deliver_pending]
@[simp] theorem trackRead_pending (w : Who) (id : ObjId) (v : Bytes) (s : State) : (trackRead w id v s).pending = s.pending := by simp only [trackRead, setCallerSt_pending]
@[simp] theorem refuseSegment_pending (w : Who) (r : AccessReq) (e : Result) (total : Nat) (s : State) : (refuseSegment w r e total s).pending = s.pending := by simp only [refuseSegment, deliver_pending]
@[simp] theorem applyReadBlock_pending (env : ApplyEnv) (w : Who) (r : AccessReq) (s : State) : (applyReadBlock env w r s).pending = s.pending := by unfold applyReadBlock; (repeat' split) <;> (first | (simp only [trackRead_pending, refuseSegment_pending, countRefused_pending, answerSegment_pending, noteRead_pending, serveRead_pending, ite_pending, ite_self]; done) | with_reducible rfl | (simp_all; done))
@[simp] theorem applyWrite_pending (env : ApplyEnv) (w : Who) (r : AccessReq) (s : State) : (applyWrite env w r s).pending = s.pending := by simp only [applyWrite, deliver_pending, deliverWrite_pending, serveWrite_pending, writeRule_pending_act, writeRule_pending_first, implies_true, ite_pending, ite_self]
@[simp] theorem setBlock_pending (w : Who) (b : Option BlockWrite) (s : State) : (setBlock w b s).pending = s.pending := by simp only [setBlock, setCallerSt_pending]
@[simp] theorem answerWrite_pending (w : Who) (r : AccessReq) (e : Result) (s : State) : (answerWrite w r e s).pending = s.pending := by simp only [answerWrite, deliver_pending]
@[simp] theorem applyLast_pending (env : ApplyEnv) (w : Who) (r : AccessReq) (b : BlockWrite) (s : State) : (applyLast env w r b s).pending = s.pending := by unfold applyLast; dsimp only; (repeat' split) <;> (first | (simp only [serveChunk_pending, answerWrite_pending, serveWrite_pending, writeRule_pending_act, writeRule_pending_first, implies_true]; done) | with_reducible rfl | (simp_all; done))
@[simp] theorem extendBlock_pending (env : ApplyEnv) (w : Who) (r : AccessReq) (b : BlockWrite) (s : State) : (extendBlock env w r b s).pending = s.pending := by simp only [extendBlock, applyLast_pending, setBlock_pending, answerWrite_pending, ite_pending, ite_self]
@[simp] theorem applyWriteBlock_pending (env : ApplyEnv) (w : Who) (r : AccessReq) (s : State) : (applyWriteBlock env w r s).pending = s.pending := by unfold applyWriteBlock; dsimp only; (repeat' split) <;> (first | (simp only [answerWrite_pending, countRefused_pending, setBlock_pending, extendBlock_pending, bump_pending]; done) | with_reducible rfl | (simp_all; done))
@[simp] theorem applyReq_pending (env : ApplyEnv) (r : AccessReq) (s : State) : (applyReq env r s).pending = s.pending := by unfold applyReq; (repeat' split) <;> (first | (simp only [applyRead_pending, applyWrite_pending, applyReadBlock_pending, applyWriteBlock_pending, deliver_pending]; done) | with_reducible rfl | (simp_all; done))
theorem execDictAccessApply_pending (env : ApplyEnv) (s : State) : ∃ τ, execDictAccessApply env s = .next τ ∧ τ.pending = s.pending := by refine ⟨_, rfl, ?_⟩; (repeat' split) <;> (first | (simp only [lookAround_pending, applyReq_pending, settleStore_pending, wakeCore_pending]; done) | with_reducible rfl | (simp_all; done))
@[simp] theorem idle_pending (s : State) : (idle s).pending = s.pending := by simp only [idle, lookAround_pending]
@[simp] theorem State_withFetchWord_pending (s : State) (nbits : Nat) (w : Nat) : (State.withFetchWord s nbits w).pending = s.pending := by rfl
end Sys2Proof.Machine
end

