-- ==== Sys2Proof/Laws/Tab.lean ====
section
/-!
SUPPORT. Sparse tables: a read after a write, and that every operation keeps the canonical form.
-/
namespace Sys2Proof.Machine

/-! ### Reads after writes -/

@[simp] theorem mget?_nil {α : Type} (k : Nat) : mget? ([] : Tab α) k = none := rfl

@[simp] theorem mget?_mset_same {α : Type} (t : Tab α) (k : Nat) (v : α) : mget? (mset t k v) k = some v := by
  induction t with
  | nil => simp [mset, mget?]
  | cons p r ih =>
    obtain ⟨a, w⟩ := p
    simp only [mset]
    split
    · simp [mget?]
    · split
      · simp [mget?]
      · simp [mget?, *]

theorem mget?_mset_ne {α : Type} (t : Tab α) {k j : Nat} (v : α) (h : j ≠ k) : mget? (mset t k v) j = mget? t j := by
  induction t with
  | nil => simp [mset, mget?, h]
  | cons p r ih =>
    obtain ⟨a, w⟩ := p
    simp only [mset]
    split
    · rename_i hk; subst hk; simp [mget?, h]
    · split
      · by_cases hj : j < k
        · have : j ≠ a ∧ j < a := ⟨by omega, by omega⟩
          simp [mget?, h, hj, this]
        · simp [mget?, h, hj]
      · simp [mget?, ih]

theorem mget?_mdel_ne {α : Type} (t : Tab α) {k j : Nat} (h : j ≠ k) (hw : keysRise t = true) :
    mget? (mdel t k) j = mget? t j := by
  induction t with
  | nil => rfl
  | cons p r ih =>
    obtain ⟨a, w⟩ := p
    have hr : keysRise r = true := by
      cases r with
      | nil => rfl
      | cons q r => obtain ⟨b, x⟩ := q; simp [keysRise] at hw; exact hw.2
    simp only [mdel]
    split
    · rename_i hk; subst hk
      simp only [mget?, h, if_false]
      split
      · rename_i hlt
        cases r with
        | nil => rfl
        | cons q r =>
          obtain ⟨b, x⟩ := q
          simp [keysRise] at hw
          obtain ⟨hb, _⟩ := hw
          have : j ≠ b ∧ j < b := by omega
          simp [mget?, this]
      · rfl
    · split
      · rfl
      · simp [mget?, ih hr]

/-- A key smaller than every key of a table is not listed. -/
theorem mget?_below {α : Type} {t : Tab α} {a : Nat} {w : α} (h : keysRise ((a, w) :: t) = true) : mget? t a = none := by
  cases t with
  | nil => rfl
  | cons q r => obtain ⟨b, x⟩ := q; simp [keysRise] at h; simp [mget?, Nat.ne_of_lt h.1, h.1]

theorem keysRise_tail {α : Type} {p : Nat × α} {t : Tab α} (h : keysRise (p :: t) = true) : keysRise t = true := by
  cases t with
  | nil => rfl
  | cons q r => obtain ⟨a, w⟩ := p; obtain ⟨b, x⟩ := q; simp [keysRise] at h; exact h.2

@[simp] theorem mget?_mdel_same {α : Type} (t : Tab α) (k : Nat) (hw : keysRise t = true) : mget? (mdel t k) k = none := by
  induction t with
  | nil => rfl
  | cons p r ih =>
    obtain ⟨a, w⟩ := p
    simp only [mdel]
    split
    · rename_i hk; subst hk; exact mget?_below hw
    · split
      · rename_i h1 h2; simp [mget?, h1, h2]
      · rename_i h1 h2; simp [mget?, h1, h2, ih (keysRise_tail hw)]

theorem tget_tset_same {α : Type} [DecidableEq α] (d : Nat → α) (t : Tab α) (k : Nat) (v : α) (hw : keysRise t = true) :
    tget d (tset d t k v) k = v := by
  unfold tset tget
  split
  · rename_i h; simp [hw, h]
  · simp

/-- A value other than the default is read back from any table. -/
theorem tget_tset_of_ne {α : Type} [DecidableEq α] (d : Nat → α) (t : Tab α) (k : Nat) {v : α} (h : v ≠ d k) :
    tget d (tset d t k v) k = v := by
  simp [tset, tget, h]

theorem tget_tset_ne {α : Type} [DecidableEq α] (d : Nat → α) (t : Tab α) {k j : Nat} (v : α) (h : j ≠ k)
    (hw : keysRise t = true) : tget d (tset d t k v) j = tget d t j := by
  unfold tset tget
  split
  · rw [mget?_mdel_ne t h hw]
  · rw [mget?_mset_ne t v h]

/-! ### The canonical form -/

/-- Where keys rise from a listed one on. -/
theorem keysRise_cons {α : Type} (a : Nat) (w : α) (t : Tab α) :
    keysRise ((a, w) :: t) = true ↔ (∀ p ∈ t, a < p.1) ∧ keysRise t = true := by
  induction t generalizing a w with
  | nil => simp [keysRise]
  | cons q r ih =>
    obtain ⟨b, x⟩ := q
    simp only [keysRise, Bool.and_eq_true, decide_eq_true_eq]
    constructor
    · rintro ⟨h1, h2⟩
      refine ⟨?_, h2⟩
      rintro p (_ | ⟨_, hp⟩)
      · exact h1
      · exact Nat.lt_trans h1 (((ih b x).mp h2).1 p hp)
    · rintro ⟨h1, h2⟩
      exact ⟨h1 (b, x) (by simp), h2⟩

theorem mem_mset {α : Type} {t : Tab α} {k : Nat} {v : α} {p : Nat × α} (h : p ∈ mset t k v) : p = (k, v) ∨ p ∈ t := by
  induction t with
  | nil => simp [mset] at h; exact .inl h
  | cons q r ih =>
    obtain ⟨a, w⟩ := q
    simp only [mset] at h
    split at h
    · rcases List.mem_cons.mp h with h | h
      · exact .inl h
      · exact .inr (List.mem_cons_of_mem _ h)
    · split at h
      · rcases List.mem_cons.mp h with h | h
        · exact .inl h
        · exact .inr h
      · rcases List.mem_cons.mp h with h | h
        · exact .inr (by simp [h])
        · exact (ih h).imp id (List.mem_cons_of_mem _)

theorem mem_mdel {α : Type} {t : Tab α} {k : Nat} {p : Nat × α} (h : p ∈ mdel t k) : p ∈ t := by
  induction t with
  | nil => exact h
  | cons q r ih =>
    obtain ⟨a, w⟩ := q
    simp only [mdel] at h
    split at h
    · exact List.mem_cons_of_mem _ h
    · split at h
      · exact h
      · rcases List.mem_cons.mp h with h | h
        · simp [h]
        · exact List.mem_cons_of_mem _ (ih h)

theorem keysRise_mset {α : Type} (t : Tab α) (k : Nat) (v : α) (h : keysRise t = true) : keysRise (mset t k v) = true := by
  induction t with
  | nil => rfl
  | cons q r ih =>
    obtain ⟨a, w⟩ := q
    have h' := (keysRise_cons a w r).mp h
    simp only [mset]
    split
    · rename_i e; subst e; exact (keysRise_cons _ _ _).mpr h'
    · split
      · rename_i h1 h2
        refine (keysRise_cons _ _ _).mpr ⟨?_, h⟩
        rintro p hp
        rcases List.mem_cons.mp hp with hp | hp
        · rw [hp]; exact h2
        · exact Nat.lt_trans h2 (h'.1 p hp)
      · rename_i h1 h2
        refine (keysRise_cons _ _ _).mpr ⟨?_, ih h'.2⟩
        rintro p hp
        rcases mem_mset hp with hp | hp
        · rw [hp]; simp only; omega
        · exact h'.1 p hp

theorem keysRise_mdel {α : Type} (t : Tab α) (k : Nat) (h : keysRise t = true) : keysRise (mdel t k) = true := by
  induction t with
  | nil => rfl
  | cons q r ih =>
    obtain ⟨a, w⟩ := q
    have h' := (keysRise_cons a w r).mp h
    simp only [mdel]
    split
    · exact h'.2
    · split
      · exact h
      · exact (keysRise_cons _ _ _).mpr ⟨fun p hp => h'.1 p (mem_mdel hp), ih h'.2⟩

theorem keysRise_filter {α : Type} (f : Nat × α → Bool) (t : Tab α) (h : keysRise t = true) : keysRise (t.filter f) = true := by
  induction t with
  | nil => rfl
  | cons q r ih =>
    obtain ⟨a, w⟩ := q
    have h' := (keysRise_cons a w r).mp h
    by_cases hf : f (a, w) = true
    · rw [List.filter_cons_of_pos hf]
      exact (keysRise_cons _ _ _).mpr ⟨fun p hp => h'.1 p ((List.mem_filter.mp hp).1), ih h'.2⟩
    · rw [List.filter_cons_of_neg hf]
      exact ih h'.2

theorem keysRise_tset {α : Type} [DecidableEq α] (d : Nat → α) (t : Tab α) (k : Nat) (v : α) (h : keysRise t = true) :
    keysRise (tset d t k v) = true := by
  unfold tset
  split
  · exact keysRise_mdel t k h
  · exact keysRise_mset t k v h

theorem keysRise_mmap {α : Type} (f : Nat → α → α) (t : Tab α) (h : keysRise t = true) : keysRise (mmap f t) = true := by
  induction t with
  | nil => rfl
  | cons q r ih =>
    obtain ⟨a, w⟩ := q
    have h' := (keysRise_cons a w r).mp h
    simp only [mmap, List.map_cons]
    refine (keysRise_cons _ _ _).mpr ⟨?_, ih h'.2⟩
    intro p hp
    obtain ⟨x, hx, rfl⟩ := List.mem_map.mp hp
    exact h'.1 x hx

theorem tabWf_iff {α : Type} [DecidableEq α] (d : Nat → α) (t : Tab α) :
    tabWf d t = true ↔ keysRise t = true ∧ ∀ p ∈ t, p.2 ≠ d p.1 := by
  simp [tabWf]

theorem tabWf_tset {α : Type} [DecidableEq α] (d : Nat → α) (t : Tab α) (k : Nat) (v : α) (h : tabWf d t = true) :
    tabWf d (tset d t k v) = true := by
  rw [tabWf_iff] at h ⊢
  refine ⟨keysRise_tset d t k v h.1, ?_⟩
  intro p hp
  unfold tset at hp
  split at hp
  · exact h.2 p (mem_mdel hp)
  · rename_i hv
    rcases mem_mset hp with e | hp
    · rw [e]; exact hv
    · exact h.2 p hp

theorem tabWf_mfilter {α : Type} [DecidableEq α] (d : Nat → α) (f : Nat → α → Bool) (t : Tab α) (h : tabWf d t = true) :
    tabWf d (mfilter f t) = true := by
  rw [tabWf_iff] at h ⊢
  exact ⟨keysRise_filter _ t h.1, fun p hp => h.2 p ((List.mem_filter.mp hp).1)⟩

end Sys2Proof.Machine
end

