-- ==== Sys2Proof/Laws/FrameOtp.lean ====
section
/-!
SUPPORT. OTP: the operations that leave it as it was, by equation; for those that burn it, OtpKept (what OtpInv asks) is kept.
-/
namespace Sys2Proof.Machine
@[simp] theorem foldl_otp {α : Type} (g : State → α → State) (h : ∀ t x, (g t x).lc.otp = t.lc.otp) (l : List α) (s : State) :
    (l.foldl g s).lc.otp = s.lc.otp := by
  induction l generalizing s with
  | nil => rfl
  | cons x r ih => rw [List.foldl_cons, ih, h]
theorem ite_otp (c : Prop) [Decidable c] (a b : State) : (if c then a else b).lc.otp = if c then a.lc.otp else b.lc.otp := by split <;> rfl
theorem ite_rule_otp_act (c : Prop) [Decidable c] (a b : WriteRule) (ha : ∀ τ, (a.act τ).lc.otp = τ.lc.otp) (hb : ∀ τ, (b.act τ).lc.otp = τ.lc.otp) :
    ∀ τ, ((if c then a else b).act τ).lc.otp = τ.lc.otp := by split <;> assumption
theorem ite_rule_otp_first (c : Prop) [Decidable c] (a b : WriteRule) (ha : ∀ τ, (a.first τ).1.lc.otp = τ.lc.otp)
    (hb : ∀ τ, (b.first τ).1.lc.otp = τ.lc.otp) : ∀ τ, ((if c then a else b).first τ).1.lc.otp = τ.lc.otp := by split <;> assumption
@[simp] theorem advanceTo_otp (t : Time) (s : State) : (advanceTo t s).lc.otp = s.lc.otp := by simp only [advanceTo]
@[simp] theorem usedFree_otp (s : State) : (usedFree s).lc.otp = s.lc.otp := by simp only [usedFree]
@[simp] theorem emit_otp (o : Out) (s : State) : (emit o s).lc.otp = s.lc.otp := by simp only [emit]
@[simp] theorem raiseVec_otp (vec : Nat) (s : State) : (raiseVec vec s).lc.otp = s.lc.otp := by simp only [raiseVec]
@[simp] theorem noticed_otp (id : ObjId) (s : State) : (noticed id s).lc.otp = s.lc.otp := by simp only [noticed]
@[simp] theorem setObj_otp (id : ObjId) (v : Nat) (s : State) : (setObj id v s).lc.otp = s.lc.otp := by simp only [setObj]
@[simp] theorem bumpBy_otp (id : ObjId) (n : Nat) (s : State) : (bumpBy id n s).lc.otp = s.lc.otp := by simp only [bumpBy, setObj_otp]
@[simp] theorem bump_otp (id : ObjId) (s : State) : (bump id s).lc.otp = s.lc.otp := by simp only [bump, bumpBy_otp]
@[simp] theorem lksPut_otp (s : State) (a : Nat) (b : Byte) : (lksPut s a b).lc.otp = s.lc.otp := by unfold lksPut; (repeat' split) <;> (first | (simp only; done) | with_reducible rfl | (simp_all; done))
@[simp] theorem lksWrite_otp (a : Nat) (a1 : Bytes) (a2 : State) : (lksWrite a a1 a2).lc.otp = a2.lc.otp := by
  induction a1 generalizing a a2 with
  | nil => rfl
  | cons x r ih => rw [lksWrite, ih, lksPut_otp]
@[simp] theorem ctxWrite_otp (a : Nat) (a1 : Bytes) (a2 : State) : (ctxWrite a a1 a2).lc.otp = a2.lc.otp := by
  induction a1 generalizing a a2 with
  | nil => rfl
  | cons b r ih => rw [ctxWrite, ih]; split <;> rfl
@[simp] theorem memWrite_otp (a : Nat) (b : Bytes) (s : State) : (memWrite a b s).lc.otp = s.lc.otp := by simp only [memWrite, lksWrite_otp, ctxWrite_otp, ite_otp, ite_self]
@[simp] theorem wipeFreeLks_otp (s : State) : (wipeFreeLks s).lc.otp = s.lc.otp := by simp only [wipeFreeLks]
@[simp] theorem retag_otp (g : Nat) (n : Nat) (tag : Nat) (s : State) : (retag g n tag s).lc.otp = s.lc.otp := by simp only [retag]
@[simp] theorem tagOnly_otp (g : Nat) (n : Nat) (tag : Nat) (s : State) : (tagOnly g n tag s).lc.otp = s.lc.otp := by simp only [tagOnly]
@[simp] theorem setDrbg_otp (n : Nat) (d : Drbg) (s : State) : (setDrbg n d s).lc.otp = s.lc.otp := by simp only [setDrbg]
@[simp] theorem settleSeeds_otp (s : State) : (settleSeeds s).lc.otp = s.lc.otp := by simp only [settleSeeds]
@[simp] theorem takeSeed_otp (s : State) : (takeSeed s).lc.otp = s.lc.otp := by simp only [takeSeed, settleSeeds_otp, ite_otp, ite_self]
@[simp] theorem setDivider_otp (d : Nat) (s : State) : (setDivider d s).lc.otp = s.lc.otp := by simp only [setDivider, setObj_otp, settleSeeds_otp]
@[simp] theorem reseed_otp (n : Nat) (s : State) : (reseed n s).lc.otp = s.lc.otp := by simp only [reseed, takeSeed_otp, bump_otp, setDrbg_otp]
@[simp] theorem stallCall_otp (n : Nat) (s : State) : (stallCall n s).lc.otp = s.lc.otp := by simp only [stallCall, reseed_otp, bump_otp, ite_otp, ite_self]
@[simp] theorem stretch_otp (n : Nat) (s : State) : (stretch n s).lc.otp = s.lc.otp := by simp only [stretch, setObj_otp, setDrbg_otp, ite_otp, ite_self]
@[simp] theorem drawCall_otp (n : Nat) (len : Nat) (s : State) : (drawCall n len s).2.lc.otp = s.lc.otp := by simp only [drawCall, stretch_otp, stallCall_otp, setDrbg_otp]
@[simp] theorem drawCalls_otp (n : Nat) (a1 : Nat) (a2 : Nat) (a3 : State) : (drawCalls n a1 a2 a3).2.lc.otp = a3.lc.otp := by
  induction a1 generalizing a2 a3 with
  | zero => rfl
  | succ k ih => rw [drawCalls]; simp only [ih, drawCall_otp]
@[simp] theorem draw_otp (n : Nat) (len : Nat) (s : State) : (draw n len s).2.lc.otp = s.lc.otp := by simp only [draw, drawCalls_otp]
@[simp] theorem drawPass_otp (n : Nat) (a1 : Nat) (a2 : State) : (drawPass n a1 a2).lc.otp = a2.lc.otp := by
  induction a1 generalizing a2 with
  | zero => rfl
  | succ k ih => rw [drawPass, ih, drawCall_otp]
@[simp] theorem drawOrFree_otp (n : Nat) (len : Nat) (s : State) : (drawOrFree n len s).2.lc.otp = s.lc.otp := by unfold drawOrFree; (repeat' split) <;> (first | (simp only [draw_otp, usedFree_otp]; done) | with_reducible rfl | (simp_all; done))
@[simp] theorem rouseCore_otp (s : State) : (rouseCore s).lc.otp = s.lc.otp := by simp only [rouseCore]
@[simp] theorem wakeCore_otp (s : State) : (wakeCore s).lc.otp = s.lc.otp := by simp only [wakeCore, rouseCore_otp, advanceTo_otp, ite_otp, ite_self]
@[simp] theorem setRng_otp (st : RngState) (s : State) : (setRng st s).lc.otp = s.lc.otp := by simp only [setRng, rouseCore_otp, noticed_otp, ite_otp, ite_self]
@[simp] theorem setBench_otp (b : Nat) (x : Bench) (s : State) : (setBench b x s).lc.otp = s.lc.otp := by simp only [setBench]
@[simp] theorem eachBench_otp (f : Bench → Bench) (s : State) : (eachBench f s).lc.otp = s.lc.otp := by simp only [eachBench]
@[simp] theorem dropBursts_otp (r : Nat) (s : State) : (dropBursts r s).lc.otp = s.lc.otp := by simp only [dropBursts, eachBench_otp]
@[simp] theorem settleOwed_otp (e : Nat) (s : State) : (settleOwed e s).lc.otp = s.lc.otp := by simp only [settleOwed, eachBench_otp]
@[simp] theorem awaitPage_otp (p : Nat) (s : State) : (awaitPage p s).lc.otp = s.lc.otp := by simp only [awaitPage, setBench_otp, ite_otp, ite_self]
@[simp] theorem awaitPages_otp (a0 : List Nat) (a1 : State) : (awaitPages a0 a1).lc.otp = a1.lc.otp := by
  induction a0 generalizing a1 with
  | nil => rfl
  | cons p r ih => rw [awaitPages, ih, awaitPage_otp]
@[simp] theorem logRefusal_otp (a : FabAcc) (reason : Nat) (bad : Nat) (s : State) : (logRefusal a reason bad s).lc.otp = s.lc.otp := by
  have h : ∀ t : State, (bump (Obj.ISO_CLASS_REFUSALS + a.cls) (bump Obj.ISO_REFUSALS_TOTAL
      (if decide (1024 ≤ s.iso.log.length) = true then bump Obj.ISO_LOG_OVERWRITTEN t else t))).lc.otp = t.lc.otp := by
    intro t; rw [bump_otp, bump_otp]; split <;> simp only [bump_otp]
  unfold logRefusal; dsimp only; split
  · exact (bump_otp _ _).trans ((h _).trans (setObj_otp _ _ _))
  · exact (h _).trans (setObj_otp _ _ _)
@[simp] theorem noteRead_otp (id : ObjId) (s : State) : (noteRead id s).lc.otp = s.lc.otp := by unfold noteRead; (repeat' split) <;> (first | (simp only [logRefusal_otp]; done) | with_reducible rfl | (simp_all; done))
@[simp] theorem recordWrite_otp (id : ObjId) (len : Nat) (act : State → State) (s : State) (h2 : ∀ τ, (act τ).lc.otp = τ.lc.otp) : (recordWrite id len act s).lc.otp = s.lc.otp := by unfold recordWrite; (repeat' split) <;> (first | (simp only [logRefusal_otp]; done) | with_reducible rfl | (simp_all; done))
@[simp] theorem setCallerSt_otp (c : Caller) (v : CallerSt) (s : State) : (setCallerSt c v s).lc.otp = s.lc.otp := by simp only [setCallerSt]
@[simp] theorem setOwn_otp (c : Caller) (id : ObjId) (v : Nat) (s : State) : (setOwn c id v s).lc.otp = s.lc.otp := by simp only [setOwn, setCallerSt_otp]
@[simp] theorem plainRule_otp_act (id : ObjId) (data : Bytes) : ∀ τ, ((plainRule id data).act τ).lc.otp = τ.lc.otp := by intro τ; unfold plainRule; dsimp only; (repeat' split) <;> (first | (simp only [setObj_otp]; done) | with_reducible rfl | (simp_all; done))
@[simp] theorem plainRule_otp_first (id : ObjId) (data : Bytes) : ∀ τ, ((plainRule id data).first τ).1.lc.otp = τ.lc.otp := by simp [plainRule]
@[simp] theorem ownRule_otp_act (c : Caller) (id : ObjId) (data : Bytes) : ∀ τ, ((ownRule c id data).act τ).lc.otp = τ.lc.otp := by intro τ; unfold ownRule; dsimp only; (repeat' split) <;> (first | (simp only [setOwn_otp]; done) | with_reducible rfl | (simp_all; done))
@[simp] theorem ownRule_otp_first (c : Caller) (id : ObjId) (data : Bytes) : ∀ τ, ((ownRule c id data).first τ).1.lc.otp = τ.lc.otp := by simp [ownRule]
@[simp] theorem dropAct_otp (s : State) : (dropAct s).lc.otp = s.lc.otp := by unfold dropAct; (repeat' split) <;> (first | (simp only [noticed_otp]; done) | with_reducible rfl | (simp_all; done))
@[simp] theorem recordApproval_otp (id : ObjId) (data : Bytes) (who : Nat) (s : State) : (recordApproval id data who s).lc.otp = s.lc.otp := by simp only [recordApproval, noticed_otp]
@[simp] theorem approve_otp (id : ObjId) (data : Bytes) (who : Nat) (r : WriteRule) (s : State) (h3 : ∀ τ, (r.act τ).lc.otp = τ.lc.otp) (g3 : ∀ τ, (r.first τ).1.lc.otp = τ.lc.otp) : (approve id data who r s).1.lc.otp = s.lc.otp := by unfold approve; dsimp only; (repeat' split) <;> (first | (simp only [dropAct_otp, recordApproval_otp]; done) | with_reducible rfl | (simp_all; done))
@[simp] theorem failedLast_otp (id : ObjId) (data : Bytes) (who : Nat) (e : Result) (s : State) : (failedLast id data who e s).lc.otp = s.lc.otp := by simp only [failedLast, dropAct_otp, ite_otp, ite_self]
@[simp] theorem askApproval_otp (id : ObjId) (data : Bytes) (report : Bool) (s : State) : (askApproval id data report s).1.lc.otp = s.lc.otp := by simp only [askApproval, draw_otp]
@[simp] theorem countRefused_otp (w : Who) (id : ObjId) (r : Result) (s : State) : (countRefused w id r s).lc.otp = s.lc.otp := by simp only [countRefused, bump_otp, ite_otp, ite_self]
@[simp] theorem serveWrite_otp (w : Who) (id : ObjId) (data : Bytes) (r : WriteRule) (s : State) (h3 : ∀ τ, (r.act τ).lc.otp = τ.lc.otp) (g3 : ∀ τ, (r.first τ).1.lc.otp = τ.lc.otp) : (serveWrite w id data r s).1.lc.otp = s.lc.otp := by unfold serveWrite; dsimp only; (repeat' split) <;> (first | (simp only [failedLast_otp, countRefused_otp, usedFree_otp, askApproval_otp]; done) | with_reducible rfl | (simp_all; done))
@[simp] theorem endWindow_otp (r : Result) (isRead : Bool) (data : Bytes) (total : Option Nat) (s : State) : (endWindow r isRead data total s).lc.otp = s.lc.otp := by simp only [endWindow]
@[simp] theorem keepSecret_otp (i : Nat) (b : Bytes) (s : State) : (keepSecret i b s).lc.otp = s.lc.otp := by simp only [keepSecret]
@[simp] theorem dropSecret_otp (i : Nat) (s : State) : (dropSecret i s).lc.otp = s.lc.otp := by simp only [dropSecret]
@[simp] theorem closeSession_otp (slot : Nat) (s : State) : (closeSession slot s).lc.otp = s.lc.otp := by
  unfold closeSession
  exact foldl_otp _ (fun t x => noticed_otp _ _) _ _
@[simp] theorem closeSessions_otp (s : State) : (closeSessions s).lc.otp = s.lc.otp := by
  unfold closeSessions
  exact foldl_otp _ (fun t x => closeSession_otp _ _) _ _
@[simp] theorem sendData_otp (slot : Nat) (type : Nat) (flags : Nat) (plain : Bytes) (s : State) : (sendData slot type flags plain s).lc.otp = s.lc.otp := by unfold sendData; (repeat' split) <;> (first | (simp only [closeSession_otp]; done) | with_reducible rfl | (simp_all; done))
@[simp] theorem answered_otp (slot : Nat) (req : Nat) (type : Nat) (plain : Bytes) (s : State) : (answered slot req type plain s).lc.otp = s.lc.otp := by simp only [answered]
@[simp] theorem deliver_otp (c : Caller) (op : AccOp) (id : ObjId) (r : Result) (offset : Nat) (total : Option Nat) (data : Bytes) (s : State) : (deliver c op id r offset total data s).lc.otp = s.lc.otp := by unfold deliver; (repeat' split) <;> (first | (simp only [endWindow_otp, sendData_otp, answered_otp]; done) | with_reducible rfl | (simp_all; done))
@[simp] theorem deliverWrite_otp (c : Caller) (op : AccOp) (id : ObjId) (p : State × Option Result) : (deliverWrite c op id p).lc.otp = p.1.lc.otp := by unfold deliverWrite; (repeat' split) <;> (first | (simp only [deliver_otp]; done) | with_reducible rfl | (simp_all; done))
@[simp] theorem storeFailed_otp (s : State) : (storeFailed s).lc.otp = s.lc.otp := by simp only [storeFailed, setObj_otp, bump_otp]
@[simp] theorem settleStore_otp (s : State) : (settleStore s).lc.otp = s.lc.otp := by unfold settleStore; (repeat' split) <;> (first | (simp only [storeFailed_otp]; done) | with_reducible rfl | (simp_all; done))
@[simp] theorem takeReq_otp (a : AccessCmd) (s : State) : (takeReq a s).lc.otp = s.lc.otp := by simp only [takeReq, settleStore_otp, wakeCore_otp, ite_otp, ite_self]
@[simp] theorem joinQueue_otp (a : AccessCmd) (s : State) : (joinQueue a s).lc.otp = s.lc.otp := by unfold joinQueue; (repeat' split) <;> (first | (simp only [bump_otp]; done) | with_reducible rfl | (simp_all; done))
@[simp] theorem inTurn_otp (a : AccessCmd) (k : Who → State → State) (s : State) (h1 : ∀ v0 τ, (k v0 τ).lc.otp = τ.lc.otp) : (inTurn a k s).lc.otp = s.lc.otp := by unfold inTurn; (repeat' split) <;> (first | (simp only [joinQueue_otp]; done) | with_reducible rfl | (simp_all; done))
@[simp] theorem writeAccess_otp (c : Caller) (id : ObjId) (data : Bytes) (r : WriteRule) (s : State) (h3 : ∀ τ, (r.act τ).lc.otp = τ.lc.otp) (g3 : ∀ τ, (r.first τ).1.lc.otp = τ.lc.otp) : (writeAccess c id data r s).lc.otp = s.lc.otp := by unfold writeAccess; (repeat' split) <;> (first | (simp only [inTurn_otp, deliverWrite_otp, serveWrite_otp, implies_true, ite_otp, ite_self]; done) | with_reducible rfl | (simp_all; done))
@[simp] theorem readAccess_otp (c : Caller) (id : ObjId) (serve : State → Result × Bytes × State) (s : State) (h2 : ∀ τ, (serve τ).2.2.lc.otp = τ.lc.otp) : (readAccess c id serve s).lc.otp = s.lc.otp := by
  unfold readAccess
  apply inTurn_otp
  intro w τ
  dsimp only
  split
  · rw [deliver_otp, countRefused_otp]
  · rw [deliver_otp]; simp_all
@[simp] theorem setCounter_otp (n : Nat) (r : CounterRec) (s : State) : (setCounter n r s).lc.otp = s.lc.otp := by simp only [setCounter]
@[simp] theorem setHts_otp (h : Nat) (k : HtsKey) (s : State) : (setHts h k s).lc.otp = s.lc.otp := by simp only [setHts]
@[simp] theorem htsWarn_otp (h : Nat) (cap : Nat) (next : Nat) (s : State) : (htsWarn h cap next s).lc.otp = s.lc.otp := by unfold htsWarn; (repeat' split) <;> (first | (simp only [bump_otp, setObj_otp, setHts_otp]; done) | with_reducible rfl | (simp_all; done))
@[simp] theorem loseHts_otp (h : Nat) (k : HtsKey) (s : State) : (loseHts h k s).lc.otp = s.lc.otp := by simp only [loseHts, setHts_otp]
@[simp] theorem freeCounter_otp (n : Nat) (s : State) : (freeCounter n s).lc.otp = s.lc.otp := by simp only [freeCounter, setCounter_otp]
@[simp] theorem reserveIndex_otp (h : Nat) (k : HtsKey) (cap : Nat) (s : State) : (reserveIndex h k cap s).lc.otp = s.lc.otp := by simp only [reserveIndex, setHts_otp]
@[simp] theorem commitIndex_otp (h : Nat) (k : HtsKey) (cap : Nat) (s : State) : (commitIndex h k cap s).lc.otp = s.lc.otp := by simp only [commitIndex, htsWarn_otp, setCounter_otp]
@[simp] theorem stopSign_otp (x : Entry) (s : State) : (stopSign x s).lc.otp = s.lc.otp := by unfold stopSign; dsimp only; (repeat' split) <;> (first | (simp only [reserveIndex_otp, bump_otp, commitIndex_otp]; done) | with_reducible rfl | (simp_all; done))
@[simp] theorem stopSigns_otp (s : State) : (stopSigns s).lc.otp = s.lc.otp := by unfold stopSigns; (repeat' split) <;> (first | (simp only [stopSign_otp, implies_true, ite_otp, ite_self]; done) | with_reducible rfl | (simp_all; done))
@[simp] theorem dropNewKey_otp (target : Option Nat) (s : State) : (dropNewKey target s).lc.otp = s.lc.otp := by unfold dropNewKey; (repeat' split) <;> (first | (simp only [freeCounter_otp, wipeFreeLks_otp]; done) | with_reducible rfl | (simp_all; done))
@[simp] theorem setPair_otp (n : Nat) (p : Pair) (s : State) : (setPair n p s).lc.otp = s.lc.otp := by simp only [setPair]
@[simp] theorem setEntry_otp (e : Nat) (x : Entry) (s : State) : (setEntry e x s).lc.otp = s.lc.otp := by simp only [setEntry]
@[simp] theorem dropEntry_otp (e : Nat) (s : State) : (dropEntry e s).lc.otp = s.lc.otp := by simp only [dropEntry]
@[simp] theorem retagPages_otp (tag : Nat) (a1 : List Nat) (a2 : State) : (retagPages tag a1 a2).lc.otp = a2.lc.otp := by
  induction a1 generalizing a2 with
  | nil => rfl
  | cons p r ih => rw [retagPages, ih, retag_otp]
@[simp] theorem tagPages_otp (tag : Nat) (ps : List Nat) (s : State) : (tagPages tag ps s).lc.otp = s.lc.otp := (retagPages_otp _ _ _).trans (awaitPages_otp _ _)
@[simp] theorem writePages_otp (ps : List Nat) (b : Bytes) (s : State) : (writePages ps b s).lc.otp = s.lc.otp := by
  induction ps generalizing b s with
  | nil => rfl
  | cons p r ih => rw [writePages, ih, memWrite_otp]
@[simp] theorem setSlice_otp (n : Nat) (x : Slice) (s : State) : (setSlice n x s).lc.otp = s.lc.otp := by simp only [setSlice]
@[simp] theorem freeSlice_otp (n : Nat) (s : State) : (freeSlice n s).lc.otp = s.lc.otp := by unfold freeSlice; (repeat' split) <;> (first | (simp only [setSlice_otp, idle_otp, implies_true, ite_otp, ite_self]; done) | with_reducible rfl | (simp_all; done))
@[simp] theorem reinitSlice_otp (n : Nat) (s : State) : (reinitSlice n s).lc.otp = s.lc.otp := by simp only [reinitSlice, setSlice_otp, dropBursts_otp]
@[simp] theorem freeOthers_otp (e : Nat) (n : Nat) (s : State) : (freeOthers e n s).lc.otp = s.lc.otp := by unfold freeOthers; (repeat' split) <;> (first | (simp only [idle_otp, implies_true, ite_otp, ite_self]; done) | with_reducible rfl | (simp_all; done))
@[simp] theorem detach_otp (e : Nat) (x : Entry) (hasPages : Bool) (s : State) : (detach e x hasPages s).lc.otp = s.lc.otp := by unfold detach; (repeat' split) <;> (first | (simp only [freeOthers_otp, wipeFreeLks_otp, setSlice_otp, freeSlice_otp, ite_otp, ite_self]; done) | with_reducible rfl | (simp_all; done))
@[simp] theorem rouseEngine_otp (s : State) : (rouseEngine s).lc.otp = s.lc.otp := by simp only [rouseEngine, advanceTo_otp]
@[simp] theorem haltJob_otp (e : Nat) (st : Status) (detail : Nat) (s : State) : (haltJob e st detail s).lc.otp = s.lc.otp := by unfold haltJob; (repeat' split) <;> (first | (simp only [setEntry_otp, dropNewKey_otp, detach_otp, stopSign_otp, wipeFreeLks_otp]; done) | with_reducible rfl | (simp_all; done))
@[simp] theorem chargeRun_otp (e : Nat) (s : State) : (chargeRun e s).lc.otp = s.lc.otp := by unfold chargeRun; (repeat' split) <;> (first | (simp only [setEntry_otp, settleOwed_otp]; done) | with_reducible rfl | (simp_all; done))
@[simp] theorem stopJob_otp (e : Nat) (st : Status) (detail : Nat) (s : State) : (stopJob e st detail s).lc.otp = s.lc.otp := by unfold stopJob; (repeat' split) <;> (first | (simp only [haltJob_otp, chargeRun_otp]; done) | with_reducible rfl | (simp_all; done))
@[simp] theorem stopJobs_otp (p : Nat → Entry → Bool) (st : Status) (s : State) : (stopJobs p st s).lc.otp = s.lc.otp := by unfold stopJobs; (repeat' split) <;> (first | (simp only [stopJob_otp, implies_true, ite_otp, ite_self]; done) | with_reducible rfl | (simp_all; done))
@[simp] theorem endJob_otp (e : Nat) (st : Status) (detail : Nat) (out : Bytes) (late : List ObjId) (s : State) : (endJob e st detail out late s).lc.otp = s.lc.otp := by unfold endJob; (repeat' split) <;> (first | (simp only [detach_otp, freeSlice_otp, setEntry_otp]; done) | with_reducible rfl | (simp_all; done))
@[simp] theorem spend_otp (e : Nat) (c : Nat) (s : State) : (spend e c s).lc.otp = s.lc.otp := by unfold spend; (repeat' split) <;> (first | (simp only [setEntry_otp, settleOwed_otp]; done) | with_reducible rfl | (simp_all; done))
@[simp] theorem endTurn_otp (p : Nat) (s : State) : (endTurn p s).lc.otp = s.lc.otp := by simp only [endTurn]
@[simp] theorem dropHeld_otp (n : Nat) (s : State) : (dropHeld n s).lc.otp = s.lc.otp := by simp only [dropHeld, setPair_otp, endTurn_otp]
@[simp] theorem notStarving_otp (p : Nat) (s : State) : (notStarving p s).lc.otp = s.lc.otp := by simp only [notStarving]
@[simp] theorem renewPolls_otp (s : State) : (renewPolls s).lc.otp = s.lc.otp := by simp only [renewPolls]
@[simp] theorem leaveStall_otp (n : Nat) (s : State) : (leaveStall n s).lc.otp = s.lc.otp := by unfold leaveStall; dsimp only; (repeat' split) <;> (first | (simp only [bumpBy_otp, setPair_otp]; done) | with_reducible rfl | (simp_all; done))
@[simp] theorem enterCommand_otp (cls : Nat) (n : Nat) (e : Nat) (opcode : Nat) (s : State) : (enterCommand cls n e opcode s).lc.otp = s.lc.otp := by unfold enterCommand; dsimp only; (repeat' split) <;> (first | (simp only [stopJob_otp, setSlice_otp]; done) | with_reducible rfl | (simp_all; done))
@[simp] theorem setCell_otp (n : Nat) (c : Cell) (s : State) : (setCell n c s).lc.otp = s.lc.otp := by simp only [setCell, noticed_otp, ite_otp, ite_self]
@[simp] theorem cellDataInit_otp (c : Cell) (s : State) : (cellDataInit c s).lc.otp = s.lc.otp := by simp only [cellDataInit, memWrite_otp]
@[simp] theorem nextCell_otp (s : State) : (nextCell s).lc.otp = s.lc.otp := by unfold nextCell; (repeat' split) <;> (first | (simp only [setCell_otp]; done) | with_reducible rfl | (simp_all; done))
@[simp] theorem leaveCell_otp (n : Nat) (s : State) : (leaveCell n s).lc.otp = s.lc.otp := by simp only [leaveCell, nextCell_otp]
@[simp] theorem cellAfter_otp (n : Nat) (a : CellAfter) (s : State) : (cellAfter n a s).lc.otp = s.lc.otp := by unfold cellAfter; (repeat' split) <;> (first | (simp only [setCell_otp, cellDataInit_otp, retag_otp]; done) | with_reducible rfl | (simp_all; done))
@[simp] theorem dropSubjob_otp (n : Nat) (s : State) : (dropSubjob n s).lc.otp = s.lc.otp := by unfold dropSubjob; (repeat' split) <;> (first | (simp only [dropEntry_otp, stopJob_otp, retag_otp]; done) | with_reducible rfl | (simp_all; done))
@[simp] theorem endCall_otp (n : Nat) (st : Status) (detail : Nat) (a : CellAfter) (s : State) : (endCall n st detail a s).lc.otp = s.lc.otp := by unfold endCall; dsimp only; (repeat' split) <;> (first | (simp only [dropSubjob_otp, setEntry_otp, stopJob_otp, leaveCell_otp, cellAfter_otp]; done) | with_reducible rfl | (simp_all; done))
@[simp] theorem endCalls_otp (st : Status) (a : CellAfter) (s : State) : (endCalls st a s).lc.otp = s.lc.otp := by unfold endCalls; (repeat' split) <;> (first | (simp only [endCall_otp, implies_true, ite_otp, ite_self]; done) | with_reducible rfl | (simp_all; done))
@[simp] theorem dropLoad_otp (n : Nat) (s : State) : (dropLoad n s).lc.otp = s.lc.otp := by simp only [dropLoad, stopJobs_otp, setCell_otp]
@[simp] theorem dropCells_otp (t : Nat) (s : State) : (dropCells t s).lc.otp = s.lc.otp := by unfold dropCells; (repeat' split) <;> (first | (simp only [endCall_otp, dropLoad_otp, implies_true, ite_otp, ite_self]; done) | with_reducible rfl | (simp_all; done))
@[simp] theorem setCircuit_otp (c : Nat) (x : Circuit) (s : State) : (setCircuit c x s).lc.otp = s.lc.otp := by simp only [setCircuit]
@[simp] theorem setGraft_otp (c : Nat) (g : Graft) (s : State) : (setGraft c g s).lc.otp = s.lc.otp := by simp only [setGraft, noticed_otp, ite_otp, ite_self]
@[simp] theorem overwriteUnits_otp (hs : List Nat) (s : State) : (overwriteUnits hs s).lc.otp = s.lc.otp := by simp only [overwriteUnits, drawPass_otp, ite_otp, ite_self]
@[simp] theorem freeSlots_otp (hs : List Nat) (s : State) : (freeSlots hs s).lc.otp = s.lc.otp := by simp only [freeSlots, overwriteUnits_otp]
@[simp] theorem orphan_otp (c : Nat) (s : State) : (orphan c s).lc.otp = s.lc.otp := by simp only [orphan]
@[simp] theorem abandonGraft_otp (c : Nat) (s : State) : (abandonGraft c s).lc.otp = s.lc.otp := by simp only [abandonGraft, orphan_otp, stopJobs_otp, freeSlots_otp, setCircuit_otp, setGraft_otp, ite_otp, ite_self]
@[simp] theorem freeRoles_otp (c : Nat) (rs : List Nat) (s : State) : (freeRoles c rs s).lc.otp = s.lc.otp := by simp only [freeRoles, setGraft_otp, freeSlots_otp]
@[simp] theorem abandonAll_otp (s : State) : (abandonAll s).lc.otp = s.lc.otp := by unfold abandonAll; (repeat' split) <;> (first | (simp only [abandonGraft_otp, implies_true, ite_otp, ite_self]; done) | with_reducible rfl | (simp_all; done))
@[simp] theorem eraseKreg_otp (s : State) : (eraseKreg s).lc.otp = s.lc.otp := by simp only [eraseKreg, abandonAll_otp, setObj_otp, ite_otp, ite_self]
@[simp] theorem bindOff_otp (s : State) : (bindOff s).lc.otp = s.lc.otp := by simp only [bindOff, drawOrFree_otp, eraseKreg_otp, wipeFreeLks_otp]
@[simp] theorem archUnusable_otp (s : State) : (archUnusable s).lc.otp = s.lc.otp := by simp only [archUnusable, setObj_otp]
@[simp] theorem eraseBbram_otp (s : State) : (eraseBbram s).lc.otp = s.lc.otp := by simp only [eraseBbram]
@[simp] theorem setPort_otp (p : Nat) (x : Port) (s : State) : (setPort p x s).lc.otp = s.lc.otp := by simp only [setPort, noticed_otp, ite_otp, ite_self]
@[simp] theorem emitPkt_otp (p : Nat) (o : OutPkt) (s : State) : (emitPkt p o s).lc.otp = s.lc.otp := by unfold emitPkt; (repeat' split) <;> (first | (simp only [bump_otp, emit_otp, bumpBy_otp]; done) | with_reducible rfl | (simp_all; done))
@[simp] theorem stallDrop_otp (p : Nat) (circuit : Nat) (s : State) : (stallDrop p circuit s).lc.otp = s.lc.otp := by simp only [stallDrop, bump_otp, ite_otp, ite_self]
@[simp] theorem sendPkt_otp (p : Nat) (o : OutPkt) (s : State) : (sendPkt p o s).lc.otp = s.lc.otp := by simp only [sendPkt, stallDrop_otp, setPort_otp, emitPkt_otp, ite_otp, ite_self]
@[simp] theorem sendStatus_otp (p : Nat) (cls : Nat) (circuit : Nat) (op : Nat) (tag : Nat) (code : Nat) (detail : Nat) (s : State) : (sendStatus p cls circuit op tag code detail s).lc.otp = s.lc.otp := by simp only [sendStatus, sendPkt_otp]
@[simp] theorem updateFlow_otp (p : Nat) (s : State) : (updateFlow p s).lc.otp = s.lc.otp := by simp only [updateFlow, emit_otp, setPort_otp, ite_otp, ite_self]
@[simp] theorem settleSlots_otp (c : Nat) (s : State) : (settleSlots c s).lc.otp = s.lc.otp := by simp only [settleSlots, freeSlots_otp, setCircuit_otp, ite_otp, ite_self]
@[simp] theorem endHold_otp (h : Nat) (s : State) : (endHold h s).lc.otp = s.lc.otp := by simp only [endHold]
@[simp] theorem eraseKeys_otp (c : Nat) (s : State) : (eraseKeys c s).lc.otp = s.lc.otp := by simp only [eraseKeys, settleSlots_otp, setCircuit_otp]
@[simp] theorem settleQuiet_otp (c : Nat) (s : State) : (settleQuiet c s).lc.otp = s.lc.otp := by unfold settleQuiet; dsimp only; (repeat' split) <;> (first | (simp only [idle_otp, setGraft_otp, implies_true, ite_otp, ite_self]; done) | with_reducible rfl | (simp_all; done))
@[simp] theorem completeGraft_otp (c : Nat) (s : State) : (completeGraft c s).lc.otp = s.lc.otp := by unfold completeGraft; (repeat' split) <;> (first | (simp only [bump_otp, setObj_otp, settleQuiet_otp, setGraft_otp, idle_otp, implies_true, ite_otp, ite_self]; done) | with_reducible rfl | (simp_all; done))
@[simp] theorem armGraft_otp (c : Nat) (s : State) : (armGraft c s).lc.otp = s.lc.otp := by simp only [armGraft, setGraft_otp, setCircuit_otp]
@[simp] theorem trigger_otp (c : Nat) (force : Bool) (s : State) : (trigger c force s).lc.otp = s.lc.otp := by simp only [trigger, rouseCore_otp, setGraft_otp, ite_otp, ite_self]
@[simp] theorem unblock_otp (c : Nat) (s : State) : (unblock c s).lc.otp = s.lc.otp := by unfold unblock; dsimp only; (repeat' split) <;> (first | (simp only [settleQuiet_otp, setCircuit_otp]; done) | with_reducible rfl | (simp_all; done))
@[simp] theorem switchTx_otp (c : Nat) (s : State) : (switchTx c s).lc.otp = s.lc.otp := by unfold switchTx; dsimp only; (repeat' split) <;> (first | (simp only [setCircuit_otp, setGraft_otp, bump_otp, settleSlots_otp, unblock_otp]; done) | with_reducible rfl | (simp_all; done))
@[simp] theorem switchEvent_otp (c : Nat) (s : State) : (switchEvent c s).lc.otp = s.lc.otp := by simp only [switchEvent, switchTx_otp, completeGraft_otp, settleQuiet_otp, setGraft_otp, ite_otp, ite_self]
@[simp] theorem promotedEvent_otp (c : Nat) (xid : Nat) (s : State) : (promotedEvent c xid s).lc.otp = s.lc.otp := by unfold promotedEvent; dsimp only; (repeat' split) <;> (first | (simp only [armGraft_otp, setGraft_otp, completeGraft_otp]; done) | with_reducible rfl | (simp_all; done))
@[simp] theorem promote_otp (c : Nat) (s : State) : (promote c s).lc.otp = s.lc.otp := by unfold promote; dsimp only; (repeat' split) <;> (first | (simp only [setCircuit_otp, unblock_otp, promotedEvent_otp, bump_otp, settleSlots_otp]; done) | with_reducible rfl | (simp_all; done))
@[simp] theorem txUnusable_otp (c : Nat) (s : State) : (txUnusable c s).lc.otp = s.lc.otp := by simp only [txUnusable, switchEvent_otp, settleQuiet_otp, setCircuit_otp, ite_otp, ite_self]
@[simp] theorem leavePkt_otp (c : Nat) (q : InFlightPkt) (s : State) : (leavePkt c q s).lc.otp = s.lc.otp := by simp only [leavePkt, sendStatus_otp, sendPkt_otp, ite_otp, ite_self]
@[simp] theorem leaveAll_otp (c : Nat) (a1 : List InFlightPkt) (a2 : State) : (leaveAll c a1 a2).lc.otp = a2.lc.otp := by
  induction a1 generalizing a2 with
  | nil => rfl
  | cons q r ih => rw [leaveAll]; split
                   · rw [ih, leavePkt_otp]
                   · rfl
@[simp] theorem drainCircuit_otp (c : Nat) (s : State) : (drainCircuit c s).lc.otp = s.lc.otp := by simp only [drainCircuit, updateFlow_otp, settleSlots_otp, leaveAll_otp]
@[simp] theorem losePkts_otp (f : InFlightPkt → Bool) (s : State) : (losePkts f s).lc.otp = s.lc.otp := by unfold losePkts; (repeat' split) <;> (first | (simp only; done) | with_reducible rfl | (simp_all; done))
@[simp] theorem recordFence_otp (k : Nat) (cause : Nat) (entry : Nat) (s : State) : (recordFence k cause entry s).lc.otp = s.lc.otp := by simp only [recordFence, bump_otp, setObj_otp]
@[simp] theorem endClassWaiters_otp (cls : Nat) (s : State) : (endClassWaiters cls s).lc.otp = s.lc.otp := by simp only [endClassWaiters, stopJobs_otp, ite_otp, ite_self]
@[simp] theorem fenceSlice_otp (n : Nat) (cause : Nat) (st : Status) (detail : Nat) (s : State) : (fenceSlice n cause st detail s).lc.otp = s.lc.otp := by unfold fenceSlice; dsimp only; (repeat' split) <;> (first | (simp only [setSlice_otp, dropBursts_otp, stopJob_otp, endClassWaiters_otp, recordFence_otp]; done) | with_reducible rfl | (simp_all; done))
@[simp] theorem fenceRequester_otp (n : Nat) (cause : Nat) (job : Option Nat) (st : Status) (detail : Nat) (s : State) : (fenceRequester n cause job st detail s).lc.otp = s.lc.otp := by unfold fenceRequester; (repeat' split) <;> (first | (simp only [dropBursts_otp, stopJob_otp, recordFence_otp]; done) | with_reducible rfl | (simp_all; done))
@[simp] theorem setDigUnit_otp (n : Nat) (u : DigUnit) (s : State) : (setDigUnit n u s).lc.otp = s.lc.otp := by simp only [setDigUnit]
@[simp] theorem fenceDigest_otp (n : Nat) (cause : Nat) (st : Status) (detail : Nat) (s : State) : (fenceDigest n cause st detail s).lc.otp = s.lc.otp := by unfold fenceDigest; (repeat' split) <;> (first | (simp only [recordFence_otp, setDigUnit_otp]; done) | with_reducible rfl | (simp_all; done))
@[simp] theorem setPipe_otp (n : Nat) (p : Pipe) (s : State) : (setPipe n p s).lc.otp = s.lc.otp := by simp only [setPipe]
@[simp] theorem fencePipe_otp (n : Nat) (cause : Nat) (s : State) : (fencePipe n cause s).lc.otp = s.lc.otp := by simp only [fencePipe, losePkts_otp, recordFence_otp, setPipe_otp]
@[simp] theorem faultPair_otp (p : Nat) (s : State) : (faultPair p s).lc.otp = s.lc.otp := by simp only [faultPair, notStarving_otp, dropHeld_otp, leaveStall_otp, setPair_otp, ite_otp, ite_self]
@[simp] theorem fenceUnit_otp (u : UnitRef) (cause : Nat) (st : Status) (s : State) : (fenceUnit u cause st s).lc.otp = s.lc.otp := by unfold fenceUnit; (repeat' split) <;> (first | (simp only [fenceSlice_otp, fenceRequester_otp, fenceDigest_otp, fencePipe_otp, faultPair_otp, endCall_otp]; done) | with_reducible rfl | (simp_all; done))
@[simp] theorem setSource_otp (n : Nat) (x : Source) (s : State) : (setSource n x s).lc.otp = s.lc.otp := by simp only [setSource, noticed_otp, ite_otp, ite_self]
@[simp] theorem logTamper_otp (r : TamperRec) (s : State) : (logTamper r s).lc.otp = s.lc.otp := by simp only [logTamper, bump_otp, ite_otp, ite_self]
@[simp] theorem alarmPin_otp (low : Bool) (s : State) : (alarmPin low s).lc.otp = s.lc.otp := by simp only [alarmPin, emit_otp]
@[simp] theorem scrubAll_otp (s : State) : (scrubAll s).lc.otp = s.lc.otp := by unfold scrubAll; (repeat' split) <;> (first | (simp only [idle_otp, implies_true, ite_otp, ite_self]; done) | with_reducible rfl | (simp_all; done))
@[simp] theorem quiesce_otp (s : State) : (quiesce s).lc.otp = s.lc.otp := by simp only [quiesce, scrubAll_otp, abandonAll_otp, stopJobs_otp, endCalls_otp]
@[simp] theorem levelActions_otp (from_ : Nat) (level : Nat) (s : State) : (levelActions from_ level s).lc.otp = s.lc.otp := by simp only [levelActions, quiesce_otp, bindOff_otp, archUnusable_otp, eraseBbram_otp, ite_otp, ite_self]
@[simp] theorem latchAlarm_otp (n : Nat) (level : Nat) (flags : Nat) (s : State) : (latchAlarm n level flags s).lc.otp = s.lc.otp := by simp only [latchAlarm, bump_otp, eraseBbram_otp, ite_otp, ite_self]
@[simp] theorem fencePair_otp (t : Nat) (s : State) : (fencePair t s).lc.otp = s.lc.otp := by unfold fencePair; dsimp only; (repeat' split) <;> (first | (simp only [notStarving_otp, leaveStall_otp, idle_otp, setPair_otp, endTurn_otp, implies_true, ite_otp, ite_self]; done) | with_reducible rfl | (simp_all; done))
@[simp] theorem fenceTenant_otp (t : Nat) (cause : Nat) (s : State) : (fenceTenant t cause s).lc.otp = s.lc.otp := by simp only [fenceTenant, setObj_otp, fencePair_otp, dropCells_otp, stopJobs_otp]
@[simp] theorem refreshExpander_otp (n : Nat) (s : State) : (refreshExpander n s).lc.otp = s.lc.otp := by simp only [refreshExpander, draw_otp, setSlice_otp, ite_otp, ite_self]
@[simp] theorem maskSeed_otp (s : State) : (maskSeed s).2.lc.otp = s.lc.otp := by unfold maskSeed; (repeat' split) <;> (first | (simp only [draw_otp]; done) | with_reducible rfl | (simp_all; done))
@[simp] theorem putSlot_otp (h : Nat) (x : Slot) (s : State) : (putSlot h x s).lc.otp = s.lc.otp := by unfold putSlot; (repeat' split) <;> (first | (simp only [bump_otp, usedFree_otp]; done) | with_reducible rfl | (simp_all; done))
@[simp] theorem tookHandle_otp (h : Nat) (s : State) : (tookHandle h s).lc.otp = s.lc.otp := by simp only [tookHandle, maskSeed_otp]
@[simp] theorem tookTarget_otp (x : Entry) (s : State) : (tookTarget x s).lc.otp = s.lc.otp := by simp only [tookTarget, tookHandle_otp, ite_otp, ite_self]
@[simp] theorem fillSlot_otp (h : Nat) (life : Nat) (x : Slot) (s : State) : (fillSlot h life x s).lc.otp = s.lc.otp := by simp only [fillSlot, putSlot_otp]
@[simp] theorem freeSlot_otp (h : Nat) (s : State) : (freeSlot h s).lc.otp = s.lc.otp := by simp only [freeSlot, freeSlots_otp]
@[simp] theorem putLks_otp (h : Nat) (x : LksEntry) (s : State) : (putLks h x s).lc.otp = s.lc.otp := by simp only [putLks, wipeFreeLks_otp]
@[simp] theorem refreshSlot_otp (h : Nat) (s : State) : (refreshSlot h s).lc.otp = s.lc.otp := by unfold refreshSlot; (repeat' split) <;> (first | (simp only [maskSeed_otp, bump_otp]; done) | with_reducible rfl | (simp_all; done))
@[simp] theorem touchSlot_otp (s : State) (h : Nat) : (touchSlot s h).lc.otp = s.lc.otp := by unfold touchSlot; (repeat' split) <;> (first | (simp only [refreshSlot_otp]; done) | with_reducible rfl | (simp_all; done))
@[simp] theorem signIterMax_otp (n : Nat) (s : State) : (signIterMax n s).lc.otp = s.lc.otp := by simp only [signIterMax, setObj_otp]
@[simp] theorem appendArch_otp (r : ArchRec) (f : ArchEffect) (entry : Option Nat) (s : State) : (appendArch r f entry s).lc.otp = s.lc.otp := by simp only [appendArch]
@[simp] theorem awaitCommit_otp (e : Nat) (r : ArchRec) (f : ArchEffect) (s : State) : (awaitCommit e r f s).lc.otp = s.lc.otp := by unfold awaitCommit; (repeat' split) <;> (first | (simp only [appendArch_otp, setEntry_otp]; done) | with_reducible rfl | (simp_all; done))
@[simp] theorem addWait_otp (e : Nat) (s : State) (t : State) : (addWait e s t).lc.otp = t.lc.otp := by unfold addWait; (repeat' split) <;> (first | (simp only [setEntry_otp]; done) | with_reducible rfl | (simp_all; done))
@[simp] theorem finish_otp (e : Nat) (r : Res) (s : State) (h1 : ∀ ρ, (r.release ρ).lc.otp = ρ.lc.otp) : (finish e r s).lc.otp = s.lc.otp := by unfold finish; (repeat' split) <;> (first | (simp only [spend_otp, haltJob_otp, endJob_otp, addWait_otp, awaitCommit_otp]; done) | with_reducible rfl | (simp_all; done))
@[simp] theorem checkDraws_otp (n : Nat) (q : Need) (s : State) : (checkDraws n q s).2.lc.otp = s.lc.otp := by unfold checkDraws; (repeat' split) <;> (first | (simp only [draw_otp]; done) | with_reducible rfl | (simp_all; done))
@[simp] theorem checked_otp (x : Entry) (n : Nat) (q : Need) (run : Bytes → State → Res × State) (s : State) (h3 : ∀ v0 τ, (run v0 τ).2.lc.otp = τ.lc.otp) (k3 : ∀ v0 τ ρ, ((run v0 τ).1.release ρ).lc.otp = ρ.lc.otp) : (checked x n q run s).2.lc.otp = s.lc.otp := by unfold checked; (repeat' split) <;> (first | (simp only; done) | with_reducible rfl | (simp_all; done))
@[simp] theorem checked_otp_rel (x : Entry) (n : Nat) (q : Need) (run : Bytes → State → Res × State) (s : State) (h3 : ∀ v0 τ, (run v0 τ).2.lc.otp = τ.lc.otp) (k3 : ∀ v0 τ ρ, ((run v0 τ).1.release ρ).lc.otp = ρ.lc.otp) : ∀ ρ, ((checked x n q run s).1.release ρ).lc.otp = ρ.lc.otp := by intro ρ; unfold checked; (repeat' split) <;> (first | (simp only [Res.stop_release, id]; done) | with_reducible rfl | (simp_all; done))
@[simp] theorem deliverSecret_otp (x : Entry) (toHost : Bool) (usage : Nat) (c : Bytes) (k : Bytes) (cycles : Nat) (late : List ObjId) (s : State) : (deliverSecret x toHost usage c k cycles late s).2.lc.otp = s.lc.otp := by unfold deliverSecret; (repeat' split) <;> (first | (simp only [tookHandle_otp]; done) | with_reducible rfl | (simp_all; done))
@[simp] theorem deliverSecret_otp_rel (x : Entry) (toHost : Bool) (usage : Nat) (c : Bytes) (k : Bytes) (cycles : Nat) (late : List ObjId) (s : State) : ∀ ρ, ((deliverSecret x toHost usage c k cycles late s).1.release ρ).lc.otp = ρ.lc.otp := by intro ρ; unfold deliverSecret; (repeat' split) <;> (first | (simp only [fillSlot_otp, Res.ok_release, id]; done) | with_reducible rfl | (simp_all; done))
@[simp] theorem deliverKey_otp (x : Entry) (alg : Nat) (usage : Nat) (units : Nat) (pub : Bytes) (priv : Bytes) (cycles : Nat) (s : State) : (deliverKey x alg usage units pub priv cycles s).2.lc.otp = s.lc.otp := by simp only [deliverKey, tookTarget_otp]
@[simp] theorem deliverKey_otp_rel (x : Entry) (alg : Nat) (usage : Nat) (units : Nat) (pub : Bytes) (priv : Bytes) (cycles : Nat) (s : State) : ∀ ρ, ((deliverKey x alg usage units pub priv cycles s).1.release ρ).lc.otp = ρ.lc.otp := by simp only [deliverKey, fillSlot_otp, implies_true]
@[simp] theorem runKemKeygen_otp (x : Entry) (n : Nat) (s : State) : (runKemKeygen x n s).2.lc.otp = s.lc.otp := by simp only [runKemKeygen, checked_otp, deliverKey_otp, deliverKey_otp_rel, implies_true]
@[simp] theorem runKemKeygen_otp_rel (x : Entry) (n : Nat) (s : State) : ∀ ρ, ((runKemKeygen x n s).1.release ρ).lc.otp = ρ.lc.otp := by simp only [runKemKeygen, checked_otp_rel, deliverKey_otp, deliverKey_otp_rel, implies_true]
@[simp] theorem runKemEncaps_otp (x : Entry) (n : Nat) (s : State) : (runKemEncaps x n s).2.lc.otp = s.lc.otp := by unfold runKemEncaps; dsimp only; (repeat' split) <;> (first | (simp only [checked_otp, deliverSecret_otp, deliverSecret_otp_rel, implies_true]; done) | with_reducible rfl | (apply checked_otp <;> intros <;> (try dsimp only) <;> (repeat' split) <;> (first | (simp only [Res.stop_release, id]; done) | with_reducible rfl | (simp_all; done))))
@[simp] theorem runKemEncaps_otp_rel (x : Entry) (n : Nat) (s : State) : ∀ ρ, ((runKemEncaps x n s).1.release ρ).lc.otp = ρ.lc.otp := by intro ρ; unfold runKemEncaps; dsimp only; (repeat' split) <;> (first | (simp only [checked_otp_rel, deliverSecret_otp, deliverSecret_otp_rel, implies_true]; done) | with_reducible rfl | (apply checked_otp_rel <;> intros <;> (try dsimp only) <;> (repeat' split) <;> (first | (simp only [Res.stop_release, id]; done) | with_reducible rfl | (simp_all; done))))
@[simp] theorem runKemDecaps_otp (x : Entry) (n : Nat) (s : State) : (runKemDecaps x n s).2.lc.otp = s.lc.otp := by simp only [runKemDecaps, checked_otp, deliverSecret_otp, deliverSecret_otp_rel, implies_true]
@[simp] theorem runKemDecaps_otp_rel (x : Entry) (n : Nat) (s : State) : ∀ ρ, ((runKemDecaps x n s).1.release ρ).lc.otp = ρ.lc.otp := by simp only [runKemDecaps, checked_otp_rel, deliverSecret_otp, deliverSecret_otp_rel, implies_true]
@[simp] theorem runKemCheck_otp (x : Entry) (a1 : Nat) (s : State) : (runKemCheck x a1 s).2.lc.otp = s.lc.otp := by simp only [runKemCheck]
@[simp] theorem runKemCheck_otp_rel (x : Entry) (a1 : Nat) (s : State) : ∀ ρ, ((runKemCheck x a1 s).1.release ρ).lc.otp = ρ.lc.otp := by intro ρ; unfold runKemCheck; dsimp only; (repeat' split) <;> (first | (simp only [Res.stop_release, Res.ok_release, id]; done) | with_reducible rfl | (simp_all; done))
@[simp] theorem runDsaKeygen_otp (x : Entry) (n : Nat) (s : State) : (runDsaKeygen x n s).2.lc.otp = s.lc.otp := by simp only [runDsaKeygen, checked_otp, deliverKey_otp, deliverKey_otp_rel, implies_true]
@[simp] theorem runDsaKeygen_otp_rel (x : Entry) (n : Nat) (s : State) : ∀ ρ, ((runDsaKeygen x n s).1.release ρ).lc.otp = ρ.lc.otp := by simp only [runDsaKeygen, checked_otp_rel, deliverKey_otp, deliverKey_otp_rel, implies_true]
@[simp] theorem runDsaSign_otp (x : Entry) (n : Nat) (s : State) : (runDsaSign x n s).2.lc.otp = s.lc.otp := by unfold runDsaSign; dsimp only; (repeat' split) <;> (first | (simp only [checked_otp, signIterMax_otp, implies_true]; done) | with_reducible rfl | (apply checked_otp <;> intros <;> (try dsimp only) <;> (repeat' split) <;> (first | (simp only [bump_otp, signIterMax_otp, Res.stop_release, id]; done) | with_reducible rfl | (simp_all; done))))
@[simp] theorem runDsaSign_otp_rel (x : Entry) (n : Nat) (s : State) : ∀ ρ, ((runDsaSign x n s).1.release ρ).lc.otp = ρ.lc.otp := by intro ρ; unfold runDsaSign; dsimp only; (repeat' split) <;> (first | (simp only [checked_otp_rel, signIterMax_otp, implies_true]; done) | with_reducible rfl | (apply checked_otp_rel <;> intros <;> (try dsimp only) <;> (repeat' split) <;> (first | (simp only [bump_otp, signIterMax_otp, Res.stop_release, id]; done) | with_reducible rfl | (simp_all; done))))
@[simp] theorem runDsaVerify_otp (x : Entry) (n : Nat) (s : State) : (runDsaVerify x n s).2.lc.otp = s.lc.otp := by unfold runDsaVerify; dsimp only; (repeat' split) <;> (first | (simp only [checked_otp, checked_otp_rel, implies_true, ite_otp, ite_self, Res.stop_release, Res.ok_release, persistRes_release, id]; done) | with_reducible rfl | (apply checked_otp <;> intros <;> (try dsimp only) <;> (repeat' split) <;> (first | (simp only [Res.stop_release, Res.ok_release, id]; done) | with_reducible rfl | (simp_all; done))))
@[simp] theorem runDsaVerify_otp_rel (x : Entry) (n : Nat) (s : State) : ∀ ρ, ((runDsaVerify x n s).1.release ρ).lc.otp = ρ.lc.otp := by intro ρ; unfold runDsaVerify; dsimp only; (repeat' split) <;> (first | (simp only [checked_otp, checked_otp_rel, implies_true, ite_otp, ite_self, Res.stop_release, Res.ok_release, persistRes_release, id]; done) | with_reducible rfl | (apply checked_otp_rel <;> intros <;> (try dsimp only) <;> (repeat' split) <;> (first | (simp only [Res.stop_release, Res.ok_release, id]; done) | with_reducible rfl | (simp_all; done))))
@[simp] theorem latLockRule_otp_act  : ∀ τ, ((latLockRule).act τ).lc.otp = τ.lc.otp := by simp [latLockRule]
@[simp] theorem latLockRule_otp_first  : ∀ τ, ((latLockRule).first τ).1.lc.otp = τ.lc.otp := by simp [latLockRule]
theorem execPkeLatLock_otp (c : Caller) (data : Bytes) (s : State) : ∃ τ, execPkeLatLock c data s = .next τ ∧ τ.lc.otp = s.lc.otp := by refine ⟨_, rfl, ?_⟩; simp only [writeAccess_otp, latLockRule_otp_act, latLockRule_otp_first, implies_true]
@[simp] theorem runSlhKeygen_otp (x : Entry) (n : Nat) (s : State) : (runSlhKeygen x n s).2.lc.otp = s.lc.otp := by simp only [runSlhKeygen, checked_otp, deliverKey_otp, deliverKey_otp_rel, implies_true]
@[simp] theorem runSlhKeygen_otp_rel (x : Entry) (n : Nat) (s : State) : ∀ ρ, ((runSlhKeygen x n s).1.release ρ).lc.otp = ρ.lc.otp := by simp only [runSlhKeygen, checked_otp_rel, deliverKey_otp, deliverKey_otp_rel, implies_true]
@[simp] theorem runSlhSign_otp (x : Entry) (n : Nat) (s : State) : (runSlhSign x n s).2.lc.otp = s.lc.otp := by unfold runSlhSign; dsimp only; (repeat' split) <;> (first | (simp only [checked_otp, checked_otp_rel, implies_true, ite_otp, ite_self, Res.stop_release, Res.ok_release, persistRes_release, id]; done) | with_reducible rfl | (apply checked_otp <;> intros <;> (try dsimp only) <;> (repeat' split) <;> (first | (simp only [Res.ok_release, id]; done) | with_reducible rfl | (simp_all; done))))
@[simp] theorem runSlhSign_otp_rel (x : Entry) (n : Nat) (s : State) : ∀ ρ, ((runSlhSign x n s).1.release ρ).lc.otp = ρ.lc.otp := by intro ρ; unfold runSlhSign; dsimp only; (repeat' split) <;> (first | (simp only [checked_otp, checked_otp_rel, implies_true, ite_otp, ite_self, Res.stop_release, Res.ok_release, persistRes_release, id]; done) | with_reducible rfl | (apply checked_otp_rel <;> intros <;> (try dsimp only) <;> (repeat' split) <;> (first | (simp only [Res.ok_release, id]; done) | with_reducible rfl | (simp_all; done))))
@[simp] theorem runSlhVerify_otp (x : Entry) (n : Nat) (s : State) : (runSlhVerify x n s).2.lc.otp = s.lc.otp := by unfold runSlhVerify; dsimp only; (repeat' split) <;> (first | (simp only [checked_otp, checked_otp_rel, implies_true, ite_otp, ite_self, Res.stop_release, Res.ok_release, persistRes_release, id]; done) | with_reducible rfl | (apply checked_otp <;> intros <;> (try dsimp only) <;> (repeat' split) <;> (first | (simp only [Res.stop_release, Res.ok_release, id]; done) | with_reducible rfl | (simp_all; done))))
@[simp] theorem runSlhVerify_otp_rel (x : Entry) (n : Nat) (s : State) : ∀ ρ, ((runSlhVerify x n s).1.release ρ).lc.otp = ρ.lc.otp := by intro ρ; unfold runSlhVerify; dsimp only; (repeat' split) <;> (first | (simp only [checked_otp, checked_otp_rel, implies_true, ite_otp, ite_self, Res.stop_release, Res.ok_release, persistRes_release, id]; done) | with_reducible rfl | (apply checked_otp_rel <;> intros <;> (try dsimp only) <;> (repeat' split) <;> (first | (simp only [Res.stop_release, Res.ok_release, id]; done) | with_reducible rfl | (simp_all; done))))
@[simp] theorem runHtsKeygen_otp (withheld : Bool) (x : Entry) (n : Nat) (s : State) : (runHtsKeygen withheld x n s).2.lc.otp = s.lc.otp := by unfold runHtsKeygen; dsimp only; (repeat' split) <;> (first | (simp only [checked_otp, draw_otp, htsWarn_otp, setHts_otp, putLks_otp, fillSlot_otp, bump_otp, setCounter_otp, tookTarget_otp, freeCounter_otp, implies_true]; done) | with_reducible rfl | (simp_all; done))
@[simp] theorem runHtsKeygen_otp_rel (withheld : Bool) (x : Entry) (n : Nat) (s : State) : ∀ ρ, ((runHtsKeygen withheld x n s).1.release ρ).lc.otp = ρ.lc.otp := by intro ρ; unfold runHtsKeygen; dsimp only; (repeat' split) <;> (first | (simp only [checked_otp_rel, draw_otp, htsWarn_otp, setHts_otp, putLks_otp, fillSlot_otp, bump_otp, setCounter_otp, tookTarget_otp, freeCounter_otp, implies_true, Res.stop_release, id]; done) | with_reducible rfl | (simp_all; done))
@[simp] theorem runHtsSign_otp (withheld : Bool) (x : Entry) (n : Nat) (s : State) : (runHtsSign withheld x n s).2.lc.otp = s.lc.otp := by unfold runHtsSign; dsimp only; (repeat' split) <;> (first | (simp only [Res.stop_release, Res.ok_release]; done) | with_reducible rfl | (apply checked_otp <;> intros <;> (try dsimp only) <;> (repeat' split) <;> (first | (simp only [loseHts_otp, setHts_otp, commitIndex_otp, reserveIndex_otp, Res.stop_release, Res.ok_release, id]; done) | with_reducible rfl | (simp_all; done))))
@[simp] theorem runHtsSign_otp_rel (withheld : Bool) (x : Entry) (n : Nat) (s : State) : ∀ ρ, ((runHtsSign withheld x n s).1.release ρ).lc.otp = ρ.lc.otp := by intro ρ; unfold runHtsSign; dsimp only; (repeat' split) <;> (first | (simp only [Res.stop_release, Res.ok_release]; done) | with_reducible rfl | (apply checked_otp_rel <;> intros <;> (try dsimp only) <;> (repeat' split) <;> (first | (simp only [loseHts_otp, setHts_otp, commitIndex_otp, reserveIndex_otp, Res.stop_release, Res.ok_release, id]; done) | with_reducible rfl | (simp_all; done))))
@[simp] theorem runHtsVerify_otp (x : Entry) (n : Nat) (s : State) : (runHtsVerify x n s).2.lc.otp = s.lc.otp := by unfold runHtsVerify; dsimp only; (repeat' split) <;> (first | (simp only [checked_otp, checked_otp_rel, implies_true, ite_otp, ite_self, Res.stop_release, Res.ok_release, persistRes_release, id]; done) | with_reducible rfl | (apply checked_otp <;> intros <;> (try dsimp only) <;> (repeat' split) <;> (first | (simp only [Res.stop_release, Res.ok_release, id]; done) | with_reducible rfl | (simp_all; done))))
@[simp] theorem runHtsVerify_otp_rel (x : Entry) (n : Nat) (s : State) : ∀ ρ, ((runHtsVerify x n s).1.release ρ).lc.otp = ρ.lc.otp := by intro ρ; unfold runHtsVerify; dsimp only; (repeat' split) <;> (first | (simp only [checked_otp, checked_otp_rel, implies_true, ite_otp, ite_self, Res.stop_release, Res.ok_release, persistRes_release, id]; done) | with_reducible rfl | (apply checked_otp_rel <;> intros <;> (try dsimp only) <;> (repeat' split) <;> (first | (simp only [Res.stop_release, Res.ok_release, id]; done) | with_reducible rfl | (simp_all; done))))
@[simp] theorem runMceKeygen_otp (x : Entry) (n : Nat) (s : State) : (runMceKeygen x n s).2.lc.otp = s.lc.otp := by simp only [runMceKeygen, checked_otp, setObj_otp, putLks_otp, fillSlot_otp, tookTarget_otp, implies_true]
@[simp] theorem runMceKeygen_otp_rel (x : Entry) (n : Nat) (s : State) : ∀ ρ, ((runMceKeygen x n s).1.release ρ).lc.otp = ρ.lc.otp := by simp only [runMceKeygen, checked_otp_rel, setObj_otp, putLks_otp, fillSlot_otp, tookTarget_otp, implies_true]
@[simp] theorem runHqcKeygen_otp (x : Entry) (n : Nat) (s : State) : (runHqcKeygen x n s).2.lc.otp = s.lc.otp := by simp only [runHqcKeygen, checked_otp, deliverKey_otp, deliverKey_otp_rel, implies_true]
@[simp] theorem runHqcKeygen_otp_rel (x : Entry) (n : Nat) (s : State) : ∀ ρ, ((runHqcKeygen x n s).1.release ρ).lc.otp = ρ.lc.otp := by simp only [runHqcKeygen, checked_otp_rel, deliverKey_otp, deliverKey_otp_rel, implies_true]
@[simp] theorem runCodeKeygen_otp (x : Entry) (n : Nat) (s : State) : (runCodeKeygen x n s).2.lc.otp = s.lc.otp := by unfold runCodeKeygen; (repeat' split) <;> (first | (simp only [runMceKeygen_otp, runHqcKeygen_otp]; done) | with_reducible rfl | (simp_all; done))
@[simp] theorem runCodeKeygen_otp_rel (x : Entry) (n : Nat) (s : State) : ∀ ρ, ((runCodeKeygen x n s).1.release ρ).lc.otp = ρ.lc.otp := by intro ρ; unfold runCodeKeygen; (repeat' split) <;> (first | (simp only [runMceKeygen_otp_rel, runHqcKeygen_otp_rel]; done) | with_reducible rfl | (simp_all; done))
@[simp] theorem runCodeEncaps_otp (e : Nat) (x : Entry) (n : Nat) (s : State) : (runCodeEncaps e x n s).2.lc.otp = s.lc.otp := by unfold runCodeEncaps; dsimp only; (repeat' split) <;> (first | (simp only [checked_otp, deliverSecret_otp, deliverSecret_otp_rel, implies_true]; done) | with_reducible rfl | (apply checked_otp <;> intros <;> (try dsimp only) <;> (repeat' split) <;> (first | (simp only [Res.stop_release, id]; done) | with_reducible rfl | (simp_all; done))))
@[simp] theorem runCodeEncaps_otp_rel (e : Nat) (x : Entry) (n : Nat) (s : State) : ∀ ρ, ((runCodeEncaps e x n s).1.release ρ).lc.otp = ρ.lc.otp := by intro ρ; unfold runCodeEncaps; dsimp only; (repeat' split) <;> (first | (simp only [checked_otp_rel, deliverSecret_otp, deliverSecret_otp_rel, implies_true]; done) | with_reducible rfl | (apply checked_otp_rel <;> intros <;> (try dsimp only) <;> (repeat' split) <;> (first | (simp only [Res.stop_release, id]; done) | with_reducible rfl | (simp_all; done))))
@[simp] theorem runCodeDecaps_otp (x : Entry) (n : Nat) (s : State) : (runCodeDecaps x n s).2.lc.otp = s.lc.otp := by simp only [runCodeDecaps, checked_otp, deliverSecret_otp, deliverSecret_otp_rel, implies_true]
@[simp] theorem runCodeDecaps_otp_rel (x : Entry) (n : Nat) (s : State) : ∀ ρ, ((runCodeDecaps x n s).1.release ρ).lc.otp = ρ.lc.otp := by simp only [runCodeDecaps, checked_otp_rel, deliverSecret_otp, deliverSecret_otp_rel, implies_true]
@[simp] theorem runEccKeygen_otp (x : Entry) (n : Nat) (s : State) : (runEccKeygen x n s).2.lc.otp = s.lc.otp := by simp only [runEccKeygen, checked_otp, deliverKey_otp, deliverKey_otp_rel, implies_true]
@[simp] theorem runEccKeygen_otp_rel (x : Entry) (n : Nat) (s : State) : ∀ ρ, ((runEccKeygen x n s).1.release ρ).lc.otp = ρ.lc.otp := by simp only [runEccKeygen, checked_otp_rel, deliverKey_otp, deliverKey_otp_rel, implies_true]
@[simp] theorem runEccSign_otp (x : Entry) (n : Nat) (s : State) : (runEccSign x n s).2.lc.otp = s.lc.otp := by unfold runEccSign; dsimp only; (repeat' split) <;> (first | (simp only [checked_otp, checked_otp_rel, implies_true, ite_otp, ite_self, Res.stop_release, Res.ok_release, persistRes_release, id]; done) | with_reducible rfl | (apply checked_otp <;> intros <;> (try dsimp only) <;> (repeat' split) <;> (first | (simp only [Res.ok_release, id]; done) | with_reducible rfl | (simp_all; done))))
@[simp] theorem runEccSign_otp_rel (x : Entry) (n : Nat) (s : State) : ∀ ρ, ((runEccSign x n s).1.release ρ).lc.otp = ρ.lc.otp := by intro ρ; unfold runEccSign; dsimp only; (repeat' split) <;> (first | (simp only [checked_otp, checked_otp_rel, implies_true, ite_otp, ite_self, Res.stop_release, Res.ok_release, persistRes_release, id]; done) | with_reducible rfl | (apply checked_otp_rel <;> intros <;> (try dsimp only) <;> (repeat' split) <;> (first | (simp only [Res.ok_release, id]; done) | with_reducible rfl | (simp_all; done))))
@[simp] theorem runEccVerify_otp (x : Entry) (n : Nat) (s : State) : (runEccVerify x n s).2.lc.otp = s.lc.otp := by unfold runEccVerify; dsimp only; (repeat' split) <;> (first | (simp only [checked_otp, checked_otp_rel, implies_true, ite_otp, ite_self, Res.stop_release, Res.ok_release, persistRes_release, id]; done) | with_reducible rfl | (apply checked_otp <;> intros <;> (try dsimp only) <;> (repeat' split) <;> (first | (simp only [Res.stop_release, Res.ok_release, id]; done) | with_reducible rfl | (simp_all; done))))
@[simp] theorem runEccVerify_otp_rel (x : Entry) (n : Nat) (s : State) : ∀ ρ, ((runEccVerify x n s).1.release ρ).lc.otp = ρ.lc.otp := by intro ρ; unfold runEccVerify; dsimp only; (repeat' split) <;> (first | (simp only [checked_otp, checked_otp_rel, implies_true, ite_otp, ite_self, Res.stop_release, Res.ok_release, persistRes_release, id]; done) | with_reducible rfl | (apply checked_otp_rel <;> intros <;> (try dsimp only) <;> (repeat' split) <;> (first | (simp only [Res.stop_release, Res.ok_release, id]; done) | with_reducible rfl | (simp_all; done))))
@[simp] theorem runEccAgree_otp (x : Entry) (n : Nat) (s : State) : (runEccAgree x n s).2.lc.otp = s.lc.otp := by unfold runEccAgree; dsimp only; (repeat' split) <;> (first | (simp only [checked_otp, deliverSecret_otp, deliverSecret_otp_rel, implies_true, Res.stop_release, id]; done) | with_reducible rfl | (apply checked_otp <;> intros <;> (try dsimp only) <;> (repeat' split) <;> (first | (simp only [Res.stop_release, id]; done) | with_reducible rfl | (simp_all; done))))
@[simp] theorem runEccAgree_otp_rel (x : Entry) (n : Nat) (s : State) : ∀ ρ, ((runEccAgree x n s).1.release ρ).lc.otp = ρ.lc.otp := by intro ρ; unfold runEccAgree; dsimp only; (repeat' split) <;> (first | (simp only [checked_otp_rel, deliverSecret_otp, deliverSecret_otp_rel, implies_true, Res.stop_release, id]; done) | with_reducible rfl | (apply checked_otp_rel <;> intros <;> (try dsimp only) <;> (repeat' split) <;> (first | (simp only [Res.stop_release, id]; done) | with_reducible rfl | (simp_all; done))))
@[simp] theorem runEccCheck_otp (x : Entry) (a1 : Nat) (s : State) : (runEccCheck x a1 s).2.lc.otp = s.lc.otp := by simp only [runEccCheck]
@[simp] theorem runEccCheck_otp_rel (x : Entry) (a1 : Nat) (s : State) : ∀ ρ, ((runEccCheck x a1 s).1.release ρ).lc.otp = ρ.lc.otp := by intro ρ; unfold runEccCheck; dsimp only; (repeat' split) <;> (first | (simp only [Res.stop_release, Res.ok_release, id]; done) | with_reducible rfl | (simp_all; done))
@[simp] theorem runRsaKeygen_otp (x : Entry) (n : Nat) (s : State) : (runRsaKeygen x n s).2.lc.otp = s.lc.otp := by simp only [runRsaKeygen, checked_otp, deliverKey_otp, deliverKey_otp_rel, setObj_otp, implies_true]
@[simp] theorem runRsaKeygen_otp_rel (x : Entry) (n : Nat) (s : State) : ∀ ρ, ((runRsaKeygen x n s).1.release ρ).lc.otp = ρ.lc.otp := by simp only [runRsaKeygen, checked_otp_rel, deliverKey_otp, deliverKey_otp_rel, setObj_otp, implies_true]
@[simp] theorem runRsaSign_otp (x : Entry) (n : Nat) (s : State) : (runRsaSign x n s).2.lc.otp = s.lc.otp := by unfold runRsaSign; dsimp only; (repeat' split) <;> (first | (simp only [checked_otp, checked_otp_rel, implies_true, ite_otp, ite_self, Res.stop_release, Res.ok_release, persistRes_release, id]; done) | with_reducible rfl | (apply checked_otp <;> intros <;> (try dsimp only) <;> (repeat' split) <;> (first | (simp only [Res.stop_release, Res.ok_release, id]; done) | with_reducible rfl | (simp_all; done))))
@[simp] theorem runRsaSign_otp_rel (x : Entry) (n : Nat) (s : State) : ∀ ρ, ((runRsaSign x n s).1.release ρ).lc.otp = ρ.lc.otp := by intro ρ; unfold runRsaSign; dsimp only; (repeat' split) <;> (first | (simp only [checked_otp, checked_otp_rel, implies_true, ite_otp, ite_self, Res.stop_release, Res.ok_release, persistRes_release, id]; done) | with_reducible rfl | (apply checked_otp_rel <;> intros <;> (try dsimp only) <;> (repeat' split) <;> (first | (simp only [Res.stop_release, Res.ok_release, id]; done) | with_reducible rfl | (simp_all; done))))
@[simp] theorem runRsaVerify_otp (x : Entry) (n : Nat) (s : State) : (runRsaVerify x n s).2.lc.otp = s.lc.otp := by unfold runRsaVerify; dsimp only; (repeat' split) <;> (first | (simp only [checked_otp, checked_otp_rel, implies_true, ite_otp, ite_self, Res.stop_release, Res.ok_release, persistRes_release, id]; done) | with_reducible rfl | (apply checked_otp <;> intros <;> (try dsimp only) <;> (repeat' split) <;> (first | (simp only [Res.stop_release, Res.ok_release, id]; done) | with_reducible rfl | (simp_all; done))))
@[simp] theorem runRsaVerify_otp_rel (x : Entry) (n : Nat) (s : State) : ∀ ρ, ((runRsaVerify x n s).1.release ρ).lc.otp = ρ.lc.otp := by intro ρ; unfold runRsaVerify; dsimp only; (repeat' split) <;> (first | (simp only [checked_otp, checked_otp_rel, implies_true, ite_otp, ite_self, Res.stop_release, Res.ok_release, persistRes_release, id]; done) | with_reducible rfl | (apply checked_otp_rel <;> intros <;> (try dsimp only) <;> (repeat' split) <;> (first | (simp only [Res.stop_release, Res.ok_release, id]; done) | with_reducible rfl | (simp_all; done))))
@[simp] theorem runRsaEncrypt_otp (x : Entry) (n : Nat) (s : State) : (runRsaEncrypt x n s).2.lc.otp = s.lc.otp := by unfold runRsaEncrypt; dsimp only; (repeat' split) <;> (first | (simp only [checked_otp, checked_otp_rel, implies_true, ite_otp, ite_self, Res.stop_release, Res.ok_release, persistRes_release, id]; done) | with_reducible rfl | (apply checked_otp <;> intros <;> (try dsimp only) <;> (repeat' split) <;> (first | (simp only [Res.stop_release, Res.ok_release, id]; done) | with_reducible rfl | (simp_all; done))))
@[simp] theorem runRsaEncrypt_otp_rel (x : Entry) (n : Nat) (s : State) : ∀ ρ, ((runRsaEncrypt x n s).1.release ρ).lc.otp = ρ.lc.otp := by intro ρ; unfold runRsaEncrypt; dsimp only; (repeat' split) <;> (first | (simp only [checked_otp, checked_otp_rel, implies_true, ite_otp, ite_self, Res.stop_release, Res.ok_release, persistRes_release, id]; done) | with_reducible rfl | (apply checked_otp_rel <;> intros <;> (try dsimp only) <;> (repeat' split) <;> (first | (simp only [Res.stop_release, Res.ok_release, id]; done) | with_reducible rfl | (simp_all; done))))
@[simp] theorem runRsaDecrypt_otp (x : Entry) (n : Nat) (s : State) : (runRsaDecrypt x n s).2.lc.otp = s.lc.otp := by unfold runRsaDecrypt; dsimp only; (repeat' split) <;> (first | (simp only [checked_otp, deliverSecret_otp, deliverSecret_otp_rel, implies_true, Res.stop_release, id]; done) | with_reducible rfl | (apply checked_otp <;> intros <;> (try dsimp only) <;> (repeat' split) <;> (first | (simp only [Res.stop_release, Res.ok_release, id]; done) | with_reducible rfl | (simp_all; done))))
@[simp] theorem runRsaDecrypt_otp_rel (x : Entry) (n : Nat) (s : State) : ∀ ρ, ((runRsaDecrypt x n s).1.release ρ).lc.otp = ρ.lc.otp := by intro ρ; unfold runRsaDecrypt; dsimp only; (repeat' split) <;> (first | (simp only [checked_otp_rel, deliverSecret_otp, deliverSecret_otp_rel, implies_true, Res.stop_release, id]; done) | with_reducible rfl | (apply checked_otp_rel <;> intros <;> (try dsimp only) <;> (repeat' split) <;> (first | (simp only [Res.stop_release, Res.ok_release, id]; done) | with_reducible rfl | (simp_all; done))))
@[simp] theorem setActiveHalf_otp (h : Bytes) (s : State) : (setActiveHalf h s).lc.otp = s.lc.otp := by simp only [setActiveHalf]
@[simp] theorem compactArchive_otp (s : State) : (compactArchive s).lc.otp = s.lc.otp := by unfold compactArchive; (repeat' split) <;> (first | (simp only; done) | with_reducible rfl | (simp_all; done))
@[simp] theorem writeArch_otp (r : ArchRec) (s : State) : (writeArch r s).lc.otp = s.lc.otp := by unfold writeArch; (repeat' split) <;> (first | (simp only [setActiveHalf_otp]; done) | with_reducible rfl | (simp_all; done))
@[simp] theorem freeLks_otp (h : Nat) (s : State) : (freeLks h s).lc.otp = s.lc.otp := by unfold freeLks; (repeat' split) <;> (first | (simp only [wipeFreeLks_otp, ite_otp, ite_self]; done) | with_reducible rfl | (simp_all; done))
@[simp] theorem eraseSlot_otp (h : Nat) (s : State) : (eraseSlot h s).lc.otp = s.lc.otp := by unfold eraseSlot; (repeat' split) <;> (first | (simp only [freeSlot_otp, freeLks_otp, freeCounter_otp]; done) | with_reducible rfl | (simp_all; done))
@[simp] theorem updSlot_otp (h : Nat) (f : Slot → Slot) (s : State) : (updSlot h f s).lc.otp = s.lc.otp := by simp only [updSlot]
@[simp] theorem updLks_otp (h : Nat) (f : LksEntry → LksEntry) (s : State) : (updLks h f s).lc.otp = s.lc.otp := by simp only [updLks]
@[simp] theorem archEffect_otp (f : ArchEffect) (s : State) : (archEffect f s).lc.otp = s.lc.otp := by unfold archEffect; (repeat' split) <;> (first | (simp only [updSlot_otp, updLks_otp, compactArchive_otp, eraseSlot_otp, freeLks_otp]; done) | with_reducible rfl | (simp_all; done))
theorem execArchiveCommitDone_otp (s : State) : ∃ τ, execArchiveCommitDone s = .next τ ∧ τ.lc.otp = s.lc.otp := by refine ⟨_, rfl, ?_⟩; dsimp only; (repeat' split) <;> (first | (simp only [archEffect_otp, writeArch_otp, setEntry_otp]; done) | with_reducible rfl | (simp_all; done))
@[simp] theorem archCompactRule_otp_act  : ∀ τ, ((archCompactRule).act τ).lc.otp = τ.lc.otp := by intro τ; unfold archCompactRule; dsimp only; (repeat' split) <;> (first | (simp only [compactArchive_otp]; done) | with_reducible rfl | (simp_all; done))
@[simp] theorem archCompactRule_otp_first  : ∀ τ, ((archCompactRule).first τ).1.lc.otp = τ.lc.otp := by simp [archCompactRule]
theorem execArchiveCompact_otp (w : Option (Caller × Bytes)) (s : State) : ∃ τ, execArchiveCompact w s = .next τ ∧ τ.lc.otp = s.lc.otp := by refine ⟨_, rfl, ?_⟩; (repeat' split) <;> (first | (simp only [writeAccess_otp, archCompactRule_otp_act, archCompactRule_otp_first, compactArchive_otp, advanceTo_otp, implies_true]; done) | with_reducible rfl | (simp_all; done))
@[simp] theorem freshArchive_otp (s : State) : (freshArchive s).lc.otp = s.lc.otp := by simp only [freshArchive, draw_otp, setObj_otp]
@[simp] theorem archInitRule_otp_act (s : State) : ∀ τ, ((archInitRule s).act τ).lc.otp = τ.lc.otp := by intro τ; unfold archInitRule; dsimp only; (repeat' split) <;> (first | (simp only [freshArchive_otp]; done) | with_reducible rfl | (simp_all; done))
@[simp] theorem archInitRule_otp_first (s : State) : ∀ τ, ((archInitRule s).first τ).1.lc.otp = τ.lc.otp := by simp [archInitRule]
theorem execKregArchInit_otp (c : Caller) (data : Bytes) (s : State) : ∃ τ, execKregArchInit c data s = .next τ ∧ τ.lc.otp = s.lc.otp := by refine ⟨_, rfl, ?_⟩; simp only [writeAccess_otp, archInitRule_otp_act, archInitRule_otp_first, implies_true]
@[simp] theorem restoreRec_otp (r : ArchRec) (s : State) : (restoreRec r s).lc.otp = s.lc.otp := by unfold restoreRec; (repeat' split) <;> (first | (simp only [maskSeed_otp, putSlot_otp, setHts_otp, putLks_otp]; done) | with_reducible rfl | (simp_all; done))
@[simp] theorem applyJournal_otp (rs : List ArchRec) (s : State) : (applyJournal rs s).lc.otp = s.lc.otp := by unfold applyJournal; (repeat' split) <;> (first | (simp only [restoreRec_otp, implies_true, ite_otp, ite_self]; done) | with_reducible rfl | (simp_all; done))
@[simp] theorem restoreArchive_otp (caston : Bool) (torn : Bool) (bad : Option Nat) (s : State) : (restoreArchive caston torn bad s).lc.otp = s.lc.otp := by unfold restoreArchive; dsimp only; (repeat' split) <;> (first | (simp only [setObj_otp, applyJournal_otp, freshArchive_otp, archUnusable_otp]; done) | with_reducible rfl | (simp_all; done))
@[simp] theorem queueRebuilds_otp (s : State) : (queueRebuilds s).lc.otp = s.lc.otp := by simp only [queueRebuilds]
@[simp] theorem managerChecked_otp (x : Entry) (n : Nat) (q : Need) (run : Bytes → State → Res × State) (s : State) (h3 : ∀ v0 τ, (run v0 τ).2.lc.otp = τ.lc.otp) (k3 : ∀ v0 τ ρ, ((run v0 τ).1.release ρ).lc.otp = ρ.lc.otp) : (managerChecked x n q run s).2.lc.otp = s.lc.otp := by unfold managerChecked; (repeat' split) <;> (first | (simp only; done) | with_reducible rfl | (simp_all; done))
@[simp] theorem managerChecked_otp_rel (x : Entry) (n : Nat) (q : Need) (run : Bytes → State → Res × State) (s : State) (h3 : ∀ v0 τ, (run v0 τ).2.lc.otp = τ.lc.otp) (k3 : ∀ v0 τ ρ, ((run v0 τ).1.release ρ).lc.otp = ρ.lc.otp) : ∀ ρ, ((managerChecked x n q run s).1.release ρ).lc.otp = ρ.lc.otp := by intro ρ; unfold managerChecked; (repeat' split) <;> (first | (simp only [Res.stop_release, id]; done) | with_reducible rfl | (simp_all; done))
@[simp] theorem runImportWrapped_otp (x : Entry) (n : Nat) (s : State) : (runImportWrapped x n s).2.lc.otp = s.lc.otp := by unfold runImportWrapped; dsimp only; (repeat' split) <;> (first | (simp only [managerChecked_otp, fillSlot_otp, tookHandle_otp, implies_true, persistRes_release]; done) | with_reducible rfl | (apply managerChecked_otp <;> intros <;> (try dsimp only) <;> (repeat' split) <;> (first | (simp only [Res.stop_release, id]; done) | with_reducible rfl | (simp_all; done))))
@[simp] theorem runImportWrapped_otp_rel (x : Entry) (n : Nat) (s : State) : ∀ ρ, ((runImportWrapped x n s).1.release ρ).lc.otp = ρ.lc.otp := by intro ρ; unfold runImportWrapped; dsimp only; (repeat' split) <;> (first | (simp only [managerChecked_otp_rel, fillSlot_otp, tookHandle_otp, implies_true, Res.stop_release, persistRes_release, id]; done) | with_reducible rfl | (apply managerChecked_otp_rel <;> intros <;> (try dsimp only) <;> (repeat' split) <;> (first | (simp only [Res.stop_release, id]; done) | with_reducible rfl | (simp_all; done))))
@[simp] theorem runExportWrapped_otp (x : Entry) (n : Nat) (s : State) : (runExportWrapped x n s).2.lc.otp = s.lc.otp := by unfold runExportWrapped; dsimp only; (repeat' split) <;> (first | (simp only [managerChecked_otp, implies_true, Res.stop_release, id]; done) | with_reducible rfl | (apply managerChecked_otp <;> intros <;> (try dsimp only) <;> (repeat' split) <;> (first | (simp only [Res.ok_release, id]; done) | with_reducible rfl | (simp_all; done))))
@[simp] theorem runExportWrapped_otp_rel (x : Entry) (n : Nat) (s : State) : ∀ ρ, ((runExportWrapped x n s).1.release ρ).lc.otp = ρ.lc.otp := by intro ρ; unfold runExportWrapped; dsimp only; (repeat' split) <;> (first | (simp only [managerChecked_otp_rel, implies_true, Res.stop_release, id]; done) | with_reducible rfl | (apply managerChecked_otp_rel <;> intros <;> (try dsimp only) <;> (repeat' split) <;> (first | (simp only [Res.ok_release, id]; done) | with_reducible rfl | (simp_all; done))))
@[simp] theorem runDeleteSlot_otp (x : Entry) (action : Nat) (s : State) : (runDeleteSlot x action s).2.lc.otp = s.lc.otp := by unfold runDeleteSlot; dsimp only; (repeat' split) <;> (first | (simp only; done) | with_reducible rfl | (simp_all; done))
@[simp] theorem runDeleteSlot_otp_rel (x : Entry) (action : Nat) (s : State) : ∀ ρ, ((runDeleteSlot x action s).1.release ρ).lc.otp = ρ.lc.otp := by intro ρ; unfold runDeleteSlot; dsimp only; (repeat' split) <;> (first | (simp only [eraseSlot_otp, endHold_otp, Res.stop_release, Res.ok_release, id]; done) | with_reducible rfl | (simp_all; done))
@[simp] theorem runDeleteLks_otp (x : Entry) (action : Nat) (s : State) : (runDeleteLks x action s).2.lc.otp = s.lc.otp := by unfold runDeleteLks; dsimp only; (repeat' split) <;> (first | (simp only; done) | with_reducible rfl | (simp_all; done))
@[simp] theorem runDeleteLks_otp_rel (x : Entry) (action : Nat) (s : State) : ∀ ρ, ((runDeleteLks x action s).1.release ρ).lc.otp = ρ.lc.otp := by intro ρ; unfold runDeleteLks; dsimp only; (repeat' split) <;> (first | (simp only [freeLks_otp, Res.stop_release, Res.ok_release, id]; done) | with_reducible rfl | (simp_all; done))
@[simp] theorem runDelete_otp (action : Nat) (x : Entry) (a2 : Nat) (s : State) : (runDelete action x a2 s).2.lc.otp = s.lc.otp := by unfold runDelete; (repeat' split) <;> (first | (simp only [runDeleteLks_otp, runDeleteSlot_otp]; done) | with_reducible rfl | (simp_all; done))
@[simp] theorem runDelete_otp_rel (action : Nat) (x : Entry) (a2 : Nat) (s : State) : ∀ ρ, ((runDelete action x a2 s).1.release ρ).lc.otp = ρ.lc.otp := by intro ρ; unfold runDelete; (repeat' split) <;> (first | (simp only [runDeleteLks_otp_rel, runDeleteSlot_otp_rel]; done) | with_reducible rfl | (simp_all; done))
@[simp] theorem runImportMce_otp (x : Entry) (n : Nat) (s : State) : (runImportMce x n s).2.lc.otp = s.lc.otp := by unfold runImportMce; dsimp only; (repeat' split) <;> (first | (simp only [managerChecked_otp, putLks_otp, implies_true]; done) | with_reducible rfl | (apply managerChecked_otp <;> intros <;> (try dsimp only) <;> (repeat' split) <;> (first | (simp only [Res.stop_release, id]; done) | with_reducible rfl | (simp_all; done))))
@[simp] theorem runImportMce_otp_rel (x : Entry) (n : Nat) (s : State) : ∀ ρ, ((runImportMce x n s).1.release ρ).lc.otp = ρ.lc.otp := by intro ρ; unfold runImportMce; dsimp only; (repeat' split) <;> (first | (simp only [managerChecked_otp_rel, putLks_otp, implies_true]; done) | with_reducible rfl | (apply managerChecked_otp_rel <;> intros <;> (try dsimp only) <;> (repeat' split) <;> (first | (simp only [Res.stop_release, id]; done) | with_reducible rfl | (simp_all; done))))
@[simp] theorem runImportPublic_otp (x : Entry) (n : Nat) (s : State) : (runImportPublic x n s).2.lc.otp = s.lc.otp := by unfold runImportPublic; dsimp only; (repeat' split) <;> (first | (simp only [runImportMce_otp, managerChecked_otp, fillSlot_otp, tookHandle_otp, implies_true, persistRes_release]; done) | with_reducible rfl | (apply managerChecked_otp <;> intros <;> (try dsimp only) <;> (repeat' split) <;> (first | (simp only [Res.stop_release, id]; done) | with_reducible rfl | (simp_all; done))))
@[simp] theorem runImportPublic_otp_rel (x : Entry) (n : Nat) (s : State) : ∀ ρ, ((runImportPublic x n s).1.release ρ).lc.otp = ρ.lc.otp := by intro ρ; unfold runImportPublic; dsimp only; (repeat' split) <;> (first | (simp only [runImportMce_otp_rel, managerChecked_otp_rel, fillSlot_otp, tookHandle_otp, implies_true, Res.stop_release, persistRes_release, id]; done) | with_reducible rfl | (apply managerChecked_otp_rel <;> intros <;> (try dsimp only) <;> (repeat' split) <;> (first | (simp only [Res.stop_release, id]; done) | with_reducible rfl | (simp_all; done))))
@[simp] theorem attestSlot_otp (alg : Nat) (pset : Nat) (n : Nat) (units : Nat) (s : State) : (attestSlot alg pset n units s).lc.otp = s.lc.otp := by simp only [attestSlot, putSlot_otp, tookHandle_otp]
@[simp] theorem attestKeys_otp (s : State) : (attestKeys s).lc.otp = s.lc.otp := by simp only [attestKeys, attestSlot_otp, setObj_otp]
@[simp] theorem runAttest_otp (x : Entry) (n : Nat) (s : State) : (runAttest x n s).2.lc.otp = s.lc.otp := by unfold runAttest; (repeat' split) <;> (first | (simp only [draw_otp, refreshExpander_otp]; done) | with_reducible rfl | (simp_all; done))
@[simp] theorem runAttest_otp_rel (x : Entry) (n : Nat) (s : State) : ∀ ρ, ((runAttest x n s).1.release ρ).lc.otp = ρ.lc.otp := by intro ρ; unfold runAttest; (repeat' split) <;> (first | (simp only [signIterMax_otp, Res.stop_release, id]; done) | with_reducible rfl | (simp_all; done))
@[simp] theorem advanceToExpiry_otp (e : Nat) (s : State) : (advanceToExpiry e s).lc.otp = s.lc.otp := by simp only [advanceToExpiry, ite_otp, ite_self]
@[simp] theorem expireSlot_otp (h : Nat) (v : Slot) (s : State) : (expireSlot h v s).lc.otp = s.lc.otp := by simp only [expireSlot, updSlot_otp, appendArch_otp, eraseSlot_otp, endHold_otp, ite_otp, ite_self]
theorem execKeyExpiry_otp (h : Nat) (s : State) : ∃ τ, execKeyExpiry h s = .next τ ∧ τ.lc.otp = s.lc.otp := by refine ⟨_, rfl, ?_⟩; (repeat' split) <;> (first | (simp only [advanceToExpiry_otp, expireSlot_otp]; done) | with_reducible rfl | (simp_all; done))
theorem execMaskRefresh_otp (h : Nat) (s : State) : ∃ τ, execMaskRefresh h s = .next τ ∧ τ.lc.otp = s.lc.otp := by refine ⟨_, rfl, ?_⟩; (repeat' split) <;> (first | (simp only [refreshSlot_otp, advanceTo_otp]; done) | with_reducible rfl | (simp_all; done))
@[simp] theorem eraseDone_otp (s : State) : (eraseDone s).lc.otp = s.lc.otp := by simp only [eraseDone, drawOrFree_otp, drawPass_otp, ite_otp, ite_self]
theorem execEraseOverwriteDone_otp (s : State) : ∃ τ, execEraseOverwriteDone s = .next τ ∧ τ.lc.otp = s.lc.otp := by refine ⟨_, rfl, ?_⟩; (repeat' split) <;> (first | (simp only [eraseDone_otp]; done) | with_reducible rfl | (simp_all; done))
@[simp] theorem askFill_otp (s : State) : (askFill s).lc.otp = s.lc.otp := by unfold askFill; (repeat' split) <;> (first | (simp only [draw_otp]; done) | with_reducible rfl | (simp_all; done))
@[simp] theorem endFillStep_otp (s : State) : (endFillStep s).lc.otp = s.lc.otp := by simp only [endFillStep, dropSecret_otp]
@[simp] theorem startFill_otp (s : State) : (startFill s).lc.otp = s.lc.otp := by simp only [startFill, setObj_otp, putSlot_otp, tookHandle_otp, askFill_otp, ite_otp, ite_self]
@[simp] theorem fillStartRule_otp_act (s : State) : ∀ τ, ((fillStartRule s).act τ).lc.otp = τ.lc.otp := by intro τ; unfold fillStartRule; dsimp only; (repeat' split) <;> (first | (simp only [startFill_otp]; done) | with_reducible rfl | (simp_all; done))
@[simp] theorem fillStartRule_otp_first (s : State) : ∀ τ, ((fillStartRule s).first τ).1.lc.otp = τ.lc.otp := by simp [fillStartRule]
theorem execKregFillStart_otp (c : Caller) (data : Bytes) (s : State) : ∃ τ, execKregFillStart c data s = .next τ ∧ τ.lc.otp = s.lc.otp := by refine ⟨_, rfl, ?_⟩; simp only [writeAccess_otp, fillStartRule_otp_act, fillStartRule_otp_first, implies_true]
@[simp] theorem failFill_otp (s : State) : (failFill s).lc.otp = s.lc.otp := by unfold failFill; (repeat' split) <;> (first | (simp only [endFillStep_otp, setObj_otp, freeSlot_otp]; done) | with_reducible rfl | (simp_all; done))
@[simp] theorem finishFill_otp (f : Fill) (s : State) : (finishFill f s).lc.otp = s.lc.otp := by unfold finishFill; (repeat' split) <;> (first | (simp only [failFill_otp, appendArch_otp, updSlot_otp, setObj_otp, ite_otp, ite_self]; done) | with_reducible rfl | (simp_all; done))
@[simp] theorem addComponent_otp (officer : Nat) (c : Bytes) (s : State) : (addComponent officer c s).lc.otp = s.lc.otp := by unfold addComponent; (repeat' split) <;> (first | (simp only [updSlot_otp, finishFill_otp, ite_otp, ite_self]; done) | with_reducible rfl | (simp_all; done))
theorem execFillTimeout_otp (s : State) : ∃ τ, execFillTimeout s = .next τ ∧ τ.lc.otp = s.lc.otp := by refine ⟨_, rfl, ?_⟩; (repeat' split) <;> (first | (simp only [failFill_otp, advanceTo_otp]; done) | with_reducible rfl | (simp_all; done))
@[simp] theorem putLoose_otp (a : Nat) (b : Byte) (s : State) : (putLoose a b s).lc.otp = s.lc.otp := by simp only [putLoose]
@[simp] theorem putDirByte_otp (h : Nat) (o : Nat) (b : Byte) (s : State) : (putDirByte h o b s).lc.otp = s.lc.otp := by unfold putDirByte; dsimp only; (repeat' split) <;> (first | (simp only; done) | with_reducible rfl | (simp_all; done))
@[simp] theorem putUnitByte_otp (i : Nat) (b : Byte) (s : State) : (putUnitByte i b s).lc.otp = s.lc.otp := by unfold putUnitByte; (repeat' split) <;> (first | (simp only [putLoose_otp]; done) | with_reducible rfl | (simp_all; done))
@[simp] theorem putKregByte_otp (a : Nat) (b : Byte) (s : State) : (putKregByte a b s).lc.otp = s.lc.otp := by simp only [putKregByte, putDirByte_otp, putUnitByte_otp, ite_otp, ite_self]
@[simp] theorem putTagByte_otp (a : Nat) (b : Byte) (s : State) : (putTagByte a b s).lc.otp = s.lc.otp := by simp only [putTagByte, tagOnly_otp]
@[simp] theorem shiftOut_otp (b : Bytes) (s : State) : (shiftOut b s).lc.otp = s.lc.otp := by simp only [shiftOut, emit_otp]
@[simp] theorem putAll_otp (f : Nat → Byte → State → State) (a : Nat) (a2 : Bytes) (a3 : State) (h0 : ∀ v0 v1 τ, (f v0 v1 τ).lc.otp = τ.lc.otp) : (putAll f a a2 a3).lc.otp = a3.lc.otp := by
  induction a2 generalizing a a3 with
  | nil => rfl
  | cons b r ih => rw [putAll, ih, h0]
@[simp] theorem putRaw_otp (a : Nat) (b : Byte) (s : State) : (putRaw a b s).lc.otp = s.lc.otp := by simp only [putRaw, memWrite_otp]
@[simp] theorem setCore_otp (c : Core) (s : State) : (setCore c s).lc.otp = s.lc.otp := by simp only [setCore]
@[simp] theorem containCell_otp (n : Nat) (s : State) : (containCell n s).lc.otp = s.lc.otp := by simp only [containCell, fenceTenant_otp, ite_otp, ite_self]
@[simp] theorem excCall_otp (n : Nat) (code : Nat) (epc : BitVec 24) (addr : Word) (c : Core) (s : State) : (excCall n code epc addr c s).lc.otp = s.lc.otp := by simp only [excCall, setObj_otp, containCell_otp, endCall_otp, bump_otp]
@[simp] theorem budgetCall_otp (n : Nat) (s : State) : (budgetCall n s).lc.otp = s.lc.otp := by simp only [budgetCall, endCall_otp, bump_otp]
@[simp] theorem takeExc_otp (code : Nat) (epc : BitVec 24) (addr : Word) (s : State) : (takeExc code epc addr s).lc.otp = s.lc.otp := by unfold takeExc; (repeat' split) <;> (first | (simp only [setCore_otp, budgetCall_otp, excCall_otp, ite_otp, ite_self]; done) | with_reducible rfl | (simp_all; done))
@[simp] theorem dWrite_otp (c : Core) (f : Nat) (b : Bytes) (s : State) : (dWrite c f b s).1.lc.otp = s.lc.otp := by simp only [dWrite, memWrite_otp, ite_otp, ite_self]
@[simp] theorem spendBudget_otp (s : State) : (spendBudget s).lc.otp = s.lc.otp := by simp only [spendBudget, ite_otp, ite_self]
@[simp] theorem coreOnly_otp (f : Core → Core) (s : State) : (coreOnly f s).lc.otp = s.lc.otp := by simp only [coreOnly, setCore_otp]
@[simp] theorem coreMay_otp (f : Core → Exc ⊕ Core) (s : State) : (coreMay f s).lc.otp = s.lc.otp := by unfold coreMay; (repeat' split) <;> (first | (simp only [takeExc_otp, setCore_otp]; done) | with_reducible rfl | (simp_all; done))
@[simp] theorem faultAt_otp (x : Exc) (s : State) : (faultAt x s).lc.otp = s.lc.otp := by simp only [faultAt, takeExc_otp]
@[simp] theorem illegal_otp (s : State) : (illegal s).lc.otp = s.lc.otp := by simp only [illegal, takeExc_otp]
@[simp] theorem breakAt_otp (budget : Bool) (s : State) : (breakAt budget s).lc.otp = s.lc.otp := by simp only [breakAt, takeExc_otp, setCore_otp, ite_otp, ite_self]
theorem execBlockRepeatEnd_otp (s : State) : ∃ τ, execBlockRepeatEnd s = .next τ ∧ τ.lc.otp = s.lc.otp := by refine ⟨_, rfl, ?_⟩; simp only [coreOnly_otp]
@[simp] theorem portRead_otp (p : Nat) (s : State) : (portRead p s).2.lc.otp = s.lc.otp := by unfold portRead; (repeat' split) <;> (first | (simp only [draw_otp, setCore_otp, usedFree_otp]; done) | with_reducible rfl | (simp_all; done))
theorem execInterrupt_otp (s : State) : ∃ τ, execInterrupt s = .next τ ∧ τ.lc.otp = s.lc.otp := by refine ⟨_, rfl, ?_⟩; simp only [wakeCore_otp, takeExc_otp, setCore_otp, ite_otp, ite_self]
theorem execBudget_otp (s : State) : ∃ τ, execBudget s = .next τ ∧ τ.lc.otp = s.lc.otp := by refine ⟨_, rfl, ?_⟩; simp only [takeExc_otp, setCore_otp, ite_otp, ite_self]
@[simp] theorem strElem_otp {op : StrOp} {n : Nat} {dir : Bool} {s t : State} {r : List Refused} (h : strElem op n dir s = .done t r) :
    t.lc.otp = s.lc.otp := by
  unfold strElem at h
  dsimp only at h
  (repeat' split at h) <;> first | (cases h; done) | (injection h with h1 h2; subst h1; simp)
@[simp] theorem strOne_otp (op : StrOp) (n : Nat) (dir : Bool) (halt : BitVec 4) (s : State) : (strOne op n dir halt s).1.lc.otp = s.lc.otp := by
  unfold strOne
  split
  · simp
  · rfl
  · rename_i h; dsimp only; split <;> simp [strElem_otp h]
@[simp] theorem vFault_otp (x : Exc) (s : State) : (vFault x s).lc.otp = s.lc.otp := by simp only [vFault, faultAt_otp, coreOnly_otp]
@[simp] theorem vstWrites_otp (c : Core) (w : Nat) (f : Nat) (v : BitVec 512) (k : BitVec 3) (s : State) : (vstWrites c w f v k s).lc.otp = s.lc.otp := by unfold vstWrites; (repeat' split) <;> (first | (simp only [memWrite_otp, implies_true, ite_otp, ite_self]; done) | with_reducible rfl | (simp_all; done))
@[simp] theorem setCtx_otp (n : Nat) (x : CtxNum) (s : State) : (setCtx n x s).lc.otp = s.lc.otp := by simp only [setCtx]
@[simp] theorem freeCtx_otp (n : Nat) (s : State) : (freeCtx n s).lc.otp = s.lc.otp := by simp only [freeCtx]
@[simp] theorem extendMeas_otp (i : Nat) (b : Bytes) (s : State) : (extendMeas i b s).lc.otp = s.lc.otp := by simp only [extendMeas, noticed_otp]
@[simp] theorem measOwnerRule_otp_act (i : Nat) (data : Bytes) (s : State) : ∀ τ, ((measOwnerRule i data s).act τ).lc.otp = τ.lc.otp := by intro τ; unfold measOwnerRule; dsimp only; (repeat' split) <;> (first | (simp only [plainRule_otp_act]; done) | with_reducible rfl | (simp_all; done))
@[simp] theorem measOwnerRule_otp_first (i : Nat) (data : Bytes) (s : State) : ∀ τ, ((measOwnerRule i data s).first τ).1.lc.otp = τ.lc.otp := by intro τ; unfold measOwnerRule; dsimp only; (repeat' split) <;> (first | (simp only [plainRule_otp_first]; done) | with_reducible rfl | (simp_all; done))
theorem execDigMeasOwnerWrite_otp (c : Caller) (i : Nat) (data : Bytes) (s : State) : ∃ τ, execDigMeasOwnerWrite c i data s = .next τ ∧ τ.lc.otp = s.lc.otp := by refine ⟨_, rfl, ?_⟩; simp only [writeAccess_otp, measOwnerRule_otp_act, measOwnerRule_otp_first, implies_true, ite_otp, ite_self]
@[simp] theorem turnTo_otp (u : Nat) (x : Entry) (s : State) : (turnTo u x s).lc.otp = s.lc.otp := by simp only [turnTo, setDigUnit_otp, ite_otp, ite_self]
@[simp] theorem digTurn_otp (e : Nat) (u : Nat) (x : Entry) (f : Entry → Nat → State → Res × State) (t : State) (h3 : ∀ v0 v1 τ, (f v0 v1 τ).2.lc.otp = τ.lc.otp) (k3 : ∀ v0 v1 τ ρ, ((f v0 v1 τ).1.release ρ).lc.otp = ρ.lc.otp) : (digTurn e u x f t).lc.otp = t.lc.otp := by unfold digTurn; (repeat' split) <;> (first | (simp only; done) | with_reducible rfl | (simp_all; done))
@[simp] theorem serveQuantum_otp (u : Nat) (before : List Nat) (e : Nat) (after : List Nat) (s : State) : (serveQuantum u before e after s).lc.otp = s.lc.otp := by unfold serveQuantum; (repeat' split) <;> (first | (simp only [turnTo_otp, setDigUnit_otp]; done) | with_reducible rfl | (simp_all; done))
theorem execDigestQuantumEnd_otp (u : Nat) (s : State) : ∃ τ, execDigestQuantumEnd u s = .next τ ∧ τ.lc.otp = s.lc.otp := by refine ⟨_, rfl, ?_⟩; (repeat' split) <;> (first | (simp only [serveQuantum_otp]; done) | with_reducible rfl | (simp_all; done))
theorem execDigestUnitReinitDone_otp (u : Nat) (s : State) : ∃ τ, execDigestUnitReinitDone u s = .next τ ∧ τ.lc.otp = s.lc.otp := by refine ⟨_, rfl, ?_⟩; (repeat' split) <;> (first | (simp only [advanceTo_otp, setDigUnit_otp]; done) | with_reducible rfl | (simp_all; done))
@[simp] theorem deliverDerived_otp (x : Entry) (usage : Nat) (k : Bytes) (cycles : Nat) (release : State → State) (s : State) (h4 : ∀ τ, (release τ).lc.otp = τ.lc.otp) : (deliverDerived x usage k cycles release s).2.lc.otp = s.lc.otp := by simp only [deliverDerived, tookHandle_otp]
@[simp] theorem deliverDerived_otp_rel (x : Entry) (usage : Nat) (k : Bytes) (cycles : Nat) (release : State → State) (s : State) (h4 : ∀ τ, (release τ).lc.otp = τ.lc.otp) : ∀ ρ, ((deliverDerived x usage k cycles release s).1.release ρ).lc.otp = ρ.lc.otp := by intro ρ; unfold deliverDerived; (repeat' split) <;> (first | (simp only; done) | with_reducible rfl | (simp_all; done))
@[simp] theorem runOpenCtx_otp (x : Entry) (a1 : Nat) (s : State) : (runOpenCtx x a1 s).2.lc.otp = s.lc.otp := by unfold runOpenCtx; dsimp only; (repeat' split) <;> (first | (simp only [touchSlot_otp]; done) | with_reducible rfl | (simp_all; done))
@[simp] theorem runOpenCtx_otp_rel (x : Entry) (a1 : Nat) (s : State) : ∀ ρ, ((runOpenCtx x a1 s).1.release ρ).lc.otp = ρ.lc.otp := by intro ρ; unfold runOpenCtx; dsimp only; (repeat' split) <;> (first | (simp only [setCtx_otp, Res.stop_release, id]; done) | with_reducible rfl | (simp_all; done))
@[simp] theorem lengthMismatch_otp (n : Nat) (absorbed : Nat) (s : State) : (lengthMismatch n absorbed s).2.lc.otp = s.lc.otp := by simp only [lengthMismatch, bump_otp, freeCtx_otp, Res.stop_release]
@[simp] theorem lengthMismatch_otp_rel (n : Nat) (absorbed : Nat) (s : State) : ∀ ρ, ((lengthMismatch n absorbed s).1.release ρ).lc.otp = ρ.lc.otp := by simp only [lengthMismatch, implies_true, Res.stop_release, id]
@[simp] theorem runAbsorb_otp (x : Entry) (a1 : Nat) (s : State) : (runAbsorb x a1 s).2.lc.otp = s.lc.otp := by unfold runAbsorb; dsimp only; (repeat' split) <;> (first | (simp only [lengthMismatch_otp]; done) | with_reducible rfl | (simp_all; done))
@[simp] theorem runAbsorb_otp_rel (x : Entry) (a1 : Nat) (s : State) : ∀ ρ, ((runAbsorb x a1 s).1.release ρ).lc.otp = ρ.lc.otp := by intro ρ; unfold runAbsorb; dsimp only; (repeat' split) <;> (first | (simp only [lengthMismatch_otp_rel, setCtx_otp, Res.stop_release, id]; done) | with_reducible rfl | (simp_all; done))
@[simp] theorem finishDeliver_otp (x : Entry) (n : Nat) (c : Ctx) (read : Bool) (s : State) : (finishDeliver x n c read s).2.lc.otp = s.lc.otp := by unfold finishDeliver; dsimp only; (repeat' split) <;> (first | (simp only [freeCtx_otp, setCtx_otp, deliverDerived_otp, implies_true]; done) | with_reducible rfl | (simp_all; done))
@[simp] theorem finishDeliver_otp_rel (x : Entry) (n : Nat) (c : Ctx) (read : Bool) (s : State) : ∀ ρ, ((finishDeliver x n c read s).1.release ρ).lc.otp = ρ.lc.otp := by intro ρ; unfold finishDeliver; dsimp only; (repeat' split) <;> (first | (simp only [freeCtx_otp, setCtx_otp, deliverDerived_otp_rel, extendMeas_otp, implies_true, Res.stop_release, id]; done) | with_reducible rfl | (simp_all; done))
@[simp] theorem runFinish_otp (x : Entry) (a1 : Nat) (s : State) : (runFinish x a1 s).2.lc.otp = s.lc.otp := by unfold runFinish; dsimp only; (repeat' split) <;> (first | (simp only [bump_otp, lengthMismatch_otp, finishDeliver_otp]; done) | with_reducible rfl | (simp_all; done))
@[simp] theorem runFinish_otp_rel (x : Entry) (a1 : Nat) (s : State) : ∀ ρ, ((runFinish x a1 s).1.release ρ).lc.otp = ρ.lc.otp := by intro ρ; unfold runFinish; dsimp only; (repeat' split) <;> (first | (simp only [lengthMismatch_otp_rel, finishDeliver_otp_rel, Res.stop_release, id]; done) | with_reducible rfl | (simp_all; done))
@[simp] theorem runOneshot_otp (x : Entry) (a1 : Nat) (s : State) : (runOneshot x a1 s).2.lc.otp = s.lc.otp := by unfold runOneshot; dsimp only; (repeat' split) <;> (first | (simp only [touchSlot_otp]; done) | with_reducible rfl | (simp_all; done))
@[simp] theorem runOneshot_otp_rel (x : Entry) (a1 : Nat) (s : State) : ∀ ρ, ((runOneshot x a1 s).1.release ρ).lc.otp = ρ.lc.otp := by intro ρ; unfold runOneshot; dsimp only; (repeat' split) <;> (first | (simp only [Res.stop_release, Res.ok_release, id]; done) | with_reducible rfl | (simp_all; done))
@[simp] theorem runDeriveKey_otp (x : Entry) (a1 : Nat) (s : State) : (runDeriveKey x a1 s).2.lc.otp = s.lc.otp := by unfold runDeriveKey; dsimp only; (repeat' split) <;> (first | (simp only [touchSlot_otp, deliverDerived_otp, implies_true, id]; done) | with_reducible rfl | (simp_all; done))
@[simp] theorem runDeriveKey_otp_rel (x : Entry) (a1 : Nat) (s : State) : ∀ ρ, ((runDeriveKey x a1 s).1.release ρ).lc.otp = ρ.lc.otp := by intro ρ; unfold runDeriveKey; dsimp only; (repeat' split) <;> (first | (simp only [deliverDerived_otp_rel, implies_true, Res.stop_release, Res.ok_release, id]; done) | with_reducible rfl | (simp_all; done))
@[simp] theorem runExtend_otp (x : Entry) (a1 : Nat) (s : State) : (runExtend x a1 s).2.lc.otp = s.lc.otp := by unfold runExtend; dsimp only; (repeat' split) <;> (first | (simp only; done) | with_reducible rfl | (simp_all; done))
@[simp] theorem runExtend_otp_rel (x : Entry) (a1 : Nat) (s : State) : ∀ ρ, ((runExtend x a1 s).1.release ρ).lc.otp = ρ.lc.otp := by intro ρ; unfold runExtend; dsimp only; (repeat' split) <;> (first | (simp only [extendMeas_otp, Res.stop_release, id]; done) | with_reducible rfl | (simp_all; done))
@[simp] theorem runSaveCtx_otp (x : Entry) (u : Nat) (s : State) : (runSaveCtx x u s).2.lc.otp = s.lc.otp := by unfold runSaveCtx; dsimp only; (repeat' split) <;> (first | (simp only [draw_otp]; done) | with_reducible rfl | (simp_all; done))
@[simp] theorem runSaveCtx_otp_rel (x : Entry) (u : Nat) (s : State) : ∀ ρ, ((runSaveCtx x u s).1.release ρ).lc.otp = ρ.lc.otp := by intro ρ; unfold runSaveCtx; dsimp only; (repeat' split) <;> (first | (simp only [setCtx_otp, Res.stop_release, id]; done) | with_reducible rfl | (simp_all; done))
@[simp] theorem runLoadCtx_otp (x : Entry) (a1 : Nat) (s : State) : (runLoadCtx x a1 s).2.lc.otp = s.lc.otp := by unfold runLoadCtx; dsimp only; (repeat' split) <;> (first | (simp only [usedFree_otp, bump_otp]; done) | with_reducible rfl | (simp_all; done))
@[simp] theorem runLoadCtx_otp_rel (x : Entry) (a1 : Nat) (s : State) : ∀ ρ, ((runLoadCtx x a1 s).1.release ρ).lc.otp = ρ.lc.otp := by intro ρ; unfold runLoadCtx; dsimp only; (repeat' split) <;> (first | (simp only [setCtx_otp, Res.stop_release, id]; done) | with_reducible rfl | (simp_all; done))
@[simp] theorem enterFailed_otp (s : State) : (enterFailed s).lc.otp = s.lc.otp := by simp only [enterFailed, setRng_otp]
theorem execRngRetest_otp (s : State) : ∃ τ, execRngRetest s = .next τ ∧ τ.lc.otp = s.lc.otp := by refine ⟨_, rfl, ?_⟩; simp only [advanceTo_otp, bump_otp, setRng_otp, ite_otp, ite_self]
@[simp] theorem rngDies_otp (s : State) : (rngDies s).lc.otp = s.lc.otp := by simp only [rngDies, recordFence_otp, setRng_otp]
@[simp] theorem rngReinitEnds_otp (pass : Bool) (s : State) : (rngReinitEnds pass s).lc.otp = s.lc.otp := by simp only [rngReinitEnds, setObj_otp, ite_otp, ite_self]
@[simp] theorem seedExpanders_otp (a0 : Nat) (a1 : State) : (seedExpanders a0 a1).lc.otp = a1.lc.otp := by
  induction a0 generalizing a1 with
  | zero => rfl
  | succ n ih => rw [seedExpanders]; exact (draw_otp n 64 _).trans (ih _)
@[simp] theorem rngStarts_otp (s : State) : (rngStarts s).lc.otp = s.lc.otp := by simp only [rngStarts, setRng_otp, seedExpanders_otp]
theorem execRngStartupDone_otp (s : State) : ∃ τ, execRngStartupDone s = .next τ ∧ τ.lc.otp = s.lc.otp := by refine ⟨_, rfl, ?_⟩; simp only [usedFree_otp, advanceTo_otp, rngReinitEnds_otp, setObj_otp, rngStarts_otp, ite_otp, ite_self]
@[simp] theorem rngReinitRule_otp_act (s : State) (data : Bytes) : ∀ τ, ((rngReinitRule s data).act τ).lc.otp = τ.lc.otp := by intro τ; unfold rngReinitRule; dsimp only; (repeat' split) <;> (first | (simp only [setObj_otp, setRng_otp]; done) | with_reducible rfl | (simp_all; done))
@[simp] theorem rngReinitRule_otp_first (s : State) (data : Bytes) : ∀ τ, ((rngReinitRule s data).first τ).1.lc.otp = τ.lc.otp := by simp [rngReinitRule]
theorem execErrRngReinit_otp (c : Caller) (data : Bytes) (s : State) : ∃ τ, execErrRngReinit c data s = .next τ ∧ τ.lc.otp = s.lc.otp := by refine ⟨_, rfl, ?_⟩; simp only [writeAccess_otp, rngReinitRule_otp_act, rngReinitRule_otp_first, implies_true]
theorem execDrbgReseed_otp (s : State) : ∃ τ, execDrbgReseed s = .next τ ∧ τ.lc.otp = s.lc.otp := by refine ⟨_, rfl, ?_⟩; (repeat' split) <;> (first | (simp only [reseed_otp]; done) | with_reducible rfl | (simp_all; done))
@[simp] theorem runGenerate_otp (x : Entry) (s : State) : (runGenerate x s).2.lc.otp = s.lc.otp := by unfold runGenerate; (repeat' split) <;> (first | (simp only [draw_otp, reseed_otp, ite_otp, ite_self]; done) | with_reducible rfl | (simp_all; done))
@[simp] theorem runGenerate_otp_rel (x : Entry) (s : State) : ∀ ρ, ((runGenerate x s).1.release ρ).lc.otp = ρ.lc.otp := by intro ρ; unfold runGenerate; (repeat' split) <;> (first | (simp only [Res.stop_release, Res.ok_release, id]; done) | with_reducible rfl | (simp_all; done))
theorem execGenerate_otp (e : Nat) (s : State) : ∃ τ, execGenerate e s = .next τ ∧ τ.lc.otp = s.lc.otp := by refine ⟨_, rfl, ?_⟩; (repeat' split) <;> (first | (simp only [runGenerate_otp, runGenerate_otp_rel, finish_otp, implies_true]; done) | with_reducible rfl | (simp_all; done))
@[simp] theorem serveRngRead_otp (s : State) : (serveRngRead s).2.2.lc.otp = s.lc.otp := by unfold serveRngRead; (repeat' split) <;> (first | (simp only [draw_otp]; done) | with_reducible rfl | (simp_all; done))
theorem execRngRead_otp (c : Caller) (s : State) : ∃ τ, execRngRead c s = .next τ ∧ τ.lc.otp = s.lc.otp := by refine ⟨_, rfl, ?_⟩; simp only [readAccess_otp, serveRngRead_otp, implies_true]
@[simp] theorem placeImage_otp (n : Nat) (cb : Nat) (db : Nat) (b : Bytes) (s : State) : (placeImage n cb db b s).lc.otp = s.lc.otp := by simp only [placeImage, cellAfter_otp, memWrite_otp, retag_otp, setCell_otp, cellDataInit_otp]
@[simp] theorem verifyTime_otp (b : Bytes) (s : State) : (verifyTime b s).lc.otp = s.lc.otp := by simp only [verifyTime]
@[simp] theorem placeOr_otp (n : Nat) (b : Bytes) (s : State) : (placeOr n b s).1.lc.otp = s.lc.otp := by unfold placeOr; (repeat' split) <;> (first | (simp only [placeImage_otp]; done) | with_reducible rfl | (simp_all; done))
@[simp] theorem endLoad_otp (n : Nat) (st : Status) (s : State) : (endLoad n st s).lc.otp = s.lc.otp := by unfold endLoad; dsimp only; (repeat' split) <;> (first | (simp only [setCell_otp, placeOr_otp, setObj_otp]; done) | with_reducible rfl | (simp_all; done))
@[simp] theorem loadNow_otp (n : Nat) (b : Bytes) (s : State) : (loadNow n b s).lc.otp = s.lc.otp := by unfold loadNow; (repeat' split) <;> (first | (simp only [verifyTime_otp, placeOr_otp, setObj_otp]; done) | with_reducible rfl | (simp_all; done))
@[simp] theorem startPair_otp (p : Nat) (s : State) : (startPair p s).lc.otp = s.lc.otp := by simp only [startPair, setObj_otp, setPair_otp]
@[simp] theorem enableRule_otp_act (p : Nat) (s : State) : ∀ τ, ((enableRule p s).act τ).lc.otp = τ.lc.otp := by intro τ; unfold enableRule; dsimp only; (repeat' split) <;> (first | (simp only [startPair_otp]; done) | with_reducible rfl | (simp_all; done))
@[simp] theorem enableRule_otp_first (p : Nat) (s : State) : ∀ τ, ((enableRule p s).first τ).1.lc.otp = τ.lc.otp := by simp [enableRule]
@[simp] theorem settleDrain_otp (p : Nat) (s : State) : (settleDrain p s).lc.otp = s.lc.otp := by simp only [settleDrain, setPair_otp, ite_otp, ite_self]
@[simp] theorem stopPair_otp (p : Nat) (s : State) : (stopPair p s).lc.otp = s.lc.otp := by simp only [stopPair, setObj_otp, leaveStall_otp, dropHeld_otp, settleDrain_otp, setPair_otp, notStarving_otp, ite_otp, ite_self]
@[simp] theorem disableRule_otp_act (p : Nat) (s : State) : ∀ τ, ((disableRule p s).act τ).lc.otp = τ.lc.otp := by intro τ; unfold disableRule; dsimp only; (repeat' split) <;> (first | (simp only [stopPair_otp]; done) | with_reducible rfl | (simp_all; done))
@[simp] theorem disableRule_otp_first (p : Nat) (s : State) : ∀ τ, ((disableRule p s).first τ).1.lc.otp = τ.lc.otp := by simp [disableRule]
theorem execRingEnableSet_otp (c : Caller) (p : Nat) (s : State) : ∃ τ, execRingEnableSet c p s = .next τ ∧ τ.lc.otp = s.lc.otp := by refine ⟨_, rfl, ?_⟩; simp only [writeAccess_otp, enableRule_otp_act, enableRule_otp_first, implies_true]
theorem execRingDisable_otp (c : Caller) (p : Nat) (s : State) : ∃ τ, execRingDisable c p s = .next τ ∧ τ.lc.otp = s.lc.otp := by refine ⟨_, rfl, ?_⟩; simp only [writeAccess_otp, disableRule_otp_act, disableRule_otp_first, implies_true]
@[simp] theorem setRun_otp (run : Bool) (s : State) : (setRun run s).lc.otp = s.lc.otp := by simp only [setRun, renewPolls_otp, ite_otp, ite_self]
theorem execRingGctrlRun_otp (v : Word) (s : State) : ∃ τ, execRingGctrlRun v s = .next τ ∧ τ.lc.otp = s.lc.otp := by refine ⟨_, rfl, ?_⟩; simp only [setRun_otp]
@[simp] theorem ringErr_otp (i : Nat) (s : State) : (ringErr i s).lc.otp = s.lc.otp := by simp only [ringErr, raiseVec_otp, ite_otp, ite_self]
@[simp] theorem takeCoal_otp (p : Nat) (s : State) : (takeCoal p s).lc.otp = s.lc.otp := by simp only [takeCoal, setPair_otp]
@[simp] theorem signal_otp (p : Nat) (irq : Bool) (s0 : State) : (signal p irq s0).lc.otp = s0.lc.otp := by simp only [signal, takeCoal_otp, raiseVec_otp, setPair_otp, ite_otp, ite_self]
@[simp] theorem writeRecord_otp (p : Nat) (d : Desc) (st : Status) (slice : Nat) (written : Nat) (detail : Nat) (cycles : Nat) (s : State) : (writeRecord p d st slice written detail cycles s).lc.otp = s.lc.otp := by simp only [writeRecord, setPair_otp, bump_otp, signal_otp, ite_otp, ite_self]
@[simp] theorem consume_otp (p : Nat) (n : Nat) (s : State) : (consume p n s).lc.otp = s.lc.otp := by simp only [consume, notStarving_otp, setPair_otp]
@[simp] theorem settleHead_otp (p : Nat) (a1 : Nat) (a2 : State) : (settleHead p a1 a2).lc.otp = a2.lc.otp := by
  induction a1 generalizing a2 with
  | zero => rfl
  | succ n ih =>
    rw [settleHead]; dsimp only
    split
    · rw [ih, writeRecord_otp, consume_otp]
    · rw [ih, writeRecord_otp, consume_otp]
    · rfl
@[simp] theorem pollPair_otp (p : Nat) (entries : List Bytes) (s0 : State) : (pollPair p entries s0).lc.otp = s0.lc.otp := by
  unfold pollPair
  refine (settleHead_otp _ _ _).trans ((bumpBy_otp _ _ _).trans ((setPair_otp _ _ _).trans ?_))
  simp only [ite_otp, ringErr_otp, bump_otp, ite_self]
  rfl
@[simp] theorem pollLimited_otp (p : Nat) (s0 : State) : (pollLimited p s0).lc.otp = s0.lc.otp := by unfold pollLimited; (repeat' split) <;> (first | (simp only [advanceTo_otp, idle_otp, ringErr_otp, setPair_otp, implies_true, ite_otp, ite_self]; done) | with_reducible rfl | (simp_all; done))
@[simp] theorem assignDigest_otp (e : Nat) (opcode : Nat) (s : State) : (assignDigest e opcode s).lc.otp = s.lc.otp := by unfold assignDigest; (repeat' split) <;> (first | (simp only [setDigUnit_otp]; done) | with_reducible rfl | (simp_all; done))
@[simp] theorem admitJob_otp (o : Origin) (colour : Nat) (prio : Nat) (d : Desc) (c : CmdSpec) (stream : Bytes) (s : State) : (admitJob o colour prio d c stream s).lc.otp = s.lc.otp := by unfold admitJob; (repeat' split) <;> (first | (simp only [writePages_otp, tagPages_otp, assignDigest_otp, setEntry_otp, rouseEngine_otp]; done) | with_reducible rfl | (simp_all; done))
@[simp] theorem admitInternal_otp (s : State) : (admitInternal s).lc.otp = s.lc.otp := by
  unfold admitInternal
  refine (foldl_otp _ ?_ _ _).trans rfl
  intro t x
  split
  · exact admitJob_otp _ _ _ _ _ _ _
  · rfl
@[simp] theorem stall_otp (p : Nat) (pages : Bool) (s : State) : (stall p pages s).lc.otp = s.lc.otp := by simp only [stall, setPair_otp, bump_otp, ite_otp, ite_self]
@[simp] theorem unstall_otp (p : Nat) (s : State) : (unstall p s).lc.otp = s.lc.otp := by simp only [unstall, leaveStall_otp, setPair_otp, ite_otp, ite_self]
@[simp] theorem countClamp_otp (p : Nat) (d : Desc) (s : State) : (countClamp p d s).lc.otp = s.lc.otp := by simp only [countClamp, bump_otp, ite_otp, ite_self]
@[simp] theorem keepTurn_otp (p : Nat) (taken : Nat) (s : State) : (keepTurn p taken s).lc.otp = s.lc.otp := by simp only [keepTurn]
@[simp] theorem turn_otp (p : Nat) (a1 : Nat) (a2 : Nat) (a3 : State) : (turn p a1 a2 a3).lc.otp = a3.lc.otp := by
  induction a1 generalizing a2 a3 with
  | zero => rfl
  | succ k ih =>
    rw [turn]; dsimp only
    (repeat' split) <;> simp [ih]
@[simp] theorem useTurn_otp (p : Nat) (fresh : Bool) (s : State) : (useTurn p fresh s).lc.otp = s.lc.otp := by simp only [useTurn, setPair_otp, ite_otp, ite_self]
theorem execStarveLimitExpiry_otp (p : Nat) (s : State) : ∃ τ, execStarveLimitExpiry p s = .next τ ∧ τ.lc.otp = s.lc.otp := by refine ⟨_, rfl, ?_⟩; (repeat' split) <;> (first | (simp only [advanceTo_otp]; done) | with_reducible rfl | (simp_all; done))
theorem execInboundDmaComplete_otp (e : Nat) (data : Bytes) (s : State) : ∃ τ, execInboundDmaComplete e data s = .next τ ∧ τ.lc.otp = s.lc.otp := by refine ⟨_, rfl, ?_⟩; (repeat' split) <;> (first | (simp only [rouseEngine_otp, setEntry_otp, writePages_otp]; done) | with_reducible rfl | (simp_all; done))
@[simp] theorem releaseJob_otp (e : Nat) (x : Entry) (s : State) : (releaseJob e x s).lc.otp = s.lc.otp := by unfold releaseJob; (repeat' split) <;> (first | (simp only [dropEntry_otp, tagPages_otp, settleDrain_otp, admitInternal_otp]; done) | with_reducible rfl | (simp_all; done))
@[simp] theorem noteGraft_otp (c : Nat) (x : Entry) (s : State) : (noteGraft c x s).lc.otp = s.lc.otp := by simp only [noteGraft, freeRoles_otp, setGraft_otp, ite_otp, ite_self]
@[simp] theorem countAbort_otp (x : Entry) (s : State) : (countAbort x s).lc.otp = s.lc.otp := by simp only [countAbort, bump_otp, ite_otp, ite_self]
@[simp] theorem completeJob_otp (e : Nat) (s : State) : (completeJob e s).lc.otp = s.lc.otp := by unfold completeJob; (repeat' split) <;> (first | (simp only [releaseJob_otp]; done) | with_reducible rfl | (simp_all; done))
theorem execJobComplete_otp (e : Nat) (s : State) : ∃ τ, execJobComplete e s = .next τ ∧ τ.lc.otp = s.lc.otp := by refine ⟨_, rfl, ?_⟩; simp only [completeJob_otp]
theorem execCoalDelayExpiry_otp (p : Nat) (s : State) : ∃ τ, execCoalDelayExpiry p s = .next τ ∧ τ.lc.otp = s.lc.otp := by refine ⟨_, rfl, ?_⟩; (repeat' split) <;> (first | (simp only [advanceTo_otp, raiseVec_otp, setPair_otp]; done) | with_reducible rfl | (simp_all; done))
@[simp] theorem completeControl_otp (p : Nat) (d : Desc) (n : Nat) (detail : Nat) (st : Status) (s : State) : (completeControl p d n detail st s).lc.otp = s.lc.otp := by simp only [completeControl, writeRecord_otp, unstall_otp, consume_otp]
@[simp] theorem afterControl_otp (p : Nat) (n : Nat) (k : Nat) (s : State) : (afterControl p n k s).lc.otp = s.lc.otp := by simp only [afterControl, keepTurn_otp, endTurn_otp, ite_otp, ite_self]
@[simp] theorem endStage_otp (p : Nat) (s : State) : (endStage p s).lc.otp = s.lc.otp := by unfold endStage; (repeat' split) <;> (first | (simp only [completeControl_otp]; done) | with_reducible rfl | (simp_all; done))
@[simp] theorem fenceServed_otp (e : Nat) (s : State) : (fenceServed e s).lc.otp = s.lc.otp := by unfold fenceServed; (repeat' split) <;> (first | (simp only [setEntry_otp, stopJob_otp]; done) | with_reducible rfl | (simp_all; done))
@[simp] theorem hostError_otp (p : Nat) (a : HostAccess) (s : State) : (hostError p a s).lc.otp = s.lc.otp := by unfold hostError; dsimp only; (repeat' split) <;> (first | (simp only [ringErr_otp, faultPair_otp, endStage_otp, fenceServed_otp, releaseJob_otp]; done) | with_reducible rfl | (simp_all; done))
theorem execHostMemoryError_otp (p : Nat) (a : HostAccess) (s : State) : ∃ τ, execHostMemoryError p a s = .next τ ∧ τ.lc.otp = s.lc.otp := by refine ⟨_, rfl, ?_⟩; simp only [hostError_otp, ite_otp, ite_self]
theorem execRingFetchTimeout_otp (p : Nat) (a : HostAccess) (s : State) : ∃ τ, execRingFetchTimeout p a s = .next τ ∧ τ.lc.otp = s.lc.otp := by refine ⟨_, rfl, ?_⟩; simp only [hostError_otp, advanceTo_otp, ite_otp, ite_self]
@[simp] theorem dropHostCalls_otp (s : State) : (dropHostCalls s).lc.otp = s.lc.otp := by unfold dropHostCalls; (repeat' split) <;> (first | (simp only [endCall_otp, implies_true, ite_otp, ite_self]; done) | with_reducible rfl | (simp_all; done))
@[simp] theorem pcieReset_otp (s : State) : (pcieReset s).lc.otp = s.lc.otp := by simp only [pcieReset, dropHostCalls_otp, stopJobs_otp, tagPages_otp, admitInternal_otp]
theorem execPcieLinkReset_otp (s : State) : ∃ τ, execPcieLinkReset s = .next τ ∧ τ.lc.otp = s.lc.otp := by refine ⟨_, rfl, ?_⟩; simp only [pcieReset_otp]
@[simp] theorem abortJob_otp (e : Nat) (s : State) : (abortJob e s).lc.otp = s.lc.otp := by unfold abortJob; (repeat' split) <;> (first | (simp only [endCall_otp, stopJob_otp]; done) | with_reducible rfl | (simp_all; done))
@[simp] theorem warmRestart_otp (s : State) : (warmRestart s).lc.otp = s.lc.otp := by simp only [warmRestart, endCalls_otp, bump_otp, ite_otp, ite_self]
theorem execWarmRestartComplete_otp (s : State) : ∃ τ, execWarmRestartComplete s = .next τ ∧ τ.lc.otp = s.lc.otp := by refine ⟨_, rfl, ?_⟩; simp only [usedFree_otp, advanceTo_otp, ite_otp, ite_self]
theorem execTsuowWdogBite_otp (s : State) : ∃ τ, execTsuowWdogBite s = .next τ ∧ τ.lc.otp = s.lc.otp := by refine ⟨_, rfl, ?_⟩; simp only [warmRestart_otp, advanceTo_otp, ite_otp, ite_self]
@[simp] theorem runLoad_otp (n : Nat) (b : Bytes) (s : State) : (runLoad n b s).lc.otp = s.lc.otp := by
  unfold runLoad
  split
  · exact setObj_otp _ _ _
  · split
    · exact setObj_otp _ _ _
    · exact (admitInternal_otp _).trans ((setCell_otp _ _ _).trans (setObj_otp _ _ _))
@[simp] theorem cellLoadRule_otp_act (n : Nat) (s : State) : ∀ τ, ((cellLoadRule n s).act τ).lc.otp = τ.lc.otp := by intro τ; unfold cellLoadRule; dsimp only; (repeat' split) <;> (first | (simp only [runLoad_otp]; done) | with_reducible rfl | (simp_all; done))
@[simp] theorem cellLoadRule_otp_first (n : Nat) (s : State) : ∀ τ, ((cellLoadRule n s).first τ).1.lc.otp = τ.lc.otp := by simp [cellLoadRule]
theorem execSvcCellLoad_otp (c : Caller) (n : Nat) (data : Bytes) (s : State) : ∃ τ, execSvcCellLoad c n data s = .next τ ∧ τ.lc.otp = s.lc.otp := by refine ⟨_, rfl, ?_⟩; simp only [writeAccess_otp, cellLoadRule_otp_act, cellLoadRule_otp_first, implies_true, ite_otp, ite_self]
@[simp] theorem resetCell_otp (n : Nat) (s : State) : (resetCell n s).lc.otp = s.lc.otp := by simp only [resetCell, setCell_otp, cellDataInit_otp, ite_otp, ite_self]
@[simp] theorem cellResetRule_otp_act (n : Nat) (s : State) : ∀ τ, ((cellResetRule n s).act τ).lc.otp = τ.lc.otp := by intro τ; unfold cellResetRule; dsimp only; (repeat' split) <;> (first | (simp only [resetCell_otp]; done) | with_reducible rfl | (simp_all; done))
@[simp] theorem cellResetRule_otp_first (n : Nat) (s : State) : ∀ τ, ((cellResetRule n s).first τ).1.lc.otp = τ.lc.otp := by simp [cellResetRule]
theorem execSvcCellReset_otp (c : Caller) (n : Nat) (data : Bytes) (s : State) : ∃ τ, execSvcCellReset c n data s = .next τ ∧ τ.lc.otp = s.lc.otp := by refine ⟨_, rfl, ?_⟩; simp only [writeAccess_otp, cellResetRule_otp_act, cellResetRule_otp_first, implies_true, ite_otp, ite_self]
@[simp] theorem startCall_otp (e : Nat) (x : Entry) (n : Nat) (s : State) : (startCall e x n s).lc.otp = s.lc.otp := by simp only [startCall, memWrite_otp, retag_otp, setEntry_otp, setCell_otp, nextCell_otp]
theorem execServiceCall_otp (e : Nat) (s : State) : ∃ τ, execServiceCall e s = .next τ ∧ τ.lc.otp = s.lc.otp := by
  refine ⟨_, rfl, ?_⟩
  split
  · rfl
  · dsimp only
    (repeat' split) <;> first | rfl | exact finish_otp _ _ _ (fun _ => rfl) | simp
@[simp] theorem areaWrite_otp (a0 : List Nat) (a1 : Nat) (a2 : Bytes) (a3 : State) : (areaWrite a0 a1 a2 a3).lc.otp = a3.lc.otp := by
  induction a0 generalizing a1 a2 a3 with
  | nil => rfl
  | cons p r ih => rw [areaWrite]; split
                   · rw [ih]
                   · rw [ih, memWrite_otp]
@[simp] theorem switchOut_otp (n : Nat) (waiting : Bool) (s : State) : (switchOut n waiting s).lc.otp = s.lc.otp := by simp only [switchOut, setCell_otp]
@[simp] theorem svcReturn_otp (v : Nat) (s : State) : (svcReturn v s).lc.otp = s.lc.otp := by simp only [svcReturn, setCore_otp]
@[simp] theorem svcExit_otp (n : Nat) (s : State) : (svcExit n s).lc.otp = s.lc.otp := by unfold svcExit; dsimp only; (repeat' split) <;> (first | (simp only [setCore_otp, excCall_otp, setEntry_otp, dropSubjob_otp, endJob_otp, leaveCell_otp, cellAfter_otp]; done) | with_reducible rfl | (simp_all; done))
@[simp] theorem startSub_otp (n : Nat) (x : Entry) (d : Desc) (s : State) : (startSub n x d s).lc.otp = s.lc.otp := by simp only [startSub, assignDigest_otp, setEntry_otp, setCell_otp]
@[simp] theorem svcSubmit_otp (n : Nat) (s : State) : (svcSubmit n s).lc.otp = s.lc.otp := by unfold svcSubmit; dsimp only; (repeat' split) <;> (first | (simp only [svcReturn_otp, startSub_otp]; done) | with_reducible rfl | (simp_all; done))
@[simp] theorem svcWait_otp (n : Nat) (s : State) : (svcWait n s).lc.otp = s.lc.otp := by unfold svcWait; dsimp only; (repeat' split) <;> (first | (simp only [setCore_otp, setCell_otp, nextCell_otp, switchOut_otp, svcReturn_otp]; done) | with_reducible rfl | (simp_all; done))
theorem execSubjobComplete_otp (n : Nat) (s : State) : ∃ τ, execSubjobComplete n s = .next τ ∧ τ.lc.otp = s.lc.otp := by refine ⟨_, rfl, ?_⟩; dsimp only; (repeat' split) <;> (first | (simp only [setCell_otp, nextCell_otp]; done) | with_reducible rfl | (simp_all; done))
theorem execSvcQuantumExpiry_otp (s : State) : ∃ τ, execSvcQuantumExpiry s = .next τ ∧ τ.lc.otp = s.lc.otp := by refine ⟨_, rfl, ?_⟩; (repeat' split) <;> (first | (simp only [advanceTo_otp, nextCell_otp, switchOut_otp, setCore_otp]; done) | with_reducible rfl | (simp_all; done))
@[simp] theorem portOn_otp (p : Nat) (s : State) : (portOn p s).lc.otp = s.lc.otp := by simp only [portOn, setObj_otp, setPort_otp, ite_otp, ite_self]
@[simp] theorem portDrops_otp (p : Nat) (s : State) : (portDrops p s).lc.otp = s.lc.otp := by unfold portDrops; (repeat' split) <;> (first | (simp only [setPort_otp]; done) | with_reducible rfl | (simp_all; done))
@[simp] theorem portOff_otp (p : Nat) (s : State) : (portOff p s).lc.otp = s.lc.otp := by simp only [portOff, portDrops_otp, setObj_otp, setPort_otp]
@[simp] theorem portRule_otp_act (act : State → State) (h0 : ∀ τ, (act τ).lc.otp = τ.lc.otp) : ∀ τ, ((portRule act).act τ).lc.otp = τ.lc.otp := by intro τ; unfold portRule; dsimp only; (repeat' split) <;> (first | (simp only [implies_true, ite_otp, ite_self]; done) | with_reducible rfl | (simp_all; done))
@[simp] theorem portRule_otp_first (act : State → State) (h0 : ∀ τ, (act τ).lc.otp = τ.lc.otp) : ∀ τ, ((portRule act).first τ).1.lc.otp = τ.lc.otp := by simp [portRule]
theorem execSpEnableSet_otp (c : Caller) (p : Nat) (s : State) : ∃ τ, execSpEnableSet c p s = .next τ ∧ τ.lc.otp = s.lc.otp := by refine ⟨_, rfl, ?_⟩; simp only [writeAccess_otp, portRule_otp_act, portRule_otp_first, portOn_otp, implies_true, ite_otp, ite_self]
theorem execSpDisable_otp (c : Caller) (p : Nat) (s : State) : ∃ τ, execSpDisable c p s = .next τ ∧ τ.lc.otp = s.lc.otp := by refine ⟨_, rfl, ?_⟩; simp only [writeAccess_otp, portRule_otp_act, portRule_otp_first, portOff_otp, implies_true, ite_otp, ite_self]
theorem execPortUp_otp (p : Nat) (s : State) : ∃ τ, execPortUp p s = .next τ ∧ τ.lc.otp = s.lc.otp := by refine ⟨_, rfl, ?_⟩; simp only [setPort_otp, ite_otp, ite_self]
theorem execPortAlignLoss_otp (p : Nat) (unlocked : BitVec 8) (s : State) : ∃ τ, execPortAlignLoss p unlocked s = .next τ ∧ τ.lc.otp = s.lc.otp := by refine ⟨_, rfl, ?_⟩; simp only [portDrops_otp, bump_otp, setPort_otp, ite_otp, ite_self]
@[simp] theorem clearCounters_otp (c : Nat) (s : State) : (clearCounters c s).lc.otp = s.lc.otp := by unfold clearCounters; (repeat' split) <;> (first | (simp only [setObj_otp, implies_true, ite_otp, ite_self]; done) | with_reducible rfl | (simp_all; done))
@[simp] theorem bindCircuit_otp (c : Nat) (t : Nat) (s : State) : (bindCircuit c t s).lc.otp = s.lc.otp := by simp only [bindCircuit, bump_otp, setObj_otp, clearCounters_otp, setGraft_otp]
@[simp] theorem bindRule_otp_act (c : Nat) (t : Nat) (s : State) : ∀ τ, ((bindRule c t s).act τ).lc.otp = τ.lc.otp := by intro τ; unfold bindRule; dsimp only; (repeat' split) <;> (first | (simp only [bindCircuit_otp]; done) | with_reducible rfl | (simp_all; done))
@[simp] theorem bindRule_otp_first (c : Nat) (t : Nat) (s : State) : ∀ τ, ((bindRule c t s).first τ).1.lc.otp = τ.lc.otp := by simp [bindRule]
theorem execSpCBind_otp (by_ : Caller) (c : Nat) (t : Nat) (s : State) : ∃ τ, execSpCBind by_ c t s = .next τ ∧ τ.lc.otp = s.lc.otp := by refine ⟨_, rfl, ?_⟩; simp only [writeAccess_otp, bindRule_otp_act, bindRule_otp_first, implies_true, ite_otp, ite_self]
@[simp] theorem zeroiseCircuit_otp (c : Nat) (s : State) : (zeroiseCircuit c s).lc.otp = s.lc.otp := by simp only [zeroiseCircuit, eraseKeys_otp, abandonGraft_otp]
@[simp] theorem unbindCircuit_otp (c : Nat) (s : State) : (unbindCircuit c s).lc.otp = s.lc.otp := by simp only [unbindCircuit, clearCounters_otp, setObj_otp, zeroiseCircuit_otp, setGraft_otp, ite_otp, ite_self]
theorem execSpCUnbind_otp (by_ : Caller) (c : Nat) (s : State) : ∃ τ, execSpCUnbind by_ c s = .next τ ∧ τ.lc.otp = s.lc.otp := by refine ⟨_, rfl, ?_⟩; simp only [writeAccess_otp, portRule_otp_act, portRule_otp_first, unbindCircuit_otp, implies_true, ite_otp, ite_self]
@[simp] theorem transformRule_otp_act (c : Nat) (sub : Nat) (data : Bytes) (s : State) : ∀ τ, ((transformRule c sub data s).act τ).lc.otp = τ.lc.otp := by intro τ; unfold transformRule; dsimp only; (repeat' split) <;> (first | (simp only [plainRule_otp_act, zeroiseCircuit_otp]; done) | with_reducible rfl | (simp_all; done))
@[simp] theorem transformRule_otp_first (c : Nat) (sub : Nat) (data : Bytes) (s : State) : ∀ τ, ((transformRule c sub data s).first τ).1.lc.otp = τ.lc.otp := by intro τ; unfold transformRule; dsimp only; (repeat' split) <;> (first | (simp only [plainRule_otp_first]; done) | with_reducible rfl | (simp_all; done))
theorem execSpCConfigWrite_otp (by_ : Caller) (c : Nat) (sub : Nat) (data : Bytes) (s : State) : ∃ τ, execSpCConfigWrite by_ c sub data s = .next τ ∧ τ.lc.otp = s.lc.otp := by refine ⟨_, rfl, ?_⟩; simp only [writeAccess_otp, transformRule_otp_act, transformRule_otp_first, implies_true, ite_otp, ite_self]
theorem execSpCZeroise_otp (by_ : Caller) (c : Nat) (data : Bytes) (s : State) : ∃ τ, execSpCZeroise by_ c data s = .next τ ∧ τ.lc.otp = s.lc.otp := by refine ⟨_, rfl, ?_⟩; simp only [writeAccess_otp, portRule_otp_act, portRule_otp_first, zeroiseCircuit_otp, implies_true, ite_otp, ite_self]
theorem execArrivingPacketDrop_otp (p : Nat) (ch : Nat) (b : Bytes) (error : Bool) (s : State) : ∃ τ, execArrivingPacketDrop p ch b error s = .next τ ∧ τ.lc.otp = s.lc.otp := by refine ⟨_, rfl, ?_⟩; simp only [bump_otp, sendStatus_otp, ite_otp, ite_self]
@[simp] theorem arrivePkt_otp (op : Nat) (p : Nat) (ch : Nat) (b : Bytes) (accept : Nat → State → State) (s : State) (h4 : ∀ v0 τ, (accept v0 τ).lc.otp = τ.lc.otp) : (arrivePkt op p ch b accept s).lc.otp = s.lc.otp := by unfold arrivePkt; dsimp only; (repeat' split) <;> (first | (simp only [bump_otp, sendStatus_otp, stallDrop_otp]; done) | with_reducible rfl | (simp_all; done))
@[simp] theorem seqPkt_otp (c : Nat) (ch : Nat) (b : Bytes) (f : State → SeqOut × State) (s : State) (h3 : ∀ τ, (f τ).2.lc.otp = τ.lc.otp) : (seqPkt c ch b f s).lc.otp = s.lc.otp := by unfold seqPkt; dsimp only; (repeat' split) <;> (first | (simp only [sendStatus_otp, bump_otp, setCircuit_otp, updateFlow_otp]; done) | with_reducible rfl | (simp_all; done))
@[simp] theorem protectSeq_otp (c : Nat) (payload : Bytes) (s0 : State) : (protectSeq c payload s0).2.lc.otp = s0.lc.otp := by unfold protectSeq; dsimp only; (repeat' split) <;> (first | (simp only [txUnusable_otp, bump_otp, setCircuit_otp, trigger_otp]; done) | with_reducible rfl | (simp_all; done))
theorem execProtect_otp (p : Nat) (ch : Nat) (b : Bytes) (s : State) : ∃ τ, execProtect p ch b s = .next τ ∧ τ.lc.otp = s.lc.otp := by refine ⟨_, rfl, ?_⟩; simp only [arrivePkt_otp, seqPkt_otp, protectSeq_otp, implies_true]
@[simp] theorem validateFail_otp (c : Nat) (code : Nat) (detail : Nat) (ctr : ObjId) (s : State) : (validateFail c code detail ctr s).2.lc.otp = s.lc.otp := by simp only [validateFail, bump_otp]
@[simp] theorem underKey_otp (c : Nat) (k : LinkKey) (pn : Nat) (tagOk : Bool) (out : Bytes) (s : State) : (underKey c k pn tagOk out s).2.lc.otp = s.lc.otp := by unfold underKey; (repeat' split) <;> (first | (simp only [validateFail_otp]; done) | with_reducible rfl | (simp_all; done))
@[simp] theorem macsecValidate_otp (c : Nat) (f : Bytes) (s : State) : (macsecValidate c f s).2.lc.otp = s.lc.otp := by unfold macsecValidate; dsimp only; (repeat' split) <;> (first | (simp only [validateFail_otp, underKey_otp]; done) | with_reducible rfl | (simp_all; done))
@[simp] theorem blockValidate_otp (c : Nat) (f : Bytes) (s : State) : (blockValidate c f s).2.lc.otp = s.lc.otp := by unfold blockValidate; dsimp only; (repeat' split) <;> (first | (simp only [validateFail_otp, underKey_otp]; done) | with_reducible rfl | (simp_all; done))
theorem execValidate_otp (p : Nat) (ch : Nat) (b : Bytes) (s : State) : ∃ τ, execValidate p ch b s = .next τ ∧ τ.lc.otp = s.lc.otp := by
  exact ⟨_, rfl, arrivePkt_otp _ _ _ _ _ _ (fun c t => seqPkt_otp _ _ _ _ _ (fun u => by split <;> simp))⟩
@[simp] theorem validatePassed_otp (c : Nat) (h : Nat) (n : Nat) (s : State) : (validatePassed c h n s).lc.otp = s.lc.otp := by simp only [validatePassed, setCircuit_otp, promote_otp, ite_otp, ite_self]
@[simp] theorem finishPkt_otp (c : Nat) (id : Nat) (f : InFlightPkt → InFlightPkt) (s : State) : (finishPkt c id f s).lc.otp = s.lc.otp := by simp only [finishPkt, setCircuit_otp]
theorem execPipelineReinitDone_otp (n : Nat) (s : State) : ∃ τ, execPipelineReinitDone n s = .next τ ∧ τ.lc.otp = s.lc.otp := by refine ⟨_, rfl, ?_⟩; (repeat' split) <;> (first | (simp only [advanceTo_otp, setPipe_otp]; done) | with_reducible rfl | (simp_all; done))
theorem execRxHoldExpiry_otp (c : Nat) (s : State) : ∃ τ, execRxHoldExpiry c s = .next τ ∧ τ.lc.otp = s.lc.otp := by refine ⟨_, rfl, ?_⟩; simp only [settleSlots_otp, setCircuit_otp, advanceTo_otp, ite_otp, ite_self]
theorem execLinkKeyUnusable_otp (c : Nat) (s : State) : ∃ τ, execLinkKeyUnusable c s = .next τ ∧ τ.lc.otp = s.lc.otp := by refine ⟨_, rfl, ?_⟩; (repeat' split) <;> (first | (simp only [txUnusable_otp, advanceToExpiry_otp]; done) | with_reducible rfl | (simp_all; done))
@[simp] theorem releaseClass_otp (p : Nat) (k : Nat) (s : State) : (releaseClass p k s).lc.otp = s.lc.otp := by unfold releaseClass; (repeat' split) <;> (first | (simp only; done) | with_reducible rfl | (simp_all; done))
theorem execFlowControlWord_otp (p : Nat) (k : Nat) (xoff : Bool) (s : State) : ∃ τ, execFlowControlWord p k xoff s = .next τ ∧ τ.lc.otp = s.lc.otp := by refine ⟨_, rfl, ?_⟩; simp only [setPort_otp, releaseClass_otp, ite_otp, ite_self]
@[simp] theorem discardClass_otp (p : Nat) (k : Nat) (s : State) : (discardClass p k s).lc.otp = s.lc.otp := by unfold discardClass; (repeat' split) <;> (first | (simp only; done) | with_reducible rfl | (simp_all; done))
theorem execFcStallExpiry_otp (p : Nat) (k : Nat) (s : State) : ∃ τ, execFcStallExpiry p k s = .next τ ∧ τ.lc.otp = s.lc.otp := by refine ⟨_, rfl, ?_⟩; (repeat' split) <;> (first | (simp only [discardClass_otp, advanceTo_otp]; done) | with_reducible rfl | (simp_all; done))
@[simp] theorem failGraft_otp (c : Nat) (cause : Nat) (s : State) : (failGraft c cause s).lc.otp = s.lc.otp := by simp only [failGraft, bump_otp, setObj_otp, abandonGraft_otp, setGraft_otp]
@[simp] theorem addStep_otp (c : Nat) (x : Step_) (s : State) : (addStep c x s).lc.otp = s.lc.otp := by simp only [addStep, setGraft_otp, ite_otp, ite_self]
@[simp] theorem beginStage_otp (c : Nat) (g : GraftStage) (l : List Step_) (s : State) : (beginStage c g l s).lc.otp = s.lc.otp := by unfold beginStage; (repeat' split) <;> (first | (simp only [admitInternal_otp]; done) | with_reducible rfl | (simp_all; done))
@[simp] theorem sendMsg_otp (c : Nat) (b : Bytes) (pages : Nat) (s : State) : (sendMsg c b pages s).lc.otp = s.lc.otp := by simp only [sendMsg, draw_otp, setGraft_otp]
@[simp] theorem graftTimer_otp (t : Time) (s : State) : (graftTimer t s).lc.otp = s.lc.otp := by simp only [graftTimer, wakeCore_otp, advanceTo_otp]
@[simp] theorem startGraft_otp (c : Nat) (s : State) : (startGraft c s).lc.otp = s.lc.otp := by simp only [startGraft, setGraft_otp, failGraft_otp, draw_otp, beginStage_otp, ite_otp, ite_self]
@[simp] theorem tryStart_otp (c : Nat) (s : State) : (tryStart c s).lc.otp = s.lc.otp := by simp only [tryStart, startGraft_otp, wakeCore_otp, trigger_otp, ite_otp, ite_self]
theorem execGrCRekey_otp (by_ : Caller) (c : Nat) (data : Bytes) (s : State) : ∃ τ, execGrCRekey by_ c data s = .next τ ∧ τ.lc.otp = s.lc.otp := by refine ⟨_, rfl, ?_⟩; simp only [writeAccess_otp, portRule_otp_act, portRule_otp_first, trigger_otp, implies_true, ite_otp, ite_self]
theorem execGraftTriggerStart_otp (c : Nat) (s : State) : ∃ τ, execGraftTriggerStart c s = .next τ ∧ τ.lc.otp = s.lc.otp := by refine ⟨_, rfl, ?_⟩; simp only [tryStart_otp]
theorem execGraftPeriodExpiry_otp (c : Nat) (s : State) : ∃ τ, execGraftPeriodExpiry c s = .next τ ∧ τ.lc.otp = s.lc.otp := by refine ⟨_, rfl, ?_⟩; simp only [graftTimer_otp, trigger_otp, setGraft_otp, ite_otp, ite_self]
theorem execGraftBufferFreed_otp (c : Nat) (s : State) : ∃ τ, execGraftBufferFreed c s = .next τ ∧ τ.lc.otp = s.lc.otp := by refine ⟨_, rfl, ?_⟩; simp only [tryStart_otp, setGraft_otp, ite_otp, ite_self]
@[simp] theorem clearAsm_otp (c : Nat) (s : State) : (clearAsm c s).lc.otp = s.lc.otp := by simp only [clearAsm, setGraft_otp]
@[simp] theorem dropAsm_otp (c : Nat) (s : State) : (dropAsm c s).lc.otp = s.lc.otp := by simp only [dropAsm, bump_otp, clearAsm_otp]
@[simp] theorem completeMsg_otp (c : Nat) (s : State) : (completeMsg c s).lc.otp = s.lc.otp := by unfold completeMsg; dsimp only; (repeat' split) <;> (first | (simp only [clearAsm_otp, bump_otp, setGraft_otp]; done) | with_reducible rfl | (simp_all; done))
@[simp] theorem holdFragment_otp (c : Nat) (idx : Nat) (count : Nat) (off : Nat) (run : Bytes) (s : State) : (holdFragment c idx count off run s).lc.otp = s.lc.otp := by unfold holdFragment; dsimp only; (repeat' split) <;> (first | (simp only [dropAsm_otp, setGraft_otp, completeMsg_otp]; done) | with_reducible rfl | (simp_all; done))
@[simp] theorem fragmentIn_otp (c : Nat) (f : Bytes) (s : State) : (fragmentIn c f s).lc.otp = s.lc.otp := by simp only [fragmentIn, bump_otp, dropAsm_otp, holdFragment_otp, setGraft_otp, ite_otp, ite_self]
theorem execGraftIn_otp (p : Nat) (ch : Nat) (b : Bytes) (s : State) : ∃ τ, execGraftIn p ch b s = .next τ ∧ τ.lc.otp = s.lc.otp := by refine ⟨_, rfl, ?_⟩; simp only [arrivePkt_otp, fragmentIn_otp, wakeCore_otp, implies_true]
theorem execFragmentAssemblyTimeout_otp (c : Nat) (s : State) : ∃ τ, execFragmentAssemblyTimeout c s = .next τ ∧ τ.lc.otp = s.lc.otp := by refine ⟨_, rfl, ?_⟩; (repeat' split) <;> (first | (simp only [dropAsm_otp, graftTimer_otp]; done) | with_reducible rfl | (simp_all; done))
@[simp] theorem dropStale_otp (c : Nat) (type : Nat) (s : State) : (dropStale c type s).lc.otp = s.lc.otp := by unfold dropStale; (repeat' split) <;> (first | (simp only [setGraft_otp]; done) | with_reducible rfl | (simp_all; done))
@[simp] theorem hashTurn_otp (u : Nat) (cyc : Nat) (s : State) : (hashTurn u cyc s).lc.otp = s.lc.otp := by unfold hashTurn; (repeat' split) <;> (first | (simp only [advanceTo_otp, setDigUnit_otp]; done) | with_reducible rfl | (simp_all; done))
@[simp] theorem hashLost_otp (c : Nat) (s : State) : (hashLost c s).lc.otp = s.lc.otp := by simp only [hashLost, failGraft_otp, ite_otp, ite_self]
@[simp] theorem respond_otp (c : Nat) (m : Bytes) (s : State) : (respond c m s).lc.otp = s.lc.otp := by simp only [respond, abandonGraft_otp, setGraft_otp, beginStage_otp]
@[simp] theorem collide_otp (c : Nat) (m : Bytes) (s : State) : (collide c m s).lc.otp = s.lc.otp := by simp only [collide, bump_otp, respond_otp, ite_otp, ite_self]
theorem execGraftG1Received_otp (c : Nat) (s : State) : ∃ τ, execGraftG1Received c s = .next τ ∧ τ.lc.otp = s.lc.otp := by refine ⟨_, rfl, ?_⟩; (repeat' split) <;> (first | (simp only [dropStale_otp, setGraft_otp, collide_otp, respond_otp]; done) | with_reducible rfl | (simp_all; done))
@[simp] theorem putKey_otp (c : Nat) (usage : Nat) (key : Bytes) (s : State) : (putKey c usage key s).2.lc.otp = s.lc.otp := by simp only [putKey, putSlot_otp, tookHandle_otp]
@[simp] theorem installKeys_otp (c : Nat) (xid : Nat) (txAn : Nat) (rxAn : Nat) (txKey : Bytes) (txSalt : Bytes) (rxKey : Bytes) (rxSalt : Bytes) (s : State) : (installKeys c xid txAn rxAn txKey txSalt rxKey rxSalt s).lc.otp = s.lc.otp := by simp only [installKeys, putKey_otp, settleSlots_otp, setCircuit_otp]
@[simp] theorem keySchedule_otp (c : Nat) (th : Bytes) (s : State) : (keySchedule c th s).lc.otp = s.lc.otp := by simp only [keySchedule, freeRoles_otp, installKeys_otp, ite_otp, ite_self]
@[simp] theorem takeSlots_otp (c : Nat) (s : State) : (takeSlots c s).lc.otp = s.lc.otp := by simp only [takeSlots, setGraft_otp]
@[simp] theorem badMessage_otp (c : Nat) (s : State) : (badMessage c s).lc.otp = s.lc.otp := by simp only [badMessage, setGraft_otp, bump_otp]
@[simp] theorem stageOver_otp (c : Nat) (f : Graft → Graft) (s : State) : (stageOver c f s).lc.otp = s.lc.otp := by simp only [stageOver, setGraft_otp]
@[simp] theorem afterKeygen_otp (c : Nat) (s : State) : (afterKeygen c s).lc.otp = s.lc.otp := by simp only [afterKeygen, failGraft_otp, sendMsg_otp, stageOver_otp, ite_otp, ite_self]
@[simp] theorem afterVerifyG2_otp (c : Nat) (s : State) : (afterVerifyG2 c s).lc.otp = s.lc.otp := by simp only [afterVerifyG2, beginStage_otp, setGraft_otp]
@[simp] theorem afterSignG3_otp (c : Nat) (s : State) : (afterSignG3 c s).lc.otp = s.lc.otp := by simp only [afterSignG3, failGraft_otp, sendMsg_otp, stageOver_otp, ite_otp, ite_self]
@[simp] theorem afterSignG2_otp (c : Nat) (s : State) : (afterSignG2 c s).lc.otp = s.lc.otp := by simp only [afterSignG2, failGraft_otp, sendMsg_otp, stageOver_otp, ite_otp, ite_self]
theorem execGraftOutFragment_otp (c : Nat) (s : State) : ∃ τ, execGraftOutFragment c s = .next τ ∧ τ.lc.otp = s.lc.otp := by refine ⟨_, rfl, ?_⟩; dsimp only; (repeat' split) <;> (first | (simp only [setGraft_otp, sendPkt_otp]; done) | with_reducible rfl | (simp_all; done))
theorem execGraftRetryTimeout_otp (c : Nat) (s : State) : ∃ τ, execGraftRetryTimeout c s = .next τ ∧ τ.lc.otp = s.lc.otp := by refine ⟨_, rfl, ?_⟩; (repeat' split) <;> (first | (simp only [graftTimer_otp, bump_otp, setGraft_otp, failGraft_otp, ite_otp, ite_self]; done) | with_reducible rfl | (simp_all; done))
theorem execGraftResponderTimeout_otp (c : Nat) (s : State) : ∃ τ, execGraftResponderTimeout c s = .next τ ∧ τ.lc.otp = s.lc.otp := by refine ⟨_, rfl, ?_⟩; (repeat' split) <;> (first | (simp only [graftTimer_otp, failGraft_otp, startGraft_otp, ite_otp, ite_self]; done) | with_reducible rfl | (simp_all; done))
theorem execGraftArmDelayExpiry_otp (c : Nat) (s : State) : ∃ τ, execGraftArmDelayExpiry c s = .next τ ∧ τ.lc.otp = s.lc.otp := by refine ⟨_, rfl, ?_⟩; (repeat' split) <;> (first | (simp only [armGraft_otp, graftTimer_otp]; done) | with_reducible rfl | (simp_all; done))
theorem execGraftSwitchDelayExpiry_otp (c : Nat) (s : State) : ∃ τ, execGraftSwitchDelayExpiry c s = .next τ ∧ τ.lc.otp = s.lc.otp := by refine ⟨_, rfl, ?_⟩; (repeat' split) <;> (first | (simp only [switchEvent_otp, graftTimer_otp]; done) | with_reducible rfl | (simp_all; done))
theorem execGraftRetryPauseExpiry_otp (c : Nat) (s : State) : ∃ τ, execGraftRetryPauseExpiry c s = .next τ ∧ τ.lc.otp = s.lc.otp := by refine ⟨_, rfl, ?_⟩; (repeat' split) <;> (first | (simp only [graftTimer_otp, setGraft_otp, tryStart_otp, trigger_otp, ite_otp, ite_self]; done) | with_reducible rfl | (simp_all; done))
@[simp] theorem dispatchJob_otp (cls : Nat) (s : State) : (dispatchJob cls s).lc.otp = s.lc.otp := by unfold dispatchJob; (repeat' split) <;> (first | (simp only [setSlice_otp, setEntry_otp, bump_otp, enterCommand_otp]; done) | with_reducible rfl | (simp_all; done))
theorem execDispatch_otp (cls : Nat) (s : State) : ∃ τ, execDispatch cls s = .next τ ∧ τ.lc.otp = s.lc.otp := by refine ⟨_, rfl, ?_⟩; simp only [dispatchJob_otp, ite_otp, ite_self]
@[simp] theorem parkJob_otp (e : Nat) (n : Nat) (x : Entry) (s : State) : (parkJob e n x s).lc.otp = s.lc.otp := by simp only [parkJob, bump_otp, setEntry_otp, freeSlice_otp, writePages_otp, usedFree_otp]
@[simp] theorem segRun_otp (n : Nat) (x : Entry) (s : State) : (segRun n x s).2.lc.otp = s.lc.otp := by unfold segRun; (repeat' split) <;> (first | (simp only [runSlhSign_otp, runHtsKeygen_otp, runCodeKeygen_otp, runRsaKeygen_otp]; done) | with_reducible rfl | (simp_all; done))
@[simp] theorem segRun_otp_rel (n : Nat) (x : Entry) (s : State) : ∀ ρ, ((segRun n x s).1.release ρ).lc.otp = ρ.lc.otp := by intro ρ; unfold segRun; (repeat' split) <;> (first | (simp only [runSlhSign_otp_rel, runHtsKeygen_otp_rel, runCodeKeygen_otp_rel, runRsaKeygen_otp_rel]; done) | with_reducible rfl | (simp_all; done))
@[simp] theorem holdSlot_otp (e : Nat) (x : Entry) (units : Option Nat) (s : State) : (holdSlot e x units s).lc.otp = s.lc.otp := by unfold holdSlot; (repeat' split) <;> (first | (simp only [addWait_otp, setEntry_otp, putSlot_otp, tookHandle_otp]; done) | with_reducible rfl | (simp_all; done))
@[simp] theorem holdLks_otp (e : Nat) (extents : Option Nat) (s : State) : (holdLks e extents s).lc.otp = s.lc.otp := by unfold holdLks; (repeat' split) <;> (first | (simp only [setEntry_otp, putLks_otp]; done) | with_reducible rfl | (simp_all; done))
@[simp] theorem segCheck_otp (e : Nat) (n : Nat) (x : Entry) (s : State) : (segCheck e n x s).lc.otp = s.lc.otp := by
  unfold segCheck
  split
  · exact setEntry_otp _ _ _
  · dsimp only
    split
    · exact finish_otp _ _ _ (fun _ => rfl)
    · rw [holdLks_otp, holdSlot_otp, setSlice_otp, checkDraws_otp]
@[simp] theorem endSegment_otp (e : Nat) (n : Nat) (x : Entry) (s : State) : (endSegment e n x s).lc.otp = s.lc.otp := by simp only [endSegment, settleOwed_otp, parkJob_otp, bump_otp, setEntry_otp, ite_otp, ite_self]
theorem execSegmentYield_otp (e : Nat) (s : State) : ∃ τ, execSegmentYield e s = .next τ ∧ τ.lc.otp = s.lc.otp := by refine ⟨_, rfl, ?_⟩; dsimp only; (repeat' split) <;> (first | (simp only [segCheck_otp, endSegment_otp]; done) | with_reducible rfl | (simp_all; done))
@[simp] theorem firstPass_otp (n : Nat) (k : Nat) (s : State) : (firstPass n k s).lc.otp = s.lc.otp := by simp only [firstPass, draw_otp, setSlice_otp, ite_otp, ite_self]
@[simp] theorem scrubJob_otp (e : Nat) (n : Nat) (x : Entry) (s : State) : (scrubJob e n x s).lc.otp = s.lc.otp := by simp only [scrubJob, tagPages_otp, firstPass_otp, admitInternal_otp, setEntry_otp]
theorem execAbortScrub_otp (e : Nat) (s : State) : ∃ τ, execAbortScrub e s = .next τ ∧ τ.lc.otp = s.lc.otp := by refine ⟨_, rfl, ?_⟩; (repeat' split) <;> (first | (simp only [freeSlice_otp, scrubJob_otp]; done) | with_reducible rfl | (simp_all; done))
theorem execScrubTakeover_otp (n : Nat) (s : State) : ∃ τ, execScrubTakeover n s = .next τ ∧ τ.lc.otp = s.lc.otp := by refine ⟨_, rfl, ?_⟩; dsimp only; (repeat' split) <;> (first | (simp only [idle_otp, setSlice_otp, implies_true, ite_otp, ite_self]; done) | with_reducible rfl | (simp_all; done))
theorem execSliceReinitComplete_otp (n : Nat) (s : State) : ∃ τ, execSliceReinitComplete n s = .next τ ∧ τ.lc.otp = s.lc.otp := by refine ⟨_, rfl, ?_⟩; dsimp only; (repeat' split) <;> (first | (simp only [advanceTo_otp, setSlice_otp, idle_otp, implies_true, ite_otp, ite_self]; done) | with_reducible rfl | (simp_all; done))
theorem execSliceWdogBite_otp (e : Nat) (s : State) : ∃ τ, execSliceWdogBite e s = .next τ ∧ τ.lc.otp = s.lc.otp := by refine ⟨_, rfl, ?_⟩; dsimp only; (repeat' split) <;> (first | (simp only [usedFree_otp, advanceTo_otp, bump_otp, setEntry_otp, setSlice_otp, fenceSlice_otp, stopJob_otp, reinitSlice_otp]; done) | with_reducible rfl | (simp_all; done))
theorem execUnitWdogBite_otp (u : Nat) (s : State) : ∃ τ, execUnitWdogBite u s = .next τ ∧ τ.lc.otp = s.lc.otp := by refine ⟨_, rfl, ?_⟩; dsimp only; (repeat' split) <;> (first | (simp only [advanceTo_otp, bump_otp, stopJob_otp, fenceDigest_otp, setDigUnit_otp]; done) | with_reducible rfl | (simp_all; done))
theorem execBenchWdogBite_otp (b : Nat) (s : State) : ∃ τ, execBenchWdogBite b s = .next τ ∧ τ.lc.otp = s.lc.otp := by refine ⟨_, rfl, ?_⟩; dsimp only; (repeat' split) <;> (first | (simp only [setBench_otp, setObj_otp, bump_otp, stopJob_otp, reinitSlice_otp, fenceRequester_otp]; done) | with_reducible rfl | (simp_all; done))
theorem execArbModeApply_otp (b : Nat) (s : State) : ∃ τ, execArbModeApply b s = .next τ ∧ τ.lc.otp = s.lc.otp := by refine ⟨_, rfl, ?_⟩; simp only [setBench_otp, ite_otp, ite_self]
@[simp] theorem forgetRefusals_otp (t : Nat) (s : State) : (forgetRefusals t s).lc.otp = s.lc.otp := by simp only [forgetRefusals]
@[simp] theorem createTenant_otp (t : Nat) (s : State) : (createTenant t s).lc.otp = s.lc.otp := by unfold createTenant; (repeat' split) <;> (first | (simp only [setObj_otp, setPair_otp]; done) | with_reducible rfl | (simp_all; done))
@[simp] theorem createRule_otp_act (t : Nat) (s : State) : ∀ τ, ((createRule t s).act τ).lc.otp = τ.lc.otp := by intro τ; unfold createRule; dsimp only; (repeat' split) <;> (first | (simp only [createTenant_otp]; done) | with_reducible rfl | (simp_all; done))
@[simp] theorem createRule_otp_first (t : Nat) (s : State) : ∀ τ, ((createRule t s).first τ).1.lc.otp = τ.lc.otp := by simp [createRule]
theorem execTenantCreate_otp (c : Caller) (t : Nat) (data : Bytes) (s : State) : ∃ τ, execTenantCreate c t data s = .next τ ∧ τ.lc.otp = s.lc.otp := by refine ⟨_, rfl, ?_⟩; simp only [writeAccess_otp, createRule_otp_act, createRule_otp_first, implies_true, ite_otp, ite_self]
@[simp] theorem flushJob_otp (e : Nat) (s : State) : (flushJob e s).lc.otp = s.lc.otp := by unfold flushJob; (repeat' split) <;> (first | (simp only [idle_otp, completeJob_otp, setEntry_otp, implies_true, ite_otp, ite_self]; done) | with_reducible rfl | (simp_all; done))
@[simp] theorem endPairJobs_otp (t : Nat) (s : State) : (endPairJobs t s).lc.otp = s.lc.otp := by unfold endPairJobs; (repeat' split) <;> (first | (simp only; done) | with_reducible rfl | (simp_all; done))
@[simp] theorem unassignCells_otp (t : Nat) (s : State) : (unassignCells t s).lc.otp = s.lc.otp := by unfold unassignCells; (repeat' split) <;> (first | (simp only; done) | with_reducible rfl | (simp_all; done))
@[simp] theorem unbindAll_otp (t : Nat) (s : State) : (unbindAll t s).lc.otp = s.lc.otp := by unfold unbindAll; (repeat' split) <;> (first | (simp only; done) | with_reducible rfl | (simp_all; done))
@[simp] theorem freeColour_otp (colour : Nat) (s : State) : (freeColour colour s).lc.otp = s.lc.otp := by unfold freeColour; (repeat' split) <;> (first | (simp only [wipeFreeLks_otp]; done) | with_reducible rfl | (simp_all; done))
@[simp] theorem orphanMeas_otp (colour : Nat) (s : State) : (orphanMeas colour s).lc.otp = s.lc.otp := by
  unfold orphanMeas
  exact foldl_otp _ (fun t i => by split <;> simp) _ _
@[simp] theorem freeGranules_otp (colour : Nat) (s : State) : (freeGranules colour s).lc.otp = s.lc.otp := by simp only [freeGranules]
@[simp] theorem takeHalf_otp (s : State) : (takeHalf s).lc.otp = s.lc.otp := by unfold takeHalf; (repeat' split) <;> (first | (simp only; done) | with_reducible rfl | (simp_all; done))
@[simp] theorem archiveDrop_otp (colour : Nat) (s0 : State) : (archiveDrop colour s0).lc.otp = s0.lc.otp := by simp only [archiveDrop, takeHalf_otp, compactArchive_otp, writeArch_otp, ite_otp, ite_self]
@[simp] theorem clearRecord_otp (t : Nat) (s : State) : (clearRecord t s).lc.otp = s.lc.otp := by unfold clearRecord; (repeat' split) <;> (first | (simp only [setPair_otp, forgetRefusals_otp]; done) | with_reducible rfl | (simp_all; done))
@[simp] theorem deleteTenant_otp (t : Nat) (s : State) : (deleteTenant t s).lc.otp = s.lc.otp := by simp only [deleteTenant, endPairJobs_otp, stopPair_otp, setObj_otp, freeColour_otp, unbindAll_otp, unassignCells_otp, clearRecord_otp, archiveDrop_otp, freeGranules_otp, orphanMeas_otp]
@[simp] theorem deleteRule_otp_act (t : Nat) (s : State) : ∀ τ, ((deleteRule t s).act τ).lc.otp = τ.lc.otp := by intro τ; unfold deleteRule; dsimp only; (repeat' split) <;> (first | (simp only [deleteTenant_otp]; done) | with_reducible rfl | (simp_all; done))
@[simp] theorem deleteRule_otp_first (t : Nat) (s : State) : ∀ τ, ((deleteRule t s).first τ).1.lc.otp = τ.lc.otp := by simp [deleteRule]
theorem execTenantDelete_otp (c : Caller) (t : Nat) (data : Bytes) (s : State) : ∃ τ, execTenantDelete c t data s = .next τ ∧ τ.lc.otp = s.lc.otp := by refine ⟨_, rfl, ?_⟩; simp only [writeAccess_otp, deleteRule_otp_act, deleteRule_otp_first, implies_true, ite_otp, ite_self]
@[simp] theorem fenceRule_otp_act (t : Nat) (act : State → State) (s : State) (h1 : ∀ τ, (act τ).lc.otp = τ.lc.otp) : ∀ τ, ((fenceRule t act s).act τ).lc.otp = τ.lc.otp := by intro τ; unfold fenceRule; dsimp only; (repeat' split) <;> (first | (simp only [implies_true, ite_otp, ite_self]; done) | with_reducible rfl | (simp_all; done))
@[simp] theorem fenceRule_otp_first (t : Nat) (act : State → State) (s : State) (h1 : ∀ τ, (act τ).lc.otp = τ.lc.otp) : ∀ τ, ((fenceRule t act s).first τ).1.lc.otp = τ.lc.otp := by simp [fenceRule]
@[simp] theorem operatorFence_otp (t : Nat) (s : State) : (operatorFence t s).lc.otp = s.lc.otp := by simp only [operatorFence, setObj_otp, fenceTenant_otp, ite_otp, ite_self]
theorem execTenantFenceSet_otp (c : Caller) (t : Nat) (s : State) : ∃ τ, execTenantFenceSet c t s = .next τ ∧ τ.lc.otp = s.lc.otp := by refine ⟨_, rfl, ?_⟩; simp only [writeAccess_otp, fenceRule_otp_act, fenceRule_otp_first, operatorFence_otp, implies_true, ite_otp, ite_self]
@[simp] theorem unfencePair_otp (t : Nat) (s : State) : (unfencePair t s).lc.otp = s.lc.otp := by simp only [unfencePair, setPair_otp, ite_otp, ite_self]
@[simp] theorem unfenceTenant_otp (t : Nat) (s : State) : (unfenceTenant t s).lc.otp = s.lc.otp := by simp only [unfenceTenant, setObj_otp, forgetRefusals_otp, unfencePair_otp, ite_otp, ite_self]
theorem execTenantUnfence_otp (c : Caller) (t : Nat) (s : State) : ∃ τ, execTenantUnfence c t s = .next τ ∧ τ.lc.otp = s.lc.otp := by refine ⟨_, rfl, ?_⟩; simp only [writeAccess_otp, fenceRule_otp_act, fenceRule_otp_first, unfenceTenant_otp, implies_true, ite_otp, ite_self]
@[simp] theorem tenantRule_otp_act (t : Nat) (id : ObjId) (data : Bytes) (s : State) : ∀ τ, ((tenantRule t id data s).act τ).lc.otp = τ.lc.otp := by intro τ; unfold tenantRule; dsimp only; (repeat' split) <;> (first | (simp only [plainRule_otp_act]; done) | with_reducible rfl | (simp_all; done))
@[simp] theorem tenantRule_otp_first (t : Nat) (id : ObjId) (data : Bytes) (s : State) : ∀ τ, ((tenantRule t id data s).first τ).1.lc.otp = τ.lc.otp := by intro τ; unfold tenantRule; dsimp only; (repeat' split) <;> (first | (simp only [plainRule_otp_first]; done) | with_reducible rfl | (simp_all; done))
theorem execTenantQuotaWrite_otp (c : Caller) (t : Nat) (sub : Nat) (data : Bytes) (s : State) : ∃ τ, execTenantQuotaWrite c t sub data s = .next τ ∧ τ.lc.otp = s.lc.otp := by refine ⟨_, rfl, ?_⟩; simp only [writeAccess_otp, tenantRule_otp_act, tenantRule_otp_first, implies_true, ite_otp, ite_self]
@[simp] theorem applyRules_otp (cls : Nat) (s : State) : (applyRules cls s).lc.otp = s.lc.otp := by simp only [applyRules, setObj_otp]
@[simp] theorem ruleWrite_otp_act (cls : Nat) (e : Nat) (data : Bytes) (s : State) : ∀ τ, ((ruleWrite cls e data s).act τ).lc.otp = τ.lc.otp := by intro τ; unfold ruleWrite; dsimp only; (repeat' split) <;> (first | (simp only; done) | with_reducible rfl | (simp_all; done))
@[simp] theorem ruleWrite_otp_first (cls : Nat) (e : Nat) (data : Bytes) (s : State) : ∀ τ, ((ruleWrite cls e data s).first τ).1.lc.otp = τ.lc.otp := by simp [ruleWrite]
@[simp] theorem askCommit_otp (cls : Nat) (s : State) : (askCommit cls s).lc.otp = s.lc.otp := by simp only [askCommit, setObj_otp, eachBench_otp]
@[simp] theorem commitRule_otp_act (data : Bytes) (s : State) : ∀ τ, ((commitRule data s).act τ).lc.otp = τ.lc.otp := by intro τ; unfold commitRule; dsimp only; (repeat' split) <;> (first | (simp only [portRule_otp_act, askCommit_otp, implies_true]; done) | with_reducible rfl | (simp_all; done))
@[simp] theorem commitRule_otp_first (data : Bytes) (s : State) : ∀ τ, ((commitRule data s).first τ).1.lc.otp = τ.lc.otp := by intro τ; unfold commitRule; dsimp only; (repeat' split) <;> (first | (simp only [portRule_otp_first, askCommit_otp, implies_true]; done) | with_reducible rfl | (simp_all; done))
theorem execIsoRuleCommit_otp (c : Caller) (data : Bytes) (s : State) : ∃ τ, execIsoRuleCommit c data s = .next τ ∧ τ.lc.otp = s.lc.otp := by refine ⟨_, rfl, ?_⟩; simp only [writeAccess_otp, commitRule_otp_act, commitRule_otp_first, implies_true]
theorem execRuleChangeApply_otp (s : State) : ∃ τ, execRuleChangeApply s = .next τ ∧ τ.lc.otp = s.lc.otp := by refine ⟨_, rfl, ?_⟩; (repeat' split) <;> (first | (simp only [eachBench_otp, applyRules_otp]; done) | with_reducible rfl | (simp_all; done))
theorem execIsoTagQuery_otp (c : Caller) (data : Bytes) (s : State) : ∃ τ, execIsoTagQuery c data s = .next τ ∧ τ.lc.otp = s.lc.otp := by refine ⟨_, rfl, ?_⟩; simp only [writeAccess_otp, portRule_otp_act, portRule_otp_first, setObj_otp, implies_true]
@[simp] theorem loseVolatile_otp (counts : Bool) (s : State) : (loseVolatile counts s).lc.otp = s.lc.otp := by unfold loseVolatile; (repeat' split) <;> (first | (simp only [request_otp, implies_true, ite_otp, ite_self]; done) | with_reducible rfl | (simp_all; done))
@[simp] theorem resetDevice_otp (cause : Nat) (bootSel : Nat) (s : State) : (resetDevice cause bootSel s).lc.otp = s.lc.otp := by simp only [resetDevice, loseVolatile_otp, stopSigns_otp]
@[simp] theorem scheduleReset_otp (cause : Nat) (t : Time) (s : State) : (scheduleReset cause t s).lc.otp = s.lc.otp := by simp only [scheduleReset]
@[simp] theorem aonStops_otp (s : State) : (aonStops s).lc.otp = s.lc.otp := by simp only [aonStops, eraseBbram_otp]
@[simp] theorem logFlag_otp (n : Nat) (flags : Nat) (s : State) : (logFlag n flags s).lc.otp = s.lc.otp := by simp only [logFlag, logTamper_otp, ite_otp, ite_self]
theorem execInputStuck_otp (n : Nat) (s : State) : ∃ τ, execInputStuck n s = .next τ ∧ τ.lc.otp = s.lc.otp := by refine ⟨_, rfl, ?_⟩; simp only [advanceTo_otp, logFlag_otp, setSource_otp, ite_otp, ite_self]
theorem execStuckClear_otp (n : Nat) (s : State) : ∃ τ, execStuckClear n s = .next τ ∧ τ.lc.otp = s.lc.otp := by refine ⟨_, rfl, ?_⟩; simp only [advanceTo_otp, setSource_otp, ite_otp, ite_self]
theorem execChatterClear_otp (n : Nat) (s : State) : ∃ τ, execChatterClear n s = .next τ ∧ τ.lc.otp = s.lc.otp := by refine ⟨_, rfl, ?_⟩; simp only [advanceTo_otp, setSource_otp, ite_otp, ite_self]
theorem execHoldExpiry_otp (s : State) : ∃ τ, execHoldExpiry s = .next τ ∧ τ.lc.otp = s.lc.otp := by refine ⟨_, rfl, ?_⟩; (repeat' split) <;> (first | (simp only [advanceTo_otp]; done) | with_reducible rfl | (simp_all; done))
@[simp] theorem drivePin_otp (before : Bool) (s : State) : (drivePin before s).lc.otp = s.lc.otp := by simp only [drivePin, alarmPin_otp, ite_otp, ite_self]
theorem execAlarmPinPulseEnd_otp (s : State) : ∃ τ, execAlarmPinPulseEnd s = .next τ ∧ τ.lc.otp = s.lc.otp := by refine ⟨_, rfl, ?_⟩; (repeat' split) <;> (first | (simp only [advanceTo_otp, drivePin_otp]; done) | with_reducible rfl | (simp_all; done))
theorem execPowerLossDetect_otp (core : Nat) (sram : Nat) (io18 : Nat) (vbat : Nat) (s : State) : ∃ τ, execPowerLossDetect core sram io18 vbat s = .next τ ∧ τ.lc.otp = s.lc.otp := by refine ⟨_, rfl, ?_⟩; simp only [loseVolatile_otp, stopSigns_otp, aonStops_otp, ite_otp, ite_self]
theorem execAonDomainStop_otp (s : State) : ∃ τ, execAonDomainStop s = .next τ ∧ τ.lc.otp = s.lc.otp := by refine ⟨_, rfl, ?_⟩; simp only [aonStops_otp, ite_otp, ite_self]
@[simp] theorem cfgRule_otp_act (n : Nat) (data : Bytes) (s : State) : ∀ τ, ((cfgRule n data s).act τ).lc.otp = τ.lc.otp := by intro τ; unfold cfgRule; dsimp only; (repeat' split) <;> (first | (simp only [plainRule_otp_act]; done) | with_reducible rfl | (simp_all; done))
@[simp] theorem cfgRule_otp_first (n : Nat) (data : Bytes) (s : State) : ∀ τ, ((cfgRule n data s).first τ).1.lc.otp = τ.lc.otp := by intro τ; unfold cfgRule; dsimp only; (repeat' split) <;> (first | (simp only [plainRule_otp_first]; done) | with_reducible rfl | (simp_all; done))
theorem execTamperCfgWrite_otp (c : Caller) (src : Nat) (data : Bytes) (s : State) : ∃ τ, execTamperCfgWrite c src data s = .next τ ∧ τ.lc.otp = s.lc.otp := by refine ⟨_, rfl, ?_⟩; simp only [writeAccess_otp, cfgRule_otp_act, cfgRule_otp_first, implies_true, ite_otp, ite_self]
@[simp] theorem cmdRule_otp_act (act : State → State) (h0 : ∀ τ, (act τ).lc.otp = τ.lc.otp) : ∀ τ, ((cmdRule act).act τ).lc.otp = τ.lc.otp := by intro τ; unfold cmdRule; dsimp only; (repeat' split) <;> (first | (simp only [implies_true, ite_otp, ite_self]; done) | with_reducible rfl | (simp_all; done))
@[simp] theorem cmdRule_otp_first (act : State → State) (h0 : ∀ τ, (act τ).lc.otp = τ.lc.otp) : ∀ τ, ((cmdRule act).first τ).1.lc.otp = τ.lc.otp := by simp [cmdRule]
@[simp] theorem lockObjs_otp (l : List ObjId) (s : State) : (lockObjs l s).lc.otp = s.lc.otp := by simp only [lockObjs]
theorem execTmpLock_otp (c : Caller) (data : Bytes) (s : State) : ∃ τ, execTmpLock c data s = .next τ ∧ τ.lc.otp = s.lc.otp := by refine ⟨_, rfl, ?_⟩; simp only [writeAccess_otp, cmdRule_otp_act, cmdRule_otp_first, lockObjs_otp, implies_true]
@[simp] theorem activateIfDue_otp (s : State) : (activateIfDue s).lc.otp = s.lc.otp := by simp only [activateIfDue, scheduleReset_otp, ite_otp, ite_self]
@[simp] theorem releaseHeld_otp (s : State) : (releaseHeld s).lc.otp = s.lc.otp := by simp only [releaseHeld, setObj_otp, noticed_otp, drivePin_otp, activateIfDue_otp, renewPolls_otp, ite_otp, ite_self]
@[simp] theorem releaseRule_otp_act (data : Bytes) (s : State) : ∀ τ, ((releaseRule data s).act τ).lc.otp = τ.lc.otp := by intro τ; unfold releaseRule; dsimp only; (repeat' split) <;> (first | (simp only [releaseHeld_otp]; done) | with_reducible rfl | (simp_all; done))
@[simp] theorem releaseRule_otp_first (data : Bytes) (s : State) : ∀ τ, ((releaseRule data s).first τ).1.lc.otp = τ.lc.otp := by simp [releaseRule]
theorem execTmpRelease_otp (c : Caller) (data : Bytes) (s : State) : ∃ τ, execTmpRelease c data s = .next τ ∧ τ.lc.otp = s.lc.otp := by refine ⟨_, rfl, ?_⟩; simp only [writeAccess_otp, releaseRule_otp_act, releaseRule_otp_first, implies_true]
@[simp] theorem clearLatch_otp (s : State) : (clearLatch s).lc.otp = s.lc.otp := by simp only [clearLatch, setObj_otp]
theorem execTmpAonClear_otp (c : Caller) (data : Bytes) (s : State) : ∃ τ, execTmpAonClear c data s = .next τ ∧ τ.lc.otp = s.lc.otp := by refine ⟨_, rfl, ?_⟩; simp only [writeAccess_otp, cmdRule_otp_act, cmdRule_otp_first, clearLatch_otp, implies_true]
theorem execTmpQuorumCancel_otp (c : Caller) (data : Bytes) (s : State) : ∃ τ, execTmpQuorumCancel c data s = .next τ ∧ τ.lc.otp = s.lc.otp := by refine ⟨_, rfl, ?_⟩; simp only [writeAccess_otp, cmdRule_otp_act, cmdRule_otp_first, dropAct_otp, implies_true]
theorem execQuorumExpiry_otp (s : State) : ∃ τ, execQuorumExpiry s = .next τ ∧ τ.lc.otp = s.lc.otp := by refine ⟨_, rfl, ?_⟩; (repeat' split) <;> (first | (simp only [dropAct_otp, advanceTo_otp]; done) | with_reducible rfl | (simp_all; done))
@[simp] theorem closeCard_otp (s : State) : (closeCard s).lc.otp = s.lc.otp := by unfold closeCard; (repeat' split) <;> (first | (simp only [noticed_otp]; done) | with_reducible rfl | (simp_all; done))
@[simp] theorem officerChanged_otp (o : Nat) (s : State) : (officerChanged o s).lc.otp = s.lc.otp := by simp only [officerChanged, closeCard_otp, ite_otp, ite_self]
@[simp] theorem enrolRule_otp_act (o : Nat) (data : Bytes) (s : State) : ∀ τ, ((enrolRule o data s).act τ).lc.otp = τ.lc.otp := by intro τ; unfold enrolRule; dsimp only; (repeat' split) <;> (first | (simp only [officerChanged_otp, noticed_otp, setObj_otp]; done) | with_reducible rfl | (simp_all; done))
@[simp] theorem enrolRule_otp_first (o : Nat) (data : Bytes) (s : State) : ∀ τ, ((enrolRule o data s).first τ).1.lc.otp = τ.lc.otp := by intro τ; unfold enrolRule; dsimp only; (repeat' split) <;> (first | (simp only [plainRule_otp_first]; done) | with_reducible rfl | (simp_all; done))
theorem execOfficerEnrolWrite_otp (c : Caller) (o : Nat) (data : Bytes) (s : State) : ∃ τ, execOfficerEnrolWrite c o data s = .next τ ∧ τ.lc.otp = s.lc.otp := by refine ⟨_, rfl, ?_⟩; simp only [writeAccess_otp, enrolRule_otp_act, enrolRule_otp_first, implies_true, ite_otp, ite_self]
@[simp] theorem endPlan_otp (r : PlanRun) (s : State) : (endPlan r s).lc.otp = s.lc.otp := by simp only [endPlan, setDivider_otp, setObj_otp, noticed_otp, ite_otp, ite_self]
@[simp] theorem carryOn_otp (s : State) : (carryOn s).lc.otp = s.lc.otp := by unfold carryOn; dsimp only; (repeat' split) <;> (first | (simp only [endPlan_otp]; done) | with_reducible rfl | (simp_all; done))
@[simp] theorem beginPlan_otp (m : GaugeData) (s : State) : (beginPlan m s).lc.otp = s.lc.otp := by simp only [beginPlan, carryOn_otp, setObj_otp]
theorem execGaugeReplanDue_otp (m : GaugeData) (s : State) : ∃ τ, execGaugeReplanDue m s = .next τ ∧ τ.lc.otp = s.lc.otp := by refine ⟨_, rfl, ?_⟩; simp only [wakeCore_otp, advanceTo_otp, beginPlan_otp, ite_otp, ite_self]
@[simp] theorem replanRule_otp_act (m : GaugeData) (s : State) : ∀ τ, ((replanRule m s).act τ).lc.otp = τ.lc.otp := by intro τ; unfold replanRule; dsimp only; (repeat' split) <;> (first | (simp only [beginPlan_otp]; done) | with_reducible rfl | (simp_all; done))
@[simp] theorem replanRule_otp_first (m : GaugeData) (s : State) : ∀ τ, ((replanRule m s).first τ).1.lc.otp = τ.lc.otp := by simp [replanRule]
theorem execPwrReplan_otp (c : Caller) (m : GaugeData) (data : Bytes) (s : State) : ∃ τ, execPwrReplan c m data s = .next τ ∧ τ.lc.otp = s.lc.otp := by refine ⟨_, rfl, ?_⟩; simp only [writeAccess_otp, replanRule_otp_act, replanRule_otp_first, implies_true]
@[simp] theorem writeVout_otp (mv : Nat) (s : State) : (writeVout mv s).lc.otp = s.lc.otp := by simp only [writeVout, emit_otp]
theorem execVoutStep_otp (s : State) : ∃ τ, execVoutStep s = .next τ ∧ τ.lc.otp = s.lc.otp := by refine ⟨_, rfl, ?_⟩; (repeat' split) <;> (first | (simp only [carryOn_otp, advanceTo_otp, writeVout_otp]; done) | with_reducible rfl | (simp_all; done))
theorem execPmbusWriteResult_otp (ack : Bool) (pec : Bool) (readMv : Nat) (s : State) : ∃ τ, execPmbusWriteResult ack pec readMv s = .next τ ∧ τ.lc.otp = s.lc.otp := by refine ⟨_, rfl, ?_⟩; (repeat' split) <;> (first | (simp only [advanceTo_otp, setObj_otp, writeVout_otp, bump_otp, carryOn_otp, ite_otp, ite_self]; done) | with_reducible rfl | (simp_all; done))
theorem execPmAlert_otp (status : Nat) (s : State) : ∃ τ, execPmAlert status s = .next τ ∧ τ.lc.otp = s.lc.otp := by refine ⟨_, rfl, ?_⟩; simp only [setObj_otp, ite_otp, ite_self]
@[simp] theorem idleRule_otp_act (id : ObjId) (data : Bytes) : ∀ τ, ((idleRule id data).act τ).lc.otp = τ.lc.otp := by intro τ; unfold idleRule; dsimp only; (repeat' split) <;> (first | (simp only [plainRule_otp_act]; done) | with_reducible rfl | (simp_all; done))
@[simp] theorem idleRule_otp_first (id : ObjId) (data : Bytes) : ∀ τ, ((idleRule id data).first τ).1.lc.otp = τ.lc.otp := by intro τ; unfold idleRule; dsimp only; (repeat' split) <;> (first | (simp only [plainRule_otp_first]; done) | with_reducible rfl | (simp_all; done))
theorem execSlicePowerGate_otp (n : Nat) (s : State) : ∃ τ, execSlicePowerGate n s = .next τ ∧ τ.lc.otp = s.lc.otp := by refine ⟨_, rfl, ?_⟩; dsimp only; (repeat' split) <;> (first | (simp only [idle_otp, setSlice_otp, advanceTo_otp, implies_true, ite_otp, ite_self]; done) | with_reducible rfl | (simp_all; done))
theorem execEngineClockGate_otp (s : State) : ∃ τ, execEngineClockGate s = .next τ ∧ τ.lc.otp = s.lc.otp := by refine ⟨_, rfl, ?_⟩; simp only [advanceTo_otp, ite_otp, ite_self]
theorem execPllStop_otp (s : State) : ∃ τ, execPllStop s = .next τ ∧ τ.lc.otp = s.lc.otp := by refine ⟨_, rfl, ?_⟩; simp only [ite_otp, ite_self]
theorem execTsuowRetention_otp (s : State) : ∃ τ, execTsuowRetention s = .next τ ∧ τ.lc.otp = s.lc.otp := by refine ⟨_, rfl, ?_⟩; simp only [advanceTo_otp, ite_otp, ite_self]
@[simp] theorem setRtc_otp (v : Nat) (s : State) : (setRtc v s).lc.otp = s.lc.otp := by simp only [setRtc, setObj_otp]
@[simp] theorem rtcRule_otp_act (data : Bytes) : ∀ τ, ((rtcRule data).act τ).lc.otp = τ.lc.otp := by intro τ; simp only [rtcRule]; (repeat' split) <;> (first | (simp only [cmdRule_otp_act, setRtc_otp, implies_true]; done) | with_reducible rfl | (simp_all; done))
@[simp] theorem rtcRule_otp_first (data : Bytes) : ∀ τ, ((rtcRule data).first τ).1.lc.otp = τ.lc.otp := by intro τ; simp only [rtcRule]; (repeat' split) <;> (first | (simp only [cmdRule_otp_first, setRtc_otp, implies_true]; done) | with_reducible rfl | (simp_all; done))
theorem execPwrRtcWrite_otp (c : Caller) (data : Bytes) (s : State) : ∃ τ, execPwrRtcWrite c data s = .next τ ∧ τ.lc.otp = s.lc.otp := by refine ⟨_, rfl, ?_⟩; simp only [writeAccess_otp, rtcRule_otp_act, rtcRule_otp_first, implies_true]
@[simp] theorem beginReinit_otp (u : ReUnit) (s : State) : (beginReinit u s).lc.otp = s.lc.otp := by unfold beginReinit; (repeat' split) <;> (first | (simp only [setSlice_otp, setDigUnit_otp, setPipe_otp, setObj_otp]; done) | with_reducible rfl | (simp_all; done))
@[simp] theorem reinitRule_otp_act (u : ReUnit) (s : State) : ∀ τ, ((reinitRule u s).act τ).lc.otp = τ.lc.otp := by intro τ; unfold reinitRule; dsimp only; (repeat' split) <;> (first | (simp only [beginReinit_otp]; done) | with_reducible rfl | (simp_all; done))
@[simp] theorem reinitRule_otp_first (u : ReUnit) (s : State) : ∀ τ, ((reinitRule u s).first τ).1.lc.otp = τ.lc.otp := by simp [reinitRule]
theorem execErrSliceReinit_otp (c : Caller) (data : Bytes) (s : State) : ∃ τ, execErrSliceReinit c data s = .next τ ∧ τ.lc.otp = s.lc.otp := by refine ⟨_, rfl, ?_⟩; simp only [writeAccess_otp, reinitRule_otp_act, reinitRule_otp_first, implies_true]
theorem execErrReqReinit_otp (c : Caller) (data : Bytes) (s : State) : ∃ τ, execErrReqReinit c data s = .next τ ∧ τ.lc.otp = s.lc.otp := by refine ⟨_, rfl, ?_⟩; simp only [writeAccess_otp, reinitRule_otp_act, reinitRule_otp_first, implies_true]
theorem execErrDigReinit_otp (c : Caller) (data : Bytes) (s : State) : ∃ τ, execErrDigReinit c data s = .next τ ∧ τ.lc.otp = s.lc.otp := by refine ⟨_, rfl, ?_⟩; simp only [writeAccess_otp, reinitRule_otp_act, reinitRule_otp_first, implies_true]
theorem execErrPipeReinit_otp (c : Caller) (data : Bytes) (s : State) : ∃ τ, execErrPipeReinit c data s = .next τ ∧ τ.lc.otp = s.lc.otp := by refine ⟨_, rfl, ?_⟩; simp only [writeAccess_otp, reinitRule_otp_act, reinitRule_otp_first, implies_true]
@[simp] theorem liftFence_otp (u : ReUnit) (s : State) : (liftFence u s).lc.otp = s.lc.otp := by unfold liftFence; (repeat' split) <;> (first | (simp only [setSlice_otp, idle_otp, setDigUnit_otp, setPipe_otp, implies_true, ite_otp, ite_self]; done) | with_reducible rfl | (simp_all; done))
@[simp] theorem keepFence_otp (u : ReUnit) (s : State) : (keepFence u s).lc.otp = s.lc.otp := by unfold keepFence; (repeat' split) <;> (first | (simp only [fenceSlice_otp, fenceRequester_otp, setDigUnit_otp, fenceDigest_otp, setPipe_otp, fencePipe_otp]; done) | with_reducible rfl | (simp_all; done))
theorem execReinitComplete_otp (pass : Bool) (s : State) : ∃ τ, execReinitComplete pass s = .next τ ∧ τ.lc.otp = s.lc.otp := by refine ⟨_, rfl, ?_⟩; (repeat' split) <;> (first | (simp only [usedFree_otp, advanceTo_otp, setObj_otp, liftFence_otp, keepFence_otp]; done) | with_reducible rfl | (simp_all; done))
@[simp] theorem errResetRule_otp_act (s : State) : ∀ τ, ((errResetRule s).act τ).lc.otp = τ.lc.otp := by intro τ; simp only [errResetRule]; (repeat' split) <;> (first | (simp only [cmdRule_otp_act, scheduleReset_otp, implies_true]; done) | with_reducible rfl | (simp_all; done))
@[simp] theorem errResetRule_otp_first (s : State) : ∀ τ, ((errResetRule s).first τ).1.lc.otp = τ.lc.otp := by intro τ; simp only [errResetRule]; (repeat' split) <;> (first | (simp only [cmdRule_otp_first, scheduleReset_otp, implies_true]; done) | with_reducible rfl | (simp_all; done))
theorem execErrReset_otp (c : Caller) (data : Bytes) (s : State) : ∃ τ, execErrReset c data s = .next τ ∧ τ.lc.otp = s.lc.otp := by refine ⟨_, rfl, ?_⟩; simp only [writeAccess_otp, errResetRule_otp_act, errResetRule_otp_first, implies_true]
theorem execSelfReset_otp (bootSel : Nat) (s : State) : ∃ τ, execSelfReset bootSel s = .next τ ∧ τ.lc.otp = s.lc.otp := by refine ⟨_, rfl, ?_⟩; (repeat' split) <;> (first | (simp only [resetDevice_otp, advanceTo_otp]; done) | with_reducible rfl | (simp_all; done))
theorem execResetN_otp (low : Bool) (bootSel : Nat) (s : State) : ∃ τ, execResetN low bootSel s = .next τ ∧ τ.lc.otp = s.lc.otp := by refine ⟨_, rfl, ?_⟩; simp only [resetDevice_otp, ite_otp, ite_self]
theorem execPerstNReset_otp (bootSel : Nat) (s : State) : ∃ τ, execPerstNReset bootSel s = .next τ ∧ τ.lc.otp = s.lc.otp := by refine ⟨_, rfl, ?_⟩; simp only [resetDevice_otp, pcieReset_otp, ite_otp, ite_self]
theorem execPowerOnReset_otp (bootSel : Nat) (s : State) : ∃ τ, execPowerOnReset bootSel s = .next τ ∧ τ.lc.otp = s.lc.otp := by refine ⟨_, rfl, ?_⟩; simp only [loseVolatile_otp, ite_otp, ite_self]
@[simp] theorem lastErr_otp (result : Nat) (entry : Option Nat) (s : State) : (lastErr result entry s).lc.otp = s.lc.otp := by simp only [lastErr, setObj_otp, usedFree_otp]
@[simp] theorem putRec_otp (f : ActRec → ActRec) (s : State) : (putRec f s).lc.otp = s.lc.otp := by simp only [putRec, setObj_otp]
@[simp] theorem setUpd_otp (st : Nat) (s : State) : (setUpd st s).lc.otp = s.lc.otp := by simp only [setUpd, putRec_otp]
@[simp] theorem stageBegin_otp (s : State) : (stageBegin s).lc.otp = s.lc.otp := by simp only [stageBegin, setUpd_otp]
@[simp] theorem stageBeginRule_otp_act (s : State) : ∀ τ, ((stageBeginRule s).act τ).lc.otp = τ.lc.otp := by intro τ; unfold stageBeginRule; dsimp only; (repeat' split) <;> (first | (simp only [stageBegin_otp]; done) | with_reducible rfl | (simp_all; done))
@[simp] theorem stageBeginRule_otp_first (s : State) : ∀ τ, ((stageBeginRule s).first τ).1.lc.otp = τ.lc.otp := by simp [stageBeginRule]
theorem execUpdStageBegin_otp (c : Caller) (data : Bytes) (s : State) : ∃ τ, execUpdStageBegin c data s = .next τ ∧ τ.lc.otp = s.lc.otp := by refine ⟨_, rfl, ?_⟩; simp only [writeAccess_otp, stageBeginRule_otp_act, stageBeginRule_otp_first, implies_true]
@[simp] theorem takeChunk_otp (b : Bytes) (progOk : Bool) (s : State) : (takeChunk b progOk s).lc.otp = s.lc.otp := by unfold takeChunk; (repeat' split) <;> (first | (simp only [noticed_otp, setUpd_otp, lastErr_otp]; done) | with_reducible rfl | (simp_all; done))
@[simp] theorem chunkWrite_otp (total : Nat) (b : Bytes) (progOk : Bool) (s : State) : (chunkWrite total b progOk s).1.lc.otp = s.lc.otp := by unfold chunkWrite; (repeat' split) <;> (first | (simp only [setUpd_otp, lastErr_otp, takeChunk_otp]; done) | with_reducible rfl | (simp_all; done))
@[simp] theorem serveChunk_otp (w : Who) (offset : Nat) (total : Nat) (data : Bytes) (ok : Bool) (s : State) : (serveChunk w offset total data ok s).lc.otp = s.lc.otp := by unfold serveChunk; (repeat' split) <;> (first | (simp only [deliver_otp, countRefused_otp, chunkWrite_otp]; done) | with_reducible rfl | (simp_all; done))
theorem execUpdStageChunk_otp (c : Caller) (total : Nat) (data : Bytes) (ok : Bool) (s : State) : ∃ τ, execUpdStageChunk c total data ok s = .next τ ∧ τ.lc.otp = s.lc.otp := by refine ⟨_, rfl, ?_⟩; (repeat' split) <;> (first | (simp only [inTurn_otp, serveChunk_otp, implies_true]; done) | with_reducible rfl | (simp_all; done))
@[simp] theorem verifyRule_otp_act (data : Bytes) (s : State) : ∀ τ, ((verifyRule data s).act τ).lc.otp = τ.lc.otp := by intro τ; unfold verifyRule; dsimp only; (repeat' split) <;> (first | (simp only [setUpd_otp]; done) | with_reducible rfl | (simp_all; done))
@[simp] theorem verifyRule_otp_first (data : Bytes) (s : State) : ∀ τ, ((verifyRule data s).first τ).1.lc.otp = τ.lc.otp := by simp [verifyRule]
theorem execUpdVerify_otp (c : Caller) (data : Bytes) (s : State) : ∃ τ, execUpdVerify c data s = .next τ ∧ τ.lc.otp = s.lc.otp := by refine ⟨_, rfl, ?_⟩; simp only [writeAccess_otp, verifyRule_otp_act, verifyRule_otp_first, implies_true]
theorem execUpdVerifyEnd_otp (s : State) : ∃ τ, execUpdVerifyEnd s = .next τ ∧ τ.lc.otp = s.lc.otp := by refine ⟨_, rfl, ?_⟩; dsimp only; (repeat' split) <;> (first | (simp only [usedFree_otp, advanceTo_otp, setUpd_otp, lastErr_otp, noticed_otp, putRec_otp]; done) | with_reducible rfl | (simp_all; done))
@[simp] theorem activateAt_otp (v : Nat) (s : State) : (activateAt v s).lc.otp = s.lc.otp := by simp only [activateAt, noticed_otp, putRec_otp, scheduleReset_otp, ite_otp, ite_self]
@[simp] theorem activateRule_otp_act (data : Bytes) (s : State) : ∀ τ, ((activateRule data s).act τ).lc.otp = τ.lc.otp := by intro τ; unfold activateRule; dsimp only; (repeat' split) <;> (first | (simp only [activateAt_otp]; done) | with_reducible rfl | (simp_all; done))
@[simp] theorem activateRule_otp_first (data : Bytes) (s : State) : ∀ τ, ((activateRule data s).first τ).1.lc.otp = τ.lc.otp := by simp [activateRule]
theorem execUpdActivateAt_otp (c : Caller) (data : Bytes) (s : State) : ∃ τ, execUpdActivateAt c data s = .next τ ∧ τ.lc.otp = s.lc.otp := by refine ⟨_, rfl, ?_⟩; simp only [writeAccess_otp, activateRule_otp_act, activateRule_otp_first, implies_true]
@[simp] theorem cancelRule_otp_act (s : State) : ∀ τ, ((cancelRule s).act τ).lc.otp = τ.lc.otp := by intro τ; unfold cancelRule; dsimp only; (repeat' split) <;> (first | (simp only [setUpd_otp]; done) | with_reducible rfl | (simp_all; done))
@[simp] theorem cancelRule_otp_first (s : State) : ∀ τ, ((cancelRule s).first τ).1.lc.otp = τ.lc.otp := by simp [cancelRule]
theorem execUpdCancel_otp (c : Caller) (data : Bytes) (s : State) : ∃ τ, execUpdCancel c data s = .next τ ∧ τ.lc.otp = s.lc.otp := by refine ⟨_, rfl, ?_⟩; simp only [writeAccess_otp, cancelRule_otp_act, cancelRule_otp_first, implies_true]
theorem execActivationDue_otp (bootSel : Nat) (s : State) : ∃ τ, execActivationDue bootSel s = .next τ ∧ τ.lc.otp = s.lc.otp := by refine ⟨_, rfl, ?_⟩; simp only [resetDevice_otp, advanceTo_otp, ite_otp, ite_self]
theorem execTrialExpiry_otp (bootSel : Nat) (s : State) : ∃ τ, execTrialExpiry bootSel s = .next τ ∧ τ.lc.otp = s.lc.otp := by refine ⟨_, rfl, ?_⟩; (repeat' split) <;> (first | (simp only [resetDevice_otp, advanceTo_otp]; done) | with_reducible rfl | (simp_all; done))
@[simp] theorem lcNonce_otp (s : State) : (lcNonce s).2.lc.otp = s.lc.otp := by unfold lcNonce; (repeat' split) <;> (first | (simp only [draw_otp]; done) | with_reducible rfl | (simp_all; done))
@[simp] theorem newNonce_otp (s : State) : (newNonce s).lc.otp = s.lc.otp := by simp only [newNonce, lcNonce_otp, noticed_otp]
@[simp] theorem nonceRule_otp_act (s : State) : ∀ τ, ((nonceRule s).act τ).lc.otp = τ.lc.otp := by intro τ; unfold nonceRule; dsimp only; (repeat' split) <;> (first | (simp only [cmdRule_otp_act, newNonce_otp, implies_true]; done) | with_reducible rfl | (simp_all; done))
@[simp] theorem nonceRule_otp_first (s : State) : ∀ τ, ((nonceRule s).first τ).1.lc.otp = τ.lc.otp := by intro τ; unfold nonceRule; dsimp only; (repeat' split) <;> (first | (simp only [cmdRule_otp_first, newNonce_otp, implies_true]; done) | with_reducible rfl | (simp_all; done))
theorem execLcNonceNew_otp (c : Caller) (data : Bytes) (s : State) : ∃ τ, execLcNonceNew c data s = .next τ ∧ τ.lc.otp = s.lc.otp := by refine ⟨_, rfl, ?_⟩; simp only [writeAccess_otp, nonceRule_otp_act, nonceRule_otp_first, implies_true]
@[simp] theorem dropNonce_otp (s : State) : (dropNonce s).lc.otp = s.lc.otp := by simp only [dropNonce, noticed_otp]
theorem execNonceExpiry_otp (s : State) : ∃ τ, execNonceExpiry s = .next τ ∧ τ.lc.otp = s.lc.otp := by refine ⟨_, rfl, ?_⟩; (repeat' split) <;> (first | (simp only [dropNonce_otp, advanceTo_otp]; done) | with_reducible rfl | (simp_all; done))
@[simp] theorem setReq_otp (v : Nat) (s : State) : (setReq v s).lc.otp = s.lc.otp := by simp only [setReq, setObj_otp]
@[simp] theorem checkRequest_otp (b : Bytes) (s : State) : (checkRequest b s).1.lc.otp = s.lc.otp := by unfold checkRequest; (repeat' split) <;> (first | (simp only [setReq_otp, dropNonce_otp, request_otp, implies_true, ite_otp, ite_self]; done) | with_reducible rfl | (simp_all; done))
@[simp] theorem stopTraffic_otp (s : State) : (stopTraffic s).lc.otp = s.lc.otp := by simp only [stopTraffic, eraseKreg_otp, abandonAll_otp, stopJobs_otp, endCalls_otp]
@[simp] theorem ruleFor_otp_act (s : State) (a : AccessCmd) (f : Who → WriteRule) (h2 : ∀ v0 τ, ((f v0).act τ).lc.otp = τ.lc.otp) (g2 : ∀ v0 τ, ((f v0).first τ).1.lc.otp = τ.lc.otp) : ∀ τ, ((ruleFor s a f).act τ).lc.otp = τ.lc.otp := by intro τ; simp only [ruleFor]; (repeat' split) <;> (first | (simp only [cmdRule_otp_act, cmdRule_otp_first, implies_true, ite_otp, ite_self]; done) | with_reducible rfl | (simp_all; done))
@[simp] theorem ruleFor_otp_first (s : State) (a : AccessCmd) (f : Who → WriteRule) (h2 : ∀ v0 τ, ((f v0).act τ).lc.otp = τ.lc.otp) (g2 : ∀ v0 τ, ((f v0).first τ).1.lc.otp = τ.lc.otp) : ∀ τ, ((ruleFor s a f).first τ).1.lc.otp = τ.lc.otp := by intro τ; simp only [ruleFor]; (repeat' split) <;> (first | (simp only [cmdRule_otp_act, cmdRule_otp_first, implies_true, ite_otp, ite_self]; done) | with_reducible rfl | (simp_all; done))
@[simp] theorem beginBist_otp (pass : Bool) (s : State) : (beginBist pass s).lc.otp = s.lc.otp := by simp only [beginBist, stopTraffic_otp, noticed_otp, scheduleReset_otp]
@[simp] theorem bistRule_otp_act (pass : Bool) (s : State) : ∀ τ, ((bistRule pass s).act τ).lc.otp = τ.lc.otp := by intro τ; unfold bistRule; dsimp only; (repeat' split) <;> (first | (simp only [cmdRule_otp_act, beginBist_otp, implies_true]; done) | with_reducible rfl | (simp_all; done))
@[simp] theorem bistRule_otp_first (pass : Bool) (s : State) : ∀ τ, ((bistRule pass s).first τ).1.lc.otp = τ.lc.otp := by intro τ; unfold bistRule; dsimp only; (repeat' split) <;> (first | (simp only [cmdRule_otp_first, beginBist_otp, implies_true]; done) | with_reducible rfl | (simp_all; done))
theorem execLcBist_otp (c : Caller) (data : Bytes) (pass : Bool) (s : State) : ∃ τ, execLcBist c data pass s = .next τ ∧ τ.lc.otp = s.lc.otp := by refine ⟨_, rfl, ?_⟩; simp only [writeAccess_otp, bistRule_otp_act, bistRule_otp_first, implies_true]
@[simp] theorem newChallenge_otp (scope : Nat) (s : State) : (newChallenge scope s).lc.otp = s.lc.otp := by simp only [newChallenge, lcNonce_otp, noticed_otp]
@[simp] theorem challengeRule_otp_act (data : Bytes) (s : State) : ∀ τ, ((challengeRule data s).act τ).lc.otp = τ.lc.otp := by intro τ; unfold challengeRule; dsimp only; (repeat' split) <;> (first | (simp only [newChallenge_otp]; done) | with_reducible rfl | (simp_all; done))
@[simp] theorem challengeRule_otp_first (data : Bytes) (s : State) : ∀ τ, ((challengeRule data s).first τ).1.lc.otp = τ.lc.otp := by simp [challengeRule]
theorem execLcDbgChallengeNew_otp (c : Caller) (data : Bytes) (s : State) : ∃ τ, execLcDbgChallengeNew c data s = .next τ ∧ τ.lc.otp = s.lc.otp := by refine ⟨_, rfl, ?_⟩; simp only [writeAccess_otp, challengeRule_otp_act, challengeRule_otp_first, implies_true]
@[simp] theorem dropChallenge_otp (s : State) : (dropChallenge s).lc.otp = s.lc.otp := by simp only [dropChallenge, noticed_otp]
@[simp] theorem checkToken_otp (data : Bytes) (b : Bytes) (s : State) : (checkToken data b s).1.lc.otp = s.lc.otp := by unfold checkToken; (repeat' split) <;> (first | (simp only [request_otp, dropChallenge_otp, implies_true, ite_otp, ite_self]; done) | with_reducible rfl | (simp_all; done))
@[simp] theorem pauseTenants_otp (s : State) : (pauseTenants s).lc.otp = s.lc.otp := by unfold pauseTenants; (repeat' split) <;> (first | (simp only [setObj_otp, implies_true, ite_otp, ite_self]; done) | with_reducible rfl | (simp_all; done))
@[simp] theorem openDebug_otp (s : State) : (openDebug s).lc.otp = s.lc.otp := by unfold openDebug; (repeat' split) <;> (first | (simp only [eraseDone_otp, closeSessions_otp, bindOff_otp, quiesce_otp, attestKeys_otp, request_otp, pauseTenants_otp, setObj_otp, usedFree_otp, advanceTo_otp, noticed_otp, implies_true, ite_otp, ite_self]; done) | with_reducible rfl | (simp_all; done))
@[simp] theorem applyToken_otp (data : Bytes) (s : State) : (applyToken data s).lc.otp = s.lc.otp := by simp only [applyToken, openDebug_otp, dropChallenge_otp, ite_otp, ite_self]
@[simp] theorem openRule_otp_act (c : Caller) (data : Bytes) (s : State) : ∀ τ, ((openRule c data s).act τ).lc.otp = τ.lc.otp := by intro τ; unfold openRule; dsimp only; (repeat' split) <;> (first | (simp only [applyToken_otp]; done) | with_reducible rfl | (simp_all; done))
@[simp] theorem openRule_otp_first (c : Caller) (data : Bytes) (s : State) : ∀ τ, ((openRule c data s).first τ).1.lc.otp = τ.lc.otp := by intro τ; unfold openRule; dsimp only; (repeat' split) <;> (first | (simp only [checkToken_otp]; done) | with_reducible rfl | (simp_all; done))
theorem execLcDbgOpen_otp (c : Caller) (data : Bytes) (s : State) : ∃ τ, execLcDbgOpen c data s = .next τ ∧ τ.lc.otp = s.lc.otp := by refine ⟨_, rfl, ?_⟩; simp only [writeAccess_otp, openRule_otp_act, openRule_otp_first, implies_true]
@[simp] theorem leaveExtest_otp (bootSel : Nat) (s : State) : (leaveExtest bootSel s).lc.otp = s.lc.otp := by simp only [leaveExtest, resetDevice_otp, ite_otp, ite_self]
@[simp] theorem loadTap_otp (t : TapInstr) (bootSel : Nat) (s : State) : (loadTap t bootSel s).lc.otp = s.lc.otp := by simp only [loadTap, leaveExtest_otp]
theorem execExtest_otp (scan : Bytes) (s : State) : ∃ τ, execExtest scan s = .next τ ∧ τ.lc.otp = s.lc.otp := by refine ⟨_, rfl, ?_⟩; simp only [emit_otp, ite_otp, ite_self]
theorem execExtestExit_otp (bootSel : Nat) (s : State) : ∃ τ, execExtestExit bootSel s = .next τ ∧ τ.lc.otp = s.lc.otp := by refine ⟨_, rfl, ?_⟩; simp only [loadTap_otp, ite_otp, ite_self]
theorem execIdcode_otp (bootSel : Nat) (s : State) : ∃ τ, execIdcode bootSel s = .next τ ∧ τ.lc.otp = s.lc.otp := by refine ⟨_, rfl, ?_⟩; simp only [emit_otp, loadTap_otp, ite_otp, ite_self]
theorem execSamplePreload_otp (bootSel : Nat) (scan : Bytes) (s : State) : ∃ τ, execSamplePreload bootSel scan s = .next τ ∧ τ.lc.otp = s.lc.otp := by refine ⟨_, rfl, ?_⟩; simp only [loadTap_otp, ite_otp, ite_self]
theorem execBypass_otp (bootSel : Nat) (s : State) : ∃ τ, execBypass bootSel s = .next τ ∧ τ.lc.otp = s.lc.otp := by refine ⟨_, rfl, ?_⟩; simp only [loadTap_otp, ite_otp, ite_self]
@[simp] theorem putArea_otp (toB : Bool) (a : Bytes) (s : State) : (putArea toB a s).lc.otp = s.lc.otp := by simp only [putArea]
@[simp] theorem startStore_otp (s : State) : (startStore s).lc.otp = s.lc.otp := by simp only [startStore, putArea_otp, setObj_otp]
@[simp] theorem storeRule_otp_act (s : State) : ∀ τ, ((storeRule s).act τ).lc.otp = τ.lc.otp := by intro τ; unfold storeRule; dsimp only; (repeat' split) <;> (first | (simp only [cmdRule_otp_act, startStore_otp, implies_true]; done) | with_reducible rfl | (simp_all; done))
@[simp] theorem storeRule_otp_first (s : State) : ∀ τ, ((storeRule s).first τ).1.lc.otp = τ.lc.otp := by intro τ; unfold storeRule; dsimp only; (repeat' split) <;> (first | (simp only [cmdRule_otp_first, startStore_otp, implies_true]; done) | with_reducible rfl | (simp_all; done))
theorem execDictStore_otp (c : Caller) (data : Bytes) (s : State) : ∃ τ, execDictStore c data s = .next τ ∧ τ.lc.otp = s.lc.otp := by refine ⟨_, rfl, ?_⟩; simp only [writeAccess_otp, storeRule_otp_act, storeRule_otp_first, implies_true]
@[simp] theorem storeDone_otp (j : StoreJob) (s : State) : (storeDone j s).lc.otp = s.lc.otp := by simp only [storeDone, setObj_otp, putArea_otp]
theorem execStoreWriteDone_otp (ok : Bool) (s : State) : ∃ τ, execStoreWriteDone ok s = .next τ ∧ τ.lc.otp = s.lc.otp := by refine ⟨_, rfl, ?_⟩; (repeat' split) <;> (first | (simp only [storeDone_otp, storeFailed_otp]; done) | with_reducible rfl | (simp_all; done))
@[simp] theorem readStoreState_otp (s : State) : (readStoreState s).2.2.lc.otp = s.lc.otp := by unfold readStoreState; (repeat' split) <;> (first | (simp only; done) | with_reducible rfl | (simp_all; done))
theorem execDictStoreStateRead_otp (c : Caller) (s : State) : ∃ τ, execDictStoreStateRead c s = .next τ ∧ τ.lc.otp = s.lc.otp := by refine ⟨_, rfl, ?_⟩; simp only [readAccess_otp, readStoreState_otp, implies_true]
@[simp] theorem writePhy_otp (errs : Nat) (s : State) : (writePhy errs s).lc.otp = s.lc.otp := by simp only [writePhy, bumpBy_otp, ite_otp, ite_self]
@[simp] theorem phyRule_otp_act (sub : Nat) (errs : Nat) (data : Bytes) (s : State) : ∀ τ, ((phyRule sub errs data s).act τ).lc.otp = τ.lc.otp := by intro τ; unfold phyRule; dsimp only; (repeat' split) <;> (first | (simp only [plainRule_otp_act, writePhy_otp]; done) | with_reducible rfl | (simp_all; done))
@[simp] theorem phyRule_otp_first (sub : Nat) (errs : Nat) (data : Bytes) (s : State) : ∀ τ, ((phyRule sub errs data s).first τ).1.lc.otp = τ.lc.otp := by intro τ; unfold phyRule; dsimp only; (repeat' split) <;> (first | (simp only [plainRule_otp_first]; done) | with_reducible rfl | (simp_all; done))
theorem execMgPhyConfigWrite_otp (c : Caller) (sub : Nat) (data : Bytes) (errs : Nat) (s : State) : ∃ τ, execMgPhyConfigWrite c sub data errs s = .next τ ∧ τ.lc.otp = s.lc.otp := by refine ⟨_, rfl, ?_⟩; simp only [writeAccess_otp, phyRule_otp_act, phyRule_otp_first, implies_true, ite_otp, ite_self]
@[simp] theorem driveGpio_otp (s : State) : (driveGpio s).lc.otp = s.lc.otp := by simp only [driveGpio, emit_otp]
@[simp] theorem closePrincipal_otp (p : Nat) (s : State) : (closePrincipal p s).lc.otp = s.lc.otp := by unfold closePrincipal; (repeat' split) <;> (first | (simp only [closeSession_otp, implies_true, ite_otp, ite_self]; done) | with_reducible rfl | (simp_all; done))
@[simp] theorem principalRule_otp_act (p : Nat) (sub : Nat) (data : Bytes) (s : State) : ∀ τ, ((principalRule p sub data s).act τ).lc.otp = τ.lc.otp := by intro τ; unfold principalRule; dsimp only; (repeat' split) <;> (first | (simp only [plainRule_otp_act, closePrincipal_otp]; done) | with_reducible rfl | (simp_all; done))
@[simp] theorem principalRule_otp_first (p : Nat) (sub : Nat) (data : Bytes) (s : State) : ∀ τ, ((principalRule p sub data s).first τ).1.lc.otp = τ.lc.otp := by intro τ; unfold principalRule; dsimp only; (repeat' split) <;> (first | (simp only [plainRule_otp_first]; done) | with_reducible rfl | (simp_all; done))
theorem execPrincipalEnrolWrite_otp (c : Caller) (p : Nat) (sub : Nat) (data : Bytes) (s : State) : ∃ τ, execPrincipalEnrolWrite c p sub data s = .next τ ∧ τ.lc.otp = s.lc.otp := by refine ⟨_, rfl, ?_⟩; simp only [writeAccess_otp, principalRule_otp_act, principalRule_otp_first, implies_true, ite_otp, ite_self]
@[simp] theorem oapEnableRule_otp_act (data : Bytes) : ∀ τ, ((oapEnableRule data).act τ).lc.otp = τ.lc.otp := by intro τ; unfold oapEnableRule; dsimp only; (repeat' split) <;> (first | (simp only [plainRule_otp_act, closeSessions_otp]; done) | with_reducible rfl | (simp_all; done))
@[simp] theorem oapEnableRule_otp_first (data : Bytes) : ∀ τ, ((oapEnableRule data).first τ).1.lc.otp = τ.lc.otp := by intro τ; unfold oapEnableRule; dsimp only; (repeat' split) <;> (first | (simp only [plainRule_otp_first]; done) | with_reducible rfl | (simp_all; done))
theorem execOapEnableWrite_otp (c : Caller) (data : Bytes) (s : State) : ∃ τ, execOapEnableWrite c data s = .next τ ∧ τ.lc.otp = s.lc.otp := by refine ⟨_, rfl, ?_⟩; simp only [writeAccess_otp, oapEnableRule_otp_act, oapEnableRule_otp_first, implies_true]
theorem execDictOapLock_otp (c : Caller) (data : Bytes) (s : State) : ∃ τ, execDictOapLock c data s = .next τ ∧ τ.lc.otp = s.lc.otp := by refine ⟨_, rfl, ?_⟩; simp only [writeAccess_otp, cmdRule_otp_act, cmdRule_otp_first, lockObjs_otp, implies_true]
@[simp] theorem leaveSettings_otp (s : State) : (leaveSettings s).lc.otp = s.lc.otp := by
  exact (closeCard_otp _).trans ((foldl_otp _ (fun t p => closePrincipal_otp p t) _ _).trans
    ((foldl_otp _ (fun t c => unbindCircuit_otp c t) _ _).trans (foldl_otp _ (fun t p => by split <;> simp) _ _)))
@[simp] theorem restoreDefaults_otp (s : State) : (restoreDefaults s).lc.otp = s.lc.otp := by unfold restoreDefaults; (repeat' split) <;> (first | (simp only [setObj_otp, driveGpio_otp]; done) | with_reducible rfl | (simp_all; done))
@[simp] theorem restoreRule_otp_act  : ∀ τ, ((restoreRule).act τ).lc.otp = τ.lc.otp := by intro τ; unfold restoreRule; dsimp only; (repeat' split) <;> (first | (simp only [cmdRule_otp_act, restoreDefaults_otp, implies_true]; done) | with_reducible rfl | (simp_all; done))
@[simp] theorem restoreRule_otp_first  : ∀ τ, ((restoreRule).first τ).1.lc.otp = τ.lc.otp := by intro τ; unfold restoreRule; dsimp only; (repeat' split) <;> (first | (simp only [cmdRule_otp_first, restoreDefaults_otp, implies_true]; done) | with_reducible rfl | (simp_all; done))
theorem execDictRestoreDefaults_otp (c : Caller) (data : Bytes) (s : State) : ∃ τ, execDictRestoreDefaults c data s = .next τ ∧ τ.lc.otp = s.lc.otp := by refine ⟨_, rfl, ?_⟩; simp only [writeAccess_otp, restoreRule_otp_act, restoreRule_otp_first, implies_true]
@[simp] theorem describeRule_otp_act (w : Who) (data : Bytes) : ∀ τ, ((describeRule w data).act τ).lc.otp = τ.lc.otp := by intro τ; simp only [describeRule]; (repeat' split) <;> (first | (simp only [cmdRule_otp_act, setOwn_otp, implies_true]; done) | with_reducible rfl | (simp_all; done))
@[simp] theorem describeRule_otp_first (w : Who) (data : Bytes) : ∀ τ, ((describeRule w data).first τ).1.lc.otp = τ.lc.otp := by intro τ; simp only [describeRule]; (repeat' split) <;> (first | (simp only [cmdRule_otp_first, setOwn_otp, implies_true]; done) | with_reducible rfl | (simp_all; done))
theorem execDictDescribe_otp (c : Caller) (data : Bytes) (s : State) : ∃ τ, execDictDescribe c data s = .next τ ∧ τ.lc.otp = s.lc.otp := by refine ⟨_, rfl, ?_⟩; simp only [writeAccess_otp, ruleFor_otp_act, ruleFor_otp_first, describeRule_otp_act, describeRule_otp_first, implies_true]
@[simp] theorem serveRead_otp (c : Caller) (gpio : Nat) (id : ObjId) (s : State) : (serveRead c gpio id s).2.2.lc.otp = s.lc.otp := by unfold serveRead; (repeat' split) <;> (first | (simp only [serveRngRead_otp, readStoreState_otp, noteRead_otp, implies_true, ite_otp, ite_self, Res.stop_release, Res.ok_release, persistRes_release, id]; done) | with_reducible rfl | (simp_all; done))
@[simp] theorem noticedBy_otp (slot : Nat) (id : ObjId) (s : State) : (noticedBy slot id s).lc.otp = s.lc.otp := by simp only [noticedBy, ite_otp, ite_self]
@[simp] theorem lookAt_otp (s : State) (p : ObjId × ObjId) : (lookAt s p).lc.otp = s.lc.otp := by unfold lookAt; (repeat' split) <;> (first | (simp only [noticedBy_otp]; done) | with_reducible rfl | (simp_all; done))
@[simp] theorem lookAround_otp (s : State) : (lookAround s).lc.otp = s.lc.otp := by unfold lookAround; (repeat' split) <;> (first | (simp only [lookAt_otp, implies_true, ite_otp, ite_self]; done) | with_reducible rfl | (simp_all; done))
@[simp] theorem subscribeRule_otp_act (id : ObjId) (data : Bytes) : ∀ τ, ((subscribeRule id data).act τ).lc.otp = τ.lc.otp := by intro τ; unfold subscribeRule; dsimp only; (repeat' split) <;> (first | (simp only [plainRule_otp_act, lookAt_otp]; done) | with_reducible rfl | (simp_all; done))
@[simp] theorem subscribeRule_otp_first (id : ObjId) (data : Bytes) : ∀ τ, ((subscribeRule id data).first τ).1.lc.otp = τ.lc.otp := by intro τ; unfold subscribeRule; dsimp only; (repeat' split) <;> (first | (simp only [plainRule_otp_first]; done) | with_reducible rfl | (simp_all; done))
@[simp] theorem ruleDict_otp_act (env : ApplyEnv) (w : Who) (id : ObjId) (data : Bytes) (s : State) : ∀ τ, ((ruleDict env w id data s).act τ).lc.otp = τ.lc.otp := by intro τ; unfold ruleDict; dsimp only; (repeat' split) <;> (first | (simp only [phyRule_otp_act, plainRule_otp_act, driveGpio_otp, storeRule_otp_act, restoreRule_otp_act, describeRule_otp_act, oapEnableRule_otp_act, cmdRule_otp_act, lockObjs_otp, principalRule_otp_act, subscribeRule_otp_act, implies_true]; done) | with_reducible rfl | (simp_all; done))
@[simp] theorem ruleDict_otp_first (env : ApplyEnv) (w : Who) (id : ObjId) (data : Bytes) (s : State) : ∀ τ, ((ruleDict env w id data s).first τ).1.lc.otp = τ.lc.otp := by intro τ; unfold ruleDict; dsimp only; (repeat' split) <;> (first | (simp only [phyRule_otp_first, plainRule_otp_first, storeRule_otp_first, restoreRule_otp_first, describeRule_otp_first, oapEnableRule_otp_first, cmdRule_otp_first, lockObjs_otp, principalRule_otp_first, subscribeRule_otp_first, implies_true]; done) | with_reducible rfl | (simp_all; done))
@[simp] theorem rulePower_otp_act (env : ApplyEnv) (id : ObjId) (data : Bytes) (s : State) : ∀ τ, ((rulePower env id data s).act τ).lc.otp = τ.lc.otp := by intro τ; unfold rulePower; dsimp only; (repeat' split) <;> (first | (simp only [replanRule_otp_act, plainRule_otp_act, idleRule_otp_act, rtcRule_otp_act]; done) | with_reducible rfl | (simp_all; done))
@[simp] theorem rulePower_otp_first (env : ApplyEnv) (id : ObjId) (data : Bytes) (s : State) : ∀ τ, ((rulePower env id data s).first τ).1.lc.otp = τ.lc.otp := by intro τ; unfold rulePower; dsimp only; (repeat' split) <;> (first | (simp only [replanRule_otp_first, plainRule_otp_first, idleRule_otp_first, rtcRule_otp_first]; done) | with_reducible rfl | (simp_all; done))
@[simp] theorem ruleTamper_otp_act (id : ObjId) (data : Bytes) (s : State) : ∀ τ, ((ruleTamper id data s).act τ).lc.otp = τ.lc.otp := by intro τ; unfold ruleTamper; dsimp only; (repeat' split) <;> (first | (simp only [releaseRule_otp_act, cmdRule_otp_act, lockObjs_otp, plainRule_otp_act, drivePin_otp, clearLatch_otp, cfgRule_otp_act, dropAct_otp, enrolRule_otp_act, officerChanged_otp, implies_true]; done) | with_reducible rfl | (simp_all; done))
@[simp] theorem ruleTamper_otp_first (id : ObjId) (data : Bytes) (s : State) : ∀ τ, ((ruleTamper id data s).first τ).1.lc.otp = τ.lc.otp := by intro τ; unfold ruleTamper; dsimp only; (repeat' split) <;> (first | (simp only [releaseRule_otp_first, cmdRule_otp_first, lockObjs_otp, plainRule_otp_first, clearLatch_otp, cfgRule_otp_first, dropAct_otp, enrolRule_otp_first, implies_true]; done) | with_reducible rfl | (simp_all; done))
@[simp] theorem ruleIso_otp_act (id : ObjId) (data : Bytes) (s : State) : ∀ τ, ((ruleIso id data s).act τ).lc.otp = τ.lc.otp := by intro τ; unfold ruleIso; dsimp only; (repeat' split) <;> (first | (simp only [ruleWrite_otp_act, commitRule_otp_act, portRule_otp_act, setObj_otp, plainRule_otp_act, implies_true]; done) | with_reducible rfl | (simp_all; done))
@[simp] theorem ruleIso_otp_first (id : ObjId) (data : Bytes) (s : State) : ∀ τ, ((ruleIso id data s).first τ).1.lc.otp = τ.lc.otp := by intro τ; unfold ruleIso; dsimp only; (repeat' split) <;> (first | (simp only [ruleWrite_otp_first, commitRule_otp_first, portRule_otp_first, setObj_otp, plainRule_otp_first, implies_true]; done) | with_reducible rfl | (simp_all; done))
@[simp] theorem rulePair_otp_act (p : Nat) (sub : Nat) (id : ObjId) (data : Bytes) (s : State) : ∀ τ, ((rulePair p sub id data s).act τ).lc.otp = τ.lc.otp := by intro τ; unfold rulePair; dsimp only; (repeat' split) <;> (first | (simp only [plainRule_otp_act, tenantRule_otp_act, disableRule_otp_act, enableRule_otp_act]; done) | with_reducible rfl | (simp_all; done))
@[simp] theorem rulePair_otp_first (p : Nat) (sub : Nat) (id : ObjId) (data : Bytes) (s : State) : ∀ τ, ((rulePair p sub id data s).first τ).1.lc.otp = τ.lc.otp := by intro τ; unfold rulePair; dsimp only; (repeat' split) <;> (first | (simp only [plainRule_otp_first, tenantRule_otp_first, disableRule_otp_first, enableRule_otp_first]; done) | with_reducible rfl | (simp_all; done))
@[simp] theorem ruleTenant_otp_act (t : Nat) (sub : Nat) (id : ObjId) (data : Bytes) (s : State) : ∀ τ, ((ruleTenant t sub id data s).act τ).lc.otp = τ.lc.otp := by intro τ; simp only [ruleTenant]; (repeat' split) <;> (first | (simp only [createRule_otp_act, deleteRule_otp_act, fenceRule_otp_act, unfenceTenant_otp, operatorFence_otp, rulePair_otp_act, tenantRule_otp_act, implies_true]; done) | with_reducible rfl | (simp_all; done))
@[simp] theorem ruleTenant_otp_first (t : Nat) (sub : Nat) (id : ObjId) (data : Bytes) (s : State) : ∀ τ, ((ruleTenant t sub id data s).first τ).1.lc.otp = τ.lc.otp := by intro τ; simp only [ruleTenant]; (repeat' split) <;> (first | (simp only [createRule_otp_first, deleteRule_otp_first, fenceRule_otp_first, unfenceTenant_otp, operatorFence_otp, rulePair_otp_first, tenantRule_otp_first, implies_true]; done) | with_reducible rfl | (simp_all; done))
@[simp] theorem ruleEngines_otp_act (id : ObjId) (data : Bytes) (s : State) : ∀ τ, ((ruleEngines id data s).act τ).lc.otp = τ.lc.otp := by intro τ; simp only [ruleEngines]; (repeat' split) <;> (first | (simp only [latLockRule_otp_act, measOwnerRule_otp_act, plainRule_otp_act]; done) | with_reducible rfl | (simp_all; done))
@[simp] theorem ruleEngines_otp_first (id : ObjId) (data : Bytes) (s : State) : ∀ τ, ((ruleEngines id data s).first τ).1.lc.otp = τ.lc.otp := by intro τ; simp only [ruleEngines]; (repeat' split) <;> (first | (simp only [latLockRule_otp_first, measOwnerRule_otp_first, plainRule_otp_first]; done) | with_reducible rfl | (simp_all; done))
@[simp] theorem ruleKreg_otp_act (id : ObjId) (data : Bytes) (s : State) : ∀ τ, ((ruleKreg id data s).act τ).lc.otp = τ.lc.otp := by intro τ; simp only [ruleKreg]; (repeat' split) <;> (first | (simp only [fillStartRule_otp_act, archCompactRule_otp_act, archInitRule_otp_act, plainRule_otp_act]; done) | with_reducible rfl | (simp_all; done))
@[simp] theorem ruleKreg_otp_first (id : ObjId) (data : Bytes) (s : State) : ∀ τ, ((ruleKreg id data s).first τ).1.lc.otp = τ.lc.otp := by intro τ; simp only [ruleKreg]; (repeat' split) <;> (first | (simp only [fillStartRule_otp_first, archCompactRule_otp_first, archInitRule_otp_first, plainRule_otp_first]; done) | with_reducible rfl | (simp_all; done))
@[simp] theorem rulePort_otp_act (p : Nat) (sub : Nat) (id : ObjId) (data : Bytes) (s : State) : ∀ τ, ((rulePort p sub id data s).act τ).lc.otp = τ.lc.otp := by intro τ; unfold rulePort; dsimp only; (repeat' split) <;> (first | (simp only [plainRule_otp_act, portRule_otp_act, portOff_otp, portOn_otp, updateFlow_otp, implies_true]; done) | with_reducible rfl | (simp_all; done))
@[simp] theorem rulePort_otp_first (p : Nat) (sub : Nat) (id : ObjId) (data : Bytes) (s : State) : ∀ τ, ((rulePort p sub id data s).first τ).1.lc.otp = τ.lc.otp := by intro τ; unfold rulePort; dsimp only; (repeat' split) <;> (first | (simp only [plainRule_otp_first, portRule_otp_first, portOff_otp, portOn_otp, implies_true]; done) | with_reducible rfl | (simp_all; done))
@[simp] theorem ruleCircuit_otp_act (c : Nat) (sub : Nat) (id : ObjId) (data : Bytes) (s : State) : ∀ τ, ((ruleCircuit c sub id data s).act τ).lc.otp = τ.lc.otp := by intro τ; unfold ruleCircuit; dsimp only; (repeat' split) <;> (first | (simp only [portRule_otp_act, unbindCircuit_otp, bindRule_otp_act, transformRule_otp_act, zeroiseCircuit_otp, plainRule_otp_act, trigger_otp, implies_true]; done) | with_reducible rfl | (simp_all; done))
@[simp] theorem ruleCircuit_otp_first (c : Nat) (sub : Nat) (id : ObjId) (data : Bytes) (s : State) : ∀ τ, ((ruleCircuit c sub id data s).first τ).1.lc.otp = τ.lc.otp := by intro τ; unfold ruleCircuit; dsimp only; (repeat' split) <;> (first | (simp only [portRule_otp_first, unbindCircuit_otp, bindRule_otp_first, transformRule_otp_first, zeroiseCircuit_otp, plainRule_otp_first, trigger_otp, implies_true]; done) | with_reducible rfl | (simp_all; done))
@[simp] theorem ruleService_otp_act (n : Nat) (sub : Nat) (id : ObjId) (data : Bytes) (s : State) : ∀ τ, ((ruleService n sub id data s).act τ).lc.otp = τ.lc.otp := by intro τ; unfold ruleService; dsimp only; (repeat' split) <;> (first | (simp only [plainRule_otp_act, portRule_otp_act, noticed_otp, setCell_otp, cellLoadRule_otp_act, cellResetRule_otp_act, implies_true]; done) | with_reducible rfl | (simp_all; done))
@[simp] theorem ruleService_otp_first (n : Nat) (sub : Nat) (id : ObjId) (data : Bytes) (s : State) : ∀ τ, ((ruleService n sub id data s).first τ).1.lc.otp = τ.lc.otp := by intro τ; unfold ruleService; dsimp only; (repeat' split) <;> (first | (simp only [plainRule_otp_first, portRule_otp_first, noticed_otp, setCell_otp, cellLoadRule_otp_first, cellResetRule_otp_first, implies_true]; done) | with_reducible rfl | (simp_all; done))
@[simp] theorem ruleErrors_otp_act (id : ObjId) (data : Bytes) (s : State) : ∀ τ, ((ruleErrors id data s).act τ).lc.otp = τ.lc.otp := by intro τ; simp only [ruleErrors]; (repeat' split) <;> (first | (simp only [errResetRule_otp_act, reinitRule_otp_act, rngReinitRule_otp_act, plainRule_otp_act]; done) | with_reducible rfl | (simp_all; done))
@[simp] theorem ruleErrors_otp_first (id : ObjId) (data : Bytes) (s : State) : ∀ τ, ((ruleErrors id data s).first τ).1.lc.otp = τ.lc.otp := by intro τ; simp only [ruleErrors]; (repeat' split) <;> (first | (simp only [errResetRule_otp_first, reinitRule_otp_first, rngReinitRule_otp_first, plainRule_otp_first]; done) | with_reducible rfl | (simp_all; done))
@[simp] theorem setCard_otp (k : Card) (s : State) : (setCard k s).lc.otp = s.lc.otp := by simp only [setCard, rouseCore_otp, noticed_otp, ite_otp, ite_self]
@[simp] theorem activateCard_otp (s : State) : (activateCard s).lc.otp = s.lc.otp := by simp only [activateCard, setCard_otp, emit_otp, ite_otp, ite_self]
@[simp] theorem rejectCard_otp (s : State) : (rejectCard s).lc.otp = s.lc.otp := by simp only [rejectCard, emit_otp, setCard_otp]
@[simp] theorem refuseCard_otp (s : State) : (refuseCard s).lc.otp = s.lc.otp := by simp only [refuseCard, setCard_otp]
theorem execCardInsert_otp (s : State) : ∃ τ, execCardInsert s = .next τ ∧ τ.lc.otp = s.lc.otp := by refine ⟨_, rfl, ?_⟩; simp only [activateCard_otp, ite_otp, ite_self]
theorem execCardAtr_otp (valid : Bool) (t1lrc : Bool) (s : State) : ∃ τ, execCardAtr valid t1lrc s = .next τ ∧ τ.lc.otp = s.lc.otp := by refine ⟨_, rfl, ?_⟩; (repeat' split) <;> (first | (simp only [rejectCard_otp, emit_otp, setCard_otp]; done) | with_reducible rfl | (simp_all; done))
theorem execCardSelect_otp (sw : Nat) (s : State) : ∃ τ, execCardSelect sw s = .next τ ∧ τ.lc.otp = s.lc.otp := by refine ⟨_, rfl, ?_⟩; (repeat' split) <;> (first | (simp only [refuseCard_otp, emit_otp, setCard_otp]; done) | with_reducible rfl | (simp_all; done))
@[simp] theorem askLogin_otp (o : Nat) (keys : Bytes) (s : State) : (askLogin o keys s).lc.otp = s.lc.otp := by simp only [askLogin, draw_otp, emit_otp, setCard_otp]
theorem execCardGetKeys_otp (sw : Nat) (data : Bytes) (s : State) : ∃ τ, execCardGetKeys sw data s = .next τ ∧ τ.lc.otp = s.lc.otp := by refine ⟨_, rfl, ?_⟩; (repeat' split) <;> (first | (simp only [refuseCard_otp, setCard_otp, askLogin_otp]; done) | with_reducible rfl | (simp_all; done))
@[simp] theorem openCard_otp (o : Nat) (s : State) : (openCard o s).lc.otp = s.lc.otp := by simp only [openCard, askFill_otp, setObj_otp, setCard_otp]
@[simp] theorem endApproval_otp (report : Bool) (e : Result) (s : State) : (endApproval report e s).lc.otp = s.lc.otp := by simp only [endApproval, deliver_otp, ite_otp, ite_self]
@[simp] theorem notApproved_otp (obj : ObjId) (report : Bool) (s : State) : (notApproved obj report s).lc.otp = s.lc.otp := by simp only [notApproved, endApproval_otp, countRefused_otp, usedFree_otp]
@[simp] theorem askComponent_otp (stmt : Bytes) (s : State) : (askComponent stmt s).lc.otp = s.lc.otp := by simp only [askComponent, draw_otp, emit_otp, keepSecret_otp, setCard_otp]
theorem execCardGetComponent_otp (sw : Nat) (data : Bytes) (s : State) : ∃ τ, execCardGetComponent sw data s = .next τ ∧ τ.lc.otp = s.lc.otp := by refine ⟨_, rfl, ?_⟩; dsimp only; (repeat' split) <;> (first | (simp only [endFillStep_otp, failFill_otp, addComponent_otp]; done) | with_reducible rfl | (simp_all; done))
@[simp] theorem dropOperation_otp (s : State) : (dropOperation s).lc.otp = s.lc.otp := by unfold dropOperation; (repeat' split) <;> (first | (simp only [notApproved_otp, failFill_otp]; done) | with_reducible rfl | (simp_all; done))
theorem execCardRemove_otp (s : State) : ∃ τ, execCardRemove s = .next τ ∧ τ.lc.otp = s.lc.otp := by refine ⟨_, rfl, ?_⟩; simp only [dropOperation_otp, emit_otp, setCard_otp, ite_otp, ite_self]
theorem execCardIdleTimeout_otp (s : State) : ∃ τ, execCardIdleTimeout s = .next τ ∧ τ.lc.otp = s.lc.otp := by refine ⟨_, rfl, ?_⟩; simp only [closeCard_otp, advanceTo_otp, ite_otp, ite_self]
@[simp] theorem copyLatch_otp (burns : Bool) (level : Nat) (s : State) : (copyLatch burns level s).lc.otp = s.lc.otp := by unfold copyLatch; (repeat' split) <;> (first | (simp only [logTamper_otp, implies_true, ite_otp, ite_self]; done) | with_reducible rfl | (simp_all; done))
@[simp] theorem loadOtp_otp (s : State) : (loadOtp s).lc.otp = s.lc.otp := by simp only [loadOtp]
@[simp] theorem countBoot_otp (s : State) : (countBoot s).lc.otp = s.lc.otp := by simp only [countBoot, usedFree_otp]
@[simp] theorem bootPower_otp (e : Option Int) (s : State) : (bootPower e s).lc.otp = s.lc.otp := by unfold bootPower; (repeat' split) <;> (first | (simp only [setDivider_otp, setObj_otp]; done) | with_reducible rfl | (simp_all; done))
@[simp] theorem tagSupervisor_otp (s : State) : (tagSupervisor s).lc.otp = s.lc.otp := by simp only [tagSupervisor, retag_otp]
@[simp] theorem castKey_otp (n : Nat) (len : Nat) (label : String) (s : State) : (castKey n len label s).2.lc.otp = s.lc.otp := by unfold castKey; (repeat' split) <;> (first | (simp only [draw_otp]; done) | with_reducible rfl | (simp_all; done))
@[simp] theorem castKeys_otp (s : State) : (castKeys s).lc.otp = s.lc.otp := by simp only [castKeys, castKey_otp]
@[simp] theorem phaseC2_otp (env : CastEnv) (s : State) : (phaseC2 env s).lc.otp = s.lc.otp := by simp only [phaseC2, castKeys_otp, rngStarts_otp, usedFree_otp, setObj_otp, rngDies_otp, ite_otp, ite_self]
@[simp] theorem copyFailed_otp (s : State) : (copyFailed s).st.lc.otp = s.lc.otp := by simp only [copyFailed, putRec_otp, lastErr_otp]
@[simp] theorem copyTook_otp (env : CastEnv) (s : State) : (copyTook env s).lc.otp = s.lc.otp := by simp only [copyTook, setObj_otp]
@[simp] theorem stepD_otp (s : State) : (stepD s).st.lc.otp = s.lc.otp := by simp only [stepD, usedFree_otp, putRec_otp]
@[simp] theorem stepC_otp (env : CastEnv) (s : State) : (stepC env s).st.lc.otp = s.lc.otp := by unfold stepC; (repeat' split) <;> (first | (simp only [copyTook_otp, putRec_otp, stepD_otp, copyFailed_otp]; done) | with_reducible rfl | (simp_all; done))
@[simp] theorem stepB_otp (env : CastEnv) (s : State) : (stepB env s).st.lc.otp = s.lc.otp := by unfold stepB; (repeat' split) <;> (first | (simp only [stepC_otp, copyTook_otp, putRec_otp, copyFailed_otp]; done) | with_reducible rfl | (simp_all; done))
@[simp] theorem stepA_otp (env : CastEnv) (s : State) : (stepA env s).st.lc.otp = s.lc.otp := by unfold stepA; dsimp only; (repeat' split) <;> (first | (simp only [stepB_otp, putRec_otp, lastErr_otp]; done) | with_reducible rfl | (simp_all; done))
@[simp] theorem fallBack_otp (env : CastEnv) (s : State) : (fallBack env s).st.lc.otp = s.lc.otp := by simp only [fallBack, copyTook_otp, putRec_otp, lastErr_otp, ite_otp, ite_self]
@[simp] theorem copies_otp (env : CastEnv) (s : State) : (copies env s).st.lc.otp = s.lc.otp := by unfold copies; dsimp only; (repeat' split) <;> (first | (simp only [fallBack_otp, stepB_otp, stepC_otp, stepA_otp]; done) | with_reducible rfl | (simp_all; done))
@[simp] theorem areaFailed_otp (a : Nat) (e : BundleErr) (s : State) : (areaFailed a e s).lc.otp = s.lc.otp := by simp only [areaFailed, lastErr_otp, putRec_otp, ite_otp, ite_self]
@[simp] theorem chooseArea_otp (fallbackFirst : Bool) (s : State) : (chooseArea fallbackFirst s).2.lc.otp = s.lc.otp := by unfold chooseArea; dsimp only; (repeat' split) <;> (first | (simp only [areaFailed_otp]; done) | with_reducible rfl | (simp_all; done))
@[simp] theorem setComp_otp (t : Nat) (v : Nat) (s : State) : (setComp t v s).lc.otp = s.lc.otp := by simp only [setComp, setObj_otp]
@[simp] theorem placeFirmware_otp (b : Bytes) (s : State) : (placeFirmware b s).lc.otp = s.lc.otp := by unfold placeFirmware; (repeat' split) <;> (first | (simp only [setComp_otp, memWrite_otp]; done) | with_reducible rfl | (simp_all; done))
@[simp] theorem startFirmware_otp (s : State) : (startFirmware s).lc.otp = s.lc.otp := by simp only [startFirmware, usedFree_otp]
@[simp] theorem placeThresholds_otp (b : Bytes) (s : State) : (placeThresholds b s).lc.otp = s.lc.otp := by unfold placeThresholds; (repeat' split) <;> (first | (simp only; done) | with_reducible rfl | (simp_all; done))
@[simp] theorem phaseC3_otp (a : Nat) (s : State) : (phaseC3 a s).lc.otp = s.lc.otp := by simp only [phaseC3, extendMeas_otp, placeThresholds_otp, startFirmware_otp, placeFirmware_otp]
@[simp] theorem loadPatch_otp (b : Bytes) (bad : List Nat) (s : State) (cls : Nat) : (loadPatch b bad s cls).lc.otp = s.lc.otp := by unfold loadPatch; (repeat' split) <;> (first | (simp only [setComp_otp, setObj_otp, ite_otp, ite_self]; done) | with_reducible rfl | (simp_all; done))
@[simp] theorem loadBlockPatch_otp (b : Bytes) (bad : List Nat) (s : State) (t : Nat) : (loadBlockPatch b bad s t).lc.otp = s.lc.otp := by simp only [loadBlockPatch, setComp_otp, ite_otp, ite_self]
theorem execArchiveRestore_otp (torn : Bool) (bad : Option Nat) (s : State) : ∃ τ, execArchiveRestore torn bad s = .next τ ∧ τ.lc.otp = s.lc.otp := by refine ⟨_, rfl, ?_⟩; simp only [renewPolls_otp, admitInternal_otp, queueRebuilds_otp, setObj_otp, restoreArchive_otp, ite_otp, ite_self]
@[simp] theorem phaseC5_otp (env : CastEnv) (s : State) : (phaseC5 env s).lc.otp = s.lc.otp := by simp only [phaseC5, queueRebuilds_otp, restoreArchive_otp, attestKeys_otp, ite_otp, ite_self]
@[simp] theorem convert_otp (env : CastEnv) (s : State) : (convert env s).lc.otp = s.lc.otp := by unfold convert; dsimp only; (repeat' split) <;> (first | (simp only [putArea_otp]; done) | with_reducible rfl | (simp_all; done))
@[simp] theorem putObj_otp (id : Nat) (v : Nat) (s : State) : (putObj id v s).lc.otp = s.lc.otp := by simp only [putObj]
@[simp] theorem skipRecord_otp (s : State) : (skipRecord s).lc.otp = s.lc.otp := by simp only [skipRecord, bump_otp]
@[simp] theorem loadRecord_otp (recs : List (ObjId × Bytes)) (s : State) (p : ObjId × Bytes) : (loadRecord recs s p).lc.otp = s.lc.otp := by unfold loadRecord; (repeat' split) <;> (first | (simp only [skipRecord_otp, putObj_otp]; done) | with_reducible rfl | (simp_all; done))
@[simp] theorem rebuildTenant_otp (s : State) (p : ObjId × Bytes) : (rebuildTenant s p).lc.otp = s.lc.otp := by simp only [rebuildTenant, putObj_otp, ite_otp, ite_self]
@[simp] theorem rebuildCircuit_otp (recs : List (ObjId × Bytes)) (s : State) (p : ObjId × Bytes) : (rebuildCircuit recs s p).lc.otp = s.lc.otp := by simp only [rebuildCircuit, bindCircuit_otp, skipRecord_otp, ite_otp, ite_self]
@[simp] theorem clearCfg_otp (s : State) : (clearCfg s).lc.otp = s.lc.otp := by unfold clearCfg; (repeat' split) <;> (first | (simp only; done) | with_reducible rfl | (simp_all; done))
@[simp] theorem loadSettings_otp (env : CastEnv) (s : State) : (loadSettings env s).lc.otp = s.lc.otp := by unfold loadSettings; dsimp only; (repeat' split) <;> (first | (simp only [putObj_otp, clearCfg_otp, convert_otp]; done) | with_reducible rfl | (simp_all; done))
@[simp] theorem lockRules_otp (s : State) : (lockRules s).lc.otp = s.lc.otp := by simp only [lockRules]
@[simp] theorem lockMission_otp (s : State) : (lockMission s).lc.otp = s.lc.otp := by simp only [lockMission, lockObjs_otp, ite_otp, ite_self]
@[simp] theorem loadProgram_otp (b : Bytes) (s : State) (n : Nat) : (loadProgram b s n).lc.otp = s.lc.otp := by unfold loadProgram; (repeat' split) <;> (first | (simp only [setComp_otp, loadNow_otp, extendMeas_otp, ite_otp, ite_self]; done) | with_reducible rfl | (simp_all; done))
@[simp] theorem measureSettings_otp (s : State) : (measureSettings s).lc.otp = s.lc.otp := by simp only [measureSettings, extendMeas_otp, setComp_otp, ite_otp, ite_self]
@[simp] theorem startPorts_otp (s : State) : (startPorts s).lc.otp = s.lc.otp := by
  exact foldl_otp _ (fun t p => by split <;> simp) _ _
@[simp] theorem phaseC6_otp (env : CastEnv) (s : State) : (phaseC6 env s).lc.otp = s.lc.otp := by unfold phaseC6; (repeat' split) <;> (first | (simp only [driveGpio_otp, writePhy_otp, startPorts_otp]; done) | with_reducible rfl | (simp_all; done))
@[simp] theorem castTook_otp (long : Bool) (s : State) : (castTook long s).lc.otp = s.lc.otp := by simp only [castTook, advanceTo_otp, usedFree_otp, putObj_otp]
@[simp] theorem deviceReady_otp (env : CastEnv) (s : State) : (deviceReady env s).lc.otp = s.lc.otp := by simp only [deviceReady, beginPlan_otp, admitInternal_otp, putObj_otp, alarmPin_otp, activateCard_otp, ite_otp, ite_self]
@[simp] theorem scrapEnds_otp (s : State) : (scrapEnds s).lc.otp = s.lc.otp := by simp only [scrapEnds, castTook_otp]
@[simp] theorem arriving_otp (type : Nat) (d : Datagram) (k : Bytes → State → State) (s : State) (h2 : ∀ v0 τ, (k v0 τ).lc.otp = τ.lc.otp) : (arriving type d k s).lc.otp = s.lc.otp := by unfold arriving; (repeat' split) <;> (first | (simp only [bump_otp]; done) | with_reducible rfl | (simp_all; done))
@[simp] theorem setSession_otp (k : Nat) (x : Session) (s : State) : (setSession k x s).lc.otp = s.lc.otp := by simp only [setSession]
@[simp] theorem authentic_otp (b : Bytes) (k : Nat → Session → State → State) (s : State) (h1 : ∀ v0 v1 τ, (k v0 v1 τ).lc.otp = τ.lc.otp) : (authentic b k s).lc.otp = s.lc.otp := by unfold authentic; (repeat' split) <;> (first | (simp only [bump_otp, closeSession_otp]; done) | with_reducible rfl | (simp_all; done))
@[simp] theorem acceptReq_otp (n : Nat) (x : Session) (op : AccOp) (p : Bytes) (s : State) : (acceptReq n x op p s).lc.otp = s.lc.otp := by unfold acceptReq; (repeat' split) <;> (first | (simp only [setSession_otp, deliver_otp, setCallerSt_otp, ite_otp, ite_self]; done) | with_reducible rfl | (simp_all; done))
@[simp] theorem request_otp (op : AccOp) (b : Bytes) (n : Nat) (x : Session) (s : State) : (request op b n x s).lc.otp = s.lc.otp := by unfold request; dsimp only; (repeat' split) <;> (first | (simp only [sendData_otp, setSession_otp, bump_otp, acceptReq_otp]; done) | with_reducible rfl | (simp_all; done))
@[simp] theorem dataIn_otp (type : Nat) (op : Bytes → AccOp) (d : Datagram) (s : State) : (dataIn type op d s).lc.otp = s.lc.otp := by simp only [dataIn, arriving_otp, authentic_otp, request_otp, implies_true]
theorem execOapRead_otp (d : Datagram) (s : State) : ∃ τ, execOapRead d s = .next τ ∧ τ.lc.otp = s.lc.otp := by refine ⟨_, rfl, ?_⟩; simp only [dataIn_otp]
theorem execOapWrite_otp (d : Datagram) (s : State) : ∃ τ, execOapWrite d s = .next τ ∧ τ.lc.otp = s.lc.otp := by refine ⟨_, rfl, ?_⟩; simp only [dataIn_otp]
theorem execOapReadBlock_otp (d : Datagram) (s : State) : ∃ τ, execOapReadBlock d s = .next τ ∧ τ.lc.otp = s.lc.otp := by refine ⟨_, rfl, ?_⟩; simp only [dataIn_otp]
theorem execOapWriteBlock_otp (d : Datagram) (s : State) : ∃ τ, execOapWriteBlock d s = .next τ ∧ τ.lc.otp = s.lc.otp := by refine ⟨_, rfl, ?_⟩; simp only [dataIn_otp]
theorem execClose_otp (d : Datagram) (s : State) : ∃ τ, execClose d s = .next τ ∧ τ.lc.otp = s.lc.otp := by refine ⟨_, rfl, ?_⟩; simp only [arriving_otp, authentic_otp, closeSession_otp, implies_true]
@[simp] theorem dropSetup_otp (n : Nat) (s : State) : (dropSetup n s).lc.otp = s.lc.otp := by simp only [dropSetup, dropSecret_otp]
theorem execOapSetupTimeout_otp (slot : Nat) (s : State) : ∃ τ, execOapSetupTimeout slot s = .next τ ∧ τ.lc.otp = s.lc.otp := by refine ⟨_, rfl, ?_⟩; (repeat' split) <;> (first | (simp only [advanceTo_otp, dropSetup_otp]; done) | with_reducible rfl | (simp_all; done))
theorem execOapIdleTimeout_otp (slot : Nat) (s : State) : ∃ τ, execOapIdleTimeout slot s = .next τ ∧ τ.lc.otp = s.lc.otp := by refine ⟨_, rfl, ?_⟩; (repeat' split) <;> (first | (simp only [closeSession_otp, advanceTo_otp]; done) | with_reducible rfl | (simp_all; done))
theorem execOapMaxLife_otp (slot : Nat) (s : State) : ∃ τ, execOapMaxLife slot s = .next τ ∧ τ.lc.otp = s.lc.otp := by refine ⟨_, rfl, ?_⟩; (repeat' split) <;> (first | (simp only [closeSession_otp, advanceTo_otp]; done) | with_reducible rfl | (simp_all; done))
@[simp] theorem notify_otp (slot : Nat) (obj : ObjId) (gpio : Nat) (s : State) : (notify slot obj gpio s).lc.otp = s.lc.otp := by unfold notify; dsimp only; (repeat' split) <;> (first | (simp only [advanceTo_otp, setSession_otp, sendData_otp, noteRead_otp]; done) | with_reducible rfl | (simp_all; done))
theorem execNotify_otp (slot : Nat) (obj : ObjId) (gpio : Nat) (s : State) : ∃ τ, execNotify slot obj gpio s = .next τ ∧ τ.lc.otp = s.lc.otp := by refine ⟨_, rfl, ?_⟩; simp only [notify_otp, lookAround_otp, ite_otp, ite_self]
theorem execIcmpv6Echo_otp (d : Datagram) (s : State) : ∃ τ, execIcmpv6Echo d s = .next τ ∧ τ.lc.otp = s.lc.otp := by refine ⟨_, rfl, ?_⟩; simp only [emit_otp, ite_otp, ite_self]
theorem execNeighbourDiscovery_otp (d : Datagram) (s : State) : ∃ τ, execNeighbourDiscovery d s = .next τ ∧ τ.lc.otp = s.lc.otp := by refine ⟨_, rfl, ?_⟩; simp only [emit_otp, ite_otp, ite_self]
@[simp] theorem putSetup_otp (n : Nat) (u : Setup) (s : State) : (putSetup n u s).lc.otp = s.lc.otp := by simp only [putSetup]
@[simp] theorem failSetup_otp (n : Nat) (s : State) : (failSetup n s).lc.otp = s.lc.otp := by simp only [failSetup, bump_otp, dropSetup_otp]
@[simp] theorem mgSignPq_otp (p : Nat) (h : Nat) (ctx : Bytes) (msg : Bytes) (s : State) : (mgSignPq p h ctx msg s).2.lc.otp = s.lc.otp := by simp only [mgSignPq, draw_otp, touchSlot_otp, signIterMax_otp]
@[simp] theorem mgSignCl_otp (p : Nat) (h : Nat) (msg : Bytes) (s : State) : (mgSignCl p h msg s).2.lc.otp = s.lc.otp := by simp only [mgSignCl, draw_otp, touchSlot_otp]
@[simp] theorem mgEncaps_otp (u : Nat) (m : Bytes) (s : State) : (mgEncaps u m s).2.2.lc.otp = s.lc.otp := by simp only [mgEncaps, draw_otp]
@[simp] theorem mgAgree_otp (u : Nat) (m : Bytes) (s : State) : (mgAgree u m s).2.2.lc.otp = s.lc.otp := by unfold mgAgree; (repeat' split) <;> (first | (simp only [draw_otp]; done) | with_reducible rfl | (simp_all; done))
@[simp] theorem sendG2_otp (u : Setup) (id : Nat) (m : Bytes) (s : State) : (sendG2 u id m s).2.lc.otp = s.lc.otp := by simp only [sendG2]
@[simp] theorem openSession_otp (k : Nat) (p : Nat) (x : Setup) (keys : Bytes × Bytes) (s : State) : (openSession k p x keys s).lc.otp = s.lc.otp := by simp only [openSession, keepSecret_otp, setSession_otp]
@[simp] theorem admitG3_otp (n : Nat) (x : Setup) (m : Bytes) (ok : Bool) (keys : Bytes × Bytes) (s : State) : (admitG3 n x m ok keys s).lc.otp = s.lc.otp := by unfold admitG3; dsimp only; (repeat' split) <;> (first | (simp only [openSession_otp, dropSetup_otp, bump_otp, failSetup_otp]; done) | with_reducible rfl | (simp_all; done))
@[simp] theorem setWin_otp (w : Window) (s : State) : (setWin w s).lc.otp = s.lc.otp := by simp only [setWin]
@[simp] theorem writeMsix_otp (off : Nat) (v : Word) (s : State) : (writeMsix off v s).lc.otp = s.lc.otp := by unfold writeMsix; (repeat' split) <;> (first | (simp only [emit_otp, ite_otp, ite_self]; done) | with_reducible rfl | (simp_all; done))
@[simp] theorem guarded_otp (f : Window → Window) (s : State) : (guarded f s).lc.otp = s.lc.otp := by simp only [guarded, setWin_otp, ite_otp, ite_self]
@[simp] theorem popNotification_otp (s : State) : (popNotification s).lc.otp = s.lc.otp := by simp only [popNotification, lookAround_otp, setWin_otp]
@[simp] theorem command_otp (op : AccOp) (len : Nat) (s : State) : (command op len s).lc.otp = s.lc.otp := by simp only [command, setWin_otp, ite_otp, ite_self]
@[simp] theorem writeReg_otp (off : Nat) (v : Word) (s : State) : (writeReg off v s).lc.otp = s.lc.otp := by simp only [writeReg, setRun_otp, guarded_otp, command_otp, setWin_otp, popNotification_otp, writeMsix_otp, ite_otp, ite_self]
theorem execDwinRead_otp (s : State) : ∃ τ, execDwinRead s = .next τ ∧ τ.lc.otp = s.lc.otp := by refine ⟨_, rfl, ?_⟩; simp only [command_otp]
theorem execDwinWrite_otp (len : Nat) (s : State) : ∃ τ, execDwinWrite len s = .next τ ∧ τ.lc.otp = s.lc.otp := by refine ⟨_, rfl, ?_⟩; simp only [command_otp]
theorem execDwinReadBlock_otp (s : State) : ∃ τ, execDwinReadBlock s = .next τ ∧ τ.lc.otp = s.lc.otp := by refine ⟨_, rfl, ?_⟩; simp only [command_otp]
theorem execDwinWriteBlock_otp (len : Nat) (s : State) : ∃ τ, execDwinWriteBlock len s = .next τ ∧ τ.lc.otp = s.lc.otp := by refine ⟨_, rfl, ?_⟩; simp only [command_otp]
theorem execDwinWriteBlockLast_otp (len : Nat) (s : State) : ∃ τ, execDwinWriteBlockLast len s = .next τ ∧ τ.lc.otp = s.lc.otp := by refine ⟨_, rfl, ?_⟩; simp only [command_otp]
theorem execDwinNtfPop_otp (a0 : Word) (s : State) : ∃ τ, execDwinNtfPop a0 s = .next τ ∧ τ.lc.otp = s.lc.otp := by refine ⟨_, rfl, ?_⟩; simp only [popNotification_otp, ite_otp, ite_self]
@[simp] theorem applyRead_otp (env : ApplyEnv) (w : Who) (r : AccessReq) (s : State) : (applyRead env w r s).lc.otp = s.lc.otp := by unfold applyRead; (repeat' split) <;> (first | (simp only [deliver_otp, countRefused_otp, serveRead_otp]; done) | with_reducible rfl | (simp_all; done))
@[simp] theorem answerSegment_otp (w : Who) (r : AccessReq) (v : Bytes) (s : State) : (answerSegment w r v s).lc.otp = s.lc.otp := by simp only [answerSegment, deliver_otp]
@[simp] theorem trackRead_otp (w : Who) (id : ObjId) (v : Bytes) (s : State) : (trackRead w id v s).lc.otp = s.lc.otp := by simp only [trackRead, setCallerSt_otp]
@[simp] theorem refuseSegment_otp (w : Who) (r : AccessReq) (e : Result) (total : Nat) (s : State) : (refuseSegment w r e total s).lc.otp = s.lc.otp := by simp only [refuseSegment, deliver_otp]
@[simp] theorem applyReadBlock_otp (env : ApplyEnv) (w : Who) (r : AccessReq) (s : State) : (applyReadBlock env w r s).lc.otp = s.lc.otp := by unfold applyReadBlock; (repeat' split) <;> (first | (simp only [trackRead_otp, refuseSegment_otp, countRefused_otp, answerSegment_otp, noteRead_otp, serveRead_otp, ite_otp, ite_self]; done) | with_reducible rfl | (simp_all; done))
@[simp] theorem setBlock_otp (w : Who) (b : Option BlockWrite) (s : State) : (setBlock w b s).lc.otp = s.lc.otp := by simp only [setBlock, setCallerSt_otp]
@[simp] theorem answerWrite_otp (w : Who) (r : AccessReq) (e : Result) (s : State) : (answerWrite w r e s).lc.otp = s.lc.otp := by simp only [answerWrite, deliver_otp]
@[simp] theorem idle_otp (s : State) : (idle s).lc.otp = s.lc.otp := by simp only [idle, lookAround_otp]
@[simp] theorem State_withFetchWord_otp (s : State) (nbits : Nat) (w : Nat) : (State.withFetchWord s nbits w).lc.otp = s.lc.otp := by unfold State.withFetchWord; (repeat' split) <;> (first | (simp only; done) | with_reducible rfl | (simp_all; done))
/-- What OtpInv asks of the OTP itself. -/
def OtpKept (o p : Otp) : Prop := p.evidence ≤ 256 ∧ tabWf (fun _ => 0) p.secver = true ∧ BurntFrom o p
theorem ite_kept {otp : Otp} (c : Prop) [Decidable c] {a b : State} (ha : OtpKept otp a.lc.otp) (hb : OtpKept otp b.lc.otp) :
    OtpKept otp (if c then a else b).lc.otp := by split <;> assumption
theorem OtpKept.of_eq {otp p q : Otp} (h : OtpKept otp p) (e : q = p) : OtpKept otp q := e ▸ h
theorem foldl_kept {otp : Otp} {α : Type} (g : State → α → State) (h : ∀ t x, OtpKept otp t.lc.otp → OtpKept otp (g t x).lc.otp)
    (l : List α) (s : State) (hk : OtpKept otp s.lc.otp) : OtpKept otp (l.foldl g s).lc.otp := by
  induction l generalizing s with
  | nil => exact hk
  | cons x r ih => rw [List.foldl_cons]; exact ih _ (h _ _ hk)
theorem ite_rule_kept_act {otp : Otp} (c : Prop) [Decidable c] (a b : WriteRule)
    (ha : ∀ τ, OtpKept otp τ.lc.otp → OtpKept otp (a.act τ).lc.otp) (hb : ∀ τ, OtpKept otp τ.lc.otp → OtpKept otp (b.act τ).lc.otp) :
    ∀ τ, OtpKept otp τ.lc.otp → OtpKept otp ((if c then a else b).act τ).lc.otp := by split <;> assumption
theorem ite_rule_kept_first {otp : Otp} (c : Prop) [Decidable c] (a b : WriteRule)
    (ha : ∀ τ, OtpKept otp τ.lc.otp → OtpKept otp (a.first τ).1.lc.otp) (hb : ∀ τ, OtpKept otp τ.lc.otp → OtpKept otp (b.first τ).1.lc.otp) :
    ∀ τ, OtpKept otp τ.lc.otp → OtpKept otp ((if c then a else b).first τ).1.lc.otp := by split <;> assumption
theorem and_or_of_and {n : Nat} {a b : BitVec n} (v : BitVec n) (h : a &&& b = a) : a &&& (b ||| v) = a := by
  rw [← h]; ext i; simp; cases a[i] <;> cases b[i] <;> simp
theorem SlotKept.to_ones {a b : Bytes} : SlotKept a b → SlotKept a (List.replicate 36 0xFF) := fun _ => .inr (.inr rfl)
theorem SlotKept.of_blank {a b : Bytes} (c : Bytes) (h : SlotKept a b) (hb : rootBlank b = true) : SlotKept a c := by
  rcases h with rfl | h | rfl
  · exact .inr (.inl hb)
  · exact .inr (.inl h)
  · exact absurd hb (by decide)
theorem secver_rise (l : List Nat) (m : List Nat) (t : Tab Nat) (hw : tabWf (fun _ => 0) t = true) :
    let u := m.foldl (fun t k => tset (fun _ => 0) t k (max (tget (fun _ => 0) t k) (l.getD (k - 1) 0))) t
    tabWf (fun _ => 0) u = true ∧ ∀ j, tget (fun _ => 0) t j ≤ tget (fun _ => 0) u j := by
  induction m generalizing t with
  | nil => exact ⟨hw, fun _ => Nat.le_refl _⟩
  | cons k r ih =>
    have hr := ((tabWf_iff _ _).mp hw).1
    obtain ⟨h1, h2⟩ := ih _ (tabWf_tset _ t k (max (tget (fun _ => 0) t k) (l.getD (k - 1) 0)) hw)
    refine ⟨h1, fun j => Nat.le_trans ?_ (h2 j)⟩
    by_cases e : j = k
    · subst e; rw [tget_tset_same _ _ _ _ hr]; exact Nat.le_max_left _ _
    · exact Nat.le_of_eq (tget_tset_ne _ _ _ e hr).symm
@[simp] theorem recordWrite_kept {otp : Otp} (id : ObjId) (len : Nat) (act : State → State) (s : State) (h2 : ∀ τ, OtpKept otp (τ).lc.otp → OtpKept otp ((act τ)).lc.otp) : OtpKept otp (s).lc.otp → OtpKept otp (recordWrite id len act s).lc.otp := by intro hk; unfold recordWrite; (repeat' split) <;> (first | assumption | (simp (maxDischargeDepth := 30) only [logRefusal_otp, h2, hk]; done) | with_reducible exact hk | (simp_all (maxDischargeDepth := 30); done))
@[simp] theorem approve_kept {otp : Otp} (id : ObjId) (data : Bytes) (who : Nat) (r : WriteRule) (s : State) (h3 : ∀ τ, OtpKept otp (τ).lc.otp → OtpKept otp (r.act τ).lc.otp) (g3 : ∀ τ, OtpKept otp (τ).lc.otp → OtpKept otp ((r.first τ).1).lc.otp) : OtpKept otp (s).lc.otp → OtpKept otp ((approve id data who r s).1).lc.otp := by intro hk; unfold approve; dsimp only; (repeat' split) <;> (first | assumption | (simp (maxDischargeDepth := 30) only [dropAct_otp, recordApproval_otp, g3, hk]; done) | with_reducible exact hk | (simp_all (maxDischargeDepth := 30); done))
@[simp] theorem serveWrite_kept {otp : Otp} (w : Who) (id : ObjId) (data : Bytes) (r : WriteRule) (s : State) (h3 : ∀ τ, OtpKept otp (τ).lc.otp → OtpKept otp (r.act τ).lc.otp) (g3 : ∀ τ, OtpKept otp (τ).lc.otp → OtpKept otp ((r.first τ).1).lc.otp) : OtpKept otp (s).lc.otp → OtpKept otp ((serveWrite w id data r s).1).lc.otp := by
  intro hk
  unfold serveWrite
  dsimp only
  split
  · exact hk.of_eq (by rw [countRefused_otp]; split <;> simp)
  · split
    · split
      · split
        · exact hk.of_eq (by simp)
        · exact hk.of_eq (askApproval_otp _ _ _ _)
      · exact approve_kept _ _ _ _ _ h3 g3 hk
    · split
      · exact recordWrite_kept _ _ _ _ h3 (g3 _ hk)
      · exact g3 _ hk
@[simp] theorem inTurn_kept {otp : Otp} (a : AccessCmd) (k : Who → State → State) (s : State) (h1 : ∀ v0 τ, OtpKept otp (τ).lc.otp → OtpKept otp ((k v0 τ)).lc.otp) : OtpKept otp (s).lc.otp → OtpKept otp (inTurn a k s).lc.otp := by intro hk; unfold inTurn; (repeat' split) <;> (first | assumption | (simp (maxDischargeDepth := 30) only [takeReq_otp, joinQueue_otp, h1, hk]; done) | with_reducible exact hk | (simp_all (maxDischargeDepth := 30); done))
@[simp] theorem writeAccess_kept {otp : Otp} (c : Caller) (id : ObjId) (data : Bytes) (r : WriteRule) (s : State) (h3 : ∀ τ, OtpKept otp (τ).lc.otp → OtpKept otp (r.act τ).lc.otp) (g3 : ∀ τ, OtpKept otp (τ).lc.otp → OtpKept otp ((r.first τ).1).lc.otp) : OtpKept otp (s).lc.otp → OtpKept otp (writeAccess c id data r s).lc.otp := by intro hk; unfold writeAccess; (repeat' split) <;> (first | assumption | (simp (maxDischargeDepth := 30) only [inTurn_otp, inTurn_kept, deliverWrite_otp, serveWrite_otp, serveWrite_kept, implies_true, ite_kept, h3, g3, hk]; done) | with_reducible exact hk | (simp_all (maxDischargeDepth := 30); done))
@[simp] theorem burn_kept {otp : Otp} (n : Nat) (s : State) : OtpKept otp (s).lc.otp → OtpKept otp (burn n s).lc.otp := by
  intro hk
  unfold burn
  refine OtpKept.of_eq (p := { s.lc.otp with evidence := min 256 (s.lc.otp.evidence + n) }) ?_ (noticed_otp _ _)
  obtain ⟨h1, h2, h3, h4, h5, h6, h7⟩ := hk
  exact ⟨Nat.min_le_left _ _, h2, h3, h4, h5, by simp only; omega, h7⟩
@[simp] theorem applyAlarm_kept {otp : Otp} (n : Nat) (level : Nat) (u : UnitRef) (value : Nat) (flags : Nat) (s : State) : OtpKept otp (s).lc.otp → OtpKept otp (applyAlarm n level u value flags s).lc.otp := by intro hk; unfold applyAlarm; (repeat' split) <;> (first | assumption | (simp (maxDischargeDepth := 30) only [burn_kept, setSource_otp, fenceUnit_otp, noticed_otp, levelActions_otp, alarmPin_otp, logTamper_otp, ite_kept, hk]; done) | with_reducible exact hk | (simp_all (maxDischargeDepth := 30); done))
@[simp] theorem confirm_kept {otp : Otp} (n : Nat) (u : UnitRef) (value : Nat) (flags : Nat) (s : State) : OtpKept otp (s).lc.otp → OtpKept otp (confirm n u value flags s).lc.otp := by intro hk; unfold confirm; simp (maxDischargeDepth := 30) only [setObj_otp, bump_otp, latchAlarm_otp, applyAlarm_kept, ite_kept, hk]
@[simp] theorem tamperEventAt_kept {otp : Otp} (n : Nat) (u : UnitRef) (value : Nat) (t : Time) (s : State) : OtpKept otp (s).lc.otp → OtpKept otp (tamperEventAt n u value t s).lc.otp := by intro hk; unfold tamperEventAt; simp (maxDischargeDepth := 30) only [rouseCore_otp, bump_otp, confirm_kept, setSource_otp, ite_kept, hk]
@[simp] theorem tamperEvent_kept {otp : Otp} (n : Nat) (u : UnitRef) (value : Nat) (s : State) : OtpKept otp (s).lc.otp → OtpKept otp (tamperEvent n u value s).lc.otp := by intro hk; unfold tamperEvent; simp (maxDischargeDepth := 30) only [tamperEventAt_kept, hk]
@[simp] theorem invariantFailure_kept {otp : Otp} (e : Nat) (s : State) : OtpKept otp (s).lc.otp → OtpKept otp (invariantFailure e s).lc.otp := by intro hk; unfold invariantFailure; (repeat' split) <;> (first | assumption | (simp (maxDischargeDepth := 30) only [haltJob_otp, reinitSlice_otp, tamperEvent_kept, bump_otp, hk]; done) | with_reducible exact hk | (simp_all (maxDischargeDepth := 30); done))
@[simp] theorem refusalPolicy_kept {otp : Otp} (colour : Nat) (s : State) : OtpKept otp (s).lc.otp → OtpKept otp (refusalPolicy colour s).lc.otp := by intro hk; unfold refusalPolicy; simp (maxDischargeDepth := 30) only [tamperEvent_kept, fenceTenant_otp, ite_kept, hk]
@[simp] theorem refuse_kept {otp : Otp} (a : FabAcc) (reason : Nat) (bad : Nat) (s : State) : OtpKept otp (s).lc.otp → OtpKept otp (refuse a reason bad s).lc.otp := by intro hk; unfold refuse; simp (maxDischargeDepth := 30) only [refusalPolicy_kept, logRefusal_otp, hk]
@[simp] theorem deviceRefusal_kept {otp : Otp} (a : FabAcc) (u : UnitRef) (reason : Nat) (bad : Nat) (s : State) : OtpKept otp (s).lc.otp → OtpKept otp (deviceRefusal a u reason bad s).lc.otp := by intro hk; unfold deviceRefusal; simp (maxDischargeDepth := 30) only [refuse_kept, stopJob_otp, fenceUnit_otp, tamperEvent_kept, hk]
@[simp] theorem recGuard_kept {otp : Otp} (r : CtxRec) (a : FabAcc) (u : UnitRef) (k : State → State) (s : State) (h3 : ∀ τ, OtpKept otp (τ).lc.otp → OtpKept otp ((k τ)).lc.otp) : OtpKept otp (s).lc.otp → OtpKept otp (recGuard r a u k s).lc.otp := by intro hk; unfold recGuard; (repeat' split) <;> (first | assumption | (simp (maxDischargeDepth := 30) only [deviceRefusal_kept, h3, hk]; done) | with_reducible exact hk | (simp_all (maxDischargeDepth := 30); done))
@[simp] theorem finish_kept {otp : Otp} (e : Nat) (r : Res) (s : State) (h1 : ∀ ρ, OtpKept otp (ρ).lc.otp → OtpKept otp (r.release ρ).lc.otp) : OtpKept otp (s).lc.otp → OtpKept otp (finish e r s).lc.otp := by intro hk; unfold finish; (repeat' split) <;> (first | assumption | (simp (maxDischargeDepth := 30) only [spend_otp, haltJob_otp, endJob_otp, addWait_otp, awaitCommit_otp, h1, hk]; done) | with_reducible exact hk | (simp_all (maxDischargeDepth := 30); done))
@[simp] theorem finishOn_kept {otp : Otp} (e : Nat) (n : Nat) (x : Entry) (r : Res) (s : State) (h3 : ∀ ρ, OtpKept otp (ρ).lc.otp → OtpKept otp (r.release ρ).lc.otp) : OtpKept otp (s).lc.otp → OtpKept otp (finishOn e n x r s).lc.otp := by intro hk; unfold finishOn; (repeat' split) <;> (first | assumption | (simp (maxDischargeDepth := 30) only [deviceRefusal_kept, spend_otp, hk]; done) | with_reducible exact hk | (simp_all (maxDischargeDepth := 30); done))
@[simp] theorem sliceRow_kept {otp : Otp} (opcode : Nat) (e : Nat) (fault : Bool) (f : Entry → Nat → State → Res × State) (s : State) (h3 : ∀ v0 v1 τ, OtpKept otp (τ).lc.otp → OtpKept otp ((f v0 v1 τ).2).lc.otp) (k3 : ∀ v0 v1 τ ρ, OtpKept otp (ρ).lc.otp → OtpKept otp ((f v0 v1 τ).1.release ρ).lc.otp) : OtpKept otp (s).lc.otp → OtpKept otp (sliceRow opcode e fault f s).lc.otp := by intro hk; unfold sliceRow; dsimp only; (repeat' split) <;> (first | assumption | (simp (maxDischargeDepth := 30) only [invariantFailure_kept, spend_otp, h3, hk]; done) | with_reducible exact hk | (simp_all (maxDischargeDepth := 30); done))
theorem execMlKemKeygen_kept {otp : Otp} (e : Nat) (fault : Bool) (s : State) : OtpKept otp (s).lc.otp → ∃ τ, execMlKemKeygen e fault s = .next τ ∧ OtpKept otp τ.lc.otp := by intro hk; refine ⟨_, rfl, ?_⟩; (repeat' split) <;> (first | assumption | (simp (maxDischargeDepth := 30) only [sliceRow_kept, runKemKeygen_otp, runKemKeygen_otp_rel, implies_true, ite_kept, hk]; done) | with_reducible exact hk | (simp_all (maxDischargeDepth := 30); done))
theorem execMlKemEncaps_kept {otp : Otp} (e : Nat) (fault : Bool) (s : State) : OtpKept otp (s).lc.otp → ∃ τ, execMlKemEncaps e fault s = .next τ ∧ OtpKept otp τ.lc.otp := by intro hk; refine ⟨_, rfl, ?_⟩; (repeat' split) <;> (first | assumption | (simp (maxDischargeDepth := 30) only [sliceRow_kept, runKemEncaps_otp, runKemEncaps_otp_rel, implies_true, ite_kept, hk]; done) | with_reducible exact hk | (simp_all (maxDischargeDepth := 30); done))
theorem execMlKemDecaps_kept {otp : Otp} (e : Nat) (fault : Bool) (s : State) : OtpKept otp (s).lc.otp → ∃ τ, execMlKemDecaps e fault s = .next τ ∧ OtpKept otp τ.lc.otp := by intro hk; refine ⟨_, rfl, ?_⟩; (repeat' split) <;> (first | assumption | (simp (maxDischargeDepth := 30) only [sliceRow_kept, runKemDecaps_otp, runKemDecaps_otp_rel, implies_true, ite_kept, hk]; done) | with_reducible exact hk | (simp_all (maxDischargeDepth := 30); done))
theorem execMlKemCheck_kept {otp : Otp} (e : Nat) (s : State) : OtpKept otp (s).lc.otp → ∃ τ, execMlKemCheck e s = .next τ ∧ OtpKept otp τ.lc.otp := by intro hk; refine ⟨_, rfl, ?_⟩; (repeat' split) <;> (first | assumption | (simp (maxDischargeDepth := 30) only [sliceRow_kept, runKemCheck_otp, runKemCheck_otp_rel, implies_true, ite_kept, hk]; done) | with_reducible exact hk | (simp_all (maxDischargeDepth := 30); done))
theorem execMlDsaKeygen_kept {otp : Otp} (e : Nat) (fault : Bool) (s : State) : OtpKept otp (s).lc.otp → ∃ τ, execMlDsaKeygen e fault s = .next τ ∧ OtpKept otp τ.lc.otp := by intro hk; refine ⟨_, rfl, ?_⟩; (repeat' split) <;> (first | assumption | (simp (maxDischargeDepth := 30) only [sliceRow_kept, runDsaKeygen_otp, runDsaKeygen_otp_rel, implies_true, ite_kept, hk]; done) | with_reducible exact hk | (simp_all (maxDischargeDepth := 30); done))
theorem execMlDsaSign_kept {otp : Otp} (e : Nat) (fault : Bool) (s : State) : OtpKept otp (s).lc.otp → ∃ τ, execMlDsaSign e fault s = .next τ ∧ OtpKept otp τ.lc.otp := by intro hk; refine ⟨_, rfl, ?_⟩; (repeat' split) <;> (first | assumption | (simp (maxDischargeDepth := 30) only [sliceRow_kept, runDsaSign_otp, runDsaSign_otp_rel, implies_true, ite_kept, hk]; done) | with_reducible exact hk | (simp_all (maxDischargeDepth := 30); done))
theorem execMlDsaVerify_kept {otp : Otp} (e : Nat) (fault : Bool) (s : State) : OtpKept otp (s).lc.otp → ∃ τ, execMlDsaVerify e fault s = .next τ ∧ OtpKept otp τ.lc.otp := by intro hk; refine ⟨_, rfl, ?_⟩; (repeat' split) <;> (first | assumption | (simp (maxDischargeDepth := 30) only [sliceRow_kept, runDsaVerify_otp, runDsaVerify_otp_rel, implies_true, ite_kept, hk]; done) | with_reducible exact hk | (simp_all (maxDischargeDepth := 30); done))
theorem execSlhDsaKeygen_kept {otp : Otp} (e : Nat) (fault : Bool) (s : State) : OtpKept otp (s).lc.otp → ∃ τ, execSlhDsaKeygen e fault s = .next τ ∧ OtpKept otp τ.lc.otp := by intro hk; refine ⟨_, rfl, ?_⟩; (repeat' split) <;> (first | assumption | (simp (maxDischargeDepth := 30) only [sliceRow_kept, runSlhKeygen_otp, runSlhKeygen_otp_rel, implies_true, ite_kept, hk]; done) | with_reducible exact hk | (simp_all (maxDischargeDepth := 30); done))
theorem execSlhDsaSign_kept {otp : Otp} (e : Nat) (fault : Bool) (s : State) : OtpKept otp (s).lc.otp → ∃ τ, execSlhDsaSign e fault s = .next τ ∧ OtpKept otp τ.lc.otp := by intro hk; refine ⟨_, rfl, ?_⟩; (repeat' split) <;> (first | assumption | (simp (maxDischargeDepth := 30) only [sliceRow_kept, runSlhSign_otp, runSlhSign_otp_rel, implies_true, ite_kept, hk]; done) | with_reducible exact hk | (simp_all (maxDischargeDepth := 30); done))
theorem execSlhDsaVerify_kept {otp : Otp} (e : Nat) (fault : Bool) (s : State) : OtpKept otp (s).lc.otp → ∃ τ, execSlhDsaVerify e fault s = .next τ ∧ OtpKept otp τ.lc.otp := by intro hk; refine ⟨_, rfl, ?_⟩; (repeat' split) <;> (first | assumption | (simp (maxDischargeDepth := 30) only [sliceRow_kept, runSlhVerify_otp, runSlhVerify_otp_rel, implies_true, ite_kept, hk]; done) | with_reducible exact hk | (simp_all (maxDischargeDepth := 30); done))
theorem execStatefulKeygen_kept {otp : Otp} (e : Nat) (fault : Bool) (s : State) : OtpKept otp (s).lc.otp → ∃ τ, execStatefulKeygen e fault s = .next τ ∧ OtpKept otp τ.lc.otp := by intro hk; refine ⟨_, rfl, ?_⟩; (repeat' split) <;> (first | assumption | (simp (maxDischargeDepth := 30) only [sliceRow_kept, runHtsKeygen_otp, runHtsKeygen_otp_rel, implies_true, ite_kept, hk]; done) | with_reducible exact hk | (simp_all (maxDischargeDepth := 30); done))
theorem execStatefulSign_kept {otp : Otp} (e : Nat) (fault : Bool) (s : State) : OtpKept otp (s).lc.otp → ∃ τ, execStatefulSign e fault s = .next τ ∧ OtpKept otp τ.lc.otp := by intro hk; refine ⟨_, rfl, ?_⟩; (repeat' split) <;> (first | assumption | (simp (maxDischargeDepth := 30) only [sliceRow_kept, runHtsSign_otp, runHtsSign_otp_rel, implies_true, ite_kept, hk]; done) | with_reducible exact hk | (simp_all (maxDischargeDepth := 30); done))
theorem execStatefulVerify_kept {otp : Otp} (e : Nat) (fault : Bool) (s : State) : OtpKept otp (s).lc.otp → ∃ τ, execStatefulVerify e fault s = .next τ ∧ OtpKept otp τ.lc.otp := by intro hk; refine ⟨_, rfl, ?_⟩; (repeat' split) <;> (first | assumption | (simp (maxDischargeDepth := 30) only [sliceRow_kept, runHtsVerify_otp, runHtsVerify_otp_rel, implies_true, ite_kept, hk]; done) | with_reducible exact hk | (simp_all (maxDischargeDepth := 30); done))
theorem execStatefulRebuild_kept {otp : Otp} (e : Nat) (rootMatches : Bool) (s : State) : OtpKept otp (s).lc.otp → ∃ τ, execStatefulRebuild e rootMatches s = .next τ ∧ OtpKept otp τ.lc.otp := by intro hk; refine ⟨_, rfl, ?_⟩; dsimp only; (repeat' split) <;> (first | assumption | (simp (maxDischargeDepth := 30) only [spend_otp, endJob_otp, setHts_otp, invariantFailure_kept, loseHts_otp, hk]; done) | with_reducible exact hk | (simp_all (maxDischargeDepth := 30); done))
theorem execCodeKemKeygen_kept {otp : Otp} (e : Nat) (fault : Bool) (s : State) : OtpKept otp (s).lc.otp → ∃ τ, execCodeKemKeygen e fault s = .next τ ∧ OtpKept otp τ.lc.otp := by intro hk; refine ⟨_, rfl, ?_⟩; (repeat' split) <;> (first | assumption | (simp (maxDischargeDepth := 30) only [sliceRow_kept, runCodeKeygen_otp, runCodeKeygen_otp_rel, implies_true, ite_kept, hk]; done) | with_reducible exact hk | (simp_all (maxDischargeDepth := 30); done))
theorem execCodeKemEncaps_kept {otp : Otp} (e : Nat) (fault : Bool) (s : State) : OtpKept otp (s).lc.otp → ∃ τ, execCodeKemEncaps e fault s = .next τ ∧ OtpKept otp τ.lc.otp := by intro hk; refine ⟨_, rfl, ?_⟩; (repeat' split) <;> (first | assumption | (simp (maxDischargeDepth := 30) only [sliceRow_kept, runCodeEncaps_otp, runCodeEncaps_otp_rel, implies_true, ite_kept, hk]; done) | with_reducible exact hk | (simp_all (maxDischargeDepth := 30); done))
theorem execCodeKemDecaps_kept {otp : Otp} (e : Nat) (fault : Bool) (s : State) : OtpKept otp (s).lc.otp → ∃ τ, execCodeKemDecaps e fault s = .next τ ∧ OtpKept otp τ.lc.otp := by intro hk; refine ⟨_, rfl, ?_⟩; (repeat' split) <;> (first | assumption | (simp (maxDischargeDepth := 30) only [sliceRow_kept, runCodeDecaps_otp, runCodeDecaps_otp_rel, implies_true, ite_kept, hk]; done) | with_reducible exact hk | (simp_all (maxDischargeDepth := 30); done))
theorem execEccKeygen_kept {otp : Otp} (e : Nat) (fault : Bool) (s : State) : OtpKept otp (s).lc.otp → ∃ τ, execEccKeygen e fault s = .next τ ∧ OtpKept otp τ.lc.otp := by intro hk; refine ⟨_, rfl, ?_⟩; (repeat' split) <;> (first | assumption | (simp (maxDischargeDepth := 30) only [sliceRow_kept, runEccKeygen_otp, runEccKeygen_otp_rel, implies_true, ite_kept, hk]; done) | with_reducible exact hk | (simp_all (maxDischargeDepth := 30); done))
theorem execEccSign_kept {otp : Otp} (e : Nat) (fault : Bool) (s : State) : OtpKept otp (s).lc.otp → ∃ τ, execEccSign e fault s = .next τ ∧ OtpKept otp τ.lc.otp := by intro hk; refine ⟨_, rfl, ?_⟩; (repeat' split) <;> (first | assumption | (simp (maxDischargeDepth := 30) only [sliceRow_kept, runEccSign_otp, runEccSign_otp_rel, implies_true, ite_kept, hk]; done) | with_reducible exact hk | (simp_all (maxDischargeDepth := 30); done))
theorem execEccVerify_kept {otp : Otp} (e : Nat) (fault : Bool) (s : State) : OtpKept otp (s).lc.otp → ∃ τ, execEccVerify e fault s = .next τ ∧ OtpKept otp τ.lc.otp := by intro hk; refine ⟨_, rfl, ?_⟩; (repeat' split) <;> (first | assumption | (simp (maxDischargeDepth := 30) only [sliceRow_kept, runEccVerify_otp, runEccVerify_otp_rel, implies_true, ite_kept, hk]; done) | with_reducible exact hk | (simp_all (maxDischargeDepth := 30); done))
theorem execEccAgree_kept {otp : Otp} (e : Nat) (fault : Bool) (s : State) : OtpKept otp (s).lc.otp → ∃ τ, execEccAgree e fault s = .next τ ∧ OtpKept otp τ.lc.otp := by intro hk; refine ⟨_, rfl, ?_⟩; (repeat' split) <;> (first | assumption | (simp (maxDischargeDepth := 30) only [sliceRow_kept, runEccAgree_otp, runEccAgree_otp_rel, implies_true, ite_kept, hk]; done) | with_reducible exact hk | (simp_all (maxDischargeDepth := 30); done))
theorem execEccCheck_kept {otp : Otp} (e : Nat) (s : State) : OtpKept otp (s).lc.otp → ∃ τ, execEccCheck e s = .next τ ∧ OtpKept otp τ.lc.otp := by intro hk; refine ⟨_, rfl, ?_⟩; (repeat' split) <;> (first | assumption | (simp (maxDischargeDepth := 30) only [sliceRow_kept, runEccCheck_otp, runEccCheck_otp_rel, implies_true, ite_kept, hk]; done) | with_reducible exact hk | (simp_all (maxDischargeDepth := 30); done))
theorem execRsaKeygen_kept {otp : Otp} (e : Nat) (fault : Bool) (s : State) : OtpKept otp (s).lc.otp → ∃ τ, execRsaKeygen e fault s = .next τ ∧ OtpKept otp τ.lc.otp := by intro hk; refine ⟨_, rfl, ?_⟩; (repeat' split) <;> (first | assumption | (simp (maxDischargeDepth := 30) only [sliceRow_kept, runRsaKeygen_otp, runRsaKeygen_otp_rel, implies_true, ite_kept, hk]; done) | with_reducible exact hk | (simp_all (maxDischargeDepth := 30); done))
theorem execRsaSign_kept {otp : Otp} (e : Nat) (fault : Bool) (s : State) : OtpKept otp (s).lc.otp → ∃ τ, execRsaSign e fault s = .next τ ∧ OtpKept otp τ.lc.otp := by intro hk; refine ⟨_, rfl, ?_⟩; (repeat' split) <;> (first | assumption | (simp (maxDischargeDepth := 30) only [sliceRow_kept, runRsaSign_otp, runRsaSign_otp_rel, implies_true, ite_kept, hk]; done) | with_reducible exact hk | (simp_all (maxDischargeDepth := 30); done))
theorem execRsaVerify_kept {otp : Otp} (e : Nat) (fault : Bool) (s : State) : OtpKept otp (s).lc.otp → ∃ τ, execRsaVerify e fault s = .next τ ∧ OtpKept otp τ.lc.otp := by intro hk; refine ⟨_, rfl, ?_⟩; (repeat' split) <;> (first | assumption | (simp (maxDischargeDepth := 30) only [sliceRow_kept, runRsaVerify_otp, runRsaVerify_otp_rel, implies_true, ite_kept, hk]; done) | with_reducible exact hk | (simp_all (maxDischargeDepth := 30); done))
theorem execRsaEncrypt_kept {otp : Otp} (e : Nat) (fault : Bool) (s : State) : OtpKept otp (s).lc.otp → ∃ τ, execRsaEncrypt e fault s = .next τ ∧ OtpKept otp τ.lc.otp := by intro hk; refine ⟨_, rfl, ?_⟩; (repeat' split) <;> (first | assumption | (simp (maxDischargeDepth := 30) only [sliceRow_kept, runRsaEncrypt_otp, runRsaEncrypt_otp_rel, implies_true, ite_kept, hk]; done) | with_reducible exact hk | (simp_all (maxDischargeDepth := 30); done))
theorem execRsaDecrypt_kept {otp : Otp} (e : Nat) (fault : Bool) (s : State) : OtpKept otp (s).lc.otp → ∃ τ, execRsaDecrypt e fault s = .next τ ∧ OtpKept otp τ.lc.otp := by intro hk; refine ⟨_, rfl, ?_⟩; (repeat' split) <;> (first | assumption | (simp (maxDischargeDepth := 30) only [sliceRow_kept, runRsaDecrypt_otp, runRsaDecrypt_otp_rel, implies_true, ite_kept, hk]; done) | with_reducible exact hk | (simp_all (maxDischargeDepth := 30); done))
@[simp] theorem finishManager_kept {otp : Otp} (e : Nat) (x : Entry) (r : Res) (s : State) (h2 : ∀ ρ, OtpKept otp (ρ).lc.otp → OtpKept otp (r.release ρ).lc.otp) : OtpKept otp (s).lc.otp → OtpKept otp (finishManager e x r s).lc.otp := by intro hk; unfold finishManager; (repeat' split) <;> (first | assumption | (simp (maxDischargeDepth := 30) only [deviceRefusal_kept, spend_otp, hk]; done) | with_reducible exact hk | (simp_all (maxDischargeDepth := 30); done))
@[simp] theorem managerRow_kept {otp : Otp} (opcode : Nat) (needs : Entry → State → List Nat) (e : Nat) (fault : Bool) (f : Entry → Nat → State → Res × State) (s : State) (h4 : ∀ v0 v1 τ, OtpKept otp (τ).lc.otp → OtpKept otp ((f v0 v1 τ).2).lc.otp) (k4 : ∀ v0 v1 τ ρ, OtpKept otp (ρ).lc.otp → OtpKept otp ((f v0 v1 τ).1.release ρ).lc.otp) : OtpKept otp (s).lc.otp → OtpKept otp (managerRow opcode needs e fault f s).lc.otp := by intro hk; unfold managerRow; dsimp only; (repeat' split) <;> (first | assumption | (simp (maxDischargeDepth := 30) only [setEntry_otp, stopJob_otp, invariantFailure_kept, spend_otp, h4, hk]; done) | with_reducible exact hk | (simp_all (maxDischargeDepth := 30); done))
theorem execImportWrapped_kept {otp : Otp} (e : Nat) (s : State) : OtpKept otp (s).lc.otp → ∃ τ, execImportWrapped e s = .next τ ∧ OtpKept otp τ.lc.otp := by intro hk; refine ⟨_, rfl, ?_⟩; (repeat' split) <;> (first | assumption | (simp (maxDischargeDepth := 30) only [managerRow_kept, runImportWrapped_otp, runImportWrapped_otp_rel, implies_true, ite_kept, hk]; done) | with_reducible exact hk | (simp_all (maxDischargeDepth := 30); done))
theorem execExportWrapped_kept {otp : Otp} (e : Nat) (s : State) : OtpKept otp (s).lc.otp → ∃ τ, execExportWrapped e s = .next τ ∧ OtpKept otp τ.lc.otp := by intro hk; refine ⟨_, rfl, ?_⟩; (repeat' split) <;> (first | assumption | (simp (maxDischargeDepth := 30) only [managerRow_kept, runExportWrapped_otp, runExportWrapped_otp_rel, implies_true, ite_kept, hk]; done) | with_reducible exact hk | (simp_all (maxDischargeDepth := 30); done))
theorem execDelete_kept {otp : Otp} (e : Nat) (s : State) : OtpKept otp (s).lc.otp → ∃ τ, execDelete e s = .next τ ∧ OtpKept otp τ.lc.otp := by intro hk; refine ⟨_, rfl, ?_⟩; (repeat' split) <;> (first | assumption | (simp (maxDischargeDepth := 30) only [managerRow_kept, runDelete_otp, runDelete_otp_rel, implies_true, ite_kept, hk]; done) | with_reducible exact hk | (simp_all (maxDischargeDepth := 30); done))
theorem execPersist_kept {otp : Otp} (e : Nat) (s : State) : OtpKept otp (s).lc.otp → ∃ τ, execPersist e s = .next τ ∧ OtpKept otp τ.lc.otp := by intro hk; refine ⟨_, rfl, ?_⟩; (repeat' split) <;> (first | assumption | (simp (maxDischargeDepth := 30) only [managerRow_kept, runDelete_otp, runDelete_otp_rel, implies_true, ite_kept, hk]; done) | with_reducible exact hk | (simp_all (maxDischargeDepth := 30); done))
theorem execUnpersist_kept {otp : Otp} (e : Nat) (s : State) : OtpKept otp (s).lc.otp → ∃ τ, execUnpersist e s = .next τ ∧ OtpKept otp τ.lc.otp := by intro hk; refine ⟨_, rfl, ?_⟩; (repeat' split) <;> (first | assumption | (simp (maxDischargeDepth := 30) only [managerRow_kept, runDelete_otp, runDelete_otp_rel, implies_true, ite_kept, hk]; done) | with_reducible exact hk | (simp_all (maxDischargeDepth := 30); done))
theorem execImportPublic_kept {otp : Otp} (e : Nat) (s : State) : OtpKept otp (s).lc.otp → ∃ τ, execImportPublic e s = .next τ ∧ OtpKept otp τ.lc.otp := by intro hk; refine ⟨_, rfl, ?_⟩; (repeat' split) <;> (first | assumption | (simp (maxDischargeDepth := 30) only [managerRow_kept, runImportPublic_otp, runImportPublic_otp_rel, implies_true, ite_kept, hk]; done) | with_reducible exact hk | (simp_all (maxDischargeDepth := 30); done))
theorem execAttest_kept {otp : Otp} (e : Nat) (fault : Bool) (s : State) : OtpKept otp (s).lc.otp → ∃ τ, execAttest e fault s = .next τ ∧ OtpKept otp τ.lc.otp := by intro hk; refine ⟨_, rfl, ?_⟩; (repeat' split) <;> (first | assumption | (simp (maxDischargeDepth := 30) only [managerRow_kept, runAttest_otp, runAttest_otp_rel, implies_true, ite_kept, hk]; done) | with_reducible exact hk | (simp_all (maxDischargeDepth := 30); done))
@[simp] theorem masterRead_kept {otp : Otp} (addr : Nat) (len : Nat) (s : State) : OtpKept otp (s).lc.otp → OtpKept otp (masterRead addr len s).lc.otp := by intro hk; unfold masterRead; dsimp only; (repeat' split) <;> (first | assumption | (simp (maxDischargeDepth := 30) only [shiftOut_otp, refuse_kept, hk]; done) | with_reducible exact hk | (simp_all (maxDischargeDepth := 30); done))
@[simp] theorem masterWrite_kept {otp : Otp} (addr : Nat) (b : Bytes) (s : State) : OtpKept otp (s).lc.otp → OtpKept otp (masterWrite addr b s).lc.otp := by intro hk; unfold masterWrite; dsimp only; (repeat' split) <;> (first | assumption | (simp (maxDischargeDepth := 30) only [refuse_kept, memWrite_otp, hk]; done) | with_reducible exact hk | (simp_all (maxDischargeDepth := 30); done))
@[simp] theorem debugActs_kept {otp : Otp} (act : DebugAct) (addr : Nat) (b : Bytes) (s : State) : OtpKept otp (s).lc.otp → OtpKept otp (debugActs act addr b s).lc.otp := by intro hk; unfold debugActs; (repeat' split) <;> (first | assumption | (simp (maxDischargeDepth := 30) only [masterRead_kept, masterWrite_kept, putAll_otp, putRaw_otp, putTagByte_otp, putKregByte_otp, implies_true, hk]; done) | with_reducible exact hk | (simp_all (maxDischargeDepth := 30); done))
@[simp] theorem refuseAll_kept {otp : Otp} (l : List Refused) (s : State) : OtpKept otp (s).lc.otp → OtpKept otp (refuseAll l s).lc.otp := by
  intro hk
  exact foldl_kept _ (fun t x h => refuse_kept _ _ _ _ h) _ _ hk
@[simp] theorem coreRow_kept {otp : Otp} (f : State → State) (s : State) (h0 : ∀ τ, OtpKept otp (τ).lc.otp → OtpKept otp ((f τ)).lc.otp) : OtpKept otp (s).lc.otp → OtpKept otp (coreRow f s).lc.otp := by intro hk; unfold coreRow; dsimp only; (repeat' split) <;> (first | assumption | (simp (maxDischargeDepth := 30) only [setCore_otp, takeExc_otp, refuseAll_kept, spendBudget_otp, h0, hk]; done) | with_reducible exact hk | (simp_all (maxDischargeDepth := 30); done))
@[simp] theorem aluRow_kept {otp : Otp} (rd : BitVec 4) (f : Core → AluOut) (s : State) : OtpKept otp (s).lc.otp → OtpKept otp (aluRow rd f s).lc.otp := by intro hk; unfold aluRow; (repeat' split) <;> (first | assumption | (simp (maxDischargeDepth := 30) only [coreRow_kept, coreOnly_otp, implies_true, ite_kept, hk]; done) | with_reducible exact hk | (simp_all (maxDischargeDepth := 30); done))
@[simp] theorem movRow_kept {otp : Otp} (rd : BitVec 4) (f : Core → Word) (s : State) : OtpKept otp (s).lc.otp → OtpKept otp (movRow rd f s).lc.otp := by intro hk; unfold movRow; (repeat' split) <;> (first | assumption | (simp (maxDischargeDepth := 30) only [coreRow_kept, coreOnly_otp, implies_true, ite_kept, hk]; done) | with_reducible exact hk | (simp_all (maxDischargeDepth := 30); done))
@[simp] theorem cmpRow_kept {otp : Otp} (f : Core → AluOut) (s : State) : OtpKept otp (s).lc.otp → OtpKept otp (cmpRow f s).lc.otp := by intro hk; unfold cmpRow; (repeat' split) <;> (first | assumption | (simp (maxDischargeDepth := 30) only [coreRow_kept, coreOnly_otp, implies_true, ite_kept, hk]; done) | with_reducible exact hk | (simp_all (maxDischargeDepth := 30); done))
theorem execAdd_kept {otp : Otp} (rd : BitVec 4) (rs1 : BitVec 4) (rs2 : BitVec 4) (s : State) : OtpKept otp (s).lc.otp → ∃ τ, execAdd rd rs1 rs2 s = .next τ ∧ OtpKept otp τ.lc.otp := by intro hk; refine ⟨_, rfl, ?_⟩; simp (maxDischargeDepth := 30) only [aluRow_kept, hk]
theorem execSub_kept {otp : Otp} (rd : BitVec 4) (rs1 : BitVec 4) (rs2 : BitVec 4) (s : State) : OtpKept otp (s).lc.otp → ∃ τ, execSub rd rs1 rs2 s = .next τ ∧ OtpKept otp τ.lc.otp := by intro hk; refine ⟨_, rfl, ?_⟩; simp (maxDischargeDepth := 30) only [aluRow_kept, hk]
theorem execAnd_kept {otp : Otp} (rd : BitVec 4) (rs1 : BitVec 4) (rs2 : BitVec 4) (s : State) : OtpKept otp (s).lc.otp → ∃ τ, execAnd rd rs1 rs2 s = .next τ ∧ OtpKept otp τ.lc.otp := by intro hk; refine ⟨_, rfl, ?_⟩; simp (maxDischargeDepth := 30) only [aluRow_kept, hk]
theorem execOr_kept {otp : Otp} (rd : BitVec 4) (rs1 : BitVec 4) (rs2 : BitVec 4) (s : State) : OtpKept otp (s).lc.otp → ∃ τ, execOr rd rs1 rs2 s = .next τ ∧ OtpKept otp τ.lc.otp := by intro hk; refine ⟨_, rfl, ?_⟩; simp (maxDischargeDepth := 30) only [aluRow_kept, hk]
theorem execXor_kept {otp : Otp} (rd : BitVec 4) (rs1 : BitVec 4) (rs2 : BitVec 4) (s : State) : OtpKept otp (s).lc.otp → ∃ τ, execXor rd rs1 rs2 s = .next τ ∧ OtpKept otp τ.lc.otp := by intro hk; refine ⟨_, rfl, ?_⟩; simp (maxDischargeDepth := 30) only [aluRow_kept, hk]
@[simp] theorem shiftRow_kept {otp : Otp} (rd : BitVec 4) (rs1 : BitVec 4) (rs2 : BitVec 4) (f : Word → Nat → Word) (s : State) : OtpKept otp (s).lc.otp → OtpKept otp (shiftRow rd rs1 rs2 f s).lc.otp := by intro hk; unfold shiftRow; (repeat' split) <;> (first | assumption | (simp (maxDischargeDepth := 30) only []; done) | with_reducible exact hk | (simp_all (maxDischargeDepth := 30); done))
theorem execShl_kept {otp : Otp} (rd : BitVec 4) (rs1 : BitVec 4) (rs2 : BitVec 4) (s : State) : OtpKept otp (s).lc.otp → ∃ τ, execShl rd rs1 rs2 s = .next τ ∧ OtpKept otp τ.lc.otp := by intro hk; refine ⟨_, rfl, ?_⟩; simp (maxDischargeDepth := 30) only [shiftRow_kept, hk]
theorem execShr_kept {otp : Otp} (rd : BitVec 4) (rs1 : BitVec 4) (rs2 : BitVec 4) (s : State) : OtpKept otp (s).lc.otp → ∃ τ, execShr rd rs1 rs2 s = .next τ ∧ OtpKept otp τ.lc.otp := by intro hk; refine ⟨_, rfl, ?_⟩; simp (maxDischargeDepth := 30) only [shiftRow_kept, hk]
theorem execSar_kept {otp : Otp} (rd : BitVec 4) (rs1 : BitVec 4) (rs2 : BitVec 4) (s : State) : OtpKept otp (s).lc.otp → ∃ τ, execSar rd rs1 rs2 s = .next τ ∧ OtpKept otp τ.lc.otp := by intro hk; refine ⟨_, rfl, ?_⟩; simp (maxDischargeDepth := 30) only [shiftRow_kept, hk]
theorem execMul_kept {otp : Otp} (rd : BitVec 4) (rs1 : BitVec 4) (rs2 : BitVec 4) (s : State) : OtpKept otp (s).lc.otp → ∃ τ, execMul rd rs1 rs2 s = .next τ ∧ OtpKept otp τ.lc.otp := by intro hk; refine ⟨_, rfl, ?_⟩; simp (maxDischargeDepth := 30) only [movRow_kept, hk]
theorem execMulhu_kept {otp : Otp} (rd : BitVec 4) (rs1 : BitVec 4) (rs2 : BitVec 4) (s : State) : OtpKept otp (s).lc.otp → ∃ τ, execMulhu rd rs1 rs2 s = .next τ ∧ OtpKept otp τ.lc.otp := by intro hk; refine ⟨_, rfl, ?_⟩; simp (maxDischargeDepth := 30) only [movRow_kept, hk]
theorem execMulhs_kept {otp : Otp} (rd : BitVec 4) (rs1 : BitVec 4) (rs2 : BitVec 4) (s : State) : OtpKept otp (s).lc.otp → ∃ τ, execMulhs rd rs1 rs2 s = .next τ ∧ OtpKept otp τ.lc.otp := by intro hk; refine ⟨_, rfl, ?_⟩; simp (maxDischargeDepth := 30) only [movRow_kept, hk]
theorem execCmp_kept {otp : Otp} (rs1 : BitVec 4) (rs2 : BitVec 4) (s : State) : OtpKept otp (s).lc.otp → ∃ τ, execCmp rs1 rs2 s = .next τ ∧ OtpKept otp τ.lc.otp := by intro hk; refine ⟨_, rfl, ?_⟩; simp (maxDischargeDepth := 30) only [cmpRow_kept, hk]
theorem execAddc_kept {otp : Otp} (rd : BitVec 4) (rs1 : BitVec 4) (rs2 : BitVec 4) (s : State) : OtpKept otp (s).lc.otp → ∃ τ, execAddc rd rs1 rs2 s = .next τ ∧ OtpKept otp τ.lc.otp := by intro hk; refine ⟨_, rfl, ?_⟩; simp (maxDischargeDepth := 30) only [aluRow_kept, hk]
theorem execSubc_kept {otp : Otp} (rd : BitVec 4) (rs1 : BitVec 4) (rs2 : BitVec 4) (s : State) : OtpKept otp (s).lc.otp → ∃ τ, execSubc rd rs1 rs2 s = .next τ ∧ OtpKept otp τ.lc.otp := by intro hk; refine ⟨_, rfl, ?_⟩; simp (maxDischargeDepth := 30) only [aluRow_kept, hk]
theorem execAddi_kept {otp : Otp} (rd : BitVec 4) (rs1 : BitVec 4) (imm : BitVec 18) (s : State) : OtpKept otp (s).lc.otp → ∃ τ, execAddi rd rs1 imm s = .next τ ∧ OtpKept otp τ.lc.otp := by intro hk; refine ⟨_, rfl, ?_⟩; simp (maxDischargeDepth := 30) only [movRow_kept, hk]
theorem execOri_kept {otp : Otp} (rd : BitVec 4) (rs1 : BitVec 4) (imm : BitVec 18) (s : State) : OtpKept otp (s).lc.otp → ∃ τ, execOri rd rs1 imm s = .next τ ∧ OtpKept otp τ.lc.otp := by intro hk; refine ⟨_, rfl, ?_⟩; simp (maxDischargeDepth := 30) only [movRow_kept, hk]
theorem execXori_kept {otp : Otp} (rd : BitVec 4) (rs1 : BitVec 4) (imm : BitVec 18) (s : State) : OtpKept otp (s).lc.otp → ∃ τ, execXori rd rs1 imm s = .next τ ∧ OtpKept otp τ.lc.otp := by intro hk; refine ⟨_, rfl, ?_⟩; simp (maxDischargeDepth := 30) only [movRow_kept, hk]
theorem execAndi_kept {otp : Otp} (rd : BitVec 4) (rs1 : BitVec 4) (imm : BitVec 18) (s : State) : OtpKept otp (s).lc.otp → ∃ τ, execAndi rd rs1 imm s = .next τ ∧ OtpKept otp τ.lc.otp := by intro hk; refine ⟨_, rfl, ?_⟩; simp (maxDischargeDepth := 30) only [movRow_kept, hk]
theorem execLhi_kept {otp : Otp} (rd : BitVec 4) (imm : BitVec 18) (s : State) : OtpKept otp (s).lc.otp → ∃ τ, execLhi rd imm s = .next τ ∧ OtpKept otp τ.lc.otp := by intro hk; refine ⟨_, rfl, ?_⟩; simp (maxDischargeDepth := 30) only [movRow_kept, hk]
theorem execCmpi_kept {otp : Otp} (rs1 : BitVec 4) (imm : BitVec 18) (s : State) : OtpKept otp (s).lc.otp → ∃ τ, execCmpi rs1 imm s = .next τ ∧ OtpKept otp τ.lc.otp := by intro hk; refine ⟨_, rfl, ?_⟩; simp (maxDischargeDepth := 30) only [cmpRow_kept, hk]
@[simp] theorem loadRow_kept {otp : Otp} (rd : BitVec 4) (rs1 : BitVec 4) (imm : BitVec 18) (len : Nat) (s : State) : OtpKept otp (s).lc.otp → OtpKept otp (loadRow rd rs1 imm len s).lc.otp := by intro hk; unfold loadRow; dsimp only; apply coreRow_kept <;> intros <;> (try dsimp only) <;> (repeat' split) <;> (first | assumption | (rename_i hk; simp (maxDischargeDepth := 30) only [faultAt_otp]; done) | (simp_all (maxDischargeDepth := 30) []; done))
@[simp] theorem storeRow_kept {otp : Otp} (rd : BitVec 4) (rs1 : BitVec 4) (imm : BitVec 18) (len : Nat) (s : State) : OtpKept otp (s).lc.otp → OtpKept otp (storeRow rd rs1 imm len s).lc.otp := by intro hk; unfold storeRow; dsimp only; apply coreRow_kept <;> intros <;> (try dsimp only) <;> (repeat' split) <;> (first | assumption | (rename_i hk; simp (maxDischargeDepth := 30) only [faultAt_otp]; done) | (simp_all (maxDischargeDepth := 30) []; done))
theorem execLd_kept {otp : Otp} (rd : BitVec 4) (rs1 : BitVec 4) (imm : BitVec 18) (s : State) : OtpKept otp (s).lc.otp → ∃ τ, execLd rd rs1 imm s = .next τ ∧ OtpKept otp τ.lc.otp := by intro hk; refine ⟨_, rfl, ?_⟩; simp (maxDischargeDepth := 30) only [loadRow_kept, hk]
theorem execLdh_kept {otp : Otp} (rd : BitVec 4) (rs1 : BitVec 4) (imm : BitVec 18) (s : State) : OtpKept otp (s).lc.otp → ∃ τ, execLdh rd rs1 imm s = .next τ ∧ OtpKept otp τ.lc.otp := by intro hk; refine ⟨_, rfl, ?_⟩; simp (maxDischargeDepth := 30) only [loadRow_kept, hk]
theorem execLdb_kept {otp : Otp} (rd : BitVec 4) (rs1 : BitVec 4) (imm : BitVec 18) (s : State) : OtpKept otp (s).lc.otp → ∃ τ, execLdb rd rs1 imm s = .next τ ∧ OtpKept otp τ.lc.otp := by intro hk; refine ⟨_, rfl, ?_⟩; simp (maxDischargeDepth := 30) only [loadRow_kept, hk]
theorem execSt_kept {otp : Otp} (rd : BitVec 4) (rs1 : BitVec 4) (imm : BitVec 18) (s : State) : OtpKept otp (s).lc.otp → ∃ τ, execSt rd rs1 imm s = .next τ ∧ OtpKept otp τ.lc.otp := by intro hk; refine ⟨_, rfl, ?_⟩; simp (maxDischargeDepth := 30) only [storeRow_kept, hk]
theorem execSth_kept {otp : Otp} (rd : BitVec 4) (rs1 : BitVec 4) (imm : BitVec 18) (s : State) : OtpKept otp (s).lc.otp → ∃ τ, execSth rd rs1 imm s = .next τ ∧ OtpKept otp τ.lc.otp := by intro hk; refine ⟨_, rfl, ?_⟩; simp (maxDischargeDepth := 30) only [storeRow_kept, hk]
theorem execStb_kept {otp : Otp} (rd : BitVec 4) (rs1 : BitVec 4) (imm : BitVec 18) (s : State) : OtpKept otp (s).lc.otp → ∃ τ, execStb rd rs1 imm s = .next τ ∧ OtpKept otp τ.lc.otp := by intro hk; refine ⟨_, rfl, ?_⟩; simp (maxDischargeDepth := 30) only [storeRow_kept, hk]
theorem execLdi_kept {otp : Otp} (rd : BitVec 4) (rs1 : BitVec 4) (imm : BitVec 18) (s : State) : OtpKept otp (s).lc.otp → ∃ τ, execLdi rd rs1 imm s = .next τ ∧ OtpKept otp τ.lc.otp := by intro hk; refine ⟨_, rfl, ?_⟩; dsimp only; apply coreRow_kept <;> intros <;> (try dsimp only) <;> (repeat' split) <;> (first | assumption | (rename_i hk; simp (maxDischargeDepth := 30) only [faultAt_otp]; done) | (simp_all (maxDischargeDepth := 30) []; done))
theorem execBr_kept {otp : Otp} (cond : BitVec 4) (off : BitVec 22) (s : State) : OtpKept otp (s).lc.otp → ∃ τ, execBr cond off s = .next τ ∧ OtpKept otp τ.lc.otp := by intro hk; refine ⟨_, rfl, ?_⟩; dsimp only; apply coreRow_kept <;> intros <;> (try dsimp only) <;> (repeat' split) <;> (first | assumption | (rename_i hk; simp (maxDischargeDepth := 30) only [illegal_otp]; done) | (simp_all (maxDischargeDepth := 30) []; done))
theorem execJmp_kept {otp : Otp} (off : BitVec 26) (s : State) : OtpKept otp (s).lc.otp → ∃ τ, execJmp off s = .next τ ∧ OtpKept otp τ.lc.otp := by intro hk; refine ⟨_, rfl, ?_⟩; (repeat' split) <;> (first | assumption | (simp (maxDischargeDepth := 30) only [coreRow_kept, coreOnly_otp, implies_true, ite_kept, hk]; done) | with_reducible exact hk | (simp_all (maxDischargeDepth := 30); done))
theorem execCall_kept {otp : Otp} (off : BitVec 26) (s : State) : OtpKept otp (s).lc.otp → ∃ τ, execCall off s = .next τ ∧ OtpKept otp τ.lc.otp := by intro hk; refine ⟨_, rfl, ?_⟩; (repeat' split) <;> (first | assumption | (simp (maxDischargeDepth := 30) only [coreRow_kept, coreOnly_otp, implies_true, ite_kept, hk]; done) | with_reducible exact hk | (simp_all (maxDischargeDepth := 30); done))
theorem execJr_kept {otp : Otp} (rs1 : BitVec 4) (s : State) : OtpKept otp (s).lc.otp → ∃ τ, execJr rs1 s = .next τ ∧ OtpKept otp τ.lc.otp := by intro hk; refine ⟨_, rfl, ?_⟩; (repeat' split) <;> (first | assumption | (simp (maxDischargeDepth := 30) only [coreRow_kept, coreOnly_otp, implies_true, ite_kept, hk]; done) | with_reducible exact hk | (simp_all (maxDischargeDepth := 30); done))
theorem execCallr_kept {otp : Otp} (rs1 : BitVec 4) (s : State) : OtpKept otp (s).lc.otp → ∃ τ, execCallr rs1 s = .next τ ∧ OtpKept otp τ.lc.otp := by intro hk; refine ⟨_, rfl, ?_⟩; (repeat' split) <;> (first | assumption | (simp (maxDischargeDepth := 30) only [coreRow_kept, coreOnly_otp, implies_true, ite_kept, hk]; done) | with_reducible exact hk | (simp_all (maxDischargeDepth := 30); done))
theorem execBrpt_kept {otp : Otp} (rs1 : BitVec 4) (imm : BitVec 18) (s : State) : OtpKept otp (s).lc.otp → ∃ τ, execBrpt rs1 imm s = .next τ ∧ OtpKept otp τ.lc.otp := by intro hk; refine ⟨_, rfl, ?_⟩; dsimp only; apply coreRow_kept <;> intros <;> (try dsimp only) <;> (repeat' split) <;> (first | assumption | (rename_i hk; simp (maxDischargeDepth := 30) only [faultAt_otp]; done) | (simp_all (maxDischargeDepth := 30) []; done))
theorem execBrend_kept {otp : Otp} (s : State) : OtpKept otp (s).lc.otp → ∃ τ, execBrend s = .next τ ∧ OtpKept otp τ.lc.otp := by intro hk; refine ⟨_, rfl, ?_⟩; (repeat' split) <;> (first | assumption | (simp (maxDischargeDepth := 30) only [coreRow_kept, coreOnly_otp, implies_true, ite_kept, hk]; done) | with_reducible exact hk | (simp_all (maxDischargeDepth := 30); done))
theorem execInPort_kept {otp : Otp} (rd : BitVec 4) (rs1 : BitVec 4) (imm : BitVec 18) (s : State) : OtpKept otp (s).lc.otp → ∃ τ, execInPort rd rs1 imm s = .next τ ∧ OtpKept otp τ.lc.otp := by intro hk; refine ⟨_, rfl, ?_⟩; dsimp only; apply coreRow_kept <;> intros <;> (try dsimp only) <;> (repeat' split) <;> (first | assumption | (rename_i hk; simp (maxDischargeDepth := 30) only [faultAt_otp, portRead_otp, setCore_otp]; done) | (simp_all (maxDischargeDepth := 30) []; done))
theorem execOutPort_kept {otp : Otp} (_rd : BitVec 4) (rs1 : BitVec 4) (imm : BitVec 18) (s : State) : OtpKept otp (s).lc.otp → ∃ τ, execOutPort _rd rs1 imm s = .next τ ∧ OtpKept otp τ.lc.otp := by intro hk; refine ⟨_, rfl, ?_⟩; dsimp only; apply coreRow_kept <;> intros <;> (try dsimp only) <;> (repeat' split) <;> (first | assumption | (rename_i hk; simp (maxDischargeDepth := 30) only [faultAt_otp]; done) | (simp_all (maxDischargeDepth := 30) []; done))
theorem execMfc_kept {otp : Otp} (rd : BitVec 4) (imm : BitVec 18) (s : State) : OtpKept otp (s).lc.otp → ∃ τ, execMfc rd imm s = .next τ ∧ OtpKept otp τ.lc.otp := by intro hk; refine ⟨_, rfl, ?_⟩; (repeat' split) <;> (first | assumption | (simp (maxDischargeDepth := 30) only [coreRow_kept, coreMay_otp, implies_true, ite_kept, hk]; done) | with_reducible exact hk | (simp_all (maxDischargeDepth := 30); done))
theorem execMtc_kept {otp : Otp} (rs1 : BitVec 4) (imm : BitVec 18) (s : State) : OtpKept otp (s).lc.otp → ∃ τ, execMtc rs1 imm s = .next τ ∧ OtpKept otp τ.lc.otp := by intro hk; refine ⟨_, rfl, ?_⟩; (repeat' split) <;> (first | assumption | (simp (maxDischargeDepth := 30) only [coreRow_kept, coreMay_otp, implies_true, ite_kept, hk]; done) | with_reducible exact hk | (simp_all (maxDischargeDepth := 30); done))
theorem execFeat_kept {otp : Otp} (rd : BitVec 4) (imm : BitVec 18) (s : State) : OtpKept otp (s).lc.otp → ∃ τ, execFeat rd imm s = .next τ ∧ OtpKept otp τ.lc.otp := by intro hk; refine ⟨_, rfl, ?_⟩; (repeat' split) <;> (first | assumption | (simp (maxDischargeDepth := 30) only [coreRow_kept, coreMay_otp, implies_true, ite_kept, hk]; done) | with_reducible exact hk | (simp_all (maxDischargeDepth := 30); done))
theorem execNop_kept {otp : Otp} (s : State) : OtpKept otp (s).lc.otp → ∃ τ, execNop s = .next τ ∧ OtpKept otp τ.lc.otp := by intro hk; refine ⟨_, rfl, ?_⟩; (repeat' split) <;> (first | assumption | (simp (maxDischargeDepth := 30) only [coreRow_kept, coreOnly_otp, implies_true, ite_kept, hk]; done) | with_reducible exact hk | (simp_all (maxDischargeDepth := 30); done))
theorem execEret_kept {otp : Otp} (s : State) : OtpKept otp (s).lc.otp → ∃ τ, execEret s = .next τ ∧ OtpKept otp τ.lc.otp := by intro hk; refine ⟨_, rfl, ?_⟩; (repeat' split) <;> (first | assumption | (simp (maxDischargeDepth := 30) only [coreRow_kept, coreMay_otp, implies_true, ite_kept, hk]; done) | with_reducible exact hk | (simp_all (maxDischargeDepth := 30); done))
theorem execWfi_kept {otp : Otp} (s : State) : OtpKept otp (s).lc.otp → ∃ τ, execWfi s = .next τ ∧ OtpKept otp τ.lc.otp := by intro hk; refine ⟨_, rfl, ?_⟩; (repeat' split) <;> (first | assumption | (simp (maxDischargeDepth := 30) only []; done) | with_reducible exact hk | (simp_all (maxDischargeDepth := 30); done))
theorem execFence_kept {otp : Otp} (s : State) : OtpKept otp (s).lc.otp → ∃ τ, execFence s = .next τ ∧ OtpKept otp τ.lc.otp := by intro hk; refine ⟨_, rfl, ?_⟩; (repeat' split) <;> (first | assumption | (simp (maxDischargeDepth := 30) only [coreRow_kept, coreMay_otp, implies_true, ite_kept, hk]; done) | with_reducible exact hk | (simp_all (maxDischargeDepth := 30); done))
theorem execIllegal_kept {otp : Otp} (w : Word) (s : State) : OtpKept otp (s).lc.otp → ∃ τ, execIllegal w s = .next τ ∧ OtpKept otp τ.lc.otp := by intro hk; refine ⟨_, rfl, ?_⟩; (repeat' split) <;> (first | assumption | (simp (maxDischargeDepth := 30) only [coreRow_kept, illegal_otp, implies_true, ite_kept, hk]; done) | with_reducible exact hk | (simp_all (maxDischargeDepth := 30); done))
@[simp] theorem strDone_kept {otp : Otp} (r : List Refused) (s : State) : OtpKept otp (s).lc.otp → OtpKept otp (strDone r s).lc.otp := by intro hk; unfold strDone; simp (maxDischargeDepth := 30) only [refuseAll_kept, setCore_otp, hk]
@[simp] theorem strLoop_kept {otp : Otp} (op : StrOp) (n : Nat) (dir : Bool) (halt : BitVec 4) (brk : Option ElemBreak) (a5 : Nat) (a6 : Nat) (a7 : List Refused) (a8 : State) : OtpKept otp (a8).lc.otp → OtpKept otp (strLoop op n dir halt brk a5 a6 a7 a8).lc.otp := by
  induction a5 generalizing a6 a7 a8 with
  | zero => intro hk; exact strDone_kept _ _ hk
  | succ k ih =>
    intro hk; rw [strLoop]; split
    · exact refuseAll_kept _ _ (hk.of_eq (breakAt_otp _ _))
    · dsimp only; split
      · exact refuseAll_kept _ _ (hk.of_eq (strOne_otp _ _ _ _ _))
      · exact ih _ _ _ (hk.of_eq (strOne_otp _ _ _ _ _))
@[simp] theorem strRow_kept {otp : Otp} (op : StrOp) (rpt : Bool) (sz : BitVec 2) (dir : Bool) (halt : BitVec 4) (brk : Option ElemBreak) (s : State) : OtpKept otp (s).lc.otp → OtpKept otp (strRow op rpt sz dir halt brk s).lc.otp := by
  intro hk
  unfold strRow
  refine coreRow_kept _ _ ?_ hk
  intro τ h
  dsimp only
  split
  · simpa using h
  · split
    · exact strLoop_kept _ _ _ _ _ _ _ _ _ h
    · split
      · simpa using h
      · exact h
      · rename_i e; exact strDone_kept _ _ (h.of_eq (strElem_otp e))
theorem execMovs_kept {otp : Otp} (rpt : Bool) (sz : BitVec 2) (dir : Bool) (halt : BitVec 4) (brk : Option ElemBreak) (s : State) : OtpKept otp (s).lc.otp → ∃ τ, execMovs rpt sz dir halt brk s = .next τ ∧ OtpKept otp τ.lc.otp := by intro hk; refine ⟨_, rfl, ?_⟩; simp (maxDischargeDepth := 30) only [strRow_kept, hk]
theorem execCmps_kept {otp : Otp} (rpt : Bool) (sz : BitVec 2) (dir : Bool) (halt : BitVec 4) (brk : Option ElemBreak) (s : State) : OtpKept otp (s).lc.otp → ∃ τ, execCmps rpt sz dir halt brk s = .next τ ∧ OtpKept otp τ.lc.otp := by intro hk; refine ⟨_, rfl, ?_⟩; simp (maxDischargeDepth := 30) only [strRow_kept, hk]
theorem execScas_kept {otp : Otp} (rpt : Bool) (sz : BitVec 2) (dir : Bool) (halt : BitVec 4) (brk : Option ElemBreak) (s : State) : OtpKept otp (s).lc.otp → ∃ τ, execScas rpt sz dir halt brk s = .next τ ∧ OtpKept otp τ.lc.otp := by intro hk; refine ⟨_, rfl, ?_⟩; simp (maxDischargeDepth := 30) only [strRow_kept, hk]
theorem execFills_kept {otp : Otp} (rpt : Bool) (sz : BitVec 2) (dir : Bool) (halt : BitVec 4) (brk : Option ElemBreak) (s : State) : OtpKept otp (s).lc.otp → ∃ τ, execFills rpt sz dir halt brk s = .next τ ∧ OtpKept otp τ.lc.otp := by intro hk; refine ⟨_, rfl, ?_⟩; simp (maxDischargeDepth := 30) only [strRow_kept, hk]
theorem execIns_kept {otp : Otp} (rpt : Bool) (sz : BitVec 2) (dir : Bool) (halt : BitVec 4) (brk : Option ElemBreak) (s : State) : OtpKept otp (s).lc.otp → ∃ τ, execIns rpt sz dir halt brk s = .next τ ∧ OtpKept otp τ.lc.otp := by intro hk; refine ⟨_, rfl, ?_⟩; simp (maxDischargeDepth := 30) only [strRow_kept, hk]
theorem execOuts_kept {otp : Otp} (rpt : Bool) (sz : BitVec 2) (dir : Bool) (halt : BitVec 4) (brk : Option ElemBreak) (s : State) : OtpKept otp (s).lc.otp → ∃ τ, execOuts rpt sz dir halt brk s = .next τ ∧ OtpKept otp τ.lc.otp := by intro hk; refine ⟨_, rfl, ?_⟩; simp (maxDischargeDepth := 30) only [strRow_kept, hk]
@[simp] theorem vecRow_kept {otp : Otp} (ok : Bool) (vd : BitVec 3) (k : BitVec 3) (z : Bool) (w : Nat) (f : Core → Nat → Nat) (s : State) : OtpKept otp (s).lc.otp → OtpKept otp (vecRow ok vd k z w f s).lc.otp := by intro hk; unfold vecRow; (repeat' split) <;> (first | assumption | (simp (maxDischargeDepth := 30) only [coreRow_kept, coreOnly_otp, illegal_otp, implies_true, ite_kept, hk]; done) | with_reducible exact hk | (simp_all (maxDischargeDepth := 30); done))
theorem execVadd_kept {otp : Otp} (vd : BitVec 3) (va : BitVec 3) (vb : BitVec 3) (k : BitVec 3) (ew : BitVec 2) (z : Bool) (s : State) : OtpKept otp (s).lc.otp → ∃ τ, execVadd vd va vb k ew z s = .next τ ∧ OtpKept otp τ.lc.otp := by intro hk; refine ⟨_, rfl, ?_⟩; simp (maxDischargeDepth := 30) only [vecRow_kept, hk]
theorem execVsub_kept {otp : Otp} (vd : BitVec 3) (va : BitVec 3) (vb : BitVec 3) (k : BitVec 3) (ew : BitVec 2) (z : Bool) (s : State) : OtpKept otp (s).lc.otp → ∃ τ, execVsub vd va vb k ew z s = .next τ ∧ OtpKept otp τ.lc.otp := by intro hk; refine ⟨_, rfl, ?_⟩; simp (maxDischargeDepth := 30) only [vecRow_kept, hk]
theorem execVmul_kept {otp : Otp} (vd : BitVec 3) (va : BitVec 3) (vb : BitVec 3) (k : BitVec 3) (ew : BitVec 2) (z : Bool) (sgn : Bool) (s : State) : OtpKept otp (s).lc.otp → ∃ τ, execVmul vd va vb k ew z sgn s = .next τ ∧ OtpKept otp τ.lc.otp := by intro hk; refine ⟨_, rfl, ?_⟩; simp (maxDischargeDepth := 30) only [vecRow_kept, hk]
theorem execVmulh_kept {otp : Otp} (vd : BitVec 3) (va : BitVec 3) (vb : BitVec 3) (k : BitVec 3) (ew : BitVec 2) (z : Bool) (sgn : Bool) (s : State) : OtpKept otp (s).lc.otp → ∃ τ, execVmulh vd va vb k ew z sgn s = .next τ ∧ OtpKept otp τ.lc.otp := by intro hk; refine ⟨_, rfl, ?_⟩; simp (maxDischargeDepth := 30) only [vecRow_kept, hk]
theorem execVwmulLo_kept {otp : Otp} (vd : BitVec 3) (va : BitVec 3) (vb : BitVec 3) (k : BitVec 3) (ew : BitVec 2) (z : Bool) (sgn : Bool) (s : State) : OtpKept otp (s).lc.otp → ∃ τ, execVwmulLo vd va vb k ew z sgn s = .next τ ∧ OtpKept otp τ.lc.otp := by intro hk; refine ⟨_, rfl, ?_⟩; simp (maxDischargeDepth := 30) only [vecRow_kept, hk]
theorem execVwmulHi_kept {otp : Otp} (vd : BitVec 3) (va : BitVec 3) (vb : BitVec 3) (k : BitVec 3) (ew : BitVec 2) (z : Bool) (sgn : Bool) (s : State) : OtpKept otp (s).lc.otp → ∃ τ, execVwmulHi vd va vb k ew z sgn s = .next τ ∧ OtpKept otp τ.lc.otp := by intro hk; refine ⟨_, rfl, ?_⟩; simp (maxDischargeDepth := 30) only [vecRow_kept, hk]
theorem execVdot4b_kept {otp : Otp} (vd : BitVec 3) (va : BitVec 3) (vb : BitVec 3) (k : BitVec 3) (ew : BitVec 2) (z : Bool) (sgn : Bool) (s : State) : OtpKept otp (s).lc.otp → ∃ τ, execVdot4b vd va vb k ew z sgn s = .next τ ∧ OtpKept otp τ.lc.otp := by intro hk; refine ⟨_, rfl, ?_⟩; simp (maxDischargeDepth := 30) only [vecRow_kept, hk]
theorem execVdot2h_kept {otp : Otp} (vd : BitVec 3) (va : BitVec 3) (vb : BitVec 3) (k : BitVec 3) (ew : BitVec 2) (z : Bool) (sgn : Bool) (s : State) : OtpKept otp (s).lc.otp → ∃ τ, execVdot2h vd va vb k ew z sgn s = .next τ ∧ OtpKept otp τ.lc.otp := by intro hk; refine ⟨_, rfl, ?_⟩; simp (maxDischargeDepth := 30) only [vecRow_kept, hk]
theorem execVdot2hqLo_kept {otp : Otp} (vd : BitVec 3) (va : BitVec 3) (vb : BitVec 3) (k : BitVec 3) (ew : BitVec 2) (z : Bool) (sgn : Bool) (s : State) : OtpKept otp (s).lc.otp → ∃ τ, execVdot2hqLo vd va vb k ew z sgn s = .next τ ∧ OtpKept otp τ.lc.otp := by intro hk; refine ⟨_, rfl, ?_⟩; simp (maxDischargeDepth := 30) only [vecRow_kept, hk]
theorem execVdot2hqHi_kept {otp : Otp} (vd : BitVec 3) (va : BitVec 3) (vb : BitVec 3) (k : BitVec 3) (ew : BitVec 2) (z : Bool) (sgn : Bool) (s : State) : OtpKept otp (s).lc.otp → ∃ τ, execVdot2hqHi vd va vb k ew z sgn s = .next τ ∧ OtpKept otp τ.lc.otp := by intro hk; refine ⟨_, rfl, ?_⟩; simp (maxDischargeDepth := 30) only [vecRow_kept, hk]
theorem execVmont_kept {otp : Otp} (vd : BitVec 3) (va : BitVec 3) (vb : BitVec 3) (k : BitVec 3) (ew : BitVec 2) (z : Bool) (s : State) : OtpKept otp (s).lc.otp → ∃ τ, execVmont vd va vb k ew z s = .next τ ∧ OtpKept otp τ.lc.otp := by
  intro hk
  refine ⟨_, rfl, coreRow_kept _ _ ?_ hk⟩
  intro τ h
  split
  · exact h.of_eq (illegal_otp _)
  · split
    · exact h.of_eq (faultAt_otp _ _)
    · exact h.of_eq (coreOnly_otp _ _)
@[simp] theorem vBitRow_kept {otp : Otp} (vd : BitVec 3) (va : BitVec 3) (vb : BitVec 3) (k : BitVec 3) (ew : BitVec 2) (z : Bool) (f : BitVec 512 → BitVec 512 → BitVec 512) (s : State) : OtpKept otp (s).lc.otp → OtpKept otp (vBitRow vd va vb k ew z f s).lc.otp := by intro hk; unfold vBitRow; simp (maxDischargeDepth := 30) only [vecRow_kept, hk]
theorem execVand_kept {otp : Otp} (vd : BitVec 3) (va : BitVec 3) (vb : BitVec 3) (k : BitVec 3) (ew : BitVec 2) (z : Bool) (s : State) : OtpKept otp (s).lc.otp → ∃ τ, execVand vd va vb k ew z s = .next τ ∧ OtpKept otp τ.lc.otp := by intro hk; refine ⟨_, rfl, ?_⟩; simp (maxDischargeDepth := 30) only [vBitRow_kept, hk]
theorem execVor_kept {otp : Otp} (vd : BitVec 3) (va : BitVec 3) (vb : BitVec 3) (k : BitVec 3) (ew : BitVec 2) (z : Bool) (s : State) : OtpKept otp (s).lc.otp → ∃ τ, execVor vd va vb k ew z s = .next τ ∧ OtpKept otp τ.lc.otp := by intro hk; refine ⟨_, rfl, ?_⟩; simp (maxDischargeDepth := 30) only [vBitRow_kept, hk]
theorem execVxor_kept {otp : Otp} (vd : BitVec 3) (va : BitVec 3) (vb : BitVec 3) (k : BitVec 3) (ew : BitVec 2) (z : Bool) (s : State) : OtpKept otp (s).lc.otp → ∃ τ, execVxor vd va vb k ew z s = .next τ ∧ OtpKept otp τ.lc.otp := by intro hk; refine ⟨_, rfl, ?_⟩; simp (maxDischargeDepth := 30) only [vBitRow_kept, hk]
theorem execVandn_kept {otp : Otp} (vd : BitVec 3) (va : BitVec 3) (vb : BitVec 3) (k : BitVec 3) (ew : BitVec 2) (z : Bool) (s : State) : OtpKept otp (s).lc.otp → ∃ τ, execVandn vd va vb k ew z s = .next τ ∧ OtpKept otp τ.lc.otp := by intro hk; refine ⟨_, rfl, ?_⟩; simp (maxDischargeDepth := 30) only [vBitRow_kept, hk]
theorem execVshl_kept {otp : Otp} (vd : BitVec 3) (va : BitVec 3) (vb : BitVec 3) (k : BitVec 3) (ew : BitVec 2) (z : Bool) (s : State) : OtpKept otp (s).lc.otp → ∃ τ, execVshl vd va vb k ew z s = .next τ ∧ OtpKept otp τ.lc.otp := by intro hk; refine ⟨_, rfl, ?_⟩; simp (maxDischargeDepth := 30) only [vecRow_kept, hk]
theorem execVshr_kept {otp : Otp} (vd : BitVec 3) (va : BitVec 3) (vb : BitVec 3) (k : BitVec 3) (ew : BitVec 2) (z : Bool) (s : State) : OtpKept otp (s).lc.otp → ∃ τ, execVshr vd va vb k ew z s = .next τ ∧ OtpKept otp τ.lc.otp := by intro hk; refine ⟨_, rfl, ?_⟩; simp (maxDischargeDepth := 30) only [vecRow_kept, hk]
theorem execVsar_kept {otp : Otp} (vd : BitVec 3) (va : BitVec 3) (vb : BitVec 3) (k : BitVec 3) (ew : BitVec 2) (z : Bool) (s : State) : OtpKept otp (s).lc.otp → ∃ τ, execVsar vd va vb k ew z s = .next τ ∧ OtpKept otp τ.lc.otp := by intro hk; refine ⟨_, rfl, ?_⟩; simp (maxDischargeDepth := 30) only [vecRow_kept, hk]
@[simp] theorem vCmpRow_kept {otp : Otp} (kd : BitVec 3) (va : BitVec 3) (vb : BitVec 3) (k : BitVec 3) (ew : BitVec 2) (z : Bool) (sgn : Bool) (f : Int → Int → Bool) (s : State) : OtpKept otp (s).lc.otp → OtpKept otp (vCmpRow kd va vb k ew z sgn f s).lc.otp := by intro hk; unfold vCmpRow; (repeat' split) <;> (first | assumption | (simp (maxDischargeDepth := 30) only []; done) | with_reducible exact hk | (simp_all (maxDischargeDepth := 30); done))
theorem execVcmpEq_kept {otp : Otp} (kd : BitVec 3) (va : BitVec 3) (vb : BitVec 3) (k : BitVec 3) (ew : BitVec 2) (z : Bool) (sgn : Bool) (s : State) : OtpKept otp (s).lc.otp → ∃ τ, execVcmpEq kd va vb k ew z sgn s = .next τ ∧ OtpKept otp τ.lc.otp := by intro hk; refine ⟨_, rfl, ?_⟩; simp (maxDischargeDepth := 30) only [vCmpRow_kept, hk]
theorem execVcmpNe_kept {otp : Otp} (kd : BitVec 3) (va : BitVec 3) (vb : BitVec 3) (k : BitVec 3) (ew : BitVec 2) (z : Bool) (sgn : Bool) (s : State) : OtpKept otp (s).lc.otp → ∃ τ, execVcmpNe kd va vb k ew z sgn s = .next τ ∧ OtpKept otp τ.lc.otp := by intro hk; refine ⟨_, rfl, ?_⟩; simp (maxDischargeDepth := 30) only [vCmpRow_kept, hk]
theorem execVcmpLt_kept {otp : Otp} (kd : BitVec 3) (va : BitVec 3) (vb : BitVec 3) (k : BitVec 3) (ew : BitVec 2) (z : Bool) (sgn : Bool) (s : State) : OtpKept otp (s).lc.otp → ∃ τ, execVcmpLt kd va vb k ew z sgn s = .next τ ∧ OtpKept otp τ.lc.otp := by intro hk; refine ⟨_, rfl, ?_⟩; simp (maxDischargeDepth := 30) only [vCmpRow_kept, hk]
theorem execVcmpLe_kept {otp : Otp} (kd : BitVec 3) (va : BitVec 3) (vb : BitVec 3) (k : BitVec 3) (ew : BitVec 2) (z : Bool) (sgn : Bool) (s : State) : OtpKept otp (s).lc.otp → ∃ τ, execVcmpLe kd va vb k ew z sgn s = .next τ ∧ OtpKept otp τ.lc.otp := by intro hk; refine ⟨_, rfl, ?_⟩; simp (maxDischargeDepth := 30) only [vCmpRow_kept, hk]
theorem execVbcast_kept {otp : Otp} (vd : BitVec 3) (ra : BitVec 3) (k : BitVec 3) (ew : BitVec 2) (z : Bool) (s : State) : OtpKept otp (s).lc.otp → ∃ τ, execVbcast vd ra k ew z s = .next τ ∧ OtpKept otp τ.lc.otp := by intro hk; refine ⟨_, rfl, ?_⟩; simp (maxDischargeDepth := 30) only [vecRow_kept, hk]
theorem execVextr_kept {otp : Otp} (rd : BitVec 3) (va : BitVec 3) (i : BitVec 3) (ew : BitVec 2) (s : State) : OtpKept otp (s).lc.otp → ∃ τ, execVextr rd va i ew s = .next τ ∧ OtpKept otp τ.lc.otp := by intro hk; refine ⟨_, rfl, ?_⟩; (repeat' split) <;> (first | assumption | (simp (maxDischargeDepth := 30) only [coreRow_kept, coreOnly_otp, implies_true, ite_kept, hk]; done) | with_reducible exact hk | (simp_all (maxDischargeDepth := 30); done))
theorem execKmov_kept {otp : Otp} (kd : BitVec 3) (ra : BitVec 3) (s : State) : OtpKept otp (s).lc.otp → ∃ τ, execKmov kd ra s = .next τ ∧ OtpKept otp τ.lc.otp := by
  exact fun hk => ⟨_, rfl, coreRow_kept _ _ (fun τ h => h.of_eq (coreMay_otp _ _)) hk⟩
theorem execKread_kept {otp : Otp} (rd : BitVec 3) (ka : BitVec 3) (s : State) : OtpKept otp (s).lc.otp → ∃ τ, execKread rd ka s = .next τ ∧ OtpKept otp τ.lc.otp := by
  exact fun hk => ⟨_, rfl, coreRow_kept _ _ (fun τ h => h.of_eq (coreMay_otp _ _)) hk⟩
@[simp] theorem maskRow_kept {otp : Otp} (kd : BitVec 3) (ka : BitVec 3) (kb : BitVec 3) (f : BitVec 64 → BitVec 64 → BitVec 64) (s : State) : OtpKept otp (s).lc.otp → OtpKept otp (maskRow kd ka kb f s).lc.otp := by intro hk; unfold maskRow; (repeat' split) <;> (first | assumption | (simp (maxDischargeDepth := 30) only [coreRow_kept, coreOnly_otp, implies_true, ite_kept, hk]; done) | with_reducible exact hk | (simp_all (maxDischargeDepth := 30); done))
theorem execKand_kept {otp : Otp} (kd : BitVec 3) (ka : BitVec 3) (kb : BitVec 3) (s : State) : OtpKept otp (s).lc.otp → ∃ τ, execKand kd ka kb s = .next τ ∧ OtpKept otp τ.lc.otp := by intro hk; refine ⟨_, rfl, ?_⟩; simp (maxDischargeDepth := 30) only [maskRow_kept, hk]
theorem execKor_kept {otp : Otp} (kd : BitVec 3) (ka : BitVec 3) (kb : BitVec 3) (s : State) : OtpKept otp (s).lc.otp → ∃ τ, execKor kd ka kb s = .next τ ∧ OtpKept otp τ.lc.otp := by intro hk; refine ⟨_, rfl, ?_⟩; simp (maxDischargeDepth := 30) only [maskRow_kept, hk]
theorem execKxor_kept {otp : Otp} (kd : BitVec 3) (ka : BitVec 3) (kb : BitVec 3) (s : State) : OtpKept otp (s).lc.otp → ∃ τ, execKxor kd ka kb s = .next τ ∧ OtpKept otp τ.lc.otp := by intro hk; refine ⟨_, rfl, ?_⟩; simp (maxDischargeDepth := 30) only [maskRow_kept, hk]
theorem execKnot_kept {otp : Otp} (kd : BitVec 3) (ka : BitVec 3) (s : State) : OtpKept otp (s).lc.otp → ∃ τ, execKnot kd ka s = .next τ ∧ OtpKept otp τ.lc.otp := by intro hk; refine ⟨_, rfl, ?_⟩; simp (maxDischargeDepth := 30) only [maskRow_kept, hk]
theorem execVld_kept {otp : Otp} (vd : BitVec 3) (rs : BitVec 4) (k : BitVec 3) (ew : BitVec 2) (z : Bool) (s : State) : OtpKept otp (s).lc.otp → ∃ τ, execVld vd rs k ew z s = .next τ ∧ OtpKept otp τ.lc.otp := by intro hk; refine ⟨_, rfl, ?_⟩; dsimp only; apply coreRow_kept <;> intros <;> (try dsimp only) <;> (repeat' split) <;> (first | assumption | (rename_i hk; simp (maxDischargeDepth := 30) only [vFault_otp]; done) | (simp_all (maxDischargeDepth := 30) []; done))
theorem execVst_kept {otp : Otp} (vs : BitVec 3) (rs : BitVec 4) (k : BitVec 3) (ew : BitVec 2) (s : State) : OtpKept otp (s).lc.otp → ∃ τ, execVst vs rs k ew s = .next τ ∧ OtpKept otp τ.lc.otp := by intro hk; refine ⟨_, rfl, ?_⟩; dsimp only; apply coreRow_kept <;> intros <;> (try dsimp only) <;> (repeat' split) <;> (first | assumption | (rename_i hk; simp (maxDischargeDepth := 30) only [vFault_otp]; done) | (simp_all (maxDischargeDepth := 30) []; done))
@[simp] theorem vElems_kept {otp : Otp} (scatter : Bool) (vd : BitVec 3) (rs : BitVec 4) (idx : BitVec 512) (k : BitVec 3) (z : Bool) (w : Nat) (brk : Option ElemBreak) (a8 : List Nat) (a9 : Nat) (a10 : List Refused) (a11 : State) : OtpKept otp (a11).lc.otp → OtpKept otp (vElems scatter vd rs idx k z w brk a8 a9 a10 a11).lc.otp := by
  induction a8 generalizing a9 a10 a11 with
  | nil => intro hk; exact refuseAll_kept _ _ (hk.of_eq (coreOnly_otp _ _))
  | cons i l ih =>
    intro hk
    rw [vElems]; dsimp only
    (repeat' split) <;> first | exact ih _ _ _ hk | (first | apply ih | apply refuseAll_kept) <;> refine hk.of_eq ?_ <;> simp
theorem execVgath_kept {otp : Otp} (vd : BitVec 3) (rs : BitVec 4) (vi : BitVec 3) (k : BitVec 3) (ew : BitVec 2) (z : Bool) (brk : Option ElemBreak) (s : State) : OtpKept otp (s).lc.otp → ∃ τ, execVgath vd rs vi k ew z brk s = .next τ ∧ OtpKept otp τ.lc.otp := by intro hk; refine ⟨_, rfl, ?_⟩; (repeat' split) <;> (first | assumption | (simp (maxDischargeDepth := 30) only [coreRow_kept, vElems_kept, implies_true, ite_kept, hk]; done) | with_reducible exact hk | (simp_all (maxDischargeDepth := 30); done))
theorem execVscat_kept {otp : Otp} (vs : BitVec 3) (rs : BitVec 4) (vi : BitVec 3) (k : BitVec 3) (ew : BitVec 2) (brk : Option ElemBreak) (s : State) : OtpKept otp (s).lc.otp → ∃ τ, execVscat vs rs vi k ew brk s = .next τ ∧ OtpKept otp τ.lc.otp := by intro hk; refine ⟨_, rfl, ?_⟩; (repeat' split) <;> (first | assumption | (simp (maxDischargeDepth := 30) only [coreRow_kept, vElems_kept, implies_true, ite_kept, hk]; done) | with_reducible exact hk | (simp_all (maxDischargeDepth := 30); done))
@[simp] theorem digTurn_kept {otp : Otp} (e : Nat) (u : Nat) (x : Entry) (f : Entry → Nat → State → Res × State) (t : State) (h3 : ∀ v0 v1 τ, OtpKept otp (τ).lc.otp → OtpKept otp ((f v0 v1 τ).2).lc.otp) (k3 : ∀ v0 v1 τ ρ, OtpKept otp (ρ).lc.otp → OtpKept otp ((f v0 v1 τ).1.release ρ).lc.otp) : OtpKept otp (t).lc.otp → OtpKept otp (digTurn e u x f t).lc.otp := by intro hk; unfold digTurn; (repeat' split) <;> (first | assumption | (simp (maxDischargeDepth := 30) only []; done) | with_reducible exact hk | (simp_all (maxDischargeDepth := 30); done))
@[simp] theorem digRow_kept {otp : Otp} (opcode : Nat) (e : Nat) (f : Entry → Nat → State → Res × State) (s : State) (h2 : ∀ v0 v1 τ, OtpKept otp (τ).lc.otp → OtpKept otp ((f v0 v1 τ).2).lc.otp) (k2 : ∀ v0 v1 τ ρ, OtpKept otp (ρ).lc.otp → OtpKept otp ((f v0 v1 τ).1.release ρ).lc.otp) : OtpKept otp (s).lc.otp → OtpKept otp (digRow opcode e f s).lc.otp := by
  intro hk
  unfold digRow
  (repeat' split) <;> first
    | exact hk
    | exact recGuard_kept _ _ _ _ _ (fun τ h => digTurn_kept _ _ _ _ _ h2 k2 h) hk
    | exact digTurn_kept _ _ _ _ _ h2 k2 hk
theorem execOpenCtx_kept {otp : Otp} (e : Nat) (s : State) : OtpKept otp (s).lc.otp → ∃ τ, execOpenCtx e s = .next τ ∧ OtpKept otp τ.lc.otp := by intro hk; refine ⟨_, rfl, ?_⟩; (repeat' split) <;> (first | assumption | (simp (maxDischargeDepth := 30) only [digRow_kept, runOpenCtx_otp, runOpenCtx_otp_rel, implies_true, ite_kept, hk]; done) | with_reducible exact hk | (simp_all (maxDischargeDepth := 30); done))
theorem execAbsorb_kept {otp : Otp} (e : Nat) (s : State) : OtpKept otp (s).lc.otp → ∃ τ, execAbsorb e s = .next τ ∧ OtpKept otp τ.lc.otp := by intro hk; refine ⟨_, rfl, ?_⟩; (repeat' split) <;> (first | assumption | (simp (maxDischargeDepth := 30) only [digRow_kept, runAbsorb_otp, runAbsorb_otp_rel, implies_true, ite_kept, hk]; done) | with_reducible exact hk | (simp_all (maxDischargeDepth := 30); done))
@[simp] theorem finishRow_kept {otp : Otp} (e : Nat) (read : Bool) (s : State) : OtpKept otp (s).lc.otp → OtpKept otp (finishRow e read s).lc.otp := by intro hk; unfold finishRow; (repeat' split) <;> (first | assumption | (simp (maxDischargeDepth := 30) only [digRow_kept, runFinish_otp, runFinish_otp_rel, implies_true, ite_kept, hk]; done) | with_reducible exact hk | (simp_all (maxDischargeDepth := 30); done))
theorem execFinishFinal_kept {otp : Otp} (e : Nat) (s : State) : OtpKept otp (s).lc.otp → ∃ τ, execFinishFinal e s = .next τ ∧ OtpKept otp τ.lc.otp := by intro hk; refine ⟨_, rfl, ?_⟩; simp (maxDischargeDepth := 30) only [finishRow_kept, hk]
theorem execFinishRead_kept {otp : Otp} (e : Nat) (s : State) : OtpKept otp (s).lc.otp → ∃ τ, execFinishRead e s = .next τ ∧ OtpKept otp τ.lc.otp := by intro hk; refine ⟨_, rfl, ?_⟩; simp (maxDischargeDepth := 30) only [finishRow_kept, hk]
theorem execOneshot_kept {otp : Otp} (e : Nat) (s : State) : OtpKept otp (s).lc.otp → ∃ τ, execOneshot e s = .next τ ∧ OtpKept otp τ.lc.otp := by intro hk; refine ⟨_, rfl, ?_⟩; (repeat' split) <;> (first | assumption | (simp (maxDischargeDepth := 30) only [digRow_kept, runOneshot_otp, runOneshot_otp_rel, implies_true, ite_kept, hk]; done) | with_reducible exact hk | (simp_all (maxDischargeDepth := 30); done))
theorem execDeriveKey_kept {otp : Otp} (e : Nat) (s : State) : OtpKept otp (s).lc.otp → ∃ τ, execDeriveKey e s = .next τ ∧ OtpKept otp τ.lc.otp := by intro hk; refine ⟨_, rfl, ?_⟩; (repeat' split) <;> (first | assumption | (simp (maxDischargeDepth := 30) only [digRow_kept, runDeriveKey_otp, runDeriveKey_otp_rel, implies_true, ite_kept, hk]; done) | with_reducible exact hk | (simp_all (maxDischargeDepth := 30); done))
theorem execExtend_kept {otp : Otp} (e : Nat) (s : State) : OtpKept otp (s).lc.otp → ∃ τ, execExtend e s = .next τ ∧ OtpKept otp τ.lc.otp := by intro hk; refine ⟨_, rfl, ?_⟩; (repeat' split) <;> (first | assumption | (simp (maxDischargeDepth := 30) only [digRow_kept, runExtend_otp, runExtend_otp_rel, implies_true, ite_kept, hk]; done) | with_reducible exact hk | (simp_all (maxDischargeDepth := 30); done))
theorem execSaveCtx_kept {otp : Otp} (e : Nat) (s : State) : OtpKept otp (s).lc.otp → ∃ τ, execSaveCtx e s = .next τ ∧ OtpKept otp τ.lc.otp := by intro hk; refine ⟨_, rfl, ?_⟩; (repeat' split) <;> (first | assumption | (simp (maxDischargeDepth := 30) only [digRow_kept, runSaveCtx_otp, runSaveCtx_otp_rel, implies_true, ite_kept, hk]; done) | with_reducible exact hk | (simp_all (maxDischargeDepth := 30); done))
theorem execLoadCtx_kept {otp : Otp} (e : Nat) (s : State) : OtpKept otp (s).lc.otp → ∃ τ, execLoadCtx e s = .next τ ∧ OtpKept otp τ.lc.otp := by intro hk; refine ⟨_, rfl, ?_⟩; (repeat' split) <;> (first | assumption | (simp (maxDischargeDepth := 30) only [digRow_kept, runLoadCtx_otp, runLoadCtx_otp_rel, implies_true, ite_kept, hk]; done) | with_reducible exact hk | (simp_all (maxDischargeDepth := 30); done))
theorem execRngTestFail_kept {otp : Otp} (code : Nat) (group : Nat) (osc : Nat) (value : Nat) (s : State) : OtpKept otp (s).lc.otp → ∃ τ, execRngTestFail code group osc value s = .next τ ∧ OtpKept otp τ.lc.otp := by intro hk; refine ⟨_, rfl, ?_⟩; simp (maxDischargeDepth := 30) only [enterFailed_otp, setObj_otp, bump_otp, tamperEvent_kept, ite_kept, hk]
theorem execStartUpTestFailure_kept {otp : Otp} (s : State) : OtpKept otp (s).lc.otp → ∃ τ, execStartUpTestFailure s = .next τ ∧ OtpKept otp τ.lc.otp := by intro hk; refine ⟨_, rfl, ?_⟩; (repeat' split) <;> (first | assumption | (simp (maxDischargeDepth := 30) only [rngReinitEnds_otp, rngDies_otp, tamperEvent_kept, enterFailed_otp, ite_kept, hk]; done) | with_reducible exact hk | (simp_all (maxDischargeDepth := 30); done))
@[simp] theorem ringGuard_kept {otp : Otp} (p : Nat) (len : Nat) (kind : Nat) (k : State → State) (s : State) (h3 : ∀ τ, OtpKept otp (τ).lc.otp → OtpKept otp ((k τ)).lc.otp) : OtpKept otp (s).lc.otp → OtpKept otp (ringGuard p len kind k s).lc.otp := by intro hk; unfold ringGuard; (repeat' split) <;> (first | assumption | (simp (maxDischargeDepth := 30) only [recGuard_kept, implies_true, ite_kept, h3, hk]; done) | with_reducible exact hk | (simp_all (maxDischargeDepth := 30); done))
theorem execRingPoll_kept {otp : Otp} (p : Nat) (entries : List Bytes) (s : State) : OtpKept otp (s).lc.otp → ∃ τ, execRingPoll p entries s = .next τ ∧ OtpKept otp τ.lc.otp := by intro hk; refine ⟨_, rfl, ?_⟩; (repeat' split) <;> (first | assumption | (simp (maxDischargeDepth := 30) only [pollLimited_otp, hk]; done) | with_reducible exact hk | (simp_all (maxDischargeDepth := 30); done))
theorem takeTurn_otp {p k : Nat} {s t : State} (h : takeTurn p s = some (k, t)) : t.lc.otp = s.lc.otp := by
  unfold takeTurn at h
  (repeat' split at h) <;> first | (cases h; done) | (cases h; first | rfl | exact useTurn_otp _ _ _)
theorem controlTurn_otp {s t : State} {p o n k : Nat} {d : Desc} (h : controlTurn s p o = some (d, n, k, t)) : t.lc.otp = s.lc.otp := by
  unfold controlTurn at h
  split at h
  · rename_i e
    split at h
    · cases h; exact takeTurn_otp e
    · cases h
  · cases h
theorem execAdmission_kept {otp : Otp} (p : Nat) (s : State) : OtpKept otp (s).lc.otp → ∃ τ, execAdmission p s = .next τ ∧ OtpKept otp τ.lc.otp := by
  intro hk
  refine ⟨_, rfl, ?_⟩
  split
  · exact hk
  · split
    · exact hk
    · rename_i e
      exact ringGuard_kept _ _ _ _ _ (fun τ h => h.of_eq (turn_otp _ _ _ _)) (hk.of_eq (takeTurn_otp e))
theorem execJobNop_kept {otp : Otp} (p : Nat) (s : State) : OtpKept otp (s).lc.otp → ∃ τ, execJobNop p s = .next τ ∧ OtpKept otp τ.lc.otp := by
  intro hk
  refine ⟨_, rfl, ?_⟩
  split
  · rename_i e; exact ringGuard_kept _ _ _ _ _ (fun τ h => h.of_eq (by simp)) (hk.of_eq (controlTurn_otp e))
  · exact hk
theorem execAbort_kept {otp : Otp} (p : Nat) (s : State) : OtpKept otp (s).lc.otp → ∃ τ, execAbort p s = .next τ ∧ OtpKept otp τ.lc.otp := by
  intro hk
  refine ⟨_, rfl, ?_⟩
  split
  · exact hk
  · rename_i e
    exact ringGuard_kept _ _ _ _ _ (fun τ h => h.of_eq (by dsimp only; split <;> simp)) (hk.of_eq (controlTurn_otp e))
theorem execLockstepMismatch_kept {otp : Otp} (s : State) : OtpKept otp (s).lc.otp → ∃ τ, execLockstepMismatch s = .next τ ∧ OtpKept otp τ.lc.otp := by intro hk; refine ⟨_, rfl, ?_⟩; simp (maxDischargeDepth := 30) only [tamperEvent_kept, warmRestart_otp, ite_kept, hk]
theorem execMemoryEccError_kept {otp : Otp} (mem : Nat) (uncorrectable : Bool) (reader : UnitRef) (s : State) : OtpKept otp (s).lc.otp → ∃ τ, execMemoryEccError mem uncorrectable reader s = .next τ ∧ OtpKept otp τ.lc.otp := by intro hk; refine ⟨_, rfl, ?_⟩; simp (maxDischargeDepth := 30) only [bump_otp, tamperEvent_kept, warmRestart_otp, ite_kept, hk]
@[simp] theorem svcRow_kept {otp : Otp} (f : Nat → State → State) (s : State) (h0 : ∀ v0 τ, OtpKept otp (τ).lc.otp → OtpKept otp ((f v0 τ)).lc.otp) : OtpKept otp (s).lc.otp → OtpKept otp (svcRow f s).lc.otp := by intro hk; unfold svcRow; dsimp only; apply coreRow_kept <;> intros <;> (try dsimp only) <;> (repeat' split) <;> (first | assumption | (rename_i hk; simp (maxDischargeDepth := 30) only [takeExc_otp, setCore_otp]; done) | (simp_all (maxDischargeDepth := 30) []; done))
theorem execSvcExit_kept {otp : Otp} (s : State) : OtpKept otp (s).lc.otp → ∃ τ, execSvcExit s = .next τ ∧ OtpKept otp τ.lc.otp := by intro hk; refine ⟨_, rfl, ?_⟩; (repeat' split) <;> (first | assumption | (simp (maxDischargeDepth := 30) only [svcRow_kept, svcExit_otp, implies_true, ite_kept, hk]; done) | with_reducible exact hk | (simp_all (maxDischargeDepth := 30); done))
theorem execSvcSubmit_kept {otp : Otp} (s : State) : OtpKept otp (s).lc.otp → ∃ τ, execSvcSubmit s = .next τ ∧ OtpKept otp τ.lc.otp := by intro hk; refine ⟨_, rfl, ?_⟩; (repeat' split) <;> (first | assumption | (simp (maxDischargeDepth := 30) only [svcRow_kept, svcSubmit_otp, implies_true, ite_kept, hk]; done) | with_reducible exact hk | (simp_all (maxDischargeDepth := 30); done))
theorem execSvcWait_kept {otp : Otp} (s : State) : OtpKept otp (s).lc.otp → ∃ τ, execSvcWait s = .next τ ∧ OtpKept otp τ.lc.otp := by intro hk; refine ⟨_, rfl, ?_⟩; (repeat' split) <;> (first | assumption | (simp (maxDischargeDepth := 30) only [svcRow_kept, svcWait_otp, implies_true, ite_kept, hk]; done) | with_reducible exact hk | (simp_all (maxDischargeDepth := 30); done))
theorem execSvcYield_kept {otp : Otp} (s : State) : OtpKept otp (s).lc.otp → ∃ τ, execSvcYield s = .next τ ∧ OtpKept otp τ.lc.otp := by intro hk; refine ⟨_, rfl, ?_⟩; (repeat' split) <;> (first | assumption | (simp (maxDischargeDepth := 30) only [svcRow_kept, nextCell_otp, switchOut_otp, implies_true, ite_kept, hk]; done) | with_reducible exact hk | (simp_all (maxDischargeDepth := 30); done))
@[simp] theorem pipeMismatch_kept {otp : Otp} (c : Nat) (q : InFlightPkt) (s : State) : OtpKept otp (s).lc.otp → OtpKept otp (pipeMismatch c q s).lc.otp := by intro hk; unfold pipeMismatch; simp (maxDischargeDepth := 30) only [bump_otp, finishPkt_otp, setPipe_otp, fencePipe_otp, losePkts_otp, tamperEvent_kept, drainCircuit_otp, ite_kept, hk]
theorem execPipelineDone_kept {otp : Otp} (c : Nat) (id : Nat) (mismatch : Bool) (s : State) : OtpKept otp (s).lc.otp → ∃ τ, execPipelineDone c id mismatch s = .next τ ∧ OtpKept otp τ.lc.otp := by
  intro hk
  refine ⟨_, rfl, ?_⟩
  split
  · exact hk
  · split
    · exact pipeMismatch_kept _ _ _ hk
    · dsimp only
      rw [drainCircuit_otp, finishPkt_otp]
      split
      · exact hk.of_eq (validatePassed_otp _ _ _ _)
      · exact hk.of_eq (bump_otp _ _)
      · exact hk
@[simp] theorem hashJob_kept {otp : Otp} (colour : Nat) (r : CtxRec) (cyc : Nat) (lost : State → State) (done : State → State) (s : State) (h3 : ∀ τ, OtpKept otp (τ).lc.otp → OtpKept otp ((lost τ)).lc.otp) (h4 : ∀ τ, OtpKept otp (τ).lc.otp → OtpKept otp ((done τ)).lc.otp) : OtpKept otp (s).lc.otp → OtpKept otp (hashJob colour r cyc lost done s).lc.otp := by
  intro hk
  unfold hashJob
  split
  · exact h3 _ hk
  · split
    · exact h4 _ (hk.of_eq (hashTurn_otp _ _ _))
    · exact h3 _ (deviceRefusal_kept _ _ _ _ _ hk)
@[simp] theorem graftHash_kept {otp : Otp} (c : Nat) (cyc : Nat) (done : State → State) (s : State) (h2 : ∀ τ, OtpKept otp (τ).lc.otp → OtpKept otp ((done τ)).lc.otp) : OtpKept otp (s).lc.otp → OtpKept otp (graftHash c cyc done s).lc.otp := by
  exact hashJob_kept _ _ _ _ _ _ (fun τ h => h.of_eq (hashLost_otp _ _)) h2
theorem execGraftG2Received_kept {otp : Otp} (c : Nat) (s : State) : OtpKept otp (s).lc.otp → ∃ τ, execGraftG2Received c s = .next τ ∧ OtpKept otp τ.lc.otp := by
  intro hk
  refine ⟨_, rfl, ?_⟩
  split
  · exact hk.of_eq (dropStale_otp _ _ _)
  · exact graftHash_kept _ _ _ _ (fun τ h => h.of_eq (by simp only [beginStage_otp, setGraft_otp])) hk
theorem execGraftG3Received_kept {otp : Otp} (c : Nat) (s : State) : OtpKept otp (s).lc.otp → ∃ τ, execGraftG3Received c s = .next τ ∧ OtpKept otp τ.lc.otp := by
  intro hk
  refine ⟨_, rfl, ?_⟩
  split
  · exact hk.of_eq (dropStale_otp _ _ _)
  · exact ite_kept _ (hk.of_eq (setGraft_otp _ _ _))
      (graftHash_kept _ _ _ _ (fun τ h => h.of_eq (by simp only [beginStage_otp, setGraft_otp])) hk)
@[simp] theorem afterSecrets_kept {otp : Otp} (c : Nat) (s : State) : OtpKept otp (s).lc.otp → OtpKept otp (afterSecrets c s).lc.otp := by
  intro hk
  unfold afterSecrets
  refine ite_kept _ (hk.of_eq (failGraft_otp _ _ _)) (graftHash_kept _ _ _ _ (fun τ h => graftHash_kept _ _ _ _ (fun v hv => hv.of_eq ?_) h) hk)
  simp only [beginStage_otp, setGraft_otp, keySchedule_otp]
@[simp] theorem signG2_kept {otp : Otp} (c : Nat) (s : State) : OtpKept otp (s).lc.otp → OtpKept otp (signG2 c s).lc.otp := by
  intro hk
  unfold signG2
  exact graftHash_kept _ _ _ _ (fun τ h => h.of_eq (by simp only [beginStage_otp, setGraft_otp])) hk
@[simp] theorem afterShare_kept {otp : Otp} (c : Nat) (s : State) : OtpKept otp (s).lc.otp → OtpKept otp (afterShare c s).lc.otp := by intro hk; unfold afterShare; simp (maxDischargeDepth := 30) only [failGraft_otp, draw_otp, setGraft_otp, beginStage_otp, signG2_kept, ite_kept, hk]
@[simp] theorem afterVerifyG3_kept {otp : Otp} (c : Nat) (s : State) : OtpKept otp (s).lc.otp → OtpKept otp (afterVerifyG3 c s).lc.otp := by
  intro hk
  unfold afterVerifyG3
  refine graftHash_kept _ _ _ _ (fun τ h => h.of_eq ?_) hk
  simp only [badMessage_otp, failGraft_otp, armGraft_otp, stageOver_otp, keySchedule_otp, ite_otp, ite_self]
@[simp] theorem stageEnd_kept {otp : Otp} (c : Nat) (s : State) : OtpKept otp (s).lc.otp → OtpKept otp (stageEnd c s).lc.otp := by
  intro hk
  unfold stageEnd
  dsimp only
  split
  · exact hk
  · exact hk.of_eq (afterKeygen_otp _ _)
  · exact ite_kept _ (hk.of_eq (badMessage_otp _ _)) (hk.of_eq (afterVerifyG2_otp _ _))
  · exact afterSecrets_kept _ _ hk
  · exact hk.of_eq (afterSignG3_otp _ _)
  · exact afterShare_kept _ _ hk
  · exact signG2_kept _ _ hk
  · exact hk.of_eq (afterSignG2_otp _ _)
  · exact ite_kept _ (hk.of_eq (badMessage_otp _ _)) (afterVerifyG3_kept _ _ hk)
theorem execGraftStepsDone_kept {otp : Otp} (c : Nat) (s : State) : OtpKept otp (s).lc.otp → ∃ τ, execGraftStepsDone c s = .next τ ∧ OtpKept otp τ.lc.otp := by
  intro hk
  refine ⟨_, rfl, ite_kept _ hk ?_⟩
  split
  · exact hk.of_eq (failGraft_otp _ _ _)
  · exact ite_kept _ hk (stageEnd_kept _ _ (hk.of_eq (takeSlots_otp _ _)))
theorem execJobResume_kept {otp : Otp} (e : Nat) (tagOk : Bool) (s : State) : OtpKept otp (s).lc.otp → ∃ τ, execJobResume e tagOk s = .next τ ∧ OtpKept otp τ.lc.otp := by intro hk; refine ⟨_, rfl, ?_⟩; (repeat' split) <;> (first | assumption | (simp (maxDischargeDepth := 30) only [stopJob_otp, setEntry_otp, setSlice_otp, reinitSlice_otp, tamperEvent_kept, bump_otp, ite_kept, hk]; done) | with_reducible exact hk | (simp_all (maxDischargeDepth := 30); done))
@[simp] theorem benchDecide_kept {otp : Otp} (b : Nat) (cycle : Nat) (reqs : List BenchReq) (s : State) : OtpKept otp (s).lc.otp → OtpKept otp (benchDecide b cycle reqs s).lc.otp := by intro hk; unfold benchDecide; dsimp only; (repeat' split) <;> (first | assumption | (simp (maxDischargeDepth := 30) only [setBench_otp, bumpBy_otp, bump_otp, deviceRefusal_kept, hk]; done) | with_reducible exact hk | (simp_all (maxDischargeDepth := 30); done))
theorem execBenchRequest_kept {otp : Otp} (b : Nat) (cycle : Nat) (reqs : List BenchReq) (s : State) : OtpKept otp (s).lc.otp → ∃ τ, execBenchRequest b cycle reqs s = .next τ ∧ OtpKept otp τ.lc.otp := by intro hk; refine ⟨_, rfl, ?_⟩; simp (maxDischargeDepth := 30) only [benchDecide_kept, rouseEngine_otp, ite_kept, hk]
@[simp] theorem giveEvent_kept {otp : Otp} (n : Nat) (u : UnitRef) (value : Nat) (s : State) : OtpKept otp (s).lc.otp → OtpKept otp (giveEvent n u value s).lc.otp := by intro hk; unfold giveEvent; simp (maxDischargeDepth := 30) only [tamperEvent_kept, setSource_otp, ite_kept, hk]
@[simp] theorem fastEvent_kept {otp : Otp} (n : Nat) (u : UnitRef) (value : Nat) (s : State) : OtpKept otp (s).lc.otp → OtpKept otp (fastEvent n u value s).lc.otp := by intro hk; unfold fastEvent; dsimp only; (repeat' split) <;> (first | assumption | (simp (maxDischargeDepth := 30) only [setSource_otp, giveEvent_kept, hk]; done) | with_reducible exact hk | (simp_all (maxDischargeDepth := 30); done))
theorem execTamperEvent_kept {otp : Otp} (n : Nat) (u : UnitRef) (value : Nat) (fast : Bool) (s : State) : OtpKept otp (s).lc.otp → ∃ τ, execTamperEvent n u value fast s = .next τ ∧ OtpKept otp τ.lc.otp := by intro hk; refine ⟨_, rfl, ?_⟩; simp (maxDischargeDepth := 30) only [fastEvent_kept, giveEvent_kept, setSource_otp, ite_kept, hk]
@[simp] theorem sampleSource_kept {otp : Otp} (n : Nat) (out : Bool) (value : Nat) (s : State) : OtpKept otp (s).lc.otp → OtpKept otp (sampleSource n out value s).lc.otp := by intro hk; unfold sampleSource; simp (maxDischargeDepth := 30) only [setSource_otp, giveEvent_kept, ite_kept, hk]
@[simp] theorem sampleVbat_kept {otp : Otp} (mv : Nat) (s : State) : OtpKept otp (s).lc.otp → OtpKept otp (sampleVbat mv s).lc.otp := by intro hk; unfold sampleVbat; simp (maxDischargeDepth := 30) only [sampleSource_kept, setSource_otp, ite_kept, hk]
theorem execSupplySample_kept {otp : Otp} (core : Nat) (sram : Nat) (io18 : Nat) (vbat : Nat) (temps : List Int) (s : State) : OtpKept otp (s).lc.otp → ∃ τ, execSupplySample core sram io18 vbat temps s = .next τ ∧ OtpKept otp τ.lc.otp := by intro hk; refine ⟨_, rfl, ?_⟩; simp (maxDischargeDepth := 30) only [advanceTo_otp, sampleSource_kept, sampleVbat_kept, ite_kept, hk]
theorem execMeshSample_kept {otp : Otp} (pair : Nat) (sensed : Bool) (s : State) : OtpKept otp (s).lc.otp → ∃ τ, execMeshSample pair sensed s = .next τ ∧ OtpKept otp τ.lc.otp := by intro hk; refine ⟨_, rfl, ?_⟩; simp (maxDischargeDepth := 30) only [advanceTo_otp, setSource_otp, giveEvent_kept, ite_kept, hk]
theorem execZeroNPress_kept {otp : Otp} (s : State) : OtpKept otp (s).lc.otp → ∃ τ, execZeroNPress s = .next τ ∧ OtpKept otp τ.lc.otp := by intro hk; refine ⟨_, rfl, ?_⟩; simp (maxDischargeDepth := 30) only [giveEvent_kept, hk]
theorem execInputChatter_kept {otp : Otp} (n : Nat) (s : State) : OtpKept otp (s).lc.otp → ∃ τ, execInputChatter n s = .next τ ∧ OtpKept otp τ.lc.otp := by intro hk; refine ⟨_, rfl, ?_⟩; dsimp only; (repeat' split) <;> (first | assumption | (simp (maxDischargeDepth := 30) only [advanceTo_otp, confirm_kept, setSource_otp, hk]; done) | with_reducible exact hk | (simp_all (maxDischargeDepth := 30); done))
theorem execPdnWindowExpiry_kept {otp : Otp} (s : State) : OtpKept otp (s).lc.otp → ∃ τ, execPdnWindowExpiry s = .next τ ∧ OtpKept otp τ.lc.otp := by intro hk; refine ⟨_, rfl, ?_⟩; (repeat' split) <;> (first | assumption | (simp (maxDischargeDepth := 30) only [advanceTo_otp, tamperEventAt_kept, hk]; done) | with_reducible exact hk | (simp_all (maxDischargeDepth := 30); done))
theorem execStage_kept {otp : Otp} (p : Nat) (data : Bytes) (ok : Bool) (s : State) : OtpKept otp (s).lc.otp → ∃ τ, execStage p data ok s = .next τ ∧ OtpKept otp τ.lc.otp := by
  intro hk
  refine ⟨_, rfl, ?_⟩
  split
  · exact hk
  · rename_i e
    exact ringGuard_kept _ _ _ _ _ (fun τ h => h.of_eq (by dsimp only; split <;> simp)) (hk.of_eq (controlTurn_otp e))
@[simp] theorem burnSecver_kept {otp : Otp} (s : State) : OtpKept otp (s).lc.otp → OtpKept otp (burnSecver s).lc.otp := by
  intro hk
  unfold burnSecver
  dsimp only
  generalize tabulate 10 (· + 1) = m
  generalize (actRec s).secver = l
  obtain ⟨h1, h2, h3, h4, h5, h6, h7⟩ := hk
  obtain ⟨g1, g2⟩ := secver_rise l m s.lc.otp.secver h2
  refine ⟨h1, g1, h3, h4, h5, h6, fun t => Nat.le_trans (h7 t) ?_⟩
  exact g2 t
@[simp] theorem confirmRule_kept_act {otp : Otp} (s : State) : ∀ τ, OtpKept otp (τ).lc.otp → OtpKept otp ((confirmRule s).act τ).lc.otp := by intro τ hk; unfold confirmRule; simp (maxDischargeDepth := 30) only [burnSecver_kept, setUpd_otp, hk]
@[simp] theorem confirmRule_kept_first {otp : Otp} (s : State) : ∀ τ, OtpKept otp (τ).lc.otp → OtpKept otp (((confirmRule s).first τ).1).lc.otp := by intro τ hk; unfold confirmRule; simp (maxDischargeDepth := 30) only [hk]
theorem execUpdConfirm_kept {otp : Otp} (c : Caller) (data : Bytes) (s : State) : OtpKept otp (s).lc.otp → ∃ τ, execUpdConfirm c data s = .next τ ∧ OtpKept otp τ.lc.otp := by
  exact fun hk => ⟨_, rfl, writeAccess_kept _ _ _ _ _ (confirmRule_kept_act _) (confirmRule_kept_first _) hk⟩
theorem burnRoot_kept {otp : Otp} (s : State) (hb : rootBlank s.lc.otp.root0 = true ∨ rootBlank s.lc.otp.root1 = true)
    (hk : OtpKept otp s.lc.otp) : OtpKept otp (burnRoot s).lc.otp := by
  unfold burnRoot
  have e := draw_otp 40 32 s
  obtain ⟨h1, h2, h3, ⟨r0, r1⟩, h5⟩ := hk
  dsimp only
  rw [e]
  split
  · rename_i h; exact ⟨h1, h2, h3, ⟨r0.of_blank _ h, r1⟩, h5⟩
  · rename_i h; exact ⟨h1, h2, h3, ⟨r0, r1.of_blank _ (hb.resolve_left h)⟩, h5⟩
@[simp] theorem burnState_kept {otp : Otp} (goal : LifeState) (s : State) : OtpKept otp (s).lc.otp → OtpKept otp (burnState goal s).lc.otp := by
  rintro ⟨h1, h2, ⟨a, b, c⟩, h4⟩
  exact ⟨h1, h2, ⟨and_or_of_and _ a, and_or_of_and _ b, and_or_of_and _ c⟩, h4⟩
theorem transition_kept {otp : Otp} (goal : LifeState) (s : State)
    (hb : goal = .provision → rootBlank s.lc.otp.root0 = true ∨ rootBlank s.lc.otp.root1 = true)
    (hk : OtpKept otp s.lc.otp) : OtpKept otp (transition goal s).lc.otp := by
  unfold transition
  dsimp only
  refine OtpKept.of_eq ?_ (scheduleReset_otp _ _ _)
  refine OtpKept.of_eq ?_ (usedFree_otp _)
  apply burnState_kept
  split
  · rename_i h; exact burnRoot_kept _ (by rw [stopTraffic_otp]; exact hb h) (hk.of_eq (stopTraffic_otp _))
  · exact hk.of_eq (stopTraffic_otp _)
@[simp] theorem applyRequest_kept {otp : Otp} (s : State) : OtpKept otp (s).lc.otp → OtpKept otp (applyRequest s).lc.otp := by
  intro hk
  unfold applyRequest
  split
  · exact hk
  · split
    · rename_i h
      refine transition_kept _ _ (fun e => ?_) (hk.of_eq (setReq_otp _ _))
      subst e
      rw [setReq_otp]
      simpa [precondition] using (Bool.and_eq_true_iff.mp h).2
    · exact hk.of_eq (setReq_otp _ _)
@[simp] theorem applyRule_kept_act {otp : Otp} (w : Who) (data : Bytes) (s : State) : ∀ τ, OtpKept otp (τ).lc.otp → OtpKept otp ((applyRule w data s).act τ).lc.otp := by intro τ hk; unfold applyRule; simp (maxDischargeDepth := 30) only [applyRequest_kept, hk]
@[simp] theorem applyRule_kept_first {otp : Otp} (w : Who) (data : Bytes) (s : State) : ∀ τ, OtpKept otp (τ).lc.otp → OtpKept otp (((applyRule w data s).first τ).1).lc.otp := by intro τ hk; unfold applyRule; simp (maxDischargeDepth := 30) only [checkRequest_otp, hk]
@[simp] theorem ruleFor_kept_act {otp : Otp} (s : State) (a : AccessCmd) (f : Who → WriteRule) (h2 : ∀ v0 τ, OtpKept otp (τ).lc.otp → OtpKept otp ((f v0).act τ).lc.otp) (g2 : ∀ v0 τ, OtpKept otp (τ).lc.otp → OtpKept otp (((f v0).first τ).1).lc.otp) : ∀ τ, OtpKept otp (τ).lc.otp → OtpKept otp ((ruleFor s a f).act τ).lc.otp := by intro τ hk; unfold ruleFor; (repeat' split) <;> (first | assumption | (simp (maxDischargeDepth := 30) only [h2, hk]; done) | with_reducible exact hk | (simp_all (maxDischargeDepth := 30); done))
@[simp] theorem ruleFor_kept_first {otp : Otp} (s : State) (a : AccessCmd) (f : Who → WriteRule) (h2 : ∀ v0 τ, OtpKept otp (τ).lc.otp → OtpKept otp ((f v0).act τ).lc.otp) (g2 : ∀ v0 τ, OtpKept otp (τ).lc.otp → OtpKept otp (((f v0).first τ).1).lc.otp) : ∀ τ, OtpKept otp (τ).lc.otp → OtpKept otp (((ruleFor s a f).first τ).1).lc.otp := by intro τ hk; unfold ruleFor; (repeat' split) <;> (first | assumption | (simp (maxDischargeDepth := 30) only [g2, hk]; done) | with_reducible exact hk | (simp_all (maxDischargeDepth := 30); done))
theorem execLcApply_kept {otp : Otp} (c : Caller) (data : Bytes) (s : State) : OtpKept otp (s).lc.otp → ∃ τ, execLcApply c data s = .next τ ∧ OtpKept otp τ.lc.otp := by
  exact fun hk => ⟨_, rfl, writeAccess_kept _ _ _ _ _ (ruleFor_kept_act _ _ _ (fun _ => applyRule_kept_act _ _ _)
    (fun _ => applyRule_kept_first _ _ _)) (ruleFor_kept_first _ _ _ (fun _ => applyRule_kept_act _ _ _)
    (fun _ => applyRule_kept_first _ _ _)) hk⟩
theorem execDebugInstruction_kept {otp : Otp} (op : DebugOp) (bootSel : Nat) (s : State) : OtpKept otp (s).lc.otp → ∃ τ, execDebugInstruction op bootSel s = .next τ ∧ OtpKept otp τ.lc.otp := by intro hk; refine ⟨_, rfl, ?_⟩; simp (maxDischargeDepth := 30) only [loadTap_otp, leaveExtest_otp, debugActs_kept, bump_otp, tamperEvent_kept, ite_kept, hk]
@[simp] theorem ruleLife_kept_act {otp : Otp} (env : ApplyEnv) (w : Who) (id : ObjId) (data : Bytes) (s : State) : ∀ τ, OtpKept otp (τ).lc.otp → OtpKept otp ((ruleLife env w id data s).act τ).lc.otp := by
  unfold ruleLife
  refine ite_rule_kept_act _ _ _ (fun τ h => h.of_eq (by apply nonceRule_otp_act)) ?_
  refine ite_rule_kept_act _ _ _ (fun τ h => h.of_eq (ownRule_otp_act w.caller id data τ)) ?_
  refine ite_rule_kept_act _ _ _ (by apply applyRule_kept_act) ?_
  refine ite_rule_kept_act _ _ _ (fun τ h => h.of_eq (by apply bistRule_otp_act)) ?_
  refine ite_rule_kept_act _ _ _ (fun τ h => h.of_eq (by apply challengeRule_otp_act)) ?_
  refine ite_rule_kept_act _ _ _ (fun τ h => h.of_eq (by apply openRule_otp_act)) ?_
  exact fun τ h => h.of_eq (by apply plainRule_otp_act)
@[simp] theorem ruleLife_kept_first {otp : Otp} (env : ApplyEnv) (w : Who) (id : ObjId) (data : Bytes) (s : State) : ∀ τ, OtpKept otp (τ).lc.otp → OtpKept otp (((ruleLife env w id data s).first τ).1).lc.otp := by
  unfold ruleLife
  refine ite_rule_kept_first _ _ _ (fun τ h => h.of_eq (by apply nonceRule_otp_first)) ?_
  refine ite_rule_kept_first _ _ _ (fun τ h => h.of_eq (ownRule_otp_first w.caller id data τ)) ?_
  refine ite_rule_kept_first _ _ _ (by apply applyRule_kept_first) ?_
  refine ite_rule_kept_first _ _ _ (fun τ h => h.of_eq (by apply bistRule_otp_first)) ?_
  refine ite_rule_kept_first _ _ _ (fun τ h => h.of_eq (by apply challengeRule_otp_first)) ?_
  refine ite_rule_kept_first _ _ _ (fun τ h => h.of_eq (by apply openRule_otp_first)) ?_
  exact fun τ h => h.of_eq (by apply plainRule_otp_first)
@[simp] theorem ruleUpdate_kept_act {otp : Otp} (id : ObjId) (data : Bytes) (s : State) : ∀ τ, OtpKept otp (τ).lc.otp → OtpKept otp ((ruleUpdate id data s).act τ).lc.otp := by
  unfold ruleUpdate
  refine ite_rule_kept_act _ _ _ (fun τ h => h.of_eq (by apply stageBeginRule_otp_act)) ?_
  refine ite_rule_kept_act _ _ _ (fun τ h => h.of_eq (by apply verifyRule_otp_act)) ?_
  refine ite_rule_kept_act _ _ _ (fun τ h => h.of_eq (by apply activateRule_otp_act)) ?_
  refine ite_rule_kept_act _ _ _ (fun τ h => h.of_eq (by apply cancelRule_otp_act)) ?_
  refine ite_rule_kept_act _ _ _ (by apply confirmRule_kept_act) ?_
  exact fun τ h => h.of_eq (by apply plainRule_otp_act)
@[simp] theorem ruleUpdate_kept_first {otp : Otp} (id : ObjId) (data : Bytes) (s : State) : ∀ τ, OtpKept otp (τ).lc.otp → OtpKept otp (((ruleUpdate id data s).first τ).1).lc.otp := by intro τ hk; unfold ruleUpdate; (repeat' split) <;> (first | assumption | (simp (maxDischargeDepth := 30) only [stageBeginRule_otp_act, stageBeginRule_otp_first, verifyRule_otp_act, verifyRule_otp_first, activateRule_otp_act, activateRule_otp_first, cancelRule_otp_act, cancelRule_otp_first, confirmRule_kept_act, confirmRule_kept_first, plainRule_otp_act, plainRule_otp_first, implies_true, ite_kept, hk]; done) | with_reducible exact hk | (simp_all (maxDischargeDepth := 30); done))
@[simp] theorem writeRule_kept_act {otp : Otp} (env : ApplyEnv) (w : Who) (id : ObjId) (data : Bytes) (s : State) : ∀ τ, OtpKept otp (τ).lc.otp → OtpKept otp ((writeRule env w id data s).act τ).lc.otp := by
  unfold writeRule
  dsimp only
  refine ite_rule_kept_act _ _ _ (fun τ h => h.of_eq (ownRule_otp_act w.caller id data τ)) ?_
  refine ite_rule_kept_act _ _ _ (fun τ h => h.of_eq (by apply ruleDict_otp_act)) ?_
  refine ite_rule_kept_act _ _ _ (by apply ruleLife_kept_act) ?_
  refine ite_rule_kept_act _ _ _ (fun τ h => h.of_eq (by apply rulePower_otp_act)) ?_
  refine ite_rule_kept_act _ _ _ (fun τ h => h.of_eq (by apply plainRule_otp_act)) ?_
  refine ite_rule_kept_act _ _ _ (fun τ h => h.of_eq (by apply ruleTamper_otp_act)) ?_
  refine ite_rule_kept_act _ _ _ (by apply ruleUpdate_kept_act) ?_
  refine ite_rule_kept_act _ _ _ (fun τ h => h.of_eq (by apply ruleIso_otp_act)) ?_
  refine ite_rule_kept_act _ _ _ (fun τ h => h.of_eq (by apply rulePair_otp_act)) ?_
  refine ite_rule_kept_act _ _ _ (fun τ h => h.of_eq (by apply ruleEngines_otp_act)) ?_
  refine ite_rule_kept_act _ _ _ (fun τ h => h.of_eq (by apply ruleKreg_otp_act)) ?_
  refine ite_rule_kept_act _ _ _ (fun τ h => h.of_eq (by apply rulePort_otp_act)) ?_
  refine ite_rule_kept_act _ _ _ (fun τ h => h.of_eq (by apply plainRule_otp_act)) ?_
  refine ite_rule_kept_act _ _ _ (fun τ h => h.of_eq (by apply ruleErrors_otp_act)) ?_
  refine ite_rule_kept_act _ _ _ (fun τ h => h.of_eq (by apply plainRule_otp_act)) ?_
  refine ite_rule_kept_act _ _ _ (fun τ h => h.of_eq (by apply ruleTenant_otp_act)) ?_
  refine ite_rule_kept_act _ _ _ (fun τ h => h.of_eq (by apply ruleCircuit_otp_act)) ?_
  refine ite_rule_kept_act _ _ _ (fun τ h => h.of_eq (by apply ruleService_otp_act)) ?_
  exact fun τ h => h.of_eq (by apply plainRule_otp_act)
@[simp] theorem writeRule_kept_first {otp : Otp} (env : ApplyEnv) (w : Who) (id : ObjId) (data : Bytes) (s : State) : ∀ τ, OtpKept otp (τ).lc.otp → OtpKept otp (((writeRule env w id data s).first τ).1).lc.otp := by
  unfold writeRule
  dsimp only
  refine ite_rule_kept_first _ _ _ (fun τ h => h.of_eq (ownRule_otp_first w.caller id data τ)) ?_
  refine ite_rule_kept_first _ _ _ (fun τ h => h.of_eq (by apply ruleDict_otp_first)) ?_
  refine ite_rule_kept_first _ _ _ (by apply ruleLife_kept_first) ?_
  refine ite_rule_kept_first _ _ _ (fun τ h => h.of_eq (by apply rulePower_otp_first)) ?_
  refine ite_rule_kept_first _ _ _ (fun τ h => h.of_eq (by apply plainRule_otp_first)) ?_
  refine ite_rule_kept_first _ _ _ (fun τ h => h.of_eq (by apply ruleTamper_otp_first)) ?_
  refine ite_rule_kept_first _ _ _ (by apply ruleUpdate_kept_first) ?_
  refine ite_rule_kept_first _ _ _ (fun τ h => h.of_eq (by apply ruleIso_otp_first)) ?_
  refine ite_rule_kept_first _ _ _ (fun τ h => h.of_eq (by apply rulePair_otp_first)) ?_
  refine ite_rule_kept_first _ _ _ (fun τ h => h.of_eq (by apply ruleEngines_otp_first)) ?_
  refine ite_rule_kept_first _ _ _ (fun τ h => h.of_eq (by apply ruleKreg_otp_first)) ?_
  refine ite_rule_kept_first _ _ _ (fun τ h => h.of_eq (by apply rulePort_otp_first)) ?_
  refine ite_rule_kept_first _ _ _ (fun τ h => h.of_eq (by apply plainRule_otp_first)) ?_
  refine ite_rule_kept_first _ _ _ (fun τ h => h.of_eq (by apply ruleErrors_otp_first)) ?_
  refine ite_rule_kept_first _ _ _ (fun τ h => h.of_eq (by apply plainRule_otp_first)) ?_
  refine ite_rule_kept_first _ _ _ (fun τ h => h.of_eq (by apply ruleTenant_otp_first)) ?_
  refine ite_rule_kept_first _ _ _ (fun τ h => h.of_eq (by apply ruleCircuit_otp_first)) ?_
  refine ite_rule_kept_first _ _ _ (fun τ h => h.of_eq (by apply ruleService_otp_first)) ?_
  exact fun τ h => h.of_eq (by apply plainRule_otp_first)
@[simp] theorem approved_kept {otp : Otp} (env : ApplyEnv) (o : Nat) (obj : ObjId) (data : Bytes) (report : Bool) (s : State) : OtpKept otp (s).lc.otp → OtpKept otp (approved env o obj data report s).lc.otp := by
  intro hk
  unfold approved
  dsimp only
  rw [askFill_otp]
  split
  · rw [endApproval_otp, countRefused_otp, failedLast_otp]; exact hk
  · rw [endApproval_otp]
    exact approve_kept _ _ _ _ _ (writeRule_kept_act _ _ _ _ _) (writeRule_kept_first _ _ _ _ _) hk
theorem execCardSign_kept {otp : Otp} (sw : Nat) (data : Bytes) (env : ApplyEnv) (s : State) : OtpKept otp (s).lc.otp → ∃ τ, execCardSign sw data env s = .next τ ∧ OtpKept otp τ.lc.otp := by intro hk; refine ⟨_, rfl, ?_⟩; dsimp only; (repeat' split) <;> (first | assumption | (simp (maxDischargeDepth := 30) only [openCard_otp, refuseCard_otp, approved_kept, notApproved_otp, askComponent_otp, failFill_otp, hk]; done) | with_reducible exact hk | (simp_all (maxDischargeDepth := 30); done))
@[simp] theorem takeAon_kept {otp : Otp} (s : State) : OtpKept otp (s).lc.otp → OtpKept otp (takeAon s).lc.otp := by intro hk; unfold takeAon; simp (maxDischargeDepth := 30) only [burn_kept, copyLatch_otp, ite_kept, hk]
@[simp] theorem destroy_kept {otp : Otp} (s : State) : OtpKept otp (s).lc.otp → OtpKept otp (destroy s).lc.otp := by
  intro hk
  unfold destroy
  split
  · obtain ⟨h1, h2, h3, ⟨r0, r1⟩, h5⟩ := hk
    refine OtpKept.of_eq (p := { s.lc.otp with root0 := List.replicate 36 0xFF, root1 := List.replicate 36 0xFF }) ?_
      (by dsimp only; rw [eraseBbram_otp])
    exact ⟨h1, h2, h3, ⟨r0.to_ones, r1.to_ones⟩, h5⟩
  · exact hk
@[simp] theorem phaseC1_kept {otp : Otp} (env : CastEnv) (s : State) : OtpKept otp (s).lc.otp → OtpKept otp (phaseC1 env s).lc.otp := by intro hk; unfold phaseC1; simp (maxDischargeDepth := 30) only [destroy_kept, loadOtp_otp, countBoot_otp, takeAon_kept, tagSupervisor_otp, burnSecver_kept, extendMeas_otp, bootPower_otp, ite_kept, hk]
@[simp] theorem katFails_kept {otp : Otp} (s : State) (u : UnitRef) : OtpKept otp (s).lc.otp → OtpKept otp (katFails s u).lc.otp := by intro hk; unfold katFails; simp (maxDischargeDepth := 30) only [tamperEvent_kept, fenceUnit_otp, ite_kept, hk]
@[simp] theorem phaseC4_kept {otp : Otp} (env : CastEnv) (s : State) : OtpKept otp (s).lc.otp → OtpKept otp (phaseC4 env s).lc.otp := by
  intro hk
  unfold phaseC4
  dsimp only
  rw [extendMeas_otp]
  refine OtpKept.of_eq ?_ (foldl_otp _ (fun _ _ => extendMeas_otp _ _ _) _ _)
  refine foldl_kept _ (fun t x h => katFails_kept _ _ h) _ _ (hk.of_eq ?_)
  exact (foldl_otp _ (fun _ _ => loadBlockPatch_otp _ _ _ _) _ _).trans (foldl_otp _ (fun _ _ => loadPatch_otp _ _ _ _) _ _)
@[simp] theorem bootOn_kept {otp : Otp} (env : CastEnv) (s : State) : OtpKept otp (s).lc.otp → OtpKept otp (bootOn env s).lc.otp := by
  intro hk
  unfold bootOn
  dsimp only
  split <;> rename_i h <;> have h := congrArg (fun q => q.2.lc.otp) h <;> simp only [chooseArea_otp, copies_otp, phaseC2_otp] at h
  · rw [castTook_otp]; exact hk.of_eq h.symm
  · rw [deviceReady_otp, castTook_otp, phaseC6_otp, phaseC5_otp]
    apply phaseC4_kept; rw [phaseC3_otp]; exact hk.of_eq h.symm
theorem execCastOn_kept {otp : Otp} (env : CastEnv) (s : State) : OtpKept otp (s).lc.otp → ∃ τ, execCastOn env s = .next τ ∧ OtpKept otp τ.lc.otp := by intro hk; refine ⟨_, rfl, ?_⟩; simp (maxDischargeDepth := 30) only [phaseC1_kept, scrapEnds_otp, bootOn_kept, ite_kept, hk]
@[simp] theorem arriving_kept {otp : Otp} (type : Nat) (d : Datagram) (k : Bytes → State → State) (s : State) (h2 : ∀ v0 τ, OtpKept otp (τ).lc.otp → OtpKept otp ((k v0 τ)).lc.otp) : OtpKept otp (s).lc.otp → OtpKept otp (arriving type d k s).lc.otp := by intro hk; unfold arriving; simp (maxDischargeDepth := 30) only [bump_otp, ite_kept, h2, hk]
@[simp] theorem setupHash_kept {otp : Otp} (n : Nat) (cyc : Nat) (done : State → State) (s : State) (h2 : ∀ τ, OtpKept otp (τ).lc.otp → OtpKept otp ((done τ)).lc.otp) : OtpKept otp (s).lc.otp → OtpKept otp (setupHash n cyc done s).lc.otp := by
  exact hashJob_kept _ _ _ _ _ _ (fun τ h => h.of_eq (failSetup_otp _ _)) h2
@[simp] theorem answerG1_kept {otp : Otp} (n : Nat) (x : Setup) (m : Bytes) (s : State) : OtpKept otp (s).lc.otp → OtpKept otp (answerG1 n x m s).lc.otp := by
  intro hk
  unfold answerG1
  dsimp only
  split
  · exact hk.of_eq (failSetup_otp _ _)
  · split
    · exact hk.of_eq (by simp only [failSetup_otp, bump_otp, mgAgree_otp, mgEncaps_otp])
    · refine setupHash_kept _ _ _ _ (fun τ h => h.of_eq ?_) (hk.of_eq ?_)
      · split <;> simp only [keepSecret_otp, putSetup_otp, sendG2_otp, usedFree_otp, draw_otp, mgSignCl_otp, mgSignPq_otp]
      · simp only [draw_otp, mgAgree_otp, mgEncaps_otp]
@[simp] theorem joinG1_kept {otp : Otp} (n : Nat) (x : Setup) (f : Bytes) (s : State) : OtpKept otp (s).lc.otp → OtpKept otp (joinG1 n x f s).lc.otp := by intro hk; unfold joinG1; (repeat' split) <;> (first | assumption | (simp (maxDischargeDepth := 30) only [putSetup_otp, answerG1_kept, hk]; done) | with_reducible exact hk | (simp_all (maxDischargeDepth := 30); done))
@[simp] theorem firstMessage_kept {otp : Otp} (d : Datagram) (b : Bytes) (s : State) : OtpKept otp (s).lc.otp → OtpKept otp (firstMessage d b s).lc.otp := by intro hk; unfold firstMessage; dsimp only; (repeat' split) <;> (first | assumption | (simp (maxDischargeDepth := 30) only [joinG1_kept, hk]; done) | with_reducible exact hk | (simp_all (maxDischargeDepth := 30); done))
theorem execSessionG1_kept {otp : Otp} (d : Datagram) (s : State) : OtpKept otp (s).lc.otp → ∃ τ, execSessionG1 d s = .next τ ∧ OtpKept otp τ.lc.otp := by
  exact fun hk => ⟨_, rfl, arriving_kept _ _ _ _ (fun b t h => ite_kept _ (firstMessage_kept _ _ _ h) h) hk⟩
@[simp] theorem judgeG3_kept {otp : Otp} (n : Nat) (x : Setup) (m : Bytes) (s : State) : OtpKept otp (s).lc.otp → OtpKept otp (judgeG3 n x m s).lc.otp := by
  intro hk
  unfold judgeG3
  exact ite_kept _ (hk.of_eq (failSetup_otp _ _)) (setupHash_kept _ _ _ _ (fun τ h => h.of_eq (admitG3_otp _ _ _ _ _ _)) hk)
@[simp] theorem answerG3_kept {otp : Otp} (n : Nat) (x : Setup) (m : Bytes) (s : State) : OtpKept otp (s).lc.otp → OtpKept otp (answerG3 n x m s).lc.otp := by
  intro hk
  unfold answerG3
  exact ite_kept _ (hk.of_eq (failSetup_otp _ _)) (setupHash_kept _ _ _ _ (fun τ h => judgeG3_kept _ _ _ _ h) hk)
@[simp] theorem joinG3_kept {otp : Otp} (n : Nat) (x : Setup) (f : Bytes) (s : State) : OtpKept otp (s).lc.otp → OtpKept otp (joinG3 n x f s).lc.otp := by intro hk; unfold joinG3; dsimp only; (repeat' split) <;> (first | assumption | (simp (maxDischargeDepth := 30) only [answerG3_kept, hk]; done) | with_reducible exact hk | (simp_all (maxDischargeDepth := 30); done))
@[simp] theorem lastMessage_kept {otp : Otp} (b : Bytes) (s : State) : OtpKept otp (s).lc.otp → OtpKept otp (lastMessage b s).lc.otp := by intro hk; unfold lastMessage; (repeat' split) <;> (first | assumption | (simp (maxDischargeDepth := 30) only [joinG3_kept, hk]; done) | with_reducible exact hk | (simp_all (maxDischargeDepth := 30); done))
theorem execSessionG3_kept {otp : Otp} (d : Datagram) (s : State) : OtpKept otp (s).lc.otp → ∃ τ, execSessionG3 d s = .next τ ∧ OtpKept otp τ.lc.otp := by
  exact fun hk => ⟨_, rfl, arriving_kept _ _ _ _ (fun b t h => ite_kept _ (lastMessage_kept _ _ h) h) hk⟩
theorem execRegisterWrite_kept {otp : Otp} (t : WriteTarget) (s : State) : OtpKept otp (s).lc.otp → ∃ τ, execRegisterWrite t s = .next τ ∧ OtpKept otp τ.lc.otp := by
  intro hk
  refine ⟨_, rfl, ?_⟩
  split
  · split
    · exact hk.of_eq (writeReg_otp _ _ _)
    · exact hk
  · dsimp only; split
    · exact inTurn_kept _ _ _ (fun w τ h => h.of_eq (by simp)) hk
    · exact writeAccess_kept _ _ _ _ _ (ruleFor_kept_act _ _ _ (fun _ => writeRule_kept_act _ _ _ _ _)
        (fun _ => writeRule_kept_first _ _ _ _ _)) (ruleFor_kept_first _ _ _ (fun _ => writeRule_kept_act _ _ _ _ _)
        (fun _ => writeRule_kept_first _ _ _ _ _)) hk
@[simp] theorem applyWrite_kept {otp : Otp} (env : ApplyEnv) (w : Who) (r : AccessReq) (s : State) : OtpKept otp (s).lc.otp → OtpKept otp (applyWrite env w r s).lc.otp := by
  intro hk
  unfold applyWrite
  split
  · exact hk.of_eq (deliver_otp _ _ _ _ _ _ _ _)
  · rw [deliverWrite_otp]
    exact serveWrite_kept _ _ _ _ _ (writeRule_kept_act _ _ _ _ _) (writeRule_kept_first _ _ _ _ _) hk
@[simp] theorem applyLast_kept {otp : Otp} (env : ApplyEnv) (w : Who) (r : AccessReq) (b : BlockWrite) (s : State) : OtpKept otp (s).lc.otp → OtpKept otp (applyLast env w r b s).lc.otp := by
  intro hk
  unfold applyLast
  have hw := serveWrite_kept w r.obj b.data _ s (writeRule_kept_act env w r.obj b.data s) (writeRule_kept_first env w r.obj b.data s) hk
  split
  · exact hk.of_eq (by simp)
  · split
    · exact hk.of_eq (answerWrite_otp _ _ _ _)
    · dsimp only; split
      · exact hw.of_eq (answerWrite_otp _ _ _ _)
      · exact hw
@[simp] theorem extendBlock_kept {otp : Otp} (env : ApplyEnv) (w : Who) (r : AccessReq) (b : BlockWrite) (s : State) : OtpKept otp (s).lc.otp → OtpKept otp (extendBlock env w r b s).lc.otp := by intro hk; unfold extendBlock; simp (maxDischargeDepth := 30) only [applyLast_kept, setBlock_otp, answerWrite_otp, ite_kept, hk]
@[simp] theorem applyWriteBlock_kept {otp : Otp} (env : ApplyEnv) (w : Who) (r : AccessReq) (s : State) : OtpKept otp (s).lc.otp → OtpKept otp (applyWriteBlock env w r s).lc.otp := by intro hk; unfold applyWriteBlock; dsimp only; (repeat' split) <;> (first | assumption | (simp (maxDischargeDepth := 30) only [answerWrite_otp, countRefused_otp, setBlock_otp, extendBlock_kept, bump_otp, hk]; done) | with_reducible exact hk | (simp_all (maxDischargeDepth := 30); done))
@[simp] theorem applyReq_kept {otp : Otp} (env : ApplyEnv) (r : AccessReq) (s : State) : OtpKept otp (s).lc.otp → OtpKept otp (applyReq env r s).lc.otp := by intro hk; unfold applyReq; (repeat' split) <;> (first | assumption | (simp (maxDischargeDepth := 30) only [applyRead_otp, applyWrite_kept, applyReadBlock_otp, applyWriteBlock_kept, deliver_otp, hk]; done) | with_reducible exact hk | (simp_all (maxDischargeDepth := 30); done))
theorem execDictAccessApply_kept {otp : Otp} (env : ApplyEnv) (s : State) : OtpKept otp (s).lc.otp → ∃ τ, execDictAccessApply env s = .next τ ∧ OtpKept otp τ.lc.otp := by intro hk; refine ⟨_, rfl, ?_⟩; (repeat' split) <;> (first | assumption | (simp (maxDischargeDepth := 30) only [lookAround_otp, applyReq_kept, settleStore_otp, wakeCore_otp, hk]; done) | with_reducible exact hk | (simp_all (maxDischargeDepth := 30); done))
end Sys2Proof.Machine
end

