-- ==== Sys2Proof/Laws/Memory.lean ====
section
/-!
SUPPORT. Every operation over the fabric's memories and tags keeps their canonical form (R90–R95).
-/
namespace Sys2Proof.Machine

/-- Both tables of the fabric's memories are in canonical form. -/
def FabricWf (s : State) : Prop := Memory.wf s.iso.mem = true ∧ tabWf (fun _ => 0xFFFF) s.iso.tags = true

theorem fabricWf_reset : FabricWf State.reset := ⟨by decide, by decide⟩

theorem wf_putBytes (b : Bytes) (m : Tab Byte) (a : Nat) (h : Memory.wf m = true) : Memory.wf (putBytes m a b) = true := by
  induction b generalizing m a with
  | nil => exact h
  | cons x r ih => exact ih _ _ (tabWf_tset _ _ _ _ h)

theorem wf_zeroRange (m : Tab Byte) (a n : Nat) (h : Memory.wf m = true) : Memory.wf (zeroRange m a n) = true :=
  tabWf_mfilter _ _ _ h

theorem wf_putTags (n : Nat) (t : Tab Nat) (g tag : Nat) (h : tabWf (fun _ => 0xFFFF) t = true) :
    tabWf (fun _ => 0xFFFF) (putTags t g tag n) = true := by
  induction n generalizing t g with
  | zero => exact h
  | succ n ih => exact ih _ _ (tabWf_tset _ _ _ _ h)

theorem fabricWf_lksPut (s : State) (a : Nat) (b : Byte) (h : FabricWf s) : FabricWf (lksPut s a b) := by
  unfold lksPut
  split
  · split
    · exact h
    · exact ⟨tabWf_tset _ _ _ _ h.1, h.2⟩
  · exact ⟨tabWf_tset _ _ _ _ h.1, h.2⟩

theorem fabricWf_lksWrite (b : Bytes) (s : State) (a : Nat) (h : FabricWf s) : FabricWf (lksWrite a b s) := by
  induction b generalizing s a with
  | nil => exact h
  | cons x r ih => exact ih _ _ (fabricWf_lksPut s a x h)

theorem fabricWf_ctxWrite (b : Bytes) (s : State) (a : Nat) (h : FabricWf s) : FabricWf (ctxWrite a b s) := by
  induction b generalizing s a with
  | nil => exact h
  | cons x r ih =>
    refine ih _ _ ?_
    split
    · exact h
    · exact ⟨tabWf_tset _ _ _ _ h.1, h.2⟩

/-- A write of fabric memory keeps the canonical form. -/
theorem fabricWf_memWrite (a : Nat) (b : Bytes) (s : State) (h : FabricWf s) : FabricWf (memWrite a b s) := by
  unfold memWrite
  split
  · exact fabricWf_lksWrite b s a h
  · split
    · exact fabricWf_ctxWrite b s a h
    · exact ⟨wf_putBytes b _ _ h.1, h.2⟩

/-- Erasing what no entry of the large-key store holds keeps the canonical form (R94). -/
theorem fabricWf_wipeFreeLks (s : State) (h : FabricWf s) : FabricWf (wipeFreeLks s) :=
  ⟨tabWf_mfilter _ (fun a _ => !(inLks a) || (lksAt? s a).isSome) _ h.1, h.2⟩

/-- Retagging, with its zeroing, keeps the canonical form (R94). -/
theorem fabricWf_retag (g n tag : Nat) (s : State) (h : FabricWf s) : FabricWf (retag g n tag s) :=
  ⟨wf_zeroRange _ _ _ h.1, wf_putTags _ _ _ _ h.2⟩

theorem fabricWf_tagOnly (g n tag : Nat) (s : State) (h : FabricWf s) : FabricWf (tagOnly g n tag s) :=
  ⟨h.1, wf_putTags _ _ _ _ h.2⟩

/-- Scrubbing all operand memory keeps the canonical form (R535). -/
theorem fabricWf_scrubAll (s : State) (h : FabricWf s) : FabricWf (scrubAll s) :=
  ⟨wf_zeroRange _ _ _ h.1, tabWf_mfilter _ (fun k _ => !(decide (k < 32768))) _ h.2⟩

/-- Freeing a colour's granules keeps the canonical form (R119). -/
theorem fabricWf_freeGranules (colour : Nat) (s : State) (h : FabricWf s) : FabricWf (freeGranules colour s) :=
  ⟨tabWf_mfilter _ (fun a _ => !(decide (tget (fun _ => 0xFFFF) s.iso.tags (a / 256) = colour))) _ h.1,
   tabWf_mfilter _ (fun _ v => decide (v ≠ colour)) _ h.2⟩

/-- What does not touch the isolation unit keeps the canonical form. -/
theorem FabricWf.of_iso {s t : State} (h : FabricWf s) (e : t.iso = s.iso) : FabricWf t := by
  unfold FabricWf; rw [e]; exact h

/-- Initialising a cell's data keeps the canonical form (R502). -/
theorem fabricWf_cellDataInit (c : Cell) (s : State) (h : FabricWf s) : FabricWf (cellDataInit c s) :=
  fabricWf_memWrite _ _ _ ⟨wf_zeroRange _ _ _ h.1, h.2⟩

/-- What follows a cell's call keeps the canonical form (R502). -/
theorem fabricWf_cellAfter (n : Nat) (a : CellAfter) (s : State) (h : FabricWf s) : FabricWf (cellAfter n a s) := by
  have keep : ∀ (x : Cell) (t : State), FabricWf t → FabricWf (setCell n x t) := fun x t h => by
    unfold setCell; split <;> exact h.of_iso rfl
  cases a with
  | keep => exact keep _ _ h
  | fence => exact keep _ _ h
  | reinit => exact keep _ _ (fabricWf_cellDataInit _ s h)
  | remove =>
    refine keep _ _ (fabricWf_retag _ _ _ _ ⟨wf_zeroRange _ _ _ ?_, ?_⟩)
    · exact h.1
    · exact h.2

/-- A write and a read of one byte outside the large-key store. -/
theorem tget_putBytes (b : Bytes) (m : Tab Byte) (a k : Nat) (h : keysRise m = true) :
    tget (fun _ => 0) (putBytes m a b) k = if a ≤ k ∧ k < a + b.length then b.getD (k - a) 0 else tget (fun _ => 0) m k := by
  induction b generalizing m a with
  | nil =>
    rw [if_neg (fun h => by have h2 := h.2; simp only [List.length_nil] at h2; omega)]
    rfl
  | cons x r ih =>
    simp only [putBytes]
    rw [ih _ _ (keysRise_tset _ _ _ _ h)]
    simp only [List.length_cons]
    by_cases h1 : k = a
    · subst h1
      rw [if_neg (by omega), if_pos (by omega), tget_tset_same _ _ _ _ h]
      simp
    · rw [tget_tset_ne _ _ _ h1 h]
      by_cases h2 : a + 1 ≤ k ∧ k < a + 1 + r.length
      · rw [if_pos h2, if_pos (by omega)]
        obtain ⟨n, hn⟩ : ∃ n, k - a = n + 1 := ⟨k - a - 1, by omega⟩
        rw [hn, show k - (a + 1) = n by omega]
        simp
      · rw [if_neg h2, if_neg (by omega)]

end Sys2Proof.Machine
end

