-- ==== Sys2Proof/Laws/State.lean ====
section
/-!
SUPPORT. What the named updates of State leave as it was, one lemma per update and part (the queue: Laws/FramePending.lean), and
what is read after an update.
-/
namespace Sys2Proof.Machine

@[simp] theorem advanceTo_free (t : Time) (s : State) : (advanceTo t s).free = s.free := rfl
@[simp] theorem advanceTo_out (t : Time) (s : State) : (advanceTo t s).out = s.out := rfl
@[simp] theorem advanceTo_dict (t : Time) (s : State) : (advanceTo t s).dict = s.dict := rfl
@[simp] theorem advanceTo_iso (t : Time) (s : State) : (advanceTo t s).iso = s.iso := rfl
@[simp] theorem advanceTo_ring (t : Time) (s : State) : (advanceTo t s).ring = s.ring := rfl
@[simp] theorem advanceTo_pke (t : Time) (s : State) : (advanceTo t s).pke = s.pke := rfl
@[simp] theorem advanceTo_kreg (t : Time) (s : State) : (advanceTo t s).kreg = s.kreg := rfl
@[simp] theorem advanceTo_dig (t : Time) (s : State) : (advanceTo t s).dig = s.dig := rfl
@[simp] theorem advanceTo_sp (t : Time) (s : State) : (advanceTo t s).sp = s.sp := rfl
@[simp] theorem advanceTo_graft (t : Time) (s : State) : (advanceTo t s).graft = s.graft := rfl
@[simp] theorem advanceTo_tsuow (t : Time) (s : State) : (advanceTo t s).tsuow = s.tsuow := rfl
@[simp] theorem advanceTo_rng (t : Time) (s : State) : (advanceTo t s).rng = s.rng := rfl
@[simp] theorem advanceTo_tmp (t : Time) (s : State) : (advanceTo t s).tmp = s.tmp := rfl
@[simp] theorem advanceTo_lc (t : Time) (s : State) : (advanceTo t s).lc = s.lc := rfl
@[simp] theorem advanceTo_upd (t : Time) (s : State) : (advanceTo t s).upd = s.upd := rfl
@[simp] theorem advanceTo_pwr (t : Time) (s : State) : (advanceTo t s).pwr = s.pwr := rfl
@[simp] theorem advanceTo_rec_ (t : Time) (s : State) : (advanceTo t s).rec_ = s.rec_ := rfl
@[simp] theorem usedFree_now (s : State) : (usedFree s).now = s.now := rfl
@[simp] theorem usedFree_out (s : State) : (usedFree s).out = s.out := rfl
@[simp] theorem usedFree_dict (s : State) : (usedFree s).dict = s.dict := rfl
@[simp] theorem usedFree_iso (s : State) : (usedFree s).iso = s.iso := rfl
@[simp] theorem usedFree_ring (s : State) : (usedFree s).ring = s.ring := rfl
@[simp] theorem usedFree_pke (s : State) : (usedFree s).pke = s.pke := rfl
@[simp] theorem usedFree_kreg (s : State) : (usedFree s).kreg = s.kreg := rfl
@[simp] theorem usedFree_dig (s : State) : (usedFree s).dig = s.dig := rfl
@[simp] theorem usedFree_sp (s : State) : (usedFree s).sp = s.sp := rfl
@[simp] theorem usedFree_graft (s : State) : (usedFree s).graft = s.graft := rfl
@[simp] theorem usedFree_tsuow (s : State) : (usedFree s).tsuow = s.tsuow := rfl
@[simp] theorem usedFree_rng (s : State) : (usedFree s).rng = s.rng := rfl
@[simp] theorem usedFree_tmp (s : State) : (usedFree s).tmp = s.tmp := rfl
@[simp] theorem usedFree_lc (s : State) : (usedFree s).lc = s.lc := rfl
@[simp] theorem usedFree_upd (s : State) : (usedFree s).upd = s.upd := rfl
@[simp] theorem usedFree_pwr (s : State) : (usedFree s).pwr = s.pwr := rfl
@[simp] theorem usedFree_rec_ (s : State) : (usedFree s).rec_ = s.rec_ := rfl
@[simp] theorem emit_now (o : Out) (s : State) : (emit o s).now = s.now := rfl
@[simp] theorem emit_free (o : Out) (s : State) : (emit o s).free = s.free := rfl
@[simp] theorem emit_dict (o : Out) (s : State) : (emit o s).dict = s.dict := rfl
@[simp] theorem emit_iso (o : Out) (s : State) : (emit o s).iso = s.iso := rfl
@[simp] theorem emit_ring (o : Out) (s : State) : (emit o s).ring = s.ring := rfl
@[simp] theorem emit_pke (o : Out) (s : State) : (emit o s).pke = s.pke := rfl
@[simp] theorem emit_kreg (o : Out) (s : State) : (emit o s).kreg = s.kreg := rfl
@[simp] theorem emit_dig (o : Out) (s : State) : (emit o s).dig = s.dig := rfl
@[simp] theorem emit_sp (o : Out) (s : State) : (emit o s).sp = s.sp := rfl
@[simp] theorem emit_graft (o : Out) (s : State) : (emit o s).graft = s.graft := rfl
@[simp] theorem emit_tsuow (o : Out) (s : State) : (emit o s).tsuow = s.tsuow := rfl
@[simp] theorem emit_rng (o : Out) (s : State) : (emit o s).rng = s.rng := rfl
@[simp] theorem emit_tmp (o : Out) (s : State) : (emit o s).tmp = s.tmp := rfl
@[simp] theorem emit_lc (o : Out) (s : State) : (emit o s).lc = s.lc := rfl
@[simp] theorem emit_upd (o : Out) (s : State) : (emit o s).upd = s.upd := rfl
@[simp] theorem emit_pwr (o : Out) (s : State) : (emit o s).pwr = s.pwr := rfl
@[simp] theorem emit_rec_ (o : Out) (s : State) : (emit o s).rec_ = s.rec_ := rfl
@[simp] theorem noticed_now (id : ObjId) (s : State) : (noticed id s).now = s.now := rfl
@[simp] theorem noticed_free (id : ObjId) (s : State) : (noticed id s).free = s.free := rfl
@[simp] theorem noticed_iso (id : ObjId) (s : State) : (noticed id s).iso = s.iso := rfl
@[simp] theorem noticed_pke (id : ObjId) (s : State) : (noticed id s).pke = s.pke := rfl
@[simp] theorem noticed_kreg (id : ObjId) (s : State) : (noticed id s).kreg = s.kreg := rfl
@[simp] theorem noticed_dig (id : ObjId) (s : State) : (noticed id s).dig = s.dig := rfl
@[simp] theorem noticed_sp (id : ObjId) (s : State) : (noticed id s).sp = s.sp := rfl
@[simp] theorem noticed_graft (id : ObjId) (s : State) : (noticed id s).graft = s.graft := rfl
@[simp] theorem noticed_tsuow (id : ObjId) (s : State) : (noticed id s).tsuow = s.tsuow := rfl
@[simp] theorem noticed_rng (id : ObjId) (s : State) : (noticed id s).rng = s.rng := rfl
@[simp] theorem noticed_tmp (id : ObjId) (s : State) : (noticed id s).tmp = s.tmp := rfl
@[simp] theorem noticed_lc (id : ObjId) (s : State) : (noticed id s).lc = s.lc := rfl
@[simp] theorem noticed_upd (id : ObjId) (s : State) : (noticed id s).upd = s.upd := rfl
@[simp] theorem noticed_pwr (id : ObjId) (s : State) : (noticed id s).pwr = s.pwr := rfl
@[simp] theorem noticed_rec_ (id : ObjId) (s : State) : (noticed id s).rec_ = s.rec_ := rfl
@[simp] theorem setObj_now (id : ObjId) (v : Nat) (s : State) : (setObj id v s).now = s.now := rfl
@[simp] theorem setObj_free (id : ObjId) (v : Nat) (s : State) : (setObj id v s).free = s.free := rfl
@[simp] theorem setObj_iso (id : ObjId) (v : Nat) (s : State) : (setObj id v s).iso = s.iso := rfl
@[simp] theorem setObj_pke (id : ObjId) (v : Nat) (s : State) : (setObj id v s).pke = s.pke := rfl
@[simp] theorem setObj_kreg (id : ObjId) (v : Nat) (s : State) : (setObj id v s).kreg = s.kreg := rfl
@[simp] theorem setObj_dig (id : ObjId) (v : Nat) (s : State) : (setObj id v s).dig = s.dig := rfl
@[simp] theorem setObj_sp (id : ObjId) (v : Nat) (s : State) : (setObj id v s).sp = s.sp := rfl
@[simp] theorem setObj_graft (id : ObjId) (v : Nat) (s : State) : (setObj id v s).graft = s.graft := rfl
@[simp] theorem setObj_tsuow (id : ObjId) (v : Nat) (s : State) : (setObj id v s).tsuow = s.tsuow := rfl
@[simp] theorem setObj_rng (id : ObjId) (v : Nat) (s : State) : (setObj id v s).rng = s.rng := rfl
@[simp] theorem setObj_tmp (id : ObjId) (v : Nat) (s : State) : (setObj id v s).tmp = s.tmp := rfl
@[simp] theorem setObj_lc (id : ObjId) (v : Nat) (s : State) : (setObj id v s).lc = s.lc := rfl
@[simp] theorem setObj_upd (id : ObjId) (v : Nat) (s : State) : (setObj id v s).upd = s.upd := rfl
@[simp] theorem setObj_pwr (id : ObjId) (v : Nat) (s : State) : (setObj id v s).pwr = s.pwr := rfl
@[simp] theorem setObj_rec_ (id : ObjId) (v : Nat) (s : State) : (setObj id v s).rec_ = s.rec_ := rfl
@[simp] theorem bumpBy_now (id : ObjId) (n : Nat) (s : State) : (bumpBy id n s).now = s.now := rfl
@[simp] theorem bumpBy_iso (id : ObjId) (n : Nat) (s : State) : (bumpBy id n s).iso = s.iso := rfl
@[simp] theorem bumpBy_pke (id : ObjId) (n : Nat) (s : State) : (bumpBy id n s).pke = s.pke := rfl
@[simp] theorem bumpBy_kreg (id : ObjId) (n : Nat) (s : State) : (bumpBy id n s).kreg = s.kreg := rfl
@[simp] theorem bumpBy_dig (id : ObjId) (n : Nat) (s : State) : (bumpBy id n s).dig = s.dig := rfl
@[simp] theorem bumpBy_sp (id : ObjId) (n : Nat) (s : State) : (bumpBy id n s).sp = s.sp := rfl
@[simp] theorem bumpBy_graft (id : ObjId) (n : Nat) (s : State) : (bumpBy id n s).graft = s.graft := rfl
@[simp] theorem bumpBy_tsuow (id : ObjId) (n : Nat) (s : State) : (bumpBy id n s).tsuow = s.tsuow := rfl
@[simp] theorem bumpBy_rng (id : ObjId) (n : Nat) (s : State) : (bumpBy id n s).rng = s.rng := rfl
@[simp] theorem bumpBy_tmp (id : ObjId) (n : Nat) (s : State) : (bumpBy id n s).tmp = s.tmp := rfl
@[simp] theorem bumpBy_lc (id : ObjId) (n : Nat) (s : State) : (bumpBy id n s).lc = s.lc := rfl
@[simp] theorem bumpBy_upd (id : ObjId) (n : Nat) (s : State) : (bumpBy id n s).upd = s.upd := rfl
@[simp] theorem bumpBy_pwr (id : ObjId) (n : Nat) (s : State) : (bumpBy id n s).pwr = s.pwr := rfl
@[simp] theorem bumpBy_rec_ (id : ObjId) (n : Nat) (s : State) : (bumpBy id n s).rec_ = s.rec_ := rfl
@[simp] theorem bump_now (id : ObjId) (s : State) : (bump id s).now = s.now := rfl
@[simp] theorem bump_iso (id : ObjId) (s : State) : (bump id s).iso = s.iso := rfl
@[simp] theorem bump_pke (id : ObjId) (s : State) : (bump id s).pke = s.pke := rfl
@[simp] theorem bump_kreg (id : ObjId) (s : State) : (bump id s).kreg = s.kreg := rfl
@[simp] theorem bump_dig (id : ObjId) (s : State) : (bump id s).dig = s.dig := rfl
@[simp] theorem bump_sp (id : ObjId) (s : State) : (bump id s).sp = s.sp := rfl
@[simp] theorem bump_graft (id : ObjId) (s : State) : (bump id s).graft = s.graft := rfl
@[simp] theorem bump_tsuow (id : ObjId) (s : State) : (bump id s).tsuow = s.tsuow := rfl
@[simp] theorem bump_rng (id : ObjId) (s : State) : (bump id s).rng = s.rng := rfl
@[simp] theorem bump_tmp (id : ObjId) (s : State) : (bump id s).tmp = s.tmp := rfl
@[simp] theorem bump_lc (id : ObjId) (s : State) : (bump id s).lc = s.lc := rfl
@[simp] theorem bump_upd (id : ObjId) (s : State) : (bump id s).upd = s.upd := rfl
@[simp] theorem bump_pwr (id : ObjId) (s : State) : (bump id s).pwr = s.pwr := rfl
@[simp] theorem bump_rec_ (id : ObjId) (s : State) : (bump id s).rec_ = s.rec_ := rfl
@[simp] theorem setCore_now (c : Core) (s : State) : (setCore c s).now = s.now := rfl
@[simp] theorem setCore_free (c : Core) (s : State) : (setCore c s).free = s.free := rfl
@[simp] theorem setCore_out (c : Core) (s : State) : (setCore c s).out = s.out := rfl
@[simp] theorem setCore_dict (c : Core) (s : State) : (setCore c s).dict = s.dict := rfl
@[simp] theorem setCore_iso (c : Core) (s : State) : (setCore c s).iso = s.iso := rfl
@[simp] theorem setCore_ring (c : Core) (s : State) : (setCore c s).ring = s.ring := rfl
@[simp] theorem setCore_pke (c : Core) (s : State) : (setCore c s).pke = s.pke := rfl
@[simp] theorem setCore_kreg (c : Core) (s : State) : (setCore c s).kreg = s.kreg := rfl
@[simp] theorem setCore_dig (c : Core) (s : State) : (setCore c s).dig = s.dig := rfl
@[simp] theorem setCore_sp (c : Core) (s : State) : (setCore c s).sp = s.sp := rfl
@[simp] theorem setCore_graft (c : Core) (s : State) : (setCore c s).graft = s.graft := rfl
@[simp] theorem setCore_rng (c : Core) (s : State) : (setCore c s).rng = s.rng := rfl
@[simp] theorem setCore_tmp (c : Core) (s : State) : (setCore c s).tmp = s.tmp := rfl
@[simp] theorem setCore_lc (c : Core) (s : State) : (setCore c s).lc = s.lc := rfl
@[simp] theorem setCore_upd (c : Core) (s : State) : (setCore c s).upd = s.upd := rfl
@[simp] theorem setCore_pwr (c : Core) (s : State) : (setCore c s).pwr = s.pwr := rfl
@[simp] theorem setCore_rec_ (c : Core) (s : State) : (setCore c s).rec_ = s.rec_ := rfl
@[simp] theorem setDrbg_now (n : Nat) (d : Drbg) (s : State) : (setDrbg n d s).now = s.now := rfl
@[simp] theorem setDrbg_free (n : Nat) (d : Drbg) (s : State) : (setDrbg n d s).free = s.free := rfl
@[simp] theorem setDrbg_out (n : Nat) (d : Drbg) (s : State) : (setDrbg n d s).out = s.out := rfl
@[simp] theorem setDrbg_dict (n : Nat) (d : Drbg) (s : State) : (setDrbg n d s).dict = s.dict := rfl
@[simp] theorem setDrbg_iso (n : Nat) (d : Drbg) (s : State) : (setDrbg n d s).iso = s.iso := rfl
@[simp] theorem setDrbg_ring (n : Nat) (d : Drbg) (s : State) : (setDrbg n d s).ring = s.ring := rfl
@[simp] theorem setDrbg_pke (n : Nat) (d : Drbg) (s : State) : (setDrbg n d s).pke = s.pke := rfl
@[simp] theorem setDrbg_kreg (n : Nat) (d : Drbg) (s : State) : (setDrbg n d s).kreg = s.kreg := rfl
@[simp] theorem setDrbg_dig (n : Nat) (d : Drbg) (s : State) : (setDrbg n d s).dig = s.dig := rfl
@[simp] theorem setDrbg_sp (n : Nat) (d : Drbg) (s : State) : (setDrbg n d s).sp = s.sp := rfl
@[simp] theorem setDrbg_graft (n : Nat) (d : Drbg) (s : State) : (setDrbg n d s).graft = s.graft := rfl
@[simp] theorem setDrbg_tsuow (n : Nat) (d : Drbg) (s : State) : (setDrbg n d s).tsuow = s.tsuow := rfl
@[simp] theorem setDrbg_tmp (n : Nat) (d : Drbg) (s : State) : (setDrbg n d s).tmp = s.tmp := rfl
@[simp] theorem setDrbg_lc (n : Nat) (d : Drbg) (s : State) : (setDrbg n d s).lc = s.lc := rfl
@[simp] theorem setDrbg_upd (n : Nat) (d : Drbg) (s : State) : (setDrbg n d s).upd = s.upd := rfl
@[simp] theorem setDrbg_pwr (n : Nat) (d : Drbg) (s : State) : (setDrbg n d s).pwr = s.pwr := rfl
@[simp] theorem setDrbg_rec_ (n : Nat) (d : Drbg) (s : State) : (setDrbg n d s).rec_ = s.rec_ := rfl
@[simp] theorem setDigUnit_now (n : Nat) (u : DigUnit) (s : State) : (setDigUnit n u s).now = s.now := rfl
@[simp] theorem setDigUnit_free (n : Nat) (u : DigUnit) (s : State) : (setDigUnit n u s).free = s.free := rfl
@[simp] theorem setDigUnit_out (n : Nat) (u : DigUnit) (s : State) : (setDigUnit n u s).out = s.out := rfl
@[simp] theorem setDigUnit_dict (n : Nat) (u : DigUnit) (s : State) : (setDigUnit n u s).dict = s.dict := rfl
@[simp] theorem setDigUnit_iso (n : Nat) (u : DigUnit) (s : State) : (setDigUnit n u s).iso = s.iso := rfl
@[simp] theorem setDigUnit_ring (n : Nat) (u : DigUnit) (s : State) : (setDigUnit n u s).ring = s.ring := rfl
@[simp] theorem setDigUnit_pke (n : Nat) (u : DigUnit) (s : State) : (setDigUnit n u s).pke = s.pke := rfl
@[simp] theorem setDigUnit_kreg (n : Nat) (u : DigUnit) (s : State) : (setDigUnit n u s).kreg = s.kreg := rfl
@[simp] theorem setDigUnit_sp (n : Nat) (u : DigUnit) (s : State) : (setDigUnit n u s).sp = s.sp := rfl
@[simp] theorem setDigUnit_graft (n : Nat) (u : DigUnit) (s : State) : (setDigUnit n u s).graft = s.graft := rfl
@[simp] theorem setDigUnit_tsuow (n : Nat) (u : DigUnit) (s : State) : (setDigUnit n u s).tsuow = s.tsuow := rfl
@[simp] theorem setDigUnit_rng (n : Nat) (u : DigUnit) (s : State) : (setDigUnit n u s).rng = s.rng := rfl
@[simp] theorem setDigUnit_tmp (n : Nat) (u : DigUnit) (s : State) : (setDigUnit n u s).tmp = s.tmp := rfl
@[simp] theorem setDigUnit_lc (n : Nat) (u : DigUnit) (s : State) : (setDigUnit n u s).lc = s.lc := rfl
@[simp] theorem setDigUnit_upd (n : Nat) (u : DigUnit) (s : State) : (setDigUnit n u s).upd = s.upd := rfl
@[simp] theorem setDigUnit_pwr (n : Nat) (u : DigUnit) (s : State) : (setDigUnit n u s).pwr = s.pwr := rfl
@[simp] theorem setDigUnit_rec_ (n : Nat) (u : DigUnit) (s : State) : (setDigUnit n u s).rec_ = s.rec_ := rfl
@[simp] theorem setCtx_now (n : Nat) (x : CtxNum) (s : State) : (setCtx n x s).now = s.now := rfl
@[simp] theorem setCtx_free (n : Nat) (x : CtxNum) (s : State) : (setCtx n x s).free = s.free := rfl
@[simp] theorem setCtx_out (n : Nat) (x : CtxNum) (s : State) : (setCtx n x s).out = s.out := rfl
@[simp] theorem setCtx_dict (n : Nat) (x : CtxNum) (s : State) : (setCtx n x s).dict = s.dict := rfl
@[simp] theorem setCtx_iso (n : Nat) (x : CtxNum) (s : State) : (setCtx n x s).iso = s.iso := rfl
@[simp] theorem setCtx_ring (n : Nat) (x : CtxNum) (s : State) : (setCtx n x s).ring = s.ring := rfl
@[simp] theorem setCtx_pke (n : Nat) (x : CtxNum) (s : State) : (setCtx n x s).pke = s.pke := rfl
@[simp] theorem setCtx_kreg (n : Nat) (x : CtxNum) (s : State) : (setCtx n x s).kreg = s.kreg := rfl
@[simp] theorem setCtx_sp (n : Nat) (x : CtxNum) (s : State) : (setCtx n x s).sp = s.sp := rfl
@[simp] theorem setCtx_graft (n : Nat) (x : CtxNum) (s : State) : (setCtx n x s).graft = s.graft := rfl
@[simp] theorem setCtx_tsuow (n : Nat) (x : CtxNum) (s : State) : (setCtx n x s).tsuow = s.tsuow := rfl
@[simp] theorem setCtx_rng (n : Nat) (x : CtxNum) (s : State) : (setCtx n x s).rng = s.rng := rfl
@[simp] theorem setCtx_tmp (n : Nat) (x : CtxNum) (s : State) : (setCtx n x s).tmp = s.tmp := rfl
@[simp] theorem setCtx_lc (n : Nat) (x : CtxNum) (s : State) : (setCtx n x s).lc = s.lc := rfl
@[simp] theorem setCtx_upd (n : Nat) (x : CtxNum) (s : State) : (setCtx n x s).upd = s.upd := rfl
@[simp] theorem setCtx_pwr (n : Nat) (x : CtxNum) (s : State) : (setCtx n x s).pwr = s.pwr := rfl
@[simp] theorem setCtx_rec_ (n : Nat) (x : CtxNum) (s : State) : (setCtx n x s).rec_ = s.rec_ := rfl
@[simp] theorem freeCtx_now (n : Nat) (s : State) : (freeCtx n s).now = s.now := rfl
@[simp] theorem freeCtx_free (n : Nat) (s : State) : (freeCtx n s).free = s.free := rfl
@[simp] theorem freeCtx_out (n : Nat) (s : State) : (freeCtx n s).out = s.out := rfl
@[simp] theorem freeCtx_dict (n : Nat) (s : State) : (freeCtx n s).dict = s.dict := rfl
@[simp] theorem freeCtx_iso (n : Nat) (s : State) : (freeCtx n s).iso = s.iso := rfl
@[simp] theorem freeCtx_ring (n : Nat) (s : State) : (freeCtx n s).ring = s.ring := rfl
@[simp] theorem freeCtx_pke (n : Nat) (s : State) : (freeCtx n s).pke = s.pke := rfl
@[simp] theorem freeCtx_kreg (n : Nat) (s : State) : (freeCtx n s).kreg = s.kreg := rfl
@[simp] theorem freeCtx_sp (n : Nat) (s : State) : (freeCtx n s).sp = s.sp := rfl
@[simp] theorem freeCtx_graft (n : Nat) (s : State) : (freeCtx n s).graft = s.graft := rfl
@[simp] theorem freeCtx_tsuow (n : Nat) (s : State) : (freeCtx n s).tsuow = s.tsuow := rfl
@[simp] theorem freeCtx_rng (n : Nat) (s : State) : (freeCtx n s).rng = s.rng := rfl
@[simp] theorem freeCtx_tmp (n : Nat) (s : State) : (freeCtx n s).tmp = s.tmp := rfl
@[simp] theorem freeCtx_lc (n : Nat) (s : State) : (freeCtx n s).lc = s.lc := rfl
@[simp] theorem freeCtx_upd (n : Nat) (s : State) : (freeCtx n s).upd = s.upd := rfl
@[simp] theorem freeCtx_pwr (n : Nat) (s : State) : (freeCtx n s).pwr = s.pwr := rfl
@[simp] theorem freeCtx_rec_ (n : Nat) (s : State) : (freeCtx n s).rec_ = s.rec_ := rfl
@[simp] theorem setPipe_now (n : Nat) (p : Pipe) (s : State) : (setPipe n p s).now = s.now := rfl
@[simp] theorem setPipe_free (n : Nat) (p : Pipe) (s : State) : (setPipe n p s).free = s.free := rfl
@[simp] theorem setPipe_out (n : Nat) (p : Pipe) (s : State) : (setPipe n p s).out = s.out := rfl
@[simp] theorem setPipe_dict (n : Nat) (p : Pipe) (s : State) : (setPipe n p s).dict = s.dict := rfl
@[simp] theorem setPipe_iso (n : Nat) (p : Pipe) (s : State) : (setPipe n p s).iso = s.iso := rfl
@[simp] theorem setPipe_ring (n : Nat) (p : Pipe) (s : State) : (setPipe n p s).ring = s.ring := rfl
@[simp] theorem setPipe_pke (n : Nat) (p : Pipe) (s : State) : (setPipe n p s).pke = s.pke := rfl
@[simp] theorem setPipe_kreg (n : Nat) (p : Pipe) (s : State) : (setPipe n p s).kreg = s.kreg := rfl
@[simp] theorem setPipe_dig (n : Nat) (p : Pipe) (s : State) : (setPipe n p s).dig = s.dig := rfl
@[simp] theorem setPipe_graft (n : Nat) (p : Pipe) (s : State) : (setPipe n p s).graft = s.graft := rfl
@[simp] theorem setPipe_tsuow (n : Nat) (p : Pipe) (s : State) : (setPipe n p s).tsuow = s.tsuow := rfl
@[simp] theorem setPipe_rng (n : Nat) (p : Pipe) (s : State) : (setPipe n p s).rng = s.rng := rfl
@[simp] theorem setPipe_tmp (n : Nat) (p : Pipe) (s : State) : (setPipe n p s).tmp = s.tmp := rfl
@[simp] theorem setPipe_lc (n : Nat) (p : Pipe) (s : State) : (setPipe n p s).lc = s.lc := rfl
@[simp] theorem setPipe_upd (n : Nat) (p : Pipe) (s : State) : (setPipe n p s).upd = s.upd := rfl
@[simp] theorem setPipe_pwr (n : Nat) (p : Pipe) (s : State) : (setPipe n p s).pwr = s.pwr := rfl
@[simp] theorem setPipe_rec_ (n : Nat) (p : Pipe) (s : State) : (setPipe n p s).rec_ = s.rec_ := rfl
@[simp] theorem setCounter_now (n : Nat) (r : CounterRec) (s : State) : (setCounter n r s).now = s.now := rfl
@[simp] theorem setCounter_free (n : Nat) (r : CounterRec) (s : State) : (setCounter n r s).free = s.free := rfl
@[simp] theorem setCounter_out (n : Nat) (r : CounterRec) (s : State) : (setCounter n r s).out = s.out := rfl
@[simp] theorem setCounter_dict (n : Nat) (r : CounterRec) (s : State) : (setCounter n r s).dict = s.dict := rfl
@[simp] theorem setCounter_iso (n : Nat) (r : CounterRec) (s : State) : (setCounter n r s).iso = s.iso := rfl
@[simp] theorem setCounter_ring (n : Nat) (r : CounterRec) (s : State) : (setCounter n r s).ring = s.ring := rfl
@[simp] theorem setCounter_pke (n : Nat) (r : CounterRec) (s : State) : (setCounter n r s).pke = s.pke := rfl
@[simp] theorem setCounter_dig (n : Nat) (r : CounterRec) (s : State) : (setCounter n r s).dig = s.dig := rfl
@[simp] theorem setCounter_sp (n : Nat) (r : CounterRec) (s : State) : (setCounter n r s).sp = s.sp := rfl
@[simp] theorem setCounter_graft (n : Nat) (r : CounterRec) (s : State) : (setCounter n r s).graft = s.graft := rfl
@[simp] theorem setCounter_tsuow (n : Nat) (r : CounterRec) (s : State) : (setCounter n r s).tsuow = s.tsuow := rfl
@[simp] theorem setCounter_rng (n : Nat) (r : CounterRec) (s : State) : (setCounter n r s).rng = s.rng := rfl
@[simp] theorem setCounter_tmp (n : Nat) (r : CounterRec) (s : State) : (setCounter n r s).tmp = s.tmp := rfl
@[simp] theorem setCounter_lc (n : Nat) (r : CounterRec) (s : State) : (setCounter n r s).lc = s.lc := rfl
@[simp] theorem setCounter_upd (n : Nat) (r : CounterRec) (s : State) : (setCounter n r s).upd = s.upd := rfl
@[simp] theorem setCounter_pwr (n : Nat) (r : CounterRec) (s : State) : (setCounter n r s).pwr = s.pwr := rfl
@[simp] theorem setCounter_rec_ (n : Nat) (r : CounterRec) (s : State) : (setCounter n r s).rec_ = s.rec_ := rfl
@[simp] theorem setHts_now (h : Nat) (k : HtsKey) (s : State) : (setHts h k s).now = s.now := rfl
@[simp] theorem setHts_free (h : Nat) (k : HtsKey) (s : State) : (setHts h k s).free = s.free := rfl
@[simp] theorem setHts_out (h : Nat) (k : HtsKey) (s : State) : (setHts h k s).out = s.out := rfl
@[simp] theorem setHts_dict (h : Nat) (k : HtsKey) (s : State) : (setHts h k s).dict = s.dict := rfl
@[simp] theorem setHts_iso (h : Nat) (k : HtsKey) (s : State) : (setHts h k s).iso = s.iso := rfl
@[simp] theorem setHts_ring (h : Nat) (k : HtsKey) (s : State) : (setHts h k s).ring = s.ring := rfl
@[simp] theorem setHts_pke (h : Nat) (k : HtsKey) (s : State) : (setHts h k s).pke = s.pke := rfl
@[simp] theorem setHts_dig (h : Nat) (k : HtsKey) (s : State) : (setHts h k s).dig = s.dig := rfl
@[simp] theorem setHts_sp (h : Nat) (k : HtsKey) (s : State) : (setHts h k s).sp = s.sp := rfl
@[simp] theorem setHts_graft (h : Nat) (k : HtsKey) (s : State) : (setHts h k s).graft = s.graft := rfl
@[simp] theorem setHts_tsuow (h : Nat) (k : HtsKey) (s : State) : (setHts h k s).tsuow = s.tsuow := rfl
@[simp] theorem setHts_rng (h : Nat) (k : HtsKey) (s : State) : (setHts h k s).rng = s.rng := rfl
@[simp] theorem setHts_tmp (h : Nat) (k : HtsKey) (s : State) : (setHts h k s).tmp = s.tmp := rfl
@[simp] theorem setHts_lc (h : Nat) (k : HtsKey) (s : State) : (setHts h k s).lc = s.lc := rfl
@[simp] theorem setHts_upd (h : Nat) (k : HtsKey) (s : State) : (setHts h k s).upd = s.upd := rfl
@[simp] theorem setHts_pwr (h : Nat) (k : HtsKey) (s : State) : (setHts h k s).pwr = s.pwr := rfl
@[simp] theorem setHts_rec_ (h : Nat) (k : HtsKey) (s : State) : (setHts h k s).rec_ = s.rec_ := rfl
@[simp] theorem setPair_now (n : Nat) (p : Pair) (s : State) : (setPair n p s).now = s.now := rfl
@[simp] theorem setPair_free (n : Nat) (p : Pair) (s : State) : (setPair n p s).free = s.free := rfl
@[simp] theorem setPair_out (n : Nat) (p : Pair) (s : State) : (setPair n p s).out = s.out := rfl
@[simp] theorem setPair_dict (n : Nat) (p : Pair) (s : State) : (setPair n p s).dict = s.dict := rfl
@[simp] theorem setPair_iso (n : Nat) (p : Pair) (s : State) : (setPair n p s).iso = s.iso := rfl
@[simp] theorem setPair_pke (n : Nat) (p : Pair) (s : State) : (setPair n p s).pke = s.pke := rfl
@[simp] theorem setPair_kreg (n : Nat) (p : Pair) (s : State) : (setPair n p s).kreg = s.kreg := rfl
@[simp] theorem setPair_dig (n : Nat) (p : Pair) (s : State) : (setPair n p s).dig = s.dig := rfl
@[simp] theorem setPair_sp (n : Nat) (p : Pair) (s : State) : (setPair n p s).sp = s.sp := rfl
@[simp] theorem setPair_graft (n : Nat) (p : Pair) (s : State) : (setPair n p s).graft = s.graft := rfl
@[simp] theorem setPair_tsuow (n : Nat) (p : Pair) (s : State) : (setPair n p s).tsuow = s.tsuow := rfl
@[simp] theorem setPair_rng (n : Nat) (p : Pair) (s : State) : (setPair n p s).rng = s.rng := rfl
@[simp] theorem setPair_tmp (n : Nat) (p : Pair) (s : State) : (setPair n p s).tmp = s.tmp := rfl
@[simp] theorem setPair_lc (n : Nat) (p : Pair) (s : State) : (setPair n p s).lc = s.lc := rfl
@[simp] theorem setPair_upd (n : Nat) (p : Pair) (s : State) : (setPair n p s).upd = s.upd := rfl
@[simp] theorem setPair_pwr (n : Nat) (p : Pair) (s : State) : (setPair n p s).pwr = s.pwr := rfl
@[simp] theorem setPair_rec_ (n : Nat) (p : Pair) (s : State) : (setPair n p s).rec_ = s.rec_ := rfl
@[simp] theorem setEntry_now (e : Nat) (x : Entry) (s : State) : (setEntry e x s).now = s.now := rfl
@[simp] theorem setEntry_free (e : Nat) (x : Entry) (s : State) : (setEntry e x s).free = s.free := rfl
@[simp] theorem setEntry_out (e : Nat) (x : Entry) (s : State) : (setEntry e x s).out = s.out := rfl
@[simp] theorem setEntry_dict (e : Nat) (x : Entry) (s : State) : (setEntry e x s).dict = s.dict := rfl
@[simp] theorem setEntry_iso (e : Nat) (x : Entry) (s : State) : (setEntry e x s).iso = s.iso := rfl
@[simp] theorem setEntry_pke (e : Nat) (x : Entry) (s : State) : (setEntry e x s).pke = s.pke := rfl
@[simp] theorem setEntry_kreg (e : Nat) (x : Entry) (s : State) : (setEntry e x s).kreg = s.kreg := rfl
@[simp] theorem setEntry_dig (e : Nat) (x : Entry) (s : State) : (setEntry e x s).dig = s.dig := rfl
@[simp] theorem setEntry_sp (e : Nat) (x : Entry) (s : State) : (setEntry e x s).sp = s.sp := rfl
@[simp] theorem setEntry_graft (e : Nat) (x : Entry) (s : State) : (setEntry e x s).graft = s.graft := rfl
@[simp] theorem setEntry_tsuow (e : Nat) (x : Entry) (s : State) : (setEntry e x s).tsuow = s.tsuow := rfl
@[simp] theorem setEntry_rng (e : Nat) (x : Entry) (s : State) : (setEntry e x s).rng = s.rng := rfl
@[simp] theorem setEntry_tmp (e : Nat) (x : Entry) (s : State) : (setEntry e x s).tmp = s.tmp := rfl
@[simp] theorem setEntry_lc (e : Nat) (x : Entry) (s : State) : (setEntry e x s).lc = s.lc := rfl
@[simp] theorem setEntry_upd (e : Nat) (x : Entry) (s : State) : (setEntry e x s).upd = s.upd := rfl
@[simp] theorem setEntry_pwr (e : Nat) (x : Entry) (s : State) : (setEntry e x s).pwr = s.pwr := rfl
@[simp] theorem setEntry_rec_ (e : Nat) (x : Entry) (s : State) : (setEntry e x s).rec_ = s.rec_ := rfl
@[simp] theorem dropEntry_now (e : Nat) (s : State) : (dropEntry e s).now = s.now := rfl
@[simp] theorem dropEntry_free (e : Nat) (s : State) : (dropEntry e s).free = s.free := rfl
@[simp] theorem dropEntry_out (e : Nat) (s : State) : (dropEntry e s).out = s.out := rfl
@[simp] theorem dropEntry_dict (e : Nat) (s : State) : (dropEntry e s).dict = s.dict := rfl
@[simp] theorem dropEntry_iso (e : Nat) (s : State) : (dropEntry e s).iso = s.iso := rfl
@[simp] theorem dropEntry_pke (e : Nat) (s : State) : (dropEntry e s).pke = s.pke := rfl
@[simp] theorem dropEntry_kreg (e : Nat) (s : State) : (dropEntry e s).kreg = s.kreg := rfl
@[simp] theorem dropEntry_dig (e : Nat) (s : State) : (dropEntry e s).dig = s.dig := rfl
@[simp] theorem dropEntry_sp (e : Nat) (s : State) : (dropEntry e s).sp = s.sp := rfl
@[simp] theorem dropEntry_graft (e : Nat) (s : State) : (dropEntry e s).graft = s.graft := rfl
@[simp] theorem dropEntry_tsuow (e : Nat) (s : State) : (dropEntry e s).tsuow = s.tsuow := rfl
@[simp] theorem dropEntry_rng (e : Nat) (s : State) : (dropEntry e s).rng = s.rng := rfl
@[simp] theorem dropEntry_tmp (e : Nat) (s : State) : (dropEntry e s).tmp = s.tmp := rfl
@[simp] theorem dropEntry_lc (e : Nat) (s : State) : (dropEntry e s).lc = s.lc := rfl
@[simp] theorem dropEntry_upd (e : Nat) (s : State) : (dropEntry e s).upd = s.upd := rfl
@[simp] theorem dropEntry_pwr (e : Nat) (s : State) : (dropEntry e s).pwr = s.pwr := rfl
@[simp] theorem dropEntry_rec_ (e : Nat) (s : State) : (dropEntry e s).rec_ = s.rec_ := rfl
@[simp] theorem setSlice_now (n : Nat) (x : Slice) (s : State) : (setSlice n x s).now = s.now := rfl
@[simp] theorem setSlice_free (n : Nat) (x : Slice) (s : State) : (setSlice n x s).free = s.free := rfl
@[simp] theorem setSlice_out (n : Nat) (x : Slice) (s : State) : (setSlice n x s).out = s.out := rfl
@[simp] theorem setSlice_dict (n : Nat) (x : Slice) (s : State) : (setSlice n x s).dict = s.dict := rfl
@[simp] theorem setSlice_iso (n : Nat) (x : Slice) (s : State) : (setSlice n x s).iso = s.iso := rfl
@[simp] theorem setSlice_ring (n : Nat) (x : Slice) (s : State) : (setSlice n x s).ring = s.ring := rfl
@[simp] theorem setSlice_kreg (n : Nat) (x : Slice) (s : State) : (setSlice n x s).kreg = s.kreg := rfl
@[simp] theorem setSlice_dig (n : Nat) (x : Slice) (s : State) : (setSlice n x s).dig = s.dig := rfl
@[simp] theorem setSlice_sp (n : Nat) (x : Slice) (s : State) : (setSlice n x s).sp = s.sp := rfl
@[simp] theorem setSlice_graft (n : Nat) (x : Slice) (s : State) : (setSlice n x s).graft = s.graft := rfl
@[simp] theorem setSlice_tsuow (n : Nat) (x : Slice) (s : State) : (setSlice n x s).tsuow = s.tsuow := rfl
@[simp] theorem setSlice_rng (n : Nat) (x : Slice) (s : State) : (setSlice n x s).rng = s.rng := rfl
@[simp] theorem setSlice_tmp (n : Nat) (x : Slice) (s : State) : (setSlice n x s).tmp = s.tmp := rfl
@[simp] theorem setSlice_lc (n : Nat) (x : Slice) (s : State) : (setSlice n x s).lc = s.lc := rfl
@[simp] theorem setSlice_upd (n : Nat) (x : Slice) (s : State) : (setSlice n x s).upd = s.upd := rfl
@[simp] theorem setSlice_pwr (n : Nat) (x : Slice) (s : State) : (setSlice n x s).pwr = s.pwr := rfl
@[simp] theorem setSlice_rec_ (n : Nat) (x : Slice) (s : State) : (setSlice n x s).rec_ = s.rec_ := rfl
@[simp] theorem setActiveHalf_now (h : Bytes) (s : State) : (setActiveHalf h s).now = s.now := rfl
@[simp] theorem setActiveHalf_free (h : Bytes) (s : State) : (setActiveHalf h s).free = s.free := rfl
@[simp] theorem setActiveHalf_out (h : Bytes) (s : State) : (setActiveHalf h s).out = s.out := rfl
@[simp] theorem setActiveHalf_dict (h : Bytes) (s : State) : (setActiveHalf h s).dict = s.dict := rfl
@[simp] theorem setActiveHalf_iso (h : Bytes) (s : State) : (setActiveHalf h s).iso = s.iso := rfl
@[simp] theorem setActiveHalf_ring (h : Bytes) (s : State) : (setActiveHalf h s).ring = s.ring := rfl
@[simp] theorem setActiveHalf_pke (h : Bytes) (s : State) : (setActiveHalf h s).pke = s.pke := rfl
@[simp] theorem setActiveHalf_dig (h : Bytes) (s : State) : (setActiveHalf h s).dig = s.dig := rfl
@[simp] theorem setActiveHalf_sp (h : Bytes) (s : State) : (setActiveHalf h s).sp = s.sp := rfl
@[simp] theorem setActiveHalf_graft (h : Bytes) (s : State) : (setActiveHalf h s).graft = s.graft := rfl
@[simp] theorem setActiveHalf_tsuow (h : Bytes) (s : State) : (setActiveHalf h s).tsuow = s.tsuow := rfl
@[simp] theorem setActiveHalf_rng (h : Bytes) (s : State) : (setActiveHalf h s).rng = s.rng := rfl
@[simp] theorem setActiveHalf_tmp (h : Bytes) (s : State) : (setActiveHalf h s).tmp = s.tmp := rfl
@[simp] theorem setActiveHalf_lc (h : Bytes) (s : State) : (setActiveHalf h s).lc = s.lc := rfl
@[simp] theorem setActiveHalf_upd (h : Bytes) (s : State) : (setActiveHalf h s).upd = s.upd := rfl
@[simp] theorem setActiveHalf_pwr (h : Bytes) (s : State) : (setActiveHalf h s).pwr = s.pwr := rfl
@[simp] theorem setActiveHalf_rec_ (h : Bytes) (s : State) : (setActiveHalf h s).rec_ = s.rec_ := rfl
@[simp] theorem rouseCore_now (s : State) : (rouseCore s).now = s.now := rfl
@[simp] theorem rouseCore_free (s : State) : (rouseCore s).free = s.free := rfl
@[simp] theorem rouseCore_out (s : State) : (rouseCore s).out = s.out := rfl
@[simp] theorem rouseCore_dict (s : State) : (rouseCore s).dict = s.dict := rfl
@[simp] theorem rouseCore_iso (s : State) : (rouseCore s).iso = s.iso := rfl
@[simp] theorem rouseCore_ring (s : State) : (rouseCore s).ring = s.ring := rfl
@[simp] theorem rouseCore_pke (s : State) : (rouseCore s).pke = s.pke := rfl
@[simp] theorem rouseCore_kreg (s : State) : (rouseCore s).kreg = s.kreg := rfl
@[simp] theorem rouseCore_dig (s : State) : (rouseCore s).dig = s.dig := rfl
@[simp] theorem rouseCore_sp (s : State) : (rouseCore s).sp = s.sp := rfl
@[simp] theorem rouseCore_graft (s : State) : (rouseCore s).graft = s.graft := rfl
@[simp] theorem rouseCore_rng (s : State) : (rouseCore s).rng = s.rng := rfl
@[simp] theorem rouseCore_tmp (s : State) : (rouseCore s).tmp = s.tmp := rfl
@[simp] theorem rouseCore_lc (s : State) : (rouseCore s).lc = s.lc := rfl
@[simp] theorem rouseCore_upd (s : State) : (rouseCore s).upd = s.upd := rfl
@[simp] theorem rouseCore_rec_ (s : State) : (rouseCore s).rec_ = s.rec_ := rfl
@[simp] theorem rouseEngine_free (s : State) : (rouseEngine s).free = s.free := rfl
@[simp] theorem rouseEngine_out (s : State) : (rouseEngine s).out = s.out := rfl
@[simp] theorem rouseEngine_dict (s : State) : (rouseEngine s).dict = s.dict := rfl
@[simp] theorem rouseEngine_iso (s : State) : (rouseEngine s).iso = s.iso := rfl
@[simp] theorem rouseEngine_ring (s : State) : (rouseEngine s).ring = s.ring := rfl
@[simp] theorem rouseEngine_pke (s : State) : (rouseEngine s).pke = s.pke := rfl
@[simp] theorem rouseEngine_kreg (s : State) : (rouseEngine s).kreg = s.kreg := rfl
@[simp] theorem rouseEngine_dig (s : State) : (rouseEngine s).dig = s.dig := rfl
@[simp] theorem rouseEngine_sp (s : State) : (rouseEngine s).sp = s.sp := rfl
@[simp] theorem rouseEngine_graft (s : State) : (rouseEngine s).graft = s.graft := rfl
@[simp] theorem rouseEngine_tsuow (s : State) : (rouseEngine s).tsuow = s.tsuow := rfl
@[simp] theorem rouseEngine_rng (s : State) : (rouseEngine s).rng = s.rng := rfl
@[simp] theorem rouseEngine_tmp (s : State) : (rouseEngine s).tmp = s.tmp := rfl
@[simp] theorem rouseEngine_lc (s : State) : (rouseEngine s).lc = s.lc := rfl
@[simp] theorem rouseEngine_upd (s : State) : (rouseEngine s).upd = s.upd := rfl
@[simp] theorem rouseEngine_rec_ (s : State) : (rouseEngine s).rec_ = s.rec_ := rfl
@[simp] theorem setSession_now (k : Nat) (x : Session) (s : State) : (setSession k x s).now = s.now := rfl
@[simp] theorem setSession_free (k : Nat) (x : Session) (s : State) : (setSession k x s).free = s.free := rfl
@[simp] theorem setSession_out (k : Nat) (x : Session) (s : State) : (setSession k x s).out = s.out := rfl
@[simp] theorem setSession_iso (k : Nat) (x : Session) (s : State) : (setSession k x s).iso = s.iso := rfl
@[simp] theorem setSession_ring (k : Nat) (x : Session) (s : State) : (setSession k x s).ring = s.ring := rfl
@[simp] theorem setSession_pke (k : Nat) (x : Session) (s : State) : (setSession k x s).pke = s.pke := rfl
@[simp] theorem setSession_kreg (k : Nat) (x : Session) (s : State) : (setSession k x s).kreg = s.kreg := rfl
@[simp] theorem setSession_dig (k : Nat) (x : Session) (s : State) : (setSession k x s).dig = s.dig := rfl
@[simp] theorem setSession_sp (k : Nat) (x : Session) (s : State) : (setSession k x s).sp = s.sp := rfl
@[simp] theorem setSession_graft (k : Nat) (x : Session) (s : State) : (setSession k x s).graft = s.graft := rfl
@[simp] theorem setSession_tsuow (k : Nat) (x : Session) (s : State) : (setSession k x s).tsuow = s.tsuow := rfl
@[simp] theorem setSession_rng (k : Nat) (x : Session) (s : State) : (setSession k x s).rng = s.rng := rfl
@[simp] theorem setSession_tmp (k : Nat) (x : Session) (s : State) : (setSession k x s).tmp = s.tmp := rfl
@[simp] theorem setSession_lc (k : Nat) (x : Session) (s : State) : (setSession k x s).lc = s.lc := rfl
@[simp] theorem setSession_upd (k : Nat) (x : Session) (s : State) : (setSession k x s).upd = s.upd := rfl
@[simp] theorem setSession_pwr (k : Nat) (x : Session) (s : State) : (setSession k x s).pwr = s.pwr := rfl
@[simp] theorem setSession_rec_ (k : Nat) (x : Session) (s : State) : (setSession k x s).rec_ = s.rec_ := rfl
@[simp] theorem putSetup_now (n : Nat) (u : Setup) (s : State) : (putSetup n u s).now = s.now := rfl
@[simp] theorem putSetup_free (n : Nat) (u : Setup) (s : State) : (putSetup n u s).free = s.free := rfl
@[simp] theorem putSetup_out (n : Nat) (u : Setup) (s : State) : (putSetup n u s).out = s.out := rfl
@[simp] theorem putSetup_iso (n : Nat) (u : Setup) (s : State) : (putSetup n u s).iso = s.iso := rfl
@[simp] theorem putSetup_ring (n : Nat) (u : Setup) (s : State) : (putSetup n u s).ring = s.ring := rfl
@[simp] theorem putSetup_pke (n : Nat) (u : Setup) (s : State) : (putSetup n u s).pke = s.pke := rfl
@[simp] theorem putSetup_kreg (n : Nat) (u : Setup) (s : State) : (putSetup n u s).kreg = s.kreg := rfl
@[simp] theorem putSetup_dig (n : Nat) (u : Setup) (s : State) : (putSetup n u s).dig = s.dig := rfl
@[simp] theorem putSetup_sp (n : Nat) (u : Setup) (s : State) : (putSetup n u s).sp = s.sp := rfl
@[simp] theorem putSetup_graft (n : Nat) (u : Setup) (s : State) : (putSetup n u s).graft = s.graft := rfl
@[simp] theorem putSetup_tsuow (n : Nat) (u : Setup) (s : State) : (putSetup n u s).tsuow = s.tsuow := rfl
@[simp] theorem putSetup_rng (n : Nat) (u : Setup) (s : State) : (putSetup n u s).rng = s.rng := rfl
@[simp] theorem putSetup_tmp (n : Nat) (u : Setup) (s : State) : (putSetup n u s).tmp = s.tmp := rfl
@[simp] theorem putSetup_lc (n : Nat) (u : Setup) (s : State) : (putSetup n u s).lc = s.lc := rfl
@[simp] theorem putSetup_upd (n : Nat) (u : Setup) (s : State) : (putSetup n u s).upd = s.upd := rfl
@[simp] theorem putSetup_pwr (n : Nat) (u : Setup) (s : State) : (putSetup n u s).pwr = s.pwr := rfl
@[simp] theorem putSetup_rec_ (n : Nat) (u : Setup) (s : State) : (putSetup n u s).rec_ = s.rec_ := rfl
@[simp] theorem dropSetup_now (n : Nat) (s : State) : (dropSetup n s).now = s.now := rfl
@[simp] theorem dropSetup_free (n : Nat) (s : State) : (dropSetup n s).free = s.free := rfl
@[simp] theorem dropSetup_out (n : Nat) (s : State) : (dropSetup n s).out = s.out := rfl
@[simp] theorem dropSetup_iso (n : Nat) (s : State) : (dropSetup n s).iso = s.iso := rfl
@[simp] theorem dropSetup_ring (n : Nat) (s : State) : (dropSetup n s).ring = s.ring := rfl
@[simp] theorem dropSetup_pke (n : Nat) (s : State) : (dropSetup n s).pke = s.pke := rfl
@[simp] theorem dropSetup_dig (n : Nat) (s : State) : (dropSetup n s).dig = s.dig := rfl
@[simp] theorem dropSetup_sp (n : Nat) (s : State) : (dropSetup n s).sp = s.sp := rfl
@[simp] theorem dropSetup_graft (n : Nat) (s : State) : (dropSetup n s).graft = s.graft := rfl
@[simp] theorem dropSetup_tsuow (n : Nat) (s : State) : (dropSetup n s).tsuow = s.tsuow := rfl
@[simp] theorem dropSetup_rng (n : Nat) (s : State) : (dropSetup n s).rng = s.rng := rfl
@[simp] theorem dropSetup_tmp (n : Nat) (s : State) : (dropSetup n s).tmp = s.tmp := rfl
@[simp] theorem dropSetup_lc (n : Nat) (s : State) : (dropSetup n s).lc = s.lc := rfl
@[simp] theorem dropSetup_upd (n : Nat) (s : State) : (dropSetup n s).upd = s.upd := rfl
@[simp] theorem dropSetup_pwr (n : Nat) (s : State) : (dropSetup n s).pwr = s.pwr := rfl
@[simp] theorem dropSetup_rec_ (n : Nat) (s : State) : (dropSetup n s).rec_ = s.rec_ := rfl
@[simp] theorem putObj_now (id v : Nat) (s : State) : (putObj id v s).now = s.now := rfl
@[simp] theorem putObj_free (id v : Nat) (s : State) : (putObj id v s).free = s.free := rfl
@[simp] theorem putObj_out (id v : Nat) (s : State) : (putObj id v s).out = s.out := rfl
@[simp] theorem putObj_iso (id v : Nat) (s : State) : (putObj id v s).iso = s.iso := rfl
@[simp] theorem putObj_ring (id v : Nat) (s : State) : (putObj id v s).ring = s.ring := rfl
@[simp] theorem putObj_pke (id v : Nat) (s : State) : (putObj id v s).pke = s.pke := rfl
@[simp] theorem putObj_kreg (id v : Nat) (s : State) : (putObj id v s).kreg = s.kreg := rfl
@[simp] theorem putObj_dig (id v : Nat) (s : State) : (putObj id v s).dig = s.dig := rfl
@[simp] theorem putObj_sp (id v : Nat) (s : State) : (putObj id v s).sp = s.sp := rfl
@[simp] theorem putObj_graft (id v : Nat) (s : State) : (putObj id v s).graft = s.graft := rfl
@[simp] theorem putObj_tsuow (id v : Nat) (s : State) : (putObj id v s).tsuow = s.tsuow := rfl
@[simp] theorem putObj_rng (id v : Nat) (s : State) : (putObj id v s).rng = s.rng := rfl
@[simp] theorem putObj_tmp (id v : Nat) (s : State) : (putObj id v s).tmp = s.tmp := rfl
@[simp] theorem putObj_lc (id v : Nat) (s : State) : (putObj id v s).lc = s.lc := rfl
@[simp] theorem putObj_upd (id v : Nat) (s : State) : (putObj id v s).upd = s.upd := rfl
@[simp] theorem putObj_pwr (id v : Nat) (s : State) : (putObj id v s).pwr = s.pwr := rfl
@[simp] theorem putObj_rec_ (id v : Nat) (s : State) : (putObj id v s).rec_ = s.rec_ := rfl
@[simp] theorem setCircuit_now (c : Nat) (x : Circuit) (s : State) : (setCircuit c x s).now = s.now := rfl
@[simp] theorem setCircuit_free (c : Nat) (x : Circuit) (s : State) : (setCircuit c x s).free = s.free := rfl
@[simp] theorem setCircuit_out (c : Nat) (x : Circuit) (s : State) : (setCircuit c x s).out = s.out := rfl
@[simp] theorem setCircuit_dict (c : Nat) (x : Circuit) (s : State) : (setCircuit c x s).dict = s.dict := rfl
@[simp] theorem setCircuit_iso (c : Nat) (x : Circuit) (s : State) : (setCircuit c x s).iso = s.iso := rfl
@[simp] theorem setCircuit_ring (c : Nat) (x : Circuit) (s : State) : (setCircuit c x s).ring = s.ring := rfl
@[simp] theorem setCircuit_pke (c : Nat) (x : Circuit) (s : State) : (setCircuit c x s).pke = s.pke := rfl
@[simp] theorem setCircuit_kreg (c : Nat) (x : Circuit) (s : State) : (setCircuit c x s).kreg = s.kreg := rfl
@[simp] theorem setCircuit_dig (c : Nat) (x : Circuit) (s : State) : (setCircuit c x s).dig = s.dig := rfl
@[simp] theorem setCircuit_graft (c : Nat) (x : Circuit) (s : State) : (setCircuit c x s).graft = s.graft := rfl
@[simp] theorem setCircuit_tsuow (c : Nat) (x : Circuit) (s : State) : (setCircuit c x s).tsuow = s.tsuow := rfl
@[simp] theorem setCircuit_rng (c : Nat) (x : Circuit) (s : State) : (setCircuit c x s).rng = s.rng := rfl
@[simp] theorem setCircuit_tmp (c : Nat) (x : Circuit) (s : State) : (setCircuit c x s).tmp = s.tmp := rfl
@[simp] theorem setCircuit_lc (c : Nat) (x : Circuit) (s : State) : (setCircuit c x s).lc = s.lc := rfl
@[simp] theorem setCircuit_upd (c : Nat) (x : Circuit) (s : State) : (setCircuit c x s).upd = s.upd := rfl
@[simp] theorem setCircuit_pwr (c : Nat) (x : Circuit) (s : State) : (setCircuit c x s).pwr = s.pwr := rfl
@[simp] theorem setCircuit_rec_ (c : Nat) (x : Circuit) (s : State) : (setCircuit c x s).rec_ = s.rec_ := rfl
@[simp] theorem setCallerSt_now (c : Caller) (v : CallerSt) (s : State) : (setCallerSt c v s).now = s.now := rfl
@[simp] theorem setCallerSt_free (c : Caller) (v : CallerSt) (s : State) : (setCallerSt c v s).free = s.free := rfl
@[simp] theorem setCallerSt_out (c : Caller) (v : CallerSt) (s : State) : (setCallerSt c v s).out = s.out := rfl
@[simp] theorem setCallerSt_iso (c : Caller) (v : CallerSt) (s : State) : (setCallerSt c v s).iso = s.iso := rfl
@[simp] theorem setCallerSt_ring (c : Caller) (v : CallerSt) (s : State) : (setCallerSt c v s).ring = s.ring := rfl
@[simp] theorem setCallerSt_pke (c : Caller) (v : CallerSt) (s : State) : (setCallerSt c v s).pke = s.pke := rfl
@[simp] theorem setCallerSt_kreg (c : Caller) (v : CallerSt) (s : State) : (setCallerSt c v s).kreg = s.kreg := rfl
@[simp] theorem setCallerSt_dig (c : Caller) (v : CallerSt) (s : State) : (setCallerSt c v s).dig = s.dig := rfl
@[simp] theorem setCallerSt_sp (c : Caller) (v : CallerSt) (s : State) : (setCallerSt c v s).sp = s.sp := rfl
@[simp] theorem setCallerSt_graft (c : Caller) (v : CallerSt) (s : State) : (setCallerSt c v s).graft = s.graft := rfl
@[simp] theorem setCallerSt_tsuow (c : Caller) (v : CallerSt) (s : State) : (setCallerSt c v s).tsuow = s.tsuow := rfl
@[simp] theorem setCallerSt_rng (c : Caller) (v : CallerSt) (s : State) : (setCallerSt c v s).rng = s.rng := rfl
@[simp] theorem setCallerSt_tmp (c : Caller) (v : CallerSt) (s : State) : (setCallerSt c v s).tmp = s.tmp := rfl
@[simp] theorem setCallerSt_lc (c : Caller) (v : CallerSt) (s : State) : (setCallerSt c v s).lc = s.lc := rfl
@[simp] theorem setCallerSt_upd (c : Caller) (v : CallerSt) (s : State) : (setCallerSt c v s).upd = s.upd := rfl
@[simp] theorem setCallerSt_pwr (c : Caller) (v : CallerSt) (s : State) : (setCallerSt c v s).pwr = s.pwr := rfl
@[simp] theorem setCallerSt_rec_ (c : Caller) (v : CallerSt) (s : State) : (setCallerSt c v s).rec_ = s.rec_ := rfl
@[simp] theorem setOwn_now (c : Caller) (id : ObjId) (v : Nat) (s : State) : (setOwn c id v s).now = s.now := rfl
@[simp] theorem setOwn_free (c : Caller) (id : ObjId) (v : Nat) (s : State) : (setOwn c id v s).free = s.free := rfl
@[simp] theorem setOwn_out (c : Caller) (id : ObjId) (v : Nat) (s : State) : (setOwn c id v s).out = s.out := rfl
@[simp] theorem setOwn_iso (c : Caller) (id : ObjId) (v : Nat) (s : State) : (setOwn c id v s).iso = s.iso := rfl
@[simp] theorem setOwn_ring (c : Caller) (id : ObjId) (v : Nat) (s : State) : (setOwn c id v s).ring = s.ring := rfl
@[simp] theorem setOwn_pke (c : Caller) (id : ObjId) (v : Nat) (s : State) : (setOwn c id v s).pke = s.pke := rfl
@[simp] theorem setOwn_kreg (c : Caller) (id : ObjId) (v : Nat) (s : State) : (setOwn c id v s).kreg = s.kreg := rfl
@[simp] theorem setOwn_dig (c : Caller) (id : ObjId) (v : Nat) (s : State) : (setOwn c id v s).dig = s.dig := rfl
@[simp] theorem setOwn_sp (c : Caller) (id : ObjId) (v : Nat) (s : State) : (setOwn c id v s).sp = s.sp := rfl
@[simp] theorem setOwn_graft (c : Caller) (id : ObjId) (v : Nat) (s : State) : (setOwn c id v s).graft = s.graft := rfl
@[simp] theorem setOwn_tsuow (c : Caller) (id : ObjId) (v : Nat) (s : State) : (setOwn c id v s).tsuow = s.tsuow := rfl
@[simp] theorem setOwn_rng (c : Caller) (id : ObjId) (v : Nat) (s : State) : (setOwn c id v s).rng = s.rng := rfl
@[simp] theorem setOwn_tmp (c : Caller) (id : ObjId) (v : Nat) (s : State) : (setOwn c id v s).tmp = s.tmp := rfl
@[simp] theorem setOwn_lc (c : Caller) (id : ObjId) (v : Nat) (s : State) : (setOwn c id v s).lc = s.lc := rfl
@[simp] theorem setOwn_upd (c : Caller) (id : ObjId) (v : Nat) (s : State) : (setOwn c id v s).upd = s.upd := rfl
@[simp] theorem setOwn_pwr (c : Caller) (id : ObjId) (v : Nat) (s : State) : (setOwn c id v s).pwr = s.pwr := rfl
@[simp] theorem setOwn_rec_ (c : Caller) (id : ObjId) (v : Nat) (s : State) : (setOwn c id v s).rec_ = s.rec_ := rfl
@[simp] theorem wakeCore_free (s : State) : (wakeCore s).free = s.free := by unfold wakeCore; split <;> rfl
@[simp] theorem wakeCore_out (s : State) : (wakeCore s).out = s.out := by unfold wakeCore; split <;> rfl
@[simp] theorem wakeCore_dict (s : State) : (wakeCore s).dict = s.dict := by unfold wakeCore; split <;> rfl
@[simp] theorem wakeCore_iso (s : State) : (wakeCore s).iso = s.iso := by unfold wakeCore; split <;> rfl
@[simp] theorem wakeCore_ring (s : State) : (wakeCore s).ring = s.ring := by unfold wakeCore; split <;> rfl
@[simp] theorem wakeCore_pke (s : State) : (wakeCore s).pke = s.pke := by unfold wakeCore; split <;> rfl
@[simp] theorem wakeCore_kreg (s : State) : (wakeCore s).kreg = s.kreg := by unfold wakeCore; split <;> rfl
@[simp] theorem wakeCore_dig (s : State) : (wakeCore s).dig = s.dig := by unfold wakeCore; split <;> rfl
@[simp] theorem wakeCore_sp (s : State) : (wakeCore s).sp = s.sp := by unfold wakeCore; split <;> rfl
@[simp] theorem wakeCore_graft (s : State) : (wakeCore s).graft = s.graft := by unfold wakeCore; split <;> rfl
@[simp] theorem wakeCore_rng (s : State) : (wakeCore s).rng = s.rng := by unfold wakeCore; split <;> rfl
@[simp] theorem wakeCore_tmp (s : State) : (wakeCore s).tmp = s.tmp := by unfold wakeCore; split <;> rfl
@[simp] theorem wakeCore_lc (s : State) : (wakeCore s).lc = s.lc := by unfold wakeCore; split <;> rfl
@[simp] theorem wakeCore_upd (s : State) : (wakeCore s).upd = s.upd := by unfold wakeCore; split <;> rfl
@[simp] theorem wakeCore_rec_ (s : State) : (wakeCore s).rec_ = s.rec_ := by unfold wakeCore; split <;> rfl

/-! ### What is read after an update -/

theorem setDrbg_same (n : Nat) (x : Drbg) (s : State) (h : keysRise s.rng.drbg = true) : drbg (setDrbg n x s) n = x :=
  tget_tset_same _ _ _ _ h
theorem setDrbg_other {n m : Nat} (x : Drbg) (s : State) (e : m ≠ n) (h : keysRise s.rng.drbg = true) : drbg (setDrbg n x s) m = drbg s m :=
  tget_tset_ne _ _ _ e h
theorem setDigUnit_same (n : Nat) (x : DigUnit) (s : State) (h : keysRise s.dig.units = true) : digUnit (setDigUnit n x s) n = x :=
  tget_tset_same _ _ _ _ h
theorem setDigUnit_other {n m : Nat} (x : DigUnit) (s : State) (e : m ≠ n) (h : keysRise s.dig.units = true) : digUnit (setDigUnit n x s) m = digUnit s m :=
  tget_tset_ne _ _ _ e h
theorem setPipe_same (n : Nat) (x : Pipe) (s : State) (h : keysRise s.sp.pipes = true) : pipe (setPipe n x s) n = x :=
  tget_tset_same _ _ _ _ h
theorem setPipe_other {n m : Nat} (x : Pipe) (s : State) (e : m ≠ n) (h : keysRise s.sp.pipes = true) : pipe (setPipe n x s) m = pipe s m :=
  tget_tset_ne _ _ _ e h
theorem setCounter_same (n : Nat) (x : CounterRec) (s : State) (h : keysRise s.kreg.counters = true) : counter (setCounter n x s) n = x :=
  tget_tset_same _ _ _ _ h
theorem setCounter_other {n m : Nat} (x : CounterRec) (s : State) (e : m ≠ n) (h : keysRise s.kreg.counters = true) : counter (setCounter n x s) m = counter s m :=
  tget_tset_ne _ _ _ e h
theorem setPair_same (n : Nat) (x : Pair) (s : State) (h : keysRise s.ring.pairs = true) : pair (setPair n x s) n = x :=
  tget_tset_same _ _ _ _ h
theorem setPair_other {n m : Nat} (x : Pair) (s : State) (e : m ≠ n) (h : keysRise s.ring.pairs = true) : pair (setPair n x s) m = pair s m :=
  tget_tset_ne _ _ _ e h
theorem setSlice_same (n : Nat) (x : Slice) (s : State) (h : keysRise s.pke.slices = true) : slice_ (setSlice n x s) n = x :=
  tget_tset_same _ _ _ _ h
theorem setSlice_other {n m : Nat} (x : Slice) (s : State) (e : m ≠ n) (h : keysRise s.pke.slices = true) : slice_ (setSlice n x s) m = slice_ s m :=
  tget_tset_ne _ _ _ e h
theorem setCircuit_same (n : Nat) (x : Circuit) (s : State) (h : keysRise s.sp.circuits = true) : circuit (setCircuit n x s) n = x :=
  tget_tset_same _ _ _ _ h
theorem setCircuit_other {n m : Nat} (x : Circuit) (s : State) (e : m ≠ n) (h : keysRise s.sp.circuits = true) : circuit (setCircuit n x s) m = circuit s m :=
  tget_tset_ne _ _ _ e h
theorem setSource_same (n : Nat) (x : Source) (s : State) (h : keysRise s.tmp.sources = true) : source (setSource n x s) n = x := by
  unfold setSource source
  dsimp only
  split <;> exact tget_tset_same _ _ _ _ h
theorem setSource_other {n m : Nat} (x : Source) (s : State) (e : m ≠ n) (h : keysRise s.tmp.sources = true) :
    source (setSource n x s) m = source s m := by
  unfold setSource source
  dsimp only
  split <;> exact tget_tset_ne _ _ _ e h
@[simp] theorem setEntry_same (e : Nat) (x : Entry) (s : State) : entry? (setEntry e x s) e = some x := mget?_mset_same _ _ _
theorem setEntry_other {e k : Nat} (x : Entry) (s : State) (h : k ≠ e) : entry? (setEntry e x s) k = entry? s k := mget?_mset_ne _ _ h
theorem dropEntry_same (e : Nat) (s : State) (h : keysRise s.ring.entries = true) : entry? (dropEntry e s) e = none := mget?_mdel_same _ _ h
@[simp] theorem noticed_obj (id k : ObjId) (s : State) : objVal (noticed id s) k = objVal s k := rfl
/-- An object written reads back. -/
theorem setObj_same (id : ObjId) (v : Nat) (s : State) (h : keysRise s.dict.obj = true) : objVal (setObj id v s) id = v := by
  unfold setObj objVal
  dsimp only
  split
  · assumption
  · exact tget_tset_same _ _ _ _ h
theorem setObj_other {id k : ObjId} (v : Nat) (s : State) (e : k ≠ id) (h : keysRise s.dict.obj = true) :
    objVal (setObj id v s) k = objVal s k := by
  unfold setObj objVal
  dsimp only
  split
  · rfl
  · exact tget_tset_ne _ _ _ e h
/-- A count below its width goes up by one. -/
theorem bump_same (id : ObjId) (s : State) (h : keysRise s.dict.obj = true) (hf : objVal s id + 1 < objRange id) :
    objVal (bump id s) id = objVal s id + 1 := by
  unfold bump bumpBy
  simp only [hf, decide_true, if_true]
  exact setObj_same _ _ _ h
theorem bump_other {id k : ObjId} (s : State) (e : k ≠ id) (h : keysRise s.dict.obj = true) : objVal (bump id s) k = objVal s k :=
  setObj_other _ _ e h
theorem keysRise_setObj (id : ObjId) (v : Nat) (s : State) (h : keysRise s.dict.obj = true) : keysRise (setObj id v s).dict.obj = true := by
  unfold setObj
  dsimp only
  split
  · exact h
  · exact keysRise_tset _ _ _ _ h
end Sys2Proof.Machine
end

