-- ==== Sys2Proof/Laws/Rows.lean ====
section
/-!
SUPPORT. What the shared rows of the engine and the core do, said once: each runs its body where the job or the core is ready for
it, and otherwise leaves the state as it was.
-/
namespace Sys2Proof.Machine

/-- The core's next instruction is executed. -/
theorem coreRow_executes {s : State} (f : State → State) (h : Executes s) : coreRow f s = f (atInstr s) := by
  obtain ⟨h1, h2, h3⟩ := h
  unfold coreRow
  dsimp only
  rw [h1, if_neg (by decide), if_neg]
  · generalize hg : fetchFault (setCore s.tsuow.core.repeatEnd s) (setCore s.tsuow.core.repeatEnd s).tsuow.core = q
    have h4 : q.1 = none := hg ▸ h3
    rcases q with ⟨_ | x, r⟩
    · rfl
    · exact absurd h4 (by simp)
  · intro h
    have h := Bool.and_eq_true_iff.mp h
    exact h2 h.1 (of_decide_eq_true h.2)

/-- A core that does not run executes nothing. -/
theorem coreRow_idle {s : State} (f : State → State) (h : coreRuns s = false) : coreRow f s = s := by
  unfold coreRow; rw [h]; rfl

/-- A slice's job of this opcode reaches its end in its last segment. -/
theorem sliceRow_onSlice {e opcode n : Nat} {x : Entry} {s : State} (f : Entry → Nat → State → Res × State)
    (h : OnSlice e opcode n x s) (hl : lastSegment x (f x n s).1 = true) :
    sliceRow opcode e false f s = finishOn e n x (f x n s).1 (f x n s).2 := by
  obtain ⟨h1, h2, h3⟩ := h
  unfold sliceRow
  simp only [h1, h2, h3, hl, ne_eq, not_true_eq_false, if_false, Bool.not_true, Bool.false_and, Bool.false_eq_true]

/-- Before its last segment it does not end. -/
theorem sliceRow_early {e opcode n : Nat} {x : Entry} {s : State} (fault : Bool) (f : Entry → Nat → State → Res × State)
    (h : OnSlice e opcode n x s) (hl : lastSegment x (f x n s).1 = false) : sliceRow opcode e fault f s = s := by
  obtain ⟨h1, h2, h3⟩ := h
  unfold sliceRow
  simp only [h1, h2, h3, hl, ne_eq, not_true_eq_false, if_false, Bool.not_false, if_true]

/-- A slice's job that fails its invariant stops on the slice (R214). -/
theorem sliceRow_fault {e opcode n : Nat} {x : Entry} {s : State} (f : Entry → Nat → State → Res × State)
    (h : OnSlice e opcode n x s) (hl : lastSegment x (f x n s).1 = true) (hr : reachesInvariant (f x n s).1.st = true) :
    sliceRow opcode e true f s = invariantFailure e (spend e (f x n s).1.cycles (f x n s).2) := by
  obtain ⟨h1, h2, h3⟩ := h
  unfold sliceRow
  simp only [h1, h2, h3, hl, hr, ne_eq, not_true_eq_false, if_false, Bool.not_true, Bool.false_eq_true, Bool.and_self, if_true]

/-- An entry that holds no job has none to end. -/
theorem sliceRow_empty {e opcode : Nat} {s : State} (fault : Bool) (f : Entry → Nat → State → Res × State) (h : entry? s e = none) :
    sliceRow opcode e fault f s = s := by
  unfold sliceRow; rw [h]

/-- A key-manager job that needs no slice reaches its end. -/
theorem managerRow_alone {e opcode : Nat} {x : Entry} {s : State} (needs : Entry → State → List Nat) (fault : Bool)
    (f : Entry → Nat → State → Res × State) (h : AtManager e opcode x s) (hc : needs x s = []) :
    managerRow opcode needs e fault f s =
      (let y := { x with startedAt := s.now, segAt := s.now }
       let p := f y 0xFF (setEntry e y s)
       finishManager e y p.1 p.2) := by
  obtain ⟨h1, h2, h3⟩ := h
  unfold managerRow
  simp only [h1, h2, h3, hc, ne_eq, not_true_eq_false, or_self, if_false]

/-- A digest job runs to its end on the unit that serves it. -/
theorem digRow_onDigest {e opcode : Nat} {x : Entry} {s : State} (f : Entry → Nat → State → Res × State) (h : OnDigest e opcode x s) :
    ∃ u, unitOf? s e = some u ∧ digRow opcode e f s = digTurn e u x f s := by
  obtain ⟨h1, h2, h3, h4, u, hu, hc⟩ := h
  refine ⟨u, hu, ?_⟩
  unfold digRow
  simp only [h1, h2, h3, h4, hu, ne_eq, not_true_eq_false, or_self, if_false, Bool.false_eq_true]
  split
  · rename_i r a hq
    unfold recGuard
    rw [hc _ _ hq]
  · rfl

/-- The job's cycles are added, with what it waited at the benches; its record is otherwise as it was. -/
theorem spend_entry {e : Nat} {x : Entry} (c : Nat) {s : State} (h : entry? s e = some x) :
    entry? (spend e c s) e = some { x with cycles := x.cycles + c + owedTo s e } := by
  unfold spend; simp only [h, setEntry_same]

/-- A job that ends keeps its status, DETAIL and output (R165). -/
theorem endJob_ends {e : Nat} {x : Entry} (st : Status) (detail : Nat) (out : Bytes) (late : List ObjId) {s : State}
    (h : entry? s e = some x) :
    EndedWith (endJob e st detail out late s) e st detail (if st = .ok ∨ st = .earlyRead then out else []) := by
  unfold endJob EndedWith
  simp only [h, setEntry_same]
  exact ⟨_, rfl, rfl, rfl, rfl, by simp⟩

end Sys2Proof.Machine
end

