-- ==== Sys2Proof/Laws/Update.lean ====
section
/-!
SUPPORT. The activation record (R588): what is written to flash is what is read back, and a new record is the one in use.
-/
namespace Sys2Proof.Machine

@[simp] theorem leBytes_length (n v : Nat) : (leBytes n v).length = n := by
  induction n generalizing v with
  | zero => rfl
  | succ n ih => simp [leBytes, ih]

theorem leNat_leBytes (n v : Nat) : leNat (leBytes n v) = v % 256 ^ n := by
  induction n generalizing v with
  | zero => simp [leBytes, leNat, Nat.mod_one]
  | succ n ih =>
    show (BitVec.ofNat 8 v).toNat + 256 * leNat (leBytes n (v / 256)) = v % 256 ^ (n + 1)
    have h : v % (256 * 256 ^ n) = v % 256 + 256 * (v / 256 % 256 ^ n) := Nat.mod_mul
    rw [ih, BitVec.toNat_ofNat, show (256 : Nat) ^ (n + 1) = 256 * 256 ^ n from Nat.pow_succ', h]

@[simp] theorem fitBytes_length (n : Nat) (b : Bytes) : (fitBytes n b).length = n := by
  simp only [fitBytes, zeros, List.length_append, List.length_take, List.length_replicate]; omega

theorem fitBytes_self {n : Nat} {b : Bytes} (h : b.length = n) : fitBytes n b = b := by
  subst h; simp [fitBytes, zeros]

@[simp] theorem tabulate_length {α : Type} (n : Nat) (f : Nat → α) : (tabulate n f).length = n := by simp [tabulate]

@[simp] theorem primOut_length (f : Prim) (a : List Bytes) (n : Nat) : (primOut f a n).length = n := by simp [primOut]

/-- Bytes before the place are passed over. -/
theorem slice_skip {p b : Bytes} {n off len : Nat} (h : p.length = n) : slice (p ++ b) (n + off) len = slice b off len := by
  subst h; unfold slice; simp

/-- A byte string that stands at the place is what is there. -/
theorem slice_here {q b : Bytes} {len : Nat} (h : q.length = len) : slice (q ++ b) 0 len = q := by
  subst h; unfold slice fitBytes; simp [zeros]

/-- One byte of a string. -/
theorem byteAt_getD (b : Bytes) (i : Nat) : byteAt b i = (b.getD i 0).toNat := by
  unfold byteAt field slice fitBytes
  rcases h : b.drop i with _ | ⟨x, r⟩
  · have hi : b.length ≤ i := List.drop_eq_nil_iff.mp h
    simp [leNat, zeros, List.getD, List.getElem?_eq_none hi]
  · have hx : b[i]? = some x := by have e := List.getElem?_drop (xs := b) (i := i) (j := 0); rw [h] at e; exact e.symm
    simp [leNat, zeros, List.getD, hx]

/-- The record as its fields' widths hold it. -/
def ActRec.held (r : ActRec) : ActRec :=
  { r with seq := r.seq % 2 ^ 32, state := r.state % 256, step := r.step % 256, staged := r.staged % 2 ^ 32,
           activateAt := r.activateAt % 2 ^ 64, hash := fitBytes 48 r.hash,
           secver := tabulate 10 (fun i => r.secver.getD i 0 % 256) }

theorem recBody_length (r : ActRec) : (recBody r).length = 96 := by simp [recBody, zeros]

/-- The record's fields, in the order of their places. -/
theorem recBytes_eq (r : ActRec) : recBytes r = [0x5A, 0x4B, 0x41, 0x43] ++ (leBytes 4 r.seq ++ (leBytes 1 r.state ++ (leBytes 1 r.step ++
    (leBytes 1 (b2n r.activeBad) ++ (zeros 1 ++ (leBytes 4 r.staged ++ (leBytes 8 r.activateAt ++ (fitBytes 48 r.hash ++
    (tabulate 10 (fun i => BitVec.ofNat 8 (r.secver.getD i 0)) ++ (zeros 14 ++ sha3_256 (recBody r))))))))))) := by
  unfold recBytes
  generalize sha3_256 (recBody r) = z
  simp only [recBody, List.append_assoc]

/-- What a copy of the record is written as is read back (R588). -/
theorem readRec_recBytes (r : ActRec) : readRec (recBytes r) = some r.held := by
  have hl : (recBytes r).length = 128 := by simp [recBytes, recBody_length, sha3_256]
  have ht : (recBytes r).take 96 = recBody r := by simp [recBytes, ← recBody_length r]
  have hd : (recBytes r).drop 96 = sha3_256 (recBody r) := by simp [recBytes, ← recBody_length r]
  have hm : (recBytes r).take 4 = [0x5A, 0x4B, 0x41, 0x43] := by rw [recBytes_eq]; rfl
  have h0 : ([0x5A, 0x4B, 0x41, 0x43] : Bytes).length = 4 := rfl
  have z1 : (zeros 1).length = 1 := rfl
  have e1 : field (recBytes r) (4 + 0) 4 = r.seq % 2 ^ 32 := by
    rw [recBytes_eq, field, slice_skip h0, slice_here (leBytes_length _ _), leNat_leBytes] <;> rfl
  have e2 : field (recBytes r) (4 + (4 + 0)) 1 = r.state % 256 := by
    rw [recBytes_eq, field, slice_skip h0, slice_skip (leBytes_length _ _), slice_here (leBytes_length _ _), leNat_leBytes] <;> rfl
  have e3 : field (recBytes r) (4 + (4 + (1 + 0))) 1 = r.step % 256 := by
    rw [recBytes_eq, field, slice_skip h0, slice_skip (leBytes_length _ _), slice_skip (leBytes_length _ _),
      slice_here (leBytes_length _ _), leNat_leBytes] <;> rfl
  have e4 : bit (field (recBytes r) (4 + (4 + (1 + (1 + 0)))) 1) 0 = r.activeBad := by
    rw [recBytes_eq, field, slice_skip h0, slice_skip (leBytes_length _ _), slice_skip (leBytes_length _ _),
      slice_skip (leBytes_length _ _), slice_here (leBytes_length _ _), leNat_leBytes]
    cases r.activeBad <;> rfl
  have e5 : field (recBytes r) (4 + (4 + (1 + (1 + (1 + (1 + 0)))))) 4 = r.staged % 2 ^ 32 := by
    rw [recBytes_eq, field, slice_skip h0, slice_skip (leBytes_length _ _), slice_skip (leBytes_length _ _),
      slice_skip (leBytes_length _ _), slice_skip (leBytes_length _ _), slice_skip z1, slice_here (leBytes_length _ _), leNat_leBytes] <;> rfl
  have e6 : field (recBytes r) (4 + (4 + (1 + (1 + (1 + (1 + (4 + 0))))))) 8 = r.activateAt % 2 ^ 64 := by
    rw [recBytes_eq, field, slice_skip h0, slice_skip (leBytes_length _ _), slice_skip (leBytes_length _ _),
      slice_skip (leBytes_length _ _), slice_skip (leBytes_length _ _), slice_skip z1, slice_skip (leBytes_length _ _),
      slice_here (leBytes_length _ _), leNat_leBytes] <;> rfl
  have e7 : slice (recBytes r) (4 + (4 + (1 + (1 + (1 + (1 + (4 + (8 + 0)))))))) 48 = fitBytes 48 r.hash := by
    rw [recBytes_eq, slice_skip h0, slice_skip (leBytes_length _ _), slice_skip (leBytes_length _ _),
      slice_skip (leBytes_length _ _), slice_skip (leBytes_length _ _), slice_skip z1, slice_skip (leBytes_length _ _),
      slice_skip (leBytes_length _ _), slice_here (fitBytes_length _ _)]
  have e8 : ∀ i, i < 10 → byteAt (recBytes r) (72 + i) = r.secver.getD i 0 % 256 := by
    intro i hi
    have h : byteAt (recBytes r) (4 + (4 + (1 + (1 + (1 + (1 + (4 + (8 + (48 + i))))))))) =
        byteAt (tabulate 10 (fun i => BitVec.ofNat 8 (r.secver.getD i 0)) ++ (zeros 14 ++ sha3_256 (recBody r))) i := by
      rw [recBytes_eq, byteAt, field, slice_skip h0, slice_skip (leBytes_length _ _), slice_skip (leBytes_length _ _),
        slice_skip (leBytes_length _ _), slice_skip (leBytes_length _ _), slice_skip z1, slice_skip (leBytes_length _ _),
        slice_skip (leBytes_length _ _), slice_skip (fitBytes_length _ _)]; rfl
    rw [show 72 + i = 4 + (4 + (1 + (1 + (1 + (1 + (4 + (8 + (48 + i)))))))) by omega, h, byteAt_getD]
    simp [tabulate, List.getD, List.getElem?_append, hi]
  unfold readRec
  rw [if_pos ⟨hl, hm, by rw [hd, ht]⟩]
  refine congrArg some ?_
  unfold ActRec.held
  rw [ActRec.mk.injEq]
  exact ⟨e1, e2, e3, e4, e5, e6, e7, List.map_congr_left (fun i hi => e8 i (List.mem_range.mp hi))⟩

/-- The record in use, each of its fields within its width, after a write: the one written, with the next SEQ (R588). -/
theorem actRec_putRec (f : ActRec → ActRec) (s : State) (h : (actRec s).seq + 1 < 2 ^ 32) :
    actRec (putRec f s) = ({ f (actRec s) with seq := (actRec s).seq + 1 } : ActRec).held := by
  have hs : ({ f (actRec s) with seq := (actRec s).seq + 1 } : ActRec).held.seq = (actRec s).seq + 1 := Nat.mod_eq_of_lt h
  generalize hw : ({ f (actRec s) with seq := (actRec s).seq + 1 } : ActRec) = w at hs
  have hp : (putRec f s).upd = if (match readRec s.upd.recA, readRec s.upd.recB with
      | none, _ => true
      | some a, some b => decide (a.seq ≤ b.seq)
      | some _, none => false) = true then { s.upd with recA := recBytes w } else { s.upd with recB := recBytes w } := by
    subst hw; rfl
  have hr : (readRec (recBytes w)) = some w.held := readRec_recBytes w
  unfold actRec at hs ⊢
  rw [hp]
  rcases ha : readRec s.upd.recA with _ | a <;> rcases hb : readRec s.upd.recB with _ | b <;> rw [ha, hb] at hs <;> dsimp only at hs ⊢
  · rw [if_pos rfl, hr, hb]
  · rw [if_pos rfl, hr, hb]; exact if_neg (by omega)
  · rw [if_neg (by decide), hr, ha]; exact if_pos (by omega)
  · by_cases hc : a.seq ≤ b.seq
    · rw [if_pos hc] at hs
      rw [if_pos (decide_eq_true hc), hr, hb]; exact if_neg (by omega)
    · rw [if_neg hc] at hs
      rw [if_neg (by simpa using hc), hr, ha]; exact if_pos (by omega)

/-- UPD_STATE after a change of it. -/
theorem updState_setUpd {v : Nat} {s : State} (h : (actRec s).seq + 1 < 2 ^ 32) (hv : v < 256) : updState (setUpd v s) = v := by
  unfold updState setUpd; rw [actRec_putRec _ _ h]; exact Nat.mod_eq_of_lt hv

end Sys2Proof.Machine
end

