-- ==== Sys2Proof/Machine/Pins.lean ====
section
/-!
DEFINITION. What the device's output and bidirectional pins show (R655, R656): in reset, without VDD_IO18, under EXTEST, and where the
state says it, in service.
-/
namespace Sys2Proof.Machine

/-- The pins of R655 that the device can drive. -/
inductive Pin where
  | peTx | spTx (port : Nat) | flCk | flCsN | flResetN | flDq | mgTx | mgMdc | mgMdio | pmBus | cdClk | cdRstN | cdVccEn | cdIo | tdo
  | gpio (i : Nat) | alarmN | ledReady | ledAlarm | ledCard | meshDrv
deriving DecidableEq, Repr

/-- What a pin shows: unpowered, a diode to VSS (R656); the serdes' electrical idle; an input; released or high impedance; low; high; low at
so many Hz; what the boundary register shifts into it; what its function drives. -/
inductive PinLevel where
  | unpowered | idle | input | released | low | high | blink (hz : Nat) | boundary | function
deriving DecidableEq, Repr

/-- A pin's state in reset (R655). -/
def resetLevel (s : State) : Pin → PinLevel
  | .peTx => .idle
  | .spTx _ => .idle
  | .flCk => .low
  | .flCsN => .high
  | .flResetN => if s.rec_.resetLow then .low else .function
  | .flDq => .input
  | .mgTx => .low
  | .mgMdc => .low
  | .mgMdio => .input
  | .pmBus => .released
  | .cdClk => .low
  | .cdRstN => .low
  | .cdVccEn => .low
  | .cdIo => .low
  | .tdo => .released
  | .gpio _ => .input
  | .alarmN => if alarmLow s then .low else .released
  | .ledReady => .blink 1
  | .ledAlarm => .released
  | .ledCard => .released
  | .meshDrv => .function

/-- An LED's open-drain pin, active low. -/
def ledLevel : Led → PinLevel
  | .off => .released
  | .on => .low
  | .blink hz => .blink hz

/-- A pin in service: GPIO by ID_GPIO_DIR and ID_GPIO_OUT (R672), the card's pins by its contacts (R669), a port's lanes by its state
(R393), ALARM_N and the LEDs by R557 and R558. -/
def servingLevel (s : State) : Pin → PinLevel
  | .spTx p => if (port s p).st = .down then .idle else .function
  | .gpio i => if bit (objVal s Obj.ID_GPIO_DIR) i then (if bit (objVal s Obj.ID_GPIO_OUT) i then .high else .low) else .input
  | .cdClk => if s.tmp.card.seated then .function else .low
  | .cdRstN => if s.tmp.card.seated then .function else .low
  | .cdVccEn => if s.tmp.card.seated then .function else .low
  | .cdIo => if s.tmp.card.seated then .function else .low
  | .ledReady => ledLevel (ledReady s)
  | .ledAlarm => ledLevel (ledAlarm s)
  | .ledCard => ledLevel (ledCard s)
  | .alarmN => if alarmLow s then .low else .released
  | _ => .function

/-- The supply of the pin is VDD_IO18 (R655). -/
def onIo18 : Pin → Bool
  | .peTx => false
  | .spTx _ => false
  | .meshDrv => false
  | _ => true

/-- The boundary register covers the pin (R578). -/
def inBoundary : Pin → Bool
  | .cdClk => false
  | .cdRstN => false
  | .cdVccEn => false
  | .cdIo => false
  | .tdo => false
  | p => onIo18 p

/-- "In reset" (R655): power-on reset, RESET_N low, and until cast-on configures what owns the pins. -/
def inReset (s : State) : Bool := !s.pwr.supplies || s.rec_.resetLow || decide (s.upd.phase = 0)

/-- What a pin shows. -/
def pinLevel (s : State) (p : Pin) : PinLevel :=
  if s.tmp.onCell && onIo18 p then .unpowered
  else if s.lc.extest && inBoundary p then .boundary
  else if inReset s then resetLevel s p
  else servingLevel s p

end Sys2Proof.Machine
end

