-- ==== Sys2Proof/Tests/Slice0.lean ====
section
/-!
SUPPORT. Small tests of the model, and for each statement of Obligations.lean that has hypotheses a state and operands that meet
them, clause by clause (`witness_<statement>`).
-/
namespace Sys2Proof.Tests
open Sys2Proof Sys2Proof.Machine

/-! ### States -/

/-- A region rule that covers every memory and allows every kind of access. -/
abbrev anyRule : Nat := 2 ^ 63 + 2 ^ 61 + 2 ^ 60 + 2 ^ 59 + 0xFFFFFF * 2 ^ 32

/-- A block that has reached DEVICE_READY (R595): supplies in range, phase 7; each class of masters has that one rule. -/
def ready : State :=
  { State.reset with upd := { State.reset.upd with phase := 7 }, pwr := { State.reset.pwr with supplies := true },
                     iso := { State.reset.iso with rules := tabulate 8 (fun c => (64 * c, anyRule)) } }

/-- The dictionary server reaches the record that the object reports, if it reports one. -/
def recOpen (s : State) (id : ObjId) : Bool :=
  match recordOf id with
  | none => true
  | some r => decide (enabledRules s 3 = [anyRule]) && decide (recTag s r = 0x0002)

theorem not_refused {s : State} {id : ObjId} (len kind : Nat) (h : recOpen s id = true) (hk : kind = 1 ∨ kind = 2) :
    serverRefused s id len kind = none := by
  cases hr : recordOf id with
  | none => simp [serverRefused, hr]
  | some r =>
    simp only [recOpen, hr, Bool.and_eq_true, decide_eq_true_eq] at h
    refine serverRefused_open h.1 (by decide) (by decide) ?_ (fun q hq => ?_)
    · rcases hk with rfl | rfl <;> decide
    · rw [hr] at hq; cases hq; exact h.2

/-- The ring manager reaches the pair's state. -/
def ringReach (s : State) (p : Nat) : Bool := decide (enabledRules s 2 = [anyRule]) && decide (recTag s (.ring p) = 0x0002)

theorem ring_reached {s : State} {p : Nat} (len kind : Nat) (h : ringReach s p = true) (hk : kind = 1 ∨ kind = 2) :
    checkRec s (.ring p) (ringAccess p len kind) = none := by
  simp only [ringReach, Bool.and_eq_true, decide_eq_true_eq] at h
  have ha : ruleAllows anyRule kind = true := by rcases hk with rfl | rfl <;> decide
  have hc := checkRec_open (r := .ring p) (master := 0) (len := len) (ring := p) (entry := 0xFFFFFFFF) (by decide) h.1 (by decide)
    (by decide) ha
  rw [h.2] at hc
  exact hc

/-- Deciding, as a Bool. -/
def decidingB (c : Caller) (id : ObjId) (data : Bytes) (r : WriteRule) (s : State) : Bool :=
  let t := begun c id data s
  serverUp s && match accessor s ⟨c, .write, id, data⟩ with
  | none => false
  | some w => decide (writeChecks t w id data r = none) &&
      (!r.critical || decide (c = .supervisor) || (!(fromWindow c) && lastApproval t id data w.approver)) &&
      ((r.critical && decide (c ≠ .supervisor) && actPending t id data) || (r.first t).2) &&
      recOpen (actedOn c id data r s) id && decide (r.recheck (actedOn c id data r s) = none)

theorem deciding_of {c : Caller} {id : ObjId} {data : Bytes} {r : WriteRule} {s : State} (h : decidingB c id data r s = true) :
    Deciding c id data r s := by
  unfold decidingB at h
  unfold Deciding Turn
  dsimp only at h ⊢
  cases hw : accessor s ⟨c, .write, id, data⟩ with
  | none => rw [hw] at h; simp at h
  | some w =>
    rw [hw] at h
    simp only [Bool.and_eq_true, Bool.or_eq_true, decide_eq_true_eq, Bool.not_eq_true'] at h
    obtain ⟨h1, ⟨⟨⟨h2, h3⟩, h4⟩, h5⟩, h6⟩ := h
    refine ⟨w, ⟨h1, rfl⟩, h2, fun hc => ?_, ?_, not_refused _ _ h5 (.inr rfl), h6⟩
    · rcases h3 with (h3 | h3) | h3
      · rw [hc] at h3; cases h3
      · exact .inl h3
      · exact .inr h3
    · rcases h4 with ⟨⟨a, b⟩, d⟩ | h4
      · exact .inl ⟨a, b, d⟩
      · exact .inr h4

/-- The same with these object values. -/
def withObjs (l : List (ObjId × Nat)) (s : State) : State :=
  { s with dict := { s.dict with obj := l.foldl (fun t p => tset objDefault t p.1 p.2) s.dict.obj } }

/-- The same with this window. -/
def withWin (f : Window → Window) (s : State) : State := { s with dict := { s.dict with win := f s.dict.win } }

/-- A session with the roles OPERATOR and OFFICER of principal 3. -/
def aSession : Session :=
  { id := 7, principal := 3, roles := 6, tenant := 0, peer := 0x0A000001, port := 5000, seqIn := 2, seqOut := 2,
    lastReq := none, unanswered := 0, lastAt := 0, openedAt := 0, st := CallerSt.empty, changed := [], sentAt := [] }

/-- `ready` with that session in slot 0. -/
def inSession : State :=
  { ready with dict := { ready.dict with sessions := [(0, aSession)] } }

/-- The same with UPD_STATE v in the activation record. -/
def inUpd (v : Nat) (s : State) : State :=
  { s with upd := { s.upd with recA := recBytes { ActRec.blank with state := v }, recB := [] } }

theorem actRec_inUpd (v : Nat) (s : State) : actRec (inUpd v s) = ({ ActRec.blank with state := v } : ActRec).held := by
  have hb : readRec [] = none := rfl
  unfold actRec inUpd
  dsimp only
  rw [readRec_recBytes, hb]

theorem updState_inUpd {v : Nat} (h : v < 256) (s : State) : updState (inUpd v s) = v := by
  unfold updState; rw [actRec_inUpd]; exact Nat.mod_eq_of_lt h

theorem seq_inUpd (v : Nat) (s : State) : (actRec (inUpd v s)).seq = 0 := by rw [actRec_inUpd]; rfl

/-- An access that waits. -/
def aRead (c : Caller) (obj : ObjId) : AccessReq :=
  { caller := c, roles := 6, tenant := 0, approver := 0, op := .read, obj := obj, offset := 0, total := 0, len := 0, data := [] }

/-- What an application finds. -/
def anEnv : ApplyEnv := { flashOk := true, bistPass := true, mdioErrs := 0, gpio := 0, gauge := { slack := [], dividers := [], years := 0 } }

/-- A descriptor of this opcode, else zero. -/
def aDesc (opcode : Nat) : Desc :=
  { opcode := opcode, pset := 1, ctrl := 0, key := 1, key2 := 0, userTag := 0, segs := [], outLen := 0, outAddr := 0, aux := 0,
    aux2 := 0, totalLen := 0, subIndex := 0, entries := 1 }

/-- An admitted job of tenant 0's pair. -/
def aJob (opcode : Nat) (phase : Phase) : Entry :=
  { origin := .ring 0, colour := 0x1000, prio := 0, serial := 0, desc := aDesc opcode, pages := [], inPages := 0, outPages := 0,
    stream := [], phase := phase, slice := 0, startedAt := 0, segAt := 0, progress := 0, segsSince := 0, cycles := 0,
    keyChecked := false, target := none, lksTarget := none, tag := [], endedAt := 0, status := .ok, detail := 0, output := [], scrub := 0, late := [] }

/-- The same with entry 8191 holding this job. -/
def withJob (x : Entry) (s : State) : State := setEntry 8191 x s

/-- The same with this pair record. -/
def withPair (p : Nat) (f : Pair → Pair) (s : State) : State := setPair p (f (pair s p)) s

/-- A key of tenant 0: private or public, ACTIVE, of this algorithm, parameter set and usage. -/
def aKey (alg pset usage : Nat) (pub : Bool) : Slot :=
  { owner := 0x1000, alg := alg, pset := pset, usage := usage, st := .active, persist := false, isPublic := pub, stateful := false,
    origin := 1, base := 0, units := 1, expiry := 0, seed := 0, accesses := 0, refreshedAt := 0, retiredAt := none, data := [],
    pub := [] }

/-- The random source runs, slice 35 is seeded and in the colour of tenant 0, the tenant has quotas, and slot 1 holds this key. -/
def keyed (v : Slot) : State :=
  let s := withObjs [(at_ Obj.TENANT_STATE 0, 1), (Obj.PKE_SS_CLEAR, 1), (at_ Obj.TENANT_QUOTA_KREG 0, 1000),
    (at_ Obj.TENANT_QUOTA_LKS 0, 1000)] ready
  { s with rng := { s.rng with st := .ready }, kreg := { s.kreg with slots := [(1, v)] },
           pke := { s.pke with slices := [(35, { Slice.reset with seeded := true, colour := 0x1000 })] } }

/-- A running job of this opcode and parameter set on slice 35, its input streamed. -/
def aRun (opcode pset aux : Nat) (input : Bytes) : Entry :=
  { aJob opcode (.running 35) with desc := { aDesc opcode with pset := pset, aux := aux, outLen := 8192, key2 := 1 }, stream := input }

theorem onSlice_run (opcode pset aux : Nat) (input : Bytes) (s : State) :
    OnSlice 8191 opcode 35 (aRun opcode pset aux input) (withJob (aRun opcode pset aux input) s) := ⟨setEntry_same _ _ _, rfl, rfl⟩


theorem witness_ObjectWrite :
    (let id := Obj.DICT_OAP_PORT
     let w : Who := { caller := .supervisor, roles := rSUPERVISOR, tenant := 0, approver := 0 }
     id / 256 * 256 + id % 256 % 256 = id ∧ id ≠ Obj.UPD_STAGE_CHUNK ∧
     decidingB .supervisor id [0x34, 0x12] (writeRule anEnv w id [0x34, 0x12] ready) ready = true ∧
     serverUp ready = true ∧ accessor ready ⟨.supervisor, .write, id, [0x34, 0x12]⟩ = some w ∧
     (findObj id).isSome = true ∧ keysRise ready.dict.obj = true) := by decide

theorem witness_CheckOrder :
    (let w : Who := { caller := .window, roles := rOPERATOR, tenant := 0, approver := 0 }
     serverUp ready = true ∧ accessor ready ⟨.window, .write, Obj.LC_STATE, [0]⟩ = some w ∧
     writeChecks (begun .window Obj.LC_STATE [0] ready) w Obj.LC_STATE [0] (plainRule Obj.LC_STATE [0]) = some .notPermitted) ∧
    (findObj Obj.LC_STATE).isSome = true := by decide

theorem witness_DictionaryCommands :
    decidingB .window Obj.DICT_STORE [1] (storeRule ready) ready = true ∧
    decidingB .supervisor Obj.DICT_RESTORE_DEFAULTS [1] restoreRule ready = true ∧
    decidingB .window Obj.DICT_DESCRIBE [0, 0, 3, 0] (describeRule { caller := .window, roles := rOPERATOR, tenant := 0, approver := 0 }
      [0, 0, 3, 0]) ready = true ∧
    accessor ready ⟨.window, .write, Obj.DICT_DESCRIBE, [0, 0, 3, 0]⟩ =
      some { caller := .window, roles := rOPERATOR, tenant := 0, approver := 0 } ∧
    decidingB .supervisor Obj.DICT_OAP_LOCK [1] (cmdRule (lockObjs [Obj.DICT_OAP_PORT])) ready = true ∧
    decidingB .supervisor Obj.DICT_OAP_ENABLE [0] (oapEnableRule [0]) ready = true ∧
    (∀ sub ∈ [1, 2, 3, 4], ∃ d ∈ [[1], [0, 0], List.replicate 32 1],
      decidingB .supervisor (prnObj 31 sub) d (principalRule 31 sub d ready) ready = true) ∧
    decidingB .supervisor (0x11000 + 2) [1] (phyRule 2 0 [1] ready) ready = true ∧
    decidingB .supervisor (0x11000 + 7) [1, 0] (phyRule 7 0 [1, 0] ready) ready = true := by decide

theorem witness_SettingsStore :
    keysRise ready.dict.obj = true ∧
    (let j : StoreJob := { area := [], seq := 1, startedAt := 0 }
     let s : State := { ready with dict := { ready.dict with store := some j } }
     keysRise s.dict.obj = true ∧ s.now < j.startedAt + sec 10 ∧ j.area.length ≤ cfgBytes ∧
     j.startedAt + sec 10 ≤ ({ s with now := sec 10 } : State).now) ∧
    (let a : AccessCmd := ⟨.window, .read, Obj.DICT_STORE_STATE, []⟩
     let w : Who := { caller := .window, roles := rOPERATOR, tenant := 0, approver := 0 }
     serverUp ready = true ∧ accessor ready a = some w ∧ readCheck (takeReq a ready) w Obj.DICT_STORE_STATE = none ∧
     (takeReq a ready).dict.storeFailReport = false ∧
     (takeReq a { ready with dict := { ready.dict with storeFailReport := true } }).dict.storeFailReport = true) := by decide

theorem witness_SettingsStore_trial :
    (let s := inUpd uTRIAL ready
     let w : Who := { caller := .window, roles := rOPERATOR, tenant := 0, approver := 0 }
     Turn .window Obj.DICT_STORE [1] w s ∧ onTrial s = true ∧ writeCheck (begun .window Obj.DICT_STORE [1] s) w Obj.DICT_STORE = none) :=
  ⟨⟨by decide, by decide⟩, by unfold onTrial; rw [updState_inUpd (by decide)]; rfl, by decide⟩

/-- A critical act pends, first approved at 0. -/
def actWaits : State :=
  { inSession with tmp := { inSession.tmp with act := some { obj := Obj.DICT_RESTORE_DEFAULTS, data := [1], approvers := [9], firstAt := 0 } } }

theorem witness_CriticalActs :
    (let w : Who := { caller := .session 0 7, roles := 6, tenant := 0, approver := 0 }
     let s := withObjs [(Obj.TMP_QUORUM_K, 3)] inSession
     let t := begun (.session 0 7) Obj.DICT_RESTORE_DEFAULTS [1] s
     accessor s ⟨.session 0 7, .write, Obj.DICT_RESTORE_DEFAULTS, [1]⟩ = some w ∧ serverUp s = true ∧
     writeChecks t w Obj.DICT_RESTORE_DEFAULTS [1] restoreRule = none ∧ restoreRule.critical = true ∧
     lastApproval t Obj.DICT_RESTORE_DEFAULTS [1] 0 = false) ∧
    (let s := withObjs [(Obj.TMP_QUORUM_K, 3)] actWaits
     let t := begun (.session 0 7) Obj.DICT_RESTORE_DEFAULTS [1] s
     lastApproval t Obj.DICT_RESTORE_DEFAULTS [1] 0 = false ∧ actPending t Obj.DICT_RESTORE_DEFAULTS [1] = true) ∧
    (let s : State := { ready with tmp := { ready.tmp with card := { ready.tmp.card with session := some 15 } },
                                   rng := { ready.rng with st := .ready } }
     let w : Who := { caller := .window, roles := 6, tenant := 0, approver := 0 }
     let t := begun .window Obj.DICT_RESTORE_DEFAULTS [1] s
     serverUp s = true ∧ accessor s ⟨.window, .write, Obj.DICT_RESTORE_DEFAULTS, [1]⟩ = some w ∧
     writeChecks t w Obj.DICT_RESTORE_DEFAULTS [1] restoreRule = none ∧
     t.tmp.card.session.isSome = true ∧ t.tmp.card.step = .none_ ∧ rngReady t = true) ∧
    (let t := begun (.session 0 7) Obj.DICT_RESTORE_DEFAULTS [2] actWaits
     otherAct t Obj.DICT_RESTORE_DEFAULTS [2] = true ∧ actWaits.tmp.act.isSome = true ∧
     writeCheck t { caller := .session 0 7, roles := 6, tenant := 0, approver := 0 } Obj.DICT_RESTORE_DEFAULTS = none) := by
  decide
/-! ### Witnesses: isolation and the management port -/

theorem witness_TenantCommands :
    decidingB .supervisor (at_ Obj.TENANT_CREATE 4095) [1] (createRule 4095 ready) ready = true ∧
    (let s := withObjs [(at_ Obj.TENANT_STATE 4095, 1)] ready
     decidingB .supervisor (at_ Obj.TENANT_DELETE 4095) [1] (deleteRule 4095 s) s = true ∧
     decidingB .supervisor (at_ Obj.TENANT_FENCE 4095) [1] (fenceRule 4095 (operatorFence 4095) s) s = true ∧
     objVal s (at_ Obj.TENANT_STATE 4095) ≠ 0 ∧ objVal s (at_ Obj.TENANT_STATE 4095) ≠ 4 ∧ s.lc.debugOpen = false ∧
     serverUp s = true ∧ accessor s ⟨.supervisor, .write, at_ Obj.TENANT_CREATE 4095, [1]⟩ =
       some { caller := .supervisor, roles := rSUPERVISOR, tenant := 0, approver := 0 } ∧
     writeCheck (begun .supervisor (at_ Obj.TENANT_CREATE 4095) [1] s) { caller := .supervisor, roles := rSUPERVISOR, tenant := 0, approver := 0 }
       (at_ Obj.TENANT_CREATE 4095) = none ∧ tenantState s 4095 ≠ 2) ∧
    (let s := withObjs [(at_ Obj.TENANT_STATE 4095, 2)] ready
     decidingB .supervisor (at_ Obj.TENANT_FENCE 4095) [0] (fenceRule 4095 (unfenceTenant 4095) s) s = true ∧
     tenantState s 4095 = 2 ∧ keysRise s.dict.obj = true ∧ keysRise s.iso.refusedAt = true ∧ keysRise s.ring.pairs = true) ∧
    (∀ sub ∈ [16, 22], ∃ d ∈ [[1], [1, 0], [1, 0, 0, 0]],
      decidingB .supervisor ((0x2000 + 4095) * 256 + sub) d (tenantRule 4095 ((0x2000 + 4095) * 256 + sub) d ready) ready = true) ∧
    decidingB .supervisor Obj.ISO_RULE_COMMIT [8] (commitRule [8] ready) ready = true ∧
    decidingB .supervisor Obj.ISO_TAG_QUERY [0, 0, 0, 0] (portRule (fun t => setObj Obj.ISO_TAG_RESULT (shownTag t 0) t)) ready = true := by
  decide

theorem witness_RuleCommit : keysRise ready.iso.rules = true ∧ keysRise ready.dict.obj = true ∧ (63 : Nat) < 64 ∧
    ruleRefused { ready with iso := { ready.iso with shadow := [(63, 2 ^ 63 + 5)] } } 0 63 = true := by decide

/-- One enabled rule of class 0 that lets reads of all of memory through, and granule 5 tagged 0x1000. -/
def ruled : State :=
  { ready with iso := { ready.iso with rules := [(0, 2 ^ 63 + 2 ^ 61 + 2 ^ 55)], tags := [(5, 0x1000)] } }

theorem witness_AccessChecked : checkAccess ruled
    { cls := 0, master := 0, colour := 0x1000, addr := 5 * 256 + 255, len := 1, kind := 1, ring := 0, entry := 0 } = none := by decide

theorem witness_RefusalsAndRetags :
    keysRise ready.dict.obj = true ∧ ready.iso.log.length ≤ 1024 ∧ objVal ready Obj.ISO_REFUSALS_TOTAL + 1 < 2 ^ 64 ∧
    objVal ready (Obj.ISO_CLASS_REFUSALS + 8) + 1 < 2 ^ 32 ∧ objVal ready (at_ Obj.TENANT_REFUSALS 4095) + 1 < 2 ^ 32 ∧
    Memory.wf ready.iso.mem = true ∧ tabWf (fun _ => 0xFFFF) ready.iso.tags = true ∧ inLks (0xFFFF * 256) = false ∧ inCtx (0xFFFF * 256) = false := by decide

/-- OAP is enabled and `aSession` is open under two keys of zeros. -/
def oapOpen : State :=
  let s := withObjs [(Obj.DICT_OAP_ENABLE, 1)] inSession
  { s with kreg := { s.kreg with working := [(sessIn 0, zeros 32), (sessOut 0, zeros 32)] } }

/-- A datagram with this payload for the port OAP listens on. -/
def aDatagram (b : Bytes) : Datagram :=
  { frame := { length := 1518, fcsOk := true, type_ := 0x86DD }, extHeader := false, checksumOk := true,
    srcAddr := 0xFE80 * 2 ^ 112 + 1, dstAddr := ownAddr ready, srcPort := 5000,
    dstPort := objVal ready Obj.DICT_OAP_PORT, payload := b }

/-- A data message of the open session whose plaintext is 16 zeros (REQ_ID 0, DATA_LEN 0), its tag that of the session's key. -/
def aMessage (type seq : Nat) : Bytes :=
  let c := gcmXor (zeros 32) (oapNonce 7 seq) (zeros 16)
  oapHeader type 0 7 seq 16 ++ c ++ gcmTag (zeros 32) (oapNonce 7 seq) (oapHeader type 0 7 seq 16) c

theorem xor_twice (a k : Bytes) (h : a.length = k.length) : xorBytes (xorBytes a k) k = a := by
  induction a generalizing k with
  | nil => cases k <;> rfl
  | cons x r ih =>
    cases k with
    | nil => cases h
    | cons y q =>
      have := ih q (by simpa using h)
      simp_all [xorBytes, BitVec.xor_assoc]

theorem aMessage_opens : openPayload oapOpen 0 (aMessage 1 3) = zeros 16 :=
  xor_twice (zeros 16) (gcmStream (zeros 32) (oapNonce 7 3) 16) rfl

theorem witness_OapRequests :
    (∀ type ∈ [1, 2, 3, 4], ∀ seq ∈ [3, 2 ^ 64 - 1], oapHears oapOpen (aDatagram (aMessage type seq)) = true ∧
      headerOk (aMessage type seq) = true ∧ omType (aMessage type seq) = type ∧ omSession (aMessage type seq) = 7 ∧
      aSession.seqIn < omSeq (aMessage type seq)) ∧
    (∀ type ∈ [1, 2, 3, 4], omSeq (aMessage type 2) ≤ aSession.seqIn ∧ headerOk (aMessage type 2) = true) ∧
    sessionOf oapOpen 7 = some (0, aSession) ∧ aSession.unanswered < 4 ∧ aSession.lastReq = none ∧ aSession.seqIn ≠ 2 ^ 64 - 1 ∧
    plainFault .read (zeros 16) = none ∧ field (zeros 16) 0 2 = 0 := by
  decide

theorem witness_tag : tagOk oapOpen 0 (aMessage 1 3) = true := decide_eq_true rfl

theorem witness_SessionsClose :
    (∀ seq ∈ [3, 2 ^ 64 - 1], oapHears oapOpen (aDatagram (aMessage 0x24 seq)) = true ∧ headerOk (aMessage 0x24 seq) = true ∧
      omType (aMessage 0x24 seq) = 0x24 ∧ sessionOf oapOpen (omSession (aMessage 0x24 seq)) = some (0, aSession) ∧
      aSession.seqIn < omSeq (aMessage 0x24 seq)) ∧
    mget? oapOpen.dict.sessions 0 = some aSession ∧ keysRise oapOpen.dict.sessions = true ∧ keysRise oapOpen.kreg.working = true ∧
    (let u := newSetup (aDatagram []) 1 1 0
     let s := putSetup 7 u ready
     mget? s.dict.setups 7 = some u ∧ keysRise s.dict.setups = true ∧ keysRise s.kreg.working = true) := by decide

theorem witness_close_tag : tagOk oapOpen 0 (aMessage 0x24 3) = true := decide_eq_true rfl

/-- A G1 of suite 4 with a zero encapsulation key, and the first of its fragments. -/
def aG1 : Bytes := graftHeader 1 4 1 0 0 ++ zeros 1600
def aFragment : Bytes := leBytes 4 9 ++ [0, 2] ++ leBytes 2 0 ++ aG1.take 1000

/-- A set-up message of one fragment. -/
def aSetupMessage (type sid seq : Nat) : Bytes := oapHeader type 0 sid seq aFragment.length ++ aFragment

/-- An active private key of colour 0x0002 for ML-DSA-87 signatures. -/
def aSlot : Slot :=
  { owner := 0x0002, alg := 2, pset := 3, usage := uSIGN, st := .active, persist := false, isPublic := false, stateful := false,
    origin := 1, base := 0, units := 1, expiry := 0, seed := 0, accesses := 0, refreshedAt := 0, retiredAt := none, data := [], pub := [] }

/-- The patches of the four slice classes are in effect, so no unit of theirs is missing. -/
def patched (s : State) : State :=
  withObjs [(Obj.PKE_PATCH_STATE, 1), (Obj.PKE_PATCH_STATE + 1, 1), (Obj.PKE_PATCH_STATE + 2, 1), (Obj.PKE_PATCH_STATE + 3, 1)] s

/-- The block answers a G1: the random source runs, the patches are in effect, slot 1 can sign, and set-up 7 has a secret;
principal 31 is enrolled. -/
def answering : State :=
  let s := withObjs [(Obj.GR_MG_SIG_DSA87, 1), (Obj.DICT_OAP_ENABLE, 1), (at_ Obj.DICT_PRN_KEY_ID 31, 5),
    (at_ Obj.DICT_PRN_SUITE 31, 4)] (patched ready)
  { s with rng := { s.rng with st := .ready }, kreg := { s.kreg with slots := [(1, aSlot)], working := [(setupSecret 7, [])] },
           dict := { s.dict with setups := [(7, newSetup (aDatagram []) 1 1 0)] } }

/-- A digest unit reaches the record for the firmware's hashing. -/
theorem hash_reached {s : State} {colour : Nat} {r : CtxRec} (hu : (leastUnit? s).isSome = true) (hr : enabledRules s 5 = [anyRule])
    (ht : recTag s r = colour) : HashReach s colour r := by
  obtain ⟨u, hu⟩ := Option.isSome_iff_exists.mp hu
  exact ⟨u, hu, ht ▸ checkRec_open (by decide) hr (by decide) (by decide) (by decide)⟩

theorem unitMissing_patched {s : State} {o c : Nat} (hc : opClass o = some c) (hf : classFenced s c = false)
    (hp : objVal s (Obj.PKE_PATCH_STATE + c) = 1) (h8 : o / 256 ≠ 8) : unitMissing s o = false := by
  simp [unitMissing, hc, hf, hp, h8]

set_option maxRecDepth 20000 in
theorem witness_SessionSetUp :
    (oapHears answering (aDatagram (aSetupMessage 0x21 0 1)) = true ∧ headerOk (aSetupMessage 0x21 0 1) = true ∧
     omType (aSetupMessage 0x21 0 1) = 0x21 ∧ supervisorUp answering = true ∧ omSession (aSetupMessage 0x21 0 1) = 0 ∧
     setupOfG1 answering (aDatagram (aSetupMessage 0x21 0 1)) 9 = none ∧ omSeq (aSetupMessage 0x21 0 1) ≠ 0 ∧
     answering.dict.sessions.length < 8 ∧ mfree? answering.dict.setups 0 8 = some 0 ∧
     fragOk (omPayload (aSetupMessage 0x21 0 1)) = true) ∧
    (holdFrag (newSetup (aDatagram (aSetupMessage 0x21 0 1)) 9 1 0) aFragment).isSome = true ∧
    (gmSuite aG1 = 4 ∧ mgMsgOk 1 4 (g1Len 4) aG1 = true) ∧
    (let x := { newSetup (aDatagram []) 1 1 0 with sessionId := 5 }
     let s := putSetup 7 x answering
     oapHears s (aDatagram (aSetupMessage 0x23 5 2)) = true ∧ headerOk (aSetupMessage 0x23 5 2) = true ∧
     omType (aSetupMessage 0x23 5 2) = 0x23 ∧ supervisorUp s = true ∧ setupOfId s (omSession (aSetupMessage 0x23 5 2)) = some (7, x) ∧
     x.seqIn < omSeq (aSetupMessage 0x23 5 2) ∧ fragOk (omPayload (aSetupMessage 0x23 5 2)) = true) ∧
    mgMsgOk 3 4 (g3Len 4 + pksLen 4) [] = false := by decide

set_option maxRecDepth 20000 in
theorem witness_canRespond : canRespond answering 4 aG1 = true ∧ HashReach answering 0x0002 (.setup 7) := by
  refine ⟨?_, hash_reached (by decide) (by decide) (by decide)⟩
  have h : (mgSteps2 4).all (fun o => !(unitMissing answering o)) = true := by
    simp only [mgSteps2, suCl]
    simp [unitMissing_patched (c := 0) (o := 0x0102) (s := answering) (by decide) (by decide) (by decide) (by decide),
      unitMissing_patched (c := 0) (o := 0x0204) (s := answering) (by decide) (by decide) (by decide) (by decide)]
  unfold canRespond
  rw [h]
  decide

/-- The parts of a G3 of suite 4 before its signature, and the whole message with the CONFIRM that ends it. -/
def g3Header : Bytes := graftHeader 3 4 1 0 0
def g3Start : Bytes := g3Header ++ zeros 2592
def aG3 : Bytes := g3Header ++ (zeros 2592 ++ (zeros 4627 ++ confirmOf [] (th3 aG1 [] g3Start) 4 0 0))

/-- The set-up that waits for it. -/
def waitsForG3 : Setup := { newSetup (aDatagram []) 1 1 0 with sessionId := 5, g1 := aG1 }

theorem zeros_length (n : Nat) : (zeros n).length = n := List.length_replicate

theorem slice_at (p m q : Bytes) (off len : Nat) (hp : p.length = off) (hm : m.length = len) : slice (p ++ (m ++ q)) off len = m := by
  subst hp hm
  simp [slice, fitBytes, zeros]

theorem slice_left (p q : Bytes) (off len : Nat) (h : off + len ≤ p.length) : slice (p ++ q) off len = slice p off len := by
  unfold slice fitBytes
  rw [List.drop_append_of_le_length (by omega), List.take_append_of_le_length (by simp; omega)]
  have h1 : len - (p.drop off).length = 0 := by simp; omega
  have h2 : len - (p.drop off ++ q).length = 0 := by simp; omega
  rw [h1, h2]

theorem aG3_byte (k : Nat) (h : k < 16) : byteAt aG3 k = byteAt g3Header k := by
  unfold byteAt field aG3
  rw [slice_left _ _ _ _ (by show k + 1 ≤ 16; omega)]

theorem aG3_length : aG3.length = g3Len 4 + pksLen 4 := by
  unfold aG3
  rw [List.length_append, List.length_append, List.length_append, zeros_length, zeros_length]
  rfl

/-- Whether the signature verifies and what the hash of the public keys is, the standards say: taken here as premises. -/
theorem witness_g3Ok (hv : dsaOk 3 (zeros 2592) ctxI (th3 aG1 [] g3Start) (zeros 4627) = true)
    (hp : leNat (sha3_256 (zeros 2592)) = 5) :
    (g3Fits 7 answering waitsForG3 aG3 = true ∧ secret? answering (setupSecret 7) = some [] ∧ g3Signed answering waitsForG3 aG3 = true ∧
      g3Confirmed [] waitsForG3 aG3 = true) ∧
    principalOf answering 4 (slice aG3 16 (pksLen 4)) = some 31 ∧ mfree? answering.dict.sessions 0 8 = some 0 ∧
    keysRise answering.kreg.working = true ∧ HashReach answering 0x0002 (.setup 7) ∧ keysRise answering.dig.units = true := by
  have h : (mgSteps3 4).all (fun o => !(unitMissing answering o)) = true := by
    simp [mgSteps3, suCl, unitMissing_patched (c := 0) (o := 0x0205) (s := answering) (by decide) (by decide) (by decide) (by decide)]
  have e2 : slice aG3 16 2592 = zeros 2592 := slice_at _ _ _ _ _ rfl (zeros_length _)
  have e3 : slice aG3 2608 4627 = zeros 4627 := by
    unfold aG3
    rw [← List.append_assoc]
    exact slice_at _ _ _ _ _ (by rw [List.length_append, zeros_length]; rfl) (zeros_length _)
  have e4 : slice aG3 7235 32 = confirmOf [] (th3 aG1 [] g3Start) 4 0 0 := by
    unfold aG3
    rw [← List.append_assoc, ← List.append_assoc, ← List.append_nil (confirmOf _ _ _ _ _)]
    exact slice_at _ _ _ _ _ (by rw [List.length_append, List.length_append, zeros_length, zeros_length]; rfl) rfl
  have e1 : aG3.take 2608 = g3Start := by
    unfold aG3
    rw [← List.append_assoc]
    exact List.take_left' (by rw [List.length_append, zeros_length]; rfl)
  have hx : gmXid aG3 = 0 := by
    unfold gmXid field aG3
    rw [slice_left _ _ _ _ (by show 8 + 8 ≤ 16; omega)]
    decide
  have hl : gmLink aG3 = 0 := by
    unfold gmLink field aG3
    rw [slice_left _ _ _ _ (by show 4 + 4 ≤ 16; omega)]
    decide
  have hz : gmXid aG1 = 0 := by
    unfold gmXid field aG1
    rw [slice_left _ _ _ _ (by show 8 + 8 ≤ 16; omega)]
    decide
  have hy : gmCtl aG1 = 1 := by
    unfold gmCtl byteAt field aG1
    rw [slice_left _ _ _ _ (by show 3 + 1 ≤ 16; omega)]
    decide
  have hc : gmCtl aG3 = 1 := aG3_byte 3 (by omega)
  have hs : gmSuite waitsForG3.g1 = 4 := by
    unfold gmSuite byteAt field waitsForG3 aG1
    rw [slice_left _ _ _ _ (by show 2 + 1 ≤ 16; omega)]
    decide
  have hm : mgMsgOk 3 4 (g3Len 4 + pksLen 4) aG3 = true := by
    unfold mgMsgOk
    rw [hl, hc, show gmType aG3 = 3 from aG3_byte 0 (by omega), show gmSuite aG3 = 4 from aG3_byte 2 (by omega),
      aG3_byte 1 (by omega), aG3_length]
    decide
  refine ⟨⟨?_, rfl, ?_, ?_⟩, ?_, by decide, by decide, hash_reached (by decide) (by decide) (by decide), by decide⟩
  · unfold g3Fits
    dsimp only
    rw [hs, hm, show gmXid waitsForG3.g1 = 0 from hz, show gmCtl waitsForG3.g1 = 1 from hy, hx, hc]
    rfl
  · unfold g3Signed
    dsimp only
    rw [hs, h]
    simp only [show suCl 4 = false by decide, show 16 + pksLen 4 = 2608 by decide, show dsaPk (suKem 4) = 2592 by decide, e1, e2,
      g3SigPq, show sigPqLen 4 = 4627 by decide, e3, Bool.true_and, Bool.not_false, Bool.true_or, Bool.and_true]
    exact hv
  · unfold g3Confirmed
    dsimp only
    rw [hs, show gmXid waitsForG3.g1 = 0 from hz]
    simp only [show 16 + pksLen 4 = 2608 by decide, e1, g3Confirm, show sigPqLen 4 = 4627 by decide, show sigClLen 4 = 0 by decide,
      show 2608 + 4627 + 0 = 7235 by decide, e4, decide_eq_true_eq]
    rfl
  · unfold principalOf
    rw [show pksLen 4 = 2592 by decide, e2, hp]
    decide

theorem witness_PortAnswers :
    portServed ready = true ∧ passes64 (aDatagram [1]) = true ∧ (aDatagram [1]).dstAddr = ownAddr ready ∧
    (let d := aDatagram (linkLocalOf (objBytes ready Obj.ID_MG_MAC))
     passes64 d = true ∧ d.dstAddr = ownAddr ready ∧ d.payload = linkLocalOf (objBytes ready Obj.ID_MG_MAC)) ∧
    (let x : Session := { aSession with changed := [Obj.LC_STATE] }
     let s : State := { inSession with dict := { inSession.dict with sessions := [(0, x)] } }
     let s0 := lookAround s
     let w : Who := { caller := .session 0 0, roles := 6, tenant := 0, approver := 0 }
     mget? s0.dict.sessions 0 = some x ∧ Obj.LC_STATE ∈ x.changed ∧ serverUp s = true ∧
     readCheck { s0 with now := max s0.now (notifyFrom x Obj.LC_STATE) } w Obj.LC_STATE = none ∧
     readCheck { s0 with now := max s0.now (notifyFrom x 0xFFFFFF) } w 0xFFFFFF ≠ none) := by decide
/-! ### Witnesses: rings and the engine -/

/-- Tenant 4095 is ACTIVE and its ring's bases are set. -/
def ringed : State :=
  withObjs [(at_ Obj.TENANT_STATE 4095, 1), (pairObj 4095 Obj.RING_SUB_BASE, 4096), (pairObj 4095 Obj.RING_CPL_BASE, 8192),
    (pairObj 4095 Obj.RING_SIZE, 64), (pairObj 4095 Obj.RING_PREFETCH, 8), (pairObj 4095 Obj.RING_WEIGHT, 1),
    (pairObj 4095 Obj.RING_COAL_DELAY, 1), (pairObj 4095 Obj.RING_IRQ_EN, 1)] ready

/-- Its pair is ACTIVE and holds this entry. -/
def holds (b : Bytes) : State :=
  withPair 4095 (fun x => { x with st := .active, held := [{ index := 0, body := b, at_ := 0 }] }) ringed

/-- A native entry of this opcode, OUT_LEN and AUX, its lap mark 1. -/
def anEntry (opcode outLen aux : Nat) : Bytes := leBytes 2 opcode ++ zeros 26 ++ leBytes 4 outLen ++ zeros 8 ++ leBytes 8 aux ++ zeros 15 ++ [1]

theorem witness_RingCommands :
    decidingB .supervisor (pairObj 4095 Obj.RING_ENABLE) [1] (enableRule 4095 ringed) ringed = true ∧
    decidingB .supervisor (pairObj 4095 Obj.RING_ENABLE) [0] (disableRule 4095 ringed) ringed = true ∧
    (4111 : Nat) < 4112 ∧ keysRise ringed.dict.obj = true ∧ keysRise ringed.ring.pairs = true := by decide

theorem witness_RingPolling :
    (let s := withPair 4095 (fun x => { x with st := .active }) ringed
     mayPoll s 4095 = true ∧ pollSize s 4095 ≠ 0 ∧ pollYields s 4095 = false ∧ ringReach s 4095 = true ∧ validPrefix false true [anEntry 0x0FF1 0 0] ≠ [] ∧
     validPrefix false true [zeros 64] = []) := by decide

/-- An RNG GENERATE of 32 bytes waits at the head of tenant 4095's ring. -/
def asksBytes : State := holds (anEntry 0x0A30 32 0)

set_option maxRecDepth 20000 in
theorem witness_AdmissionTurn :
    (deviceOpen asksBytes = true ∧ isMgmt 4095 = false ∧ eligiblePairs asksBytes true = [] ∧ openTurn asksBytes = none ∧
     turnIn asksBytes (mgmtFirst asksBytes) = some (4095, false) ∧ (takeTurn 4095 asksBytes).isSome = true ∧
     ((takeTurn 4095 asksBytes).any (fun q => ringReach q.2 4095)) = true ∧
     openTurn { asksBytes with ring := { asksBytes.ring with turnTenant := some (4095, 1) } } = some (4095, 1)) ∧
    (let s := withPair 4111 (fun x => { x with st := .active, held := [{ index := 0, body := anEntry 0x0A30 32 0, at_ := 0 }] }) asksBytes
     4111 ∈ eligiblePairs s true ∧ admissible s 4111 = true ∧ turnIn s (mgmtFirst s) = some (4111, false)) ∧
    (let x := pair asksBytes 4095
     let d := jobDesc false (x.held.take 1)
     isLegacy asksBytes 4095 = false ∧ headOf false x.held = .job 1 ∧ (cmdSpec asksBytes (pairColour 4095) false d).isSome = true ∧
     isControl d = false ∧ inBurst asksBytes 4095 0 1 = true ∧
     preChecks false (x.held.take 1) d (cmdSpec asksBytes (pairColour 4095) false d) (some (pageQuota asksBytes 4095)) = none ∧
     roomFor asksBytes 4095 1 = true ∧
     roomFor (withObjs [(at_ Obj.TENANT_QUOTA_ENTRIES 4095, 1)] { asksBytes with ring := { asksBytes.ring with entries :=
       [(0, { aJob 0x0A30 .waiting with origin := .ring 4095 })] } }) 4095 1 = false) ∧
    asksBytes.ring.starving = [] ∧ graftWaits asksBytes = false ∧ (pair asksBytes 4095).st ≠ .stalled ∧ mfree? asksBytes.ring.entries 0 8192 = some 0 := by decide

/-- A job is in this phase in entry 8191. -/
def inPhase (opcode : Nat) (ph : Phase) : State := withJob (aJob opcode ph) ready

set_option maxRecDepth 20000 in
theorem witness_JobFlow :
    (entry? (inPhase 0x0101 .inbound) 8191 = some (aJob 0x0101 .inbound) ∧ (aJob 0x0101 .inbound).phase = .inbound ∧
     36 ∉ (inPhase 0x0101 .inbound).pke.fencedReq) ∧
    (let s := inPhase 0x0101 .waiting
     holding s = false ∧ halted s = false ∧ s.pke.scrubQ = [] ∧ queueHead s 0 = some (8191, aJob 0x0101 .waiting) ∧
     opClass 0x0101 = some 0 ∧ (pickSlice s 0).isSome = true ∧ isPatched s 0 (dispatchEntry 0x0101) = false) ∧
    (let s := inPhase 0x0601 .parked
     queueHead s 2 = some (8191, aJob 0x0601 .parked) ∧ (pickSlice s 2).isSome = true) ∧
    (let x := { aJob 0x0101 .ended with pages := [8191] }
     let s := withJob x ready
     entry? s 8191 = some x ∧ x.phase = .ended ∧ x.origin = .ring 0 ∧ outputHeld s x = false ∧ keysRise s.ring.entries = true ∧
     keysRise s.iso.tags = true ∧ s.ring.internalWait = [] ∧ ∀ q ∈ x.pages, q < 8192) := by decide

theorem witness_CompletionRecord : keysRise ringed.ring.pairs = true := by decide

theorem witness_RingEvents :
    (let s := withPair 4095 (fun x => { x with pageWait := some 5, unsignalledAt := some 7, unsignalled := 1, coalDelay := 1, st := .active }) ringed
     (pair s 4095).pageWait = some 5 ∧ isMgmt 4095 = false ∧ 4095 ∉ s.ring.starving ∧ (pair s 4095).unsignalledAt = some 7 ∧
     (pair s 4095).coalDelay ≠ 0 ∧ pairMakes s 4095 .poll = true ∧
     (pair s 4095).st ≠ .disabled ∧ keysRise s.ring.pairs = true) ∧
    pairMakes (withJob (aJob 0x0101 .inbound) (withPair 0 (fun x => { x with st := .active }) ready)) 0 (.input 8191) = true ∧
    (controlTurn (holds (anEntry 0x0FF1 0 0)) 4095 0x0FF1).any (fun q => ringReach q.2.2.2 4095) = true ∧
    (controlTurn (holds (anEntry 0x0FF0 0 4095)) 4095 0x0FF0).map (fun q => bits q.1.aux 15 0) = some 4095 ∧
    (controlTurn (holds (anEntry 0x0FF0 0 4095)) 4095 0x0FF0).any (fun q => ringReach q.2.2.2 4095) = true ∧
    abortTarget (holds (anEntry 0x0FF0 0 4095)) 4095 0 = none ∧
    abortTarget (withJob { aJob 0x0101 .waiting with origin := .ring 4095 } (holds (anEntry 0x0FF0 0 4095))) 4095 0 = some 8191 := by
  decide

theorem witness_StopLeavesNoResidue :
    (let x := { aJob 0x0901 (.running 0) with target := some 5 }
     let s := withJob x { ready with kreg := { ready.kreg with slots := [(5, { aSlot with st := .loading })] } }
     entry? s 8191 = some x ∧ x.phase ≠ .ended ∧ x.phase ≠ .scrubbing ∧ x.target = some 5 ∧ (mget? s.kreg.slots 5).isSome = true ∧
     keysRise s.kreg.slots = true) ∧
    entry? (inPhase 0x0101 .ended) 8191 = some (aJob 0x0101 .ended) ∧
    (let x := { aJob 0x0101 .scrubbing with pages := [8191] }
     let s := setSlice 35 { slice_ ready 35 with st := .scrub, job := some 8191 } (withJob x ready)
     entry? s 8191 = some x ∧ x.phase = .scrubbing ∧ scrubber s 8191 = some 35 ∧ s.ring.internalWait = [] ∧ Memory.wf s.iso.mem = true ∧
     keysRise s.iso.tags = true ∧ ∀ q ∈ x.pages, q < 8192) := by decide

/-- A segmented job that its slice runs, in its second segment. -/
def aSegmented : Entry := { aJob 0x0304 (.running 0) with pages := [3], keyChecked := true, progress := 1, segsSince := 16, prio := 1 }

theorem witness_SegmentsAndSlices :
    (let y := { aJob 0x0101 .waiting with prio := 0 }
     let busy : State := { ready with pke := { ready.pke with slices := tabulate 36 (fun n => (n, { Slice.reset with st := .busy })) } }
     let s := setEntry 1 y (withJob aSegmented busy)
     entry? s 8191 = some aSegmented ∧ aSegmented.phase = .running 0 ∧ resumePages aSegmented ≠ [] ∧ opClass 0x0304 ≠ none ∧
     sliceClass 0 = 0 ∧ someoneWaits s 0 8191 (aSegmented.prio - 1) = true ∧ someIdle s 0 = false ∧
     someoneWaits (withJob aSegmented ready) 0 8191 0 = false) ∧
    (let x := aJob 0x0304 (.resuming 35)
     let s := withJob x ready
     entry? s 8191 = some x ∧ maskReady s 0 = false ∧ maskReady (setSlice 0 { slice_ s 0 with seeded := true } s) 0 = true) ∧
    (let s := { ready with pke := { ready.pke with scrubQ := [8191] } }
     s.pke.scrubQ = 8191 :: [] ∧ (slice_ s 35).st = .gated) ∧
    (slice_ (setSlice 35 { slice_ ready 35 with st := .init } ready) 35).st = .init := by decide

/-- A parked job's tag is the one over its resume pages. -/
theorem witness_JobResume_tag (x : Entry) (b : Bytes) (s : State) :
    let y := { x with tag := parkTag s 8191 x b }
    parkTag s 8191 y b = y.tag := rfl

theorem witness_WatchdogBites :
    (let x := aJob 0x0304 (.running 35)
     let s := withJob x ready
     entry? s 8191 = some x ∧ (recentBites 0 (slice_ s 35).bites).length < 3 ∧
     3 ≤ (recentBites 0 (slice_ (setSlice 35 { slice_ s 35 with bites := [0, 0] } s) 35).bites).length) ∧
    (digUnit (setDigUnit 3 { digUnit ready 3 with jobs := [8191] } ready) 3).jobs = 8191 :: [] ∧
    unitHead (inPhase 0x0901 .waiting) 9 = some 8191 ∧
    (let h : Burst := { requester := 35, cls := 0, addr := 0, beats := 16, done := 0, write := false, heldCycles := 0, entry := 8191, pair := 0xFFFF, circuit := 0xFFFF,
                        awaited := false, lostAt := 0 }
     let s := setBench 15 { bench ready 15 with holder := some h } (inPhase 0x0304 (.running 35))
     keysRise s.pke.benches = true ∧ (bench s 15).holder = some h ∧ h.requester < 36 ∧
     36 ≤ ({ h with requester := 40 } : Burst).requester ∧ entry? s h.entry = some (aJob 0x0304 (.running 35))) := by decide

theorem witness_BenchArbitration :
    (let h : Burst := { requester := 36, cls := 1, addr := 0, beats := 16, done := 0, write := false, heldCycles := 0, entry := 0, pair := 0xFFFF, circuit := 0xFFFF,
                        awaited := false, lostAt := 0 }
     let w : Burst := { requester := 40, cls := 0, addr := 0, beats := 1, done := 0, write := true, heldCycles := 0, entry := 0, pair := 0xFFFF, circuit := 0xFFFF,
                        awaited := false, lostAt := 0 }
     let x : Bench := { Bench.reset with holder := some h }
     winner x [w] = some w ∧ winner x [w, h] = some w ∧ x.holder = some h ∧ x.mode = 0 ∧ w.cls < h.cls ∧ w.requester ≠ h.requester ∧
     winner { x with holder := some w } [h] = some h ∧ w.cls ≤ h.cls ∧ ({ x with mode := 1 } : Bench).mode ≠ 0 ∧ keysRise x.backoff = true) := by
  decide

/-- The next state of a statement's conclusion, without the rest. -/
theorem ran {i : Instr} {s : State} {P : State → Prop} (h : ∃ t, exec i s = .next t ∧ P t) : ∃ t, exec i s = .next t :=
  let ⟨t, e, _⟩ := h; ⟨t, e⟩

theorem passes {s : State} {n : Nat} {x : Entry} {q : Need}
    (h : x.keyChecked = false ∧ resumePages x = [] ∧ x.target = none ∧ keyCheck s (quotaColour x) (slice_ s n).seeded q = none) :
    Passes s n x q := h

theorem ready_now {s : State} {n : Nat} {x : Entry} {q : Need} (h : keyCheck s (quotaColour x) (slice_ s n).seeded q = none) :
    Ready s n x q := .inr h

/-- Every clause's premises are met by a job: the statement is applied to one. -/
theorem witness_LatticeJobs (h : Obligations.LatticeJobs) :
    (∃ t, exec (.mlKemKeygen 8191 false) (withJob (aRun 0x0101 3 0 []) (keyed (aKey 1 3 uKEM false))) = .next t) ∧
    (∃ t, exec (.mlKemEncaps 8191 false) (withJob (aRun 0x0102 3 8 []) (keyed (aKey 1 3 uKEM true))) = .next t) ∧
    (∃ t, exec (.mlKemEncaps 8191 false) (withJob (aRun 0x0102 3 1 [0xFF, 0xFF, 0xFF]) (keyed (aKey 1 3 uKEM true))) = .next t) ∧
    (∃ t, exec (.mlKemDecaps 8191 false) (withJob (aRun 0x0103 1 0 []) (keyed (aKey 1 1 uKEM false))) = .next t) ∧
    (∃ t, exec (.mlKemCheck 8191) (withJob (aRun 0x0107 1 0 []) (keyed (aKey 1 1 uKEM false))) = .next t) ∧
    (∃ t, exec (.mlDsaKeygen 8191 false) (withJob (aRun 0x0201 2 0 []) (keyed (aKey 2 2 uSIGN false))) = .next t) ∧
    (∃ t, exec (.mlDsaSign 8191 false) (withJob (aRun 0x0204 2 0 []) (keyed (aKey 2 2 uSIGN false))) = .next t) ∧
    (∃ t, exec (.mlDsaVerify 8191 false) (withJob (aRun 0x0205 2 8 []) (keyed (aKey 2 2 uVERIFY true))) = .next t) ∧
    (∃ t, exec (.pkeLatLock .supervisor [1]) ready = .next t) := by
  obtain ⟨h1, h2, h3, h4, h5, h6, h7, h8⟩ := h
  exact ⟨ran (h1 _ 35 _ _ (onSlice_run _ _ _ _ _) (passes (by decide))),
    ran ((h2 _ 35 _ _ (onSlice_run _ _ _ _ _) (passes (by decide))).1 (by decide)),
    ran ((h2 _ 35 _ _ (onSlice_run _ _ _ _ _) (passes (by decide))).2 (by decide)),
    ran (h3 _ 35 _ _ (onSlice_run _ _ _ _ _) (passes (by decide))), ran (h4 _ 35 _ _ (onSlice_run _ _ _ _ _)),
    ran (h5 _ 35 _ _ (onSlice_run _ _ _ _ _) (passes (by decide))),
    (Nat.lt_or_ge 814 _).elim (fun g => ran ((h6 _ 35 _ _ (onSlice_run _ _ _ _ _) (passes (by decide))).2 g))
      (fun g => ran ((h6 _ 35 _ _ (onSlice_run _ _ _ _ _) (passes (by decide))).1 g)),
    ran (h7 _ 35 _ _ (onSlice_run _ _ _ _ _) (passes (by decide))), ⟨_, h8 .supervisor [1] _ (deciding_of (by decide))⟩⟩

/-- A segmented job past its key check, with the handles it makes. -/
def aMaker (opcode pset aux : Nat) : Entry :=
  { aRun opcode pset aux [] with keyChecked := true, target := some 5, lksTarget := some 3 }

/-- A stateful key of tenant 0 in slot 1 with this working index, under counter record 511 sealed at it. -/
def stateful (k : HtsKey) (next : Nat) : State :=
  let s := keyed { aKey 4 1 uSIGN false with stateful := true }
  { s with kreg := { s.kreg with hts := [(1, k)], counters := [(511, sealRecord next 1)] }, lc := { s.lc with root := 1 } }

/-- LMS with SHA-256, height 5, W1, at index 31, the last but one. -/
def aStateKey : HtsKey := { record := 511, gen := 1, working := 31, cache := 0, types := 0x0105, st := .ready, warned := false }

set_option maxRecDepth 50000 in
/-- The clause of StopLeavesNoResidue about a stateful SIGN that stops past its commit. -/
theorem witness_StopLeavesNoResidue_index :
    (let x := { aRun 0x0404 1 0 [] with desc := { aDesc 0x0404 with outLen := 20000 } }
     let s := withJob x { stateful aStateKey 31 with now := 20000 }
     entry? s 8191 = some x ∧ x.phase = .running 35 ∧ x.target = none ∧ x.desc.key = 1 ∧ htsKey? s 1 = some aStateKey ∧
     (∃ v, mget? s.kreg.slots 1 = some v ∧ v.owner = x.colour ∧ v.alg = 4 ∧ v.pset = x.desc.pset ∧ v.stateful = true ∧
       v.usage % 2 = 1 ∧ v.st ≠ .loading ∧ htsSig v.pset (htsKeyLevels s 1) ≤ x.desc.outLen) ∧
     aStateKey.working < htsCap (htsKeyLevels s 1) ∧ recordBroken s aStateKey = false ∧ x.startedAt + cyclesNs s 11120 ≤ s.now) := by
  exact ⟨setEntry_same _ _ _, rfl, rfl, rfl, rfl, ⟨_, rfl, rfl, rfl, rfl, rfl, rfl, by decide, by decide⟩, by decide, by decide, by decide⟩

set_option maxRecDepth 50000 in
theorem witness_HashSignatureJobs (h : Obligations.HashSignatureJobs) :
    (∃ t, exec (.slhDsaKeygen 8191 false) (withJob (aRun 0x0301 1 0 []) (keyed (aKey 3 1 uSIGN false))) = .next t) ∧
    (∃ t, exec (.slhDsaSign 8191 false) (withJob (aRun 0x0304 1 0 []) (keyed (aKey 3 1 uSIGN false))) = .next t) ∧
    (∃ t, exec (.slhDsaVerify 8191 false) (withJob (aRun 0x0305 1 8 []) (keyed (aKey 3 1 uVERIFY true))) = .next t) ∧
    (∃ t, exec (.statefulKeygen 8191 false) (withJob (aMaker 0x0401 1 0x0105) (stateful aStateKey 31)) = .next t) ∧
    (∃ t, exec (.statefulSign 8191 false) (withJob { aRun 0x0404 1 0 [] with desc := { aDesc 0x0404 with outLen := 20000 } }
      (stateful aStateKey 31)) = .next t) ∧
    (∃ t, exec (.statefulSign 8191 false) (withJob (aRun 0x0404 1 0 []) (stateful { aStateKey with working := 32 } 32)) = .next t) ∧
    (∃ t, exec (.statefulVerify 8191 false) (withJob (aRun 0x0405 3 0 [0, 0, 0, 1]) (keyed (aKey 4 3 uVERIFY true))) = .next t) ∧
    (∃ t, exec (.statefulRebuild 8191 true) (withJob { aRun 0x0404 1 0 [] with origin := .rebuild 1 } (stateful aStateKey 31)) = .next t) := by
  obtain ⟨h1, h2, h3, h4, h5, h6, h7⟩ := h
  exact ⟨ran (h1 _ 35 _ _ (onSlice_run _ _ _ _ _) (passes (by decide))),
    ran (h2 _ 35 _ _ (onSlice_run _ _ _ _ _) (ready_now (by decide)) rfl),
    ran (h3 _ 35 _ _ (onSlice_run _ _ _ _ _) (passes (by decide))),
    ran (h4 _ 35 (aMaker 0x0401 1 0x0105) _ _ 0 ⟨setEntry_same _ _ _, rfl, rfl⟩ (fun _ e => nomatch e) rfl (by decide) (.inl rfl)
      ⟨rfl, by decide⟩ rfl (by decide +kernel)),
    ran ((h5 _ 35 { aRun 0x0404 1 0 [] with desc := { aDesc 0x0404 with outLen := 20000 } } _ aStateKey ⟨setEntry_same _ _ _, rfl, rfl⟩
      rfl (passes (by decide))).1 (by decide) (by decide) (by decide) (by decide) (by decide)),
    ran ((h5 _ 35 _ _ { aStateKey with working := 32 } (onSlice_run _ _ _ _ _) rfl (passes (by decide))).2 (.inr (.inr (by decide)))),
    ran (h6 _ 35 _ _ _ _ (onSlice_run _ _ _ _ _) (passes (by decide)) rfl rfl),
    ran (h7 8191 35 1 _ aStateKey _ (setEntry_same _ _ _) rfl rfl rfl (.inl rfl))⟩

set_option maxRecDepth 50000 in
theorem witness_CodeAndCurveJobs (h : Obligations.CodeAndCurveJobs) :
    (∃ t, exec (.codeKemKeygen 8191 false) (withJob (aMaker 0x0501 1 0) (keyed (aKey 5 1 uKEM false))) = .next t) ∧
    (∃ t, exec (.codeKemKeygen 8191 false) (withJob (aRun 0x0501 0x13 0 []) (keyed (aKey 5 1 uKEM false))) = .next t) ∧
    (∃ t, exec (.codeKemEncaps 8191 false) (withJob (aRun 0x0502 0x11 8 []) (keyed (aKey 5 0x11 uKEM true))) = .next t) ∧
    (∃ t, exec (.codeKemDecaps 8191 false) (withJob (aRun 0x0503 0x11 0 []) (keyed (aKey 5 0x11 uKEM false))) = .next t) ∧
    (∃ t, exec (.eccKeygen 8191 false) (withJob (aRun 0x0601 2 0 []) (keyed (aKey 6 2 uSIGN false))) = .next t) ∧
    (∃ t, exec (.eccSign 8191 false) (withJob (aRun 0x0604 2 0 []) (keyed (aKey 6 2 uSIGN false))) = .next t) ∧
    (∃ t, exec (.eccVerify 8191 false) (withJob (aRun 0x0605 2 8 []) (keyed (aKey 6 2 uVERIFY true))) = .next t) ∧
    (∃ t, exec (.eccAgree 8191 false) (withJob (aRun 0x0606 5 1 []) (keyed (aKey 6 5 uAGREE false))) = .next t) ∧
    (∃ t, exec (.eccCheck 8191) (withJob (aRun 0x0607 2 0 []) (keyed (aKey 6 2 uVERIFY true))) = .next t) := by
  obtain ⟨h1, h2, h3, h4, h5, h6, h7, h8⟩ := h
  have agree := h7 _ 35 _ _ (onSlice_run 0x0606 5 1 [] (keyed (aKey 6 5 uAGREE false))) (passes (by decide))
  exact ⟨ran ((h1 _ 35 (aMaker 0x0501 1 0) _ ⟨setEntry_same _ _ _, rfl, rfl⟩).1 rfl (.inl rfl) ⟨rfl, by decide⟩ rfl (by decide +kernel)),
    ran ((h1 _ 35 _ _ (onSlice_run _ _ _ _ _)).2 rfl (passes (by decide))),
    ran ((h2 _ 35 _ _ (onSlice_run _ _ _ _ _) (passes (by decide))).2.1 (by decide) (by decide +kernel)),
    ran (h3 _ 35 _ _ (onSlice_run _ _ _ _ _) (passes (by decide))), ran (h4 _ 35 _ _ (onSlice_run _ _ _ _ _) (passes (by decide))),
    ran (h5 _ 35 _ _ (onSlice_run _ _ _ _ _) (passes (by decide))), ran (h6 _ 35 _ _ (onSlice_run _ _ _ _ _) (passes (by decide))), ran agree,
    ran (h8 _ 35 _ _ (onSlice_run _ _ _ _ _))⟩

set_option maxRecDepth 50000 in
/-- A McEliece public key of tenant 0 in LKS entry 1. -/
theorem witness_mcEliece :
    let l : LksEntry := { owner := 0x1000, alg := 5, pset := 1, usage := uKEM, state := 2, persist := false, kind := 1, extents := [0],
                          length := 1, data := [] }
    let s : State := { keyed (aKey 5 1 uKEM false) with kreg := { (keyed (aKey 5 1 uKEM false)).kreg with lks := [(1, l)] } }
    mceKeyFails s (aRun 0x0502 1 0 []) 8191 1 = none ∧ hqcPkValid 0x11 (List.replicate 2249 0xFF) = false := by decide

theorem witness_RsaJobs (h : Obligations.RsaJobs) :
    (∃ t, exec (.rsaKeygen 8191 false) (withJob (aRun 0x0701 8 0 []) (keyed (aKey 7 8 uSIGN false))) = .next t) ∧
    (∃ t, exec (.rsaSign 8191 false) (withJob (aRun 0x0704 8 0 []) (keyed (aKey 7 8 uSIGN false))) = .next t) ∧
    (∃ t, exec (.rsaVerify 8191 false) (withJob (aRun 0x0705 8 8 []) (keyed (aKey 7 8 uVERIFY true))) = .next t) ∧
    (∃ t, exec (.rsaEncrypt 8191 false) (withJob (aRun 0x0708 8 8 []) (keyed (aKey 7 8 uKEM true))) = .next t) ∧
    (∃ t, exec (.rsaDecrypt 8191 false) (withJob (aRun 0x0709 8 1 []) (keyed (aKey 7 8 uKEM false))) = .next t) := by
  obtain ⟨h1, h2, h3, h4, h5⟩ := h
  exact ⟨ran (h1 _ 35 _ _ (onSlice_run _ _ _ _ _) (ready_now (by decide)) rfl rfl),
    ran (h2 _ 35 _ _ (onSlice_run _ _ _ _ _) (passes (by decide))), ran (h3 _ 35 _ _ (onSlice_run _ _ _ _ _) (passes (by decide))),
    ran (h4 _ 35 _ _ (onSlice_run _ _ _ _ _) (passes (by decide))), ran (h5 _ 35 _ _ (onSlice_run _ _ _ _ _) (passes (by decide)))⟩

theorem witness_KeyChecks :
    (let s := keyed (aKey 1 3 uKEM false)
     keyCheck s 0x1000 true { Need.none_ with policy := true } = some .keyPolicy ∧
     keyCheck s 0x1000 true { Need.none_ with keys := [some .keyEmpty] } = some .keyEmpty ∧
     keyCheck s 0x1000 true { Need.none_ with units := some 1001 } = some .quota ∧
     keyCheck ready 0x1000 true { Need.none_ with bytes := 1 } = some .entropyFail) ∧
    (let x := aRun 0x0101 1 0 []
     let s := withJob x (keyed (aKey 1 1 uKEM false))
     entry? s 8191 = some x ∧ x.phase = .running 35 ∧ x.pages = [] ∧ (runKemKeygen x 35 s).1.st = .ok) := by decide

/-! ### Witnesses: key manager, key register, digests -/

/-- A job at the head of the key manager's queue. -/
def aManage (opcode key2 aux : Nat) (input : Bytes) : Entry :=
  { aJob opcode .waiting with desc := { aDesc opcode with aux := aux, outLen := 8192, key2 := key2 }, stream := input }

/-- The archive is open: unit root, KEK held. -/
def archived (s : State) : State := { s with lc := { s.lc with root := 1 }, kreg := { s.kreg with kek := zeros 32 } }

/-- A sealed blob of a 32-byte KDK of tenant 0 under the unit wrap key, its tag the right one. -/
def blobHead : Bytes := blobHeader 2 0x1000 8 32 uDERIVE 32 0 (zeros 12)
def aBlob (s : State) : Bytes :=
  blobHead ++ zeros 32 ++ gcmTag (blobKey s none 0x1000 blobHead) (zeros 12) blobHead (zeros 32)

/-- A wrong tag: its first bit is turned. -/
def turned (b : Bytes) : Bytes :=
  match b with
  | [] => []
  | x :: r => (x ^^^ 1) :: r

theorem turned_ne (x : Byte) (r : Bytes) : turned (x :: r) ≠ x :: r := by
  intro h
  have h := (List.cons.inj h).1
  have h := congrArg (fun y => x ^^^ y) h
  simp [← BitVec.xor_assoc] at h

def aBadBlob (s : State) : Bytes :=
  blobHead ++ zeros 32 ++ turned (gcmTag (blobKey s none 0x1000 blobHead) (zeros 12) blobHead (zeros 32))

theorem aBadBlob_tag (s : State) :
    slice (aBadBlob s) 72 16 ≠ gcmTag (blobKey s none 0x1000 (aBadBlob s)) (slice (aBadBlob s) 24 12) ((aBadBlob s).take 40)
      (slice (aBadBlob s) 40 32) := turned_ne _ _

/-- Slot 1 and LKS entry 1 of tenant 0, one or both persistent. -/
def held (v : Slot) (persist : Bool) : State :=
  let l : LksEntry := { owner := 0x1000, alg := 5, pset := 1, usage := uKEM, state := 2, persist := persist, kind := 1, extents := [0],
                        length := 1, data := [] }
  let s := archived (keyed { v with persist := persist })
  { s with kreg := { s.kreg with lks := [(1, l)] } }

theorem atManager_job (opcode key2 aux : Nat) (input : Bytes) (s : State)
    (h : unitHead (withJob (aManage opcode key2 aux input) s) 9 = some 8191) :
    AtManager 8191 opcode (aManage opcode key2 aux input) (withJob (aManage opcode key2 aux input) s) := ⟨setEntry_same _ _ _, rfl, h⟩

set_option maxRecDepth 50000 in
theorem witness_KeyManagerJobs (h : Obligations.KeyManagerJobs) :
    let k := aKey 8 32 (uDERIVE + uEXPORT) false
    let s := archived (keyed k)
    (∃ t, exec (.importWrapped 8191) (withJob (aManage 0x0920 0 0 []) s) = .next t) ∧
    (∃ t, exec (.importWrapped 8191) (withJob (aManage 0x0920 0 0 (aBadBlob s)) s) = .next t) ∧
    (∃ t, exec (.importWrapped 8191) (withJob (aManage 0x0920 0 0 (aBlob s)) s) = .next t) ∧
    (∃ t, exec (.importWrapped 8191) (withJob (aManage 0x0920 0 0x4000000 (aBlob s)) s) = .next t) ∧
    (∃ t, exec (.exportWrapped 8191) (withJob (aManage 0x0921 0 0 []) s) = .next t) ∧
    (∃ t, exec (.delete 8191) (withJob (aManage 0x0922 0 0 []) (held k false)) = .next t) ∧
    (∃ t, exec (.delete 8191) (withJob (aManage 0x0922 0 0 []) (held k true)) = .next t) ∧
    (∃ t, exec (.persist 8191) (withJob (aManage 0x0922 0 1 []) (held k false)) = .next t) ∧
    (∃ t, exec (.unpersist 8191) (withJob (aManage 0x0922 0 2 []) (held k true)) = .next t) ∧
    (∃ t, exec (.unpersist 8191) (withJob (aManage 0x0922 0 2 []) (keyed k)) = .next t) ∧
    (∃ t, exec (.delete 8191) (withJob (aManage 0x0922 0 0x2000000 []) (held k false)) = .next t) ∧
    (∃ t, exec (.delete 8191) (withJob (aManage 0x0922 0 0x2000000 []) (held k true)) = .next t) ∧
    (∃ t, exec (.persist 8191) (withJob (aManage 0x0922 0 0x2000001 []) (held k false)) = .next t) ∧
    (∃ t, exec (.unpersist 8191) (withJob (aManage 0x0922 0 0x2000002 []) (held k true)) = .next t) ∧
    (∃ t, exec (.importPublic 8191) (withJob (aManage 0x0923 0 0x302 []) s) = .next t) ∧
    (∃ t, exec (.importPublic 8191) (withJob (aManage 0x0923 0 0x105 []) s) = .next t) := by
  obtain ⟨h1, h2, h3, h4, h5, _⟩ := h
  have a := h1 _ _ _ (atManager_job 0x0920 0 0 (aBlob (archived (keyed (aKey 8 32 (uDERIVE + uEXPORT) false)))) (archived (keyed (aKey 8 32 (uDERIVE + uEXPORT) false))) (by decide))
  have b := h1 _ _ _ (atManager_job 0x0920 0 0 (aBadBlob (archived (keyed (aKey 8 32 (uDERIVE + uEXPORT) false)))) (archived (keyed (aKey 8 32 (uDERIVE + uEXPORT) false))) (by decide))
  have c := h1 _ _ _ (atManager_job 0x0920 0 0x4000000 (aBlob (archived (keyed (aKey 8 32 (uDERIVE + uEXPORT) false)))) (archived (keyed (aKey 8 32 (uDERIVE + uEXPORT) false))) (by decide))
  exact ⟨ran ((h1 _ _ _ (atManager_job _ _ _ _ _ (by decide))).1 (by decide)),
    ran ((b.2 (by decide) (by decide) (by decide)).1 (aBadBlob_tag _)),
    ran ((a.2 (by decide) (by decide) (by decide)).2.1 rfl rfl (by decide)),
    ran ((c.2 (by decide) (by decide) (by decide)).2.2 rfl rfl (by decide) (by decide)),
    (let ⟨t, _, e, _⟩ := h2 _ _ _ _ (atManager_job _ _ _ _ _ (by decide)) rfl (by decide) (by decide); ⟨t, e⟩),
    ran ((h3 _ _ _ _ (atManager_job _ _ _ _ _ (by decide)) (by decide) rfl (by decide) (.inr (by decide))).1 (by decide) (by decide)),
    ran ((h3 _ _ _ _ (atManager_job _ _ _ _ _ (by decide)) (by decide) rfl (by decide) (.inr (by decide))).2.1 (by decide) (by decide) (by decide)),
    ran ((h3 _ _ _ _ (atManager_job _ _ _ _ _ (by decide)) (by decide) rfl (by decide) (.inr (by decide))).2.2.1 (by decide) (by decide) (by decide) (by decide)),
    ran ((h3 _ _ _ _ (atManager_job _ _ _ _ _ (by decide)) (by decide) rfl (by decide) (.inr (by decide))).2.2.2.1 (by decide) (by decide)),
    ran ((h3 _ _ _ _ (atManager_job _ _ _ _ _ (by decide)) (by decide) rfl (by decide) (.inr (by decide))).2.2.2.2 (by decide) (by decide)),
    ran ((h4 _ _ _ _ (atManager_job _ _ _ _ _ (by decide)) (by decide) rfl (by decide) (by decide)).1 (by decide) (by decide) (by decide)),
    ran ((h4 _ _ _ _ (atManager_job _ _ _ _ _ (by decide)) (by decide) rfl (by decide) (by decide)).2.1 (by decide) (by decide) (by decide)),
    ran ((h4 _ _ _ _ (atManager_job _ _ _ _ _ (by decide)) (by decide) rfl (by decide) (by decide)).2.2.1 (by decide) (by decide) (by decide)),
    ran ((h4 _ _ _ _ (atManager_job _ _ _ _ _ (by decide)) (by decide) rfl (by decide) (by decide)).2.2.2 (by decide) (by decide)),
    ran ((h5 _ _ _ _ _ _ (atManager_job _ _ _ _ _ (by decide)) rfl (by decide) (by decide) (.inl rfl)).1 (by decide) (by decide)),
    ran ((h5 _ _ _ _ _ _ (atManager_job _ _ _ _ _ (by decide)) rfl (by decide) (by decide) (.inl rfl)).2 (by decide) (by decide) (by decide) (by decide +kernel))⟩

/-- The device's attestation keys in slots 2 and 3, beside the key attested in slot 1; the job of entry 8191 has its two slices. -/
def attesting : State :=
  let s := keyed (aKey 8 32 uDERIVE false)
  { s with kreg := { s.kreg with slots := [(1, aKey 8 32 uDERIVE false), (2, { aKey 2 3 uSIGN false with owner := 0 }),
      (3, { aKey 6 2 uSIGN false with owner := 0 })] },
           pke := { s.pke with slices := [0, 20].map (fun n => (n, { Slice.reset with st := .busy, job := some 8191, seeded := true })) } }

theorem witness_Attest (h : Obligations.KeyManagerJobs) :
    ∃ t, exec (.attest 8191 false) (withJob (aManage 0x0924 0 0 []) attesting) = .next t := by
  obtain ⟨_, _, _, _, _, h6⟩ := h
  have k := h6 8191 _ _ _ _ 0 20 _ (atManager_job 0x0924 0 0 [] attesting (by decide)) rfl rfl rfl rfl (by decide) (by decide) rfl rfl (by decide)
  obtain ⟨t, _, _, e, _⟩ := k
  exact ⟨t, e⟩

/-- An active half with these bytes, and an open archive. -/
def halved (b : Bytes) : State :=
  let s := archived ready
  { s with kreg := { s.kreg with halfA := b } }

/-- A commit waits, for this entry. -/
def committing (e : Option Nat) (p : Phase) : State :=
  let s := withJob (aJob 0x0922 p) (halved [1])
  { s with kreg := { s.kreg with commits := [{ record := .dropSlot 1 1, effect := .freeSlot 1, entry := e, at_ := 0 }] } }

set_option maxRecDepth 50000 in
theorem witness_KeyRegisterEvents :
    (let v := { aKey 8 32 uDERIVE false with expiry := 1 }
     let s := withObjs [(Obj.KREG_RETIRE_GRACE, 5)] (keyed v)
     let s1 := advanceToExpiry v.expiry s
     slot? s 1 = some v ∧ v.expiry ≠ 0 ∧ v.st ≠ .loading ∧ circuitHolds s 1 = false ∧ v.st = .active ∧ objVal s Obj.KREG_RETIRE_GRACE ≠ 0 ∧
       objVal s1 Obj.KREG_RETIRE_GRACE ≠ 0 ∧
     circuitHolds { s with sp := { s.sp with circuits := [(0, { Circuit.reset with txCur := some { slot := 1, an := 0, xid := 0, next := 0, salt := [], frames := 0, octets := 0 } })] } } 1 = true ∧
     objVal (withObjs [(Obj.KREG_RETIRE_GRACE, 0)] s) Obj.KREG_RETIRE_GRACE = 0) ∧
    (mget? (keyed (aKey 8 32 uDERIVE false)).kreg.slots 1 = some (aKey 8 32 uDERIVE false)) ∧
    (let s := { ready with kreg := { ready.kreg with erasing := some 0 } }
     s.kreg.erasing = some 0) ∧
    ((committing none .ended).kreg.commits ≠ [] ∧ entry? (committing (some 8191) .committing) 8191 = some (aJob 0x0922 .committing) ∧
      entry? (committing (some 8191) .ended) 8191 = some (aJob 0x0922 .ended) ∧ (aJob 0x0922 .ended).phase ≠ .committing) ∧
    (∃ h, activeHalf (halved [1]) = some h ∧ h.length < compactAt) ∧
    ({ halved [1] with kreg := { (halved [1]).kreg with dropAt := some 0 } } : State).kreg.dropAt = some 0 ∧
    (let s := { ready with rng := { ready.rng with st := .ready }, lc := { ready.lc with root := 1, st := .mission } }
     Deciding .supervisor Obj.KREG_ARCH_COMPACT [1] archCompactRule s ∧ Deciding .supervisor Obj.KREG_ARCH_INIT [1] (archInitRule s) s) ∧
    objVal (withObjs [(Obj.TMP_RELEASE_STATE, 1)] ready) Obj.TMP_RELEASE_STATE = 1 ∧
    (let s := withObjs [(Obj.KREG_FILL_TARGET, 0x0001000120080002)] ready
     Deciding .supervisor Obj.KREG_FILL_START [1] (fillStartRule s) s) ∧
    (let f : Fill := { handle := 1, components := 2, done := 0, officers := [], startedAt := 0 }
     let s := { ready with kreg := { ready.kreg with fill := some f } }
     s.kreg.fill = some f ∧ keysRise s.dict.obj = true) := by
  refine ⟨by decide, by decide, by decide, by decide, ⟨_, rfl, by decide⟩, by decide,
    ⟨deciding_of (by decide), deciding_of (by decide)⟩, by decide, deciding_of (by decide), by decide⟩

/-- A half that is three quarters full. -/
theorem witness_KeyRegisterEvents_full :
    ∃ h, activeHalf (halved (List.replicate compactAt 1)) = some h ∧ compactAt ≤ h.length :=
  ⟨List.replicate compactAt 1, by simp [activeHalf, halved, archived, ready, State.reset, KregSt.reset], by simp⟩

/-- A context of tenant 0 (SHA-256, or SHAKE128). -/
def aCtx (pset : Nat) (finished after : Bool) (declared : Option Nat) : Ctx :=
  { owner := 0x1000, pset := pset, early := false, after := after, exportClear := true, xof := false, finished := finished,
    declared := declared, absorbed := [1, 2], squeezed := 0, keyed := false, key := [], name := [], custom := [], outLen := 0 }

/-- Number 5 holds this. -/
def ctxed (x : CtxNum) : State :=
  let s := keyed (aKey 8 32 uDERIVE false)
  withObjs [(at_ Obj.TENANT_QUOTA_CTX 0, 8)] { s with dig := { s.dig with ctx := [(5, x)] } }

/-- A job at unit 0. -/
def aDigest (opcode pset aux outLen : Nat) (input : Bytes) : Entry :=
  { aJob opcode .waiting with desc := { aDesc opcode with pset := pset, aux := aux, outLen := outLen, key2 := 5 }, stream := input }

/-- The entry is on digest unit 0, its output writable. -/
def onUnit (x : Entry) (s : State) : State := setDigUnit 0 { DigUnit.reset with jobs := [8191] } (withJob x s)

/-- The digest engine reaches the context that the job names. -/
def ctxOpen (s : State) (x : Entry) : Bool :=
  decide (enabledRules s 5 = [anyRule]) && match (digNames x).1 with
  | none => true
  | some n => (liveCtx? s x.colour n).isNone || decide (recTag s (.digest n) = x.colour)

theorem ctx_reached {s : State} {x : Entry} (h : ctxOpen s x = true) (u e : Nat) (r : CtxRec) (a : FabAcc)
    (ha : ctxAccess u e x s = some (r, a)) : checkRec s r a = none := by
  unfold ctxOpen at h
  unfold ctxAccess at ha
  cases hn : (digNames x).1 with
  | none => rw [hn] at ha; simp at ha
  | some n =>
    rw [hn] at ha h
    simp only [Bool.and_eq_true, Bool.or_eq_true, decide_eq_true_eq] at h
    simp only [Option.map_eq_some_iff, Prod.mk.injEq] at ha
    obtain ⟨c, hl, rfl, rfl⟩ := ha
    rw [hl] at h
    rw [← h.2.resolve_left (by simp)]
    exact checkRec_open (by decide) h.1 (by decide) (by decide) (by decide)

theorem onUnit_on (opcode pset aux outLen : Nat) (input : Bytes) (s : State)
    (h : unitOf? (onUnit (aDigest opcode pset aux outLen input) s) 8191 ≠ none)
    (hb : digBlocked (onUnit (aDigest opcode pset aux outLen input) s) (aDigest opcode pset aux outLen input) = false)
    (hc : ctxOpen (onUnit (aDigest opcode pset aux outLen input) s) (aDigest opcode pset aux outLen input) = true) :
    OnDigest 8191 opcode (aDigest opcode pset aux outLen input) (onUnit (aDigest opcode pset aux outLen input) s) :=
  let ⟨u, hu⟩ := Option.ne_none_iff_exists'.mp h
  ⟨setEntry_same _ _ _, rfl, rfl, hb, u, hu, ctx_reached hc u 8191⟩

theorem leastBy_cons {α : Type} (key : α → Nat) (a : α) (r : List α) : ∃ n, leastBy key (a :: r) = some n := by
  unfold leastBy
  split
  · exact ⟨_, rfl⟩
  · split <;> exact ⟨_, rfl⟩

theorem nextCtx_first (s : State) (h : s.dig.ctx = []) (hl : s.dig.lastCtx = 4096) : ∃ n, nextCtx s = some n := by
  obtain ⟨n, hn⟩ := leastBy_cons (fun n => Config.rank s.dig.orderKey 1 n * 4096 + n) 0 (List.range' 1 4095)
  refine ⟨n, ?_⟩
  have hf : ∀ l : List Nat, l.filter (fun _ => true) = l := fun l => List.filter_eq_self.mpr (fun _ _ => rfl)
  simp only [nextCtx, h, hl, nextBy, mget?, Option.isNone_none, hf, Nat.le_refl, if_true,
    show List.range 4096 = 0 :: List.range' 1 4095 from List.range_eq_range' ▸ rfl, hn]

/-- The state of a digest job at unit 0 with number 5 holding `x`. -/
def digesting (opcode pset aux outLen : Nat) (input : Bytes) (x : CtxNum) : State :=
  onUnit (aDigest opcode pset aux outLen input) (ctxed x)

/-- Every clause's premises are met by a job: the statement is applied to one. -/
theorem witness_DigestContexts_open (h : Obligations.DigestContexts) :
    ∃ t, exec (.openCtx 8191) (onUnit (aDigest 0x0810 1 0 0 []) (withObjs [(at_ Obj.TENANT_QUOTA_CTX 0, 8)] ready)) = .next t := by
  obtain ⟨h1, _⟩ := h
  obtain ⟨n, hn⟩ := nextCtx_first (onUnit (aDigest 0x0810 1 0 0 []) (withObjs [(at_ Obj.TENANT_QUOTA_CTX 0, 8)] ready)) rfl rfl
  exact ran (h1 8191 (aDigest 0x0810 1 0 0 []) n _ (onUnit_on 0x0810 1 0 0 [] _ (by decide) (by decide) (by decide)) (by decide) hn)

theorem witness_DigestContexts_absorb (h : Obligations.DigestContexts) :
    (∃ t, exec (.absorb 8191) (digesting 0x0811 1 0 0 [3] (.live (aCtx 1 true false none))) = .next t) ∧
    (∃ t, exec (.absorb 8191) (digesting 0x0811 1 0 0 [3] (.live (aCtx 1 true true none))) = .next t) ∧
    (∃ t, exec (.absorb 8191) (digesting 0x0811 1 0 0 [3] (.live (aCtx 1 false false (some 3)))) = .next t) ∧
    (∃ t, exec (.absorb 8191) (digesting 0x0811 1 0 0 [3] (.live (aCtx 1 false false (some 2)))) = .next t) := by
  obtain ⟨_, h2, _⟩ := h
  exact ⟨ran ((h2 8191 _ _ _ (onUnit_on 0x0811 1 0 0 [3] (ctxed (.live (aCtx 1 true false none))) (by decide) (by decide) (by decide)) rfl (by decide)).1 rfl rfl),
    ran ((h2 8191 _ _ _ (onUnit_on 0x0811 1 0 0 [3] (ctxed (.live (aCtx 1 true true none))) (by decide) (by decide) (by decide)) rfl (by decide)).2.1 (.inr rfl)
      (fun _ e => nomatch e)),
    ran ((h2 8191 _ _ _ (onUnit_on 0x0811 1 0 0 [3] (ctxed (.live (aCtx 1 false false (some 3)))) (by decide) (by decide) (by decide)) rfl (by decide)).2.1 (.inl rfl)
      (fun _ e => by cases e; decide)),
    ran ((h2 8191 _ _ _ (onUnit_on 0x0811 1 0 0 [3] (ctxed (.live (aCtx 1 false false (some 2)))) (by decide) (by decide) (by decide)) rfl (by decide)).2.2 2 (.inl rfl)
      rfl (by decide))⟩

theorem witness_DigestContexts_final (h : Obligations.DigestContexts) :
    let c := aCtx 1 false false none
    let k := { c with pset := 0x0B, keyed := true }
    (∃ t, exec (.finishFinal 8191) (digesting 0x0812 1 0 32 [] (.live c)) = .next t) ∧
    (∃ t, exec (.finishFinal 8191) (digesting 0x0812 1 (4 + 32 * 2 ^ 32) 0 [] (.live k)) = .next t) ∧
    (∃ t, exec (.finishFinal 8191) (onUnit (aDigest 0x0812 1 (8 + 8 * 2 ^ 40) 0 []) (withObjs [(Obj.DIG_MEAS_OWNER + 8, 0x1000)] (ctxed (.live c)))) = .next t) := by
  obtain ⟨_, _, h3, _⟩ := h
  exact ⟨ran ((h3 8191 _ _ _ (onUnit_on 0x0812 1 0 32 [] (ctxed (.live (aCtx 1 false false none))) (by decide) (by decide) (by decide)) rfl (by decide) rfl
      (fun _ e => nomatch e) (by decide)).1 (by decide) (by decide)),
    ran ((h3 8191 _ _ _ (onUnit_on 0x0812 1 (4 + 32 * 2 ^ 32) 0 [] (ctxed (.live { aCtx 1 false false none with pset := 0x0B, keyed := true }))
      (by decide) (by decide) (by decide)) rfl (by decide) rfl (fun _ e => nomatch e) (by decide)).2.1 (by decide) (by decide) (by decide)),
    ran ((h3 8191 _ _ _ (onUnit_on 0x0812 1 (8 + 8 * 2 ^ 40) 0 [] (withObjs [(Obj.DIG_MEAS_OWNER + 8, 0x1000)] (ctxed (.live (aCtx 1 false false none))))
      (by decide) (by decide) (by decide)) rfl (by decide) rfl (fun _ e => nomatch e) (by decide)).2.2 (by decide) (by decide) (by decide))⟩

theorem witness_DigestContexts_read (h : Obligations.DigestContexts) :
    (∃ t, exec (.finishRead 8191) (digesting 0x0812 1 1 32 [] (.live (aCtx 1 false false none))) = .next t) ∧
    (∃ t, exec (.finishRead 8191) (digesting 0x0812 1 1 32 [] (.live (aCtx 1 true false none))) = .next t) := by
  obtain ⟨_, _, _, h4, _⟩ := h
  exact ⟨ran ((h4 8191 _ _ _ (onUnit_on 0x0812 1 1 32 [] (ctxed (.live (aCtx 1 false false none))) (by decide) (by decide) (by decide)) rfl (by decide) (by decide)
      (by decide)).1 rfl),
    ran ((h4 8191 _ _ _ (onUnit_on 0x0812 1 1 32 [] (ctxed (.live (aCtx 1 true false none))) (by decide) (by decide) (by decide)) rfl (by decide) (by decide)
      (by decide)).2 rfl (by decide))⟩

theorem witness_DigestContexts_save (h : Obligations.DigestContexts) :
    ∃ t, exec (.saveCtx 8191) (digesting 0x0816 1 0 1000 [] (.live (aCtx 1 false false none))) = .next t := by
  obtain ⟨_, _, _, _, h5, _⟩ := h
  obtain ⟨t, _, e, _⟩ := h5 8191 _ _ _ (onUnit_on 0x0816 1 0 1000 [] (ctxed (.live (aCtx 1 false false none))) (by decide) (by decide) (by decide)) rfl (by decide)
    (by decide)
  exact ⟨t, e⟩

/-- A clear blob of number 5 under epoch 1, its state bytes zero, its tag the right one. -/
def savedHead : Bytes :=
  (blobHeader 3 0x1000 8 1 0 120 0 (zeros 12)).take 16 ++ leBytes 4 1 ++ leBytes 2 5 ++ [1, 0] ++ (blobHeader 3 0x1000 8 1 0 120 0 (zeros 12)).drop 24
def savedBlob : Bytes :=
  savedHead ++ zeros 120 ++ gcmTag (blobKey ready (some ready.dig.dsave) 0x1000 savedHead) (zeros 12) (savedHead ++ zeros 120) []
set_option maxRecDepth 50000 in
theorem witness_DigestContexts_load (h : Obligations.DigestContexts) :
    (∃ t, exec (.loadCtx 8191) (digesting 0x0817 1 0 0 savedBlob (.saved 1 (aCtx 1 false false none))) = .next t) ∧
    (∃ t, exec (.loadCtx 8191) (digesting 0x0817 1 0 0 savedBlob (.saved 2 (aCtx 1 false false none))) = .next t) := by
  obtain ⟨_, _, _, _, _, h6⟩ := h
  exact ⟨ran ((h6 8191 _ _ _ _ (onUnit_on 0x0817 1 0 0 savedBlob (ctxed (.saved 1 (aCtx 1 false false none))) (by decide) (by decide) (by decide)) rfl (by decide)).1
      (decide_eq_true ⟨rfl, rfl, rfl⟩) (by decide)),
    ran ((h6 8191 _ _ _ _ (onUnit_on 0x0817 1 0 0 savedBlob (ctxed (.saved 2 (aCtx 1 false false none))) (by decide) (by decide) (by decide)) rfl (by decide)).2
      (decide_eq_false (fun e => absurd e.2.1 (by decide))))⟩

/-- An EXTEND of register 8. -/
def anExtend : Entry := { aDigest 0x0815 2 0 48 [1] with desc := { aDesc 0x0815 with key2 := 8, outLen := 48 } }

theorem onUnit_extend (s : State) (h : unitOf? (onUnit anExtend s) 8191 ≠ none) (hb : digBlocked (onUnit anExtend s) anExtend = false)
    (hc : ctxOpen (onUnit anExtend s) anExtend = true) : OnDigest 8191 0x0815 anExtend (onUnit anExtend s) :=
  let ⟨u, hu⟩ := Option.ne_none_iff_exists'.mp h
  ⟨setEntry_same _ _ _, rfl, rfl, hb, u, hu, ctx_reached hc u 8191⟩

theorem witness_DigestOneStep (h : Obligations.DigestOneStep) :
    let s := keyed (aKey 8 32 uDERIVE false)
    let o := withObjs [(Obj.DIG_MEAS_OWNER + 8, 0x1000)] s
    (∃ t, exec (.oneshot 8191) (onUnit (aDigest 0x0813 1 0 32 [1]) s) = .next t) ∧
    (∃ t, exec (.oneshot 8191) (onUnit (aDigest 0x0813 0x0B 0 32 [1]) s) = .next t) ∧
    (∃ t, exec (.deriveKey 8191) (onUnit (aDigest 0x0814 0 (1 + 32 * 2 ^ 32) 0 [1]) s) = .next t) ∧
    (∃ t, exec (.deriveKey 8191) (onUnit (aDigest 0x0814 0 (32 * 2 ^ 32) 0 [1]) s) = .next t) ∧
    (∃ t, exec (.extend 8191) (onUnit anExtend o) = .next t) ∧
    (∃ t, exec (.extend 8191) (onUnit (aDigest 0x0815 2 0 48 [1]) s) = .next t) ∧
    (∃ t, exec (.extend 8191) (onUnit anExtend s) = .next t) ∧
    Deciding .supervisor (Obj.DIG_MEAS_OWNER + 8) [0, 0x10] (measOwnerRule 8 [0, 0x10] ready) ready ∧
    allZero (meas { ready with dig := { ready.dig with meas := [(8, [1])] } } 8) = false ∧
    (let s1 := setDigUnit 1 { DigUnit.reset with jobs := [4, 8191, 5] } (withJob anExtend ready)
     (digUnit s1 1).jobs = [4] ++ 8191 :: [5] ∧ (∀ y ∈ [4], digReady s1 y = false) ∧ digReady s1 8191 = true ∧ entry? s1 8191 = some anExtend ∧
     (digUnit s1 1).fenced = false ∧ (digUnit s1 1).initAt = none) ∧
    (digUnit (setDigUnit 1 { DigUnit.reset with initAt := some 0 } ready) 1).initAt = some 0 := by
  obtain ⟨h1, h2, h3, _⟩ := h
  refine ⟨ran (h1 8191 _ _ (onUnit_on 0x0813 1 0 32 [1] _ (by decide) (by decide) (by decide)) (by decide)),
    ran (h1 8191 _ _ (onUnit_on 0x0813 0x0B 0 32 [1] _ (by decide) (by decide) (by decide)) (by decide)),
    ran ((h2 8191 _ _ (onUnit_on 0x0814 0 (1 + 32 * 2 ^ 32) 0 [1] _ (by decide) (by decide) (by decide)) (by decide)).1 (by decide)),
    ran ((h2 8191 _ _ (onUnit_on 0x0814 0 (32 * 2 ^ 32) 0 [1] _ (by decide) (by decide) (by decide)) (by decide)).2 (by decide)),
    ran ((h3 8191 _ _ (onUnit_extend _ (by decide) (by decide) (by decide)) (by decide)).1 (by decide) (by decide)),
    ran ((h3 8191 _ _ (onUnit_on 0x0815 2 0 48 [1] _ (by decide) (by decide) (by decide)) (by decide)).2.1 (by decide)),
    ran ((h3 8191 _ _ (onUnit_extend _ (by decide) (by decide) (by decide)) (by decide)).2.2 (by decide) (by decide)),
    deciding_of (by decide), by decide, by decide, by decide⟩
/-! ### Witnesses: stream ports and graft -/

/-- Port 0 with these contents. -/
def ported (x : Port) (s : State) : State := setPort 0 x s

/-- Port 0 UP, circuit 5 bound to tenant 0 and enabled, with these keys. -/
def linked (c : Circuit) : State :=
  withObjs [(at_ Obj.SP_C_TENANT 5, 0), (at_ Obj.SP_C_ENABLE 5, 1)]
    (setCircuit 5 c (ported { Port.reset with st := .up } (keyed (aKey 8 32 uDERIVE false))))

/-- A circuit key in slot 1. -/
def aLink : LinkKey := { slot := 1, an := 0, xid := 0, next := 5, salt := zeros 12, frames := 0, octets := 0 }

/-- A packet of this OP for circuit `c` with 64 bytes of payload. -/
def aPkt (op c : Nat) : Bytes := leBytes 1 op ++ leBytes 2 c ++ leBytes 2 64 ++ zeros 3 ++ zeros 64

set_option maxRecDepth 50000 in
theorem witness_StreamCommands :
    Deciding .supervisor (at_ Obj.SP_ENABLE 1) [1] (portRule (portOn 1)) ready ∧
    Deciding .supervisor (at_ Obj.SP_ENABLE 1) [0] (portRule (portOff 1)) ready ∧
    (keysRise ready.dict.obj = true ∧ keysRise ready.sp.ports = true ∧ (port ready 0).st = .down) ∧
    ((port (ported { Port.reset with st := .training } ready) 0).st = .training ∧ (port (linked Circuit.reset) 0).st = .up ∧
      mget? (port (linked Circuit.reset) 0).xoffIn 63 = none ∧
      mget? (port (ported { Port.reset with st := .up, xoffIn := [(63, 1)] } ready) 0).xoffIn 63 = some 1 ∧
      keysRise (linked Circuit.reset).sp.circuits = true) ∧
    Deciding .supervisor (at_ Obj.SP_C_TENANT 5) (leBytes 2 0) (bindRule 5 0 (withObjs [(at_ Obj.TENANT_STATE 0, 1)] ready))
      (withObjs [(at_ Obj.TENANT_STATE 0, 1)] ready) ∧
    Deciding .supervisor (at_ Obj.SP_C_TENANT 5) (leBytes 2 0xFFFF) (portRule (unbindCircuit 5)) ready ∧
    (transformSub 3 = true ∧ Deciding .supervisor ((0x3000 + 5) * 256 + 3) [1] (transformRule 5 3 [1] ready) ready) ∧
    Deciding .supervisor (at_ Obj.SP_C_ZEROISE 8191) [1] (portRule (zeroiseCircuit 8191)) ready := by
  exact ⟨deciding_of (by decide), deciding_of (by decide), by decide, by decide, deciding_of (by decide), deciding_of (by decide), ⟨by decide, deciding_of (by decide)⟩,
    deciding_of (by decide)⟩

set_option maxRecDepth 50000 in
theorem witness_StreamPackets :
    (let s := linked { Circuit.reset with txCur := some aLink }
     (port s 0).st = .up ∧ pktWhole 0 (aPkt 1 5) = true ∧ pktHeaderOk (aPkt 1 5) = true ∧ pktOp (aPkt 1 5) = 1 ∧ pktCircuit (aPkt 1 5) = 5 ∧
     pktHeaderOk (aPkt 2 5) = true ∧ pktOp (aPkt 2 5) = 2 ∧ pktHeaderOk (aPkt 4 5) = true ∧ pktOp (aPkt 4 5) = 4 ∧
     portBytes s 0 + 72 ≤ 65536 ∧ linkCheck s 0 (aPkt 1 5) = none ∧ linkCheck s 0 (aPkt 2 5) = none ∧ linkCheck s 0 (aPkt 4 5) = none ∧
     linkCheck s 0 (aPkt 1 6) ≠ none ∧ (port s 0).stalled = [] ∧ pickPipe s 0 ≠ none ∧ (circuit s 5).txCur = some aLink ∧
     (circuit s 5).blocked = false ∧ keyExpired s aLink = false ∧ aLink.next < maxNumber s 5 ∧ keysRise s.sp.circuits = true ∧
     pktHeaderOk (aPkt 9 5) = false ∧ pktOp (aPkt 9 5) ≠ 3 ∧ pktOp (aPkt 9 5) ≠ 5) ∧
    (let q : InFlightPkt := { id := 4, pipe := 0, op := 1, cls := 0, tag := 0, size := 72, inLen := 64, slot := some 1, number := 5, code := 0,
                              detail := 0, out := [], echo := false, done := false }
     let s := linked { Circuit.reset with txCur := some aLink, rxCur := some aLink, rxRet := some aLink, queue := [q] }
     (circuit s 5).queue.find? (fun y => decide (y.id = 4) && !y.done) = some q ∧ (circuit s 5).rxCur = some aLink ∧
     keySlot (circuit s 5).rxNext ≠ [1] ∧ (circuit s 5).rxRet = some aLink) ∧
    (let s := linked { Circuit.reset with txCur := some aLink }
     let e := { s with kreg := { s.kreg with slots := [(1, { aKey 8 32 uDERIVE false with expiry := 9 })] } }
     (circuit e 5).txCur = some aLink ∧ mget? e.kreg.slots aLink.slot = some { aKey 8 32 uDERIVE false with expiry := 9 } ∧
     (circuit (linked { Circuit.reset with armed := true, txNext := some aLink }) 5).armed = true ∧
     (circuit (linked { Circuit.reset with armed := true, txNext := some aLink }) 5).txNext = some aLink) ∧
    (pipe { ready with sp := { ready.sp with pipes := [(3, { Pipe.reset with initAt := some 0 })] } } 3).initAt = some 0 := by decide

/-- Circuit 5 with this exchange. -/
def grafting (g : Graft) : State :=
  let s := setGraft 5 g (linked Circuit.reset)
  { s with rng := { s.rng with st := .ready } }

/-- A message of this type of exchange 7. -/
def aMsg (type : Nat) : Bytes := [BitVec.ofNat 8 type, 1, 1, 0, 0, 0, 0, 0, 7, 0, 0, 0, 0, 0, 0, 0]

set_option maxRecDepth 50000 in
theorem witness_GraftExchange :
    Deciding .supervisor (at_ Obj.GR_C_REKEY 5) [1] (portRule (trigger 5 true)) ready ∧
    (cVal (linked Circuit.reset) 5 Obj.GR_C_ROLE ≠ 2 ∧ cVal (linked Circuit.reset) 5 Obj.SP_C_TENANT ≠ 0xFFFF ∧
      (graftOf (linked Circuit.reset) 5).periodDone = false) ∧
    (let s := grafting { Graft.reset with pending := true }
     wantsGraft s 5 = true ∧ mayStart s 5 = true ∧ pauseOver s 5 = true ∧ bufRoom s (bodyPages (g1Len (grSuite s 5))) = true ∧ s.rng.st = .ready ∧
     (graftOf (grafting { Graft.reset with waitBuf := true }) 5).waitBuf = true) ∧
    (takeMsg (grafting { Graft.reset with rx := some (aMsg 1) }) 5 1 = some (aMsg 1) ∧
     (graftOf (grafting { Graft.reset with rx := some (aMsg 1) }) 5).st ≠ .g1Sent ∧
     takeMsg (grafting { Graft.reset with rx := some (aMsg 1), st := .g1Sent }) 5 1 = some (aMsg 1)) ∧
    (takeMsg (grafting { Graft.reset with rx := some (aMsg 2), st := .g1Sent, xid := 7 }) 5 2 = some (aMsg 2) ∧
     HashReach (grafting { Graft.reset with rx := some (aMsg 2), st := .g1Sent, xid := 7 }) 0x1000 (.graftDigest 5) ∧
     circuitColour (grafting { Graft.reset with rx := some (aMsg 2), st := .g1Sent, xid := 7 }) 5 = 0x1000) ∧
    (HashReach (grafting { Graft.reset with rx := some (aMsg 3), st := .g2Sent, xid := 7 }) 0x1000 (.graftDigest 5) ∧
     leastUnit? (grafting { Graft.reset with rx := some (aMsg 3), st := .g2Sent, xid := 7 }) = some 0 ∧
     (digUnit (grafting { Graft.reset with rx := some (aMsg 3), st := .g2Sent, xid := 7 }) 0).initAt = none) ∧
    (takeMsg (grafting { Graft.reset with rx := some (aMsg 3), st := .g2Sent, xid := 7 }) 5 3 = some (aMsg 3) ∧
     takeMsg (grafting { Graft.reset with rx := some (aMsg 3), st := .armed, xid := 7 }) 5 3 = some (aMsg 3)) ∧
    (let r : GraftRes := { step := 1, status := .entropyFail, detail := 0, out := [] }
     let s := grafting { Graft.reset with stage := .iKeygen, jobs := 1, results := [r] }
     let t := grafting { Graft.reset with stage := .iKeygen, jobs := 1, results := [{ r with status := .ok }] }
     (graftOf s 5).stage ≠ .none_ ∧ supervisorUp s = true ∧ (graftOf s 5).results.findSome? stepCause = some 7 ∧
     (graftOf t 5).results.findSome? stepCause = none ∧ (graftOf t 5).jobs ≤ (graftOf t 5).results.length) ∧
    (let s := grafting { Graft.reset with outFrags := [[1]] }
     (graftOf s 5).outFrags = [[1]] ∧ halted s = false) ∧
    (let s := grafting { Graft.reset with timer := some 9, st := .g1Sent }
     supervisorUp s = true ∧ (graftOf s 5).timer = some 9 ∧ (graftOf s 5).resends < cVal s 5 Obj.GR_C_RETRIES ∧
     cVal s 5 Obj.GR_C_RETRIES ≤ (graftOf (grafting { Graft.reset with timer := some 9, st := .g1Sent, resends := 3 }) 5).resends ∧
     (graftOf (grafting { Graft.reset with pauseUntil := some 9 }) 5).pauseUntil = some 9 ∧
     (graftOf (grafting { Graft.reset with asmDue := some 9 }) 5).asmDue = some 9) := by
  exact ⟨deciding_of (by decide), by decide, by decide, by decide, ⟨by decide, hash_reached (by decide) (by decide) (by decide), by decide⟩,
    ⟨hash_reached (by decide) (by decide) (by decide), by decide, by decide⟩, by decide, by decide, by decide, by decide⟩
/-! ### Witnesses: the core -/

/-- The core about to execute, in supervisor mode, with these registers. -/
def cored (c : Core) : State :=
  { ready with iso := { ready.iso with rules := [(192, anyRule), (256, anyRule)], tags := [(0x20001, 0), (0x20002, 0)] }, tsuow := { ready.tsuow with core := c } }

/-- The same in user mode, the code of cell 1 anywhere in I-space. -/
def userCore (c : Core) : State :=
  let s := cored { c with mode := 1, cl := 0xFFFFFFFF, budget := 1000 }
  { s with tsuow := { s.tsuow with current := some 1 } }

/-- Registers g8 to g12: 5, and three addresses in the data memory; port 0x8004. -/
def someRegs : Core := { Core.reset with g := [(8, 5), (9, 0x100), (10, 0x200), (11, 0), (12, 0x8004)] }

set_option maxRecDepth 50000 in
theorem executes_core : Executes (cored someRegs) := ⟨by decide, by decide, by decide⟩

set_option maxRecDepth 50000 in
theorem executes_user : Executes (userCore someRegs) := ⟨by decide, by decide, by decide⟩

theorem witness_CoreArithmetic (h : Obligations.CoreArithmetic) :
    ∃ t, exec (.add 8 8 8) (cored someRegs) = .next t :=
  let ⟨_, e, _⟩ := (h (cored someRegs) 8 8 8 0 executes_core (by decide)).1 (.add 8 8 8) _ _ _ (.inl ⟨rfl, rfl, rfl, rfl⟩)
  ⟨_, e⟩

set_option maxRecDepth 50000 in
theorem witness_CoreMemory :
    let s := cored someRegs
    let u := atInstr s
    let c := u.tsuow.core
    Executes s ∧ keysRise s.tsuow.core.g = true ∧ keysRise s.iso.mem = true ∧ keysRise s.kreg.lks = true ∧
    dCheck c (c.reg 9 + (0 : BitVec 18).signExtend 32) 4 4 = .inr 0x2000100 ∧ refusedAs u (coreAccess u c 0x2000100 4 1) = [] ∧
    refusedAs u (coreAccess u c 0x2000100 4 2) = [] ∧ inLks 0x2000100 = false ∧ ctxAt? 0x2000100 = none ∧ ctxAt? 0x2000200 = none ∧
    dCheck c (c.reg 9 + (0x1FFFFF : BitVec 18).signExtend 32) 4 4 = .inl { code := xALIGN, addr := 0xFF } ∧
    ispaceOk c 0x100 = true ∧ refusedAs u (coreAccess u c (codeFabric 0x100) 4 1) = [] ∧ ispaceOk c 0x101 = false ∧
    dCheck c (c.reg 9) 1 1 = .inr 0x2000100 ∧ dCheck c (c.reg 10) 1 1 = .inr 0x2000200 ∧ refusedAs u (coreAccess u c 0x2000200 1 1) = [] ∧
    dCheck c (c.reg 9) 4 4 = .inr 0x2000100 ∧ dCheck c (c.reg 10) 4 4 = .inr 0x2000200 ∧ refusedAs u (coreAccess u c 0x2000200 4 2) = [] ∧
    refusedAs u (coreAccess u c 0x2000200 1 2) = [] ∧ (c.reg 12).toNat % 65536 = 0x8004 ∧ listedPort ((c.reg 12).toNat % 65536) = true ∧
    strIllegal .movs false 3 15 = true ∧ strIllegal .movs true 0 15 = false ∧ c.reg 11 = 0 ∧
    refusedAs (atInstr { s with iso := { s.iso with rules := [] } }) (coreAccess u c 0x2000100 4 2) ≠ [] := by
  exact ⟨executes_core, by decide⟩

set_option maxRecDepth 50000 in
theorem witness_CoreFlow :
    (let c := (atInstr (cored someRegs)).tsuow.core
     Executes (cored someRegs) ∧ modeUM c = false ∧ condHolds c 1 = some true ∧ condHolds c 2 = some false ∧ condHolds c 15 = none ∧
     brptFault c 4 = none ∧ brptFault c 0 ≠ none ∧ c.reg 8 ≠ 0 ∧ c.reg 11 = 0 ∧ brptFault { c with fl := 0x10000, le := 0x200100 } 4 = none ∧
     listedPort 0x8004 = true ∧ portStalls (atInstr (cored someRegs)) 0x8004 = false ∧ ctlRead c 0 ≠ none ∧ ctlRead c 0x10 ≠ none ∧
     ctlRead c 0x1FFFF = none ∧ featReg 0 ≠ none ∧ featReg 0x1FFFF = none ∧ legalWord 0xFFFFFFFF = false) ∧
    (let c := (atInstr (userCore someRegs)).tsuow.core
     Executes (userCore someRegs) ∧ modeUM c = true ∧ listedPort 0x7FFF = false ∧ listedPort 0x8004 = true ∧
     portStalls (atInstr (userCore someRegs)) 0x8004 = false ∧ ctlRead c 0x10 ≠ none ∧ coreRuns (userCore someRegs) = true) ∧
    (modeEL { Core.reset with mode := 8 } = true ∧ xILLEGAL ≠ xINTERRUPT ∧ modeEL Core.reset = false ∧ ready.tsuow.current = none ∧
      ready.upd.phase ≠ 0 ∧ someRegs.repeatEnd.stopped = false ∧ ready.tsuow.restarting = false) ∧
    ({ someRegs with endPending := true, lc := 2 } : Core).endPending = true := by
  exact ⟨⟨executes_core, by decide⟩, ⟨executes_user, by decide⟩, by decide, rfl⟩

set_option maxRecDepth 50000 in
set_option exponentiation.threshold 600 in
theorem witness_CoreVector :
    let s := cored someRegs
    let u := atInstr s
    let c := u.tsuow.core
    Executes s ∧ keysRise s.tsuow.core.g = true ∧ keysRise s.tsuow.core.v = true ∧ keysRise s.tsuow.core.k = true ∧
    keysRise s.iso.mem = true ∧ keysRise s.kreg.lks = true ∧ vqOf { c with vqLo := 0x00030003, vqHi := 3 } (vWidth 1) % 2 = 1 ∧
    vqOf c (vWidth 1) % 2 = 0 ∧ ((0 : BitVec 3).getLsbD 0 = false ∧ (1 : BitVec 3).getLsbD 0 = true) ∧
    dCheck c (c.reg 9) 64 (vWidth 2 / 8) = .inr 0x2000100 ∧ refusedAs u (coreAccess u c 0x2000100 64 1) = [] ∧
    refusedAs u (coreAccess u c 0x2000100 64 2) = [] ∧ inLks 0x2000100 = false ∧ ctxAt? 0x2000100 = none ∧
    (∀ j, j < vCount (vWidth 3) → dCheck c (c.reg 9 + BitVec.ofNat 32 (vElem (vWidth 3) j (c.vec 1))) (vWidth 3 / 8) (vWidth 3 / 8) = .inr 0x2000100) ∧
    refusedAs u (coreAccess u c 0x2000100 8 1) = [] ∧ refusedAs u (coreAccess u c 0x2000100 8 2) = [] := by
  exact ⟨executes_core, by decide⟩
/-! ### Witnesses: service cells, entropy -/

/-- A call of entry point 0 of cell 5, from this colour. -/
def aCall (colour aux2 : Nat) : Entry :=
  { aJob 0x0C00 .waiting with colour := colour, desc := { aDesc 0x0C00 with key2 := 5, outLen := 8192, aux2 := aux2 } }

/-- An image with one entry point at 0. -/
def someImage : Bytes := [0x5A, 0x4B, 0x53, 0x50, 1, 1, 0, 1, 0, 0x10] ++ zeros 6 ++ [4, 0, 0, 0, 0, 0, 0, 0, 0, 0, 0, 0, 0, 1, 0, 0] ++ zeros 8 ++
  zeros 2 ++ List.replicate 30 0xFF ++ zeros 8 ++ zeros 4

/-- Cell 5 of tenant 0 with this record, the supervisor up. -/
def celled (c : Cell) (s : State) : State :=
  withObjs [(at_ Obj.SVC_CELL_TENANT 5, 0), (at_ Obj.SVC_CELL_VKEY 5, 1)] (setCell 5 c s)

set_option maxRecDepth 50000 in
theorem witness_ServiceCells_rows :
    (Deciding .supervisor (at_ Obj.SVC_CELL_LOAD 5) [1] (cellLoadRule 5 (celled Cell.reset ready)) (celled Cell.reset ready) ∧
     Deciding .supervisor (at_ Obj.SVC_CELL_RESET 5) [1] (cellResetRule 5 (celled Cell.reset ready)) (celled Cell.reset ready)) ∧
    (keysRise ready.dict.obj = true ∧ imgFormatOk [] = false ∧ imgFormatOk someImage = true) ∧
    (let s := fun c => withJob (aCall 0x1000 0) (celled c ready)
     entry? (s Cell.reset) 8191 = some (aCall 0x1000 0) ∧ supervisorUp (s Cell.reset) = true ∧
     (0x1000 : Nat) = 0x1000 + cellTenant (s Cell.reset) 5 ∧ (0x1001 : Nat) ≠ 0x1000 + cellTenant (s Cell.reset) 5 ∧
     (cell (s Cell.reset) 5).st = .empty ∧ (cell (s { Cell.reset with st := .fenced }) 5).st = .fenced ∧
     entryDefined (cell (s { Cell.reset with st := .ready }) 5).loaded 0 = false ∧
     (let r := s { Cell.reset with st := .ready, loaded := someImage }
      (cell r 5).st = .ready ∧ entryDefined (cell r 5).loaded 0 = true ∧ earlierCall r (aCall 0x1000 0) 5 = false ∧ callPaused r 5 = false)) := by
  exact ⟨⟨deciding_of (by decide), deciding_of (by decide)⟩, by decide, by decide⟩

/-- A running call of cell 5 on the core, with these registers and this sub-job. -/
def calling (c : Cell) : State :=
  let s := celled { c with st := .running, call := some 8191 } (withJob (aCall 0x1000 0) (userCore { someRegs with g := [(1, 0x10), (2, 8)] }))
  setEntry 9000 { aJob 0x0813 .ended with origin := .cell 5 } { s with tsuow := { s.tsuow with current := some 5 } }

set_option maxRecDepth 50000 in
theorem witness_ServiceCells_calls :
    (let s := calling Cell.reset
     Executes s ∧ modeUM (atInstr s).tsuow.core = true ∧ s.tsuow.current = some 5 ∧
     (cell s 5).call = some 8191 ∧ entry? s 8191 = some (aCall 0x1000 0) ∧ (s.tsuow.core.reg 2).toNat ≤ (aCall 0x1000 0).desc.outLen ∧
     exitStatus (s.tsuow.core.reg 1).toNat = some .inputInvalid ∧ (cell s 5).subResult = none ∧ (cell s 5).subjob = none ∧ supervisorUp s = true) ∧
    (Executes (cored someRegs) ∧ modeUM (atInstr (cored someRegs)).tsuow.core = false) ∧
    (let s := calling { Cell.reset with subjob := some 9000 }
     (cell s 5).subjob = some 9000 ∧ (cell s 5).waiting = false ∧ (cell (calling { Cell.reset with subjob := some 9000, waiting := true }) 5).waiting = true ∧
     (∃ y, entry? s 9000 = some y ∧ y.phase = .ended) ∧ (cell (calling { Cell.reset with subResult := some (0, 0, 0) }) 5).subResult = some (0, 0, 0)) ∧
    (ready.upd.phase ≠ 0 ∧ ready.tsuow.restarting = false ∧ (warmRestart ready).tsuow.restarting = true ∧
      (warmRestart ready).tsuow.restarts.getLast? = some 0) := by
  refine ⟨⟨⟨by decide, by decide, by decide⟩, by decide⟩, ⟨executes_core, by decide⟩, ⟨by decide, by decide, by decide, ⟨_, rfl, by decide⟩, by decide⟩, by decide⟩

/-- Cell 5 loads that image: its verification job has ended. -/
def loadingCell : State := celled { Cell.reset with st := .loading, loading := some (.empty, someImage) } (patched ready)
def aVerification : Entry := { aJob 0x0205 .ended with origin := .load 5 }

theorem witness_ServiceCells_load :
    (let s := celled Cell.reset (patched (keyed (aKey 2 3 uVERIFY true)))
     (∃ key, loadChecks s 5 someImage = .inr key) ∧ unitMissing s 0x0205 = false) ∧
    (let s := loadingCell
     (cell s 5).loading = some (.empty, someImage) ∧ keysRise s.tsuow.cells = true ∧
     (placeOr 5 someImage (setCell 5 { cell s 5 with st := .empty, loading := none } s)).2 = 2) ∧
    (let s := withJob aVerification loadingCell
     entry? s 8191 = some aVerification ∧ aVerification.origin = .load 5 ∧ aVerification.phase = .ended ∧ outputHeld s aVerification = false) ∧
    (cell (withJob (aCall 0x1000 0) loadingCell) 5).st = .loading := by
  exact ⟨⟨⟨_, rfl⟩, unitMissing_patched (c := 0) (by decide) (by decide) (by decide) (by decide)⟩, by decide, by decide, by decide⟩

/-- The entropy source is so. -/
def rnged (r : RngSt) : State := { ready with rng := r }

set_option maxRecDepth 50000 in
theorem witness_EntropySource :
    (rnged { RngSt.reset with st := .ready }).rng.st = .ready ∧ (rnged { RngSt.reset with st := .failed }).rng.st = .failed ∧
    ((rnged { RngSt.reset with st := .startup }).rng.st = .startup ∧ keysRise ready.pke.slices = true ∧
      (rnged { RngSt.reset with st := .startup }).rng.attempts < 2 ∧ 2 ≤ (rnged { RngSt.reset with st := .startup, attempts := 2 }).rng.attempts) ∧
    (rnged { RngSt.reset with st := .retest }).rng.st = .retest ∧
    Deciding .supervisor Obj.ERR_RNG_REINIT [1] (rngReinitRule ready [1]) ready ∧
    (let s := rnged { RngSt.reset with st := .ready, drbg := [(3, { Drbg.reset with pending := true })] }
     s.rng.st = .ready ∧ nextReseed s = some 3 ∧ keysRise s.rng.drbg = true) ∧
    (let x := { aJob 0x0A30 .waiting with desc := { aDesc 0x0A30 with outLen := 32 } }
     let s := withJob x (rnged { RngSt.reset with st := .ready })
     entry? s 8191 = some x ∧ unitHead s 0x0A = some 8191 ∧ s.rng.st = .ready ∧ (withJob x ready).rng.st ≠ .ready ∧
     entry? (withJob x ready) 8191 = some x ∧ unitHead (withJob x ready) 0x0A = some 8191) ∧
    ∃ w, accessor ready ⟨.supervisor, .read, Obj.RNG_READ, []⟩ = some w ∧
      readCheck (takeReq ⟨.supervisor, .read, Obj.RNG_READ, []⟩ ready) w Obj.RNG_READ = none ∧ serverUp ready = true := by
  exact ⟨by decide, by decide, by decide, by decide, deciding_of (by decide), by decide, by decide, ⟨_, rfl, by decide, by decide⟩⟩
/-! ### Witnesses: tamper, card -/

/-- Source `n` with this configuration: enabled, this level, N events within a window. -/
def sourced (n cfg : Nat) (x : Source) (f : TmpSt → TmpSt) : State :=
  let s := withObjs [(at_ Obj.TMP_SRC_CFG n, cfg)] ready
  setSource n x { s with tmp := f s.tmp }

/-- EN, this LEVEL, N, W 1 s, FILTER 2. -/
def aCfg (level n : Nat) : Nat := 2 ^ 63 + level * 2 ^ 56 + n * 2 ^ 48 + 1000 * 2 ^ 32 + 2 * 2 ^ 8

/-- A card of officer 4 in this step. -/
def carded (step : CardStep) (session : Option Nat) : State :=
  let s := { ready with rng := { ready.rng with st := .ready } }
  { s with tmp := { s.tmp with card := { Card.reset with seated := true, st := .activating, step := step, session := session } } }

set_option maxRecDepth 50000 in
theorem witness_TamperEvents :
    (let s := sourced 17 (aCfg 3 2) Source.reset id
     mayEvent s 17 = true ∧ heldSource 17 = false ∧ inputSource 17 = false ∧ cfgEn (srcCfg s 17) = true ∧
     ((source s 17).times.filter (fun a => decide (0 ≤ a + ms (cfgW (srcCfg s 17)))) ++ [0]).length < cfgN (srcCfg s 17) ∧
     s.tmp.onCell = false ∧ heldLevel s < 5 ∧ keysRise s.tmp.sources = true ∧ (source s 17).run + 1 < cfgFilter (srcCfg s 17)) ∧
    (let s := sourced 17 (aCfg 3 1) { Source.reset with run := 1 } id
     cfgEn (srcCfg s 17) = true ∧ cfgN (srcCfg s 17) ≤ ((source s 17).times.filter (fun a => decide (0 ≤ a + ms (cfgW (srcCfg s 17)))) ++ [0]).length ∧
     cfgFilter (srcCfg s 17) ≤ (source s 17).run + 1) ∧
    (let s := sourced 1 (aCfg 3 2) Source.reset id
     mayEvent s 1 = true ∧ heldSource 1 = true ∧ cfgEn (srcCfg s 1) = true) ∧
    (mayEvent (sourced 17 (aCfg 3 2) { Source.reset with stuck := true } id) 17 = false ∧ inputSource 17 = false) ∧
    (let s := sourced 14 (aCfg 3 1) Source.reset (fun t => { t with onCell := true })
     s.tmp.onCell = true ∧ cfgLevel (srcCfg s 14) ≠ 0 ∧ s.tmp.latch.length ≤ 16 ∧ s.tmp.aonStopped = false ∧ keysRise s.tmp.sources = true ∧
     (source s 14).run + 1 < cfgFilter (srcCfg s 14)) ∧
    (sourced 17 (aCfg 3 2) Source.reset (fun t => { t with holdUntil := some 7 })).tmp.holdUntil = some 7 ∧
    (ready.tmp.aonStopped = false ∧ ready.tmp.onCell = false ∧ ready.pwr.supplies = true) ∧
    mayEvent (sourced 16 (aCfg 5 1) Source.reset id) 16 = true ∧
    (inputSource 10 = true ∧ (source (sourced 10 (aCfg 3 1) { Source.reset with active := true } id) 10).active = true ∧
      (source (sourced 10 (aCfg 3 1) { Source.reset with stuck := true } id) 10).stuck = true ∧
      (source (sourced 10 (aCfg 3 1) { Source.reset with changesAt := some 0 } id) 10).changesAt = some 0 ∧
      cfgEn (srcCfg (sourced 10 (aCfg 3 1) { Source.reset with changesAt := some 0 } id) 10) = true ∧
      (source (sourced 10 (aCfg 3 1) { Source.reset with chatter := true } id) 10).chatter = true) ∧
    (sourced 10 (aCfg 3 1) Source.reset (fun t => { t with pulseUntil := some 7 })).tmp.pulseUntil = some 7 ∧
    (let e : HeldEvent := { source := 1, value := 0, at_ := 0, due := 9 }
     (sourced 1 (aCfg 3 1) Source.reset (fun t => { t with heldEvents := [e] })).tmp.heldEvents = [e]) ∧
    ((549 : Nat) < 550 ∧ (600 : Nat) < 1450) := by decide

set_option maxRecDepth 50000 in
theorem witness_TamperCommands :
    Deciding .supervisor (at_ Obj.TMP_SRC_CFG 2) (leBytes 8 (aCfg 3 1)) (cfgRule 2 (leBytes 8 (aCfg 3 1)) ready) ready ∧
    Deciding .supervisor Obj.TMP_LOCK [1] (cmdRule (lockObjs tmpLocked)) ready ∧
    Deciding .supervisor Obj.TMP_RELEASE [0] (releaseRule [0] ready) ready ∧
    Deciding .supervisor Obj.TMP_AON_CLEAR [1] (cmdRule clearLatch) ready ∧
    Deciding .supervisor Obj.TMP_QUORUM_CANCEL [1] (cmdRule dropAct) ready ∧
    Deciding .supervisor (at_ Obj.TMP_OFF_KEY_ID 4) (leBytes 32 7) (enrolRule 4 (leBytes 32 7) ready) ready ∧
    ((carded .none_ (some 4)).tmp.card.session = some 4 ∧ ready.tmp.card.seated = false ∧ slotWorks ready = true) ∧
    ((carded (.atr false) none).tmp.card.step = .atr false ∧ (carded .select none).tmp.card.step = .select ∧
      (carded .getKeys none).tmp.card.step = .getKeys ∧ rngReady (carded .getKeys none) = true ∧ (zeros 2049).length = 2049 ∧
      (carded (.login 4 []) none).tmp.card.step = .login 4 [] ∧
      (carded (.approve Obj.TMP_RELEASE [1] [] false) (some 4)).tmp.card.step = .approve Obj.TMP_RELEASE [1] [] false ∧
      (carded (.approve Obj.TMP_RELEASE [1] [] false) (some 4)).tmp.card.session = some 4 ∧
      (carded (.fill []) (some 4)).tmp.card.step = .fill [] ∧ (carded .none_ (some 4)).tmp.card.step = .none_ ∧
      (carded .none_ (some 4)).tmp.card.seated = true) ∧
    (let f : Fill := { handle := 1, components := 2, done := 0, officers := [], startedAt := 0 }
     let s := carded (.component []) (some 4)
     let t := { s with kreg := { s.kreg with fill := some f, slots := [(1, aKey 8 32 uDERIVE false)], working := [(cardSecret, [])] } }
     t.tmp.card.step = .component [] ∧ secret? t cardSecret = some [] ∧ t.tmp.card.session = some 4 ∧ t.kreg.fill = some f ∧
     mget? t.kreg.slots 1 = some (aKey 8 32 uDERIVE false) ∧ component [] [] [] (aKey 8 32 uDERIVE false).data.length = none) := by
  exact ⟨deciding_of (by decide), deciding_of (by decide), deciding_of (by decide), deciding_of (by decide), deciding_of (by decide),
    deciding_of (by decide), by decide, by decide, by decide⟩

/-- A signed FILL statement: where both signatures verify. -/
theorem witness_TamperCommands_signed (keys stmt sig : Bytes) (hl : sig.length = 3405)
    (h1 : dsaOk 2 (keys.take 1952) (ascii "zk-officer") stmt (sig.take 3309) = true) (h2 : p384Ok (keys.drop 1952) stmt (sig.drop 3309) = true) :
    cardSigned keys stmt sig = true := by simp [cardSigned, hl, h1, h2]

/-- A component whose tag is right. -/
theorem witness_TamperCommands_component (stmt dk c : Bytes) (hc : c.length = 1088) :
    component stmt dk (c ++ gcmTag (kmac256 (primOut (.mlkemDecaps 2) [dk, c] 32) stmt (ascii "ZKFILL")) (zeros 12) stmt []) 0 ≠ none := by
  have h1 : ∀ x : Bytes, (c ++ x).take 1088 = c := fun x => by rw [← hc]; exact List.take_left
  have h2 : ∀ x : Bytes, (c ++ x).drop 1088 = x := fun x => by rw [← hc]; exact List.drop_left
  have h3 : ∀ k, (gcmTag k (zeros 12) stmt []).length = 16 := fun k => by simp [gcmTag, primOut]
  have h4 : ∀ x : Bytes, slice x 1088 0 = [] := fun x => by simp [slice, fitBytes, zeros]
  simp [component, h1, h2, h3, h4, hc]
/-! ### Witnesses: life cycle, resets, update, power, containment -/

/-- The life cycle is in this state, with a nonce drawn and a challenge made. -/
def lifed (l : LifeState) : State :=
  let s := { ready with rng := { ready.rng with st := .ready } }
  { s with lc := { s.lc with st := l, nonce := some (zeros 32, 5), challenge := some (zeros 64, 5) } }

/-- A request for TEST in RAW under the held nonce, signed by Dwesy. -/
def aRequest : Bytes := [0x5A, 0x4B, 0x4C, 0x43, 1, 0, BitVec.ofNat 8 (lifeCode .test), 1] ++ zeros 16 ++ zeros 32 ++ zeros 8

/-- Where its signatures verify the request passes every check. -/
theorem witness_requestFault (h : requestSigned (lifed .raw) aRequest = true) : requestFault (lifed .raw) aRequest = none := by
  have h1 : lifeOf (byteAt aRequest 6) = some .test := by decide
  have h2 : (decide (aRequest.take 4 ≠ [0x5A, 0x4B, 0x4C, 0x43]) || decide (byteAt aRequest 4 ≠ 1) ||
      decide (byteAt aRequest 7 ≠ 1 ∧ byteAt aRequest 7 ≠ 2) || !(allZero (slice aRequest 56 8))) = false := by decide
  have h3 : ¬ (byteAt aRequest 5 ≠ lifeCode (lifed .raw).lc.st ∨ (!(transitionOk (lifed .raw) .test (byteAt aRequest 7))) = true) := by decide
  have h4 : ¬ (slice aRequest 8 16 ≠ fitBytes 16 (lifed .raw).lc.otp.unitId) := by decide
  have h5 : ¬ ((lifed .raw).lc.nonce.map (·.1) ≠ some (slice aRequest 24 32)) := by decide
  have h6 : precondition (lifed .raw) .test = true := by decide
  simp only [requestFault, h1, h2, h]
  rw [if_neg (by decide), if_neg h3, if_neg h4, if_neg h5, if_neg (by decide), h6]
  rfl

set_option maxRecDepth 50000 in
theorem witness_LifeCycleAndDebug :
    Deciding .supervisor Obj.LC_NONCE_NEW [1] (nonceRule (lifed .raw)) (lifed .raw) ∧
    (rngReady (lifed .raw) = true ∧ (lifed .raw).lc.nonce = some (zeros 32, 5)) ∧
    requestFault ready [] = some 4 ∧
    transitionOk (lifed .raw) .test 1 = true ∧
    (lifeOf (byteAt aRequest 6) = some .test ∧ precondition { lifed .raw with lc := { (lifed .raw).lc with request := aRequest } } .test = true) ∧
    Deciding .supervisor Obj.LC_BIST [1] (bistRule true ready) ready ∧
    Deciding .supervisor Obj.LC_DBG_CHALLENGE_NEW [1] (challengeRule [1] (lifed .mission)) (lifed .mission) ∧
    tokenOk [] [] ready = false ∧ keysRise ready.dict.obj = true ∧
    (ready.pwr.supplies = true ∧ ready.lc.extest = false ∧ (debugTap ready = true ∧ (ready.lc.debugOpen = true → inDebugScope ready 0x80 = true)) ∧
      debugTap (lifed .mission) = false ∧ ({ ready with lc := { ready.lc with extest := true } } : State).lc.extest = true) := by
  exact ⟨deciding_of (by decide), by decide, by decide, by decide, by decide, deciding_of (by decide), deciding_of (by decide),
    by decide, by decide, by decide, by decide, ⟨by decide, fun h => absurd h (by decide)⟩, by decide, by decide⟩

/-- Officers are enrolled and all but the last have approved this act, which the session of slot 0 writes. -/
def approved_ (obj : ObjId) : State :=
  let s := withObjs [(at_ Obj.TMP_OFF_KEY_ID 0, 5), (at_ Obj.TMP_OFF_KEY_ID 1, 9), (Obj.TMP_QUORUM_K, 2)] inSession
  { s with tmp := { s.tmp with act := some { obj := obj, data := zeros 32, approvers := [9], firstAt := 0 } } }

set_option maxRecDepth 50000 in
theorem witness_LifeCycleAndDebug_acts :
    let w : Who := { caller := .session 0 7, roles := 6, tenant := 0, approver := 0 }
    accessor (approved_ Obj.LC_APPLY) ⟨.session 0 7, .write, Obj.LC_APPLY, zeros 32⟩ = some w ∧
    Deciding (.session 0 7) Obj.LC_APPLY (zeros 32) (applyRule w (zeros 32) (approved_ Obj.LC_APPLY)) (approved_ Obj.LC_APPLY) := by
  exact ⟨by decide, deciding_of (by decide)⟩

/-- A token that answers a challenge of zeros, and the device in MISSION that holds it. -/
def aToken : Bytes := [0x5A, 0x4B, 0x44, 0x54, 1, 0, 3] ++ zeros 57
def challenged : State :=
  { patched (lifed .mission) with lc := { (lifed .mission).lc with challenge := some ([0, 0, 0, 0, 1, 0, 7] ++ zeros 57, 5), request := aToken } }

/-- Its signatures can be verified. -/
theorem challenged_units (s : State) (hf : classFenced s 0 = false ∧ classFenced s 2 = false)
    (hp : objVal s (Obj.PKE_PATCH_STATE + 0) = 1 ∧ objVal s (Obj.PKE_PATCH_STATE + 2) = 1) :
    unitMissing s 0x0205 = false ∧ unitMissing s 0x0605 = false :=
  ⟨unitMissing_patched (c := 0) (by decide) hf.1 hp.1 (by decide), unitMissing_patched (c := 2) (by decide) hf.2 hp.2 (by decide)⟩

/-- Where its signatures verify the token is good. -/
theorem witness_tokenOk (h1 : dsaOk 3 ddasDsa (ascii "zk-ddas") (aToken.take 64) (slice aToken 64 4627) = true)
    (h2 : p384Ok ddasEc (aToken.take 64) (slice aToken 4691 96) = true) : tokenOk (sha3_256 aToken) aToken challenged = true := by
  have e : challenged.lc.challenge = some ([0, 0, 0, 0, 1, 0, 7] ++ zeros 57, 5) := rfl
  obtain ⟨u1, u2⟩ := challenged_units challenged (by decide) (by decide)
  simp only [tokenOk, e, h1, h2, u1, u2, Bool.and_eq_true, decide_eq_true_eq, Bool.not_eq_true']
  decide

/-- Two officers are enrolled and one has approved opening debug with that token: the session of slot 0 gives the last approval. -/
def lastOpen (data : Bytes) : State :=
  let s := withObjs [(at_ Obj.TMP_OFF_KEY_ID 0, 5), (at_ Obj.TMP_OFF_KEY_ID 1, 9), (Obj.TMP_QUORUM_K, 2)] challenged
  { s with dict := { s.dict with sessions := [(0, aSession)] },
           tmp := { s.tmp with act := some { obj := Obj.LC_DBG_OPEN, data := data, approvers := [9], firstAt := 0 } } }

set_option maxRecDepth 50000 in
theorem witness_LC_DBG_OPEN (h1 : dsaOk 3 ddasDsa (ascii "zk-ddas") (aToken.take 64) (slice aToken 64 4627) = true)
    (h2 : p384Ok ddasEc (aToken.take 64) (slice aToken 4691 96) = true) :
    let d := sha3_256 aToken
    Deciding (.session 0 7) Obj.LC_DBG_OPEN d (openRule (.session 0 7) d (lastOpen d)) (lastOpen d) := by
  have hd : (sha3_256 aToken).length = 32 := primOut_length _ _ _
  have hx : ∀ d, d = sha3_256 aToken → tokenOk d aToken (dropAct (begun (.session 0 7) Obj.LC_DBG_OPEN d (lastOpen d))) = true := by
    intro d hd
    have e : (dropAct (begun (.session 0 7) Obj.LC_DBG_OPEN d (lastOpen d))).lc.challenge = some ([0, 0, 0, 0, 1, 0, 7] ++ zeros 57, 5) := rfl
    obtain ⟨u1, u2⟩ := challenged_units (dropAct (begun (.session 0 7) Obj.LC_DBG_OPEN d (lastOpen d))) ⟨rfl, rfl⟩ ⟨rfl, rfl⟩
    simp only [tokenOk, e, h1, h2, u1, u2, Bool.and_eq_true, decide_eq_true_eq, Bool.not_eq_true']
    exact ⟨⟨⟨⟨⟨⟨⟨⟨⟨⟨⟨hd, by decide⟩, by decide⟩, by decide⟩, by decide⟩, trivial⟩, trivial⟩, trivial⟩, trivial⟩, of_decide_eq_true rfl⟩, rfl⟩, rfl⟩
  dsimp only
  have hx := hx _ rfl
  generalize sha3_256 aToken = d at hd hx
  have hl : liveAct (begun (.session 0 7) Obj.LC_DBG_OPEN d (lastOpen d)) =
      some { obj := Obj.LC_DBG_OPEN, data := d, approvers := [9], firstAt := 0 } := rfl
  have hp : actPending (begun (.session 0 7) Obj.LC_DBG_OPEN d (lastOpen d)) Obj.LC_DBG_OPEN d = true := by
    unfold actPending; rw [hl]; exact decide_eq_true ⟨rfl, rfl⟩
  have ho : otherAct (begun (.session 0 7) Obj.LC_DBG_OPEN d (lastOpen d)) Obj.LC_DBG_OPEN d = false := by unfold otherAct; rw [hp]; simp
  have ha : actedOn (.session 0 7) Obj.LC_DBG_OPEN d (openRule (.session 0 7) d (lastOpen d)) (lastOpen d) =
      dropAct (begun (.session 0 7) Obj.LC_DBG_OPEN d (lastOpen d)) := by
    unfold actedOn
    rw [if_pos ⟨rfl, by simp⟩, if_pos hp]
  refine ⟨{ caller := .session 0 7, roles := 6, tenant := 0, approver := 0 }, ⟨rfl, rfl⟩, ?_, fun _ => .inr ⟨rfl, ?_⟩, .inl ⟨rfl, by simp, hp⟩, ?_, ?_⟩
  · have hr : roleChecks (begun (.session 0 7) Obj.LC_DBG_OPEN d (lastOpen d)) { caller := .session 0 7, roles := 6, tenant := 0, approver := 0 }
        Obj.LC_DBG_OPEN (openRule (.session 0 7) d (lastOpen d)) = none := by with_unfolding_all exact of_decide_eq_true rfl
    unfold writeChecks
    rw [hr, ho]
    have hf : findObj Obj.LC_DBG_OPEN = some ⟨0x301, 0x301, 4, 4, "LC_DBG_OPEN", .bytes, 32, .cmd, 4, 4, .none_, 0, false, 0, 0, false, [], 0⟩ := by
      decide
    rw [hf]
    simp [lengthOk, encLen, rangeOk, hd, openRule]
  · unfold lastApproval approvals
    rw [hl]
    simp only [and_self, if_true]
    rfl
  · rw [ha]; exact not_refused _ _ rfl (.inr rfl)
  · rw [ha]; exact if_pos hx

/-- A reset is scheduled, a bundle is staged, and so on. -/
def someBundle : Bytes :=
  [0x5A, 0x4B, 0x4D, 0x46, 1, 1, 0, 0, 0, 0, 0, 0, 1, 0] ++ zeros 50 ++ ([1] ++ zeros 31) ++
    sha384 (gcmXor (kmac256 imageKey (zeros 16) (ascii "ZKIMG")) (zeros 12) []) ++
    gcmTag (kmac256 imageKey (zeros 16) (ascii "ZKIMG")) (zeros 12) ([1] ++ zeros 31) []

set_option maxRecDepth 50000 in
/-- Where its two signatures verify, the bundle passes every check. -/
theorem someBundle_good (h : signaturesOk someBundle = true) : bundleErr Otp.blank someBundle = none := by
  have h1 : formatErr someBundle = none := by decide
  have h2 : isaOk someBundle = true := by decide
  have h3 : (mfEntries someBundle).findIdx? (fun e => decide (enSecver e < otpSecver Otp.blank (enType e))) = none := by decide
  have h4 : bodyOk someBundle (mfEntry someBundle 0) = true := by
    have a : decide (gcmTag (bundleKey someBundle) (slice (mfEntry someBundle 0) 20 12) ((mfEntry someBundle 0).take 32)
      (bodyCt someBundle (mfEntry someBundle 0)) = slice (mfEntry someBundle 0) 80 16) = true := decide_eq_true rfl
    have b : decide (sha384 (bodyPlain someBundle (mfEntry someBundle 0)) = enHash (mfEntry someBundle 0)) = true := decide_eq_true rfl
    unfold bodyOk
    rw [a, b]
    rfl
  have h5 : mfEntries someBundle = [mfEntry someBundle 0] := rfl
  simp only [bundleErr, h1, h, h2, h3]
  rw [h5]
  simp [List.findIdx?_cons, h4]

/-- The update's state is this, with this bundle staged, recorded with its hash. -/
def updated (st : Nat) (b : Bytes) (f : UpdSt → UpdSt) : State :=
  { ready with upd := f { ready.upd with staging := b, recA := recBytes { ActRec.blank with state := st, hash := sha384 b } } }

theorem actRec_updated (st : Nat) (b : Bytes) : actRec (updated st b id) = ({ ActRec.blank with state := st, hash := sha384 b } : ActRec).held := by
  have hb : readRec ready.upd.recB = none := rfl
  unfold actRec updated
  dsimp only [id]
  rw [readRec_recBytes, hb]

theorem updState_updated {st : Nat} (h : st < 256) (b : Bytes) : updState (updated st b id) = st := by
  unfold updState; rw [actRec_updated]; exact Nat.mod_eq_of_lt h

theorem seq_updated (st : Nat) (b : Bytes) : (actRec (updated st b id)).seq + 8 < 2 ^ 32 := by
  rw [actRec_updated]; show 0 + 8 < 2 ^ 32; omega

set_option maxRecDepth 50000 in
theorem witness_ResetsAndCastOn :
    Deciding .supervisor Obj.ERR_RESET [0xA5] (errResetRule ready) ready ∧
    ({ ready with rec_ := { ready.rec_ with scheduled := some (3, 7) } } : State).rec_.scheduled = some (3, 7) ∧
    (ready.pwr.supplies = true ∧ ready.rec_.resetLow = false ∧ ({ ready with rec_ := { ready.rec_ with resetLow := true } } : State).rec_.resetLow = true ∧
      objVal (withObjs [(Obj.ERR_PERST_RESET, 1)] ready) Obj.ERR_PERST_RESET = 1 ∧ objVal ready Obj.ERR_PERST_RESET ≠ 1) ∧
    State.reset.pwr.supplies = false ∧
    (let s := { State.reset with pwr := { State.reset.pwr with supplies := true } }
     s.pwr.supplies = true ∧ s.upd.phase = 0 ∧ s.rec_.resetLow = false ∧ decodeLife s.lc.otp ≠ .scrap ∧
     decodeLife { Otp.blank with state0 := 0xFF, state1 := 0xFF } = .scrap) ∧
    (lifed .rma).lc.st = .rma ∧ (lifed .scrap).lc.st = .scrap ∧ bundleErr ready.lc.otp [] ≠ none := by
  exact ⟨deciding_of (by decide), by decide, by decide, by decide, by decide, by decide, by decide, by decide⟩

/-- An activation whose staged bundle's signatures verify meets every premise. -/
theorem witness_ResetsAndCastOn_stepA (h : signaturesOk someBundle = true) :
    let s := updated 6 someBundle id
    (actRec s).seq + 8 < 2 ^ 32 ∧ bundleErr s.lc.otp s.upd.staging = none ∧ sha384 s.upd.staging = (actRec s).hash ∧
      (actRec s).activeBad = false ∧ s.upd.noTrial = false := by
  refine ⟨seq_updated _ _, someBundle_good h, ?_, ?_, rfl⟩
  · rw [actRec_updated]; exact (fitBytes_self (primOut_length _ _ _)).symm
  · rw [actRec_updated]; rfl

/-- A chunk of one byte at the start. -/
def aChunk : Bytes := [0x5A, 0x4B, 0x43, 0x48, 0, 0, 0, 0, 1, 0, 0, 0, 0, 0, 0, 0, 9]

set_option maxRecDepth 50000 in
theorem witness_UpdateCommands :
    Deciding .supervisor Obj.UPD_STAGE_BEGIN [1] (stageBeginRule ready) ready ∧ (actRec ready).seq + 1 < 2 ^ 32 ∧
    (let a : AccessCmd := ⟨.supervisor, .writeBlockLast, Obj.UPD_STAGE_CHUNK, aChunk⟩
     aChunk.length = 17 ∧ serverUp ready = true ∧
     ∃ w, accessor ready a = some w ∧ writeCheck (takeReq a ready) w Obj.UPD_STAGE_CHUNK = none) ∧
    ((updated 3 [7] (fun u => { u with verifyAt := some 5 })).upd.verifyAt = some 5 ∧
      bundleErr (updated 3 [7] id).lc.otp (updated 3 [7] id).upd.staging ≠ none) ∧
    ((updated 6 [7] id).upd.phase = 7 ∧ (updated 6 [7] id).tmp.held = 0 ∧
      ({ ready with tmp := { ready.tmp with held := 3 } } : State).tmp.held ≠ 0 ∧ keysRise ready.lc.otp.secver = true ∧
      (updated 7 [7] (fun u => { u with trialUntil := some 5 })).upd.trialUntil = some 5) := by
  exact ⟨deciding_of (by decide), by decide, ⟨by decide, by decide, _, rfl, by decide⟩, by decide, by decide⟩

theorem witness_UpdateCommands_chunk :
    chunkEnd (updated 1 [] id) aChunk true = .ok ∧ chunkEnd (updated 1 [7] id) aChunk true = .check ∧ updState (updated 6 [7] id) = 6 := by
  refine ⟨?_, ?_, updState_updated (by decide) _⟩ <;> unfold chunkEnd <;> rw [updState_updated (by decide)] <;> decide

/-- UPD_VERIFY, UPD_ACTIVATE_AT, UPD_CANCEL and UPD_CONFIRM are carried out in the states that allow them. -/
theorem witness_UpdateCommands_states :
    Deciding .supervisor Obj.UPD_VERIFY (leBytes 4 1) (verifyRule (leBytes 4 1) (updated 1 [7] id)) (updated 1 [7] id) ∧
    Deciding .supervisor Obj.UPD_ACTIVATE_AT (leBytes 8 0) (activateRule (leBytes 8 0) (updated 4 [7] id)) (updated 4 [7] id) ∧
    Deciding .supervisor Obj.UPD_CANCEL [1] (cancelRule (updated 6 [7] id)) (updated 6 [7] id) ∧
    Deciding .supervisor Obj.UPD_CONFIRM [1] (confirmRule (updated 7 [7] id)) (updated 7 [7] id) := by
  unfold verifyRule activateRule cancelRule confirmRule
  simp only [updState_updated (show (1 : Nat) < 256 by decide), updState_updated (show (4 : Nat) < 256 by decide),
    updState_updated (show (6 : Nat) < 256 by decide), updState_updated (show (7 : Nat) < 256 by decide)]
  exact ⟨deciding_of (by decide), deciding_of (by decide), deciding_of (by decide), deciding_of (by decide)⟩

/-- A gauge whose slack suffices at 1,200 MHz from 700 mV. -/
def aGauge : GaugeData := { slack := [(1200, 700, 60), (1200, 850, 90)], dividers := [8], years := 10 }

/-- The power tree is so. -/
def powered (f : PwrSt → PwrSt) : State :=
  let s := withObjs [(Obj.PWR_SLICE_GATE, 1)] ready
  setSlice 35 { Slice.reset with st := .idle } { s with pwr := f { s.pwr with linear16 := some (-12) } }

set_option maxRecDepth 50000 in
theorem witness_PowerAndClocks :
    (ready.pwr.supplies = true ∧ ready.upd.phase = 7 ∧ keysRise ready.dict.obj = true ∧ ready.upd.phase ≠ 0) ∧
    Deciding .supervisor Obj.PWR_REPLAN [1] (replanRule aGauge ready) ready ∧
    (700 ∈ planVolts ∧ ((50 : Nat) : Int) ≤ slackAt aGauge 1200 700 ∧ 1200 ∈ planClocks 900 ∧ ((50 : Nat) : Int) ≤ slackAt aGauge 1200 850) ∧
    (let r : PlanRun := { plan := { mhz := 1200, mv := 700, divider := 8 }, margin := 60, years := 10, state := 0, rngLow := false }
     let s := powered (fun p => { p with plan := some r })
     s.pwr.plan = some r ∧ nextVolt s r.plan = some 700) ∧
    (let s := powered (fun p => { p with voutAt := some 4, writePending := true })
     s.pwr.voutAt = some 4 ∧ s.pwr.writePending = true ∧ s.pwr.writeTries < 3 ∧
     3 ≤ (powered (fun p => { p with writeTries := 3 })).pwr.writeTries ∧ keysRise s.dict.obj = true) ∧
    ((slice_ (powered id) 35).st = .idle ∧ (idleAt (powered id) (slice_ (powered id) 35).idleSince).sliceGate = 1 ∧ keysRise (powered id).pke.slices = true) ∧
    ((powered (fun p => { p with pllRunning := true })).pwr.pllRunning = true ∧ (powered (fun p => { p with pllRunning := true })).pwr.clockGated = false ∧
      engineBusy (powered id) = false) ∧
    (let s := powered (fun p => { p with clockGated := true })
     let t := { s with tsuow := { s.tsuow with core := { s.tsuow.core with retention := true } } }
     t.pwr.clockGated = true ∧ (port t 0).st = .down ∧ (port t 1).st = .down ∧ t.tsuow.core.retention = true) ∧
    (supervisorUp ready = true ∧ ready.upd.phase = 7 ∧ ready.dict.queue = [] ∧ ready.tsuow.current = none ∧ ready.tsuow.readyQ = []) ∧
    Deciding .supervisor Obj.PWR_RTC (leBytes 8 9) (rtcRule (leBytes 8 9)) ready := by
  exact ⟨by decide, deciding_of (by decide), by decide, by decide, by decide, by decide, by decide, by decide, by decide, deciding_of (by decide)⟩

/-- Unit `u` may be re-initialised or is being so. -/
def reiniting (u : ReUnit) : State := { ready with rec_ := { ready.rec_ with reinit := some u } }

set_option maxRecDepth 50000 in
theorem witness_Reinitialisation :
    Deciding .supervisor Obj.ERR_SLICE_REINIT [35] (reinitRule (.slice (leNat [35])) ready) ready ∧
    Deciding .supervisor Obj.ERR_REQ_REINIT [36] (reinitRule (.requester (leNat [36])) ready) ready ∧
    Deciding .supervisor Obj.ERR_DIG_REINIT [3] (reinitRule (.digest (leNat [3])) ready) ready ∧
    Deciding .supervisor Obj.ERR_PIPE_REINIT [1] (reinitRule (.pipe (leNat [1])) ready) ready ∧
    ((reiniting (.slice 35)).rec_.reinit = some (.slice 35) ∧ (reiniting (.slice 35)).rec_.reinit.isSome = true ∧ ReUnit.slice 35 ≠ .rng ∧
      keysRise ready.dig.units = true ∧ keysRise ready.sp.pipes = true ∧ reinitBusy ready (.slice 35) = false) := by
  exact ⟨deciding_of (by decide), deciding_of (by decide), deciding_of (by decide), deciding_of (by decide), by decide⟩
/-! ### Each check of WellFormed refuses an ill-formed command -/

set_option maxRecDepth 20000 in
theorem smoke_wellFormed :
    ([.inboundDmaComplete 8255 [], .spCBind .supervisor 8191 4095, .ringEnableSet (.session 7 0) 4111, .protect 1 63 []] : List Instr).all
      wellFormed = true ∧
    ([.inboundDmaComplete 8256 [], .spCBind .supervisor 8192 0, .spCBind .supervisor 0 4096, .ringEnableSet .window 4112,
      .ringEnableSet (.session 8 0) 0, .spEnableSet .window 2, .protect 0 64 [], .scrubTakeover 36, .subjobComplete 64,
      .tamperEvent 24 .none_ 0 false, .officerEnrolWrite .window 16 [], .principalEnrolWrite .window 32 1 [], .principalEnrolWrite .window 0 5 [],
      .oapSetupTimeout 8, .digestQuantumEnd 4, .unitWdogBite 5, .extestExit 4, .dwinWrite 2048, .keyExpiry 0, .memoryEccError 0 false .none_,
      .pipelineReinitDone 8, .cardSelect 65536, .dispatch 4, .debugInstruction ⟨0x7F, 0, []⟩ 0, .mgPhyConfigWrite .window 8 [] 0,
      .tenantQuotaWrite .window 0 256 [], .digMeasOwnerWrite .window 32 [], .rngTestFail 6 0 0 0, .notify 0 (2 ^ 24) 0, .benchRequest 16 0 [], .generate 8256,
      .registerWrite (.bar0 2 0)] : List Instr).all (fun i => !wellFormed i) = true := by decide

/-! ### The spec's own examples, and small checks -/

set_option maxRecDepth 20000 in
/-- The word of the VGATH of "a gather in cell 5" is a defined one. -/
theorem test_vgath_word : legalWord 0x82A27002 = true := by decide

/-- R224 and the example "a lattice slice that will not finish": an ML-KEM-1024 DECAPS is bitten after 4 × 33,000 cycles. -/
theorem test_decaps_limit : (cmdSpec ready 0x1000 false { aDesc 0x0103 with pset := 3 }).map (fun c => (c.wdog, c.wdogIter, c.resume)) = some (132000, 0, 0) := by decide

/-- "The quay site signs": 70,000 + 60 cycles of an ML-DSA-87 VERIFY of 206 bytes of context and statement. -/
theorem test_verify_cycles : dsaVerifyCyc 3 + dsaExtra 0 6 200 = 70060 := by decide

/-- "The quay site signs": an ML-KEM-1024 key whose first coefficient is 3,329 is invalid; with 3,328 it is valid. -/
theorem test_kem_key : coeffsOk [0x01, 0x0D, 0x00] = false ∧ coeffsOk [0x00, 0x0D, 0x00] = true := by decide

set_option maxRecDepth 20000 in
/-- The CRC-8 of R280 of the ASCII digits 1 to 9 (its generally known check value). -/
theorem test_crc8 : crc8 [0x31, 0x32, 0x33, 0x34, 0x35, 0x36, 0x37, 0x38, 0x39] = 0xF4 := by decide

/-- "The north site at year six": the plan falls to 1,175 MHz and 835 mV with a margin of 6.20 %. -/
theorem test_plan :
    let m : GaugeData := { slack := [(1200, 850, 570), (1175, 850, 766), (1175, 835, 620), (1175, 830, 570)], dividers := [8], years := 74 }
    (makePlan m 600 900 0).plan = { mhz := 1175, mv := 835, divider := 8 } ∧ (makePlan m 600 900 0).margin = 620 := by decide

/-- R7: the TIME64 of 1 March 2031, 06:00:00.5 UTC as bytes. -/
theorem test_time64 : leBytes 8 0x0000730B28E08000 = [0x00, 0x80, 0xE0, 0x28, 0x0B, 0x73, 0x00, 0x00] := by decide

/-- R468: ADD of 0xFFFF_FFFF and 1 gives 0 with Z and C; of 0x7FFF_FFFF and 1 sets N and V. -/
theorem test_add_wraps :
    (match exec (.add 1 8 9) (cored { Core.reset with g := [(8, 0xFFFFFFFF), (9, 1)] }) with
      | .next t => decide (t.tsuow.core.reg 1 = 0 ∧ t.tsuow.core.fl &&& 0xF = 0x5 ∧ t.tsuow.core.pc = 0x200004)
      | _ => false) = true := by decide

/-- A reset of the device through the queue: the commands leave it in order. -/
theorem test_queue : (match step { ready with pending := [.nop, .selfReset 0] } with
    | .next t => decide (t.pending = [.selfReset 0])
    | _ => false) = true := by decide

set_option maxRecDepth 50000 in
/-- The record and the rebuild of the example after R289: HSS with two levels H10, W4, NEXT 1,502. -/
theorem test_record_17 : sealRecord 1502 3 = { next := 1502, gen := 3, crc := 0x59 } := by decide

set_option maxRecDepth 50000 in
theorem test_rebuild :
    (htsLevels 2 0x203060306).map (fun ls => (htsSignCyc 2 ls, htsKeygenCyc 2 ls, 960 + rebuildCost (htsHeight ls) 1502 true ls)) =
      some (32000, 2040000, 2476440) := by decide

set_option maxRecDepth 50000 in
/-- The base point of P-256 (SP 800-186) is accepted, and with another first byte it is refused (R303). -/
theorem test_p256 :
    let xy := beBytes 32 0x6B17D1F2E12C4247F8BCE6E563A440F277037D812DEB33A0F4A13945D898C296 ++
      beBytes 32 0x4FE342E2FE1A7F9B8EE7EB4A7C0F9E162BCE33576B315ECECBB6406837BF51F5
    pointBad 1 (4 :: xy) = false ∧ pointBad 1 (3 :: xy) = true := by decide

set_option maxRecDepth 50000 in
/-- The base point of Ed25519 (RFC 8032) is accepted; the neutral element and the point of order 2 are of small order (R304). -/
theorem test_ed25519 :
    pointBad 6 (0x58 :: List.replicate 31 0x66) = false ∧ pointBad 6 (1 :: zeros 31) = true ∧
    pointBad 6 (leBytes 32 (2 ^ 255 - 20)) = true := by decide
end Sys2Proof.Tests
end

section
/-!
PROOFS. An access asked for through the window's DWIN_CMD (R58, R59), and a write of an object (R8, R9, R673).
-/
namespace Sys2Proof.Machine

/-! ### The window's commands -/

/-- The access that DWIN_CMD asks for: the window's registers and the roles of DWIN_ROLE as they are now (R9, R58). -/
def windowRequest (op : AccOp) (len : Nat) (s : State) : AccessReq :=
  { caller := .window, roles := windowRoles s, tenant := 0, approver := approverId s .window, op := op,
    obj := s.dict.win.index.toNat * 256 + s.dict.win.sub.toNat, offset := s.dict.win.offset.toNat,
    total := s.dict.win.total.toNat, len := len, data := winBytes s 0 (min len 1024) ++ zeros (len - 1024) }

/-- The window is BUSY with access `r`, which waits behind those accepted before it (R58). -/
def windowAsked (r : AccessReq) (s : State) : State :=
  { s with dict := { s.dict with win := { s.dict.win with busy := true }, queue := s.dict.queue ++ [r] } }

theorem command_of_idle (op : AccOp) (len : Nat) {s : State} (hs : s.pwr.supplies = true) (hb : s.dict.win.busy = false) :
    command op len s = windowAsked (windowRequest op len s) s := by
  simp [command, hs, hb, windowAsked, windowRequest]

theorem command_of_busy (op : AccOp) (len : Nat) {s : State} (hs : s.pwr.supplies = true) (hb : s.dict.win.busy = true) :
    command op len s = setWin { s.dict.win with overrun := true } s := by
  simp [command, hs, hb]

theorem exec_dwinRead (s : State) : exec .dwinRead s = .next (command .read 0 s) := rfl

theorem exec_dwinReadBlock (s : State) : exec .dwinReadBlock s = .next (command .readBlock 0 s) := rfl

/-- LEN of DWIN_CMD has 11 bits (R58). -/
theorem exec_dwinWrite (len : Nat) (s : State) : exec (.dwinWrite len) s = .next (command .write (len % 2048) s) := rfl

theorem exec_dwinWriteBlock (len : Nat) (s : State) : exec (.dwinWriteBlock len) s = .next (command .writeBlock (len % 2048) s) := rfl

theorem exec_dwinWriteBlockLast (len : Nat) (s : State) :
    exec (.dwinWriteBlockLast len) s = .next (command .writeBlockLast (len % 2048) s) := rfl

/-! ### The write of an object -/

/-- Where a write's turn has come, the rule that applies is the one for the roles the access was accepted with. -/
theorem ruleFor_of_turn {c : Caller} {id : ObjId} {data : Bytes} {w : Who} {s : State} (h : Turn c id data w s) (f : Who → WriteRule) :
    ruleFor s ⟨c, .write, id, data⟩ f = f w := by
  obtain ⟨_, hw⟩ := h
  simp only [ruleFor, hw]

theorem exec_registerWrite_object (c : Caller) (idx sub : Nat) (data : Bytes) (env : ApplyEnv) (s : State)
    (h : idx * 256 + sub % 256 ≠ Obj.UPD_STAGE_CHUNK) :
    let id := idx * 256 + sub % 256
    exec (.registerWrite (.object c idx sub data env)) s =
      .next (writeAccess c id data (ruleFor s ⟨c, .write, id, data⟩ (fun w => writeRule env w id data s)) s) :=
  congrArg Host.Outcome.next (if_neg h)

theorem plainRule_act {id : ObjId} {o : ObjDesc} (ho : findObj id = some o) (data : Bytes) (s : State) :
    (plainRule id data).act s = setObj id (maskedVal o data) s := by
  simp only [plainRule, ho]

end Sys2Proof.Machine

open Sys2Proof Sys2Proof.Machine

/-- Settles O7: each of the five commands is `command` with its operation and LEN, and BUSY alone decides which of its two
effects it has. -/
theorem windowCommands : Obligations.WindowCommands := by
  unfold Obligations.WindowCommands
  refine ⟨fun s hs hb => ⟨?_, ?_, fun len hlen => ⟨?_, ?_, ?_⟩⟩, fun s i hs hb hi => ?_⟩
  · rw [exec_dwinRead, command_of_idle _ _ hs hb]; rfl
  · rw [exec_dwinReadBlock, command_of_idle _ _ hs hb]; rfl
  · rw [exec_dwinWrite, Nat.mod_eq_of_lt hlen, command_of_idle _ _ hs hb]; rfl
  · rw [exec_dwinWriteBlock, Nat.mod_eq_of_lt hlen, command_of_idle _ _ hs hb]; rfl
  · rw [exec_dwinWriteBlockLast, Nat.mod_eq_of_lt hlen, command_of_idle _ _ hs hb]; rfl
  · have dropped : ∀ op len, Host.Outcome.next (command op len s) =
        (.next (setWin { s.dict.win with overrun := true } s) : Host.Outcome State Fault Refusal) :=
      fun op len => congrArg _ (command_of_busy op len hs hb)
    rcases hi with rfl | rfl | ⟨n, rfl⟩ | ⟨n, rfl⟩ | ⟨n, rfl⟩
    · exact dropped .read 0
    · exact dropped .readBlock 0
    · exact dropped .write (n % 2048)
    · exact dropped .writeBlock (n % 2048)
    · exact dropped .writeBlockLast (n % 2048)

/-- Settles O12: the turn fixes the rule, a write that is Deciding performs the rule's act, and the plain rule's act is one
`setObj`. -/
theorem objectWrite : Obligations.ObjectWrite := by
  unfold Obligations.ObjectWrite
  refine ⟨fun c idx sub data env w s => ?_, fun id o data s ho hk => ?_⟩
  · intro id hid hturn hdec
    rw [exec_registerWrite_object c idx sub data env s hid, ruleFor_of_turn hturn, writeAccess_of_deciding hdec]
  · rw [plainRule_act ho]
    exact setObj_same id (maskedVal o data) s hk
end

section
/-!
PROOFS. What a write of a BAR0 register does, the guard of R59 and the notification queue (R58, R59, R61, R173).
-/
namespace Sys2Proof.Machine

/-! ### Register writes -/

theorem exec_registerWrite_bar0 (off : Nat) (v : Word) {s : State} (hs : s.pwr.supplies = true) :
    exec (.registerWrite (.bar0 off v)) s = .next (writeReg off v s) :=
  congrArg Host.Outcome.next (if_pos hs)

theorem guarded_of_busy (f : Window → Window) {s : State} (hb : s.dict.win.busy = true) :
    guarded f s = setWin { s.dict.win with overrun := true } s := if_pos hb

theorem guarded_of_idle (f : Window → Window) {s : State} (hb : s.dict.win.busy = false) :
    guarded f s = setWin (f s.dict.win) s := by
  simp [guarded, hb]

theorem writeReg_gctrl (v : Word) (s : State) : writeReg 0 v s = setRun (v.getLsbD 0) s := rfl

theorem writeReg_addr (v : Word) (s : State) :
    writeReg 0x400 v s = guarded (fun w => { w with index := (v >>> 8).truncate 16, sub := v.truncate 8 }) s := rfl

theorem writeReg_offset (v : Word) (s : State) : writeReg 0x404 v s = guarded (fun w => { w with offset := v }) s := rfl

theorem writeReg_cmd (v : Word) (s : State) :
    writeReg 0x408 v s = command (accOp (bits v.toNat 15 13)) (bits v.toNat 10 0) s := rfl

theorem writeReg_total (v : Word) (s : State) : writeReg 0x40C v s = guarded (fun w => { w with total := v }) s := rfl

/-- A doubleword of DWIN_DATA. -/
theorem writeReg_data {off : Nat} (v : Word) (s : State) (h1 : 0x1000 ≤ off) (h2 : off < 0x1400) (h3 : off % 4 = 0) :
    writeReg off v s = guarded (fun w => { w with data := putBytes w.data (off - 0x1000) (leBytes 4 v.toNat) }) s := by
  unfold writeReg
  iterate 10 rw [if_neg (by omega)]
  rw [if_pos ⟨h1, h2, h3⟩]

theorem readReg_data {off : Nat} (s : State) (h1 : 0x1000 ≤ off) (h2 : off < 0x1400) :
    readReg s off = if s.dict.win.busy then 0 else leNat (winBytes s (off - 0x1000) 4) := by
  unfold readReg
  iterate 7 rw [if_neg (by omega)]
  rw [if_pos ⟨h1, h2⟩]

theorem setRun_eq (run : Bool) (s : State) :
    setRun run s = if run = true ∧ s.ring.run = false then renewPolls { s with ring := { s.ring with run := run } }
      else { s with ring := { s.ring with run := run } } := by
  unfold setRun
  cases run <;> cases h : s.ring.run <;> rfl

/-! ### DWIN_DATA -/

/-- Four bytes of DWIN_DATA that were just written. -/
theorem winBytes_putBytes {s : State} {m : Tab Byte} {a : Nat} {b : Bytes} (hd : s.dict.win.data = putBytes m a b)
    (hk : keysRise m = true) : winBytes s a b.length = b := by
  unfold winBytes
  rw [hd]
  refine List.ext_getElem (by simp) (fun i _ h2 => ?_)
  rw [List.getElem_map, List.getElem_range, tget_putBytes _ _ _ _ hk, if_pos ⟨by omega, by omega⟩, Nat.add_sub_cancel_left,
    List.getD_eq_getElem?_getD, List.getElem?_eq_getElem h2, Option.getD_some]

/-- A doubleword written into DWIN_DATA is read back, and no other byte changes. -/
theorem putBytes_doubleword (v : Word) (m : Tab Byte) (a : Nat) (hk : keysRise m = true) (s : State) :
    leNat (winBytes (setWin { s.dict.win with data := putBytes m a (leBytes 4 v.toNat) } s) a 4) = v.toNat ∧
      ∀ k, (k < a ∨ a + 4 ≤ k) → tget (fun _ => 0) (putBytes m a (leBytes 4 v.toNat)) k = tget (fun _ => 0) m k := by
  constructor
  · have h := winBytes_putBytes (s := setWin { s.dict.win with data := putBytes m a (leBytes 4 v.toNat) } s) rfl hk
    rw [leBytes_length] at h
    rw [h, leNat_leBytes]
    exact Nat.mod_eq_of_lt v.isLt
  · intro k hk'
    rw [tget_putBytes _ _ _ _ hk, if_neg (by rw [leBytes_length]; omega)]

/-! ### Notifications -/

/-- Where nothing is subscribed, looking at the watched values changes nothing. -/
theorem lookAround_of_none {s : State} (h : subscriptions s = []) : lookAround s = s := by
  unfold lookAround; rw [h]; rfl

theorem exec_dwinNtfPop (v : Word) {s : State} (hs : s.pwr.supplies = true) :
    exec (.dwinNtfPop v) s = .next (lookAround (setWin { s.dict.win with queue := s.dict.win.queue.tail } s)) := by
  rw [← List.drop_one]
  exact congrArg Host.Outcome.next (if_pos hs)

theorem noticed_win (id : ObjId) (s : State) : (noticed id s).dict.win = s.dict.win.noticed (windowNotified s id) id := rfl

end Sys2Proof.Machine

open Sys2Proof Sys2Proof.Machine

/-- Settles O8: every register that R59 names is written through `guarded`, DWIN_CMD through `command`, and both drop the write while
BUSY. -/
theorem windowGuard : Obligations.WindowGuard := by
  unfold Obligations.WindowGuard
  refine ⟨fun s off v hs hb hoff => ?_, fun s off hb h1 h2 => ?_⟩
  · rw [exec_registerWrite_bar0 off v hs]
    refine congrArg Host.Outcome.next ?_
    rcases hoff with rfl | rfl | rfl | rfl | ⟨h1, h2, h3⟩
    · rw [writeReg_addr]; exact guarded_of_busy _ hb
    · rw [writeReg_offset]; exact guarded_of_busy _ hb
    · rw [writeReg_cmd]; exact command_of_busy _ _ hs hb
    · rw [writeReg_total]; exact guarded_of_busy _ hb
    · rw [writeReg_data v s h1 h2 h3]; exact guarded_of_busy _ hb
  · rw [readReg_data s h1 h2, if_pos hb]

/-- Settles O9: one register after the other, and DWIN_NTF_POP. -/
theorem registerWrites : Obligations.RegisterWrites := by
  unfold Obligations.RegisterWrites
  refine ⟨fun s v hs => ?_, fun v s hs => exec_dwinNtfPop v hs, fun v s hs hn => ?_⟩
  · intro w wr win ran
    have hwr : ∀ off, wr off = .next (writeReg off v s) := fun off => exec_registerWrite_bar0 off v hs
    refine ⟨?_, hwr 0xC, hwr 0x14, hwr 0x410, hwr 0x414, fun hb => ⟨?_, ?_, ?_, fun off h1 h2 h3 hk => ?_⟩⟩
    · rw [hwr, writeReg_gctrl, setRun_eq]
    · rw [hwr, writeReg_addr, guarded_of_idle _ hb]; rfl
    · rw [hwr, writeReg_offset, guarded_of_idle _ hb]; rfl
    · rw [hwr, writeReg_total, guarded_of_idle _ hb]; rfl
    · obtain ⟨hread, hothers⟩ := putBytes_doubleword v w.data (off - 0x1000) hk s
      refine ⟨putBytes w.data (off - 0x1000) (leBytes 4 v.toNat), ?_, ?_, hothers⟩
      · rw [hwr, writeReg_data v s h1 h2 h3, guarded_of_idle _ hb]; rfl
      · rw [readReg_data _ h1 h2, if_neg (by simp [win, w, hb])]
        exact hread
  · exact (exec_dwinNtfPop v hs).trans (congrArg Host.Outcome.next (lookAround_of_none hn))

/-- Settles O10: `Window.noticed` decides by subscription, presence in the queue and room, in this order. -/
theorem notificationQueue : Obligations.NotificationQueue := by
  unfold Obligations.NotificationQueue
  intro id s q t
  have ht : t = s.dict.win.noticed (windowNotified s id) id := noticed_win id s
  have unsubscribed : windowNotified s id = false → t.queue = q ∧ t.ntfLost = s.dict.win.ntfLost := by
    intro hn; rw [ht, hn]; exact ⟨rfl, rfl⟩
  have present : windowNotified s id = true → id ∈ q → t.queue = q ∧ t.ntfLost = s.dict.win.ntfLost := by
    intro hn hq
    have : t = { s.dict.win with st := s.dict.win.st.touched id } := by
      rw [ht, hn]; exact if_pos hq
    rw [this]; exact ⟨rfl, rfl⟩
  have full : windowNotified s id = true → id ∉ q → 64 ≤ q.length → t.queue = q ∧ t.ntfLost = true := by
    intro hn hq hl
    have : t = { s.dict.win with ntfLost := true, st := s.dict.win.st.touched id } := by
      rw [ht, hn]; exact (if_neg hq).trans (if_pos hl)
    rw [this]; exact ⟨rfl, rfl⟩
  have room : windowNotified s id = true → id ∉ q → q.length < 64 → t.queue = q ++ [id] ∧ t.ntfLost = s.dict.win.ntfLost := by
    intro hn hq hl
    have : t = { s.dict.win with queue := q ++ [id], st := s.dict.win.st.touched id } := by
      rw [ht, hn]; exact (if_neg hq).trans (if_neg (Nat.not_le.mpr hl))
    rw [this]; exact ⟨rfl, rfl⟩
  refine ⟨fun hn => ⟨present hn, full hn, room hn⟩, unsubscribed, fun hlen hnodup => ?_⟩
  by_cases hn : windowNotified s id = true
  · by_cases hq : id ∈ q
    · rw [(present hn hq).1]; exact ⟨hlen, hnodup⟩
    · rcases Nat.lt_or_ge q.length 64 with hl | hl
      · rw [(room hn hq hl).1]
        refine ⟨by rw [List.length_append, List.length_singleton]; omega, ?_⟩
        have hone : [id].Nodup := List.nodup_cons.mpr ⟨List.not_mem_nil, List.nodup_nil⟩
        exact List.nodup_append.mpr ⟨hnodup, hone, fun a ha b hb => by
          rw [List.mem_singleton.mp hb]; exact fun e => hq (e ▸ ha)⟩
      · rw [(full hn hq hl).1]; exact ⟨hlen, hnodup⟩
  · rw [(unsubscribed (by simpa using hn)).1]; exact ⟨hlen, hnodup⟩
end

section
/-!
PROOFS. Writes that a check refuses (R673), the commands of the dictionary area, and the settings store (R47–R57, R65, R553, R672).
-/
namespace Sys2Proof.Machine

/-! ### A write and a read whose turn has come -/

theorem writeAccess_of_turn {c : Caller} {id : ObjId} {data : Bytes} {w : Who} {s : State} (h : Turn c id data w s) (r : WriteRule) :
    writeAccess c id data r s = deliverWrite c .write id (serveWrite w id data r (begun c id data s)) := by
  obtain ⟨hup, hw⟩ := h
  simp only [writeAccess, inTurn, hup, hw, begun]

/-- A read that checks 2 and 3 permit answers what its object's own rule serves. -/
theorem readAccess_permitted {c : Caller} {id : ObjId} {w : Who} {s : State} (hup : serverUp s = true)
    (hw : accessor s ⟨c, .read, id, []⟩ = some w) (hc : readCheck (takeReq ⟨c, .read, id, []⟩ s) w id = none)
    (serve : State → Result × Bytes × State) :
    readAccess c id serve s =
      (let p := serve (takeReq ⟨c, .read, id, []⟩ s)
       deliver c .read id p.1 0 none p.2.1 p.2.2) := by
  simp only [readAccess, inTurn, hup, hw, hc]

/-! ### The checks of R673 -/

theorem roleChecks_of_object (s : State) (w : Who) {id : ObjId} {o : ObjDesc} (r : WriteRule) (ho : findObj id = some o) :
    roleChecks s w id r =
      if served s id = false ∨ concealed s w.roles w.tenant id o = true then some .noObject
      else if mayWrite s w.caller w.roles w.tenant id o = false ∨ r.denied = true then some .notPermitted
      else if o.acc = .ro ∨ (o.acc = .rwl ∧ id ∈ s.dict.locked) ∨ r.lock = true then some .readOnly
      else none := by
  unfold roleChecks writeCheck
  rw [ho]
  dsimp only
  by_cases hconcealed : served s id = false ∨ concealed s w.roles w.tenant id o = true
  · rw [if_pos hconcealed, if_pos (by simpa using hconcealed)]
    simp
  · rw [if_neg hconcealed, if_neg (by simpa using hconcealed)]
    cases hmay : mayWrite s w.caller w.roles w.tenant id o
    · simp
    · by_cases hro : o.acc = .ro ∨ (o.acc = .rwl ∧ id ∈ s.dict.locked) <;> cases r.denied <;> simp [hro, or_assoc.symm]

theorem writeChecks_of_object (s : State) (w : Who) {id : ObjId} {o : ObjDesc} (data : Bytes) (r : WriteRule)
    (ho : findObj id = some o) :
    writeChecks s w id data r =
      match roleChecks s w id r with
      | some e => some e
      | none =>
        if lengthOk o data = false then some .badLength
        else if r.held = true then some .held
        else if r.busy = true ∨ (r.critical = true ∧ otherAct s id data = true) then some .busy
        else if rangeOk o data = false ∨ r.bad = true then some .badValue
        else none := by
  unfold writeChecks
  rw [ho]
  cases roleChecks s w id r <;> simp

/-- A refused write of the supervisor firmware or the window, or of no pending act, changes nothing but the refusal counter (R57). -/
theorem serveWrite_of_refused {w : Who} {id : ObjId} {data : Bytes} {r : WriteRule} {e : Result} {s : State}
    (h : writeChecks s w id data r = some e) (hc : w.caller = .supervisor ∨ w.caller = .window ∨ actPending s id data = false) :
    serveWrite w id data r s = (countRefused w id e s, some e) := by
  have hs : (if w.caller = .supervisor || fromWindow w.caller then s else failedLast id data w.approver e s) = s := by
    rcases hc with hc | hc | hc
    · simp [hc]
    · simp [hc, fromWindow]
    · simp [failedLast, hc]
  unfold serveWrite
  rw [h]
  dsimp only
  rw [hs]

theorem writeAccess_of_refused {c : Caller} {w : Who} {id : ObjId} {data : Bytes} {r : WriteRule} {e : Result} {s : State}
    (ht : Turn c id data w s) (h : writeChecks (begun c id data s) w id data r = some e)
    (hc : c = .supervisor ∨ c = .window ∨ actPending (begun c id data s) id data = false) :
    writeAccess c id data r s = deliver c .write id e 0 none [] (countRefused w id e (begun c id data s)) := by
  have hwc : w.caller = c := accessor_caller ht.2
  rw [writeAccess_of_turn ht, serveWrite_of_refused h (by rwa [hwc])]
  rfl

/-! ### What a write of the store leaves as it was -/

theorem setObj_store (id : ObjId) (v : Nat) (s : State) : (setObj id v s).dict.store = s.dict.store := by
  unfold setObj; dsimp only; split <;> rfl
theorem setObj_areaA (id : ObjId) (v : Nat) (s : State) : (setObj id v s).dict.areaA = s.dict.areaA := by
  unfold setObj; dsimp only; split <;> rfl
theorem setObj_areaB (id : ObjId) (v : Nat) (s : State) : (setObj id v s).dict.areaB = s.dict.areaB := by
  unfold setObj; dsimp only; split <;> rfl
theorem setObj_storeFailReport (id : ObjId) (v : Nat) (s : State) :
    (setObj id v s).dict.storeFailReport = s.dict.storeFailReport := by
  unfold setObj; dsimp only; split <;> rfl

theorem putArea_areaA (b : Bool) (a : Bytes) (s : State) : (putArea b a s).dict.areaA = if b then s.dict.areaA else a := by
  cases b <;> rfl
theorem putArea_areaB (b : Bool) (a : Bytes) (s : State) : (putArea b a s).dict.areaB = if b then a else s.dict.areaB := by
  cases b <;> rfl
theorem putArea_store (b : Bool) (a : Bytes) (s : State) : (putArea b a s).dict.store = s.dict.store := by
  cases b <;> rfl
theorem putArea_obj (b : Bool) (a : Bytes) (s : State) : (putArea b a s).dict.obj = s.dict.obj := by
  cases b <;> rfl

theorem keysRise_putArea (b : Bool) (a : Bytes) {s : State} (h : keysRise s.dict.obj = true) :
    keysRise (putArea b a s).dict.obj = true := by rwa [putArea_obj]

/-! ### The settings store -/

/-- A store that starts is WRITING, and remembers the area it will write (R53). -/
theorem startStore_writing {s : State} (h : keysRise s.dict.obj = true) :
    objVal (startStore s) Obj.DICT_STORE_STATE = 1 :=
  setObj_same _ _ _ (keysRise_putArea _ _ h)

theorem startStore_job (s : State) :
    let seq := objVal s Obj.DICT_CFG_SEQ + 1
    (startStore s).dict.store =
      some { area := cfgSealed s (cfgBody (mfFormat s.upd.running) seq (liveSettings s)), seq := seq, startedAt := s.now } :=
  setObj_store _ _ _

theorem startStore_areaA (s : State) : (startStore s).dict.areaA = if storeToB s then s.dict.areaA else [] :=
  (setObj_areaA _ _ _).trans (putArea_areaA _ _ s)

theorem startStore_areaB (s : State) : (startStore s).dict.areaB = if storeToB s then [] else s.dict.areaB :=
  (setObj_areaB _ _ _).trans (putArea_areaB _ _ s)

theorem storeDone_objects (j : StoreJob) {s : State} (h : keysRise s.dict.obj = true) :
    objVal (storeDone j s) Obj.DICT_STORE_STATE = 2 ∧ objVal (storeDone j s) Obj.DICT_CFG_SEQ = j.seq ∧
      objVal (storeDone j s) Obj.DICT_CFG_STATE = b2n (storeToB s) := by
  unfold storeDone
  dsimp only
  have h0 : keysRise (putArea (storeToB s) j.area { s with dict := { s.dict with store := none } }).dict.obj = true :=
    keysRise_putArea _ _ h
  generalize putArea (storeToB s) j.area { s with dict := { s.dict with store := none } } = u at h0
  have h1 := keysRise_setObj Obj.DICT_CFG_STATE (b2n (storeToB s)) u h0
  have h2 := keysRise_setObj Obj.DICT_CFG_SEQ j.seq _ h1
  refine ⟨setObj_same _ _ _ h2, ?_, ?_⟩
  · rw [setObj_other _ _ (by decide) h2, setObj_same _ _ _ h1]
  · rw [setObj_other _ _ (by decide) h2, setObj_other _ _ (by decide) h1, setObj_same _ _ _ h0]

theorem storeDone_store (j : StoreJob) (s : State) : (storeDone j s).dict.store = none := by
  simp only [storeDone, setObj_store, putArea_store]

theorem storeDone_areaA (j : StoreJob) (s : State) :
    (storeDone j s).dict.areaA = if storeToB s then s.dict.areaA else j.area := by
  simp only [storeDone, setObj_areaA, putArea_areaA]

theorem storeDone_areaB (j : StoreJob) (s : State) :
    (storeDone j s).dict.areaB = if storeToB s then j.area else s.dict.areaB := by
  simp only [storeDone, setObj_areaB, putArea_areaB]

theorem storeFailed_objects {s : State} (h : keysRise s.dict.obj = true) :
    objVal (storeFailed s) Obj.DICT_STORE_STATE = 3 ∧ objVal (storeFailed s) Obj.DICT_CFG_STATE = objVal s Obj.DICT_CFG_STATE ∧
      (objVal s Obj.ERR_FLASH_WRITE + 1 < 2 ^ 32 →
        objVal (storeFailed s) Obj.ERR_FLASH_WRITE = objVal s Obj.ERR_FLASH_WRITE + 1) := by
  unfold storeFailed
  have hv : ∀ id, objVal { s with dict := { s.dict with store := none, storeFailReport := true } } id = objVal s id := fun _ => rfl
  have h0 : keysRise ({ s with dict := { s.dict with store := none, storeFailReport := true } } : State).dict.obj = true := h
  generalize ({ s with dict := { s.dict with store := none, storeFailReport := true } } : State) = u at h0 hv
  have h1 : keysRise (bump Obj.ERR_FLASH_WRITE u).dict.obj = true := keysRise_setObj _ _ u h0
  refine ⟨setObj_same _ _ _ h1, ?_, fun hw => ?_⟩
  · rw [setObj_other _ _ (by decide) h1, bump_other _ (by decide) h0, hv]
  · have hrange : objRange Obj.ERR_FLASH_WRITE = 2 ^ 32 := by decide
    rw [setObj_other _ _ (by decide) h1, bump_same _ _ h0 (by rwa [hrange, hv]), hv]

theorem storeFailed_store (s : State) : (storeFailed s).dict.store = none :=
  (setObj_store _ _ _).trans (setObj_store _ _ _)

theorem storeFailed_report (s : State) : (storeFailed s).dict.storeFailReport = true :=
  (setObj_storeFailReport _ _ _).trans (setObj_storeFailReport _ _ _)

theorem storeFailed_areaA (s : State) : (storeFailed s).dict.areaA = s.dict.areaA :=
  (setObj_areaA _ _ _).trans (setObj_areaA _ _ _)

theorem storeFailed_areaB (s : State) : (storeFailed s).dict.areaB = s.dict.areaB :=
  (setObj_areaB _ _ _).trans (setObj_areaB _ _ _)

/-- A store succeeds within 10 s, in an area that holds it (R53). -/
theorem exec_storeWriteDone_inTime {s : State} {j : StoreJob} (hj : s.dict.store = some j) (ht : s.now < j.startedAt + sec 10)
    (hl : j.area.length ≤ cfgBytes) : exec (.storeWriteDone true) s = .next (storeDone j s) := by
  have : execStoreWriteDone true s = .next (storeDone j s) := by
    unfold execStoreWriteDone
    rw [hj]
    simp only [ht, hl, decide_true, Bool.and_self, if_true]
  exact this

theorem exec_storeWriteDone_fails {s : State} {j : StoreJob} {ok : Bool} (hj : s.dict.store = some j)
    (h : ok = false ∨ j.startedAt + sec 10 ≤ s.now ∨ cfgBytes < j.area.length) :
    exec (.storeWriteDone ok) s = .next (storeFailed s) := by
  have : execStoreWriteDone ok s = .next (storeFailed s) := by
    unfold execStoreWriteDone
    rw [hj]
    refine congrArg Host.Outcome.next (if_neg ?_)
    simp only [Bool.and_eq_true, decide_eq_true_eq]
    rintro ⟨⟨h1, h2⟩, h3⟩
    rcases h with h | h | h
    · exact absurd h1 (by simp [h])
    · exact Nat.not_le.mpr h2 h
    · exact Nat.not_le.mpr h h3
  exact this

/-- DICT_STORE of one byte is HELD while an update is on trial (R55). -/
theorem writeChecks_store_held {s t : State} {w : Who} {data : Bytes} (htrial : onTrial s = true) (hl : data.length = 1)
    (hc : writeCheck t w Obj.DICT_STORE = none) : writeChecks t w Obj.DICT_STORE data (storeRule s) = some .held := by
  obtain ⟨o, ho, hty⟩ : ∃ o, findObj Obj.DICT_STORE = some o ∧ o.ty = .u8 := ⟨_, rfl, rfl⟩
  have hroles : roleChecks t w Obj.DICT_STORE (storeRule s) = none := by
    unfold roleChecks
    rw [hc]
    rfl
  have hlen : lengthOk o data = true := by simp [lengthOk, encLen, hty, hl]
  have hheld : (storeRule s).held = true := htrial
  rw [writeChecks_of_object _ _ _ _ ho, hroles]
  simp only [hlen, hheld, Bool.true_eq_false, if_false, if_true]

/-! ### The commands of the dictionary area -/

/-- The act of a write that is no critical one, and makes no check at its first write, begins where the write begins. -/
theorem actedOn_of_plain {c : Caller} {id : ObjId} {data : Bytes} {r : WriteRule} {s : State} (hcrit : r.critical = false)
    (hf : r.first = fun s => (s, true)) : actedOn c id data r s = begun c id data s := by
  unfold actedOn
  simp only [hcrit, hf, Bool.false_eq_true, false_and, if_false]

theorem exec_principalEnrolWrite (c : Caller) {p sub : Nat} (data : Bytes) (s : State) (hp : p < 32) (h1 : 1 ≤ sub) (h4 : sub ≤ 4) :
    exec (.principalEnrolWrite c p sub data) s = .next (writeAccess c (prnObj p sub) data (principalRule p sub data s) s) :=
  congrArg Host.Outcome.next (if_pos ⟨hp, h1, h4⟩)

theorem exec_mgPhyConfigWrite (c : Caller) {sub : Nat} (data : Bytes) (errs : Nat) (s : State) (h2 : 2 ≤ sub) (h7 : sub ≤ 7) :
    exec (.mgPhyConfigWrite c sub data errs) s = .next (writeAccess c (0x11000 + sub) data (phyRule sub errs data s) s) :=
  congrArg Host.Outcome.next (if_pos ⟨h2, h7⟩)

theorem exec_dictDescribe_of_turn {c : Caller} {data : Bytes} {w : Who} {s : State} (h : Turn c Obj.DICT_DESCRIBE data w s) :
    exec (.dictDescribe c data) s = .next (writeAccess c Obj.DICT_DESCRIBE data (describeRule w data) s) :=
  congrArg (fun r => Host.Outcome.next (writeAccess c Obj.DICT_DESCRIBE data r s)) (ruleFor_of_turn h (fun w => describeRule w data))

/-- DICT_OAP_ENABLE has no reserved bits. -/
theorem plainRule_oapEnable (data : Bytes) (s : State) :
    (plainRule Obj.DICT_OAP_ENABLE data).act s = setObj Obj.DICT_OAP_ENABLE (leNat data) s := by
  obtain ⟨o, ho, hmask⟩ : ∃ o, findObj Obj.DICT_OAP_ENABLE = some o ∧ o.mask = 0 := ⟨_, rfl, rfl⟩
  rw [plainRule_act ho, maskedVal, if_pos hmask]

end Sys2Proof.Machine

open Sys2Proof Sys2Proof.Machine

/-- Settles O13: a refused write is served as `serveWrite_of_refused` says, and the checks of `roleChecks` come before the others. -/
theorem checkOrder : Obligations.CheckOrder := by
  unfold Obligations.CheckOrder
  refine ⟨fun c w id data r e s => ?_, fun w id data r s o ho => ?_⟩
  · intro t hturn hchecks hc
    exact writeAccess_of_refused hturn hchecks hc
  · rw [writeChecks_of_object _ _ _ _ ho, roleChecks_of_object _ _ _ ho]
    by_cases hconcealed : served s id = false ∨ concealed s w.roles w.tenant id o = true
    · simp only [if_pos hconcealed]
    · by_cases hrole : mayWrite s w.caller w.roles w.tenant id o = false ∨ r.denied = true
      · simp only [if_neg hconcealed, if_pos hrole]
      · by_cases hlock : o.acc = .ro ∨ (o.acc = .rwl ∧ id ∈ s.dict.locked) ∨ r.lock = true
        · simp only [if_neg hconcealed, if_neg hrole, if_pos hlock]
        · simp only [if_neg hconcealed, if_neg hrole, if_neg hlock]

/-- Settles O14: a write that is Deciding performs its rule's act, and each rule's act is the effect stated. -/
theorem dictionaryCommands : Obligations.DictionaryCommands := by
  unfold Obligations.DictionaryCommands
  have done : ∀ {c : Caller} {id : ObjId} {data : Bytes} {r : WriteRule} {s : State}, Deciding c id data r s →
      Host.Outcome.next (writeAccess c id data r s) =
        (.next (writeDone c id (r.act (actedOn c id data r s))) : Host.Outcome State Fault Refusal) :=
    fun h => congrArg Host.Outcome.next (writeAccess_of_deciding h)
  refine ⟨fun c data s h => ?_, fun c data s h => ?_, fun c data w s hturn h => ?_, fun c data s h => ?_, fun c data s h => ?_,
    fun c p sub data s hp h1 h4 h => ?_, fun c sub data errs s h2 h7 h => ?_⟩
  · exact (done h).trans (by rw [actedOn_of_plain rfl rfl]; rfl)
  · exact done h
  · have hwc : w.caller = c := accessor_caller hturn.2
    rw [exec_dictDescribe_of_turn hturn, done h, actedOn_of_plain rfl rfl, ← hwc]
    rfl
  · exact (done h).trans (by rw [actedOn_of_plain rfl rfl]; rfl)
  · refine (done h).trans ?_
    rw [actedOn_of_plain rfl rfl, ← plainRule_oapEnable]
    rfl
  · rw [exec_principalEnrolWrite c data s hp h1 h4, done h]
    rfl
  · rw [exec_mgPhyConfigWrite c data errs s h2 h7, done h, actedOn_of_plain rfl rfl]
    rfl

/-- Settles O15: what `startStore`, `storeDone` and `storeFailed` leave behind, when each of them runs, and the two answers. -/
theorem settingsStore : Obligations.SettingsStore := by
  unfold Obligations.SettingsStore
  refine ⟨⟨fun s h => ?_, fun s j h hj ht hl => ?_, fun s j ok h hj hfail => ?_, fun c w s => ?_⟩, fun c w data s => ?_⟩
  · refine ⟨startStore_writing h, startStore_job s, fun hb => ⟨?_, ?_⟩, fun hb => ⟨?_, ?_⟩⟩
    · rw [startStore_areaA, hb]; rfl
    · rw [startStore_areaB, hb]; rfl
    · rw [startStore_areaB, hb]; rfl
    · rw [startStore_areaA, hb]; rfl
  · obtain ⟨hstate, hseq, hcfg⟩ := storeDone_objects j h
    exact ⟨storeDone j s, exec_storeWriteDone_inTime hj ht hl, storeDone_store j s, hstate, hseq, hcfg, storeDone_areaA j s,
      storeDone_areaB j s⟩
  · obtain ⟨hstate, hcfg, hcount⟩ := storeFailed_objects h
    exact ⟨storeFailed s, exec_storeWriteDone_fails hj hfail, storeFailed_store s, hstate, storeFailed_report s, storeFailed_areaA s,
      storeFailed_areaB s, hcfg, hcount⟩
  · intro a t hup hw hc
    have hexec : exec (.dictStoreStateRead c) s = .next (readAccess c Obj.DICT_STORE_STATE readStoreState s) := rfl
    rw [hexec, readAccess_permitted hup hw hc]
    refine ⟨fun hr => ?_, fun hr => ?_⟩
    · have hread : readStoreState t = (.storeFail, [], { t with dict := { t.dict with storeFailReport := false } }) := if_pos hr
      dsimp only
      rw [hread]
    · have hread : readStoreState t = (.done, objBytes t Obj.DICT_STORE_STATE, t) := if_neg (by simp [hr])
      dsimp only
      rw [hread]
  · intro t hturn htrial hl hcheck hc
    exact congrArg Host.Outcome.next (writeAccess_of_refused hturn (writeChecks_store_held htrial hl hcheck) hc)
end

section
/-!
PROOFS. Requests of an open OAP session (R67–R69, R76, R77), and the management port's own answers (R63–R65, R84, R85).
-/
namespace Sys2Proof.Machine

/-! ### A datagram's checks (R64–R68) -/

theorem arriving_of_heard {type : Nat} {d : Datagram} {s : State} (hears : oapHears s d = true) (hok : headerOk d.payload = true)
    (ht : omType d.payload = type) (k : Bytes → State → State) : arriving type d k s = k d.payload s := by
  simp [arriving, hears, hok, ht]

section
variable {b : Bytes} {n : Nat} {x : Session} {s : State} (hx : sessionOf s (omSession b) = some (n, x))
include hx

theorem authentic_of_replay (h : omSeq b ≤ x.seqIn) (hlast : x.seqIn ≠ 2 ^ 64 - 1) (k : Nat → Session → State → State) :
    authentic b k s = bump Obj.DICT_OAP_REPLAY s := by
  unfold authentic
  rw [hx]
  exact (if_pos h).trans (if_neg hlast)

theorem authentic_of_badTag (h : x.seqIn < omSeq b) (htag : tagOk s n b = false) (k : Nat → Session → State → State) :
    authentic b k s = bump Obj.DICT_OAP_AUTH_ERR s := by
  unfold authentic
  rw [hx]
  exact (if_neg (Nat.not_le.mpr h)).trans (if_pos (by simp [htag]))

/-- A message that passes checks 3 to 5 gives its SEQ to the session. -/
theorem authentic_of_good (h : x.seqIn < omSeq b) (htag : tagOk s n b = true) (k : Nat → Session → State → State) :
    authentic b k s = k n { x with seqIn := omSeq b } (setSession n { x with seqIn := omSeq b } s) := by
  unfold authentic
  rw [hx]
  exact (if_neg (Nat.not_le.mpr h)).trans (if_neg (by simp [htag]))

end

/-! ### Requests (R69, R76, R77) -/

theorem request_of_repeated {op : AccOp} {b : Bytes} {n type : Nat} {x : Session} {r : Bytes} {s : State}
    (h : x.lastReq = some (field (openPayload s n b) 0 2, type, r)) :
    request op b n x s = sendData n type 1 r (setSession n { x with lastAt := s.now } s) := by
  unfold request
  dsimp only
  rw [h]
  dsimp only
  rw [if_pos rfl]

theorem request_of_new {op : AccOp} {b : Bytes} {n : Nat} {x : Session} {s : State}
    (h : ∀ type r, x.lastReq ≠ some (field (openPayload s n b) 0 2, type, r)) (hroom : x.unanswered < 4) :
    request op b n x s = acceptReq n x op (openPayload s n b) s := by
  unfold request
  dsimp only
  cases hlast : x.lastReq with
  | none => exact if_neg (by omega)
  | some q =>
    obtain ⟨req, type, r⟩ := q
    have hreq : req ≠ field (openPayload s n b) 0 2 := fun e => h type r (by rw [hlast, e])
    dsimp only
    rw [if_neg hreq]
    exact if_neg (by omega)

/-- A request without a fault of R69 joins the queue. -/
theorem acceptReq_of_sound {n : Nat} {x : Session} {op : AccOp} {p : Bytes} (h : plainFault op p = none) (s : State) :
    acceptReq n x op p s =
      (let u := setSession n { x with unanswered := x.unanswered + 1, lastAt := s.now } s
       { u with dict := { u.dict with queue := s.dict.queue ++ [requestOfPlain s n x op p] } }) := by
  unfold acceptReq
  dsimp only
  rw [h]
  rfl

/-! ### The dictionary server looks around -/

/-- Whether the dictionary server runs does not depend on what it keeps itself. -/
theorem serverUp_congr {s t : State} (hu : t.upd = s.upd) (hc : t.tsuow = s.tsuow) (hl : t.lc = s.lc) : serverUp t = serverUp s := by
  simp only [serverUp, inRecovery, inScrap, hu, hc, hl]

theorem serverUp_noticedBy (slot : Nat) (id : ObjId) (s : State) : serverUp (noticedBy slot id s) = serverUp s := by
  unfold noticedBy
  split <;> exact serverUp_congr rfl rfl rfl

theorem serverUp_lookAt (s : State) (p : ObjId × ObjId) : serverUp (lookAt s p) = serverUp s := by
  unfold lookAt
  split
  · rfl
  · dsimp only
    split
    · exact serverUp_congr rfl rfl rfl
    · split
      · exact serverUp_congr rfl rfl rfl
      · exact (serverUp_noticedBy _ _ _).trans (serverUp_congr rfl rfl rfl)

theorem serverUp_lookAround (s : State) : serverUp (lookAround s) = serverUp s :=
  List.foldlRecOn (motive := fun t => serverUp t = serverUp s) _ lookAt rfl
    (fun t h p _ => (serverUp_lookAt t p).trans h)

/-! ### NOTIFY (R84, R85) -/

/-- NOTIFY first looks at the watched values. -/
theorem exec_notify (k : Nat) (obj : ObjId) (gpio : Nat) {s : State} (h : serverUp s = true) :
    exec (.notify k obj gpio) s = .next (notify k obj gpio (lookAround s)) :=
  congrArg (fun t => Host.Outcome.next (notify k obj gpio t)) (if_pos h)

/-- As whom NOTIFY reads, and when. -/
def notifyWho (k : Nat) (x : Session) : Who := { caller := .session k 0, roles := x.roles, tenant := x.tenant, approver := 0 }

section
variable {k : Nat} {x : Session} {obj : ObjId} {s : State} (hx : mget? s.dict.sessions k = some x) (hobj : obj ∈ x.changed)
  (hup : serverUp s = true) (gpio : Nat)
include hx hobj hup

theorem notify_of_readable (hr : readCheck (advanceTo (notifyFrom x obj) s) (notifyWho k x) obj = none) :
    notify k obj gpio s =
      (let s1 := advanceTo (notifyFrom x obj) s
       sendData k 0x05 1 (notifyPlain obj (readValue s1 (.session k 0) gpio obj))
        (noteRead obj (setSession k { x with changed := x.changed.erase obj, sentAt := mset x.sentAt obj s1.now } s1))) := by
  unfold notify
  rw [hx]
  dsimp only
  rw [if_neg (by simp [hobj, hup])]
  unfold notifyWho at hr
  rw [hr]

theorem notify_of_unreadable (hr : readCheck (advanceTo (notifyFrom x obj) s) (notifyWho k x) obj ≠ none) :
    notify k obj gpio s = setSession k { x with changed := x.changed.erase obj } (advanceTo (notifyFrom x obj) s) := by
  obtain ⟨e, he⟩ := Option.ne_none_iff_exists'.mp hr
  unfold notify
  rw [hx]
  dsimp only
  rw [if_neg (by simp [hobj, hup])]
  unfold notifyWho at he
  rw [he]

end

end Sys2Proof.Machine

open Sys2Proof Sys2Proof.Machine

/-- Settles O21: the four rows are `dataIn` with their TYPE and operation; SEQ and tag decide what `authentic` does, and the last
answered REQ_ID what `request` does. -/
theorem oapRequests : Obligations.OapRequests := by
  unfold Obligations.OapRequests
  intro i type op d s hi hears hok htype n x hx b p x1 t
  have hexec : exec (i d) s = .next (authentic b (request (op b) b) s) := by
    rw [← arriving_of_heard hears hok htype (fun b t => authentic b (request (op b) b) t)]
    rcases hi with ⟨rfl, rfl, rfl⟩ | ⟨rfl, rfl, rfl⟩ | ⟨rfl, rfl, rfl⟩ | ⟨rfl, rfl, rfl⟩ <;> rfl
  rw [hexec]
  refine ⟨fun hseq htag => ⟨fun ty r hlast => ?_, fun hlast hroom hsound => ?_⟩, fun hseq hused => ?_, fun hseq htag => ?_⟩
  · rw [authentic_of_good hx hseq htag]
    exact congrArg Host.Outcome.next (request_of_repeated (x := x1) (s := t) hlast)
  · rw [authentic_of_good hx hseq htag]
    exact congrArg Host.Outcome.next ((request_of_new (x := x1) (s := t) hlast hroom).trans (acceptReq_of_sound hsound t))
  · rw [authentic_of_replay hx hseq hused]
  · rw [authentic_of_badTag hx hseq htag]

/-- Settles O24: the two answers are one test each, and NOTIFY acts after `lookAround`, which leaves the server running. -/
theorem portAnswers : Obligations.PortAnswers := by
  unfold Obligations.PortAnswers
  refine ⟨fun d s hserved hpass hdst => ?_, fun d s hserved hpass hdst hown => ?_, fun k x obj gpio s => ?_⟩
  · exact congrArg Host.Outcome.next (if_pos (by simp [hserved, hpass, hdst]))
  · exact congrArg Host.Outcome.next (if_pos (by simp [hserved, hpass, hdst, hown]))
  · intro s0 hx hobj hup w s1 x1
    have hup0 : serverUp s0 = true := (serverUp_lookAround s).trans hup
    rw [exec_notify k obj gpio hup]
    exact ⟨fun hr => congrArg Host.Outcome.next (notify_of_readable hx hobj hup0 gpio hr),
      fun hr => congrArg Host.Outcome.next (notify_of_unreadable hx hobj hup0 gpio hr)⟩
end

section
/-!
PROOFS. A session's set-up: the fragments of SESSION_G1 and SESSION_G3, the answer to a whole G1, and the verdict on a whole G3
(R71–R74, R370, R438, R454).
-/
namespace Sys2Proof.Machine

/-! ### The fragments of a message (R71, R73, R74) -/

theorem exec_sessionG1 {d : Datagram} {s : State} (hears : oapHears s d = true) (hok : headerOk d.payload = true)
    (ht : omType d.payload = 0x21) (hup : supervisorUp s = true) :
    exec (.sessionG1 d) s = .next (firstMessage d d.payload s) :=
  congrArg Host.Outcome.next ((arriving_of_heard hears hok ht _).trans (if_pos hup))

theorem exec_sessionG3 {d : Datagram} {s : State} (hears : oapHears s d = true) (hok : headerOk d.payload = true)
    (ht : omType d.payload = 0x23) (hup : supervisorUp s = true) :
    exec (.sessionG3 d) s = .next (lastMessage d.payload s) :=
  congrArg Host.Outcome.next ((arriving_of_heard hears hok ht _).trans (if_pos hup))

/-- A G1 of no set-up under way begins one. -/
theorem firstMessage_begins {d : Datagram} {b : Bytes} {n : Nat} {s : State} (hid : omSession b = 0)
    (hnone : setupOfG1 s d (field (omPayload b) 0 4) = none) (hseq : omSeq b ≠ 0) (hroom : s.dict.sessions.length < 8)
    (hfree : mfree? s.dict.setups 0 8 = some n) (hfrag : fragOk (omPayload b) = true) :
    firstMessage d b s = joinG1 n (newSetup d (field (omPayload b) 0 4) (omSeq b) s.now) (omPayload b) s := by
  unfold firstMessage
  dsimp only
  rw [if_neg (fun h => h hid), hnone]
  dsimp only
  rw [if_neg hseq, if_neg (Nat.not_le.mpr hroom), hfree]
  exact if_neg (by simp [hfrag])

/-- A fragment of a G1 that is not yet whole is held. -/
theorem joinG1_of_part {n : Nat} {x y : Setup} {f : Bytes} (hg : x.g1 = []) (h : holdFrag x f = some (y, none)) (s : State) :
    joinG1 n x f s = putSetup n y s := by
  unfold joinG1
  rw [if_neg (fun e => e hg), h]

theorem lastMessage_joins {b : Bytes} {n : Nat} {x : Setup} {s : State} (hx : setupOfId s (omSession b) = some (n, x))
    (hseq : x.seqIn < omSeq b) (hfrag : fragOk (omPayload b) = true) :
    lastMessage b s = joinG3 n { x with seqIn := omSeq b } (omPayload b) s := by
  unfold lastMessage
  rw [hx]
  exact (if_neg (Nat.not_le.mpr hseq)).trans (if_neg (by simp [hfrag]))

/-! ### What decides whether a digest unit may reach a set-up's record -/

/-- The parts of the state on which the units' reach depends. -/
def reachParts (s : State) : DigSt × IsoSt × UpdSt × Tab Setup := (s.dig, s.iso, s.upd, s.dict.setups)

theorem reachParts_setObj (id : ObjId) (v : Nat) (s : State) : reachParts (setObj id v s) = reachParts s := by
  have h : (setObj id v s).dict.setups = s.dict.setups := by unfold setObj; dsimp only; split <;> rfl
  unfold reachParts
  rw [h]
  rfl

theorem reachParts_bump (id : ObjId) (s : State) : reachParts (bump id s) = reachParts s := reachParts_setObj id _ s

theorem reachParts_setDrbg (n : Nat) (d : Drbg) (s : State) : reachParts (setDrbg n d s) = reachParts s := rfl

theorem reachParts_takeSeed (s : State) : reachParts (takeSeed s) = reachParts s := by
  unfold takeSeed; dsimp only; split <;> rfl

theorem reachParts_reseed (n : Nat) (s : State) : reachParts (reseed n s) = reachParts s :=
  (reachParts_bump _ _).trans (reachParts_takeSeed s)

theorem reachParts_stallCall (n : Nat) (s : State) : reachParts (stallCall n s) = reachParts s := by
  unfold stallCall
  split
  · exact (reachParts_reseed n _).trans (reachParts_bump _ s)
  · rfl

theorem reachParts_stretch (n : Nat) (s : State) : reachParts (stretch n s) = reachParts s := by
  unfold stretch
  dsimp only
  split
  · exact reachParts_setObj _ _ _
  · rfl

theorem reachParts_drawCall (n len : Nat) (s : State) : reachParts (drawCall n len s).2 = reachParts s :=
  (reachParts_stretch n _).trans (reachParts_stallCall n s)

theorem reachParts_drawCalls (n k len : Nat) (s : State) : reachParts (drawCalls n k len s).2 = reachParts s := by
  induction k generalizing len s with
  | zero => rfl
  | succ k ih => exact (ih _ _).trans (reachParts_drawCall n _ s)

/-- Random bytes are drawn without a change to what decides a unit's reach. -/
theorem reachParts_draw (n len : Nat) (s : State) : reachParts (draw n len s).2 = reachParts s := reachParts_drawCalls n _ len s

/-- The unit that takes the next job depends on the units' jobs and fences alone. -/
theorem leastUnit?_congr {s t : State}
    (h : ∀ k, (digUnit t k).jobs = (digUnit s k).jobs ∧ (digUnit t k).fenced = (digUnit s k).fenced) :
    leastUnit? t = leastUnit? s := by
  simp only [leastUnit?, fun k => (h k).1, fun k => (h k).2]

/-- Whether an access to a set-up's record passes depends on the rules, the phase and the set-ups under way. -/
theorem checkRec_setup_congr {s t : State} (n : Nat) (a : FabAcc) (hi : t.iso = s.iso) (hu : t.upd = s.upd)
    (hs : t.dict.setups = s.dict.setups) : checkRec t (.setup n) a = checkRec s (.setup n) a := by
  unfold checkRec checkWith enabledRules recTag
  rw [hi, hu, hs]

theorem HashReach.of_reachParts {s t : State} {n colour : Nat} (h : reachParts t = reachParts s)
    (hr : HashReach s colour (.setup n)) : HashReach t colour (.setup n) := by
  obtain ⟨u, hu, hc⟩ := hr
  simp only [reachParts, Prod.mk.injEq] at h
  obtain ⟨hdig, hiso, hupd, hsetups⟩ := h
  refine ⟨u, ?_, ?_⟩
  · rw [leastUnit?_congr (s := s) (fun k => by simp only [digUnit, hdig, and_self]), hu]
  · rw [checkRec_setup_congr n _ hiso hupd hsetups, hc]

/-! ### Hashing (R369, R370) -/

theorem setupHash_of_reach {n : Nat} {s : State} (h : HashReach s 0x0002 (.setup n)) (cyc : Nat) (done : State → State) :
    ∃ u, setupHash n cyc done s = done (hashTurn u cyc s) := by
  obtain ⟨u, hu, hc⟩ := h
  refine ⟨u, ?_⟩
  unfold setupHash hashJob
  rw [hu]
  dsimp only
  rw [hc]

/-- `v` is `s` after a unit's hashing: the clock, the serial numbers and the unit's own record have moved on. -/
structure Hashed (s v : State) : Prop where
  dict : v.dict = s.dict
  kreg : v.kreg = s.kreg
  iso : v.iso = s.iso
  upd : v.upd = s.upd
  pke : v.pke = s.pke
  now : s.now ≤ v.now
  jobs : ∀ k, (digUnit v k).jobs = (digUnit s k).jobs ∧ (digUnit v k).fenced = (digUnit s k).fenced
  rise : keysRise v.dig.units = true

/-- Writing a unit's record without a change of its jobs or its fence. -/
theorem digUnit_setDigUnit_jobs {u : Nat} {x : DigUnit} {w s : State} (hw : w.dig = s.dig) (h : keysRise s.dig.units = true)
    (hj : x.jobs = (digUnit s u).jobs) (hf : x.fenced = (digUnit s u).fenced) (k : Nat) :
    (digUnit (setDigUnit u x w) k).jobs = (digUnit s k).jobs ∧ (digUnit (setDigUnit u x w) k).fenced = (digUnit s k).fenced := by
  have hk : keysRise w.dig.units = true := by rw [hw]; exact h
  by_cases e : k = u
  · subst e
    rw [setDigUnit_same k x w hk]
    exact ⟨hj, hf⟩
  · have hs : digUnit w k = digUnit s k := by simp only [digUnit, hw]
    rw [setDigUnit_other x w e hk, hs]
    exact ⟨rfl, rfl⟩

theorem keysRise_setDigUnit (u : Nat) (x : DigUnit) {w : State} (h : keysRise w.dig.units = true) :
    keysRise (setDigUnit u x w).dig.units = true :=
  keysRise_tset (fun _ => DigUnit.reset) w.dig.units u x h

theorem hashTurn_hashed (u cyc : Nat) {s : State} (h : keysRise s.dig.units = true) : Hashed s (hashTurn u cyc s) := by
  unfold hashTurn
  dsimp only
  split
  · exact ⟨rfl, rfl, rfl, rfl, rfl, Nat.le_add_right _ _, digUnit_setDigUnit_jobs rfl h rfl rfl,
      keysRise_setDigUnit _ _ h⟩
  · exact ⟨rfl, rfl, rfl, rfl, rfl, Nat.le_trans (Nat.le_max_left _ _) (Nat.le_add_right _ _), digUnit_setDigUnit_jobs rfl h rfl rfl,
      keysRise_setDigUnit _ _ h⟩

theorem Hashed.reach {s v : State} {n colour : Nat} (hv : Hashed s v) (hr : HashReach s colour (.setup n)) :
    HashReach v colour (.setup n) := by
  obtain ⟨u, hu, hc⟩ := hr
  have hsetups : v.dict.setups = s.dict.setups := by rw [hv.dict]
  exact ⟨u, by rw [leastUnit?_congr hv.jobs, hu], by rw [checkRec_setup_congr n _ hv.iso hv.upd hsetups, hc]⟩

/-! ### The answer to a whole G1 (R71, R454) -/

/-- In suite 4 nothing is classical: a G1 that the responder can answer is answered by a G2 under a SESSION_ID, and its secrets are kept. -/
theorem answerG1_of_able {n : Nat} {x : Setup} {m : Bytes} {s : State} (hsuite : gmSuite m = 4) (hmsg : mgMsgOk 1 4 (g1Len 4) m = true)
    (hable : canRespond s 4 m = true) (hr : HashReach s 0x0002 (.setup n)) :
    ∃ (sid id : Nat) (g2 keys : Bytes) (w : State),
      let g := sendG2 { x with g1 := m, sessionId := sid } id g2 w
      answerG1 n x m s = keepSecret (setupSecret n) keys (putSetup n g.1 g.2) := by
  have hagree : ∀ t, mgAgree 4 m t = ([], [], t) := fun _ => rfl
  have hclassical : suCl 4 = false := rfl
  have hencaps : reachParts (mgEncaps 4 m s).2.2 = reachParts s := reachParts_draw 0 32 s
  have hreach : HashReach (draw 42 32 (mgEncaps 4 m s).2.2).2 0x0002 (.setup n) :=
    hr.of_reachParts ((reachParts_draw 42 32 _).trans hencaps)
  unfold answerG1
  dsimp only
  rw [hsuite, hmsg, hable, if_neg (by decide), hagree]
  dsimp only
  simp only [hclassical, Bool.false_and, Bool.false_eq_true, if_false]
  obtain ⟨u, hu⟩ := setupHash_of_reach hreach _ _
  rw [hu]
  exact ⟨_, _, _, _, _, rfl⟩

/-! ### The verdict on a whole G3 (R72, R370, R445) -/

/-- The opcodes of a G3's steps run on slices, so their units are there as before the hashing. -/
theorem Hashed.unitMissing {s v : State} (hv : Hashed s v) {opcode : Nat} (h : opcode / 256 ≠ 8) :
    unitMissing v opcode = unitMissing s opcode := by
  unfold Machine.unitMissing classFenced slice_ objVal
  rw [decide_eq_false h, Bool.false_and, Bool.false_and, hv.pke, hv.dict]

theorem mgSteps3_not_digest {u o : Nat} (h : o ∈ mgSteps3 u) : o / 256 ≠ 8 := by
  unfold mgSteps3 at h
  rcases List.mem_cons.mp h with rfl | h
  · decide
  · split at h
    · rw [List.mem_singleton.mp h]; decide
    · cases h

theorem Hashed.g3Signed {s v : State} (hv : Hashed s v) (x : Setup) (m : Bytes) : g3Signed v x m = g3Signed s x m := by
  have hsteps : (mgSteps3 (gmSuite x.g1)).all (fun o => !(Machine.unitMissing v o)) =
      (mgSteps3 (gmSuite x.g1)).all (fun o => !(Machine.unitMissing s o)) := by
    rw [Bool.eq_iff_iff, List.all_eq_true, List.all_eq_true]
    exact forall₂_congr (fun o ho => by rw [hv.unitMissing (mgSteps3_not_digest ho)])
  unfold Machine.g3Signed
  dsimp only
  rw [hsteps]

theorem Hashed.principalOf {s v : State} (hv : Hashed s v) (suite : Nat) (pks : Bytes) :
    principalOf v suite pks = principalOf s suite pks := by
  unfold Machine.principalOf objVal
  rw [hv.dict]

theorem Hashed.trans {s v w : State} (h : Hashed s v) (g : Hashed v w) : Hashed s w where
  dict := g.dict.trans h.dict
  kreg := g.kreg.trans h.kreg
  iso := g.iso.trans h.iso
  upd := g.upd.trans h.upd
  pke := g.pke.trans h.pke
  now := Nat.le_trans h.now g.now
  jobs k := ⟨(g.jobs k).1.trans (h.jobs k).1, (g.jobs k).2.trans (h.jobs k).2⟩
  rise := g.rise

/-- The secrets of the set-up in slot `n`, none once they are destroyed. -/
def setupIkm (s : State) (n : Nat) : Bytes := (secret? s (setupSecret n)).getD []

section
variable {n : Nat} {x : Setup} {m : Bytes} {s : State}

theorem answerG3_of_unfit (h : g3Fits n s x m = false) : answerG3 n x m s = failSetup n s := by
  unfold answerG3
  exact if_pos (by simp [h])

variable (hr : HashReach s 0x0002 (.setup n)) (hk : keysRise s.dig.units = true) (hfit : g3Fits n s x m = true)
include hr hk hfit

/-- A G3 that fits is judged once TH3 stands. -/
theorem answerG3_of_fit : ∃ v, Hashed s v ∧ answerG3 n x m s = judgeG3 n x m v := by
  unfold answerG3
  dsimp only
  rw [if_neg (by simp [hfit])]
  generalize hashCyc _ _ = cyc
  obtain ⟨u, hu⟩ := setupHash_of_reach hr cyc (judgeG3 n x m)
  exact ⟨hashTurn u cyc s, hashTurn_hashed u cyc hk, hu⟩

theorem answerG3_of_unsigned (h : g3Signed s x m = false) : ∃ v, Hashed s v ∧ answerG3 n x m s = failSetup n v := by
  obtain ⟨v, hv, ha⟩ := answerG3_of_fit hr hk hfit
  refine ⟨v, hv, ha.trans ?_⟩
  unfold judgeG3
  exact if_pos (by simp [hv.g3Signed, h])

theorem answerG3_of_signed (h : g3Signed s x m = true) : ∃ v, Hashed s v ∧
    answerG3 n x m s = admitG3 n x m (g3Confirmed (setupIkm s n) x m) (sessionKeys (setupIkm s n) x m) v := by
  obtain ⟨v, hv, ha⟩ := answerG3_of_fit hr hk hfit
  have hikm : setupIkm v n = setupIkm s n := by simp only [setupIkm, secret?, hv.kreg]
  obtain ⟨u, hu⟩ := setupHash_of_reach (hv.reach hr) (scheduleCyc (setupIkm v n).length 64)
    (admitG3 n x m (g3Confirmed (setupIkm v n) x m) (sessionKeys (setupIkm v n) x m))
  refine ⟨_, hv.trans (hashTurn_hashed u (scheduleCyc (setupIkm v n).length 64) hv.rise), ha.trans ?_⟩
  rw [← hikm]
  unfold judgeG3
  dsimp only
  rw [if_neg (by simp [hv.g3Signed, h])]
  exact hu
end

theorem admitG3_of_principal {n p k : Nat} {x : Setup} {m : Bytes} {keys : Bytes × Bytes} {v : State}
    (hp : principalOf v (gmSuite x.g1) (slice m 16 (pksLen (gmSuite x.g1))) = some p) (hk : mfree? v.dict.sessions 0 8 = some k) :
    admitG3 n x m true keys v = openSession k p x keys (dropSetup n v) := by
  unfold admitG3
  dsimp only
  rw [if_neg (by decide), hp, hk]

/-- A session that opens has its keys in the key register and its principal's roles (R72, R442). -/
theorem openSession_opens (k p : Nat) (x : Setup) (keys : Bytes × Bytes) (s : State) :
    let t := openSession k p x keys s
    secret? t (sessIn k) = some keys.1 ∧ secret? t (sessOut k) = some keys.2 ∧ mget? t.dict.sessions k = some (newSession s x p) := by
  refine ⟨?_, mget?_mset_same _ _ _, mget?_mset_same _ _ _⟩
  exact (mget?_mset_ne _ _ (show 2 * k ≠ 2 * k + 1 by omega)).trans (mget?_mset_same _ _ _)

end Sys2Proof.Machine

open Sys2Proof Sys2Proof.Machine

/-- Settles O23: the fragments join as the rows say; the answer to G1 is `answerG1_of_able`; the verdict on G3 comes after two hashing
jobs, which leave the dictionary and the key register alone. -/
theorem sessionSetUp : Obligations.SessionSetUp := by
  unfold Obligations.SessionSetUp
  refine ⟨fun d n s hears hok ht hup hid hnone hseq hroom hfree hfrag => ?_, fun n x m s hsuite hmsg hable hr => ?_,
    fun d n x s hears hok ht hup hx hseq hfrag => ?_, fun n x m s => ?_⟩
  · have hjoin := (exec_sessionG1 hears hok ht hup).trans
      (congrArg Host.Outcome.next (firstMessage_begins hid hnone hseq hroom hfree hfrag))
    exact ⟨hjoin, fun y hy => hjoin.trans (congrArg Host.Outcome.next (joinG1_of_part rfl hy s))⟩
  · obtain ⟨sid, id, g2, keys, w, h⟩ := answerG1_of_able (x := x) hsuite hmsg hable hr
    intro t
    have ht : t = _ := h
    refine ⟨(sendG2 { x with g1 := m, sessionId := sid } id g2 w).1, w.out, id, min (objVal w Obj.GR_FRAG_SIZE) 1024 - 8, ?_, rfl, rfl,
      rfl, rfl, ?_⟩
    · rw [ht]; exact mget?_mset_same _ _ _
    · rw [ht]; rfl
  · rw [exec_sessionG3 hears hok ht hup, lastMessage_joins hx hseq hfrag]
  · intro u ikm good hr hk
    refine ⟨fun p k hgood hp hfree _ => ?_, fun hbad => ?_⟩
    · obtain ⟨hfit, hsigned, hconfirmed⟩ := hgood
      obtain ⟨v, hv, ha⟩ := answerG3_of_signed hr hk hfit hsigned
      have hopen : answerG3 n x m s = openSession k p x (sessionKeys ikm x m) (dropSetup n v) := by
        have hc : g3Confirmed (setupIkm s n) x m = true := hconfirmed
        rw [ha, hc]
        exact admitG3_of_principal ((hv.principalOf _ _).trans hp) (by rw [hv.dict]; exact hfree)
      intro t
      have ht : t = openSession k p x (sessionKeys ikm x m) (dropSetup n v) := hopen
      obtain ⟨hin, hout, hsession⟩ := openSession_opens k p x (sessionKeys ikm x m) (dropSetup n v)
      have hobj : ∀ id, objVal (dropSetup n v) id = objVal s id := fun id =>
        show tget objDefault v.dict.obj id = tget objDefault s.dict.obj id by rw [hv.dict]
      refine ⟨v, ht, hv.dict, hv.kreg, hv.now, ?_, ?_, newSession (dropSetup n v) x p, ?_, hobj _, hobj _, rfl, rfl⟩
      · rw [ht]; exact hin
      · rw [ht]; exact hout
      · rw [ht]; exact hsession
    · by_cases hfit : g3Fits n s x m = true
      · by_cases hsigned : g3Signed s x m = true
        · obtain ⟨v, hv, ha⟩ := answerG3_of_signed hr hk hfit hsigned
          have hc : g3Confirmed (setupIkm s n) x m = false := by
            rw [Bool.eq_false_iff]
            exact fun hc => hbad ⟨hfit, hsigned, hc⟩
          exact ⟨v, by rw [ha, hc]; rfl, hv.dict, hv.kreg⟩
        · obtain ⟨v, hv, ha⟩ := answerG3_of_unsigned hr hk hfit (by simpa using hsigned)
          exact ⟨v, ha, hv.dict, hv.kreg⟩
      · exact ⟨s, answerG3_of_unfit (by simpa using hfit), rfl, rfl⟩
end

section
/-!
PROOFS. A PCIe link reset (R62, R175): what stopping the host's jobs keeps, and what the admission of internal jobs leaves alone.
-/
namespace Sys2Proof.Machine

theorem mem_of_mget? {α : Type} {t : Tab α} {k : Nat} {v : α} (h : mget? t k = some v) : (k, v) ∈ t := by
  induction t with
  | nil => cases h
  | cons p r ih =>
    obtain ⟨a, w⟩ := p
    simp only [mget?] at h
    split at h
    · rename_i e
      cases h
      rw [e]
      exact List.mem_cons_self
    · split at h
      · cases h
      · exact List.mem_cons_of_mem _ (ih h)

/-! ### What stopping jobs keeps -/

/-- `t` differs from `s` elsewhere than in the dictionary and the rings. -/
structure Elsewhere (s t : State) : Prop where
  dict : t.dict = s.dict
  ring : t.ring = s.ring

theorem Elsewhere.refl (s : State) : Elsewhere s s := ⟨rfl, rfl⟩

theorem Elsewhere.trans {s t u : State} (h : Elsewhere s t) (g : Elsewhere t u) : Elsewhere s u :=
  ⟨g.dict.trans h.dict, g.ring.trans h.ring⟩

/-- `t` holds no job that `s` does not hold in the same entry under the same origin; its accepted accesses, its internal jobs that wait
and the number of its sessions are those of `s`. -/
structure NoNewJobs (s t : State) : Prop where
  queue : t.dict.queue = s.dict.queue
  sessions : t.dict.sessions.length = s.dict.sessions.length
  waits : t.ring.internalWait = s.ring.internalWait
  jobs : ∀ q ∈ t.ring.entries, ∃ p ∈ s.ring.entries, p.1 = q.1 ∧ p.2.origin = q.2.origin

namespace NoNewJobs

theorem of_elsewhere {s t : State} (h : Elsewhere s t) : NoNewJobs s t :=
  ⟨by rw [h.dict], by rw [h.dict], by rw [h.ring], fun q hq => ⟨q, by rwa [h.ring] at hq, rfl, rfl⟩⟩

theorem refl (s : State) : NoNewJobs s s := of_elsewhere ⟨rfl, rfl⟩

theorem trans {s t u : State} (h : NoNewJobs s t) (g : NoNewJobs t u) : NoNewJobs s u where
  queue := g.queue.trans h.queue
  sessions := g.sessions.trans h.sessions
  waits := g.waits.trans h.waits
  jobs q hq := by
    obtain ⟨p, hp, hpk, hpo⟩ := g.jobs q hq
    obtain ⟨o, ho, hok, hoo⟩ := h.jobs p hp
    exact ⟨o, ho, hok.trans hpk, hoo.trans hpo⟩

/-- A change elsewhere came first. -/
theorem since {s t u : State} (g : NoNewJobs t u) (hd : t.dict = s.dict) (hr : t.ring = s.ring) : NoNewJobs s u :=
  (of_elsewhere ⟨hd, hr⟩).trans g

theorem foldl {α : Type} {f : State → α → State} (h : ∀ t a, NoNewJobs t (f t a)) (l : List α) (s : State) :
    NoNewJobs s (l.foldl f s) := by
  induction l generalizing s with
  | nil => exact refl s
  | cons a r ih => exact (h s a).trans (ih _)

/-! The operations from which a job's end is made. -/

theorem noticed (id : ObjId) (s : State) : NoNewJobs s (Machine.noticed id s) := by
  have hwaits : ∀ v, (msixRaised s.ring v).internalWait = s.ring.internalWait := fun v => by
    unfold msixRaised; dsimp only; split <;> rfl
  have hentries : ∀ v, (msixRaised s.ring v).entries = s.ring.entries := fun v => by
    unfold msixRaised; dsimp only; split <;> rfl
  refine ⟨rfl, List.length_map .., ?_, ?_⟩
  · unfold Machine.noticed; dsimp only; split
    · exact hwaits _
    · rfl
  · have hring : (Machine.noticed id s).ring.entries = s.ring.entries := by
      unfold Machine.noticed; dsimp only; split
      · exact hentries _
      · rfl
    rw [hring]
    exact fun q hq => ⟨q, hq, rfl, rfl⟩

theorem setObj (id : ObjId) (v : Nat) (s : State) : NoNewJobs s (Machine.setObj id v s) := by
  obtain ⟨hq, hs, hw, hj⟩ := noticed id s
  unfold Machine.setObj
  dsimp only
  split
  · exact of_elsewhere ⟨rfl, rfl⟩
  · exact ⟨hq, hs, hw, hj⟩

theorem bump (id : ObjId) (s : State) : NoNewJobs s (Machine.bump id s) := by
  obtain ⟨hq, hs, hw, hj⟩ := setObj id _ s
  exact ⟨hq, hs, hw, hj⟩

/-- A job's record is written anew under its origin. -/
theorem setEntry {e : Nat} {x y : Entry} {s : State} (hx : entry? s e = some x) (ho : y.origin = x.origin) :
    NoNewJobs s (Machine.setEntry e y s) where
  queue := rfl
  sessions := rfl
  waits := rfl
  jobs q hq := by
    rcases mem_mset hq with rfl | hq
    · exact ⟨(e, x), mem_of_mget? hx, rfl, ho.symm⟩
    · exact ⟨q, hq, rfl, rfl⟩

theorem dropEntry (e : Nat) (s : State) : NoNewJobs s (Machine.dropEntry e s) :=
  ⟨rfl, rfl, rfl, fun q hq => ⟨q, mem_mdel hq, rfl, rfl⟩⟩

theorem setCell (n : Nat) (c : Cell) (s : State) : NoNewJobs s (Machine.setCell n c s) := by
  unfold Machine.setCell
  dsimp only
  split
  · exact of_elsewhere ⟨rfl, rfl⟩
  · exact (noticed _ _).since rfl rfl

theorem commitIndex (h : Nat) (k : HtsKey) (cap : Nat) (s : State) : NoNewJobs s (Machine.commitIndex h k cap s) := by
  unfold Machine.commitIndex htsWarn
  split
  · exact of_elsewhere ⟨rfl, rfl⟩
  · split
    · exact ((setObj _ _ _).trans (bump _ _)).since rfl rfl
    · exact of_elsewhere ⟨rfl, rfl⟩

theorem stopSign (x : Entry) (s : State) : NoNewJobs s (Machine.stopSign x s) := by
  unfold Machine.stopSign
  dsimp only
  split
  · split
    · split
      · exact ((commitIndex _ _ _ _).trans (bump _ _)).since rfl rfl
      · exact of_elsewhere ⟨rfl, rfl⟩
    · exact refl s
  · exact refl s

end NoNewJobs

theorem dropNewKey_elsewhere (target : Option Nat) (s : State) : Elsewhere s (dropNewKey target s) := by
  unfold dropNewKey
  split
  · exact .refl s
  · split
    · dsimp only
      split <;> exact ⟨rfl, rfl⟩
    · exact .refl s

theorem detach_elsewhere (e : Nat) (x : Entry) (hasPages : Bool) (s : State) : Elsewhere s (detach e x hasPages s) := by
  unfold detach
  dsimp only
  generalize hs : freeOthers e _ _ = s1
  have h : Elsewhere s s1 := by rw [← hs]; exact ⟨rfl, rfl⟩
  split
  · split
    · exact h
    · split <;> exact ⟨h.dict, h.ring⟩
  · split
    · exact ⟨h.dict, h.ring⟩
    · exact h

theorem lksPut_elsewhere (a : Nat) (x : Byte) (s : State) : Elsewhere s (lksPut s a x) := by
  unfold lksPut
  split
  · split <;> exact ⟨rfl, rfl⟩
  · exact ⟨rfl, rfl⟩

theorem lksWrite_elsewhere (b : Bytes) (a : Nat) (s : State) : Elsewhere s (lksWrite a b s) := by
  induction b generalizing a s with
  | nil => exact .refl s
  | cons x r ih => exact (lksPut_elsewhere a x s).trans (ih _ _)

theorem ctxWrite_elsewhere (b : Bytes) (a : Nat) (s : State) : Elsewhere s (ctxWrite a b s) := by
  induction b generalizing a s with
  | nil => exact .refl s
  | cons x r ih =>
    refine Elsewhere.trans ?_ (ih (a + 1) _)
    split <;> exact ⟨rfl, rfl⟩

theorem memWrite_elsewhere (a : Nat) (b : Bytes) (s : State) : Elsewhere s (memWrite a b s) := by
  unfold memWrite
  split
  · exact lksWrite_elsewhere b a s
  · split
    · exact ctxWrite_elsewhere b a s
    · exact ⟨rfl, rfl⟩

theorem cellDataInit_elsewhere (c : Cell) (s : State) : Elsewhere s (cellDataInit c s) := by
  have wiped : Elsewhere s { s with iso := { s.iso with mem := zeroRange s.iso.mem (dataFabric c.dataBase) c.dataLen } } := ⟨rfl, rfl⟩
  exact wiped.trans (memWrite_elsewhere _ _ _)

theorem writePages_elsewhere (ps : List Nat) (b : Bytes) (s : State) : Elsewhere s (writePages ps b s) := by
  induction ps generalizing b s with
  | nil => exact .refl s
  | cons p r ih => exact (memWrite_elsewhere _ _ s).trans (ih _ _)

theorem awaitPages_elsewhere (ps : List Nat) (s : State) : Elsewhere s (awaitPages ps s) := by
  induction ps generalizing s with
  | nil => exact .refl s
  | cons p r ih =>
    have h : Elsewhere s (awaitPage p s) := by
      unfold awaitPage
      dsimp only
      split <;> exact ⟨rfl, rfl⟩
    exact h.trans (ih _)

theorem retag_elsewhere (g n tag : Nat) (s : State) : Elsewhere s (retag g n tag s) := ⟨rfl, rfl⟩

theorem retagPages_elsewhere (tag : Nat) (ps : List Nat) (s : State) : Elsewhere s (retagPages tag ps s) := by
  induction ps generalizing s with
  | nil => exact .refl s
  | cons p r ih => exact (retag_elsewhere _ _ tag s).trans (ih _)

theorem tagPages_elsewhere (tag : Nat) (ps : List Nat) (s : State) : Elsewhere s (tagPages tag ps s) :=
  (awaitPages_elsewhere ps s).trans (retagPages_elsewhere tag ps _)

namespace NoNewJobs

theorem haltJob (e : Nat) (st : Status) (detail : Nat) (s : State) : NoNewJobs s (Machine.haltJob e st detail s) := by
  unfold Machine.haltJob
  cases hx : entry? s e with
  | none => exact refl s
  | some x =>
    dsimp only
    split
    · split
      · exact setEntry hx rfl
      · exact refl s
    · have hsign := (stopSign x s).trans (of_elsewhere
        ((detach_elsewhere e x (!x.pages.isEmpty) _).trans (dropNewKey_elsewhere x.target _)))
      refine ⟨hsign.queue, hsign.sessions, hsign.waits, fun q hq => ?_⟩
      rcases mem_mset hq with rfl | hq
      · exact ⟨(e, x), mem_of_mget? hx, rfl, rfl⟩
      · exact hsign.jobs q hq

theorem chargeRun (e : Nat) (s : State) : NoNewJobs s (Machine.chargeRun e s) := by
  unfold Machine.chargeRun
  cases hx : entry? s e with
  | none => exact refl s
  | some x =>
    dsimp only
    split
    · exact refl s
    · refine since (t := settleOwed e s) (setEntry hx ?_) rfl rfl
      rfl

theorem stopJob (e : Nat) (st : Status) (detail : Nat) (s : State) : NoNewJobs s (Machine.stopJob e st detail s) :=
  (chargeRun e s).trans (haltJob e st detail _)

theorem stopJobs (p : Nat → Entry → Bool) (st : Status) (s : State) : NoNewJobs s (Machine.stopJobs p st s) :=
  foldl (fun t e => stopJob e st 0 t) _ s

theorem tagPages (tag : Nat) (ps : List Nat) (s : State) : NoNewJobs s (Machine.tagPages tag ps s) :=
  of_elsewhere (tagPages_elsewhere tag ps s)

/-! The end of a cell's call (R502). -/

theorem cellAfter (n : Nat) (a : CellAfter) (s : State) : NoNewJobs s (Machine.cellAfter n a s) := by
  unfold Machine.cellAfter
  cases a with
  | keep => exact setCell _ _ _
  | fence => exact setCell _ _ _
  | reinit => exact (of_elsewhere (cellDataInit_elsewhere _ s)).trans (setCell _ _ _)
  | remove => exact (setCell _ _ _).since rfl rfl

theorem nextCell (s : State) : NoNewJobs s (Machine.nextCell s) := by
  unfold Machine.nextCell
  split
  · split
    · obtain ⟨hq, hs, hw, hj⟩ := setCell _ _ s
      exact ⟨hq, hs, hw, hj⟩
    · exact of_elsewhere ⟨rfl, rfl⟩
  · exact refl s

theorem leaveCell (n : Nat) (s : State) : NoNewJobs s (Machine.leaveCell n s) :=
  (nextCell _).since rfl rfl

theorem dropSubjob (n : Nat) (s : State) : NoNewJobs s (Machine.dropSubjob n s) := by
  unfold Machine.dropSubjob
  dsimp only
  split
  · rename_i e _
    exact ((stopJob e .aborted 0 s).trans (dropEntry e _)).trans (of_elsewhere (retag_elsewhere _ _ _ _))
  · exact of_elsewhere ⟨rfl, rfl⟩

theorem endCall (n : Nat) (st : Status) (detail : Nat) (a : CellAfter) (s : State) : NoNewJobs s (Machine.endCall n st detail a s) := by
  unfold Machine.endCall
  dsimp only
  refine NoNewJobs.trans ?_ ((cellAfter n a _).trans (leaveCell n _))
  split
  · rename_i e _
    refine (dropSubjob n s).trans (NoNewJobs.trans ?_ (stopJob e st detail _))
    cases hx : entry? (Machine.dropSubjob n s) e with
    | none => exact refl _
    | some x => exact setEntry hx rfl
  · exact refl s

theorem dropHostCalls (s : State) : NoNewJobs s (Machine.dropHostCalls s) :=
  foldl (fun t n => endCall n .aborted 0 .reinit t) _ s

end NoNewJobs

/-! ### The admission of internal jobs (R157) -/

/-- The pairs and the ring registers of BAR0 that a reset gives their reset values (R173). -/
def ringRegs (s : State) : Tab Pair × Bool × BitVec 4 × Option Nat × Bool × BitVec 11 :=
  (s.ring.pairs, s.ring.run, s.ring.err, s.ring.errRing, s.ring.errVecEn, s.ring.errVec)

/-- `t` is `s` after jobs of origins in `os` were admitted. -/
structure Admitted (os : List Origin) (s t : State) : Prop where
  dict : t.dict = s.dict
  regs : ringRegs t = ringRegs s
  jobs : ∀ q ∈ t.ring.entries, q ∈ s.ring.entries ∨ q.2.origin ∈ os

theorem Admitted.trans {os : List Origin} {s t u : State} (h : Admitted os s t) (g : Admitted os t u) : Admitted os s u where
  dict := g.dict.trans h.dict
  regs := g.regs.trans h.regs
  jobs q hq := (g.jobs q hq).elim (h.jobs q) .inr

theorem Admitted.foldl {α : Type} {os : List Origin} {f : State → α → State} {l : List α} (h : ∀ t, ∀ a ∈ l, Admitted os t (f t a))
    (s : State) : Admitted os s (l.foldl f s) := by
  induction l generalizing s with
  | nil => exact ⟨rfl, rfl, fun _ hq => .inl hq⟩
  | cons a r ih =>
    exact (h s a List.mem_cons_self).trans (ih (fun t b hb => h t b (List.mem_cons_of_mem _ hb)) _)

theorem assignDigest_elsewhere (e opcode : Nat) (s : State) : Elsewhere s (assignDigest e opcode s) := by
  unfold assignDigest
  split
  · exact .refl s
  · split <;> exact ⟨rfl, rfl⟩

/-- A job that takes an entry is there under its origin; no pair and no ring register changes. -/
theorem admitJob_admitted {os : List Origin} {o : Origin} (ho : o ∈ os) (colour prio : Nat) (d : Desc) (c : CmdSpec) (stream : Bytes)
    (s : State) : Admitted os s (admitJob o colour prio d c stream s) := by
  unfold admitJob
  split
  · exact ⟨rfl, rfl, fun _ hq => .inl hq⟩
  · rename_i e _
    dsimp only
    generalize pickPages (usedPages s) (c.inPages + c.outPages + c.resume) = ps
    have hpages : Elsewhere s (writePages (ps.take c.inPages) stream (tagPages colour ps s)) :=
      (tagPages_elsewhere colour ps s).trans (writePages_elsewhere _ _ _)
    generalize writePages (ps.take c.inPages) stream (tagPages colour ps s) = u at hpages
    constructor
    · rw [(assignDigest_elsewhere _ _ _).dict]
      show (if (opClass d.opcode).isNone then rouseEngine u else u).dict = s.dict
      split <;> exact hpages.dict
    · unfold ringRegs
      rw [(assignDigest_elsewhere _ _ _).ring, ← hpages.ring]
      rfl
    · rw [(assignDigest_elsewhere _ _ _).ring]
      intro q hq
      rcases mem_mset hq with rfl | hq
      · exact .inr ho
      · exact .inl (by rw [← hpages.ring]; exact hq)

theorem admitInternal_admitted (s : State) : Admitted (s.ring.internalWait.map (·.1)) s (admitInternal s) := by
  have start : Admitted (s.ring.internalWait.map (·.1)) s { s with ring := { s.ring with internalWait := [] } } :=
    ⟨rfl, rfl, fun _ hq => .inl hq⟩
  refine start.trans (Admitted.foldl (fun t w hw => ?_) _)
  split
  · exact admitJob_admitted (List.mem_map_of_mem hw) _ _ _ _ _ t
  · exact ⟨rfl, rfl, fun _ hq => .inl hq⟩

/-! ### The reset -/

/-- Before internal jobs are admitted, a PCIe reset has left no job of a ring pair, and every ring and window register at its reset
value. -/
theorem pcieReset_admits (s : State) : ∃ v, pcieReset s = admitInternal v ∧ ringRegs v = ([], true, 0, none, false, 0) ∧
    v.ring.internalWait = s.ring.internalWait ∧ (∀ q ∈ v.ring.entries, ∀ p, q.2.origin ≠ .ring p) ∧
    (∃ st, v.dict.win = { Window.reset with st := st } ∧ st.write = none) ∧
    v.dict.queue = s.dict.queue.map (·.unplugged) ∧ v.dict.sessions.length = s.dict.sessions.length := by
  have hcalls := NoNewJobs.dropHostCalls s
  unfold pcieReset
  dsimp only
  generalize dropHostCalls s = s1 at hcalls
  generalize hj : (s1.ring.entries.filter _).map _ = hostJobs
  have hstop := (NoNewJobs.stopJobs (fun e _ => decide (e ∈ hostJobs)) .aborted s1).trans
    (NoNewJobs.tagPages 0xFFFF ((s1.ring.entries.filter (fun q => decide (q.1 ∈ hostJobs))).flatMap (fun q => q.2.pages)) _)
  refine ⟨_, rfl, rfl, hstop.waits.trans hcalls.waits, fun q hq p ho => ?_, ⟨_, rfl, rfl⟩, ?_, hstop.sessions.trans hcalls.sessions⟩
  · obtain ⟨hq3, hnot⟩ := List.mem_filter.mp hq
    obtain ⟨o, ho1, hkey, horigin⟩ := hstop.jobs q hq3
    have hhost : q.1 ∈ hostJobs := by
      rw [← hj, ← hkey]
      exact List.mem_map.mpr ⟨o, List.mem_filter.mpr ⟨ho1, by rw [horigin, ho]⟩, rfl⟩
    simp [hhost] at hnot
  · exact congrArg _ (hstop.queue.trans hcalls.queue)

theorem AccessReq.unplugged_caller (r : AccessReq) : r.unplugged.caller ≠ .window := by
  unfold AccessReq.unplugged
  split
  · exact fun h => nomatch h
  · assumption

end Sys2Proof.Machine

open Sys2Proof Sys2Proof.Machine

/-- Settles O26: stopping the host's jobs adds none and keeps queue and sessions, the reset takes every job of a ring away, and admitting
the internal jobs that wait touches no ring or window register. -/
theorem pcieReset : Obligations.PcieReset := by
  unfold Obligations.PcieReset
  intro s
  obtain ⟨v, ht, hregs, hwaits, hjobs, hwin, hqueue, hsessions⟩ := pcieReset_admits s
  have hadm := admitInternal_admitted v
  rw [← ht] at hadm
  obtain ⟨hpairs, hrun, herr, herrRing, hvecEn, hvec⟩ : _ ∧ _ ∧ _ ∧ _ ∧ _ ∧ _ := by
    have h := hadm.regs.trans hregs
    simpa only [ringRegs, Prod.mk.injEq] using h
  refine ⟨Machine.pcieReset s, rfl, hpairs, hrun, herr, herrRing, hvecEn, hvec, fun e x hx => ?_, ?_, ?_, fun r hr => ?_, ?_⟩
  · rcases hadm.jobs _ (mem_of_mget? hx) with hv | hw
    · exact .inl (hjobs _ hv)
    · obtain ⟨w, hw, ho⟩ := List.mem_map.mp hw
      exact .inr ⟨w, by rwa [hwaits] at hw, ho⟩
  · rw [hadm.dict]; exact hwin
  · rw [hadm.dict, hqueue, List.length_map]
  · rw [hadm.dict, hqueue] at hr
    obtain ⟨r0, _, rfl⟩ := List.mem_map.mp hr
    exact r0.unplugged_caller
  · rw [hadm.dict]; exact hsessions
end

section
/-!
PROOFS. The isolation unit: what the checks of an access have established where it passes (R91), a commit of region rules (R97–R101),
refusals and retags (R92–R95, R108–R110).
-/
namespace Sys2Proof.Machine

/-! ### Accesses (R91) -/

/-- An access of a master other than the debug master passes only where every check of R91 held. -/
theorem checkWith_passes {s : State} {tagAt : Nat → Nat} {a : FabAcc} (hcls : a.cls ≠ 8) (h : checkWith s tagAt a = none) :
    (∀ g ∈ granules a, mapped (g * 256) = true) ∧
    (∀ g ∈ granules a, taggedAddr (g * 256) = true → tagAt g = a.colour) ∧
    ∃ r ∈ enabledRules s a.cls, ruleAllows r a.kind = true ∧ ∀ g ∈ granules a, ruleCovers r g = true := by
  unfold checkWith at h
  dsimp only at h
  rw [if_neg hcls] at h
  split at h
  · cases h
  rename_i hmapped
  split at h
  · cases h
  split at h
  · cases h
  split at h
  · cases h
  rename_i hallows
  split at h
  · cases h
  split at h
  · cases h
  rename_i htags
  refine ⟨fun g hg => ?_, fun g hg ht => ?_, ?_⟩
  · simpa using List.find?_eq_none.mp hmapped g hg
  · simpa [ht] using List.find?_eq_none.mp htags g hg
  · obtain ⟨r, hr, hallow⟩ : ∃ r ∈ (enabledRules s a.cls).filter (fun r => (granules a).all (ruleCovers r)),
        ruleAllows r a.kind = true := by simpa only [Bool.not_eq_true, Bool.not_eq_false', List.any_eq_true] using hallows
    obtain ⟨hen, hcovers⟩ := List.mem_filter.mp hr
    exact ⟨r, hen, hallow, List.all_eq_true.mp hcovers⟩

/-! ### Tables written at several places -/

section
variable {α : Type} [DecidableEq α] (d : Nat → α) (place : Nat → Nat) (v : Nat → α)

/-- A table after a write at the place of each number of a list. -/
def tsetEach (l : List Nat) (t : Tab α) : Tab α := l.foldl (fun t e => tset d t (place e) (v e)) t

theorem tget_tsetEach_other {l : List Nat} {k : Nat} (hk : ∀ e ∈ l, k ≠ place e) (t : Tab α) (h : keysRise t = true) :
    tget d (tsetEach d place v l t) k = tget d t k := by
  induction l generalizing t with
  | nil => rfl
  | cons e l ih =>
    calc tget d (tsetEach d place v l (tset d t (place e) (v e))) k
        = tget d (tset d t (place e) (v e)) k := ih (fun x hx => hk x (List.mem_cons_of_mem _ hx)) _ (keysRise_tset d t _ _ h)
      _ = tget d t k := tget_tset_ne d t _ (hk e List.mem_cons_self) h

theorem tget_tsetEach_same {l : List Nat} {e : Nat} (he : e ∈ l) (hl : l.Nodup) (hp : ∀ x, place e = place x → e = x) (t : Tab α)
    (h : keysRise t = true) : tget d (tsetEach d place v l t) (place e) = v e := by
  induction l generalizing t with
  | nil => cases he
  | cons a l ih =>
    obtain ⟨ha, hl⟩ := List.nodup_cons.mp hl
    have ht := keysRise_tset d t (place a) (v a) h
    rcases List.mem_cons.mp he with rfl | he
    · refine (tget_tsetEach_other d place v (fun x hx hpx => ha ?_) _ ht).trans (tget_tset_same d t _ _ h)
      rwa [hp x hpx]
    · exact ih he hl _ ht

end

/-! ### Sets of entries as a map of bits -/

/-- The bits below `n` of a set of entries. -/
def entryBits (f : Nat → Bool) (n : Nat) : Nat := ((List.range n).map (fun e => if f e then 2 ^ e else 0)).sum

theorem entryBits_succ (f : Nat → Bool) (n : Nat) : entryBits f (n + 1) = (if f n then 2 ^ n else 0) + entryBits f n := by
  simp only [entryBits, List.range_succ, List.map_append, List.sum_append, List.map_cons, List.map_nil, List.sum_cons, List.sum_nil]
  omega

theorem entryBits_lt (f : Nat → Bool) (n : Nat) : entryBits f n < 2 ^ n := by
  induction n with
  | zero => exact Nat.one_pos
  | succ n ih =>
    rw [entryBits_succ, Nat.pow_succ]
    split <;> omega

theorem testBit_entryBits (f : Nat → Bool) {n e : Nat} (he : e < n) : (entryBits f n).testBit e = f e := by
  induction n with
  | zero => omega
  | succ n ih =>
    rw [entryBits_succ]
    have hn : (entryBits f n).testBit n = false := Nat.testBit_lt_two_pow (entryBits_lt f n)
    rcases Nat.lt_or_ge e n with h | h
    · split
      · rw [Nat.testBit_two_pow_add_gt h, ih h]
      · rw [Nat.zero_add, ih h]
    · obtain rfl : e = n := by omega
      split
      · next hf => rw [Nat.testBit_two_pow_add_eq, hn, hf]; rfl
      · next hf => rw [Nat.zero_add, hn]; simpa using hf

theorem testBit_entryMap (f : Nat → Bool) {e : Nat} (he : e < 64) : (entryMap f).testBit e = f e := testBit_entryBits f he

/-! ### A commit of region rules (R97–R101) -/

/-- The rules in effect after a commit of a class. -/
theorem applyRules_rules (cls : Nat) (s : State) :
    (applyRules cls s).iso.rules = tsetEach (fun _ => 0) (fun e => cls * 64 + e) (ruleAfter s cls) (List.range 64) s.iso.rules := rfl

theorem ruleOf_applyRules {s : State} (h : keysRise s.iso.rules = true) (cls : Nat) {e : Nat} (he : e < 64) :
    ruleOf (applyRules cls s) cls e = ruleAfter s cls e := by
  unfold ruleOf
  rw [applyRules_rules]
  exact tget_tsetEach_same _ (fun e => cls * 64 + e) _ (List.mem_range.mpr he) List.nodup_range (fun _ => Nat.add_left_cancel) _ h

theorem ruleOf_applyRules_class {s : State} (h : keysRise s.iso.rules = true) {cls c e : Nat} (hc : c ≠ cls) (he : e < 64) :
    ruleOf (applyRules cls s) c e = ruleOf s c e := by
  unfold ruleOf
  rw [applyRules_rules]
  exact tget_tsetEach_other _ _ _ (fun x hx => by have := List.mem_range.mp hx; omega) _ h

/-- What a commit reports of itself. -/
theorem applyRules_objects {s : State} (h : keysRise s.dict.obj = true) (cls : Nat) :
    objVal (applyRules cls s) Obj.ISO_RULE_REFUSED = entryMap (ruleRefused s cls) ∧
      objVal (applyRules cls s) Obj.ISO_RULE_COMMIT_STATE = 2 := by
  unfold applyRules
  dsimp only
  generalize hu : ({ s with iso := _ } : State) = u
  have h0 : keysRise u.dict.obj = true := by rw [← hu]; exact h
  have h1 := keysRise_setObj Obj.ISO_RULE_REFUSED (entryMap (ruleRefused s cls)) u h0
  have h2 := keysRise_setObj Obj.ISO_RULE_OVERLAP (entryMap (ruleOverlaps s cls)) _ h1
  refine ⟨?_, setObj_same _ _ _ h2⟩
  rw [setObj_other _ _ (by decide) h2, setObj_other _ _ (by decide) h1, setObj_same _ _ _ h0]

theorem ruleAfter_of_locked {s : State} {cls e : Nat} (h : ruleLocked s cls e = true) : ruleAfter s cls e = ruleOf s cls e := if_pos h

/-- A refused entry takes its shadow without EN. -/
theorem ruleEn_of_refused {s : State} {cls e : Nat} (hw : shadowOf s cls e < 2 ^ 64) (h : ruleRefused s cls e = true) :
    ruleEn (ruleAfter s cls e) = false := by
  have hnew : ruleNew s cls e = true := (Bool.and_eq_true_iff.mp h).1
  have hunlocked : ruleLocked s cls e = false := by
    have h2 := (Bool.and_eq_true_iff.mp (Bool.and_eq_true_iff.mp hnew).1).1
    simpa using h2
  have hval : ruleAfter s cls e = shadowOf s cls e - 2 ^ 63 := by
    unfold ruleAfter
    rw [if_neg (by simp [hunlocked]), if_pos h]
  rw [hval]
  exact Nat.testBit_lt_two_pow (by omega)

/-! ### Refusals (R108, R110) -/

theorem logged_length {l : List RefusalRec} (h : l.length ≤ 1024) (r : RefusalRec) : (logged l r).length ≤ 1024 := by
  unfold logged
  split
  · simp only [List.length_append, List.length_drop, List.length_singleton]; omega
  · simp only [List.length_append, List.length_singleton]; omega

theorem logged_newest (l : List RefusalRec) (r : RefusalRec) : (logged l r).getLast? = some r := by
  unfold logged
  split <;> exact List.getLast?_concat

theorem keysRise_bump (id : ObjId) (s : State) (h : keysRise s.dict.obj = true) : keysRise (bump id s).dict.obj = true :=
  keysRise_setObj id _ s h

/-- The newest entry that a refusal leaves in the log (R108). -/
def refusalRec (a : FabAcc) (reason bad : Nat) (s : State) : RefusalRec :=
  { stamp := time64 s, addr := bad, colour := a.colour, tag := shownTag s bad, cls := a.cls, master := a.master,
    kind := reason * 16 + a.kind, len := a.len, ring := a.ring, entry := a.entry, seq := objVal s Obj.ISO_LOG_NEWEST + 1 }

/-- The log with its newest entry and SEQ, and an overwritten entry counted (R108). -/
def logTaken (a : FabAcc) (reason bad : Nat) (s : State) : State :=
  let s1 := setObj Obj.ISO_LOG_NEWEST (objVal s Obj.ISO_LOG_NEWEST + 1)
    { s with iso := { s.iso with log := logged s.iso.log (refusalRec a reason bad s) } }
  if decide (1024 ≤ s.iso.log.length) then bump Obj.ISO_LOG_OVERWRITTEN s1 else s1

/-- The log taken, and the refusal counted in all and for its class (R110). -/
def refusalCounted (a : FabAcc) (reason bad : Nat) (s : State) : State :=
  bump (Obj.ISO_CLASS_REFUSALS + a.cls) (bump Obj.ISO_REFUSALS_TOTAL (logTaken a reason bad s))

/-- A tenant's refusal is counted in its record, with its time in the fence window (R110, R112). -/
def tenantRefusal (t : Nat) (s : State) : State :=
  bump (at_ Obj.TENANT_REFUSALS t) { s with iso := { s.iso with
    refusedAt := mset s.iso.refusedAt t (tget (fun _ => []) s.iso.refusedAt t ++ [s.now]) } }

theorem logRefusal_eq (a : FabAcc) (reason bad : Nat) (s : State) :
    logRefusal a reason bad s =
      if 0x1000 ≤ a.colour ∧ a.colour < 0x2000 then tenantRefusal (a.colour - 0x1000) (refusalCounted a reason bad s)
      else refusalCounted a reason bad s := rfl

theorem keysRise_logTaken (a : FabAcc) (reason bad : Nat) {s : State} (h : keysRise s.dict.obj = true) :
    keysRise (logTaken a reason bad s).dict.obj = true := by
  unfold logTaken
  dsimp only
  split
  · exact keysRise_bump _ _ (keysRise_setObj _ _ _ h)
  · exact keysRise_setObj _ _ _ h

theorem logTaken_newest (a : FabAcc) (reason bad : Nat) {s : State} (h : keysRise s.dict.obj = true) :
    objVal (logTaken a reason bad s) Obj.ISO_LOG_NEWEST = objVal s Obj.ISO_LOG_NEWEST + 1 := by
  unfold logTaken
  dsimp only
  split
  · refine (bump_other (id := Obj.ISO_LOG_OVERWRITTEN) _ (by decide) (keysRise_setObj _ _ _ h)).trans (setObj_same _ _ _ h)
  · exact setObj_same _ _ _ h

/-- Taking the log writes ISO_LOG_NEWEST and ISO_LOG_OVERWRITTEN alone. -/
theorem logTaken_other (a : FabAcc) (reason bad : Nat) {s : State} (h : keysRise s.dict.obj = true) {id : ObjId}
    (h1 : id ≠ Obj.ISO_LOG_NEWEST) (h2 : id ≠ Obj.ISO_LOG_OVERWRITTEN) : objVal (logTaken a reason bad s) id = objVal s id := by
  unfold logTaken
  dsimp only
  split
  · exact (bump_other _ h2 (keysRise_setObj _ _ _ h)).trans (setObj_other _ _ h1 h)
  · exact setObj_other _ _ h1 h

theorem logTaken_iso (a : FabAcc) (reason bad : Nat) (s : State) :
    (logTaken a reason bad s).iso = { s.iso with log := logged s.iso.log (refusalRec a reason bad s) } := by
  unfold logTaken
  dsimp only
  split <;> rfl

theorem keysRise_refusalCounted (a : FabAcc) (reason bad : Nat) {s : State} (h : keysRise s.dict.obj = true) :
    keysRise (refusalCounted a reason bad s).dict.obj = true :=
  keysRise_bump _ _ (keysRise_bump _ _ (keysRise_logTaken a reason bad h))

theorem refusalCounted_other (a : FabAcc) (reason bad : Nat) {s : State} (h : keysRise s.dict.obj = true) {id : ObjId}
    (h1 : id ≠ Obj.ISO_CLASS_REFUSALS + a.cls) (h2 : id ≠ Obj.ISO_REFUSALS_TOTAL) :
    objVal (refusalCounted a reason bad s) id = objVal (logTaken a reason bad s) id := by
  have h0 := keysRise_logTaken a reason bad h
  unfold refusalCounted
  rw [bump_other _ h1 (keysRise_bump _ _ h0), bump_other _ h2 h0]

theorem refusalCounted_newest (a : FabAcc) (reason bad : Nat) {s : State} (h : keysRise s.dict.obj = true) :
    objVal (refusalCounted a reason bad s) Obj.ISO_LOG_NEWEST = objVal s Obj.ISO_LOG_NEWEST + 1 :=
  (refusalCounted_other a reason bad h (Nat.ne_of_lt (Nat.lt_add_right a.cls (by decide))) (by decide)).trans
    (logTaken_newest a reason bad h)

theorem refusalCounted_total (a : FabAcc) (reason bad : Nat) {s : State} (h : keysRise s.dict.obj = true)
    (hw : objVal s Obj.ISO_REFUSALS_TOTAL + 1 < 2 ^ 64) :
    objVal (refusalCounted a reason bad s) Obj.ISO_REFUSALS_TOTAL = objVal s Obj.ISO_REFUSALS_TOTAL + 1 := by
  have h0 := keysRise_logTaken a reason bad h
  have hold := logTaken_other a reason bad h (id := Obj.ISO_REFUSALS_TOTAL) (by decide) (by decide)
  have hrange : objRange Obj.ISO_REFUSALS_TOTAL = 2 ^ 64 := by decide
  unfold refusalCounted
  rw [bump_other _ (Nat.ne_of_lt (Nat.lt_add_right a.cls (by decide))) (keysRise_bump _ _ h0),
    bump_same _ _ h0 (by rwa [hrange, hold]), hold]

/-- The nine classes' counters are 32 bits wide. -/
theorem objRange_classRefusals {cls : Nat} (h : cls ≤ 8) : objRange (Obj.ISO_CLASS_REFUSALS + cls) = 2 ^ 32 := by
  have : ∀ c : Nat, c < 9 → objRange (Obj.ISO_CLASS_REFUSALS + c) = 2 ^ 32 := by decide
  exact this cls (by omega)

theorem refusalCounted_class {a : FabAcc} (reason bad : Nat) {s : State} (h : keysRise s.dict.obj = true) (hcls : a.cls ≤ 8)
    (hw : objVal s (Obj.ISO_CLASS_REFUSALS + a.cls) + 1 < 2 ^ 32) :
    objVal (refusalCounted a reason bad s) (Obj.ISO_CLASS_REFUSALS + a.cls) = objVal s (Obj.ISO_CLASS_REFUSALS + a.cls) + 1 := by
  have h0 := keysRise_logTaken a reason bad h
  have h1 := keysRise_bump Obj.ISO_REFUSALS_TOTAL _ h0
  have hne : ∀ k, k < Obj.ISO_CLASS_REFUSALS → Obj.ISO_CLASS_REFUSALS + a.cls ≠ k := fun k hk =>
    Nat.ne_of_gt (Nat.lt_add_right a.cls hk)
  have hold : objVal (bump Obj.ISO_REFUSALS_TOTAL (logTaken a reason bad s)) (Obj.ISO_CLASS_REFUSALS + a.cls) =
      objVal s (Obj.ISO_CLASS_REFUSALS + a.cls) := by
    rw [bump_other _ (hne _ (by decide)) h0, logTaken_other a reason bad h (hne _ (by decide)) (hne _ (by decide))]
  unfold refusalCounted
  rw [bump_same _ _ h1 (by rwa [objRange_classRefusals hcls, hold]), hold]

theorem tenantRefusal_other {t : Nat} {s : State} (h : keysRise s.dict.obj = true) {id : ObjId} (hne : id ≠ at_ Obj.TENANT_REFUSALS t) :
    objVal (tenantRefusal t s) id = objVal s id := bump_other _ hne h

/-- A refusal changes no object of the isolation area after the counting. -/
theorem logRefusal_object (a : FabAcc) (reason bad : Nat) {s : State} (h : keysRise s.dict.obj = true) {id : ObjId}
    (hid : id < Obj.TENANT_REFUSALS) : objVal (logRefusal a reason bad s) id = objVal (refusalCounted a reason bad s) id := by
  rw [logRefusal_eq]
  split
  · exact tenantRefusal_other (keysRise_refusalCounted a reason bad h) (Nat.ne_of_lt (Nat.lt_add_right _ hid))
  · rfl

theorem logRefusal_iso (a : FabAcc) (reason bad : Nat) (s : State) :
    ∃ w, (logRefusal a reason bad s).iso =
      { s.iso with log := logged s.iso.log (refusalRec a reason bad s), refusedAt := w } := by
  have hc : (refusalCounted a reason bad s).iso = { s.iso with log := logged s.iso.log (refusalRec a reason bad s) } :=
    logTaken_iso a reason bad s
  rw [logRefusal_eq]
  split
  · exact ⟨_, (bump_iso _ _).trans (by dsimp only; rw [hc])⟩
  · exact ⟨_, hc⟩

/-! ### Objects of a tenant's record -/

/-- A search finds the same by two tests that agree on the list. -/
theorem find?_eq_of_agree {α : Type} {l : List α} {p q : α → Bool} (h : ∀ x ∈ l, p x = q x) : l.find? p = l.find? q := by
  induction l with
  | nil => rfl
  | cons x l ih =>
    rw [List.find?_cons, List.find?_cons, h x List.mem_cons_self, ih (fun y hy => h y (List.mem_cons_of_mem _ hy))]

/-- Every tenant's record has the objects of the first (R115). -/
theorem findObj_tenantRecord {t sub : Nat} (ht : t < 4096) (hs : sub < 256) :
    findObj (at_ (0x200000 + sub) t) = findObj (0x200000 + sub) := by
  have hrows : ∀ o ∈ area20a ++ area20b, o.lo = 0x2000 ∧ o.hi = 0x2FFF := by decide
  have harea : ∀ i, 0x2000 ≤ i → i < 0x3000 → areaOf i = area20a ++ area20b := by
    intro i h1 h2
    unfold areaOf
    iterate 15 rw [if_neg (by omega)]
    rw [if_pos ⟨h1, h2⟩]
  have hi : (0x200000 + sub + 256 * t) / 256 = 0x2000 + t := by omega
  have hj : (0x200000 + sub) / 256 = 0x2000 := by omega
  have hm : (0x200000 + sub + 256 * t) % 256 = sub := by omega
  have hn : (0x200000 + sub) % 256 = sub := by omega
  unfold findObj at_
  rw [hi, hj, hm, hn, harea _ (by omega) (by omega), harea _ (by omega) (by omega)]
  refine find?_eq_of_agree (fun o ho => ?_)
  obtain ⟨hlo, hhi⟩ := hrows o ho
  rw [hlo, hhi, decide_eq_decide]
  have hlast : 0x2000 + t ≤ 0x2FFF := by omega
  exact ⟨fun ⟨_, _, h⟩ => ⟨Nat.le_refl _, by decide, h⟩, fun ⟨_, _, h⟩ => ⟨Nat.le_add_right _ _, hlast, h⟩⟩

theorem objRange_tenantRefusals {t : Nat} (ht : t < 4096) : objRange (at_ Obj.TENANT_REFUSALS t) = 2 ^ 32 := by
  have h : objRange Obj.TENANT_REFUSALS = 2 ^ 32 := by decide
  unfold objRange at h ⊢
  rwa [findObj_tenantRecord (sub := 0x30) ht (by decide)]

theorem logRefusal_tenant {a : FabAcc} (reason bad : Nat) {s : State} (h : keysRise s.dict.obj = true) (hcls : a.cls ≤ 8) {t : Nat}
    (ht : t < 4096) (hc : a.colour = 0x1000 + t) (hw : objVal s (at_ Obj.TENANT_REFUSALS t) + 1 < 2 ^ 32) :
    objVal (logRefusal a reason bad s) (at_ Obj.TENANT_REFUSALS t) = objVal s (at_ Obj.TENANT_REFUSALS t) + 1 := by
  have hne : ∀ k, k < Obj.TENANT_REFUSALS → at_ Obj.TENANT_REFUSALS t ≠ k := fun k hk =>
    Nat.ne_of_gt (Nat.lt_add_right _ hk)
  have hold : objVal (refusalCounted a reason bad s) (at_ Obj.TENANT_REFUSALS t) = objVal s (at_ Obj.TENANT_REFUSALS t) := by
    have hlog := logTaken_other a reason bad h (hne Obj.ISO_LOG_NEWEST (by decide)) (hne Obj.ISO_LOG_OVERWRITTEN (by decide))
    rw [refusalCounted_other a reason bad h (hne _ ?_) (hne _ (by decide)), hlog]
    exact Nat.lt_of_le_of_lt (Nat.add_le_add_left hcls _) (by decide)
  rw [logRefusal_eq, if_pos (by omega), show a.colour - 0x1000 = t by omega]
  have hrange := objRange_tenantRefusals ht
  have hkeys := keysRise_refusalCounted a reason bad h
  exact (bump_same _ _ hkeys (by rw [hrange]; exact Nat.lt_of_le_of_lt (Nat.le_of_eq (congrArg (· + 1) hold)) hw)).trans (congrArg (· + 1) hold)

/-! ### Retags (R92–R95) -/

theorem keysRise_of_tabWf {α : Type} [DecidableEq α] {d : Nat → α} {t : Tab α} (h : tabWf d t = true) : keysRise t = true :=
  ((tabWf_iff d t).mp h).1

/-- In a canonical table a key's value is the one listed with it. -/
theorem mget?_eq_some_iff {α : Type} {t : Tab α} (h : keysRise t = true) {k : Nat} {v : α} : mget? t k = some v ↔ (k, v) ∈ t := by
  refine ⟨mem_of_mget?, fun hm => ?_⟩
  induction t with
  | nil => cases hm
  | cons p r ih =>
    obtain ⟨a, w⟩ := p
    obtain ⟨hbelow, hr⟩ := (keysRise_cons a w r).mp h
    rcases List.mem_cons.mp hm with he | hm
    · cases he; simp [mget?]
    · have hlt : a < k := hbelow _ hm
      rw [mget?, if_neg (Nat.ne_of_gt hlt), if_neg (Nat.not_lt_of_gt hlt), ih hr hm]

theorem mget?_mfilter {α : Type} (f : Nat → α → Bool) {t : Tab α} (h : keysRise t = true) (k : Nat) :
    mget? (mfilter f t) k = (mget? t k).filter (f k) := by
  refine Option.ext (fun v => ?_)
  rw [mget?_eq_some_iff (t := mfilter f t) (keysRise_filter _ t h), Option.filter_eq_some_iff, mget?_eq_some_iff h]
  exact List.mem_filter

theorem tget_mfilter_drop {α : Type} (d : Nat → α) {f : Nat → α → Bool} {t : Tab α} (h : keysRise t = true) {k : Nat}
    (hf : ∀ v, f k v = false) : tget d (mfilter f t) k = d k := by
  have hnone : (mget? t k).filter (f k) = none := by
    rw [Option.filter_eq_none_iff]
    exact fun v _ => by simp [hf v]
  rw [tget, mget?_mfilter f h, hnone, Option.getD_none]

theorem tget_mfilter_keep {α : Type} (d : Nat → α) {f : Nat → α → Bool} {t : Tab α} (h : keysRise t = true) {k : Nat}
    (hf : ∀ v, f k v = true) : tget d (mfilter f t) k = tget d t k := by
  have hkept : (mget? t k).filter (f k) = mget? t k := by cases mget? t k <;> simp [hf]
  rw [tget, mget?_mfilter f h, hkept, tget]

theorem tget_zeroRange {m : Tab Byte} (h : keysRise m = true) (a n k : Nat) :
    tget (fun _ => 0) (zeroRange m a n) k = if a ≤ k ∧ k < a + n then 0 else tget (fun _ => 0) m k := by
  unfold zeroRange
  split
  · next hin => exact tget_mfilter_drop _ h (fun _ => by simp [hin])
  · next hout => exact tget_mfilter_keep _ h (fun _ => by simp only [hout, decide_false, Bool.not_false])

theorem tget_putTags {t : Tab Nat} (h : keysRise t = true) (g tag n k : Nat) :
    tget (fun _ => 0xFFFF) (putTags t g tag n) k = if g ≤ k ∧ k < g + n then tag else tget (fun _ => 0xFFFF) t k := by
  induction n generalizing t g with
  | zero => rw [if_neg (by omega)]; rfl
  | succ n ih =>
    simp only [putTags]
    rw [ih (keysRise_tset _ _ _ _ h)]
    by_cases hk : k = g
    · subst hk
      rw [if_neg (by omega), if_pos (by omega), tget_tset_same _ _ _ _ h]
    · rw [tget_tset_ne _ _ _ hk h]
      by_cases hin : g + 1 ≤ k ∧ k < g + 1 + n
      · rw [if_pos hin, if_pos (by omega)]
      · rw [if_neg hin, if_neg (by omega)]

/-- Outside the large-key store a byte is that of no entry. -/
theorem lksAt?_outside (s : State) {a : Nat} (h : inLks a = false) : lksAt? s a = none := if_neg (by simp [h])

/-- Outside the context store a byte is that of no record. -/
theorem ctxAt?_outside {a : Nat} (h : inCtx a = false) : ctxAt? a = none := if_neg (by simp [h])

/-- Outside entries and records a byte is what the memory lists. -/
theorem memByte_plain {s : State} {a : Nat} (hl : lksAt? s a = none) (hc : ctxAt? a = none) :
    memByte s a = tget (fun _ => 0) s.iso.mem a := by
  simp only [memByte, hl, hc]

/-- A byte that no record holds depends on the memory and the large-key store alone. -/
theorem memByte_congr {s t : State} {a : Nat} (hk : t.kreg = s.kreg) (hc : ctxAt? a = none)
    (hm : tget (fun _ => 0) t.iso.mem a = tget (fun _ => 0) s.iso.mem a) : memByte t a = memByte s a := by
  have hl : lksAt? t a = lksAt? s a := by unfold lksAt?; rw [hk]
  unfold memByte
  rw [hl, hc]
  split
  · rw [hm]
  · next he => cases he
  · exact hm

theorem tagOf_plain {s : State} {g : Nat} (hl : lksAt? s (g * 256) = none) (hc : ctxAt? (g * 256) = none) :
    tagOf s g = tget (fun _ => 0xFFFF) s.iso.tags g := by
  simp only [tagOf, hl, hc]

/-- A granule's tag depends on its entry of the large-key store, its record and the listed tags. -/
theorem tagOf_retag {s : State} {g n tag k : Nat} (h : keysRise s.iso.tags = true) (hk : k < g ∨ g + n ≤ k) :
    tagOf (retag g n tag s) k = tagOf s k := by
  have ht : tget (fun _ => 0xFFFF) (retag g n tag s).iso.tags k = tget (fun _ => 0xFFFF) s.iso.tags k :=
    (tget_putTags h g tag n k).trans (if_neg (by omega))
  have hl : lksAt? (retag g n tag s) (k * 256) = lksAt? s (k * 256) := rfl
  unfold tagOf
  rw [hl, ht]
  rfl

end Sys2Proof.Machine

open Sys2Proof Sys2Proof.Machine

/-- Settles O19: the checks of R91 are conjuncts of what `checkWith_passes` has established. -/
theorem accessChecked : Obligations.AccessChecked := by
  unfold Obligations.AccessChecked
  exact fun s a hcls h => checkWith_passes hcls h

/-- Settles O18: a commit writes each entry of its class once, and reports the refused ones as a map of bits. -/
theorem ruleCommit : Obligations.RuleCommit := by
  unfold Obligations.RuleCommit
  intro cls s hrules hobj t
  obtain ⟨hrefused, hstate⟩ := applyRules_objects hobj cls
  have hafter : ∀ e, e < 64 → ruleOf t cls e = ruleAfter s cls e := fun e he => ruleOf_applyRules hrules cls he
  refine ⟨hafter, fun e he hl => ?_, fun e he hw hr => ?_, fun e he => ?_, fun c e hc he => ruleOf_applyRules_class hrules hc he, hstate⟩
  · rw [hafter e he, ruleAfter_of_locked hl]
  · rw [hafter e he, ruleEn_of_refused hw hr]
  · rw [hrefused, testBit_entryMap _ he]

/-- Settles O20: a refusal takes the log and counts, and a retag zeroes and tags its granules in the listed memory. -/
theorem refusalsAndRetags : Obligations.RefusalsAndRetags := by
  unfold Obligations.RefusalsAndRetags
  refine ⟨fun a reason bad s h hcls hlog htotal hclass => ?_, fun g n tag s hmem htags => ?_⟩
  · intro t
    have hbelow : ∀ id, id < Obj.TENANT_REFUSALS → objVal t id = objVal (refusalCounted a reason bad s) id :=
      fun id hid => logRefusal_object a reason bad h hid
    obtain ⟨w, hiso⟩ := logRefusal_iso a reason bad s
    have hiso : t.iso = _ := hiso
    refine ⟨?_, ?_, ⟨refusalRec a reason bad s, ?_, rfl, rfl, rfl, rfl, rfl, rfl, rfl, rfl, rfl⟩, ?_, ?_,
      fun n hn hc hw => logRefusal_tenant reason bad h hcls hn hc hw, by rw [hiso], by rw [hiso]⟩
    · rw [hbelow _ (by decide), refusalCounted_newest a reason bad h]
    · rw [hiso]; exact logged_length hlog _
    · rw [hiso]; exact logged_newest _ _
    · rw [hbelow _ (by decide), refusalCounted_total a reason bad h htotal]
    · rw [hbelow _ (Nat.lt_of_le_of_lt (Nat.add_le_add_left hcls _) (by decide)), refusalCounted_class reason bad h hcls hclass]
  · intro t
    have hm : ∀ a, tget (fun _ => 0) t.iso.mem a =
        if g * 256 ≤ a ∧ a < g * 256 + n * 256 then 0 else tget (fun _ => 0) s.iso.mem a :=
      tget_zeroRange (keysRise_of_tabWf hmem) _ _
    obtain ⟨hwfm, hwft⟩ : FabricWf t := fabricWf_retag g n tag s ⟨hmem, htags⟩
    refine ⟨hwfm, hwft, fun k h1 h2 hl hc => ?_, fun a h1 h2 hl hc => ?_, fun k hk => tagOf_retag (keysRise_of_tabWf htags) hk,
      fun a ha hc => memByte_congr rfl (ctxAt?_outside hc) ?_⟩
    · rw [tagOf_plain (lksAt?_outside t hl) (ctxAt?_outside hc)]
      exact (tget_putTags (keysRise_of_tabWf htags) g tag n k).trans (if_pos ⟨h1, h2⟩)
    · rw [memByte_plain (lksAt?_outside t hl) (ctxAt?_outside hc), hm, if_pos ⟨h1, by rw [← Nat.add_mul]; exact h2⟩]
    · rw [hm, if_neg (by omega)]
end

section
/-!
PROOFS. The commands of the tenant and isolation areas: what a write carried out at once does, and what creation and unfencing leave
(R99, R101, R113–R119, R122).
-/
namespace Sys2Proof.Machine

/-! ### Writes carried out at once -/

/-- A write that is no critical act and makes no check at its first write performs its act on the state in which it began. -/
theorem writeAccess_of_plainDeciding {c : Caller} {id : ObjId} {data : Bytes} {r : WriteRule} {s : State} (h : Deciding c id data r s)
    (hcrit : r.critical = false) (hf : r.first = fun s => (s, true)) :
    writeAccess c id data r s = writeDone c id (r.act (begun c id data s)) := by
  rw [writeAccess_of_deciding h, actedOn_of_plain hcrit hf]

theorem exec_tenantCreate (c : Caller) {t : Nat} (data : Bytes) (s : State) (ht : t < 4096) :
    exec (.tenantCreate c t data) s = .next (writeAccess c (at_ Obj.TENANT_CREATE t) data (createRule t s) s) :=
  congrArg Host.Outcome.next (if_pos ht)

theorem exec_tenantDelete (c : Caller) {t : Nat} (data : Bytes) (s : State) (ht : t < 4096) :
    exec (.tenantDelete c t data) s = .next (writeAccess c (at_ Obj.TENANT_DELETE t) data (deleteRule t s) s) :=
  congrArg Host.Outcome.next (if_pos ht)

theorem exec_tenantFenceSet (c : Caller) {t : Nat} (s : State) (ht : t < 4096) :
    exec (.tenantFenceSet c t) s = .next (writeAccess c (at_ Obj.TENANT_FENCE t) [1] (fenceRule t (operatorFence t) s) s) :=
  congrArg Host.Outcome.next (if_pos ht)

theorem exec_tenantUnfence (c : Caller) {t : Nat} (s : State) (ht : t < 4096) :
    exec (.tenantUnfence c t) s = .next (writeAccess c (at_ Obj.TENANT_FENCE t) [0] (fenceRule t (unfenceTenant t) s) s) :=
  congrArg Host.Outcome.next (if_pos ht)

theorem exec_tenantQuotaWrite (c : Caller) {t sub : Nat} (data : Bytes) (s : State) (ht : t < 4096) (hsub : quotaSub sub = true) :
    let id := (0x2000 + t) * 256 + sub
    exec (.tenantQuotaWrite c t sub data) s = .next (writeAccess c id data (tenantRule t id data s) s) :=
  congrArg Host.Outcome.next (if_pos ⟨ht, hsub⟩)

theorem exec_isoRuleCommit (c : Caller) (data : Bytes) (s : State) :
    exec (.isoRuleCommit c data) s = .next (writeAccess c Obj.ISO_RULE_COMMIT data (commitRule data s) s) := rfl

theorem exec_isoTagQuery (c : Caller) (data : Bytes) (s : State) :
    exec (.isoTagQuery c data) s = .next (writeAccess c Obj.ISO_TAG_QUERY data
      (portRule (fun t => setObj Obj.ISO_TAG_RESULT (shownTag t (leNat data)) t)) s) := rfl

theorem exec_ruleChangeApply {s : State} {cls : Nat} {r : List Nat} (h : s.iso.waiting = cls :: r) :
    exec .ruleChangeApply s = .next (applyRules cls (eachBench benchIdle { s with iso := { s.iso with waiting := r } })) := by
  have : execRuleChangeApply s = .next (applyRules cls (eachBench benchIdle { s with iso := { s.iso with waiting := r } })) := by
    unfold execRuleChangeApply
    rw [h]
  exact this

/-- A quota takes the value written: its object has no reserved bits (R118). -/
theorem tenantRule_quota {t sub : Nat} (data : Bytes) (s u : State) (ht : t < 4096) (hsub : quotaSub sub = true) :
    let id := (0x2000 + t) * 256 + sub
    (tenantRule t id data s).act u = setObj id (leNat data) u := by
  intro id
  have hid : id = at_ (0x200000 + sub) t := by
    have : (0x2000 + t) * 256 + sub = 0x200000 + sub + 256 * t := by omega
    exact this
  have hmem : sub ∈ [0x10, 0x11, 0x14, 0x15, 0x16] := of_decide_eq_true hsub
  have hplain : ∀ q ∈ [0x10, 0x11, 0x14, 0x15, 0x16], q < 256 ∧ (findObj (0x200000 + q)).map (·.mask) = some 0 := by decide
  obtain ⟨hlt, hmask⟩ := hplain sub hmem
  obtain ⟨o, ho, hm⟩ := Option.map_eq_some_iff.mp hmask
  have hfind : findObj id = some o := by rw [hid, findObj_tenantRecord ht hlt, ho]
  exact (plainRule_act hfind data u).trans (by rw [maskedVal, if_pos hm])

/-! ### What the tenant commands leave as it was -/

/-- `s` with the dictionary, the output, the window of refusals, the interrupt state and the pairs of `u`. -/
def withRecords (s u : State) : State :=
  { s with dict := u.dict, out := u.out, iso := { s.iso with refusedAt := u.iso.refusedAt },
           ring := { s.ring with msix := u.ring.msix, pairs := u.ring.pairs } }

/-- Nothing outside those parts differs. -/
def OnlyRecords (s u : State) : Prop := u = withRecords s u

theorem OnlyRecords.trans {s u v : State} (h : OnlyRecords s u) (g : OnlyRecords u v) : OnlyRecords s v := by
  have hu : withRecords u v = withRecords (withRecords s u) v := congrArg (fun x => withRecords x v) h
  exact Eq.trans g hu

theorem setObj_ring (id : ObjId) (v : Nat) (s : State) :
    (setObj id v s).ring = { s.ring with msix := (setObj id v s).ring.msix } := by
  unfold setObj noticed msixRaised
  dsimp only
  split
  · rfl
  · split
    · split <;> rfl
    · rfl

theorem setObj_pairs (id : ObjId) (v : Nat) (s : State) : (setObj id v s).ring.pairs = s.ring.pairs := by rw [setObj_ring]

theorem setObj_onlyRecords (id : ObjId) (v : Nat) (s : State) : OnlyRecords s (setObj id v s) := by
  have h : (setObj id v s).ring = (withRecords s (setObj id v s)).ring := by
    show _ = { s.ring with msix := (setObj id v s).ring.msix, pairs := (setObj id v s).ring.pairs }
    rw [setObj_ring]
  exact congrArg (fun r => { setObj id v s with ring := r }) h

@[simp] theorem setPair_objVal (n : Nat) (p : Pair) (s : State) (id : ObjId) : objVal (setPair n p s) id = objVal s id := rfl

theorem setPair_onlyRecords (n : Nat) (p : Pair) (s : State) : OnlyRecords s (setPair n p s) := rfl

theorem forgetRefusals_onlyRecords (t : Nat) (s : State) : OnlyRecords s (forgetRefusals t s) := rfl

/-! ### Objects written one after the other -/

/-- The objects of a list are cleared. -/
def zeroObjs (l : List ObjId) (s : State) : State := l.foldl (fun x o => setObj o 0 x) s

theorem keysRise_zeroObjs (l : List ObjId) {s : State} (h : keysRise s.dict.obj = true) : keysRise (zeroObjs l s).dict.obj = true := by
  induction l generalizing s with
  | nil => exact h
  | cons o l ih => exact ih (keysRise_setObj o 0 s h)

theorem setObj_zero_kept {o id : ObjId} {s : State} (h : keysRise s.dict.obj = true) (hz : objVal s id = 0) :
    objVal (setObj o 0 s) id = 0 := by
  by_cases he : id = o
  · rw [he, setObj_same _ _ _ h]
  · rw [setObj_other _ _ he h, hz]

theorem zeroObjs_zero {l : List ObjId} {id : ObjId} {s : State} (h : keysRise s.dict.obj = true) (hid : id ∈ l ∨ objVal s id = 0) :
    objVal (zeroObjs l s) id = 0 := by
  induction l generalizing s with
  | nil => exact hid.resolve_left List.not_mem_nil
  | cons o l ih =>
    refine ih (keysRise_setObj o 0 s h) ?_
    rcases hid with hid | hz
    · rcases List.mem_cons.mp hid with rfl | hl
      · exact .inr (setObj_same _ _ _ h)
      · exact .inl hl
    · exact .inr (setObj_zero_kept h hz)

theorem zeroObjs_onlyRecords (l : List ObjId) (s : State) : OnlyRecords s (zeroObjs l s) := by
  induction l generalizing s with
  | nil => rfl
  | cons o l ih => exact (setObj_onlyRecords o 0 s).trans (ih _)

theorem zeroObjs_pairs (l : List ObjId) (s : State) : (zeroObjs l s).ring.pairs = s.ring.pairs := by
  induction l generalizing s with
  | nil => rfl
  | cons o l ih => exact (ih _).trans (setObj_pairs o 0 s)

theorem at_ne {a b : ObjId} (h : a ≠ b) (t : Nat) : at_ a t ≠ at_ b t := fun e => h (Nat.add_right_cancel e)

theorem pairObj_tenant {t : Nat} (ht : t < 4096) (base : ObjId) : pairObj t base = at_ base t := if_pos ht

/-! ### Creation (R116) -/

/-- The record of a new tenant: ACTIVE, its counters zero, its pair disabled. -/
def newRecord (t : Nat) (s : State) : State :=
  setObj (at_ Obj.TENANT_STATE t) 1 (setObj (pairObj t Obj.RING_ENABLE) 0 (zeroObjs (tenantCounters t) (forgetRefusals t s)))

theorem createTenant_eq (t : Nat) (s : State) : createTenant t s = setPair t Pair.reset (newRecord t s) := rfl

theorem tenantState_not_counter {t : Nat} (ht : t < 4096) : at_ Obj.TENANT_STATE t ∉ tenantCounters t := by
  have hbase : Obj.TENANT_STATE ∉ [Obj.TENANT_REFUSALS, Obj.RING_JOBS, Obj.RING_STALLS, Obj.RING_STALL_US, Obj.RING_DISCARDS,
    Obj.RING_BAD_DESC, Obj.RING_POLL_LATE, Obj.RING_PRIO_CLAMPED] := by decide
  have hmap : tenantCounters t = [Obj.TENANT_REFUSALS, Obj.RING_JOBS, Obj.RING_STALLS, Obj.RING_STALL_US, Obj.RING_DISCARDS,
      Obj.RING_BAD_DESC, Obj.RING_POLL_LATE, Obj.RING_PRIO_CLAMPED].map (fun b => at_ b t) := by
    simp only [tenantCounters, List.map_cons, List.map_nil, pairObj_tenant ht]
  rw [hmap]
  intro hm
  obtain ⟨b, hb, he⟩ := List.mem_map.mp hm
  exact hbase ((Nat.add_right_cancel he : b = Obj.TENANT_STATE) ▸ hb)

theorem newRecord_objects {t : Nat} {s : State} (ht : t < 4096) (h : keysRise s.dict.obj = true) :
    objVal (newRecord t s) (at_ Obj.TENANT_STATE t) = 1 ∧ (∀ o ∈ tenantCounters t, objVal (newRecord t s) o = 0) ∧
      objVal (newRecord t s) (pairObj t Obj.RING_ENABLE) = 0 := by
  have h0 : keysRise (zeroObjs (tenantCounters t) (forgetRefusals t s)).dict.obj = true := keysRise_zeroObjs _ h
  have h1 := keysRise_setObj (pairObj t Obj.RING_ENABLE) 0 _ h0
  have hzero : ∀ o ∈ tenantCounters t, objVal (zeroObjs (tenantCounters t) (forgetRefusals t s)) o = 0 :=
    fun o ho => zeroObjs_zero h (.inl ho)
  refine ⟨setObj_same _ _ _ h1, fun o ho => ?_, ?_⟩
  · have hne : o ≠ at_ Obj.TENANT_STATE t := fun e => tenantState_not_counter ht (e ▸ ho)
    unfold newRecord
    rw [setObj_other _ _ hne h1]
    exact setObj_zero_kept h0 (hzero o ho)
  · have hne : pairObj t Obj.RING_ENABLE ≠ at_ Obj.TENANT_STATE t := by
      rw [pairObj_tenant ht]; exact at_ne (by decide) t
    unfold newRecord
    rw [setObj_other _ _ hne h1]
    exact setObj_same _ _ _ h0

theorem createTenant_pair (t : Nat) {s : State} (h : keysRise s.ring.pairs = true) : pair (createTenant t s) t = Pair.reset := by
  rw [createTenant_eq]
  refine setPair_same _ _ _ ?_
  unfold newRecord
  rw [setObj_pairs, setObj_pairs, zeroObjs_pairs]
  exact h

theorem createTenant_onlyRecords (t : Nat) (s : State) : OnlyRecords s (createTenant t s) :=
  ((((forgetRefusals_onlyRecords t s).trans (zeroObjs_onlyRecords _ _)).trans (setObj_onlyRecords _ _ _)).trans
    (setObj_onlyRecords _ _ _)).trans (setPair_onlyRecords _ _ _)

/-- TENANT_CREATE of one byte is BAD_VALUE for a tenant that exists (R116). -/
theorem writeChecks_create_exists {s u : State} {w : Who} {t : Nat} (b : Byte) (ht : t < 4096) (habsent : tenantState s t ≠ 0)
    (hdel : tenantState s t ≠ 4) (hdebug : s.lc.debugOpen = false) (hc : writeCheck u w (at_ Obj.TENANT_CREATE t) = none) :
    writeChecks u w (at_ Obj.TENANT_CREATE t) [b] (createRule t s) = some .badValue := by
  obtain ⟨o, ho, hty⟩ : ∃ o, findObj Obj.TENANT_CREATE = some o ∧ o.ty = .u8 := ⟨_, rfl, rfl⟩
  have hfind : findObj (at_ Obj.TENANT_CREATE t) = some o := (findObj_tenantRecord (sub := 2) ht (by decide)).trans ho
  have hroles : roleChecks u w (at_ Obj.TENANT_CREATE t) (createRule t s) = none := by
    unfold roleChecks
    rw [hc]
    rfl
  have hlen : lengthOk o [b] = true := by simp [lengthOk, encLen, hty]
  have hbusy : (createRule t s).busy = false := by simp [createRule, deleting, hdel, hdebug]
  have hbad : (createRule t s).bad = true := decide_eq_true habsent
  have hheld : (createRule t s).held = false := rfl
  have hcrit : (createRule t s).critical = false := rfl
  rw [writeChecks_of_object _ _ _ _ hfind, hroles]
  simp only [hlen, hheld, hbusy, hcrit, hbad, Bool.true_eq_false, Bool.false_eq_true, false_and, or_self, or_true, if_false, if_true]

/-! ### Fencing and unfencing by the operator (R113, R114) -/

theorem operatorFence_of_fenced {t : Nat} {s : State} (h : tenantState s t = 2) :
    operatorFence t s = setObj (at_ Obj.TENANT_FENCE_CAUSE t) 1 s := if_pos h

theorem operatorFence_of_unfenced {t : Nat} {s : State} (h : tenantState s t ≠ 2) : operatorFence t s = fenceTenant t 1 s := if_neg h

theorem unfenceTenant_of_unfenced {t : Nat} {s : State} (h : tenantState s t ≠ 2) : unfenceTenant t s = s := if_pos h

/-- The record of a tenant that is unfenced: ACTIVE, no cause, no refusals. -/
def unfencedRecord (t : Nat) (s : State) : State :=
  setObj (at_ Obj.TENANT_STATE t) 1 (setObj (at_ Obj.TENANT_FENCE t) 0 (setObj (at_ Obj.TENANT_FENCE_CAUSE t) 0
    (setObj (at_ Obj.TENANT_REFUSALS t) 0 (forgetRefusals t s))))

theorem unfenceTenant_of_fenced {t : Nat} {s : State} (h : tenantState s t = 2) :
    unfenceTenant t s = unfencePair t (unfencedRecord t s) := if_neg (not_not_intro h)

theorem unfencedRecord_objects {t : Nat} {s : State} (h : keysRise s.dict.obj = true) :
    let u := unfencedRecord t s
    objVal u (at_ Obj.TENANT_STATE t) = 1 ∧ objVal u (at_ Obj.TENANT_FENCE_CAUSE t) = 0 ∧ objVal u (at_ Obj.TENANT_FENCE t) = 0 ∧
      objVal u (at_ Obj.TENANT_REFUSALS t) = 0 := by
  intro u
  have h0 : keysRise (forgetRefusals t s).dict.obj = true := h
  have h1 := keysRise_setObj (at_ Obj.TENANT_REFUSALS t) 0 _ h0
  have h2 := keysRise_setObj (at_ Obj.TENANT_FENCE_CAUSE t) 0 _ h1
  have h3 := keysRise_setObj (at_ Obj.TENANT_FENCE t) 0 _ h2
  have hstate : ∀ {id}, id ≠ at_ Obj.TENANT_STATE t → objVal u id = objVal _ id := fun hne => setObj_other _ _ hne h3
  refine ⟨setObj_same _ _ _ h3, ?_, ?_, ?_⟩
  · rw [hstate (at_ne (by decide) t)]
    exact setObj_zero_kept h2 (setObj_same _ _ _ h1)
  · rw [hstate (at_ne (by decide) t), setObj_same _ _ _ h2]
  · rw [hstate (at_ne (by decide) t)]
    exact setObj_zero_kept h2 (setObj_zero_kept h1 (setObj_same _ _ _ h0))

theorem unfencedRecord_pairs (t : Nat) (s : State) : (unfencedRecord t s).ring.pairs = s.ring.pairs := by
  simp only [unfencedRecord, setObj_pairs]
  rfl

theorem unfencePair_dict (t : Nat) (s : State) : (unfencePair t s).dict = s.dict := by
  unfold unfencePair; dsimp only; split <;> rfl

theorem unfencePair_iso (t : Nat) (s : State) : (unfencePair t s).iso = s.iso := by
  unfold unfencePair; dsimp only; split <;> rfl

/-- A fenced pair is active again where it stood (R114, R132). -/
theorem unfencePair_of_fenced {t : Nat} {s : State} (hp : (pair s t).st = .fenced) (h : keysRise s.ring.pairs = true) :
    (pair (unfencePair t s) t).st = .active ∧ (pair (unfencePair t s) t).next = (pair s t).next := by
  unfold unfencePair
  dsimp only
  rw [if_pos hp, setPair_same _ _ _ h]
  exact ⟨rfl, rfl⟩

theorem unfencePair_of_unfenced {t : Nat} {s : State} (hp : (pair s t).st ≠ .fenced) : unfencePair t s = s := if_neg hp

end Sys2Proof.Machine

open Sys2Proof Sys2Proof.Machine

/-- Settles O17: each command is the write of its rule, whose act is the effect stated, and the effects write the record object by
object. -/
theorem tenantCommands : Obligations.TenantCommands := by
  unfold Obligations.TenantCommands
  refine ⟨⟨fun c t data s ht h => ?_, fun c t data s ht h => ?_, fun c t s ht h => ?_, fun c t s ht h => ?_,
    fun c t sub data s ht hsub => ?_, fun c data s h => ?_, fun cls r s h => exec_ruleChangeApply h, fun c data s h => ?_⟩,
    ⟨fun t s ht hobj hpairs => ?_, fun c w t b s => ?_⟩,
    ⟨fun t s h => operatorFence_of_unfenced h, fun t s _ hobj h => ?_, fun t s ht hobj h href hpairs => ?_,
      fun t s h => unfenceTenant_of_unfenced h⟩⟩
  · rw [exec_tenantCreate c data s ht, writeAccess_of_plainDeciding h rfl rfl]; rfl
  · rw [exec_tenantDelete c data s ht, writeAccess_of_plainDeciding h rfl rfl]; rfl
  · rw [exec_tenantFenceSet c s ht, writeAccess_of_plainDeciding h rfl rfl]; rfl
  · rw [exec_tenantUnfence c s ht, writeAccess_of_plainDeciding h rfl rfl]; rfl
  · intro id h
    rw [exec_tenantQuotaWrite c data s ht hsub, writeAccess_of_plainDeciding h rfl rfl, tenantRule_quota data s _ ht hsub]
  · rw [exec_isoRuleCommit, writeAccess_of_plainDeciding h rfl rfl]; rfl
  · rw [exec_isoTagQuery, writeAccess_of_plainDeciding h rfl rfl]; rfl
  · have hval : ∀ id, objVal (createTenant t s) id = objVal (newRecord t s) id := fun id => by
      rw [createTenant_eq, setPair_objVal]
    obtain ⟨hstate, hcounters, hring⟩ := newRecord_objects ht hobj
    exact ⟨by rw [hval, hstate], fun o ho => by rw [hval, hcounters o ho], by rw [hval, hring], createTenant_pair t hpairs,
      createTenant_onlyRecords t s⟩
  · intro id u ht hturn habsent hdel hdebug hcheck hc
    rw [exec_tenantCreate c [b] s ht,
      writeAccess_of_refused hturn (writeChecks_create_exists b ht habsent hdel hdebug hcheck) hc]
    rfl
  · rw [operatorFence_of_fenced h]
    exact ⟨rfl, setObj_same _ _ _ hobj⟩
  · intro u
    have hu : u = unfencePair t (unfencedRecord t s) := unfenceTenant_of_fenced h
    have hval : ∀ id, objVal u id = objVal (unfencedRecord t s) id := fun id => by
      rw [hu]; unfold objVal; rw [unfencePair_dict]
    have hp : pair (unfencedRecord t s) t = pair s t := by unfold pair; rw [unfencedRecord_pairs]
    obtain ⟨hstate, hcause, hfence, hrefusals⟩ := unfencedRecord_objects (t := t) hobj
    refine ⟨by rw [hval, hstate], by rw [hval, hcause], by rw [hval, hfence], by rw [hval, hrefusals], ?_, fun hf => ?_, fun hf => ?_⟩
    · rw [hu, unfencePair_iso]
      exact mget?_mdel_same _ _ href
    · rw [hu, ← hp]
      exact unfencePair_of_fenced (by rwa [hp]) (by rwa [unfencedRecord_pairs])
    · rw [hu, unfencePair_of_unfenced (by rwa [hp]), hp]
end

section
/-!
PROOFS. A write of the fabric's memory (R90, R93): what it leaves there, and every other byte unchanged.
-/
namespace Sys2Proof.Machine

/-! ### Bytes and granules -/

/-- The bytes of a granule lie in one record of the context store, or in none. -/
theorem ctxAt?_granule {a b : Nat} (h : a / 256 = b / 256) : ctxAt? a = ctxAt? b := by
  have hin : inCtx a = inCtx b := by
    unfold inCtx
    rw [decide_eq_decide]
    omega
  have hg : (a - 0x3000000) / 256 = (b - 0x3000000) / 256 := by omega
  unfold ctxAt?
  rw [hin, hg]

theorem inLks_granule {a b : Nat} (h : a / 256 = b / 256) : inLks a = inLks b := by
  unfold inLks
  rw [decide_eq_decide]
  omega

/-- The bytes of a string are read back where each of them is. -/
theorem memRead_eq {t : State} {f : Nat} {b : Bytes} (h : ∀ i, i < b.length → memByte t (f + i) = b.getD i 0) :
    memRead t f b.length = b := by
  refine List.ext_getElem (by simp [memRead]) (fun i _ hi => ?_)
  simp only [memRead, List.getElem_map, List.getElem_range]
  rw [h i hi, List.getD_eq_getElem?_getD, List.getElem?_eq_getElem hi, Option.getD_some]

@[simp] theorem memRead_length (s : State) (f n : Nat) : (memRead s f n).length = n := by simp [memRead]

/-! ### Writes outside the large-key store -/

/-- A write that meets no record of the context store lists its bytes. -/
theorem ctxWrite_plain {a : Nat} {b : Bytes} {s : State} (h : ∀ i, i < b.length → ctxAt? (a + i) = none) :
    ctxWrite a b s = { s with iso := { s.iso with mem := putBytes s.iso.mem a b } } := by
  induction b generalizing a s with
  | nil => rfl
  | cons x r ih =>
    have h0 : ctxAt? a = none := h 0 (Nat.succ_pos _)
    have hr : ∀ i, i < r.length → ctxAt? (a + 1 + i) = none := fun i hi => by
      rw [Nat.add_assoc, Nat.add_comm 1 i]; exact h (i + 1) (Nat.succ_lt_succ hi)
    rw [ctxWrite, h0, ih hr]
    rfl

theorem memWrite_plain {a : Nat} {b : Bytes} {s : State} (hl : inLks a = false) (h : ∀ i, i < b.length → ctxAt? (a + i) = none) :
    memWrite a b s = { s with iso := { s.iso with mem := putBytes s.iso.mem a b } } := by
  unfold memWrite
  rw [if_neg (by simp [hl]), ctxWrite_plain h, ite_self]

/-- A byte of the context store that no write names is as before. -/
theorem ctxWrite_mem_other {a : Nat} {b : Bytes} {s : State} (h : keysRise s.iso.mem = true) {k : Nat} (hk : k < a ∨ a + b.length ≤ k) :
    tget (fun _ => 0) (ctxWrite a b s).iso.mem k = tget (fun _ => 0) s.iso.mem k := by
  induction b generalizing a s with
  | nil => rfl
  | cons x r ih =>
    rw [List.length_cons] at hk
    rw [ctxWrite]
    split
    · exact ih h (by omega)
    · have hset : keysRise (tset (fun _ => 0) s.iso.mem a x) = true := keysRise_tset _ _ _ _ h
      exact (ih hset (by omega)).trans (tget_tset_ne _ _ _ (by omega) h)

theorem ctxWrite_kreg (a : Nat) (b : Bytes) (s : State) : (ctxWrite a b s).kreg = s.kreg := by
  induction b generalizing a s with
  | nil => rfl
  | cons x r ih =>
    rw [ctxWrite, ih]
    split <;> rfl

/-! ### Writes of the large-key store (R354) -/

/-- Members of a list that stand first at the same place are the same. -/
theorem eq_of_idxOf_eq {l : List Nat} {a b : Nat} (ha : a ∈ l) (hb : b ∈ l) (h : l.idxOf a = l.idxOf b) : a = b := by
  have hla := List.idxOf_lt_length_of_mem ha
  have hlb := List.idxOf_lt_length_of_mem hb
  calc a = l[l.idxOf a] := (List.getElem_idxOf hla).symm
    _ = l[l.idxOf b] := getElem_congr_idx h
    _ = b := List.getElem_idxOf hlb

/-- Two bytes of an entry have different positions in it. -/
theorem lksPos_inj {x : LksEntry} {a b i : Nat} (ha : lksPos a x = some i) (hb : lksPos b x = some i) : a = b := by
  unfold lksPos at ha hb
  split at ha
  · next hma =>
    split at hb
    · next hmb =>
      have hi : x.extents.idxOf (a / 4096) * 4096 + a % 4096 = i := Option.some.inj ha
      have hj : x.extents.idxOf (b / 4096) * 4096 + b % 4096 = i := Option.some.inj hb
      have hidx : x.extents.idxOf (a / 4096) = x.extents.idxOf (b / 4096) := by omega
      have hdiv : a / 4096 = b / 4096 := eq_of_idxOf_eq hma hmb hidx
      omega
    · cases hb
  · cases ha

/-- Where an entry is found, it is listed and the byte has its position in it. -/
theorem lksAt?_some {s : State} {a h i : Nat} {x : LksEntry} (hf : lksAt? s a = some (h, x, i)) :
    inLks a = true ∧ (h, x) ∈ s.kreg.lks ∧ lksPos (a - 0x1000000) x = some i := by
  unfold lksAt? at hf
  split at hf
  · next hin =>
    obtain ⟨p, hp, hpos⟩ := List.exists_of_findSome?_eq_some hf
    obtain ⟨j, hj, he⟩ := Option.map_eq_some_iff.mp hpos
    cases he
    exact ⟨hin, hp, hj⟩
  · cases hf

/-- Writing a listed key replaces its value where it stands. -/
theorem mset_eq_map {α : Type} {t : Tab α} (h : keysRise t = true) {k : Nat} {x : α} (hx : (k, x) ∈ t) (y : α) :
    mset t k y = t.map (fun p => if p.1 = k then (k, y) else p) := by
  induction t with
  | nil => cases hx
  | cons p r ih =>
    obtain ⟨a, w⟩ := p
    obtain ⟨hbelow, hr⟩ := (keysRise_cons a w r).mp h
    simp only [mset, List.map_cons]
    by_cases hk : k = a
    · subst hk
      rw [if_pos rfl, if_pos rfl]
      have hrest : r.map (fun p => if p.1 = k then (k, y) else p) = r.map id :=
        List.map_congr_left (fun p hp => if_neg (Nat.ne_of_gt (hbelow p hp)))
      rw [hrest, List.map_id]
    · have hin : (k, x) ∈ r := (List.mem_cons.mp hx).resolve_left (fun e => hk (congrArg Prod.fst e))
      have hlt : a < k := hbelow _ hin
      rw [if_neg hk, if_neg (Nat.not_lt_of_gt hlt), if_neg (Ne.symm hk), ih hr hin]

/-- A search goes through a list's images as through the list, where each image is searched as its original is. -/
theorem findSome?_map_of {α β : Type} {l : List α} {g : α → α} {f : α → Option β} {φ : β → β}
    (h : ∀ p ∈ l, f (g p) = (f p).map φ) :
    (l.map g).findSome? f = (l.findSome? f).map φ := by
  induction l with
  | nil => rfl
  | cons p r ih =>
    have hr := ih (fun q hq => h q (List.mem_cons_of_mem _ hq))
    rw [List.map_cons, List.findSome?_cons, List.findSome?_cons, h p List.mem_cons_self, hr]
    cases f p <;> rfl

/-- The state with the entry at handle `h` replaced. -/
def withLks (h : Nat) (y : LksEntry) (s : State) : State := { s with kreg := { s.kreg with lks := mset s.kreg.lks h y } }

/-- An entry that keeps its extents is found where the old one was. -/
theorem lksAt?_withLks {s : State} {h : Nat} {x y : LksEntry} (hk : keysRise s.kreg.lks = true) (hx : (h, x) ∈ s.kreg.lks)
    (he : y.extents = x.extents) (a : Nat) :
    lksAt? (withLks h y s) a = (lksAt? s a).map (fun q => if q.1 = h then (h, y, q.2.2) else q) := by
  have hpos : ∀ p ∈ s.kreg.lks, lksPos (a - 0x1000000) (if p.1 = h then (h, y) else p).2 = lksPos (a - 0x1000000) p.2 := by
    intro p hp
    split
    · next hph =>
      have hsame : p.2 = x := Option.some.inj (((mget?_eq_some_iff hk).mpr (by rw [← hph]; exact hp)).symm.trans
        ((mget?_eq_some_iff hk).mpr hx))
      unfold lksPos
      rw [he, hsame]
    · rfl
  unfold lksAt?
  split
  · have hl : (withLks h y s).kreg.lks = s.kreg.lks.map (fun p => if p.1 = h then (h, y) else p) := mset_eq_map hk hx y
    rw [hl]
    refine findSome?_map_of (fun p hp => ?_)
    rw [hpos p hp, Option.map_map]
    refine congrArg (fun f => Option.map f _) (funext fun i => ?_)
    by_cases hph : p.1 = h
    · simp only [Function.comp_apply, hph, if_true]
    · simp only [Function.comp_apply, hph, if_false]
  · rfl

theorem getD_listSet_ne {α : Type} (l : List α) {i j : Nat} (v d : α) (h : j ≠ i) : (listSet l i v).getD j d = l.getD j d := by
  induction l generalizing i j with
  | nil => rfl
  | cons a r ih =>
    cases i with
    | zero =>
      cases j with
      | zero => exact absurd rfl h
      | succ j => rfl
    | succ i =>
      cases j with
      | zero => rfl
      | succ j => exact ih (fun e => h (congrArg Nat.succ e))

/-- Both tables that a write of the large-key store changes are in order. -/
def LksReady (s : State) : Prop := keysRise s.iso.mem = true ∧ keysRise s.kreg.lks = true

theorem LksReady.lksPut {s : State} (h : LksReady s) (a : Nat) (b : Byte) : LksReady (lksPut s a b) := by
  obtain ⟨hm, hl⟩ := h
  have hset : keysRise (tset (fun _ => 0) s.iso.mem a b) = true := keysRise_tset _ _ _ _ hm
  unfold Machine.lksPut
  split
  · split
    · exact ⟨hm, keysRise_mset _ _ _ hl⟩
    · exact ⟨hset, hl⟩
  · exact ⟨hset, hl⟩

/-- A byte within an entry's data, replaced there, leaves the entry's other bytes and every other entry. -/
theorem memByte_withLks {s : State} {a h i k : Nat} {x : LksEntry} (hl : keysRise s.kreg.lks = true) (hat : lksAt? s a = some (h, x, i))
    (b : Byte) (hk : k ≠ a) (hc : ctxAt? k = none) :
    memByte (withLks h { x with data := listSet x.data i b } s) k = memByte s k := by
  obtain ⟨hin, hx, hpos⟩ := lksAt?_some hat
  have hfind := lksAt?_withLks (y := { x with data := listSet x.data i b }) hl hx rfl k
  unfold memByte
  rw [hfind, hc]
  cases hs : lksAt? s k with
  | none => rfl
  | some q =>
    obtain ⟨h', z, j⟩ := q
    obtain ⟨hin', hz, hpos'⟩ := lksAt?_some hs
    by_cases hh : h' = h
    · subst hh
      have hzx : z = x := Option.some.inj (((mget?_eq_some_iff hl).mpr hz).symm.trans ((mget?_eq_some_iff hl).mpr hx))
      subst hzx
      have hij : j ≠ i := fun e => hk (by
        have hoff := lksPos_inj (hpos'.trans (congrArg some e)) hpos
        simp only [inLks, decide_eq_true_eq] at hin hin'
        omega)
      simp only [Option.map_some, if_true]
      exact getD_listSet_ne _ _ _ hij
    · simp only [Option.map_some, hh, if_false]
      rfl

theorem memByte_lksPut_other {s : State} (h : LksReady s) {a k : Nat} (b : Byte) (hk : k ≠ a) (hc : ctxAt? k = none) :
    memByte (lksPut s a b) k = memByte s k := by
  obtain ⟨hm, hl⟩ := h
  unfold lksPut
  split
  · next hat =>
    split
    · exact memByte_withLks hl hat b hk hc
    · exact memByte_congr rfl hc (tget_tset_ne _ _ _ hk hm)
  · exact memByte_congr rfl hc (tget_tset_ne _ _ _ hk hm)

theorem memByte_lksWrite_other {a k : Nat} {b : Bytes} {s : State} (h : LksReady s) (hk : k < a ∨ a + b.length ≤ k)
    (hc : ctxAt? k = none) : memByte (lksWrite a b s) k = memByte s k := by
  induction b generalizing a s with
  | nil => rfl
  | cons x r ih =>
    rw [List.length_cons] at hk
    rw [lksWrite, ih (h.lksPut a x) (by omega), memByte_lksPut_other h x (by omega) hc]

/-! ### Any write -/

/-- No byte outside a write changes, but in a record of the context store (log entry 175). -/
theorem memByte_memWrite_other {a k : Nat} {b : Bytes} {s : State} (hm : keysRise s.iso.mem = true)
    (hl : inLks a = true → keysRise s.kreg.lks = true) (hk : k < a ∨ a + b.length ≤ k) (hc : ctxAt? k = none) :
    memByte (memWrite a b s) k = memByte s k := by
  unfold memWrite
  split
  · next hin => exact memByte_lksWrite_other ⟨hm, hl hin⟩ hk hc
  · split
    · exact memByte_congr (ctxWrite_kreg a b s) hc (ctxWrite_mem_other hm hk)
    · exact memByte_congr rfl hc ((tget_putBytes b _ a k hm).trans (if_neg (by omega)))

/-- What is written within one granule, outside the large-key store and every record, is read back. -/
theorem memRead_memWrite {f : Nat} {b : Bytes} {s : State} (hm : keysRise s.iso.mem = true) (hg : ∀ i, i < b.length → (f + i) / 256 = f / 256)
    (hl : inLks f = false) (hc : ctxAt? f = none) : memRead (memWrite f b s) f b.length = b := by
  have hctx : ∀ i, i < b.length → ctxAt? (f + i) = none := fun i hi => (ctxAt?_granule (hg i hi)).trans hc
  have hlks : ∀ i, i < b.length → inLks (f + i) = false := fun i hi => (inLks_granule (hg i hi)).trans hl
  rw [memWrite_plain hl hctx]
  refine memRead_eq (fun i hi => ?_)
  rw [memByte_plain (lksAt?_outside _ (hlks i hi)) (hctx i hi)]
  refine (tget_putBytes b _ f (f + i) hm).trans ?_
  rw [if_pos ⟨Nat.le_add_right _ _, Nat.add_lt_add_left hi _⟩, Nat.add_sub_cancel_left]

end Sys2Proof.Machine
end

section
/-!
PROOFS. Loads, stores and string elements of the core (R105, R462–R472, R486).
-/
namespace Sys2Proof.Machine

/-! ### The state an instruction acts on -/

theorem repeatEnd_g (c : Core) : c.repeatEnd.g = c.g := by
  unfold Core.repeatEnd Core.endLevel
  dsimp only
  split
  · split
    · rfl
    · split <;> rfl
  · rfl

theorem spendBudget_g (s : State) : (spendBudget s).tsuow.core.g = s.tsuow.core.g := by
  unfold spendBudget; dsimp only; split <;> rfl
theorem spendBudget_current (s : State) : (spendBudget s).tsuow.current = s.tsuow.current := by
  unfold spendBudget; dsimp only; split <;> rfl
theorem spendBudget_iso (s : State) : (spendBudget s).iso = s.iso := by
  unfold spendBudget; dsimp only; split <;> rfl
theorem spendBudget_kreg (s : State) : (spendBudget s).kreg = s.kreg := by
  unfold spendBudget; dsimp only; split <;> rfl

theorem atInstr_g (s : State) : (atInstr s).tsuow.core.g = s.tsuow.core.g := (spendBudget_g _).trans (repeatEnd_g _)
theorem atInstr_current (s : State) : (atInstr s).tsuow.current = s.tsuow.current := spendBudget_current _
theorem atInstr_iso (s : State) : (atInstr s).iso = s.iso := spendBudget_iso _
theorem atInstr_kreg (s : State) : (atInstr s).kreg = s.kreg := spendBudget_kreg _

theorem memByte_atInstr {s : State} {a : Nat} (hc : ctxAt? a = none) : memByte (atInstr s) a = memByte s a :=
  memByte_congr (atInstr_kreg s) hc (by rw [atInstr_iso])

/-! ### Registers -/

theorem reg_setReg_same {c : Core} (h : keysRise c.g = true) (r : BitVec 4) (v : Word) : (c.setReg r v).reg r = v :=
  tget_tset_same _ _ _ _ h

theorem reg_setReg_other {c : Core} (h : keysRise c.g = true) {r k : BitVec 4} (v : Word) (hk : k ≠ r) : (c.setReg r v).reg k = c.reg k :=
  tget_tset_ne _ _ _ (fun e => hk (BitVec.eq_of_toNat_eq e)) h

theorem keysRise_setReg {c : Core} (h : keysRise c.g = true) (r : BitVec 4) (v : Word) : keysRise (c.setReg r v).g = true :=
  keysRise_tset (fun _ => 0) c.g r.toNat v h

/-- An instruction that writes one register and completes. -/
theorem setReg_complete {c : Core} (h : keysRise c.g = true) (rd : BitVec 4) (v : Word) :
    Retired c (c.setReg rd v).complete ∧ (c.setReg rd v).complete.fl = c.fl ∧ Wrote c (c.setReg rd v).complete rd v :=
  ⟨⟨rfl, rfl⟩, rfl, reg_setReg_same h rd v, fun _ hr => reg_setReg_other h v hr⟩

/-! ### Accesses to D-space -/

theorem dRead_passed {s : State} {c : Core} {f n : Nat} (h : refusedAs s (coreAccess s c f n 1) = []) :
    dRead s c f n = (memRead s f n, []) := by
  simp only [dRead, h, List.isEmpty_nil, if_true]

theorem dRead_refused {s : State} {c : Core} {f n : Nat} (h : refusedAs s (coreAccess s c f n 1) ≠ []) :
    dRead s c f n = (zeros n, refusedAs s (coreAccess s c f n 1)) := by
  simp only [dRead, List.isEmpty_iff, h, if_false]

theorem dWrite_passed {s : State} {c : Core} {f n : Nat} {b : Bytes} (hb : b.length = n) (h : refusedAs s (coreAccess s c f n 2) = []) :
    dWrite c f b s = (memWrite f b s, []) := by
  simp only [dWrite, hb, h, List.isEmpty_nil, if_true]

theorem dWrite_refused {s : State} {c : Core} {f n : Nat} {b : Bytes} (hb : b.length = n) (h : refusedAs s (coreAccess s c f n 2) ≠ []) :
    dWrite c f b s = (s, refusedAs s (coreAccess s c f n 2)) := by
  simp only [dWrite, hb, List.isEmpty_iff, h, if_false]

theorem leNat_zeros (n : Nat) : leNat (zeros n) = 0 := by
  induction n with
  | zero => rfl
  | succ n ih =>
    show (0 : Byte).toNat + 256 * leNat (zeros n) = 0
    rw [ih]
    rfl

/-- What a load puts into its register: zero where it is refused (R105). -/
theorem dRead_value (s : State) (c : Core) (f n : Nat) :
    BitVec.ofNat 32 (leNat (dRead s c f n).1) =
      if refusedAs s (coreAccess s c f n 1) = [] then BitVec.ofNat 32 (leNat (memRead s f n)) else 0 := by
  split
  · next hnil => rw [dRead_passed hnil]
  · next hne => rw [dRead_refused hne, leNat_zeros]; rfl

/-- The windows of D-space begin at multiples of four. -/
theorem dspace_mod {a f w n : Nat} (h : dspace a = some (f, w)) (hn : n = 1 ∨ n = 2 ∨ n = 4) : f % n = a % n := by
  unfold dspace at h
  split at h
  · obtain ⟨rfl, _⟩ := Prod.mk.inj (Option.some.inj h)
    rcases hn with rfl | rfl | rfl <;> omega
  split at h
  · obtain ⟨rfl, _⟩ := Prod.mk.inj (Option.some.inj h)
    rcases hn with rfl | rfl | rfl <;> omega
  split at h
  · obtain ⟨rfl, _⟩ := Prod.mk.inj (Option.some.inj h)
    rcases hn with rfl | rfl | rfl <;> omega
  split at h
  · obtain ⟨rfl, _⟩ := Prod.mk.inj (Option.some.inj h)
    rcases hn with rfl | rfl | rfl <;> omega
  · cases h

theorem reaches_mod {c : Core} {a f n : Nat} (h : reaches c a = some f) (hn : n = 1 ∨ n = 2 ∨ n = 4) : f % n = a % n := by
  unfold reaches at h
  split at h
  · next hd =>
    split at h
    · cases h
    · cases h; exact dspace_mod hd hn
  · cases h

/-- An access that passes the core's checks is aligned, in D-space and at the fabric (R465). -/
theorem dCheck_aligned {c : Core} {a : Word} {n f : Nat} (h : dCheck c a n n = .inr f) (hn : n = 1 ∨ n = 2 ∨ n = 4) :
    a.toNat % n = 0 ∧ f % n = 0 := by
  unfold dCheck at h
  split at h
  · cases h
  · next hal =>
    have hal : a.toNat % n = 0 := Decidable.not_not.mp hal
    refine ⟨hal, ?_⟩
    split at h
    · next hf _ =>
      split at h
      · cases h; rw [reaches_mod hf hn, hal]
      · cases h
    · cases h

/-- It lies in one granule. -/
theorem dCheck_granule {c : Core} {a : Word} {n f : Nat} (h : dCheck c a n n = .inr f) (hn : n = 1 ∨ n = 2 ∨ n = 4) :
    ∀ i, i < n → (f + i) / 256 = f / 256 := by
  intro i hi
  obtain ⟨_, hf⟩ := dCheck_aligned h hn
  rcases hn with rfl | rfl | rfl <;> omega

/-- What a write of the core that passes leaves: its bytes where they are listed, and every other byte (log entry 175). -/
theorem coreWrite_memory {s : State} {c : Core} {a : Word} {n f : Nat} {b : Bytes} (hb : b.length = n) (h : dCheck c a n n = .inr f)
    (hn : n = 1 ∨ n = 2 ∨ n = 4) (hm : keysRise s.iso.mem = true) (hl : inLks f = true → keysRise s.kreg.lks = true) (d : Core) :
    let t := setCore d (memWrite f b (atInstr s))
    (inLks f = false → ctxAt? f = none → memRead t f n = b) ∧
    ∀ k, (k < f ∨ f + n ≤ k) → ctxAt? k = none → memByte t k = memByte s k := by
  subst hb
  have hm' : keysRise (atInstr s).iso.mem = true := by rwa [atInstr_iso]
  have hl' : inLks f = true → keysRise (atInstr s).kreg.lks = true := by rwa [atInstr_kreg]
  have hcore : ∀ k, ctxAt? k = none → memByte (setCore d (memWrite f b (atInstr s))) k = memByte (memWrite f b (atInstr s)) k :=
    fun k hc => memByte_congr rfl hc rfl
  have hg := dCheck_granule h hn
  refine ⟨fun hin hc => ?_, fun k hk hc => ?_⟩
  · have hread : memRead (setCore d (memWrite f b (atInstr s))) f b.length = memRead (memWrite f b (atInstr s)) f b.length :=
      List.map_congr_left (fun i hi => hcore _ ((ctxAt?_granule (hg i (List.mem_range.mp hi))).trans hc))
    rw [hread, memRead_memWrite hm' hg hin hc]
  · rw [hcore k hc, memByte_memWrite_other hm' hl' hk hc, memByte_atInstr hc]

/-! ### Loads and stores -/

/-- LD, LDH and LDB load four, two bytes and one. -/
theorem exec_load {i : Instr} {rd r1 : BitVec 4} {imm : BitVec 18} {n : Nat}
    (hi : (i = Instr.ld rd r1 imm ∧ n = 4) ∨ (i = .ldh rd r1 imm ∧ n = 2) ∨ (i = .ldb rd r1 imm ∧ n = 1)) (s : State) :
    exec i s = .next (loadRow rd r1 imm n s) ∧ (n = 1 ∨ n = 2 ∨ n = 4) := by
  rcases hi with ⟨rfl, rfl⟩ | ⟨rfl, rfl⟩ | ⟨rfl, rfl⟩
  · exact ⟨rfl, .inr (.inr rfl)⟩
  · exact ⟨rfl, .inr (.inl rfl)⟩
  · exact ⟨rfl, .inl rfl⟩

theorem exec_store {i : Instr} {rd r1 : BitVec 4} {imm : BitVec 18} {n : Nat}
    (hi : (i = Instr.st rd r1 imm ∧ n = 4) ∨ (i = .sth rd r1 imm ∧ n = 2) ∨ (i = .stb rd r1 imm ∧ n = 1)) (s : State) :
    exec i s = .next (storeRow rd r1 imm n s) ∧ (n = 1 ∨ n = 2 ∨ n = 4) := by
  rcases hi with ⟨rfl, rfl⟩ | ⟨rfl, rfl⟩ | ⟨rfl, rfl⟩
  · exact ⟨rfl, .inr (.inr rfl)⟩
  · exact ⟨rfl, .inr (.inl rfl)⟩
  · exact ⟨rfl, .inl rfl⟩

theorem exec_ldi (rd r1 : BitVec 4) (imm : BitVec 18) (s : State) : exec (.ldi rd r1 imm) s = execLdi rd r1 imm s := rfl

section
variable {s : State} (hx : Executes s) (rd r1 : BitVec 4) (imm : BitVec 18) {n : Nat}
include hx

theorem loadRow_of_fault {x : Exc}
    (h : dCheck (atInstr s).tsuow.core ((atInstr s).tsuow.core.reg r1 + imm.signExtend 32) n n = .inl x) :
    loadRow rd r1 imm n s = faultAt x (atInstr s) := by
  unfold loadRow
  rw [coreRow_executes _ hx]
  simp only [simm, h]

theorem loadRow_of_address {f : Nat}
    (h : dCheck (atInstr s).tsuow.core ((atInstr s).tsuow.core.reg r1 + imm.signExtend 32) n n = .inr f) :
    let u := atInstr s
    let c := u.tsuow.core
    loadRow rd r1 imm n s =
      refuseAll (dRead u c f n).2 (setCore (c.setReg rd (BitVec.ofNat 32 (leNat (dRead u c f n).1))).complete u) := by
  unfold loadRow
  rw [coreRow_executes _ hx]
  simp only [simm, h]

theorem storeRow_of_fault {x : Exc}
    (h : dCheck (atInstr s).tsuow.core ((atInstr s).tsuow.core.reg r1 + imm.signExtend 32) n n = .inl x) :
    storeRow rd r1 imm n s = faultAt x (atInstr s) := by
  unfold storeRow
  rw [coreRow_executes _ hx]
  simp only [simm, h]

theorem storeRow_of_address {f : Nat}
    (h : dCheck (atInstr s).tsuow.core ((atInstr s).tsuow.core.reg r1 + imm.signExtend 32) n n = .inr f) :
    let u := atInstr s
    let c := u.tsuow.core
    storeRow rd r1 imm n s =
      refuseAll (dWrite c f (leBytes n (c.reg rd).toNat) u).2 (setCore c.complete (dWrite c f (leBytes n (c.reg rd).toNat) u).1) := by
  unfold storeRow
  rw [coreRow_executes _ hx]
  simp only [simm, h]

theorem exec_ldi_of_fault (h : ispaceOk (atInstr s).tsuow.core ((atInstr s).tsuow.core.reg r1 + imm.signExtend 32).toNat = false) :
    let u := atInstr s
    let a := (u.tsuow.core.reg r1 + imm.signExtend 32).toNat
    exec (.ldi rd r1 imm) s = .next (faultAt { code := xIFAULT, addr := BitVec.ofNat 32 a } u) := by
  rw [exec_ldi]
  unfold execLdi
  rw [coreRow_executes _ hx]
  simp only [simm, h, Bool.not_false, if_true]

theorem exec_ldi_of_address (h : ispaceOk (atInstr s).tsuow.core ((atInstr s).tsuow.core.reg r1 + imm.signExtend 32).toNat = true)
    (hr : refusedAs (atInstr s) (coreAccess (atInstr s) (atInstr s).tsuow.core
      (codeFabric ((atInstr s).tsuow.core.reg r1 + imm.signExtend 32).toNat) 4 1) = []) :
    let u := atInstr s
    let c := u.tsuow.core
    let a := (c.reg r1 + imm.signExtend 32).toNat
    exec (.ldi rd r1 imm) s =
      .next (setCore (c.setReg rd (BitVec.ofNat 32 (leNat ((List.range 4).map (fun j => ispaceByte u (a + j)))))).complete u) := by
  rw [exec_ldi]
  unfold execLdi
  rw [coreRow_executes _ hx]
  simp only [simm, h, hr, Bool.not_true, Bool.false_eq_true, if_false, List.isEmpty_nil, if_true]
  rfl

end

/-! ### String instructions -/

theorem exec_string {i : Instr} {rpt : Bool} {sz : BitVec 2} {dir : Bool} {halt : BitVec 4} {brk : Option ElemBreak} {op : StrOp}
    (hi : (i = Instr.movs rpt sz dir halt brk ∧ op = StrOp.movs) ∨ (i = .cmps rpt sz dir halt brk ∧ op = .cmps) ∨
      (i = .scas rpt sz dir halt brk ∧ op = .scas) ∨ (i = .fills rpt sz dir halt brk ∧ op = .fills) ∨
      (i = .ins rpt sz dir halt brk ∧ op = .ins) ∨ (i = .outs rpt sz dir halt brk ∧ op = .outs)) (s : State) :
    exec i s = .next (strRow op rpt sz dir halt brk s) := by
  rcases hi with ⟨rfl, rfl⟩ | ⟨rfl, rfl⟩ | ⟨rfl, rfl⟩ | ⟨rfl, rfl⟩ | ⟨rfl, rfl⟩ | ⟨rfl, rfl⟩ <;> rfl

/-- A pointer one element on. -/
def movedPtr (c : Core) (n : Nat) (dir : Bool) (r : BitVec 4) : Word :=
  if dir then c.reg r - BitVec.ofNat 32 n else c.reg r + BitVec.ofNat 32 n

theorem strMove_eq (c : Core) (r : BitVec 4) (n : Nat) (dir : Bool) : c.strMove r n dir = c.setReg r (movedPtr c n dir r) := rfl

theorem strMove_both {c : Core} (h : keysRise c.g = true) (n : Nat) (dir : Bool) :
    (c.strMove gSRC n dir).strMove gDST n dir = (c.setReg 9 (movedPtr c n dir 9)).setReg 10 (movedPtr c n dir 10) := by
  rw [strMove_eq, strMove_eq]
  unfold movedPtr
  rw [reg_setReg_other h _ (by decide : gDST ≠ gSRC)]

theorem strSize_cases {sz : BitVec 2} (h : sz ≠ 3) : strSize sz = 1 ∨ strSize sz = 2 ∨ strSize sz = 4 := by
  revert h
  revert sz
  decide

/-- A form that does not repeat is legal where its size is. -/
theorem strIllegal_single {op : StrOp} {sz : BitVec 2} (h : sz ≠ 3) (hop : (op ≠ .ins ∧ op ≠ .outs) ∨ sz = 2) :
    strIllegal op false sz 15 = false := by
  unfold strIllegal
  rcases hop with ⟨h1, h2⟩ | h2
  · have hports : decide (op = .ins ∨ op = .outs) = false := decide_eq_false (fun e => e.elim h1 h2)
    rw [decide_eq_false h, hports]
    rfl
  · subst h2
    cases op <;> rfl

theorem strRow_illegal {s : State} (hx : Executes s) {op : StrOp} {rpt : Bool} {sz : BitVec 2} {halt : BitVec 4}
    (h : strIllegal op rpt sz halt = true) (dir : Bool) (brk : Option ElemBreak) :
    strRow op rpt sz dir halt brk s = illegal (atInstr s) := by
  unfold strRow
  rw [coreRow_executes _ hx, if_pos h]

/-- A repeat of no element only completes (R470). -/
theorem strRow_none {s : State} (hx : Executes s) {op : StrOp} {sz : BitVec 2} {halt : BitVec 4}
    (h : strIllegal op true sz halt = false) (h0 : (atInstr s).tsuow.core.reg 11 = 0) (dir : Bool) (brk : Option ElemBreak) :
    strRow op true sz dir halt brk s = setCore (atInstr s).tsuow.core.complete (atInstr s) := by
  unfold strRow
  rw [coreRow_executes _ hx, if_neg (Bool.eq_false_iff.mp h)]
  dsimp only
  rw [if_pos rfl, h0]
  rfl

/-- One element that is not refused, and the instruction completes. -/
theorem strRow_single {s t : State} (hx : Executes s) {op : StrOp} {sz : BitVec 2} (h : strIllegal op false sz 15 = false) {dir : Bool}
    (he : strElem op (strSize sz) dir (atInstr s) = .done t []) (brk : Option ElemBreak) :
    strRow op false sz dir 15 brk s = setCore t.tsuow.core.complete t := by
  unfold strRow
  rw [coreRow_executes _ hx, if_neg (Bool.eq_false_iff.mp h)]
  dsimp only
  rw [if_neg (by decide), he]
  rfl

theorem strPair_of_addresses {c : Core} {n f g : Nat} (hn : n = 1 ∨ n = 2 ∨ n = 4) (hf : dCheck c (c.reg 9) n n = .inr f)
    (hg : dCheck c (c.reg 10) n n = .inr g) : strPair c n = .inr (f, g) := by
  obtain ⟨h9, _⟩ := dCheck_aligned hf hn
  obtain ⟨h10, _⟩ := dCheck_aligned hg hn
  unfold strPair
  rw [if_neg (not_not_intro h9), if_neg (not_not_intro h10), hf, hg]

section
variable {u : State} {n f g : Nat} (dir : Bool)

theorem strElem_movs (hp : strPair u.tsuow.core n = .inr (f, g)) (hr : refusedAs u (coreAccess u u.tsuow.core f n 1) = [])
    (hw : refusedAs u (coreAccess u u.tsuow.core g n 2) = []) :
    strElem .movs n dir u =
      .done (setCore ((u.tsuow.core.strMove gSRC n dir).strMove gDST n dir) (memWrite g (memRead u f n) u)) [] := by
  simp only [strElem, hp, dRead_passed hr, dWrite_passed (memRead_length u f n) hw, List.append_nil]

theorem strElem_cmps (hp : strPair u.tsuow.core n = .inr (f, g)) (hr : refusedAs u (coreAccess u u.tsuow.core f n 1) = [])
    (hw : refusedAs u (coreAccess u u.tsuow.core g n 1) = []) :
    strElem .cmps n dir u =
      .done (setCore (((u.tsuow.core.strCmp n (leNat (memRead u f n)) (leNat (memRead u g n))).strMove gSRC n dir).strMove gDST n dir) u)
        [] := by
  simp only [strElem, hp, dRead_passed hr, dRead_passed hw, List.append_nil]

theorem strElem_scas (hg : dCheck u.tsuow.core (u.tsuow.core.reg 10) n n = .inr g)
    (hr : refusedAs u (coreAccess u u.tsuow.core g n 1) = []) :
    strElem .scas n dir u =
      .done (setCore ((u.tsuow.core.strCmp n ((u.tsuow.core.reg 8).toNat % 2 ^ (8 * n)) (leNat (memRead u g n))).strMove gDST n dir) u)
        [] := by
  simp only [strElem, hg, dRead_passed hr]

theorem strElem_fills (hg : dCheck u.tsuow.core (u.tsuow.core.reg 10) n n = .inr g)
    (hw : refusedAs u (coreAccess u u.tsuow.core g n 2) = []) :
    strElem .fills n dir u =
      .done (setCore (u.tsuow.core.strMove gDST n dir) (memWrite g (leBytes n (u.tsuow.core.reg 8).toNat) u)) [] := by
  simp only [strElem, hg, dWrite_passed (leBytes_length n _) hw]

/-- The port of the cell's number (R464). -/
theorem strElem_ins (hg : dCheck u.tsuow.core (u.tsuow.core.reg 10) 4 4 = .inr g)
    (hw : refusedAs u (coreAccess u u.tsuow.core g 4 2) = []) (hport : (u.tsuow.core.reg 12).toNat % 65536 = 0x8004) :
    strElem .ins 4 dir u =
      .done (setCore (u.tsuow.core.strMove gDST 4 dir) (memWrite g (leBytes 4 (u.tsuow.current.getD 0 % 2 ^ 32)) u)) [] := by
  have hlisted : listedPort 0x8004 = true := by decide
  have hstall : portStalls u 0x8004 = false := by simp [portStalls]
  simp only [strElem, hport, hlisted, hstall, hg, Bool.not_true, Bool.and_false, Bool.false_eq_true, if_false, portRead,
    BitVec.toNat_ofNat, dWrite_passed (leBytes_length 4 _) hw]

theorem strElem_outs (hf : dCheck u.tsuow.core (u.tsuow.core.reg 9) n n = .inr f)
    (hr : refusedAs u (coreAccess u u.tsuow.core f n 1) = []) (hport : listedPort ((u.tsuow.core.reg 12).toNat % 65536) = true) :
    strElem .outs n dir u = .done (setCore (u.tsuow.core.strMove gSRC n dir) u) [] := by
  simp only [strElem, hport, hf, Bool.not_true, Bool.and_false, Bool.false_eq_true, if_false, dRead_passed hr]

end

end Sys2Proof.Machine

open Sys2Proof Sys2Proof.Machine

/-- Settles O49: a scalar row runs its body on `atInstr`, a single string element is `strElem`, and what a write leaves is
`coreWrite_memory`. -/
theorem coreMemory : Obligations.CoreMemory := by
  unfold Obligations.CoreMemory
  intro s hx hkeys u c
  have hg : keysRise c.g = true := (congrArg keysRise (atInstr_g s)).trans hkeys
  refine ⟨fun i rd r1 imm n f hi hf => ?_, fun rd r1 imm => ⟨fun ha hr => ?_, fun ha => exec_ldi_of_fault hx rd r1 imm ha⟩,
    fun i rd r1 imm n f hi hf => ?_, fun i rd r1 imm n x hi hf => ?_, fun sz dir brk f g hsz => ?_, fun dir brk g hd hw hport => ?_,
    fun dir brk f hd hr hport => ?_, fun i rpt sz dir halt brk op hi => ⟨fun hil => ?_, fun hl hrpt h0 => ?_⟩⟩
  · intro l
    obtain ⟨hexec, _⟩ := exec_load hi s
    obtain ⟨hret, hfl, hwrote⟩ := setReg_complete hg rd (BitVec.ofNat 32 (leNat (dRead u c f n).1))
    exact ⟨_, hexec.trans (congrArg _ (loadRow_of_address hx rd r1 imm hf)), hret, hfl,
      (congrArg (Wrote c _ rd) (dRead_value u c f n)).mp hwrote⟩
  · obtain ⟨hret, hfl, hwrote⟩ := setReg_complete hg rd
      (BitVec.ofNat 32 (leNat ((List.range 4).map (fun j => ispaceByte u ((c.reg r1 + imm.signExtend 32).toNat + j)))))
    exact ⟨_, exec_ldi_of_address hx rd r1 imm ha hr, hret, hfl, hwrote⟩
  · intro l
    obtain ⟨hexec, hn⟩ := exec_store hi s
    have hrow := storeRow_of_address hx rd r1 imm hf
    have hlen := leBytes_length n (c.reg rd).toNat
    refine ⟨fun hne => ?_, fun hnil hm hl => ?_⟩
    · rw [hexec, hrow, dWrite_refused hlen hne]
    · obtain ⟨hread, hother⟩ := coreWrite_memory hlen hf hn hm (fun _ => hl) c.complete
      refine ⟨_, by rw [hexec, hrow, dWrite_passed hlen hnil]; rfl, rfl, hread, hother⟩
  · rcases hi with hi | hi | hi | hi
    · rw [(exec_load (.inl hi) s).1, loadRow_of_fault hx rd r1 imm hf]
    · rw [(exec_load (.inr (.inl hi)) s).1, loadRow_of_fault hx rd r1 imm hf]
    · rw [(exec_load (.inr (.inr hi)) s).1, loadRow_of_fault hx rd r1 imm hf]
    · rw [(exec_store hi s).1, storeRow_of_fault hx rd r1 imm hf]
  · intro n step
    have hn : n = 1 ∨ n = 2 ∨ n = 4 := strSize_cases hsz
    have single : ∀ {op : StrOp} {t : State}, op ≠ .ins ∧ op ≠ .outs → strElem op n dir u = .done t [] →
        strRow op false sz dir 15 brk s = setCore t.tsuow.core.complete t :=
      fun hop he => strRow_single hx (strIllegal_single hsz (.inl hop)) he brk
    refine ⟨fun hf hr hd => ⟨fun hw hm hin hctx => ?_, fun hw => ?_⟩, fun hd => ⟨fun hr => ?_, fun hw => ?_⟩⟩
    · have hrow := single (by decide) (strElem_movs dir (strPair_of_addresses hn hf hd) hr hw)
      obtain ⟨hread, hother⟩ := coreWrite_memory (memRead_length u f n) hd hn hm (fun h => absurd h (by simp [hin]))
        ((c.strMove gSRC n dir).strMove gDST n dir).complete
      refine ⟨_, congrArg Host.Outcome.next hrow, hread hin hctx, hother, ?_, ?_, rfl⟩
      · exact (congrArg (Core.reg · 9) (strMove_both hg n dir)).trans
          ((reg_setReg_other (keysRise_setReg hg 9 _) _ (by decide)).trans (reg_setReg_same hg 9 _))
      · exact (congrArg (Core.reg · 10) (strMove_both hg n dir)).trans (reg_setReg_same (keysRise_setReg hg 9 _) 10 _)
    · have hrow := single (by decide) (strElem_cmps dir (strPair_of_addresses hn hf hd) hr hw)
      rw [strMove_both (by exact hg)] at hrow
      exact congrArg Host.Outcome.next hrow
    · exact congrArg Host.Outcome.next (single (by decide) (strElem_scas dir hd hr))
    · exact congrArg Host.Outcome.next (single (by decide) (strElem_fills dir hd hw))
  · refine congrArg Host.Outcome.next ((strRow_single hx (strIllegal_single (by decide) (.inr rfl))
      (strElem_ins dir hd hw hport) brk).trans ?_)
    rw [atInstr_current]
    rfl
  · exact congrArg Host.Outcome.next (strRow_single hx (strIllegal_single (by decide) (.inr rfl)) (strElem_outs dir hd hr hport) brk)
  · rw [exec_string hi s, strRow_illegal hx hil]
  · subst hrpt
    rw [exec_string hi s, strRow_none hx hl h0]
end

section
/-!
PROOFS. What the steps of a job ring share: announcing a change leaves the rings alone, a step of one pair leaves the other pairs and the
in-flight entries alone, and a pair's record is read back after a write (R129, R171).
-/
namespace Sys2Proof.Machine

/-! ### Announcing a change (R61, R171) -/

/-- Of the rings, `t` differs from `s` in the MSI-X table alone, and nothing but vectors has left the device in between. -/
structure Announces (s t : State) : Prop where
  ring : t.ring = { s.ring with msix := t.ring.msix }
  out : ∃ r, t.out = s.out ++ r ∧ ∀ o ∈ r, ∃ v, o = .msix v

theorem msixRaised_ring (r : RingSt) (vec : Nat) : msixRaised r vec = { r with msix := (msixRaised r vec).msix } := by
  unfold msixRaised; dsimp only; split <;> rfl

theorem msixOut_vectors (r : RingSt) (vec : Nat) : ∀ o ∈ msixOut r vec, ∃ v, o = .msix v := by
  unfold msixOut
  split
  · exact fun o ho => nomatch ho
  · exact fun o ho => ⟨vec, List.mem_singleton.mp ho⟩

namespace Announces

theorem of_same {s t : State} (hr : t.ring = s.ring) (ho : t.out = s.out) : Announces s t :=
  ⟨by rw [hr], [], by rw [ho, List.append_nil], fun _ h => nomatch h⟩

theorem refl (s : State) : Announces s s := of_same rfl rfl

theorem trans {s t u : State} (h : Announces s t) (g : Announces t u) : Announces s u where
  ring := g.ring.trans (congrArg (fun r => { r with msix := u.ring.msix }) h.ring)
  out := by
    obtain ⟨a, ha, hav⟩ := h.out
    obtain ⟨b, hb, hbv⟩ := g.out
    exact ⟨a ++ b, by rw [hb, ha, List.append_assoc], fun o ho => (List.mem_append.mp ho).elim (hav o) (hbv o)⟩

theorem raiseVec (vec : Nat) (s : State) : Announces s (Machine.raiseVec vec s) :=
  ⟨msixRaised_ring s.ring vec, msixOut s.ring vec, rfl, msixOut_vectors s.ring vec⟩

theorem noticed (id : ObjId) (s : State) : Announces s (Machine.noticed id s) := by
  have hraise := raiseVec s.dict.win.ntfVector.toNat s
  unfold Machine.noticed
  dsimp only
  split
  · exact ⟨hraise.ring, hraise.out⟩
  · exact of_same rfl rfl

theorem setObj (id : ObjId) (v : Nat) (s : State) : Announces s (Machine.setObj id v s) := by
  have hnoticed := noticed id s
  unfold Machine.setObj
  dsimp only
  split
  · exact of_same rfl rfl
  · exact ⟨hnoticed.ring, hnoticed.out⟩

theorem bumpBy (id : ObjId) (n : Nat) (s : State) : Announces s (Machine.bumpBy id n s) := by
  obtain ⟨hring, hout⟩ := setObj id (if decide (objVal s id + n < objRange id) then objVal s id + n
    else Config.freeNat s.free % objRange id) s
  exact ⟨hring, hout⟩

theorem bump (id : ObjId) (s : State) : Announces s (Machine.bump id s) := bumpBy id 1 s

section
variable {s t : State} (h : Announces s t)
include h

theorem pairs : t.ring.pairs = s.ring.pairs := by rw [h.ring]
theorem entries : t.ring.entries = s.ring.entries := by rw [h.ring]
theorem internalWait : t.ring.internalWait = s.ring.internalWait := by rw [h.ring]
theorem pair (p : Nat) : Machine.pair t p = Machine.pair s p := by unfold Machine.pair; rw [h.pairs]
theorem entry (e : Nat) : entry? t e = entry? s e := by unfold entry?; rw [h.entries]
end

end Announces

/-! ### Steps of one pair -/

theorem keysRise_setPair (p : Nat) (x : Pair) {s : State} (h : keysRise s.ring.pairs = true) :
    keysRise (setPair p x s).ring.pairs = true := keysRise_tset (fun _ => Pair.reset) s.ring.pairs p x h

/-- Of the rings' pairs and jobs and RING_ERR, only pair `p` may differ in `t` from `s`. -/
structure OnlyPair (p : Nat) (s t : State) : Prop where
  keys : keysRise s.ring.pairs = true → keysRise t.ring.pairs = true
  others : keysRise s.ring.pairs = true → ∀ q, q ≠ p → pair t q = pair s q
  entries : t.ring.entries = s.ring.entries
  err : t.ring.err = s.ring.err
  errRing : t.ring.errRing = s.ring.errRing

namespace OnlyPair

theorem of_announces {p : Nat} {s t : State} (h : Announces s t) : OnlyPair p s t :=
  ⟨fun hk => by rwa [h.pairs], fun _ q _ => h.pair q, h.entries, by rw [h.ring], by rw [h.ring]⟩

theorem refl (p : Nat) (s : State) : OnlyPair p s s := of_announces (.refl s)

theorem trans {p : Nat} {s t u : State} (h : OnlyPair p s t) (g : OnlyPair p t u) : OnlyPair p s u where
  keys hk := g.keys (h.keys hk)
  others hk q hq := (g.others (h.keys hk) q hq).trans (h.others hk q hq)
  entries := g.entries.trans h.entries
  err := g.err.trans h.err
  errRing := g.errRing.trans h.errRing

theorem setPair (p : Nat) (x : Pair) (s : State) : OnlyPair p s (Machine.setPair p x s) :=
  ⟨keysRise_setPair p x, fun hk _ hq => setPair_other x s hq hk, rfl, rfl, rfl⟩

theorem endTurn (p : Nat) (s : State) : OnlyPair p s (Machine.endTurn p s) := ⟨id, fun _ _ _ => rfl, rfl, rfl, rfl⟩

theorem notStarving (p : Nat) (s : State) : OnlyPair p s (Machine.notStarving p s) := ⟨id, fun _ _ _ => rfl, rfl, rfl, rfl⟩

theorem leaveStall (p : Nat) (s : State) : OnlyPair p s (Machine.leaveStall p s) := by
  unfold Machine.leaveStall
  dsimp only
  split
  · exact refl p s
  · exact (setPair p _ s).trans (of_announces (.bumpBy _ _ _))

theorem dropHeld (p : Nat) (s : State) : OnlyPair p s (Machine.dropHeld p s) := (endTurn p s).trans (setPair p _ _)

end OnlyPair

/-! ### A pair's record after a write -/

theorem Pair.ne_reset_of_enabled {x : Pair} (h : x.st ≠ .disabled) : x ≠ Pair.reset := fun e => h (congrArg Pair.st e)

/-- A record other than the reset one is read back from any table. -/
theorem setPair_same_of_ne (p : Nat) {x : Pair} (s : State) (h : x ≠ Pair.reset) : pair (setPair p x s) p = x := tget_tset_of_ne _ _ _ h

theorem leaveStall_pair {p : Nat} {s : State} (h : keysRise s.ring.pairs = true) :
    pair (leaveStall p s) p = { pair s p with stallAt := none } := by
  unfold leaveStall
  dsimp only
  split
  · next hn => rw [← hn]
  · rw [(Announces.bumpBy _ _ _).pair, setPair_same _ _ _ h]

theorem dropHeld_pair {p : Nat} {s : State} (h : keysRise s.ring.pairs = true) :
    pair (dropHeld p s) p = { pair s p with held := [], readNext := (pair s p).next, readLap := (pair s p).lap } :=
  setPair_same p _ (endTurn p s) h

/-! ### The ring manager's access to a pair's ring state (R107) -/

theorem recGuard_of_passed {r : CtxRec} {a : FabAcc} {s : State} (h : checkRec s r a = none) (u : UnitRef) (k : State → State) :
    recGuard r a u k s = k s := by
  unfold recGuard; rw [h]

theorem ringGuard_of_passed {p len kind : Nat} {s : State} (h : checkRec s (.ring p) (ringAccess p len kind) = none) (k : State → State) :
    ringGuard p len kind k s = k s := recGuard_of_passed h _ _

end Sys2Proof.Machine
end

section
/-!
PROOFS. Starting, stopping and polling a ring pair (R129–R132, R140–R142, R173).
-/
namespace Sys2Proof.Machine

/-! ### Starting and stopping a pair (R130, R131) -/

theorem startPair_pair (p : Nat) (s : State) :
    pair (startPair p s) p = { Pair.reset with st := if isMgmt p = false ∧ tenantState s p = 2 then .fenced else .active,
                                               pollAt := s.now + ringVal s p Obj.RING_POLL_ACTIVE * 500 } := by
  have hst : (if (!(isMgmt p) && decide (tenantState s p = 2)) = true then PairState.fenced else .active) =
      if isMgmt p = false ∧ tenantState s p = 2 then .fenced else .active := by simp
  unfold startPair
  dsimp only
  rw [(Announces.setObj _ _ _).pair, setPair_same_of_ne]
  · exact congrArg (fun st => { Pair.reset with st := st, pollAt := s.now + ringVal s p Obj.RING_POLL_ACTIVE * 500 }) hst
  · refine Pair.ne_reset_of_enabled ?_
    dsimp only
    split <;> exact PairState.noConfusion

theorem settleDrain_onlyPair (p : Nat) (s : State) : OnlyPair p s (settleDrain p s) := by
  unfold settleDrain
  dsimp only
  split
  · exact .setPair p _ s
  · exact .refl p s

theorem settleDrain_dict (p : Nat) (s : State) : (settleDrain p s).dict = s.dict := by
  unfold settleDrain; dsimp only; split <;> rfl

/-- A DRAINING pair is DISABLED once it has no admitted job. -/
theorem settleDrain_pair_of_draining {p : Nat} {s : State} (h : keysRise s.ring.pairs = true) (hd : (pair s p).st = .draining) :
    pair (settleDrain p s) p = { pair s p with st := if pairEntries s p = 0 then .disabled else .draining } := by
  unfold settleDrain
  dsimp only
  by_cases he : pairEntries s p = 0
  · rw [if_pos ⟨hd, he⟩, if_pos he, setPair_same _ _ _ h]
  · rw [if_neg (fun hc => he hc.2), if_neg he, ← hd]

/-- The pair is out of the enabled ones and its held entries are given up. -/
def emptiedPair (p : Nat) (s : State) : State := dropHeld p (setObj (pairObj p Obj.RING_ENABLE) 0 (leaveStall p s))

theorem stopPair_of_disabled {p : Nat} {s : State} (h : (pair (emptiedPair p s) p).st = .disabled) :
    stopPair p s = emptiedPair p s := if_pos h

theorem stopPair_of_enabled {p : Nat} {s : State} (h : (pair (emptiedPair p s) p).st ≠ .disabled) :
    stopPair p s = settleDrain p (setPair p { pair (emptiedPair p s) p with st := .draining, headAt := none, pageWait := none }
      (notStarving p (emptiedPair p s))) := if_neg h

theorem emptiedPair_onlyPair (p : Nat) (s : State) : OnlyPair p s (emptiedPair p s) :=
  ((OnlyPair.leaveStall p s).trans (.of_announces (.setObj _ _ _))).trans (.dropHeld p _)

theorem emptiedPair_pair {p : Nat} {s : State} (h : keysRise s.ring.pairs = true) :
    pair (emptiedPair p s) p =
      { pair s p with stallAt := none, held := [], readNext := (pair s p).next, readLap := (pair s p).lap } := by
  have hstall := (OnlyPair.leaveStall p s).keys h
  have hset := Announces.setObj (pairObj p Obj.RING_ENABLE) 0 (leaveStall p s)
  unfold emptiedPair
  rw [dropHeld_pair (by rwa [hset.pairs]), hset.pair, leaveStall_pair h]

theorem stopPair_enable (p : Nat) {s : State} (h : keysRise s.dict.obj = true) :
    objVal (stopPair p s) (pairObj p Obj.RING_ENABLE) = 0 := by
  have hstall : keysRise (leaveStall p s).dict.obj = true := by
    unfold leaveStall
    dsimp only
    split
    · exact h
    · exact keysRise_setObj _ _ _ h
  have hemptied : objVal (emptiedPair p s) (pairObj p Obj.RING_ENABLE) = 0 := setObj_same _ _ _ hstall
  by_cases hd : (pair (emptiedPair p s) p).st = .disabled
  · rw [stopPair_of_disabled hd, hemptied]
  · rw [stopPair_of_enabled hd]
    unfold objVal at hemptied ⊢
    rw [settleDrain_dict]
    exact hemptied

/-- A stopped pair holds nothing; it is DRAINING while it has admitted jobs. -/
theorem stopPair_pair (p : Nat) {s : State} (h : keysRise s.ring.pairs = true) :
    (pair (stopPair p s) p).held = [] ∧ (pair (stopPair p s) p).next = (pair s p).next ∧
      (pair (stopPair p s) p).st = if (pair s p).st = .disabled ∨ pairEntries s p = 0 then .disabled else .draining := by
  have hp := emptiedPair_pair (p := p) h
  have hst : (pair (emptiedPair p s) p).st = (pair s p).st := by rw [hp]
  have hk := (emptiedPair_onlyPair p s).keys h
  by_cases hd : (pair s p).st = .disabled
  · rw [stopPair_of_disabled (hst.trans hd), hp]
    exact ⟨rfl, rfl, by rw [if_pos (.inl hd), ← hd]⟩
  · generalize hx : ({ pair (emptiedPair p s) p with st := .draining, headAt := none, pageWait := none } : Pair) = x
    have hstop : stopPair p s = settleDrain p (setPair p x (notStarving p (emptiedPair p s))) := by
      rw [stopPair_of_enabled (by rwa [hst]), hx]
    have hu : pair (setPair p x (notStarving p (emptiedPair p s))) p = x := setPair_same p x _ hk
    have hku := keysRise_setPair p x (s := notStarving p (emptiedPair p s)) hk
    have hjobs : pairEntries (setPair p x (notStarving p (emptiedPair p s))) p = pairEntries s p :=
      congrArg (mcount (fun _ e => ofPair p e)) (emptiedPair_onlyPair p s).entries
    rw [hstop, settleDrain_pair_of_draining hku (by rw [hu, ← hx]), hu, hjobs, ← hx, hp]
    exact ⟨rfl, rfl, by simp only [hd, false_or]⟩

/-! ### When a pair cannot be started (R130) -/

theorem badBase_iff (v : Nat) : badBase v = true ↔ v = 0 ∨ v % 4096 ≠ 0 := decide_eq_true_iff

theorem enableRule_busy (p : Nat) (s : State) :
    (enableRule p s).busy = true ↔ (pair s p).st ≠ .disabled ∨ (isMgmt p = false ∧ tenantState s p = 4) := by
  cases hm : isMgmt p <;> simp [enableRule, hm, tenantState]

theorem enableRule_bad (p : Nat) (s : State) : (enableRule p s).bad = true ↔
    (ringVal s p Obj.RING_SUB_BASE = 0 ∨ ringVal s p Obj.RING_SUB_BASE % 4096 ≠ 0 ∨
      ringVal s p Obj.RING_CPL_BASE = 0 ∨ ringVal s p Obj.RING_CPL_BASE % 4096 ≠ 0 ∨ (isMgmt p = false ∧ tenantState s p = 0)) := by
  cases hm : isMgmt p <;> simp [enableRule, hm, tenantState, badBase_iff, or_assoc]

/-! ### A poll (R140–R142) -/

/-- A pair's record after a poll that read the valid entries `ok` on a ring of `size` entries, at a moment, with its next poll at another. -/
def Pair.polled (x : Pair) (ok : List Bytes) (size : Nat) (at1 due : Time) : Pair :=
  { x with held := x.held ++ (List.zip (List.range ok.length) ok).map (fun q => { index := x.readNext + q.1, body := q.2, at_ := at1 }),
           readNext := (x.readNext + ok.length) % size,
           readLap := if decide (size ≤ x.readNext + ok.length) then !x.readLap else x.readLap,
           emptyPolls := if ok.isEmpty then x.emptyPolls + 1 else 0,
           st := if ok.isEmpty then (if 64 ≤ (if ok.isEmpty then x.emptyPolls + 1 else 0) then .idle else x.st) else .active,
           pollAt := due,
           headAt := if x.held.isEmpty && !ok.isEmpty then some at1 else x.headAt }

section
variable (x : Pair) (ok : List Bytes) (size : Nat) (at1 due : Time)

theorem Pair.polled_bodies : (x.polled ok size at1 due).held.map (·.body) = x.held.map (·.body) ++ ok := by
  have hsnd : (List.zip (List.range ok.length) ok).map Prod.snd = ok := List.map_snd_zip (by simp)
  simp only [Pair.polled, List.map_append, List.map_map]
  exact congrArg _ hsnd

theorem Pair.polled_readLap : (x.polled ok size at1 due).readLap = if size ≤ x.readNext + ok.length then !x.readLap else x.readLap := by
  simp only [Pair.polled, decide_eq_true_eq]

end

/-- What a poll reads goes to the pair's record; broken skeins at the head are ended after it. -/
theorem pollPair_eq (p : Nat) (es : List Bytes) (s : State) :
    ∃ n v due, pollPair p es s = settleHead p 64 (bumpBy (pairObj p Obj.RING_DISCARDS) n (setPair p
      ((pair s p).polled (validPrefix (isLegacy s p) (pair s p).readLap (es.take (pollSize s p)))
        (max (ringVal s p Obj.RING_SIZE) 1) v.now due) v)) :=
  ⟨_, _, _, rfl⟩

theorem Pair.polled_enabled {x : Pair} (h : x.st ≠ .disabled) (ok : List Bytes) (size : Nat) (at1 due : Time) :
    (x.polled ok size at1 due).st ≠ .disabled := by
  simp only [Pair.polled]
  split
  · split
    · exact PairState.noConfusion
    · exact h
  · exact PairState.noConfusion

theorem enabled_of_mayPoll {s : State} {p : Nat} (h : mayPoll s p = true) : (pair s p).st ≠ .disabled := by
  intro hd
  simp [mayPoll, hd] at h

theorem exec_ringPoll {p : Nat} (es : List Bytes) {s : State} (hm : mayPoll s p = true) (hn : pollSize s p ≠ 0)
    (hy : pollYields s p = false) (hc : checkRec s (.ring p) (ringAccess p (64 * pollSize s p) 2) = none) :
    exec (.ringPoll p es) s = .next (pollPair p es s) := by
  have : execRingPoll p es s = .next (pollPair p es s) := by
    unfold execRingPoll
    rw [hm, hy, if_pos hn, ringGuard_of_passed hc]
    rfl
  exact this

theorem exec_ringEnableSet (c : Caller) (p : Nat) (s : State) :
    exec (.ringEnableSet c p) s = .next (writeAccess c (pairObj p Obj.RING_ENABLE) [1] (enableRule p s) s) := rfl

theorem exec_ringDisable (c : Caller) (p : Nat) (s : State) :
    exec (.ringDisable c p) s = .next (writeAccess c (pairObj p Obj.RING_ENABLE) [0] (disableRule p s) s) := rfl

theorem exec_ringGctrlRun (v : Word) (s : State) : exec (.ringGctrlRun v) s = .next (setRun (v.getLsbD 0) s) := rfl

end Sys2Proof.Machine

open Sys2Proof Sys2Proof.Machine

/-- Settles O25: the commands are the writes of their rules and of RUN; `startPair` writes a fresh record, `stopPair` empties the old
one and settles it as DRAINING or DISABLED. -/
theorem ringCommands : Obligations.RingCommands := by
  unfold Obligations.RingCommands
  refine ⟨fun c p s h => ?_, fun c p s h => ?_, fun v s => ?_, fun p s _ hobj => ?_,
    fun p s _ hobj hpairs => ⟨stopPair_enable p hobj, stopPair_pair p hpairs⟩, enableRule_busy, enableRule_bad⟩
  · rw [exec_ringEnableSet, writeAccess_of_plainDeciding h rfl rfl]; rfl
  · rw [exec_ringDisable, writeAccess_of_plainDeciding h rfl rfl]; rfl
  · rw [exec_ringGctrlRun, setRun_eq]
  · exact ⟨setObj_same _ _ _ hobj, startPair_pair p s⟩

/-- Settles O27: a poll that goes ahead is `pollPair`, and the record it leaves is `Pair.polled` of the valid entries. -/
theorem ringPolling : Obligations.RingPolling := by
  unfold Obligations.RingPolling
  intro p es s hm hn hy hc x ok size
  obtain ⟨n, v, due, hpoll⟩ := pollPair_eq p es s
  have hu : pair (bumpBy (pairObj p Obj.RING_DISCARDS) n (setPair p (x.polled ok size v.now due) v)) p = x.polled ok size v.now due := by
    rw [(Announces.bumpBy _ _ _).pair]
    exact setPair_same_of_ne p v (Pair.ne_reset_of_enabled (Pair.polled_enabled (enabled_of_mayPoll hm) ok size v.now due))
  refine ⟨_, by rw [exec_ringPoll es hm hn hy hc, hpoll], ?_⟩
  rw [hu]
  refine ⟨Pair.polled_bodies .., rfl, Pair.polled_readLap .., rfl, rfl, fun hok => ?_, fun hok => ?_⟩
  · have hf : ¬ ok.isEmpty = true := fun h => hok (List.isEmpty_iff.mp h)
    exact ⟨if_neg hf, if_neg hf⟩
  · have ht : ok.isEmpty = true := List.isEmpty_iff.mpr hok
    exact ⟨if_pos ht, (if_pos ht).trans (by rw [if_pos ht])⟩
end

section
/-!
PROOFS. Completion records, and the events of a ring pair beside polling and admission: starvation, coalescing, host-memory errors, NOP and
ABORT (R162, R165–R171, R174, R214, R643).
-/
namespace Sys2Proof.Machine

/-! ### A pair's interrupt after a record (R171) -/

theorem takeCoal_onlyPair (p : Nat) (s : State) : OnlyPair p s (takeCoal p s) := .setPair p _ s

/-- The interrupt after a record changes the pair's coalescing alone. -/
theorem signal_pair (p : Nat) (irq : Bool) {s : State} (h : keysRise s.ring.pairs = true) :
    ∃ delay vec n since, pair (signal p irq s) p =
      { pair s p with coalDelay := delay, coalVector := vec, unsignalled := n, unsignalledAt := since } := by
  have hk := (takeCoal_onlyPair p s).keys h
  have hx : ∃ delay vec, pair (takeCoal p s) p = { pair s p with coalDelay := delay, coalVector := vec } := ⟨_, _, setPair_same p _ s h⟩
  obtain ⟨delay, vec, hx⟩ := hx
  unfold signal
  dsimp only
  split
  · exact ⟨delay, vec, _, _, hx⟩
  · split
    · exact ⟨delay, vec, 0, none, by rw [(Announces.raiseVec _ _).pair, setPair_same p _ _ hk, hx]⟩
    · exact ⟨delay, vec, _, _, by rw [setPair_same p _ _ hk, hx]⟩

theorem signal_onlyPair (p : Nat) (irq : Bool) (s : State) : OnlyPair p s (signal p irq s) := by
  have hcoal := takeCoal_onlyPair p s
  unfold signal
  dsimp only
  split
  · exact hcoal
  · split
    · exact (hcoal.trans (.setPair p _ _)).trans (.of_announces (.raiseVec _ _))
    · exact hcoal.trans (.setPair p _ _)

theorem signal_out (p : Nat) (irq : Bool) (s : State) : ∃ r, (signal p irq s).out = s.out ++ r ∧ ∀ o ∈ r, ∃ v, o = .msix v := by
  have hsilent : ∃ r, s.out = s.out ++ r ∧ ∀ o ∈ r, ∃ v, o = Out.msix v := (Announces.refl s).out
  unfold signal
  dsimp only
  split
  · exact hsilent
  · split
    · exact (Announces.raiseVec _ (setPair p _ (takeCoal p s))).out
    · exact hsilent

/-! ### A record (R165, R166) -/

/-- The pair's record once a completion record has been written at its completion index. -/
def Pair.recorded (x : Pair) (size : Nat) : Pair :=
  { x with cplNext := if decide (size ≤ x.cplNext + 1) then 0 else x.cplNext + 1,
           cplLap := if decide (size ≤ x.cplNext + 1) then !x.cplLap else x.cplLap }

/-- The bytes go out and the index moves on; then the record is counted and the pair's interrupt follows. -/
theorem writeRecord_eq (p : Nat) (d : Desc) (st : Status) (slice written detail cycles : Nat) (s : State) :
    ∃ v, writeRecord p d st slice written detail cycles s = signal p (ctrlIrq d.ctrl) v ∧
      Announces (setPair p ((pair s p).recorded (ringVal s p Obj.RING_SIZE)) { s with
        out := s.out ++ recordWrites (decide (ringVal s p Obj.RING_CPL_ORDERED = 1)) (ringVal s p Obj.RING_CPL_BASE + 32 * (pair s p).cplNext)
          (recordBytes d st slice written detail cycles (pair s p).cplLap) }) v := by
  refine ⟨_, rfl, ?_⟩
  split
  · exact (Announces.bump _ _).trans (.bump _ _)
  · exact .bump _ _

theorem writeRecord_onlyPair (p : Nat) (d : Desc) (st : Status) (slice written detail cycles : Nat) (s : State) :
    OnlyPair p s (writeRecord p d st slice written detail cycles s) := by
  obtain ⟨v, hv, ha⟩ := writeRecord_eq p d st slice written detail cycles s
  rw [hv]
  refine OnlyPair.trans ?_ ((OnlyPair.of_announces ha).trans (signal_onlyPair p _ v))
  exact ⟨fun h => keysRise_setPair p _ h, fun h q hq => setPair_other _ _ hq h, rfl, rfl, rfl⟩

theorem recordBytes_fields (d : Desc) (st : Status) (slice written detail cycles : Nat) (lap : Bool) :
    let b := recordBytes d st slice written detail cycles lap
    b.length = 32 ∧ b.getD 10 0 = BitVec.ofNat 8 (statusCode st) ∧ b.getD 11 0 = BitVec.ofNat 8 slice ∧
      b.getD 31 0 = BitVec.ofNat 8 (b2n lap) := ⟨rfl, rfl, rfl, rfl⟩

/-! ### Starvation and coalescing (R162, R171) -/

theorem exec_starveLimitExpiry {p : Nat} {t : Time} {s : State} (hw : (pair s p).pageWait = some t) (hm : isMgmt p = false)
    (hs : p ∉ s.ring.starving) :
    exec (.starveLimitExpiry p) s = .next { s with
      now := max s.now (t + us (objVal s Obj.RING_STARVE_LIMIT)),
      ring := { s.ring with starving := s.ring.starving ++ [p],
                            unheld := if s.ring.starving = [] then pagesFree s else s.ring.unheld } } := by
  refine (show exec (.starveLimitExpiry p) s = execStarveLimitExpiry p s from rfl).trans ?_
  unfold execStarveLimitExpiry
  simp only [hw]
  rw [if_neg (by simp [hm, hs])]
  rfl

theorem exec_coalDelayExpiry {p : Nat} {t : Time} {s : State} (hu : (pair s p).unsignalledAt = some t) (hd : (pair s p).coalDelay ≠ 0) :
    exec (.coalDelayExpiry p) s = .next (raiseVec (pair s p).coalVector
      (setPair p { pair s p with unsignalled := 0, unsignalledAt := none } { s with now := max s.now (t + us (pair s p).coalDelay) })) := by
  refine (show exec (.coalDelayExpiry p) s = execCoalDelayExpiry p s from rfl).trans ?_
  unfold execCoalDelayExpiry
  simp only [hu]
  rw [if_neg hd]
  rfl

/-! ### Host-memory errors (R174, R643) -/

theorem ringErr_announces (i : Nat) (s : State) :
    Announces { s with ring := { s.ring with err := s.ring.err ||| (1#4 <<< i) } } (ringErr i s) := by
  unfold ringErr
  dsimp only
  split
  · exact .raiseVec _ _
  · exact .refl _

theorem faultPair_onlyPair (p : Nat) (s : State) : OnlyPair p s (faultPair p s) := by
  have hdrop := ((OnlyPair.leaveStall p s).trans (.dropHeld p _)).trans (.notStarving p _)
  unfold faultPair
  dsimp only
  split
  · exact hdrop
  · exact hdrop.trans (.setPair p _ _)

/-- An enabled pair goes to FAULT with nothing held. -/
theorem faultPair_pair {p : Nat} {s : State} (h : keysRise s.ring.pairs = true) (hst : (pair s p).st ≠ .disabled) :
    (pair (faultPair p s) p).st = .fault ∧ (pair (faultPair p s) p).held = [] := by
  have hk := (OnlyPair.leaveStall p s).keys h
  have hp : pair (notStarving p (dropHeld p (leaveStall p s))) p =
      { pair s p with stallAt := none, held := [], readNext := (pair s p).next, readLap := (pair s p).lap } :=
    (dropHeld_pair hk).trans (by rw [leaveStall_pair h])
  have hset := fun x => setPair_same p x (notStarving p (dropHeld p (leaveStall p s))) ((OnlyPair.dropHeld p _).keys hk)
  unfold faultPair
  dsimp only
  rw [if_neg (by rw [hp]; exact hst), hset, hp]
  exact ⟨rfl, rfl⟩

theorem hostError_poll (p : Nat) (s : State) :
    hostError p .poll s = faultPair p (ringErr eRD_ERR { s with ring := { s.ring with errRing := some p } }) := rfl

theorem exec_hostMemoryError {p : Nat} {a : HostAccess} {s : State} (h : pairMakes s p a = true) :
    exec (.hostMemoryError p a) s = .next (hostError p a s) := congrArg Host.Outcome.next (if_pos h)

/-- A read that is not complete in time is a host-memory error (R643). -/
theorem exec_ringFetchTimeout {p : Nat} {a : HostAccess} {s : State} (h : pairMakes s p a = true)
    (hread : a = .poll ∨ a = .stage ∨ ∃ e, a = .input e) :
    exec (.ringFetchTimeout p a) s =
      .next (hostError p a { s with now := max s.now (s.now + us (objVal s Obj.ERR_RING_FETCH)) }) := by
  rcases hread with rfl | rfl | ⟨e, rfl⟩ <;> exact congrArg Host.Outcome.next (if_pos h)

/-! ### Control commands (R169, R170) -/

theorem exec_jobNop {p n k : Nat} {d : Desc} {s t : State} (h : controlTurn s p 0x0FF1 = some (d, n, k, t))
    (hc : checkRec t (.ring p) (ringAccess p 64 1) = none) :
    exec (.jobNop p) s = .next (afterControl p n k (completeControl p d n 0 .ok t)) := by
  refine (show exec (.jobNop p) s = execJobNop p s from rfl).trans ?_
  unfold execJobNop
  simp only [h, ringGuard_of_passed hc]

/-- The job that an ABORT from pair `p` stops: that of the target pair and SUB_INDEX, where `p` may name the pair (R170). -/
def abortVictim (p : Nat) (d : Desc) (t : State) : Option Nat :=
  if isMgmt p || decide (bits d.aux 15 0 = p) then abortTarget t (bits d.aux 15 0) (bits d.aux 31 16) else none

theorem exec_abort {p n k : Nat} {d : Desc} {s t : State} (h : controlTurn s p 0x0FF0 = some (d, n, k, t))
    (hc : checkRec t (.ring p) (ringAccess p 64 1) = none) :
    exec (.abort p) s = .next (afterControl p n k (match abortVictim p d t with
      | some e => completeControl p d n 1 .ok (abortJob e t)
      | none => completeControl p d n 0 .ok t)) := by
  refine (show exec (.abort p) s = execAbort p s from rfl).trans ?_
  unfold execAbort
  simp only [h, ringGuard_of_passed hc]
  rfl

theorem abortVictim_of_permitted {p : Nat} {d : Desc} (h : isMgmt p = true ∨ bits d.aux 15 0 = p) (t : State) :
    abortVictim p d t = abortTarget t (bits d.aux 15 0) (bits d.aux 31 16) := if_pos (by simpa using h)

theorem abortVictim_of_other {p : Nat} {d : Desc} (h : ¬ (isMgmt p = true ∨ bits d.aux 15 0 = p)) (t : State) :
    abortVictim p d t = none := if_neg (by simpa using h)

end Sys2Proof.Machine

open Sys2Proof Sys2Proof.Machine

/-- Settles O30: the record's bytes are laid out by `recordBytes`, the index moves on as `Pair.recorded`, and what follows counts and
raises vectors. -/
theorem completionRecord : Obligations.CompletionRecord := by
  unfold Obligations.CompletionRecord
  refine ⟨recordBytes_fields, fun p d st slice written detail cycles s hk => ?_⟩
  intro x size t
  have honly : OnlyPair p s t := writeRecord_onlyPair p d st slice written detail cycles s
  obtain ⟨v, hv, ha⟩ := writeRecord_eq p d st slice written detail cycles s
  have ht : t = signal p (ctrlIrq d.ctrl) v := hv
  have hkv : keysRise v.ring.pairs = true := by rw [ha.pairs]; exact keysRise_setPair p _ hk
  have hpv : pair v p = x.recorded size := (ha.pair p).trans (setPair_same p _ _ hk)
  obtain ⟨_, _, _, _, hpt⟩ := signal_pair p (ctrlIrq d.ctrl) hkv
  obtain ⟨a, ha1, hav⟩ := ha.out
  obtain ⟨b, hb, hbv⟩ := signal_out p (ctrlIrq d.ctrl) v
  refine ⟨⟨a ++ b, ?_, fun o ho => (List.mem_append.mp ho).elim (hav o) (hbv o)⟩, ?_, ?_, ?_, honly.others hk⟩
  · rw [ht, hb, ha1, List.append_assoc]
    rfl
  · rw [ht, hpt, hpv]
    simp only [Pair.recorded, decide_eq_true_eq]
  · rw [ht, hpt, hpv]
    simp only [Pair.recorded, decide_eq_true_eq]
  · rw [ht, hpt, hpv]
    rfl

/-- Settles O31: each event runs the one branch of its row that its hypotheses open, and `faultPair` keeps what `ringErr` noted. -/
theorem ringEvents : Obligations.RingEvents := by
  unfold Obligations.RingEvents
  refine ⟨fun p t s hw hm hs => exec_starveLimitExpiry hw hm hs, fun p t s hu hd => exec_coalDelayExpiry hu hd,
    fun p a s h => ⟨exec_hostMemoryError h, exec_ringFetchTimeout h⟩, fun p s hst hk => ?_, fun p d n k s t h hc => exec_jobNop h hc,
    fun p d n k s t h hc => ?_, fun _ _ _ _ _ _ => rfl⟩
  · intro t
    have ht : t = faultPair p (ringErr eRD_ERR { s with ring := { s.ring with errRing := some p } }) := hostError_poll p s
    generalize hu : ringErr eRD_ERR { s with ring := { s.ring with errRing := some p } } = u at ht
    have ha := ringErr_announces eRD_ERR { s with ring := { s.ring with errRing := some p } }
    rw [hu] at ha
    have honly := faultPair_onlyPair p u
    rw [← ht] at honly
    refine ⟨?_, ?_, ?_⟩
    · rw [honly.errRing, ha.ring]
    · rw [honly.err, ha.ring]
      simp
    · rw [ht]
      exact faultPair_pair (by rw [ha.pairs]; exact hk) (by rw [ha.pair]; exact hst)
  · intro tp sub
    refine ⟨fun e hperm he => ?_, fun hnone => ?_⟩
    · rw [exec_abort h hc, abortVictim_of_permitted hperm, he]
    · have hvictim : abortVictim p d t = none := by
        by_cases hperm : isMgmt p = true ∨ tp = p
        · rw [abortVictim_of_permitted hperm, hnone hperm]
        · exact abortVictim_of_other hperm t
      rw [exec_abort h hc, hvictim]
end

section
/-!
PROOFS. Admission: whose turn it is, a head job of that turn, and what an admitted job holds (R152–R161).
-/
namespace Sys2Proof.Machine

theorem mget?_mmap {α : Type} (f : Nat → α → α) (t : Tab α) (k : Nat) : mget? (mmap f t) k = (mget? t k).map (f k) := by
  induction t with
  | nil => rfl
  | cons p r ih =>
    obtain ⟨a, w⟩ := p
    simp only [mmap, List.map_cons, mget?] at ih ⊢
    split
    · next hk => rw [hk]; rfl
    · split
      · rfl
      · exact ih

/-! ### Whose turn it is (R152, R153) -/

theorem exec_admission {p k : Nat} {s t : State} (ho : deviceOpen s = true) (ht : takeTurn p s = some (k, t))
    (hc : checkRec t (.ring p) (ringAccess p 64 1) = none) : exec (.admission p) s = .next (turn p 65 k t) := by
  refine (show exec (.admission p) s = execAdmission p s from rfl).trans ?_
  unfold execAdmission
  simp only [ho, ht, Bool.not_true, Bool.false_eq_true, if_false, ringGuard_of_passed hc]

theorem takeTurn_of_open {p k : Nat} {s : State} (h : openTurn s = some (p, k)) : takeTurn p s = some (k, s) := by
  simp only [takeTurn, h, if_true]

theorem takeTurn_of_next {p : Nat} {fresh : Bool} {s : State} (h : openTurn s = none) (hn : turnIn s (mgmtFirst s) = some (p, fresh)) :
    takeTurn p s = some (0, useTurn p fresh s) := by
  simp only [takeTurn, h, hn, if_true]

theorem mgmtFirst_iff (s : State) :
    mgmtFirst s = true ↔ ∃ p, p ∈ eligiblePairs s true ∧ (admissible s p = true ∨ (pair s p).st ≠ .stalled) := by
  simp only [mgmtFirst, List.any_eq_true, Bool.or_eq_true, decide_eq_true_eq]

/-- In a new round the pairs of the group of `p` have used no turn (R152). -/
def newRound (p : Nat) (s : State) : State :=
  { s with ring := { s.ring with pairs := mmap (fun k x => if isMgmt k = isMgmt p then { x with turnsUsed := 0 } else x) s.ring.pairs } }

theorem newRound_pair (p : Nat) (s : State) : pair (newRound p s) p = { pair s p with turnsUsed := 0 } := by
  unfold pair newRound tget
  dsimp only
  rw [mget?_mmap]
  cases mget? s.ring.pairs p with
  | none => rfl
  | some x => exact if_pos rfl

/-- Where `fresh`, the turn begins a new round. -/
def roundFor (p : Nat) (fresh : Bool) (s : State) : State := if fresh then newRound p s else s

/-- A used turn is counted in the pair's record. -/
theorem useTurn_pair (p : Nat) (fresh : Bool) (s : State) :
    pair (useTurn p fresh s) p = { pair (roundFor p fresh s) p with turnsUsed := (pair (roundFor p fresh s) p).turnsUsed + 1 } :=
  setPair_same_of_ne p _ (fun h => Nat.succ_ne_zero _ (congrArg Pair.turnsUsed h))

theorem roundFor_pair (p : Nat) (fresh : Bool) (s : State) :
    pair (roundFor p fresh s) p = { pair s p with turnsUsed := if fresh = true then 0 else (pair s p).turnsUsed } := by
  unfold roundFor
  cases fresh with
  | false => rfl
  | true => exact newRound_pair p s

theorem useTurn_entries (p : Nat) (fresh : Bool) (s : State) : (useTurn p fresh s).ring.entries = s.ring.entries := by
  unfold useTurn setPair
  dsimp only
  split <;> split <;> rfl

/-! ### A head job of the turn (R152, R155, R159) -/

theorem settleHead_of_job {p n : Nat} {s : State} (h : headOf (isLegacy s p) (pair s p).held = .job n) (fuel : Nat) :
    settleHead p fuel s = s := by
  cases fuel with
  | zero => rfl
  | succ fuel => simp only [settleHead, h]

/-- A head job past its pre-checks, for which the burst has room, is admitted where there is room and stalls the pair where there is
none. -/
theorem turn_of_job {p fuel k n : Nat} {c : CmdSpec} {s : State} (hh : headOf (isLegacy s p) (pair s p).held = .job n)
    (hb : inBurst s p k n = true) (hc : cmdSpec s (pairColour p) (isLegacy s p) (jobDesc (isLegacy s p) ((pair s p).held.take n)) = some c)
    (hctl : isControl (jobDesc (isLegacy s p) ((pair s p).held.take n)) = false)
    (hpre : preChecks (isLegacy s p) ((pair s p).held.take n) (jobDesc (isLegacy s p) ((pair s p).held.take n)) (some c)
      (if isMgmt p then none else some (pageQuota s p)) = none) :
    let d := jobDesc (isLegacy s p) ((pair s p).held.take n)
    let need := c.inPages + c.outPages + c.resume
    turn p (fuel + 1) k s =
      if roomFor s p need then turn p fuel (k + n)
        (admitJob (.ring p) (pairColour p) (jobPrio s p d) d c [] (countClamp p d (unstall p (consume p n s))))
      else endTurn p (stall p (lacksPages s p need) s) := by
  simp only [turn, settleHead_of_job hh, hh, hb, hc, hctl, hpre, Bool.not_true, Bool.false_eq_true, if_false]

theorem heldFrom_of_none {s : State} (h : s.ring.starving = []) (p : Nat) : heldFrom s p = 0 := by
  unfold heldFrom
  rw [h]
  exact Nat.min_zero _

/-- Room for a tenant job where no pages are held back and no graft job waits. -/
theorem roomFor_tenant {p : Nat} {s : State} (hm : isMgmt p = false) (hs : s.ring.starving = []) (hg : graftWaits s = false) (n : Nat) :
    roomFor s p n = true ↔ reserveEntries s < entriesFree s ∧ n + reservePages s ≤ pagesFree s ∧ pairEntries s p < entryQuota s p ∧
      pairPages s p + n ≤ pageQuota s p := by
  simp only [roomFor, hm, hg, heldFrom_of_none hs, Nat.add_zero, Bool.false_eq_true, if_false, Bool.and_eq_true, decide_eq_true_eq, and_assoc]

/-- A pair that stalls keeps what it holds. -/
theorem stall_pair {p : Nat} (pages : Bool) {s : State} (h : (pair s p).st ≠ .stalled) :
    ∃ wait, pair (stall p pages s) p = { pair s p with st := .stalled, stallAt := some s.now, pageWait := wait } := by
  unfold stall
  dsimp only
  rw [if_neg h, (Announces.bump _ _).pair]
  exact ⟨_, setPair_same_of_ne p _ (Pair.ne_reset_of_enabled (fun e => nomatch e))⟩

theorem stall_onlyPair (p : Nat) (pages : Bool) (s : State) : OnlyPair p s (stall p pages s) := by
  unfold stall
  dsimp only
  split
  · exact .setPair p _ s
  · exact (OnlyPair.setPair p _ s).trans (.of_announces (.bump _ _))

/-! ### An admitted job (R155, R158) -/

/-- An admitted job is in the lowest free entry with its pages; no other entry changes. -/
theorem admitJob_entries {o : Origin} {colour prio : Nat} {d : Desc} {c : CmdSpec} {stream : Bytes} {s : State} {e : Nat}
    (he : mfree? s.ring.entries 0 8192 = some e) :
    (∃ x, entry? (admitJob o colour prio d c stream s) e = some x ∧ x.origin = o ∧ x.colour = colour ∧ x.prio = prio ∧ x.desc = d ∧
      x.pages = pickPages (usedPages s) (c.inPages + c.outPages + c.resume) ∧ x.status = .ok ∧ x.output = []) ∧
    ∀ k, k ≠ e → entry? (admitJob o colour prio d c stream s) k = entry? s k := by
  unfold admitJob
  rw [he]
  dsimp only
  generalize pickPages (usedPages s) (c.inPages + c.outPages + c.resume) = ps
  have hpages : Elsewhere s (writePages (ps.take c.inPages) stream (tagPages colour ps s)) :=
    (tagPages_elsewhere colour ps s).trans (writePages_elsewhere _ _ _)
  generalize writePages (ps.take c.inPages) stream (tagPages colour ps s) = u at hpages
  unfold entry?
  rw [(assignDigest_elsewhere _ _ _).ring, ← hpages.ring]
  exact ⟨⟨_, mget?_mset_same _ _ _, rfl, rfl, rfl, rfl, rfl, rfl, rfl⟩, fun k hk => mget?_mset_ne _ _ hk⟩

end Sys2Proof.Machine

open Sys2Proof Sys2Proof.Machine

/-- Settles O28: `takeTurn` follows the turn under way or the next one, `turn` admits the head job or stalls the pair, and `admitJob` fills
the lowest free entry. -/
theorem admissionTurn : Obligations.AdmissionTurn := by
  unfold Obligations.AdmissionTurn
  refine ⟨fun p k s t ho ht hc => exec_admission ho ht hc, fun p k s h => takeTurn_of_open h, fun p fresh s h hn => takeTurn_of_next h hn,
    mgmtFirst_iff, fun p fresh s => ?_, fun p fuel k n c s => ?_, fun p n s hm hs hg => roomFor_tenant hm hs hg n, fun p b s h => ?_,
    fun o colour prio d c stream s e he => admitJob_entries he⟩
  · rw [useTurn_pair, roundFor_pair]
    exact ⟨rfl, rfl, useTurn_entries p fresh s⟩
  · intro x leg d need hh hb hc hctl hpre
    have hturn := turn_of_job (fuel := fuel) hh hb hc hctl hpre
    exact ⟨fun hroom => hturn.trans (if_pos hroom), fun hroom => hturn.trans (if_neg (Bool.eq_false_iff.mp hroom))⟩
  · obtain ⟨wait, hw⟩ := stall_pair b h
    rw [hw]
    exact ⟨rfl, rfl, (stall_onlyPair p b s).entries⟩
end

section
/-!
PROOFS. A job's way from its input to its release: the pages it gives back, the slice it is given, its record (R94, R158, R167, R168, R179).
-/
namespace Sys2Proof.Machine

/-! ### Pages given a tag (R93, R94, R203) -/

theorem keysRise_putTags (n : Nat) {t : Tab Nat} (g tag : Nat) (h : keysRise t = true) : keysRise (putTags t g tag n) = true := by
  induction n generalizing t g with
  | zero => exact h
  | succ n ih => exact ih _ (keysRise_tset _ _ _ _ h)

/-- A granule of the pages has the new tag; every other keeps its own. -/
theorem retagPages_tags (tag : Nat) (ps : List Nat) {s : State} (h : keysRise s.iso.tags = true) (g : Nat) :
    tget (fun _ => 0xFFFF) (retagPages tag ps s).iso.tags g =
      if g / 4 ∈ ps then tag else tget (fun _ => 0xFFFF) s.iso.tags g := by
  induction ps generalizing s with
  | nil => rfl
  | cons p r ih =>
    have hone : tget (fun _ => 0xFFFF) (retag (p * 4) 4 tag s).iso.tags g =
        if g / 4 = p then tag else tget (fun _ => 0xFFFF) s.iso.tags g :=
      (tget_putTags h (p * 4) tag 4 g).trans (ite_congr (propext (by omega)) (fun _ => rfl) (fun _ => rfl))
    rw [retagPages, ih (keysRise_putTags 4 _ _ h), hone]
    by_cases hr : g / 4 ∈ r <;> by_cases hp : g / 4 = p <;> simp [hr, hp]

/-- The bytes of the pages are zero; every other is kept. -/
theorem retagPages_mem (tag : Nat) (ps : List Nat) {s : State} (h : keysRise s.iso.mem = true) (a : Nat) :
    tget (fun _ => 0) (retagPages tag ps s).iso.mem a = if a / 1024 ∈ ps then 0 else tget (fun _ => 0) s.iso.mem a := by
  induction ps generalizing s with
  | nil => rfl
  | cons p r ih =>
    have hone : tget (fun _ => 0) (retag (p * 4) 4 tag s).iso.mem a = if a / 1024 = p then 0 else tget (fun _ => 0) s.iso.mem a :=
      (tget_zeroRange h (p * 4 * 256) (4 * 256) a).trans (ite_congr (propext (by omega)) (fun _ => rfl) (fun _ => rfl))
    rw [retagPages, ih (keysRise_filter _ _ h), hone]
    by_cases hr : a / 1024 ∈ r <;> by_cases hp : a / 1024 = p <;> simp [hr, hp]

theorem awaitPages_iso (ps : List Nat) (s : State) : (awaitPages ps s).iso = s.iso := by
  induction ps generalizing s with
  | nil => rfl
  | cons p r ih =>
    refine (ih _).trans ?_
    unfold awaitPage
    dsimp only
    split <;> rfl

/-- Below the operand memory's end a granule's tag is the one listed. -/
theorem tagOf_page (s : State) {g : Nat} (h : g < 32768) : tagOf s g = tget (fun _ => 0xFFFF) s.iso.tags g :=
  tagOf_plain (lksAt?_outside s (decide_eq_false (by omega))) (ctxAt?_outside (decide_eq_false (by omega)))

theorem memByte_page (s : State) {a : Nat} (h : a < 0x800000) : memByte s a = tget (fun _ => 0) s.iso.mem a :=
  memByte_plain (lksAt?_outside s (decide_eq_false (by omega))) (ctxAt?_outside (decide_eq_false (by omega)))

/-- The granules of pages that are given a tag have it. -/
theorem tagPages_tagOf {ps : List Nat} {s t : State} (tag : Nat) (hiso : t.iso = (tagPages tag ps s).iso)
    (hk : keysRise s.iso.tags = true) {q i : Nat} (hq : q ∈ ps) (hlt : q < 8192) (hi : i < 4) : tagOf t (q * 4 + i) = tag := by
  have hpage : (q * 4 + i) / 4 = q := by omega
  rw [tagOf_page t (by omega), hiso, tagPages, retagPages_tags tag ps (by rw [awaitPages_iso]; exact hk), hpage, if_pos hq]

/-- The bytes of pages that are given a tag are zero. -/
theorem tagPages_memByte {ps : List Nat} {s t : State} (tag : Nat) (hiso : t.iso = (tagPages tag ps s).iso)
    (hk : keysRise s.iso.mem = true) {q i : Nat} (hq : q ∈ ps) (hlt : q < 8192) (hi : i < 1024) : memByte t (q * 1024 + i) = 0 := by
  have hpage : (q * 1024 + i) / 1024 = q := by omega
  rw [memByte_page t (by omega), hiso, tagPages, retagPages_mem tag ps (by rw [awaitPages_iso]; exact hk), hpage, if_pos hq]

/-! ### Release (R158) -/

theorem admitInternal_of_none {s : State} (h : s.ring.internalWait = []) : admitInternal s = s := by
  unfold admitInternal
  rw [h, List.foldl_nil, ← h]

theorem settleDrain_iso (p : Nat) (s : State) : (settleDrain p s).iso = s.iso := by
  unfold settleDrain; dsimp only; split <;> rfl

theorem settleDrain_internalWait (p : Nat) (s : State) : (settleDrain p s).ring.internalWait = s.ring.internalWait := by
  unfold settleDrain; dsimp only; split <;> rfl

/-- Where no internal job waits, a release frees the entry and the pages. -/
theorem releaseJob_frees (e : Nat) (x : Entry) {s : State} (h : s.ring.internalWait = []) :
    (releaseJob e x s).ring.entries = mdel s.ring.entries e ∧ (releaseJob e x s).iso = (tagPages 0xFFFF x.pages s).iso := by
  have hring := (tagPages_elsewhere 0xFFFF x.pages s).ring
  have hentries : (dropEntry e (tagPages 0xFFFF x.pages s)).ring.entries = mdel s.ring.entries e :=
    congrArg (fun r : RingSt => mdel r.entries e) hring
  have hwait : (dropEntry e (tagPages 0xFFFF x.pages s)).ring.internalWait = [] := (congrArg RingSt.internalWait hring).trans h
  unfold releaseJob
  dsimp only
  split
  · next p _ =>
    rw [admitInternal_of_none ((settleDrain_internalWait p _).trans hwait)]
    exact ⟨(settleDrain_onlyPair p _).entries.trans hentries, settleDrain_iso p _⟩
  · rw [admitInternal_of_none hwait]
    exact ⟨hentries, rfl⟩

/-! ### Input and completion (R179, R167) -/

theorem exec_inboundDmaComplete {e : Nat} {x : Entry} {s : State} (data : Bytes) (hx : entry? s e = some x) (hp : x.phase = .inbound)
    (hf : 36 ∉ s.pke.fencedReq) :
    exec (.inboundDmaComplete e data) s = .next (
      if x.inPages = 0 then setEntry e { x with stream := fitBytes (inLen x.desc) data, phase := .waiting } (rouseEngine s)
      else setEntry e { x with phase := .waiting } (writePages (x.pages.take x.inPages) (fitBytes (inLen x.desc) data) (rouseEngine s))) := by
  refine (show exec (.inboundDmaComplete e data) s = execInboundDmaComplete e data s from rfl).trans ?_
  unfold execInboundDmaComplete
  simp only [hx]
  rw [if_neg (by simp [hp, hf])]

/-- A ring job that has ended writes its output, its record and its counters, and is released. -/
theorem exec_jobComplete {e p : Nat} {x : Entry} {s : State} (hx : entry? s e = some x) (hp : x.phase = .ended)
    (ho : x.origin = .ring p) (hout : outputHeld s x = false) :
    exec (.jobComplete e) s = .next (releaseJob e x (x.late.foldl (fun t o => bump o t)
      (writeRecord p x.desc x.status x.slice x.output.length x.detail x.cycles
        (countAbort x (if x.output = [] then s else emit (.hostWrite x.desc.outAddr x.output) s))))) := by
  refine (show exec (.jobComplete e) s = .next (completeJob e s) from rfl).trans (congrArg Host.Outcome.next ?_)
  unfold completeJob
  simp only [hx]
  rw [if_neg (by simp [hp, hout])]
  simp only [ho, List.isEmpty_iff]
  rfl

/-! ### Dispatch (R179, R185) -/

theorem microWalk_congr {s t : State} (h : t.pke.patch = s.pke.patch) (cls k : Nat) (q : Sequencer) :
    microWalk t cls k q = microWalk s cls k q := by
  have hfetch : ∀ a, microFetch t cls a = microFetch s cls a := fun a => by unfold microFetch; rw [h]
  induction k generalizing q with
  | zero => rfl
  | succ k ih =>
    unfold microWalk
    rw [hfetch]
    simp only [ih]

/-- The command's microcode is entered: at the ROM's routine, or past the first words of the patch. -/
theorem enterCommand_enters {cls n e opcode : Nat} {s : State} (h : isPatched s cls (dispatchEntry opcode) = false ∨
      microWalk s cls 64 { Sequencer.reset with addr := targetOf s cls (dispatchEntry opcode) } ≠ none) :
    ∃ q, enterCommand cls n e opcode s = setSlice n { slice_ s n with seq := q } s := by
  unfold enterCommand
  dsimp only
  split
  · next hp =>
    split
    · next hw => exact absurd hw (h.resolve_left (by rw [hp]; exact Bool.noConfusion))
    · exact ⟨_, rfl⟩
  · exact ⟨_, rfl⟩

/-- A slice that has been given to job `x` of entry `e`. -/
def Slice.given (v : Slice) (e : Nat) (x : Entry) : Slice :=
  { v with st := .busy, job := some e, colour := x.colour, scratch := [], seq := Sequencer.reset }

/-- Job `x` once it has been given slice `n`, which it reaches at `at1`. -/
def Entry.onGiven (x : Entry) (n : Nat) (at1 : Time) : Entry :=
  { x with phase := if x.phase = .parked then .resuming n else .running n, slice := n, segsSince := 0, segAt := at1,
           startedAt := if x.phase = .parked then x.startedAt else at1 }

/-- Slice `n` is given to job `x` of entry `e`, its job count rises, and the engine clock runs. -/
def givenSlice (e n : Nat) (x : Entry) (at1 : Time) (s : State) : State :=
  let u := setEntry e (x.onGiven n at1) (setSlice n ((slice_ s n).given e x) s)
  bump (sliceJobs n) { u with pwr := { u.pwr with pllRunning := true, clockGated := false } }

/-- A slice command at the head of its queue is given the picked slice; it then resumes, or enters its microcode. -/
theorem dispatchJob_eq {cls e n : Nat} {x : Entry} {wake : Time} {s : State} (hq : queueHead s cls = some (e, x))
    (hp : pickSlice s cls = some (n, wake)) (hc : opClass x.desc.opcode = some cls) (hr : ∀ k, x.phase ≠ .running k) :
    dispatchJob cls s =
      if x.phase = .parked then givenSlice e n x (s.now + wake + wakeEngine s) s
      else enterCommand cls n e x.desc.opcode (givenSlice e n x (s.now + wake + wakeEngine s) s) := by
  have hon : onSlice x = false := by
    unfold onSlice
    split
    · next k hk => exact absurd hk (hr k)
    · rfl
  unfold dispatchJob
  simp only [hq, hp, hc, hon, Bool.false_eq_true, if_false, reduceCtorEq, or_false]
  rfl

theorem exec_dispatch {cls : Nat} {s : State} (hc : cls < 4) (hh : holding s = false) (hl : halted s = false) (hs : s.pke.scrubQ = []) :
    exec (.dispatch cls) s = .next (dispatchJob cls s) :=
  congrArg Host.Outcome.next (if_neg (by simpa [hh, hl, hs] using hc))

theorem Slice.ne_reset_of_awake {v : Slice} (h : v.st ≠ .gated) : v ≠ Slice.reset := fun e => h (congrArg Slice.st e)

/-- The record of a slice that is not gated is read back from any table, and no other slice changes. -/
theorem setSlice_awake {v : Slice} (n : Nat) (s : State) (h : v.st ≠ .gated) :
    slice_ (setSlice n v s) n = v ∧ ∀ k, k ≠ n → slice_ (setSlice n v s) k = slice_ s k := by
  have hset : (setSlice n v s).pke.slices = mset s.pke.slices n v := if_neg (Slice.ne_reset_of_awake h)
  unfold slice_ tget
  rw [hset]
  exact ⟨by rw [mget?_mset_same]; rfl, fun k hk => by rw [mget?_mset_ne _ _ hk]⟩

/-- In `t` slice `n` is BUSY with job `x` of entry `e`, which has been on it from `at1` on, and the engine clock runs; no other slice and no
other job differs from `s`. -/
structure Dispatched (e n : Nat) (x : Entry) (at1 : Time) (s t : State) : Prop where
  slice : (slice_ t n).st = .busy ∧ (slice_ t n).job = some e ∧ (slice_ t n).colour = x.colour
  slices : ∀ k, k ≠ n → slice_ t k = slice_ s k
  entry : entry? t e = some (x.onGiven n at1)
  entries : ∀ k, k ≠ e → entry? t k = entry? s k
  clock : t.pwr.pllRunning = true ∧ t.pwr.clockGated = false

theorem givenSlice_dispatched (e n : Nat) (x : Entry) (at1 : Time) (s : State) : Dispatched e n x at1 s (givenSlice e n x at1 s) := by
  have hslice := setSlice_awake (v := (slice_ s n).given e x) n s (fun h => nomatch h)
  have hentry : ∀ k, entry? (givenSlice e n x at1 s) k = mget? (mset s.ring.entries e (x.onGiven n at1)) k :=
    fun k => (Announces.bump _ _).entry k
  refine ⟨?_, fun k hk => hslice.2 k hk, ?_, fun k hk => ?_, rfl, rfl⟩
  · have h : slice_ (givenSlice e n x at1 s) n = (slice_ s n).given e x := hslice.1
    rw [h]
    exact ⟨rfl, rfl, rfl⟩
  · rw [hentry, mget?_mset_same]
  · rw [hentry, mget?_mset_ne _ _ hk]
    rfl

/-- The sequencer's start changes nothing that is said of a dispatch. -/
theorem Dispatched.sequenced {e n : Nat} {x : Entry} {at1 : Time} {s t : State} (h : Dispatched e n x at1 s t) (q : Sequencer) :
    Dispatched e n x at1 s (setSlice n { slice_ t n with seq := q } t) := by
  obtain ⟨⟨hst, hjob, hcolour⟩, hothers, hentry, hentries, hclock⟩ := h
  obtain ⟨hsame, hkept⟩ := setSlice_awake (v := { slice_ t n with seq := q }) n t (by simp [hst])
  exact ⟨by rw [hsame]; exact ⟨hst, hjob, hcolour⟩, fun k hk => (hkept k hk).trans (hothers k hk), hentry, hentries, hclock⟩

theorem dispatchJob_dispatched {cls e n : Nat} {x : Entry} {wake : Time} {s : State} (hq : queueHead s cls = some (e, x))
    (hp : pickSlice s cls = some (n, wake)) (hc : opClass x.desc.opcode = some cls) (hr : ∀ k, x.phase ≠ .running k)
    (hm : isPatched s cls (dispatchEntry x.desc.opcode) = false ∨
      microWalk s cls 64 { Sequencer.reset with addr := targetOf s cls (dispatchEntry x.desc.opcode) } ≠ none) :
    Dispatched e n x (s.now + wake + wakeEngine s) s (dispatchJob cls s) := by
  have hgiven := givenSlice_dispatched e n x (s.now + wake + wakeEngine s) s
  rw [dispatchJob_eq hq hp hc hr]
  split
  · exact hgiven
  · generalize s.now + wake + wakeEngine s = at1 at hgiven ⊢
    have hpatch : (givenSlice e n x at1 s).pke.patch = s.pke.patch := rfl
    obtain ⟨q, hq⟩ := enterCommand_enters (n := n) (e := e) (s := givenSlice e n x at1 s)
      (hm.imp_right (fun h hw => h ((microWalk_congr hpatch cls 64 _).symm.trans hw)))
    rw [hq]
    exact hgiven.sequenced q

end Sys2Proof.Machine

open Sys2Proof Sys2Proof.Machine

/-- Settles O29: each row runs the branch that its hypotheses open; a dispatch gives the slice before the microcode is entered, and a
release frees the entry and retags the pages. -/
theorem jobFlow : Obligations.JobFlow := by
  unfold Obligations.JobFlow
  refine ⟨fun e data x s hx hp hf => exec_inboundDmaComplete data hx hp hf, fun cls e x n wake s h4 hh hl hs hq hc hp hm hr => ?_,
    fun e x p s hx hp ho hout => exec_jobComplete hx hp ho hout, fun e x s hx hkeys htags hwait hpages => ?_⟩
  · obtain ⟨⟨hst, hjob, hcolour⟩, hslices, hentry, hentries, hpll, hgated⟩ := dispatchJob_dispatched hq hp hc hr hm
    exact ⟨_, exec_dispatch h4 hh hl hs, hst, hjob, hcolour, hentry, hentries, hslices, hpll, hgated⟩
  · intro t
    obtain ⟨hentries, hiso⟩ := releaseJob_frees e x hwait
    refine ⟨?_, fun k hk => ?_, fun q hq i hi => tagPages_tagOf 0xFFFF hiso htags hq (hpages q hq) hi⟩
    · unfold entry?
      rw [hentries, mget?_mdel_same _ _ hkeys]
    · unfold entry?
      rw [hentries, mget?_mdel_ne _ hk hkeys]
end

section
/-!
PROOFS. What a stopped job leaves: its entry, its target slot, the index it has committed, and its pages after the scrub (R167, R168, R193,
R214–R219, R281).
-/
namespace Sys2Proof.Machine

/-! ### What a stop keeps -/

/-- `t` has the jobs, slots, contexts and tags of `s`, and its bytes outside the large-key store. -/
structure KeepsStores (s t : State) : Prop where
  entries : t.ring.entries = s.ring.entries
  slots : t.kreg.slots = s.kreg.slots
  ctx : t.dig.ctx = s.dig.ctx
  tags : t.iso.tags = s.iso.tags
  mem : keysRise s.iso.mem = true → keysRise t.iso.mem = true ∧
    ∀ a, inLks a = false → tget (fun _ => 0) t.iso.mem a = tget (fun _ => 0) s.iso.mem a

namespace KeepsStores

theorem of_same {s t : State} (he : t.ring.entries = s.ring.entries) (hs : t.kreg.slots = s.kreg.slots) (hc : t.dig.ctx = s.dig.ctx)
    (hi : t.iso = s.iso) : KeepsStores s t :=
  ⟨he, hs, hc, by rw [hi], fun h => by rw [hi]; exact ⟨h, fun _ _ => rfl⟩⟩

theorem refl (s : State) : KeepsStores s s := of_same rfl rfl rfl rfl

theorem trans {s t u : State} (h : KeepsStores s t) (g : KeepsStores t u) : KeepsStores s u where
  entries := g.entries.trans h.entries
  slots := g.slots.trans h.slots
  ctx := g.ctx.trans h.ctx
  tags := g.tags.trans h.tags
  mem hk := ⟨(g.mem (h.mem hk).1).1, fun a ha => ((g.mem (h.mem hk).1).2 a ha).trans ((h.mem hk).2 a ha)⟩

theorem wipeFreeLks (s : State) : KeepsStores s (Machine.wipeFreeLks s) where
  entries := rfl
  slots := rfl
  ctx := rfl
  tags := rfl
  mem hk := ⟨keysRise_filter _ _ hk, fun a ha =>
    tget_mfilter_keep (f := fun a _ => !(inLks a) || (lksAt? s a).isSome) _ hk (fun _ => by simp [ha])⟩

/-- A change elsewhere, after which the free bytes of the large-key store are wiped. -/
theorem of_wiped {s t : State} (he : t.ring.entries = s.ring.entries) (hs : t.kreg.slots = s.kreg.slots) (hc : t.dig.ctx = s.dig.ctx)
    (hi : t.iso = s.iso) : KeepsStores s (Machine.wipeFreeLks t) := (of_same he hs hc hi).trans (.wipeFreeLks t)

theorem freeOthers (e n : Nat) (s : State) : KeepsStores s (Machine.freeOthers e n s) := of_same rfl rfl rfl rfl

theorem bump (id : ObjId) (s : State) : KeepsStores s (Machine.bump id s) := of_same (Announces.bump id s).entries rfl rfl rfl

theorem commitIndex (h : Nat) (k : HtsKey) (cap : Nat) (s : State) : KeepsStores s (Machine.commitIndex h k cap s) := by
  have hset : ∀ id v u, KeepsStores u (setObj id v u) := fun id v u => of_same (Announces.setObj id v u).entries rfl rfl rfl
  have hcounter : KeepsStores s (setCounter k.record (sealRecord (k.working + 1) k.gen) s) := of_same rfl rfl rfl rfl
  unfold Machine.commitIndex htsWarn
  split
  · exact hcounter
  · next j _ =>
    split
    · have hwarned : ∀ u, KeepsStores u (setHts h { j with warned := true } u) := fun _ => of_same rfl rfl rfl rfl
      exact ((hcounter.trans (hwarned _)).trans (hset _ _ _)).trans (bump _ _)
    · exact hcounter

theorem stopSign (x : Entry) (s : State) : KeepsStores s (Machine.stopSign x s) := by
  unfold Machine.stopSign
  dsimp only
  split
  · next k _ _ _ _ =>
    have hreserve : ∀ h cap, KeepsStores s (reserveIndex h k cap { s with free := s.free + 1 }) := fun _ _ => of_same rfl rfl rfl rfl
    split
    · split
      · exact ((hreserve _ _).trans (commitIndex _ _ _ _)).trans (bump _ _)
      · exact hreserve _ _
    · exact refl s
  · exact refl s

end KeepsStores

/-- A job taken off its slice leaves the key register but for its use of the large-key store. -/
theorem detach_keeps (e : Nat) (x : Entry) (hasPages : Bool) (s : State) :
    KeepsStores s (detach e x hasPages s) ∧ (detach e x hasPages s).kreg = lksLeft e s.kreg := by
  unfold detach
  dsimp only
  generalize hs : freeOthers e _ _ = s1
  have h : KeepsStores s s1 ∧ s1.kreg = lksLeft e s.kreg := by
    rw [← hs]
    refine ⟨KeepsStores.trans ?_ (.freeOthers _ _ _), rfl⟩
    exact .of_wiped rfl rfl rfl rfl
  obtain ⟨hkeeps, hkreg⟩ := h
  have hpke : ∀ p, KeepsStores s { s1 with pke := p } := fun _ => hkeeps.trans (.of_same rfl rfl rfl rfl)
  split
  · split
    · exact ⟨hkeeps, hkreg⟩
    · split
      · exact ⟨hpke _, hkreg⟩
      · exact ⟨hpke _, hkreg⟩
  · split
    · exact ⟨hpke _, hkreg⟩
    · exact ⟨hkeeps, hkreg⟩

theorem dropNewKey_keeps (target : Option Nat) (s : State) : KeepsStores s (dropNewKey target s) := by
  unfold dropNewKey
  split
  · exact .refl s
  · split
    · dsimp only
      split
      · exact .of_wiped rfl rfl rfl rfl
      · exact .refl s
    · exact .refl s

/-! ### A job that is stopped (R214–R219) -/

/-- The job's record once it has been stopped. -/
def Entry.stopped (x : Entry) (st : Status) (detail : Nat) (now : Time) : Entry :=
  { x with status := st, detail := detail, output := [], stream := [], target := none, lksTarget := none,
           phase := if !x.pages.isEmpty then .scrubbing else .ended, scrub := x.pages.length, endedAt := now }

theorem Entry.stopped_phase (x : Entry) (st : Status) (detail : Nat) (now : Time) :
    (x.stopped st detail now).phase = if x.pages = [] then .ended else .scrubbing := by
  unfold Entry.stopped
  cases x.pages <;> rfl

/-- A job that has not ended is taken off what it runs on, its new key and LOADING targets are dropped, and its record is written. -/
theorem haltJob_live {e : Nat} {x : Entry} {s : State} (st : Status) (detail : Nat) (hx : entry? s e = some x) (he : x.phase ≠ .ended)
    (hs : x.phase ≠ .scrubbing) :
    let u := dropNewKey x.target (detach e x (!x.pages.isEmpty) (stopSign x s))
    haltJob e st detail s = setEntry e (x.stopped st detail s.now) (wipeFreeLks { u with
      kreg := { u.kreg with slots := dropLoading x.target u.kreg.slots, lks := dropLoadingLks x.lksTarget u.kreg.lks } }) := by
  unfold haltJob
  simp only [hx]
  rw [if_neg (by simp [he, hs])]
  rfl

/-- `t` is `s` after job `x` of entry `e` has been stopped. -/
structure Stopped (e : Nat) (x : Entry) (st : Status) (detail : Nat) (s t : State) : Prop where
  entry : entry? t e = some (x.stopped st detail s.now)
  others : ∀ k, k ≠ e → entry? t k = entry? s k
  slots : t.kreg.slots = dropLoading x.target s.kreg.slots
  ctx : t.dig.ctx = s.dig.ctx
  tags : t.iso.tags = s.iso.tags
  mem : keysRise s.iso.mem = true → ∀ a, inLks a = false → tget (fun _ => 0) t.iso.mem a = tget (fun _ => 0) s.iso.mem a

theorem haltJob_stopped {e : Nat} {x : Entry} {s : State} (st : Status) (detail : Nat) (hx : entry? s e = some x) (he : x.phase ≠ .ended)
    (hs : x.phase ≠ .scrubbing) : Stopped e x st detail s (haltJob e st detail s) := by
  have hkeeps := ((KeepsStores.stopSign x s).trans (detach_keeps e x (!x.pages.isEmpty) _).1).trans (dropNewKey_keeps x.target _)
  have hhalt := haltJob_live st detail hx he hs
  dsimp only at hhalt
  generalize dropNewKey x.target (detach e x (!x.pages.isEmpty) (stopSign x s)) = u at hkeeps hhalt
  generalize hv : { u with kreg := { u.kreg with
    slots := dropLoading x.target u.kreg.slots, lks := dropLoadingLks x.lksTarget u.kreg.lks } } = v at hhalt
  have hslots : v.kreg.slots = dropLoading x.target s.kreg.slots := by rw [← hv, ← hkeeps.slots]
  have hentries : v.ring.entries = s.ring.entries := by rw [← hv, ← hkeeps.entries]
  have hctx : v.dig.ctx = s.dig.ctx := by rw [← hv, ← hkeeps.ctx]
  have hiso : v.iso = u.iso := by rw [← hv]
  have hwiped := KeepsStores.wipeFreeLks v
  rw [hhalt]
  refine ⟨setEntry_same _ _ _, fun k hk => ?_, hwiped.slots.trans hslots, hwiped.ctx.trans hctx,
    hwiped.tags.trans ((congrArg IsoSt.tags hiso).trans hkeeps.tags), fun hmem a ha => ?_⟩
  · rw [setEntry_other _ _ hk]
    unfold entry?
    rw [hwiped.entries, hentries]
  · obtain ⟨hku, hu⟩ := hkeeps.mem hmem
    exact ((hwiped.mem (by rw [hiso]; exact hku)).2 a ha).trans ((congrArg (fun i => tget _ (IsoSt.mem i) a) hiso).trans (hu a ha))

/-- CYCLES of a job that has not ended are brought up to date. -/
theorem chargeRun_live {e : Nat} {x : Entry} {s : State} (hx : entry? s e = some x) (he : x.phase ≠ .ended) (hs : x.phase ≠ .scrubbing) :
    chargeRun e s = setEntry e { x with cycles := x.cycles + occupied s x + owedTo s e } (settleOwed e s) := by
  unfold chargeRun
  simp only [hx]
  rw [if_neg (by simp [he, hs])]

/-- Of a job that has ended or is being scrubbed, only the status can change (R168). -/
theorem stopJob_over {e : Nat} {x : Entry} {s : State} (st : Status) (detail : Nat) (hx : entry? s e = some x)
    (h : x.phase = .ended ∨ x.phase = .scrubbing) :
    stopJob e st detail s = if outranks s.now st detail x then setEntry e { x with status := st, detail := detail } s else s := by
  have hover : (decide (x.phase = .ended) || decide (x.phase = .scrubbing)) = true := by simpa using h
  have hcharge : chargeRun e s = s := by
    unfold chargeRun
    simp only [hx]
    exact if_pos hover
  unfold stopJob haltJob
  rw [hcharge]
  simp only [hx]
  exact if_pos hover

theorem stopJob_stopped {e : Nat} {x : Entry} {s : State} (st : Status) (detail : Nat) (hx : entry? s e = some x) (he : x.phase ≠ .ended)
    (hs : x.phase ≠ .scrubbing) : ∃ cycles, Stopped e { x with cycles := cycles } st detail s (stopJob e st detail s) := by
  refine ⟨x.cycles + occupied s x + owedTo s e, ?_⟩
  unfold stopJob
  rw [chargeRun_live hx he hs]
  generalize hy : ({ x with cycles := x.cycles + occupied s x + owedTo s e } : Entry) = y
  have hphase : y.phase = x.phase := by rw [← hy]
  have hhalt := haltJob_stopped st detail (setEntry_same e y (settleOwed e s)) (by rwa [hphase]) (by rwa [hphase])
  exact ⟨hhalt.entry, fun k hk => (hhalt.others k hk).trans (setEntry_other y (settleOwed e s) hk), hhalt.slots, hhalt.ctx, hhalt.tags,
    hhalt.mem⟩

/-- A LOADING target is EMPTY once it has been dropped. -/
theorem dropLoading_empties {slots : Tab Slot} {h : Nat} {v : Slot} (hk : keysRise slots = true) (hv : mget? slots h = some v)
    (hl : v.st = .loading) : mget? (dropLoading (some h) slots) h = none := by
  simp only [dropLoading, hv, hl, if_true]
  exact mget?_mdel_same _ _ hk

/-! ### The index of a stateful SIGN (R193, R281) -/

theorem sealRecord_ne_blank (next gen : Nat) : sealRecord (next + 1) gen ≠ CounterRec.blank :=
  fun h => Nat.succ_ne_zero next (congrArg CounterRec.next h)

/-- After the commit the record stands one above the index, and the working copy is kept. -/
theorem commitIndex_commits {h cap : Nat} {k j : HtsKey} {s : State} (hj : htsKey? s h = some j) :
    counter (commitIndex h k cap s) k.record = sealRecord (k.working + 1) k.gen ∧
      ∃ i, htsKey? (commitIndex h k cap s) h = some i ∧ i.working = j.working := by
  have hset : counter (setCounter k.record (sealRecord (k.working + 1) k.gen) s) k.record = sealRecord (k.working + 1) k.gen :=
    tget_tset_of_ne (fun _ => CounterRec.blank) s.kreg.counters k.record (sealRecord_ne_blank k.working k.gen)
  have hkey : htsKey? (setCounter k.record (sealRecord (k.working + 1) k.gen) s) h = some j := hj
  unfold commitIndex htsWarn
  simp only [hkey]
  split
  · exact ⟨hset, { j with warned := true }, mget?_mset_same _ _ _, rfl⟩
  · exact ⟨hset, j, hkey, rfl⟩

theorem reserveIndex_key (h : Nat) (k : HtsKey) (cap : Nat) (s : State) : htsKey? (reserveIndex h k cap s) h =
    some { k with working := k.working + 1, st := if cap ≤ k.working + 1 then .exhausted else k.st } := mget?_mset_same _ _ _

theorem cyclesNs_mono (s : State) {a b : Nat} (h : a ≤ b) : cyclesNs s a ≤ cyclesNs s b :=
  Nat.div_le_div_right (Nat.mul_le_mul_right _ h)

/-- A stateful SIGN that stops on its slice after its key check and commit phase has used its index. -/
theorem stopSign_uses {x : Entry} {n : Nat} {k : HtsKey} {v : Slot} {s : State} (hphase : x.phase = .running n)
    (hop : x.desc.opcode = 0x0404) (hk : htsKey? s x.desc.key = some k) (hv : mget? s.kreg.slots x.desc.key = some v)
    (howner : v.owner = x.colour) (halg : v.alg = 4) (hpset : v.pset = x.desc.pset) (hstateful : v.stateful = true)
    (husage : v.usage % 2 = 1) (hst : v.st ≠ .loading) (hready : k.st = .ready)
    (hcap : k.working < htsCap (htsKeyLevels s x.desc.key)) (hrecord : recordBroken s k = false)
    (hlen : htsSig v.pset (htsKeyLevels s x.desc.key) ≤ x.desc.outLen) (hlate : x.startedAt + cyclesNs s 11120 ≤ s.now) :
    counter (stopSign x s) k.record = sealRecord (k.working + 1) k.gen ∧
      ∃ j, htsKey? (stopSign x s) x.desc.key = some j ∧ j.working = k.working + 1 := by
  have hchecked : x.startedAt + cyclesNs s 120 ≤ s.now :=
    Nat.le_trans (Nat.add_le_add_left (cyclesNs_mono s (by decide)) _) hlate
  have hstop : stopSign x s = bump Obj.PKE_HTS_SKIPPED (commitIndex x.desc.key k (htsCap (htsKeyLevels s x.desc.key))
      (reserveIndex x.desc.key k (htsCap (htsKeyLevels s x.desc.key)) { s with free := s.free + 1 })) := by
    unfold stopSign
    simp only [hphase, hk, hv]
    rw [if_pos ⟨hop, hchecked, howner, halg, hpset, hstateful, husage, hst, hready, hcap, hrecord, hlen⟩, if_pos (.inl hlate)]
  rw [hstop]
  exact commitIndex_commits (reserveIndex_key _ k _ _)

/-- Where a job without a target is stopped, counter records and keys' working copies are those of `stopSign`. -/
theorem haltJob_indexes {e : Nat} {x : Entry} {s : State} (st : Status) (detail : Nat) (hx : entry? s e = some x) (he : x.phase ≠ .ended)
    (hs : x.phase ≠ .scrubbing) (ht : x.target = none) :
    (haltJob e st detail s).kreg.counters = (stopSign x s).kreg.counters ∧ (haltJob e st detail s).kreg.hts = (stopSign x s).kreg.hts := by
  have hkreg := (detach_keeps e x (!x.pages.isEmpty) (stopSign x s)).2
  have hcounters := congrArg KregSt.counters hkreg
  have hhts := congrArg KregSt.hts hkreg
  rw [haltJob_live st detail hx he hs, ht]
  exact ⟨hcounters, hhts⟩

/-! ### The scrub (R94, R215) -/

/-- Random bytes are drawn: of the rings only the MSI-X table changes, and neither engine nor memories. -/
structure Draws (s t : State) : Prop where
  announces : Announces s t
  pke : t.pke = s.pke
  iso : t.iso = s.iso

namespace Draws

theorem refl (s : State) : Draws s s := ⟨.refl s, rfl, rfl⟩

theorem trans {s t u : State} (h : Draws s t) (g : Draws t u) : Draws s u :=
  ⟨h.announces.trans g.announces, g.pke.trans h.pke, g.iso.trans h.iso⟩

/-- Changes of the generators and the clock alone. -/
theorem of_rng {s t : State} (hr : t.ring = s.ring) (ho : t.out = s.out) (hp : t.pke = s.pke) (hi : t.iso = s.iso) : Draws s t :=
  ⟨.of_same hr ho, hp, hi⟩

theorem bump (id : ObjId) (s : State) : Draws s (Machine.bump id s) := ⟨.bump id s, rfl, rfl⟩

theorem reseed (n : Nat) (s : State) : Draws s (Machine.reseed n s) := by
  have htake : Draws s (takeSeed s) := by
    unfold takeSeed
    dsimp only
    split <;> exact of_rng rfl rfl rfl rfl
  have hset : ∀ d u, Draws u (setDrbg n d u) := fun _ _ => of_rng rfl rfl rfl rfl
  exact (htake.trans (hset _ _)).trans (bump _ _)

theorem stallCall (n : Nat) (s : State) : Draws s (Machine.stallCall n s) := by
  unfold Machine.stallCall
  split
  · exact ((bump _ s).trans (reseed n _)).trans (of_rng rfl rfl rfl rfl)
  · exact refl s

theorem stretch (n : Nat) (s : State) : Draws s (Machine.stretch n s) := by
  have hset : ∀ d, Draws s (setDrbg n d s) := fun _ => of_rng rfl rfl rfl rfl
  unfold Machine.stretch
  dsimp only
  split
  · exact (hset _).trans ⟨.setObj _ _ _, rfl, rfl⟩
  · exact refl s

theorem drawCall (n len : Nat) (s : State) : Draws s (Machine.drawCall n len s).2 :=
  ((stallCall n s).trans (stretch n _)).trans (of_rng rfl rfl rfl rfl)

theorem drawCalls (n k len : Nat) (s : State) : Draws s (Machine.drawCalls n k len s).2 := by
  induction k generalizing len s with
  | zero => exact refl s
  | succ k ih => exact (drawCall n _ s).trans (ih _ _)

theorem draw (n len : Nat) (s : State) : Draws s (Machine.draw n len s).2 := drawCalls n _ len s

end Draws

/-- The first pass of a scrub leaves the jobs and the memories alone, and its slice scrubs on. -/
theorem firstPass_keeps (n k : Nat) (s : State) : (firstPass n k s).ring.entries = s.ring.entries ∧
    (firstPass n k s).ring.internalWait = s.ring.internalWait ∧ (firstPass n k s).iso = s.iso ∧
    ((slice_ s n).st = .scrub → (slice_ (firstPass n k s) n).st = .scrub) := by
  unfold firstPass
  dsimp only
  split
  · have hdraw := Draws.draw n (1024 * k) s
    exact ⟨hdraw.announces.entries, hdraw.announces.internalWait, hdraw.iso, fun h => by unfold slice_; rw [hdraw.pke]; exact h⟩
  · split
    · refine ⟨rfl, rfl, rfl, fun h => ?_⟩
      rw [(setSlice_awake n s (by simp [h])).1]
      exact h
    · exact ⟨rfl, rfl, rfl, id⟩

theorem awaitPages_slices (ps : List Nat) (s : State) : (awaitPages ps s).pke.slices = s.pke.slices := by
  induction ps generalizing s with
  | nil => rfl
  | cons p r ih =>
    refine (ih _).trans ?_
    unfold awaitPage
    dsimp only
    split <;> rfl

theorem retagPages_pke (tag : Nat) (ps : List Nat) (s : State) : (retagPages tag ps s).pke = s.pke := by
  induction ps generalizing s with
  | nil => rfl
  | cons p r ih => exact ih _

theorem tagPages_slice (tag : Nat) (ps : List Nat) (s : State) (n : Nat) : slice_ (tagPages tag ps s) n = slice_ s n := by
  unfold slice_ tagPages
  rw [retagPages_pke, awaitPages_slices]

/-- Where no internal job waits, a scrub ends the job, retags its pages and leaves the slice scrubbing. -/
theorem scrubJob_scrubs (e n : Nat) (x : Entry) {s : State} (hw : s.ring.internalWait = []) :
    entry? (scrubJob e n x s) e = some { x with phase := .ended, pages := [], inPages := 0, outPages := 0, scrub := 0 } ∧
      (scrubJob e n x s).iso = (tagPages 0xFFFF x.pages (firstPass n x.pages.length s)).iso ∧
      ((slice_ s n).st = .scrub → (slice_ (scrubJob e n x s) n).st = .scrub) := by
  obtain ⟨_, hwait, _, hslice⟩ := firstPass_keeps n x.pages.length s
  have hring := (tagPages_elsewhere 0xFFFF x.pages (firstPass n x.pages.length s)).ring
  have hslices := tagPages_slice 0xFFFF x.pages (firstPass n x.pages.length s) n
  have hnone := (congrArg RingSt.internalWait hring).trans (hwait.trans hw)
  unfold scrubJob
  dsimp only
  rw [admitInternal_of_none (by exact hnone)]
  exact ⟨setEntry_same _ _ _, rfl, fun h => (congrArg Slice.st hslices).trans (hslice h)⟩

theorem scrubber_scrubs {s : State} {e n : Nat} (h : scrubber s e = some n) : (slice_ s n).st = .scrub := by
  have hfound := List.find?_some h
  exact (of_decide_eq_true hfound).1

/-- A slice that is not fenced is idle and holds no job once it is free. -/
theorem freeSlice_slice {n : Nat} {s : State} (h : (slice_ s n).st ≠ .fenced) :
    (slice_ (freeSlice n s) n).st = .idle ∧ (slice_ (freeSlice n s) n).job = none := by
  unfold freeSlice
  dsimp only
  rw [if_neg h, (setSlice_awake n s (by exact SliceState.noConfusion)).1]
  exact ⟨rfl, rfl⟩

theorem exec_abortScrub {e n : Nat} {x : Entry} {s : State} (hx : entry? s e = some x) (hp : x.phase = .scrubbing)
    (hn : scrubber s e = some n) : exec (.abortScrub e) s = .next (freeSlice n (scrubJob e n x s)) := by
  refine (show exec (.abortScrub e) s = execAbortScrub e s from rfl).trans ?_
  unfold execAbortScrub
  simp only [hx, hn]
  exact congrArg Host.Outcome.next (if_neg (not_not_intro hp))

end Sys2Proof.Machine

open Sys2Proof Sys2Proof.Machine

/-- Settles O32: a live job's stop is `Stopped`, that of one that is over changes its status at most; a late SIGN has committed its index,
and a scrub retags the pages, which zeroes them. -/
theorem stopLeavesNoResidue : Obligations.StopLeavesNoResidue := by
  unfold Obligations.StopLeavesNoResidue
  refine ⟨fun e st detail x s hx he hs => ?_, fun e st detail x s hx h => stopJob_over st detail hx h,
    fun e st detail x n k v s hx hphase hop ht hk hv howner halg hpset hstateful husage hst hready hcap hrecord hlen hlate => ?_,
    fun e x n s hx hp hn hw hmem htags hpages => ?_⟩
  · intro t
    obtain ⟨cycles, hstop⟩ := stopJob_stopped st detail hx he hs
    refine ⟨⟨_, hstop.entry, rfl, rfl, rfl, rfl, rfl, Entry.stopped_phase ..⟩, hstop.others, fun h hh v hv hl hk => ?_, fun hnone => ?_,
      hstop.ctx, hstop.tags, fun hmem a hlks hctx => ?_⟩
    · rw [hstop.slots]
      exact (congrArg (fun o => mget? (dropLoading o s.kreg.slots) h) hh).trans (dropLoading_empties hk hv hl)
    · rw [hstop.slots]
      exact congrArg (fun o => dropLoading o s.kreg.slots) hnone
    · rw [memByte_plain (lksAt?_outside t hlks) (ctxAt?_outside hctx), memByte_plain (lksAt?_outside s hlks) (ctxAt?_outside hctx)]
      exact hstop.mem hmem a hlks
  · intro t
    have he : x.phase ≠ .ended := by rw [hphase]; exact Phase.noConfusion
    have hs : x.phase ≠ .scrubbing := by rw [hphase]; exact Phase.noConfusion
    have hsame := setEntry_same e { x with cycles := x.cycles + occupied s x + owedTo s e } (settleOwed e s)
    obtain ⟨hcounters, hhts⟩ := haltJob_indexes st detail hsame he hs ht
    obtain ⟨hcounter, j, hj, hworking⟩ := stopSign_uses
      (x := { x with cycles := x.cycles + occupied s x + owedTo s e })
      (s := setEntry e { x with cycles := x.cycles + occupied s x + owedTo s e } (settleOwed e s))
      hphase hop hk hv howner halg hpset hstateful husage hst hready hcap hrecord hlen hlate
    have hstop : t = haltJob e st detail (setEntry e { x with cycles := x.cycles + occupied s x + owedTo s e } (settleOwed e s)) :=
      congrArg (haltJob e st detail) (chargeRun_live hx he hs)
    refine ⟨?_, j, ?_, hworking⟩
    · rw [hstop]
      exact (congrArg (fun c => tget _ c k.record) hcounters).trans hcounter
    · rw [hstop]
      exact (congrArg (fun h => mget? h x.desc.key) hhts).trans hj
  · obtain ⟨hentry, hiso, hslice⟩ := scrubJob_scrubs e n x hw
    obtain ⟨_, _, hkept, _⟩ := firstPass_keeps n x.pages.length s
    have hfree : (freeSlice n (scrubJob e n x s)).iso = (tagPages 0xFFFF x.pages (firstPass n x.pages.length s)).iso := hiso
    have hscrub : (slice_ (scrubJob e n x s) n).st = .scrub := hslice (scrubber_scrubs hn)
    obtain ⟨hidle, hjob⟩ := freeSlice_slice (n := n) (s := scrubJob e n x s) (by rw [hscrub]; exact SliceState.noConfusion)
    refine ⟨_, exec_abortScrub hx hp hn, hidle, hjob, ⟨_, hentry, rfl, rfl, rfl⟩, fun q hq => ⟨fun i hi => ?_, fun i hi => ?_⟩⟩
    · exact tagPages_tagOf 0xFFFF hfree (by rw [hkept]; exact htags) hq (hpages q hq) hi
    · exact tagPages_memByte 0xFFFF hfree (by rw [hkept]; exact keysRise_of_tabWf hmem) hq (hpages q hq) hi
end

section
/-!
PROOFS. Segments and slices: where a segmented job is parked, what parking and resuming leave in its entry and its slice, scrubs taken over,
and slices back in the pool (R189–R201, R216).
-/
namespace Sys2Proof.Machine

/-! ### The end of a segment (R189, R194, R196) -/

/-- A segmented command's key check comes first, where it is still to come. -/
def segChecked (e n : Nat) (x : Entry) (s : State) : State := if x.keyChecked = true then s else segCheck e n x s

/-- Job `y` runs on slice `n` past its key check, before its last segment. -/
def MoreSegments (n : Nat) (y : Entry) (t : State) : Prop :=
  y.phase = .running n ∧ y.keyChecked = true ∧ y.progress + 1 < segments (segCycles n y t)

section
variable {e n : Nat} {x : Entry} {s : State} (hx : entry? s e = some x) (hp : x.phase = .running n) (hr : resumePages x ≠ [])
  (hc : opClass x.desc.opcode ≠ none)
include hx hp hr hc

theorem exec_segmentYield_ends {y : Entry} (hy : entry? (segChecked e n x s) e = some y) (hm : MoreSegments n y (segChecked e n x s)) :
    exec (.segmentYield e) s = .next (endSegment e n y (segChecked e n x s)) := by
  unfold segChecked at hy hm ⊢
  unfold MoreSegments at hm
  refine (show exec (.segmentYield e) s = execSegmentYield e s from rfl).trans ?_
  unfold execSegmentYield
  simp only [hx, hp]
  rw [if_neg (by simp [hr, hc])]
  simp only [hy, if_pos hm]

theorem exec_segmentYield_stays (hm : ∀ y, entry? (segChecked e n x s) e = some y → ¬ MoreSegments n y (segChecked e n x s)) :
    exec (.segmentYield e) s = .next (segChecked e n x s) := by
  unfold segChecked at hm ⊢
  unfold MoreSegments at hm
  refine (show exec (.segmentYield e) s = execSegmentYield e s from rfl).trans ?_
  unfold execSegmentYield
  simp only [hx, hp]
  rw [if_neg (by simp [hr, hc])]
  split
  · next y hy => rw [if_neg (hm y hy)]
  · rfl

end

/-- The moment at which a segment of job `x` ends: its cycles and the bench waits it has not been charged with have passed. -/
def segmentEnd (e : Nat) (x : Entry) (s : State) : State :=
  settleOwed e { s with now := max s.now (x.segAt + cyclesNs s (60000 + owedTo s e)) }

/-- Job `x` with one segment more behind it. -/
def Entry.pastSegment (x : Entry) (owed : Nat) (now : Time) : Entry :=
  { x with progress := x.progress + 1, segsSince := x.segsSince + 1, segAt := now, cycles := x.cycles + owed }

/-- The rule of R196 parks job `x` of entry `e`. -/
def mustPark (s : State) (cls e : Nat) (x : Entry) : Bool :=
  ((decide (0 < x.prio) && someoneWaits s cls e (x.prio - 1)) ||
    (decide (objVal s Obj.PKE_SEG_QUANTUM ≤ x.segsSince) && someoneWaits s cls e x.prio)) && !(someIdle s cls)

theorem mustPark_iff (s : State) (cls e : Nat) (x : Entry) : mustPark s cls e x = true ↔
    ((0 < x.prio ∧ someoneWaits s cls e (x.prio - 1) = true) ∨
      (objVal s Obj.PKE_SEG_QUANTUM ≤ x.segsSince ∧ someoneWaits s cls e x.prio = true)) ∧ someIdle s cls = false := by
  simp only [mustPark, Bool.and_eq_true, Bool.or_eq_true, decide_eq_true_eq, Bool.not_eq_true']

theorem endSegment_eq (e n : Nat) (x : Entry) (s : State) :
    let t := segmentEnd e x s
    let y := x.pastSegment (owedTo s e) t.now
    endSegment e n x s = if mustPark t (sliceClass n) e y then parkJob e n y t else bump (sliceJobs n) (setEntry e y t) := rfl

/-! ### Parking (R197, R199) -/

/-- A slice that is done with its job holds neither job nor scratch. -/
theorem freeSlice_cleared (n : Nat) (s : State) : (slice_ (freeSlice n s) n).job = none ∧ (slice_ (freeSlice n s) n).scratch = [] := by
  unfold freeSlice
  dsimp only
  rw [(setSlice_awake n s (by dsimp only; split <;> exact SliceState.noConfusion)).1]
  exact ⟨rfl, rfl⟩

theorem parkJob_slice (e n : Nat) (x : Entry) (s : State) :
    (slice_ (parkJob e n x s) n).job = none ∧ (slice_ (parkJob e n x s) n).scratch = [] := freeSlice_cleared n _

/-- The entry of a parked job: its cycles, and the tag of its sealed pages. -/
theorem parkJob_entry (e n : Nat) (x : Entry) (s : State) : ∃ tag,
    entry? (parkJob e n x s) e = some { x with phase := .parked, cycles := x.cycles + parkCycles x, tag := tag } := by
  unfold parkJob
  dsimp only
  rw [(Announces.bump _ _).entry, setEntry_same]
  exact ⟨_, rfl⟩

/-! ### Resuming (R200, R201) -/

/-- A job that resumes with a usable expander and the tag it was parked with runs on. -/
theorem exec_jobResume_runs {e n : Nat} {x : Entry} {s : State} (hx : entry? s e = some x) (hp : x.phase = .resuming n)
    (hm : maskReady s n = true) :
    let t := { s with now := max s.now (x.segAt + cyclesNs s (parkCycles x)) }
    let b := readPages t (resumePages x) ((resumePages x).length * 1024)
    parkTag t e x b = x.tag → ∃ v, exec (.jobResume e true) s = .next (setSlice n v
      (setEntry e { x with phase := .running n, cycles := x.cycles + parkCycles x, segAt := t.now, tag := [] } t)) := by
  intro t b htag
  rw [show exec (.jobResume e true) s = execJobResume e true s from rfl]
  unfold execJobResume
  simp only [hx, hp, hm, Bool.not_true, Bool.false_eq_true, if_false, Bool.true_and]
  exact ⟨_, congrArg Host.Outcome.next (if_pos (decide_eq_true htag))⟩

theorem exec_jobResume_unseeded {e n : Nat} {x : Entry} {s : State} (hx : entry? s e = some x) (hp : x.phase = .resuming n)
    (hm : maskReady s n = false) (ok : Bool) :
    exec (.jobResume e ok) s = .next (stopJob e .entropyFail 0 (setEntry e { x with phase := .running n, segAt := s.now } s)) := by
  refine (show exec (.jobResume e ok) s = execJobResume e ok s from rfl).trans ?_
  unfold execJobResume
  simp only [hx, hp, hm, Bool.not_false, if_true]

/-! ### Scrubs and re-initialised slices (R192, R216) -/

theorem exec_scrubTakeover {n e : Nat} {r : List Nat} {s : State} (hn : n < 36) (hq : s.pke.scrubQ = e :: r)
    (hs : (slice_ s n).st = .idle ∨ (slice_ s n).st = .gated) :
    exec (.scrubTakeover n) s = .next (setSlice n
      { slice_ s n with st := .scrub, job := some e, colour := ((entry? s e).map (·.colour)).getD 0xFFFF, scratch := [] }
      { s with pke := { s.pke with scrubQ := r } }) := by
  refine (show exec (.scrubTakeover n) s = execScrubTakeover n s from rfl).trans ?_
  unfold execScrubTakeover
  simp only [hq]
  rw [if_pos ⟨hn, hs⟩]

end Sys2Proof.Machine

open Sys2Proof Sys2Proof.Machine

/-- Settles O33: each row runs the branch that its hypotheses open; R196's rule is `mustPark`, and a parked job's
slice is freed. -/
theorem segmentsAndSlices : Obligations.SegmentsAndSlices := by
  unfold Obligations.SegmentsAndSlices
  refine ⟨fun e x n s hx hp hr hc => ?_, fun e n x s => ?_, fun e n x s => ?_, fun e x n s hx hp => ?_,
    fun n e r s hn hq hs => exec_scrubTakeover hn hq hs, fun n s hn hi => congrArg Host.Outcome.next (if_pos ⟨hn, hi⟩)⟩
  · exact ⟨fun y hy hrun hck hseg => exec_segmentYield_ends hx hp hr hc hy ⟨hrun, hck, hseg⟩,
      fun hm => exec_segmentYield_stays hx hp hr hc hm⟩
  · intro cls w t y waits
    have hpark : mustPark t cls e y = true ↔ waits ∧ someIdle t cls = false := mustPark_iff t cls e y
    exact ⟨fun h => (endSegment_eq e n x s).trans (if_pos (hpark.mpr h)), fun h => (endSegment_eq e n x s).trans (if_neg (mt hpark.mp h))⟩
  · obtain ⟨tag, htag⟩ := parkJob_entry e n x s
    exact ⟨⟨_, htag, rfl, (Nat.add_assoc ..).symm, rfl⟩, parkJob_slice e n x s⟩
  · intro t b
    refine ⟨fun hm htag => ?_, fun hm ok => exec_jobResume_unseeded hx hp hm ok⟩
    obtain ⟨v, hv⟩ := exec_jobResume_runs hx hp hm htag
    exact ⟨_, hv, rfl, _, setEntry_same _ _ _, rfl, rfl, rfl, rfl⟩
end

section
/-!
PROOFS. Watchdog bites: what stopping a job leaves of slices, bench ports and fences, and what a bite does to a slice, a unit and a port
(R192, R212, R213, R224, R641, R642).
-/
namespace Sys2Proof.Machine

/-! ### What a stop leaves of the engine's units -/

/-- In `t` the fences are those of `s`, a bench port free in `s` is free, and a slice out of the pool in `s` is as it was. -/
structure KeepsUnits (s t : State) : Prop where
  fenced : t.pke.fencedReq = s.pke.fencedReq
  free : ∀ b, (bench s b).holder = none → (bench t b).holder = none
  slices : ∀ n, (slice_ s n).st = .init ∨ (slice_ s n).st = .fenced → slice_ t n = slice_ s n

namespace KeepsUnits

theorem of_pke {s t : State} (h : t.pke = s.pke) : KeepsUnits s t :=
  ⟨by rw [h], fun b hb => by unfold bench at hb ⊢; rw [h]; exact hb, fun n _ => by unfold slice_; rw [h]⟩

theorem refl (s : State) : KeepsUnits s s := of_pke rfl

theorem trans {s t u : State} (h : KeepsUnits s t) (g : KeepsUnits t u) : KeepsUnits s u where
  fenced := g.fenced.trans h.fenced
  free b hb := g.free b (h.free b hb)
  slices n hn := (g.slices n (by rw [h.slices n hn]; exact hn)).trans (h.slices n hn)

/-- A change of the slices alone, of none that is out of the pool. -/
theorem of_slices {s t : State} (hf : t.pke.fencedReq = s.pke.fencedReq) (hb : t.pke.benches = s.pke.benches)
    (hs : ∀ n, (slice_ s n).st = .init ∨ (slice_ s n).st = .fenced → slice_ t n = slice_ s n) : KeepsUnits s t :=
  ⟨hf, fun b h => by unfold bench at h ⊢; rw [hb]; exact h, hs⟩

/-- A slice of the pool is given another record. -/
theorem setSlice {n : Nat} {v : Slice} {s : State} (hn : ¬ ((slice_ s n).st = .init ∨ (slice_ s n).st = .fenced)) (hv : v.st ≠ .gated) :
    KeepsUnits s (Machine.setSlice n v s) := by
  refine of_slices rfl rfl (fun k hk => (setSlice_awake n s hv).2 k (fun h => hn ?_))
  rwa [h] at hk

theorem eachBench {f : Bench → Bench} (hf : ∀ x, x.holder = none → (f x).holder = none) (s : State) :
    KeepsUnits s (Machine.eachBench f s) where
  fenced := rfl
  free b hb := by
    unfold bench tget at hb ⊢
    unfold Machine.eachBench
    dsimp only
    rw [mget?_mmap]
    cases hx : mget? s.pke.benches b with
    | none => rfl
    | some x =>
      rw [hx] at hb
      exact hf x hb
  slices _ _ := rfl

theorem settleOwed (e : Nat) (s : State) : KeepsUnits s (Machine.settleOwed e s) := by
  unfold Machine.settleOwed
  exact eachBench (f := fun x => { x with owed := x.owed.filter (fun q => decide (q.1 ≠ e)) }) (fun _ h => h) s

/-- Other slices that hold the job are BUSY (R351). -/
theorem freeOthers (e n : Nat) (s : State) : KeepsUnits s (Machine.freeOthers e n s) := by
  refine of_slices rfl rfl (fun k hk => ?_)
  unfold slice_ tget at hk ⊢
  unfold Machine.freeOthers
  dsimp only
  rw [mget?_mmap]
  cases hx : mget? s.pke.slices k with
  | none => rfl
  | some x =>
    rw [hx] at hk
    have hbusy : x.st ≠ .busy := by
      intro h
      rcases hk with hk | hk <;> exact SliceState.noConfusion (h.symm.trans hk)
    exact if_neg (fun h => hbusy h.2.1)

theorem stopSign (x : Entry) (s : State) : KeepsUnits s (Machine.stopSign x s) := by
  refine of_pke ?_
  unfold Machine.stopSign commitIndex htsWarn
  dsimp only
  split
  · split
    · split
      · split
        · rfl
        · split <;> rfl
      · rfl
    · rfl
  · rfl

theorem dropNewKey (target : Option Nat) (s : State) : KeepsUnits s (Machine.dropNewKey target s) := by
  refine of_pke ?_
  unfold Machine.dropNewKey
  split
  · rfl
  · split
    · dsimp only
      split <;> rfl
    · rfl

theorem detach (e : Nat) (x : Entry) (hasPages : Bool) (s : State) : KeepsUnits s (Machine.detach e x hasPages s) := by
  unfold Machine.detach
  dsimp only
  generalize hs : Machine.freeOthers e _ _ = s1
  have h : KeepsUnits s s1 := by
    rw [← hs]
    refine KeepsUnits.trans ?_ (freeOthers _ _ _)
    exact of_pke rfl
  split
  · next n _ =>
    split
    · exact h
    · next hpool =>
      have hout : ¬ ((slice_ s1 n).st = .init ∨ (slice_ s1 n).st = .fenced) := by
        simpa [or_comm] using hpool
      refine h.trans ?_
      split
      · exact setSlice hout SliceState.noConfusion
      · refine setSlice hout ?_
        dsimp only
        split <;> exact SliceState.noConfusion
  · split
    · exact h.trans (of_slices rfl rfl (fun _ _ => rfl))
    · exact h

theorem haltJob (e : Nat) (st : Status) (detail : Nat) (s : State) : KeepsUnits s (Machine.haltJob e st detail s) := by
  unfold Machine.haltJob
  split
  · exact refl s
  · next x _ =>
    split
    · split
      · exact of_pke rfl
      · exact refl s
    · exact (((stopSign x s).trans (detach e x _ _)).trans (dropNewKey x.target _)).trans (of_pke rfl)

theorem stopJob (e : Nat) (st : Status) (detail : Nat) (s : State) : KeepsUnits s (Machine.stopJob e st detail s) := by
  refine KeepsUnits.trans ?_ (haltJob e st detail _)
  unfold chargeRun
  split
  · exact refl s
  · split
    · exact refl s
    · exact (settleOwed e s).trans (of_pke rfl)

end KeepsUnits

/-- A port that is free stays so while a requester's bursts are dropped. -/
theorem dropBursts_keeps (r : Nat) (s : State) : KeepsUnits s (dropBursts r s) :=
  .eachBench (fun x h => by unfold Bench.without; simp only [h]) s

/-! ### A slice's bite (R192, R641) -/

/-- A re-initialised slice is out of the pool and holds no job. -/
theorem reinitSlice_slice (n : Nat) (s : State) :
    (slice_ (reinitSlice n s) n).st = (if (slice_ s n).st = .fenced then .fenced else .init) ∧ (slice_ (reinitSlice n s) n).job = none := by
  unfold reinitSlice
  dsimp only
  rw [(setSlice_awake n _ (by dsimp only; split <;> exact SliceState.noConfusion)).1]
  exact ⟨rfl, rfl⟩

theorem reinitSlice_free {b : Nat} (n : Nat) {s : State} (h : (bench s b).holder = none) : (bench (reinitSlice n s) b).holder = none :=
  (dropBursts_keeps n s).free b h

/-- The pages of a job that has been stopped wait for a scrub. -/
def queueScrub (e : Nat) (s : State) : State :=
  match entry? s e with
  | some y => if y.phase = .scrubbing then { s with pke := { s.pke with scrubQ := s.pke.scrubQ ++ [e] } } else s
  | none => s

@[simp] theorem queueScrub_slice (e : Nat) (s : State) (n : Nat) : slice_ (queueScrub e s) n = slice_ s n := by
  unfold queueScrub
  split
  · split <;> rfl
  · rfl

@[simp] theorem queueScrub_bench (e : Nat) (s : State) (b : Nat) : bench (queueScrub e s) b = bench s b := by
  unfold queueScrub
  split
  · split <;> rfl
  · rfl

@[simp] theorem queueScrub_entry (e : Nat) (s : State) (k : Nat) : entry? (queueScrub e s) k = entry? s k := by
  unfold queueScrub
  split
  · split <;> rfl
  · rfl

/-- A watchdog's bite of a job on slice `n`: the slice is re-initialised and the job of entry `e` stopped TIMEOUT. -/
def biteSlice (n e detail : Nat) (s : State) : State := queueScrub e (stopJob e .timeout detail (reinitSlice n s))

theorem biteSlice_slice (n e detail : Nat) (s : State) :
    (slice_ (biteSlice n e detail s) n).st = (if (slice_ s n).st = .fenced then .fenced else .init) ∧
      (slice_ (biteSlice n e detail s) n).job = none := by
  obtain ⟨hst, hjob⟩ := reinitSlice_slice n s
  unfold biteSlice
  rw [queueScrub_slice, (KeepsUnits.stopJob e .timeout detail (reinitSlice n s)).slices n (by rw [hst]; split <;> simp)]
  exact ⟨hst, hjob⟩

theorem biteSlice_free {b : Nat} (n e detail : Nat) {s : State} (h : (bench s b).holder = none) :
    (bench (biteSlice n e detail s) b).holder = none := by
  unfold biteSlice
  rw [queueScrub_bench]
  exact (KeepsUnits.stopJob e .timeout detail _).free b (reinitSlice_free n h)

theorem biteSlice_entry {n e : Nat} (detail : Nat) {x : Entry} {s : State} (hx : entry? s e = some x) (he : x.phase ≠ .ended)
    (hs : x.phase ≠ .scrubbing) :
    ∃ y, entry? (biteSlice n e detail s) e = some y ∧ y.status = .timeout ∧ y.detail = detail ∧ y.output = [] := by
  have hx' : entry? (reinitSlice n s) e = some x := hx
  obtain ⟨cycles, hstop⟩ := stopJob_stopped .timeout detail hx' he hs
  unfold biteSlice
  rw [queueScrub_entry, hstop.entry]
  exact ⟨_, rfl, rfl, rfl, rfl⟩

/-- A bite at `at1` stands on the slice and in its count, and the job `x` of entry `e` has run to its limit `lim`. -/
def bitten (e n lim : Nat) (x : Entry) (s : State) : State :=
  bump (wdogBites 2) (setEntry e { x with cycles := x.cycles + 60000 * x.progress + lim, progress := 0, segAt := s.now }
    (setSlice n { slice_ s n with bites := recentBites s.now (slice_ s n).bites } s))

/-- The slice watchdog bites when the job reaches its limit. -/
def biteTime (n : Nat) (x : Entry) (s : State) : State :=
  { s with now := max s.now (x.segAt + cyclesNs s (wdogLimit s n x)), free := s.free + 1 }

theorem exec_sliceWdogBite {e n : Nat} {x : Entry} {s : State} (hx : entry? s e = some x) (hp : x.phase = .running n) :
    let s1 := bitten e n (wdogLimit s n x) x (biteTime n x s)
    exec (.sliceWdogBite e) s = .next (
      if 3 ≤ (recentBites (biteTime n x s).now (slice_ s n).bites).length then fenceSlice n cSLICE_WDOG .timeout 2 s1
      else biteSlice n e 2 s1) := by
  refine (show exec (.sliceWdogBite e) s = execSliceWdogBite e s from rfl).trans ?_
  unfold execSliceWdogBite
  simp only [hx]
  split
  · next m hm =>
    cases hp.symm.trans hm
    rfl
  · next hno => exact absurd hp (hno n)

theorem recentBites_ne_nil (now : Time) (l : List Time) : recentBites now l ≠ [] := by simp [recentBites]

theorem bitten_slice (e n lim : Nat) (x : Entry) (s : State) : (slice_ (bitten e n lim x s) n).st = (slice_ s n).st := by
  have hset : slice_ (bitten e n lim x s) n = { slice_ s n with bites := recentBites s.now (slice_ s n).bites } :=
    tget_tset_of_ne (fun _ => Slice.reset) s.pke.slices n (fun h => recentBites_ne_nil _ _ (congrArg Slice.bites h))
  rw [hset]

theorem bitten_entry (e n lim : Nat) (x : Entry) (s : State) : ∃ y, entry? (bitten e n lim x s) e = some y ∧ y.phase = x.phase := by
  unfold bitten
  rw [(Announces.bump _ _).entry, setEntry_same]
  exact ⟨_, rfl, rfl⟩

/-! ### A unit's bite (R642) -/

theorem exec_unitWdogBite_digest {u e : Nat} {r : List Nat} {s : State} (hu : u < 4) (hj : (digUnit s u).jobs = e :: r) :
    let bites := recentBites (max s.now (s.now + ms 1)) (digUnit s u).bites
    let s1 := bump (wdogBites 3) (stopJob e .timeout 3 { s with now := max s.now (s.now + ms 1) })
    exec (.unitWdogBite u) s = .next (
      if 3 ≤ bites.length then fenceDigest u cUNIT_WDOG .timeout 3 (setDigUnit u { digUnit s1 u with bites := bites } s1)
      else setDigUnit u { digUnit s1 u with bites := bites, initAt := some s1.now } s1) := by
  refine (show exec (.unitWdogBite u) s = execUnitWdogBite u s from rfl).trans ?_
  unfold execUnitWdogBite
  simp only [if_pos hu, hj]
  rfl

theorem exec_unitWdogBite_manager {u e : Nat} {s : State} (hu : 4 ≤ u) (hh : unitHead s 9 = some e) :
    exec (.unitWdogBite u) s =
      .next (bump (wdogBites 3) (stopJob e .timeout 3 { s with now := max s.now (s.now + ms 1) })) := by
  refine (show exec (.unitWdogBite u) s = execUnitWdogBite u s from rfl).trans ?_
  unfold execUnitWdogBite
  simp only [if_neg (Nat.not_lt.mpr hu), hh]
  rfl

/-! ### A bench port's bite (R212, R213) -/

theorem setBench_same (b : Nat) (x : Bench) {s : State} (h : keysRise s.pke.benches = true) : bench (setBench b x s) b = x :=
  tget_tset_same (fun _ => Bench.reset) s.pke.benches b x h

/-- In `t` the port of bench `b` has been taken from its holder, with every job as in `s`. -/
structure PortFreed (b : Nat) (s t : State) : Prop where
  free : (bench t b).holder = none
  entries : t.ring.entries = s.ring.entries

/-- What is left to do with the holder, once the port has been taken from it. -/
def biteHolder (h : Burst) (s : State) : State :=
  if h.requester < 36 then biteSlice h.requester h.entry 1 s
  else fenceRequester h.requester cBENCH_WDOG (if (entry? s h.entry).isSome then some h.entry else none) .timeout 1 s

theorem exec_benchWdogBite {b : Nat} {h : Burst} {s : State} (hk : keysRise s.pke.benches = true) (hh : (bench s b).holder = some h) :
    ∃ t, PortFreed b s t ∧ exec (.benchWdogBite b) s = .next (biteHolder h t) := by
  rw [show exec (.benchWdogBite b) s = execBenchWdogBite b s from rfl]
  unfold execBenchWdogBite
  simp only [hh]
  refine ⟨_, ⟨?_, ?_⟩, rfl⟩
  · exact congrArg Bench.holder (setBench_same b _ hk)
  · rw [(Announces.setObj _ _ _).entries, (Announces.bump _ _).entries, (Announces.bump _ _).entries]
    rfl

/-- Requester `n` is ignored at every bench (R213). -/
def ignoring (n : Nat) (s : State) : State :=
  let u := dropBursts n s
  { u with pke := { u.pke with fencedReq := if n ∈ u.pke.fencedReq then u.pke.fencedReq else n :: u.pke.fencedReq } }

theorem ignoring_fences (n : Nat) (s : State) : n ∈ (ignoring n s).pke.fencedReq := by
  unfold ignoring
  dsimp only
  split
  · assumption
  · exact List.mem_cons_self

/-- After a requester is ignored, its fence leaves the units as they are. -/
theorem fenceRequester_keeps (n cause : Nat) (job : Option Nat) (st : Status) (detail : Nat) (s : State) :
    KeepsUnits (ignoring n s) (fenceRequester n cause job st detail s) := by
  unfold fenceRequester
  cases job with
  | none => exact .of_pke rfl
  | some e => exact (KeepsUnits.stopJob e st detail (ignoring n s)).trans (.of_pke rfl)

theorem biteHolder_free {b : Nat} (h : Burst) {s : State} (hb : (bench s b).holder = none) : (bench (biteHolder h s) b).holder = none := by
  unfold biteHolder
  split
  · exact biteSlice_free _ _ _ hb
  · exact (fenceRequester_keeps _ _ _ _ _ s).free b ((dropBursts_keeps _ s).free b hb)

theorem biteHolder_of_slice {h : Burst} (hr : h.requester < 36) (s : State) :
    biteHolder h s = biteSlice h.requester h.entry 1 s := if_pos hr

theorem biteHolder_fences {h : Burst} (hr : 36 ≤ h.requester) (s : State) : h.requester ∈ (biteHolder h s).pke.fencedReq := by
  unfold biteHolder
  rw [if_neg (Nat.not_lt.mpr hr), (fenceRequester_keeps _ _ _ _ _ s).fenced]
  exact ignoring_fences _ s

end Sys2Proof.Machine

open Sys2Proof Sys2Proof.Machine

/-- Settles O34: each watchdog's row runs the branch that its hypotheses open; a slice that is bitten is out of the pool before its job is
stopped, and a stop leaves it there. -/
theorem watchdogBites : Obligations.WatchdogBites := by
  unfold Obligations.WatchdogBites
  refine ⟨fun e x n s hx hp => ?_, fun u e r s hu hj => exec_unitWdogBite_digest hu hj, fun u e s hu hh => exec_unitWdogBite_manager hu hh,
    fun b h s hb hk hh => ?_⟩
  · intro lim s0 bites s1
    have hexec := exec_sliceWdogBite hx hp
    refine ⟨fun hthird => hexec.trans (congrArg Host.Outcome.next (if_pos hthird)), fun hfew => ?_⟩
    obtain ⟨y, hy, hphase⟩ := bitten_entry e n lim x s0
    obtain ⟨hst, hjob⟩ := biteSlice_slice n e 2 s1
    refine ⟨_, hexec.trans (congrArg Host.Outcome.next (if_neg (Nat.not_le.mpr hfew))), hst.trans ?_, hjob,
      biteSlice_entry 2 hy (by rw [hphase, hp]; exact Phase.noConfusion) (by rw [hphase, hp]; exact Phase.noConfusion)⟩
    exact congrArg (fun st => if st = SliceState.fenced then SliceState.fenced else .init) (bitten_slice e n lim x s0)
  · obtain ⟨t, ⟨hfree, hentries⟩, hexec⟩ := exec_benchWdogBite hk hh
    refine ⟨_, hexec, biteHolder_free h hfree, fun hslice => ?_, fun hother => biteHolder_fences hother t⟩
    rw [biteHolder_of_slice hslice]
    refine ⟨(biteSlice_slice _ _ _ t).2, fun x hx he hs => biteSlice_entry 1 ?_ he hs⟩
    unfold entry?
    rw [hentries]
    exact hx
end

section
/-!
PROOFS. The bench ports: the winner of a cycle's requests, what the decision does with the burst that holds the port, and the BACKOFF of a
loser (R205–R211).
-/
namespace Sys2Proof.Machine

/-! ### The winner (R205) -/

theorem leastBy_eq_none {α : Type} {key : α → Nat} {l : List α} (h : leastBy key l = none) : l = [] := by
  cases l with
  | nil => rfl
  | cons a r =>
    unfold leastBy at h
    split at h
    · cases h
    · split at h <;> cases h

/-- The least candidate is one of the list, and none has a lower key. -/
theorem leastBy_least {α : Type} {key : α → Nat} {l : List α} {w : α} (h : leastBy key l = some w) :
    w ∈ l ∧ ∀ q ∈ l, key w ≤ key q := by
  induction l generalizing w with
  | nil => cases h
  | cons a r ih =>
    unfold leastBy at h
    split at h
    · next hr =>
      cases h
      rw [leastBy_eq_none hr]
      simp
    · next b hb =>
      obtain ⟨hmem, hle⟩ := ih hb
      split at h
      · next hab =>
        cases h
        exact ⟨List.mem_cons_self, List.forall_mem_cons.mpr ⟨Nat.le_refl _, fun q hq => Nat.le_trans hab (hle q hq)⟩⟩
      · next hab =>
        cases h
        exact ⟨List.mem_cons_of_mem _ hmem, List.forall_mem_cons.mpr ⟨by omega, hle⟩⟩

theorem rotation_lt (x : Bench) (cls requester : Nat) : rotation x cls requester < 41 := Nat.mod_lt _ (by decide)

/-- The winner has the lowest class of all and comes first in the rotation of that class. -/
theorem winner_first {x : Bench} {l : List Burst} {w : Burst} (h : winner x l = some w) :
    w ∈ l ∧ ∀ q ∈ l, w.cls < q.cls ∨ (w.cls = q.cls ∧ rotation x w.cls w.requester ≤ rotation x q.cls q.requester) := by
  obtain ⟨hmem, hle⟩ := leastBy_least h
  refine ⟨hmem, fun q hq => ?_⟩
  have hkey : w.cls * 41 + rotation x w.cls w.requester ≤ q.cls * 41 + rotation x q.cls q.requester := hle q hq
  have hw := rotation_lt x w.cls w.requester
  have hq := rotation_lt x q.cls q.requester
  omega

/-! ### The decision at a held port (R206, R207, R210, R211) -/

/-- Winner `w` preempts holder `h`: in native mode, of a lower class, and no rule change waits for the holder. -/
def Preempts (x : Bench) (h w : Burst) : Prop := x.mode = 0 ∧ w.cls < h.cls ∧ h.awaited = false

theorem decidePort_preempts {x : Bench} {l : List Burst} {h w : Burst} (hh : x.holder = some h) (hw : winner x l = some w)
    (hp : Preempts x h w) : (decidePort x l).1 = grant (preempt x) w := by
  unfold Preempts at hp
  unfold decidePort
  simp only [hh, hw]
  rw [if_pos hp]

/-- Where no winner preempts it, the burst that holds the port keeps it. -/
theorem decidePort_holds {x : Bench} {l : List Burst} {h : Burst} (hh : x.holder = some h)
    (hp : ∀ w, winner x l = some w → ¬ Preempts x h w) : (decidePort x l).1 = x ∧ (decidePort x l).2.2.2 = false := by
  unfold Preempts at hp
  unfold decidePort
  simp only [hh]
  split
  · next w hw =>
    rw [if_neg (hp w hw)]
    exact ⟨rfl, rfl⟩
  · exact ⟨rfl, rfl⟩

/-- The preempted holder is kept to continue (R208). -/
theorem grant_preempt_keeps {x : Bench} {h w : Burst} (hh : x.holder = some h) (hr : w.requester ≠ h.requester) :
    { h with lostAt := x.cycle } ∈ (grant (preempt x) w).preempted := by
  unfold grant preempt
  simp only [hh]
  exact List.mem_filter.mpr ⟨List.mem_cons_self, decide_eq_true (Ne.symm hr)⟩

/-! ### BACKOFF (R206) -/

@[simp] theorem owe_backoff (b : Burst) (n : Nat) (x : Bench) : (owe b n x).backoff = x.backoff := by unfold owe; split <;> rfl

@[simp] theorem owe_retryAt (b : Burst) (n : Nat) (x : Bench) : (owe b n x).retryAt = x.retryAt := by unfold owe; split <;> rfl

/-- A loser's count of BACKOFFs rises, up to 10. -/
theorem giveBackoff_count (x : Bench) (q : Burst) :
    tget (fun _ => 0) (giveBackoff x q).backoff q.requester = min 10 (tget (fun _ => 0) x.backoff q.requester + 1) := by
  unfold giveBackoff
  rw [owe_backoff]
  exact tget_tset_of_ne _ _ _ (by omega)

/-- A loser retries after 2^n cycles. -/
theorem giveBackoff_retry (x : Bench) (q : Burst) : tget (fun _ => 0) (giveBackoff x q).retryAt q.requester =
    x.cycle + 2 ^ min 10 (tget (fun _ => 0) x.backoff q.requester + 1) := by
  unfold giveBackoff
  rw [owe_retryAt]
  unfold tget
  rw [mget?_mset_same]
  rfl

/-- A grant sets the requester's count to 0 and gives it the port. -/
theorem grant_gives (x : Bench) (w : Burst) (hk : keysRise x.backoff = true) :
    tget (fun _ => 0) (grant x w).backoff w.requester = 0 ∧ (grant x w).holder = some w :=
  ⟨tget_tset_same (fun _ => 0) x.backoff w.requester 0 hk, rfl⟩

end Sys2Proof.Machine

open Sys2Proof Sys2Proof.Machine

/-- Settles O35: the least key orders by class and then by rotation, and a held port changes hands only where the winner `Preempts`. -/
theorem benchArbitration : Obligations.BenchArbitration := by
  unfold Obligations.BenchArbitration
  refine ⟨fun b cycle reqs s hb => congrArg Host.Outcome.next (if_pos hb), fun x l w h => winner_first h, fun x l h hh hm => ?_,
    fun x l h w hh hm hw => ⟨fun hc ha hr => ?_, fun hkeep => ?_⟩, fun x q => ⟨giveBackoff_count x q, giveBackoff_retry x q⟩,
    grant_gives, fun b s hb => congrArg Host.Outcome.next (if_pos hb)⟩
  · obtain ⟨hsame, hnot⟩ := decidePort_holds (l := l) hh (fun w _ hp => hm hp.1)
    exact ⟨(congrArg Bench.holder hsame).trans hh, hnot⟩
  · rw [decidePort_preempts hh hw ⟨hm, hc, ha⟩]
    exact ⟨rfl, grant_preempt_keeps hh hr⟩
  · refine (decidePort_holds hh (fun v hv hp => ?_)).1
    cases hw.symm.trans hv
    obtain ⟨-, hlower, hfree⟩ := hp
    exact hkeep.elim (fun hle => absurd hlower (Nat.not_lt.mpr hle)) (fun ha => absurd (ha.symm.trans hfree) (by decide))
end

section
/-!
PROOFS. The key check and the invariant: which status a check ends with, what the job that it refuses leaves, and what a failed invariant
does (R189–R192, R219, R231, R233).
-/
namespace Sys2Proof.Machine

/-! ### The key check (R231) -/

/-- What the key check can end with, and what holds then. -/
inductive KeyVerdict (s : State) (seeded : Bool) (q : Need) : Option Status → Prop
  | empty (h : some Status.keyEmpty ∈ q.keys ∨ s.kreg.erasing ≠ none) : KeyVerdict s seeded q (some .keyEmpty)
  | policy (hk : ¬ (some Status.keyEmpty ∈ q.keys ∨ s.kreg.erasing ≠ none)) (h : some Status.keyPolicy ∈ q.keys ∨ q.policy = true) :
      KeyVerdict s seeded q (some .keyPolicy)
  | exhausted (hk : ¬ (some Status.keyEmpty ∈ q.keys ∨ s.kreg.erasing ≠ none)) : KeyVerdict s seeded q (some .stateExhausted)
  | quota (hk : ¬ (some Status.keyEmpty ∈ q.keys ∨ s.kreg.erasing ≠ none))
      (h : q.policy = false ∧ some Status.keyPolicy ∉ q.keys ∧ some Status.stateExhausted ∉ q.keys) : KeyVerdict s seeded q (some .quota)
  | entropy (hk : ¬ (some Status.keyEmpty ∈ q.keys ∨ s.kreg.erasing ≠ none))
      (h : (q.bytes ≠ 0 ∧ s.rng.st ≠ .ready) ∨ (q.mask = true ∧ seeded = false)) (ho : q.other = false) :
      KeyVerdict s seeded q (some .entropyFail)
  | passed (hk : ¬ (some Status.keyEmpty ∈ q.keys ∨ s.kreg.erasing ≠ none)) : KeyVerdict s seeded q none

theorem KeyVerdict.of_ite {s : State} {seeded : Bool} {q : Need} {c : Prop} [Decidable c] {a b : Option Status}
    (ha : c → KeyVerdict s seeded q a) (hb : ¬ c → KeyVerdict s seeded q b) : KeyVerdict s seeded q (if c then a else b) := by
  by_cases h : c
  · rw [if_pos h]
    exact ha h
  · rw [if_neg h]
    exact hb h

theorem keyCheck_verdict (s : State) (colour : Nat) (seeded : Bool) (q : Need) :
    KeyVerdict s seeded q (keyCheck s colour seeded q) := by
  have hempty : (decide (some Status.keyEmpty ∈ q.keys) || s.kreg.erasing.isSome) = true ↔
      (some Status.keyEmpty ∈ q.keys ∨ s.kreg.erasing ≠ none) := by
    rw [Bool.or_eq_true, decide_eq_true_eq, Option.isSome_iff_ne_none]
  unfold keyCheck
  refine .of_ite (fun hk => .empty (hempty.mp hk)) (fun hk => .of_ite (fun _ => ?_) (fun hp => .of_ite (fun _ => ?_)
    (fun hq => .of_ite (fun he => ?_) (fun _ => .passed (mt hempty.mpr hk)))))
  · split
    · next hpolicy =>
      rw [Bool.or_eq_true, decide_eq_true_eq] at hpolicy
      exact .policy (mt hempty.mpr hk) hpolicy
    · exact .exhausted (mt hempty.mpr hk)
  · simp only [Bool.or_eq_true, decide_eq_true_eq, not_or, Bool.not_eq_true] at hp
    obtain ⟨⟨hpolicy, hexhausted⟩, hown⟩ := hp
    exact .quota (mt hempty.mpr hk) ⟨hown, hpolicy, hexhausted⟩
  · rw [Bool.or_eq_true, not_or, Bool.not_eq_true q.other] at hq
    obtain ⟨-, hother⟩ := hq
    simp only [rngReady, Bool.or_eq_true, Bool.and_eq_true, Bool.not_eq_true', decide_eq_true_eq, decide_eq_false_iff_not] at he
    exact .entropy (mt hempty.mpr hk) he hother

/-- KEY_EMPTY is given exactly where a handle is empty or an erasure runs (R340). -/
theorem keyCheck_empty_iff (s : State) (colour : Nat) (seeded : Bool) (q : Need) :
    (some Status.keyEmpty ∈ q.keys ∨ s.kreg.erasing ≠ none) ↔ keyCheck s colour seeded q = some .keyEmpty := by
  have hv := keyCheck_verdict s colour seeded q
  generalize keyCheck s colour seeded q = k at hv
  cases hv with
  | empty h => exact ⟨fun _ => rfl, fun _ => h⟩
  | policy hk | exhausted hk | quota hk | entropy hk | passed hk => exact ⟨fun h => absurd h hk, nofun⟩

/-! ### A refused job -/

/-- The record of a job that has ended. -/
theorem endJob_entry {e : Nat} {x : Entry} (st : Status) (detail : Nat) (out : Bytes) (late : List ObjId) {s : State}
    (h : entry? s e = some x) : ∃ y, entry? (endJob e st detail out late s) e = some y ∧ y.cycles = x.cycles := by
  unfold endJob
  simp only [h]
  rw [setEntry_same]
  exact ⟨_, rfl, rfl⟩

theorem endJob_slots (e : Nat) (st : Status) (detail : Nat) (out : Bytes) (late : List ObjId) (s : State) :
    (endJob e st detail out late s).kreg.slots = s.kreg.slots := by
  unfold endJob
  split
  · rfl
  · next x _ =>
    have hdetach := (detach_keeps e { x with phase := .waiting } false s).1.slots
    split
    · exact hdetach
    · exact hdetach

theorem spend_slots (e c : Nat) (s : State) : (spend e c s).kreg.slots = s.kreg.slots := by unfold spend; split <;> rfl

/-- A run that ends with a status alone, other than ENTROPY_FAIL, FAULT_DETECTED and OK. -/
theorem finish_stop {e c : Nat} {st : Status} {s : State} (h : st = .keyEmpty ∨ st = .keyPolicy ∨ st = .stateExhausted ∨ st = .quota) :
    finish e (Res.stop st c) s = endJob e st 0 [] [] (spend e c s) := by
  rcases h with rfl | rfl | rfl | rfl <;> rfl

/-! ### A failed invariant (R191, R192) -/

/-- KEYGEN of a stateful key that is no rebuild's is a slice's command like any other. -/
theorem exec_statefulKeygen {e : Nat} {x : Entry} {s : State} (fault : Bool) (hx : entry? s e = some x) (ho : ∀ h, x.origin ≠ .rebuild h) :
    exec (.statefulKeygen e fault) s = .next (sliceRow 0x0401 e fault (runHtsKeygen fault) s) := by
  refine (show exec (.statefulKeygen e fault) s = execStatefulKeygen e fault s from rfl).trans ?_
  unfold execStatefulKeygen
  cases horigin : x.origin with
  | rebuild h => exact absurd horigin (ho h)
  | ring | graft | cell | load => simp only [hx, horigin]

/-- A job without pages leaves nothing to scrub: its failed invariant stops it and re-initialises the slice. -/
theorem invariantFailure_of_no_pages {e n : Nat} {x : Entry} {s : State} (hx : entry? s e = some x) (hp : x.phase = .running n)
    (hpages : x.pages = []) : invariantFailure e s =
      tamperEvent 17 (.slice n) n (bump Obj.PKE_FAULTS (haltJob e .faultDetected 0 (reinitSlice n s))) := by
  have hx' : entry? (reinitSlice n s) e = some x := hx
  have hstop := haltJob_stopped .faultDetected 0 hx' (by rw [hp]; exact Phase.noConfusion) (by rw [hp]; exact Phase.noConfusion)
  have hended : (entry? (haltJob e .faultDetected 0 (reinitSlice n s)) e).map (·.phase) = some .ended := by
    rw [hstop.entry, Option.map_some, Entry.stopped_phase, if_pos hpages]
  unfold invariantFailure
  simp only [hx, hp, hended]
  rw [if_neg (fun h => nomatch h.1)]

end Sys2Proof.Machine

open Sys2Proof Sys2Proof.Machine

/-- Settles O40: `KeyVerdict` lists what the check can end with, a refused job ends without touching a slot, and each command named is a
`sliceRow` that its hardware's fault sends to `invariantFailure`. -/
theorem keyChecks : Obligations.KeyChecks := by
  unfold Obligations.KeyChecks
  refine ⟨fun s colour seeded q => ?_, fun x n q run s st hk hc => ?_, fun e x n st s hx hp hst => ?_,
    fun e i op f n x s hrow hon hlast hst => ?_, fun e x n s hx hp hpages => invariantFailure_of_no_pages hx hp hpages⟩
  · intro k
    refine ⟨keyCheck_empty_iff s colour seeded q, ?_⟩
    have hv : KeyVerdict s seeded q k := keyCheck_verdict s colour seeded q
    clear_value k
    cases hv with
    | empty | exhausted | passed => exact ⟨nofun, nofun, nofun⟩
    | policy _ h => exact ⟨fun _ => h, nofun, nofun⟩
    | quota _ h => exact ⟨nofun, fun _ => h, nofun⟩
    | entropy _ h ho => exact ⟨nofun, nofun, fun _ => ⟨h, ho⟩⟩
  · unfold checked
    rw [hk]
    simp only [hc]
    rfl
  · intro t
    have hspent := spend_entry 120 hx
    have ht : t = endJob e st 0 [] [] (spend e 120 s) := finish_stop hst
    rw [ht]
    refine ⟨?_, (endJob_slots ..).trans (spend_slots ..), endJob_entry st 0 [] [] hspent⟩
    have hends := endJob_ends st 0 [] [] hspent
    rwa [ite_self] at hends
  · have hexec : exec i s = .next (sliceRow op e true f s) := by
      rcases hrow with ⟨rfl, rfl, rfl⟩ | ⟨rfl, rfl, rfl⟩ | ⟨rfl, rfl, rfl⟩ | ⟨rfl, rfl, rfl⟩ | ⟨rfl, rfl, rfl⟩ | ⟨rfl, rfl, rfl⟩ |
        ⟨rfl, rfl, rfl⟩ | ⟨rfl, rfl, rfl⟩ | ⟨rfl, rfl, rfl⟩ | ⟨rfl, rfl, rfl, horigin⟩ | ⟨rfl, rfl, rfl⟩ | ⟨rfl, rfl, rfl⟩ |
        ⟨rfl, rfl, rfl⟩ | ⟨rfl, rfl, rfl⟩ | ⟨rfl, rfl, rfl⟩ | ⟨rfl, rfl, rfl⟩ | ⟨rfl, rfl, rfl⟩ | ⟨rfl, rfl, rfl⟩ |
        ⟨rfl, rfl, rfl⟩ | ⟨rfl, rfl, rfl⟩ | ⟨rfl, rfl, rfl⟩ | ⟨rfl, rfl, rfl⟩ | ⟨rfl, rfl, rfl⟩ | ⟨rfl, rfl, rfl⟩
      any_goals rfl
      exact exec_statefulKeygen true hon.1 horigin
    rw [hexec, sliceRow_fault f hon hlast (decide_eq_true hst)]
end

section
/-!
PROOFS. A command's end on its slice: a free handle for a new key, what a slot holds after its RELEASE, the result that ends the job, and
each RSA command from its key check to that end (R165, R189, R194, R233–R236, R320–R331, R337).
-/
namespace Sys2Proof.Machine

/-! ### Free handles (R233, R330, R331) -/

/-- `t` holds the jobs of `s`, and every handle that is free in `s`. -/
structure KeepsHandles (s t : State) : Prop where
  entries : t.ring.entries = s.ring.entries
  free : ∀ h, mget? s.kreg.slots h = none → mget? t.kreg.slots h = none

namespace KeepsHandles

theorem of_kreg {s t : State} (he : t.ring.entries = s.ring.entries) (hk : t.kreg.slots = s.kreg.slots) : KeepsHandles s t :=
  ⟨he, fun h hf => by rw [hk]; exact hf⟩

theorem refl (s : State) : KeepsHandles s s := of_kreg rfl rfl

theorem trans {s t u : State} (h : KeepsHandles s t) (g : KeepsHandles t u) : KeepsHandles s u :=
  ⟨g.entries.trans h.entries, fun k hk => g.free k (h.free k hk)⟩

/-- A slot that is listed is given another record. -/
theorem mset {s t : State} {h : Nat} {v w : Slot} (hv : mget? s.kreg.slots h = some v) (he : t.ring.entries = s.ring.entries)
    (ht : t.kreg.slots = Machine.mset s.kreg.slots h w) : KeepsHandles s t where
  entries := he
  free k hk := by
    have hne : k ≠ h := fun e => by rw [e, hv] at hk; cases hk
    rw [ht, mget?_mset_ne _ _ hne]
    exact hk

end KeepsHandles

theorem reseed_kreg (n : Nat) (s : State) : (reseed n s).kreg = s.kreg := by
  have htake : (takeSeed s).kreg = s.kreg := by unfold takeSeed; dsimp only; split <;> rfl
  exact htake

theorem drawCall_kreg (n len : Nat) (s : State) : (drawCall n len s).2.kreg = s.kreg := by
  have hstall : (stallCall n s).kreg = s.kreg := by
    unfold stallCall
    split
    · exact reseed_kreg n _
    · rfl
  have hstretch : ∀ u, (stretch n u).kreg = u.kreg := fun u => by unfold stretch; dsimp only; split <;> rfl
  exact (hstretch _).trans hstall

theorem draw_kreg (n len : Nat) (s : State) : (draw n len s).2.kreg = s.kreg := by
  have hcalls : ∀ k len u, (drawCalls n k len u).2.kreg = u.kreg := by
    intro k
    induction k with
    | zero => exact fun _ _ => rfl
    | succ k ih => exact fun len u => (ih _ _).trans (drawCall_kreg n _ u)
  exact hcalls _ len s

/-- A mask seed is drawn: neither jobs nor slots change. -/
theorem maskSeed_keeps (s : State) : (maskSeed s).2.ring.entries = s.ring.entries ∧ (maskSeed s).2.kreg.slots = s.kreg.slots := by
  unfold maskSeed
  split
  · exact ⟨(Draws.draw 43 4 s).announces.entries, congrArg KregSt.slots (draw_kreg 43 4 s)⟩
  · exact ⟨rfl, rfl⟩

namespace KeepsHandles

theorem draw (n len : Nat) (s : State) : KeepsHandles s (Machine.draw n len s).2 :=
  of_kreg (Draws.draw n len s).announces.entries (congrArg KregSt.slots (draw_kreg n len s))

theorem maskSeed (s : State) : KeepsHandles s (Machine.maskSeed s).2 := of_kreg (maskSeed_keeps s).1 (maskSeed_keeps s).2

theorem tookHandle (h : Nat) (s : State) : KeepsHandles s (Machine.tookHandle h s) := (maskSeed s).trans (of_kreg rfl rfl)

theorem refreshExpander (n : Nat) (s : State) : KeepsHandles s (Machine.refreshExpander n s) := by
  unfold Machine.refreshExpander
  dsimp only
  split
  · exact (draw n 64 s).trans (of_kreg rfl rfl)
  · exact of_kreg rfl rfl

theorem refreshSlot (h : Nat) (s : State) : KeepsHandles s (Machine.refreshSlot h s) := by
  unfold Machine.refreshSlot
  split
  · exact refl s
  · next x hx =>
    obtain ⟨hentries, hslots⟩ := maskSeed_keeps s
    exact mset hx ((Announces.bump _ _).entries.trans hentries) (congrArg (fun t => Machine.mset t h _) hslots)

theorem touchSlot (s : State) (h : Nat) : KeepsHandles s (Machine.touchSlot s h) := by
  unfold Machine.touchSlot
  split
  · exact refl s
  · next x hx =>
    split
    · exact refreshSlot h s
    · exact mset hx rfl rfl

theorem checkDraws (n : Nat) (q : Need) (s : State) : KeepsHandles s (Machine.checkDraws n q s).2 := by
  have htouch : ∀ l u, KeepsHandles u (List.foldl Machine.touchSlot u l) := by
    intro l
    induction l with
    | nil => exact refl
    | cons h r ih => exact fun u => (touchSlot u h).trans (ih _)
  unfold Machine.checkDraws
  dsimp only
  refine KeepsHandles.trans ?_ ((htouch q.uses _).trans (draw n q.bytes _))
  split
  · exact refreshExpander n s
  · exact refl s

theorem runFrom (s : State) (n : Nat) (x : Entry) (q : Need) : KeepsHandles s (Machine.runFrom s n x q).2 := by
  unfold Machine.runFrom
  split
  · exact refl s
  · exact checkDraws n q s

end KeepsHandles

/-- Of `n` numbers in a row, a list of fewer leaves one out. -/
theorem exists_not_mem_of_length_lt (a : Nat) {n : Nat} {l : List Nat} (h : l.length < n) : ∃ k, a ≤ k ∧ k < a + n ∧ k ∉ l := by
  induction n generalizing l with
  | zero => exact absurd h (Nat.not_lt_zero _)
  | succ n ih =>
    by_cases hm : a + n ∈ l
    · have hpos := List.length_pos_of_mem hm
      have hlen := List.length_erase_of_mem hm
      obtain ⟨k, hle, hlt, hk⟩ := ih (l := l.erase (a + n)) (by omega)
      exact ⟨k, hle, by omega, fun hkl => hk ((List.mem_erase_of_ne (Nat.ne_of_lt hlt)).mpr hkl)⟩
    · exact ⟨a + n, Nat.le_add_right _ _, Nat.lt_succ_self _, hm⟩

theorem exists_free_handle {s : State} {colour units : Nat} (h : slotQuota s colour units = false) :
    ∃ k ∈ List.range' 1 65535, mget? s.kreg.slots k = none := by
  simp only [slotQuota, Bool.or_eq_false_iff, decide_eq_false_iff_not] at h
  obtain ⟨⟨hroom, -⟩, -⟩ := h
  obtain ⟨k, hle, hlt, hk⟩ := exists_not_mem_of_length_lt 1 (n := 65535) (l := s.kreg.slots.map Prod.fst) (by
    rw [List.length_map]
    exact Nat.lt_of_not_le hroom)
  refine ⟨k, List.mem_range'_1.mpr ⟨hle, hlt⟩, ?_⟩
  cases hv : mget? s.kreg.slots k with
  | none => rfl
  | some v => exact absurd (List.mem_map_of_mem (mem_of_mget? hv)) hk

theorem nextBy_of_mem {key : Nat → Nat} {l : List Nat} {a : Nat} (last : Option Nat) (h : a ∈ l) : ∃ w ∈ l, nextBy key last l = some w := by
  unfold nextBy
  split
  · next w hw => exact ⟨w, (List.mem_filter.mp (leastBy_least hw).1).1, rfl⟩
  · cases hl : leastBy key l with
    | none =>
      rw [leastBy_eq_none hl] at h
      cases h
    | some w => exact ⟨w, (leastBy_least hl).1, rfl⟩

theorem nextHandle_ne_zero {s : State} {k : Nat} (hk : k ∈ List.range' 1 65535) (hfree : mget? s.kreg.slots k = none) :
    nextHandle s ≠ 0 := by
  obtain ⟨w, hw, hnext⟩ := nextBy_of_mem (key := handleRank s) (if s.kreg.lastHandle = 0 then none else some s.kreg.lastHandle)
    (List.mem_filter (p := fun h => (mget? s.kreg.slots h).isNone).mpr ⟨hk, by rw [hfree]; rfl⟩)
  have hrange := List.mem_range'_1.mp (List.mem_filter.mp hw).1
  unfold nextHandle
  rw [hnext]
  exact Nat.ne_of_gt hrange.1

theorem slotQuota_of_keyCheck {s : State} {colour units : Nat} {seeded : Bool} {q : Need} (h : keyCheck s colour seeded q = none)
    (hu : q.units = some units) : slotQuota s colour units = false := by
  cases hq : slotQuota s colour units with
  | false => rfl
  | true =>
    unfold keyCheck at h
    simp only [hu, hq, Bool.true_or, if_true] at h
    split at h
    · cases h
    · split at h <;> cases h

/-- A key check that passes for a new slot leaves a handle for it (R233). -/
theorem nextHandle_of_keyCheck {s t : State} {colour units : Nat} {seeded : Bool} {q : Need} (h : keyCheck s colour seeded q = none)
    (hu : q.units = some units) (ht : KeepsHandles s t) : nextHandle t ≠ 0 := by
  obtain ⟨k, hk, hfree⟩ := exists_free_handle (slotQuota_of_keyCheck h hu)
  exact nextHandle_ne_zero hk (ht.free k hfree)

/-- A handle to fill: the target held, or the next free one. -/
theorem targetHandle_ne_zero {s : State} {n units : Nat} {x : Entry} {q : Need} (ht : HoldsTarget x) (hr : Ready s n x q)
    (hu : q.units = some units) : targetHandle x (runFrom s n x q).2 ≠ 0 := by
  unfold HoldsTarget at ht
  unfold targetHandle
  cases hx : x.target with
  | some h =>
    rw [hx] at ht
    exact ht.2
  | none =>
    rw [hx] at ht
    rcases hr with hc | hc
    · exact absurd (hc.symm.trans ht) (by decide)
    · exact nextHandle_of_keyCheck hc hu (.runFrom s n x q)

/-! ### A slot's bytes under its mask (R337) -/

theorem xorBytes_xorBytes {a m : Bytes} (h : a.length ≤ m.length) : xorBytes (xorBytes a m) m = a := by
  induction a generalizing m with
  | nil => rfl
  | cons x r ih =>
    cases m with
    | nil => exact absurd h (Nat.not_succ_le_zero _)
    | cons y m =>
      have hx : x ^^^ y ^^^ y = x := by rw [BitVec.xor_assoc, BitVec.xor_self, BitVec.xor_zero]
      show (x ^^^ y ^^^ y) :: xorBytes (xorBytes r m) m = x :: r
      rw [hx, ih (Nat.le_of_succ_le_succ h)]

theorem maskBytes_length (k : Bytes) (h seed off n : Nat) : (maskBytes k h seed off n).length = n := by simp [maskBytes, tabulate]

/-- A slot's bytes are read back from its cells. -/
theorem masked_masked_data {s t : State} (h : Nat) (v : Slot) (hk : t.kreg.kMask = s.kreg.kMask) :
    (masked t h (masked s h v)).data = v.data := by
  have hlen : (masked s h v).data.length = v.data.length := by simp [masked, xorBytes, maskBytes_length]
  refine (congrArg (fun n => xorBytes (masked s h v).data (maskBytes t.kreg.kMask h v.seed 0 n)) hlen).trans ?_
  rw [hk]
  exact xorBytes_xorBytes (Nat.le_of_eq (maskBytes_length ..).symm)

theorem slotData_of_masked {s t : State} {h : Nat} {v : Slot} (h0 : h ≠ 0) (hv : mget? t.kreg.slots h = some (masked s h v))
    (hk : t.kreg.kMask = s.kreg.kMask) : slotData t h = v.data := by
  unfold slotData slot?
  rw [if_neg h0, hv]
  exact masked_masked_data h v hk

/-! ### A slot that a RELEASE fills (R233, R235, R330) -/

theorem putSlot_entries (h : Nat) (v : Slot) (s : State) : (putSlot h v s).ring.entries = s.ring.entries := by
  unfold putSlot
  split
  · rfl
  · split
    · rfl
    · exact (Announces.bump _ _).entries

theorem putSlot_kMask (h : Nat) (v : Slot) (s : State) : (putSlot h v s).kreg.kMask = s.kreg.kMask := by
  unfold putSlot
  split
  · rfl
  · split <;> rfl

/-- The slot that is put has its place and its mask's seed from the key register, and the rest as given. -/
theorem putSlot_slot (h : Nat) (v : Slot) (s : State) : ∃ base seed,
    mget? (putSlot h v s).kreg.slots h = some (masked s h { v with base := base, seed := seed }) := by
  unfold putSlot
  split
  · exact ⟨_, _, mget?_mset_same _ _ _⟩
  · split
    · exact ⟨_, v.seed, mget?_mset_same _ _ _⟩
    · exact ⟨_, v.seed, mget?_mset_same _ _ _⟩

/-- A RELEASE that leaves the jobs as they are and this key in the slot at `h`. -/
def Fills (release : State → State) (h owner alg pset usage : Nat) (data : Bytes) : Prop :=
  ∀ s, (release s).ring.entries = s.ring.entries ∧ SlotHolds (release s) h owner alg pset usage data

theorem fillSlot_fills {h : Nat} (life : Nat) {v : Slot} (h0 : h ≠ 0) (hv : v.st = .active) :
    Fills (fillSlot h life v) h v.owner v.alg v.pset v.usage v.data := by
  intro s
  obtain ⟨base, seed, hslot⟩ := putSlot_slot h { v with expiry := expiryIn s life, refreshedAt := s.now } s
  have hdata := slotData_of_masked h0 hslot (putSlot_kMask ..)
  exact ⟨putSlot_entries .., _, hslot, hv, rfl, rfl, rfl, rfl, hdata⟩

theorem SlotHolds.congr {s t : State} {h owner alg pset usage : Nat} {data : Bytes} (hs : SlotHolds s h owner alg pset usage data)
    (hslots : t.kreg.slots = s.kreg.slots) (hk : t.kreg.kMask = s.kreg.kMask) : SlotHolds t h owner alg pset usage data := by
  obtain ⟨v, hv, hst, howner, halg, hpset, husage, hdata⟩ := hs
  refine ⟨v, by rw [hslots]; exact hv, hst, howner, halg, hpset, husage, ?_⟩
  rw [← hdata]
  unfold slotData slot? masked
  rw [hslots, hk]

/-! ### The end of a job (R165, R189, R194) -/

theorem endJob_kMask (e : Nat) (st : Status) (detail : Nat) (out : Bytes) (late : List ObjId) (s : State) :
    (endJob e st detail out late s).kreg.kMask = s.kreg.kMask := by
  unfold endJob
  split
  · rfl
  · next x _ =>
    have hdetach := congrArg KregSt.kMask (detach_keeps e { x with phase := .waiting } false s).2
    split
    · exact hdetach
    · exact hdetach

theorem addWait_kreg (e : Nat) (s t : State) : (addWait e s t).kreg = t.kreg := by unfold addWait; split <;> rfl

theorem addWait_entry {e : Nat} {x : Entry} (s : State) {t : State} (h : entry? t e = some x) : ∃ y, entry? (addWait e s t) e = some y := by
  unfold addWait
  rw [h]
  exact ⟨_, setEntry_same _ _ _⟩

/-- A run that ends OK and waits for no archive record releases, and ends the job with its DETAIL and output. -/
theorem finish_ok {e : Nat} {x : Entry} {r : Res} {s : State} (hx : entry? s e = some x) (hst : r.st = .ok) (hc : r.commit = none)
    (hr : ∀ u, (r.release u).ring.entries = u.ring.entries) : EndedWith (finish e r s) e .ok r.detail r.out := by
  have hrel : entry? (r.release (spend e r.cycles s)) e = some _ :=
    (congrArg (fun t => mget? t e) (hr _)).trans (spend_entry r.cycles hx)
  obtain ⟨y, hy⟩ := addWait_entry (spend e r.cycles s) hrel
  unfold finish
  simp only [hst, hc]
  exact endJob_ends .ok r.detail r.out r.late hy

/-- What its RELEASE has put in a slot is there when the job has ended. -/
theorem finish_fills {e h owner alg pset usage : Nat} {data : Bytes} {x : Entry} {r : Res} {s : State} (hx : entry? s e = some x)
    (hst : r.st = .ok) (hc : r.commit = none) (hr : Fills r.release h owner alg pset usage data) :
    EndedWith (finish e r s) e .ok r.detail r.out ∧ SlotHolds (finish e r s) h owner alg pset usage data := by
  refine ⟨finish_ok hx hst hc (fun u => (hr u).1), ?_⟩
  unfold finish
  simp only [hst, hc]
  exact (hr _).2.congr ((endJob_slots ..).trans (congrArg KregSt.slots (addWait_kreg ..)))
    ((endJob_kMask ..).trans (congrArg KregSt.kMask (addWait_kreg ..)))

/-- A run that ends with a status alone after its key check. -/
theorem finish_failed {e : Nat} {x : Entry} {r : Res} {s : State} (hx : entry? s e = some x) (hst : r.st = .inputInvalid ∨ r.st = .verifyFail) :
    EndedWith (finish e r s) e r.st r.detail [] := by
  have hends := endJob_ends r.st r.detail r.out r.late (spend_entry r.cycles hx)
  unfold finish
  rcases hst with h | h <;> (rw [h] at hends ⊢; exact hends)

/-! ### A command's run on its slice -/

/-- Only a Classic McEliece KEYGEN or ENCAPS and the stateful KEYGEN and SIGN use large-key entries. -/
theorem lksUses_none {x : Entry} (s : State) (h : x.desc.opcode ∉ [0x0401, 0x0404, 0x0501, 0x0502]) : lksUses x s = [] := by
  unfold lksUses
  split <;> simp_all

theorem finishOn_of_no_lks {x : Entry} (e n : Nat) (r : Res) (s : State) (h : ∀ u, lksUses x u = []) : finishOn e n x r s = finish e r s := by
  have hnone : sliceRefused e n x s (r.release s) = none := by
    unfold sliceRefused sliceAccesses
    rw [h]
    rfl
  unfold finishOn
  rw [hnone, ite_self]

section
variable {s : State} {n : Nat} {x : Entry} {q : Need} (h : Passes s n x q)
include h

theorem Passes.keyCheck : keyCheck s (quotaColour x) (slice_ s n).seeded q = none := by
  obtain ⟨-, -, -, hcheck⟩ := h
  exact hcheck

theorem Passes.ready : Ready s n x q := .inr h.keyCheck

theorem Passes.runFrom : runFrom s n x q = checkDraws n q s := by
  obtain ⟨hfirst, -⟩ := h
  unfold Machine.runFrom
  rw [hfirst]
  rfl

/-- An unsegmented job's only segment is its last. -/
theorem Passes.lastSegment (r : Res) : lastSegment x r = true := by
  obtain ⟨-, hpages, -⟩ := h
  unfold Machine.lastSegment
  rw [hpages]
  rfl

end

/-- A command whose key check passes runs on what the check drew; only its cycles count the wait for a reseed too. -/
theorem checked_ready {x : Entry} {n : Nat} {q : Need} {s : State} (run : Bytes → State → Res × State) (h : Ready s n x q) :
    ∃ c, checked x n q run s =
      ({ (run (runFrom s n x q).1 (runFrom s n x q).2).1 with cycles := c }, (run (runFrom s n x q).1 (runFrom s n x q).2).2) := by
  unfold checked runFrom
  split
  · exact ⟨_, rfl⟩
  · next hc =>
    rw [h.resolve_left hc]
    exact ⟨_, rfl⟩

/-- A command on a slice past its key check, in its last segment, ends with what its run on the drawn bytes comes to. -/
theorem sliceRow_checked {op e n : Nat} {x : Entry} {s : State} {q : Need} {f : Entry → Nat → State → Res × State}
    {run : Bytes → State → Res × State} (hon : OnSlice e op n x s) (hop : op ∉ [0x0401, 0x0404, 0x0501, 0x0502])
    (hf : f x n s = checked x n q run s) (hr : Ready s n x q) (hl : lastSegment x (f x n s).1 = true) :
    let p := run (runFrom s n x q).1 (runFrom s n x q).2
    ∃ c, sliceRow op e false f s = finish e { p.1 with cycles := c } p.2 := by
  obtain ⟨c, hc⟩ := checked_ready run hr
  have hopcode : x.desc.opcode = op := hon.2.2
  refine ⟨c, (sliceRow_onSlice f hon hl).trans ?_⟩
  rw [finishOn_of_no_lks e n _ _ (fun u => lksUses_none u (by rw [hopcode]; exact hop)), hf, hc]

/-- A command that is not segmented, and whose key check passes, ends so. -/
theorem sliceRow_passes {op e n : Nat} {x : Entry} {s : State} {q : Need} {f : Entry → Nat → State → Res × State}
    {run : Bytes → State → Res × State} (hon : OnSlice e op n x s) (hop : op ∉ [0x0401, 0x0404, 0x0501, 0x0502])
    (hf : f x n s = checked x n q run s) (hp : Passes s n x q) :
    let p := run (checkDraws n q s).1 (checkDraws n q s).2
    ∃ c, sliceRow op e false f s = finish e { p.1 with cycles := c } p.2 := by
  have h := sliceRow_checked hon hop hf hp.ready (hp.lastSegment _)
  rwa [hp.runFrom] at h

theorem checkDraws_entry {e : Nat} {x : Entry} {s : State} (n : Nat) (q : Need) (h : entry? s e = some x) :
    entry? (checkDraws n q s).2 e = some x :=
  (congrArg (fun t => mget? t e) (KeepsHandles.checkDraws n q s).entries).trans h

section
variable {e c : Nat} {x : Entry} {p : Res × State} {t : State} (hx : entry? t e = some x)
include hx

theorem ends_of_stop {st : Status} {cyc : Nat} {late : List ObjId} (hst : st = .inputInvalid ∨ st = .verifyFail)
    (hp : p = ({ Res.stop st cyc with late := late }, t)) : EndedWith (finish e { p.1 with cycles := c } p.2) e st 0 [] := by
  rw [hp]
  exact finish_failed hx hst

theorem ends_of_ok {out : Bytes} {cyc : Nat} (hp : p = (Res.ok out cyc, t)) :
    EndedWith (finish e { p.1 with cycles := c } p.2) e .ok 0 out := by
  rw [hp]
  exact finish_ok hx rfl rfl (fun _ => rfl)

/-- A verification ends OK or VERIFY_FAIL. -/
theorem ends_of_verdict {good : Bool} {P : Prop} [Decidable P] {cyc : Nat}
    (hp : p = (if good = true then Res.ok [] cyc else Res.stop .verifyFail cyc, t)) (hgood : good = true ↔ P) :
    EndedWith (finish e { p.1 with cycles := c } p.2) e (if P then .ok else .verifyFail) 0 [] := by
  by_cases hP : P
  · rw [if_pos (hgood.mpr hP)] at hp
    rw [if_pos hP]
    exact ends_of_ok hx hp
  · rw [if_neg (mt hgood.mp hP)] at hp
    rw [if_neg hP]
    exact ends_of_stop (late := []) hx (.inr rfl) hp

/-- A secret is delivered where DEST says (R233, R236). -/
theorem makes_of_deliverSecret {ct k : Bytes} {cyc : Nat} {late : List ObjId} (h0 : aux x 1 0 ≠ 1 → nextHandle t ≠ 0)
    (hp : p = deliverSecret x (decide (aux x 1 0 = 1)) (usageOr (aux x 16 8) uDERIVE) ct k cyc late t) :
    SecretMade (finish e { p.1 with cycles := c } p.2) e x (nextHandle t) ct k := by
  rw [hp]
  unfold SecretMade deliverSecret
  by_cases hdest : aux x 1 0 = 1
  · rw [if_pos hdest, if_pos (decide_eq_true hdest)]
    exact finish_ok hx rfl rfl (fun _ => rfl)
  · rw [if_neg hdest, if_neg (by simp [hdest])]
    have htook : entry? (tookHandle (nextHandle t) t) e = some x :=
      (congrArg (fun l => mget? l e) (KeepsHandles.tookHandle _ t).entries).trans hx
    exact finish_fills htook rfl rfl (fillSlot_fills (v := secretSlot t x (usageOr (aux x 16 8) uDERIVE) k) x.desc.aux2 (h0 hdest) rfl)

end

/-- A secret for a slot has a handle to go to. -/
theorem nextHandle_of_secret {s : State} {n len : Nat} {x : Entry} {q : Need} (hp : Passes s n x q) (hu : q.units = secretUnits x len)
    (hdest : aux x 1 0 ≠ 1) : nextHandle (checkDraws n q s).2 ≠ 0 :=
  nextHandle_of_keyCheck hp.keyCheck (hu.trans (if_neg hdest)) (.checkDraws n q s)

theorem deliverKey_fills {x : Entry} {alg usage units : Nat} {pub priv : Bytes} {s : State} (cyc : Nat) (h0 : targetHandle x s ≠ 0) :
    Fills (deliverKey x alg usage units pub priv cyc s).1.release (targetHandle x s) x.colour alg x.desc.pset usage priv :=
  fillSlot_fills (v := { newSlot s x.colour alg x.desc.pset usage (originOf x 0) units x.desc.aux2 priv with
    pub := slotPub alg x.desc.pset units priv.length pub }) x.desc.aux2 h0 rfl

theorem tookTarget_entry {e : Nat} {x y : Entry} {s : State} (h : entry? s e = some y) : entry? (tookTarget x s) e = some y := by
  unfold tookTarget
  split
  · exact h
  · exact (congrArg (fun l => mget? l e) (KeepsHandles.tookHandle _ s).entries).trans h

/-- A RELEASE that first writes an object, as RSA's does PKE_RSA_T_MAX, fills the same slot. -/
theorem Fills.after_setObj {release : State → State} {h owner alg pset usage : Nat} {data : Bytes} (hf : Fills release h owner alg pset usage data)
    (id : ObjId) (v : State → Nat) : Fills (fun s => release (setObj id (v s) s)) h owner alg pset usage data :=
  fun s => ⟨(hf _).1.trans (Announces.setObj id (v s) s).entries, (hf _).2⟩

/-! ### RSA -/

/-- A private slot begins with the public key: n and e (R320). -/
theorem rsaPrivSlot_public (p : Nat) (pq : Nat × Nat) :
    (rsaPrivSlot p pq).take (rsaK p + 4) = (beBytes (rsaK p) (pq.1 * pq.2) ++ beBytes 4 65537).take (rsaK p + 4) := by
  have hlen : (beBytes (rsaK p) (pq.1 * pq.2) ++ beBytes 4 65537).length = rsaK p + 4 := by simp [beBytes]
  unfold rsaPrivSlot
  simp only [List.append_assoc]
  rw [← List.append_assoc, List.take_append_of_le_length (Nat.le_of_eq hlen.symm)]

theorem rsaKeygen_ends {e n : Nat} {x : Entry} {s : State} (hon : OnSlice e 0x0701 n x s) (hr : Ready s n x (rsaKeygenNeed x))
    (ht : HoldsTarget x) (hl : lastSegment x (runRsaKeygen x n s).1 = true) :
    let d := runFrom s n x (rsaKeygenNeed x)
    let priv := rsaPrivSlot x.desc.pset (rsaPrimes x.desc.pset d.1)
    ∃ t, exec (.rsaKeygen e false) s = .next t ∧ EndedWith t e .ok (targetHandle x d.2) (priv.take (rsaK x.desc.pset + 4)) ∧
      SlotHolds t (targetHandle x d.2) x.colour 7 x.desc.pset (usageOr (aux x 16 8) (uSIGN + uVERIFY)) priv := by
  intro d priv
  obtain ⟨c, hrow⟩ := sliceRow_checked (f := runRsaKeygen) hon (by decide) (by unfold runRsaKeygen; rfl) hr hl
  have h0 : targetHandle x d.2 ≠ 0 := targetHandle_ne_zero ht hr rfl
  have hentry : entry? (tookTarget x d.2) e = some x :=
    tookTarget_entry ((congrArg (fun l => mget? l e) (KeepsHandles.runFrom s n x _).entries).trans hon.1)
  refine ⟨_, congrArg Host.Outcome.next hrow, ?_⟩
  exact finish_fills hentry rfl rfl ((deliverKey_fills 0 h0).after_setObj Obj.PKE_RSA_T_MAX _)

end Sys2Proof.Machine

open Sys2Proof Sys2Proof.Machine

/-- Settles O39: each row is its run on the drawn bytes, by `sliceRow_passes`, and the branch of the run that its operands open ends the job
by one of the `ends_of` lemmas; a secret goes out by `makes_of_deliverSecret`, a new key by `rsaKeygen_ends`. -/
theorem rsaJobs : Obligations.RsaJobs := by
  unfold Obligations.RsaJobs
  refine ⟨fun e n x s hon => ?_, fun e n x s hon => ?_, fun e n x s hon => ?_, fun e n x s hon => ?_, fun e n x s hon => ?_⟩
  · intro p d pq hr ht hl
    rw [← rsaPrivSlot_public]
    exact rsaKeygen_ends hon hr ht hl
  · intro p k pad hash q v b em bad hp
    obtain ⟨c, hrow⟩ := sliceRow_passes (f := runRsaSign) hon (by decide) (by unfold runRsaSign; rfl) hp
    have hx := checkDraws_entry n q hon.1
    refine ⟨_, congrArg Host.Outcome.next hrow, fun hbad => ?_, fun hbad => ?_⟩
    · exact ends_of_stop hx (.inl rfl) (if_pos (by simpa [bad] using hbad))
    · exact ends_of_ok hx (if_neg (by simpa [bad] using hbad))
  · intro p k pad hash slot q v sig m em bad hp
    obtain ⟨c, hrow⟩ := sliceRow_passes (f := runRsaVerify) hon (by decide) (by unfold runRsaVerify; rfl) hp
    have hx := checkDraws_entry n q hon.1
    refine ⟨_, congrArg Host.Outcome.next hrow, fun hbad => ends_of_stop hx (.inl rfl) (if_pos hbad), fun hbad hsig => ?_,
      fun hbad hsig hpad => ends_of_verdict hx (if_neg (Bool.eq_false_iff.mp hbad)) ?_,
      fun hbad hsig hpad => ends_of_verdict hx (if_neg (Bool.eq_false_iff.mp hbad)) ?_,
      fun hbad hsig hpad => ends_of_verdict hx (if_neg (Bool.eq_false_iff.mp hbad)) ?_⟩
    · refine ends_of_stop hx (.inr rfl) ((if_neg (Bool.eq_false_iff.mp hbad)).trans (congrArg (·, _) (if_neg ?_)))
      exact fun h => Nat.not_lt.mpr hsig (of_decide_eq_true (Bool.and_eq_true_iff.mp h).1)
    · rw [decide_eq_true hsig, Bool.true_and, show aux x 5 4 = 0 from hpad]
      exact decide_eq_true_iff
    · rw [decide_eq_true hsig, Bool.true_and, show aux x 5 4 = 1 from hpad]
      exact decide_eq_true_iff
    · obtain ⟨j, hj⟩ := Nat.exists_eq_add_of_le' hpad
      rw [decide_eq_true hsig, Bool.true_and, show aux x 5 4 = j + 2 from hj]
      exact Iff.rfl
  · intro p k pad hash slot q v em bad hp
    obtain ⟨c, hrow⟩ := sliceRow_passes (f := runRsaEncrypt) hon (by decide) (by unfold runRsaEncrypt; rfl) hp
    have hx := checkDraws_entry n q hon.1
    refine ⟨_, congrArg Host.Outcome.next hrow, fun hbad => ?_, fun hbad => ?_⟩
    · exact ends_of_stop hx (.inl rfl) (if_pos hbad)
    · exact ends_of_ok hx (if_neg (Bool.eq_false_iff.mp hbad))
  · intro p k pad q v c em args len good hp
    obtain ⟨cyc, hrow⟩ := sliceRow_passes (f := runRsaDecrypt) hon (by decide) (by unfold runRsaDecrypt; rfl) hp
    have hx := checkDraws_entry n q hon.1
    have hcond : (!(Config.primBool (.rsaUnpad 3) args) || (!(decide (aux x 1 0 = 1)) && decide (len ≠ aux x 39 32))) = !good := by
      rw [Bool.not_and, Bool.not_or, decide_not]
    refine ⟨_, congrArg Host.Outcome.next hrow, fun hbad => ends_of_stop hx (.inl rfl) (if_pos hbad),
      fun hbad hpad => ends_of_ok hx ((if_neg (Bool.eq_false_iff.mp hbad)).trans (if_pos hpad)), fun hbad hpad hgood => ?_,
      fun hbad hpad hgood => ?_⟩
    · refine ends_of_stop hx (.inr rfl) ((if_neg (Bool.eq_false_iff.mp hbad)).trans ((if_neg hpad).trans (if_pos ?_)))
      exact hcond.trans (congrArg Bool.not hgood)
    · refine makes_of_deliverSecret hx (nextHandle_of_secret hp rfl)
        ((if_neg (Bool.eq_false_iff.mp hbad)).trans ((if_neg hpad).trans (if_neg ?_)))
      exact Bool.eq_false_iff.mp (hcond.trans (congrArg Bool.not hgood))
end

section
/-!
PROOFS. A CHECK job that holds a resume page: its row leaves it running, where LatticeJobs and CodeAndCurveJobs ask for its end (R194, R246,
R303).
-/
namespace Sys2Proof.Machine

/-! ### A job before its last segment (R194) -/

theorem not_ended_early {e op n : Nat} {x : Entry} {s : State} {fault : Bool} {f : Entry → Nat → State → Res × State} {st : Status}
    {detail : Nat} {out : Bytes} (hon : OnSlice e op n x s) (hl : lastSegment x (f x n s).1 = false) :
    ¬ EndedWith (sliceRow op e fault f s) e st detail out := by
  rw [sliceRow_early fault f hon hl]
  rintro ⟨y, hy, hended, -⟩
  obtain ⟨hx, hrunning, -⟩ := hon
  cases hy.symm.trans hx
  exact Phase.noConfusion (hrunning.symm.trans hended)

/-- A CHECK job on slice `n` that holds a resume page, in its second segment.  No admission gives a CHECK such a page. -/
def segmentedCheck (opcode n : Nat) : Entry :=
  { origin := .ring 0, colour := 0x1000, prio := 0, serial := 0,
    desc := { opcode := opcode, pset := 1, ctrl := 0, key := 0, key2 := 0, userTag := 0, segs := [], outLen := 0, outAddr := 0, aux := 0,
              aux2 := 0, totalLen := 0, subIndex := 0, entries := 1 },
    pages := [0], inPages := 0, outPages := 0, stream := [], phase := .running n, slice := n, startedAt := 0, segAt := 0, progress := 1,
    segsSince := 0, cycles := 0, keyChecked := true, target := none, lksTarget := none, tag := [], endedAt := 0, status := .ok,
    detail := 0, output := [], scrub := 0, late := [] }

theorem segmentedCheck_onSlice (opcode n : Nat) :
    OnSlice 0 opcode n (segmentedCheck opcode n) (setEntry 0 (segmentedCheck opcode n) State.reset) := ⟨setEntry_same _ _ _, rfl, rfl⟩

/-- A run of one segment is not the second segment's. -/
theorem segmentedCheck_early (opcode n : Nat) {r : Res} (h : segments r.cycles = 1) : lastSegment (segmentedCheck opcode n) r = false := by
  unfold lastSegment
  rw [h]
  rfl

theorem runKemCheck_cycles (x : Entry) (n : Nat) (s : State) : (runKemCheck x n s).1.cycles = kemValid x.desc.pset := by
  unfold runKemCheck
  dsimp only
  split <;> rfl

theorem runEccCheck_cycles (x : Entry) (n : Nat) (s : State) : (runEccCheck x n s).1.cycles = eccValidCyc x.desc.pset := by
  unfold runEccCheck
  dsimp only
  split <;> rfl

end Sys2Proof.Machine

open Sys2Proof Sys2Proof.Machine

/-- Refutes O36: its clause on ML_KEM_CHECK, alone among the jobs' clauses, does not say that the job is unsegmented.  `segmentedCheck` holds a
resume page and is in its second segment, so that the row leaves it running; the clauses on the other commands ask for `Passes`. -/
theorem not_latticeJobs : ¬ Obligations.LatticeJobs := by
  unfold Obligations.LatticeJobs
  rintro ⟨-, -, -, hcheck, -⟩
  obtain ⟨t, hexec, hended⟩ := hcheck 0 0 _ _ (segmentedCheck_onSlice 0x0107 0)
  have ht : sliceRow 0x0107 0 false runKemCheck _ = t := Host.Outcome.next.inj hexec
  rw [← ht] at hended
  exact not_ended_early (segmentedCheck_onSlice 0x0107 0) (segmentedCheck_early _ _ (congrArg segments (runKemCheck_cycles _ _ _))) hended

/-- Refutes O38: its clause on ECC_CHECK does not say that the job is unsegmented or in its last segment, and the row leaves
`segmentedCheck`, which is neither, running. -/
theorem not_codeAndCurveJobs : ¬ Obligations.CodeAndCurveJobs := by
  unfold Obligations.CodeAndCurveJobs
  rintro ⟨-, -, -, -, -, -, -, hcheck⟩
  obtain ⟨t, hexec, hended⟩ := hcheck 0 20 _ _ (segmentedCheck_onSlice 0x0607 20)
  have ht : sliceRow 0x0607 0 false runEccCheck _ = t := Host.Outcome.next.inj hexec
  rw [← ht] at hended
  exact not_ended_early (segmentedCheck_onSlice 0x0607 20) (segmentedCheck_early _ _ (congrArg segments (runEccCheck_cycles _ _ _))) hended
end

section
/-!
PROOFS. The hash-based signature commands: what a draw, an access to a slot and a job's end leave of a stateful key, what KEYGEN and SIGN do
with its counter record, and each command from its key check to its end (R262–R288, R357).
-/
namespace Sys2Proof.Machine

/-! ### What leaves a stateful key as it is (R279–R281) -/

theorem entry_congr {s t : State} (h : t.ring.entries = s.ring.entries) (e : Nat) : entry? t e = entry? s e :=
  congrArg (fun l => mget? l e) h

theorem counter_congr {s t : State} (h : t.kreg.counters = s.kreg.counters) (n : Nat) : counter t n = counter s n :=
  congrArg (fun l => tget (fun _ => CounterRec.blank) l n) h

theorem htsKey_congr {s t : State} (h : t.kreg.hts = s.kreg.hts) (n : Nat) : htsKey? t n = htsKey? s n := congrArg (fun l => mget? l n) h

/-- `t` has the slots of `s`, its counter records, and its working copies of the stateful keys. -/
structure KeepsKeys (s t : State) : Prop where
  slots : t.kreg.slots = s.kreg.slots
  counters : t.kreg.counters = s.kreg.counters
  hts : t.kreg.hts = s.kreg.hts

namespace KeepsKeys

theorem of_kreg {s t : State} (h : t.kreg = s.kreg) : KeepsKeys s t := ⟨by rw [h], by rw [h], by rw [h]⟩

theorem refl (s : State) : KeepsKeys s s := of_kreg rfl

theorem trans {s t u : State} (h : KeepsKeys s t) (g : KeepsKeys t u) : KeepsKeys s u :=
  ⟨g.slots.trans h.slots, g.counters.trans h.counters, g.hts.trans h.hts⟩

theorem draw (n len : Nat) (s : State) : KeepsKeys s (Machine.draw n len s).2 := of_kreg (draw_kreg n len s)

theorem maskSeed (s : State) : KeepsKeys s (Machine.maskSeed s).2 := by
  unfold Machine.maskSeed
  split
  · exact draw 43 4 s
  · exact ⟨rfl, rfl, rfl⟩

theorem spend (e c : Nat) (s : State) : KeepsKeys s (Machine.spend e c s) := by
  unfold Machine.spend
  split
  · exact refl s
  · exact of_kreg rfl

theorem addWait (e : Nat) (s t : State) : KeepsKeys t (Machine.addWait e s t) := of_kreg (addWait_kreg e s t)

theorem endJob (e : Nat) (st : Status) (detail : Nat) (out : Bytes) (late : List ObjId) (s : State) :
    KeepsKeys s (Machine.endJob e st detail out late s) := by
  unfold Machine.endJob
  split
  · exact refl s
  · next x _ =>
    have hdetach : KeepsKeys s (detach e { x with phase := .waiting } false s) := by
      have hkreg := (detach_keeps e { x with phase := .waiting } false s).2
      exact ⟨by rw [hkreg]; rfl, by rw [hkreg]; rfl, by rw [hkreg]; rfl⟩
    split
    · exact hdetach.trans (of_kreg rfl)
    · exact hdetach.trans (of_kreg rfl)

theorem awaitCommit (e : Nat) (r : ArchRec) (f : ArchEffect) (s : State) : KeepsKeys s (Machine.awaitCommit e r f s) := by
  unfold Machine.awaitCommit
  split
  · exact refl s
  · exact ⟨rfl, rfl, rfl⟩

/-- A run that ends OK changes keys in its RELEASE alone. -/
theorem finish_ok {e : Nat} {r : Res} (s : State) (hst : r.st = .ok) :
    KeepsKeys (r.release (Machine.spend e r.cycles s)) (finish e r s) := by
  have hend := fun t => (addWait e (Machine.spend e r.cycles s) t).trans (endJob e .ok r.detail r.out r.late _)
  unfold finish
  simp only [hst]
  split
  · exact (hend _).trans (awaitCommit ..)
  · exact hend _

end KeepsKeys

/-! ### One access to a stateful key's slot (R338) -/

/-- A stateful key's levels go by its own record and its slot's parameter set. -/
theorem htsKeyLevels_eq (s : State) (h : Nat) : htsKeyLevels s h =
    ((htsKey? s h).bind (fun k => ((mget? s.kreg.slots h).map (·.pset)).bind (fun p => htsLevels p k.types))).getD [] := by
  unfold htsKeyLevels
  cases htsKey? s h <;> cases mget? s.kreg.slots h <;> rfl

/-- `t` has the jobs of `s`, its counter records and working copies, and its slots' parameter sets; their masks may be others. -/
structure KeepsIndexes (s t : State) : Prop where
  entries : t.ring.entries = s.ring.entries
  counters : t.kreg.counters = s.kreg.counters
  hts : t.kreg.hts = s.kreg.hts
  psets : ∀ h, (mget? t.kreg.slots h).map (·.pset) = (mget? s.kreg.slots h).map (·.pset)

namespace KeepsIndexes

theorem refl (s : State) : KeepsIndexes s s := ⟨rfl, rfl, rfl, fun _ => rfl⟩

/-- A listed slot is given another record of the same parameter set. -/
theorem mset {s t : State} {h : Nat} {x v : Slot} (hx : mget? s.kreg.slots h = some x)
    (hslots : t.kreg.slots = Machine.mset s.kreg.slots h v) (he : t.ring.entries = s.ring.entries)
    (hc : t.kreg.counters = s.kreg.counters) (hh : t.kreg.hts = s.kreg.hts) (hv : v.pset = x.pset) : KeepsIndexes s t where
  entries := he
  counters := hc
  hts := hh
  psets j := by
    rw [hslots]
    by_cases hj : j = h
    · rw [hj, mget?_mset_same, hx, Option.map_some, Option.map_some, hv]
    · rw [mget?_mset_ne _ _ hj]

theorem refreshSlot (h : Nat) (s : State) : KeepsIndexes s (Machine.refreshSlot h s) := by
  unfold Machine.refreshSlot
  split
  · exact refl s
  · next x hx =>
    have hseed := KeepsKeys.maskSeed s
    exact mset hx (congrArg (fun t => Machine.mset t h _) hseed.slots) ((Announces.bump _ _).entries.trans (maskSeed_keeps s).1)
      hseed.counters hseed.hts rfl

theorem touchSlot (s : State) (h : Nat) : KeepsIndexes s (Machine.touchSlot s h) := by
  unfold Machine.touchSlot
  split
  · exact refl s
  · next x hx =>
    split
    · exact refreshSlot h s
    · exact mset hx rfl rfl rfl rfl rfl

section
variable {s t : State} (h : KeepsIndexes s t)
include h

theorem broken (k : HtsKey) : recordBroken t k = recordBroken s k := by
  unfold recordBroken
  rw [counter_congr h.counters]

theorem levels (j : Nat) : htsKeyLevels t j = htsKeyLevels s j := by
  rw [htsKeyLevels_eq, htsKeyLevels_eq, htsKey_congr h.hts, h.psets]

end
end KeepsIndexes

/-! ### A run's handle and its end (R107, R331, R358) -/

/-- An unsegmented job's new slot takes the next handle. -/
theorem Passes.targetHandle {s : State} {n : Nat} {x : Entry} {q : Need} (h : Passes s n x q) (t : State) :
    targetHandle x t = nextHandle t := by
  obtain ⟨-, -, hnone, -⟩ := h
  unfold Machine.targetHandle
  rw [hnone]
  rfl

/-- No access that the RELEASE makes is refused. -/
theorem finishOn_granted {e n : Nat} {x : Entry} {r : Res} {s : State} (h : r.st = .ok → sliceRefused e n x s (r.release s) = none) :
    finishOn e n x r s = finish e r s := by
  have hnone : (if r.st = .ok then sliceRefused e n x s (r.release s) else none) = none := by
    split
    · next hok => exact h hok
    · rfl
  unfold finishOn
  rw [hnone]

/-- A run that ends STATE_EXHAUSTED has no output and releases nothing. -/
theorem finish_exhausted {e c : Nat} {x : Entry} {s : State} (hx : entry? s e = some x) :
    EndedWith (finish e (Res.stop .stateExhausted c) s) e .stateExhausted 0 [] ∧
      KeepsKeys s (finish e (Res.stop .stateExhausted c) s) := by
  rw [finish_stop (.inr (.inr (.inl rfl)))]
  exact ⟨endJob_ends .stateExhausted 0 [] [] (spend_entry c hx), (KeepsKeys.spend e c s).trans (.endJob ..)⟩

/-- A run that ends OK with an output and a DETAIL changes no key as it ends. -/
theorem finish_outputs {e c detail : Nat} {x : Entry} {s : State} (out : Bytes) (hx : entry? s e = some x) :
    EndedWith (finish e { Res.ok out c with detail := detail } s) e .ok detail out ∧
      KeepsKeys s (finish e { Res.ok out c with detail := detail } s) :=
  ⟨finish_ok hx rfl rfl (fun _ => rfl),
    (KeepsKeys.spend e c s).trans (KeepsKeys.finish_ok (r := { Res.ok out c with detail := detail }) s rfl)⟩

/-- A job whose new slot waits for its archive record has its result, and has not ended. -/
theorem finish_commits {e h : Nat} {a : ArchRec} {x : Entry} {r : Res} {s : State} (hx : entry? s e = some x) (hst : r.st = .ok)
    (hc : r.commit = some (a, .activate h)) (hr : ∀ u, (r.release u).ring.entries = u.ring.entries) :
    ∃ y, entry? (finish e r s) e = some y ∧ y.phase = .committing ∧ y.status = .ok ∧ y.detail = r.detail ∧ y.target = some h ∧
      y.output = r.out := by
  have hrel : entry? (r.release (spend e r.cycles s)) e = some _ :=
    (entry_congr (hr _) e).trans (spend_entry r.cycles hx)
  obtain ⟨y, hy⟩ := addWait_entry (spend e r.cycles s) hrel
  obtain ⟨z, hz, -, hstatus, hdetail, hout⟩ := endJob_ends .ok r.detail r.out r.late hy
  unfold finish awaitCommit
  simp only [hst, hc, hz]
  exact ⟨_, setEntry_same _ _ _, rfl, hstatus, hdetail, rfl, hout⟩

/-! ### Stateful KEYGEN (R284, R285, R357) -/

theorem freeRecord_congr {s t : State} (h : t.kreg.counters = s.kreg.counters) : freeRecord t = freeRecord s := by
  unfold freeRecord
  simp only [counter_congr h]

/-- The warning of a key near its last index touches neither jobs, slots nor counter records (R300). -/
theorem htsWarn_keeps (h cap next : Nat) (s : State) :
    (htsWarn h cap next s).ring.entries = s.ring.entries ∧ (htsWarn h cap next s).kreg.slots = s.kreg.slots ∧
      (htsWarn h cap next s).kreg.counters = s.kreg.counters := by
  unfold htsWarn
  split
  · exact ⟨rfl, rfl, rfl⟩
  · split
    · exact ⟨((Announces.setObj _ _ _).trans (.bump _ _)).entries, rfl, rfl⟩
    · exact ⟨rfl, rfl, rfl⟩

/-- Of the key it touches only the mark that it has been given. -/
theorem htsWarn_key {h : Nat} {k : HtsKey} {s : State} (cap next : Nat) (hk : htsKey? s h = some k) :
    ∃ w, htsKey? (htsWarn h cap next s) h = some { k with warned := w } := by
  unfold htsWarn
  simp only [hk]
  split
  · exact ⟨true, mget?_mset_same _ _ _⟩
  · exact ⟨k.warned, hk⟩

theorem putSlot_counters (h : Nat) (v : Slot) (s : State) : (putSlot h v s).kreg.counters = s.kreg.counters := by
  unfold putSlot
  split
  · rfl
  · split <;> rfl

/-- `t` is `u` with a new stateful key at handle `h`, by counter record `r`, its slot still LOADING (R279, R285). -/
structure HoldsNewKey (h r : Nat) (u t : State) : Prop where
  entries : t.ring.entries = u.ring.entries
  counters : t.kreg.counters = u.kreg.counters
  slot : ∃ v, mget? t.kreg.slots h = some v ∧ v.st = .loading ∧ v.stateful = true ∧ v.persist = true ∧ v.alg = 4 ∧ v.units = 2
  key : ∃ k, htsKey? t h = some k ∧ k.record = r ∧ k.working = 1 ∧ k.st = .ready

/-- What a stateful KEYGEN of job `x` comes to: handle `h` and the public key, counter record `r` sealed at NEXT 1, and a RELEASE that waits
for the slot's archive record. -/
structure MakesStateful (e : Nat) (x : Entry) (h r gen : Nat) (pub : Bytes) (w : Res × State) : Prop where
  ok : w.1.st = .ok
  detail : w.1.detail = h
  out : w.1.out = pub
  commit : ∃ a, w.1.commit = some (a, .activate h)
  entry : entry? w.2 e = some x
  sealed : counter w.2 r = sealRecord 1 gen
  release : ∀ u, HoldsNewKey h r u (w.1.release u)

theorem tookTarget_entries (x : Entry) (s : State) : (tookTarget x s).ring.entries = s.ring.entries := by
  unfold tookTarget
  split
  · rfl
  · exact (KeepsHandles.tookHandle _ s).entries

/-- KEYGEN's RELEASE: slot, node cache, working copy and, where it is due at once, the warning. -/
theorem fillSlot_newKey {h r cache life cap next : Nat} {v : Slot} {l : LksEntry} {k : HtsKey} (hst : v.st = .loading)
    (hstateful : v.stateful = true) (hpersist : v.persist = true) (halg : v.alg = 4) (hunits : v.units = 2) (hrecord : k.record = r)
    (hworking : k.working = 1) (hready : k.st = .ready) (u : State) :
    HoldsNewKey h r u (htsWarn h cap next (setHts h k (putLks cache l (fillSlot h life v u)))) := by
  obtain ⟨base, seed, hslot⟩ := putSlot_slot h { v with expiry := expiryIn u life, refreshedAt := u.now } u
  have hentries : (fillSlot h life v u).ring.entries = u.ring.entries := putSlot_entries ..
  have hcounters : (fillSlot h life v u).kreg.counters = u.kreg.counters := putSlot_counters ..
  obtain ⟨hwe, hws, hwc⟩ := htsWarn_keeps h cap next (setHts h k (putLks cache l (fillSlot h life v u)))
  obtain ⟨w, hw⟩ := htsWarn_key (s := setHts h k (putLks cache l (fillSlot h life v u))) cap next (mget?_mset_same _ _ _)
  exact ⟨hwe.trans hentries, hwc.trans hcounters,
    ⟨_, (congrArg (fun l => mget? l h) hws).trans hslot, hst, hstateful, hpersist, halg, hunits⟩, _, hw, hrecord, hworking, hready⟩

theorem runHtsKeygen_makes {e n r : Nat} {x : Entry} {s : State} {ls : List HtsLevel} {d : Bytes × State} (hx : entry? s e = some x)
    (hls : htsLevels x.desc.pset x.desc.aux = some ls) (hfree : freeRecord s = some r) (hr : Ready s n x (htsKeygenNeed x s))
    (hd : runFrom s n x (htsKeygenNeed x s) = d) :
    MakesStateful e x (targetHandle x (draw n 32 d.2).2) r (counter s r).gen
      (primOut (.htsKeygen x.desc.pset) [d.1, leBytes 5 (bits x.desc.aux 35 0)] (htsPk x.desc.pset ls)) (runHtsKeygen false x n s) := by
  have hdrawn : KeepsKeys s d.2 := by
    rw [← hd]
    unfold runFrom
    split
    · exact .refl s
    · exact .draw ..
  have ht : KeepsKeys s (draw n 32 d.2).2 := hdrawn.trans (.draw n 32 d.2)
  have hentries : (draw n 32 d.2).2.ring.entries = s.ring.entries := by
    rw [← hd]
    exact ((KeepsHandles.runFrom s n x _).trans (.draw n 32 _)).entries
  have hrecord : freeRecord (draw n 32 d.2).2 = some r := (freeRecord_congr ht.counters).trans hfree
  unfold runHtsKeygen
  simp only [hls]
  obtain ⟨c, hc⟩ := checked_ready _ hr
  rw [hc, hd]
  simp only [hrecord, Option.getD_some, counter_congr ht.counters]
  exact
    { ok := rfl
      detail := rfl
      out := rfl
      commit := ⟨_, rfl⟩
      entry := (entry_congr (((Announces.bump _ _).entries.trans (tookTarget_entries x _)).trans hentries) e).trans hx
      sealed := tget_tset_of_ne (fun _ => CounterRec.blank) _ r (sealRecord_ne_blank 0 _)
      release := fillSlot_newKey rfl rfl rfl rfl rfl rfl rfl rfl }

/-- The key that KEYGEN has made waits LOADING for its slot's archive record when its job has its result (R357, R358). -/
theorem finish_stateful {e h r gen : Nat} {x : Entry} {pub : Bytes} {w : Res × State} (hw : MakesStateful e x h r gen pub w) :
    counter (finish e w.1 w.2) r = sealRecord 1 gen ∧
    (∃ y, entry? (finish e w.1 w.2) e = some y ∧ y.phase = .committing ∧ y.status = .ok ∧ y.detail = h ∧ y.target = some h ∧
      y.output = pub) ∧
    (∃ v, mget? (finish e w.1 w.2).kreg.slots h = some v ∧ v.st = .loading ∧ v.stateful = true ∧ v.persist = true ∧ v.alg = 4 ∧
      v.units = 2) ∧
    ∃ k, htsKey? (finish e w.1 w.2) h = some k ∧ k.record = r ∧ k.working = 1 ∧ k.st = .ready := by
  obtain ⟨a, ha⟩ := hw.commit
  have hnew := hw.release (spend e w.1.cycles w.2)
  have hend := KeepsKeys.finish_ok (e := e) w.2 hw.ok
  refine ⟨?_, ?_, ?_, ?_⟩
  · have hcounters := hend.counters.trans (hnew.counters.trans (KeepsKeys.spend e w.1.cycles w.2).counters)
    exact (counter_congr hcounters r).trans hw.sealed
  · have hentry := finish_commits hw.entry hw.ok ha (fun u => (hw.release u).entries)
    rwa [hw.detail, hw.out] at hentry
  · rw [hend.slots]
    exact hnew.slot
  · rw [htsKey_congr hend.hts]
    exact hnew.key

/-! ### Stateful SIGN (R281–R283) -/

/-- What the key check of a stateful SIGN needs: an active private key of the set, marked stateful, with SIGN usage. -/
def htsSignNeed (x : Entry) (s : State) : Need :=
  { Need.none_ with
    keys := [slotFails s x.colour x.desc.key (fun v => keyIs 4 x.desc.pset uSIGN false v && v.stateful)], uses := [x.desc.key] }

/-- Its check draws nothing and reads the slot once. -/
theorem checkDraws_htsSign (n : Nat) (x : Entry) (s t : State) : checkDraws n (htsSignNeed x s) t = ([], touchSlot t x.desc.key) := by
  unfold checkDraws htsSignNeed
  simp only [Need.none_]
  rfl

section
variable {n : Nat} {x : Entry} {s : State} {k : HtsKey} (hp : Passes s n x (htsSignNeed x s)) (hk : htsKey? s x.desc.key = some k)
include hp hk

/-- SIGN with a sound record and an index left uses the index: its record is committed one above it (R281). -/
theorem runHtsSign_signs (hrecord : recordBroken s k = false) (hlost : k.st ≠ .lost)
    (hcap : k.working < htsCap (htsKeyLevels s x.desc.key)) (hlen : htsSig x.desc.pset (htsKeyLevels s x.desc.key) ≤ x.desc.outLen) :
    ∃ c t, runHtsSign false x n s = ({ Res.ok (primOut (.htsSign x.desc.pset) [slotData s x.desc.key, leBytes 5 k.working, jobInput s x]
        (htsSig x.desc.pset (htsKeyLevels s x.desc.key))) c with detail := k.working % 2 ^ 32 }, t) ∧
      t.ring.entries = s.ring.entries ∧ counter t k.record = sealRecord (k.working + 1) k.gen ∧
      ∃ j, htsKey? t x.desc.key = some j ∧ j.working = k.working + 1 := by
  have ht := KeepsIndexes.touchSlot s x.desc.key
  have hkey := (htsKey_congr ht.hts x.desc.key).trans hk
  obtain ⟨c, hc⟩ := checked_ready _ hp.ready
  refine ⟨c, ?_⟩
  rw [show runHtsSign false x n s = checked x n (htsSignNeed x s) _ s by unfold runHtsSign; rfl, hc, hp.runFrom, checkDraws_htsSign]
  simp only [hkey, ht.levels, ht.broken, hrecord, hlost, decide_false, Bool.or_false, Bool.false_eq_true, if_false]
  rw [if_neg (Nat.not_le.mpr hcap), if_neg (Nat.not_lt.mpr hlen)]
  exact ⟨_, rfl, (KeepsStores.commitIndex ..).entries.trans ht.entries, commitIndex_commits (reserveIndex_key ..)⟩

/-- SIGN with a broken record, a LOST key or no index left signs nothing, and the counter records stay (R282, R283). -/
theorem runHtsSign_exhausted (h : recordBroken s k = true ∨ k.st = .lost ∨ htsCap (htsKeyLevels s x.desc.key) ≤ k.working) :
    ∃ c t, runHtsSign false x n s = (Res.stop .stateExhausted c, t) ∧ t.ring.entries = s.ring.entries ∧
      t.kreg.counters = s.kreg.counters := by
  have ht := KeepsIndexes.touchSlot s x.desc.key
  have hkey := (htsKey_congr ht.hts x.desc.key).trans hk
  obtain ⟨c, hc⟩ := checked_ready _ hp.ready
  refine ⟨c, ?_⟩
  rw [show runHtsSign false x n s = checked x n (htsSignNeed x s) _ s by unfold runHtsSign; rfl, hc, hp.runFrom, checkDraws_htsSign]
  simp only [hkey, ht.levels, ht.broken]
  by_cases hbad : recordBroken s k = true ∨ k.st = .lost
  · rw [if_pos (by simpa using hbad)]
    exact ⟨_, rfl, ht.entries, ht.counters⟩
  · obtain ⟨hrecord, hlost⟩ := not_or.mp hbad
    rw [if_neg (by simpa using hbad), if_pos ((h.resolve_left hrecord).resolve_left hlost)]
    exact ⟨_, rfl, ht.entries, ht.counters⟩

end

section
variable {e n : Nat} {x : Entry} {s : State} {k : HtsKey} (hon : OnSlice e 0x0404 n x s) (hp : Passes s n x (htsSignNeed x s))
  (hk : htsKey? s x.desc.key = some k)
include hon hp hk

theorem exec_statefulSign_signs (hgranted : sliceRefused e n x (runHtsSign false x n s).2
      ((runHtsSign false x n s).1.release (runHtsSign false x n s).2) = none) (hrecord : recordBroken s k = false) (hlost : k.st ≠ .lost)
    (hcap : k.working < htsCap (htsKeyLevels s x.desc.key)) (hlen : htsSig x.desc.pset (htsKeyLevels s x.desc.key) ≤ x.desc.outLen) :
    ∃ t, exec (.statefulSign e false) s = .next t ∧ counter t k.record = sealRecord (k.working + 1) k.gen ∧
      (∃ j, htsKey? t x.desc.key = some j ∧ j.working = k.working + 1) ∧
      EndedWith t e .ok (k.working % 2 ^ 32) (primOut (.htsSign x.desc.pset) [slotData s x.desc.key, leBytes 5 k.working, jobInput s x]
        (htsSig x.desc.pset (htsKeyLevels s x.desc.key))) := by
  obtain ⟨c, t, hrun, hentries, hsealed, hworking⟩ := runHtsSign_signs hp hk hrecord hlost hcap hlen
  have hrow := (sliceRow_onSlice (runHtsSign false) hon (hp.lastSegment _)).trans (finishOn_granted fun _ => hgranted)
  rw [hrun] at hrow
  obtain ⟨hends, hkeep⟩ := finish_outputs (c := c) (detail := k.working % 2 ^ 32) _ ((entry_congr hentries e).trans hon.1)
  refine ⟨_, congrArg Host.Outcome.next hrow, (counter_congr hkeep.counters _).trans hsealed, ?_, hends⟩
  rw [htsKey_congr hkeep.hts]
  exact hworking

theorem exec_statefulSign_exhausted (h : recordBroken s k = true ∨ k.st = .lost ∨ htsCap (htsKeyLevels s x.desc.key) ≤ k.working) :
    ∃ t, exec (.statefulSign e false) s = .next t ∧ EndedWith t e .stateExhausted 0 [] ∧ counter t k.record = counter s k.record := by
  obtain ⟨c, u, hrun, hentries, hcounters⟩ := runHtsSign_exhausted hp hk h
  have hrow := (sliceRow_onSlice (runHtsSign false) hon (hp.lastSegment _)).trans (finishOn_granted fun hok => by
    rw [hrun] at hok
    cases hok)
  rw [hrun] at hrow
  obtain ⟨hends, hkeep⟩ := finish_exhausted (c := c) ((entry_congr hentries e).trans hon.1)
  exact ⟨_, congrArg Host.Outcome.next hrow, hends, counter_congr (hkeep.counters.trans hcounters) _⟩

end

/-! ### A rebuild (R286) -/

/-- A rebuild whose root matches ends in its last segment with its key as the working copy says. -/
theorem exec_statefulRebuild_matches {e n h : Nat} {x : Entry} {k : HtsKey} {s : State} (hx : entry? s e = some x)
    (horigin : x.origin = .rebuild h) (hphase : x.phase = .running n) (hk : htsKey? s h = some k)
    (hlast : resumePages x = [] ∨ x.progress + 1 = segments (rebuildCyc s h)) :
    exec (.statefulRebuild e true) s = .next (endJob e .ok 0 [] [] (setHts h
      { k with st := if htsCap (htsKeyLevels s h) ≤ k.working then .exhausted else .ready } (spend e (rebuildCyc s h) s))) := by
  have hk' : htsKey? (spend e (rebuildCyc s h) s) h = some k := (htsKey_congr (KeepsKeys.spend ..).hts h).trans hk
  have hended : ¬ ((!(resumePages x).isEmpty) = true ∧ x.progress + 1 ≠ segments (rebuildCyc s h)) := by
    rintro ⟨hpages, hprogress⟩
    rcases hlast with hnil | heq
    · rw [hnil] at hpages
      exact absurd hpages (by decide)
    · exact hprogress heq
  refine (show exec (.statefulRebuild e true) s = execStatefulRebuild e true s from rfl).trans ?_
  unfold execStatefulRebuild
  simp only [hx, horigin, hphase]
  rw [if_neg hended]
  simp only [hk', if_true]

end Sys2Proof.Machine

open Sys2Proof Sys2Proof.Machine

/-- Settles O37: each command is its run on the drawn bytes (`sliceRow_passes`, `sliceRow_checked`), and ends as the run's branch says; KEYGEN
and SIGN of a stateful key go by what their runs do with its counter record (`runHtsKeygen_makes`, `runHtsSign_signs`,
`runHtsSign_exhausted`), which their jobs' end keeps (`KeepsKeys`). -/
theorem hashSignatureJobs : Obligations.HashSignatureJobs := by
  unfold Obligations.HashSignatureJobs
  refine ⟨fun e n x s hon => ?_, fun e n x s hon => ?_, fun e n x s hon => ?_, fun e n x s ls r hon horigin hls hfree => ?_,
    fun e n x s k hon hk => ?_, fun e n x s len ls hon => ?_, fun e n h x k s hx horigin hphase hk hlast => ?_⟩
  · intro p u q d root hp
    obtain ⟨c, hrow⟩ := sliceRow_passes (f := runSlhKeygen) hon (by decide) (by unfold runSlhKeygen; rfl) hp
    have hx := tookTarget_entry (x := x) (checkDraws_entry n q hon.1)
    have h0 : nextHandle d.2 ≠ 0 := nextHandle_of_keyCheck hp.keyCheck rfl (.checkDraws n q s)
    rw [← hp.targetHandle] at h0 ⊢
    exact ⟨_, congrArg Host.Outcome.next hrow, finish_fills hx rfl rfl (deliverKey_fills 0 h0)⟩
  · intro p det q sk opt hr hl
    obtain ⟨c, hrow⟩ := sliceRow_checked (f := runSlhSign) hon (by decide) (by unfold runSlhSign; rfl) hr hl
    have hx : entry? (runFrom s n x q).2 e = some x := (entry_congr (KeepsHandles.runFrom s n x q).entries e).trans hon.1
    exact ⟨_, congrArg Host.Outcome.next hrow, ends_of_ok hx rfl⟩
  · intro p slot q b r good hp
    obtain ⟨c, hrow⟩ := sliceRow_passes (f := runSlhVerify) hon (by decide) (by unfold runSlhVerify; rfl) hp
    exact ⟨_, congrArg Host.Outcome.next hrow, ends_of_verdict (checkDraws_entry n q hon.1) rfl Iff.rfl⟩
  · intro d h w hr _ hl hgranted
    have hrow := (sliceRow_onSlice (runHtsKeygen false) hon hl).trans (finishOn_granted fun _ => hgranted)
    refine ⟨_, (exec_statefulKeygen false hon.1 horigin).trans (congrArg Host.Outcome.next hrow), ?_⟩
    exact finish_stateful (runHtsKeygen_makes hon.1 hls hfree hr rfl)
  · intro p h ls w hp
    refine ⟨fun hgranted hrecord hlost hcap hlen => ?_, fun hdone => ?_⟩
    · exact exec_statefulSign_signs hon hp hk hgranted hrecord hlost hcap hlen
    · exact exec_statefulSign_exhausted hon hp hk hdone
  · intro p slot q pkb r good hp hlen hls
    obtain ⟨c, hrow⟩ := sliceRow_passes (f := runHtsVerify) hon (by decide) (by unfold runHtsVerify; rfl) hp
    refine ⟨_, congrArg Host.Outcome.next hrow, ends_of_verdict (good := good) (checkDraws_entry n q hon.1)
      (cyc := htsVerifyCyc p ls + hashExtra 1 (htsFam ls) (r.drop (htsSig p ls)).length) ?_ Iff.rfl⟩
    simp only [r, pkb, slot, p] at hlen hls
    simp only [hlen, hls]
    exact (apply_ite (fun v => (v, (checkDraws n q s).2)) _ _ _).symm
  · refine ⟨_, exec_statefulRebuild_matches hx horigin hphase hk hlast, ?_, ?_⟩
    · exact endJob_ends .ok 0 [] [] (spend_entry (rebuildCyc s h) hx)
    · exact (htsKey_congr (KeepsKeys.endJob ..).hts h).trans (mget?_mset_same _ _ _)
end

section
/-!
PROOFS. How the key manager serves a job: what its draws and a job's end leave of the key register, the key check of a command that needs no
mask, the input of the job that it takes up, and a job that ends or waits for its archive record (R189, R331, R338, R342, R358).
-/
namespace Sys2Proof.Machine

/-! ### What the key manager's accesses and draws leave (R331, R338) -/

/-- `t` has the jobs of `s` and the same handles in use; of the key register only slots and the mask expander's count may differ. -/
structure KeepsRegister (s t : State) : Prop where
  entries : t.ring.entries = s.ring.entries
  kreg : t.kreg = { s.kreg with slots := t.kreg.slots, expBlocks := t.kreg.expBlocks }
  listed : ∀ h, (mget? t.kreg.slots h).isNone = (mget? s.kreg.slots h).isNone

namespace KeepsRegister

theorem of_kreg {s t : State} (he : t.ring.entries = s.ring.entries) (hk : t.kreg = s.kreg) : KeepsRegister s t :=
  ⟨he, by rw [hk], fun h => by rw [hk]⟩

theorem refl (s : State) : KeepsRegister s s := of_kreg rfl rfl

theorem trans {s t u : State} (h : KeepsRegister s t) (g : KeepsRegister t u) : KeepsRegister s u where
  entries := g.entries.trans h.entries
  kreg := g.kreg.trans (congrArg (fun k => { k with slots := u.kreg.slots, expBlocks := u.kreg.expBlocks }) h.kreg)
  listed k := (g.listed k).trans (h.listed k)

/-- A slot that is listed is given another record. -/
theorem mset {s t : State} {h : Nat} {v w : Slot} (hv : mget? s.kreg.slots h = some v) (he : t.ring.entries = s.ring.entries)
    (hslots : t.kreg.slots = Machine.mset s.kreg.slots h w)
    (hk : t.kreg = { s.kreg with slots := t.kreg.slots, expBlocks := t.kreg.expBlocks }) : KeepsRegister s t where
  entries := he
  kreg := hk
  listed k := by
    rw [hslots]
    by_cases hkh : k = h
    · rw [hkh, hv, mget?_mset_same]
      rfl
    · rw [mget?_mset_ne _ _ hkh]

theorem draw (n len : Nat) (s : State) : KeepsRegister s (Machine.draw n len s).2 :=
  of_kreg (Draws.draw n len s).announces.entries (draw_kreg n len s)

theorem maskSeed_kreg (s : State) : (maskSeed s).2.kreg = { s.kreg with expBlocks := (maskSeed s).2.kreg.expBlocks } := by
  unfold maskSeed
  split
  · rw [draw_kreg]
  · rfl

/-- New slots are put in after a draw. -/
theorem kreg_with_slots {k j : KregSt} (h : k = { j with expBlocks := k.expBlocks }) (l : Tab Slot) :
    { k with slots := l } = { j with slots := l, expBlocks := k.expBlocks } := congrArg (fun i => { i with slots := l }) h

theorem refreshSlot (h : Nat) (s : State) : KeepsRegister s (Machine.refreshSlot h s) := by
  unfold Machine.refreshSlot
  split
  · exact refl s
  · next x hx =>
    obtain ⟨hentries, hslots⟩ := maskSeed_keeps s
    exact mset hx ((Announces.bump _ _).entries.trans hentries) (congrArg (fun t => Machine.mset t h _) hslots)
      (kreg_with_slots (maskSeed_kreg s) _)

theorem touchSlot (s : State) (h : Nat) : KeepsRegister s (Machine.touchSlot s h) := by
  unfold Machine.touchSlot
  split
  · exact refl s
  · next x hx =>
    split
    · exact refreshSlot h s
    · exact mset hx rfl rfl rfl

theorem touchSlots (l : List Nat) (s : State) : KeepsRegister s (l.foldl Machine.touchSlot s) := by
  induction l generalizing s with
  | nil => exact refl s
  | cons h r ih => exact (touchSlot s h).trans (ih _)

section
variable {s t : State} (h : KeepsRegister s t)
include h

theorem archSerial : t.kreg.archSerial = s.kreg.archSerial := by rw [h.kreg]

theorem lks : t.kreg.lks = s.kreg.lks := by rw [h.kreg]

theorem nextHandle : Machine.nextHandle t = Machine.nextHandle s := by
  have hrank : handleRank t = handleRank s := by
    unfold handleRank
    rw [h.kreg]
  have hlast : t.kreg.lastHandle = s.kreg.lastHandle := by rw [h.kreg]
  unfold Machine.nextHandle
  rw [hrank, hlast]
  simp only [h.listed]

theorem nextLks : Machine.nextLks t = Machine.nextLks s := by
  unfold Machine.nextLks
  rw [h.lks]

theorem entry (e : Nat) : entry? t e = entry? s e := entry_congr h.entries e

end
end KeepsRegister

/-- What a key check of the key manager draws for a command that needs no mask, and the state its command runs from. -/
def managerDraws (q : Need) (s : State) : Bytes × State := draw 43 q.bytes (q.uses.foldl touchSlot s)

theorem KeepsRegister.managerDraws (q : Need) (s : State) : KeepsRegister s (Machine.managerDraws q s).2 :=
  (touchSlots q.uses s).trans (.draw 43 q.bytes _)

theorem drawCall_length (n len : Nat) (s : State) : (drawCall n len s).1.length = len := by simp [drawCall]

/-- A draw gives as many bytes as were asked for. -/
theorem draw_length (n len : Nat) (s : State) : (draw n len s).1.length = len := by
  have hcalls : ∀ k len u, len ≤ 64 * k → (drawCalls n k len u).1.length = len := by
    intro k
    induction k with
    | zero => exact fun len _ h => (Nat.le_zero.mp h).symm
    | succ k ih =>
      intro len u h
      simp only [drawCalls, List.length_append, drawCall_length]
      rw [ih _ _ (by omega)]
      omega
  refine hcalls _ len s ?_
  unfold ceilDiv
  omega

/-! ### The key check (R189, R231) -/

/-- A command that needs no mask passes its key check whether or not an expander is seeded. -/
theorem keyCheck_unmasked {s : State} {colour : Nat} {q : Need} (hm : q.mask = false) (seeded : Bool) :
    keyCheck s colour seeded q = keyCheck s colour true q := by
  unfold keyCheck
  rw [hm, Bool.false_and, Bool.false_and]

theorem managerChecked_passes {x : Entry} {n : Nat} {q : Need} {s : State} (run : Bytes → State → Res × State) (hm : q.mask = false)
    (hk : keyCheck s x.colour true q = none) :
    managerChecked x n q run s = run (managerDraws q s).1 (managerDraws q s).2 := by
  unfold managerChecked
  rw [keyCheck_unmasked hm, hk, hm]
  rfl

/-- The next handle is free where one is. -/
theorem nextHandle_free {s : State} {k : Nat} (hk : k ∈ List.range' 1 65535) (hfree : mget? s.kreg.slots k = none) :
    mget? s.kreg.slots (nextHandle s) = none := by
  obtain ⟨w, hw, hnext⟩ := nextBy_of_mem (key := handleRank s) (if s.kreg.lastHandle = 0 then none else some s.kreg.lastHandle)
    (List.mem_filter (p := fun h => (mget? s.kreg.slots h).isNone).mpr ⟨hk, by rw [hfree]; rfl⟩)
  unfold nextHandle
  rw [hnext]
  exact Option.isNone_iff_eq_none.mp (List.mem_filter.mp hw).2

/-- A key check that passes for a new slot finds a free handle for it (R233). -/
theorem nextHandle_of_passed {s : State} {colour units : Nat} {seeded : Bool} {q : Need} (h : keyCheck s colour seeded q = none)
    (hu : q.units = some units) : nextHandle s ≠ 0 ∧ mget? s.kreg.slots (nextHandle s) = none := by
  obtain ⟨k, hk, hfree⟩ := exists_free_handle (slotQuota_of_keyCheck h hu)
  exact ⟨nextHandle_ne_zero hk hfree, nextHandle_free hk hfree⟩

/-! ### How the key manager serves a job (R342) -/

/-- The state in which the key manager runs a command that needs no slice: it has taken the job up. -/
def servedState (e : Nat) (x : Entry) (s : State) : State := setEntry e (takenUp x s) s

theorem servedState_entry (e : Nat) (x : Entry) (s : State) : entry? (servedState e x s) e = some (takenUp x s) := setEntry_same _ _ _

/-- Only IMPORT_PUBLIC streams a key into the large-key store. -/
theorem finishManager_of_opcode {e : Nat} {x : Entry} {s : State} (r : Res) (h : x.desc.opcode ≠ 0x0923) :
    finishManager e x r s = finish e r s := by
  have hnone : streamRefused e x r (r.release s) = none := if_neg fun hc => h hc.1
  unfold finishManager
  rw [hnone, ite_self]

theorem finishManager_granted {e : Nat} {x : Entry} {r : Res} {s : State} (h : streamRefused e x r (r.release s) = none) :
    finishManager e x r s = finish e r s := by
  unfold finishManager
  rw [h, ite_self]

/-- A command that needs no slice, and streams nothing, ends with what its run comes to. -/
theorem managerRow_served {e op : Nat} {x : Entry} {s : State} {needs : Entry → State → List Nat}
    {f : Entry → Nat → State → Res × State} {p : Res × State} (hat : AtManager e op x s) (hop : op ≠ 0x0923) (hn : needs x s = [])
    (hp : f (takenUp x s) 0xFF (servedState e x s) = p) : managerRow op needs e false f s = finish e p.1 p.2 := by
  obtain ⟨-, hopcode, -⟩ := id hat
  rw [managerRow_alone needs false f hat hn]
  refine (finishManager_of_opcode _ (fun h => hop (hopcode.symm.trans h))).trans ?_
  rw [← hp]
  rfl

/-- A command that has been given the slices of its steps runs on the first. -/
theorem managerRow_onSlices {e op c : Nat} {r : List Nat} {x : Entry} {s : State} {needs : Entry → State → List Nat}
    (f : Entry → Nat → State → Res × State) (hat : AtManager e op x s) (hn : needs x s = c :: r)
    (hopen : ∀ k ∈ c :: r, classFenced s k = false) (hgiven : ∀ k ∈ c :: r, (sliceFor s e k).isSome = true) :
    let n := (sliceFor s e c).getD 0
    let p := f { x with slice := n, phase := .running n } n (setEntry e { x with slice := n, phase := .running n } s)
    managerRow op needs e false f s = finish e p.1 p.2 := by
  obtain ⟨hx, hopcode, hhead⟩ := hat
  have hany : (c :: r).any (classFenced s) = false := List.any_eq_false.mpr fun k hk => by rw [hopen k hk]; decide
  have hall : (c :: r).all (fun k => (sliceFor s e k).isSome) = true := List.all_eq_true.mpr hgiven
  unfold managerRow
  simp only [hx, hopcode, hhead, hn, hany, hall, ne_eq, not_true_eq_false, or_self, if_false, Bool.not_true, Bool.false_and,
    Bool.false_eq_true]

/-! ### The end of a job (R341, R358) -/

theorem endJob_kreg {e : Nat} {x : Entry} (st : Status) (detail : Nat) (out : Bytes) (late : List ObjId) {s : State}
    (hx : entry? s e = some x) : (endJob e st detail out late s).kreg = lksLeft e s.kreg := by
  have hdetach := (detach_keeps e { x with phase := .waiting } false s).2
  unfold endJob
  simp only [hx]
  split
  · exact hdetach
  · exact hdetach

section
variable {e : Nat} {x : Entry} {r : Res} {s : State} (hx : entry? s e = some x) (hst : r.st = .ok)
  (hr : ∀ u, (r.release u).ring.entries = u.ring.entries)
include hx hst hr

/-- What its RELEASE has left of the key register, less the job's use of the large-key store, is there when the job has ended. -/
theorem finish_kreg (hc : r.commit = none) : (finish e r s).kreg = lksLeft e (r.release (spend e r.cycles s)).kreg := by
  obtain ⟨y, hy⟩ := addWait_entry (spend e r.cycles s) ((entry_congr (hr _) e).trans (spend_entry r.cycles hx))
  unfold finish
  simp only [hst, hc]
  rw [endJob_kreg .ok r.detail r.out r.late hy, addWait_kreg]

/-- A run that ends OK with an archive record to be committed leaves its job waiting for it; the record's lifetime is the released slot's. -/
theorem finish_awaits {a : ArchRec} {f : ArchEffect} (hc : r.commit = some (a, f)) (hout : r.out = []) : ∃ u,
    u.kreg.slots = (r.release (spend e r.cycles s)).kreg.slots ∧ (finish e r s).kreg.slots = u.kreg.slots ∧
      AwaitsRecord (finish e r s) e r.detail (asReleased u a) f := by
  obtain ⟨y, hy⟩ := addWait_entry (spend e r.cycles s) ((entry_congr (hr _) e).trans (spend_entry r.cycles hx))
  obtain ⟨z, hz, -, hstatus, hdetail, houtput⟩ := endJob_ends .ok r.detail r.out r.late hy
  rw [if_pos (.inl rfl), hout] at houtput
  refine ⟨_, (endJob_slots e .ok r.detail r.out r.late _).trans (congrArg KregSt.slots (addWait_kreg e (spend e r.cycles s) _)), ?_⟩
  unfold finish awaitCommit
  simp only [hst, hc, hz]
  exact ⟨rfl, ⟨_, setEntry_same _ _ _, rfl, hstatus, hdetail, houtput⟩, _, List.getLast?_concat, rfl, rfl, rfl⟩

end

/-- A run whose RELEASE changes nothing waits for the record it names, unless that holds a slot. -/
theorem finish_awaits_record {e c : Nat} {x : Entry} {a : ArchRec} {f : ArchEffect} {s : State} (hx : entry? s e = some x)
    (ha : ∀ u, u.kreg.slots = s.kreg.slots → asReleased u a = a) :
    AwaitsRecord (finish e { Res.ok [] c with commit := some (a, f) } s) e 0 a f := by
  obtain ⟨u, hslots, -, hwaits⟩ := finish_awaits (r := { Res.ok [] c with commit := some (a, f) }) hx rfl (fun _ => rfl) rfl rfl
  rwa [ha u (hslots.trans (spend_slots ..))] at hwaits

theorem finish_unsupported {e c : Nat} {x : Entry} {s : State} (hx : entry? s e = some x) :
    EndedWith (finish e (Res.stop .unsupported c) s) e .unsupported 0 [] :=
  endJob_ends .unsupported 0 [] [] (spend_entry c hx)

/-- A run that is refused keeps every slot. -/
theorem finish_refused_slots {e c : Nat} {st : Status} (s : State) (hst : st = .inputInvalid ∨ st = .verifyFail) :
    (finish e (Res.stop st c) s).kreg.slots = s.kreg.slots := by
  rcases hst with rfl | rfl <;> exact (endJob_slots ..).trans (spend_slots ..)

/-! ### A job's input while the key manager takes it up (R154, R342) -/

/-- Job `x` reads the same input whatever record entry `e` has. -/
def InputKept (e : Nat) (x : Entry) (s : State) : Prop := ∀ y, jobInput (setEntry e y s) x = jobInput s x

theorem memByte_setEntry {e a : Nat} {y : Entry} {s : State}
    (h : ctxAt? a ≠ none → Config.ctxByte (setEntry e y s) a = Config.ctxByte s a) : memByte (setEntry e y s) a = memByte s a := by
  unfold memByte
  rw [show lksAt? (setEntry e y s) a = lksAt? s a from rfl]
  split
  · rfl
  · next hctx => exact h (by rw [hctx]; exact Option.some_ne_none _)
  · rfl

theorem readPages_congr {s t : State} {ps : List Nat} (h : ∀ p ∈ ps, ∀ i < 1024, memByte t (p * 1024 + i) = memByte s (p * 1024 + i))
    (n : Nat) : readPages t ps n = readPages s ps n := by
  induction ps generalizing n with
  | nil => rfl
  | cons p r ih =>
    have hp : memRead t (p * 1024) (min n 1024) = memRead s (p * 1024) (min n 1024) :=
      List.map_congr_left fun i hi => h p List.mem_cons_self i (by have := List.mem_range.mp hi; omega)
    unfold readPages
    rw [hp, ih fun q hq => h q (List.mem_cons_of_mem _ hq)]

theorem inputKept_of_bytes {e : Nat} {x : Entry} {s : State} (h : ∀ y, ∀ p ∈ x.pages.take x.inPages, ∀ i < 1024,
    memByte (setEntry e y s) (p * 1024 + i) = memByte s (p * 1024 + i)) : InputKept e x s := by
  intro y
  unfold jobInput
  rw [readPages_congr (h y)]

/-- Inputs stay where the bytes of the context store's records do not go by the records of jobs in flight. -/
theorem inputKept_of_ctxByte {e : Nat} {s : State} (x : Entry) (h : ∀ y a, Config.ctxByte (setEntry e y s) a = Config.ctxByte s a) :
    InputKept e x s := inputKept_of_bytes fun y _ _ _ _ => memByte_setEntry fun _ => h y _

/-- Buffer pages lie below the context store: a job's input is its own. -/
theorem inputKept_of_pages {x : Entry} (e : Nat) (s : State) (h : ∀ p ∈ x.pages.take x.inPages, p < 49152) : InputKept e x s := by
  refine inputKept_of_bytes fun y p hp i hi => memByte_setEntry fun hctx => absurd ?_ hctx
  have hlow := h p hp
  unfold ctxAt?
  rw [if_neg]
  unfold inCtx
  rw [decide_eq_true_eq]
  omega

end Sys2Proof.Machine
end

section
/-!
PROOFS. The key manager's commands: each run past its key check, and the end or the record it comes to (R294, R308, R341, R345–R350, R354,
R358, R423).
-/
namespace Sys2Proof.Machine

/-! ### EXPORT_WRAPPED (R345, R347) -/

/-- What the key check of an EXPORT_WRAPPED needs. -/
def exportNeed (x : Entry) (s : State) : Need :=
  { Need.none_ with
    keys := slotFails s x.colour x.desc.key (fun v => decide (v.usage &&& uEXPORT = uEXPORT) && decide (v.alg ≠ 4 ∧ v.alg ≠ 0x0B)) ::
      (if x.desc.key2 = 0 then [] else [slotFails s x.colour x.desc.key2 wrapOk]),
    policy := decide (x.desc.key2 ≠ 0 ∧ x.desc.key2 = x.desc.key), bytes := 12,
    uses := x.desc.key :: (if x.desc.key2 = 0 then [] else [x.desc.key2]) }

/-- The blob of slot `v` under this nonce: header, ciphertext and tag. -/
def exportedBlob (x : Entry) (v : Slot) (s : State) (nonce : Bytes) : Bytes :=
  let w := x.desc.key2
  let hd := blobHeader (if w = 0 then 2 else 1) v.owner v.alg v.pset v.usage v.data.length (lifeLeft s v) nonce
  let kb := blobKey s (if w = 0 then none else some (slotData s w)) (if w = 0 then x.colour else v.owner) hd
  let ct := gcmXor kb nonce (slotData s x.desc.key)
  hd ++ ct ++ gcmTag kb nonce hd ct

theorem runExportWrapped_seals {x : Entry} {v : Slot} {s : State} (n : Nat) (hv : slot? s x.desc.key = some v)
    (hlen : 56 + v.data.length ≤ x.desc.outLen) (hk : keyCheck s x.colour true (exportNeed x s) = none) :
    runExportWrapped x n s = (Res.ok (exportedBlob x v s (managerDraws (exportNeed x s) s).1) (wrapCyc v.data.length),
      (managerDraws (exportNeed x s) s).2) := by
  have hchecked := fun run => managerChecked_passes (n := n) run (q := exportNeed x s) rfl hk
  unfold exportNeed at hk hchecked
  unfold runExportWrapped
  simp only [hk, hv, hchecked]
  rw [if_neg (Nat.not_lt.mpr hlen)]
  rfl

/-! ### DELETE, PERSIST and UNPERSIST of a slot (R348) -/

theorem namedSlot_listed {s : State} {colour h : Nat} {v : Slot} (hv : namedSlot s colour h = some v) :
    mget? s.kreg.slots h = some v := by
  unfold namedSlot slot? at hv
  split at hv
  · cases hv
  · split at hv
    · cases hv
    · next w hw =>
      split at hw
      · cases hw
      · split at hv
        · rwa [← hv]
        · cases hv

section
variable {x : Entry} {v : Slot} {s : State} (n : Nat) (hslot : bit x.desc.aux 25 = false) (hv : namedSlot s x.colour x.desc.key = some v)
  (hfree : circuitHolds s x.desc.key = false)
include hslot hv hfree

theorem runDelete_frees (ha : (v.persist && archiveOpen s) = false) : runDelete 0 x n s =
    ({ Res.ok [] (420 + 8 * v.units) with release := fun t => eraseSlot x.desc.key (endHold x.desc.key t) }, s) := by
  unfold runDelete runDeleteSlot
  simp [hslot, hv, hfree, ha]

theorem runDelete_drops (hp : v.persist = true) (ha : archiveOpen s = true) : runDelete 0 x n s =
    ({ Res.ok [] (420 + 8 * v.units) with commit := some (.dropSlot (s.kreg.archSerial + 1) x.desc.key, .freeSlot x.desc.key) }, s) := by
  unfold runDelete runDeleteSlot
  simp [hslot, hv, hfree, hp, ha]

theorem runDelete_persists (halg : v.alg ≠ 0x0B) (hst : v.st ≠ .retired) (ha : archiveOpen s = true) : runDelete 1 x n s =
    ({ Res.ok [] (420 + 8 * v.units) with commit := some (.addSlot (s.kreg.archSerial + 1) x.desc.key
        { masked s x.desc.key v with persist := true }, .setPersist x.desc.key) }, s) := by
  unfold runDelete runDeleteSlot
  simp [hslot, hv, hfree, halg, hst, ha]

theorem runDelete_unpersists (ha : archiveOpen s = true) : runDelete 2 x n s =
    ({ Res.ok [] (420 + 8 * v.units) with commit := some (.dropSlot (s.kreg.archSerial + 1) x.desc.key, .clearPersist x.desc.key) }, s) := by
  unfold runDelete runDeleteSlot
  simp [hslot, hv, hfree, ha]

theorem runDelete_unsupported (ha : archiveOpen s = false) : runDelete 2 x n s = (Res.stop .unsupported 120, s) := by
  unfold runDelete runDeleteSlot
  simp [hslot, hv, hfree, ha]

end

/-! ### A slot that is erased (R341, R348, R423) -/

theorem drawPass_entries (n k : Nat) (s : State) : (drawPass n k s).ring.entries = s.ring.entries := by
  induction k generalizing s with
  | zero => rfl
  | succ k ih => exact (ih _).trans (Draws.drawCall n 64 s).announces.entries

theorem freeSlots_entries (l : List Nat) (s : State) : (freeSlots l s).ring.entries = s.ring.entries := by
  have hover : (overwriteUnits l s).ring.entries = s.ring.entries := by
    unfold overwriteUnits
    split
    · exact drawPass_entries ..
    · rfl
  exact hover

theorem freeSlot_gone (h : Nat) (s : State) : mget? (freeSlot h s).kreg.slots h = none := by
  cases hv : mget? (freeSlot h s).kreg.slots h with
  | none => rfl
  | some v =>
    have hkept := (List.mem_filter.mp (mem_of_mget? hv)).2
    simp at hkept

theorem freeLks_entries (h : Nat) (s : State) : (freeLks h s).ring.entries = s.ring.entries := by
  unfold freeLks
  split
  · rfl
  · dsimp only
    split <;> rfl

theorem eraseSlot_entries (h : Nat) (s : State) : (eraseSlot h s).ring.entries = s.ring.entries := by
  unfold eraseSlot
  split
  · split
    · rfl
    · exact freeSlots_entries ..
  · next k _ => exact (freeSlots_entries _ _).trans (freeLks_entries k.cache (freeCounter k.record s))

/-- A stateful key's slot is erased whether or not a packet has fixed it; any other where none has. -/
theorem eraseSlot_gone {h : Nat} {s : State} (hk : (htsKey? s h).isSome = true ∨ keyFixed s h = false) :
    mget? (eraseSlot h s).kreg.slots h = none := by
  unfold eraseSlot
  split
  · next hnone =>
    rw [hnone] at hk
    rw [hk.resolve_left (by decide)]
    exact freeSlot_gone h s
  · exact freeSlot_gone h _

/-- A packet in process keeps its key fixed when its circuit drops the key. -/
theorem keyFixed_endHold (h k : Nat) (s : State) : keyFixed (endHold h s) k = keyFixed s k := by
  have hsame : ∀ c : Circuit, fixedSlots (if keySlot c.rxRet = [h] then
      { c with rxRet := none, dying := c.dying ++ (keySlot c.rxRet).filter (fun j => decide (j ∈ fixedSlots c)) } else c) = fixedSlots c := by
    intro c
    split <;> rfl
  unfold keyFixed endHold mmap
  simp only [List.any_map, Function.comp_def, hsame]

theorem keyFixed_spend (e c h : Nat) (s : State) : keyFixed (spend e c s) h = keyFixed s h := by
  unfold spend
  split <;> rfl

/-- A DELETE that waits for no record leaves no slot at the handle. -/
theorem finish_erases {e c h : Nat} {x : Entry} {s : State} (hx : entry? s e = some x)
    (hk : (htsKey? s h).isSome = true ∨ keyFixed s h = false) :
    let r := { Res.ok [] c with release := fun t => eraseSlot h (endHold h t) }
    EndedWith (finish e r s) e .ok 0 [] ∧ mget? (finish e r s).kreg.slots h = none := by
  intro r
  have hr : ∀ u, (r.release u).ring.entries = u.ring.entries := fun u => eraseSlot_entries h (endHold h u)
  refine ⟨finish_ok hx rfl rfl hr, ?_⟩
  rw [finish_kreg hx rfl hr rfl]
  refine eraseSlot_gone (s := endHold h (spend e c s)) ?_
  rw [keyFixed_endHold, keyFixed_spend]
  exact hk.imp_left fun h1 => by rwa [← htsKey_congr (KeepsKeys.spend e c s).hts] at h1

/-! ### DELETE, PERSIST and UNPERSIST of an LKS entry (R294, R348) -/

section
variable {x : Entry} {v : LksEntry} {s : State} (n : Nat) (hlks : bit x.desc.aux 25 = true) (hv : lks? s x.desc.key = some v)
  (howner : v.owner = x.colour) (hready : v.state = 2)
include hlks hv howner hready

theorem runDelete_freesLks (ha : (v.persist && archiveOpen s) = false) :
    runDelete 0 x n s = ({ Res.ok [] 420 with release := freeLks x.desc.key }, s) := by
  unfold runDelete runDeleteLks
  simp [hlks, hv, howner, hready, ha]

theorem runDelete_dropsLks (hp : v.persist = true) (ha : archiveOpen s = true) : runDelete 0 x n s =
    ({ Res.ok [] 420 with commit := some (.dropLks (s.kreg.archSerial + 1) x.desc.key, .freeLks x.desc.key) }, s) := by
  unfold runDelete runDeleteLks
  simp [hlks, hv, howner, hready, hp, ha]

theorem runDelete_persistsLks (hkind : v.kind ≠ 2) (ha : archiveOpen s = true) : runDelete 1 x n s =
    ({ Res.ok [] 420 with commit := some (.addLks (s.kreg.archSerial + 1) x.desc.key { v with persist := true },
        .setPersistLks x.desc.key) }, s) := by
  unfold runDelete runDeleteLks
  simp [hlks, hv, howner, hready, hkind, ha]

theorem runDelete_unpersistsLks (ha : archiveOpen s = true) : runDelete 2 x n s =
    ({ Res.ok [] 420 with commit := some (.dropLks (s.kreg.archSerial + 1) x.desc.key, .clearPersistLks x.desc.key) }, s) := by
  unfold runDelete runDeleteLks
  simp [hlks, hv, howner, hready, ha]

end

/-- An entry that is freed is gone, or DRAINING while a job reads it. -/
theorem freeLks_drains {h : Nat} {s : State} (hk : keysRise s.kreg.lks = true) :
    keysRise (freeLks h s).kreg.lks = true ∧ ∀ l, lks? (freeLks h s) h = some l → l.state = 3 := by
  unfold freeLks
  split
  · next hnone => exact ⟨hk, fun l hl => by rw [hnone] at hl; cases hl⟩
  · dsimp only
    split
    · refine ⟨keysRise_mdel _ _ hk, fun l hl => ?_⟩
      have hgone : mget? (mdel s.kreg.lks h) h = some l := hl
      rw [mget?_mdel_same _ _ hk] at hgone
      cases hgone
    · refine ⟨keysRise_mset _ _ _ hk, fun l hl => ?_⟩
      have hset : some _ = some l := (mget?_mset_same _ _ _).symm.trans hl
      cases hset
      rfl

/-- What a job's end leaves of the large-key store was there before. -/
theorem lks_of_lksLeft {e h : Nat} {k : KregSt} {l : LksEntry} (hk : keysRise k.lks = true) (hl : mget? (lksLeft e k).lks h = some l) :
    mget? k.lks h = some l := by
  unfold lksLeft at hl
  rw [mget?_mfilter _ hk] at hl
  exact (Option.filter_eq_some_iff.mp hl).1

theorem finish_drains {e c h : Nat} {x : Entry} {s : State} (hx : entry? s e = some x) (hk : keysRise s.kreg.lks = true) :
    let r := { Res.ok [] c with release := freeLks h }
    EndedWith (finish e r s) e .ok 0 [] ∧ ∀ l, lks? (finish e r s) h = some l → l.state = 3 := by
  intro r
  have hr : ∀ u, (r.release u).ring.entries = u.ring.entries := freeLks_entries h
  have hspent : keysRise (spend e c s).kreg.lks = true := by
    have hkreg : (spend e c s).kreg = s.kreg := by unfold spend; split <;> rfl
    rwa [hkreg]
  obtain ⟨hrise, hdrain⟩ := freeLks_drains (h := h) hspent
  refine ⟨finish_ok hx rfl rfl hr, fun l hl => ?_⟩
  unfold lks? at hl
  rw [finish_kreg hx rfl hr rfl] at hl
  exact hdrain l (lks_of_lksLeft hrise hl)

/-! ### IMPORT_WRAPPED (R308, R345, R346) -/

/-- What the key check of an IMPORT_WRAPPED of blob `b` needs. -/
def importNeed (x : Entry) (b : Bytes) (s : State) : Need :=
  { Need.none_ with
    keys := if byteAt b 4 = 1 then [slotFails s x.colour x.desc.key2 wrapOk] else [],
    policy := decide (byteAt b 8 = 4 ∨ byteAt b 8 = 0x0B) || (decide (aux x 24 16 ≠ 0) && usageBad (aux x 24 16) (field b 10 2)),
    units := some (privUnits (byteAt b 8) (byteAt b 9) (field b 12 4)), mask := decide (importVC (byteAt b 8) (byteAt b 9) ≠ (0, 0)),
    uses := if byteAt b 4 = 1 then [x.desc.key2] else [] }

/-- The key of blob `b`. -/
def importBlobKey (x : Entry) (b : Bytes) (s : State) : Bytes :=
  blobKey s (if byteAt b 4 = 1 then some (slotData s x.desc.key2) else none) (if byteAt b 4 = 1 then field b 6 2 else x.colour) b

/-- Its plaintext. -/
def importPlain (x : Entry) (b : Bytes) (s : State) : Bytes :=
  gcmXor (importBlobKey x b s) (slice b 24 12) (slice b 40 (field b 12 4))

/-- Its tag is the right one. -/
def ImportTag (x : Entry) (b : Bytes) (s : State) : Prop :=
  slice b (40 + field b 12 4) 16 = gcmTag (importBlobKey x b s) (slice b 24 12) (b.take 40) (slice b 40 (field b 12 4))

/-- The imported slot's lifetime (R235, R346). -/
def importLife (x : Entry) (b : Bytes) : Nat := shorterLife (field b 16 4) x.desc.aux2

/-- The slot that holds the blob's key, made in `t`. -/
def importedSlot (x : Entry) (b key : Bytes) (t : State) : Slot :=
  let alg := byteAt b 8
  let p := byteAt b 9
  { newSlot t x.colour alg p (if aux x 24 16 = 0 then field b 10 2 else aux x 24 16) 3 (privUnits alg p (field b 12 4)) (importLife x b) key with
    pub := slotPub alg p (privUnits alg p (field b 12 4)) (field b 12 4) (if alg = 6 then eccPublic p key else []) }

/-- A bad blob ends before its key check. -/
theorem runImportWrapped_bad {x : Entry} {s : State} (n : Nat) (h : blobBad (jobInput s x) x.desc.key2 = true) :
    runImportWrapped x n s = (Res.stop .inputInvalid 120, s) := if_pos h

/-- Without V and C cycles it needs no mask. -/
theorem importNeed_unmasked {x : Entry} {b : Bytes} (hvc : importVC (byteAt b 8) (byteAt b 9) = (0, 0)) (s : State) :
    (importNeed x b s).mask = false := by
  unfold importNeed
  rw [hvc]
  rfl

section
variable {x : Entry} {b : Bytes} {s : State} (n : Nat) (hb : jobInput s x = b) (hgood : blobBad b x.desc.key2 = false)
  (hvc : importVC (byteAt b 8) (byteAt b 9) = (0, 0)) (hk : keyCheck s x.colour true (importNeed x b s) = none)
include hb hgood hvc hk

theorem runImportWrapped_wrongTag (htag : ¬ ImportTag x b s) : ∃ c,
    runImportWrapped x n s = (Res.stop .verifyFail c, (managerDraws (importNeed x b s) s).2) := by
  subst hb
  refine ⟨wrapCyc (field (jobInput s x) 12 4), (if_neg (Bool.eq_false_iff.mp hgood)).trans ?_⟩
  exact (managerChecked_passes _ (importNeed_unmasked hvc s) hk).trans (if_pos htag)

theorem runImportWrapped_makes (htag : ImportTag x b s)
    (hpriv : privBad (byteAt b 8) (byteAt b 9) (importPlain x b s) = false) (hp : bit x.desc.aux 26 = false) :
    let t := (managerDraws (importNeed x b s) s).2
    ∃ c, runImportWrapped x n s =
      ({ st := .ok, detail := nextHandle t, out := [], cycles := c, late := [],
         release := fillSlot (nextHandle t) (importLife x b) (importedSlot x b (importPlain x b s) t), commit := none },
       tookHandle (nextHandle t) t) := by
  subst hb
  refine ⟨wrapCyc (field (jobInput s x) 12 4) + (importVC (byteAt (jobInput s x) 8) (byteAt (jobInput s x) 9)).2,
    (if_neg (Bool.eq_false_iff.mp hgood)).trans ((managerChecked_passes _ (importNeed_unmasked hvc s) hk).trans
      ((if_neg (not_not_intro htag)).trans ((if_neg (Bool.eq_false_iff.mp hpriv)).trans ?_)))⟩
  rw [hp]
  rfl

theorem runImportWrapped_waits (htag : ImportTag x b s)
    (hpriv : privBad (byteAt b 8) (byteAt b 9) (importPlain x b s) = false) (hp : bit x.desc.aux 26 = true) (ha : archiveOpen s = true) :
    let t := (managerDraws (importNeed x b s) s).2
    let v := importedSlot x b (importPlain x b s) t
    ∃ c, runImportWrapped x n s =
      ({ st := .ok, detail := nextHandle t, out := [], cycles := c, late := [],
         release := fillSlot (nextHandle t) (importLife x b) { v with st := .loading, persist := true },
         commit := some (.addSlot (t.kreg.archSerial + 1) (nextHandle t) { v with persist := true }, .activate (nextHandle t)) },
       tookHandle (nextHandle t) t) := by
  subst hb
  refine ⟨wrapCyc (field (jobInput s x) 12 4) + (importVC (byteAt (jobInput s x) 8) (byteAt (jobInput s x) 9)).2,
    (if_neg (Bool.eq_false_iff.mp hgood)).trans ((managerChecked_passes _ (importNeed_unmasked hvc s) hk).trans
      ((if_neg (not_not_intro htag)).trans ((if_neg (Bool.eq_false_iff.mp hpriv)).trans ?_)))⟩
  rw [hp, ha]
  rfl

end

/-! ### IMPORT_WRAPPED: its four ends (R346, R358) -/

theorem fillSlot_slot (h life : Nat) (v : Slot) (s : State) :
    ∃ w, mget? (fillSlot h life v s).kreg.slots h = some w ∧ w.st = v.st ∧ w.isPublic = v.isPublic := by
  obtain ⟨base, seed, hslot⟩ := putSlot_slot h { v with expiry := expiryIn s life, refreshedAt := s.now } s
  exact ⟨_, hslot, rfl, rfl⟩

theorem tookHandle_entry {e h : Nat} {x : Entry} {s : State} (hx : entry? s e = some x) : entry? (tookHandle h s) e = some x :=
  (entry_congr (KeepsHandles.tookHandle h s).entries e).trans hx

section
variable {e h life c : Nat} {x : Entry} {v : Slot} {p : Res × State} {s : State} (hx : entry? s e = some x)
include hx

/-- The new slot holds its key when its job has ended. -/
theorem finish_makes (h0 : h ≠ 0) (hv : v.st = .active)
    (hp : p = ({ st := .ok, detail := h, out := [], cycles := c, late := [], release := fillSlot h life v, commit := none }, s)) :
    EndedWith (finish e p.1 p.2) e .ok h [] ∧ SlotHolds (finish e p.1 p.2) h v.owner v.alg v.pset v.usage v.data ∧
      ∃ w, mget? (finish e p.1 p.2).kreg.slots h = some w ∧ w.isPublic = v.isPublic := by
  subst hp
  obtain ⟨hends, hholds⟩ := finish_fills (r := ⟨.ok, h, [], c, [], fillSlot h life v, none⟩) hx rfl rfl (fillSlot_fills life h0 hv)
  obtain ⟨w, hw, -, hpublic⟩ := fillSlot_slot h life v (spend e c s)
  refine ⟨hends, hholds, w, ?_, hpublic⟩
  rw [finish_kreg hx rfl (fun _ => putSlot_entries ..) rfl]
  exact hw

/-- A new slot that is to be persistent is LOADING until its record is committed. -/
theorem finish_loads {n : Nat}
    (hp : p = ({ st := .ok, detail := h, out := [], cycles := c, late := [], release := fillSlot h life { v with st := .loading, persist := true },
                 commit := some (.addSlot n h { v with persist := true }, .activate h) }, s)) :
    (∃ w, AwaitsRecord (finish e p.1 p.2) e h (.addSlot n h w) (.activate h) ∧ w.data = v.data) ∧
      ∃ w, mget? (finish e p.1 p.2).kreg.slots h = some w ∧ w.st = .loading := by
  subst hp
  obtain ⟨u, hslots, hsame, hwaits⟩ := finish_awaits (r := ⟨.ok, h, [], c, [], fillSlot h life { v with st := .loading, persist := true },
    some (.addSlot n h { v with persist := true }, .activate h)⟩) hx rfl (fun _ => putSlot_entries ..) rfl rfl
  obtain ⟨w, hw, hst, -⟩ := fillSlot_slot h life { v with st := .loading, persist := true } (spend e c s)
  refine ⟨⟨_, hwaits, rfl⟩, w, ?_, hst⟩
  rw [hsame, hslots]
  exact hw

end

/-- The job that has been taken up keeps its entry through its key check's draws. -/
theorem managerDraws_entry (e : Nat) (x : Entry) (q : Need) (s : State) :
    entry? (managerDraws q (servedState e x s)).2 e = some (takenUp x s) :=
  ((KeepsRegister.managerDraws q _).entry e).trans (servedState_entry e x s)

section
variable {e : Nat} {x : Entry} {b : Bytes} {s : State} (n : Nat) (hb : jobInput s x = b) (hgood : blobBad b x.desc.key2 = false)
  (hvc : importVC (byteAt b 8) (byteAt b 9) = (0, 0)) (hk : keyCheck s x.colour true (importNeed x b s) = none) (htag : ImportTag x b s)
  (hpriv : privBad (byteAt b 8) (byteAt b 9) (importPlain x b s) = false) (hx : entry? s e = some x)
include hb hgood hvc hk htag hpriv hx

/-- The job ends OK, and the slot holds the key of the blob that its run has read. -/
theorem runImportWrapped_fills (hp : bit x.desc.aux 26 = false) :
    let t := finish e (runImportWrapped x n s).1 (runImportWrapped x n s).2
    EndedWith t e .ok (nextHandle s) [] ∧ SlotHolds t (nextHandle s) x.colour (byteAt b 8) (byteAt b 9)
      (if aux x 24 16 = 0 then field b 10 2 else aux x 24 16) (importPlain x b s) := by
  have hdrawn := KeepsRegister.managerDraws (importNeed x b s) s
  obtain ⟨c, hrun⟩ := runImportWrapped_makes n hb hgood hvc hk htag hpriv hp
  rw [hdrawn.nextHandle] at hrun
  obtain ⟨hends, hholds, -⟩ := finish_makes (tookHandle_entry ((hdrawn.entry e).trans hx)) (nextHandle_of_passed hk rfl).1 rfl hrun
  exact ⟨hends, hholds⟩

/-- With PERSIST the slot is LOADING, and the job waits for the record of its key. -/
theorem runImportWrapped_loads (hp : bit x.desc.aux 26 = true) (ha : archiveOpen s = true) :
    let t := finish e (runImportWrapped x n s).1 (runImportWrapped x n s).2
    (∃ v, AwaitsRecord t e (nextHandle s) (.addSlot (s.kreg.archSerial + 1) (nextHandle s) v) (.activate (nextHandle s)) ∧
      v.data = importPlain x b s) ∧ ∃ v, mget? t.kreg.slots (nextHandle s) = some v ∧ v.st = .loading := by
  have hdrawn := KeepsRegister.managerDraws (importNeed x b s) s
  obtain ⟨c, hrun⟩ := runImportWrapped_waits n hb hgood hvc hk htag hpriv hp ha
  rw [hdrawn.nextHandle, hdrawn.archSerial] at hrun
  exact finish_loads (tookHandle_entry ((hdrawn.entry e).trans hx)) hrun

end

section
variable {e : Nat} {x : Entry} {s : State} (hat : AtManager e 0x0920 x s) (hkept : InputKept e x s)
include hat

theorem exec_importWrapped {p : Res × State}
    (hn : blobBad (jobInput s x) x.desc.key2 = true ∨ importVC (byteAt (jobInput s x) 8) (byteAt (jobInput s x) 9) = (0, 0))
    (hp : runImportWrapped (takenUp x s) 0xFF (servedState e x s) = p) : exec (.importWrapped e) s = .next (finish e p.1 p.2) := by
  have hneeds : importSlice x s = [] := by
    unfold importSlice
    rcases hn with h | h
    · simp [h]
    · simp [h]
  exact congrArg Host.Outcome.next (managerRow_served hat (by decide) hneeds hp)

include hkept

theorem importWrapped_bad (h : blobBad (jobInput s x) x.desc.key2 = true) :
    ∃ t, exec (.importWrapped e) s = .next t ∧ EndedWith t e .inputInvalid 0 [] :=
  ⟨_, exec_importWrapped hat (.inl h) (runImportWrapped_bad 0xFF ((congrArg (blobBad · x.desc.key2) (hkept _)).trans h)),
    finish_failed (r := Res.stop .inputInvalid 120) (servedState_entry e x s) (.inl rfl)⟩

section
variable (hgood : blobBad (jobInput s x) x.desc.key2 = false)
  (hk : keyCheck s x.colour true (importNeed x (jobInput s x) s) = none)
  (hvc : importVC (byteAt (jobInput s x) 8) (byteAt (jobInput s x) 9) = (0, 0))
include hgood hk hvc

theorem importWrapped_wrongTag (htag : ¬ ImportTag x (jobInput s x) s) :
    ∃ t, exec (.importWrapped e) s = .next t ∧ EndedWith t e .verifyFail 0 [] ∧ mget? t.kreg.slots (nextHandle s) = none := by
  obtain ⟨c, hrun⟩ := runImportWrapped_wrongTag (x := takenUp x s) (s := servedState e x s) 0xFF (hkept _) hgood hvc hk htag
  refine ⟨_, exec_importWrapped hat (.inr hvc) hrun, ?_, ?_⟩
  · exact finish_failed (r := Res.stop .verifyFail c) (managerDraws_entry e x _ s) (.inr rfl)
  · rw [finish_refused_slots _ (.inr rfl), ← Option.isNone_iff_eq_none, (KeepsRegister.managerDraws _ _).listed]
    exact Option.isNone_iff_eq_none.mpr (nextHandle_of_passed hk rfl).2

theorem importWrapped_makes (htag : ImportTag x (jobInput s x) s)
    (hpriv : privBad (byteAt (jobInput s x) 8) (byteAt (jobInput s x) 9) (importPlain x (jobInput s x) s) = false)
    (hp : bit x.desc.aux 26 = false) :
    ∃ t, exec (.importWrapped e) s = .next t ∧ EndedWith t e .ok (nextHandle s) [] ∧
      SlotHolds t (nextHandle s) x.colour (byteAt (jobInput s x) 8) (byteAt (jobInput s x) 9)
        (if aux x 24 16 = 0 then field (jobInput s x) 10 2 else aux x 24 16) (importPlain x (jobInput s x) s) :=
  ⟨_, exec_importWrapped hat (.inr hvc) rfl,
    runImportWrapped_fills (x := takenUp x s) (s := servedState e x s) 0xFF (hkept _) hgood hvc hk htag hpriv (servedState_entry e x s) hp⟩

theorem importWrapped_waits (htag : ImportTag x (jobInput s x) s)
    (hpriv : privBad (byteAt (jobInput s x) 8) (byteAt (jobInput s x) 9) (importPlain x (jobInput s x) s) = false)
    (hp : bit x.desc.aux 26 = true) (ha : archiveOpen s = true) :
    ∃ t, exec (.importWrapped e) s = .next t ∧
      (∃ v, AwaitsRecord t e (nextHandle s) (.addSlot (s.kreg.archSerial + 1) (nextHandle s) v) (.activate (nextHandle s)) ∧
        v.data = importPlain x (jobInput s x) s) ∧
      ∃ v, mget? t.kreg.slots (nextHandle s) = some v ∧ v.st = .loading :=
  ⟨_, exec_importWrapped hat (.inr hvc) rfl,
    runImportWrapped_loads (x := takenUp x s) (s := servedState e x s) 0xFF (hkept _) hgood hvc hk htag hpriv (servedState_entry e x s) hp ha⟩

end
end

/-! ### EXPORT_WRAPPED, DELETE, PERSIST and UNPERSIST at the head of the queue (R342) -/

theorem exportWrapped_outputs {e : Nat} {x : Entry} {v : Slot} {s : State} (hat : AtManager e 0x0921 x s) (hv : slot? s x.desc.key = some v)
    (hlen : 56 + v.data.length ≤ x.desc.outLen) (hk : keyCheck s x.colour true (exportNeed x s) = none) :
    ∃ t nonce, exec (.exportWrapped e) s = .next t ∧ nonce.length = 12 ∧ EndedWith t e .ok 0 (exportedBlob x v s nonce) := by
  have hrun := runExportWrapped_seals (x := takenUp x s) (s := servedState e x s) 0xFF hv hlen hk
  exact ⟨_, _, congrArg Host.Outcome.next (managerRow_served hat (by decide) rfl hrun), draw_length 43 12 _,
    finish_ok (managerDraws_entry e x _ s) rfl rfl (fun _ => rfl)⟩

/-- The record of a slot that is in use holds the slot's own lifetime. -/
theorem asReleased_listed {u : State} {n h : Nat} {v w : Slot} (hw : mget? u.kreg.slots h = some w) :
    asReleased u (.addSlot n h v) = .addSlot n h { v with expiry := w.expiry } := by
  unfold asReleased
  dsimp only
  rw [hw]

section
variable {e : Nat} {x : Entry} {s : State} (hat : AtManager e 0x0922 x s)
include hat

theorem actionIs_of_entry {a : Nat} (ha : aux x 7 0 = a) : actionIs s e a = true := by
  obtain ⟨hx, -⟩ := hat
  unfold actionIs
  rw [hx]
  exact decide_eq_true ha

theorem delete_served {p : Res × State} (ha : aux x 7 0 = 0) (hp : runDelete 0 (takenUp x s) 0xFF (servedState e x s) = p) :
    exec (.delete e) s = .next (finish e p.1 p.2) :=
  congrArg Host.Outcome.next ((if_pos (actionIs_of_entry hat ha)).trans (managerRow_served hat (by decide) rfl hp))

theorem persist_served {p : Res × State} (ha : aux x 7 0 = 1) (hp : runDelete 1 (takenUp x s) 0xFF (servedState e x s) = p) :
    exec (.persist e) s = .next (finish e p.1 p.2) :=
  congrArg Host.Outcome.next ((if_pos (actionIs_of_entry hat ha)).trans (managerRow_served hat (by decide) rfl hp))

theorem unpersist_served {p : Res × State} (ha : aux x 7 0 = 2) (hp : runDelete 2 (takenUp x s) 0xFF (servedState e x s) = p) :
    exec (.unpersist e) s = .next (finish e p.1 p.2) :=
  congrArg Host.Outcome.next ((if_pos (actionIs_of_entry hat ha)).trans (managerRow_served hat (by decide) rfl hp))

section
variable {v : Slot} (hslot : bit x.desc.aux 25 = false) (hv : namedSlot s x.colour x.desc.key = some v)
  (hfree : circuitHolds s x.desc.key = false)
include hslot hv hfree

theorem delete_frees (hk : (htsKey? s x.desc.key).isSome = true ∨ keyFixed s x.desc.key = false) (ha : aux x 7 0 = 0)
    (hp : (v.persist && archiveOpen s) = false) :
    ∃ t, exec (.delete e) s = .next t ∧ EndedWith t e .ok 0 [] ∧ mget? t.kreg.slots x.desc.key = none := by
  have hrun := runDelete_frees (x := takenUp x s) (s := servedState e x s) 0xFF hslot hv hfree hp
  exact ⟨_, delete_served hat ha hrun, finish_erases (servedState_entry e x s) hk⟩

theorem delete_drops (ha : aux x 7 0 = 0) (hp : v.persist = true) (hopen : archiveOpen s = true) :
    ∃ t, exec (.delete e) s = .next t ∧
      AwaitsRecord t e 0 (.dropSlot (s.kreg.archSerial + 1) x.desc.key) (.freeSlot x.desc.key) := by
  have hrun := runDelete_drops (x := takenUp x s) (s := servedState e x s) 0xFF hslot hv hfree hp hopen
  exact ⟨_, delete_served hat ha hrun, finish_awaits_record (servedState_entry e x s) (fun _ _ => rfl)⟩

theorem persist_adds (ha : aux x 7 0 = 1) (halg : v.alg ≠ 0x0B) (hst : v.st ≠ .retired) (hopen : archiveOpen s = true) :
    ∃ t, exec (.persist e) s = .next t ∧ AwaitsRecord t e 0 (.addSlot (s.kreg.archSerial + 1) x.desc.key
      { masked s x.desc.key v with persist := true }) (.setPersist x.desc.key) := by
  have hrun := runDelete_persists (x := takenUp x s) (s := servedState e x s) 0xFF hslot hv hfree halg hst hopen
  refine ⟨_, persist_served hat ha hrun, finish_awaits_record (servedState_entry e x s) (fun u hu => ?_)⟩
  have hlisted : mget? u.kreg.slots x.desc.key = some v := (congrArg (mget? · x.desc.key) hu).trans (namedSlot_listed hv)
  exact asReleased_listed (w := v) hlisted

theorem unpersist_drops (ha : aux x 7 0 = 2) (hopen : archiveOpen s = true) :
    ∃ t, exec (.unpersist e) s = .next t ∧
      AwaitsRecord t e 0 (.dropSlot (s.kreg.archSerial + 1) x.desc.key) (.clearPersist x.desc.key) := by
  have hrun := runDelete_unpersists (x := takenUp x s) (s := servedState e x s) 0xFF hslot hv hfree hopen
  exact ⟨_, unpersist_served hat ha hrun, finish_awaits_record (servedState_entry e x s) (fun _ _ => rfl)⟩

theorem unpersist_unsupported (ha : aux x 7 0 = 2) (hopen : archiveOpen s = false) :
    ∃ t, exec (.unpersist e) s = .next t ∧ EndedWith t e .unsupported 0 [] := by
  have hrun := runDelete_unsupported (x := takenUp x s) (s := servedState e x s) 0xFF hslot hv hfree hopen
  exact ⟨_, unpersist_served hat ha hrun, finish_unsupported (servedState_entry e x s)⟩

end

section
variable {v : LksEntry} (hlks : bit x.desc.aux 25 = true) (hv : lks? s x.desc.key = some v) (howner : v.owner = x.colour) (hready : v.state = 2)
include hlks hv howner hready

theorem delete_drains (ha : aux x 7 0 = 0) (hp : (v.persist && archiveOpen s) = false) (hk : keysRise s.kreg.lks = true) :
    ∃ t, exec (.delete e) s = .next t ∧ EndedWith t e .ok 0 [] ∧ ∀ l, lks? t x.desc.key = some l → l.state = 3 := by
  have hrun := runDelete_freesLks (x := takenUp x s) (s := servedState e x s) 0xFF hlks hv howner hready hp
  exact ⟨_, delete_served hat ha hrun, finish_drains (servedState_entry e x s) hk⟩

theorem delete_dropsLks (ha : aux x 7 0 = 0) (hp : v.persist = true) (hopen : archiveOpen s = true) :
    ∃ t, exec (.delete e) s = .next t ∧ AwaitsRecord t e 0 (.dropLks (s.kreg.archSerial + 1) x.desc.key) (.freeLks x.desc.key) := by
  have hrun := runDelete_dropsLks (x := takenUp x s) (s := servedState e x s) 0xFF hlks hv howner hready hp hopen
  exact ⟨_, delete_served hat ha hrun, finish_awaits_record (servedState_entry e x s) (fun _ _ => rfl)⟩

theorem persist_addsLks (ha : aux x 7 0 = 1) (hkind : v.kind ≠ 2) (hopen : archiveOpen s = true) :
    ∃ t, exec (.persist e) s = .next t ∧
      AwaitsRecord t e 0 (.addLks (s.kreg.archSerial + 1) x.desc.key { v with persist := true }) (.setPersistLks x.desc.key) := by
  have hrun := runDelete_persistsLks (x := takenUp x s) (s := servedState e x s) 0xFF hlks hv howner hready hkind hopen
  exact ⟨_, persist_served hat ha hrun, finish_awaits_record (servedState_entry e x s) (fun _ _ => rfl)⟩

theorem unpersist_dropsLks (ha : aux x 7 0 = 2) (hopen : archiveOpen s = true) :
    ∃ t, exec (.unpersist e) s = .next t ∧ AwaitsRecord t e 0 (.dropLks (s.kreg.archSerial + 1) x.desc.key) (.clearPersistLks x.desc.key) := by
  have hrun := runDelete_unpersistsLks (x := takenUp x s) (s := servedState e x s) 0xFF hlks hv howner hready hopen
  exact ⟨_, unpersist_served hat ha hrun, finish_awaits_record (servedState_entry e x s) (fun _ _ => rfl)⟩

end
end

/-! ### IMPORT_PUBLIC (R349) -/

/-- What the key check of an IMPORT_PUBLIC of key `b` into a slot needs. -/
def publicNeed (x : Entry) (b : Bytes) (allowed : List Nat) : Need :=
  { Need.none_ with policy := decide (aux x 24 16 ≠ 0 ∧ aux x 24 16 ∉ allowed), units := some (max 1 (ceilDiv b.length 64)) }

/-- What one into the large-key store needs. -/
def mceNeed (x : Entry) (b : Bytes) : Need :=
  { Need.none_ with policy := decide (aux x 24 16 ≠ 0 ∧ aux x 24 16 ≠ uKEM), lks := some (ceilDiv b.length 4096) }

/-- The public slot that holds the key, made in `t`. -/
def importedPublicSlot (x : Entry) (b : Bytes) (allowed : List Nat) (t : State) : Slot :=
  { newSlot t x.colour (aux x 7 0) (aux x 15 8) (usageOr (aux x 24 16) (allowed.headD 0)) 4 (max 1 (ceilDiv b.length 64)) x.desc.aux2 b with
    isPublic := true }

/-- The large-key entry that holds it. -/
def importedMceEntry (x : Entry) (b : Bytes) : LksEntry :=
  { owner := x.colour, alg := 5, pset := aux x 15 8, usage := uKEM, state := 2, persist := false, kind := 1, extents := [],
    length := b.length, data := b }

theorem runImportPublic_makes {x : Entry} {b : Bytes} {s : State} {len chk : Nat} {allowed : List Nat} (n : Nat) (hb : jobInput s x = b)
    (hinfo : publicInfo (aux x 7 0) (aux x 15 8) = some (len, chk, allowed)) (hslot : aux x 7 0 ≠ 5 ∨ isMce (aux x 15 8) = false)
    (hp : bit x.desc.aux 26 = false) (hvalid : publicValid (aux x 7 0) (aux x 15 8) b = true)
    (hk : keyCheck s x.colour true (publicNeed x b allowed) = none) :
    let t := (managerDraws (publicNeed x b allowed) s).2
    ∃ c, runImportPublic x n s =
      ({ st := .ok, detail := nextHandle t, out := [], cycles := c, late := [],
         release := fillSlot (nextHandle t) x.desc.aux2 (importedPublicSlot x b allowed t), commit := none }, tookHandle (nextHandle t) t) := by
  subst hb
  have hnot : ¬ (decide (aux x 7 0 = 5) && isMce (aux x 15 8)) = true := by
    rcases hslot with h | h <;> simp [h]
  refine ⟨320 + 4 * ceilDiv (jobInput s x).length 16 + chk, (if_neg hnot).trans ?_⟩
  rw [hinfo]
  have hpassed : ¬ (!(publicValid (aux x 7 0) (aux x 15 8) (jobInput s x))) = true := by rw [hvalid]; decide
  refine (managerChecked_passes _ rfl hk).trans ((if_neg hpassed).trans ?_)
  rw [hp]
  rfl

/-- The job ends OK, and the public slot holds the key that its run has read. -/
theorem runImportPublic_ends {e : Nat} {x : Entry} {b : Bytes} {s : State} {len chk : Nat} {allowed : List Nat} (n : Nat)
    (hx : entry? s e = some x) (hb : jobInput s x = b) (hinfo : publicInfo (aux x 7 0) (aux x 15 8) = some (len, chk, allowed))
    (hslot : aux x 7 0 ≠ 5 ∨ isMce (aux x 15 8) = false) (hp : bit x.desc.aux 26 = false)
    (hvalid : publicValid (aux x 7 0) (aux x 15 8) b = true) (hk : keyCheck s x.colour true (publicNeed x b allowed) = none) :
    let t := finish e (runImportPublic x n s).1 (runImportPublic x n s).2
    EndedWith t e .ok (nextHandle s) [] ∧
      SlotHolds t (nextHandle s) x.colour (aux x 7 0) (aux x 15 8) (usageOr (aux x 24 16) (allowed.headD 0)) b ∧
      ∃ v, mget? t.kreg.slots (nextHandle s) = some v ∧ v.isPublic = true := by
  have hdrawn := KeepsRegister.managerDraws (publicNeed x b allowed) s
  obtain ⟨c, hrun⟩ := runImportPublic_makes n hb hinfo hslot hp hvalid hk
  rw [hdrawn.nextHandle] at hrun
  exact finish_makes (tookHandle_entry ((hdrawn.entry e).trans hx)) (nextHandle_of_passed hk rfl).1 rfl hrun

theorem runImportMce_makes {x : Entry} {b : Bytes} {s : State} (n : Nat) (hb : jobInput s x = b) (hp : bit x.desc.aux 26 = false)
    (hvalid : publicValid 5 (aux x 15 8) b = true) (hk : keyCheck s x.colour true (mceNeed x b) = none) :
    let t := (managerDraws (mceNeed x b) s).2
    ∃ c, runImportMce x n s =
      ({ st := .ok, detail := nextLks t * 65536, out := [], cycles := c, late := [], release := putLks (nextLks t) (importedMceEntry x b),
         commit := none }, t) := by
  subst hb
  refine ⟨320 + ceilDiv (jobInput s x).length 128, ?_⟩
  have hpassed : ¬ (!(publicValid 5 (aux x 15 8) (jobInput s x))) = true := by rw [hvalid]; decide
  unfold runImportMce
  refine (managerChecked_passes _ rfl hk).trans ((if_neg hpassed).trans ?_)
  rw [hp]
  rfl

/-- The slices that the check of an IMPORT_PUBLIC needs are given (R178, R598). -/
def SliceGiven (e : Nat) (x : Entry) (s : State) : Prop :=
  publicSlice x s = [] ∨ ∃ c, publicSlice x s = [c] ∧ classFenced s c = false ∧ (sliceFor s e c).isSome = true

/-- Job `x` as the key manager runs it, on its own or on a slice. -/
def runAs (x : Entry) (slice : Nat) (phase : Phase) (startedAt segAt : Time) : Entry :=
  { x with slice := slice, phase := phase, startedAt := startedAt, segAt := segAt }

/-- A classic McEliece key needs no slice. -/
theorem publicSlice_mce {x : Entry} (s : State) (halg : aux x 7 0 = 5) (hmce : isMce (aux x 15 8) = true) : publicSlice x s = [] := by
  have hinfo : publicInfo 5 (aux x 15 8) = some (codePk (aux x 15 8), 0, [uKEM]) := by
    have hhqc : isHqc (aux x 15 8) = false := by
      unfold isMce at hmce
      unfold isHqc
      simp only [decide_eq_true_eq, decide_eq_false_iff_not] at hmce ⊢
      omega
    unfold publicInfo
    simp only [hhqc, hmce, Bool.false_eq_true, if_false, if_true]
  unfold publicSlice
  rw [halg, hinfo]
  split <;> rfl

section
variable {e : Nat} {x : Entry} {s : State} (hat : AtManager e 0x0923 x s)
include hat

theorem exec_importPublic_streams (hn : publicSlice x s = []) {p : Res × State}
    (hp : runImportPublic (takenUp x s) 0xFF (servedState e x s) = p)
    (hgranted : streamRefused e (takenUp x s) p.1 (p.1.release p.2) = none) :
    exec (.importPublic e) s = .next (finish e p.1 p.2) := by
  refine congrArg Host.Outcome.next ((managerRow_alone publicSlice false runImportPublic hat hn).trans ?_)
  rw [← hp] at hgranted ⊢
  exact finishManager_granted hgranted

/-- A key for a slot is not streamed: it is checked on the slice given, where its check takes one. -/
theorem exec_importPublic_runs (hslot : aux x 7 0 ≠ 5 ∨ isMce (aux x 15 8) = false) (hgiven : SliceGiven e x s) :
    ∃ sl ph a b n, let y := runAs x sl ph a b
      exec (.importPublic e) s = .next (finish e (runImportPublic y n (setEntry e y s)).1 (runImportPublic y n (setEntry e y s)).2) := by
  rcases hgiven with hnone | ⟨c, hc, hopen, hsome⟩
  · refine ⟨x.slice, x.phase, s.now, s.now, 0xFF, exec_importPublic_streams hat hnone rfl (if_neg ?_)⟩
    rintro ⟨-, halg, hmce⟩
    exact hslot.elim (fun h => h halg) (fun h => Bool.false_ne_true (h.symm.trans hmce))
  · refine ⟨_, .running ((sliceFor s e c).getD 0), x.startedAt, x.segAt, _, congrArg Host.Outcome.next
      (managerRow_onSlices runImportPublic hat hc ?_ ?_)⟩
    · rintro k hk
      rwa [List.mem_singleton.mp hk]
    · rintro k hk
      rwa [List.mem_singleton.mp hk]

section
variable (hkept : InputKept e x s) (hp : bit x.desc.aux 26 = false)
  (hvalid : publicValid (aux x 7 0) (aux x 15 8) (jobInput s x) = true)
include hkept hp hvalid

theorem importPublic_makes {len chk : Nat} {allowed : List Nat} (hinfo : publicInfo (aux x 7 0) (aux x 15 8) = some (len, chk, allowed))
    (hgiven : SliceGiven e x s) (hslot : aux x 7 0 ≠ 5 ∨ isMce (aux x 15 8) = false)
    (hk : keyCheck s x.colour true (publicNeed x (jobInput s x) allowed) = none) :
    ∃ t, exec (.importPublic e) s = .next t ∧ EndedWith t e .ok (nextHandle s) [] ∧
      SlotHolds t (nextHandle s) x.colour (aux x 7 0) (aux x 15 8) (usageOr (aux x 24 16) (allowed.headD 0)) (jobInput s x) ∧
      ∃ v, mget? t.kreg.slots (nextHandle s) = some v ∧ v.isPublic = true := by
  obtain ⟨sl, ph, a, b, n, hrow⟩ := exec_importPublic_runs hat hslot hgiven
  exact ⟨_, hrow, runImportPublic_ends n (setEntry_same e (runAs x sl ph a b) s) (hkept _) hinfo hslot hp hvalid hk⟩

end
end

/-! ### IMPORT_PUBLIC into the large-key store (R349, R354) -/

theorem mfilter_cons {α : Type} (f : Nat → α → Bool) (a : Nat) (w : α) (r : Tab α) :
    mfilter f ((a, w) :: r) = if f a w = true then (a, w) :: mfilter f r else mfilter f r := List.filter_cons

/-- An entry that is kept is found where it stood. -/
theorem mget?_mfilter_of_some {α : Type} {f : Nat → α → Bool} {t : Tab α} {k : Nat} {v : α} (hv : mget? t k = some v) (hf : f k v = true) :
    mget? (mfilter f t) k = some v := by
  induction t with
  | nil => cases hv
  | cons p r ih =>
    obtain ⟨a, w⟩ := p
    rw [mfilter_cons]
    by_cases hka : k = a
    · subst hka
      have hw : some w = some v := (if_pos rfl).symm.trans hv
      cases hw
      rw [if_pos hf]
      exact if_pos rfl
    · have hrest : (if k < a then none else mget? r k) = some v := (if_neg hka).symm.trans hv
      have hlt : ¬ k < a := fun h => by rw [if_pos h] at hrest; cases hrest
      rw [if_neg hlt] at hrest
      split
      · exact (if_neg hka).trans ((if_neg hlt).trans (ih hrest))
      · exact ih hrest

/-- The entry that is put has its extents from the large-key store, and the rest as given. -/
theorem putLks_entry (h : Nat) (v : LksEntry) (s : State) : ∃ ext, lks? (putLks h v s) h = some { v with extents := ext } :=
  ⟨_, mget?_mset_same _ _ _⟩

theorem lksLeft_ready {e h : Nat} {k : KregSt} {v : LksEntry} (hv : mget? k.lks h = some v) (hst : v.state = 2) :
    mget? (lksLeft e k).lks h = some v := by
  unfold lksLeft
  dsimp only
  refine mget?_mfilter_of_some hv ?_
  rw [hst]
  rfl

theorem importPublic_stores {e : Nat} {x : Entry} {s : State} (hat : AtManager e 0x0923 x s) (hkept : InputKept e x s)
    (hp : bit x.desc.aux 26 = false) (hvalid : publicValid (aux x 7 0) (aux x 15 8) (jobInput s x) = true) (halg : aux x 7 0 = 5)
    (hmce : isMce (aux x 15 8) = true) (hk : keyCheck s x.colour true (mceNeed x (jobInput s x)) = none)
    (hgranted : let w := runImportMce (takenUp x s) 0xFF (servedState e x s)
      streamRefused e (takenUp x s) w.1 (w.1.release w.2) = none) :
    ∃ t, exec (.importPublic e) s = .next t ∧ EndedWith t e .ok (nextLks s * 65536) [] ∧
      ∃ l, lks? t (nextLks s) = some l ∧ l.owner = x.colour ∧ l.pset = aux x 15 8 ∧ l.state = 2 ∧ l.data = jobInput s x := by
  have hrunPublic : runImportPublic (takenUp x s) 0xFF (servedState e x s) = runImportMce (takenUp x s) 0xFF (servedState e x s) :=
    if_pos (Bool.and_eq_true_iff.mpr ⟨decide_eq_true halg, hmce⟩)
  rw [halg] at hvalid
  obtain ⟨c, hrun⟩ := runImportMce_makes (x := takenUp x s) (s := servedState e x s) 0xFF (hkept _) hp hvalid hk
  have hdrawn := KeepsRegister.managerDraws (mceNeed (takenUp x s) (jobInput s x)) (servedState e x s)
  rw [hdrawn.nextLks] at hrun
  dsimp only at hgranted
  rw [hrun] at hgranted
  have hx := managerDraws_entry e x (mceNeed (takenUp x s) (jobInput s x)) s
  have hr : ∀ u, (putLks (nextLks s) (importedMceEntry x (jobInput s x)) u).ring.entries = u.ring.entries := fun _ => rfl
  refine ⟨_, exec_importPublic_streams hat (publicSlice_mce s halg hmce) (hrunPublic.trans hrun) hgranted, finish_ok hx rfl rfl hr, ?_⟩
  obtain ⟨ext, hput⟩ := putLks_entry (nextLks s) (importedMceEntry x (jobInput s x))
    (spend e c (managerDraws (mceNeed x (jobInput s x)) (servedState e x s)).2)
  refine ⟨{ importedMceEntry x (jobInput s x) with extents := ext }, ?_, rfl, rfl, rfl, rfl⟩
  unfold lks?
  rw [finish_kreg hx rfl hr rfl]
  exact lksLeft_ready hput rfl

/-! ### ATTEST (R350, R351) -/

/-- The output of an ATTEST: the statement and its two signatures. -/
def attestation (x : Entry) (v : Slot) (b kd ke rnd k : Bytes) (s : State) : Bytes :=
  let st := attestStatement s x.desc.key v b
  st ++ primOut (.mldsaSign 3) [kd, messageRep 0 9 0 (ascii "zk-attest" ++ st), rnd, leBytes 1 0] 4627 ++
    eccSignature 2 ke (primOut (.hash 0x02) [st] 48) k (zeros 2)

theorem runAttest_signs {x : Entry} {v : Slot} {b kd ke : Bytes} {n : Nat} {s : State} (hb : jobInput s x = b)
    (hv : namedSlot s x.colour x.desc.key = some v) (hd : attestKey s 2 = some kd) (he : attestKey s 6 = some ke)
    (hr : s.rng.st = .ready) (hs : n < 36 → (slice_ s n).seeded = true) : ∃ rnd k iters c t,
      runAttest x n s = ({ Res.ok (attestation x v b kd ke rnd k s) c with release := signIterMax iters }, t) ∧
        rnd.length = 32 ∧ k.length = 56 ∧ t.ring.entries = s.ring.entries := by
  subst hb
  have hready : ¬ (!(rngReady s) || (decide (n < 36) && !((slice_ s n).seeded))) = true := by
    unfold rngReady
    by_cases hn : n < 36
    · simp [hr, hs hn]
    · simp [hr, hn]
  unfold runAttest
  simp only [hv, hd, he]
  rw [if_neg hready]
  exact ⟨_, _, _, _, _, rfl, draw_length .., draw_length ..,
    ((KeepsHandles.refreshExpander n s).trans ((KeepsHandles.draw n 32 _).trans (KeepsHandles.draw _ 56 _))).entries⟩

theorem attest_signs {e n m : Nat} {x : Entry} {v : Slot} {kd ke : Bytes} {s : State} (hat : AtManager e 0x0924 x s)
    (hkept : InputKept e x s) (hv : namedSlot s x.colour x.desc.key = some v) (hd : attestKey s 2 = some kd)
    (he : attestKey s 6 = some ke) (hr : s.rng.st = .ready) (hopen : classFenced s 0 = false ∧ classFenced s 2 = false)
    (hn : sliceFor s e 0 = some n) (hm : sliceFor s e 2 = some m) (hs : (slice_ s n).seeded = true) :
    ∃ t rnd k, exec (.attest e false) s = .next t ∧ rnd.length = 32 ∧ k.length = 56 ∧
      EndedWith t e .ok 0 (attestation x v (jobInput s x) kd ke rnd k s) := by
  have hneeds : attestSlices x s = [0, 2] := by
    obtain ⟨_, _, _, _, _, hrun, -⟩ := runAttest_signs (n := 0xFF) rfl hv hd he hr (fun h => absurd h (by decide))
    unfold attestSlices
    rw [hrun]
    rfl
  have hrow := managerRow_onSlices runAttest hat hneeds (by simp [hopen]) (by simp [hn, hm])
  rw [hn] at hrow
  dsimp only [Option.getD_some] at hrow
  obtain ⟨rnd, k, iters, c, t, hrun, hrnd, hk, hentries⟩ := runAttest_signs (x := { x with slice := n, phase := .running n })
    (s := setEntry e { x with slice := n, phase := .running n } s) (hkept _) hv hd he hr (fun _ => hs)
  rw [hrun] at hrow
  exact ⟨_, rnd, k, congrArg Host.Outcome.next hrow, hrnd, hk,
    finish_ok ((entry_congr hentries e).trans (setEntry_same ..)) rfl rfl (fun u => (Announces.setObj _ _ u).entries)⟩

end Sys2Proof.Machine
end

section
/-!
PROOFS. What KeyManagerJobs (O41) turns on, which is left open.  Its clauses on IMPORT_WRAPPED, IMPORT_PUBLIC and ATTEST speak of the job's
input as it reads before the key manager takes the job up; the run reads it after, when the job's record has a new start time.  Pages of the
pool read the same (`inputKept_of_pages`), but the clauses ask nothing of the job's pages, and a page of the context store reads as
Config.ctxByte, an unknown function of the whole state.  The obligation follows where inputs stay (`keyManagerJobs_of_inputKept`), and would
itself say of that function what nothing here can prove or refute (`ctxByte_of_keyManagerJobs`).
-/
namespace Sys2Proof.Machine

/-- Not a settlement of O41: the obligation for a device in which every job at the key manager reads the same input before and after it is
taken up. -/
theorem keyManagerJobs_of_inputKept (h : ∀ e op x s, AtManager e op x s → InputKept e x s) : Obligations.KeyManagerJobs := by
  unfold Obligations.KeyManagerJobs
  refine ⟨fun e x s hat => ?_, fun e x v s hat hv hlen => ?_, fun e x v s hat hslot hv hfree hk => ?_,
    fun e x v s hat hlks hv howner hready => ?_, fun e x s len chk allowed hat => ?_, fun e x v kd ke n m s hat => ?_⟩
  · have hkept := h e _ x s hat
    intro b alg l typ narrow vc q kb key good
    refine ⟨importWrapped_bad hat hkept, fun hgood hk hvc => ⟨importWrapped_wrongTag hat hkept hgood hk hvc,
      importWrapped_makes hat hkept hgood hk hvc, importWrapped_waits hat hkept hgood hk hvc⟩⟩
  · exact fun hk => exportWrapped_outputs hat hv hlen hk
  · exact ⟨delete_frees hat hslot hv hfree hk, delete_drops hat hslot hv hfree, persist_adds hat hslot hv hfree,
      unpersist_drops hat hslot hv hfree, unpersist_unsupported hat hslot hv hfree⟩
  · exact ⟨delete_drains hat hlks hv howner hready, delete_dropsLks hat hlks hv howner hready, persist_addsLks hat hlks hv howner hready,
      unpersist_dropsLks hat hlks hv howner hready⟩
  · intro alg p u b hinfo hp hvalid hgiven
    have hkept := h e _ x s hat
    exact ⟨importPublic_makes hat hkept hp hvalid hinfo hgiven, importPublic_stores hat hkept hp hvalid⟩
  · exact fun hv hd he hr hlat hbig hn hm hs => attest_signs hat (h e _ x s hat) hv hd he hr ⟨hlat, hbig⟩ hn hm hs

/-- Not a settlement of O41: it follows where the context store's bytes do not go by the records of jobs in flight, as those of a constant
function do not, so that no refutation can stand on the model alone. -/
theorem keyManagerJobs_of_ctxByte (h : ∀ e y s a, Config.ctxByte (setEntry e y s) a = Config.ctxByte s a) : Obligations.KeyManagerJobs :=
  keyManagerJobs_of_inputKept fun e _ x s _ => inputKept_of_ctxByte x (h e · s ·)

theorem readPages_length_congr (s t : State) (ps : List Nat) (n : Nat) : (readPages t ps n).length = (readPages s ps n).length := by
  induction ps generalizing n with
  | nil => rfl
  | cons p r ih =>
    unfold readPages
    rw [List.length_append, List.length_append, ih, memRead_length, memRead_length]

/-- How long an input is does not go by the state. -/
theorem jobInput_length_congr (s t : State) (x : Entry) : (jobInput t x).length = (jobInput s x).length := by
  unfold jobInput
  split
  · rfl
  · exact readPages_length_congr ..

/-- The obligation asks of an IMPORT_PUBLIC of an ML-DSA key that its input reads the same before and after the key manager takes it up. -/
theorem input_of_keyManagerJobs (h : Obligations.KeyManagerJobs) {e : Nat} {x : Entry} {s : State} (hat : AtManager e 0x0923 x s)
    (halg : aux x 7 0 = 2) (hset : latPset (aux x 15 8) = true) (hp : bit x.desc.aux 26 = false)
    (hk : keyCheck s x.colour true (publicNeed x (jobInput s x) [uVERIFY]) = none) :
    jobInput (servedState e x s) x = jobInput s x := by
  obtain ⟨-, -, -, -, hpublic, -⟩ := h
  have hinfo : publicInfo (aux x 7 0) (aux x 15 8) = some (dsaPk (aux x 15 8), 0, [uVERIFY]) := by
    rw [halg]
    exact if_pos hset
  have hslot : aux x 7 0 ≠ 5 := by rw [halg]; decide
  have hvalid : ∀ b, publicValid (aux x 7 0) (aux x 15 8) b = true := fun b => by rw [halg]; rfl
  have halone : publicSlice x s = [] := by
    unfold publicSlice
    rw [hinfo]
    split <;> rfl
  obtain ⟨t, hexec, -, ⟨v, -, -, -, -, -, -, hasked⟩, -⟩ := (hpublic e x s _ _ _ hat hinfo hp (hvalid _) (.inl halone)).1 (.inl hslot) hk
  have hneed : publicNeed (takenUp x s) (jobInput (servedState e x s) x) [uVERIFY] = publicNeed x (jobInput s x) [uVERIFY] := by
    unfold publicNeed
    rw [jobInput_length_congr s]
    rfl
  have hread := runImportPublic_ends 0xFF (servedState_entry e x s) rfl hinfo (.inl hslot) hp (hvalid _)
    ((congrArg (keyCheck s x.colour true) hneed).trans hk)
  obtain ⟨-, ⟨w, -, -, -, -, -, -, hmade⟩, -⟩ := hread
  have hrow := exec_importPublic_streams hat halone rfl (if_neg fun hc => hslot hc.2.1)
  have ht := Host.Outcome.next.inj (hrow.symm.trans hexec)
  rw [← ht] at hasked
  exact hmade.symm.trans hasked

/-- An IMPORT_PUBLIC whose one input page is the first of the context store.  No admission gives a job such a page: the pool's are
0 to 8,191. -/
def contextJob : Entry :=
  { origin := .ring 0, colour := 0, prio := 0, serial := 0,
    desc := { opcode := 0x0923, pset := 0, ctrl := 0, key := 0, key2 := 0, userTag := 0, segs := [(0, 1)], outLen := 0, outAddr := 0,
              aux := 0x302, aux2 := 0, totalLen := 0, subIndex := 0, entries := 1 },
    pages := [49152], inPages := 1, outPages := 0, stream := [], phase := .running 0, slice := 0, startedAt := 1, segAt := 1, progress := 0,
    segsSince := 0, cycles := 0, keyChecked := false, target := none, lksTarget := none, tag := [], endedAt := 0, status := .ok,
    detail := 0, output := [], scrub := 0, late := [] }

/-- That job alone is in flight. -/
def contextState : State := setEntry 0 contextJob State.reset

theorem contextJob_atManager : AtManager 0 0x0923 contextJob contextState := ⟨setEntry_same _ _ _, rfl, rfl⟩

theorem memByte_context {r : Nat × Nat} (h : Config.ctxHolder 0 = some r) (s : State) : memByte s 0x3000000 = Config.ctxByte s 0x3000000 := by
  have hctx : ctxAt? 0x3000000 = some (recOf r) := congrArg (Option.map recOf) h
  have hlks : lksAt? s 0x3000000 = none := rfl
  unfold memByte
  rw [hlks, hctx]

theorem contextState_moves : servedState 0 contextJob contextState ≠ contextState := by
  intro h
  have hentry := congrArg (fun s => (entry? s 0).map Entry.startedAt) h
  exact absurd hentry (by decide)

/-- Where a record holds the first granule of the context store, the obligation would have its first byte read the same in two states. -/
theorem ctxByte_of_keyManagerJobs (h : Obligations.KeyManagerJobs) {r : Nat × Nat} (hr : Config.ctxHolder 0 = some r) :
    servedState 0 contextJob contextState ≠ contextState ∧
      Config.ctxByte (servedState 0 contextJob contextState) 0x3000000 = Config.ctxByte contextState 0x3000000 := by
  refine ⟨contextState_moves, ?_⟩
  have hinput := input_of_keyManagerJobs h contextJob_atManager rfl rfl rfl (by decide)
  have hbyte : [memByte (servedState 0 contextJob contextState) 0x3000000] = [memByte contextState 0x3000000] := hinput
  rwa [memByte_context hr, memByte_context hr, List.singleton_inj] at hbyte

end Sys2Proof.Machine
end

section
/-!
PROOFS. The time-out of a card fill frees its slot, and the overwrite's draws may stall (R341, R353, R511): where KeyRegisterEvents (O42) has
the step end at the time-out's moment, the stall makes it end later.
-/
namespace Sys2Proof.Machine

/-! ### A draw that stalls (R511, R512) -/

theorem takeSeed_now_le (s : State) : s.now ≤ (takeSeed s).now := by
  unfold takeSeed
  dsimp only
  split
  · exact Nat.le_refl _
  · exact Nat.le_max_left ..

theorem takeSeed_pwr (s : State) : (takeSeed s).pwr = s.pwr := by
  unfold takeSeed
  dsimp only
  split <;> rfl

theorem reseed_now_le (n : Nat) (s : State) : s.now ≤ (reseed n s).now := takeSeed_now_le s

theorem reseed_pwr (n : Nat) (s : State) : (reseed n s).pwr = s.pwr := takeSeed_pwr s

theorem stallCall_now_le (n : Nat) (s : State) : s.now ≤ (stallCall n s).now := by
  unfold stallCall
  split
  · exact Nat.le_trans (reseed_now_le n (bump Obj.RNG_STALLS s)) (Nat.le_add_right ..)
  · exact Nat.le_refl _

/-- At a count of 2^20 a generate call takes at least the 40 cycles of its reseed. -/
theorem stallCall_now_of_full {n : Nat} {s : State} (h : 2 ^ 20 ≤ (drbg s n).count) : s.now + cyclesNs s 40 ≤ (stallCall n s).now := by
  have hclock : cyclesNs (reseed n (bump Obj.RNG_STALLS s)) 40 = cyclesNs s 40 := by
    unfold cyclesNs
    rw [reseed_pwr, bump_pwr]
  unfold stallCall
  rw [if_pos h]
  exact Nat.add_le_add (reseed_now_le n (bump Obj.RNG_STALLS s)) (Nat.le_of_eq hclock.symm)

/-- Stretching an interval takes no time. -/
theorem drawCall_now (n len : Nat) (s : State) : (drawCall n len s).2.now = (stallCall n s).now := by
  have hstretch : ∀ u, (stretch n u).now = u.now := fun u => by unfold stretch; dsimp only; split <;> rfl
  exact hstretch _

theorem drawPass_now_le (n k : Nat) (s : State) : s.now ≤ (drawPass n k s).now := by
  induction k generalizing s with
  | zero => exact Nat.le_refl _
  | succ k ih => exact Nat.le_trans (stallCall_now_le n s) (Nat.le_trans (Nat.le_of_eq (drawCall_now n 64 s).symm) (ih _))

theorem drawPass_now_of_full {n k : Nat} {s : State} (h : 2 ^ 20 ≤ (drbg s n).count) (hk : 0 < k) :
    s.now + cyclesNs s 40 ≤ (drawPass n k s).now := by
  cases k with
  | zero => exact absurd hk (Nat.lt_irrefl 0)
  | succ k =>
    calc s.now + cyclesNs s 40 ≤ (stallCall n s).now := stallCall_now_of_full h
      _ = (drawCall n 64 s).2.now := (drawCall_now n 64 s).symm
      _ ≤ (drawPass n (k + 1) s).now := drawPass_now_le n k _

/-! ### A slot freed while its overwrite stalls (R341) -/

/-- The overwrite of a slot draws from instance 43 for each of its units: where that instance's count is full, freeing the slot takes time. -/
theorem freeSlot_now_of_full {h : Nat} {v : Slot} {s : State} (hv : mget? s.kreg.slots h = some v) (hunits : 0 < v.units)
    (hready : s.rng.st = .ready) (hfull : 2 ^ 20 ≤ (drbg s 43).count) : s.now + cyclesNs s 40 ≤ (freeSlot h s).now := by
  have hmem : v.units ∈ (s.kreg.slots.filter (fun p => decide (p.1 ∈ [h]))).map (fun p => p.2.units) :=
    List.mem_map_of_mem (f := fun p : Nat × Slot => p.2.units) (List.mem_filter.mpr ⟨mem_of_mget? hv, by simp⟩)
  have hnow : (freeSlot h s).now = (overwriteUnits [h] s).now := rfl
  rw [hnow]
  unfold overwriteUnits
  rw [if_pos (show rngReady s = true from decide_eq_true hready)]
  exact drawPass_now_of_full hfull (List.sum_pos_iff_exists_pos_nat.mpr ⟨v.units, hmem, hunits⟩)

/-! ### The time-out of a fill (R353) -/

/-- The state in which the time-out of fill `f` frees its slot. -/
def fillAborted (f : Fill) (s : State) : State :=
  let t := advanceTo (f.startedAt + sec 300) s
  endFillStep { t with kreg := { t.kreg with fill := none } }

theorem exec_fillTimeout {f : Fill} {s : State} (hf : s.kreg.fill = some f) :
    exec .fillTimeout s = .next (setObj Obj.KREG_FILL_STATE 3 (freeSlot f.handle (fillAborted f s))) := by
  show execFillTimeout s = _
  have hfill : (advanceTo (f.startedAt + sec 300) s).kreg.fill = some f := hf
  unfold execFillTimeout failFill fillAborted
  simp only [hf, hfill]

/-- A time-out whose overwrite stalls ends later than its moment, by the reseed's 40 cycles at least. -/
theorem fillTimeout_late {f : Fill} {v : Slot} {s t : State} (hf : s.kreg.fill = some f) (hv : mget? s.kreg.slots f.handle = some v)
    (hunits : 0 < v.units) (hready : s.rng.st = .ready) (hfull : 2 ^ 20 ≤ (drbg s 43).count) (hexec : exec .fillTimeout s = .next t) :
    max s.now (f.startedAt + sec 300) + cyclesNs s 40 ≤ t.now := by
  have ht := Host.Outcome.next.inj ((exec_fillTimeout hf).symm.trans hexec)
  rw [← ht]
  exact freeSlot_now_of_full (s := fillAborted f s) hv hunits hready hfull

/-- A fill that waits for one card's component, in the slot at handle 1. -/
def waitingFill : Fill := { handle := 1, components := 1, done := 0, officers := [], startedAt := 0 }

/-- That slot: a 32-byte secret, LOADING. -/
def waitingSlot : Slot :=
  { owner := 2, alg := 8, pset := 32, usage := uDERIVE, st := .loading, persist := false, isPublic := false, stateful := false,
    origin := 5, base := 0, units := 1, expiry := 0, seed := 0, accesses := 0, refreshedAt := 0, retiredAt := none, data := zeros 32,
    pub := [] }

/-- The fill waits while instance 43, whose reseed is pending, has made 2^20 generate calls since the last one. -/
def stalledFill : State :=
  { State.reset with
    rng := { RngSt.reset with st := .ready, drbg := [(43, { count := 2 ^ 20, interval := 2 ^ 20, calls := 2 ^ 20, pending := true })] },
    kreg := { KregSt.reset with slots := [(1, waitingSlot)], fill := some waitingFill } }

end Sys2Proof.Machine

open Sys2Proof Sys2Proof.Machine

/-- Refutes O42: its last clause has FILL_TIMEOUT end at the very moment of the time-out.  The step frees the fill's slot, whose overwrite
draws from instance 43 (R341); in `stalledFill` that draw stalls for its reseed (R511), and the step ends 40 cycles later or more. -/
theorem not_keyRegisterEvents : ¬ Obligations.KeyRegisterEvents := by
  unfold Obligations.KeyRegisterEvents
  rintro ⟨-, -, -, -, -, -, -, -, -, -, -, htimeout⟩
  obtain ⟨t, hexec, -, -, -, hnow⟩ := htimeout waitingFill stalledFill rfl rfl
  have hlate : max stalledFill.now (waitingFill.startedAt + sec 300) + cyclesNs stalledFill 40 ≤ t.now :=
    fillTimeout_late (v := waitingSlot) rfl rfl (by decide) rfl (by decide) hexec
  have hcycles : 0 < cyclesNs stalledFill 40 := by decide
  rw [hnow] at hlate
  exact Nat.not_lt_of_le hlate (Nat.lt_add_of_pos_right hcycles)
end

section
/-!
PROOFS. A digest unit turns to a job before the job's key check is made (R363, R390): a key that expires during the context change passes
the check in the state that OPEN or ONESHOT finds and fails it when it is made.  DigestContexts (O43) and DigestOneStep (O44) ask only for
the first.
-/
namespace Sys2Proof.Machine

/-! ### A digest job that its key check stops (R231, R366) -/

/-- The job as its command runs on unit `u`, the unit having turned to it: the cycles of its earlier turns are behind it. -/
def turnedJob (e u : Nat) (x : Entry) (s : State) : Entry :=
  let t := turnTo u x s
  let got := ((digUnit s u).served.find? (fun p => decide (p.1 = e))).elim 0 (·.2)
  { x with segAt := if got = 0 then x.segAt + (t.now - s.now) else t.now - cyclesNs s (got * blockCyc s x) }

/-- The state its command runs on. -/
def turnedState (e u : Nat) (x : Entry) (s : State) : State := setEntry e (turnedJob e u x s) (turnTo u x s)

theorem digTurn_eq (e u : Nat) (x : Entry) (f : Entry → Nat → State → Res × State) (s : State) :
    digTurn e u x f s = finish e (f (turnedJob e u x s) u (turnedState e u x s)).1 (f (turnedJob e u x s) u (turnedState e u x s)).2 := rfl

/-- A unit that has served another job last turns to this one in 12 cycles. -/
theorem turnTo_now_of_other {u : Nat} {x : Entry} {s : State} (h : (digUnit s u).last ≠ some x.serial) :
    (turnTo u x s).now = s.now + cyclesNs s 12 := by
  unfold turnTo
  dsimp only
  rw [if_neg h]
  rfl

/-- A key whose use is refused fails the check, where no key is missing and no erasure runs (R231). -/
theorem keyCheck_policy {s : State} {colour : Nat} {seeded : Bool} {q : Need} (hpolicy : some .keyPolicy ∈ q.keys)
    (hempty : some .keyEmpty ∉ q.keys) (herasing : s.kreg.erasing = none) : keyCheck s colour seeded q = some .keyPolicy := by
  unfold keyCheck
  simp [hpolicy, hempty, herasing]

/-- A digest job whose run stops at KEY_POLICY ends so. -/
theorem digTurn_policy {e u c : Nat} {x : Entry} {f : Entry → Nat → State → Res × State} {s : State}
    (h : f (turnedJob e u x s) u (turnedState e u x s) = (Res.stop .keyPolicy c, turnedState e u x s)) :
    EndedWith (digTurn e u x f s) e .keyPolicy 0 [] := by
  rw [digTurn_eq, h, finish_stop (.inr (.inl rfl))]
  exact endJob_ends .keyPolicy 0 [] [] (spend_entry c (setEntry_same e (turnedJob e u x s) (turnTo u x s)))

theorem EndedWith.status_unique {t : State} {e d d' : Nat} {st st' : Status} {out out' : Bytes} (h : EndedWith t e st d out)
    (h' : EndedWith t e st' d' out') : st = st' := by
  obtain ⟨y, hy, -, hst, -⟩ := h
  obtain ⟨z, hz, -, hst', -⟩ := h'
  rw [← hst, ← hst', Option.some.inj (hy.symm.trans hz)]

/-- The next context number is there while any number of the 4,096 is FREE. -/
theorem nextCtx_of_free {s : State} {n : Nat} (hn : n < 4096) (hfree : mget? s.dig.ctx n = none) : ∃ m, nextCtx s = some m := by
  have hmem : n ∈ (List.range 4096).filter (fun k => (mget? s.dig.ctx k).isNone) :=
    List.mem_filter.mpr ⟨List.mem_range.mpr hn, by rw [hfree]; rfl⟩
  obtain ⟨m, -, hm⟩ := nextBy_of_mem (if 4096 ≤ s.dig.lastCtx then none else some s.dig.lastCtx) hmem
  exact ⟨m, hm⟩

/-! ### A key that expires in the context change -/

/-- A key for HMAC whose lifetime ends when bits 55:8 of TIME64 read 1. -/
def fadingSlot : Slot :=
  { owner := 2, alg := 8, pset := 32, usage := uDERIVE, st := .active, persist := false, isPublic := false, stateful := false,
    origin := 2, base := 0, units := 1, expiry := 1, seed := 0, accesses := 0, refreshedAt := 0, retiredAt := none, data := zeros 32,
    pub := [] }

/-- A job of HMAC-SHA-256 under the key at handle 1, with no input; an OPEN's AUX has bit 0 set (R372). -/
def hmacJob (opcode : Nat) : Entry :=
  { origin := .ring 4096, colour := 2, prio := 0, serial := 0,
    desc := { opcode := opcode, pset := 0x0B, ctrl := 0, key := 1, key2 := 0, userTag := 0, segs := [(0, 0)], outLen := 32, outAddr := 0,
              aux := if opcode = 0x0810 then 1 else 0, aux2 := 0, totalLen := 0, subIndex := 0, entries := 1 },
    pages := [0, 1], inPages := 0, outPages := 0, stream := [], phase := .waiting, slice := 0xFF, startedAt := 0, segAt := 0, progress := 0,
    segsSince := 0, cycles := 0, keyChecked := false, target := none, lksTarget := none, tag := [], endedAt := 0, status := .ok,
    detail := 0, output := [], scrub := 0, late := [] }

/-- One nanosecond before the key's lifetime ends, the job is alone in flight, on digest unit 0, which has served none yet. -/
def fadingState (opcode : Nat) : State :=
  { State.reset with
    now := 3906249,
    ring := { RingSt.reset with entries := [(0, hmacJob opcode)], serial := 1 },
    kreg := { KregSt.reset with slots := [(1, fadingSlot)] },
    dig := { DigSt.reset with units := [(0, { DigUnit.reset with jobs := [0] })] } }

/-- A command that names no context reaches no record. -/
theorem fadingState_onDigest {opcode : Nat} (h : digNames (hmacJob opcode) = (none, none)) :
    OnDigest 0 opcode (hmacJob opcode) (fadingState opcode) := by
  refine ⟨rfl, rfl, rfl, rfl, 0, rfl, fun r a hc => ?_⟩
  unfold ctxAccess at hc
  rw [h] at hc
  cases hc

/-- TIME64 as the RTC of reset counts it. -/
theorem expiryNow_of_reset {t : State} (h : t.pwr = PwrSt.reset) : expiryNow t = bits (t.now * 65536 / 1000000000 % 2 ^ 64) 55 8 := by
  unfold expiryNow time64 time64At
  rw [h]
  simp only [PwrSt.reset, Nat.zero_add, Nat.sub_zero]

/-- The key may be used until its lifetime ends. -/
theorem fadingKey_check {t : State} (h : t.kreg = { KregSt.reset with slots := [(1, fadingSlot)] }) :
    slotFails t 2 1 deriveKeyOk = if 1 ≤ expiryNow t then some .keyPolicy else none := by
  have hslot : slot? t 1 = some fadingSlot := by
    unfold slot?
    rw [h]
    rfl
  have hexpired : expired t fadingSlot = decide (1 ≤ expiryNow t) := by simp [expired, fadingSlot]
  have hlink : linkOnly fadingSlot = false := rfl
  have hkey : deriveKeyOk fadingSlot = true := rfl
  have herasing : t.kreg.erasing = none := by rw [h]; rfl
  unfold slotFails
  simp only [herasing, hslot, hexpired, hlink, hkey]
  simp [fadingSlot]

theorem fadingKey_usable (opcode : Nat) : slotFails (fadingState opcode) 2 1 deriveKeyOk = none := by
  have hnow : (fadingState opcode).now = 3906249 := rfl
  rw [fadingKey_check rfl, expiryNow_of_reset rfl, hnow]
  rfl

/-- The context change takes 10 ns, and the key's lifetime ends within it. -/
theorem fadingKey_expires (opcode : Nat) :
    slotFails (turnedState 0 0 (hmacJob opcode) (fadingState opcode)) 2 1 deriveKeyOk = some .keyPolicy := by
  have hlast : (digUnit (fadingState opcode) 0).last = none := rfl
  have hcycles : cyclesNs (fadingState opcode) 12 = 10 := (by decide : 12 * 1000 / max 1200 1 = 10)
  have hturn : (turnTo 0 (hmacJob opcode) (fadingState opcode)).now = 3906249 + cyclesNs (fadingState opcode) 12 :=
    turnTo_now_of_other (by rw [hlast]; exact (Option.some_ne_none _).symm)
  have hnow : (turnedState 0 0 (hmacJob opcode) (fadingState opcode)).now = 3906259 := hturn.trans (by rw [hcycles])
  rw [fadingKey_check rfl, expiryNow_of_reset rfl, hnow]
  rfl

/-- In the state that the row finds, the job's key check passes. -/
theorem fadingState_passes (opcode : Nat) {q : Need} (h : q = { Need.none_ with keys := [slotFails (fadingState opcode) 2 1 deriveKeyOk] }) :
    keyCheck (fadingState opcode) 2 true q = none := by
  rw [h, fadingKey_usable]
  rfl

/-- When its unit has turned to the job, the key is refused. -/
theorem turnedState_refuses (opcode : Nat) {q : Need}
    (h : q.keys = [slotFails (turnedState 0 0 (hmacJob opcode) (fadingState opcode)) 2 1 deriveKeyOk]) :
    keyCheck (turnedState 0 0 (hmacJob opcode) (fadingState opcode)) 2 true q = some .keyPolicy := by
  rw [fadingKey_expires] at h
  exact keyCheck_policy (by rw [h]; decide) (by rw [h]; decide) rfl

/-- The job's row ends it KEY_POLICY, where its command's run stops so. -/
theorem fadingState_ends {opcode c : Nat} {f : Entry → Nat → State → Res × State} (h : digNames (hmacJob opcode) = (none, none))
    (hf : f (turnedJob 0 0 (hmacJob opcode) (fadingState opcode)) 0 (turnedState 0 0 (hmacJob opcode) (fadingState opcode)) =
      (Res.stop .keyPolicy c, turnedState 0 0 (hmacJob opcode) (fadingState opcode))) :
    EndedWith (digRow opcode 0 f (fadingState opcode)) 0 .keyPolicy 0 [] := by
  obtain ⟨u, hu, hrow⟩ := digRow_onDigest f (fadingState_onDigest h)
  have h0 : u = 0 := Option.some.inj (hu.symm.trans (show unitOf? (fadingState opcode) 0 = some 0 from rfl))
  subst h0
  rw [hrow]
  exact digTurn_policy hf

theorem runOpenCtx_refused : runOpenCtx (turnedJob 0 0 (hmacJob 0x0810) (fadingState 0x0810)) 0
      (turnedState 0 0 (hmacJob 0x0810) (fadingState 0x0810)) =
    (Res.stop .keyPolicy 120, turnedState 0 0 (hmacJob 0x0810) (fadingState 0x0810)) := by
  have hcheck := turnedState_refuses 0x0810 (q := { Need.none_ with
    keys := [slotFails (turnedState 0 0 (hmacJob 0x0810) (fadingState 0x0810)) 2 1 deriveKeyOk],
    other := ctxQuota (turnedState 0 0 (hmacJob 0x0810) (fadingState 0x0810)) 2 }) rfl
  unfold runOpenCtx
  dsimp only
  split
  · next st h => rw [Option.some.inj (h.symm.trans hcheck)]
  · next h _ => exact absurd (hcheck.symm.trans h) (Option.some_ne_none _)
  · next h _ => exact absurd (hcheck.symm.trans h) (Option.some_ne_none _)

theorem runOneshot_refused : runOneshot (turnedJob 0 0 (hmacJob 0x0813) (fadingState 0x0813)) 0
      (turnedState 0 0 (hmacJob 0x0813) (fadingState 0x0813)) =
    (Res.stop .keyPolicy 120, turnedState 0 0 (hmacJob 0x0813) (fadingState 0x0813)) := by
  have hcheck := turnedState_refuses 0x0813 (q := { Need.none_ with
    keys := [slotFails (turnedState 0 0 (hmacJob 0x0813) (fadingState 0x0813)) 2 1 deriveKeyOk] }) rfl
  unfold runOneshot
  dsimp only
  split
  · next st h => rw [Option.some.inj (h.symm.trans hcheck)]
  · next h => exact absurd (hcheck.symm.trans h) (Option.some_ne_none _)

end Sys2Proof.Machine

open Sys2Proof Sys2Proof.Machine

/-- Refutes O43: its clause on OPEN asks that the key check passes in the state that the row finds, but the check is made after the unit's
context change (R363).  In `fadingState` the key expires within that change, and OPEN ends KEY_POLICY. -/
theorem not_digestContexts : ¬ Obligations.DigestContexts := by
  unfold Obligations.DigestContexts
  rintro ⟨hopen, -⟩
  obtain ⟨n, hn⟩ := nextCtx_of_free (s := fadingState 0x0810) (n := 0) (by decide) rfl
  obtain ⟨t, hexec, hok, -⟩ :=
    hopen 0 (hmacJob 0x0810) n (fadingState 0x0810) (fadingState_onDigest rfl) (fadingState_passes 0x0810 rfl) hn
  have hpolicy : EndedWith t 0 .keyPolicy 0 [] := Host.Outcome.next.inj hexec ▸ fadingState_ends rfl runOpenCtx_refused
  exact Status.noConfusion (hok.status_unique hpolicy)

/-- Refutes O44: its clause on ONESHOT asks that the key check passes in the state that the row finds, but the check is made after the unit's
context change (R363).  In `fadingState` the key expires within that change, and ONESHOT ends KEY_POLICY. -/
theorem not_digestOneStep : ¬ Obligations.DigestOneStep := by
  unfold Obligations.DigestOneStep
  rintro ⟨honeshot, -⟩
  obtain ⟨t, hexec, -, hok⟩ :=
    honeshot 0 (hmacJob 0x0813) (fadingState 0x0813) (fadingState_onDigest rfl) (fadingState_passes 0x0813 rfl)
  have hpolicy : EndedWith t 0 .keyPolicy 0 [] := Host.Outcome.next.inj hexec ▸ fadingState_ends rfl runOneshot_refused
  exact Status.noConfusion (hok.status_unique hpolicy)
end

section
/-!
PROOFS. The graft exchange: what a circuit's exchange reads back as after each operation on it, what a stage's steps leave of it, and what
each event does where its conditions hold (R369, R370, R433, R439–R441, R443–R445, R447–R449).
-/
namespace Sys2Proof.Machine

/-! ### A circuit's exchange read back (R447) -/

theorem graftOf_congr {s t : State} (h : t.graft = s.graft) (c : Nat) : graftOf t c = graftOf s c :=
  congrArg (fun g : GraftSt => tget (fun _ => Graft.reset) g.circuits c) h

theorem setGraft_graft (c : Nat) (g : Graft) (s : State) :
    (setGraft c g s).graft = { s.graft with circuits := tset (fun _ => Graft.reset) s.graft.circuits c g } := by
  unfold setGraft; dsimp only; split <;> rfl

@[simp] theorem setGraft_sp (c : Nat) (g : Graft) (s : State) : (setGraft c g s).sp = s.sp := by
  unfold setGraft; dsimp only; split <;> rfl

/-- An exchange that is not that of reset reads back as it was written. -/
theorem graftOf_setGraft (c : Nat) {g : Graft} (s : State) (h : g ≠ Graft.reset) : graftOf (setGraft c g s) c = g := by
  unfold graftOf
  rw [setGraft_graft]
  exact tget_tset_of_ne _ _ _ h

theorem Graft.ne_reset_of_st {g : Graft} (h : g.st ≠ .idle) : g ≠ Graft.reset := fun e => h (congrArg Graft.st e)

theorem Graft.ne_reset_of_stage {g : Graft} (h : g.stage ≠ .none_) : g ≠ Graft.reset := fun e => h (congrArg Graft.stage e)

theorem Graft.ne_reset_of_pending {g : Graft} (h : g.pending = true) : g ≠ Graft.reset :=
  fun e => Bool.noConfusion (h.symm.trans (congrArg Graft.pending e))

theorem graftTimer_graft (a : Time) (s : State) : (graftTimer a s).graft = s.graft := wakeCore_graft _

theorem graftTimer_dict (a : Time) (s : State) : (graftTimer a s).dict = s.dict := wakeCore_dict _

theorem graftOf_graftTimer (a : Time) (s : State) (c : Nat) : graftOf (graftTimer a s) c = graftOf s c :=
  graftOf_congr (graftTimer_graft a s) c

theorem objVal_graftTimer (a : Time) (s : State) (id : ObjId) : objVal (graftTimer a s) id = objVal s id :=
  congrArg (fun d : DictSt => tget objDefault d.obj id) (graftTimer_dict a s)

theorem cVal_graftTimer (a : Time) (s : State) (c : Nat) (base : ObjId) : cVal (graftTimer a s) c base = cVal s c base :=
  objVal_graftTimer a s _

theorem bufRoom_wakeCore (s : State) (n : Nat) : bufRoom (wakeCore s) n = bufRoom s n := by
  unfold wakeCore; split <;> rfl

theorem grSuite_wakeCore (s : State) (c : Nat) : grSuite (wakeCore s) c = grSuite s c := by
  unfold wakeCore; split <;> rfl

/-! ### The steps of a stage (R157, R598) -/

theorem lksWrite_graft (b : Bytes) (a : Nat) (s : State) : (lksWrite a b s).graft = s.graft := by
  induction b generalizing a s with
  | nil => rfl
  | cons x r ih =>
    refine (ih (a + 1) _).trans ?_
    unfold lksPut
    split
    · split <;> rfl
    · rfl

theorem ctxWrite_graft (b : Bytes) (a : Nat) (s : State) : (ctxWrite a b s).graft = s.graft := by
  induction b generalizing a s with
  | nil => rfl
  | cons x r ih =>
    refine (ih (a + 1) _).trans ?_
    split <;> rfl

theorem memWrite_graft (a : Nat) (b : Bytes) (s : State) : (memWrite a b s).graft = s.graft := by
  unfold memWrite
  split
  · exact lksWrite_graft b a s
  · split
    · exact ctxWrite_graft b a s
    · rfl

theorem writePages_graft (ps : List Nat) (b : Bytes) (s : State) : (writePages ps b s).graft = s.graft := by
  induction ps generalizing b s with
  | nil => rfl
  | cons p r ih => exact (ih _ _).trans (memWrite_graft _ _ s)

theorem awaitPages_graft (ps : List Nat) (s : State) : (awaitPages ps s).graft = s.graft := by
  induction ps generalizing s with
  | nil => rfl
  | cons p r ih =>
    refine (ih _).trans ?_
    unfold awaitPage
    dsimp only
    split <;> rfl

theorem retagPages_graft (tag : Nat) (ps : List Nat) (s : State) : (retagPages tag ps s).graft = s.graft := by
  induction ps generalizing s with
  | nil => rfl
  | cons p r ih => exact ih _

theorem assignDigest_graft (e opcode : Nat) (s : State) : (assignDigest e opcode s).graft = s.graft := by
  unfold assignDigest
  split
  · rfl
  · split <;> rfl

theorem admitJob_graft (o : Origin) (colour prio : Nat) (d : Desc) (c : CmdSpec) (stream : Bytes) (s : State) :
    (admitJob o colour prio d c stream s).graft = s.graft := by
  unfold admitJob
  split
  · rfl
  · rename_i e _
    dsimp only
    generalize pickPages (usedPages s) (c.inPages + c.outPages + c.resume) = ps
    have hpages : (writePages (ps.take c.inPages) stream (tagPages colour ps s)).graft = s.graft :=
      (writePages_graft _ _ _).trans ((retagPages_graft _ _ _).trans (awaitPages_graft _ _))
    refine (assignDigest_graft _ _ _).trans (Eq.trans ?_ hpages)
    show (if (opClass d.opcode).isNone then rouseEngine _ else _).graft = _
    split <;> rfl

/-- Internal jobs are admitted without a change to any exchange. -/
theorem admitInternal_graft (s : State) : (admitInternal s).graft = s.graft := by
  unfold admitInternal
  generalize s.ring.internalWait = l
  have start : ({ s with ring := { s.ring with internalWait := [] } } : State).graft = s.graft := rfl
  generalize ({ s with ring := { s.ring with internalWait := [] } } : State) = t at start
  induction l generalizing t with
  | nil => exact start
  | cons w r ih =>
    refine ih _ ?_
    dsimp only
    split
    · exact (admitJob_graft _ _ _ _ _ _ t).trans start
    · exact start

/-- A step that is submitted leaves its exchange as it was, but for the results. -/
theorem addStep_graftOf (c : Nat) (x : Step_) (s : State) :
    ∃ rs, graftOf (addStep c x s) c = { graftOf s c with results := rs } := by
  unfold addStep
  split
  · refine ⟨_, graftOf_setGraft c s fun e => ?_⟩
    exact List.append_ne_nil_of_right_ne_nil _ (List.cons_ne_nil _ _) (congrArg Graft.results e)
  · exact ⟨_, rfl⟩

theorem addSteps_graftOf (c : Nat) (l : List Step_) (s : State) :
    ∃ rs, graftOf (l.foldl (fun t x => addStep c x t) s) c = { graftOf s c with results := rs } := by
  induction l generalizing s with
  | nil => exact ⟨_, rfl⟩
  | cons x r ih =>
    obtain ⟨rs, h⟩ := addStep_graftOf c x s
    obtain ⟨rs', h'⟩ := ih (addStep c x s)
    exact ⟨rs', h'.trans (by rw [h])⟩

/-- A stage that begins leaves its exchange as it was, but for the stage, its steps and their results. -/
theorem beginStage_graftOf (c : Nat) {g : GraftStage} (l : List Step_) (s : State) (h : g ≠ .none_) :
    ∃ rs, graftOf (beginStage c g l s) c = { graftOf s c with stage := g, jobs := l.length, results := rs } := by
  unfold beginStage
  obtain ⟨rs, hrs⟩ := addSteps_graftOf c l (setGraft c { graftOf s c with stage := g, jobs := l.length, results := [] } s)
  refine ⟨rs, ((graftOf_congr (admitInternal_graft _) c).trans hrs).trans ?_⟩
  rw [graftOf_setGraft c s (Graft.ne_reset_of_stage h)]

/-- A stage that begins right after its exchange is written. -/
theorem beginStage_setGraft (c : Nat) {g : GraftStage} (l : List Step_) {x : Graft} (s : State) (h : g ≠ .none_) (hx : x.st ≠ .idle) :
    ∃ rs, graftOf (beginStage c g l (setGraft c x s)) c = { x with stage := g, jobs := l.length, results := rs } := by
  obtain ⟨rs, hrs⟩ := beginStage_graftOf c l (setGraft c x s) h
  exact ⟨rs, by rw [hrs, graftOf_setGraft c s (Graft.ne_reset_of_st hx)]⟩

/-! ### Triggers and starts (R443, R447–R449) -/

theorem exec_grCRekey (c : Caller) {n : Nat} (data : Bytes) (s : State) (hn : n < 8192) :
    exec (.grCRekey c n data) s = .next (writeAccess c (at_ Obj.GR_C_REKEY n) data (portRule (trigger n true)) s) :=
  congrArg Host.Outcome.next (if_pos hn)

theorem trigger_holds {c : Nat} (f : Bool) {s : State} (hrole : cVal s c Obj.GR_C_ROLE ≠ 2) (hbound : cVal s c Obj.SP_C_TENANT ≠ 0xFFFF) :
    (graftOf (trigger c f s) c).pending = true := by
  unfold trigger
  rw [if_neg (not_or.mpr ⟨hrole, hbound⟩)]
  dsimp only
  rw [graftOf_congr (rouseCore_graft _), graftOf_setGraft c s (Graft.ne_reset_of_pending rfl)]

theorem exec_graftPeriodExpiry {c : Nat} {s : State} (hbound : cVal s c Obj.SP_C_TENANT ≠ 0xFFFF) (hdone : (graftOf s c).periodDone = false) :
    exec (.graftPeriodExpiry c) s = .next (trigger c false (setGraft c { graftOf s c with periodDone := true }
      (graftTimer (graftOf s c).periodDue s))) :=
  congrArg Host.Outcome.next (if_neg (by simp [hbound, hdone]))

theorem tryStart_starts {c : Nat} {s : State} (hw : wantsGraft s c = true) (hm : mayStart s c = true) (hp : pauseOver s c = true) :
    tryStart c s = startGraft c (wakeCore s) := if_pos (by rw [hw, hm, hp]; rfl)

/-- Key generation begins in an exchange that this side initiates. -/
theorem beginStage_initiates (c : Nat) (l : List Step_) {x : Graft} (s : State) (hst : x.st = .g1Sent) (hi : x.initiator = true) :
    let g := graftOf (beginStage c .iKeygen l (setGraft c x s)) c
    g.st = .g1Sent ∧ g.initiator = true ∧ g.stage = .iKeygen := by
  obtain ⟨rs, h⟩ := beginStage_setGraft c l s (GraftStage.noConfusion : GraftStage.iKeygen ≠ .none_) (by rw [hst]; exact GraftState.noConfusion)
  rw [h]
  exact ⟨hst, hi, rfl⟩

/-- With room for G1 and a READY source, the circuit is the initiator of an exchange whose key generation runs. -/
theorem startGraft_begins {c : Nat} {s : State} (hroom : bufRoom s (bodyPages (g1Len (grSuite s c))) = true) (hrng : s.rng.st = .ready) :
    (graftOf (startGraft c s) c).st = .g1Sent ∧ (graftOf (startGraft c s) c).initiator = true ∧
      (graftOf (startGraft c s) c).stage = .iKeygen := by
  unfold startGraft
  dsimp only
  rw [if_neg (by simp [hroom]), if_neg (by simp [rngReady, hrng])]
  exact beginStage_initiates c _ _ rfl rfl

theorem exec_graftBufferFreed {c : Nat} {s : State} (hw : (graftOf s c).waitBuf = true)
    (hroom : bufRoom s (bodyPages (g1Len (grSuite s c))) = true) :
    exec (.graftBufferFreed c) s = .next (tryStart c (setGraft c { graftOf s c with waitBuf := false } s)) :=
  congrArg Host.Outcome.next (if_pos (by rw [hw, hroom]; rfl))

/-! ### Messages (R433, R440, R444, R445) -/

/-- A message that the exchange takes is the one that waits, acceptable in the circuit's state. -/
theorem takeMsg_some {s : State} {c type : Nat} {m : Bytes} (h : takeMsg s c type = some m) :
    (graftOf s c).rx = some m ∧ msgAcceptable s c type (gmXid m) = true := by
  unfold takeMsg at h
  split at h
  · cases h
  · next b hb =>
    split at h
    · next hok =>
      cases h
      exact ⟨hb, hok.2.1⟩
    · cases h

/-- A G2 is taken by an initiator that has sent its G1 and waits for the answer. -/
theorem takeMsg_g2_st {s : State} {c : Nat} {m : Bytes} (h : takeMsg s c 2 = some m) : (graftOf s c).st = .g1Sent :=
  (of_decide_eq_true (takeMsg_some h).2).1

/-- The first steps begin in an exchange that answers a G1. -/
theorem beginStage_answers (c : Nat) (l : List Step_) {x : Graft} (s : State) (hst : x.st = .g2Sent) :
    let g := graftOf (beginStage c .rShare l (setGraft c x s)) c
    g.st = .g2Sent ∧ g.xid = x.xid ∧ g.g1 = x.g1 ∧ g.stage = .rShare := by
  obtain ⟨rs, h⟩ := beginStage_setGraft c l s (GraftStage.noConfusion : GraftStage.rShare ≠ .none_) (by rw [hst]; exact GraftState.noConfusion)
  rw [h]
  exact ⟨hst, rfl, rfl, rfl⟩

/-- The answer to a G1: a responder's exchange under the G1's XID, its first steps running. -/
theorem respond_answers (c : Nat) (m : Bytes) (s : State) :
    (graftOf (respond c m s) c).st = .g2Sent ∧ (graftOf (respond c m s) c).xid = gmXid m ∧ (graftOf (respond c m s) c).g1 = m ∧
      (graftOf (respond c m s) c).stage = .rShare := by
  unfold respond
  dsimp only
  exact beginStage_answers c _ _ rfl

theorem exec_graftG1Received {c : Nat} {m : Bytes} {s : State} (h : takeMsg s c 1 = some m) :
    exec (.graftG1Received c) s = .next (if (graftOf s c).st = .g1Sent then collide c m (setGraft c { graftOf s c with rx := none } s)
      else respond c m (setGraft c { graftOf s c with rx := none } s)) := by
  show execGraftG1Received c s = _
  unfold execGraftG1Received
  rw [h]

/-- In a collision the N_I compared is the one this side sent (R433). -/
theorem collide_taken {c : Nat} {s : State} (h : (graftOf s c).st = .g1Sent) (m : Bytes) :
    collide c m (setGraft c { graftOf s c with rx := none } s) =
      if beNat (graftOf s c).nI < beNat (gmNonce m) then respond c m (bump Obj.GR_COLLISIONS (setGraft c { graftOf s c with rx := none } s))
      else bump Obj.GR_COLLISIONS (setGraft c { graftOf s c with rx := none } s) := by
  have hread : graftOf (setGraft c { graftOf s c with rx := none } s) c = { graftOf s c with rx := none } :=
    graftOf_setGraft c s (Graft.ne_reset_of_st (by rw [h]; exact GraftState.noConfusion))
  unfold collide
  dsimp only
  rw [hread]

/-! ### Hashing (R369, R370) -/

theorem hashJob_of_reach {colour : Nat} {r : CtxRec} {s : State} (h : HashReach s colour r) :
    ∃ u, ∀ (k : Nat) (lost done : State → State), hashJob colour r k lost done s = done (hashTurn u k s) := by
  obtain ⟨u, hu, hc⟩ := h
  refine ⟨u, fun k lost done => ?_⟩
  unfold hashJob
  simp only [hu, hc]

/-- A unit that has served a job reads back as it was written. -/
theorem digUnit_setDigUnit (u : Nat) {v : DigUnit} {k : Nat} (s : State) (h : v.last = some k) : digUnit (setDigUnit u v s) u = v :=
  tget_tset_of_ne _ _ _ fun e => Option.some_ne_none k (h.symm.trans (congrArg DigUnit.last e))

/-- A unit that is not re-initialised takes the hashing's cycles and a context change, and has then served the hashing last. -/
theorem hashTurn_turns {u : Nat} {s : State} (h : (digUnit s u).initAt = none) (k : Nat) :
    (hashTurn u k s).now = s.now + cyclesNs s (12 + k) ∧ (digUnit (hashTurn u k s) u).last = some s.ring.serial ∧
      (digUnit (hashTurn u k s) u).jobs = (digUnit s u).jobs ∧ (hashTurn u k s).ring.serial = s.ring.serial + 1 ∧
      (hashTurn u k s).graft = s.graft := by
  unfold hashTurn
  rw [h]
  dsimp only
  refine ⟨rfl, ?_, ?_, rfl, rfl⟩
  · rw [digUnit_setDigUnit u _ rfl]
  · rw [digUnit_setDigUnit u _ rfl]

theorem exec_graftG2Received {c : Nat} {m : Bytes} {s : State} (h : takeMsg s c 2 = some m)
    (hr : HashReach s (circuitColour s c) (.graftDigest c)) :
    ∃ t l, exec (.graftG2Received c) s =
      .next (beginStage c .iVerify l (setGraft c { graftOf s c with rx := none, g2 := m, rxLen := m.length } t)) := by
  obtain ⟨u, hu⟩ := hashJob_of_reach hr
  have hrow : exec (.graftG2Received c) s = execGraftG2Received c s := rfl
  rw [hrow, execGraftG2Received, h]
  exact ⟨_, _, congrArg Host.Outcome.next (hu _ _ _)⟩

theorem exec_graftG3Received {c : Nat} {m : Bytes} {s : State} (h : takeMsg s c 3 = some m) (hst : (graftOf s c).st = .g2Sent)
    (hr : HashReach s (circuitColour s c) (.graftDigest c)) :
    ∃ t l, exec (.graftG3Received c) s =
      .next (beginStage c .rVerify l (setGraft c { graftOf s c with rx := none, g3 := m, rxLen := m.length } t)) := by
  obtain ⟨u, hu⟩ := hashJob_of_reach hr
  have hrow : exec (.graftG3Received c) s = execGraftG3Received c s := rfl
  rw [hrow, execGraftG3Received, h]
  exact ⟨_, _, congrArg Host.Outcome.next ((if_neg (not_not_intro hst)).trans (hu _ _ _))⟩

/-- A G3 that comes in another state repeats a completed exchange (R447). -/
theorem exec_graftG3Received_repeated {c : Nat} {m : Bytes} {s : State} (h : takeMsg s c 3 = some m) (hst : (graftOf s c).st ≠ .g2Sent) :
    exec (.graftG3Received c) s = .next (setGraft c { graftOf s c with rx := none } s) := by
  show execGraftG3Received c s = _
  unfold execGraftG3Received
  rw [h]
  exact congrArg Host.Outcome.next (if_pos hst)

/-! ### The end of a stage (R449) -/

/-- A step that ends the exchange ends it at once. -/
theorem exec_graftStepsDone_fails {c cause : Nat} {s : State} (hst : (graftOf s c).stage ≠ .none_) (hup : supervisorUp s = true)
    (hcause : (graftOf s c).results.findSome? stepCause = some cause) : exec (.graftStepsDone c) s = .next (failGraft c cause s) := by
  show execGraftStepsDone c s = _
  unfold execGraftStepsDone
  simp only [hst, hup, hcause, Bool.not_true, Bool.false_eq_true, or_self, if_false]

/-- With every step done the stage ends, on the slots that its steps have made. -/
theorem exec_graftStepsDone_ends {c : Nat} {s : State} (hst : (graftOf s c).stage ≠ .none_) (hup : supervisorUp s = true)
    (hcause : (graftOf s c).results.findSome? stepCause = none) (hall : (graftOf s c).jobs ≤ (graftOf s c).results.length) :
    exec (.graftStepsDone c) s = .next (stageEnd c (takeSlots c s)) := by
  show execGraftStepsDone c s = _
  unfold execGraftStepsDone
  simp only [hst, hup, hcause, Nat.not_lt_of_le hall, Bool.not_true, Bool.false_eq_true, or_self, if_false]

/-! ### Emission (R439) -/

theorem exec_graftOutFragment {c : Nat} {f : Bytes} {r : List Bytes} {s : State} (h : (graftOf s c).outFrags = f :: r)
    (hh : halted s = false) :
    exec (.graftOutFragment c) s = .next (sendPkt (portOfCircuit c)
      { cls := objVal s (at_ Obj.SP_GRAFT_CLASS (portOfCircuit c)), circuit := c, kind := 3, octets := 0,
        bytes := chanHeader 3 c f.length (field f 0 3) ++ f }
      (setGraft c { graftOf s c with outFrags := r, txLen := if r.isEmpty then 0 else (graftOf s c).txLen } s)) := by
  show execGraftOutFragment c s = _
  unfold execGraftOutFragment
  simp only [h, hh, Bool.false_eq_true, if_false]

/-! ### Timers (R447, R449) -/

section
variable {c : Nat} {a : Time} {s : State} (hup : supervisorUp s = true) (ht : (graftOf s c).timer = some a)
include hup ht

theorem exec_graftRetryTimeout (hst : (graftOf s c).st = .g1Sent) : exec (.graftRetryTimeout c) s = .next
    (if (graftOf s c).resends < cVal s c Obj.GR_C_RETRIES then
      bump (at_ Obj.GR_C_RESENDS c) (setGraft c { graftOf s c with
        resends := (graftOf s c).resends + 1,
        outFrags := (graftOf s c).outFrags ++ fragments (graftOf s c).msgId (objVal s Obj.GR_FRAG_SIZE - 8) (graftOf s c).g1,
        timer := some ((graftTimer a s).now + ms (cVal s c Obj.GR_C_RETRY_TIMEOUT)) } (graftTimer a s))
    else failGraft c (if (graftOf s c).badMsg then 2 else 1) (graftTimer a s)) := by
  show execGraftRetryTimeout c s = _
  unfold execGraftRetryTimeout
  simp only [hst, ht, hup, graftOf_graftTimer, cVal_graftTimer, objVal_graftTimer, Bool.not_true, Bool.false_eq_true, if_false]

theorem exec_graftResponderTimeout (hst : (graftOf s c).st = .g2Sent) : exec (.graftResponderTimeout c) s = .next
    (if mayStart (failGraft c (if (graftOf s c).badMsg then 3 else 4) (graftTimer a s)) c then
      startGraft c (failGraft c (if (graftOf s c).badMsg then 3 else 4) (graftTimer a s))
    else failGraft c (if (graftOf s c).badMsg then 3 else 4) (graftTimer a s)) := by
  show execGraftResponderTimeout c s = _
  unfold execGraftResponderTimeout
  simp only [hst, ht, hup, graftOf_graftTimer, Bool.not_true, Bool.false_eq_true, if_false]

theorem exec_graftArmDelayExpiry (hst : (graftOf s c).st = .confirming) :
    exec (.graftArmDelayExpiry c) s = .next (armGraft c (graftTimer a s)) := by
  show execGraftArmDelayExpiry c s = _
  unfold execGraftArmDelayExpiry
  simp only [hst, ht, hup, if_true]

theorem exec_graftSwitchDelayExpiry (hst : (graftOf s c).st = .armed) :
    exec (.graftSwitchDelayExpiry c) s = .next (switchEvent c (graftTimer a s)) := by
  show execGraftSwitchDelayExpiry c s = _
  unfold execGraftSwitchDelayExpiry
  simp only [hst, ht, hup, if_true]

end

theorem armGraft_st (c : Nat) (s : State) : (graftOf (armGraft c s) c).st = .armed := by
  unfold armGraft
  dsimp only
  rw [graftOf_setGraft c _ (Graft.ne_reset_of_st GraftState.noConfusion)]

theorem armGraft_armed (c : Nat) (s : State) : (circuit (armGraft c s) c).armed = true := by
  unfold armGraft circuit
  dsimp only
  rw [setGraft_sp]
  unfold setCircuit
  rw [tget_tset_of_ne _ _ _ fun e => Bool.noConfusion (congrArg Circuit.armed e)]

theorem exec_graftRetryPauseExpiry {c : Nat} {a : Time} {s : State} (hup : supervisorUp s = true) (hp : (graftOf s c).pauseUntil = some a) :
    exec (.graftRetryPauseExpiry c) s =
      .next (tryStart c (if triggersHold (setGraft c { graftOf s c with pauseUntil := none } (graftTimer a s)) c
        then trigger c false (setGraft c { graftOf s c with pauseUntil := none } (graftTimer a s))
        else setGraft c { graftOf s c with pauseUntil := none } (graftTimer a s))) := by
  show execGraftRetryPauseExpiry c s = _
  unfold execGraftRetryPauseExpiry
  simp only [hp, hup, graftOf_graftTimer, Bool.not_true, Bool.false_eq_true, if_false]

theorem exec_fragmentAssemblyTimeout {c : Nat} {a : Time} {s : State} (hd : (graftOf s c).asmDue = some a) :
    exec (.fragmentAssemblyTimeout c) s = .next (bump (at_ Obj.GR_C_FRAG_DROPS c)
      (setGraft c { graftOf s c with asmId := 0, asmCount := 0, asm_ := [], asmDue := none } (graftTimer a s))) := by
  show execFragmentAssemblyTimeout c s = _
  unfold execFragmentAssemblyTimeout dropAsm clearAsm
  simp only [hd, graftOf_graftTimer]

end Sys2Proof.Machine

open Sys2Proof Sys2Proof.Machine

/-- Settles O47: each event's row runs the branch that its conditions open, and a stage that begins keeps what its exchange was written
with. -/
theorem graftExchange : Obligations.GraftExchange := by
  unfold Obligations.GraftExchange
  refine ⟨fun c n data s hn hd => ?_, fun c f s hrole hbound => trigger_holds f hrole hbound,
    fun c s hbound hdone => exec_graftPeriodExpiry hbound hdone, fun c s hw hm hp => ⟨?_, fun hroom hrng => ?_⟩,
    fun c s hw hroom => exec_graftBufferFreed hw hroom, fun c m s h => ⟨fun hst => ?_, fun hst => ?_⟩, respond_answers,
    fun c m s h hr => ?_, fun c m s h => ⟨fun hst hr => ?_, fun hst => exec_graftG3Received_repeated h hst⟩,
    fun u colour r k lost done s hu hinit hc => ?_, fun c s hst hup => ⟨fun k hk => exec_graftStepsDone_fails hst hup hk,
      fun hk hall => exec_graftStepsDone_ends hst hup hk hall⟩,
    fun c f r s hf hh => exec_graftOutFragment hf hh, fun c a s hup ht => ?_,
    fun c a s hup hp => exec_graftRetryPauseExpiry hup hp, fun c a s hd => exec_fragmentAssemblyTimeout hd⟩
  · rw [exec_grCRekey c data s hn, writeAccess_of_plainDeciding hd rfl rfl]
    rfl
  · exact congrArg Host.Outcome.next (tryStart_starts hw hm hp)
  · refine startGraft_begins ?_ ((congrArg RngSt.st (wakeCore_rng s)).trans hrng)
    rw [bufRoom_wakeCore, grSuite_wakeCore, hroom]
  · rw [exec_graftG1Received h, if_neg hst]
  · rw [exec_graftG1Received h, if_pos hst, collide_taken hst]
  · obtain ⟨t, l, hexec⟩ := exec_graftG2Received h hr
    have hst := takeMsg_g2_st h
    obtain ⟨rs, hg⟩ := beginStage_setGraft c (g := .iVerify) l (x := { graftOf s c with rx := none, g2 := m, rxLen := m.length }) t
      GraftStage.noConfusion (by rw [hst]; exact GraftState.noConfusion)
    exact ⟨_, hexec, by rw [hg], by rw [hg], by rw [hg]; exact hst⟩
  · obtain ⟨t, l, hexec⟩ := exec_graftG3Received h hst hr
    obtain ⟨rs, hg⟩ := beginStage_setGraft c (g := .rVerify) l (x := { graftOf s c with rx := none, g3 := m, rxLen := m.length }) t
      GraftStage.noConfusion (by rw [hst]; exact GraftState.noConfusion)
    exact ⟨_, hexec, by rw [hg], by rw [hg]⟩
  · refine ⟨hashTurn u k s, ?_, hashTurn_turns hinit k⟩
    unfold hashJob
    simp only [hu, hc]
  · intro s1 g
    refine ⟨fun hst hlt => ?_, fun hst hle => ?_, fun hst => ?_, fun hst => ?_, fun hst => exec_graftSwitchDelayExpiry hup ht hst⟩
    · rw [exec_graftRetryTimeout hup ht hst, if_pos hlt]
    · rw [exec_graftRetryTimeout hup ht hst, if_neg (Nat.not_lt_of_le hle)]
    · exact exec_graftResponderTimeout hup ht hst
    · exact ⟨exec_graftArmDelayExpiry hup ht hst, armGraft_st c s1, armGraft_armed c s1⟩
end

section
/-!
PROOFS. A table of objects out of its canonical form, and the binding of a circuit that there is none of: where StreamCommands' clause on
`bindCircuit` fails (R26, R408).
-/
namespace Sys2Proof.Machine

/-! ### Objects after writes that change nothing -/

@[simp] theorem objVal_setGraft (c : Nat) (g : Graft) (s : State) (id : ObjId) : objVal (setGraft c g s) id = objVal s id := by
  unfold setGraft; dsimp only; split <;> rfl

theorem setObj_dict_of_eq {id : ObjId} {v : Nat} {s : State} (h : objVal s id = v) : (setObj id v s).dict = s.dict := if_pos h

theorem setObj_obj_of_ne {id : ObjId} {v : Nat} {s : State} (h : objVal s id ≠ v) :
    (setObj id v s).dict.obj = tset objDefault s.dict.obj id v := congrArg DictSt.obj (if_neg h)

theorem zeroObjs_dict {l : List ObjId} {s : State} (h : ∀ o ∈ l, objVal s o = 0) : (zeroObjs l s).dict = s.dict := by
  induction l generalizing s with
  | nil => rfl
  | cons o l ih =>
    have ho : (setObj o 0 s).dict = s.dict := setObj_dict_of_eq (h o List.mem_cons_self)
    refine (ih fun k hk => ?_).trans ho
    unfold objVal
    rw [ho]
    exact h k (List.mem_cons_of_mem _ hk)

/-! ### A binding that leaves the old value -/

/-- A state whose table of objects lists SP_C_TENANT of circuit 12288 twice.  The device has 8,192 circuits, and no table in canonical form
lists a key twice. -/
def listedTwice : State :=
  { State.reset with dict := { State.reset.dict with obj := [(at_ Obj.SP_C_TENANT 12288, 1), (at_ Obj.SP_C_TENANT 12288, 1)] } }

/-- No object stands at this number, so that 0 is its default: the write drops the first entry, and uncovers the second. -/
theorem bindCircuit_listedTwice : objVal (bindCircuit 12288 0 listedTwice) (at_ Obj.SP_C_TENANT 12288) = 1 := by
  have hcleared : (clearCounters 12288 listedTwice).dict = listedTwice.dict := zeroObjs_dict (by decide)
  have hwritten : (setObj (at_ Obj.SP_C_TENANT 12288) 0 (clearCounters 12288 listedTwice)).dict.obj =
      [(at_ Obj.SP_C_TENANT 12288, 1)] := by
    rw [setObj_obj_of_ne (by unfold objVal; rw [hcleared]; decide), hcleared]
    decide
  unfold bindCircuit
  rw [objVal_setGraft, bump_other _ (by decide) (by rw [hwritten]; rfl), objVal, hwritten]
  decide

end Sys2Proof.Machine

open Sys2Proof Sys2Proof.Machine

/-- Refutes O45: its clause on `bindCircuit` asks neither that the circuit be one of the 8,192 nor that the table of objects be in canonical
form.  In `listedTwice` the binding of circuit 12288 to tenant 0 leaves SP_C_TENANT at 1. -/
theorem not_streamCommands : ¬ Obligations.StreamCommands := by
  unfold Obligations.StreamCommands
  rintro ⟨-, -, -, -, -, -, hbind, -⟩
  obtain ⟨hbound, -⟩ := hbind 12288 0 listedTwice (by decide)
  exact absurd (bindCircuit_listedTwice.symm.trans hbound) (by decide)
end

section
/-!
PROOFS. The packets of the link cipher: which circuits and objects the shared operations leave alone, what a packet leaves in its circuit's
order at the sequence point, and what each event makes of it (R398, R400, R402, R415, R417, R425–R428, R636).
-/
namespace Sys2Proof.Machine

/-! ### Objects above a counter -/

theorem mget?_mdel_above {α : Type} (t : Tab α) {k j : Nat} (h : k < j) : mget? (mdel t k) j = mget? t j := by
  induction t with
  | nil => rfl
  | cons p r ih =>
    obtain ⟨a, w⟩ := p
    unfold mdel
    split
    · next hk => simp [mget?, ← hk, Nat.ne_of_gt h, Nat.not_lt_of_gt h]
    · split
      · rfl
      · simp [mget?, ih]

/-- A write leaves the values of the objects above it, in any table. -/
theorem setObj_above {id k : ObjId} (v : Nat) (s : State) (h : id < k) : objVal (setObj id v s) k = objVal s k := by
  by_cases he : objVal s id = v
  · exact congrArg (fun d : DictSt => tget objDefault d.obj k) (setObj_dict_of_eq he)
  · unfold objVal
    rw [setObj_obj_of_ne he]
    unfold tset tget
    split
    · rw [mget?_mdel_above _ h]
    · rw [mget?_mset_ne _ _ (Nat.ne_of_gt h)]

/-- A count of an object below the circuits' own leaves the values of every circuit. -/
theorem cVal_bump_of_lt {id base : ObjId} (h : id < base) (s : State) (c : Nat) : cVal (bump id s) c base = cVal s c base :=
  setObj_above _ s (Nat.lt_of_lt_of_le h (Nat.le_add_right _ _))

theorem objBytes_congr {s t : State} {id : ObjId} (h : objVal t id = objVal s id) : objBytes t id = objBytes s id := by
  unfold objBytes
  rw [h]

/-! ### What keeps the circuits -/

theorem setPort_circuits (p : Nat) (x : Port) (s : State) : (setPort p x s).sp.circuits = s.sp.circuits := by
  simp only [setPort, apply_ite State.sp, noticed_sp, ite_self]

theorem emitPkt_sp (p : Nat) (o : OutPkt) (s : State) : (emitPkt p o s).sp = s.sp := by
  unfold emitPkt; split <;> rfl

theorem stallDrop_sp (p c : Nat) (s : State) : (stallDrop p c s).sp = s.sp := by
  unfold stallDrop; split <;> rfl

theorem sendPkt_circuits (p : Nat) (o : OutPkt) (s : State) : (sendPkt p o s).sp.circuits = s.sp.circuits := by
  unfold sendPkt
  dsimp only
  split
  · rfl
  · split
    · rw [stallDrop_sp]
    · split
      · exact setPort_circuits _ _ _
      · rw [emitPkt_sp]

theorem leavePkt_circuits (c : Nat) (q : InFlightPkt) (s : State) : (leavePkt c q s).sp.circuits = s.sp.circuits := by
  unfold leavePkt sendStatus
  dsimp only
  split
  · exact sendPkt_circuits _ _ _
  · split
    · exact (sendPkt_circuits _ _ _).trans (sendPkt_circuits _ _ _)
    · exact sendPkt_circuits _ _ _

theorem updateFlow_circuits (p : Nat) (s : State) : (updateFlow p s).sp.circuits = s.sp.circuits := by
  unfold updateFlow
  dsimp only
  split
  · rfl
  · exact setPort_circuits _ _ _

theorem drawPass_sp (n k : Nat) (s : State) : (drawPass n k s).sp = s.sp := by
  induction k generalizing s with
  | zero => rfl
  | succ k ih =>
    refine (ih _).trans ?_
    have hstall : (stallCall n s).sp = s.sp := by
      unfold stallCall
      split
      · unfold reseed takeSeed; dsimp only; split <;> rfl
      · rfl
    have hstretch : ∀ u, (stretch n u).sp = u.sp := fun u => by unfold stretch; dsimp only; split <;> rfl
    exact (hstretch _).trans hstall

theorem freeSlots_sp (l : List Nat) (s : State) : (freeSlots l s).sp = s.sp := by
  show (overwriteUnits l s).sp = s.sp
  unfold overwriteUnits
  split
  · exact drawPass_sp _ _ _
  · rfl

theorem settleQuiet_sp (c : Nat) (s : State) : (settleQuiet c s).sp = s.sp := by
  unfold settleQuiet
  dsimp only
  split <;> simp only [setGraft_sp]

theorem trigger_sp (c : Nat) (f : Bool) (s : State) : (trigger c f s).sp = s.sp := by
  unfold trigger
  split
  · rfl
  · exact setGraft_sp _ _ _

theorem circuit_congr {s t : State} (h : t.sp.circuits = s.sp.circuits) (c : Nat) : circuit t c = circuit s c :=
  congrArg (fun l => tget (fun _ => Circuit.reset) l c) h

/-- A circuit that is not that of reset reads back as it was written. -/
theorem circuit_setCircuit (c : Nat) {x : Circuit} (s : State) (h : x ≠ Circuit.reset) : circuit (setCircuit c x s) c = x :=
  tget_tset_of_ne _ _ _ h

/-! ### The packets that leave (R400) -/

theorem leaveAll_circuits (c : Nat) (l : List InFlightPkt) (s : State) : (leaveAll c l s).sp.circuits =
    tset (fun _ => Circuit.reset) s.sp.circuits c { circuit s c with queue := l.dropWhile (·.done) } := by
  induction l generalizing s with
  | nil => rfl
  | cons q r ih =>
    unfold leaveAll
    split
    · next hd => rw [ih, circuit_congr (leavePkt_circuits c q s), leavePkt_circuits, List.dropWhile_cons_of_pos hd]
    · next hd => rw [List.dropWhile_cons_of_neg hd]; rfl

theorem settleSlots_queue (c : Nat) {s : State} (h : keysRise s.sp.circuits = true) :
    (circuit (settleSlots c s) c).queue = (circuit s c).queue := by
  unfold settleSlots
  dsimp only
  split
  · rfl
  · rw [circuit_congr (congrArg SpSt.circuits (freeSlots_sp _ _)), setCircuit_same _ _ _ h]

theorem drainCircuit_queue (c : Nat) {s : State} (h : keysRise s.sp.circuits = true) :
    (circuit (drainCircuit c s) c).queue = (circuit s c).queue.dropWhile (·.done) := by
  have hleft := leaveAll_circuits c (circuit s c).queue s
  unfold drainCircuit
  rw [circuit_congr (updateFlow_circuits _ _), settleSlots_queue c (hleft ▸ keysRise_tset _ _ _ _ h)]
  unfold circuit at hleft ⊢
  rw [hleft, tget_tset_same _ _ _ _ h]

/-! ### Arrival (R398, R406) -/

/-- A whole packet of this OP with a good header arrives on an UP port, and the buffer has room for it. -/
def Arrives (s : State) (op p ch : Nat) (b : Bytes) : Prop :=
  p < 2 ∧ (port s p).st = .up ∧ pktWhole ch b = true ∧ pktHeaderOk b = true ∧ pktOp b = op ∧ portBytes s p + b.length ≤ 65536

theorem exec_protect (p ch : Nat) (b : Bytes) (s : State) : exec (.protect p ch b) s =
    .next (arrivePkt 1 p ch b (fun c t => seqPkt c ch b (protectSeq c (b.drop 8)) t) s) := rfl

/-- What VALIDATE makes of a packet, by its circuit's transform (R416, R420). -/
def validateSeq (c : Nat) (f : Bytes) (s : State) : SeqOut × State :=
  if cVal s c Obj.SP_C_TRANSFORM = 0 then macsecValidate c f s else blockValidate c f s

theorem exec_validate (p ch : Nat) (b : Bytes) (s : State) : exec (.validate p ch b) s =
    .next (arrivePkt 2 p ch b (fun c t => seqPkt c ch b (validateSeq c (b.drop 8)) t) s) := rfl

theorem exec_graftIn (p ch : Nat) (b : Bytes) (s : State) : exec (.graftIn p ch b) s =
    .next (arrivePkt 4 p ch b (fun c t => fragmentIn c (b.drop 8) (wakeCore t)) s) := rfl

section
variable {op p ch : Nat} {b : Bytes} {s : State} (ha : Arrives s op p ch b) (accept : Nat → State → State)
include ha

theorem arrivePkt_of_arrives : arrivePkt op p ch b accept s =
    match linkCheck s p b with
    | some (code, detail, ctr) =>
      sendStatus p ch (pktCircuit b) op (pktTag b) code detail (bump ctr (bump (at_ Obj.SP_RX_PKTS p) s))
    | none => if ch ∈ (port s p).stalled then stallDrop p (pktCircuit b) (bump (at_ Obj.SP_RX_PKTS p) s)
      else accept (pktCircuit b) (bump (at_ Obj.SP_RX_PKTS p) s) := by
  obtain ⟨hp, hup, hwhole, hgood, hop, hroom⟩ := ha
  unfold arrivePkt
  rw [if_neg (by simp [hup, hwhole, hgood, hop, hp]), if_neg (Nat.not_lt_of_le hroom)]
  rfl

theorem arrivePkt_refused {code detail : Nat} {ctr : ObjId} (hc : linkCheck s p b = some (code, detail, ctr)) :
    arrivePkt op p ch b accept s =
      sendStatus p ch (pktCircuit b) op (pktTag b) code detail (bump ctr (bump (at_ Obj.SP_RX_PKTS p) s)) := by
  rw [arrivePkt_of_arrives ha, hc]

theorem arrivePkt_accepted (hc : linkCheck s p b = none) (hs : ch ∉ (port s p).stalled) :
    arrivePkt op p ch b accept s = accept (pktCircuit b) (bump (at_ Obj.SP_RX_PKTS p) s) := by
  rw [arrivePkt_of_arrives ha, hc]
  exact if_neg hs

end

/-- A packet that passes check 3 belongs to a circuit of the port it came by. -/
theorem portOfCircuit_of_linkCheck {p : Nat} {b : Bytes} {s : State} (hc : linkCheck s p b = none) :
    portOfCircuit (pktCircuit b) = p := by
  unfold linkCheck at hc
  by_contra hne
  rw [if_pos hne] at hc
  exact Option.some_ne_none _ hc

theorem exec_arrivingPacketDrop {p : Nat} {s : State} (hp : p < 2) (hup : (port s p).st = .up) (ch : Nat) (b : Bytes) (err : Bool) :
    exec (.arrivingPacketDrop p ch b err) s = .next (
      if 65536 < portBytes s p + b.length then bump (at_ Obj.SP_RX_OVERRUN p) s
      else if b.length < 8 then bump (at_ Obj.SP_RUNT p) (bump (at_ Obj.SP_RX_PKTS p) s)
      else if err || !(pktWhole ch b) then bump (at_ Obj.SP_RX_ERR p) (bump (at_ Obj.SP_RX_PKTS p) s)
      else if pktHeaderOk b then s
      else if pktOp b = 3 ∨ pktOp b = 5 then bump (at_ Obj.SP_BAD_HDR p) (bump (at_ Obj.SP_RX_PKTS p) s)
      else sendStatus p ch (pktCircuit b) (pktOp b) (pktTag b) 0x0C (field b 0 3)
        (bump (at_ Obj.SP_BAD_HDR p) (bump (at_ Obj.SP_RX_PKTS p) s))) :=
  congrArg Host.Outcome.next (if_neg (by simp [hup, hp]))

theorem length_of_pktWhole {ch : Nat} {b : Bytes} (h : pktWhole ch b = true) : 8 ≤ b.length := (of_decide_eq_true h).2

/-! ### The sequence point (R400, R415, R416) -/

/-- The packet that joins its circuit's order on pipeline `n` as number `id` of the device. -/
def joined (n ch id : Nat) (b : Bytes) (r : SeqOut) : InFlightPkt :=
  { id := id, pipe := n, op := pktOp b, cls := ch, tag := pktTag b, size := b.length, inLen := b.length - 8, slot := r.slot,
    number := r.number, code := r.code, detail := r.detail, out := r.out, echo := pktEcho b, done := false }

theorem seqPkt_circuit {c n ch : Nat} {b : Bytes} {s : State} (f : State → SeqOut × State) (h : pickPipe s (portOfCircuit c) = some n) :
    circuit (seqPkt c ch b f s) c =
      { circuit (f s).2 c with queue := (circuit (f s).2 c).queue ++ [joined n ch (f s).2.sp.pktId b (f s).1] } := by
  unfold seqPkt
  simp only [h]
  rw [circuit_congr (updateFlow_circuits _ _), circuit_setCircuit]
  · rfl
  · exact fun e => List.append_ne_nil_of_right_ne_nil _ (List.cons_ne_nil _ _) (congrArg Circuit.queue e)

/-- An arrival's count leaves the values of every circuit. -/
theorem cVal_counted {p : Nat} (hp : p < 2) (s : State) (c : Nat) {base : ObjId} (hb : 0x300000 ≤ base) :
    cVal (bump (at_ Obj.SP_RX_PKTS p) s) c base = cVal s c base := by
  refine cVal_bump_of_lt (Nat.lt_of_lt_of_le ?_ hb) s c
  show 0x0D1001 + 256 * p < 0x300000
  omega

theorem maxNumber_counted {p : Nat} (hp : p < 2) (s : State) (c : Nat) :
    maxNumber (bump (at_ Obj.SP_RX_PKTS p) s) c = maxNumber s c := by
  unfold maxNumber
  simp (disch := decide) only [cVal_counted hp]

/-- The output payload of PROTECT under a key, by the circuit's transform (R415, R418). -/
def protectOut (s : State) (c : Nat) (k : LinkKey) (payload : Bytes) : Bytes :=
  if cVal s c Obj.SP_C_TRANSFORM = 0 then macsecProtect s c k (slotData s k.slot) payload
  else blockProtect s c k (slotData s k.slot) payload

theorem protectOut_counted {p : Nat} (hp : p < 2) (s : State) (c : Nat) (k : LinkKey) (payload : Bytes) :
    protectOut (bump (at_ Obj.SP_RX_PKTS p) s) c k payload = protectOut s c k payload := by
  have hsci : objBytes (bump (at_ Obj.SP_RX_PKTS p) s) (at_ Obj.SP_C_SCI_TX c) = objBytes s (at_ Obj.SP_C_SCI_TX c) :=
    objBytes_congr (cVal_counted hp s c (by decide))
  have hkey : slotData (bump (at_ Obj.SP_RX_PKTS p) s) k.slot = slotData s k.slot := rfl
  unfold protectOut macsecProtect blockProtect macsecIv isXpn clearLen blockHeader blockIv
  simp (disch := decide) only [cVal_counted hp, hsci, hkey]

/-- The TX key after a packet under it (R415, R427). -/
def LinkKey.sent (k : LinkKey) (n : Nat) : LinkKey := { k with next := k.next + 1, frames := k.frames + 1, octets := k.octets + n }

theorem objVal_trigger (c : Nat) (f : Bool) (s : State) (id : ObjId) : objVal (trigger c f s) id = objVal s id := by
  unfold trigger
  split
  · rfl
  · exact objVal_setGraft _ _ _ _

theorem maxNumber_trigger (c n : Nat) (f : Bool) (s : State) : maxNumber (trigger c f s) n = maxNumber s n := by
  unfold maxNumber cVal
  simp only [objVal_trigger]

theorem keyExpired_trigger (c : Nat) (f : Bool) (s : State) (k : LinkKey) : keyExpired (trigger c f s) k = keyExpired s k := by
  unfold trigger
  split
  · rfl
  · unfold setGraft
    dsimp only
    split <;> rfl

theorem txUsable_of_next_le {c : Nat} {k : LinkKey} {s : State} (he : keyExpired s k = false) (hn : k.next ≤ maxNumber s c) :
    txUsable s c k = true := by
  unfold txUsable
  rw [he, decide_eq_true hn]
  rfl

/-- The state after circuit `c` has sent a packet of `n` octets under its TX key `k`. -/
def sentUnder (c : Nat) (k : LinkKey) (n : Nat) (s : State) : State :=
  setCircuit c { circuit s c with txCur := some (k.sent n) } s

theorem circuit_sentUnder (c : Nat) (k : LinkKey) (n : Nat) (s : State) :
    circuit (sentUnder c k n s) c = { circuit s c with txCur := some (k.sent n) } :=
  circuit_setCircuit c s fun e => Option.some_ne_none _ (congrArg Circuit.txCur e)

/-- A usable key below its last number gives the packet its number, and is still usable with the next one (R427). -/
theorem protectSeq_usable {c : Nat} {k : LinkKey} {s : State} (payload : Bytes) (hk : (circuit s c).txCur = some k)
    (hb : (circuit s c).blocked = false) (he : keyExpired s k = false) (hn : k.next < maxNumber s c) :
    (protectSeq c payload s).1 = { slot := some k.slot, number := k.next, code := 0, detail := 0, out := protectOut s c k payload } ∧
    circuit (protectSeq c payload s).2 c = { circuit s c with txCur := some (k.sent payload.length) } := by
  have hkept : ∀ u, u = trigger c false (sentUnder c k payload.length s) ∨ u = sentUnder c k payload.length s →
      circuit (if txUsable u c (k.sent payload.length) then u else txUnusable c u) c =
        { circuit s c with txCur := some (k.sent payload.length) } := by
    rintro u (rfl | rfl)
    · have husable := txUsable_of_next_le (k := k.sent payload.length)
        ((keyExpired_trigger c false (sentUnder c k payload.length s) _).trans he)
        ((maxNumber_trigger c c false (sentUnder c k payload.length s)).symm ▸ hn)
      rw [if_pos husable, circuit_congr (congrArg SpSt.circuits (trigger_sp _ _ _)), circuit_sentUnder]
    · have husable : txUsable (sentUnder c k payload.length s) c (k.sent payload.length) = true := txUsable_of_next_le he hn
      rw [if_pos husable, circuit_sentUnder]
  unfold protectSeq
  simp only [hk, txUsable_of_next_le he (Nat.le_of_lt hn), Bool.true_or, if_true, Bool.not_true, Bool.false_or]
  rw [if_neg (by rw [hb]; exact Bool.false_ne_true)]
  refine ⟨rfl, hkept _ ?_⟩
  split
  · exact .inl rfl
  · exact .inr rfl

theorem underKey_sp (c : Nat) (k : LinkKey) (pn : Nat) (ok : Bool) (out : Bytes) (s : State) :
    (underKey c k pn ok out s).2.sp = s.sp := by
  unfold underKey
  split
  · rfl
  · split
    · rfl
    · split <;> rfl

theorem macsecValidate_sp (c : Nat) (f : Bytes) (s : State) : (macsecValidate c f s).2.sp = s.sp := by
  unfold macsecValidate
  split
  · rfl
  · dsimp only
    split
    · rfl
    · split
      · rfl
      · exact underKey_sp _ _ _ _ _ _

theorem blockValidate_sp (c : Nat) (f : Bytes) (s : State) : (blockValidate c f s).2.sp = s.sp := by
  unfold blockValidate
  split
  · rfl
  · dsimp only
    split
    · rfl
    · split
      · rfl
      · exact underKey_sp _ _ _ _ _ _

/-- The checks of VALIDATE leave the circuits as they are until the packet is done. -/
theorem validateSeq_sp (c : Nat) (f : Bytes) (s : State) : (validateSeq c f s).2.sp = s.sp := by
  unfold validateSeq
  split
  · exact macsecValidate_sp c f s
  · exact blockValidate_sp c f s

/-! ### The end of a packet (R400, R402, R417) -/

/-- What the end of a packet without a mismatch does beside its mark: an authentication failure is counted, a pass advances its key. -/
def pktEnds (c : Nat) (q : InFlightPkt) (s : State) : State :=
  if q.op = 2 ∧ q.code = 9 then bump (at_ Obj.SP_C_DROP_AUTH c) s
  else match q.slot with
    | some h => if q.op = 2 ∧ q.code = 0 then validatePassed c h q.number s else s
    | none => s

theorem exec_pipelineDone {c id : Nat} {q : InFlightPkt} {s : State}
    (h : (circuit s c).queue.find? (fun y => decide (y.id = id) && !y.done) = some q) :
    exec (.pipelineDone c id false) s = .next (drainCircuit c (finishPkt c id (fun y => y) (pktEnds c q s))) := by
  show execPipelineDone c id false s = _
  unfold execPipelineDone pktEnds
  simp only [h, Bool.false_eq_true, if_false]
  congr 3
  split
  · next hop hcode hslot => simp [hop, hcode, hslot]
  · next hop hcode => simp [hop, hcode]
  · next hfail hpass =>
    rw [if_neg fun ⟨hop, hcode⟩ => hfail hop hcode]
    split
    · next h hslot => rw [if_neg fun ⟨hop, hcode⟩ => hpass h hop hcode hslot]
    · rfl

theorem exec_pipelineDone_mismatch {c id : Nat} {q : InFlightPkt} {s : State}
    (h : (circuit s c).queue.find? (fun y => decide (y.id = id) && !y.done) = some q) :
    exec (.pipelineDone c id true) s = .next (pipeMismatch c q s) := by
  show execPipelineDone c id true s = _
  unfold execPipelineDone
  simp only [h, if_true]

theorem validatePassed_rxCur {c n : Nat} {k : LinkKey} {s : State} (hk : (circuit s c).rxCur = some k)
    (hn : keySlot (circuit s c).rxNext ≠ [k.slot]) :
    (circuit (validatePassed c k.slot n s) c).rxCur = some { k with next := max k.next (n + 1) } := by
  unfold validatePassed
  simp only [hn, if_false, hk]
  rw [circuit_setCircuit c s fun e => Option.some_ne_none _ (congrArg Circuit.rxCur e)]
  exact congrArg some (if_pos rfl)

theorem exec_pipelineReinitDone {n : Nat} {a : Time} {s : State} (h : (pipe s n).initAt = some a) :
    exec (.pipelineReinitDone n) s = .next (setPipe n { pipe s n with initAt := none } { s with now := max s.now (a + us 1) }) := by
  show execPipelineReinitDone n s = _
  unfold execPipelineReinitDone
  simp only [h]
  rfl

/-! ### Keys in time (R426, R428) -/

theorem exec_rxHoldExpiry {c : Nat} {k : LinkKey} {s : State} (h : (circuit s c).rxRet = some k) :
    exec (.rxHoldExpiry c) s =
      .next (settleSlots c (setCircuit c { circuit s c with rxRet := none, dying := (circuit s c).dying ++ [k.slot] }
        { s with now := max s.now (circuit s c).retireAt })) := by
  show execRxHoldExpiry c s = _
  unfold execRxHoldExpiry
  simp only [h, Option.isSome_some, if_true]
  rfl

theorem exec_linkKeyUnusable {c : Nat} {k : LinkKey} {v : Slot} {s : State} (hk : (circuit s c).txCur = some k)
    (hv : mget? s.kreg.slots k.slot = some v) (he : v.expiry ≠ 0) (hb : (circuit s c).blocked = false) :
    exec (.linkKeyUnusable c) s = .next (txUnusable c (advanceToExpiry v.expiry s)) := by
  show execLinkKeyUnusable c s = _
  unfold execLinkKeyUnusable
  simp only [hk, hv, he, hb, Bool.false_eq_true, or_self, if_false]

theorem txUnusable_armed {c : Nat} {s : State} (ha : (circuit s c).armed = true) (hn : (circuit s c).txNext ≠ none) :
    txUnusable c s = switchEvent c s :=
  if_pos (by rw [ha, Bool.true_and, Option.isSome_iff_ne_none]; exact hn)

theorem txUnusable_blocks {c : Nat} {s : State} (ha : (circuit s c).armed = false) :
    (circuit (txUnusable c s) c).blocked = true := by
  unfold txUnusable
  simp only [ha, Bool.false_and, Bool.false_eq_true, if_false]
  rw [circuit_congr (congrArg SpSt.circuits (settleQuiet_sp _ _)),
    circuit_setCircuit c s fun e => Bool.noConfusion (congrArg Circuit.blocked e)]

end Sys2Proof.Machine

open Sys2Proof Sys2Proof.Machine

/-- Settles O46: an arrival is `arrivePkt`, which its checks lead to a STATUS or to the sequence point; the packet that joins there is `joined`;
the events at its end and in its keys' time run the branch that their conditions open. -/
theorem streamPackets : Obligations.StreamPackets := by
  unfold Obligations.StreamPackets
  intro arrives counted
  refine ⟨fun i op p ch b code detail ctr s hi ha hc => ?_, fun p ch b k n s ha hc hs hn => ?_,
    fun p ch b n s ha hc hs hn => ?_, fun p ch b s ha hc hs => ?_,
    fun c id q s h => ⟨exec_pipelineDone h, exec_pipelineDone_mismatch h⟩, fun c s h => drainCircuit_queue c h,
    fun c h n k s hk hslot hn => hslot ▸ validatePassed_rxCur hk (hslot ▸ hn), fun c k s h => exec_rxHoldExpiry h,
    fun c k v s hk hv he hb => exec_linkKeyUnusable hk hv he hb, fun c s => ⟨txUnusable_armed, txUnusable_blocks⟩,
    fun p ch b err s hp hup hfull => ?_, fun p ch b s hp hup hroom => ⟨fun hshort err => ?_, fun hlong => ?_, fun hwhole hbad h3 h5 => ?_⟩,
    fun n a s h => exec_pipelineReinitDone h⟩
  · rcases hi with ⟨rfl, rfl⟩ | ⟨rfl, rfl⟩ | ⟨rfl, rfl⟩
    · rw [exec_protect, arrivePkt_refused ha _ hc]
    · rw [exec_validate, arrivePkt_refused ha _ hc]
    · rw [exec_graftIn, arrivePkt_refused ha _ hc]
  · intro c hk hb he hlt
    have hp : p < 2 := ha.1
    have hpipe : pickPipe (counted s p) (portOfCircuit c) = some n := (portOfCircuit_of_linkCheck hc).symm ▸ hn
    obtain ⟨hseq, hcircuit⟩ := protectSeq_usable (s := counted s p) (b.drop 8) hk hb he ((maxNumber_counted hp s c).symm ▸ hlt)
    have hjoins := seqPkt_circuit (ch := ch) (b := b) (protectSeq c (b.drop 8)) hpipe
    refine ⟨_, joined n ch (protectSeq c (b.drop 8) (counted s p)).2.sp.pktId b (protectSeq c (b.drop 8) (counted s p)).1,
      (exec_protect p ch b s).trans (congrArg _ (arrivePkt_accepted ha _ hc hs)), ?_, rfl, ?_, ?_, rfl, ?_, ?_⟩
    · rw [hjoins, hcircuit]; rfl
    · exact congrArg SeqOut.number hseq
    · exact congrArg SeqOut.code hseq
    · exact (congrArg SeqOut.out hseq).trans (protectOut_counted hp s c k _)
    · rw [hjoins, hcircuit]
      simp only [LinkKey.sent, List.length_drop]
  · intro c r
    have hp : p < 2 := ha.1
    have hpipe : pickPipe (counted s p) (portOfCircuit c) = some n := (portOfCircuit_of_linkCheck hc).symm ▸ hn
    have hr : validateSeq c (b.drop 8) (counted s p) = r := by
      unfold validateSeq
      rw [cVal_counted hp s c (by decide)]
    have hjoins := seqPkt_circuit (ch := ch) (b := b) (validateSeq c (b.drop 8)) hpipe
    rw [circuit_congr (congrArg SpSt.circuits (validateSeq_sp _ _ _)), hr] at hjoins
    exact ⟨_, joined n ch r.2.sp.pktId b r.1, (exec_validate p ch b s).trans (congrArg _ (arrivePkt_accepted ha _ hc hs)),
      congrArg Circuit.queue hjoins, rfl, rfl, rfl, rfl, rfl, rfl⟩
  · rw [exec_graftIn, arrivePkt_accepted ha _ hc hs]
  · rw [exec_arrivingPacketDrop hp hup, if_pos hfull]
  · rw [exec_arrivingPacketDrop hp hup, if_neg (Nat.not_lt_of_le hroom), if_pos hshort]
  · rw [exec_arrivingPacketDrop hp hup, if_neg (Nat.not_lt_of_le hroom), if_neg (Nat.not_lt_of_le hlong)]
    rfl
  · rw [exec_arrivingPacketDrop hp hup, if_neg (Nat.not_lt_of_le hroom), if_neg (Nat.not_lt_of_le (length_of_pktWhole hwhole)), hwhole, hbad,
      if_neg (not_or.mpr ⟨h3, h5⟩)]
    rfl
end

section
/-!
PROOFS. The step itself: what it runs, what an idle step does, and what every command keeps, the queue and the burnt bits of OTP.
-/
namespace Sys2Proof.Machine

/-- A row that leaves OTP as it was keeps every burnt bit. -/
theorem otpKept_of_same {o : Otp} {s : State} {r : Host.Outcome State Fault Refusal} (h : OtpKept o s.lc.otp)
    (hr : ∃ t, r = .next t ∧ t.lc.otp = s.lc.otp) : ∃ t, r = .next t ∧ OtpKept o t.lc.otp :=
  hr.imp fun _ ⟨hn, he⟩ => ⟨hn, h.of_eq he⟩

/-- Every command answers a next state in which no burnt bit of OTP is taken back (R542, R561, R562, R594): most rows leave OTP alone, the
others burn it. -/
theorem exec_keeps_otp {o : Otp} (i : Instr) {s : State} (h : OtpKept o s.lc.otp) :
    ∃ t, exec i s = .next t ∧ OtpKept o t.lc.otp :=
  match i with
  | .registerWrite t => execRegisterWrite_kept t s h
  | .dwinRead => otpKept_of_same h (execDwinRead_otp s)
  | .dwinWrite len => otpKept_of_same h (execDwinWrite_otp len s)
  | .dwinReadBlock => otpKept_of_same h (execDwinReadBlock_otp s)
  | .dwinWriteBlock len => otpKept_of_same h (execDwinWriteBlock_otp len s)
  | .dwinWriteBlockLast len => otpKept_of_same h (execDwinWriteBlockLast_otp len s)
  | .dwinNtfPop v => otpKept_of_same h (execDwinNtfPop_otp v s)
  | .dictAccessApply env => execDictAccessApply_kept env s h
  | .quorumExpiry => otpKept_of_same h (execQuorumExpiry_otp s)
  | .dictStore c data => otpKept_of_same h (execDictStore_otp c data s)
  | .storeWriteDone ok => otpKept_of_same h (execStoreWriteDone_otp ok s)
  | .dictStoreStateRead c => otpKept_of_same h (execDictStoreStateRead_otp c s)
  | .dictRestoreDefaults c data => otpKept_of_same h (execDictRestoreDefaults_otp c data s)
  | .dictDescribe c data => otpKept_of_same h (execDictDescribe_otp c data s)
  | .dictOapLock c data => otpKept_of_same h (execDictOapLock_otp c data s)
  | .oapEnableWrite c data => otpKept_of_same h (execOapEnableWrite_otp c data s)
  | .principalEnrolWrite c p sub data => otpKept_of_same h (execPrincipalEnrolWrite_otp c p sub data s)
  | .oapRead d => otpKept_of_same h (execOapRead_otp d s)
  | .oapWrite d => otpKept_of_same h (execOapWrite_otp d s)
  | .oapReadBlock d => otpKept_of_same h (execOapReadBlock_otp d s)
  | .oapWriteBlock d => otpKept_of_same h (execOapWriteBlock_otp d s)
  | .sessionG1 d => execSessionG1_kept d s h
  | .sessionG3 d => execSessionG3_kept d s h
  | .close d => otpKept_of_same h (execClose_otp d s)
  | .oapSetupTimeout slot => otpKept_of_same h (execOapSetupTimeout_otp slot s)
  | .oapIdleTimeout slot => otpKept_of_same h (execOapIdleTimeout_otp slot s)
  | .oapMaxLife slot => otpKept_of_same h (execOapMaxLife_otp slot s)
  | .notify slot obj gpio => otpKept_of_same h (execNotify_otp slot obj gpio s)
  | .icmpv6Echo d => otpKept_of_same h (execIcmpv6Echo_otp d s)
  | .neighbourDiscovery d => otpKept_of_same h (execNeighbourDiscovery_otp d s)
  | .mgPhyConfigWrite c sub data errs => otpKept_of_same h (execMgPhyConfigWrite_otp c sub data errs s)
  | .tenantCreate c t data => otpKept_of_same h (execTenantCreate_otp c t data s)
  | .tenantDelete c t data => otpKept_of_same h (execTenantDelete_otp c t data s)
  | .tenantFenceSet c t => otpKept_of_same h (execTenantFenceSet_otp c t s)
  | .tenantUnfence c t => otpKept_of_same h (execTenantUnfence_otp c t s)
  | .tenantQuotaWrite c t sub data => otpKept_of_same h (execTenantQuotaWrite_otp c t sub data s)
  | .isoRuleCommit c data => otpKept_of_same h (execIsoRuleCommit_otp c data s)
  | .ruleChangeApply => otpKept_of_same h (execRuleChangeApply_otp s)
  | .isoTagQuery c data => otpKept_of_same h (execIsoTagQuery_otp c data s)
  | .ringEnableSet c pair => otpKept_of_same h (execRingEnableSet_otp c pair s)
  | .ringDisable c pair => otpKept_of_same h (execRingDisable_otp c pair s)
  | .ringGctrlRun v => otpKept_of_same h (execRingGctrlRun_otp v s)
  | .ringPoll pair entries => execRingPoll_kept pair entries s h
  | .admission pair => execAdmission_kept pair s h
  | .starveLimitExpiry pair => otpKept_of_same h (execStarveLimitExpiry_otp pair s)
  | .inboundDmaComplete entry data => otpKept_of_same h (execInboundDmaComplete_otp entry data s)
  | .dispatch cls => otpKept_of_same h (execDispatch_otp cls s)
  | .jobComplete entry => otpKept_of_same h (execJobComplete_otp entry s)
  | .coalDelayExpiry pair => otpKept_of_same h (execCoalDelayExpiry_otp pair s)
  | .hostMemoryError pair a => otpKept_of_same h (execHostMemoryError_otp pair a s)
  | .ringFetchTimeout pair a => otpKept_of_same h (execRingFetchTimeout_otp pair a s)
  | .pcieLinkReset => otpKept_of_same h (execPcieLinkReset_otp s)
  | .jobNop pair => execJobNop_kept pair s h
  | .abort pair => execAbort_kept pair s h
  | .abortScrub entry => otpKept_of_same h (execAbortScrub_otp entry s)
  | .scrubTakeover slice => otpKept_of_same h (execScrubTakeover_otp slice s)
  | .stage pair data ok => execStage_kept pair data ok s h
  | .segmentYield entry => otpKept_of_same h (execSegmentYield_otp entry s)
  | .jobResume entry tagOk => execJobResume_kept entry tagOk s h
  | .sliceReinitComplete slice => otpKept_of_same h (execSliceReinitComplete_otp slice s)
  | .benchRequest bench cycle reqs => execBenchRequest_kept bench cycle reqs s h
  | .benchWdogBite bench => otpKept_of_same h (execBenchWdogBite_otp bench s)
  | .arbModeApply bench => otpKept_of_same h (execArbModeApply_otp bench s)
  | .sliceWdogBite entry => otpKept_of_same h (execSliceWdogBite_otp entry s)
  | .unitWdogBite unit => otpKept_of_same h (execUnitWdogBite_otp unit s)
  | .mlKemKeygen entry fault => execMlKemKeygen_kept entry fault s h
  | .mlKemEncaps entry fault => execMlKemEncaps_kept entry fault s h
  | .mlKemDecaps entry fault => execMlKemDecaps_kept entry fault s h
  | .mlKemCheck entry => execMlKemCheck_kept entry s h
  | .mlDsaKeygen entry fault => execMlDsaKeygen_kept entry fault s h
  | .mlDsaSign entry fault => execMlDsaSign_kept entry fault s h
  | .mlDsaVerify entry fault => execMlDsaVerify_kept entry fault s h
  | .slhDsaKeygen entry fault => execSlhDsaKeygen_kept entry fault s h
  | .slhDsaSign entry fault => execSlhDsaSign_kept entry fault s h
  | .slhDsaVerify entry fault => execSlhDsaVerify_kept entry fault s h
  | .statefulKeygen entry fault => execStatefulKeygen_kept entry fault s h
  | .statefulSign entry fault => execStatefulSign_kept entry fault s h
  | .statefulVerify entry fault => execStatefulVerify_kept entry fault s h
  | .statefulRebuild entry rootMatches => execStatefulRebuild_kept entry rootMatches s h
  | .codeKemKeygen entry fault => execCodeKemKeygen_kept entry fault s h
  | .codeKemEncaps entry fault => execCodeKemEncaps_kept entry fault s h
  | .codeKemDecaps entry fault => execCodeKemDecaps_kept entry fault s h
  | .eccKeygen entry fault => execEccKeygen_kept entry fault s h
  | .eccSign entry fault => execEccSign_kept entry fault s h
  | .eccVerify entry fault => execEccVerify_kept entry fault s h
  | .eccAgree entry fault => execEccAgree_kept entry fault s h
  | .eccCheck entry => execEccCheck_kept entry s h
  | .rsaKeygen entry fault => execRsaKeygen_kept entry fault s h
  | .rsaSign entry fault => execRsaSign_kept entry fault s h
  | .rsaVerify entry fault => execRsaVerify_kept entry fault s h
  | .rsaEncrypt entry fault => execRsaEncrypt_kept entry fault s h
  | .rsaDecrypt entry fault => execRsaDecrypt_kept entry fault s h
  | .openCtx entry => execOpenCtx_kept entry s h
  | .absorb entry => execAbsorb_kept entry s h
  | .finishFinal entry => execFinishFinal_kept entry s h
  | .finishRead entry => execFinishRead_kept entry s h
  | .oneshot entry => execOneshot_kept entry s h
  | .deriveKey entry => execDeriveKey_kept entry s h
  | .extend entry => execExtend_kept entry s h
  | .saveCtx entry => execSaveCtx_kept entry s h
  | .loadCtx entry => execLoadCtx_kept entry s h
  | .digestQuantumEnd unit => otpKept_of_same h (execDigestQuantumEnd_otp unit s)
  | .importWrapped entry => execImportWrapped_kept entry s h
  | .exportWrapped entry => execExportWrapped_kept entry s h
  | .delete entry => execDelete_kept entry s h
  | .persist entry => execPersist_kept entry s h
  | .unpersist entry => execUnpersist_kept entry s h
  | .importPublic entry => execImportPublic_kept entry s h
  | .attest entry fault => execAttest_kept entry fault s h
  | .generate entry => otpKept_of_same h (execGenerate_otp entry s)
  | .serviceCall entry => otpKept_of_same h (execServiceCall_otp entry s)
  | .keyExpiry handle => otpKept_of_same h (execKeyExpiry_otp handle s)
  | .maskRefresh handle => otpKept_of_same h (execMaskRefresh_otp handle s)
  | .eraseOverwriteDone => otpKept_of_same h (execEraseOverwriteDone_otp s)
  | .archiveCommitDone => otpKept_of_same h (execArchiveCommitDone_otp s)
  | .archiveCompact w => otpKept_of_same h (execArchiveCompact_otp w s)
  | .kregArchInit c data => otpKept_of_same h (execKregArchInit_otp c data s)
  | .archiveRestore torn bad => otpKept_of_same h (execArchiveRestore_otp torn bad s)
  | .kregFillStart c data => otpKept_of_same h (execKregFillStart_otp c data s)
  | .fillTimeout => otpKept_of_same h (execFillTimeout_otp s)
  | .pkeLatLock c data => otpKept_of_same h (execPkeLatLock_otp c data s)
  | .digMeasOwnerWrite c reg data => otpKept_of_same h (execDigMeasOwnerWrite_otp c reg data s)
  | .spEnableSet by_ port => otpKept_of_same h (execSpEnableSet_otp by_ port s)
  | .spDisable by_ port => otpKept_of_same h (execSpDisable_otp by_ port s)
  | .portUp port => otpKept_of_same h (execPortUp_otp port s)
  | .portAlignLoss port unlocked => otpKept_of_same h (execPortAlignLoss_otp port unlocked s)
  | .spCBind by_ circuit tenant => otpKept_of_same h (execSpCBind_otp by_ circuit tenant s)
  | .spCUnbind by_ circuit => otpKept_of_same h (execSpCUnbind_otp by_ circuit s)
  | .spCConfigWrite by_ circuit sub data => otpKept_of_same h (execSpCConfigWrite_otp by_ circuit sub data s)
  | .spCZeroise by_ circuit data => otpKept_of_same h (execSpCZeroise_otp by_ circuit data s)
  | .protect port channel packet => otpKept_of_same h (execProtect_otp port channel packet s)
  | .validate port channel packet => otpKept_of_same h (execValidate_otp port channel packet s)
  | .graftIn port channel packet => otpKept_of_same h (execGraftIn_otp port channel packet s)
  | .pipelineDone circuit id mismatch => execPipelineDone_kept circuit id mismatch s h
  | .rxHoldExpiry circuit => otpKept_of_same h (execRxHoldExpiry_otp circuit s)
  | .linkKeyUnusable circuit => otpKept_of_same h (execLinkKeyUnusable_otp circuit s)
  | .flowControlWord port cls xoff => otpKept_of_same h (execFlowControlWord_otp port cls xoff s)
  | .fcStallExpiry port cls => otpKept_of_same h (execFcStallExpiry_otp port cls s)
  | .graftPeriodExpiry circuit => otpKept_of_same h (execGraftPeriodExpiry_otp circuit s)
  | .grCRekey by_ circuit data => otpKept_of_same h (execGrCRekey_otp by_ circuit data s)
  | .graftTriggerStart circuit => otpKept_of_same h (execGraftTriggerStart_otp circuit s)
  | .graftG1Received circuit => otpKept_of_same h (execGraftG1Received_otp circuit s)
  | .graftG2Received circuit => execGraftG2Received_kept circuit s h
  | .graftG3Received circuit => execGraftG3Received_kept circuit s h
  | .graftStepsDone circuit => execGraftStepsDone_kept circuit s h
  | .graftOutFragment circuit => otpKept_of_same h (execGraftOutFragment_otp circuit s)
  | .graftRetryTimeout circuit => otpKept_of_same h (execGraftRetryTimeout_otp circuit s)
  | .graftResponderTimeout circuit => otpKept_of_same h (execGraftResponderTimeout_otp circuit s)
  | .graftArmDelayExpiry circuit => otpKept_of_same h (execGraftArmDelayExpiry_otp circuit s)
  | .graftSwitchDelayExpiry circuit => otpKept_of_same h (execGraftSwitchDelayExpiry_otp circuit s)
  | .graftRetryPauseExpiry circuit => otpKept_of_same h (execGraftRetryPauseExpiry_otp circuit s)
  | .fragmentAssemblyTimeout circuit => otpKept_of_same h (execFragmentAssemblyTimeout_otp circuit s)
  | .graftBufferFreed circuit => otpKept_of_same h (execGraftBufferFreed_otp circuit s)
  | .add rd rs1 rs2 => execAdd_kept rd rs1 rs2 s h
  | .sub rd rs1 rs2 => execSub_kept rd rs1 rs2 s h
  | .and rd rs1 rs2 => execAnd_kept rd rs1 rs2 s h
  | .or rd rs1 rs2 => execOr_kept rd rs1 rs2 s h
  | .xor rd rs1 rs2 => execXor_kept rd rs1 rs2 s h
  | .shl rd rs1 rs2 => execShl_kept rd rs1 rs2 s h
  | .shr rd rs1 rs2 => execShr_kept rd rs1 rs2 s h
  | .sar rd rs1 rs2 => execSar_kept rd rs1 rs2 s h
  | .mul rd rs1 rs2 => execMul_kept rd rs1 rs2 s h
  | .mulhu rd rs1 rs2 => execMulhu_kept rd rs1 rs2 s h
  | .mulhs rd rs1 rs2 => execMulhs_kept rd rs1 rs2 s h
  | .cmp rs1 rs2 => execCmp_kept rs1 rs2 s h
  | .addc rd rs1 rs2 => execAddc_kept rd rs1 rs2 s h
  | .subc rd rs1 rs2 => execSubc_kept rd rs1 rs2 s h
  | .addi rd rs1 imm => execAddi_kept rd rs1 imm s h
  | .ori rd rs1 imm => execOri_kept rd rs1 imm s h
  | .xori rd rs1 imm => execXori_kept rd rs1 imm s h
  | .andi rd rs1 imm => execAndi_kept rd rs1 imm s h
  | .lhi rd imm => execLhi_kept rd imm s h
  | .cmpi rs1 imm => execCmpi_kept rs1 imm s h
  | .ld rd rs1 imm => execLd_kept rd rs1 imm s h
  | .ldh rd rs1 imm => execLdh_kept rd rs1 imm s h
  | .ldb rd rs1 imm => execLdb_kept rd rs1 imm s h
  | .st rd rs1 imm => execSt_kept rd rs1 imm s h
  | .sth rd rs1 imm => execSth_kept rd rs1 imm s h
  | .stb rd rs1 imm => execStb_kept rd rs1 imm s h
  | .ldi rd rs1 imm => execLdi_kept rd rs1 imm s h
  | .br cond off => execBr_kept cond off s h
  | .jmp off => execJmp_kept off s h
  | .call off => execCall_kept off s h
  | .jr rs1 => execJr_kept rs1 s h
  | .callr rs1 => execCallr_kept rs1 s h
  | .brpt rs1 imm => execBrpt_kept rs1 imm s h
  | .blockRepeatEnd => otpKept_of_same h (execBlockRepeatEnd_otp s)
  | .brend => execBrend_kept s h
  | .inPort rd rs1 imm => execInPort_kept rd rs1 imm s h
  | .outPort rd rs1 imm => execOutPort_kept rd rs1 imm s h
  | .movs rpt sz dir halt brk => execMovs_kept rpt sz dir halt brk s h
  | .cmps rpt sz dir halt brk => execCmps_kept rpt sz dir halt brk s h
  | .scas rpt sz dir halt brk => execScas_kept rpt sz dir halt brk s h
  | .fills rpt sz dir halt brk => execFills_kept rpt sz dir halt brk s h
  | .ins rpt sz dir halt brk => execIns_kept rpt sz dir halt brk s h
  | .outs rpt sz dir halt brk => execOuts_kept rpt sz dir halt brk s h
  | .mfc rd imm => execMfc_kept rd imm s h
  | .mtc rs1 imm => execMtc_kept rs1 imm s h
  | .feat rd imm => execFeat_kept rd imm s h
  | .nop => execNop_kept s h
  | .eret => execEret_kept s h
  | .wfi => execWfi_kept s h
  | .fence => execFence_kept s h
  | .svcExit => execSvcExit_kept s h
  | .svcSubmit => execSvcSubmit_kept s h
  | .svcWait => execSvcWait_kept s h
  | .svcYield => execSvcYield_kept s h
  | .subjobComplete cell => otpKept_of_same h (execSubjobComplete_otp cell s)
  | .vld vd rs k ew z => execVld_kept vd rs k ew z s h
  | .vst vs rs k ew => execVst_kept vs rs k ew s h
  | .vgath vd rs vi k ew z brk => execVgath_kept vd rs vi k ew z brk s h
  | .vscat vs rs vi k ew brk => execVscat_kept vs rs vi k ew brk s h
  | .vadd vd va vb k ew z => execVadd_kept vd va vb k ew z s h
  | .vsub vd va vb k ew z => execVsub_kept vd va vb k ew z s h
  | .vmul vd va vb k ew z sgn => execVmul_kept vd va vb k ew z sgn s h
  | .vmulh vd va vb k ew z sgn => execVmulh_kept vd va vb k ew z sgn s h
  | .vwmulLo vd va vb k ew z sgn => execVwmulLo_kept vd va vb k ew z sgn s h
  | .vwmulHi vd va vb k ew z sgn => execVwmulHi_kept vd va vb k ew z sgn s h
  | .vdot4b vd va vb k ew z sgn => execVdot4b_kept vd va vb k ew z sgn s h
  | .vdot2h vd va vb k ew z sgn => execVdot2h_kept vd va vb k ew z sgn s h
  | .vdot2hqLo vd va vb k ew z sgn => execVdot2hqLo_kept vd va vb k ew z sgn s h
  | .vdot2hqHi vd va vb k ew z sgn => execVdot2hqHi_kept vd va vb k ew z sgn s h
  | .vmont vd va vb k ew z => execVmont_kept vd va vb k ew z s h
  | .vand vd va vb k ew z => execVand_kept vd va vb k ew z s h
  | .vor vd va vb k ew z => execVor_kept vd va vb k ew z s h
  | .vxor vd va vb k ew z => execVxor_kept vd va vb k ew z s h
  | .vandn vd va vb k ew z => execVandn_kept vd va vb k ew z s h
  | .vshl vd va vb k ew z => execVshl_kept vd va vb k ew z s h
  | .vshr vd va vb k ew z => execVshr_kept vd va vb k ew z s h
  | .vsar vd va vb k ew z => execVsar_kept vd va vb k ew z s h
  | .vcmpEq kd va vb k ew z sgn => execVcmpEq_kept kd va vb k ew z sgn s h
  | .vcmpNe kd va vb k ew z sgn => execVcmpNe_kept kd va vb k ew z sgn s h
  | .vcmpLt kd va vb k ew z sgn => execVcmpLt_kept kd va vb k ew z sgn s h
  | .vcmpLe kd va vb k ew z sgn => execVcmpLe_kept kd va vb k ew z sgn s h
  | .vbcast vd ra k ew z => execVbcast_kept vd ra k ew z s h
  | .vextr rd va ix ew => execVextr_kept rd va ix ew s h
  | .kmov kd ra => execKmov_kept kd ra s h
  | .kread rd ka => execKread_kept rd ka s h
  | .kand kd ka kb => execKand_kept kd ka kb s h
  | .kor kd ka kb => execKor_kept kd ka kb s h
  | .kxor kd ka kb => execKxor_kept kd ka kb s h
  | .knot kd ka => execKnot_kept kd ka s h
  | .interrupt => otpKept_of_same h (execInterrupt_otp s)
  | .budget => otpKept_of_same h (execBudget_otp s)
  | .svcQuantumExpiry => otpKept_of_same h (execSvcQuantumExpiry_otp s)
  | .lockstepMismatch => execLockstepMismatch_kept s h
  | .memoryEccError memory uncorrectable reader => execMemoryEccError_kept memory uncorrectable reader s h
  | .warmRestartComplete => otpKept_of_same h (execWarmRestartComplete_otp s)
  | .tsuowWdogBite => otpKept_of_same h (execTsuowWdogBite_otp s)
  | .svcCellLoad by_ cell data => otpKept_of_same h (execSvcCellLoad_otp by_ cell data s)
  | .svcCellReset by_ cell data => otpKept_of_same h (execSvcCellReset_otp by_ cell data s)
  | .rngTestFail code group osc value => execRngTestFail_kept code group osc value s h
  | .rngStartupDone => otpKept_of_same h (execRngStartupDone_otp s)
  | .rngRetest => otpKept_of_same h (execRngRetest_otp s)
  | .drbgReseed => otpKept_of_same h (execDrbgReseed_otp s)
  | .rngRead c => otpKept_of_same h (execRngRead_otp c s)
  | .errRngReinit c data => otpKept_of_same h (execErrRngReinit_otp c data s)
  | .tamperEvent source u value fast => execTamperEvent_kept source u value fast s h
  | .supplySample core sram io18 vbat temps => execSupplySample_kept core sram io18 vbat temps s h
  | .meshSample pair sensed => execMeshSample_kept pair sensed s h
  | .zeroNPress => execZeroNPress_kept s h
  | .inputStuck source => otpKept_of_same h (execInputStuck_otp source s)
  | .inputChatter source => execInputChatter_kept source s h
  | .holdExpiry => otpKept_of_same h (execHoldExpiry_otp s)
  | .alarmPinPulseEnd => otpKept_of_same h (execAlarmPinPulseEnd_otp s)
  | .powerLossDetect core sram io18 vbat => otpKept_of_same h (execPowerLossDetect_otp core sram io18 vbat s)
  | .pdnWindowExpiry => execPdnWindowExpiry_kept s h
  | .tamperCfgWrite c src data => otpKept_of_same h (execTamperCfgWrite_otp c src data s)
  | .tmpLock c data => otpKept_of_same h (execTmpLock_otp c data s)
  | .tmpRelease c data => otpKept_of_same h (execTmpRelease_otp c data s)
  | .tmpAonClear c data => otpKept_of_same h (execTmpAonClear_otp c data s)
  | .tmpQuorumCancel c data => otpKept_of_same h (execTmpQuorumCancel_otp c data s)
  | .officerEnrolWrite c officer data => otpKept_of_same h (execOfficerEnrolWrite_otp c officer data s)
  | .cardInsert => otpKept_of_same h (execCardInsert_otp s)
  | .cardRemove => otpKept_of_same h (execCardRemove_otp s)
  | .cardIdleTimeout => otpKept_of_same h (execCardIdleTimeout_otp s)
  | .cardAtr valid t1lrc => otpKept_of_same h (execCardAtr_otp valid t1lrc s)
  | .cardSelect sw => otpKept_of_same h (execCardSelect_otp sw s)
  | .cardGetKeys sw data => otpKept_of_same h (execCardGetKeys_otp sw data s)
  | .cardSign sw data env => execCardSign_kept sw data env s h
  | .cardGetComponent sw data => otpKept_of_same h (execCardGetComponent_otp sw data s)
  | .lcNonceNew c data => otpKept_of_same h (execLcNonceNew_otp c data s)
  | .nonceExpiry => otpKept_of_same h (execNonceExpiry_otp s)
  | .lcApply c data => execLcApply_kept c data s h
  | .lcBist c data pass => otpKept_of_same h (execLcBist_otp c data pass s)
  | .lcDbgChallengeNew c data => otpKept_of_same h (execLcDbgChallengeNew_otp c data s)
  | .lcDbgOpen c data => otpKept_of_same h (execLcDbgOpen_otp c data s)
  | .extest scan => otpKept_of_same h (execExtest_otp scan s)
  | .extestExit bootSel => otpKept_of_same h (execExtestExit_otp bootSel s)
  | .idcode bootSel => otpKept_of_same h (execIdcode_otp bootSel s)
  | .samplePreload bootSel scan => otpKept_of_same h (execSamplePreload_otp bootSel scan s)
  | .bypass bootSel => otpKept_of_same h (execBypass_otp bootSel s)
  | .debugInstruction op bootSel => execDebugInstruction_kept op bootSel s h
  | .powerOnReset bootSel => otpKept_of_same h (execPowerOnReset_otp bootSel s)
  | .resetN low bootSel => otpKept_of_same h (execResetN_otp low bootSel s)
  | .perstNReset bootSel => otpKept_of_same h (execPerstNReset_otp bootSel s)
  | .castOn env => execCastOn_kept env s h
  | .errReset c data => otpKept_of_same h (execErrReset_otp c data s)
  | .selfReset bootSel => otpKept_of_same h (execSelfReset_otp bootSel s)
  | .updStageBegin c data => otpKept_of_same h (execUpdStageBegin_otp c data s)
  | .updStageChunk c total data ok => otpKept_of_same h (execUpdStageChunk_otp c total data ok s)
  | .updVerify c data => otpKept_of_same h (execUpdVerify_otp c data s)
  | .updActivateAt c data => otpKept_of_same h (execUpdActivateAt_otp c data s)
  | .updCancel c data => otpKept_of_same h (execUpdCancel_otp c data s)
  | .activationDue bootSel => otpKept_of_same h (execActivationDue_otp bootSel s)
  | .updConfirm c data => execUpdConfirm_kept c data s h
  | .trialExpiry bootSel => otpKept_of_same h (execTrialExpiry_otp bootSel s)
  | .gaugeReplanDue m => otpKept_of_same h (execGaugeReplanDue_otp m s)
  | .pwrReplan c m data => otpKept_of_same h (execPwrReplan_otp c m data s)
  | .voutStep => otpKept_of_same h (execVoutStep_otp s)
  | .pmbusWriteResult ack pec readMv => otpKept_of_same h (execPmbusWriteResult_otp ack pec readMv s)
  | .pmAlert status => otpKept_of_same h (execPmAlert_otp status s)
  | .slicePowerGate n => otpKept_of_same h (execSlicePowerGate_otp n s)
  | .engineClockGate => otpKept_of_same h (execEngineClockGate_otp s)
  | .pllStop => otpKept_of_same h (execPllStop_otp s)
  | .tsuowRetention => otpKept_of_same h (execTsuowRetention_otp s)
  | .pwrRtcWrite c data => otpKept_of_same h (execPwrRtcWrite_otp c data s)
  | .errSliceReinit c data => otpKept_of_same h (execErrSliceReinit_otp c data s)
  | .errReqReinit c data => otpKept_of_same h (execErrReqReinit_otp c data s)
  | .errDigReinit c data => otpKept_of_same h (execErrDigReinit_otp c data s)
  | .errPipeReinit c data => otpKept_of_same h (execErrPipeReinit_otp c data s)
  | .reinitComplete pass => otpKept_of_same h (execReinitComplete_otp pass s)
  | .stuckClear source => otpKept_of_same h (execStuckClear_otp source s)
  | .chatterClear source => otpKept_of_same h (execChatterClear_otp source s)
  | .aonDomainStop => otpKept_of_same h (execAonDomainStop_otp s)
  | .startUpTestFailure => execStartUpTestFailure_kept s h
  | .updVerifyEnd => otpKept_of_same h (execUpdVerifyEnd_otp s)
  | .illegal w => execIllegal_kept w s h
  | .arrivingPacketDrop port channel packet error => otpKept_of_same h (execArrivingPacketDrop_otp port channel packet error s)
  | .pipelineReinitDone pipeline => otpKept_of_same h (execPipelineReinitDone_otp pipeline s)
  | .digestUnitReinitDone unit => otpKept_of_same h (execDigestUnitReinitDone_otp unit s)

/-- Every command answers a next state with the queue as it was. -/
theorem exec_keeps_queue (i : Instr) (s : State) : ∃ t, exec i s = .next t ∧ t.pending = s.pending :=
  match i with
  | .registerWrite t => execRegisterWrite_pending t s
  | .dwinRead => execDwinRead_pending s
  | .dwinWrite len => execDwinWrite_pending len s
  | .dwinReadBlock => execDwinReadBlock_pending s
  | .dwinWriteBlock len => execDwinWriteBlock_pending len s
  | .dwinWriteBlockLast len => execDwinWriteBlockLast_pending len s
  | .dwinNtfPop v => execDwinNtfPop_pending v s
  | .dictAccessApply env => execDictAccessApply_pending env s
  | .quorumExpiry => execQuorumExpiry_pending s
  | .dictStore c data => execDictStore_pending c data s
  | .storeWriteDone ok => execStoreWriteDone_pending ok s
  | .dictStoreStateRead c => execDictStoreStateRead_pending c s
  | .dictRestoreDefaults c data => execDictRestoreDefaults_pending c data s
  | .dictDescribe c data => execDictDescribe_pending c data s
  | .dictOapLock c data => execDictOapLock_pending c data s
  | .oapEnableWrite c data => execOapEnableWrite_pending c data s
  | .principalEnrolWrite c p sub data => execPrincipalEnrolWrite_pending c p sub data s
  | .oapRead d => execOapRead_pending d s
  | .oapWrite d => execOapWrite_pending d s
  | .oapReadBlock d => execOapReadBlock_pending d s
  | .oapWriteBlock d => execOapWriteBlock_pending d s
  | .sessionG1 d => execSessionG1_pending d s
  | .sessionG3 d => execSessionG3_pending d s
  | .close d => execClose_pending d s
  | .oapSetupTimeout slot => execOapSetupTimeout_pending slot s
  | .oapIdleTimeout slot => execOapIdleTimeout_pending slot s
  | .oapMaxLife slot => execOapMaxLife_pending slot s
  | .notify slot obj gpio => execNotify_pending slot obj gpio s
  | .icmpv6Echo d => execIcmpv6Echo_pending d s
  | .neighbourDiscovery d => execNeighbourDiscovery_pending d s
  | .mgPhyConfigWrite c sub data errs => execMgPhyConfigWrite_pending c sub data errs s
  | .tenantCreate c t data => execTenantCreate_pending c t data s
  | .tenantDelete c t data => execTenantDelete_pending c t data s
  | .tenantFenceSet c t => execTenantFenceSet_pending c t s
  | .tenantUnfence c t => execTenantUnfence_pending c t s
  | .tenantQuotaWrite c t sub data => execTenantQuotaWrite_pending c t sub data s
  | .isoRuleCommit c data => execIsoRuleCommit_pending c data s
  | .ruleChangeApply => execRuleChangeApply_pending s
  | .isoTagQuery c data => execIsoTagQuery_pending c data s
  | .ringEnableSet c pair => execRingEnableSet_pending c pair s
  | .ringDisable c pair => execRingDisable_pending c pair s
  | .ringGctrlRun v => execRingGctrlRun_pending v s
  | .ringPoll pair entries => execRingPoll_pending pair entries s
  | .admission pair => execAdmission_pending pair s
  | .starveLimitExpiry pair => execStarveLimitExpiry_pending pair s
  | .inboundDmaComplete entry data => execInboundDmaComplete_pending entry data s
  | .dispatch cls => execDispatch_pending cls s
  | .jobComplete entry => execJobComplete_pending entry s
  | .coalDelayExpiry pair => execCoalDelayExpiry_pending pair s
  | .hostMemoryError pair a => execHostMemoryError_pending pair a s
  | .ringFetchTimeout pair a => execRingFetchTimeout_pending pair a s
  | .pcieLinkReset => execPcieLinkReset_pending s
  | .jobNop pair => execJobNop_pending pair s
  | .abort pair => execAbort_pending pair s
  | .abortScrub entry => execAbortScrub_pending entry s
  | .scrubTakeover slice => execScrubTakeover_pending slice s
  | .stage pair data ok => execStage_pending pair data ok s
  | .segmentYield entry => execSegmentYield_pending entry s
  | .jobResume entry tagOk => execJobResume_pending entry tagOk s
  | .sliceReinitComplete slice => execSliceReinitComplete_pending slice s
  | .benchRequest bench cycle reqs => execBenchRequest_pending bench cycle reqs s
  | .benchWdogBite bench => execBenchWdogBite_pending bench s
  | .arbModeApply bench => execArbModeApply_pending bench s
  | .sliceWdogBite entry => execSliceWdogBite_pending entry s
  | .unitWdogBite unit => execUnitWdogBite_pending unit s
  | .mlKemKeygen entry fault => execMlKemKeygen_pending entry fault s
  | .mlKemEncaps entry fault => execMlKemEncaps_pending entry fault s
  | .mlKemDecaps entry fault => execMlKemDecaps_pending entry fault s
  | .mlKemCheck entry => execMlKemCheck_pending entry s
  | .mlDsaKeygen entry fault => execMlDsaKeygen_pending entry fault s
  | .mlDsaSign entry fault => execMlDsaSign_pending entry fault s
  | .mlDsaVerify entry fault => execMlDsaVerify_pending entry fault s
  | .slhDsaKeygen entry fault => execSlhDsaKeygen_pending entry fault s
  | .slhDsaSign entry fault => execSlhDsaSign_pending entry fault s
  | .slhDsaVerify entry fault => execSlhDsaVerify_pending entry fault s
  | .statefulKeygen entry fault => execStatefulKeygen_pending entry fault s
  | .statefulSign entry fault => execStatefulSign_pending entry fault s
  | .statefulVerify entry fault => execStatefulVerify_pending entry fault s
  | .statefulRebuild entry rootMatches => execStatefulRebuild_pending entry rootMatches s
  | .codeKemKeygen entry fault => execCodeKemKeygen_pending entry fault s
  | .codeKemEncaps entry fault => execCodeKemEncaps_pending entry fault s
  | .codeKemDecaps entry fault => execCodeKemDecaps_pending entry fault s
  | .eccKeygen entry fault => execEccKeygen_pending entry fault s
  | .eccSign entry fault => execEccSign_pending entry fault s
  | .eccVerify entry fault => execEccVerify_pending entry fault s
  | .eccAgree entry fault => execEccAgree_pending entry fault s
  | .eccCheck entry => execEccCheck_pending entry s
  | .rsaKeygen entry fault => execRsaKeygen_pending entry fault s
  | .rsaSign entry fault => execRsaSign_pending entry fault s
  | .rsaVerify entry fault => execRsaVerify_pending entry fault s
  | .rsaEncrypt entry fault => execRsaEncrypt_pending entry fault s
  | .rsaDecrypt entry fault => execRsaDecrypt_pending entry fault s
  | .openCtx entry => execOpenCtx_pending entry s
  | .absorb entry => execAbsorb_pending entry s
  | .finishFinal entry => execFinishFinal_pending entry s
  | .finishRead entry => execFinishRead_pending entry s
  | .oneshot entry => execOneshot_pending entry s
  | .deriveKey entry => execDeriveKey_pending entry s
  | .extend entry => execExtend_pending entry s
  | .saveCtx entry => execSaveCtx_pending entry s
  | .loadCtx entry => execLoadCtx_pending entry s
  | .digestQuantumEnd unit => execDigestQuantumEnd_pending unit s
  | .importWrapped entry => execImportWrapped_pending entry s
  | .exportWrapped entry => execExportWrapped_pending entry s
  | .delete entry => execDelete_pending entry s
  | .persist entry => execPersist_pending entry s
  | .unpersist entry => execUnpersist_pending entry s
  | .importPublic entry => execImportPublic_pending entry s
  | .attest entry fault => execAttest_pending entry fault s
  | .generate entry => execGenerate_pending entry s
  | .serviceCall entry => execServiceCall_pending entry s
  | .keyExpiry handle => execKeyExpiry_pending handle s
  | .maskRefresh handle => execMaskRefresh_pending handle s
  | .eraseOverwriteDone => execEraseOverwriteDone_pending s
  | .archiveCommitDone => execArchiveCommitDone_pending s
  | .archiveCompact w => execArchiveCompact_pending w s
  | .kregArchInit c data => execKregArchInit_pending c data s
  | .archiveRestore torn bad => execArchiveRestore_pending torn bad s
  | .kregFillStart c data => execKregFillStart_pending c data s
  | .fillTimeout => execFillTimeout_pending s
  | .pkeLatLock c data => execPkeLatLock_pending c data s
  | .digMeasOwnerWrite c reg data => execDigMeasOwnerWrite_pending c reg data s
  | .spEnableSet by_ port => execSpEnableSet_pending by_ port s
  | .spDisable by_ port => execSpDisable_pending by_ port s
  | .portUp port => execPortUp_pending port s
  | .portAlignLoss port unlocked => execPortAlignLoss_pending port unlocked s
  | .spCBind by_ circuit tenant => execSpCBind_pending by_ circuit tenant s
  | .spCUnbind by_ circuit => execSpCUnbind_pending by_ circuit s
  | .spCConfigWrite by_ circuit sub data => execSpCConfigWrite_pending by_ circuit sub data s
  | .spCZeroise by_ circuit data => execSpCZeroise_pending by_ circuit data s
  | .protect port channel packet => execProtect_pending port channel packet s
  | .validate port channel packet => execValidate_pending port channel packet s
  | .graftIn port channel packet => execGraftIn_pending port channel packet s
  | .pipelineDone circuit id mismatch => execPipelineDone_pending circuit id mismatch s
  | .rxHoldExpiry circuit => execRxHoldExpiry_pending circuit s
  | .linkKeyUnusable circuit => execLinkKeyUnusable_pending circuit s
  | .flowControlWord port cls xoff => execFlowControlWord_pending port cls xoff s
  | .fcStallExpiry port cls => execFcStallExpiry_pending port cls s
  | .graftPeriodExpiry circuit => execGraftPeriodExpiry_pending circuit s
  | .grCRekey by_ circuit data => execGrCRekey_pending by_ circuit data s
  | .graftTriggerStart circuit => execGraftTriggerStart_pending circuit s
  | .graftG1Received circuit => execGraftG1Received_pending circuit s
  | .graftG2Received circuit => execGraftG2Received_pending circuit s
  | .graftG3Received circuit => execGraftG3Received_pending circuit s
  | .graftStepsDone circuit => execGraftStepsDone_pending circuit s
  | .graftOutFragment circuit => execGraftOutFragment_pending circuit s
  | .graftRetryTimeout circuit => execGraftRetryTimeout_pending circuit s
  | .graftResponderTimeout circuit => execGraftResponderTimeout_pending circuit s
  | .graftArmDelayExpiry circuit => execGraftArmDelayExpiry_pending circuit s
  | .graftSwitchDelayExpiry circuit => execGraftSwitchDelayExpiry_pending circuit s
  | .graftRetryPauseExpiry circuit => execGraftRetryPauseExpiry_pending circuit s
  | .fragmentAssemblyTimeout circuit => execFragmentAssemblyTimeout_pending circuit s
  | .graftBufferFreed circuit => execGraftBufferFreed_pending circuit s
  | .add rd rs1 rs2 => execAdd_pending rd rs1 rs2 s
  | .sub rd rs1 rs2 => execSub_pending rd rs1 rs2 s
  | .and rd rs1 rs2 => execAnd_pending rd rs1 rs2 s
  | .or rd rs1 rs2 => execOr_pending rd rs1 rs2 s
  | .xor rd rs1 rs2 => execXor_pending rd rs1 rs2 s
  | .shl rd rs1 rs2 => execShl_pending rd rs1 rs2 s
  | .shr rd rs1 rs2 => execShr_pending rd rs1 rs2 s
  | .sar rd rs1 rs2 => execSar_pending rd rs1 rs2 s
  | .mul rd rs1 rs2 => execMul_pending rd rs1 rs2 s
  | .mulhu rd rs1 rs2 => execMulhu_pending rd rs1 rs2 s
  | .mulhs rd rs1 rs2 => execMulhs_pending rd rs1 rs2 s
  | .cmp rs1 rs2 => execCmp_pending rs1 rs2 s
  | .addc rd rs1 rs2 => execAddc_pending rd rs1 rs2 s
  | .subc rd rs1 rs2 => execSubc_pending rd rs1 rs2 s
  | .addi rd rs1 imm => execAddi_pending rd rs1 imm s
  | .ori rd rs1 imm => execOri_pending rd rs1 imm s
  | .xori rd rs1 imm => execXori_pending rd rs1 imm s
  | .andi rd rs1 imm => execAndi_pending rd rs1 imm s
  | .lhi rd imm => execLhi_pending rd imm s
  | .cmpi rs1 imm => execCmpi_pending rs1 imm s
  | .ld rd rs1 imm => execLd_pending rd rs1 imm s
  | .ldh rd rs1 imm => execLdh_pending rd rs1 imm s
  | .ldb rd rs1 imm => execLdb_pending rd rs1 imm s
  | .st rd rs1 imm => execSt_pending rd rs1 imm s
  | .sth rd rs1 imm => execSth_pending rd rs1 imm s
  | .stb rd rs1 imm => execStb_pending rd rs1 imm s
  | .ldi rd rs1 imm => execLdi_pending rd rs1 imm s
  | .br cond off => execBr_pending cond off s
  | .jmp off => execJmp_pending off s
  | .call off => execCall_pending off s
  | .jr rs1 => execJr_pending rs1 s
  | .callr rs1 => execCallr_pending rs1 s
  | .brpt rs1 imm => execBrpt_pending rs1 imm s
  | .blockRepeatEnd => execBlockRepeatEnd_pending s
  | .brend => execBrend_pending s
  | .inPort rd rs1 imm => execInPort_pending rd rs1 imm s
  | .outPort rd rs1 imm => execOutPort_pending rd rs1 imm s
  | .movs rpt sz dir halt brk => execMovs_pending rpt sz dir halt brk s
  | .cmps rpt sz dir halt brk => execCmps_pending rpt sz dir halt brk s
  | .scas rpt sz dir halt brk => execScas_pending rpt sz dir halt brk s
  | .fills rpt sz dir halt brk => execFills_pending rpt sz dir halt brk s
  | .ins rpt sz dir halt brk => execIns_pending rpt sz dir halt brk s
  | .outs rpt sz dir halt brk => execOuts_pending rpt sz dir halt brk s
  | .mfc rd imm => execMfc_pending rd imm s
  | .mtc rs1 imm => execMtc_pending rs1 imm s
  | .feat rd imm => execFeat_pending rd imm s
  | .nop => execNop_pending s
  | .eret => execEret_pending s
  | .wfi => execWfi_pending s
  | .fence => execFence_pending s
  | .svcExit => execSvcExit_pending s
  | .svcSubmit => execSvcSubmit_pending s
  | .svcWait => execSvcWait_pending s
  | .svcYield => execSvcYield_pending s
  | .subjobComplete cell => execSubjobComplete_pending cell s
  | .vld vd rs k ew z => execVld_pending vd rs k ew z s
  | .vst vs rs k ew => execVst_pending vs rs k ew s
  | .vgath vd rs vi k ew z brk => execVgath_pending vd rs vi k ew z brk s
  | .vscat vs rs vi k ew brk => execVscat_pending vs rs vi k ew brk s
  | .vadd vd va vb k ew z => execVadd_pending vd va vb k ew z s
  | .vsub vd va vb k ew z => execVsub_pending vd va vb k ew z s
  | .vmul vd va vb k ew z sgn => execVmul_pending vd va vb k ew z sgn s
  | .vmulh vd va vb k ew z sgn => execVmulh_pending vd va vb k ew z sgn s
  | .vwmulLo vd va vb k ew z sgn => execVwmulLo_pending vd va vb k ew z sgn s
  | .vwmulHi vd va vb k ew z sgn => execVwmulHi_pending vd va vb k ew z sgn s
  | .vdot4b vd va vb k ew z sgn => execVdot4b_pending vd va vb k ew z sgn s
  | .vdot2h vd va vb k ew z sgn => execVdot2h_pending vd va vb k ew z sgn s
  | .vdot2hqLo vd va vb k ew z sgn => execVdot2hqLo_pending vd va vb k ew z sgn s
  | .vdot2hqHi vd va vb k ew z sgn => execVdot2hqHi_pending vd va vb k ew z sgn s
  | .vmont vd va vb k ew z => execVmont_pending vd va vb k ew z s
  | .vand vd va vb k ew z => execVand_pending vd va vb k ew z s
  | .vor vd va vb k ew z => execVor_pending vd va vb k ew z s
  | .vxor vd va vb k ew z => execVxor_pending vd va vb k ew z s
  | .vandn vd va vb k ew z => execVandn_pending vd va vb k ew z s
  | .vshl vd va vb k ew z => execVshl_pending vd va vb k ew z s
  | .vshr vd va vb k ew z => execVshr_pending vd va vb k ew z s
  | .vsar vd va vb k ew z => execVsar_pending vd va vb k ew z s
  | .vcmpEq kd va vb k ew z sgn => execVcmpEq_pending kd va vb k ew z sgn s
  | .vcmpNe kd va vb k ew z sgn => execVcmpNe_pending kd va vb k ew z sgn s
  | .vcmpLt kd va vb k ew z sgn => execVcmpLt_pending kd va vb k ew z sgn s
  | .vcmpLe kd va vb k ew z sgn => execVcmpLe_pending kd va vb k ew z sgn s
  | .vbcast vd ra k ew z => execVbcast_pending vd ra k ew z s
  | .vextr rd va ix ew => execVextr_pending rd va ix ew s
  | .kmov kd ra => execKmov_pending kd ra s
  | .kread rd ka => execKread_pending rd ka s
  | .kand kd ka kb => execKand_pending kd ka kb s
  | .kor kd ka kb => execKor_pending kd ka kb s
  | .kxor kd ka kb => execKxor_pending kd ka kb s
  | .knot kd ka => execKnot_pending kd ka s
  | .interrupt => execInterrupt_pending s
  | .budget => execBudget_pending s
  | .svcQuantumExpiry => execSvcQuantumExpiry_pending s
  | .lockstepMismatch => execLockstepMismatch_pending s
  | .memoryEccError memory uncorrectable reader => execMemoryEccError_pending memory uncorrectable reader s
  | .warmRestartComplete => execWarmRestartComplete_pending s
  | .tsuowWdogBite => execTsuowWdogBite_pending s
  | .svcCellLoad by_ cell data => execSvcCellLoad_pending by_ cell data s
  | .svcCellReset by_ cell data => execSvcCellReset_pending by_ cell data s
  | .rngTestFail code group osc value => execRngTestFail_pending code group osc value s
  | .rngStartupDone => execRngStartupDone_pending s
  | .rngRetest => execRngRetest_pending s
  | .drbgReseed => execDrbgReseed_pending s
  | .rngRead c => execRngRead_pending c s
  | .errRngReinit c data => execErrRngReinit_pending c data s
  | .tamperEvent source u value fast => execTamperEvent_pending source u value fast s
  | .supplySample core sram io18 vbat temps => execSupplySample_pending core sram io18 vbat temps s
  | .meshSample pair sensed => execMeshSample_pending pair sensed s
  | .zeroNPress => execZeroNPress_pending s
  | .inputStuck source => execInputStuck_pending source s
  | .inputChatter source => execInputChatter_pending source s
  | .holdExpiry => execHoldExpiry_pending s
  | .alarmPinPulseEnd => execAlarmPinPulseEnd_pending s
  | .powerLossDetect core sram io18 vbat => execPowerLossDetect_pending core sram io18 vbat s
  | .pdnWindowExpiry => execPdnWindowExpiry_pending s
  | .tamperCfgWrite c src data => execTamperCfgWrite_pending c src data s
  | .tmpLock c data => execTmpLock_pending c data s
  | .tmpRelease c data => execTmpRelease_pending c data s
  | .tmpAonClear c data => execTmpAonClear_pending c data s
  | .tmpQuorumCancel c data => execTmpQuorumCancel_pending c data s
  | .officerEnrolWrite c officer data => execOfficerEnrolWrite_pending c officer data s
  | .cardInsert => execCardInsert_pending s
  | .cardRemove => execCardRemove_pending s
  | .cardIdleTimeout => execCardIdleTimeout_pending s
  | .cardAtr valid t1lrc => execCardAtr_pending valid t1lrc s
  | .cardSelect sw => execCardSelect_pending sw s
  | .cardGetKeys sw data => execCardGetKeys_pending sw data s
  | .cardSign sw data env => execCardSign_pending sw data env s
  | .cardGetComponent sw data => execCardGetComponent_pending sw data s
  | .lcNonceNew c data => execLcNonceNew_pending c data s
  | .nonceExpiry => execNonceExpiry_pending s
  | .lcApply c data => execLcApply_pending c data s
  | .lcBist c data pass => execLcBist_pending c data pass s
  | .lcDbgChallengeNew c data => execLcDbgChallengeNew_pending c data s
  | .lcDbgOpen c data => execLcDbgOpen_pending c data s
  | .extest scan => execExtest_pending scan s
  | .extestExit bootSel => execExtestExit_pending bootSel s
  | .idcode bootSel => execIdcode_pending bootSel s
  | .samplePreload bootSel scan => execSamplePreload_pending bootSel scan s
  | .bypass bootSel => execBypass_pending bootSel s
  | .debugInstruction op bootSel => execDebugInstruction_pending op bootSel s
  | .powerOnReset bootSel => execPowerOnReset_pending bootSel s
  | .resetN low bootSel => execResetN_pending low bootSel s
  | .perstNReset bootSel => execPerstNReset_pending bootSel s
  | .castOn env => execCastOn_pending env s
  | .errReset c data => execErrReset_pending c data s
  | .selfReset bootSel => execSelfReset_pending bootSel s
  | .updStageBegin c data => execUpdStageBegin_pending c data s
  | .updStageChunk c total data ok => execUpdStageChunk_pending c total data ok s
  | .updVerify c data => execUpdVerify_pending c data s
  | .updActivateAt c data => execUpdActivateAt_pending c data s
  | .updCancel c data => execUpdCancel_pending c data s
  | .activationDue bootSel => execActivationDue_pending bootSel s
  | .updConfirm c data => execUpdConfirm_pending c data s
  | .trialExpiry bootSel => execTrialExpiry_pending bootSel s
  | .gaugeReplanDue m => execGaugeReplanDue_pending m s
  | .pwrReplan c m data => execPwrReplan_pending c m data s
  | .voutStep => execVoutStep_pending s
  | .pmbusWriteResult ack pec readMv => execPmbusWriteResult_pending ack pec readMv s
  | .pmAlert status => execPmAlert_pending status s
  | .slicePowerGate n => execSlicePowerGate_pending n s
  | .engineClockGate => execEngineClockGate_pending s
  | .pllStop => execPllStop_pending s
  | .tsuowRetention => execTsuowRetention_pending s
  | .pwrRtcWrite c data => execPwrRtcWrite_pending c data s
  | .errSliceReinit c data => execErrSliceReinit_pending c data s
  | .errReqReinit c data => execErrReqReinit_pending c data s
  | .errDigReinit c data => execErrDigReinit_pending c data s
  | .errPipeReinit c data => execErrPipeReinit_pending c data s
  | .reinitComplete pass => execReinitComplete_pending pass s
  | .stuckClear source => execStuckClear_pending source s
  | .chatterClear source => execChatterClear_pending source s
  | .aonDomainStop => execAonDomainStop_pending s
  | .startUpTestFailure => execStartUpTestFailure_pending s
  | .updVerifyEnd => execUpdVerifyEnd_pending s
  | .illegal w => execIllegal_pending w s
  | .arrivingPacketDrop port channel packet error => execArrivingPacketDrop_pending port channel packet error s
  | .pipelineReinitDone pipeline => execPipelineReinitDone_pending pipeline s
  | .digestUnitReinitDone unit => execDigestUnitReinitDone_pending unit s

/-- A step on an empty queue is the model's tick. -/
theorem step_of_empty {s : State} (h : s.pending = []) : step s = .next (idle s) := by
  unfold step; rw [h]

/-- A step runs the command at the front of the queue. -/
theorem step_of_front {s : State} {c : Instr} {r : List Instr} (h : s.pending = c :: r) : step s = exec c { s with pending := r } := by
  unfold step; rw [h]

/-- A step is a command of the queue, or the tick. -/
theorem step_cases (s : State) :
    (s.pending = [] ∧ step s = .next (idle s)) ∨ ∃ c r, s.pending = c :: r ∧ step s = exec c { s with pending := r } :=
  match h : s.pending with
  | [] => .inl ⟨rfl, step_of_empty h⟩
  | c :: r => .inr ⟨c, r, rfl, step_of_front h⟩

/-- With nothing subscribed nothing is watched (R61, R84). -/
theorem lookAround_unsubscribed {s : State} (h : subscriptions s = []) : lookAround s = s := by
  unfold lookAround
  simp [h]

end Sys2Proof.Machine

open Sys2Proof Sys2Proof.Machine

/-- Settles O5: a step is the tick, which leaves OTP alone, or a command, and every command keeps the burnt bits. -/
theorem otpOneWay : Obligations.OtpOneWay := by
  unfold Obligations.OtpOneWay
  intro o s s' h hs
  rcases step_cases s with ⟨_, hi⟩ | ⟨c, r, _, hc⟩
  · cases hi.symm.trans hs
    exact OtpKept.of_eq h (idle_otp s)
  · obtain ⟨t, hn, ht⟩ := exec_keeps_otp c (s := { s with pending := r }) h
    cases (hc.trans hn).symm.trans hs
    exact ht

/-- Settles O6: every command keeps the queue, and the tick changes none. -/
theorem execKeepsQueue : Obligations.ExecKeepsQueue := by
  unfold Obligations.ExecKeepsQueue
  refine ⟨exec_keeps_queue, fun s s' hq hs => ?_⟩
  rcases step_cases s with ⟨_, hi⟩ | ⟨c, r, hp, hc⟩
  · cases hi.symm.trans hs
    unfold QueueOk
    rwa [idle_pending]
  · obtain ⟨t, hn, ht⟩ := exec_keeps_queue c { s with pending := r }
    cases (hc.trans hn).symm.trans hs
    unfold QueueOk
    rw [ht]
    exact fun d hd => hq d (hp ▸ List.mem_cons_of_mem c hd)

/-- Settles O4: a new unit's OTP is blank, and against itself nothing is lost. -/
theorem otpInvAtReset : Obligations.OtpInvAtReset := by
  unfold Obligations.OtpInvAtReset
  have hotp : State.reset.lc.otp = Otp.blank := rfl
  unfold OtpInv BurntFrom
  rw [hotp]
  refine ⟨by decide, by decide, ⟨?_, ?_, ?_⟩, ⟨.inl rfl, .inl rfl⟩, ⟨rfl, rfl⟩, le_refl _, fun _ => le_refl _⟩
  · exact BitVec.and_self
  · exact BitVec.and_self
  · exact BitVec.and_self

/-- Settles O1: the definition of a step on a queue that is not empty. -/
theorem stepRunsFront : Obligations.StepRunsFront := by
  unfold Obligations.StepRunsFront
  exact fun c r s h => step_of_front h

/-- Settles O2: the tick moves the clock and looks around, which does nothing where nothing is subscribed. -/
theorem idleStep : Obligations.IdleStep := by
  unfold Obligations.IdleStep
  refine ⟨fun s h => step_of_empty h, fun s h hs => (step_of_empty h).trans (congrArg Host.Outcome.next ?_)⟩
  exact lookAround_unsubscribed (s := { s with now := s.now + 1000 }) hs
end

section
/-!
PROOFS. Arithmetic, logic, shifts and immediates of the core (R459, R460, R468, R469).
-/
namespace Sys2Proof.Machine

/-! ### Flags (R460) -/

/-- Setting Z, N, C and V sets these four and leaves the rest of FL. -/
theorem flagsAre_setFlags (c : Core) (z n cy v : Bool) : FlagsAre c (c.setFlags z n cy v) z n cy v := by
  have bits : ∀ k : BitVec 32, k &&& 0xFFFFFFF0 = 0 → (c.fl &&& 0xFFFFFFF0 ||| k) &&& 0xFFFFFFF0 = c.fl &&& 0xFFFFFFF0 := by
    intro k hk
    rw [BitVec.and_comm, BitVec.and_or_distrib_left, BitVec.and_comm _ k, hk, BitVec.and_comm, BitVec.and_assoc, BitVec.and_self]
    exact BitVec.or_zero
  have low : ∀ (k : BitVec 32) (i : Nat), (0xFFFFFFF0 : BitVec 32).getLsbD i = false → (c.fl &&& 0xFFFFFFF0 ||| k).getLsbD i = k.getLsbD i := by
    intro k i hi
    rw [BitVec.getLsbD_or, BitVec.getLsbD_and, hi, Bool.and_false, Bool.false_or]
  refine ⟨(low _ 0 rfl).trans ?_, (low _ 1 rfl).trans ?_, (low _ 2 rfl).trans ?_, (low _ 3 rfl).trans ?_, bits _ ?_⟩
  all_goals cases z <;> cases n <;> cases cy <;> cases v <;> rfl

theorem aluAdd_false (a b : Word) :
    aluAdd a b false = ⟨a + b, decide (2 ^ 32 ≤ a.toNat + b.toNat), decide (a.toInt + b.toInt ≠ (a + b).toInt)⟩ := by
  simp [aluAdd, b2n]

theorem aluSub_false (a b : Word) :
    aluSub a b false = ⟨a - b, decide (a.toNat < b.toNat), decide (a.toInt - b.toInt ≠ (a - b).toInt)⟩ := by
  simp [aluSub, b2n]

/-- A register operation with its flags completes. -/
theorem aluDone {c : Core} (h : keysRise c.g = true) (rd : BitVec 4) (o : AluOut) :
    let d := ((c.setReg rd o.val).aluFlags o).complete
    Retired c d ∧ Wrote c d rd o.val ∧ FlagsAre c d (decide (o.val = 0)) o.val.msb o.cy o.ov :=
  ⟨⟨rfl, rfl⟩, ⟨reg_setReg_same h rd o.val, fun _ hr => reg_setReg_other h o.val hr⟩, flagsAre_setFlags (c.setReg rd o.val) _ _ _ _⟩

section
variable {s : State} (hx : Executes s) (hg : keysRise (atInstr s).tsuow.core.g = true)
include hx

theorem aluRow_executes (rd : BitVec 4) (f : Core → AluOut) :
    aluRow rd f s = setCore ((((atInstr s).tsuow.core.setReg rd (f (atInstr s).tsuow.core).val).aluFlags
      (f (atInstr s).tsuow.core)).complete) (atInstr s) :=
  coreRow_executes _ hx

theorem movRow_executes (rd : BitVec 4) (f : Core → Word) :
    let c := (atInstr s).tsuow.core
    movRow rd f s = setCore (c.setReg rd (f c)).complete (atInstr s) :=
  coreRow_executes _ hx

theorem cmpRow_executes (f : Core → AluOut) :
    cmpRow f s = setCore ((atInstr s).tsuow.core.aluFlags (f (atInstr s).tsuow.core)).complete (atInstr s) :=
  coreRow_executes _ hx

include hg

/-- What a register operation of this result and these flags leaves. -/
theorem aluRow_writes (rd : BitVec 4) {f : Core → AluOut} {v : Word} {cy ov : Bool} (hf : f (atInstr s).tsuow.core = ⟨v, cy, ov⟩) :
    let c := (atInstr s).tsuow.core
    ∃ d, aluRow rd f s = setCore d (atInstr s) ∧ Retired c d ∧ Wrote c d rd v ∧ FlagsAre c d (decide (v = 0)) v.msb cy ov := by
  have hrow := aluRow_executes hx rd f
  rw [hf] at hrow
  exact ⟨_, hrow, aluDone hg rd ⟨v, cy, ov⟩⟩

/-- What a register operation without flags leaves. -/
theorem movRow_writes (rd : BitVec 4) (f : Core → Word) :
    let c := (atInstr s).tsuow.core
    ∃ d, movRow rd f s = setCore d (atInstr s) ∧ Retired c d ∧ Wrote c d rd (f c) ∧ d.fl = c.fl := by
  obtain ⟨hret, hfl, hwrote⟩ := setReg_complete hg rd (f (atInstr s).tsuow.core)
  exact ⟨_, movRow_executes hx rd f, hret, hwrote, hfl⟩

/-- What a shift leaves: by less than 32 its value, with free flags C and V. -/
theorem shiftRow_writes (rd r1 r2 : BitVec 4) (f : Word → Nat → Word) :
    let u := atInstr s
    let c := u.tsuow.core
    ∃ d w cy ov, shiftRow rd r1 r2 f s = setCore d { u with free := u.free + 2 } ∧
      ((c.reg r2).toNat < 32 → w = f (c.reg r1) (c.reg r2).toNat) ∧ Retired c d ∧ Wrote c d rd w ∧
      FlagsAre c d (decide (w = 0)) w.msb cy ov := by
  intro u c
  obtain ⟨hret, hwrote, hflags⟩ := aluDone hg rd
    { val := if (c.reg r2).toNat < 32 then f (c.reg r1) (c.reg r2).toNat else BitVec.ofNat 32 (Config.freeNat u.free)
      cy := bit (Config.freeNat (u.free + 1)) 0
      ov := bit (Config.freeNat (u.free + 1)) 1 }
  exact ⟨_, _, _, _, coreRow_executes _ hx, fun h => if_pos h, hret, hwrote, hflags⟩

end

/-- What a comparison of `x` with `y` leaves. -/
theorem cmpRow_flags {s : State} (hx : Executes s) {f : Core → AluOut} {x y : Word} (hf : f (atInstr s).tsuow.core = aluSub x y false) :
    let c := (atInstr s).tsuow.core
    ∃ d, cmpRow f s = setCore d (atInstr s) ∧ Retired c d ∧ d.g = c.g ∧
      FlagsAre c d (decide (x - y = 0)) (x - y).msb (decide (x.toNat < y.toNat)) (decide (x.toInt - y.toInt ≠ (x - y).toInt)) := by
  have hrow := cmpRow_executes hx f
  rw [hf, aluSub_false] at hrow
  exact ⟨_, hrow, ⟨rfl, rfl⟩, rfl, flagsAre_setFlags (atInstr s).tsuow.core _ _ _ _⟩

end Sys2Proof.Machine

open Sys2Proof Sys2Proof.Machine

/-- Settles O48: each instruction is a register operation with or without flags, a shift or a comparison, and what each of these leaves is
`aluRow_writes`, `movRow_writes`, `shiftRow_writes` or `cmpRow_flags`. -/
theorem coreArithmetic : Obligations.CoreArithmetic := by
  unfold Obligations.CoreArithmetic
  intro s rd r1 r2 imm hx hkeys u c a b k sub
  have hg : keysRise c.g = true := (congrArg keysRise (atInstr_g s)).trans hkeys
  have alu := fun {f : Core → AluOut} {v cy ov} (hf : f c = ⟨v, cy, ov⟩) => aluRow_writes hx hg rd hf
  have next : ∀ {t : State} {P : Core → Prop}, (∃ d, t = setCore d u ∧ P d) →
      ∃ d, (Host.Outcome.next t : Host.Outcome State Fault Refusal) = .next (setCore d u) ∧ P d :=
    fun ⟨d, ht, hp⟩ => ⟨d, congrArg _ ht, hp⟩
  refine ⟨fun i v cy ov hi => ?_, fun i v hi => ?_, fun i v hi => ?_, fun i y hi => ?_⟩
  · rcases hi with ⟨rfl, rfl, rfl, rfl⟩ | ⟨rfl, h⟩ | ⟨rfl, rfl, rfl, rfl⟩ | ⟨rfl, h⟩ | ⟨rfl, rfl, rfl, rfl⟩ | ⟨rfl, rfl, rfl, rfl⟩ |
      ⟨rfl, rfl, rfl, rfl⟩
    · exact next (alu (aluAdd_false a b))
    · cases h; exact next (alu rfl)
    · exact next (alu rfl)
    · cases h; exact next (alu rfl)
    · exact next (alu rfl)
    · exact next (alu rfl)
    · exact next (alu rfl)
  · have shift := fun f => shiftRow_writes hx hg rd r1 r2 f
    rcases hi with ⟨rfl, rfl⟩ | ⟨rfl, rfl⟩ | ⟨rfl, rfl⟩
    · obtain ⟨d, w, cy, ov, hrow, h⟩ := shift (fun a n => a <<< n)
      exact ⟨d, w, cy, ov, congrArg _ hrow, h⟩
    · obtain ⟨d, w, cy, ov, hrow, h⟩ := shift (fun a n => a >>> n)
      exact ⟨d, w, cy, ov, congrArg _ hrow, h⟩
    · obtain ⟨d, w, cy, ov, hrow, h⟩ := shift (fun a n => a.sshiftRight n)
      exact ⟨d, w, cy, ov, congrArg _ hrow, h⟩
  · have mov := fun f => next (movRow_writes hx hg rd f)
    rcases hi with ⟨rfl, rfl⟩ | ⟨rfl, rfl⟩ | ⟨rfl, rfl⟩ | ⟨rfl, rfl⟩ | ⟨rfl, rfl⟩ | ⟨rfl, rfl⟩ | ⟨rfl, rfl⟩ | ⟨rfl, rfl⟩
    · exact mov (fun c => c.reg r1 * c.reg r2)
    · exact mov (fun c => BitVec.ofNat 32 ((c.reg r1).toNat * (c.reg r2).toNat / 2 ^ 32))
    · exact mov (fun c => BitVec.ofInt 32 ((c.reg r1).toInt * (c.reg r2).toInt / 2 ^ 32))
    · exact mov (fun c => c.reg r1 + simm imm)
    · exact mov (fun c => c.reg r1 ||| zimm imm)
    · exact mov (fun c => c.reg r1 ^^^ zimm imm)
    · exact mov (fun c => c.reg r1 &&& zimm imm)
    · exact mov (fun _ => zimm imm <<< 14)
  · rcases hi with ⟨rfl, rfl⟩ | ⟨rfl, rfl⟩
    · exact next (cmpRow_flags hx (f := fun c => aluSub (c.reg r1) (c.reg r2) false) rfl)
    · exact next (cmpRow_flags hx (f := fun c => aluSub (c.reg r1) (simm imm) false) rfl)
end

section
/-!
PROOFS. Branches, block repeat, ports, control registers, system instructions and exceptions of the core (R461, R464, R469, R473–R488).
-/
namespace Sys2Proof.Machine

/-! ### LA and LS (R460) -/

/-- Setting LA and LS sets these two. -/
theorem loop_setLoop (c : Core) (la ls : Bool) : flLA (c.setLoop la ls) = la ∧ flLS (c.setLoop la ls) = ls := by
  have high : ∀ (k : BitVec 32) (i : Nat), (0xFFFF9FFF : BitVec 32).getLsbD i = false →
      (c.fl &&& 0xFFFF9FFF ||| k).getLsbD i = k.getLsbD i := by
    intro k i hi
    rw [BitVec.getLsbD_or, BitVec.getLsbD_and, hi, Bool.and_false, Bool.false_or]
  refine ⟨(high _ 13 rfl).trans ?_, (high _ 14 rfl).trans ?_⟩
  all_goals cases la <;> cases ls <;> rfl

@[simp] theorem flLA_setLoop (c : Core) (la ls : Bool) : flLA (c.setLoop la ls) = la := (loop_setLoop c la ls).1
@[simp] theorem flLS_setLoop (c : Core) (la ls : Bool) : flLS (c.setLoop la ls) = ls := (loop_setLoop c la ls).2

/-! ### Block repeat (R473) -/

theorem endLevel_g (c : Core) : c.endLevel.g = c.g := by
  unfold Core.endLevel; split <;> rfl

theorem endLevel_pc (c : Core) : c.endLevel.pc = c.pc := by
  unfold Core.endLevel; split <;> rfl

/-- After a level's end a repeat is active where an outer level was. -/
theorem flLA_endLevel (c : Core) : flLA c.endLevel = (flLA c && flLS c) := by
  unfold Core.endLevel
  split
  · next h => rw [h, Bool.and_true]; exact flLA_setLoop c (flLA c) false
  · next h => rw [Bool.eq_false_iff.mpr h, Bool.and_false]; exact flLA_setLoop c false false

theorem repeatEnd_again {c : Core} (he : c.endPending = true) (hl : c.lc ≠ 1) : c.repeatEnd.pc = c.ls ∧ c.repeatEnd.lc = c.lc - 1 := by
  have hlc : c.lc - 1 ≠ 0 := fun h => hl (BitVec.sub_eq_iff_eq_add.mp h)
  unfold Core.repeatEnd
  rw [if_pos he]
  dsimp only
  rw [if_pos hlc]
  exact ⟨rfl, rfl⟩

theorem repeatEnd_last {c : Core} (he : c.endPending = true) (hl : c.lc = 1) :
    c.repeatEnd.pc = c.pc ∧ flLA c.repeatEnd = (flLA c && flLS c) := by
  have hlc : c.lc - 1 = 0 := by rw [hl]; exact BitVec.sub_self _
  unfold Core.repeatEnd
  rw [if_pos he]
  dsimp only
  rw [if_neg (not_not_intro hlc)]
  exact ⟨endLevel_pc _, flLA_endLevel _⟩

theorem repeatEnd_idle {c : Core} (he : c.endPending = false) : c.repeatEnd = c := by
  unfold Core.repeatEnd
  rw [he]
  rfl

/-- A BRPT of a count begins a level, inside the one that was active; one of no count steps over the block. -/
theorem brptDo_effect (c : Core) (r : BitVec 4) (imm : BitVec 18) :
    (brptDo c r imm).g = c.g ∧
    (c.reg r ≠ 0 → (brptDo c r imm).lc = c.reg r ∧ (brptDo c r imm).ls = c.pc + 4 ∧ (brptDo c r imm).le = c.pc + 4 * imm.zeroExtend 24 ∧
      flLA (brptDo c r imm) = true ∧ (brptDo c r imm).pc = c.pc + 4 ∧
      (flLA c = true → flLS (brptDo c r imm) = true ∧ (brptDo c r imm).lc1 = c.lc ∧ (brptDo c r imm).ls1 = c.ls ∧
        (brptDo c r imm).le1 = c.le)) ∧
    (c.reg r = 0 → (brptDo c r imm).pc = c.pc + 4 * imm.zeroExtend 24 + 4 ∧ flLA (brptDo c r imm) = flLA c) := by
  unfold brptDo
  by_cases hla : flLA c = true
  · rw [if_pos hla]
    by_cases h0 : c.reg r = 0
    · dsimp only
      rw [if_pos h0]
      refine ⟨endLevel_g _, fun h => absurd h0 h, fun _ => ⟨rfl, (flLA_endLevel _).trans ?_⟩⟩
      rw [hla]
      exact Bool.and_eq_true_iff.mpr (loop_setLoop c true true)
    · dsimp only
      rw [if_neg h0]
      exact ⟨rfl, fun _ => ⟨rfl, rfl, rfl, flLA_setLoop _ _ _, rfl, fun _ => ⟨(flLS_setLoop _ _ _).trans (flLS_setLoop c true true),
        rfl, rfl, rfl⟩⟩, fun h => absurd h h0⟩
  · rw [if_neg hla]
    by_cases h0 : c.reg r = 0
    · dsimp only
      rw [if_pos h0]
      refine ⟨endLevel_g _, fun h => absurd h0 h, fun _ => ⟨rfl, (flLA_endLevel _).trans ?_⟩⟩
      have hoff : flLA c = false := Bool.eq_false_iff.mpr hla
      exact (congrArg (· && _) hoff).trans hoff.symm
    · dsimp only
      rw [if_neg h0]
      exact ⟨rfl, fun _ => ⟨rfl, rfl, rfl, flLA_setLoop _ _ _, rfl, fun h => absurd h hla⟩, fun h => absurd h h0⟩

/-! ### The rows of the core -/

section
variable {s : State} (hx : Executes s)
include hx

/-- A row that only changes the core. -/
theorem coreOnly_executes (f : Core → Core) : coreRow (coreOnly f) s = setCore (f (atInstr s).tsuow.core) (atInstr s) :=
  coreRow_executes _ hx

/-- A row that may fault, where it does not. -/
theorem coreMay_passes {f : Core → Exc ⊕ Core} {d : Core} (h : f (atInstr s).tsuow.core = .inr d) :
    coreRow (coreMay f) s = setCore d (atInstr s) := by
  rw [coreRow_executes _ hx, coreMay, h]

/-- Where it faults. -/
theorem coreMay_faults {f : Core → Exc ⊕ Core} {x : Exc} (h : f (atInstr s).tsuow.core = .inl x) :
    coreRow (coreMay f) s = faultAt x (atInstr s) := by
  rw [coreRow_executes _ hx, coreMay, h]
  rfl

/-- BR goes where its condition says; a reserved one is illegal. -/
theorem exec_br (cond : BitVec 4) (off : BitVec 22) :
    exec (.br cond off) s = .next (match condHolds (atInstr s).tsuow.core cond.toNat with
      | none => illegal (atInstr s)
      | some true => setCore ((atInstr s).tsuow.core.goto (target (atInstr s).tsuow.core (off.signExtend 24))) (atInstr s)
      | some false => setCore (atInstr s).tsuow.core.complete (atInstr s)) := by
  refine (congrArg Host.Outcome.next (coreRow_executes _ hx)).trans ?_
  rfl

theorem exec_brpt_faults {r : BitVec 4} {imm : BitVec 18} {x : Exc} (h : brptFault (atInstr s).tsuow.core imm = some x) :
    exec (.brpt r imm) s = .next (faultAt x (atInstr s)) := by
  refine (congrArg Host.Outcome.next (coreRow_executes _ hx)).trans ?_
  simp only [h]

theorem exec_brpt_begins {r : BitVec 4} {imm : BitVec 18} (h : brptFault (atInstr s).tsuow.core imm = none) :
    exec (.brpt r imm) s = .next (setCore (brptDo (atInstr s).tsuow.core r imm) (atInstr s)) := by
  refine (congrArg Host.Outcome.next (coreRow_executes _ hx)).trans ?_
  simp only [h]

/-- In user mode a port that R464 does not list raises PRIV. -/
theorem exec_port_priv {rd r : BitVec 4} {imm : BitVec 18} (hu : modeUM (atInstr s).tsuow.core = true)
    (h : listedPort (portOf (atInstr s).tsuow.core r imm) = false) :
    exec (.inPort rd r imm) s = .next (faultAt { code := xPRIV, addr := 0 } (atInstr s)) ∧
    exec (.outPort rd r imm) s = .next (faultAt { code := xPRIV, addr := 0 } (atInstr s)) := by
  have hp : (modeUM (atInstr s).tsuow.core && !(listedPort (portOf (atInstr s).tsuow.core r imm))) = true := by rw [hu, h]; rfl
  exact ⟨(congrArg Host.Outcome.next (coreRow_executes _ hx)).trans (congrArg _ (if_pos hp)),
    (congrArg Host.Outcome.next (coreRow_executes _ hx)).trans (congrArg _ (if_pos hp))⟩

/-- A port that the mode may use: OUT completes, and IN puts what the port reads unless it stalls. -/
theorem exec_port_open {rd r : BitVec 4} {imm : BitVec 18}
    (h : listedPort (portOf (atInstr s).tsuow.core r imm) = true ∨ ¬ modeUM (atInstr s).tsuow.core = true) :
    let u := atInstr s
    let p := portOf u.tsuow.core r imm
    exec (.outPort rd r imm) s = .next (setCore u.tsuow.core.complete u) ∧
    (portStalls u p = false → exec (.inPort rd r imm) s =
      .next (setCore ((portRead p u).2.tsuow.core.setReg rd (portRead p u).1).complete (portRead p u).2)) := by
  have hp : ¬ (modeUM (atInstr s).tsuow.core && !(listedPort (portOf (atInstr s).tsuow.core r imm))) = true := by
    intro hc
    obtain ⟨hu, hl⟩ := Bool.and_eq_true_iff.mp hc
    rcases h with h | h
    · rw [h] at hl; cases hl
    · exact h hu
  refine ⟨(congrArg Host.Outcome.next (coreRow_executes _ hx)).trans (congrArg _ (if_neg hp)), fun hs => ?_⟩
  refine (congrArg Host.Outcome.next (coreRow_executes _ hx)).trans (congrArg _ ((if_neg hp).trans ?_))
  exact if_neg (Bool.eq_false_iff.mp hs)

/-- A control register that R461 does not list. -/
theorem exec_ctl_unlisted {rd r : BitVec 4} {imm : BitVec 18} (h : ctlRead (atInstr s).tsuow.core imm.toNat = none) :
    exec (.mfc rd imm) s = .next (illegal (atInstr s)) ∧ exec (.mtc r imm) s = .next (illegal (atInstr s)) := by
  refine ⟨congrArg Host.Outcome.next (coreMay_faults hx (x := ⟨xILLEGAL, 0⟩) ?_),
    congrArg Host.Outcome.next (coreMay_faults hx (x := ⟨xILLEGAL, 0⟩) ?_)⟩
  · simp only [h]
  · simp only [h, Option.isNone_none, if_true]

/-- One of the supervisor's, in user mode. -/
theorem exec_ctl_priv {rd r : BitVec 4} {imm : BitVec 18} {v : Word} (h : ctlRead (atInstr s).tsuow.core imm.toNat = some v)
    (hu : modeUM (atInstr s).tsuow.core = true) (hn : 0x10 ≤ imm.toNat) :
    exec (.mfc rd imm) s = .next (faultAt { code := xPRIV, addr := 0 } (atInstr s)) ∧
    exec (.mtc r imm) s = .next (faultAt { code := xPRIV, addr := 0 } (atInstr s)) := by
  have hp : (modeUM (atInstr s).tsuow.core && ctlPriv imm.toNat) = true := Bool.and_eq_true_iff.mpr ⟨hu, decide_eq_true hn⟩
  refine ⟨congrArg Host.Outcome.next (coreMay_faults hx ?_), congrArg Host.Outcome.next (coreMay_faults hx ?_)⟩
  · simp only [h, hp, if_true]
  · simp only [h, hp, Option.isNone_some, Bool.false_eq_true, if_false, if_true]

/-- One that the mode may use. -/
theorem exec_ctl_open {rd r : BitVec 4} {imm : BitVec 18} {v : Word} (h : ctlRead (atInstr s).tsuow.core imm.toNat = some v)
    (hn : imm.toNat < 0x10 ∨ ¬ modeUM (atInstr s).tsuow.core = true) :
    let u := atInstr s
    let c := u.tsuow.core
    exec (.mfc rd imm) s = .next (setCore (c.setReg rd v).complete u) ∧
    exec (.mtc r imm) s = .next (setCore (ctlWrite c imm.toNat (c.reg r)).complete u) := by
  have hp : (modeUM (atInstr s).tsuow.core && ctlPriv imm.toNat) = false := by
    rw [Bool.and_eq_false_iff]
    rcases hn with hn | hn
    · exact .inr (decide_eq_false (by omega))
    · exact .inl (Bool.eq_false_iff.mpr hn)
  refine ⟨congrArg Host.Outcome.next (coreMay_passes hx ?_), congrArg Host.Outcome.next (coreMay_passes hx ?_)⟩
  · simp only [h, hp, Bool.false_eq_true, if_false]
  · simp only [h, hp, Option.isNone_some, Bool.false_eq_true, if_false]

theorem exec_feat_listed {rd : BitVec 4} {imm : BitVec 18} {v : Word} (h : featReg imm.toNat = some v) :
    exec (.feat rd imm) s = .next (setCore ((atInstr s).tsuow.core.setReg rd v).complete (atInstr s)) := by
  refine congrArg Host.Outcome.next (coreMay_passes hx ?_)
  simp only [h]

theorem exec_feat_unlisted {rd : BitVec 4} {imm : BitVec 18} (h : featReg imm.toNat = none) :
    exec (.feat rd imm) s = .next (illegal (atInstr s)) := by
  refine congrArg Host.Outcome.next (coreMay_faults hx (x := ⟨xILLEGAL, 0⟩) ?_)
  simp only [h]

/-- ERET, WFI and FENCE are the supervisor's (R485). -/
theorem exec_system_priv (hu : modeUM (atInstr s).tsuow.core = true) :
    let priv := Host.Outcome.next (faultAt { code := xPRIV, addr := 0 } (atInstr s))
    exec .eret s = priv ∧ exec .wfi s = priv ∧ exec .fence s = priv :=
  ⟨congrArg _ (coreMay_faults hx (if_pos hu)), congrArg _ (coreMay_faults hx (if_pos hu)), congrArg _ (coreMay_faults hx (if_pos hu))⟩

theorem exec_system_open (hu : ¬ modeUM (atInstr s).tsuow.core = true) :
    let u := atInstr s
    let c := u.tsuow.core
    exec .eret s = .next (setCore c.eret u) ∧ exec .wfi s = .next (setCore { c.complete with waiting := true } u) ∧
    exec .fence s = .next (setCore c.complete u) :=
  ⟨congrArg _ (coreMay_passes hx (if_neg hu)), congrArg _ (coreMay_passes hx (if_neg hu)), congrArg _ (coreMay_passes hx (if_neg hu))⟩

theorem exec_illegal_undefined {w : Word} (h : legalWord w.toNat = false) : exec (.illegal w) s = .next (illegal (atInstr s)) :=
  congrArg Host.Outcome.next ((if_neg (Bool.eq_false_iff.mp h)).trans (coreRow_executes _ hx))

end

/-! ### Exceptions (R487) -/

/-- Inside another exception the core pair stops. -/
theorem takeExc_inside {s : State} {code : Nat} (h : modeEL s.tsuow.core = true) (hc : code ≠ xINTERRUPT) (epc : BitVec 24) (addr : Word) :
    takeExc code epc addr s = setCore { s.tsuow.core with stopped := true } s := by
  unfold takeExc
  exact if_pos (Bool.and_eq_true_iff.mpr ⟨h, decide_eq_true hc⟩)

/-- The supervisor's own exception is entered. -/
theorem takeExc_supervisor {s : State} (h : modeEL s.tsuow.core = false) (hs : s.tsuow.current = none) (code : Nat) (epc : BitVec 24)
    (addr : Word) : takeExc code epc addr s = setCore (s.tsuow.core.enter code epc addr) s := by
  unfold takeExc
  simp only [h, Bool.false_and, Bool.false_eq_true, if_false, hs]

/-! ### Interrupts and BUDGET (R485, R488) -/

theorem wakeCore_now (s : State) : (wakeCore s).now = if s.tsuow.core.retention = true then s.now + us 20 else s.now := by
  unfold wakeCore
  split
  · exact Nat.max_eq_right (Nat.le_add_right _ _)
  · rfl

theorem wakeCore_awake (s : State) : (wakeCore s).tsuow.core.retention = false := rfl

theorem repeatEnd_retention (c : Core) : c.repeatEnd.retention = c.retention := by
  unfold Core.repeatEnd Core.endLevel
  dsimp only
  split
  · split
    · rfl
    · split <;> rfl
  · rfl

/-- An interrupt wakes the core and is taken where it may be. -/
theorem exec_interrupt_wakes {s : State} (hp : s.upd.phase ≠ 0) (hs : s.tsuow.core.stopped = false) (hr : s.tsuow.restarting = false) :
    let u := wakeCore s
    let c := { u.tsuow.core.repeatEnd with waiting := false }
    exec .interrupt s = .next (if mayInterrupt c = true then takeExc xINTERRUPT c.pc 0 (setCore c u) else setCore c u) := by
  refine congrArg Host.Outcome.next (if_pos ?_)
  rw [hs, hr, decide_eq_true hp]
  rfl

theorem mayInterrupt_iff (c : Core) : mayInterrupt c = true ↔ modeUM c = true ∨ modeIE c = true ∧ ¬ modeEL c = true := by
  simp [mayInterrupt]

theorem exec_budget_ends {s : State} (h : coreRuns s = true) (hu : modeUM s.tsuow.core = true) :
    exec .budget s = .next (takeExc xBUDGET s.tsuow.core.repeatEnd.pc 0 (setCore { s.tsuow.core.repeatEnd with budget := 0 } s)) :=
  congrArg Host.Outcome.next (if_pos (Bool.and_eq_true_iff.mpr ⟨h, hu⟩))

end Sys2Proof.Machine

open Sys2Proof Sys2Proof.Machine

/-- Settles O50: each row runs its body on `atInstr`, `brptDo` and `repeatEnd` follow R473, and an exception that the supervisor takes is
`Core.enter`. -/
theorem coreFlow : Obligations.CoreFlow := by
  unfold Obligations.CoreFlow
  refine ⟨fun s hx => ?_, fun s code epc addr => ?_, fun s => ?_, fun c => ⟨repeatEnd_again, repeatEnd_last, repeatEnd_idle⟩⟩
  · intro u c at_ done user priv
    refine ⟨fun cond off => ⟨fun h => ?_, fun h => ?_, fun h => ?_⟩, fun off => ⟨congrArg _ (coreOnly_executes hx _), congrArg _ (coreOnly_executes hx _)⟩,
      fun r => ⟨congrArg _ (coreOnly_executes hx _), congrArg _ (coreOnly_executes hx _)⟩,
      fun r imm => ⟨fun x h => exec_brpt_faults hx h, fun h => ⟨_, exec_brpt_begins hx h, brptDo_effect c r imm⟩⟩,
      congrArg _ (coreOnly_executes hx _), fun rd r imm => ?_, fun rd r imm => ?_, congrArg _ (coreOnly_executes hx _),
      fun hu => exec_system_priv hx hu, fun hu => exec_system_open hx hu, fun w h => exec_illegal_undefined hx h⟩
    · rw [exec_br hx, h]; rfl
    · rw [exec_br hx, h]
    · rw [exec_br hx, h]; rfl
    · exact ⟨fun hu h => exec_port_priv hx hu h, fun h => (exec_port_open hx (rd := rd) h).1, fun h => (exec_port_open hx h).2⟩
    · exact ⟨fun h => exec_ctl_unlisted hx h, fun v h => ⟨fun hu hn => exec_ctl_priv hx h hu hn, fun hn => exec_ctl_open hx h hn⟩,
        fun v h => exec_feat_listed hx h, fun h => exec_feat_unlisted hx h⟩
  · refine ⟨fun h hc => takeExc_inside h hc epc addr, fun h hu hs => (takeExc_supervisor h hs code epc addr).trans ?_⟩
    unfold Core.enter
    rw [hu]
  · refine ⟨rfl, fun hp hs hr => ⟨(repeatEnd_retention _).trans (wakeCore_awake s), wakeCore_now s, (exec_interrupt_wakes hp hs hr).trans ?_⟩,
      exec_budget_ends⟩
    exact congrArg _ (if_congr (mayInterrupt_iff _) rfl rfl)
end

section
/-!
PROOFS. A failed known-answer test fences a pipeline, its packet in process is lost, and the slot that only this packet still held is
erased (R423, R636); the erasure's overwrite may stall for a reseed (R341, R511), so the test's step may end after its bound (R639).
-/
namespace Sys2Proof.Machine

/-! ### Slots let go while their overwrite stalls -/

theorem freeSlots_now_of_full {h : Nat} {hs : List Nat} {v : Slot} {s : State} (hmem : h ∈ hs) (hv : mget? s.kreg.slots h = some v)
    (hunits : 0 < v.units) (hready : s.rng.st = .ready) (hfull : 2 ^ 20 ≤ (drbg s 43).count) :
    s.now + cyclesNs s 40 ≤ (freeSlots hs s).now := by
  have hslot : v.units ∈ (s.kreg.slots.filter (fun p => decide (p.1 ∈ hs))).map (fun p => p.2.units) :=
    List.mem_map_of_mem (f := fun p : Nat × Slot => p.2.units) (List.mem_filter.mpr ⟨mem_of_mget? hv, by simpa using hmem⟩)
  have hnow : (freeSlots hs s).now = (overwriteUnits hs s).now := rfl
  rw [hnow]
  unfold overwriteUnits
  rw [if_pos (show rngReady s = true from decide_eq_true hready)]
  exact drawPass_now_of_full hfull (List.sum_pos_iff_exists_pos_nat.mpr ⟨v.units, hslot, hunits⟩)

theorem settleSlots_now_of_full {c h : Nat} {v : Slot} {s : State} (hdying : h ∈ (circuit s c).dying) (hfixed : h ∉ fixedSlots (circuit s c))
    (hv : mget? s.kreg.slots h = some v) (hunits : 0 < v.units) (hready : s.rng.st = .ready) (hfull : 2 ^ 20 ≤ (drbg s 43).count) :
    s.now + cyclesNs s 40 ≤ (settleSlots c s).now := by
  have hgone : h ∈ (circuit s c).dying.filter (fun k => !(decide (k ∈ fixedSlots (circuit s c)))) :=
    List.mem_filter.mpr ⟨hdying, by simpa using hfixed⟩
  unfold settleSlots
  dsimp only
  rw [if_neg (by rw [List.isEmpty_iff]; exact List.ne_nil_of_mem hgone)]
  exact freeSlots_now_of_full (s := setCircuit c _ s) hgone hv hunits hready hfull

theorem updateFlow_now (p : Nat) (s : State) : (updateFlow p s).now = s.now := by
  unfold updateFlow setPort
  dsimp only
  split
  · rfl
  · rw [emit_now]
    repeat' split
    all_goals rfl

/-- A circuit whose packets are all lost lets go of a slot: where its overwrite stalls, so does the loss. -/
theorem drainCircuit_now_of_full {c h : Nat} {v : Slot} {s : State} (hqueue : (circuit s c).queue = [])
    (hdying : h ∈ (circuit s c).dying) (hv : mget? s.kreg.slots h = some v) (hunits : 0 < v.units) (hready : s.rng.st = .ready)
    (hfull : 2 ^ 20 ≤ (drbg s 43).count) : s.now + cyclesNs s 40 ≤ (drainCircuit c s).now := by
  have hcircuit : circuit (setCircuit c { circuit s c with queue := [] } s) c = { circuit s c with queue := [] } :=
    tget_tset_of_ne (fun _ => Circuit.reset) s.sp.circuits c
      (fun hreset => List.ne_nil_of_mem hdying (congrArg Circuit.dying hreset))
  unfold drainCircuit
  rw [updateFlow_now, hqueue]
  exact settleSlots_now_of_full (s := setCircuit c { circuit s c with queue := [] } s) (by rw [hcircuit]; exact hdying)
    (by rw [hcircuit]; exact List.not_mem_nil) hv hunits hready hfull

/-- Where one circuit alone has packets and all of them are lost, that circuit is drained. -/
theorem losePkts_single {f : InFlightPkt → Bool} {c : Nat} {x : Circuit} {s : State} (hc : s.sp.circuits = [(c, x)])
    (hany : x.queue.any f = true) (hall : x.queue.filter (fun q => !(f q)) = []) :
    losePkts f s = drainCircuit c { s with sp := { s.sp with circuits := [(c, { x with queue := [] })] } } := by
  unfold losePkts mmap
  simp [hc, hany, hall]

/-! ### A pipeline fenced over its packet -/

/-- A packet on pipeline 0 that has fixed the slot at handle 1. -/
def lastPacket : InFlightPkt :=
  { id := 0, pipe := 0, op := 1, cls := 0, tag := 0, size := 64, inLen := 64, slot := some 1, number := 1, code := 0, detail := 0, out := [],
    echo := false, done := false }

/-- Circuit 0 has let that slot go and holds it for the packet alone. -/
def lettingGo : Circuit := { Circuit.reset with queue := [lastPacket], dying := [1] }

/-- Pipeline 0 has been under its known-answer test for the test's whole bound; the packet is in process on it, and generator 43 has made
2^20 generate calls since its last reseed. -/
def testedPipe : State :=
  { State.reset with
    now := us 51,
    rng := stalledFill.rng,
    kreg := { KregSt.reset with slots := [(1, waitingSlot)] },
    sp := { State.reset.sp with circuits := [(0, lettingGo)] },
    rec_ := { State.reset.rec_ with reinit := some (.pipe 0), reinitAt := 0 } }

/-- The state in which the test's end acts. -/
def testEnded (u : ReUnit) (s : State) : State :=
  let t := usedFree (advanceTo (s.rec_.reinitAt + Config.freeNat s.free % (reinitBound u + 1)) s)
  { t with rec_ := { t.rec_ with reinit := none } }

theorem exec_reinitComplete {u : ReUnit} {s : State} (h : s.rec_.reinit = some u) (hu : u ≠ .rng) (pass : Bool) :
    exec (.reinitComplete pass) s = .next (setObj Obj.ERR_REINIT_RESULT (if pass then 2 else 3)
      (if pass then liftFence u (testEnded u s) else keepFence u (testEnded u s))) := by
  show execReinitComplete pass s = _
  unfold execReinitComplete testEnded
  rw [h]
  cases u with
  | rng => exact absurd rfl hu
  | _ => rfl

/-- In the test's last moment the packet is gone from circuit 0. -/
def packetLost : State :=
  let t := setPipe 0 Pipe.reset (testEnded (.pipe 0) testedPipe)
  { t with sp := { t.sp with circuits := [(0, { lettingGo with queue := [] })] } }

theorem keepFence_testedPipe_now :
    (keepFence (.pipe 0) (testEnded (.pipe 0) testedPipe)).now = (drainCircuit 0 packetLost).now :=
  calc (keepFence (.pipe 0) (testEnded (.pipe 0) testedPipe)).now
    _ = (losePkts (fun q => decide (q.pipe = 0) && !q.done) (setPipe 0 Pipe.reset (testEnded (.pipe 0) testedPipe))).now := rfl
    _ = (drainCircuit 0 packetLost).now := congrArg State.now (losePkts_single rfl rfl rfl)

/-- The test's step ends after its bound: the moment it began at was the bound itself. -/
theorem testedPipe_late {t : State} (h : exec (.reinitComplete false) testedPipe = .next t) :
    testedPipe.now + cyclesNs testedPipe 40 ≤ t.now := by
  rw [exec_reinitComplete (u := .pipe 0) rfl ReUnit.noConfusion] at h
  rw [← Host.Outcome.next.inj h]
  calc testedPipe.now + cyclesNs testedPipe 40
    _ ≤ packetLost.now + cyclesNs packetLost 40 := Nat.add_le_add_right (Nat.le_max_left ..) _
    _ ≤ (drainCircuit 0 packetLost).now :=
      drainCircuit_now_of_full (h := 1) (v := waitingSlot) rfl (by decide) rfl (by decide) rfl (by decide)
    _ = (keepFence (.pipe 0) (testEnded (.pipe 0) testedPipe)).now := keepFence_testedPipe_now.symm
    _ ≤ _ := Nat.le_refl _

end Sys2Proof.Machine

open Sys2Proof Sys2Proof.Machine

/-- Refutes O60: its third clause has REINIT_COMPLETE end within the test's bound.  In `testedPipe` the bound is now; the failed test fences
the pipeline, the packet in process on it is lost (R636), and the slot that circuit 0 held for that packet alone is erased (R423), whose
overwrite stalls for a reseed of generator 43 (R341, R511): the step ends 40 cycles later or more. -/
theorem not_reinitialisation : ¬ Obligations.Reinitialisation := by
  unfold Obligations.Reinitialisation
  rintro ⟨-, -, hcomplete⟩
  obtain ⟨t, hexec, -, -, hbound, -⟩ := hcomplete (.pipe 0) false testedPipe rfl ReUnit.noConfusion
  have hlate := testedPipe_late hexec
  have hnow : max testedPipe.now (testedPipe.rec_.reinitAt + reinitBound (.pipe 0)) = testedPipe.now := by decide
  have hcycles : 0 < cyclesNs testedPipe 40 := by decide
  rw [hnow] at hbound
  exact Nat.not_lt_of_le (Nat.le_trans hlate hbound) (Nat.lt_add_of_pos_right hcycles)
end

section
/-!
PROOFS. The entropy source: its states, its start-up, its reseeds, GENERATE and RNG_READ (chapter 14).
-/
namespace Sys2Proof.Machine

/-! ### The source's state (R518, R526) -/

@[simp] theorem setRng_st (st : RngState) (s : State) : (setRng st s).rng.st = st := by
  unfold setRng
  split
  · assumption
  · rfl

/-- A change of state moves the state alone of the source. -/
theorem setRng_rng (st : RngState) (s : State) : (setRng st s).rng = { s.rng with st := st } := by
  unfold setRng
  split
  · next h => rw [← h]
  · rfl

theorem setRng_now (st : RngState) (s : State) : (setRng st s).now = s.now := by
  unfold setRng
  split <;> rfl

theorem setRng_pke (st : RngState) (s : State) : (setRng st s).pke = s.pke := by
  unfold setRng
  split <;> rfl

theorem enterFailed_rng (s : State) :
    (enterFailed s).rng = { s.rng with st := .failed, drbg := [], seeds := 0, seedAt := s.now, failedAt := s.now } :=
  setRng_rng ..

theorem rngReinitEnds_rng (pass : Bool) (s : State) : (rngReinitEnds pass s).rng = s.rng := by
  unfold rngReinitEnds
  split <;> rfl

theorem rngReinitEnds_pke (pass : Bool) (s : State) : (rngReinitEnds pass s).pke = s.pke := by
  unfold rngReinitEnds
  split <;> rfl

theorem rngReinitEnds_now (pass : Bool) (s : State) : (rngReinitEnds pass s).now = s.now := by
  unfold rngReinitEnds
  split <;> rfl

theorem rngDies_st (s : State) : (rngDies s).rng.st = .dead := setRng_st .dead s

/-! ### Retests and failures (R517, R518, R520) -/

theorem exec_rngTestFail {code g : Nat} (o v : Nat) {s : State} (hs : s.rng.st = .ready) (h1 : 1 ≤ code) (h5 : code ≤ 5) (hg : g < 8) :
    let s1 := enterFailed { s with rng := { s.rng with retests := 0 } }
    exec (.rngTestFail code g o v) s =
      .next (tamperEvent 20 .none_ 0 (setObj Obj.RNG_LAST_FAIL (lastFail s1 code g o v) (bump Obj.RNG_FAILS s1))) :=
  congrArg Host.Outcome.next (if_pos ⟨hs, h1, h5, hg⟩)

theorem exec_rngRetest {s : State} (hs : s.rng.st = .failed) :
    let t := advanceTo (s.rng.failedAt + ms 100) s
    exec .rngRetest s = .next (bump Obj.RNG_RETESTS (setRng .retest { t with rng := { t.rng with startedAt := t.now } })) :=
  congrArg Host.Outcome.next (if_pos hs)

/-- RNG_RETEST begins 100 ms after the failure, or where the clock is later. -/
theorem rngRetest_begins {s : State} (hs : s.rng.st = .failed) :
    ∃ t, exec .rngRetest s = .next t ∧ t.rng.st = .retest ∧ t.now = max s.now (s.rng.failedAt + ms 100) ∧ t.rng.startedAt = t.now := by
  refine ⟨_, exec_rngRetest hs, setRng_st .retest _, setRng_now .retest _, ?_⟩
  show (setRng _ _).rng.startedAt = (setRng _ _).now
  rw [setRng_rng, setRng_now]

/-- The start-up test fails once more. -/
def startUpFailed (s : State) : State := { s with rng := { s.rng with attempts := s.rng.attempts + 1, startedAt := s.now } }

theorem exec_startUpTestFailure_startup {s : State} (hs : s.rng.st = .startup) :
    exec .startUpTestFailure s =
      .next (if 3 ≤ s.rng.attempts + 1 then rngReinitEnds false (rngDies (startUpFailed s)) else startUpFailed s) := by
  show execStartUpTestFailure s = _
  unfold execStartUpTestFailure
  rw [hs]
  rfl

theorem exec_startUpTestFailure_retest {s : State} (hs : s.rng.st = .retest) :
    let s1 := { s with rng := { s.rng with retests := s.rng.retests + 1 } }
    exec .startUpTestFailure s =
      .next (tamperEvent 20 .none_ 0 (if 3 ≤ s.rng.retests + 1 then rngDies s1 else enterFailed s1)) := by
  show execStartUpTestFailure s = _
  unfold execStartUpTestFailure
  rw [hs]

theorem startUpTestFailure_again {s : State} (hs : s.rng.st = .startup) (h : s.rng.attempts < 2) :
    exec .startUpTestFailure s = .next (startUpFailed s) := by
  rw [exec_startUpTestFailure_startup hs, if_neg (by omega)]

theorem startUpTestFailure_dies {s : State} (hs : s.rng.st = .startup) (h : 2 ≤ s.rng.attempts) :
    ∃ t, exec .startUpTestFailure s = .next t ∧ t.rng.st = .dead := by
  rw [exec_startUpTestFailure_startup hs, if_pos (by omega)]
  exact ⟨_, rfl, (congrArg RngSt.st (rngReinitEnds_rng ..)).trans (rngDies_st _)⟩

theorem startUpTestFailure_retest {s : State} (hs : s.rng.st = .retest) :
    let s1 := { s with rng := { s.rng with retests := s.rng.retests + 1 } }
    exec .startUpTestFailure s = .next (tamperEvent 20 .none_ 0 (if s.rng.retests < 2 then enterFailed s1 else rngDies s1)) := by
  dsimp only
  rw [exec_startUpTestFailure_retest hs]
  by_cases h : s.rng.retests < 2
  · rw [if_pos h, if_neg (by omega)]
  · rw [if_neg h, if_pos (by omega)]

/-! ### Draws and the source (R511, R512) -/

/-- A draw leaves the source's state and the count of its starts, and the clock does not run back. -/
structure KeepsSource (s t : State) : Prop where
  st : t.rng.st = s.rng.st
  starts : t.rng.starts = s.rng.starts
  now : s.now ≤ t.now

namespace KeepsSource

theorem trans {s t u : State} (h : KeepsSource s t) (g : KeepsSource t u) : KeepsSource s u :=
  ⟨g.st.trans h.st, g.starts.trans h.starts, Nat.le_trans h.now g.now⟩

theorem takeSeed (s : State) : KeepsSource s (Machine.takeSeed s) := by
  refine ⟨?_, ?_, takeSeed_now_le s⟩ <;> unfold Machine.takeSeed <;> dsimp only <;> split <;> rfl

theorem reseed (n : Nat) (s : State) : KeepsSource s (Machine.reseed n s) :=
  ⟨(takeSeed s).st, (takeSeed s).starts, (takeSeed s).now⟩

theorem stallCall (n : Nat) (s : State) : KeepsSource s (Machine.stallCall n s) := by
  have hreseed := reseed n (bump Obj.RNG_STALLS s)
  refine ⟨?_, ?_, stallCall_now_le n s⟩ <;> unfold Machine.stallCall <;> split
  · exact hreseed.st
  · rfl
  · exact hreseed.starts
  · rfl

theorem stretch (n : Nat) (s : State) : KeepsSource s (Machine.stretch n s) := by
  unfold Machine.stretch
  dsimp only
  split <;> exact ⟨rfl, rfl, Nat.le_refl _⟩

theorem drawCall (n len : Nat) (s : State) : KeepsSource s (Machine.drawCall n len s).2 :=
  have h := (stallCall n s).trans (stretch n _)
  ⟨h.st, h.starts, h.now⟩

theorem draw (n len : Nat) (s : State) : KeepsSource s (Machine.draw n len s).2 := by
  unfold Machine.draw
  generalize ceilDiv len 64 = k
  induction k generalizing len s with
  | zero => exact ⟨rfl, rfl, Nat.le_refl _⟩
  | succ k ih => exact (drawCall n _ s).trans (ih _ _)

theorem seedExpanders (k : Nat) (s : State) : KeepsSource s (Machine.seedExpanders k s) := by
  induction k with
  | zero => exact ⟨rfl, rfl, Nat.le_refl _⟩
  | succ k ih =>
    have h := ih.trans (draw k 64 _)
    exact ⟨h.st, h.starts, h.now⟩

end KeepsSource

theorem takeSeed_drbg (s : State) : (takeSeed s).rng.drbg = s.rng.drbg := by
  unfold takeSeed
  dsimp only
  split <;> rfl

/-- A reseed starts the generator's count and interval again and leaves the number of its calls. -/
theorem reseed_drbg {n : Nat} {s : State} (h : keysRise s.rng.drbg = true) :
    drbg (reseed n s) n = { drbg s n with count := 0, interval := 4096, pending := false } := by
  have hsame : drbg (takeSeed s) n = drbg s n := congrArg (fun t => tget (fun _ => Drbg.reset) t n) (takeSeed_drbg s)
  rw [← hsame]
  exact setDrbg_same n _ (takeSeed s) (by rw [takeSeed_drbg]; exact h)

theorem exec_drbgReseed {n : Nat} {s : State} (hs : s.rng.st = .ready) (hn : nextReseed s = some n) :
    exec .drbgReseed s = .next (reseed n { s with now := s.now + cyclesNs s 40 }) := by
  show execDrbgReseed s = _
  unfold execDrbgReseed
  rw [if_pos (show rngReady s = true from decide_eq_true hs), hn]

/-! ### A start-up that passes (R513, R515) -/

theorem seedExpanders_succ (k : Nat) (s : State) :
    seedExpanders (k + 1) s =
      setSlice k { slice_ (draw k 64 (seedExpanders k s)).2 k with seeded := true, blocks := 0 } (draw k 64 (seedExpanders k s)).2 := rfl

/-- The first `k` slices have their expanders seeded. -/
theorem seedExpanders_seeded (k : Nat) {s : State} (h : keysRise s.pke.slices = true) :
    keysRise (seedExpanders k s).pke.slices = true ∧ ∀ n, n < k → (slice_ (seedExpanders k s) n).seeded = true := by
  induction k with
  | zero => exact ⟨h, fun n hn => absurd hn (Nat.not_lt_zero n)⟩
  | succ k ih =>
    obtain ⟨hrise, hseeded⟩ := ih
    have hpke := (Draws.draw k 64 (seedExpanders k s)).pke
    have hdrawn : keysRise (draw k 64 (seedExpanders k s)).2.pke.slices = true := by rw [hpke]; exact hrise
    rw [seedExpanders_succ]
    refine ⟨keysRise_tset (fun _ => Slice.reset) _ _ _ hdrawn, fun n hn => ?_⟩
    by_cases hnk : n = k
    · subst hnk
      rw [setSlice_same _ _ _ hdrawn]
    · rw [setSlice_other _ _ hnk hdrawn]
      unfold slice_
      rw [hpke]
      exact hseeded n (by omega)

/-- The source as the passing test leaves it, before its instances are drawn from. -/
def rngFresh (s : State) : State :=
  { s with rng := { s.rng with drbg := [], starts := s.rng.starts + 1, seeds := 20, seedAt := s.now, attempts := 0, retests := 0,
                               degraded := false } }

/-- The start draws for the 36 expanders and then shows READY. -/
theorem rngStarts_seeds (s : State) : ∃ t, rngStarts s = setRng .ready t ∧ KeepsSource (rngFresh s) t ∧
    (keysRise s.pke.slices = true → ∀ n, n < 36 → (slice_ t n).seeded = true) :=
  ⟨_, rfl, KeepsSource.seedExpanders 36 (rngFresh s), fun h => (seedExpanders_seeded 36 (s := rngFresh s) h).2⟩

theorem rngStarts_ready (s : State) : (rngStarts s).rng.st = .ready := by
  obtain ⟨t, ht, -⟩ := rngStarts_seeds s
  rw [ht, setRng_st]

theorem rngStarts_starts (s : State) : (rngStarts s).rng.starts = s.rng.starts + 1 := by
  obtain ⟨t, ht, hkeeps, -⟩ := rngStarts_seeds s
  rw [ht, setRng_rng]
  exact hkeeps.starts

theorem rngStarts_now_le (s : State) : s.now ≤ (rngStarts s).now := by
  obtain ⟨t, ht, hkeeps, -⟩ := rngStarts_seeds s
  rw [ht, setRng_now]
  exact hkeeps.now

theorem rngStarts_seeded {n : Nat} {s : State} (h : keysRise s.pke.slices = true) (hn : n < 36) :
    (slice_ (rngStarts s) n).seeded = true := by
  obtain ⟨t, ht, -, hseeded⟩ := rngStarts_seeds s
  rw [ht]
  unfold slice_
  rw [setRng_pke]
  exact hseeded h n hn

/-- The moment at which the test under way passes. -/
def startUpEnd (s : State) : State := usedFree (advanceTo (s.rng.startedAt + startUpTime s) s)

theorem exec_rngStartupDone {s : State} (hs : s.rng.st = .startup ∨ s.rng.st = .retest) :
    exec .rngStartupDone s =
      .next (rngReinitEnds true (setObj Obj.RNG_STARTUP_US (startUpTime s / 1000) (rngStarts (startUpEnd s)))) :=
  congrArg Host.Outcome.next (if_pos hs)

theorem rngStartupDone_ready {s : State} (hs : s.rng.st = .startup ∨ s.rng.st = .retest) (hrise : keysRise s.pke.slices = true) :
    ∃ t, exec .rngStartupDone s = .next t ∧ t.rng.st = .ready ∧ t.rng.starts = s.rng.starts + 1 ∧
      s.rng.startedAt + sampleTime s ≤ t.now ∧ ∀ n, n < 36 → (slice_ t n).seeded = true := by
  have hexec := exec_rngStartupDone hs
  have hready := rngStarts_ready (startUpEnd s)
  have hstarts : (rngStarts (startUpEnd s)).rng.starts = s.rng.starts + 1 := rngStarts_starts (startUpEnd s)
  have hnow : s.rng.startedAt + sampleTime s ≤ (rngStarts (startUpEnd s)).now :=
    calc s.rng.startedAt + sampleTime s
      _ ≤ s.rng.startedAt + startUpTime s := Nat.add_le_add_left (Nat.le_add_right ..) _
      _ ≤ (startUpEnd s).now := Nat.le_max_right ..
      _ ≤ (rngStarts (startUpEnd s)).now := rngStarts_now_le _
  have hseeded : ∀ n, n < 36 → (slice_ (rngStarts (startUpEnd s)) n).seeded = true :=
    fun n hn => rngStarts_seeded (s := startUpEnd s) hrise hn
  generalize rngStarts (startUpEnd s) = u at hexec hready hstarts hnow hseeded
  refine ⟨_, hexec, ?_, ?_, ?_, fun n hn => ?_⟩
  · rw [rngReinitEnds_rng]
    exact hready
  · rw [rngReinitEnds_rng]
    exact hstarts
  · rw [rngReinitEnds_now]
    exact hnow
  · unfold slice_
    rw [rngReinitEnds_pke]
    exact hseeded n hn

/-! ### ERR_RNG_REINIT (R520) -/

theorem exec_errRngReinit {c : Caller} {data : Bytes} {s : State} (h : Deciding c Obj.ERR_RNG_REINIT data (rngReinitRule s data) s) :
    exec (.errRngReinit c data) s =
      .next (writeDone c Obj.ERR_RNG_REINIT ((rngReinitRule s data).act (begun c Obj.ERR_RNG_REINIT data s))) :=
  congrArg Host.Outcome.next (writeAccess_of_plainDeciding h rfl rfl)

/-! ### GENERATE (R525) -/

theorem exec_generate {e : Nat} {x : Entry} {s : State} (hx : entry? s e = some x) (hop : x.desc.opcode = 0x0A30)
    (hhead : unitHead s 0x0A = some e) : exec (.generate e) s = .next (finish e (runGenerate x s).1 (runGenerate x s).2) := by
  show execGenerate e s = _
  unfold execGenerate
  simp only [hx]
  rw [if_pos ⟨hop, hhead⟩]

/-- What GENERATE draws, from a source that is READY. -/
def generated (x : Entry) (s : State) : Bytes × State := draw 41 x.desc.outLen (if bit x.desc.aux 0 then reseed 41 s else s)

theorem generated_entry {e : Nat} {x : Entry} {s : State} (hx : entry? s e = some x) : entry? (generated x s).2 e = some x := by
  have hreseed : Draws s (if bit x.desc.aux 0 then reseed 41 s else s) := by
    split
    · exact Draws.reseed 41 s
    · exact Draws.refl s
  rw [← hx]
  exact (hreseed.trans (Draws.draw 41 _ _)).announces.entry e

theorem generate_outputs {e : Nat} {x : Entry} {s : State} (hx : entry? s e = some x) (hop : x.desc.opcode = 0x0A30)
    (hhead : unitHead s 0x0A = some e) (hs : s.rng.st = .ready) :
    ∃ t, exec (.generate e) s = .next t ∧ EndedWith t e .ok 0 (generated x s).1 := by
  refine ⟨_, exec_generate hx hop hhead, ?_⟩
  have hready : (!(rngReady s)) = false := by simp [rngReady, hs]
  unfold runGenerate
  rw [hready]
  exact finish_ok (generated_entry hx) rfl rfl (fun _ => rfl)

theorem generate_starved {e : Nat} {x : Entry} {s : State} (hx : entry? s e = some x) (hop : x.desc.opcode = 0x0A30)
    (hhead : unitHead s 0x0A = some e) (hwait : x.phase = .waiting) (hs : s.rng.st ≠ .ready) :
    ∃ t y, exec (.generate e) s = .next t ∧ entry? t e = some y ∧ y.status = .entropyFail ∧ y.output = [] := by
  have hstopped := haltJob_stopped .entropyFail 0 (spend_entry 0 hx) (by simp [hwait]) (by simp [hwait])
  have hrun : runGenerate x s = (Res.stop .entropyFail 0, s) := if_pos (by simp [rngReady, hs])
  have hexec := exec_generate hx hop hhead
  rw [hrun] at hexec
  exact ⟨_, _, hexec, hstopped.entry, rfl, rfl⟩

/-! ### RNG_READ (R526) -/

theorem settleStore_rng (s : State) : (settleStore s).rng = s.rng := by
  unfold settleStore
  split
  · split <;> rfl
  · rfl

theorem takeReq_rng (a : AccessCmd) (s : State) : (takeReq a s).rng = s.rng := by
  unfold takeReq
  rw [settleStore_rng, wakeCore_rng]
  split <;> rfl

theorem exec_rngRead {c : Caller} {w : Who} {s : State} (hup : serverUp s = true) (hw : accessor s ⟨c, .read, Obj.RNG_READ, []⟩ = some w)
    (hc : readCheck (takeReq ⟨c, .read, Obj.RNG_READ, []⟩ s) w Obj.RNG_READ = none) :
    let p := serveRngRead (takeReq ⟨c, .read, Obj.RNG_READ, []⟩ s)
    exec (.rngRead c) s = .next (deliver c .read Obj.RNG_READ p.1 0 none p.2.1 p.2.2) :=
  congrArg Host.Outcome.next (readAccess_permitted hup hw hc serveRngRead)

theorem serveRngRead_ready {s : State} (h : s.rng.st = .ready) : serveRngRead s = (.done, (draw 41 64 s).1, (draw 41 64 s).2) :=
  if_pos (decide_eq_true h)

theorem serveRngRead_busy {s : State} (h : s.rng.st ≠ .ready) : serveRngRead s = (.busy, [], s) :=
  if_neg (by simp [rngReady, h])

end Sys2Proof.Machine

open Sys2Proof Sys2Proof.Machine

/-- Settles O53: the transitions of the source's state are the commands' own branches; a passing start-up seeds the 36 expanders one by one
from draws that keep the slices; GENERATE and RNG_READ serve the draw of generator 41. -/
theorem entropySource : Obligations.EntropySource := by
  unfold Obligations.EntropySource
  refine ⟨fun code g o v s hs h1 h5 hg => exec_rngTestFail o v hs h1 h5 hg, fun s => ?_, fun s hs => rngRetest_begins hs,
    fun s hs hrise => rngStartupDone_ready hs hrise,
    fun s hs => ⟨fun h => startUpTestFailure_again hs h, fun h => startUpTestFailure_dies hs h⟩,
    fun s hs => startUpTestFailure_retest hs, fun c data s h => exec_errRngReinit h, fun n s hs hn => exec_drbgReseed hs hn,
    fun n s hrise => ?_, fun e x s hx hop hhead hwait => ⟨fun hs => generate_outputs hx hop hhead hs,
      fun hs => generate_starved hx hop hhead hwait hs⟩, fun c w s => ?_⟩
  · dsimp only
    rw [enterFailed_rng]
    exact ⟨rfl, rfl, rfl, rfl⟩
  · dsimp only
    rw [reseed_drbg hrise]
    exact ⟨rfl, rfl, rfl, rfl⟩
  · intro a t hup hw hc
    have hrng : t.rng.st = s.rng.st := congrArg RngSt.st (takeReq_rng a s)
    have hexec := exec_rngRead hup hw hc
    refine ⟨fun hs => ?_, fun hs => ?_⟩
    · rw [serveRngRead_ready (hrng.trans hs)] at hexec
      exact hexec
    · rw [serveRngRead_busy (fun h => hs (hrng.symm.trans h))] at hexec
      exact hexec
end

section
/-!
PROOFS. Field update (chapter 17): what each write of the activation record leaves, the chunks of the staging area, and the commands' acts.
-/
namespace Sys2Proof.Machine

/-! ### The record in use (R588) -/

theorem slice_length (b : Bytes) (off len : Nat) : (slice b off len).length = len := fitBytes_length len _

theorem readRec_hash_length {b : Bytes} {r : ActRec} (h : readRec b = some r) : r.hash.length = 48 := by
  unfold readRec at h
  split at h
  · rw [← Option.some.inj h]
    exact slice_length b 24 48
  · exact absurd h (by simp)

theorem actRec_hash_length (s : State) : (actRec s).hash.length = 48 := by
  unfold actRec
  cases ha : readRec s.upd.recA with
  | none =>
    cases hb : readRec s.upd.recB with
    | none => rfl
    | some b => exact readRec_hash_length hb
  | some a =>
    cases hb : readRec s.upd.recB with
    | none => exact readRec_hash_length ha
    | some b =>
      dsimp only
      split
      · exact readRec_hash_length hb
      · exact readRec_hash_length ha

/-- The record is that of two states whose copies are the same. -/
theorem actRec_congr {s t : State} (ha : t.upd.recA = s.upd.recA) (hb : t.upd.recB = s.upd.recB) : actRec t = actRec s := by
  unfold actRec
  rw [ha, hb]

/-- A write of the record leaves everything of the update but the record's copies. -/
theorem putRec_staging (f : ActRec → ActRec) (s : State) : (putRec f s).upd.staging = s.upd.staging := by
  unfold putRec
  dsimp only
  rw [setObj_upd]
  (repeat' split) <;> rfl

theorem putRec_verifyAt (f : ActRec → ActRec) (s : State) : (putRec f s).upd.verifyAt = s.upd.verifyAt := by
  unfold putRec
  dsimp only
  rw [setObj_upd]
  (repeat' split) <;> rfl

theorem putRec_now (f : ActRec → ActRec) (s : State) : (putRec f s).now = s.now := rfl

theorem setUpd_staging (v : Nat) (s : State) : (setUpd v s).upd.staging = s.upd.staging := putRec_staging _ s

/-- A change of UPD_STATE keeps the record's hash and counts its SEQ on. -/
theorem actRec_setUpd {v : Nat} {s : State} (h : (actRec s).seq + 1 < 2 ^ 32) (hv : v < 256) :
    updState (setUpd v s) = v ∧ (actRec (setUpd v s)).hash = (actRec s).hash ∧ (actRec (setUpd v s)).seq = (actRec s).seq + 1 := by
  have hrec : actRec (setUpd v s) = _ := actRec_putRec (fun r => { r with state := v }) s h
  refine ⟨updState_setUpd h hv, ?_, ?_⟩
  · rw [hrec]
    exact fitBytes_self (actRec_hash_length s)
  · rw [hrec]
    exact Nat.mod_eq_of_lt h

theorem lastErr_upd (result : Nat) (entry : Option Nat) (s : State) : (lastErr result entry s).upd = s.upd := rfl

/-! ### Staging and its chunks (R602, R604, R605) -/

theorem stageBegin_erases {s : State} (h : (actRec s).seq + 1 < 2 ^ 32) : (stageBegin s).upd.staging = [] ∧ updState (stageBegin s) = 1 := by
  let t : State := { s with upd := { s.upd with staging := [], verifyAt := none } }
  have hseq : (actRec t).seq + 1 < 2 ^ 32 := h
  exact ⟨setUpd_staging uRECEIVING t, updState_setUpd hseq (by decide)⟩

theorem chunkEnd_ok_iff (s : State) (b : Bytes) (ok : Bool) :
    chunkEnd s b ok = .ok ↔ ok = true ∧ 17 ≤ b.length ∧ b.length = 16 + ckLength b ∧ updState s = 1 ∧
      b.take 4 = [0x5A, 0x4B, 0x43, 0x48] ∧ slice b 12 4 = zeros 4 ∧ ckOffset b = s.upd.staging.length ∧
      ckOffset b + ckLength b ≤ bundleMax := by
  unfold chunkEnd
  by_cases hlen : b.length < 17 ∨ b.length ≠ 16 + ckLength b
  · rw [if_pos hlen]
    refine ⟨fun h => ChunkEnd.noConfusion h, fun h => ?_⟩
    obtain ⟨-, h17, heq, -⟩ := h
    omega
  · rw [if_neg hlen]
    obtain ⟨h17, heq⟩ := not_or.mp hlen
    by_cases hcheck : updState s ≠ uRECEIVING ∨ b.take 4 ≠ [0x5A, 0x4B, 0x43, 0x48] ∨ slice b 12 4 ≠ zeros 4 ∨
        ckOffset b ≠ s.upd.staging.length ∨ bundleMax < ckOffset b + ckLength b
    · rw [if_pos hcheck]
      refine ⟨fun h => ChunkEnd.noConfusion h, fun h => ?_⟩
      obtain ⟨-, -, -, hst, hmagic, hzero, hoff, hmax⟩ := h
      rcases hcheck with hc | hc | hc | hc | hc
      · exact absurd hst hc
      · exact absurd hmagic hc
      · exact absurd hzero hc
      · exact absurd hoff hc
      · exact absurd hmax (Nat.not_le_of_lt hc)
    · rw [if_neg hcheck]
      simp only [not_or, not_not, Nat.not_lt] at hcheck
      obtain ⟨hst, hmagic, hzero, hoff, hmax⟩ := hcheck
      cases ok with
      | true => exact ⟨fun _ => ⟨rfl, Nat.not_lt.mp h17, not_not.mp heq, hst, hmagic, hzero, hoff, hmax⟩, fun _ => rfl⟩
      | false => exact ⟨fun h => ChunkEnd.noConfusion h, fun h => Bool.noConfusion h.1⟩

theorem takeChunk_of_ok {b : Bytes} {ok : Bool} {s : State} (h : chunkEnd s b ok = .ok) :
    takeChunk b ok s = noticed Obj.UPD_STAGED { s with upd := { s.upd with staging := s.upd.staging ++ b.drop 16 } } := by
  unfold takeChunk
  rw [h]

theorem takeChunk_of_refused {b : Bytes} {ok : Bool} {s : State} (h : chunkEnd s b ok ≠ .ok) :
    takeChunk b ok s =
      setUpd uINCOMPLETE (lastErr (chunkErr s b (chunkEnd s b ok)) none { s with upd := { s.upd with verifyAt := none } }) := by
  unfold takeChunk
  cases hend : chunkEnd s b ok with
  | ok => exact absurd hend h
  | _ => rfl

/-- An accepted chunk's bytes are appended, and the staging area goes on receiving. -/
theorem takeChunk_programs {b : Bytes} {ok : Bool} {s : State} (h : chunkEnd s b ok = .ok) :
    (takeChunk b ok s).upd.staging = s.upd.staging ++ b.drop 16 ∧ updState (takeChunk b ok s) = 1 := by
  obtain ⟨-, -, -, hst, -⟩ := (chunkEnd_ok_iff s b ok).mp h
  rw [takeChunk_of_ok h]
  refine ⟨rfl, Eq.trans ?_ hst⟩
  exact congrArg ActRec.state (actRec_congr (s := s) rfl rfl)

theorem takeChunk_refuses {b : Bytes} {ok : Bool} {s : State} (hseq : (actRec s).seq + 1 < 2 ^ 32) (h : chunkEnd s b ok ≠ .ok) :
    (takeChunk b ok s).upd.staging = s.upd.staging ∧ updState (takeChunk b ok s) = 2 := by
  let t := lastErr (chunkErr s b (chunkEnd s b ok)) none { s with upd := { s.upd with verifyAt := none } }
  have hrec : (actRec t).seq + 1 < 2 ^ 32 := hseq
  rw [takeChunk_of_refused h]
  exact ⟨setUpd_staging uINCOMPLETE t, updState_setUpd hrec (by decide)⟩

/-- A chunk whose turn has come and which checks 2 to 4 pass is written. -/
theorem exec_updStageChunk {c : Caller} {w : Who} {total : Nat} {data : Bytes} (ok : Bool) {s : State} (hup : serverUp s = true)
    (hw : accessor s ⟨c, .writeBlockLast, Obj.UPD_STAGE_CHUNK, data⟩ = some w)
    (hc : writeCheck (takeReq ⟨c, .writeBlockLast, Obj.UPD_STAGE_CHUNK, data⟩ s) w Obj.UPD_STAGE_CHUNK = none) :
    let p := chunkWrite total data ok (takeReq ⟨c, .writeBlockLast, Obj.UPD_STAGE_CHUNK, data⟩ s)
    exec (.updStageChunk c total data ok) s =
      .next (deliver w.caller .writeBlockLast Obj.UPD_STAGE_CHUNK p.2 (lastOffset c data.length) (some total) [] p.1) := by
  show execUpdStageChunk c total data ok s = _
  unfold execUpdStageChunk inTurn
  simp only [hup, hw, serveChunk, hc]

theorem chunkWrite_of_declared {total : Nat} {data : Bytes} (ok : Bool) (s : State) (h17 : 17 ≤ total) (hmax : total ≤ 65536)
    (hlen : data.length = total) :
    chunkWrite total data ok s =
      (takeChunk data ok s, match chunkEnd s data ok with | .ok => .done | .length => .badLength | _ => .badValue) := by
  have hbad : ¬ (total < 17 ∨ 65536 < total ∨ data.length ≠ total) := by omega
  unfold chunkWrite chunkResult
  rw [if_neg (by simpa using hbad), if_neg hbad] <;> rfl

theorem chunkWrite_of_misdeclared {total : Nat} {data : Bytes} (ok : Bool) (s : State)
    (h : total < 17 ∨ 65536 < total ∨ data.length ≠ total) :
    chunkWrite total data ok s = (setUpd uINCOMPLETE (lastErr 6 none { s with upd := { s.upd with verifyAt := none } }), .badLength) := by
  unfold chunkWrite chunkResult
  rw [if_pos (decide_eq_true h), if_pos h]

/-! ### Verification (R593, R607) -/

/-- A manifest whose entries stand keeps their security versions within 32. -/
theorem badEntry_none {b : Bytes} {before entries : List Bytes} {i : Nat} (h : badEntry b before i entries = none) :
    ∀ e ∈ entries, entryOk b e = true := by
  induction entries generalizing before i with
  | nil => exact fun e he => absurd he List.not_mem_nil
  | cons e r ih =>
    unfold badEntry at h
    split at h
    · exact absurd h (by simp)
    · next hgood =>
      intro f hf
      rcases List.mem_cons.mp hf with rfl | hf
      · simp only [Bool.not_eq_true, Bool.or_eq_false_iff, Bool.not_eq_false'] at hgood
        exact hgood.1
      · exact ih h f hf

theorem formatErr_of_bundleErr {o : Otp} {b : Bytes} (h : bundleErr o b = none) : formatErr b = none := by
  unfold bundleErr at h
  split at h
  · exact absurd h (by simp)
  · assumption

theorem entryOk_of_bundleErr {o : Otp} {b e : Bytes} (h : bundleErr o b = none) (he : e ∈ mfEntries b) : entryOk b e = true := by
  have hformat := formatErr_of_bundleErr h
  unfold formatErr at hformat
  split at hformat
  · exact absurd hformat (by simp)
  · split at hformat
    · exact absurd hformat (by simp)
    · next hbad => exact badEntry_none hbad e he

theorem enSecver_of_entryOk {b e : Bytes} (h : entryOk b e = true) : enSecver e ≤ 32 := by
  unfold entryOk at h
  simp only [Bool.and_eq_true, decide_eq_true_eq] at h
  tauto

/-- A bundle that verifies has security versions that the record's bytes hold. -/
theorem bundleSecvers_held {o : Otp} {b : Bytes} (h : bundleErr o b = none) :
    tabulate 10 (fun i => (bundleSecvers b).getD i 0 % 256) = bundleSecvers b := by
  unfold bundleSecvers tabulate
  refine List.map_congr_left (fun i hi => ?_)
  have hi10 : i < 10 := List.mem_range.mp hi
  have hget : (List.map (fun t => ((findEntry b (t + 1) 0).map enSecver).getD 0) (List.range 10)).getD i 0 =
      ((findEntry b (i + 1) 0).map enSecver).getD 0 := by
    simp [List.getD, hi10]
  rw [hget]
  refine Nat.mod_eq_of_lt ?_
  cases hfind : findEntry b (i + 1) 0 with
  | none => exact Nat.zero_lt_succ 255
  | some e =>
    have hsecver : enSecver e ≤ 32 := enSecver_of_entryOk (entryOk_of_bundleErr h (List.mem_of_find?_eq_some hfind))
    exact Nat.lt_of_le_of_lt hsecver (by decide)

/-- The moment at which the verification that began at `a` ends. -/
def verifyDone (a : Time) (s : State) : State :=
  let t := usedFree (advanceTo (a + Config.freeNat s.free % (ms 80 + 1)) s)
  { t with upd := { t.upd with verifyAt := none } }

/-- The record of a bundle that has been verified. -/
def verifiedRec (b : Bytes) (r : ActRec) : ActRec :=
  { r with state := uVERIFIED, hash := sha384 b, staged := b.length, secver := bundleSecvers b }

theorem exec_updVerifyEnd {a : Time} {s : State} (h : s.upd.verifyAt = some a) :
    exec .updVerifyEnd s = .next (match bundleErr s.lc.otp s.upd.staging with
      | some e => setUpd uBAD (lastErr e.result e.entry (verifyDone a s))
      | none => noticed Obj.UPD_STAGED_VERSION (putRec (verifiedRec s.upd.staging) (verifyDone a s))) := by
  show execUpdVerifyEnd s = _
  unfold execUpdVerifyEnd
  rw [h]
  rfl

theorem verifyDone_now_le (a : Time) (s : State) : (verifyDone a s).now ≤ max s.now (a + ms 80) := by
  have hbound : a + Config.freeNat s.free % (ms 80 + 1) ≤ a + ms 80 :=
    Nat.add_le_add_left (Nat.le_of_lt_succ (Nat.mod_lt _ (Nat.succ_pos _))) a
  exact Nat.max_le.mpr ⟨Nat.le_max_left .., Nat.le_trans hbound (Nat.le_max_right ..)⟩

theorem actRec_verified {o : Otp} {b : Bytes} {s : State} (hseq : (actRec s).seq + 1 < 2 ^ 32) (h : bundleErr o b = none) :
    updState (putRec (verifiedRec b) s) = 4 ∧ (actRec (putRec (verifiedRec b) s)).hash = sha384 b ∧
      (actRec (putRec (verifiedRec b) s)).secver = bundleSecvers b := by
  unfold updState
  rw [actRec_putRec _ s hseq]
  exact ⟨rfl, fitBytes_self (primOut_length ..), bundleSecvers_held h⟩

/-- UPD_VERIFY_END: VERIFIED, the record holding the bundle's hash, or BAD (R607). -/
theorem updVerifyEnd_ends {a : Time} {s : State} (hseq : (actRec s).seq + 1 < 2 ^ 32) (ha : s.upd.verifyAt = some a) :
    ∃ t, exec .updVerifyEnd s = .next t ∧ t.upd.verifyAt = none ∧ t.now ≤ max s.now (a + ms 80) ∧ t.upd.staging = s.upd.staging ∧
      (bundleErr s.lc.otp s.upd.staging = none → updState t = 4 ∧ (actRec t).hash = sha384 s.upd.staging ∧
        (actRec t).secver = bundleSecvers s.upd.staging) ∧
      (bundleErr s.lc.otp s.upd.staging ≠ none → updState t = 5) := by
  have hexec := exec_updVerifyEnd ha
  cases herr : bundleErr s.lc.otp s.upd.staging with
  | none =>
    rw [herr] at hexec
    refine ⟨_, hexec, putRec_verifyAt _ (verifyDone a s), verifyDone_now_le a s, putRec_staging _ (verifyDone a s), fun _ => ?_,
      fun h => absurd rfl h⟩
    exact actRec_verified (s := verifyDone a s) hseq herr
  | some e =>
    rw [herr] at hexec
    refine ⟨_, hexec, putRec_verifyAt _ (lastErr e.result e.entry (verifyDone a s)), verifyDone_now_le a s,
      setUpd_staging uBAD (lastErr e.result e.entry (verifyDone a s)), fun h => absurd h (by simp), fun _ => ?_⟩
    exact updState_setUpd (s := lastErr e.result e.entry (verifyDone a s)) hseq (by decide)

/-! ### Activation and confirmation (R594, R608, R614) -/

theorem time64_lt (s : State) : time64 s < 2 ^ 64 := Nat.mod_lt _ (by decide)

/-- Of the record, UPD_ACTIVATE_AT leaves the hash; its time is the written one, or now. -/
theorem actRec_activateAt {v : Nat} {s : State} (hseq : (actRec s).seq + 1 < 2 ^ 32) (hv : v < 2 ^ 64) :
    updState (activateAt v s) = 6 ∧ (actRec (activateAt v s)).activateAt = (if v = 0 ∨ s.upd.area = 2 then time64 s else v) ∧
      (actRec (activateAt v s)).hash = (actRec s).hash := by
  let due := if v = 0 ∨ decide (s.upd.area = 2) = true then time64 s else v
  have hrec : actRec (activateAt v s) = actRec (putRec (fun r => { r with state := uPENDING, activateAt := due }) s) := by
    unfold activateAt
    dsimp only
    refine (actRec_congr (s := noticed Obj.UPD_PENDING_AT _) ?_ ?_).trans (actRec_congr rfl rfl) <;> split <;> rfl
  unfold updState
  rw [hrec, actRec_putRec _ s hseq]
  refine ⟨rfl, ?_, fitBytes_self (actRec_hash_length s)⟩
  have hdue : due < 2 ^ 64 := by
    show (if _ then _ else _) < _
    split
    · exact time64_lt s
    · exact hv
  refine (Nat.mod_eq_of_lt hdue).trans ?_
  show (if _ then _ else _) = _
  simp only [decide_eq_true_eq]

/-- The versions of OTP after those of the types `1` to `n` have been raised to the record's. -/
def raisedTo (l : List Nat) (t : Tab Nat) (n : Nat) : Tab Nat :=
  (tabulate n (· + 1)).foldl (fun t k => tset (fun _ => 0) t k (max (tget (fun _ => 0) t k) (l.getD (k - 1) 0))) t

theorem raisedTo_succ (l : List Nat) (t : Tab Nat) (n : Nat) :
    raisedTo l t (n + 1) =
      tset (fun _ => 0) (raisedTo l t n) (n + 1) (max (tget (fun _ => 0) (raisedTo l t n) (n + 1)) (l.getD n 0)) := by
  unfold raisedTo tabulate
  rw [List.range_succ, List.map_append, List.foldl_append]
  rfl

theorem raisedTo_get (l : List Nat) {t : Tab Nat} (h : keysRise t = true) (n : Nat) :
    keysRise (raisedTo l t n) = true ∧ ∀ k, tget (fun _ => 0) (raisedTo l t n) k =
      if 1 ≤ k ∧ k ≤ n then max (tget (fun _ => 0) t k) (l.getD (k - 1) 0) else tget (fun _ => 0) t k := by
  induction n with
  | zero => exact ⟨h, fun k => (if_neg (by omega)).symm⟩
  | succ n ih =>
    obtain ⟨hrise, hget⟩ := ih
    rw [raisedTo_succ]
    refine ⟨keysRise_tset _ _ _ _ hrise, fun k => ?_⟩
    by_cases hk : k = n + 1
    · subst hk
      rw [tget_tset_same _ _ _ _ hrise, hget, if_neg (by omega), if_pos (by omega)]
      rfl
    · rw [tget_tset_ne _ _ _ hk hrise, hget]
      by_cases hlow : 1 ≤ k ∧ k ≤ n
      · rw [if_pos hlow, if_pos (by omega)]
      · rw [if_neg hlow, if_neg (by omega)]

theorem burnSecver_secver (s : State) :
    (burnSecver s).lc.otp.secver = raisedTo (actRec s).secver s.lc.otp.secver 10 := by
  simp only [burnSecver, raisedTo]

theorem otpSecver_burnSecver {s : State} {k : Nat} (h : keysRise s.lc.otp.secver = true) (h1 : 1 ≤ k) (h10 : k ≤ 10) :
    otpSecver (burnSecver s).lc.otp k = max (otpSecver s.lc.otp k) ((actRec s).secver.getD (k - 1) 0) := by
  unfold otpSecver
  rw [burnSecver_secver, (raisedTo_get (actRec s).secver h 10).2 k, if_pos ⟨h1, h10⟩]

/-! ### The moments of an activation and of the trial's end (R608, R609, R612) -/

theorem exec_activationDue {b : Nat} {s : State} (hst : updState s = 6) (hphase : s.upd.phase = 7) (hheld : s.tmp.held = 0) :
    exec (.activationDue b) s = .next (resetDevice 5 b { s with now := max s.now (rtcReaches s (actRec s).activateAt) }) :=
  congrArg Host.Outcome.next (if_pos ⟨hst, hphase, hheld⟩)

theorem exec_activationDue_held {b : Nat} {s : State} (h : s.tmp.held ≠ 0) : exec (.activationDue b) s = .next s :=
  congrArg Host.Outcome.next (if_neg (fun hdue => h hdue.2.2))

theorem exec_trialExpiry {b : Nat} {a : Time} {s : State} (h : s.upd.trialUntil = some a) :
    exec (.trialExpiry b) s = .next (resetDevice 6 b { s with now := max s.now a }) := by
  show execTrialExpiry b s = _
  unfold execTrialExpiry
  rw [h]
  rfl

end Sys2Proof.Machine

open Sys2Proof Sys2Proof.Machine

/-- Settles O58: each write is carried out by its rule's act; what the act leaves is what the activation record, written and read back
(`actRec_putRec`), and the staging area hold. -/
theorem updateCommands : Obligations.UpdateCommands := by
  unfold Obligations.UpdateCommands
  refine ⟨fun c data s h => congrArg Host.Outcome.next (writeAccess_of_plainDeciding h rfl rfl), fun s h => stageBegin_erases h,
    chunkEnd_ok_iff, fun c w total data ok s => ?_, fun s b ok hseq => ⟨takeChunk_programs, takeChunk_refuses hseq⟩,
    fun c data s h => congrArg Host.Outcome.next (writeAccess_of_plainDeciding h rfl rfl), fun s a hseq ha => updVerifyEnd_ends hseq ha,
    fun c data s h => congrArg Host.Outcome.next (writeAccess_of_plainDeciding h rfl rfl), fun v s hseq hv => actRec_activateAt hseq hv,
    fun c data s h => congrArg Host.Outcome.next (writeAccess_of_plainDeciding h rfl rfl), fun v s hseq hv => actRec_setUpd hseq hv,
    fun b s hst hphase hheld => exec_activationDue hst hphase hheld, fun b s hheld => exec_activationDue_held hheld,
    fun c data s h => congrArg Host.Outcome.next (writeAccess_of_plainDeciding h rfl rfl),
    fun s k hrise h1 h10 => otpSecver_burnSecver hrise h1 h10, fun b a s ha => exec_trialExpiry ha⟩
  intro a u ends hup hw hc
  have hexec := exec_updStageChunk (total := total) ok hup hw hc
  refine ⟨fun h17 hmax hlen => ?_, fun hbad => ?_⟩
  · rw [chunkWrite_of_declared ok _ h17 hmax hlen] at hexec
    exact hexec
  · rw [chunkWrite_of_misdeclared ok _ hbad] at hexec
    exact hexec
end

section
/-!
PROOFS. Critical acts and their approvals (R550, R554–R556): below the quorum, by the card at the window, while another act is pending, and
after their five minutes.
-/
namespace Sys2Proof.Machine

/-! ### What an answer leaves of the tamper unit's state -/

theorem closeSession_tmp (slot : Nat) (s : State) : (closeSession slot s).tmp = s.tmp := by
  have hnoticed : ∀ (l : List ObjId) (u : State), (l.foldl (fun v id => noticed id v) u).tmp = u.tmp := by
    intro l
    induction l with
    | nil => exact fun u => rfl
    | cons id l ih => exact fun u => (ih (noticed id u)).trans (noticed_tmp id u)
  exact hnoticed _ _

theorem sendData_tmp (slot type flags : Nat) (plain : Bytes) (s : State) : (sendData slot type flags plain s).tmp = s.tmp := by
  unfold sendData
  split
  · rfl
  · rfl
  · split
    · exact closeSession_tmp slot s
    · rfl

theorem deliver_tmp (c : Caller) (op : AccOp) (id : ObjId) (r : Result) (offset : Nat) (total : Option Nat) (data : Bytes) (s : State) :
    (deliver c op id r offset total data s).tmp = s.tmp := by
  cases c with
  | window => rfl
  | session k n => exact sendData_tmp ..
  | supervisor => rfl

theorem takeReq_tmp (a : AccessCmd) (s : State) : (takeReq a s).tmp = s.tmp := by
  have hsettle : ∀ u, (settleStore u).tmp = u.tmp := by
    intro u
    unfold settleStore
    split
    · split <;> rfl
    · rfl
  unfold takeReq
  rw [hsettle, wakeCore_tmp]
  split <;> rfl

/-! ### Approvals (R555) -/

theorem fromWindow_session {k : Nat} (n : Nat) (h : k < 8) : fromWindow (.session k n) = false := decide_eq_false (Nat.ne_of_lt h)

/-- This approver is among the approvals once his own is counted. -/
theorem mem_approvals (s : State) (id : ObjId) (data : Bytes) (who : Nat) : who ∈ approvals s id data who := by
  unfold approvals
  split
  · split
    · split
      · assumption
      · exact List.mem_append_right _ (List.mem_singleton.mpr rfl)
    · exact List.mem_singleton.mpr rfl
  · exact List.mem_singleton.mpr rfl

/-- An approval below the quorum, of an act that is pending or has no check of its own at its first write. -/
theorem approve_of_below {id : ObjId} {data : Bytes} {who : Nat} {r : WriteRule} {s : State} (hlast : lastApproval s id data who = false)
    (hfirst : actPending s id data = true ∨ r.first = fun u => (u, true)) :
    approve id data who r s = (recordApproval id data who s, .quorumPending) := by
  have hp : (if actPending s id data then (s, true) else r.first s) = (s, true) := by
    rcases hfirst with h | h
    · rw [if_pos h]
    · rw [h]
      split <;> rfl
  simp only [approve, hlast, hp]
  rfl

theorem serveWrite_of_session {w : Who} {id : ObjId} {data : Bytes} {r : WriteRule} {k n : Nat} {s : State} (hw : w.caller = .session k n)
    (hk : k < 8) (hc : writeChecks s w id data r = none) (hcrit : r.critical = true) :
    serveWrite w id data r s = ((approve id data w.approver r s).1, some (approve id data w.approver r s).2) := by
  simp [serveWrite, hc, hcrit, hw, fromWindow_session n hk]

/-- A session's approval below the quorum ends QUORUM_PENDING. -/
theorem writeAccess_of_below {k n : Nat} {w : Who} {id : ObjId} {data : Bytes} {r : WriteRule} {s : State} (hk : k < 8)
    (ht : Turn (.session k n) id data w s) (hc : writeChecks (begun (.session k n) id data s) w id data r = none) (hcrit : r.critical = true)
    (hlast : lastApproval (begun (.session k n) id data s) id data w.approver = false)
    (hfirst : actPending (begun (.session k n) id data s) id data = true ∨ r.first = fun u => (u, true)) :
    writeAccess (.session k n) id data r s =
      deliver (.session k n) .write id .quorumPending 0 none [] (recordApproval id data w.approver (begun (.session k n) id data s)) := by
  rw [writeAccess_of_turn ht, serveWrite_of_session (accessor_caller ht.2) hk hc hcrit, approve_of_below hlast hfirst]
  rfl

/-! ### The card's approval (R550) -/

/-- At the window, with a card session that is free and a source that is READY, the card is asked. -/
theorem serveWrite_of_card {w : Who} {id : ObjId} {data : Bytes} {r : WriteRule} {s : State} (hw : w.caller = .window)
    (hc : writeChecks s w id data r = none) (hcrit : r.critical = true) (hcard : s.tmp.card.session.isSome = true)
    (hstep : s.tmp.card.step = .none_) (hready : rngReady s = true) : serveWrite w id data r s = askApproval id data true s := by
  have hsome : s.tmp.card.session.isNone = false := by
    rw [← Option.not_isSome, hcard]
    rfl
  simp [serveWrite, hc, hcrit, hw, fromWindow, hsome, hstep, hready]

theorem writeAccess_of_card {w : Who} {id : ObjId} {data : Bytes} {r : WriteRule} {s : State} (ht : Turn .window id data w s)
    (hc : writeChecks (begun .window id data s) w id data r = none) (hcrit : r.critical = true)
    (hcard : (begun .window id data s).tmp.card.session.isSome = true) (hstep : (begun .window id data s).tmp.card.step = .none_)
    (hready : rngReady (begun .window id data s) = true) :
    writeAccess .window id data r s = (askApproval id data true (begun .window id data s)).1 := by
  rw [writeAccess_of_turn ht, serveWrite_of_card (accessor_caller ht.2) hc hcrit hcard hstep hready]
  rfl

/-! ### Another act is pending (R556) -/

theorem actPending_of_other {s : State} {id : ObjId} {data : Bytes} (h : otherAct s id data = true) : actPending s id data = false := by
  simp only [otherAct, Bool.and_eq_true, Bool.not_eq_true'] at h
  exact h.2

theorem writeChecks_busy {s : State} {w : Who} {id : ObjId} {o : ObjDesc} {data : Bytes} {r : WriteRule} (ho : findObj id = some o)
    (hcrit : r.critical = true) (hother : otherAct s id data = true) (hc : writeCheck s w id = none) (hdenied : r.denied = false)
    (hlock : r.lock = false) (hlen : lengthOk o data = true) (hheld : r.held = false) : writeChecks s w id data r = some .busy := by
  have hroles : roleChecks s w id r = none := by simp [roleChecks, hc, hdenied, hlock]
  simp [writeChecks, hroles, ho, hlen, hheld, hcrit, hother]

theorem writeAccess_of_other {c : Caller} {w : Who} {id : ObjId} {data : Bytes} {r : WriteRule} {s : State} (ht : Turn c id data w s)
    (hother : otherAct (begun c id data s) id data = true) (hbusy : writeChecks (begun c id data s) w id data r = some .busy) :
    writeAccess c id data r s = deliver c .write id .busy 0 none [] (begun c id data s) ∧
      (writeAccess c id data r s).tmp.act = s.tmp.act := by
  have heq : writeAccess c id data r s = deliver c .write id .busy 0 none [] (begun c id data s) :=
    writeAccess_of_refused ht hbusy (.inr (.inr (actPending_of_other hother)))
  refine ⟨heq, ?_⟩
  rw [heq, deliver_tmp]
  exact congrArg TmpSt.act (takeReq_tmp _ s)

/-! ### Five minutes (R556) -/

theorem dropAct_act (s : State) : (dropAct s).tmp.act = none := by
  unfold dropAct
  split
  · assumption
  · rfl

theorem dropAct_now (s : State) : (dropAct s).now = s.now := by
  unfold dropAct
  split <;> rfl

theorem exec_quorumExpiry {a : PendingAct} {s : State} (h : s.tmp.act = some a) :
    exec .quorumExpiry s = .next (dropAct (advanceTo (a.firstAt + sec 300) s)) := by
  show execQuorumExpiry s = _
  unfold execQuorumExpiry
  rw [h]

end Sys2Proof.Machine

open Sys2Proof Sys2Proof.Machine

/-- Settles O16: an approval below the quorum records itself; the window's write asks the card; the check for another pending act comes
before the act's own. -/
theorem criticalActs : Obligations.CriticalActs := by
  unfold Obligations.CriticalActs
  refine ⟨fun k n w id data r s => ?_, fun w id data r s => ?_, fun c w id data r s o => ?_, fun s a ha => ?_⟩
  · intro c t hk ht hc hcrit hlast hfirst
    exact ⟨writeAccess_of_below hk ht hc hcrit hlast hfirst, _, rfl, rfl, rfl, mem_approvals t id data w.approver, rfl, rfl⟩
  · intro t u ht hc hcrit hcard hstep hready
    exact ⟨writeAccess_of_card ht hc hcrit hcard hstep hready, _, rfl, rfl⟩
  · intro t ht ho hcrit hother hc hdenied hlock hlen hheld
    exact writeAccess_of_other ht hother (writeChecks_busy ho hcrit hother hc hdenied hlock hlen hheld)
  · exact ⟨_, exec_quorumExpiry ha, dropAct_act _, dropAct_now _⟩
end

section
/-!
PROOFS. The gauge's plans, the regulator's writes, sleep and the RTC (chapter 18).
-/
namespace Sys2Proof.Machine

/-! ### What carrying a plan on leaves (R628) -/

/-- The power unit's state without the clock and the plans. -/
def regulator (s : State) : PwrSt := { s.pwr with mhz := 0, plan := none, bbPlan := none }

/-- The objects that a plan's end reports in. -/
def planObjs : List ObjId :=
  [Obj.PWR_LAST_REPLAN, Obj.PWR_RNG_LOW, Obj.PWR_YEARS, Obj.PWR_MARGIN, Obj.RNG_DIVIDER, Obj.PWR_GAUGE_STATE]

/-- In `t` the clock has not run on, the regulator is as in `s`, and so is every object that a plan does not report in. -/
structure KeepsRegulator (s t : State) : Prop where
  announces : Announces s t
  now : t.now = s.now
  same : regulator t = regulator s
  keys : keysRise s.dict.obj = true → keysRise t.dict.obj = true
  objs : keysRise s.dict.obj = true → ∀ id, id ∉ planObjs → objVal t id = objVal s id

namespace KeepsRegulator

theorem refl (s : State) : KeepsRegulator s s := ⟨.refl s, rfl, rfl, id, fun _ _ _ => rfl⟩

theorem trans {s t u : State} (h : KeepsRegulator s t) (g : KeepsRegulator t u) : KeepsRegulator s u :=
  ⟨h.announces.trans g.announces, g.now.trans h.now, g.same.trans h.same, fun hk => g.keys (h.keys hk),
    fun hk id hid => (g.objs (h.keys hk) id hid).trans (h.objs hk id hid)⟩

theorem setObj {id : ObjId} (h : id ∈ planObjs) (v : Nat) (s : State) : KeepsRegulator s (Machine.setObj id v s) :=
  ⟨.setObj id v s, rfl, rfl, keysRise_setObj id v s, fun hk _ hj => setObj_other v s (fun he => hj (he ▸ h)) hk⟩

theorem noticed (id : ObjId) (s : State) : KeepsRegulator s (Machine.noticed id s) :=
  ⟨.noticed id s, rfl, rfl, fun h => h, fun _ _ _ => rfl⟩

/-- A change of the clock or of the plans alone. -/
theorem of_plan {s t : State} (hr : t.ring = s.ring) (ho : t.out = s.out) (hn : t.now = s.now) (hp : regulator t = regulator s)
    (hd : t.dict = s.dict) : KeepsRegulator s t :=
  ⟨.of_same hr ho, hn, hp, fun h => by rw [hd]; exact h, fun _ id _ => by unfold objVal; rw [hd]⟩

theorem setDivider (d : Nat) (s : State) : KeepsRegulator s (Machine.setDivider d s) := by
  have hsettle : KeepsRegulator s (settleSeeds s) := of_plan rfl rfl rfl rfl rfl
  exact hsettle.trans (setObj (by decide) d _)

theorem noPmbus {s t : State} (h : KeepsRegulator s t) : t.pwr.noPmbus = s.pwr.noPmbus := by
  have hf := congrArg PwrSt.noPmbus h.same
  exact hf

theorem lastPlanHours {s t : State} (h : KeepsRegulator s t) : t.pwr.lastPlanHours = s.pwr.lastPlanHours := by
  have hf := congrArg PwrSt.lastPlanHours h.same
  exact hf

theorem voutNow {s t : State} (h : KeepsRegulator s t) : t.pwr.voutNow = s.pwr.voutNow := by
  have hf := congrArg PwrSt.voutNow h.same
  exact hf

theorem voutPrev {s t : State} (h : KeepsRegulator s t) : t.pwr.voutPrev = s.pwr.voutPrev := by
  have hf := congrArg PwrSt.voutPrev h.same
  exact hf

theorem voutAt {s t : State} (h : KeepsRegulator s t) : t.pwr.voutAt = s.pwr.voutAt := by
  have hf := congrArg PwrSt.voutAt h.same
  exact hf

theorem writePending {s t : State} (h : KeepsRegulator s t) : t.pwr.writePending = s.pwr.writePending := by
  have hf := congrArg PwrSt.writePending h.same
  exact hf

end KeepsRegulator

/-- The reports of a plan's end, before its state. -/
def planReported (r : PlanRun) (s : State) : State :=
  let t := { s with pwr := { s.pwr with plan := none, bbPlan := some r.plan } }
  setDivider r.plan.divider (setObj Obj.PWR_MARGIN r.margin (setObj Obj.PWR_YEARS r.years
    (setObj Obj.PWR_RNG_LOW (b2n r.rngLow) (setObj Obj.PWR_LAST_REPLAN (time64 t) t))))

theorem planReported_keeps (r : PlanRun) (s : State) : KeepsRegulator s (planReported r s) := by
  have hplan : KeepsRegulator s { s with pwr := { s.pwr with plan := none, bbPlan := some r.plan } } := .of_plan rfl rfl rfl rfl rfl
  exact ((((hplan.trans (.setObj (by decide) _ _)).trans (.setObj (by decide) _ _)).trans (.setObj (by decide) _ _)).trans
    (.setObj (by decide) _ _)).trans (.setDivider _ _)

/-- The state that a plan's end reports (R631): 4 while the regulator cannot be written. -/
def planState (r : PlanRun) (s : State) : Nat := if s.pwr.noPmbus || s.pwr.linear16.isNone then 4 else r.state

/-- Its state stands in PWR_GAUGE_STATE, noticed once more where the years fall below 20. -/
theorem endPlan_eq (r : PlanRun) (s : State) :
    endPlan r s = setObj Obj.PWR_GAUGE_STATE (planState r (planReported r s)) (planReported r s) ∨
      endPlan r s = noticed Obj.PWR_GAUGE_STATE (setObj Obj.PWR_GAUGE_STATE (planState r (planReported r s)) (planReported r s)) := by
  unfold endPlan
  dsimp only
  split
  · exact .inr rfl
  · exact .inl rfl

theorem endPlan_keeps (r : PlanRun) (s : State) : KeepsRegulator s (endPlan r s) := by
  have hset : KeepsRegulator s (setObj Obj.PWR_GAUGE_STATE (planState r (planReported r s)) (planReported r s)) :=
    (planReported_keeps r s).trans (.setObj (by decide) _ _)
  rcases endPlan_eq r s with h | h
  · rw [h]
    exact hset
  · rw [h]
    exact hset.trans (.noticed _ _)

theorem objVal_noticed (i j : ObjId) (s : State) : objVal (noticed i s) j = objVal s j := rfl

theorem endPlan_gauge {r : PlanRun} {s : State} (hk : keysRise s.dict.obj = true) (hno : s.pwr.noPmbus = true) :
    objVal (endPlan r s) Obj.PWR_GAUGE_STATE = 4 := by
  have hkeeps := planReported_keeps r s
  have hno' : (planReported r s).pwr.noPmbus = true := (hkeeps.noPmbus).trans hno
  have hkeys := hkeeps.keys hk
  have heq := endPlan_eq r s
  generalize planReported r s = u at hno' hkeys heq
  have hstate : planState r u = 4 := by
    unfold planState
    simp [hno']
  rw [hstate] at heq
  have hset := setObj_same Obj.PWR_GAUGE_STATE 4 u hkeys
  rcases heq with h | h
  · rw [h]
    exact hset
  · rw [h, objVal_noticed]
    exact hset

/-- The clock of plan `r` is made. -/
def atPlanClock (r : PlanRun) (s : State) : State := { s with pwr := { s.pwr with mhz := r.plan.mhz } }

/-- Carrying on does nothing, makes the plan's clock, or ends the plan at that clock. -/
theorem carryOn_cases (s : State) :
    carryOn s = s ∨ ∃ r, s.pwr.plan = some r ∧ (carryOn s = atPlanClock r s ∨ carryOn s = endPlan r (atPlanClock r s)) := by
  unfold carryOn
  split
  · exact .inl rfl
  · next r hr =>
    split
    · exact .inl rfl
    · refine .inr ⟨r, hr, ?_⟩
      dsimp only
      split
      · exact .inl rfl
      · exact .inr rfl

theorem carryOn_keeps (s : State) : KeepsRegulator s (carryOn s) := by
  have hclock : ∀ r, KeepsRegulator s (atPlanClock r s) := fun _ => .of_plan rfl rfl rfl rfl rfl
  rcases carryOn_cases s with h | ⟨r, -, h | h⟩
  · rw [h]
    exact .refl s
  · rw [h]
    exact hclock r
  · rw [h]
    exact (hclock r).trans (endPlan_keeps r _)

theorem nextVolt_of_given_up {s : State} (h : s.pwr.noPmbus = true) (p : Plan) : nextVolt s p = none := by
  unfold nextVolt canWrite
  simp [h]

/-- With the regulator given up, carrying on leaves PWR_GAUGE_STATE at 4. -/
theorem carryOn_gauge {s : State} (hk : keysRise s.dict.obj = true) (hno : s.pwr.noPmbus = true)
    (h4 : objVal s Obj.PWR_GAUGE_STATE = 4) : objVal (carryOn s) Obj.PWR_GAUGE_STATE = 4 := by
  unfold carryOn
  split
  · exact h4
  · next r _ =>
    have hnone : nextVolt (atPlanClock r s) r.plan = none := nextVolt_of_given_up (s := atPlanClock r s) hno _
    have hend : (match nextVolt (atPlanClock r s) r.plan with
        | some _ => atPlanClock r s
        | none => endPlan r (atPlanClock r s)) = endPlan r (atPlanClock r s) := by rw [hnone]
    simp only [nextVolt_of_given_up hno]
    exact (congrArg (objVal · Obj.PWR_GAUGE_STATE) hend).trans (endPlan_gauge (s := atPlanClock r s) hk hno)

/-! ### Planning (R627, R628) -/

/-- The plan that the gauge begins. -/
def gaugePlan (m : GaugeData) (s : State) : PlanRun :=
  makePlan m (objVal s Obj.PWR_GUARD) (objVal s Obj.PWR_CLOCK_FLOOR) (Config.freeNat s.free)

/-- The plan has been made and its voltage shown. -/
def planMade (m : GaugeData) (s : State) : State :=
  setObj Obj.PWR_VCORE_TARGET (gaugePlan m s).plan.mv
    { s with free := s.free + 1, pwr := { s.pwr with plan := some (gaugePlan m s), noPmbus := false } }

theorem beginPlan_eq (m : GaugeData) (s : State) : beginPlan m s = carryOn (planMade m s) := rfl

theorem beginPlan_target (m : GaugeData) {s : State} (hk : keysRise s.dict.obj = true) :
    objVal (beginPlan m s) Obj.PWR_VCORE_TARGET = (gaugePlan m s).plan.mv ∧ (beginPlan m s).pwr.noPmbus = false := by
  rw [beginPlan_eq]
  have hkeeps := carryOn_keeps (planMade m s)
  have hmade : objVal (planMade m s) Obj.PWR_VCORE_TARGET = (gaugePlan m s).plan.mv := setObj_same _ _ _ hk
  refine ⟨(hkeeps.objs (keysRise_setObj _ _ _ hk) _ (by decide)).trans hmade, hkeeps.noPmbus⟩

theorem beginPlan_now (m : GaugeData) (s : State) : (beginPlan m s).now = s.now := (carryOn_keeps (planMade m s)).now

theorem beginPlan_lastPlanHours (m : GaugeData) (s : State) : (beginPlan m s).pwr.lastPlanHours = s.pwr.lastPlanHours :=
  (carryOn_keeps (planMade m s)).lastPlanHours

theorem wakeCore_clock (s : State) : (wakeCore s).now = s.now + if s.tsuow.core.retention = true then us 20 else 0 := by
  unfold wakeCore
  rw [rouseCore_now]
  split
  · exact Nat.max_eq_right (Nat.le_add_right ..)
  · rfl

/-- The gauge plans at a multiple of 24 hours of operation, once the core is awake. -/
theorem gaugeReplanDue_plans (m : GaugeData) {s : State} (hs : s.pwr.supplies = true) (hp : s.upd.phase = 7) :
    ∃ t, exec (.gaugeReplanDue m) s = .next t ∧ t.pwr.lastPlanHours = nextPlanHours s ∧
      t.now = max s.now (s.pwr.opAt + sec 3600 * (nextPlanHours s - s.pwr.opHours)) + (if s.tsuow.core.retention = true then us 20 else 0) := by
  refine ⟨_, congrArg Host.Outcome.next (if_pos (by rw [hs, hp]; rfl)), beginPlan_lastPlanHours m _, ?_⟩
  exact (beginPlan_now m _).trans (wakeCore_clock _)

/-- In a list in order, the first element with a property stands before every other one with it. -/
theorem find?_first_of_pairwise {α : Type} {r : α → α → Prop} {p : α → Bool} {l : List α} {a : α} (hl : l.Pairwise r)
    (h : l.find? p = some a) : a ∈ l ∧ p a = true ∧ ∀ b ∈ l, p b = true → b = a ∨ r a b := by
  obtain ⟨hp, before, after, rfl, hbefore⟩ := List.find?_eq_some_iff_append.mp h
  refine ⟨by simp, hp, fun b hb hpb => ?_⟩
  rcases List.mem_append.mp hb with hb | hb
  · have hnot := hbefore b hb
    rw [hpb] at hnot
    exact absurd hnot (by decide)
  · rcases List.mem_cons.mp hb with rfl | hb
    · exact .inl rfl
    · exact .inr ((List.pairwise_cons.mp (List.pairwise_append.mp hl).2.1).1 b hb)

theorem planVolts_rise : planVolts.Pairwise (· < ·) := by decide

theorem planClocks_fall (fl : Nat) : (planClocks fl).Pairwise (· > ·) := by
  have h : (tabulate 13 (fun i => 1200 - 25 * i)).Pairwise (· > ·) := by decide
  exact h.filter _

/-- The plan's voltage is the lowest of the range at which the slack suffices, where there is one. -/
theorem planMv_lowest {m : GaugeData} {f k g : Nat} (h : ∃ v ∈ planVolts, (g : Int) ≤ slackAt m f v) :
    planMv m g f k ∈ planVolts ∧ (g : Int) ≤ slackAt m f (planMv m g f k) ∧ ∀ v ∈ planVolts, v < planMv m g f k → slackAt m f v < g := by
  obtain ⟨v, hv, hslack⟩ := h
  obtain ⟨a, ha⟩ : ∃ a, planVolts.find? (fun v => decide ((g : Int) ≤ slackAt m f v)) = some a :=
    Option.isSome_iff_exists.mp (List.find?_isSome.mpr ⟨v, hv, decide_eq_true hslack⟩)
  have hplan : planMv m g f k = a := by
    unfold planMv
    rw [ha]
    rfl
  obtain ⟨hmem, hsuff, hfirst⟩ := find?_first_of_pairwise planVolts_rise ha
  rw [hplan]
  refine ⟨hmem, of_decide_eq_true hsuff, fun b hb hlt => ?_⟩
  by_contra hge
  rcases hfirst b hb (decide_eq_true (Int.not_lt.mp hge)) with rfl | hab
  · exact absurd hlt (Nat.lt_irrefl _)
  · exact absurd hlt (Nat.lt_asymm hab)

/-- The plan's clock is the highest whose slack at 850 mV suffices, where there is one. -/
theorem makePlan_highest {m : GaugeData} {g fl k : Nat} (h : ∃ f ∈ planClocks fl, (g : Int) ≤ slackAt m f 850) :
    let p := makePlan m g fl k
    p.plan.mhz ∈ planClocks fl ∧ (g : Int) ≤ slackAt m p.plan.mhz 850 ∧
      (∀ f ∈ planClocks fl, p.plan.mhz < f → slackAt m f 850 < g) ∧ p.state ≠ 3 := by
  obtain ⟨f, hf, hslack⟩ := h
  obtain ⟨a, ha⟩ : ∃ a, (planClocks fl).find? (fun f => decide ((g : Int) ≤ slackAt m f 850)) = some a :=
    Option.isSome_iff_exists.mp (List.find?_isSome.mpr ⟨f, hf, decide_eq_true hslack⟩)
  obtain ⟨hmem, hsuff, hfirst⟩ := find?_first_of_pairwise (planClocks_fall fl) ha
  unfold makePlan
  simp only [ha, Option.getD_some, Option.isNone_some]
  refine ⟨hmem, of_decide_eq_true hsuff, fun b hb hlt => ?_, ?_⟩
  · by_contra hge
    rcases hfirst b hb (decide_eq_true (Int.not_lt.mp hge)) with rfl | hab
    · exact absurd hlt (Nat.lt_irrefl _)
    · exact absurd hlt (Nat.lt_asymm hab)
  · rw [if_neg Bool.false_ne_true]
    split
    · decide
    · split <;> decide

/-! ### The regulator's writes (R629, R631) -/

/-- The voltage 5 mV nearer the goal. -/
def nearerVolt (old goal : Nat) : Nat := if old < goal then min goal (old + 5) else max goal (old - 5)

/-- The moment of the next write. -/
def voutMoment (s : State) : State :=
  advanceTo (match s.pwr.voutAt with | some t => t + us 200 | none => s.now) s

/-- The regulator's record of a write of VOUT_COMMAND. -/
def voutWritten (mv : Nat) (s t : State) : State :=
  { t with pwr := { t.pwr with voutPrev := s.pwr.voutNow, voutNow := mv, voutAt := some t.now, writePending := true, writeTries := 0 } }

theorem exec_voutStep {s : State} {r : PlanRun} {goal : Nat} (hr : s.pwr.plan = some r) (hg : nextVolt s r.plan = some goal) :
    exec .voutStep s = .next (carryOn (writeVout (nearerVolt s.pwr.voutNow goal)
      (voutWritten (nearerVolt s.pwr.voutNow goal) s (voutMoment s)))) := by
  show execVoutStep s = _
  unfold execVoutStep
  simp only [hr, hg]
  rfl

/-- VOUT_STEP writes the regulator once, 5 mV nearer the goal. -/
theorem voutStep_writes {s : State} {r : PlanRun} {goal : Nat} (hr : s.pwr.plan = some r) (hg : nextVolt s r.plan = some goal) :
    ∃ t, exec .voutStep s = .next t ∧ t.pwr.voutNow = nearerVolt s.pwr.voutNow goal ∧ t.pwr.voutPrev = s.pwr.voutNow ∧
      t.pwr.writePending = true ∧ t.pwr.voutAt = some t.now ∧ (∀ a, s.pwr.voutAt = some a → a + us 200 ≤ t.now) ∧
      ∃ l, t.out = s.out ++ .pmbus (objVal s Obj.PWR_PMBUS_ADDR) 0x21
        (leBytes 2 (linear16 (s.pwr.linear16.getD 0) t.pwr.voutNow)) :: l := by
  have hexec := exec_voutStep hr hg
  generalize hmv : nearerVolt s.pwr.voutNow goal = mv at hexec
  have hkeeps := carryOn_keeps (writeVout mv (voutWritten mv s (voutMoment s)))
  have hvolt : (carryOn (writeVout mv (voutWritten mv s (voutMoment s)))).pwr.voutNow = mv := hkeeps.voutNow
  obtain ⟨l, hl, -⟩ := hkeeps.announces.out
  refine ⟨_, hexec, hvolt, hkeeps.voutPrev, hkeeps.writePending, ?_, fun a ha => ?_, l, ?_⟩
  · rw [hkeeps.now]
    exact hkeeps.voutAt
  · rw [hkeeps.now]
    show a + us 200 ≤ (voutMoment s).now
    unfold voutMoment
    rw [ha]
    exact Nat.le_max_right ..
  · rw [hl, hvolt]
    exact List.append_assoc ..

/-- The moment at which a write's result stands, the voltage read where the read was acknowledged. -/
def writeResulted (ack pec : Bool) (mv : Nat) (a : Time) (s : State) : State :=
  if ack && pec then setObj Obj.PWR_VCORE_READ (mv % 65536) (advanceTo (a + ms 1) s) else advanceTo (a + ms 1) s

theorem writeResulted_pwr (ack pec : Bool) (mv : Nat) (a : Time) (s : State) : (writeResulted ack pec mv a s).pwr = s.pwr := by
  unfold writeResulted
  split <;> rfl

theorem writeResulted_now (ack pec : Bool) (mv : Nat) (a : Time) (s : State) :
    (writeResulted ack pec mv a s).now = max s.now (a + ms 1) := by
  unfold writeResulted
  split <;> rfl

theorem writeResulted_keys (ack pec : Bool) (mv : Nat) (a : Time) {s : State} (h : keysRise s.dict.obj = true) :
    keysRise (writeResulted ack pec mv a s).dict.obj = true := by
  unfold writeResulted
  split
  · exact keysRise_setObj _ _ _ h
  · exact h

/-- The device gives the regulator up until the next plan, at the last acknowledged target. -/
def givenUp (s : State) : State :=
  let t := bump Obj.PWR_PMBUS_ERRS (bump Obj.ERR_PMBUS (setObj Obj.PWR_GAUGE_STATE 4 s))
  { t with pwr := { t.pwr with writePending := false, writeTries := 0, noPmbus := true, voutPrev := t.pwr.voutNow, voutNow := t.pwr.voutAcked } }

/-- The write was acknowledged and the voltage follows. -/
def accepted (s : State) : State := { s with pwr := { s.pwr with writePending := false, writeTries := 0, voutAcked := s.pwr.voutNow } }

/-- The same voltage is written once more. -/
def writtenAgain (s : State) : State :=
  writeVout s.pwr.voutNow { s with pwr := { s.pwr with writeTries := s.pwr.writeTries + 1, voutAt := some s.now } }

theorem exec_pmbusWriteResult {ack pec : Bool} {mv : Nat} {a : Time} {s : State} (ha : s.pwr.voutAt = some a)
    (hp : s.pwr.writePending = true) :
    let s1 := writeResulted ack pec mv a s
    exec (.pmbusWriteResult ack pec mv) s = .next (
      if ack = true ∧ pec = true ∧ mv ≤ s.pwr.voutNow + 15 ∧ s.pwr.voutNow ≤ mv + 15 then
        accepted s1
      else if s1.pwr.writeTries < 3 then writtenAgain s1
      else carryOn (givenUp s1)) := by
  show execPmbusWriteResult ack pec mv s = _
  unfold execPmbusWriteResult
  simp only [ha, hp]
  refine congrArg Host.Outcome.next ?_
  by_cases hgood : ack = true ∧ pec = true ∧ mv ≤ s.pwr.voutNow + 15 ∧ s.pwr.voutNow ≤ mv + 15
  · rw [if_pos hgood]
    obtain ⟨hack, hpec, hnear⟩ := hgood
    simp [hack, hpec, hnear, writeResulted, accepted]
  · rw [if_neg hgood]
    have hbad : (ack && pec && decide (mv ≤ s.pwr.voutNow + 15 ∧ s.pwr.voutNow ≤ mv + 15)) = false := by
      rw [Bool.eq_false_iff]
      intro h
      simp only [Bool.and_eq_true, decide_eq_true_eq] at h
      exact hgood ⟨h.1.1, h.1.2, h.2⟩
    simp only [hbad]
    rfl

theorem carryOn_givenUp {s : State} (hk : keysRise s.dict.obj = true) :
    (carryOn (givenUp s)).now = s.now ∧ (carryOn (givenUp s)).pwr.writePending = false ∧ (carryOn (givenUp s)).pwr.noPmbus = true ∧
      (carryOn (givenUp s)).pwr.voutNow = s.pwr.voutAcked ∧ objVal (carryOn (givenUp s)) Obj.PWR_GAUGE_STATE = 4 := by
  have hkeeps := carryOn_keeps (givenUp s)
  have h1 := keysRise_setObj Obj.PWR_GAUGE_STATE 4 s hk
  have h2 := keysRise_bump Obj.ERR_PMBUS _ h1
  have hgauge : objVal (givenUp s) Obj.PWR_GAUGE_STATE = 4 :=
    (bump_other (id := Obj.PWR_PMBUS_ERRS) _ (by decide) h2).trans ((bump_other _ (by decide) h1).trans (setObj_same _ _ _ hk))
  exact ⟨hkeeps.now, hkeeps.writePending, hkeeps.noPmbus, hkeeps.voutNow, carryOn_gauge (keysRise_bump _ _ h2) rfl hgauge⟩

/-- The outcomes of a write's result. -/
theorem pmbusWriteResult_outcomes {ack pec : Bool} {mv : Nat} {a : Time} {s : State} (ha : s.pwr.voutAt = some a)
    (hp : s.pwr.writePending = true) (hk : keysRise s.dict.obj = true) :
    let good := ack = true ∧ pec = true ∧ mv ≤ s.pwr.voutNow + 15 ∧ s.pwr.voutNow ≤ mv + 15
    ∃ t, exec (.pmbusWriteResult ack pec mv) s = .next t ∧ t.now = max s.now (a + ms 1) ∧
      (good → t.pwr.writePending = false ∧ t.pwr.voutAcked = s.pwr.voutNow ∧ objVal t Obj.PWR_VCORE_READ = mv % 65536) ∧
      (¬ good → s.pwr.writeTries < 3 → t.pwr.writePending = true ∧ t.pwr.writeTries = s.pwr.writeTries + 1 ∧ t.pwr.voutNow = s.pwr.voutNow) ∧
      (¬ good → 3 ≤ s.pwr.writeTries → t.pwr.writePending = false ∧ t.pwr.noPmbus = true ∧ t.pwr.voutNow = s.pwr.voutAcked ∧
        objVal t Obj.PWR_GAUGE_STATE = 4) := by
  intro good
  have hexec := exec_pmbusWriteResult (ack := ack) (pec := pec) (mv := mv) ha hp
  dsimp only at hexec
  have hpwr := writeResulted_pwr ack pec mv a s
  have hnow := writeResulted_now ack pec mv a s
  have hkeys := writeResulted_keys ack pec mv a hk
  have hread : good → objVal (writeResulted ack pec mv a s) Obj.PWR_VCORE_READ = mv % 65536 := by
    rintro ⟨hack, hpec, -⟩
    unfold writeResulted
    rw [hack, hpec]
    exact setObj_same _ _ _ hk
  generalize writeResulted ack pec mv a s = w at hexec hpwr hnow hkeys hread
  by_cases hgood : good
  · rw [if_pos hgood] at hexec
    exact ⟨_, hexec, hnow, fun _ => ⟨rfl, congrArg PwrSt.voutNow hpwr, hread hgood⟩, fun h => absurd hgood h, fun h => absurd hgood h⟩
  · rw [if_neg hgood] at hexec
    by_cases htries : s.pwr.writeTries < 3
    · rw [if_pos (by rw [hpwr]; exact htries)] at hexec
      have hagain : (writtenAgain w).pwr.writePending = w.pwr.writePending ∧ (writtenAgain w).pwr.writeTries = w.pwr.writeTries + 1 ∧
        (writtenAgain w).pwr.voutNow = w.pwr.voutNow := ⟨rfl, rfl, rfl⟩
      rw [hpwr, hp] at hagain
      exact ⟨_, hexec, hnow, fun h => absurd h hgood, fun _ _ => hagain, fun _ h => absurd htries (Nat.not_lt_of_le h)⟩
    · rw [if_neg (by rw [hpwr]; exact htries)] at hexec
      obtain ⟨hthen, hpend, hno, hvolt, hgauge⟩ := carryOn_givenUp hkeys
      rw [hpwr] at hvolt
      exact ⟨_, hexec, hthen.trans hnow, fun h => absurd h hgood, fun _ h => absurd h htries, fun _ _ => ⟨hpend, hno, hvolt, hgauge⟩⟩

theorem exec_pmAlert (v : Nat) {s : State} (hs : s.pwr.supplies = true) (hp : s.upd.phase ≠ 0) :
    exec (.pmAlert v) s = .next (setObj Obj.PWR_PMBUS_STATUS (v % 65536) s) :=
  congrArg Host.Outcome.next (if_pos (by simp [hs, hp]))

/-! ### Sleep (R624) -/

theorem slicePowerGate_gates {n : Nat} {s : State} (hn : n < 36) (hst : (slice_ s n).st = .idle)
    (hgate : (idleAt s (slice_ s n).idleSince).sliceGate = 1) (hk : keysRise s.pke.slices = true) :
    ∃ t, exec (.slicePowerGate n) s = .next t ∧ (slice_ t n).st = .gated ∧
      t.now = max s.now ((slice_ s n).idleSince + us (idleAt s (slice_ s n).idleSince).sliceIdle) := by
  refine ⟨_, congrArg Host.Outcome.next (if_pos (by simp [hn, hst, hgate])), ?_, rfl⟩
  exact congrArg Slice.st (setSlice_same n _ (advanceTo _ s) hk)

theorem engineClockGate_gates {s : State} (hpll : s.pwr.pllRunning = true) (hclock : s.pwr.clockGated = false) (hbusy : engineBusy s = false) :
    ∃ t, exec .engineClockGate s = .next t ∧ t.pwr.clockGated = true ∧ t.pwr.pllRunning = true :=
  ⟨_, congrArg Host.Outcome.next (if_pos (by simp [hpll, hclock, hbusy])), rfl, hpll⟩

theorem exec_pllStop {s : State} (hclock : s.pwr.clockGated = true) (h0 : (port s 0).st = .down) (h1 : (port s 1).st = .down)
    (hcore : s.tsuow.core.retention = true) (hgraft : graftWork s = false) :
    exec .pllStop s = .next { s with pwr := { s.pwr with pllRunning := false } } :=
  congrArg Host.Outcome.next (if_pos (by simp [hclock, h0, h1, hcore, hgraft]))

theorem tsuowRetention_sleeps {s : State} (hup : supervisorUp s = true) (hp : s.upd.phase = 7) (hq : s.dict.queue = [])
    (hc : s.tsuow.current = none) (hr : s.tsuow.readyQ = []) :
    ∃ t, exec .tsuowRetention s = .next t ∧ t.tsuow.core.retention = true ∧ t.now = max s.now (s.tsuow.activeAt + ms 1) :=
  ⟨_, congrArg Host.Outcome.next (if_pos (by simp [hup, hp, hq, hc, hr])), rfl, rfl⟩

/-! ### The RTC (R635) -/

theorem leNat_append_bytes (a b : Bytes) : leNat (a ++ b) = leNat a + 256 ^ a.length * leNat b := by
  induction a with
  | nil => simp [leNat]
  | cons x r ih =>
    show x.toNat + 256 * leNat (r ++ b) = x.toNat + 256 * leNat r + 256 ^ (r.length + 1) * leNat b
    rw [ih, Nat.mul_add, Nat.pow_succ', Nat.mul_assoc, Nat.add_assoc]

/-- The RTC runs on from the written value, and the record holds the time before and the value. -/
theorem setRtc_sets {v : Nat} {s : State} (hk : keysRise s.dict.obj = true) (hv : v < 2 ^ 64) :
    time64 (setRtc v s) = v ∧ (setRtc v s).pwr.rtcSets = nextCount s.pwr.rtcSets s ∧
      objVal (setRtc v s) Obj.PWR_RTC_LAST_SET = time64 s + v * 2 ^ 64 := by
  refine ⟨?_, rfl, ?_⟩
  · show (v % 2 ^ 64 + (s.now - s.now) * 65536 / 1000000000) % 2 ^ 64 = v
    rw [Nat.sub_self, Nat.zero_mul, Nat.zero_div, Nat.add_zero, Nat.mod_mod, Nat.mod_eq_of_lt hv]
  · have hbefore : time64 s < 2 ^ 64 := Nat.mod_lt _ (by decide)
    refine (setObj_same Obj.PWR_RTC_LAST_SET _ _ hk).trans ?_
    rw [leNat_append_bytes, leBytes_length, leNat_leBytes, leNat_leBytes, show 256 ^ 8 = 2 ^ 64 from rfl, Nat.mod_eq_of_lt hbefore,
      Nat.mod_eq_of_lt hv, Nat.mul_comm]

end Sys2Proof.Machine

open Sys2Proof Sys2Proof.Machine

/-- Settles O59: carrying a plan on leaves the regulator's record (`carryOn_keeps`), so that what a write or its result puts there is read back;
the plan's voltage and clock are the first of ordered lists. -/
theorem powerAndClocks : Obligations.PowerAndClocks := by
  unfold Obligations.PowerAndClocks
  exact ⟨fun m s hs hp => gaugeReplanDue_plans m hs hp,
    fun c m data s h => congrArg Host.Outcome.next (writeAccess_of_plainDeciding h rfl rfl),
    fun m s hk => beginPlan_target m hk, fun m f k g h => planMv_lowest h, fun m g fl k h => makePlan_highest h,
    fun s r goal hr hg => voutStep_writes hr hg, fun ack pec mv a s ha hp hk => pmbusWriteResult_outcomes ha hp hk,
    fun v s hs hp => exec_pmAlert v hs hp, fun n s hn hst hgate hk => slicePowerGate_gates hn hst hgate hk,
    fun s hpll hclock hbusy => engineClockGate_gates hpll hclock hbusy, fun s hclock h0 h1 hcore hgraft => exec_pllStop hclock h0 h1 hcore hgraft,
    fun s hup hp hq hc hr => tsuowRetention_sleeps hup hp hq hc hr,
    fun c data s h => congrArg Host.Outcome.next (writeAccess_of_plainDeciding h rfl rfl), fun v s hk hv => setRtc_sets hk hv⟩
end

section
/-!
PROOFS. What stopping work, erasing keys and drawing random bytes leave as it was: the tamper unit, the life cycle, the update state, and every object of the
store that they do not count in (R216, R340, R502, R511, R535).
-/
namespace Sys2Proof.Machine

/-! ### Objects of the store -/

/-- A listed value stays where another key is dropped, in whatever order the keys stand. -/
theorem mget?_mdel_of_some {α : Type} {t : Tab α} {k j : Nat} {v : α} (hj : j ≠ k) (hv : mget? t j = some v) :
    mget? (mdel t k) j = some v := by
  induction t with
  | nil => exact absurd hv (by simp [mget?])
  | cons p r ih =>
    obtain ⟨a, w⟩ := p
    unfold mget? at hv
    unfold mdel
    by_cases hja : j = a
    · subst hja
      rw [if_pos rfl] at hv
      rw [if_neg (Ne.symm hj)]
      split <;> (unfold mget?; rw [if_pos rfl, hv])
    · rw [if_neg hja] at hv
      split at hv
      · exact absurd hv (by simp)
      · next hlt =>
        split
        · exact hv
        · split
          · unfold mget?
            rw [if_neg hja, if_neg hlt]
            exact hv
          · unfold mget?
            rw [if_neg hja, if_neg hlt]
            exact ih hv

theorem mget?_tset_of_some {α : Type} [DecidableEq α] (d : Nat → α) {t : Tab α} {k j : Nat} {v : α} (w : α) (hj : j ≠ k)
    (hv : mget? t j = some v) : mget? (tset d t k w) j = some v := by
  unfold tset
  split
  · exact mget?_mdel_of_some hj hv
  · rw [mget?_mset_ne t w hj, hv]

/-- A value other than the object's default, once written, is listed. -/
theorem mget?_setObj_same {id : ObjId} {v : Nat} (s : State) (h : v ≠ objDefault id) : mget? (setObj id v s).dict.obj id = some v := by
  unfold setObj
  dsimp only
  split
  · next hval =>
    unfold objVal tget at hval
    cases hget : mget? s.dict.obj id with
    | none =>
      rw [hget] at hval
      exact absurd hval.symm h
    | some w =>
      rw [hget] at hval
      exact congrArg some hval
  · dsimp only
    unfold tset
    rw [if_neg h]
    exact mget?_mset_same _ _ _

theorem mget?_setObj_other {id j : ObjId} {v w : Nat} {s : State} (hj : j ≠ id) (hw : mget? s.dict.obj j = some w) :
    mget? (setObj id v s).dict.obj j = some w := by
  unfold setObj
  dsimp only
  split
  · exact hw
  · exact mget?_tset_of_some objDefault v hj hw

theorem objVal_of_mget? {s : State} {id : ObjId} {v : Nat} (h : mget? s.dict.obj id = some v) : objVal s id = v := by
  unfold objVal tget
  rw [h]
  rfl

theorem mget?_of_objVal {s : State} {id : ObjId} {v : Nat} (h : objVal s id = v) (hv : v ≠ objDefault id) : mget? s.dict.obj id = some v := by
  unfold objVal tget at h
  cases hget : mget? s.dict.obj id with
  | none =>
    rw [hget] at h
    exact absurd h.symm hv
  | some w =>
    rw [hget] at h
    exact congrArg some h

/-! ### What is left alone -/

/-- The objects in which stopped work, erasures, new slots and draws count. -/
def workObjs : List ObjId :=
  [Obj.RNG_STALLS, Obj.RNG_RESEEDS, Obj.RNG_STRETCH_MAX, Obj.PKE_HTS_SKIPPED, Obj.PKE_HTS_WARNED, Obj.PKE_HTS_WARN_LAST,
   Obj.KREG_FILL_STATE, Obj.KREG_RELOCATIONS, Obj.KREG_ATTEST_PK_DSA, Obj.KREG_ATTEST_PK_EC]

/-- In `t` the tamper unit, the life cycle, the update state and every object outside `workObjs` are as in `s`, and no session is new. -/
structure LeavesRest (s t : State) : Prop where
  tmp : t.tmp = s.tmp
  lc : t.lc = s.lc
  upd : t.upd = s.upd
  closed : s.dict.sessions = [] → t.dict.sessions = []
  objs : ∀ id v, id ∉ workObjs → mget? s.dict.obj id = some v → mget? t.dict.obj id = some v

namespace LeavesRest

theorem of_dict {s t : State} (htmp : t.tmp = s.tmp) (hlc : t.lc = s.lc) (hupd : t.upd = s.upd)
    (hdict : t.dict = s.dict) : LeavesRest s t :=
  ⟨htmp, hlc, hupd, fun h => by rw [hdict, h], fun _ _ _ h => by rw [hdict, h]⟩

theorem refl (s : State) : LeavesRest s s := of_dict rfl rfl rfl rfl

theorem trans {s t u : State} (h : LeavesRest s t) (g : LeavesRest t u) : LeavesRest s u :=
  ⟨g.tmp.trans h.tmp, g.lc.trans h.lc, g.upd.trans h.upd, fun hs => g.closed (h.closed hs), fun id v hid hv => g.objs id v hid (h.objs id v hid hv)⟩

/-- A change of the parts that `LeavesRest` does not speak of, after `t`. -/
theorem andThen {s t u : State} (h : LeavesRest s t) (htmp : u.tmp = t.tmp) (hlc : u.lc = t.lc) (hupd : u.upd = t.upd)
    (hdict : u.dict = t.dict) : LeavesRest s u := h.trans (of_dict htmp hlc hupd hdict)

/-- A change of the parts that `LeavesRest` does not speak of, before `t`. -/
theorem since {s t u : State} (h : LeavesRest t u) (htmp : t.tmp = s.tmp) (hlc : t.lc = s.lc) (hupd : t.upd = s.upd)
    (hdict : t.dict = s.dict) : LeavesRest s u := (of_dict htmp hlc hupd hdict).trans h

theorem foldl {α : Type} {f : State → α → State} (h : ∀ t a, LeavesRest t (f t a)) (l : List α) (s : State) :
    LeavesRest s (l.foldl f s) := by
  induction l generalizing s with
  | nil => exact refl s
  | cons a r ih => exact (h s a).trans (ih _)

theorem noticed (id : ObjId) (s : State) : LeavesRest s (Machine.noticed id s) := by
  refine ⟨rfl, rfl, rfl, fun h => ?_, fun _ _ _ h => h⟩
  unfold Machine.noticed mmap
  rw [h]
  rfl

theorem setObj {id : ObjId} (h : id ∈ workObjs) (v : Nat) (s : State) : LeavesRest s (Machine.setObj id v s) := by
  refine ⟨rfl, rfl, rfl, fun hs => ?_, fun j w hj hw => mget?_setObj_other (fun he => hj (he ▸ h)) hw⟩
  unfold Machine.setObj
  dsimp only
  split
  · exact hs
  · exact (noticed id s).closed hs

theorem bump {id : ObjId} (h : id ∈ workObjs) (s : State) : LeavesRest s (Machine.bump id s) :=
  (setObj h _ s).andThen rfl rfl rfl rfl

/-! Draws (R509–R512). -/

theorem takeSeed (s : State) : LeavesRest s (Machine.takeSeed s) := by
  unfold Machine.takeSeed
  dsimp only
  split <;> exact of_dict rfl rfl rfl rfl

theorem reseed (n : Nat) (s : State) : LeavesRest s (Machine.reseed n s) :=
  (takeSeed s).trans ((bump (id := Obj.RNG_RESEEDS) (by decide) _).since rfl rfl rfl rfl)

theorem stallCall (n : Nat) (s : State) : LeavesRest s (Machine.stallCall n s) := by
  unfold Machine.stallCall
  split
  · exact ((bump (id := Obj.RNG_STALLS) (by decide) s).trans (reseed n _)).andThen rfl rfl rfl rfl
  · exact refl s

theorem stretch (n : Nat) (s : State) : LeavesRest s (Machine.stretch n s) := by
  unfold Machine.stretch
  dsimp only
  split
  · exact (setObj (id := Obj.RNG_STRETCH_MAX) (by decide) _ _).since rfl rfl rfl rfl
  · exact refl s

theorem drawCall (n len : Nat) (s : State) : LeavesRest s (Machine.drawCall n len s).2 :=
  ((stallCall n s).trans (stretch n _)).andThen rfl rfl rfl rfl

theorem draw (n len : Nat) (s : State) : LeavesRest s (Machine.draw n len s).2 := by
  unfold Machine.draw
  generalize ceilDiv len 64 = k
  induction k generalizing len s with
  | zero => exact refl s
  | succ k ih => exact (drawCall n _ s).trans (ih _ _)

theorem drawPass (n k : Nat) (s : State) : LeavesRest s (Machine.drawPass n k s) := by
  induction k generalizing s with
  | zero => exact refl s
  | succ k ih => exact (drawCall n 64 s).trans (ih _)

theorem drawOrFree (n len : Nat) (s : State) : LeavesRest s (Machine.drawOrFree n len s).2 := by
  unfold Machine.drawOrFree
  split
  · exact draw n len s
  · exact of_dict rfl rfl rfl rfl

/-! Jobs that are stopped (R214–R219). -/

theorem commitIndex (h : Nat) (k : HtsKey) (cap : Nat) (s : State) : LeavesRest s (Machine.commitIndex h k cap s) := by
  have hcounter : LeavesRest s (setCounter k.record (sealRecord (k.working + 1) k.gen) s) := of_dict rfl rfl rfl rfl
  unfold Machine.commitIndex htsWarn
  split
  · exact hcounter
  · next j _ =>
    split
    · have hwarned : ∀ u, LeavesRest u (setHts h { j with warned := true } u) := fun _ => of_dict rfl rfl rfl rfl
      exact ((hcounter.trans (hwarned _)).trans (setObj (by decide) _ _)).trans (bump (by decide) _)
    · exact hcounter

theorem stopSign (x : Entry) (s : State) : LeavesRest s (Machine.stopSign x s) := by
  unfold Machine.stopSign
  dsimp only
  split
  · next k _ _ _ _ =>
    have hreserve : ∀ h cap, LeavesRest s (reserveIndex h k cap { s with free := s.free + 1 }) := fun _ _ => of_dict rfl rfl rfl rfl
    split
    · split
      · exact ((hreserve _ _).trans (commitIndex _ _ _ _)).trans (bump (id := Obj.PKE_HTS_SKIPPED) (by decide) _)
      · exact hreserve _ _
    · exact refl s
  · exact refl s

theorem dropNewKey (target : Option Nat) (s : State) : LeavesRest s (Machine.dropNewKey target s) := by
  unfold Machine.dropNewKey
  split
  · exact refl s
  · split
    · dsimp only
      split
      · exact of_dict rfl rfl rfl rfl
      · exact refl s
    · exact refl s

theorem detach (e : Nat) (x : Entry) (hasPages : Bool) (s : State) : LeavesRest s (Machine.detach e x hasPages s) := by
  unfold Machine.detach
  dsimp only
  generalize hs : freeOthers e _ _ = s1
  have h : LeavesRest s s1 := by rw [← hs]; exact of_dict rfl rfl rfl rfl
  split
  · split
    · exact h
    · split
      · exact h.andThen rfl rfl rfl rfl
      · exact h.andThen rfl rfl rfl rfl
  · split
    · exact h.andThen rfl rfl rfl rfl
    · exact h

theorem haltJob (e : Nat) (st : Status) (detail : Nat) (s : State) : LeavesRest s (Machine.haltJob e st detail s) := by
  unfold Machine.haltJob
  split
  · exact refl s
  · next x _ =>
    split
    · split
      · exact of_dict rfl rfl rfl rfl
      · exact refl s
    · exact (((stopSign x s).trans (detach e x _ _)).trans (dropNewKey x.target _)).andThen rfl rfl rfl rfl

theorem stopJob (e : Nat) (st : Status) (detail : Nat) (s : State) : LeavesRest s (Machine.stopJob e st detail s) := by
  refine LeavesRest.trans ?_ (haltJob e st detail _)
  unfold chargeRun
  split
  · exact refl s
  · split
    · exact refl s
    · exact of_dict rfl rfl rfl rfl

theorem stopJobs (p : Nat → Entry → Bool) (st : Status) (s : State) : LeavesRest s (Machine.stopJobs p st s) :=
  foldl (fun t e => stopJob e st 0 t) _ s

/-! Calls that end (R502). -/

theorem setCell (n : Nat) (c : Cell) (s : State) : LeavesRest s (Machine.setCell n c s) := by
  unfold Machine.setCell
  dsimp only
  split
  · exact of_dict rfl rfl rfl rfl
  · exact (noticed _ _).since rfl rfl rfl rfl

theorem memWrite (a : Nat) (b : Bytes) (s : State) : LeavesRest s (Machine.memWrite a b s) := by
  have hput : ∀ a x u, LeavesRest u (lksPut u a x) := by
    intro a x u
    unfold lksPut
    split
    · split <;> exact of_dict rfl rfl rfl rfl
    · exact of_dict rfl rfl rfl rfl
  have hlks : ∀ (b : Bytes) a u, LeavesRest u (lksWrite a b u) := by
    intro b
    induction b with
    | nil => exact fun a u => refl u
    | cons x r ih => exact fun a u => (hput a x u).trans (ih _ _)
  have hctx : ∀ (b : Bytes) a u, LeavesRest u (ctxWrite a b u) := by
    intro b
    induction b with
    | nil => exact fun a u => refl u
    | cons x r ih =>
      intro a u
      refine LeavesRest.trans ?_ (ih (a + 1) _)
      split <;> exact of_dict rfl rfl rfl rfl
  unfold Machine.memWrite
  split
  · exact hlks b a s
  · split
    · exact hctx b a s
    · exact of_dict rfl rfl rfl rfl

theorem cellDataInit (c : Cell) (s : State) : LeavesRest s (Machine.cellDataInit c s) := by
  unfold Machine.cellDataInit
  exact (memWrite _ _ _).since rfl rfl rfl rfl

theorem cellAfter (n : Nat) (a : CellAfter) (s : State) : LeavesRest s (Machine.cellAfter n a s) := by
  unfold Machine.cellAfter
  cases a with
  | keep => exact setCell _ _ _
  | fence => exact setCell _ _ _
  | reinit => exact (cellDataInit _ s).trans (setCell _ _ _)
  | remove =>
    refine LeavesRest.trans ?_ (setCell _ _ _)
    exact of_dict rfl rfl rfl rfl

theorem nextCell (s : State) : LeavesRest s (Machine.nextCell s) := by
  unfold Machine.nextCell
  split
  · split
    · exact (setCell _ _ s).andThen rfl rfl rfl rfl
    · exact of_dict rfl rfl rfl rfl
  · exact refl s

theorem leaveCell (n : Nat) (s : State) : LeavesRest s (Machine.leaveCell n s) := by
  unfold Machine.leaveCell
  exact (nextCell _).since rfl rfl rfl rfl

theorem endCall (n : Nat) (st : Status) (detail : Nat) (a : CellAfter) (s : State) :
    LeavesRest s (Machine.endCall n st detail a s) := by
  have hsub : LeavesRest s (dropSubjob n s) := by
    unfold dropSubjob
    dsimp only
    split
    · exact (stopJob _ .aborted 0 s).andThen rfl rfl rfl rfl
    · exact of_dict rfl rfl rfl rfl
  unfold Machine.endCall
  dsimp only
  refine LeavesRest.trans ?_ ((cellAfter n a _).trans (leaveCell n _))
  split
  · refine hsub.trans (LeavesRest.trans ?_ (stopJob _ st detail _))
    split
    · exact of_dict rfl rfl rfl rfl
    · exact refl _
  · exact refl s

theorem endCalls (st : Status) (a : CellAfter) (s : State) : LeavesRest s (Machine.endCalls st a s) :=
  foldl (fun t n => endCall n st 0 a t) _ s

/-! Exchanges and keys (R340, R341, R450, R535). -/

theorem freeSlots (hs : List Nat) (s : State) : LeavesRest s (Machine.freeSlots hs s) := by
  have hover : LeavesRest s (overwriteUnits hs s) := by
    unfold overwriteUnits
    split
    · exact drawPass _ _ _
    · exact refl s
  exact hover.andThen rfl rfl rfl rfl

theorem setGraft (c : Nat) (g : Graft) (s : State) : LeavesRest s (Machine.setGraft c g s) := by
  unfold Machine.setGraft
  dsimp only
  split
  · exact of_dict rfl rfl rfl rfl
  · exact (noticed _ _).since rfl rfl rfl rfl

theorem abandonGraft (c : Nat) (s : State) : LeavesRest s (Machine.abandonGraft c s) := by
  unfold Machine.abandonGraft
  dsimp only
  refine LeavesRest.trans ?_ (setGraft c _ _)
  have hfree : ∀ hs, LeavesRest s (Machine.freeSlots hs (orphan c (Machine.stopJobs (fun _ e => ofGraft c e) .aborted s))) :=
    fun hs => (stopJobs _ .aborted s).trans ((freeSlots hs _).since rfl rfl rfl rfl)
  split
  · exact (hfree _).andThen rfl rfl rfl rfl
  · exact hfree _

theorem abandonAll (s : State) : LeavesRest s (Machine.abandonAll s) := foldl (fun t c => abandonGraft c t) _ s

theorem eraseKreg (s : State) : LeavesRest s (Machine.eraseKreg s) := by
  have hfill : LeavesRest s (if (Machine.abandonAll s).kreg.fill.isSome then Machine.setObj Obj.KREG_FILL_STATE 3 (Machine.abandonAll s)
      else Machine.abandonAll s) := by
    split
    · exact (abandonAll s).trans (setObj (id := Obj.KREG_FILL_STATE) (by decide) 3 _)
    · exact abandonAll s
  exact hfill.andThen rfl rfl rfl rfl

theorem bindOff (s : State) : LeavesRest s (Machine.bindOff s) :=
  ((eraseKreg s).trans (drawOrFree 36 32 _)).andThen rfl rfl rfl rfl

theorem quiesce (s : State) : LeavesRest s (Machine.quiesce s) :=
  (((endCalls .fenced .reinit s).trans (stopJobs _ .fenced _)).trans (abandonAll _)).andThen rfl rfl rfl rfl

theorem eraseDone (s : State) : LeavesRest s (Machine.eraseDone s) := by
  have hover : LeavesRest s (if rngReady s then Machine.drawPass 43 65536 s else s) := by
    split
    · exact drawPass 43 65536 s
    · exact refl s
  exact ((hover.trans (drawOrFree 43 32 _)).trans (drawOrFree 43 32 _)).andThen rfl rfl rfl rfl

end LeavesRest

/-! ### The key register through draws -/

theorem drawPass_kreg (n k : Nat) (s : State) : (drawPass n k s).kreg = s.kreg := by
  induction k generalizing s with
  | zero => rfl
  | succ k ih => exact (ih _).trans (drawCall_kreg n 64 s)

theorem drawOrFree_kreg (n len : Nat) (s : State) : (drawOrFree n len s).2.kreg = s.kreg := by
  unfold drawOrFree
  split
  · exact draw_kreg n len s
  · rfl

/-- What a bind-off destroys (R535). -/
theorem bindOff_kreg (s : State) :
    (bindOff s).kreg.slots = [] ∧ (bindOff s).kreg.lks = [] ∧ (bindOff s).kreg.working = [] ∧ (bindOff s).kreg.kScr = [] ∧
      (bindOff s).kreg.kMask = [] ∧ (bindOff s).dig.ctx = [] ∧ (bindOff s).pke.parkKey = [] := by
  have h := drawOrFree_kreg 36 32 (eraseKreg s)
  exact ⟨congrArg KregSt.slots h, rfl, congrArg KregSt.working h, congrArg KregSt.kScr h, congrArg KregSt.kMask h, rfl, rfl⟩

end Sys2Proof.Machine
end

section
/-!
PROOFS. What fencing a unit leaves as it was: the tamper unit, the life cycle and the update state (R636).
-/
namespace Sys2Proof.Machine

/-- In `t` the tamper unit, the life cycle and the update state are as in `s`. -/
structure LeavesHome (s t : State) : Prop where
  tmp : t.tmp = s.tmp
  lc : t.lc = s.lc
  upd : t.upd = s.upd

theorem LeavesRest.home {s t : State} (h : LeavesRest s t) : LeavesHome s t := ⟨h.tmp, h.lc, h.upd⟩

namespace LeavesHome

theorem refl (s : State) : LeavesHome s s := ⟨rfl, rfl, rfl⟩

theorem trans {s t u : State} (h : LeavesHome s t) (g : LeavesHome t u) : LeavesHome s u :=
  ⟨g.tmp.trans h.tmp, g.lc.trans h.lc, g.upd.trans h.upd⟩

/-- A change of the parts that `LeavesHome` does not speak of, after `t`. -/
theorem andThen {s t u : State} (h : LeavesHome s t) (htmp : u.tmp = t.tmp) (hlc : u.lc = t.lc) (hupd : u.upd = t.upd) : LeavesHome s u :=
  h.trans ⟨htmp, hlc, hupd⟩

/-- A change of the parts that `LeavesHome` does not speak of, before `t`. -/
theorem since {s t u : State} (h : LeavesHome t u) (htmp : t.tmp = s.tmp) (hlc : t.lc = s.lc) (hupd : t.upd = s.upd) : LeavesHome s u :=
  LeavesHome.trans ⟨htmp, hlc, hupd⟩ h

theorem foldl {α : Type} {f : State → α → State} (h : ∀ t a, LeavesHome t (f t a)) (l : List α) (s : State) :
    LeavesHome s (l.foldl f s) := by
  induction l generalizing s with
  | nil => exact refl s
  | cons a r ih => exact (h s a).trans (ih _)

theorem setObj (id : ObjId) (v : Nat) (s : State) : LeavesHome s (Machine.setObj id v s) := ⟨rfl, rfl, rfl⟩

theorem bumpBy (id : ObjId) (n : Nat) (s : State) : LeavesHome s (Machine.bumpBy id n s) := ⟨rfl, rfl, rfl⟩

theorem noticed (id : ObjId) (s : State) : LeavesHome s (Machine.noticed id s) := ⟨rfl, rfl, rfl⟩

/-! The stream ports (R394, R404, R407, R636). -/

theorem setPort (p : Nat) (x : Port) (s : State) : LeavesHome s (Machine.setPort p x s) := by
  have hnote : ∀ (c : Prop) [Decidable c] id u, LeavesHome u (if c then u else Machine.noticed id u) := by
    intro c _ id u
    split
    · exact refl u
    · exact noticed id u
  have hput : LeavesHome s { s with sp := { s.sp with ports := tset (fun _ => Port.reset) s.sp.ports p x } } := ⟨rfl, rfl, rfl⟩
  exact (((hput.trans (hnote _ _ _)).trans (hnote _ _ _)).trans (hnote _ _ _)).trans (hnote _ _ _)

theorem sendPkt (p : Nat) (o : OutPkt) (s : State) : LeavesHome s (Machine.sendPkt p o s) := by
  have hemit : LeavesHome s (emitPkt p o s) := by
    unfold emitPkt
    dsimp only
    split <;> exact ⟨rfl, rfl, rfl⟩
  have hdrop : LeavesHome s (stallDrop p o.circuit s) := by
    unfold stallDrop
    split <;> exact ⟨rfl, rfl, rfl⟩
  unfold Machine.sendPkt
  dsimp only
  split
  · exact refl s
  · split
    · exact hdrop
    · split
      · exact setPort _ _ _
      · exact hemit

theorem leavePkt (c : Nat) (q : InFlightPkt) (s : State) : LeavesHome s (Machine.leavePkt c q s) := by
  unfold Machine.leavePkt sendStatus
  dsimp only
  split
  · exact sendPkt _ _ s
  · split
    · exact (sendPkt _ _ s).trans (sendPkt _ _ _)
    · exact sendPkt _ _ s

theorem leaveAll (c : Nat) (l : List InFlightPkt) (s : State) : LeavesHome s (Machine.leaveAll c l s) := by
  induction l generalizing s with
  | nil => exact ⟨rfl, rfl, rfl⟩
  | cons q r ih =>
    unfold Machine.leaveAll
    split
    · exact (leavePkt c q s).trans (ih _)
    · exact ⟨rfl, rfl, rfl⟩

theorem settleSlots (c : Nat) (s : State) : LeavesHome s (Machine.settleSlots c s) := by
  unfold Machine.settleSlots
  dsimp only
  split
  · exact refl s
  · exact (LeavesRest.freeSlots _ _).home.since rfl rfl rfl

theorem updateFlow (p : Nat) (s : State) : LeavesHome s (Machine.updateFlow p s) := by
  unfold Machine.updateFlow
  dsimp only
  split
  · exact refl s
  · exact (setPort _ _ s).andThen rfl rfl rfl

theorem drainCircuit (c : Nat) (s : State) : LeavesHome s (Machine.drainCircuit c s) := by
  refine ((leaveAll c (circuit s c).queue s).trans (settleSlots c _)).trans (updateFlow _ _)

theorem losePkts (f : InFlightPkt → Bool) (s : State) : LeavesHome s (Machine.losePkts f s) :=
  (foldl (fun t c => drainCircuit c t) _ _).since rfl rfl rfl

/-! Fences (R636, R637). -/

theorem recordFence (k cause entry : Nat) (s : State) : LeavesHome s (Machine.recordFence k cause entry s) := ⟨rfl, rfl, rfl⟩

theorem endClassWaiters (cls : Nat) (s : State) : LeavesHome s (Machine.endClassWaiters cls s) := by
  unfold Machine.endClassWaiters
  split
  · exact (LeavesRest.stopJobs _ _ s).home
  · exact refl s

theorem fenceSlice (n cause : Nat) (st : Status) (detail : Nat) (s : State) : LeavesHome s (Machine.fenceSlice n cause st detail s) := by
  unfold Machine.fenceSlice
  dsimp only
  refine LeavesHome.trans ?_ ((recordFence n cause _ _).trans (endClassWaiters _ _))
  split
  · exact ⟨rfl, rfl, rfl⟩
  · next j _ =>
    split
    · exact ⟨rfl, rfl, rfl⟩
    · generalize hu : stopJob j st detail _ = u
      have hstop : LeavesHome s u := by
        rw [← hu]
        exact (LeavesRest.stopJob j st detail _).home.since rfl rfl rfl
      split
      · split
        · exact hstop.andThen rfl rfl rfl
        · exact hstop
      · exact hstop

theorem fenceRequester (n cause : Nat) (job : Option Nat) (st : Status) (detail : Nat) (s : State) :
    LeavesHome s (Machine.fenceRequester n cause job st detail s) := by
  unfold Machine.fenceRequester
  dsimp only
  refine LeavesHome.trans ?_ (recordFence n cause _ _)
  split
  · exact (LeavesRest.stopJob _ st detail _).home.since rfl rfl rfl
  · exact ⟨rfl, rfl, rfl⟩

theorem fenceDigest (n cause : Nat) (st : Status) (detail : Nat) (s : State) :
    LeavesHome s (Machine.fenceDigest n cause st detail s) := by
  have hstop : LeavesHome s ((digUnit s n).jobs.foldl (fun t e => stopJob e st detail t) s) :=
    foldl (fun t e => (LeavesRest.stopJob e st detail t).home) _ s
  unfold Machine.fenceDigest
  dsimp only
  generalize List.foldl _ s _ = u at hstop ⊢
  exact (hstop.andThen (u := setDigUnit n _ u) rfl rfl rfl).trans (recordFence _ cause _ _)

theorem fencePipe (n cause : Nat) (s : State) : LeavesHome s (Machine.fencePipe n cause s) := by
  unfold Machine.fencePipe
  dsimp only
  have hlost := losePkts (fun q => decide (q.pipe = n) && !q.done) s
  generalize Machine.losePkts _ s = u at hlost ⊢
  exact (hlost.andThen (u := setPipe n _ u) rfl rfl rfl).trans (recordFence _ cause _ _)

theorem faultPair (p : Nat) (s : State) : LeavesHome s (Machine.faultPair p s) := by
  have hstall : LeavesHome s (leaveStall p s) := by
    unfold leaveStall
    dsimp only
    split <;> exact ⟨rfl, rfl, rfl⟩
  unfold Machine.faultPair
  dsimp only
  generalize leaveStall p s = u at hstall ⊢
  have hheld : LeavesHome s (notStarving p (dropHeld p u)) := hstall.andThen rfl rfl rfl
  generalize notStarving p (dropHeld p u) = v at hheld ⊢
  split
  · exact hheld
  · exact hheld.andThen rfl rfl rfl

theorem fenceUnit (u : UnitRef) (cause : Nat) (st : Status) (s : State) : LeavesHome s (Machine.fenceUnit u cause st s) := by
  cases u with
  | slice n => exact fenceSlice n cause st 0 s
  | requester n => exact fenceRequester n cause none st 0 s
  | digest n => exact fenceDigest n cause st 0 s
  | pipe n => exact fencePipe n cause s
  | ring p => exact faultPair p s
  | cell n => exact (LeavesRest.endCall n _ 0 .reinit s).home
  | none_ => exact refl s

end LeavesHome

end Sys2Proof.Machine
end

section
/-!
PROOFS. Tamper events, alarms and what they leave (chapter 15, R545, R620).
-/
namespace Sys2Proof.Machine

/-! ### The response of a level (R535, R540) -/

/-- The actions of a level leave the tamper unit and the life cycle alone. -/
theorem levelActions_home (from_ level : Nat) (s : State) :
    (levelActions from_ level s).tmp = s.tmp ∧ (levelActions from_ level s).lc = s.lc := by
  have hquiet : LeavesHome s (if from_ < 3 ∧ 3 ≤ level then quiesce s else s) := by
    split
    · exact (LeavesRest.quiesce s).home
    · exact .refl s
  unfold levelActions
  dsimp only
  generalize (if from_ < 3 ∧ 3 ≤ level then quiesce s else s) = u at hquiet ⊢
  have hoff : LeavesHome s (if from_ < 4 ∧ 4 ≤ level then bindOff u else u) := by
    split
    · exact hquiet.trans (LeavesRest.bindOff u).home
    · exact hquiet
  generalize (if from_ < 4 ∧ 4 ≤ level then bindOff u else u) = v at hoff ⊢
  split
  · split <;> exact ⟨hoff.tmp, hoff.lc⟩
  · exact ⟨hoff.tmp, hoff.lc⟩

/-- What a level-4 response leaves no more (R535). -/
def NoKeys (s : State) : Prop := s.kreg.slots = [] ∧ s.kreg.lks = [] ∧ s.kreg.working = [] ∧ s.kreg.kScr = [] ∧ s.kreg.kMask = [] ∧
  s.dig.ctx = [] ∧ s.pke.parkKey = []

/-- What a level-5 response leaves no more (R535). -/
def NoBackup (s : State) : Prop := s.kreg.counters = [] ∧ s.kreg.kek = [] ∧ s.pwr.bbPlan = none

theorem levelActions_noKeys {from_ level : Nat} (s : State) (hfrom : from_ < 4) (hlevel : 4 ≤ level) :
    NoKeys (levelActions from_ level s) := by
  unfold levelActions
  dsimp only
  rw [if_pos (show from_ < 4 ∧ 4 ≤ level from ⟨hfrom, hlevel⟩)]
  have hoff : NoKeys (bindOff (if from_ < 3 ∧ 3 ≤ level then quiesce s else s)) := bindOff_kreg _
  generalize bindOff _ = v at hoff ⊢
  split
  · split <;> exact hoff
  · exact hoff

theorem levelActions_noBackup {from_ level : Nat} (s : State) (hfrom : from_ < 5) (hlevel : 5 ≤ level) :
    NoBackup (levelActions from_ level s) := by
  unfold levelActions
  dsimp only
  rw [if_pos ⟨hfrom, hlevel⟩]
  split <;> exact ⟨rfl, rfl, rfl⟩

/-! ### An alarm, in its steps (R537, R542, R544) -/

/-- The alarm is one whose source burns a bit in this hold (R542). -/
def wantsBurn (n level : Nat) (s : State) : Bool := decide (3 ≤ level) && burnsState s && !(source s n).burnt

/-- It burns the bit now. -/
def burnsNow (n level : Nat) (s : State) : Bool := wantsBurn n level s && s.pwr.supplies && decide (s.lc.otp.evidence < 256)

/-- The bit is burnt or left to be burnt, and its source marked. -/
def alarmBurnt (n level : Nat) (s : State) : State :=
  let s1 := if burnsNow n level s then burn 1 s else s
  let s2 := if wantsBurn n level s && !s.pwr.supplies then { s1 with tmp := { s1.tmp with burnsPending := min 255 (s1.tmp.burnsPending + 1) } } else s1
  if wantsBurn n level s then setSource n { source s2 n with burnt := true } s2 else s2

/-- The alarm's level is not above what is held. -/
def alarmSubsumed (level : Nat) (s : State) : Bool := decide (heldLevel s ≠ 0 ∧ level ≤ heldLevel s)

/-- The level's response is made. -/
def alarmActed (n level : Nat) (u : UnitRef) (s : State) : State :=
  let t := alarmBurnt n level s
  if alarmSubsumed level s then t else
    match level with
    | 0 => t
    | 1 => { t with tmp := { t.tmp with holdUntil := some (t.now + us 100) } }
    | 2 => if unitFenced t u then t else fenceUnit u cTAMPER .faultDetected t
    | _ => noticed Obj.TMP_HELD (levelActions (heldLevel s) level { t with tmp := { t.tmp with held := level } })

/-- ALARM_N shows it. -/
def alarmShown (n level : Nat) (u : UnitRef) (s : State) : State :=
  let t := alarmActed n level u s
  if decide (objVal t Obj.TMP_ALARM_PIN_LEVEL ≤ level) && !(alarmSubsumed level s) then
    (if 3 ≤ level then alarmPin true t else alarmPin true { t with tmp := { t.tmp with pulseUntil := some (t.now + ms 1) } })
  else t

/-- An alarm's entry of the tamper log. -/
def alarmRec (n level : Nat) (u : UnitRef) (value flags : Nat) (s : State) : TamperRec :=
  { stamp := time64 (alarmShown n level u s), source := n, level := level,
    applied := max (heldLevel (alarmShown n level u s)) (if alarmSubsumed level s then heldLevel s else level),
    flags := flags + (if burnsNow n level s then fEVIDENCE else 0) + (if alarmSubsumed level s then fSUBSUMED else 0),
    value := if decide (n ≤ 8 ∨ n = 14 ∨ n = 15) || decide (level = 2) then value else 0 }

theorem applyAlarm_eq (n level : Nat) (u : UnitRef) (value flags : Nat) (s : State) :
    applyAlarm n level u value flags s = logTamper (alarmRec n level u value flags s) (alarmShown n level u s) := rfl

/-- A log entry changes the tamper unit in its log alone. -/
theorem logTamper_keeps (r : TamperRec) (s : State) :
    (logTamper r s).tmp = { s.tmp with log := tamperLogged s.tmp.log r } ∧ (logTamper r s).lc = s.lc ∧ (logTamper r s).kreg = s.kreg ∧
      (logTamper r s).dig = s.dig ∧ (logTamper r s).pke = s.pke ∧ (logTamper r s).pwr = s.pwr ∧ (logTamper r s).now = s.now := by
  unfold logTamper
  dsimp only
  split <;> exact ⟨rfl, rfl, rfl, rfl, rfl, rfl, rfl⟩

theorem setSource_tmp (n : Nat) (x : Source) (s : State) :
    (setSource n x s).tmp = { s.tmp with sources := tset (fun _ => Source.reset) s.tmp.sources n x } := by
  unfold setSource
  dsimp only
  split <;> rfl

theorem setSource_keysRise (n : Nat) (x : Source) {s : State} (h : keysRise s.tmp.sources = true) :
    keysRise (setSource n x s).tmp.sources = true := by
  have hsources := congrArg TmpSt.sources (setSource_tmp n x s)
  rw [hsources]
  exact keysRise_tset (fun _ => Source.reset) s.tmp.sources n x h

theorem setSource_frame (n : Nat) (x : Source) (s : State) : (setSource n x s).now = s.now ∧ (setSource n x s).lc = s.lc ∧
    (setSource n x s).pwr = s.pwr ∧ (setSource n x s).dict.obj = s.dict.obj := by
  unfold setSource
  dsimp only
  split <;> exact ⟨rfl, rfl, rfl, rfl⟩

/-- Burning a bit touches the tamper unit in its sources and in the burns that are pending. -/
theorem alarmBurnt_tmp (n level : Nat) (s : State) :
    ∃ l p, (alarmBurnt n level s).tmp = { s.tmp with sources := l, burnsPending := p } := by
  have hpend : ∀ (c : Bool) (u : State), u.tmp = s.tmp → ∃ p,
      (if c then { u with tmp := { u.tmp with burnsPending := min 255 (u.tmp.burnsPending + 1) } } else u).tmp =
        { s.tmp with burnsPending := p } := by
    intro c u hu
    split
    · exact ⟨min 255 (u.tmp.burnsPending + 1), by rw [hu]⟩
    · exact ⟨s.tmp.burnsPending, hu⟩
  have hburn : (if burnsNow n level s then burn 1 s else s).tmp = s.tmp := by split <;> rfl
  obtain ⟨p, hp⟩ := hpend (wantsBurn n level s && !s.pwr.supplies) _ hburn
  unfold alarmBurnt
  dsimp only
  generalize (if wantsBurn n level s && !s.pwr.supplies then _ else _ : State) = v at hp ⊢
  split
  · exact ⟨_, p, (setSource_tmp n _ v).trans (by rw [hp])⟩
  · exact ⟨s.tmp.sources, p, hp⟩

/-- The evidence counter after an alarm (R542): one more where the bit is burnt now. -/
theorem alarmBurnt_evidence (n level : Nat) (s : State) : (alarmBurnt n level s).lc.otp.evidence =
    if burnsNow n level s = true then s.lc.otp.evidence + 1 else s.lc.otp.evidence := by
  have hpend : ∀ (c : Bool) (u : State),
      (if c then { u with tmp := { u.tmp with burnsPending := min 255 (u.tmp.burnsPending + 1) } } else u).lc = u.lc := by
    intro c u
    split <;> rfl
  have hlc : (alarmBurnt n level s).lc = (if burnsNow n level s then burn 1 s else s).lc := by
    unfold alarmBurnt
    dsimp only
    split
    · exact (setSource_frame n _ _).2.1.trans (hpend _ _)
    · exact hpend _ _
  rw [hlc]
  split
  · next hburns =>
    have hroom : s.lc.otp.evidence < 256 := by
      simp only [burnsNow, Bool.and_eq_true, decide_eq_true_eq] at hburns
      exact hburns.2
    exact Nat.min_eq_right hroom
  · rfl

theorem alarmBurnt_now (n level : Nat) (s : State) : (alarmBurnt n level s).now = s.now := by
  have hburn : (if burnsNow n level s then burn 1 s else s).now = s.now := by split <;> rfl
  have hpend : ∀ (c : Bool) (u : State),
      (if c then { u with tmp := { u.tmp with burnsPending := min 255 (u.tmp.burnsPending + 1) } } else u).now = u.now := by
    intro c u
    split <;> rfl
  unfold alarmBurnt
  dsimp only
  split
  · exact (setSource_frame n _ _).1.trans ((hpend _ _).trans hburn)
  · exact (hpend _ _).trans hburn

/-- The response to an alarm that is not subsumed touches the tamper unit in the end of a HOLD and in the held level, and the life cycle
not at all. -/
theorem alarmActed_tmp (n level : Nat) (u : UnitRef) (s : State) :
    (∃ h l, (alarmActed n level u s).tmp = { (alarmBurnt n level s).tmp with holdUntil := h, held := l }) ∧
      (alarmActed n level u s).lc = (alarmBurnt n level s).lc := by
  unfold alarmActed
  dsimp only
  generalize alarmBurnt n level s = t
  have hsame : (∃ h l, t.tmp = { t.tmp with holdUntil := h, held := l }) ∧ t.lc = t.lc := ⟨⟨_, _, rfl⟩, rfl⟩
  split
  · exact hsame
  · split
    · exact hsame
    · exact ⟨⟨_, _, rfl⟩, rfl⟩
    · split
      · exact hsame
      · have hfence := LeavesHome.fenceUnit u cTAMPER .faultDetected t
        exact ⟨⟨_, _, hfence.tmp⟩, hfence.lc⟩
    · obtain ⟨htmp, hlc⟩ := levelActions_home (heldLevel s) level { t with tmp := { t.tmp with held := level } }
      exact ⟨⟨_, _, htmp⟩, hlc⟩

/-- A level of 3 or more above the held one is held, and its actions are taken. -/
theorem alarmActed_of_high {n level : Nat} (u : UnitRef) {s : State} (habove : heldLevel s < level) (hlevel : 3 ≤ level) :
    alarmActed n level u s = noticed Obj.TMP_HELD
      (levelActions (heldLevel s) level { alarmBurnt n level s with tmp := { (alarmBurnt n level s).tmp with held := level } }) := by
  have hsub : alarmSubsumed level s = false := decide_eq_false (fun h => Nat.not_lt_of_le h.2 habove)
  unfold alarmActed
  rw [hsub]
  obtain ⟨k, rfl⟩ : ∃ k, level = k + 3 := ⟨level - 3, by omega⟩
  rfl

/-- ALARM_N's part of an alarm touches the tamper unit in the end of a pulse alone. -/
theorem alarmShown_keeps (n level : Nat) (u : UnitRef) (s : State) :
    (∃ p, (alarmShown n level u s).tmp = { (alarmActed n level u s).tmp with pulseUntil := p }) ∧
      (alarmShown n level u s).lc = (alarmActed n level u s).lc ∧ (alarmShown n level u s).kreg = (alarmActed n level u s).kreg ∧
      (alarmShown n level u s).dig = (alarmActed n level u s).dig ∧ (alarmShown n level u s).pke = (alarmActed n level u s).pke ∧
      (alarmShown n level u s).pwr = (alarmActed n level u s).pwr := by
  unfold alarmShown
  dsimp only
  generalize alarmActed n level u s = t
  split
  · split <;> exact ⟨⟨_, rfl⟩, rfl, rfl, rfl, rfl, rfl⟩
  · exact ⟨⟨_, rfl⟩, rfl, rfl, rfl, rfl, rfl⟩

/-- An alarm adds its entry to the log, and leaves the sources as the burnt bit left them. -/
theorem applyAlarm_tmp (n level : Nat) (u : UnitRef) (value flags : Nat) (s : State) :
    (applyAlarm n level u value flags s).tmp.log = tamperLogged s.tmp.log (alarmRec n level u value flags s) ∧
      (applyAlarm n level u value flags s).tmp.sources = (alarmBurnt n level s).tmp.sources := by
  obtain ⟨htmp, -⟩ := logTamper_keeps (alarmRec n level u value flags s) (alarmShown n level u s)
  obtain ⟨⟨p, hshown⟩, -⟩ := alarmShown_keeps n level u s
  obtain ⟨⟨h, l, hacted⟩, -⟩ := alarmActed_tmp n level u s
  obtain ⟨m, b, hburnt⟩ := alarmBurnt_tmp n level s
  rw [applyAlarm_eq, htmp, hshown, hacted]
  exact ⟨by rw [hburnt], rfl⟩

theorem applyAlarm_hold {n : Nat} {u : UnitRef} {value flags : Nat} {s : State} (habove : heldLevel s < 1) :
    (applyAlarm n 1 u value flags s).tmp.holdUntil = some (s.now + us 100) := by
  obtain ⟨htmp, -⟩ := logTamper_keeps (alarmRec n 1 u value flags s) (alarmShown n 1 u s)
  obtain ⟨⟨p, hshown⟩, -⟩ := alarmShown_keeps n 1 u s
  have hsub : alarmSubsumed 1 s = false := decide_eq_false (fun h => Nat.not_lt_of_le h.2 habove)
  have hacted : (alarmActed n 1 u s).tmp.holdUntil = some ((alarmBurnt n 1 s).now + us 100) := by
    unfold alarmActed
    rw [hsub]
    rfl
  rw [applyAlarm_eq, htmp, hshown, ← alarmBurnt_now n 1 s]
  exact hacted

theorem applyAlarm_held {n level : Nat} {u : UnitRef} {value flags : Nat} {s : State} (habove : heldLevel s < level) (hlevel : 3 ≤ level) :
    (applyAlarm n level u value flags s).tmp.held = level ∧
      (applyAlarm n level u value flags s).lc.otp.evidence =
        if burnsState s = true ∧ (source s n).burnt = false ∧ s.pwr.supplies = true ∧ s.lc.otp.evidence < 256
          then s.lc.otp.evidence + 1 else s.lc.otp.evidence := by
  obtain ⟨htmp, hlc, -⟩ := logTamper_keeps (alarmRec n level u value flags s) (alarmShown n level u s)
  obtain ⟨⟨p, hshown⟩, hshownLc, -⟩ := alarmShown_keeps n level u s
  obtain ⟨-, hactedLc⟩ := alarmActed_tmp n level u s
  rw [applyAlarm_eq, htmp, hlc, hshown, hshownLc, hactedLc, alarmBurnt_evidence, alarmActed_of_high u habove hlevel]
  refine ⟨congrArg TmpSt.held (levelActions_home _ level _).1, if_congr ?_ rfl rfl⟩
  simp [burnsNow, wantsBurn, hlevel, and_assoc]

/-- What an alarm of a level above the held one destroys (R535). -/
theorem applyAlarm_destroys {n level : Nat} {u : UnitRef} {value flags : Nat} {s : State} (habove : heldLevel s < level) :
    (heldLevel s < 4 → 4 ≤ level → NoKeys (applyAlarm n level u value flags s)) ∧
      (heldLevel s < 5 → 5 ≤ level → NoBackup (applyAlarm n level u value flags s)) := by
  obtain ⟨-, -, hkreg, hdig, hpke, hpwr, -⟩ := logTamper_keeps (alarmRec n level u value flags s) (alarmShown n level u s)
  obtain ⟨-, -, hshownKreg, hshownDig, hshownPke, hshownPwr⟩ := alarmShown_keeps n level u s
  rw [applyAlarm_eq]
  unfold NoKeys NoBackup
  rw [hkreg, hdig, hpke, hpwr, hshownKreg, hshownDig, hshownPke, hshownPwr]
  refine ⟨fun hfrom hlevel => ?_, fun hfrom hlevel => ?_⟩
  · rw [alarmActed_of_high u habove (by omega)]
    exact levelActions_noKeys _ hfrom hlevel
  · rw [alarmActed_of_high u habove (by omega)]
    exact levelActions_noBackup _ hfrom hlevel

/-! ### Confirmation (R531, R546) -/

/-- The counters of a confirmed alarm. -/
def alarmCounted (n : Nat) (s : State) : State := setObj (at_ Obj.TMP_SRC_LAST n) (time64 s) (bump (at_ Obj.TMP_SRC_ALARMS n) s)

theorem confirm_of_main {n : Nat} {u : UnitRef} {value flags : Nat} {s : State} (h : s.tmp.onCell = false) :
    confirm n u value flags s = applyAlarm n (cfgLevel (srcCfg s n)) u value flags (alarmCounted n s) := by
  have hcell : ¬ (alarmCounted n s).tmp.onCell = true := by
    rw [show (alarmCounted n s).tmp.onCell = false from h]
    decide
  exact if_neg hcell

theorem confirm_of_cell {n : Nat} {u : UnitRef} {value flags : Nat} {s : State} (h : s.tmp.onCell = true)
    (hlevel : cfgLevel (srcCfg s n) ≠ 0) :
    confirm n u value flags s = latchAlarm n (cfgLevel (srcCfg s n)) flags (alarmCounted n s) :=
  (if_pos (show (alarmCounted n s).tmp.onCell = true from h)).trans (if_neg hlevel)

/-- An alarm on the cell alone (R546). -/
theorem latchAlarm_tmp (n level flags : Nat) (s : State) : ∃ r : LatchRec, r.source = n ∧ r.level = level ∧
    (latchAlarm n level flags s).tmp.latch = (if 16 ≤ s.tmp.latch.length then s.tmp.latch.drop 1 ++ [r] else s.tmp.latch ++ [r]) ∧
    (latchAlarm n level flags s).tmp.aonPending = max s.tmp.aonPending level ∧ (latchAlarm n level flags s).lc = s.lc ∧
    (latchAlarm n level flags s).tmp.sources = s.tmp.sources := by
  refine ⟨{ stamp := time64At s (if timedInput n then (source s n).activeAt else s.now), source := n, level := level, flags := flags,
            seq := s.tmp.latchSeq }, rfl, rfl, ?_⟩
  unfold latchAlarm
  dsimp only
  by_cases hfull : 16 ≤ s.tmp.latch.length
  · rw [decide_eq_true hfull, if_pos hfull]
    split <;> exact ⟨rfl, rfl, rfl, rfl⟩
  · rw [decide_eq_false hfull, if_neg hfull]
    split <;> exact ⟨rfl, rfl, rfl, rfl⟩

/-- On main power a confirmed alarm adds one entry to the tamper log. -/
theorem confirm_logs {n : Nat} {u : UnitRef} {value flags : Nat} {s : State} (h : s.tmp.onCell = false) :
    ∃ r, (confirm n u value flags s).tmp.log = tamperLogged s.tmp.log r ∧ r.source = n ∧ r.level = cfgLevel (srcCfg s n) := by
  rw [confirm_of_main h]
  exact ⟨_, (applyAlarm_tmp n _ u value flags (alarmCounted n s)).1, rfl, rfl⟩

/-- On the cell a confirmed alarm enters the latch and raises the pending level. -/
theorem confirm_latches {n : Nat} {u : UnitRef} {value flags : Nat} {s : State} (h : s.tmp.onCell = true)
    (hlevel : cfgLevel (srcCfg s n) ≠ 0) (hfit : s.tmp.latch.length ≤ 16) :
    (confirm n u value flags s).tmp.latch.length ≤ 16 ∧
      (∃ r, (confirm n u value flags s).tmp.latch.getLast? = some r ∧ r.source = n ∧ r.level = cfgLevel (srcCfg s n)) ∧
      (confirm n u value flags s).tmp.aonPending = max s.tmp.aonPending (cfgLevel (srcCfg s n)) ∧
      (confirm n u value flags s).lc.otp = s.lc.otp := by
  rw [confirm_of_cell h hlevel]
  obtain ⟨r, hsource, hrlevel, hlatch, hpending, hlc, -⟩ := latchAlarm_tmp n (cfgLevel (srcCfg s n)) flags (alarmCounted n s)
  have hsame : (alarmCounted n s).tmp = s.tmp := rfl
  rw [hsame] at hlatch hpending
  refine ⟨?_, ⟨r, ?_, hsource, hrlevel⟩, hpending, congrArg LcSt.otp hlc⟩
  · rw [hlatch]
    split
    · simp only [List.length_append, List.length_drop, List.length_singleton]
      omega
    · simp only [List.length_append, List.length_singleton]
      omega
  · rw [hlatch]
    split <;> exact List.getLast?_concat ..

/-- A confirmed alarm changes a source's record in its burnt bit alone. -/
theorem confirm_chatter {n : Nat} {u : UnitRef} {value flags : Nat} {s : State} (hk : keysRise s.tmp.sources = true) :
    (source (confirm n u value flags s) n).chatter = (source s n).chatter := by
  have hsources : ∀ t : State, t.tmp.sources = s.tmp.sources → (source t n).chatter = (source s n).chatter := by
    intro t ht
    unfold source
    rw [ht]
  cases hcell : s.tmp.onCell with
  | false =>
    rw [confirm_of_main hcell]
    have halarm := (applyAlarm_tmp n (cfgLevel (srcCfg s n)) u value flags (alarmCounted n s)).2
    generalize cfgLevel (srcCfg s n) = level at halarm ⊢
    have hburnt : (source (alarmBurnt n level (alarmCounted n s)) n).chatter = (source s n).chatter := by
      have hcounted : (alarmCounted n s).tmp.sources = s.tmp.sources := rfl
      generalize alarmCounted n s = c at hcounted
      have hburn : (if burnsNow n level c then burn 1 c else c).tmp.sources = s.tmp.sources := by
        split <;> exact hcounted
      have hpend : ∀ (b : Bool) (v : State), v.tmp.sources = s.tmp.sources →
          (if b then { v with tmp := { v.tmp with burnsPending := min 255 (v.tmp.burnsPending + 1) } } else v).tmp.sources =
            s.tmp.sources := by
        intro b v hv
        split <;> exact hv
      have hthen := hpend (wantsBurn n level c && !c.pwr.supplies) _ hburn
      unfold alarmBurnt
      dsimp only
      generalize (if wantsBurn n level c && !c.pwr.supplies then _ else _ : State) = v at hthen ⊢
      split
      · rw [setSource_same n _ v (by rw [hthen]; exact hk)]
        exact hsources v hthen
      · exact hsources v hthen
    unfold source at hburnt ⊢
    rw [halarm]
    exact hburnt
  | true =>
    by_cases hlevel : cfgLevel (srcCfg s n) = 0
    · have hcounted : confirm n u value flags s = alarmCounted n s :=
        (if_pos (show (alarmCounted n s).tmp.onCell = true from hcell)).trans (if_pos hlevel)
      rw [hcounted]
      exact hsources _ rfl
    · rw [confirm_of_cell hcell hlevel]
      obtain ⟨_, -, -, -, -, -, hlatched⟩ := latchAlarm_tmp n (cfgLevel (srcCfg s n)) flags (alarmCounted n s)
      exact hsources _ hlatched

/-! ### Events (R527, R531–R533, R620) -/

/-- The source of an input that changes faster than its filter follows. -/
def fastSource (n : Nat) (s : State) : Source :=
  { source s n with changesAt := some ((source s n).changesAt.getD s.now), changedAt := s.now }

theorem any_lapse {α : Type} (last : Option Time) (now wait : Time) (a b : α) :
    (match last with
      | some t => if now < t + wait then a else b
      | none => b) = if last.any (fun t => decide (now < t + wait)) then a else b := by
  cases last with
  | none => rfl
  | some t =>
    by_cases hsoon : now < t + wait
    · exact (if_pos hsoon).trans (if_pos (decide_eq_true hsoon)).symm
    · exact (if_neg hsoon).trans (if_neg (by simpa using hsoon)).symm

/-- One event in 100 ms (R533). -/
theorem fastEvent_eq (n : Nat) (u : UnitRef) (v : Nat) (s : State) : fastEvent n u v s =
    if (source s n).eventAt.any (fun t => decide (s.now < t + ms 100)) then setSource n (fastSource n s) s
    else giveEvent n u v (setSource n (fastSource n s) s) := by
  have hsource : ({ source s n with
      changesAt := if (source s n).changesAt.isSome then (source s n).changesAt else some s.now, changedAt := s.now } : Source) =
        fastSource n s := by
    unfold fastSource
    cases (source s n).changesAt <;> rfl
  unfold fastEvent
  dsimp only
  rw [hsource]
  generalize (source s n).eventAt = last
  generalize ms 100 = wait
  exact any_lapse last s.now wait _ _

/-- An input's event: one that follows its filter, or one that changes faster (R533). -/
theorem tamperEvent_of_input {n : Nat} (u : UnitRef) (v : Nat) (s : State) (hin : inputSource n = true) :
    exec (.tamperEvent n u v false) s = .next (giveEvent n u v (setSource n { source s n with changesAt := none } s)) ∧
      exec (.tamperEvent n u v true) s = .next (fastEvent n u v s) := by
  refine ⟨?_, ?_⟩
  · show execTamperEvent n u v false s = _
    unfold execTamperEvent
    dsimp only
    rw [Bool.false_and, if_neg Bool.false_ne_true, if_pos hin]
  · show execTamperEvent n u v true s = _
    unfold execTamperEvent
    rw [Bool.true_and, if_pos hin]

theorem tamperEvent_of_other {n : Nat} (u : UnitRef) (v : Nat) (f : Bool) (s : State) (hin : inputSource n = false) :
    exec (.tamperEvent n u v f) s = .next (giveEvent n u v s) := by
  show execTamperEvent n u v f s = _
  unfold execTamperEvent
  dsimp only
  rw [hin, Bool.and_false, if_neg Bool.false_ne_true, if_neg Bool.false_ne_true]

theorem giveEvent_of_not_may {n : Nat} (u : UnitRef) (v : Nat) {s : State} (h : mayEvent s n = false) : giveEvent n u v s = s := by
  unfold giveEvent
  rw [h]
  rfl

theorem giveEvent_of_held {n : Nat} (u : UnitRef) (v : Nat) {s : State} (h : mayEvent s n = true) (hheld : heldSource n = true) :
    giveEvent n u v s = if cfgEn (srcCfg s n) = true then { s with
      tmp := { s.tmp with heldEvents := s.tmp.heldEvents ++
        [{ source := n, value := v, at_ := s.now, due := s.now + us (objVal s Obj.PWR_PDN_WINDOW) }] } } else s := by
  unfold giveEvent
  rw [h, hheld]
  rfl

/-- What an event makes of its source. -/
theorem eventSource_eq (n : Nat) (s : State) :
    (if timedInput n then { source s n with active := true, activeAt := activityBegan s n }
      else if n = 6 then { source s n with armed := false }
      else if n = 14 ∨ n = 15 then { source s n with active := true, activeAt := s.now, armed := false } else source s n) =
    (if n = 14 ∨ n = 15 then { source s n with active := true, activeAt := s.now, armed := false }
      else if inputSource n = true then
        { source s n with active := true, activeAt := if n = 16 then s.now - sec 3 else s.now - ms (cfgFilter (srcCfg s n)) }
      else if n = 6 then { source s n with armed := false } else source s n) := by
  by_cases hmesh : n = 14 ∨ n = 15
  · have htimed : timedInput n = false := decide_eq_false (by omega)
    rw [htimed, if_neg Bool.false_ne_true, if_neg (by omega), if_pos hmesh, if_pos hmesh]
  · rw [if_neg hmesh, if_neg hmesh]
    have hsame : timedInput n = inputSource n := by
      unfold timedInput inputSource
      exact decide_eq_decide.mpr (by omega)
    rw [hsame]
    rfl

theorem giveEvent_of_counted {n : Nat} (u : UnitRef) (v : Nat) {s : State} (h : mayEvent s n = true) (hheld : heldSource n = false) :
    giveEvent n u v s = tamperEvent n u v (setSource n
      (if n = 14 ∨ n = 15 then { source s n with active := true, activeAt := s.now, armed := false }
       else if inputSource n = true then
         { source s n with active := true, activeAt := if n = 16 then s.now - sec 3 else s.now - ms (cfgFilter (srcCfg s n)) }
       else if n = 6 then { source s n with armed := false } else source s n) s) := by
  rw [← eventSource_eq n s]
  unfold giveEvent
  rw [h, hheld]
  rfl

/-- An event is counted in its window; the N-th confirms (R531). -/
theorem tamperEventAt_counts {n : Nat} (u : UnitRef) (v : Nat) (t : Time) {s : State} (hen : cfgEn (srcCfg s n) = true) :
    let x := source s n
    let times := x.times.filter (fun a => decide (t ≤ a + ms (cfgW (srcCfg s n)))) ++ [t]
    let s1 := bump (at_ Obj.TMP_SRC_EVENTS n) s
    (times.length < cfgN (srcCfg s n) → tamperEventAt n u v t s = rouseCore (setSource n { x with times := times, eventAt := some t } s1) ∧
      source (tamperEventAt n u v t s) n = { x with times := times, eventAt := some t }) ∧
    (cfgN (srcCfg s n) ≤ times.length →
      tamperEventAt n u v t s = rouseCore (confirm n u v 0 (setSource n { x with times := [], eventAt := some t } s1))) := by
  intro x times s1
  have hevent : tamperEventAt n u v t s = rouseCore (if cfgN (srcCfg s n) ≤ times.length then
      confirm n u v 0 (setSource n { x with times := [], eventAt := some t } s1)
    else setSource n { x with times := times, eventAt := some t } s1) := by
    unfold tamperEventAt
    dsimp only
    rw [hen]
    rfl
  refine ⟨fun hfew => ?_, fun hmany => ?_⟩
  · rw [if_neg (Nat.not_le_of_lt hfew)] at hevent
    refine ⟨hevent, ?_⟩
    rw [hevent]
    show source (setSource n _ s1) n = _
    unfold source
    rw [setSource_tmp]
    refine tget_tset_of_ne _ _ n (fun hreset => ?_)
    exact absurd (congrArg Source.eventAt hreset) (Option.some_ne_none t)
  · rw [if_pos hmany] at hevent
    exact hevent

/-! ### Samples (R527, R534) -/

theorem sampleSource_inside (n v : Nat) {s : State} (hk : keysRise s.tmp.sources = true) :
    source (sampleSource n false v s) n = { source s n with run := 0 } :=
  setSource_same n { source s n with run := 0 } s hk

theorem sampleSource_early {n : Nat} (v : Nat) {s : State} (hk : keysRise s.tmp.sources = true)
    (hrun : (source s n).run + 1 < cfgFilter (srcCfg s n)) :
    source (sampleSource n true v s) n = { source s n with run := (source s n).run + 1 } := by
  have hsample : sampleSource n true v s = setSource n { source s n with run := (source s n).run + 1 } s := if_neg (Nat.not_le_of_lt hrun)
  rw [hsample]
  exact setSource_same n _ s hk

theorem sampleSource_due {n : Nat} (v : Nat) {s : State} (hrun : cfgFilter (srcCfg s n) ≤ (source s n).run + 1) :
    sampleSource n true v s = giveEvent n .none_ v (setSource n { source s n with run := 0 } s) := if_pos hrun

/-- When the next sample stands. -/
def sampleDelay (s : State) : Time := if s.tmp.onCell then ms 1 else us 16

theorem advanceTo_later (d : Time) (s : State) : advanceTo (s.now + d) s = { s with now := s.now + d } := by
  unfold advanceTo
  rw [Nat.max_eq_right (Nat.le_add_right ..)]

/-- The samples of the sources watched on the cell. -/
def cellSamples (vbat : Nat) (ts : List Int) (s : State) : State :=
  sampleSource 8 (tempOutside ts).isSome (int32 ((tempOutside ts).getD 0))
    (sampleSource 7 (decide (3800 < vbat)) vbat (sampleVbat vbat { s with now := s.now + sampleDelay s }))

theorem exec_supplySample {core sram io18 vbat : Nat} {ts : List Int} {s : State} (h : s.tmp.aonStopped = false) :
    (s.tmp.onCell = true → exec (.supplySample core sram io18 vbat ts) s = .next (cellSamples vbat ts s)) ∧
      (s.tmp.onCell = false → s.pwr.supplies = true →
        ∃ t, exec (.supplySample core sram io18 vbat ts) s = .next t ∧ t.pwr.temps = ts) := by
  show (_ → execSupplySample core sram io18 vbat ts s = _) ∧ (_ → _ → ∃ t, execSupplySample core sram io18 vbat ts s = _ ∧ _)
  unfold execSupplySample
  dsimp only
  rw [h, if_neg Bool.false_ne_true, advanceTo_later]
  refine ⟨fun hcell => ?_, fun hcell hsup => ?_⟩
  · rw [hcell, Bool.true_or, if_pos rfl]
    unfold cellSamples sampleDelay
    rw [hcell]
  · rw [hcell, hsup, Bool.not_true, Bool.or_false, if_neg Bool.false_ne_true]
    exact ⟨_, rfl, rfl⟩

/-- A mesh pair's sample, taken. -/
def meshStepped (s : State) : State :=
  { s with now := s.now + sampleDelay s, tmp := { s.tmp with lfsr := Config.meshNext s.tmp.lfsr } }

theorem exec_meshSample {p : Nat} {b : Bool} {s : State} (hp : p < 2) (h : s.tmp.aonStopped = false) :
    exec (.meshSample p b) s = .next (
      if b = Config.meshBit (Config.meshNext s.tmp.lfsr) then
        setSource (14 + p) { source s (14 + p) with run := 0, armed := true, active := false } (meshStepped s)
      else if cfgFilter (srcCfg s (14 + p)) ≤ (source s (14 + p)).run + 1 then
        giveEvent (14 + p) .none_ ((source s (14 + p)).run + 1)
          (setSource (14 + p) { source s (14 + p) with run := (source s (14 + p)).run + 1 } (meshStepped s))
      else setSource (14 + p) { source s (14 + p) with run := (source s (14 + p)).run + 1 } (meshStepped s)) := by
  show execMeshSample p b s = _
  unfold execMeshSample
  dsimp only
  rw [if_neg (by rw [h]; simp; omega), advanceTo_later]
  rfl

theorem meshSample_runs {p : Nat} (b : Bool) {s : State} (hp : p < 2) (h : s.tmp.aonStopped = false)
    (hk : keysRise s.tmp.sources = true) : ∃ t, exec (.meshSample p b) s = .next t ∧
      (b = Config.meshBit (Config.meshNext s.tmp.lfsr) →
        source t (14 + p) = { source s (14 + p) with run := 0, armed := true, active := false }) ∧
      (b ≠ Config.meshBit (Config.meshNext s.tmp.lfsr) → (source s (14 + p)).run + 1 < cfgFilter (srcCfg s (14 + p)) →
        source t (14 + p) = { source s (14 + p) with run := (source s (14 + p)).run + 1 }) := by
  refine ⟨_, exec_meshSample hp h, fun hsame => ?_, fun hdiff hrun => ?_⟩
  · rw [if_pos hsame]
    exact setSource_same _ _ (meshStepped s) hk
  · rw [if_neg hdiff, if_neg (Nat.not_le_of_lt hrun)]
    exact setSource_same _ _ (meshStepped s) hk

/-- ZERO_N held for 3 s gives S16's event (R532). -/
theorem exec_zeroNPress {s : State} (h : mayEvent s 16 = true) : exec .zeroNPress s =
    .next (tamperEvent 16 .none_ 0 (setSource 16 { source s 16 with active := true, activeAt := s.now - sec 3 } s)) := by
  have hgive := giveEvent_of_counted .none_ 0 h rfl
  rw [if_neg (by decide), if_pos (by decide), if_pos rfl] at hgive
  exact congrArg Host.Outcome.next hgive

/-! ### STUCK and CHATTER (R533) -/

theorem logFlag_keeps (n flags : Nat) (s : State) : (logFlag n flags s).tmp.sources = s.tmp.sources ∧ (logFlag n flags s).now = s.now := by
  unfold logFlag
  split
  · exact ⟨rfl, rfl⟩
  · obtain ⟨htmp, -, -, -, -, -, hnow⟩ := logTamper_keeps
      { stamp := time64 s, source := n, level := cfgLevel (srcCfg s n), applied := heldLevel s, flags := flags, value := 0 } s
    have hsources := congrArg TmpSt.sources htmp
    exact ⟨hsources, hnow⟩

section
variable {n : Nat} {s : State} (hin : inputSource n = true) (hon : s.tmp.aonStopped = false) (hk : keysRise s.tmp.sources = true)
include hin hon hk

theorem inputStuck_flags (hactive : (source s n).active = true) (hstuck : (source s n).stuck = false) :
    ∃ t, exec (.inputStuck n) s = .next t ∧ t.now = max s.now ((source s n).activeAt + sec 10) ∧
      source t n = { source s n with stuck := true, changedAt := t.now } := by
  let x : Source := { source s n with stuck := true, changedAt := max s.now ((source s n).activeAt + sec 10) }
  let u := setSource n x (advanceTo ((source s n).activeAt + sec 10) s)
  obtain ⟨hlogged, hthen⟩ := logFlag_keeps n fSTUCK u
  have hnow : u.now = max s.now ((source s n).activeAt + sec 10) := (setSource_frame n x _).1
  have hsource : source u n = x := setSource_same n x _ hk
  refine ⟨logFlag n fSTUCK u, congrArg Host.Outcome.next (if_pos (by rw [hin, hactive, hstuck, hon]; rfl)), hthen.trans hnow, ?_⟩
  rw [hthen, hnow]
  unfold source at hsource ⊢
  rw [hlogged]
  exact hsource

theorem stuckClear_clears (hstuck : (source s n).stuck = true) :
    ∃ t, exec (.stuckClear n) s = .next t ∧ t.now = max s.now ((source s n).changedAt + ms 100) ∧
      source t n = { source s n with stuck := false, active := false, armed := true, run := 0 } :=
  ⟨_, congrArg Host.Outcome.next (if_pos (by rw [hin, hstuck, hon]; rfl)), (setSource_frame n _ _).1, setSource_same n _ _ hk⟩

theorem chatterClear_clears (hchatter : (source s n).chatter = true) :
    ∃ t, exec (.chatterClear n) s = .next t ∧ t.now = max s.now ((source s n).changedAt + sec 1) ∧
      source t n = { source s n with chatter := false, changesAt := none, active := false, armed := true, run := 0 } :=
  ⟨_, congrArg Host.Outcome.next (if_pos (by rw [hin, hchatter, hon]; rfl)), (setSource_frame n _ _).1, setSource_same n _ _ hk⟩

theorem inputChatter_flags {a : Time} (hchanges : (source s n).changesAt = some a) (hchatter : (source s n).chatter = false)
    (hstuck : (source s n).stuck = false) (hen : cfgEn (srcCfg s n) = true) :
    ∃ t, exec (.inputChatter n) s = .next t ∧ (source t n).chatter = true := by
  have hexec : ∃ at_ u, u.tmp.sources = s.tmp.sources ∧ exec (.inputChatter n) s =
      .next (confirm n .none_ 0 fCHATTER (setSource n { source s n with chatter := true, changedAt := at_, activeAt := at_ } u)) := by
    refine ⟨max s.now (a + sec 2 + 1), advanceTo (a + sec 2 + 1) s, rfl, ?_⟩
    show execInputChatter n s = _
    unfold execInputChatter
    dsimp only
    rw [hchanges]
    exact congrArg Host.Outcome.next (if_pos (by rw [hin, hchatter, hstuck, hen, hon]; rfl))
  obtain ⟨at_, u, hu, hexec⟩ := hexec
  have hku : keysRise u.tmp.sources = true := by rw [hu]; exact hk
  have hset : (source (setSource n { source s n with chatter := true, changedAt := at_, activeAt := at_ } u) n).chatter = true :=
    congrArg Source.chatter (setSource_same n _ u hku)
  exact ⟨_, hexec, (confirm_chatter (setSource_keysRise n _ hku)).trans hset⟩

end

/-! ### ALARM_N's pulse (R558) -/

theorem pulseEnd_ends {s : State} {a : Time} (hpulse : s.tmp.pulseUntil = some a) (hcell : s.tmp.onCell = false) :
    ∃ t, exec .alarmPinPulseEnd s = .next t ∧ t.tmp.pulseUntil = none ∧ t.now = max s.now a ∧
      t.out = if heldLevel s ≠ 0 ∧ objVal s Obj.TMP_ALARM_PIN_LEVEL ≤ heldLevel s then s.out else s.out ++ [.alarmPin false] := by
  have hbefore : alarmLow s = true := by
    unfold alarmLow
    rw [hcell, hpulse, Option.isSome_some, Bool.or_true]
    rfl
  let u : State := { advanceTo a s with tmp := { s.tmp with pulseUntil := none } }
  have hafter : alarmLow u = decide (heldLevel s ≠ 0 ∧ objVal s Obj.TMP_ALARM_PIN_LEVEL ≤ heldLevel s) := by
    show (!s.tmp.onCell && (decide (heldLevel s ≠ 0 ∧ objVal s Obj.TMP_ALARM_PIN_LEVEL ≤ heldLevel s) || false)) = _
    rw [hcell, Bool.or_false]
    rfl
  have hexec : exec .alarmPinPulseEnd s = .next (drivePin (alarmLow s) u) := by
    show execAlarmPinPulseEnd s = _
    unfold execAlarmPinPulseEnd
    rw [hpulse]
    rfl
  refine ⟨_, hexec, ?_⟩
  unfold drivePin
  rw [hbefore, hafter]
  by_cases hheld : heldLevel s ≠ 0 ∧ objVal s Obj.TMP_ALARM_PIN_LEVEL ≤ heldLevel s
  · rw [decide_eq_true hheld, if_pos rfl, if_pos hheld]
    exact ⟨rfl, rfl, rfl⟩
  · rw [decide_eq_false hheld, if_neg Bool.false_ne_true, if_neg hheld]
    exact ⟨rfl, rfl, rfl⟩

/-! ### Power loss (R545, R620, R661) -/

theorem stopSigns_rest (s : State) : LeavesRest s (stopSigns s) := LeavesRest.foldl (fun t x => LeavesRest.stopSign x t) _ s

theorem commitIndex_kek (h : Nat) (k : HtsKey) (cap : Nat) (s : State) : (commitIndex h k cap s).kreg.kek = s.kreg.kek := by
  unfold commitIndex htsWarn
  split
  · rfl
  · split <;> rfl

theorem stopSign_kek (x : Entry) (s : State) : (stopSign x s).kreg.kek = s.kreg.kek := by
  unfold stopSign
  dsimp only
  split
  · split
    · split
      · exact commitIndex_kek _ _ _ _
      · rfl
    · rfl
  · rfl

theorem stopSigns_kek (s : State) : (stopSigns s).kreg.kek = s.kreg.kek := by
  unfold stopSigns
  induction s.ring.entries.map (·.2) generalizing s with
  | nil => rfl
  | cons x r ih => exact (ih (stopSign x s)).trans (stopSign_kek x s)

/-- The device without its supplies, before the AON domain's part. -/
def suppliesLost (s : State) : State :=
  let t := loseVolatile false (stopSigns s)
  { t with
    free := t.free + 1,
    pwr := { t.pwr with
      supplies := false, opHours := hoursNow s,
      powerLosses := if s.tmp.heldEvents = [] then s.pwr.powerLosses else nextCount s.pwr.powerLosses (stopSigns s) } }

theorem exec_powerLossDetect {core sram io18 vbat : Nat} {s : State} (hsup : s.pwr.supplies = true)
    (hlow : core < 550 ∨ sram < 600 ∨ io18 < 1450) : exec (.powerLossDetect core sram io18 vbat) s = .next (
      if io18 < 1450 then
        let t := { suppliesLost s with tmp := { (suppliesLost s).tmp with onCell := true } }
        if 2000 < vbat then t else aonStops t
      else suppliesLost s) := by
  have hheld : (if (!s.tmp.heldEvents.isEmpty) = true then nextCount s.pwr.powerLosses (loseVolatile false (stopSigns s)) else s.pwr.powerLosses) =
      if s.tmp.heldEvents = [] then s.pwr.powerLosses else nextCount s.pwr.powerLosses (stopSigns s) := by
    cases s.tmp.heldEvents with
    | nil => rfl
    | cons e r => rfl
  show execPowerLossDetect core sram io18 vbat s = _
  unfold execPowerLossDetect
  rw [if_pos (by rw [hsup, decide_eq_true hlow]; rfl)]
  dsimp only
  rw [hheld]
  rfl

theorem powerLossDetect_loses {core sram io18 vbat : Nat} {s : State} (hsup : s.pwr.supplies = true)
    (hlow : core < 550 ∨ sram < 600 ∨ io18 < 1450) :
    ∃ t, exec (.powerLossDetect core sram io18 vbat) s = .next t ∧ t.pwr.supplies = false ∧ t.tmp.heldEvents = [] ∧ t.kreg.slots = [] ∧
      t.lc.otp = s.lc.otp ∧ (1450 ≤ io18 ∨ 2000 < vbat → t.kreg.kek = s.kreg.kek ∧ t.pwr.powerLosses =
        if s.tmp.heldEvents = [] then s.pwr.powerLosses else nextCount s.pwr.powerLosses (stopSigns s)) ∧
      (io18 < 1450 → t.tmp.onCell = true ∧ (vbat ≤ 2000 → t.tmp.aonStopped = true ∧ t.kreg.kek = [])) := by
  have hotp : (suppliesLost s).lc.otp = s.lc.otp := stopSigns_otp s
  have hkek : (suppliesLost s).kreg.kek = s.kreg.kek := stopSigns_kek s
  have hcount : (suppliesLost s).pwr.powerLosses =
      if s.tmp.heldEvents = [] then s.pwr.powerLosses else nextCount s.pwr.powerLosses (stopSigns s) := rfl
  refine ⟨_, exec_powerLossDetect hsup hlow, ?_⟩
  by_cases hio : io18 < 1450
  · rw [if_pos hio]
    by_cases hbat : 2000 < vbat
    · rw [if_pos hbat]
      exact ⟨rfl, rfl, rfl, hotp, fun _ => ⟨hkek, hcount⟩, fun _ => ⟨rfl, fun h => absurd hbat (Nat.not_lt_of_le h)⟩⟩
    · rw [if_neg hbat]
      exact ⟨rfl, rfl, rfl, hotp, fun h => (h.elim (fun h => absurd hio (Nat.not_lt_of_le h)) (fun h => absurd h hbat)), fun _ => ⟨rfl, fun _ => ⟨rfl, rfl⟩⟩⟩
  · rw [if_neg hio]
    exact ⟨rfl, rfl, rfl, hotp, fun _ => ⟨hkek, hcount⟩, fun h => absurd h hio⟩

end Sys2Proof.Machine

open Sys2Proof Sys2Proof.Machine

/-- Settles O54: an alarm taken in its steps (burn, response, pin, log entry), each of which touches its own part of the tamper unit. -/
theorem tamperEvents : Obligations.TamperEvents := by
  unfold Obligations.TamperEvents
  refine ⟨fun n u v f s => ⟨tamperEvent_of_other u v f s, fun hin => (tamperEvent_of_input u v s hin).1, fun hin =>
      (tamperEvent_of_input u v s hin).2.trans (congrArg Host.Outcome.next (fastEvent_eq n u v s))⟩,
    fun n u v s => ⟨giveEvent_of_not_may u v, giveEvent_of_held u v, giveEvent_of_counted u v⟩,
    fun n u v t s hen => tamperEventAt_counts u v t hen, fun n u v f s hcell => confirm_logs hcell,
    fun n u v f s hcell hlevel hfit => confirm_latches hcell hlevel hfit, fun n level u v f s habove => ⟨?_, fun h => applyAlarm_held habove h,
      (applyAlarm_destroys habove).1, (applyAlarm_destroys habove).2⟩, ?_,
    fun n v s hk => ⟨sampleSource_inside n v hk, sampleSource_early v hk, sampleSource_due v⟩,
    fun core sram io18 vbat ts s h => exec_supplySample h, fun p b s hp h hk => meshSample_runs b hp h hk,
    fun s h => exec_zeroNPress h, fun n s hin hon hk => ⟨inputStuck_flags hin hon hk, stuckClear_clears hin hon hk,
      fun a => inputChatter_flags hin hon hk, chatterClear_clears hin hon hk⟩, fun s a hpulse hcell => pulseEnd_ends hpulse hcell, ?_,
    fun core sram io18 vbat s hsup hlow => powerLossDetect_loses hsup hlow, fun s hcell hon => ?_⟩
  · rintro rfl
    exact applyAlarm_hold habove
  · intro s a h
    show execHoldExpiry s = _
    unfold execHoldExpiry
    rw [h]
    rfl
  · intro s e r h
    show execPdnWindowExpiry s = _
    unfold execPdnWindowExpiry
    rw [h]
    rfl
  · exact ⟨aonStops s, congrArg Host.Outcome.next (if_pos (by rw [hcell, hon]; rfl)), rfl, rfl, rfl⟩
end

section
/-!
PROOFS. What cast-on's phases leave of the update state once the area that runs is chosen (R595, R597).
-/
namespace Sys2Proof.Machine

/-- The update state without the boot count. -/
def bootImage (s : State) : UpdSt := { s.upd with bootCount := 0 }

/-- In `t` the update state is as in `s`, but for the boot count, which an erasure of BBRAM changes. -/
def KeepsImage (s t : State) : Prop := bootImage t = bootImage s

namespace KeepsImage

theorem of_upd {s t : State} (h : t.upd = s.upd) : KeepsImage s t := by
  unfold KeepsImage bootImage
  rw [h]

theorem refl (s : State) : KeepsImage s s := rfl

theorem trans {s t u : State} (h : KeepsImage s t) (g : KeepsImage t u) : KeepsImage s u := Eq.trans g h

/-- A change of other parts after `t`. -/
theorem andThen {s t u : State} (h : KeepsImage s t) (hupd : u.upd = t.upd) : KeepsImage s u := h.trans (of_upd hupd)

/-- A change of other parts before `t`. -/
theorem since {s t u : State} (h : KeepsImage t u) (hupd : t.upd = s.upd) : KeepsImage s u := (of_upd hupd).trans h

theorem foldl {α : Type} {f : State → α → State} (h : ∀ t a, KeepsImage t (f t a)) (l : List α) (s : State) :
    KeepsImage s (l.foldl f s) := by
  induction l generalizing s with
  | nil => exact refl s
  | cons a r ih => exact (h s a).trans (ih _)

theorem phase {s t : State} (h : KeepsImage s t) : t.upd.phase = s.upd.phase := by
  have hphase := congrArg UpdSt.phase h
  exact hphase

theorem area {s t : State} (h : KeepsImage s t) : t.upd.area = s.upd.area := by
  have harea := congrArg UpdSt.area h
  exact harea

theorem running {s t : State} (h : KeepsImage s t) : t.upd.running = s.upd.running := by
  have hrunning := congrArg UpdSt.running h
  exact hrunning

/-! Measurements and components (R600). -/

theorem setObj (id : ObjId) (v : Nat) (s : State) : KeepsImage s (Machine.setObj id v s) := of_upd rfl

theorem bump (id : ObjId) (s : State) : KeepsImage s (Machine.bump id s) := of_upd rfl

theorem extendMeas (i : Nat) (b : Bytes) (s : State) : KeepsImage s (Machine.extendMeas i b s) := of_upd rfl

theorem memWrite (a : Nat) (b : Bytes) (s : State) : KeepsImage s (Machine.memWrite a b s) := of_upd (LeavesRest.memWrite a b s).upd

theorem placeFirmware (b : Bytes) (s : State) : KeepsImage s (Machine.placeFirmware b s) := by
  unfold Machine.placeFirmware
  split
  · exact refl s
  · exact (memWrite _ _ s).andThen rfl

theorem placeThresholds (b : Bytes) (s : State) : KeepsImage s (Machine.placeThresholds b s) := by
  unfold Machine.placeThresholds
  split
  · exact refl s
  · exact (foldl (fun t i => setObj _ _ t) _ _).since rfl

/-- The chosen area's bundle runs. -/
theorem phaseC3 (a : Nat) (s : State) :
    KeepsImage { s with upd := { s.upd with area := a, running := areaBundle s a } } (Machine.phaseC3 a s) := by
  have hstart : ∀ u, KeepsImage u (startFirmware u) := fun _ => of_upd rfl
  unfold Machine.phaseC3
  dsimp only
  refine KeepsImage.trans ?_ ((hstart _).trans (placeThresholds _ _))
  exact (placeFirmware _ _).since rfl

/-! Patches and known-answer tests (R598). -/

theorem loadPatch (b : Bytes) (bad : List Nat) (s : State) (cls : Nat) : KeepsImage s (Machine.loadPatch b bad s cls) := by
  unfold Machine.loadPatch
  split
  · exact refl s
  · dsimp only
    split <;> exact of_upd rfl

theorem loadBlockPatch (b : Bytes) (bad : List Nat) (s : State) (t : Nat) : KeepsImage s (Machine.loadBlockPatch b bad s t) := by
  unfold Machine.loadBlockPatch
  split
  · exact refl s
  · exact setObj _ _ s

theorem levelActions (from_ level : Nat) (s : State) : KeepsImage s (Machine.levelActions from_ level s) := by
  have hquiet : KeepsImage s (if from_ < 3 ∧ 3 ≤ level then quiesce s else s) := by
    split
    · exact of_upd (LeavesRest.quiesce s).upd
    · exact refl s
  unfold Machine.levelActions
  dsimp only
  generalize (if from_ < 3 ∧ 3 ≤ level then quiesce s else s) = u at hquiet ⊢
  have hoff : KeepsImage s (if from_ < 4 ∧ 4 ≤ level then bindOff u else u) := by
    split
    · exact hquiet.andThen (LeavesRest.bindOff u).upd
    · exact hquiet
  generalize (if from_ < 4 ∧ 4 ≤ level then bindOff u else u) = v at hoff ⊢
  have herase : KeepsImage v (eraseBbram v) := rfl
  split
  · split
    · exact (hoff.trans herase).andThen rfl
    · exact hoff.trans herase
  · exact hoff

theorem setSource (n : Nat) (x : Source) (s : State) : KeepsImage s (Machine.setSource n x s) := by
  unfold Machine.setSource
  dsimp only
  split <;> exact of_upd rfl

theorem alarmBurnt (n level : Nat) (s : State) : KeepsImage s (Machine.alarmBurnt n level s) := by
  have hburn : KeepsImage s (if burnsNow n level s then burn 1 s else s) := by split <;> exact of_upd rfl
  have hpend : ∀ (c : Bool) (u : State),
      KeepsImage u (if c then { u with tmp := { u.tmp with burnsPending := min 255 (u.tmp.burnsPending + 1) } } else u) := by
    intro c u
    split <;> exact of_upd rfl
  unfold Machine.alarmBurnt
  dsimp only
  split
  · exact (hburn.trans (hpend _ _)).trans (setSource _ _ _)
  · exact hburn.trans (hpend _ _)

theorem alarmActed (n level : Nat) (u : UnitRef) (s : State) : KeepsImage s (Machine.alarmActed n level u s) := by
  have hburnt := alarmBurnt n level s
  unfold Machine.alarmActed
  dsimp only
  generalize Machine.alarmBurnt n level s = t at hburnt ⊢
  split
  · exact hburnt
  · split
    · exact hburnt
    · exact hburnt.andThen rfl
    · split
      · exact hburnt
      · exact hburnt.andThen (LeavesHome.fenceUnit u _ _ t).upd
    · have hact := levelActions (heldLevel s) level { t with tmp := { t.tmp with held := level } }
      exact (hburnt.andThen (u := { t with tmp := { t.tmp with held := level } }) rfl).trans (hact.andThen rfl)

theorem logTamper (r : TamperRec) (s : State) : KeepsImage s (Machine.logTamper r s) := by
  unfold Machine.logTamper
  dsimp only
  split <;> exact of_upd rfl

theorem applyAlarm (n level : Nat) (u : UnitRef) (value flags : Nat) (s : State) :
    KeepsImage s (Machine.applyAlarm n level u value flags s) := by
  have hacted := alarmActed n level u s
  have hshown : KeepsImage s (alarmShown n level u s) := by
    unfold alarmShown
    dsimp only
    generalize Machine.alarmActed n level u s = t at hacted ⊢
    split
    · split <;> exact hacted.andThen rfl
    · exact hacted
  rw [applyAlarm_eq]
  exact hshown.trans (logTamper _ _)

theorem latchAlarm (n level flags : Nat) (s : State) : KeepsImage s (Machine.latchAlarm n level flags s) := by
  have herase : ∀ u, KeepsImage u (eraseBbram u) := fun _ => rfl
  unfold Machine.latchAlarm
  dsimp only
  split
  · refine KeepsImage.trans ?_ (herase _)
    split <;> exact of_upd rfl
  · split <;> exact of_upd rfl

theorem confirm (n : Nat) (u : UnitRef) (value flags : Nat) (s : State) : KeepsImage s (Machine.confirm n u value flags s) := by
  have hcounted : KeepsImage s (alarmCounted n s) := of_upd rfl
  unfold Machine.confirm
  dsimp only
  split
  · split
    · exact hcounted
    · exact hcounted.trans (latchAlarm _ _ _ _)
  · exact hcounted.trans (applyAlarm _ _ _ _ _ _)

theorem tamperEvent (n : Nat) (u : UnitRef) (value : Nat) (s : State) : KeepsImage s (Machine.tamperEvent n u value s) := by
  have hrouse : ∀ u, KeepsImage u (rouseCore u) := fun _ => of_upd rfl
  unfold Machine.tamperEvent tamperEventAt
  dsimp only
  split
  · exact refl s
  · refine KeepsImage.trans ?_ (hrouse _)
    split
    · refine KeepsImage.trans ?_ (confirm n u value 0 _)
      exact (setSource n _ _).since rfl
    · exact (setSource n _ _).since rfl

theorem phaseC4 (env : CastEnv) (s : State) : KeepsImage s (Machine.phaseC4 env s) := by
  have hpatches : ∀ b, KeepsImage s
      ([6, 7].foldl (Machine.loadBlockPatch b env.badPatches) ([0, 1, 2, 3].foldl (Machine.loadPatch b env.badPatches) s)) :=
    fun b => (foldl (loadPatch b env.badPatches) [0, 1, 2, 3] s).trans (foldl (loadBlockPatch b env.badPatches) [6, 7] _)
  have hkat : ∀ u t, KeepsImage t (katFails t u) := by
    intro u t
    unfold katFails
    split
    · exact KeepsImage.trans (of_upd (LeavesHome.fenceUnit u cKAT .faultDetected t).upd) (tamperEvent 17 u _ _)
    · exact refl t
  unfold Machine.phaseC4
  dsimp only
  refine (hpatches s.upd.running).trans ((foldl (fun t u => hkat u t) env.katFails _).trans (KeepsImage.trans ?_ (extendMeas 4 _ _)))
  exact foldl (fun t k => extendMeas 3 _ t) _ _

/-! The archive and the attestation keys (R350, R360). -/

theorem maskSeed (s : State) : KeepsImage s (Machine.maskSeed s).2 := by
  unfold Machine.maskSeed
  split
  · exact of_upd (LeavesRest.draw 43 4 s).upd
  · exact of_upd rfl

theorem putSlot (h : Nat) (x : Slot) (s : State) : KeepsImage s (Machine.putSlot h x s) := by
  unfold Machine.putSlot
  split
  · exact of_upd rfl
  · split <;> exact of_upd rfl

theorem restoreRec (r : ArchRec) (s : State) : KeepsImage s (Machine.restoreRec r s) := by
  unfold Machine.restoreRec
  split
  · dsimp only
    split
    · exact ((maskSeed s).trans (putSlot _ _ _)).andThen rfl
    · exact (maskSeed s).trans (putSlot _ _ _)
  · exact of_upd rfl
  · exact refl s

theorem restoreArchive (caston torn : Bool) (bad : Option Nat) (s : State) : KeepsImage s (Machine.restoreArchive caston torn bad s) := by
  have hfresh : KeepsImage s (freshArchive s) := of_upd (LeavesRest.draw 43 32 s).upd
  unfold Machine.restoreArchive
  split
  · exact of_upd rfl
  · split
    · exact of_upd rfl
    · split
      · dsimp only
        split
        · exact of_upd rfl
        · refine KeepsImage.trans ?_ (setObj Obj.KREG_ARCH_STATE _ _)
          exact (foldl (fun t r => restoreRec r t) _ _).since rfl
      · dsimp only
        split
        · exact hfresh
        · split <;> exact of_upd rfl

theorem attestSlot (alg pset n units : Nat) (s : State) : KeepsImage s (Machine.attestSlot alg pset n units s) := by
  have htook : ∀ h, KeepsImage s (tookHandle h s) := by
    intro h
    unfold tookHandle
    exact (maskSeed s).andThen rfl
  unfold Machine.attestSlot
  exact (htook _).trans (putSlot _ _ _)

theorem attestKeys (s : State) : KeepsImage s (Machine.attestKeys s) := by
  have hslots := (attestSlot 2 3 32 1 s).trans (attestSlot 6 2 48 (eccUnits 2) _)
  unfold Machine.attestKeys
  dsimp only
  generalize Machine.attestSlot 6 2 48 _ _ = t at hslots ⊢
  exact (hslots.trans (setObj _ _ _)).trans (setObj _ _ _)

theorem phaseC5 (env : CastEnv) (s : State) : KeepsImage s (Machine.phaseC5 env s) := by
  refine KeepsImage.trans ?_ (attestKeys _)
  split
  · exact (restoreArchive true env.torn env.bad s).andThen rfl
  · exact refl s

/-! Settings, programs and ports (R51, R52, R599, R613). -/

theorem putArea (b : Bool) (a : Bytes) (s : State) : KeepsImage s (Machine.putArea b a s) := of_upd rfl

theorem setGraft (c : Nat) (g : Graft) (s : State) : KeepsImage s (Machine.setGraft c g s) := of_upd (LeavesRest.setGraft c g s).upd

theorem bindCircuit (c t : Nat) (s : State) : KeepsImage s (Machine.bindCircuit c t s) := by
  have hclear : KeepsImage s (clearCounters c s) := by
    unfold clearCounters
    exact foldl (fun t o => setObj o 0 t) _ s
  unfold Machine.bindCircuit
  dsimp only
  exact ((hclear.trans (setObj _ _ _)).trans (bump _ _)).trans (setGraft c _ _)

theorem putObj (id : ObjId) (v : Nat) (s : State) : KeepsImage s (Machine.putObj id v s) := of_upd rfl

theorem convert (env : CastEnv) (s : State) : KeepsImage s (Machine.convert env s) := by
  unfold Machine.convert
  dsimp only
  split
  · split
    · exact putArea _ _ s
    · exact refl s
  · exact refl s

theorem clearCfg (s : State) : KeepsImage s (Machine.clearCfg s) := by
  unfold Machine.clearCfg
  exact foldl (fun t n => putObj _ _ t) _ s

theorem loadRecord (recs : List (ObjId × Bytes)) (s : State) (p : ObjId × Bytes) : KeepsImage s (Machine.loadRecord recs s p) := by
  unfold Machine.loadRecord
  split
  · exact bump _ s
  · split
    · split <;> exact of_upd rfl
    · split
      · exact refl s
      · exact putObj _ _ s

theorem rebuildTenant (s : State) (p : ObjId × Bytes) : KeepsImage s (Machine.rebuildTenant s p) := by
  unfold Machine.rebuildTenant
  split
  · exact putObj _ _ s
  · exact refl s

theorem rebuildCircuit (recs : List (ObjId × Bytes)) (s : State) (p : ObjId × Bytes) :
    KeepsImage s (Machine.rebuildCircuit recs s p) := by
  unfold Machine.rebuildCircuit
  split
  · dsimp only
    split
    · exact bindCircuit _ _ s
    · exact bump _ s
  · exact refl s

theorem loadSettings (env : CastEnv) (s : State) : KeepsImage s (Machine.loadSettings env s) := by
  have hstart := ((convert env s).trans (clearCfg _)).trans (putObj Obj.ID_MG_MAC (defaultMac s) _)
  unfold Machine.loadSettings
  dsimp only
  generalize Machine.putObj Obj.ID_MG_MAC (defaultMac s) _ = u at hstart ⊢
  split
  · exact (hstart.trans (putObj _ _ _)).trans (putObj _ _ _)
  · split
    · exact hstart.trans (putObj _ _ _)
    · refine KeepsImage.trans ?_ (foldl (rebuildCircuit _) _ _)
      refine KeepsImage.trans ?_ (foldl rebuildTenant _ _)
      refine KeepsImage.trans ?_ (foldl (loadRecord _) _ _)
      exact (hstart.trans (putObj _ _ _)).trans (putObj _ _ _)

theorem placeImage (n cb db : Nat) (b : Bytes) (s : State) : KeepsImage s (Machine.placeImage n cb db b s) := by
  have hdata : ∀ c u, KeepsImage u (cellDataInit c u) := fun c u => of_upd (LeavesRest.cellDataInit c u).upd
  have hset : ∀ c u, KeepsImage u (setCell n c u) := fun c u => of_upd (LeavesRest.setCell n c u).upd
  have hretag : ∀ g k tag u, KeepsImage u (retag g k tag u) := fun _ _ _ _ => of_upd rfl
  have hafter : KeepsImage s (cellAfter n .remove s) := of_upd (LeavesRest.cellAfter n .remove s).upd
  unfold Machine.placeImage
  dsimp only
  exact (((hafter.trans (memWrite _ _ _)).trans (hretag _ _ _ _)).trans (hdata _ _)).trans (hset _ _)

theorem placeOr (n : Nat) (b : Bytes) (s : State) : KeepsImage s (Machine.placeOr n b s).1 := by
  unfold Machine.placeOr
  split
  · exact refl s
  · split
    · exact placeImage _ _ _ _ s
    · exact refl s

theorem loadNow (n : Nat) (b : Bytes) (s : State) : KeepsImage s (Machine.loadNow n b s) := by
  have htime : KeepsImage s (verifyTime b s) := of_upd rfl
  unfold Machine.loadNow
  dsimp only
  refine KeepsImage.trans ?_ (setObj _ _ _)
  split
  · exact refl s
  · split
    · exact htime
    · exact htime.trans (placeOr _ _ _)

theorem loadProgram (b : Bytes) (s : State) (n : Nat) : KeepsImage s (Machine.loadProgram b s n) := by
  have hcomp : KeepsImage s (setComp 9 1 s) := of_upd rfl
  unfold Machine.loadProgram
  split
  · exact refl s
  · dsimp only
    split
    · exact hcomp
    · split
      · exact (hcomp.trans (loadNow _ _ _)).trans (extendMeas 6 _ _)
      · exact hcomp.trans (loadNow _ _ _)

theorem portOn (p : Nat) (s : State) : KeepsImage s (Machine.portOn p s) := by
  have hset : ∀ x u, KeepsImage u (setPort p x u) := fun x u => of_upd (LeavesHome.setPort p x u).upd
  unfold Machine.portOn
  dsimp only
  split
  · exact (setObj _ _ s).trans (hset _ _)
  · exact setObj _ _ s

theorem startPorts (s : State) : KeepsImage s (Machine.startPorts s) := by
  unfold Machine.startPorts
  refine foldl (fun t p => ?_) _ s
  split
  · exact portOn p t
  · exact refl t

theorem writePhy (errs : Nat) (s : State) : KeepsImage s (Machine.writePhy errs s) := by
  unfold Machine.writePhy
  dsimp only
  split <;> exact of_upd rfl

theorem lockMission (s : State) : KeepsImage s (Machine.lockMission s) := by
  unfold Machine.lockMission
  split <;> exact of_upd rfl

theorem lockRules (s : State) : KeepsImage s (Machine.lockRules s) := by
  unfold Machine.lockRules
  generalize List.range 432 = l
  exact of_upd rfl

theorem measureSettings (s : State) : KeepsImage s (Machine.measureSettings s) := by
  unfold Machine.measureSettings
  dsimp only
  refine KeepsImage.trans ?_ (extendMeas 5 _ _)
  split
  · exact setObj _ _ s
  · exact refl s

theorem phaseC6 (env : CastEnv) (s : State) : KeepsImage s (Machine.phaseC6 env s) := by
  have hdrive : ∀ u, KeepsImage u (driveGpio u) := fun _ => of_upd rfl
  have hset := (((loadSettings env s).trans (lockRules _)).trans (lockMission _)).trans (measureSettings _)
  unfold Machine.phaseC6
  dsimp only
  refine KeepsImage.trans ?_ (((startPorts _).trans (writePhy env.mdioErrs _)).trans (hdrive _))
  exact hset.trans (foldl (loadProgram _) _ _)

theorem castTook (long : Bool) (s : State) : KeepsImage s (Machine.castTook long s) := of_upd rfl

/-! DEVICE_READY (R612, R628). -/

theorem awaitPages (ps : List Nat) (s : State) : KeepsImage s (Machine.awaitPages ps s) := by
  induction ps generalizing s with
  | nil => exact refl s
  | cons p r ih =>
    refine KeepsImage.trans ?_ (ih _)
    unfold awaitPage
    dsimp only
    split <;> exact of_upd rfl

theorem retagPages (tag : Nat) (ps : List Nat) (s : State) : KeepsImage s (Machine.retagPages tag ps s) := by
  induction ps generalizing s with
  | nil => exact refl s
  | cons p r ih =>
    unfold Machine.retagPages
    exact (ih _).since rfl

theorem writePages (ps : List Nat) (b : Bytes) (s : State) : KeepsImage s (Machine.writePages ps b s) := by
  induction ps generalizing b s with
  | nil => exact refl s
  | cons p r ih =>
    unfold Machine.writePages
    exact (memWrite _ _ s).trans (ih _ _)

theorem admitJob (o : Origin) (colour prio : Nat) (d : Desc) (c : CmdSpec) (stream : Bytes) (s : State) :
    KeepsImage s (Machine.admitJob o colour prio d c stream s) := by
  have hassign : ∀ e u, KeepsImage u (assignDigest e d.opcode u) := by
    intro e u
    unfold assignDigest
    split
    · exact refl u
    · split <;> exact of_upd rfl
  have hpages : ∀ ps, KeepsImage s (Machine.writePages (ps.take c.inPages) stream (tagPages colour ps s)) :=
    fun ps => ((awaitPages ps s).trans (retagPages colour ps _)).trans (writePages _ stream _)
  unfold Machine.admitJob
  split
  · exact refl s
  · dsimp only
    refine KeepsImage.trans ?_ (hassign _ _)
    generalize pickPages _ _ = ps
    have hput := hpages ps
    generalize Machine.writePages _ stream (tagPages colour ps s) = v at hput ⊢
    have hrouse : (if (opClass d.opcode).isNone then rouseEngine v else v).upd = v.upd := by split <;> rfl
    exact hput.andThen hrouse

theorem admitInternal (s : State) : KeepsImage s (Machine.admitInternal s) := by
  have hwaits : ∀ l u, KeepsImage u { u with ring := { u.ring with internalWait := l } } := fun _ _ => of_upd rfl
  unfold Machine.admitInternal
  refine (hwaits [] s).trans (foldl (fun t w => ?_) _ _)
  split
  · exact admitJob _ _ _ _ _ _ t
  · exact hwaits _ t

theorem noticed (id : ObjId) (s : State) : KeepsImage s (Machine.noticed id s) := of_upd rfl

theorem setDivider (d : Nat) (s : State) : KeepsImage s (Machine.setDivider d s) := by
  have hseeds : KeepsImage s (settleSeeds s) := of_upd rfl
  unfold Machine.setDivider
  exact hseeds.trans (setObj _ _ _)

theorem planReported (r : PlanRun) (s : State) : KeepsImage s (Machine.planReported r s) := by
  unfold Machine.planReported
  refine KeepsImage.trans ?_ (setDivider _ _)
  refine KeepsImage.trans ?_ (setObj _ _ _)
  refine KeepsImage.trans ?_ (setObj _ _ _)
  refine KeepsImage.trans ?_ (setObj _ _ _)
  exact (setObj _ _ _).since rfl

theorem beginPlan (m : GaugeData) (s : State) : KeepsImage s (Machine.beginPlan m s) := by
  have hend : ∀ r u, KeepsImage u (endPlan r u) := by
    intro r u
    rcases endPlan_eq r u with h | h
    · rw [h]
      exact (planReported r u).trans (setObj _ _ _)
    · rw [h]
      exact ((planReported r u).trans (setObj _ _ _)).trans (noticed _ _)
  rw [beginPlan_eq]
  rcases carryOn_cases (planMade m s) with h | ⟨r, -, h | h⟩
  · rw [h]
    exact of_upd rfl
  · rw [h]
    exact of_upd rfl
  · rw [h]
    exact (hend r _).since rfl

theorem activateCard (s : State) : KeepsImage s (Machine.activateCard s) := by
  have hset : ∀ k u, KeepsImage u (setCard k u) := by
    intro k u
    unfold setCard
    dsimp only
    split <;> exact of_upd rfl
  unfold Machine.activateCard
  split
  · exact hset _ s
  · exact (hset _ s).andThen rfl

/-- From DEVICE_READY on the phase is 7 and the image as chosen. -/
theorem deviceReady (env : CastEnv) (s : State) : ∃ trial,
    KeepsImage { s with upd := { s.upd with phase := 7, trialUntil := trial } } (Machine.deviceReady env s) := by
  have hpin : ∀ u, KeepsImage u (if alarmLow u then alarmPin true u else u) := by
    intro u
    split <;> exact of_upd rfl
  have hcard : ∀ u, KeepsImage u (if u.tmp.card.seated then Machine.activateCard u else u) := by
    intro u
    split
    · exact activateCard u
    · exact refl u
  refine ⟨if updState s = uTRIAL then some (s.now + sec (objVal s Obj.UPD_TRIAL_WINDOW)) else none, ?_⟩
  unfold Machine.deviceReady
  dsimp only
  generalize (if updState s = uTRIAL then some (s.now + sec (objVal s Obj.UPD_TRIAL_WINDOW)) else none) = trial
  refine KeepsImage.trans ?_ (hcard _)
  refine KeepsImage.trans ?_ (hpin _)
  refine KeepsImage.trans ?_ (beginPlan env.gauge _)
  exact (admitInternal _).since rfl

end KeepsImage

end Sys2Proof.Machine
end

section
/-!
PROOFS. Resets (R646–R649), power-on and cast-on (R595–R597), the copies of an activation or a fallback (R610, R615).
-/
namespace Sys2Proof.Machine

/-! ### What a reset keeps (R648, R649) -/

theorem bump_areas (id : ObjId) (s : State) : (bump id s).dict.areaA = s.dict.areaA ∧ (bump id s).dict.areaB = s.dict.areaB :=
  ⟨setObj_areaA id _ s, setObj_areaB id _ s⟩

theorem commitIndex_areas (h : Nat) (k : HtsKey) (cap : Nat) (s : State) :
    (commitIndex h k cap s).dict.areaA = s.dict.areaA ∧ (commitIndex h k cap s).dict.areaB = s.dict.areaB := by
  unfold commitIndex htsWarn
  split
  · exact ⟨rfl, rfl⟩
  · split
    · exact ⟨(bump_areas _ _).1.trans (setObj_areaA _ _ _), (bump_areas _ _).2.trans (setObj_areaB _ _ _)⟩
    · exact ⟨rfl, rfl⟩

theorem stopSign_areas (x : Entry) (s : State) :
    (stopSign x s).dict.areaA = s.dict.areaA ∧ (stopSign x s).dict.areaB = s.dict.areaB := by
  unfold stopSign
  dsimp only
  split
  · split
    · split
      · obtain ⟨ha, hb⟩ := commitIndex_areas x.desc.key _ (htsCap (htsKeyLevels s x.desc.key))
          (reserveIndex x.desc.key _ (htsCap (htsKeyLevels s x.desc.key)) { s with free := s.free + 1 })
        exact ⟨(bump_areas _ _).1.trans ha, (bump_areas _ _).2.trans hb⟩
      · exact ⟨rfl, rfl⟩
    · exact ⟨rfl, rfl⟩
  · exact ⟨rfl, rfl⟩

theorem stopSigns_areas (s : State) : (stopSigns s).dict.areaA = s.dict.areaA ∧ (stopSigns s).dict.areaB = s.dict.areaB := by
  unfold stopSigns
  induction s.ring.entries.map (·.2) generalizing s with
  | nil => exact ⟨rfl, rfl⟩
  | cons x r ih => exact ⟨(ih (stopSign x s)).1.trans (stopSign_areas x s).1, (ih (stopSign x s)).2.trans (stopSign_areas x s).2⟩

theorem resetDevice_keeps (k b : Nat) (s : State) : let t := resetDevice k b s
    let again := s.upd.phase = 0 ∧ s.rec_.resetAt = some s.now
    t.rec_.cause = (if again then min s.rec_.cause k else k) ∧ t.rec_.resetAt = some s.now ∧
    t.rec_.resets = (if again then s.rec_.resets else nextCount s.rec_.resets (stopSigns s)) ∧ t.upd.phase = 0 ∧ t.upd.bootSel = b % 4 ∧ t.kreg.slots = [] ∧
    t.lc.otp = s.lc.otp ∧ t.dict.areaA = s.dict.areaA ∧ t.dict.areaB = s.dict.areaB ∧ t.upd.active = s.upd.active ∧
    t.upd.fallback = s.upd.fallback ∧ t.upd.staging = s.upd.staging ∧ t.upd.recA = s.upd.recA ∧ t.upd.recB = s.upd.recB ∧
    t.tmp.held = s.tmp.held ∧ t.tmp.latch = s.tmp.latch ∧ t.kreg.counters = (stopSigns s).kreg.counters ∧ t.kreg.kek = s.kreg.kek := by
  have hrest := stopSigns_rest s
  obtain ⟨ha, hb⟩ := stopSigns_areas s
  have hif : ∀ (c : Prop) [Decidable c] (x y : Nat), (if decide c = true then x else y) = if c then x else y := by
    intro c _ x y
    simp only [decide_eq_true_eq]
  have hactive := congrArg UpdSt.active hrest.upd
  have hfallback := congrArg UpdSt.fallback hrest.upd
  have hstaging := congrArg UpdSt.staging hrest.upd
  have hrecA := congrArg UpdSt.recA hrest.upd
  have hrecB := congrArg UpdSt.recB hrest.upd
  have hheld := congrArg TmpSt.held hrest.tmp
  have hlatch := congrArg TmpSt.latch hrest.tmp
  exact ⟨hif _ _ _, rfl, hif _ _ _, rfl, rfl, rfl, stopSigns_otp s, ha, hb, hactive, hfallback, hstaging, hrecA, hrecB, hheld, hlatch, rfl,
    stopSigns_kek s⟩

/-! ### The inputs that reset, and power-on (R635, R646, R647, R657) -/

theorem exec_resetN_low {b : Nat} {s : State} (hsup : s.pwr.supplies = true) (hlow : s.rec_.resetLow = false) :
    exec (.resetN true b) s = .next { resetDevice 1 s.upd.bootSel s with
      rec_ := { (resetDevice 1 s.upd.bootSel s).rec_ with resetLow := true } } := by
  show execResetN true b s = _
  unfold execResetN
  rw [hsup, hlow]
  rfl

theorem exec_resetN_high {b : Nat} {s : State} (hsup : s.pwr.supplies = true) (hlow : s.rec_.resetLow = true) :
    exec (.resetN false b) s =
      .next { s with rec_ := { s.rec_ with resetLow := false }, upd := { s.upd with bootSel := b % 4 } } := by
  show execResetN false b s = _
  unfold execResetN
  rw [hsup, hlow]
  rfl

theorem exec_perstNReset {b : Nat} {s : State} (hsup : s.pwr.supplies = true) : exec (.perstNReset b) s =
    .next (if objVal s Obj.ERR_PERST_RESET = 1 then resetDevice 2 b s else pcieReset s) := by
  show execPerstNReset b s = _
  unfold execPerstNReset
  rw [hsup]
  rfl

theorem powerOnReset_starts (b : Nat) {s : State} (hsup : s.pwr.supplies = false) :
    ∃ t, exec (.powerOnReset b) s = .next t ∧ t.pwr.supplies = true ∧ t.rec_.cause = 0 ∧ t.upd.phase = 0 ∧
    t.tmp.onCell = false ∧ t.tmp.aonStopped = false ∧ t.rec_.resetLow = false ∧ t.kreg.slots = [] ∧ t.lc.otp = s.lc.otp ∧
    t.upd.bootSel = b % 4 ∧ (s.tmp.aonStopped = true → time64 t = 0) := by
  refine ⟨_, congrArg Host.Outcome.next (if_neg (by rw [hsup]; decide)), rfl, rfl, rfl, rfl, rfl, rfl, rfl, rfl, rfl, fun hlost => ?_⟩
  unfold time64 time64At
  dsimp only
  rw [if_pos hlost, if_pos hlost, Nat.sub_self, Nat.zero_mul, Nat.zero_div, Nat.zero_mod]

/-! ### Phase C1 (R538, R543, R547, R561, R572) -/

theorem logTamper_lc (r : TamperRec) (s : State) : (logTamper r s).lc = s.lc := (logTamper_keeps r s).2.1

theorem copyLatch_lc (burns : Bool) (level : Nat) (s : State) : (copyLatch burns level s).lc = s.lc := by
  unfold copyLatch
  generalize s.tmp.latch = l
  induction l generalizing s with
  | nil => rfl
  | cons r l ih => exact (ih _).trans (logTamper_lc _ s)

/-- The evidence after the pending burns are made. -/
theorem takeAon_lc (s : State) : (takeAon s).lc =
    if burnsState s = true ∧ 0 < s.tmp.burnsPending then (burn s.tmp.burnsPending s).lc else s.lc := by
  unfold takeAon
  dsimp only
  rw [copyLatch_lc]
  by_cases hburns : burnsState s = true ∧ 0 < s.tmp.burnsPending
  · rw [if_pos hburns, if_pos (by rw [hburns.1, decide_eq_true hburns.2]; rfl)]
  · rw [if_neg hburns, if_neg (by simpa using hburns)]

theorem takeAon_takes (s : State) : let t := takeAon s
    s.tmp.held ≤ t.tmp.held ∧ t.tmp.aonPending = 0 ∧ t.tmp.burnsPending = 0 ∧ (evidenceHold t = true → halted t = true) ∧
    (burnsState s = true → t.lc.otp.evidence = if s.tmp.burnsPending = 0 then s.lc.otp.evidence
      else min 256 (s.lc.otp.evidence + s.tmp.burnsPending)) := by
  refine ⟨Nat.le_max_left .., rfl, rfl, fun hfull => ?_, fun hburns => ?_⟩
  · unfold halted heldLevel
    rw [hfull, if_pos rfl, decide_eq_true (Nat.le_max_right ..), Bool.true_or]
  · rw [takeAon_lc]
    by_cases hzero : s.tmp.burnsPending = 0
    · rw [if_neg (by omega), if_pos hzero]
    · rw [if_pos ⟨hburns, Nat.pos_of_ne_zero hzero⟩, if_neg hzero]
      rfl

theorem destroy_life (s : State) : (destroy s).lc.st = s.lc.st := by
  unfold destroy
  split <;> rfl

theorem bootPower_lc (e : Option Int) (s : State) : (bootPower e s).lc = s.lc := by
  have hwrites : ∀ (l : List Nat) (u : State), (l.foldl (fun t v => writeVout v t) u).lc = u.lc := by
    intro l
    induction l with
    | nil => exact fun u => rfl
    | cons v r ih => exact fun u => ih (writeVout v u)
  unfold bootPower
  split
  · rfl
  · exact hwrites _ _

theorem burnSecver_life (s : State) : (burnSecver s).lc.st = s.lc.st := by
  unfold burnSecver
  dsimp only

/-- The life cycle as OTP decodes. -/
theorem phaseC1_life (env : CastEnv) (s : State) : (phaseC1 env s).lc.st = decodeLife s.lc.otp := by
  have haon : ∀ u, (takeAon u).lc.st = u.lc.st := by
    intro u
    rw [takeAon_lc]
    split <;> rfl
  have hsecver : ∀ u : State, (if (actRec u).state = uCONFIRMED then burnSecver u else u).lc.st = u.lc.st := by
    intro u
    split
    · exact burnSecver_life u
    · rfl
  have hstart : ∀ u : State, (destroy (loadOtp u)).lc.st = decodeLife u.lc.otp := fun u => destroy_life (loadOtp u)
  have hmeas : ∀ i b u, (extendMeas i b u).lc = u.lc := fun _ _ _ => rfl
  have hcount : ∀ u, (countBoot u).lc = u.lc := fun _ => rfl
  have htag : ∀ u, (tagSupervisor u).lc = u.lc := fun _ => rfl
  unfold phaseC1
  dsimp only
  rw [hmeas, bootPower_lc]
  dsimp only
  rw [hsecver, hcount, haon, htag, hstart]

theorem destroy_destroys {s : State} (h : s.lc.st = .rma ∨ s.lc.st = .scrap) : let t := destroy s
    t.kreg.kek = [] ∧ t.kreg.counters = [] ∧ t.kreg.halfA = [] ∧ t.kreg.halfB = [] ∧ t.dict.areaA = [] ∧
    t.dict.areaB = [] ∧ t.lc.otp.root0 = List.replicate 36 0xFF ∧ t.lc.otp.root1 = List.replicate 36 0xFF := by
  unfold destroy
  rw [if_pos h]
  exact ⟨rfl, rfl, rfl, rfl, rfl, rfl, rfl, rfl⟩

/-! ### The area that runs (R593, R596, R597) -/

theorem putRec_areas (f : ActRec → ActRec) (s : State) : (putRec f s).upd.active = s.upd.active ∧
    (putRec f s).upd.fallback = s.upd.fallback ∧ (putRec f s).upd.staging = s.upd.staging ∧ (putRec f s).upd.noTrial = s.upd.noTrial ∧
    (putRec f s).upd.trialUntil = s.upd.trialUntil ∧ (putRec f s).lc = s.lc := by
  unfold putRec
  dsimp only
  rw [setObj_upd]
  refine ⟨?_, ?_, ?_, ?_, ?_, rfl⟩ <;> (repeat' split) <;> rfl

theorem areaFailed_bundle (a i : Nat) (e : BundleErr) (s : State) : areaBundle (areaFailed a e s) i = areaBundle s i := by
  unfold areaFailed
  dsimp only
  split
  · obtain ⟨hactive, hfallback, -⟩ := putRec_areas (fun r => { r with activeBad := true }) (lastErr e.result e.entry s)
    unfold areaBundle
    rw [hactive, hfallback]
    rfl
  · rfl

/-- The chosen area passes, and the failures found do not touch the areas. -/
theorem chooseArea_some {f : Bool} {s : State} {a : Nat} (h : (chooseArea f s).1 = some a) :
    bundleErr s.lc.otp (areaBundle s a) = none ∧ areaBundle (chooseArea f s).2 a = areaBundle s a := by
  unfold chooseArea at h ⊢
  dsimp only at h ⊢
  generalize (if (decide (s.upd.bootSel = 1) || (actRec s).activeBad || f) = true then 1 else 0) = first at h ⊢
  cases hfirst : bundleErr s.lc.otp (areaBundle s first) with
  | none =>
    simp only [hfirst] at h ⊢
    obtain rfl := Option.some.inj h
    exact ⟨hfirst, trivial⟩
  | some e =>
    simp only [hfirst] at h ⊢
    cases hother : bundleErr s.lc.otp (areaBundle s (1 - first)) with
    | none =>
      simp only [hother] at h ⊢
      obtain rfl := Option.some.inj h
      exact ⟨hother, areaFailed_bundle _ _ _ _⟩
    | some g =>
      simp only [hother] at h
      exact absurd h (by simp)

theorem chooseArea_none {f : Bool} {s : State} (h : (chooseArea f s).1 = none) :
    bundleErr s.lc.otp s.upd.active ≠ none ∧ bundleErr s.lc.otp s.upd.fallback ≠ none := by
  have hboth : ∃ first : Nat, first ≤ 1 ∧ bundleErr s.lc.otp (areaBundle s first) ≠ none ∧
      bundleErr s.lc.otp (areaBundle s (1 - first)) ≠ none := by
    unfold chooseArea at h
    dsimp only at h
    have hbit : (if (decide (s.upd.bootSel = 1) || (actRec s).activeBad || f) = true then 1 else 0) ≤ 1 := by split <;> decide
    generalize (if (decide (s.upd.bootSel = 1) || (actRec s).activeBad || f) = true then 1 else 0) = first at h hbit
    refine ⟨first, hbit, fun hfirst => ?_, fun hother => ?_⟩
    · simp only [hfirst] at h
      exact absurd h (by simp)
    · cases hfirst : bundleErr s.lc.otp (areaBundle s first) with
      | none =>
        simp only [hfirst] at h
        exact absurd h (by simp)
      | some e =>
        simp only [hfirst, hother] at h
        exact absurd h (by simp)
  obtain ⟨first, hbit, hfirst, hother⟩ := hboth
  obtain rfl | rfl : first = 0 ∨ first = 1 := by omega
  · exact ⟨hfirst, hother⟩
  · exact ⟨hother, hfirst⟩

/-- The state after the copies that cast-on owes. -/
def castCopied (env : CastEnv) (s : State) : Copied := copies env (phaseC2 env { s with upd := { s.upd with octal := env.octal } })

theorem bootOn_of_area {env : CastEnv} {s : State} {a : Nat}
    (h : (chooseArea (castCopied env s).fallbackFirst (castCopied env s).st).1 = some a) :
    (bootOn env s).upd.phase = 7 ∧ (bootOn env s).upd.area = a ∧ (bootOn env s).upd.running = areaBundle (castCopied env s).st a := by
  have hbundle := (chooseArea_some h).2
  have hboot : ∃ long t, chooseArea (castCopied env s).fallbackFirst (castCopied env s).st = (some a, t) ∧
      bootOn env s = deviceReady env (castTook long (phaseC6 env (phaseC5 env (phaseC4 env (phaseC3 a t))))) := by
    unfold bootOn
    dsimp only
    rw [show copies env (phaseC2 env { s with upd := { s.upd with octal := env.octal } }) = castCopied env s from rfl]
    generalize hp : chooseArea (castCopied env s).fallbackFirst (castCopied env s).st = p at h
    obtain ⟨o, t⟩ := p
    obtain rfl : o = some a := h
    exact ⟨_, t, rfl, rfl⟩
  obtain ⟨long, t, hchoice, hboot⟩ := hboot
  have hphases := ((((KeepsImage.phaseC3 a t).trans (.phaseC4 env _)).trans (.phaseC5 env _)).trans (.phaseC6 env _)).trans (.castTook long _)
  obtain ⟨trial, hready⟩ := KeepsImage.deviceReady env (castTook long (phaseC6 env (phaseC5 env (phaseC4 env (phaseC3 a t)))))
  rw [hchoice] at hbundle
  rw [hboot]
  exact ⟨hready.phase, hready.area.trans hphases.area, (hready.running.trans hphases.running).trans hbundle⟩

theorem bootOn_of_none {env : CastEnv} {s : State}
    (h : (chooseArea (castCopied env s).fallbackFirst (castCopied env s).st).1 = none) :
    (bootOn env s).upd.phase = 3 ∧ (bootOn env s).upd.area = 2 ∧ (bootOn env s).upd.running = [] := by
  have hboot : ∃ t : State, bootOn env s = castTook true { t with upd := { t.upd with area := 2, phase := 3, running := [] } } := by
    unfold bootOn
    dsimp only
    rw [show copies env (phaseC2 env { s with upd := { s.upd with octal := env.octal } }) = castCopied env s from rfl]
    generalize chooseArea (castCopied env s).fallbackFirst (castCopied env s).st = p at h
    obtain ⟨o, t⟩ := p
    obtain rfl : o = none := h
    exact ⟨t, rfl⟩
  obtain ⟨t, hboot⟩ := hboot
  rw [hboot]
  exact ⟨rfl, rfl, rfl⟩

/-- The chosen area's bundle is the one that runs. -/
theorem phaseC3_running {f : Bool} {s : State} {a : Nat} (h : (chooseArea f s).1 = some a) :
    (phaseC3 a (chooseArea f s).2).upd.running = areaBundle s a :=
  (KeepsImage.phaseC3 a (chooseArea f s).2).running.trans (chooseArea_some h).2

/-! ### CAST_ON (R576, R595) -/

theorem exec_castOn {env : CastEnv} {s : State} (hsup : s.pwr.supplies = true) (hphase : s.upd.phase = 0) (hlow : s.rec_.resetLow = false) :
    exec (.castOn env) s =
      .next (if decodeLife s.lc.otp = .scrap then scrapEnds (phaseC1 env s) else bootOn env (phaseC1 env s)) := by
  rw [← phaseC1_life env s]
  exact congrArg Host.Outcome.next (if_pos (by rw [hsup, hphase, hlow]; rfl))

theorem castOn_ends {env : CastEnv} {s : State} (hsup : s.pwr.supplies = true) (hphase : s.upd.phase = 0) (hlow : s.rec_.resetLow = false) :
    ∃ t, exec (.castOn env) s = .next t ∧ (decodeLife s.lc.otp = .scrap → t.upd.phase = 1 ∧ t.ring.run = false) ∧
      (decodeLife s.lc.otp ≠ .scrap → t.upd.phase = 7 ∨ (t.upd.phase = 3 ∧ t.upd.area = 2 ∧ t.upd.running = [])) := by
  refine ⟨_, exec_castOn hsup hphase hlow, fun hscrap => ?_, fun hlive => ?_⟩
  · rw [if_pos hscrap]
    exact ⟨rfl, rfl⟩
  · rw [if_neg hlive]
    cases hchoice : (chooseArea (castCopied env (phaseC1 env s)).fallbackFirst (castCopied env (phaseC1 env s)).st).1 with
    | none => exact .inr (bootOn_of_none hchoice)
    | some a => exact .inl (bootOn_of_area hchoice).1

/-! ### The copies (R610, R615) -/

theorem copyTook_upd (env : CastEnv) (s : State) : (copyTook env s).upd = s.upd := setObj_upd _ _ s

/-- The fields of a copy step's record, after its write: the time a copy took is not of the record. -/
theorem actRec_copyTook (env : CastEnv) (s : State) : actRec (copyTook env s) = actRec s :=
  actRec_congr (congrArg UpdSt.recA (copyTook_upd env s)) (congrArg UpdSt.recB (copyTook_upd env s))

/-- The areas are not of the record. -/
theorem actRec_areas (x y : Bytes) (z : Option Time) (s : State) :
    actRec { s with upd := { s.upd with active := x, fallback := y, trialUntil := z } } = actRec s := actRec_congr rfl rfl

/-- A write of the record, where SEQ is not at its end. -/
theorem actRec_putRec_fields (f : ActRec → ActRec) {s : State} (h : (actRec s).seq + 1 < 2 ^ 32) :
    (actRec (putRec f s)).state = (f (actRec s)).state % 256 ∧ (actRec (putRec f s)).step = (f (actRec s)).step % 256 ∧
      (actRec (putRec f s)).seq = (actRec s).seq + 1 := by
  rw [actRec_putRec f s h]
  exact ⟨rfl, rfl, Nat.mod_eq_of_lt h⟩

/-- In `t` an activation has copied `active` and `fallback`, and its trial begins. -/
structure OnTrial (active fallback : Bytes) (t : State) : Prop where
  active : t.upd.active = active
  fallback : t.upd.fallback = fallback
  state : updState t = uTRIAL
  step : (actRec t).step = 3

theorem stepD_trial {s : State} (hseq : (actRec s).seq + 1 < 2 ^ 32) (htrial : s.upd.noTrial = false) :
    OnTrial s.upd.active s.upd.fallback (stepD s).st := by
  let u : State := usedFree { s with upd := { s.upd with noTrial := false } }
  have hrec : actRec u = actRec s := actRec_congr rfl rfl
  have hput : (stepD s).st = putRec (fun r => { r with state := uTRIAL, step := 3, activeBad := false }) u := by
    unfold stepD
    dsimp only
    rw [htrial, if_neg Bool.false_ne_true]
  obtain ⟨hactive, hfallback, -⟩ := putRec_areas (fun r => { r with state := uTRIAL, step := 3, activeBad := false }) u
  obtain ⟨hstate, hstep, -⟩ := actRec_putRec_fields (fun r => { r with state := uTRIAL, step := 3, activeBad := false }) (s := u)
    (by rw [hrec]; exact hseq)
  rw [hput]
  exact ⟨hactive, hfallback, hstate, hstep⟩

theorem stepC_trial {env : CastEnv} {s : State} (hseq : (actRec s).seq + 2 < 2 ^ 32) (htrial : s.upd.noTrial = false)
    (hcopy : env.copyC = true) : OnTrial s.upd.staging s.upd.fallback (stepC env s).st := by
  let u := copyTook env (putRec (fun r => { r with step := 2 }) s)
  obtain ⟨-, hfallback, hstaging, hno, -⟩ := putRec_areas (fun r => { r with step := 2 }) s
  obtain ⟨-, -, hnext⟩ := actRec_putRec_fields (fun r => { r with step := 2 }) (s := s) (by omega)
  have hupd : u.upd = (putRec (fun r => { r with step := 2 }) s).upd := copyTook_upd env _
  have hrec : actRec { u with upd := { u.upd with active := u.upd.staging } } = actRec (putRec (fun r => { r with step := 2 }) s) :=
    (actRec_areas _ _ _ u).trans (actRec_copyTook env _)
  have hstep : (stepC env s).st = (stepD { u with upd := { u.upd with active := u.upd.staging } }).st := by
    unfold stepC
    exact congrArg Copied.st (if_pos hcopy)
  have htrialD := stepD_trial (s := { u with upd := { u.upd with active := u.upd.staging } }) (by rw [hrec, hnext]; omega)
    ((congrArg UpdSt.noTrial hupd).trans (hno.trans htrial))
  rw [hstep]
  exact ⟨htrialD.active.trans ((congrArg UpdSt.staging hupd).trans hstaging),
    htrialD.fallback.trans ((congrArg UpdSt.fallback hupd).trans hfallback), htrialD.state, htrialD.step⟩

theorem stepB_trial {env : CastEnv} {s : State} (hseq : (actRec s).seq + 3 < 2 ^ 32) (htrial : s.upd.noTrial = false)
    (hbad : (actRec s).activeBad = false) (hcopyB : env.copyB = true) (hcopyC : env.copyC = true) :
    OnTrial s.upd.staging s.upd.active (stepB env s).st := by
  let u := copyTook env (putRec (fun r => { r with step := 1 }) s)
  obtain ⟨hactive, -, hstaging, hno, -⟩ := putRec_areas (fun r => { r with step := 1 }) s
  obtain ⟨-, -, hnext⟩ := actRec_putRec_fields (fun r => { r with step := 1 }) (s := s) (by omega)
  have hupd : u.upd = (putRec (fun r => { r with step := 1 }) s).upd := copyTook_upd env _
  have hrec : actRec { u with upd := { u.upd with fallback := u.upd.active } } = actRec (putRec (fun r => { r with step := 1 }) s) :=
    (actRec_areas _ _ _ u).trans (actRec_copyTook env _)
  have hstep : (stepB env s).st = (stepC env { u with upd := { u.upd with fallback := u.upd.active } }).st := by
    unfold stepB
    rw [hbad, if_neg Bool.false_ne_true]
    exact congrArg Copied.st (if_pos hcopyB)
  have htrialC := stepC_trial (s := { u with upd := { u.upd with fallback := u.upd.active } }) (by rw [hrec, hnext]; omega)
    ((congrArg UpdSt.noTrial hupd).trans (hno.trans htrial)) hcopyC
  rw [hstep]
  exact ⟨htrialC.active.trans ((congrArg UpdSt.staging hupd).trans hstaging),
    htrialC.fallback.trans ((congrArg UpdSt.active hupd).trans hactive), htrialC.state, htrialC.step⟩

theorem stepA_activates {env : CastEnv} {s : State} (hseq : (actRec s).seq + 8 < 2 ^ 32) (hok : bundleErr s.lc.otp s.upd.staging = none)
    (hhash : sha384 s.upd.staging = (actRec s).hash) (hbad : (actRec s).activeBad = false) (hcopyB : env.copyB = true)
    (hcopyC : env.copyC = true) (htrial : s.upd.noTrial = false) : OnTrial s.upd.staging s.upd.active (stepA env s).st := by
  have hstep : stepA env s = stepB env s := by
    unfold stepA
    simp only [hok, if_pos hhash]
  rw [hstep]
  exact stepB_trial (by omega) htrial hbad hcopyB hcopyC

/-- A staging area that no longer verifies leaves every area as it is, UPD_STATE BAD. -/
theorem stepA_refuses {env : CastEnv} {s : State} (hseq : (actRec s).seq + 8 < 2 ^ 32) (herr : bundleErr s.lc.otp s.upd.staging ≠ none) :
    (stepA env s).st.upd.active = s.upd.active ∧ (stepA env s).st.upd.fallback = s.upd.fallback ∧ updState (stepA env s).st = 5 := by
  obtain ⟨e, he⟩ := Option.ne_none_iff_exists'.mp herr
  let u := lastErr e.result e.entry s
  have hstep : (stepA env s).st = putRec (fun r => { r with state := uBAD }) u := by
    unfold stepA
    simp only [he]
    rfl
  have hrec : actRec u = actRec s := actRec_congr rfl rfl
  obtain ⟨hactive, hfallback, -⟩ := putRec_areas (fun r => { r with state := uBAD }) u
  obtain ⟨hstate, -⟩ := actRec_putRec_fields (fun r => { r with state := uBAD }) (s := u) (by rw [hrec]; omega)
  rw [hstep]
  exact ⟨hactive, hfallback, hstate⟩

/-- The fallback area runs again (R615). -/
theorem fallBack_restores {env : CastEnv} {s : State} (hseq : (actRec s).seq + 8 < 2 ^ 32) (hcopy : env.copyC = true) :
    let t := (fallBack env s).st
    t.upd.active = s.upd.fallback ∧ t.upd.fallback = s.upd.fallback ∧ updState t = 9 ∧ (actRec t).step = 0 ∧ t.upd.trialUntil = none := by
  let u := copyTook env (putRec (fun r => { r with step := 4 }) s)
  let v : State := { u with upd := { u.upd with trialUntil := none, active := u.upd.fallback } }
  obtain ⟨-, hfallback, -⟩ := putRec_areas (fun r => { r with step := 4 }) s
  obtain ⟨-, -, hnext⟩ := actRec_putRec_fields (fun r => { r with step := 4 }) (s := s) (by omega)
  have hupd : u.upd.fallback = s.upd.fallback := (congrArg UpdSt.fallback (copyTook_upd env _)).trans hfallback
  have hrec : actRec v = actRec (putRec (fun r => { r with step := 4 }) s) := (actRec_areas _ _ _ u).trans (actRec_copyTook env _)
  have hstep : (fallBack env s).st = putRec (fun r => { r with state := uFELL_BACK, step := 0 }) v := by
    unfold fallBack
    dsimp only
    rw [if_pos hcopy, if_pos hcopy]
  obtain ⟨hactive, hback, -, -, htrial, -⟩ := putRec_areas (fun r => { r with state := uFELL_BACK, step := 0 }) v
  obtain ⟨hstate, hzero, -⟩ := actRec_putRec_fields (fun r => { r with state := uFELL_BACK, step := 0 }) (s := v) (by rw [hrec, hnext]; omega)
  dsimp only
  rw [hstep]
  exact ⟨hactive.trans hupd, hback.trans hupd, hstate, hzero, htrial⟩

end Sys2Proof.Machine

open Sys2Proof Sys2Proof.Machine

/-- Settles O57: a reset stops the stateful signs and loses what is volatile; from the choice of the area on, cast-on's phases keep the
update state (`KeepsImage`); a copy step keeps the areas it does not name. -/
theorem resetsAndCastOn : Obligations.ResetsAndCastOn := by
  unfold Obligations.ResetsAndCastOn
  refine ⟨fun k b s => resetDevice_keeps k b s, fun c data s h => congrArg Host.Outcome.next (writeAccess_of_plainDeciding h rfl rfl), ?_,
    fun b s hsup => ⟨exec_resetN_low hsup, exec_resetN_high hsup, fun h => (exec_perstNReset hsup).trans (congrArg Host.Outcome.next (if_pos h)),
      fun h => (exec_perstNReset hsup).trans (congrArg Host.Outcome.next (if_neg h))⟩,
    fun b s hsup => powerOnReset_starts b hsup, fun env s hsup hphase hlow => castOn_ends hsup hphase hlow,
    fun env s hsup hphase hlow hlive => ⟨(exec_castOn hsup hphase hlow).trans (congrArg Host.Outcome.next (if_neg hlive)),
      fun a h => bootOn_of_area h, fun h => ⟨(bootOn_of_none h).1, (bootOn_of_none h).2.1⟩⟩,
    fun f s => ⟨fun a h => ⟨(chooseArea_some h).1, phaseC3_running h⟩, chooseArea_none⟩, takeAon_takes,
    fun s h => destroy_destroys h, fun env s hseq herr => stepA_refuses hseq herr, fun env s hseq hok hhash hbad hcopyB hcopyC htrial => ?_,
    fun env s hseq hcopy => fallBack_restores hseq hcopy⟩
  · intro b k a s h
    show execSelfReset b s = _
    unfold execSelfReset
    rw [h]
    rfl
  · obtain ⟨hactive, hfallback, hstate, hstep⟩ := stepA_activates hseq hok hhash hbad hcopyB hcopyC htrial
    exact ⟨hfallback, hactive, hstate, hstep⟩
end

section
/-!
PROOFS. Tamper settings, release and the officer card slot (R528–R530, R539, R548–R559).
-/
namespace Sys2Proof.Machine

/-! ### Settings, lock and latch (R530, R559) -/

theorem findObj_srcCfg {n : Nat} (hn : n < 24) : ∃ o, findObj (at_ Obj.TMP_SRC_CFG n) = some o := by
  have hrow : ∀ i : Fin 24, (findObj (at_ Obj.TMP_SRC_CFG i)).isSome = true := by decide
  exact Option.isSome_iff_exists.mp (hrow ⟨n, hn⟩)

/-- TMP_SRC_CFG takes the written value. -/
theorem cfgRule_act {n : Nat} (hn : n < 24) (data : Bytes) (s t : State) :
    (cfgRule n data s).act t = setObj (at_ Obj.TMP_SRC_CFG n) (writtenVal (at_ Obj.TMP_SRC_CFG n) data) t := by
  obtain ⟨o, ho⟩ := findObj_srcCfg hn
  have hval : writtenVal (at_ Obj.TMP_SRC_CFG n) data = maskedVal o data := by
    unfold writtenVal
    rw [ho]
  rw [hval]
  exact plainRule_act ho data t

/-- What is locked stays locked, and every listed object is. -/
theorem mem_lockObjs {l : List ObjId} {id : ObjId} (h : id ∈ l) (s : State) : id ∈ (lockObjs l s).dict.locked := by
  by_cases hlocked : id ∈ s.dict.locked
  · exact List.mem_append_left _ hlocked
  · exact List.mem_append_right _ (List.mem_filter.mpr ⟨h, by simpa using hlocked⟩)

theorem srcCfg_mem_tmpLocked {n : Nat} (hn : n < 24) : at_ Obj.TMP_SRC_CFG n ∈ tmpLocked :=
  List.mem_cons_of_mem _ (List.mem_map.mpr ⟨n, List.mem_range.mpr hn, rfl⟩)

/-! ### Release (R539, R540) -/

/-- A release changes an object in TMP_RELEASE_STATE alone. -/
theorem releaseHeld_releases (s : State) : (releaseHeld s).tmp.held = 0 ∧
    objVal (releaseHeld s) Obj.TMP_RELEASE_STATE = (if s.tmp.held = 4 ∧ s.lc.st = .mission then 1 else 2) := by
  have hpin : ∀ b u, (drivePin b u).tmp = u.tmp ∧ (drivePin b u).dict = u.dict := by
    intro b u
    unfold drivePin
    split <;> exact ⟨rfl, rfl⟩
  have hpolls : ∀ (c : Bool) u, (if c then u else renewPolls u).tmp = u.tmp ∧ (if c then u else renewPolls u).dict = u.dict := by
    intro c u
    split <;> exact ⟨rfl, rfl⟩
  have hdue : ∀ u, (activateIfDue u).tmp = u.tmp ∧ (activateIfDue u).dict = u.dict := by
    intro u
    unfold activateIfDue
    dsimp only
    split <;> exact ⟨rfl, rfl⟩
  have hval : ∀ u, (activateIfDue u).dict.obj = u.dict.obj := fun u => congrArg DictSt.obj (hdue u).2
  have hstate : ∀ (v : Nat) u, v ≠ 0 → objVal (setObj Obj.TMP_RELEASE_STATE v u) Obj.TMP_RELEASE_STATE = v :=
    fun v u hv => objVal_of_mget? (mget?_setObj_same u hv)
  unfold releaseHeld
  dsimp only
  generalize hs1 : ({ s with tmp := { s.tmp with held := 0, sources := _ } } : State) = u
  have hheld : u.tmp.held = 0 := by rw [← hs1]
  have hdeep : (decide (s.tmp.held = 4) && decide (s.lc.st = .mission)) = decide (s.tmp.held = 4 ∧ s.lc.st = .mission) :=
    (Bool.decide_and ..).symm
  rw [hdeep]
  refine ⟨?_, ?_⟩
  · rw [(hdue _).1, (hpolls _ _).1]
    show (drivePin _ _).tmp.held = 0
    rw [(hpin _ _).1]
    exact hheld
  · unfold objVal
    rw [hval, (hpolls _ _).2]
    show objVal (noticed Obj.TMP_HELD (drivePin _ _)) _ = _
    have hnote : ∀ i w j, objVal (noticed i w) j = objVal w j := fun _ _ _ => rfl
    rw [hnote]
    unfold objVal
    rw [(hpin _ _).2]
    by_cases hif : s.tmp.held = 4 ∧ s.lc.st = .mission
    · rw [if_pos hif, if_pos (decide_eq_true hif)]
      exact hstate 1 u (by decide)
    · rw [if_neg hif, if_neg (by simpa using hif)]
      exact hstate 2 u (by decide)

/-! ### The card slot (R548–R552) -/

/-- The slot's record is replaced, and nothing else of the tamper unit. -/
theorem setCard_tmp (k : Card) (s : State) : (setCard k s).tmp = { s.tmp with card := k } := by
  unfold setCard
  dsimp only
  split <;> rfl

theorem setCard_card (k : Card) (s : State) : (setCard k s).tmp.card = k := congrArg TmpSt.card (setCard_tmp k s)

theorem emit_last (o : Out) (s : State) : (emit o s).out.getLast? = some o := List.getLast?_concat ..

theorem closeCard_closed {s : State} {o : Nat} (h : s.tmp.card.session = some o) :
    closeCard s = noticed Obj.TMP_CARD_STATE { s with tmp := { s.tmp with card := { s.tmp.card with session := none, st := .unknown } } } := by
  unfold closeCard
  rw [h]

theorem officerChanged_closes {s : State} {o : Nat} (h : s.tmp.card.session = some o) :
    (officerChanged o s).tmp.card.session = none := by
  unfold officerChanged
  rw [if_pos h, closeCard_closed h]
  rfl

theorem cardInsert_activates {s : State} (hseat : s.tmp.card.seated = false) (hslot : slotWorks s = true) :
    ∃ t, exec .cardInsert s = .next t ∧ t.tmp.card.seated = true ∧
      if rngReady s = true then t.tmp.card.step = .atr false ∧ t.out.getLast? = some .cardActivate else t.tmp.card.st = .failed := by
  let u : State := { s with tmp := { s.tmp with card := { s.tmp.card with seated := true } } }
  have hexec : exec .cardInsert s = .next (activateCard u) := by
    show execCardInsert s = _
    unfold execCardInsert
    rw [hseat, hslot, if_neg Bool.false_ne_true]
    rfl
  refine ⟨_, hexec, ?_⟩
  unfold activateCard
  by_cases hready : rngReady s = true
  · rw [if_neg (show ¬ (!(rngReady u)) = true by rw [show rngReady u = rngReady s from rfl, hready]; decide), if_pos hready]
    exact ⟨congrArg Card.seated (setCard_card _ u), congrArg Card.step (setCard_card _ u), emit_last _ _⟩
  · rw [if_pos (show (!(rngReady u)) = true by rw [show rngReady u = rngReady s from rfl]; simpa using hready), if_neg hready]
    exact ⟨congrArg Card.seated (setCard_card _ u), congrArg Card.st (setCard_card _ u)⟩

theorem rejectCard_rejects (s : State) : (rejectCard s).tmp.card.st = .failed ∧ (rejectCard s).out.getLast? = some .cardDeactivate :=
  ⟨congrArg Card.st (setCard_card _ s), emit_last _ _⟩

theorem cardAtr_answers {s : State} {warm : Bool} (v p : Bool) (h : s.tmp.card.step = .atr warm) : ∃ t, exec (.cardAtr v p) s = .next t ∧
    if v = true then (if p = true then t.tmp.card.step = .select ∧ t.out.getLast? = some (apdu 0x00 0xA4 0x04 [0xF0, 0x5A, 0x4B, 0x4F, 0x46, 0x01])
        else t.tmp.card.st = .failed ∧ t.out.getLast? = some .cardDeactivate)
    else if warm = true then t.tmp.card.st = .failed ∧ t.out.getLast? = some .cardDeactivate
    else t.tmp.card.step = .atr true ∧ t.out.getLast? = some .cardActivate := by
  show ∃ t, execCardAtr v p s = .next t ∧ _
  unfold execCardAtr
  rw [h]
  refine ⟨_, rfl, ?_⟩
  cases v with
  | true =>
    cases p with
    | true => exact ⟨congrArg Card.step (setCard_card _ s), emit_last _ _⟩
    | false => exact rejectCard_rejects s
  | false =>
    cases warm with
    | true => exact rejectCard_rejects s
    | false => exact ⟨congrArg Card.step (setCard_card _ s), emit_last _ _⟩

theorem cardSelect_asks {s : State} (sw : Nat) (h : s.tmp.card.step = .select) : ∃ t, exec (.cardSelect sw) s = .next t ∧
    if sw = 0x9000 then t.tmp.card.step = .getKeys ∧ t.out.getLast? = some (.card [0x80, 0x10, 0, 0]) else t.tmp.card.st = .failed := by
  show ∃ t, execCardSelect sw s = .next t ∧ _
  unfold execCardSelect
  rw [h]
  refine ⟨_, rfl, ?_⟩
  by_cases hsw : sw = 0x9000
  · rw [if_pos hsw]
    dsimp only
    rw [if_neg (not_not_intro hsw)]
    exact ⟨congrArg Card.step (setCard_card _ s), emit_last _ _⟩
  · rw [if_neg hsw]
    dsimp only
    rw [if_pos hsw]
    exact congrArg Card.st (setCard_card _ s)

/-- The card is sent the LOGIN statement to sign. -/
theorem askLogin_asks (o : Nat) (keys : Bytes) (s : State) : ∃ stmt,
    (askLogin o keys s).tmp.card = { (draw 40 32 s).2.tmp.card with keys := keys, step := .login o stmt } ∧
      (askLogin o keys s).out.getLast? = some (.card ([0x80, 0x20, 0, 0] ++ stmt)) := by
  unfold askLogin
  generalize draw 40 32 s = n
  exact ⟨_, setCard_card _ n.2, emit_last _ _⟩

section
variable {s : State} {data : Bytes} (h : s.tmp.card.step = .getKeys) (hlen : data.length = 2049) (hready : rngReady s = true)
include h hlen hready

theorem exec_cardGetKeys_of_none (ho : officerOf s data = none) : exec (.cardGetKeys 0x9000 data) s =
    .next (setCard { s.tmp.card with keys := data, st := .unknown, step := .none_ } s) := by
  have hgood : ¬ ((0x9000 : Nat) ≠ 0x9000 ∨ data.length ≠ 2049 ∨ (!(rngReady s)) = true) := by simp [hlen, hready]
  show execCardGetKeys 0x9000 data s = _
  unfold execCardGetKeys
  rw [h, ho]
  exact congrArg Host.Outcome.next (if_neg hgood)

theorem exec_cardGetKeys_of_some {o : Nat} (ho : officerOf s data = some o) : exec (.cardGetKeys 0x9000 data) s =
    .next (askLogin o data s) := by
  have hgood : ¬ ((0x9000 : Nat) ≠ 0x9000 ∨ data.length ≠ 2049 ∨ (!(rngReady s)) = true) := by simp [hlen, hready]
  show execCardGetKeys 0x9000 data s = _
  unfold execCardGetKeys
  rw [h, ho]
  exact congrArg Host.Outcome.next (if_neg hgood)

end

/-- A fill's statement asked of the card leaves its session open. -/
theorem askFill_session (s : State) :
    (askFill s).tmp.card.st = s.tmp.card.st ∧ (askFill s).tmp.card.session = s.tmp.card.session := by
  unfold askFill
  split
  · split
    · exact ⟨rfl, rfl⟩
    · have hdraw := (LeavesRest.draw 40 32 s).tmp
      exact ⟨congrArg (fun u => u.card.st) hdraw, congrArg (fun u => u.card.session) hdraw⟩
  · exact ⟨rfl, rfl⟩

/-- The signatures of an exchange verify, with the status word of success. -/
theorem cardGood_iff (s : State) (stmt data : Bytes) :
    (decide ((0x9000 : Nat) = 0x9000) && rngReady s && canVerifyCard s && cardSigned s.tmp.card.keys stmt data) = true ↔
      rngReady s = true ∧ canVerifyCard s = true ∧ cardSigned s.tmp.card.keys stmt data = true := by
  simp [and_assoc]

theorem cardSign_login {s : State} {o : Nat} {stmt : Bytes} (data : Bytes) (env : ApplyEnv) (h : s.tmp.card.step = .login o stmt) :
    ∃ t, exec (.cardSign 0x9000 data env) s = .next t ∧
      if rngReady s = true ∧ canVerifyCard s = true ∧ cardSigned s.tmp.card.keys stmt data = true
        then t.tmp.card.st = .session ∧ t.tmp.card.session = some o
        else t.tmp.card.st = .failed ∧ t.tmp.card.session = s.tmp.card.session := by
  have hexec : exec (.cardSign 0x9000 data env) s = .next (if rngReady s = true ∧ canVerifyCard s = true ∧
      cardSigned s.tmp.card.keys stmt data = true then openCard o s else refuseCard s) := by
    show execCardSign 0x9000 data env s = _
    unfold execCardSign
    dsimp only
    rw [h]
    exact congrArg Host.Outcome.next (if_congr (cardGood_iff s stmt data) rfl rfl)
  refine ⟨_, hexec, ?_⟩
  split
  · obtain ⟨hst, hsession⟩ := askFill_session (setObj (at_ Obj.TMP_OFF_LAST o) (time64 s)
      (setCard { s.tmp.card with st := .session, session := some o, step := .none_, lastAt := s.now } s))
    exact ⟨hst.trans (congrArg Card.st (setCard_card _ s)), hsession.trans (congrArg Card.session (setCard_card _ s))⟩
  · have hrefused : (refuseCard s).tmp.card = { s.tmp.card with st := .failed, step := .none_ } := setCard_card _ s
    rw [hrefused]
    exact ⟨rfl, rfl⟩

theorem cardSign_approve {s : State} {o : Nat} {stmt d : Bytes} {obj : ObjId} {report : Bool} (data : Bytes) (env : ApplyEnv)
    (h : s.tmp.card.step = .approve obj d stmt report) (ho : s.tmp.card.session = some o) :
    exec (.cardSign 0x9000 data env) s = .next (if rngReady s = true ∧ canVerifyCard s = true ∧
      cardSigned s.tmp.card.keys stmt data = true then approved env o obj d report s else notApproved obj report s) := by
  show execCardSign 0x9000 data env s = _
  unfold execCardSign
  dsimp only
  rw [h, ho]
  exact congrArg Host.Outcome.next (if_congr (cardGood_iff s stmt data) rfl rfl)

theorem exec_cardSign_fill {s : State} {stmt : Bytes} (data : Bytes) (env : ApplyEnv) (h : s.tmp.card.step = .fill stmt) :
    exec (.cardSign 0x9000 data env) s = .next (if rngReady s = true ∧ canVerifyCard s = true ∧ s.kreg.fill.isSome = true ∧
      unitMissing s 0x0103 = false ∧ cardSigned s.tmp.card.keys stmt data = true then askComponent stmt s else failFill s) := by
  have hgood : (decide ((0x9000 : Nat) = 0x9000) && rngReady s && canVerifyCard s && cardSigned s.tmp.card.keys stmt data &&
      s.kreg.fill.isSome && !(unitMissing s 0x0103)) = true ↔ rngReady s = true ∧ canVerifyCard s = true ∧ s.kreg.fill.isSome = true ∧
        unitMissing s 0x0103 = false ∧ cardSigned s.tmp.card.keys stmt data = true := by
    simp only [decide_true, Bool.true_and, Bool.and_eq_true, Bool.not_eq_true']
    tauto
  show execCardSign 0x9000 data env s = _
  unfold execCardSign
  dsimp only
  rw [h]
  exact congrArg Host.Outcome.next (if_congr hgood rfl rfl)

theorem askComponent_asks (stmt : Bytes) (s : State) :
    (askComponent stmt s).tmp.card.step = .component stmt ∧ ∃ dk, secret? (askComponent stmt s) cardSecret = some dk := by
  unfold askComponent
  generalize draw 40 64 s = n
  have hcard := setCard_card { n.2.tmp.card with step := .component stmt, lastAt := n.2.now } n.2
  exact ⟨congrArg Card.step hcard, n.1, mget?_mset_same _ _ _⟩

theorem exec_cardGetComponent {s : State} {stmt dk data : Bytes} {o : Nat} {f : Fill} {v : Slot} (h : s.tmp.card.step = .component stmt)
    (hdk : secret? s cardSecret = some dk) (ho : s.tmp.card.session = some o) (hf : s.kreg.fill = some f)
    (hv : mget? s.kreg.slots f.handle = some v) : exec (.cardGetComponent 0x9000 data) s = .next (
      match component stmt dk data v.data.length with
      | none => failFill s
      | some c => addComponent o c (endFillStep { s with tmp := { s.tmp with card := { s.tmp.card with lastAt := s.now } } })) := by
  show execCardGetComponent 0x9000 data s = _
  unfold execCardGetComponent
  simp only [h, ho, hf, hv, hdk, Option.bind_some]
  rfl

theorem cardRemove_removes {s : State} (h : s.tmp.card.seated = true) : ∃ t, exec .cardRemove s = .next t ∧ t.tmp.card.seated = false ∧
    t.tmp.card.session = none ∧ t.out.getLast? = some .cardDeactivate := by
  refine ⟨_, congrArg Host.Outcome.next (if_pos h), ?_⟩
  generalize dropOperation s = u
  have hcard := setCard_card { Card.reset with lastAt := u.tmp.card.lastAt } u
  exact ⟨congrArg Card.seated hcard, congrArg Card.session hcard, emit_last _ _⟩

theorem cardIdleTimeout_closes {s : State} {o : Nat} (ho : s.tmp.card.session = some o) (h : s.tmp.card.step = .none_) :
    ∃ t, exec .cardIdleTimeout s = .next t ∧ t.tmp.card.session = none ∧ t.tmp.card.st = .unknown ∧
      t.now = max s.now (s.tmp.card.lastAt + sec (objVal s Obj.TMP_CARD_IDLE)) := by
  refine ⟨_, congrArg Host.Outcome.next (if_pos ⟨by rw [ho]; rfl, h⟩), ?_⟩
  rw [closeCard_closed (s := advanceTo _ s) ho]
  exact ⟨rfl, rfl, rfl⟩

end Sys2Proof.Machine

open Sys2Proof Sys2Proof.Machine

/-- Settles O55: each write's act is its rule's; a card's exchange replaces the slot's record (`setCard_tmp`) and sends one command last. -/
theorem tamperCommands : Obligations.TamperCommands := by
  unfold Obligations.TamperCommands
  refine ⟨fun c n data s hn h => ?_, fun c data s h => congrArg Host.Outcome.next (writeAccess_of_plainDeciding h rfl rfl),
    fun s => ⟨mem_lockObjs (List.mem_cons_self ..) s, fun n hn => mem_lockObjs (srcCfg_mem_tmpLocked hn) s⟩,
    fun c data s h => congrArg Host.Outcome.next (writeAccess_of_deciding h), releaseHeld_releases,
    fun c data s h => congrArg Host.Outcome.next (writeAccess_of_plainDeciding h rfl rfl), fun s hk => ⟨rfl, setObj_same _ _ _ hk⟩,
    fun c data s h => congrArg Host.Outcome.next (writeAccess_of_plainDeciding h rfl rfl), fun c o data s ho h => ?_,
    fun s o h => officerChanged_closes h, fun s hseat hslot => cardInsert_activates hseat hslot, fun s warm v p h => cardAtr_answers v p h,
    fun s sw h => cardSelect_asks sw h, fun s data h hlen hready => ?_,
    fun s o stmt data env h => cardSign_login data env h, fun s o stmt obj d report data env h ho => cardSign_approve data env h ho,
    fun s stmt data env h => ?_, fun s stmt dk o f v data h hdk ho hf hv => ⟨fun c hc => ?_, fun hc => ?_⟩,
    fun s h => cardRemove_removes h, fun s o ho h => cardIdleTimeout_closes ho h⟩
  · have hwrite := writeAccess_of_deciding h
    rw [cfgRule_act hn] at hwrite
    exact congrArg Host.Outcome.next ((if_pos hn).trans hwrite)
  · exact congrArg Host.Outcome.next ((if_pos ho).trans (writeAccess_of_deciding h))
  · cases ho : officerOf s data with
    | none =>
      have hcard := setCard_card { s.tmp.card with keys := data, st := .unknown, step := .none_ } s
      exact ⟨_, exec_cardGetKeys_of_none h hlen hready ho, congrArg Card.keys hcard, congrArg Card.st hcard, congrArg Card.step hcard⟩
    | some o =>
      obtain ⟨stmt, hcard, hlast⟩ := askLogin_asks o data s
      exact ⟨_, exec_cardGetKeys_of_some h hlen hready ho, congrArg Card.keys hcard, stmt, congrArg Card.step hcard, hlast⟩
  · have hexec := exec_cardSign_fill data env h
    split
    · next hgood =>
      rw [if_pos hgood] at hexec
      obtain ⟨hstep, dk, hdk⟩ := askComponent_asks stmt s
      exact ⟨_, dk, hexec, hstep, hdk⟩
    · next hbad =>
      rw [if_neg hbad] at hexec
      exact hexec
  · have hexec := exec_cardGetComponent (data := data) h hdk ho hf hv
    rw [hc] at hexec
    exact hexec
  · have hexec := exec_cardGetComponent (data := data) h hdk ho hf hv
    rw [hc] at hexec
    exact hexec
end

section
/-!
PROOFS. What the operations on memory, pages and internal jobs leave of the cells, and what a cell reads after it is replaced.
-/
namespace Sys2Proof.Machine

/-! ### Work outside the core (R93–R96, R155, R203) -/

@[simp] theorem lksPut_tsuow (s : State) (a : Nat) (x : Byte) : (lksPut s a x).tsuow = s.tsuow := by
  unfold lksPut
  split
  · split <;> rfl
  · rfl

@[simp] theorem lksWrite_tsuow (b : Bytes) (a : Nat) (s : State) : (lksWrite a b s).tsuow = s.tsuow := by
  induction b generalizing a s with
  | nil => rfl
  | cons x r ih => exact (ih _ _).trans (lksPut_tsuow s a x)

@[simp] theorem ctxWrite_tsuow (b : Bytes) (a : Nat) (s : State) : (ctxWrite a b s).tsuow = s.tsuow := by
  induction b generalizing a s with
  | nil => rfl
  | cons x r ih =>
    refine (ih _ _).trans ?_
    split <;> rfl

@[simp] theorem memWrite_tsuow (a : Nat) (b : Bytes) (s : State) : (memWrite a b s).tsuow = s.tsuow := by
  unfold memWrite
  split
  · exact lksWrite_tsuow b a s
  · split
    · exact ctxWrite_tsuow b a s
    · rfl

@[simp] theorem cellDataInit_tsuow (c : Cell) (s : State) : (cellDataInit c s).tsuow = s.tsuow := memWrite_tsuow _ _ _

@[simp] theorem writePages_tsuow (ps : List Nat) (b : Bytes) (s : State) : (writePages ps b s).tsuow = s.tsuow := by
  induction ps generalizing b s with
  | nil => rfl
  | cons p r ih => exact (ih _ _).trans (memWrite_tsuow _ _ s)

@[simp] theorem awaitPages_tsuow (ps : List Nat) (s : State) : (awaitPages ps s).tsuow = s.tsuow := by
  induction ps generalizing s with
  | nil => rfl
  | cons p r ih =>
    have hpage : (awaitPage p s).tsuow = s.tsuow := by
      unfold awaitPage
      dsimp only
      split <;> rfl
    exact (ih _).trans hpage

@[simp] theorem retagPages_tsuow (tag : Nat) (ps : List Nat) (s : State) : (retagPages tag ps s).tsuow = s.tsuow := by
  induction ps generalizing s with
  | nil => rfl
  | cons p r ih => exact ih _

@[simp] theorem tagPages_tsuow (tag : Nat) (ps : List Nat) (s : State) : (tagPages tag ps s).tsuow = s.tsuow := by
  unfold tagPages
  simp

@[simp] theorem assignDigest_tsuow (e opcode : Nat) (s : State) : (assignDigest e opcode s).tsuow = s.tsuow := by
  unfold assignDigest
  split
  · rfl
  · split <;> rfl

@[simp] theorem admitJob_tsuow (o : Origin) (colour prio : Nat) (d : Desc) (c : CmdSpec) (stream : Bytes) (s : State) :
    (admitJob o colour prio d c stream s).tsuow = s.tsuow := by
  unfold admitJob
  split
  · rfl
  · dsimp only
    rename_i e _
    generalize pickPages (usedPages s) (c.inPages + c.outPages + c.resume) = ps
    have hpages : (writePages (ps.take c.inPages) stream (tagPages colour ps s)).tsuow = s.tsuow := by simp
    generalize writePages (ps.take c.inPages) stream (tagPages colour ps s) = u at hpages
    rw [assignDigest_tsuow]
    show (if (opClass d.opcode).isNone then rouseEngine u else u).tsuow = s.tsuow
    split <;> exact hpages

theorem foldl_tsuow {α : Type} {f : State → α → State} (h : ∀ t a, (f t a).tsuow = t.tsuow) (l : List α) (s : State) :
    (l.foldl f s).tsuow = s.tsuow := by
  induction l generalizing s with
  | nil => rfl
  | cons a r ih => exact (ih _).trans (h s a)

/-- Internal jobs are taken in without the core. -/
@[simp] theorem admitInternal_tsuow (s : State) : (admitInternal s).tsuow = s.tsuow := by
  unfold admitInternal
  refine (foldl_tsuow (fun t w => ?_) _ _).trans rfl
  split
  · exact admitJob_tsuow ..
  · rfl

/-! ### A cell replaced -/

theorem setCell_cells (n : Nat) (c : Cell) (s : State) : (setCell n c s).tsuow.cells = tset (fun _ => Cell.reset) s.tsuow.cells n c := by
  unfold setCell
  dsimp only
  split <;> rfl

theorem cell_congr {s t : State} (h : t.tsuow.cells = s.tsuow.cells) (n : Nat) : cell t n = cell s n := by
  unfold cell
  rw [h]

theorem setCell_same (n : Nat) (c : Cell) (s : State) (h : keysRise s.tsuow.cells = true) : cell (setCell n c s) n = c := by
  unfold cell
  rw [setCell_cells]
  exact tget_tset_same _ _ _ _ h

theorem keysRise_setCell (n : Nat) (c : Cell) (s : State) (h : keysRise s.tsuow.cells = true) :
    keysRise (setCell n c s).tsuow.cells = true := by
  rw [setCell_cells]
  exact keysRise_tset _ _ _ _ h

/-- Cell `n` is listed as `c`. -/
def HasCell (s : State) (n : Nat) (c : Cell) : Prop := mget? s.tsuow.cells n = some c

theorem HasCell.cell {s : State} {n : Nat} {c : Cell} (h : HasCell s n c) : cell s n = c := by
  unfold Machine.cell tget
  rw [h]
  rfl

theorem HasCell.congr {s t : State} {n : Nat} {c : Cell} (h : HasCell s n c) (ht : t.tsuow.cells = s.tsuow.cells) : HasCell t n c := by
  unfold HasCell
  rw [ht]
  exact h

theorem HasCell.reads {s : State} {n : Nat} {c x : Cell} (h : HasCell s n x) (hst : x.st = c.st) (hcall : x.call = c.call) :
    (Machine.cell s n).st = c.st ∧ (Machine.cell s n).call = c.call := by
  rw [h.cell]
  exact ⟨hst, hcall⟩

theorem hasCell_setCell (n : Nat) {c : Cell} (s : State) (h : c.st ≠ .empty) : HasCell (setCell n c s) n c := by
  unfold HasCell
  rw [setCell_cells]
  unfold tset
  rw [if_neg (fun he => h (congrArg Cell.st he))]
  exact mget?_mset_same _ _ _

theorem HasCell.setCell_other {s : State} {n m : Nat} {c : Cell} (h : HasCell s n c) (hm : n ≠ m) (x : Cell) :
    HasCell (setCell m x s) n c := by
  unfold HasCell
  rw [setCell_cells]
  exact mget?_tset_of_some _ _ hm h

/-- The core goes to the next cell (R501): each cell keeps its state and its call. -/
theorem nextCell_keeps {s : State} {n : Nat} {c : Cell} (h : HasCell s n c) (hst : c.st ≠ .empty) :
    (cell (nextCell s) n).st = c.st ∧ (cell (nextCell s) n).call = c.call := by
  unfold nextCell
  split
  · next m r hcur hready =>
    split
    · next k hsaved =>
      dsimp only
      by_cases hm : n = m
      · subst hm
        rw [h.cell]
        have hput : HasCell (setCell n { c with saved := none, quantumEnd := s.now + us (objVal s Obj.SVC_QUANTUM) } s) n _ :=
          hasCell_setCell n s hst
        exact (hput.congr rfl).reads rfl rfl
      · have hkept := h.setCell_other hm { cell s m with saved := none, quantumEnd := s.now + us (objVal s Obj.SVC_QUANTUM) }
        exact (hkept.congr rfl).reads rfl rfl
    · exact (h.congr rfl).reads rfl rfl
  · exact h.reads rfl rfl

/-! ### Entries while cells change -/

theorem noticed_entry (id : ObjId) (e : Nat) (s : State) : entry? (noticed id s) e = entry? s e := by
  have hraised : ∀ v, (msixRaised s.ring v).entries = s.ring.entries := fun v => by
    unfold msixRaised
    dsimp only
    split <;> rfl
  have hentries : (noticed id s).ring.entries = s.ring.entries := by
    unfold noticed
    dsimp only
    split
    · exact hraised _
    · rfl
  unfold entry?
  rw [hentries]

theorem setCell_entry (n : Nat) (c : Cell) (e : Nat) (s : State) : entry? (setCell n c s) e = entry? s e := by
  unfold setCell
  dsimp only
  split
  · rfl
  · exact noticed_entry _ e _

theorem nextCell_entry (e : Nat) (s : State) : entry? (nextCell s) e = entry? s e := by
  unfold nextCell
  split
  · split
    · exact setCell_entry _ _ e s
    · rfl
  · rfl

theorem leaveCell_entry (n e : Nat) (s : State) : entry? (leaveCell n s) e = entry? s e := nextCell_entry e _

theorem cellAfter_keep_entry (n e : Nat) (s : State) : entry? (cellAfter n .keep s) e = entry? s e := setCell_entry _ _ e s

theorem EndedWith.congr {s t : State} {e : Nat} {st : Status} {d : Nat} {out : Bytes} (h : EndedWith s e st d out)
    (ht : entry? t e = entry? s e) : EndedWith t e st d out := by
  unfold EndedWith
  rw [ht]
  exact h

end Sys2Proof.Machine
end

section
/-!
PROOFS. Service cells: loads, calls, SVC, sub-jobs, the quantum, and restarts of the core pair (R487, R490–R502, R644).
-/
namespace Sys2Proof.Machine

/-! ### Loading a cell (R494, R495) -/

theorem runLoad_badFormat {n : Nat} {b : Bytes} {s : State} (h : imgFormatOk b = false) :
    runLoad n b s = setObj (at_ Obj.SVC_CELL_LOAD_STATE n) 3 s := by
  have hcheck : loadChecks s n b = .inl ldFORMAT := by
    unfold loadChecks
    dsimp only
    rw [h]
    rfl
  unfold runLoad
  rw [hcheck]

/-- Past the checks before the signature the cell is LOADING, with a verification job. -/
theorem runLoad_verifies {n : Nat} {b key : Bytes} {s : State} (hrise : keysRise s.dict.obj = true) (hcheck : loadChecks s n b = .inr key)
    (hunit : unitMissing s 0x0205 = false) : objVal (runLoad n b s) (at_ Obj.SVC_CELL_LOAD_STATE n) = 1 ∧
      (cell (runLoad n b s) n).st = .loading ∧ (cell (runLoad n b s) n).loading = some ((cell s n).st, b) := by
  have hobj := setObj_same (at_ Obj.SVC_CELL_LOAD_STATE n) 1 s hrise
  unfold runLoad
  rw [hcheck]
  dsimp only
  rw [hunit, if_neg Bool.false_ne_true]
  generalize setObj (at_ Obj.SVC_CELL_LOAD_STATE n) 1 s = s0 at hobj ⊢
  have hcell := hasCell_setCell n (c := { cell s n with st := .loading, loading := some ((cell s n).st, b) }) s0 (by simp)
  have hval : objVal (setCell n { cell s n with st := .loading, loading := some ((cell s n).st, b) } s0)
      (at_ Obj.SVC_CELL_LOAD_STATE n) = 1 := by
    unfold setCell
    dsimp only
    split <;> exact hobj
  generalize setCell n { cell s n with st := .loading, loading := some ((cell s n).st, b) } s0 = s1 at hcell hval ⊢
  generalize s1.ring.internalWait ++ _ = wait
  have hdict := (admitInternal_admitted { s1 with ring := { s1.ring with internalWait := wait } }).dict
  have hcore := admitInternal_tsuow { s1 with ring := { s1.ring with internalWait := wait } }
  generalize admitInternal { s1 with ring := { s1.ring with internalWait := wait } } = t at hdict hcore ⊢
  have hfinal : cell t n = { cell s n with st := .loading, loading := some ((cell s n).st, b) } :=
    (hcell.congr (congrArg TsuowSt.cells hcore)).cell
  refine ⟨?_, congrArg Cell.st hfinal, congrArg Cell.loading hfinal⟩
  unfold objVal at hval ⊢
  rw [hdict]
  exact hval

/-- SVC_CELL_LOAD_STATE of every cell is 0 by default. -/
theorem objDefault_loadState (n : Nat) : objDefault (at_ Obj.SVC_CELL_LOAD_STATE n) = 0 := by
  have hindex : at_ Obj.SVC_CELL_LOAD_STATE n / 256 = 0x5000 + n := by
    show (0x500006 + 256 * n) / 256 = 0x5000 + n
    omega
  have hsub : at_ Obj.SVC_CELL_LOAD_STATE n % 256 = 6 := by
    show (0x500006 + 256 * n) % 256 = 6
    omega
  have hrows : ∀ o ∈ area50a, o.slo ≤ 6 → 6 ≤ o.shi → o.dflt = 0 := by decide
  have harea : areaOf (0x5000 + n) = area50a ∨ areaOf (0x5000 + n) = [] := by
    unfold areaOf
    repeat rw [if_neg (by omega)]
    split
    · exact .inl rfl
    · exact .inr rfl
  unfold objDefault findObj
  rw [hindex, hsub]
  split
  · next o ho =>
    have hmem := List.mem_of_find?_eq_some ho
    have hfound := List.find?_some ho
    have hrange := of_decide_eq_true hfound
    rcases harea with h | h
    · rw [h] at hmem
      exact hrows o hmem hrange.2.2.1 hrange.2.2.2
    · rw [h] at hmem
      exact absurd hmem List.not_mem_nil
  · rfl

theorem loadRefusal_ne_zero (st : Status) : loadRefusal st ≠ 0 := by
  unfold loadRefusal
  split <;> decide

/-- A verification that has not passed leaves the cell as before, with its cause. -/
theorem endLoad_refused {n : Nat} {st : Status} {b : Bytes} {prior : CellState} {s : State} (hrise : keysRise s.tsuow.cells = true)
    (hload : (cell s n).loading = some (prior, b)) (hst : st ≠ .ok) :
    cell (endLoad n st s) n = { cell s n with st := prior, loading := none } ∧
      objVal (endLoad n st s) (at_ Obj.SVC_CELL_LOAD_STATE n) = loadRefusal st := by
  have heq : endLoad n st s =
      setObj (at_ Obj.SVC_CELL_LOAD_STATE n) (loadRefusal st) (setCell n { cell s n with st := prior, loading := none } s) := by
    unfold endLoad
    dsimp only
    rw [hload]
    dsimp only
    rw [if_neg hst]
  rw [heq]
  refine ⟨setCell_same n { cell s n with st := prior, loading := none } s hrise, ?_⟩
  refine objVal_of_mget? (mget?_setObj_same _ ?_)
  rw [objDefault_loadState]
  exact loadRefusal_ne_zero st

/-- A cell emptied of its image has no load under way that it had not before. -/
theorem cellAfter_remove {n : Nat} {s : State} (hrise : keysRise s.tsuow.cells = true) :
    keysRise (cellAfter n .remove s).tsuow.cells = true ∧ (cell (cellAfter n .remove s) n).loading = (cell s n).loading := by
  unfold cellAfter
  dsimp only
  constructor
  · exact keysRise_setCell _ _ _ hrise
  · rw [setCell_same]
    exact hrise

/-- The image is placed: the cell is READY with it. -/
theorem placeImage_ready {n cb db : Nat} {b : Bytes} {s : State} (hrise : keysRise s.tsuow.cells = true)
    (hload : (cell s n).loading = none) : (cell (placeImage n cb db b s) n).st = .ready ∧ (cell (placeImage n cb db b s) n).loaded = b ∧
      (cell (placeImage n cb db b s) n).loading = none := by
  obtain ⟨-, hkept⟩ := cellAfter_remove (n := n) hrise
  unfold placeImage
  dsimp only
  generalize cellAfter n .remove s = s1 at hkept ⊢
  have hcore : (retag (dataFabric db / 256) (imgDataSize b / 256) (0x1000 + cellTenant s n)
      (memWrite (codeFabric cb) (imgCode b ++ imgData b) s1)).tsuow = s1.tsuow := memWrite_tsuow _ _ s1
  generalize retag (dataFabric db / 256) (imgDataSize b / 256) (0x1000 + cellTenant s n)
    (memWrite (codeFabric cb) (imgCode b ++ imgData b) s1) = s3 at hcore ⊢
  have hnone : (cell s3 n).loading = none := by
    rw [cell_congr (congrArg TsuowSt.cells hcore) n, hkept, hload]
  rw [(hasCell_setCell n _ (by simp)).cell]
  exact ⟨rfl, rfl, hnone⟩

theorem placeOr_placed {n : Nat} {b : Bytes} {s : State} (hrise : keysRise s.tsuow.cells = true) (hload : (cell s n).loading = none)
    (hdone : (placeOr n b s).2 = 2) : (cell (placeOr n b s).1 n).st = .ready ∧ (cell (placeOr n b s).1 n).loaded = b ∧
      (cell (placeOr n b s).1 n).loading = none := by
  unfold placeOr at hdone ⊢
  split at hdone
  · exact absurd hdone (show ldFEATURE ≠ 2 by decide)
  · next hfeat =>
    rw [if_neg hfeat]
    split at hdone
    · exact placeImage_ready hrise hload
    · exact absurd hdone (show ldSPACE ≠ 2 by decide)

theorem endLoad_placed {n : Nat} {st : Status} {b : Bytes} {prior : CellState} {s : State} (hrise : keysRise s.tsuow.cells = true)
    (hload : (cell s n).loading = some (prior, b)) (hst : st = .ok)
    (hdone : (placeOr n b (setCell n { cell s n with st := prior, loading := none } s)).2 = 2) :
    (cell (endLoad n st s) n).st = .ready ∧ (cell (endLoad n st s) n).loaded = b ∧ (cell (endLoad n st s) n).loading = none := by
  have hplaced := placeOr_placed (keysRise_setCell n { cell s n with st := prior, loading := none } s hrise)
    (congrArg Cell.loading (setCell_same n { cell s n with st := prior, loading := none } s hrise)) hdone
  unfold endLoad
  dsimp only
  rw [hload]
  dsimp only
  rw [if_pos hst]
  exact hplaced

/-- The verification job's end is the load's end. -/
theorem jobComplete_load {e n : Nat} {x : Entry} {s : State} (hx : entry? s e = some x) (horigin : x.origin = .load n)
    (hphase : x.phase = .ended) (hheld : outputHeld s x = false) : exec (.jobComplete e) s =
      .next (releaseJob e x (x.late.foldl (fun t o => bump o t) (endLoad n x.status (countAbort x (wakeCore s))))) := by
  show Host.Outcome.next (completeJob e s) = _
  unfold completeJob
  rw [hx]
  dsimp only
  rw [if_neg (by simp [hphase, hheld]), horigin]

/-! ### Calls (R496–R498) -/

/-- A call that ends at dispatch. -/
theorem finish_refused {e : Nat} {x : Entry} {st : Status} (cyc : Nat) {s : State} (hx : entry? s e = some x)
    (hst : st = .keyEmpty ∨ st = .fenced ∨ st = .unsupported) : EndedWith (finish e (Res.stop st cyc) s) e st 0 [] := by
  have hends := endJob_ends st 0 [] [] (spend_entry cyc hx)
  rcases hst with rfl | rfl | rfl <;> exact hends

section
variable {e : Nat} {x : Entry} {s : State} (hx : entry? s e = some x) (hop : x.desc.opcode / 256 = 0x0C) (hphase : x.phase = .waiting)
  (hup : supervisorUp s = true)
include hx hop hphase hup

/-- What a call that may be served comes to. -/
theorem serviceCall_serves : exec (.serviceCall e) s = .next (
    let n := x.desc.key2
    if x.colour ≠ 0x1000 + cellTenant s n then finish e (Res.stop .keyEmpty 120) s
    else if (cell s n).st = .loading then s
    else if (cell s n).st = .fenced then finish e (Res.stop .fenced 0) s
    else if (cell s n).st = .empty then finish e (Res.stop .keyEmpty 0) s
    else if !(entryDefined (cell s n).loaded (x.desc.opcode % 256)) then finish e (Res.stop .unsupported 0) s
    else if (cell s n).st ≠ .ready ∨ earlierCall s x n ∨ callPaused s n then s
    else startCall e x n (wakeCore s)) := by
  show execServiceCall e s = _
  unfold execServiceCall
  rw [hx]
  dsimp only
  rw [if_neg (by simp [hop, hphase, hup])]

theorem serviceCall_otherColour (hcol : ¬ x.colour = 0x1000 + cellTenant s x.desc.key2) :
    ∃ t, exec (.serviceCall e) s = .next t ∧ EndedWith t e .keyEmpty 0 [] := by
  rw [serviceCall_serves hx hop hphase hup]
  dsimp only
  rw [if_pos hcol]
  exact ⟨_, rfl, finish_refused 120 hx (.inl rfl)⟩

variable (hcol : x.colour = 0x1000 + cellTenant s x.desc.key2)
include hcol

theorem serviceCall_loading (hst : (cell s x.desc.key2).st = .loading) : exec (.serviceCall e) s = .next s := by
  rw [serviceCall_serves hx hop hphase hup]
  dsimp only
  rw [if_neg (not_not_intro hcol), if_pos hst]

theorem serviceCall_fenced (hst : (cell s x.desc.key2).st = .fenced) :
    ∃ t, exec (.serviceCall e) s = .next t ∧ EndedWith t e .fenced 0 [] := by
  rw [serviceCall_serves hx hop hphase hup]
  dsimp only
  rw [if_neg (not_not_intro hcol), hst, if_neg (by decide), if_pos rfl]
  exact ⟨_, rfl, finish_refused 0 hx (.inr (.inl rfl))⟩

theorem serviceCall_empty (hst : (cell s x.desc.key2).st = .empty) :
    ∃ t, exec (.serviceCall e) s = .next t ∧ EndedWith t e .keyEmpty 0 [] := by
  rw [serviceCall_serves hx hop hphase hup]
  dsimp only
  rw [if_neg (not_not_intro hcol), hst, if_neg (by decide), if_neg (by decide), if_pos rfl]
  exact ⟨_, rfl, finish_refused 0 hx (.inl rfl)⟩

theorem serviceCall_noEntry (hst : (cell s x.desc.key2).st = .ready)
    (hentry : entryDefined (cell s x.desc.key2).loaded (x.desc.opcode % 256) = false) :
    ∃ t, exec (.serviceCall e) s = .next t ∧ EndedWith t e .unsupported 0 [] := by
  rw [serviceCall_serves hx hop hphase hup]
  dsimp only
  rw [if_neg (not_not_intro hcol), hst, if_neg (by decide), if_neg (by decide), if_neg (by decide), hentry, if_pos Bool.not_false]
  exact ⟨_, rfl, finish_refused 0 hx (.inr (.inr rfl))⟩

theorem serviceCall_starts (hst : (cell s x.desc.key2).st = .ready)
    (hentry : entryDefined (cell s x.desc.key2).loaded (x.desc.opcode % 256) = true) (hfirst : earlierCall s x x.desc.key2 = false)
    (hrun : callPaused s x.desc.key2 = false) : exec (.serviceCall e) s = .next (startCall e x x.desc.key2 (wakeCore s)) := by
  rw [serviceCall_serves hx hop hphase hup]
  dsimp only
  rw [if_neg (not_not_intro hcol), hst, if_neg (by decide), if_neg (by decide), if_neg (by decide), hentry, if_neg (by decide),
    if_neg (by simp [hfirst, hrun])]
end

/-- A cell that is RUNNING with a call stays so while the core goes to the next one. -/
theorem nextCell_runs {n e : Nat} {c : Cell} (s : State) (hst : c.st = .running) (hcall : c.call = some e) :
    let t := setCell n c s
    let u := nextCell { t with tsuow := { t.tsuow with readyQ := t.tsuow.readyQ ++ [n] } }
    (cell u n).st = .running ∧ (cell u n).call = some e := by
  have hput := hasCell_setCell n (c := c) s (by rw [hst]; decide)
  dsimp only
  generalize setCell n c s = t at hput ⊢
  have hkept := nextCell_keeps (s := { t with tsuow := { t.tsuow with readyQ := t.tsuow.readyQ ++ [n] } }) (hput.congr rfl)
    (by rw [hst]; decide)
  rw [hst, hcall] at hkept
  exact hkept

/-- The cell of a call that starts is RUNNING with it. -/
theorem startCall_runs (e : Nat) (x : Entry) (n : Nat) (s : State) :
    (cell (startCall e x n s) n).st = .running ∧ (cell (startCall e x n s) n).call = some e := by
  unfold startCall
  exact nextCell_runs _ rfl rfl

/-! ### SVC (R499–R501) -/

/-- The SVC exception is taken; of a cell's program it is then served. -/
theorem svcRow_executes {s : State} (f : Nat → State → State) (h : Executes s) : svcRow f s =
    (let c := { (atInstr s).tsuow.core with pc := (atInstr s).tsuow.core.pc + 4 }
     let t := takeExc xSVC c.pc 0 (setCore c (atInstr s))
     match modeUM c, (atInstr s).tsuow.current with
     | true, some n => f n t
     | _, _ => t) := by
  unfold svcRow
  exact coreRow_executes _ h

theorem svcRow_user {s : State} {n : Nat} (f : Nat → State → State) (h : Executes s)
    (hum : modeUM { (atInstr s).tsuow.core with pc := (atInstr s).tsuow.core.pc + 4 } = true) (hcur : s.tsuow.current = some n) :
    svcRow f s = f n (takeExc xSVC ((atInstr s).tsuow.core.pc + 4) 0
      (setCore { (atInstr s).tsuow.core with pc := (atInstr s).tsuow.core.pc + 4 } (atInstr s))) := by
  rw [svcRow_executes f h]
  dsimp only
  rw [hum, atInstr_current, hcur]

theorem svcRow_supervisor {s : State} (f : Nat → State → State) (h : Executes s)
    (hum : modeUM { (atInstr s).tsuow.core with pc := (atInstr s).tsuow.core.pc + 4 } = false) :
    svcRow f s = takeExc xSVC ((atInstr s).tsuow.core.pc + 4) 0
      (setCore { (atInstr s).tsuow.core with pc := (atInstr s).tsuow.core.pc + 4 } (atInstr s)) := by
  rw [svcRow_executes f h]
  dsimp only
  rw [hum]

/-- EXIT names no status at which output stays but OK. -/
theorem exitStatus_ne_earlyRead {v : Nat} {st : Status} (h : exitStatus v = some st) : st ≠ .earlyRead := by
  unfold exitStatus at h
  split at h
  · cases h
    decide
  · cases h
    decide
  · cases h
    decide
  · cases h

/-- EXIT ends the call with its status and output. -/
theorem svcExit_ends {n e : Nat} {x : Entry} {st : Status} {s : State} (hcall : (cell s n).call = some e) (hx : entry? s e = some x)
    (hlen : (s.tsuow.core.reg 2).toNat ≤ x.desc.outLen) (hst : exitStatus (s.tsuow.core.reg 1).toNat = some st) :
    EndedWith (svcExit n s) e st 0
      (if st = .ok then readPages s ((x.pages.drop x.inPages).take x.outPages) (s.tsuow.core.reg 2).toNat else []) := by
  unfold svcExit
  dsimp only
  rw [hcall]
  dsimp only
  rw [hx]
  dsimp only
  rw [if_neg (Nat.not_lt.mpr hlen), hst]
  dsimp only
  generalize readPages s _ _ = out
  have hends := endJob_ends st 0 out [at_ Obj.SVC_CELL_CALLS n]
    (setEntry_same e { x with cycles := callCycles s n } (dropSubjob n s))
  have hout : (if st = .ok ∨ st = .earlyRead then out else []) = if st = .ok then out else [] := by
    simp only [exitStatus_ne_earlyRead hst, or_false]
  rw [hout] at hends
  exact hends.congr ((leaveCell_entry n e _).trans (cellAfter_keep_entry n e _))

theorem svcSubmit_second {n e k : Nat} {x : Entry} {s : State} (hcall : (cell s n).call = some e) (hx : entry? s e = some x)
    (hsub : (cell s n).subjob = some k) : svcSubmit n s = svcReturn 0x61 s := by
  unfold svcSubmit
  rw [hcall, Option.bind_some, hx, hsub]
  rfl

theorem svcWait_result {n : Nat} {r : Nat × Nat × Nat} {s : State} (hr : (cell s n).subResult = some r) : svcWait n s =
    setCore (s.tsuow.core.subAnswer r).eret (setCell n { cell s n with subResult := none } s) := by
  unfold svcWait
  dsimp only
  rw [hr]

theorem svcWait_waits {n k : Nat} {s : State} (hr : (cell s n).subResult = none) (hsub : (cell s n).subjob = some k) :
    svcWait n s = nextCell (switchOut n true s) := by
  unfold svcWait
  dsimp only
  rw [hr, hsub]
  rfl

theorem svcWait_nothing {n : Nat} {s : State} (hr : (cell s n).subResult = none) (hsub : (cell s n).subjob = none) :
    svcWait n s = svcReturn 0x61 s := by
  unfold svcWait
  dsimp only
  rw [hr, hsub]
  rfl

/-- A sub-job that has ended answers its cell (R500). -/
theorem subjobComplete_answers {n e k : Nat} {x y : Entry} {s : State} (hsub : (cell s n).subjob = some k)
    (hcall : (cell s n).call = some e) (hx : entry? s e = some x) (hy : entry? s k = some y) (hphase : y.phase = .ended)
    (hup : supervisorUp s = true) :
    let c := cell s n
    let r := (statusCode y.status, y.detail, y.output.length)
    let s1 := y.late.foldl (fun t o => bump o t) (areaWrite x.pages y.desc.outAddr y.output (dropEntry k (wakeCore s)))
    let s2 := setCell n { c with
      subjob := none, subResult := none, waiting := false, saved := c.saved.map (fun q => q.subAnswer r) } s1
    exec (.subjobComplete n) s = .next (if c.waiting then nextCell { s2 with tsuow := { s2.tsuow with readyQ := s2.tsuow.readyQ ++ [n] } }
      else setCell n { c with subjob := none, subResult := some r } s1) := by
  dsimp only
  show execSubjobComplete n s = _
  unfold execSubjobComplete
  dsimp only
  rw [hsub, hcall, Option.bind_some, hx]
  dsimp only
  rw [hy]
  dsimp only
  rw [if_neg (by simp [hphase, hup])]

/-- The quantum's end gives the core to the next cell (R501). -/
theorem quantumExpiry_switches {n : Nat} {s : State} (hcur : s.tsuow.current = some n) (hup : supervisorUp s = true) :
    exec .svcQuantumExpiry s = .next (nextCell (switchOut n false
      (setCore (if modeUM s.tsuow.core then s.tsuow.core.repeatEnd else s.tsuow.core)
        { s with now := max s.now (cell s n).quantumEnd }))) := by
  show execSvcQuantumExpiry s = _
  unfold execSvcQuantumExpiry
  rw [hcur]
  dsimp only
  rw [if_pos hup]
  rfl

/-! ### Restarts of the core pair (R490, R491, R644) -/

theorem lockstepMismatch_restarts {s : State} (hphase : s.upd.phase ≠ 0) (hrun : s.tsuow.restarting = false) :
    exec .lockstepMismatch s = .next (tamperEvent 18 .none_ 0 (warmRestart s)) := by
  show execLockstepMismatch s = _
  unfold execLockstepMismatch
  rw [if_neg (by simp [hphase, hrun])]

theorem wdogBite_restarts {s : State} (hphase : s.upd.phase ≠ 0) (hrun : s.tsuow.restarting = false) : exec .tsuowWdogBite s =
    .next (warmRestart { s with now := max s.now (s.tsuow.wdogAt + ms (objVal s Obj.ERR_TSUOW_WDOG)) }) := by
  show execTsuowWdogBite s = _
  unfold execTsuowWdogBite
  rw [if_neg (by simp [hphase, hrun])]
  rfl

theorem memoryEccError_corrected {m : Nat} {r : UnitRef} {s : State} (hlo : 1 ≤ m) (hhi : m ≤ 5) :
    exec (.memoryEccError m false r) s = .next (bump (Obj.ERR_ECC_CORR + (m - 1)) s) := by
  show execMemoryEccError m false r s = _
  unfold execMemoryEccError
  rw [if_neg (by omega), if_pos Bool.not_false]

theorem memoryEccError_event {m : Nat} {r : UnitRef} {s : State} (hlo : 1 ≤ m) (hhi : m ≤ 3) :
    exec (.memoryEccError m true r) s = .next (tamperEvent 19 r (unitNumber r) (bump (Obj.ERR_ECC_UNCORR + (m - 1)) s)) := by
  show execMemoryEccError m true r s = _
  unfold execMemoryEccError
  rw [if_neg (by omega), if_neg (by decide)]
  dsimp only
  rw [if_pos hhi]

theorem memoryEccError_restarts {m : Nat} {r : UnitRef} {s : State} (hm : m = 4 ∨ m = 5) (hphase : s.upd.phase ≠ 0)
    (hrun : s.tsuow.restarting = false) : exec (.memoryEccError m true r) s =
      .next (tamperEvent 19 .none_ 0 (warmRestart (bump (Obj.ERR_ECC_UNCORR + (m - 1)) s))) := by
  have hstill : ¬ ((bump (Obj.ERR_ECC_UNCORR + (m - 1)) s).upd.phase = 0 ∨
      (bump (Obj.ERR_ECC_UNCORR + (m - 1)) s).tsuow.restarting = true) := by
    rw [bump_upd, bump_tsuow]
    simp [hphase, hrun]
  show execMemoryEccError m true r s = _
  unfold execMemoryEccError
  rw [if_neg (by omega), if_neg (by decide)]
  dsimp only
  rw [if_neg (by omega), if_neg hstill]

theorem warmRestart_stops (s : State) : (warmRestart s).tsuow.core.stopped = true ∧ (warmRestart s).tsuow.current = none ∧
    (warmRestart s).tsuow.restarting = true := by
  unfold warmRestart
  dsimp only
  generalize endCalls .faultDetected .reinit s = s1
  split
  · exact ⟨rfl, rfl, rfl⟩
  · rw [bump_tsuow]
    exact ⟨rfl, rfl, rfl⟩

/-- The supervisor firmware is back within 5 ms (R490). -/
theorem warmRestartComplete_within {a : Time} {s : State} (hrun : s.tsuow.restarting = true) (hlast : s.tsuow.restarts.getLast? = some a) :
    ∃ t, exec .warmRestartComplete s = .next t ∧ t.tsuow.restarting = false ∧ t.tsuow.core = Core.reset ∧
      t.now ≤ max s.now (a + ms 5) := by
  have hbound : Config.freeNat s.free % (ms 5 + 1) ≤ ms 5 := Nat.le_of_lt_succ (Nat.mod_lt _ (Nat.succ_pos _))
  show ∃ t, execWarmRestartComplete s = _ ∧ _
  unfold execWarmRestartComplete
  rw [if_pos hrun, hlast]
  dsimp only [Option.getD_some]
  generalize ms 5 = five at hbound ⊢
  refine ⟨_, rfl, rfl, rfl, ?_⟩
  show max s.now (a + Config.freeNat s.free % (five + 1)) ≤ max s.now (a + five)
  exact Nat.max_le.mpr ⟨Nat.le_max_left _ _, (Nat.add_le_add_left hbound a).trans (Nat.le_max_right _ _)⟩

end Sys2Proof.Machine

open Sys2Proof Sys2Proof.Machine

/-- Settles O52, by what each cell operation makes of the cell and the call, and what a restart leaves of the core. -/
theorem serviceCells : Obligations.ServiceCells := by
  unfold Obligations.ServiceCells
  refine ⟨?_, ?_, ?_, ?_, ?_, ?_, ?_, ?_, ?_, ?_, ?_, ?_, ?_, ?_, ?_⟩
  · exact fun c n data s hn h => congrArg Host.Outcome.next ((if_pos hn).trans (writeAccess_of_plainDeciding h rfl rfl))
  · intro n b s hrise
    refine ⟨fun hbad => ?_, fun key hcheck hunit => runLoad_verifies hrise hcheck hunit⟩
    rw [runLoad_badFormat hbad]
    exact setObj_same _ 3 s hrise
  · intro n st b prior s hrise hload
    exact ⟨endLoad_refused hrise hload, endLoad_placed hrise hload⟩
  · exact fun e x n s hx horigin hphase hheld => jobComplete_load hx horigin hphase hheld
  · exact fun c n data s hn h => congrArg Host.Outcome.next ((if_pos hn).trans (writeAccess_of_plainDeciding h rfl rfl))
  · intro e x s hx hop hphase hup
    refine ⟨serviceCall_otherColour hx hop hphase hup, serviceCall_loading hx hop hphase hup, serviceCall_fenced hx hop hphase hup,
      serviceCall_empty hx hop hphase hup, serviceCall_noEntry hx hop hphase hup, fun hcol hst hentry hfirst hrun => ?_⟩
    exact ⟨_, serviceCall_starts hx hop hphase hup hcol hst hentry hfirst hrun, startCall_runs ..⟩
  · intro s hexec
    refine ⟨fun n hum hcur => ?_, fun hum i hi => ?_⟩
    · exact ⟨congrArg Host.Outcome.next (svcRow_user _ hexec hum hcur), congrArg Host.Outcome.next (svcRow_user _ hexec hum hcur),
        congrArg Host.Outcome.next (svcRow_user _ hexec hum hcur), congrArg Host.Outcome.next (svcRow_user _ hexec hum hcur)⟩
    · simp only [List.mem_cons, List.not_mem_nil, or_false] at hi
      rcases hi with rfl | rfl | rfl | rfl <;> exact congrArg Host.Outcome.next (svcRow_supervisor _ hexec hum)
  · exact fun n e x st s hcall hx hlen hst => svcExit_ends hcall hx hlen hst
  · intro n e s hcall
    refine ⟨fun x hx hsub => ?_, fun r hr => svcWait_result hr, fun hr hsub => ?_, fun hr hsub => svcWait_nothing hr hsub⟩
    · obtain ⟨k, hk⟩ := Option.ne_none_iff_exists'.mp hsub
      exact svcSubmit_second hcall hx hk
    · obtain ⟨k, hk⟩ := Option.ne_none_iff_exists'.mp hsub
      exact svcWait_waits hr hk
  · intro n e k x y s hsub hcall hx hy hphase hup
    have hanswer := subjobComplete_answers hsub hcall hx hy hphase hup
    dsimp only at hanswer ⊢
    refine ⟨fun hw => ?_, fun hw => ?_⟩
    · rw [hanswer, hw, if_neg Bool.false_ne_true]
    · rw [hanswer, hw, if_pos rfl]
  · exact fun n s hcur hup => quantumExpiry_switches hcur hup
  · exact fun s hphase hrun => ⟨lockstepMismatch_restarts hphase hrun, wdogBite_restarts hphase hrun,
      fun m r hm => memoryEccError_restarts hm hphase hrun⟩
  · exact fun m r s hlo hhi => ⟨memoryEccError_corrected hlo hhi, fun h3 => memoryEccError_event hlo h3⟩
  · exact warmRestart_stops
  · exact fun a s hrun hlast => warmRestartComplete_within hrun hlast
end
